-- ==== Sys2Proof/Word.lean ====
section
/-! DEFINITION. The word types of the Mykin MK1 model (R7: little-endian throughout, R80: 64-byte lines). -/

namespace Sys2Proof

/-- One byte. -/
abbrev Byte := BitVec 8
/-- A 32-bit word: FP32 elements, INT32 elements, register halves. -/
abbrev Word := BitVec 32
/-- A 64-bit register or counter. -/
abbrev DWord := BitVec 64
/-- One 64-byte line or the DATA of one beat, byte 0 in bits [7:0] (Table 5.1). -/
abbrev LineData := BitVec 512
/-- A write mask of one line, bit i for byte i (R80). -/
abbrev LineMask := BitVec 64

end Sys2Proof
end

