-- ==== Sys2Proof/Machine/Bits.lean ====
section
/-! DEFINITION. Bit fields of little-endian numbers, modular comparison of sequence numbers, saturating counts,
parity and the CRC-32 of Table 4.2. -/

namespace Sys2Proof.Machine

/-- Bits [lo + w - 1 : lo] of the number whose byte 0 is least significant (R7). -/
def bits (x lo w : Nat) : Nat := (x >>> lo) % 2 ^ w

/-- One bit. -/
def bit1 (x i : Nat) : Bool := (x >>> i) % 2 == 1

/-- A Boolean as a bit. -/
def flag (b : Bool) : Nat := if b then 1 else 0

/-- Bits [w-1:0] placed at bit `lo`: the packing half of `bits`. -/
def put (v lo w : Nat) : Nat := (v % 2 ^ w) <<< lo

/-- The number with every bit of [lo + w - 1 : lo] set. -/
def fieldMask (lo w : Nat) : Nat := (2 ^ w - 1) <<< lo

/-- The union of the named fields of a layout, as a mask. -/
def layoutMask : List (Nat × Nat) → Nat
  | [] => 0
  | (lo, w) :: t => fieldMask lo w ||| layoutMask t

/-- Every bit outside the named fields is zero (R8, R354). -/
def reservedClear (x : Nat) (fields : List (Nat × Nat)) : Bool :=
  (x ||| layoutMask fields) == layoutMask fields

/-- `a` precedes `b` modularly in 32 bits (R318). -/
def precedes32 (a b : BitVec 32) : Bool := 1 ≤ (b - a).toNat && (b - a).toNat < 2 ^ 31

/-- `b` is newer than `a` in serial comparison modulo 2^16 (R464). -/
def newer16 (a b : BitVec 16) : Bool := 1 ≤ (b - a).toNat && (b - a).toNat < 2 ^ 15

/-- A saturating increment (S counters of Table 18.8). -/
def satInc {w : Nat} (x : BitVec w) : BitVec w := if x = BitVec.allOnes w then x else x + 1

/-- A saturating addition. -/
def satAdd {w : Nat} (x : BitVec w) (n : Nat) : BitVec w :=
  if x.toNat + n < 2 ^ w then BitVec.ofNat w (x.toNat + n) else BitVec.allOnes w

/-- The number of ones among the low `n` bits. -/
def popcount (x : Nat) : Nat → Nat
  | 0 => 0
  | n + 1 => popcount (x / 2) n + x % 2

/-- Even parity of the low `n` bits: the bit that makes the number of ones even. -/
def evenParity (x n : Nat) : Bool := popcount x n % 2 == 1

/-- A function applied to a number that is evaluated first: the value is f n. -/
def strictly {α : Type} (n : Nat) (f : Nat → α) : α := match n with
  | 0 => f 0
  | k + 1 => f (k + 1)

/-- One step of the reflected CRC-32 with the IEEE 802.3 polynomial. -/
def crcBit (c : Nat) : Nat := if c % 2 = 1 then (c / 2) ^^^ 0xEDB88320 else c / 2

/-- n CRC steps. -/
def crcBits : Nat → Nat → Nat
  | 0, c => c
  | n + 1, c => strictly (crcBit c) (crcBits n)

/-- The CRC register after `n` bytes of the little-endian number `x`. -/
def crcFrom : Nat → Nat → Nat → Nat
  | 0, c, _ => c
  | n + 1, c, x => strictly (crcBits 8 (c ^^^ (x % 256))) fun d => strictly (x / 256) (crcFrom n d)

/-- CRC-32 of `n` bytes: reflected, initial value and final XOR 0xFFFF_FFFF (Table 4.2). -/
def crc32 (x n : Nat) : BitVec 32 := BitVec.ofNat 32 (crcFrom n 0xFFFFFFFF x ^^^ 0xFFFFFFFF)

/-- One bit of CRC-16/CCITT, most significant bit first (R232). -/
def crc16Bit (c : BitVec 16) (b : Bool) : BitVec 16 :=
  if c.getLsbD 15 != b then (c <<< 1) ^^^ 0x1021#16 else c <<< 1

/-- Ceiling division. -/
def cdiv (a b : Nat) : Nat := (a + b - 1) / b

/-- The numbers from `a` on, `n` of them. -/
def rangeFrom (a : Nat) : Nat → List Nat
  | 0 => []
  | n + 1 => a :: rangeFrom (a + 1) n

end Sys2Proof.Machine
end

