-- ==== Sys2Proof/Machine/Float.lean ====
section
/-! DEFINITION. The device's arithmetic: IEEE binary32 addition and multiplication with round-to-nearest-even and
canonical NaNs (R187, R508), bfloat16 rounding (R188), integer addition, and MXFP8 conversion (R510). -/

namespace Sys2Proof.Machine

/-- The canonical quiet NaN (R187). -/
def fpNaN : BitVec 32 := 0x7FC00000#32
/-- Positive infinity. -/
def fpInf : BitVec 32 := 0x7F800000#32
/-- The sign bit. -/
def fpSign (x : BitVec 32) : Bool := x.getLsbD 31
/-- The bits below the sign. -/
def fpMag (x : BitVec 32) : Nat := x.toNat % 2 ^ 31
/-- Not a number. -/
def fpIsNaN (x : BitVec 32) : Bool := decide (fpMag x > 0x7F800000)
/-- An infinity. -/
def fpIsInf (x : BitVec 32) : Bool := fpMag x == 0x7F800000
/-- Neither infinite nor NaN. -/
def fpFinite (x : BitVec 32) : Bool := decide (fpMag x < 0x7F800000)

/-- The magnitude of a finite value in units of 2^-149. -/
def fpUnits (x : BitVec 32) : Nat :=
  let e := fpMag x / 2 ^ 23
  let f := fpMag x % 2 ^ 23
  if e = 0 then f else (2 ^ 23 + f) * 2 ^ (e - 1)

/-- The signed value of a finite number in units of 2^-149. -/
def fpValue (x : BitVec 32) : Int := if fpSign x then -(fpUnits x : Int) else (fpUnits x : Int)

/-- m / 2^s rounded to nearest, ties to even. -/
def roundShift (m s : Nat) : Nat :=
  if s = 0 then m
  else
    let q := m / 2 ^ s
    let r := m % 2 ^ s
    let half := 2 ^ (s - 1)
    if r > half ∨ (r = half ∧ q % 2 = 1) then q + 1 else q

/-- The binary32 pattern of the magnitude m × 2^(-149 - s), rounded to nearest even; overflow gives infinity. The
kept bits are those above max(s, log2 m - 23). -/
def fpRoundMag (m s : Nat) : Nat :=
  let q := max s (Nat.log2 m - 23)
  let r := roundShift m q
  let b := r + (q - s) * 2 ^ 23
  if b ≥ 0x7F800000 then 0x7F800000 else b

/-- A sign and a magnitude pattern. -/
def fpPack (neg : Bool) (mag : Nat) : BitVec 32 := BitVec.ofNat 32 (mag + if neg then 2 ^ 31 else 0)

/-- Binary32 addition (R187). -/
def fpAdd (a b : BitVec 32) : BitVec 32 :=
  if fpIsNaN a || fpIsNaN b then fpNaN
  else if fpIsInf a then (if fpIsInf b && (fpSign a != fpSign b) then fpNaN else a)
  else if fpIsInf b then b
  else
    let v := fpValue a + fpValue b
    if v = 0 then (if fpSign a && fpSign b then 0x80000000#32 else 0#32)
    else fpPack (decide (v < 0)) (fpRoundMag v.natAbs 0)

/-- Binary32 multiplication (R508). -/
def fpMul (a b : BitVec 32) : BitVec 32 :=
  let neg := fpSign a != fpSign b
  if fpIsNaN a || fpIsNaN b then fpNaN
  else if fpIsInf a || fpIsInf b then
    (if fpMag a = 0 ∨ fpMag b = 0 then fpNaN else fpPack neg 0x7F800000)
  else fpPack neg (fpRoundMag (fpUnits a * fpUnits b) 149)

/-- Flip the sign; NaN stays canonical (R508). -/
def fpNeg (x : BitVec 32) : BitVec 32 := if fpIsNaN x then fpNaN else x ^^^ 0x80000000#32

/-- Clear the sign. -/
def fpAbs (x : BitVec 32) : BitVec 32 := x &&& 0x7FFFFFFF#32

/-- A bfloat16 widened exactly (R188). -/
def bf16Widen (h : BitVec 16) : BitVec 32 := (h.zeroExtend 32) <<< 16

/-- Round to bfloat16, nearest even (R188). -/
def bf16Rne (x : BitVec 32) : BitVec 16 :=
  if fpIsNaN x then 0x7FC0#16
  else ((x + 0x7FFF#32 + ((x >>> 16) &&& 1#32)) >>> 16).truncate 16

/-- Round to bfloat16 stochastically with 8 random bits (R188). -/
def bf16Sr (x : BitVec 32) (r : BitVec 8) : BitVec 16 :=
  if fpIsNaN x then 0x7FC0#16
  else if fpIsInf x then (x >>> 16).truncate 16
  else ((x + ((r.zeroExtend 32) <<< 8)) >>> 16).truncate 16

/-- Element i of width w of a line. -/
def lineElem {n : Nat} (w : Nat) (d : BitVec n) (i : Nat) : BitVec w := BitVec.ofNat w (d.toNat >>> (w * i))

/-- A line from its first n elements of width w. -/
def packElems (w : Nat) (f : Nat → BitVec w) : Nat → Nat
  | 0 => 0
  | n + 1 => packElems w f n + (f n).toNat * 2 ^ (w * n)

/-- A 512-bit line from elements. -/
def lineOf (w n : Nat) (f : Nat → BitVec w) : BitVec 512 := BitVec.ofNat 512 (packElems w f n)

/-- floor(log2 m) of a magnitude in units of 2^-149, minus 149. -/
def fpExponent (x : BitVec 32) : Int := (Nat.log2 (fpUnits x) : Int) - 149

/-- The E4M3 magnitude of m × 2^(-149 - e), rounded once, saturating at 448 (R510 step 4): a normal pattern with
exponent field k stands for (8 + f) × 2^(k - 10), a subnormal one for f × 2^-9. -/
def e4m3Mag (m : Nat) (e : Int) : Nat :=
  let l : Int := (Nat.log2 m : Int) - 149 - e
  let q : Int := max (l - 3) (-9)
  let sh : Int := q + 149 + e
  let r := if sh ≥ 0 then roundShift m sh.toNat else m * 2 ^ (-sh).toNat
  let b := r + (q + 9).toNat * 8
  if m = 0 then 0 else if b > 0x7E then 0x7E else b

/-- The scale exponent of an MXFP8 block (R510 step 3). -/
def mxExponent (amax : BitVec 32) : Int := max (-127) (min 127 (fpExponent amax - 8))

/-- The largest magnitude among n values. -/
def fpMaxMag (f : Nat → BitVec 32) : Nat → BitVec 32
  | 0 => 0#32
  | n + 1 => if fpMag (f n) > (fpMaxMag f n).toNat then fpAbs (f n) else fpMaxMag f n

/-- The MXFP8 working copy of 32 values: elements in bytes 0 to 31, scale in byte 32, zeros above (R510). -/
def mxfp8Line (f : Nat → BitVec 32) : BitVec 512 :=
  if (rangeFrom 0 32).any (fun i => !(fpFinite (f i))) then
    BitVec.ofNat 512 (packElems 8 (fun i => if i < 32 then 0x7F#8 else 0xFF#8) 33)
  else
    let amax := fpMaxMag f 32
    if fpMag amax = 0 then 0#512
    else
      let e := mxExponent amax
      BitVec.ofNat 512 (packElems 8 (fun i =>
        if i < 32 then BitVec.ofNat 8 (e4m3Mag (fpUnits (f i)) e + if fpSign (f i) then 128 else 0)
        else BitVec.ofNat 8 (e + 127).toNat) 33)

end Sys2Proof.Machine
end

