-- ==== Sys2Proof/Config.lean ====
section
/-! DEFINITION. What the spec leaves open: opaque constants without a body. Nothing in Lean can evaluate
them, so a statement that holds of the model holds for every value of them. Each is named in the assumption log. -/

namespace Sys2Proof.Config

/-- A fresh value at each use, indexed by State.free: the content of a value the manual leaves undefined. -/
opaque freeWord : Nat → BitVec 64
/-- The commit delay, in ticks, that a slice chooses for a control-port access; used modulo its bound (R150). -/
opaque commitDelay : Nat → Nat
/-- The verdict of ECDSA P-384 over SHA-384 (external standard): key number, signed bytes (as a number) and
their length, r and s (R124, R367). -/
opaque ecdsaVerify : (key : Nat) → (msg len r s : Nat) → Bool
/-- SHA-384 of a byte string given as a little-endian number and a length (external standard; R372 to R376). -/
opaque sha384 : (msg len : Nat) → BitVec 384
/-- An SPDM response (external standard; R373): from the request with its context, and the measurements. -/
opaque spdmAnswer : (request : List Nat) → (measurements : List (Nat × Nat)) → Nat

/-- SHA-384 digest of the boot ROM (Table 11.8, index 1). -/
opaque bootRomDigest : BitVec 384

/-- SHA-384 digest of a measured list, in the layout of SPDM's measurement blocks (R374). -/
opaque measure : List Nat → BitVec 384
/-- A response to an MCTP control message (external standard; R362): from the command and the endpoint ID. -/
opaque mctpAnswer : (cmd eid : Nat) → Nat
/-- Initial value of the CRC-16/CCITT of a tile sensor frame (R232 names the polynomial alone). -/
opaque crc16Init : BitVec 16
/-- The fused part identity: hash of the Atunon keys and the VDDM level are properties of one part. -/
opaque fusedKeyHash : BitVec 384
/-- The response layout of the query commands whose parameters the manual names without bit positions. -/
opaque queryLayout : (opcode : Nat) → (content : List Nat) → Nat
/-- The length in bytes of such a response. -/
opaque queryLength : (opcode : Nat) → (content : List Nat) → Nat

/-- The post-package repair resources of a bank of a new stack: pseudo-channel, bank (external standard; R282). -/
opaque repairResources : (pc bank : Nat) → Nat

/-- q_cap: the rate at which the PM's own method keeps both power windows below their targets, from the cap, P_fix, A and the
measured powers in 0.1 W, 1 for a sense channel on its fused trim, and the budget of each tile in 0.1 W (R229, R533). -/
opaque capRate : (measured : List Nat) → (tileBudgets : List Nat) → Nat

end Sys2Proof.Config
end

