-- ==== Sys2Proof/Machine/Tab.lean ====
section
/-! DEFINITION. Sparse tables in one canonical form (keys strictly rising, no entry equal to what an unlisted
key reads as), and byte memory over them. Equal contents are equal lists. -/

namespace Sys2Proof.Machine

/-- A sparse table keyed by instance number. -/
abbrev Tab (α : Type) := List (Nat × α)

/-- The value of key `i`; an unlisted key reads as `d`. -/
def Tab.get {α : Type} (d : α) : Tab α → Nat → α
  | [], _ => d
  | (k, v) :: t, i => if k = i then v else Tab.get d t i

/-- Write key `i`; writing `d` removes the entry. -/
def Tab.set {α : Type} [DecidableEq α] (d : α) : Tab α → Nat → α → Tab α
  | [], i, v => if v = d then [] else [(i, v)]
  | (k, w) :: t, i, v =>
    if i < k then (if v = d then (k, w) :: t else (i, v) :: (k, w) :: t)
    else if i = k then (if v = d then t else (i, v) :: t)
    else (k, w) :: Tab.set d t i v

/-- Change key `i` by `f`. -/
def Tab.upd {α : Type} [DecidableEq α] (d : α) (m : Tab α) (i : Nat) (f : α → α) : Tab α :=
  Tab.set d m i (f (Tab.get d m i))

/-- Change every key of a list by `f`. -/
def Tab.updAll {α : Type} [DecidableEq α] (d : α) (m : Tab α) : List Nat → (Nat → α → α) → Tab α
  | [], _ => m
  | i :: t, f => Tab.updAll d (Tab.upd d m i (f i)) t f

/-- The canonical form above a lower bound of the keys. -/
def Tab.wfFrom {α : Type} [DecidableEq α] (d : α) : Nat → Tab α → Bool
  | _, [] => true
  | lo, (k, v) :: t => decide (lo ≤ k) && decide (v ≠ d) && Tab.wfFrom d (k + 1) t

/-- The canonical form. -/
def Tab.wf {α : Type} [DecidableEq α] (d : α) (m : Tab α) : Bool := Tab.wfFrom d 0 m

/-- Byte memory: an unlisted byte reads as zero. -/
abbrev Memory := List Host.Cell

/-- One byte. -/
def Memory.byte (m : Memory) (a : Nat) : Byte := Tab.get (0#8) m a

/-- Write one byte. -/
def Memory.put (m : Memory) (a : Nat) (b : Byte) : Memory := Tab.set (0#8) m a b

/-- The canonical form of a memory. -/
def Memory.wf (m : Memory) : Bool := Tab.wf (0#8) m

/-- `n` bytes from `a`, little-endian (R7). -/
def Memory.readN (m : Memory) (a : Nat) : Nat → Nat
  | 0 => 0
  | n + 1 => (Memory.byte m a).toNat + 256 * Memory.readN m (a + 1) n

/-- Write the low `n` bytes of `v` from `a`, those whose mask bit is 1. -/
def Memory.writeN (m : Memory) (a v mask : Nat) : Nat → Memory
  | 0 => m
  | n + 1 =>
    Memory.writeN (if mask % 2 = 1 then Memory.put m a (BitVec.ofNat 8 v) else m) (a + 1) (v / 256) (mask / 2) n

/-- The 64-byte line at byte address `a`. -/
def Memory.line (m : Memory) (a : Nat) : LineData := BitVec.ofNat 512 (Memory.readN m a 64)

/-- Write a 64-byte line under a byte mask (R80). -/
def Memory.setLine (m : Memory) (a : Nat) (d : LineData) (mask : LineMask) : Memory :=
  Memory.writeN m a d.toNat mask.toNat 64

end Sys2Proof.Machine
end

