-- ==== Sys2Proof/Machine/StClock.lean ====
section
/-! DEFINITION. State of the clocks, the package contacts and the start-up machinery (chapters 02, 17, 20). -/

namespace Sys2Proof.Machine

/-- An elastic buffer of a crossing (R50). -/
structure Elastic where
  /-- entries written and not yet read, as last observed at a command -/
  fill : Nat
  /-- link faults recorded: overflows and underflows despite flow control (R51) -/
  faults : Nat
  deriving DecidableEq, Repr

/-- An empty buffer without a fault. -/
def Elastic.reset : Elastic := ⟨0, 0⟩

/-- The clocks and the tick (R38 to R70). -/
structure Clk where
  /-- the core reference is valid (R38, R641) -/
  refValid : Bool
  /-- the root PLL is locked; without it no T, E or C clock runs (R38) -/
  pll : Bool
  /-- the tick is stopped by a reset, a trip or a clock loss (R566) -/
  stopped : Bool
  /-- the tick root withholds the tick at a superframe boundary (R58) -/
  held : Bool
  /-- the tick timestamp (R44) -/
  tick : BitVec 64
  /-- picoseconds that have passed; one reference period is 10,000 (the model's own clock of all wall times) -/
  wallPs : Nat
  /-- wall ps from which the reference-time counter counts: the reference became valid, or a cold reset (R46, R571) -/
  refStart : Nat
  /-- wall ps at which the reference-time counter stood still with its reference; none while it counts (R46, R652) -/
  refHalt : Option Nat
  /-- the throttle setting in force (Table 2.4) -/
  setting : BitVec 9
  /-- a written setting and the tick of its arrival (R53) -/
  pendSetting : Option (BitVec 9 × Nat)
  /-- ticks done in the present Crumb run (R55) -/
  crumb : Nat
  /-- the boundary decisions of the current frame have been taken (R60, R132) -/
  frameDone : Bool
  /-- correlation capture: timestamp and reference time (R46) -/
  capTick : BitVec 64
  capRef : BitVec 64
  /-- P-domain clock: 0 stopped, 1 reference, 2 PLL at 200 MHz, 3 fallback oscillator (R41, R652) -/
  pSource : Nat
  /-- the elastic buffers of Table 2.3 by the numbers of `elasticDepth` (R50) -/
  elastic : Tab Elastic
  deriving DecidableEq, Repr

/-- The package contacts (Tables 20.2, 20.6). -/
structure Pins where
  /-- standby input in range -/
  standby : Bool
  /-- main input in range -/
  main : Bool
  /-- HBM inputs in range, bit k for stack Hk -/
  hbmIn : BitVec 8
  /-- PERST# asserted (low) -/
  perst : Bool
  /-- PERST1# asserted -/
  perst1 : Bool
  /-- PWRBRK# asserted -/
  pwrbrk : Bool
  /-- ALERT# asserted (R646) -/
  alert : Bool
  /-- THERMTRIP# asserted (R647) -/
  thermtrip : Bool
  /-- DPERST#[k] high: drive k out of reset -/
  dperst : BitVec 8
  /-- DPRSNT#[k] low: drive k present -/
  dprsnt : BitVec 8
  /-- DREF output k enabled (R642) -/
  dref : BitVec 8
  /-- raw strap levels: P1ROLE, TEST, RECOV, SA0, SA1 in bits 0 to 4, in the order of DBG STRAPS -/
  strapsRaw : BitVec 5
  /-- straps as latched at the deassertion of PERST# (R557) -/
  straps : BitVec 5
  /-- dynamic I3C address, where the bus owner has assigned one (R648) -/
  i3cDyn : Option (BitVec 7)
  deriving DecidableEq, Repr

/-- The power manager's execution state (R353, R558, R652). -/
inductive PmState
  | off
  | bootRom
  | firmware
  | restarting
  | halted
  deriving DecidableEq, Repr

/-- The management processor's execution state (R352, R368, R380). -/
inductive MpState
  | off
  /-- the boot ROM runs -/
  | bootRom
  /-- the firmware of the active slot runs -/
  | running
  /-- an MP-only reset is in progress -/
  | restarting
  /-- recovery mode -/
  | recovery
  deriving DecidableEq, Repr

/-- Start-up and reset control (chapter 17). -/
structure Boot where
  /-- core regulators VDDP, VDDB, VDDE, VDDM, VDDA on, bits 0 to 4 (R558) -/
  regs : BitVec 5
  pm : PmState
  mp : MpState
  /-- a start sequence is in progress (R559) -/
  starting : Bool
  /-- a start sequence has begun since the standby supply came up: the next cold reset restarts the reference time (R46, R571) -/
  begun : Bool
  /-- the start in progress, or the last one, is cold -/
  cold : Bool
  /-- steps of Table 17.2 completed, bit k for step k -/
  steps : BitVec 10
  /-- step 9 complete (R561) -/
  ready : Bool
  /-- the next start is cold (R556, R565, R657) -/
  nextCold : Bool
  /-- the internal hold of MODULE_RESET, with its KIND (R567) -/
  hold : Option Nat
  /-- a thermal trip latched until R568 clears it -/
  tripped : Bool
  /-- a clock-loss fault latched until a cold reset -/
  clockLost : Bool
  /-- an input left its range: UNIT of INPUT_RANGE (Table 18.2) -/
  rangeLost : Option Nat
  /-- cold starts so far, 32 bits (Table 18.7 BOOT) -/
  coldStarts : BitVec 32
  /-- an orderly reset was recorded in the P-domain record (R598) -/
  orderly : Bool
  /-- link of port 0 and of port 1 up (Table 17.2 step 1, R645) -/
  linkUp0 : Bool
  linkUp1 : Bool
  /-- VF Enable of PF0 (R342, R390) -/
  vfEnable : Bool
  deriving DecidableEq, Repr

/-- The unpowered part: nothing in range, reset inputs read asserted through their pull-downs (Table 20.6). -/
def Clk.reset : Clk :=
  { refValid := false, pll := false, stopped := false, held := false, tick := 0, wallPs := 0, refStart := 0, refHalt := none, setting := 0
    pendSetting := none, crumb := 0, frameDone := false, capTick := 0, capRef := 0, pSource := 0, elastic := [] }

/-- Contacts of the unpowered part (R643). -/
def Pins.reset : Pins :=
  { standby := false, main := false, hbmIn := 0, perst := true, perst1 := true, pwrbrk := false, alert := false
    thermtrip := false, dperst := 0, dprsnt := 0, dref := 0, strapsRaw := 0, straps := 0, i3cDyn := none }

/-- Start-up control of the unpowered part. -/
def Boot.reset : Boot :=
  { regs := 0, pm := .off, mp := .off, starting := false, begun := false, cold := true, steps := 0, ready := false, nextCold := true
    hold := none, tripped := false, clockLost := false, rangeLost := none
    coldStarts := 0, orderly := true, linkUp0 := false, linkUp1 := false, vfEnable := false }

/-- PORT1_ROLE latched 1: pool role (Table 20.8). -/
def Pins.poolRole (p : Pins) : Bool := p.straps.getLsbD 0
/-- The TEST strap: stand-alone test boot (Table 17.1). -/
def Pins.testBoot (p : Pins) : Bool := p.straps.getLsbD 1
/-- The RECOVERY strap. -/
def Pins.recoveryStrap (p : Pins) : Bool := p.straps.getLsbD 2
/-- The I3C static address 0x58 + SA (Table 20.8). -/
def Pins.i3cStatic (p : Pins) : BitVec 7 := 0x58#7 + ((p.straps >>> 3).truncate 2).zeroExtend 7

/-- Picoseconds that the reference-time counter stands for: it counts reference periods, so it stands still without them. -/
def Clk.refPs (c : Clk) : Nat := c.refHalt.getD c.wallPs - c.refStart
/-- The reference-time counter: core-reference periods since the reference became valid (R46). -/
def Clk.refTime (c : Clk) : BitVec 64 := BitVec.ofNat 64 (c.refPs / 10000)

end Sys2Proof.Machine
end

