-- ==== Sys2Proof/Machine/StFw.lean ====
section
/-! DEFINITION. State of the management processor: flash slots and boot record, running packages, keys, vetting, MCI
requests in progress, subscriptions and SPDM contexts (chapter 11). -/

namespace Sys2Proof.Machine

/-- A tested-with entry (R366). -/
structure TestedWith where
  kind : Nat
  vendor : Nat
  ifLevel : Nat
  verMin : Nat
  verMax : Nat
  deriving DecidableEq, Repr

/-- A package that executes, or the package of a slot (Table 11.5), with the SHA-384 digest of the whole package. -/
structure Package where
  kind : Nat
  vendor : Nat
  version : Nat
  ifLevel : Nat
  svn : Nat
  payload : Nat
  key : Nat
  tested : List TestedWith
  /-- IF_RANGE: minimum and maximum for KIND 2, 3 and 4 (KIND 1 only) -/
  range : List (Nat × Nat)
  digest : BitVec 384
  deriving DecidableEq, Repr

/-- A firmware slot (Table 11.7): its bytes (an unlisted byte is erased, 0xFF) and the next offset of FW_WRITE. -/
structure FwSlot where
  state : Nat
  data : Tab Byte
  next : Nat
  deriving DecidableEq, Repr

/-- An EMPTY slot. -/
def FwSlot.reset : FwSlot := ⟨0, [], 0⟩

/-- What a copy of the boot record holds beside its CRC-32 (R365). -/
structure BootRecord where
  seq : BitVec 32
  active : Nat
  trial : Bool
  failed : Nat
  deriving DecidableEq, Repr

/-- The management processor's data. -/
structure Fw where
  slots : Tab FwSlot
  /-- boot record in force (R365), with `failedBoots` and `bootSeq` -/
  active : Nat
  trial : Bool
  /-- slot from which the running MP package comes -/
  mpSlot : Nat
  failedBoots : Nat
  bootSeq : BitVec 32
  /-- which of the two copies is in force, and the other copy; none: no valid CRC-32 (R365) -/
  recordCopy : Nat
  otherCopy : Option BootRecord
  /-- slot whose MP package and tile boot images are in use: an activation with WHEN = 0 changes it at the next warm or cold
  reset alone (R369) -/
  useSlot : Nat
  /-- packages that execute, in the order MP, PM, Lattice, KIND 4 by vendor (R375) -/
  running : List Package
  /-- the PM retains a payload whose CRC-32 checks (R353) -/
  pmRetained : Bool
  /-- owner image keys 1 to 8 (R372) -/
  imageKeys : Tab (Option Nat)
  /-- tile-vendor keys 1 to 8: vendor and key -/
  tileKeys : Tab (Option (Nat × Nat))
  /-- SVN minimums of KIND 1 to 3, and per tile-vendor key slot (R367) -/
  minSvn : Tab Nat
  tileSvn : Tab Nat
  allowUnsigned : Bool
  /-- vetting state (Table 11.9) and the acceptance record (R376) -/
  vet : Nat
  accept : Option (BitVec 384)
  /-- requests accepted and not yet answered: endpoint, opcode, tag (R356) -/
  outstanding : List (Nat × Nat × Nat)
  /-- NOTIFY subscriptions: medium, endpoint ID, classes as a bitmap (R364) -/
  subs : List (Nat × Nat × Nat)
  /-- endpoint ID of the MP on each medium (R362) -/
  eid : Tab Nat
  /-- SPDM context of each transport: 0 none, 1 version, 2 capabilities, 3 algorithms (R373) -/
  spdm : Tab Nat
  /-- the MP-only reset in progress: DETAIL plus 1 -/
  restart : Nat
  deriving DecidableEq, Repr

/-- A blank flash. -/
def Fw.reset : Fw :=
  { slots := [], active := 0, trial := false, mpSlot := 0, failedBoots := 0, bootSeq := 0, recordCopy := 0, otherCopy := none
    useSlot := 0, running := [], pmRetained := false
    imageKeys := [], tileKeys := [], minSvn := [], tileSvn := [], allowUnsigned := false, vet := 0, accept := none
    outstanding := [], subs := [], eid := [], spdm := [], restart := 0 }

end Sys2Proof.Machine
end

