-- ==== Sys2Proof/Syntax.lean ====
section
/-! DEFINITION. The commands of the block (the rows of the spec's event and command table) with their operands. -/

namespace Sys2Proof

/-- A scheduled event: the router, the index of its record among the router's events in the current frame pattern,
and the occurrence of the record (R121). -/
structure EvRef where
  router : Nat
  index : Nat
  occ : Nat
  deriving DecidableEq, Repr

/-- A beat as it arrives from outside (Table 5.1). -/
structure BeatIn where
  data : LineData
  par : BitVec 8
  poison : Bool
  valid : Bool
  deriving DecidableEq, Repr

/-- A FAULT or EVENT packet as a block sends it (R585). -/
structure PktIn where
  reason : Nat
  sev : Nat
  unit : Nat
  detail : Option Nat
  src : Nat
  sub : Nat
  deriving DecidableEq, Repr

/-- Bits of DATA and PAR that a link or a pipeline register inverts in the beat that leaves by an output port (R117, R145). -/
structure LinkNoise where
  port : Nat
  flips : BitVec 520
  deriving DecidableEq, Repr

/-- A buffer list entry as host memory holds it (Table 10.7). -/
structure BufIn where
  addr : Nat
  len : Nat
  rd : Bool
  wr : Bool
  ns : Bool
  rlx : Bool
  /-- reserved bits [127:100] -/
  rsvd : Nat
  deriving DecidableEq, Repr

/-- An MCI request as it reaches the MP: the endpoint that sent it, VER, the header's reserved bits, TAG, PLEN and
the parameters as a little-endian number (R354, Table 11.1). -/
structure MciReq where
  who : Nat
  ver : Nat
  hdrRsvd : Nat
  tag : Nat
  plen : Nat
  params : Nat
  deriving DecidableEq, Repr

/-- What the checker of one bond site receives: the bits of a checking window after the 15 bits before them, the first
bit lowest. Paths are 1 for phase 1 and for a NEAR loop, 2 and 3 for the loops of a DN site in phases 2 and 3, 4 and 5 for the
loops of a CTL or SVC site onto its first and second UP site in phase 4 (Table 8.5). Roles are 0 DN, 1 UP, 2 CTL, 3 SVC. -/
structure SiteObs where
  role : Nat
  site : Nat
  path : Nat
  window : Nat
  deriving DecidableEq, Repr

/-- What the checkers of a cell receive; a site that is not listed received its stream without an error. -/
structure CellTrain where
  /-- 32v + u in tile coordinates -/
  cell : Nat
  obs : List SiteObs
  /-- the calibration did not finish within its bound (Table 8.6) -/
  late : Bool
  deriving DecidableEq, Repr

/-- What the checker of one lane receives. -/
structure LaneObs where
  lane : Nat
  window : Nat
  deriving DecidableEq, Repr

/-- What the checkers of one direction of a stitch crossing receive (R251). -/
structure StitchTrain where
  column : Nat
  /-- 0 southward, 1 northward -/
  dir : Nat
  obs : List LaneObs
  late : Bool
  deriving DecidableEq, Repr

/-- What the checkers of one direction of a control-network stitch link receive: the node that sends and the direction in
which it sends (R251). -/
structure LinkTrain where
  node : Nat
  dir : Nat
  obs : List LaneObs
  late : Bool
  deriving DecidableEq, Repr

/-- A calibration of the PM at a start: a unit below 128 is a base-die temperature sensor with four samples of its thermal
reference, 100 µs apart, in 1/16 °C; unit 128 + c is current-sense channel c, with its output stage disabled or not, its output
voltage in mV, and its offset and fused trim in 1/1000 of full scale. Neither finishes when `late` (R255). -/
structure CalIn where
  unit : Nat
  samples : List Int
  disabled : Bool
  mv : Nat
  offset : Int
  trim : Int
  late : Bool
  deriving DecidableEq, Repr

/-- What HBM3E's training and lane repair give for one channel: its failed lanes in the HBM3E repair numbering, and whether
repair resources were left for them (R252). -/
structure ChannelTrain where
  channel : Nat
  lanes : List Nat
  repaired : Bool
  deriving DecidableEq, Repr

/-- Header of a received flit (Table 14.5), with the port at which it arrived. -/
structure FlitHdr where
  port : Nat
  vc : Nat
  seq : BitVec 16
  ack : BitVec 16
  ackv : Bool
  cvc : Nat
  crd : Nat
  src : Nat
  dst : Nat
  hops : Nat
  xt : Nat
  /-- symbols that the forward error correction corrected in the flit's codewords (R455, R492) -/
  corrected : Nat
  deriving DecidableEq, Repr

/-- A line with its poison. -/
structure LineIn where
  data : LineData
  poison : Bool
  deriving DecidableEq, Repr

/-- The unscheduled header with its lines, or its pool command (R463). -/
structure UnschIn where
  tag : Nat
  region : Nat
  off : Nat
  status : Nat
  lines : List LineIn
  nl : Nat
  cmd : Nat
  deriving DecidableEq, Repr

/-- What the PM's sense channels and estimates give at a control period: power in 0.1 W over 10 µs, 1 ms and 5 ms, the
prediction P_MIN, P_fix and A in 0.1 W, energy in mJ since the last period, and whether the last 1 ms and the next
100 µs exceed the emergency bound (R525, R532 to R534, Table 16.6). -/
structure PowerIn where
  p10us : Nat
  p1ms : Nat
  p5ms : Nat
  pMin : Nat
  pFix : Nat
  aRate : Nat
  energy : Nat
  emergency : Bool
  deriving DecidableEq, Repr

/-- A drive as the dense-tier block finds it: its number, its capacity in 4 KiB blocks where namespace 1 is usable, and
the identity of that namespace (R291, R292, R564). -/
structure DriveIn where
  drive : Nat
  capacity : Option Nat
  identity : Nat
  deriving DecidableEq, Repr


/-- The commands of the block, one constructor per row of the spec's table. -/
inductive Instr
  /-- STANDBY_POWER_ON (R558) -/
  | standbyPowerOn
  /-- MAIN_INPUT_ON (R558) -/
  | mainInputOn (hbm : BitVec 8)
  /-- INPUT_OUT_OF_RANGE (R556) -/
  | inputOutOfRange (unit : Nat)
  /-- CORE_REFERENCE_STOP (R652) -/
  | coreReferenceStop
  /-- ROOT_PLL_LOCK (R38) -/
  | rootPllLock
  /-- CLOCK_LOSS (R41) -/
  | clockLoss
  /-- THERMAL_TRIP (R529) -/
  | thermalTrip (sensor : Nat)
  /-- PERST_ASSERT (R566) -/
  | perstAssert
  /-- PERST_DEASSERT (R559) -/
  | perstDeassert (straps : BitVec 5) (drives : BitVec 8)
  /-- DEVICE_READY (R561) -/
  | deviceReady (found : List DriveIn)
  /-- PERST1_ASSERT (R645) -/
  | perst1Assert
  /-- PERST1_DEASSERT (R645) -/
  | perst1Deassert
  /-- PORT_RESET (R569) -/
  | portReset (port : Nat)
  /-- MODULE_RESET (R567) -/
  | moduleReset (q : MciReq)
  /-- RESET_HOLD_EXPIRY (R567) -/
  | resetHoldExpiry
  /-- THROTTLE_BOUNDARY (R53) -/
  | throttleBoundary
  /-- CRUMB (R55) -/
  | crumb
  /-- FRAME_BOUNDARY (R60) -/
  | frameBoundary
  /-- BARRIER_HOLD (R473) -/
  | barrierHold
  /-- REFRESH_TIMER (R85) -/
  | refreshTimer (pc : Nat)
  /-- REFRESH_LANE (R85) -/
  | refreshLane (pc cell : Nat)
  /-- READ_WINDOW_CELL (R278) -/
  | readWindowCell (pc cell sev : Nat)
  /-- WRITE_WINDOW_CELL (R278) -/
  | writeWindowCell (pc cell : Nat)
  /-- ROW_SWITCH_GAP (R277) -/
  | rowSwitchGap (pc cell : Nat)
  /-- EVENT_LINK (R143) -/
  | eventLink (e : EvRef) (noise : List LinkNoise)
  /-- BEAT_DISCARD (R171) -/
  | beatDiscard (router port : Nat)
  /-- SCHEDULED_READ (R81) -/
  | scheduledRead (e : EvRef)
  /-- SCHEDULED_WRITE (R80) -/
  | scheduledWrite (e : EvRef)
  /-- INDEX_LOAD (R93) -/
  | indexLoad (e : EvRef)
  /-- GATHER (R94) -/
  | gather (e : EvRef)
  /-- SCATTER (R94) -/
  | scatter (e : EvRef)
  /-- DISPATCH (R214) -/
  | dispatch (e : EvRef)
  /-- DISPATCH_RESULT_WRITE (R216) -/
  | dispatchResultWrite (router : Nat) (up : List (BitVec 564))
  /-- FOLD_STEP (R182) -/
  | foldStep (e : EvRef)
  /-- RNG (R504) -/
  | rng (e : EvRef)
  /-- UPDATE (R507) -/
  | update (e : EvRef)
  /-- BRANCH_READ (R97) -/
  | branchRead (part : Nat)
  /-- FRAME_BUDGET_EXHAUSTED (R99) -/
  | frameBudgetExhausted (part : Nat)
  /-- HOST_TRANSFER_BEAT (R146) -/
  | hostTransferBeat (part recIdx beat : Nat)
  /-- HOST_READ_DATA (R321) -/
  | hostReadData (part frame recIdx beat : Nat) (data : LineData) (failed : Bool)
  /-- DESCRIPTOR_BEAT (R191) -/
  | descriptorBeat (router : Nat)
  /-- RESIDUAL_RETURN (R195) -/
  | residualReturn (port : Nat)
  /-- COMPRESSED_RECORD_HANDOVER (R195) -/
  | compressedRecordHandover (port : Nat)
  /-- LATTICE_WINDOW_ENTRY (R479) -/
  | latticeWindowEntry (part recIdx beat : Nat)
  /-- LATTICE_WINDOW_PRESENT (R480) -/
  | latticeWindowPresent (part recIdx beat : Nat)
  /-- SLICE_RD (R150) -/
  | sliceRd (header : BitVec 64) (words : List Nat)
  /-- SLICE_WR (R150) -/
  | sliceWr (header : BitVec 64) (words : List Nat)
  /-- CONTROL_PORT_COMMIT (R150) -/
  | controlPortCommit (router : Nat)
  /-- SCRUB_VISIT (R165) -/
  | scrubVisit (router : Nat)
  /-- CONTROL_WORD_PARITY_ERROR (R161) -/
  | controlWordParityError (node dir : Nat) (resend : Bool)
  /-- PACKET_AGEING (R160) -/
  | packetAgeing (node dir : Nat) (arrivals : List (BitVec 64)) (cycles : Nat)
  /-- TELEMETRY_INJECT (R162) -/
  | telemetryInject (endpoint left : Nat) (content : Nat) (event : Option PktIn)
  /-- FAULT_PACKET (R585) -/
  | faultPacket (p : Option PktIn)
  /-- EVENT_PACKET (R591) -/
  | eventPacket (p : Option PktIn)
  /-- SOCKET_STATUS (R218) -/
  | socketStatus (router : Nat) (status : BitVec 4)
  /-- UNRESERVED_UP_BEAT (R234) -/
  | unreservedUpBeat (router : Nat) (beat : BeatIn)
  /-- HELLO_RETRY (R226) -/
  | helloRetry (tile : Nat)
  /-- IDENT (R224) -/
  | ident (tile : Nat) (rx : List (BitVec 78))
  /-- DISCOVERY_ACK (R223) -/
  | discoveryAck (tile : Nat) (rx : List (BitVec 78))
  /-- BOOT_DONE (R228) -/
  | bootDone (tile : Nat) (rx : List (BitVec 78))
  /-- SPARES (R225) -/
  | spares (tile : Nat) (rx : List (BitVec 78))
  /-- TILE_ERROR (R223) -/
  | tileError (tile : Nat) (rx : List (BitVec 78))
  /-- DISCOVERY_TIMEOUT (R227) -/
  | discoveryTimeout (tile : Nat)
  /-- TILE_SENSOR_FRAME (R232) -/
  | tileSensorFrame (tile : Nat) (readings : List (BitVec 16)) (crc : BitVec 16)
  /-- BOND_TRAINING_DONE (R250) -/
  | bondTrainingDone (tile : Nat) (cells : List CellTrain)
  /-- STITCH_TRAINING_DONE (R251) -/
  | stitchTrainingDone (results : List StitchTrain) (links : List LinkTrain) (dead : List Nat)
  /-- CONSENT_TIMEOUT (R253) -/
  | consentTimeout (bundle : Nat)
  /-- STITCH_RETRAIN (R259) -/
  | stitchRetrain (results : List StitchTrain)
  /-- TILE_REDISCOVERY (R260) -/
  | tileRediscovery (tile cell : Nat)
  /-- FAULT_MAP_MERGE (R108) -/
  | faultMapMerge
  /-- PARTITION_RELEASE (R112) -/
  | partitionRelease (k : Nat)
  /-- HBM_TRAINING (R300) -/
  | hbmTraining (stack : Nat) (good : Bool) (channels : List ChannelTrain)
  /-- AUTONOMOUS_REFRESH (R283) -/
  | autonomousRefresh (pc : Nat)
  /-- UNSCHEDULED_ACCESS (R287) -/
  | unscheduledAccess (pc sev : Nat)
  /-- CORRECTED_WRITEBACK (R281) -/
  | correctedWriteback (pc : Nat)
  /-- PATROL_SCRUB (R281) -/
  | patrolScrub (pc sev : Nat)
  /-- HBM_SOFT_REPAIR (R282) -/
  | hbmSoftRepair (pc row : Nat) (resource : Bool)
  /-- HBM_TEMP_SAMPLE (R284) -/
  | hbmTempSample (stack : Nat) (raw : BitVec 16)
  /-- CACHE_ACCESS (R295) -/
  | cacheAccess
  /-- DRIVE_COMMAND_COMPLETE (R295) -/
  | driveCommandComplete (drive cmd block data : Nat) (error : Bool)
  /-- DRIVE_COMMAND_ABORT (R296) -/
  | driveCommandAbort (drive cmd block : Nat)
  /-- DENSE_REQUEST_TIMEOUT (R296) -/
  | denseRequestTimeout
  /-- CACHE_CLEANER (R297) -/
  | cacheCleaner
  /-- DRIVE_FAILED (R298) -/
  | driveFailed (drive : Nat)
  /-- DRIVE_PRESENCE_LOSS (R657) -/
  | drivePresenceLoss (drive : Nat)
  /-- RING_DOORBELL (R313) -/
  | ringDoorbell (fn ring : Nat) (value : BitVec 32) (whole : Bool)
  /-- CQ_HEAD_DOORBELL (R313) -/
  | cqHeadDoorbell (fn ring : Nat) (value : BitVec 32)
  /-- FLUSH_REQUEST (R329) -/
  | flushRequest (fn ring : Nat)
  /-- FLUSH_EFFECT (R329) -/
  | flushEffect (fn ring rest : Nat)
  /-- RING_FETCH (R315) -/
  | ringFetch (fn ring : Nat) (units : List (BitVec 512)) (list : List BufIn)
  /-- RING_ENABLE (R616) -/
  | ringEnable (fn ring : Nat)
  /-- RING_DISABLE (R312) -/
  | ringDisable (fn ring rest : Nat)
  /-- NOP (R316) -/
  | nop (fn ring : Nat)
  /-- STAGE_START (R322) -/
  | stageStart (fn : Nat) (data : List (Option LineData))
  /-- STAGE_COMPLETE (R323) -/
  | stageComplete (fn : Nat)
  /-- POOL_ITEM (R324) -/
  | poolItem (fn : Nat)
  /-- MCI_ITEM (R325) -/
  | mciItem (fn data : Nat) (found : List DriveIn)
  /-- RUN_COMPLETE (R338) -/
  | runComplete (fn ring : Nat) (seq : BitVec 32)
  /-- INTERRUPT_TIMER (R340) -/
  | interruptTimer (fn ring : Nat)
  /-- FUNCTION_LEVEL_RESET (R341) -/
  | functionLevelReset (fn : Nat)
  /-- PRIO_WRITE (R620) -/
  | prioWrite (fn half : Nat) (value : BitVec 64)
  /-- MAILBOX_GO (R621) -/
  | mailboxGo (found : List DriveIn)
  /-- CAPTURE (R622) -/
  | capture
  /-- COUNTER_LOW_READ (R611) -/
  | counterLowRead (fn offset size : Nat)
  /-- EVT_ACK_WRITE (R625) -/
  | evtAckWrite (value : BitVec 64)
  /-- ATTENTION_ENABLE_WRITE (R618) -/
  | attentionEnableWrite (fn block : Nat) (value : BitVec 32)
  /-- DBG_INJECT (R626) -/
  | dbgInject (value : BitVec 32)
  /-- REGISTER_WRITE (R612) -/
  | registerWrite (fn offset size value : Nat)
  /-- MCI_INFO (R363) -/
  | mciInfo (q : MciReq)
  /-- MP_RESET (R352) -/
  | mpReset (q : MciReq)
  /-- NOTIFY_SUBSCRIBE (R364) -/
  | notifySubscribe (q : MciReq)
  /-- CLOCK_CORRELATE (R46) -/
  | clockCorrelate (q : MciReq)
  /-- FW_INFO (R369) -/
  | fwInfo (q : MciReq)
  /-- FW_WRITE (R369) -/
  | fwWrite (q : MciReq) (data : Nat)
  /-- FW_VERIFY (R369) -/
  | fwVerify (q : MciReq)
  /-- FW_ACTIVATE (R369) -/
  | fwActivate (q : MciReq)
  /-- FW_COMMIT (R369) -/
  | fwCommit (q : MciReq)
  /-- KEY_INSTALL (R372) -/
  | keyInstall (q : MciReq)
  /-- KEY_REMOVE (R372) -/
  | keyRemove (q : MciReq)
  /-- KEY_LIST (R372) -/
  | keyList (q : MciReq)
  /-- IMAGE_POLICY (R372) -/
  | imagePolicy (q : MciReq)
  /-- VET_REPORT (R377) -/
  | vetReport (q : MciReq)
  /-- VET_ACCEPT (R379) -/
  | vetAccept (q : MciReq)
  /-- VET_REVOKE (R379) -/
  | vetRevoke (q : MciReq)
  /-- IMAGE_LOAD (R128) -/
  | imageLoad (q : MciReq)
  /-- IMAGE_LOAD_DONE (R125) -/
  | imageLoadDone (slot : Nat) (bytes len : Nat)
  /-- IMAGE_BIND (R130) -/
  | imageBind (q : MciReq)
  /-- BIND_EFFECT (R130) -/
  | bindEffect (k : Nat)
  /-- IMAGE_UNBIND (R131) -/
  | imageUnbind (q : MciReq)
  /-- UNBIND_EFFECT (R131) -/
  | unbindEffect (k : Nat)
  /-- IMAGE_EVICT (R128) -/
  | imageEvict (q : MciReq)
  /-- IMAGE_QUERY (R127) -/
  | imageQuery (q : MciReq)
  /-- PARTITION_SET_LAYOUT (R129) -/
  | partitionSetLayout (q : MciReq)
  /-- PARTITION_QUERY (R363) -/
  | partitionQuery (q : MciReq)
  /-- PARTITION_RESET (R570) -/
  | partitionReset (q : MciReq)
  /-- PARTITION_RESET_EFFECT (R570) -/
  | partitionResetEffect (k : Nat)
  /-- BUFFER_SCRUB (R165) -/
  | bufferScrub (q : MciReq)
  /-- LANE_TEST (R262) -/
  | laneTest (q : MciReq)
  /-- LANE_QUERY (R264) -/
  | laneQuery (q : MciReq)
  /-- HBM_ASSIGN (R289) -/
  | hbmAssign (q : MciReq)
  /-- HBM_QUERY (R282) -/
  | hbmQuery (q : MciReq)
  /-- DENSE_ATTACH (R292) -/
  | denseAttach (q : MciReq) (found : List DriveIn)
  /-- DENSE_FLUSH (R297) -/
  | denseFlush (q : MciReq)
  /-- DENSE_QUERY (R564) -/
  | denseQuery (q : MciReq)
  /-- PRIORITY_SET (R331) -/
  | prioritySet (q : MciReq)
  /-- WINDOW_WRITE (R399) -/
  | windowWrite (q : MciReq)
  /-- WINDOW_SWITCH (R400) -/
  | windowSwitch (q : MciReq)
  /-- WINDOW_QUERY (R402) -/
  | windowQuery (q : MciReq)
  /-- POOL_REGION_CREATE (R424) -/
  | poolRegionCreate (q : MciReq)
  /-- POOL_REGION_REPLACE (R443) -/
  | poolRegionReplace (q : MciReq)
  /-- POOL_REGION_DELETE (R425) -/
  | poolRegionDelete (q : MciReq)
  /-- REGION_DELETE_COMPLETE (R425) -/
  | regionDeleteComplete (region : Nat)
  /-- POOL_ACCESS_SET (R426) -/
  | poolAccessSet (q : MciReq)
  /-- POOL_QUERY (R428) -/
  | poolQuery (q : MciReq)
  /-- LATTICE_CONFIG (R490) -/
  | latticeConfig (q : MciReq)
  /-- LATTICE_QUERY (R492) -/
  | latticeQuery (q : MciReq)
  /-- BARRIER_POLICY (R491) -/
  | barrierPolicy (q : MciReq)
  /-- POWER_CAP_SET (R530) -/
  | powerCapSet (q : MciReq)
  /-- POWER_QUERY (R545) -/
  | powerQuery (q : MciReq)
  /-- WAKE_LATENCY_SET (R539) -/
  | wakeLatencySet (q : MciReq)
  /-- SENSOR_QUERY (R546) -/
  | sensorQuery (q : MciReq)
  /-- EVENT_READ (R592) -/
  | eventRead (q : MciReq)
  /-- ERRLOG_READ (R597) -/
  | errlogRead (q : MciReq)
  /-- ERRLOG_CLEAR (R597) -/
  | errlogClear (q : MciReq)
  /-- COUNTER_READ (R603) -/
  | counterRead (q : MciReq)
  /-- COUNTER_CLEAR (R603) -/
  | counterClear (q : MciReq)
  /-- FAULT_MAP_QUERY (R587) -/
  | faultMapQuery (q : MciReq)
  /-- REPLACEMENT_QUERY (R590) -/
  | replacementQuery (q : MciReq)
  /-- REPLACEMENT_CLEAR (R590) -/
  | replacementClear (q : MciReq)
  /-- MCTP_CONTROL (R362) -/
  | mctpControl (medium cmd src eid : Nat)
  /-- SPDM_REQUEST (R373) -/
  | spdmRequest (transport src kind content : Nat)
  /-- MP_WATCHDOG (R352) -/
  | mpWatchdog
  /-- MP_READY (R380) -/
  | mpReady
  /-- PM_WATCHDOG (R353) -/
  | pmWatchdog (crcOk : Bool)
  /-- MP_BOOT (R368) -/
  | mpBoot (cals : List CalIn)
  /-- TRIAL_BOOT_TIMEOUT (R368) -/
  | trialBootTimeout
  /-- CXL_MEM_READ (R430) -/
  | cxlMemRead (pbr tag : Nat) (region : Option Nat) (off : Nat)
  /-- CXL_MEM_WRITE (R430) -/
  | cxlMemWrite (pbr tag : Nat) (region : Option Nat) (off : Nat) (data : LineData) (poison : Bool)
  /-- POOL_MAILBOX_COMMAND (R419) -/
  | poolMailboxCommand (pbr slot : Nat) (line : BitVec 512)
  /-- FILL (R436) -/
  | fill (id : Nat) (fetched : List LineIn)
  /-- COPY (R436) -/
  | copy (id : Nat) (fetched : List LineIn)
  /-- COMPARE (R436) -/
  | compare (id : Nat) (fetched : List LineIn)
  /-- REDUCE (R437) -/
  | reduce (id : Nat) (fetched : List LineIn)
  /-- FLUSH (R439) -/
  | flush (id : Nat)
  /-- STATUS (R439) -/
  | status (id : Nat)
  /-- LEASE (R440) -/
  | lease (id : Nat)
  /-- UNLEASE (R440) -/
  | unlease (id : Nat)
  /-- POOL_COMMAND_END (R438) -/
  | poolCommandEnd (id : Nat)
  /-- FLUSH_TOKEN_COMPLETE (R439) -/
  | flushTokenComplete (region : Nat)
  /-- FLUSH_TOKEN_TIMEOUT (R439) -/
  | flushTokenTimeout (region : Nat)
  /-- LEASE_EXPIRY (R440) -/
  | leaseExpiry (region : Nat)
  /-- MEMBER_LOSS (R441) -/
  | memberLoss (region member : Nat)
  /-- REBUILD_STEP (R443) -/
  | rebuildStep (region : Nat)
  /-- UNIT_ZERO_FILL (R422) -/
  | unitZeroFill (unit : Nat)
  /-- PORT_TRAINING_DONE (R457) -/
  | portTrainingDone (port : Nat) (good : BitVec 8) (latency : Nat)
  /-- LINK_ID (R464) -/
  | linkId (port msg : Nat)
  /-- PORT_RETRAIN (R457) -/
  | portRetrain (port : Nat)
  /-- RETRAIN_TIMEOUT (R457) -/
  | retrainTimeout (port : Nat)
  /-- TRAINING_RETRY (R457) -/
  | trainingRetry (port : Nat)
  /-- IDLE_FLIT (R467) -/
  | idleFlit (h : FlitHdr)
  /-- NAK (R468) -/
  | nak (h : FlitHdr)
  /-- WIN (R481) -/
  | win (h : FlitHdr) (first total : Nat) (beats : List LineIn)
  /-- UREQ_READ (R463) -/
  | ureqRead (h : FlitHdr) (u : UnschIn)
  /-- UREQ_WRITE (R463) -/
  | ureqWrite (h : FlitHdr) (u : UnschIn)
  /-- UREQ_DELTA (R430) -/
  | ureqDelta (h : FlitHdr) (u : UnschIn)
  /-- UREQ_REBUILD (R443) -/
  | ureqRebuild (h : FlitHdr) (u : UnschIn)
  /-- UREQ_CMD (R438) -/
  | ureqCmd (h : FlitHdr) (u : UnschIn)
  /-- UREQ_TABLE (R426) -/
  | ureqTable (h : FlitHdr) (u : UnschIn)
  /-- UREQ_TOKEN (R439) -/
  | ureqToken (h : FlitHdr) (u : UnschIn)
  /-- URSP (R463) -/
  | ursp (h : FlitHdr) (uop : Nat) (u : UnschIn)
  /-- UREQ_REPEAT (R463) -/
  | ureqRepeat (dst tag : Nat)
  /-- ACK_IDLE_TIMER (R467) -/
  | ackIdleTimer (port : Nat)
  /-- REPLAY_TIMEOUT (R468) -/
  | replayTimeout (port : Nat)
  /-- FLIT_SLOT (R470) -/
  | flitSlot (port : Nat)
  /-- ARRIVE (R473) -/
  | arrive (h : Option FlitHdr) (port msg : Nat)
  /-- RELEASE (R474) -/
  | release (h : Option FlitHdr) (port msg : Nat)
  /-- RELEASE_DELAY_EXPIRY (R474) -/
  | releaseDelayExpiry
  /-- BARRIER_TIMEOUT (R475) -/
  | barrierTimeout
  /-- BARRIER_LONE_RELEASE (R475) -/
  | barrierLoneRelease
  /-- TREQ (R477) -/
  | treq (h : Option FlitHdr) (port msg : Nat)
  /-- TSET (R477) -/
  | tset (h : Option FlitHdr) (port msg : Nat)
  /-- JOIN (R476) -/
  | join (h : Option FlitHdr) (port msg : Nat)
  /-- FIRST_BARRIER_TIMER (R476) -/
  | firstBarrierTimer
  /-- LINK_FAIL (R488) -/
  | linkFail (h : Option FlitHdr) (port msg : Nat)
  /-- LOST (R488) -/
  | lost (h : Option FlitHdr) (port msg : Nat)
  /-- POLICY (R491) -/
  | policy (h : Option FlitHdr) (port msg : Nat)
  /-- WINDOW_AGE_OUT (R481) -/
  | windowAgeOut (port src : Nat) (stamp : BitVec 32)
  /-- LANE_SLEEP (R543) -/
  | laneSleep (port : Nat)
  /-- LANE_WAKE (R543) -/
  | laneWake (port : Nat)
  /-- PM_CONTROL_PERIOD (R525) -/
  | pmControlPeriod (m : PowerIn)
  /-- PM_THERMAL_PERIOD (R528) -/
  | pmThermalPeriod
  /-- SENSOR_SAMPLE (R521) -/
  | sensorSample (sensor : Nat) (raw : BitVec 16)
  /-- PWRBRK_ASSERT (R534) -/
  | pwrbrkAssert
  /-- PWRBRK_DEASSERT (R536) -/
  | pwrbrkDeassert
  /-- TILE_OVERCURRENT (R519) -/
  | tileOvercurrent (tile : Nat)
  /-- TILE_SHUTDOWN (R519) -/
  | tileShutdown (tile : Nat)
  /-- IDLE_STATE_ENTRY (R541) -/
  | idleStateEntry (part : Nat)
  /-- IDLE_EXIT_COMPLETE (R542) -/
  | idleExitComplete (part : Nat)
  /-- ELASTIC_OVERFLOW (R51) -/
  | elasticOverflow (buffer level : Nat)
  /-- ERRLOG_SUMMARY_WRITE (R595) -/
  | errlogSummaryWrite
  /-- CORE_REFERENCE_VALID (R652) -/
  | coreReferenceValid
  /-- STANDBY_POWER_OFF (R639) -/
  | standbyPowerOff
  /-- MP_SRAM_UNCORRECTABLE (R584) -/
  | mpSramUncorrectable
  /-- FLIT_CRC_FAILURE (R466) -/
  | flitCrcFailure (port : Nat) (uncorrectable : Bool)
  /-- CONFIGURATION_REQUEST (R561) -/
  | configurationRequest (port fn : Nat) (clearVf setVf : Bool)
  /-- LANE_TEST_COMPLETE (R262) -/
  | laneTestComplete (n : Nat) (cells : List CellTrain) (stitch : List StitchTrain) (hbm : List Nat)
  /-- VDDT_REACHED (R560) -/
  | vddtReached (tile : Nat)
  /-- DYNAMIC_ADDRESS_ASSIGNMENT (R648) -/
  | dynamicAddressAssignment (addr : BitVec 7)
  deriving DecidableEq, Repr

end Sys2Proof
end

