-- ==== Sys2Proof/Machine/StHbm.lean ====
section
/-! DEFINITION. State of the HBM stacks and the dense tier (chapter 09). -/

namespace Sys2Proof.Machine

/-- Who waits for a line access: a STAGE item by function, number and byte offset, or a pool or cache request by tag. -/
inductive Origin
  | stage (fn ticket off : Nat)
  | pool (tag : Nat)
  /-- a SLICE_RD or SLICE_WR packet: source endpoint and TAG -/
  | ctl (src tag : Nat)
  deriving DecidableEq, Repr

/-- An unscheduled request of one line waiting at a pseudo-channel (R287). -/
structure UReq where
  line : Nat
  write : Bool
  data : LineData
  poison : Bool
  origin : Origin
  deriving DecidableEq, Repr

/-- A request at a dense-tier block: bytes of one 4 KiB block. -/
structure DReq where
  block : Nat
  off : Nat
  len : Nat
  write : Bool
  data : Nat
  origin : Origin
  arrived : Nat
  deriving DecidableEq, Repr

/-- What the cache does with one of its 4 KiB lines in HBM (R287, R295). -/
inductive CacheJob
  /-- a request is served from the line -/
  | hit (q : DReq)
  /-- the block read from its drive is stored -/
  | fill (block data : Nat)
  /-- a write of the whole block takes the line -/
  | take (block : Nat)
  /-- the line is read for the write-back of its block -/
  | evict (block : Nat)
  deriving DecidableEq, Repr

/-- One pseudo-channel. -/
structure Pc where
  /-- scheduled mode; otherwise autonomous (R283) -/
  sched : Bool
  /-- in a preparation frame: autonomous refresh has ended and the recorded stripe is open again (R64, R87, R302) -/
  prep : Bool
  /-- refresh debt, −8 to +8 (R85) -/
  debt : Int
  /-- open stripe (R277) and the one recorded at a park (R62) -/
  openStripe : Option Nat
  recStripe : Option Nat
  /-- a forced refresh closed the stripe: windows present poison until the next gap (R301) -/
  forced : Bool
  /-- partition tick at which the present lane ends, and whether it is idle (R283, R285) -/
  laneEnd : Nat
  laneIdle : Bool
  queue : List UReq
  /-- cache accesses waiting at the pseudo-channel: key of the cache line, and what is done with it -/
  cacheQ : List (Nat × CacheJob)
  /-- class of the request served last: 0 pool, 1 cache, 2 staging (R287) -/
  lastClass : Nat
  /-- unscheduled traffic has moved the rows of the scheduled pseudo-channel, which the controller restores (R285) -/
  moved : Bool
  /-- lines that wait for the write-back of a correction, at most 16 (R281) -/
  writeback : List Nat
  /-- next line of patrol scrub -/
  patrol : Nat
  /-- first uncorrectable line reported (R280) -/
  firstBad : Bool
  /-- row errors: row, line, uncorrectable, reference time (R282); corrected ones leave after 24 h -/
  rowErrors : List (Nat × Nat × Bool × Nat)
  /-- failing rows waiting for repair, rows soft-repaired, failing rows kept in service, banks without a repair resource, and
  repairs made in a bank (R282) -/
  failing : List Nat
  repaired : List Nat
  kept : List Nat
  exhausted : List Nat
  spent : Tab Nat
  deriving DecidableEq, Repr

/-- A pseudo-channel in autonomous mode. -/
def Pc.reset : Pc :=
  { sched := false, prep := false, debt := 0, openStripe := none, recStripe := none, forced := false, laneEnd := 0
    laneIdle := false, queue := [], cacheQ := [], lastClass := 0, moved := false, writeback := [], patrol := 0, firstBad := false, rowErrors := [], failing := []
    repaired := [], kept := [], exhausted := [], spent := [] }

/-- One stack. -/
structure Stack where
  trained : Bool
  /-- training failed: held in reset (R300) -/
  dead : Bool
  /-- refresh level of Table 9.5 -/
  level : Nat
  selfRefresh : Bool
  inTest : Bool
  /-- consecutive frames of permitted class are counted per partition; this is the last readout in °C -/
  readout : Int
  /-- wall ps of the last unscheduled access (R541) -/
  lastUse : Nat
  deriving DecidableEq, Repr

/-- A stack before training. -/
def Stack.reset : Stack := ⟨false, false, 0, false, false, 0, 0⟩

/-- HBM: pseudo-channels, stacks, unit roles and contents. -/
structure Hbm where
  pc : Tab Pc
  stack : Tab Stack
  /-- unit roles of Table 9.6 by module unit number 36 × k + u; a new part is all SCHEDULED -/
  role : Tab Nat
  /-- contents by byte: pseudo-channel × 1,207,959,552 + offset (R273, R274) -/
  mem : Memory
  /-- per line: 1 one bad symbol, 2 uncorrectable, 3 poisoned, 4 good although the tags of its unit were zeroed, 5 poisoned
  with one bad symbol (R280, R300) -/
  flag : Tab Nat
  /-- units whose tag bytes the last start zeroed (R300) -/
  zeroed : List Nat
  deriving DecidableEq, Repr

/-- Untrained stacks, contents unlisted. -/
def Hbm.reset : Hbm := ⟨[], [], [], [], [], []⟩

/-- A cache line (Table 9.8): state 0 INVALID, 1 CLEAN, 2 DIRTY, 3 FILLING, 4 WRITING. -/
structure CacheLine where
  state : Nat
  tag : Nat
  /-- stamp of the last use, for least-recently-used replacement -/
  used : Nat
  pinned : Bool
  /-- a write arrived while WRITING: DIRTY again afterwards (R305) -/
  redirty : Bool
  deriving DecidableEq, Repr

/-- An INVALID line. -/
def CacheLine.reset : CacheLine := ⟨0, 0, 0, false, false⟩

/-- A miss entry (R295): block, way chosen, waiting requests; phase 0 writes the victim back, 1 reads the block, 2 stores it,
3 waits for a write of the whole block. -/
structure MissEntry where
  block : Nat
  way : Nat
  phase : Nat
  waiters : List DReq
  deriving DecidableEq, Repr

/-- A command on a drive's I/O queues: 0 Read, 1 Write, 2 Flush; its block, data, and queue pair 0 to 3 (R291). -/
structure DriveCmd where
  cmd : Nat
  block : Nat
  data : Nat
  queue : Nat
  deriving DecidableEq, Repr

/-- A DENSE_FLUSH in progress: requester and tag, the blocks with the write-backs that each still needs, and the drives whose
NVMe Flush is still to end, once it is sent (R297, R305). -/
structure DenseFlush where
  who : Nat
  tag : Nat
  blocks : List (Nat × Nat)
  drives : List Nat
  sent : Bool
  /-- a flush token, by region and number, in place of a requester (R439) -/
  token : Option (Nat × Nat)
  deriving DecidableEq, Repr

/-- A drive. -/
structure Drive where
  usable : Bool
  /-- capacity in 4 KiB blocks -/
  capacity : Nat
  identity : Nat
  failed : Bool
  /-- reference times of recent aborts (R298) -/
  aborts : List Nat
  /-- commands outstanding on the four I/O queue pairs of 64 entries, and those that wait for an entry (R291) -/
  io : List DriveCmd
  backlog : List DriveCmd
  deriving DecidableEq, Repr

/-- No drive. -/
def Drive.reset : Drive := ⟨false, 0, 0, false, [], [], []⟩

/-- The dense tier. -/
structure Dense where
  drive : Tab Drive
  /-- attached drives in list order, with the namespace identity each showed (R292, R564) -/
  attached : List (Nat × Nat)
  /-- blocks per drive, a multiple of 32 -/
  perDrive : Nat
  /-- CACHE units in force -/
  units : Nat
  /-- lines by set × 16 + way; their contents lie in the CACHE units of HBM (R293) -/
  lines : Tab CacheLine
  stamp : Nat
  misses : List MissEntry
  /-- requests withheld while entries are in use (R295) -/
  withheld : List DReq
  /-- write-backs under way: block and reason: 0 victim, 1 cleaner, 2 flush, 3 role change -/
  writing : List (Nat × Nat)
  /-- failed-block list (R306) -/
  failedBlocks : List Nat
  /-- 64-byte lines of a listed block that have been overwritten since, as bits -/
  healing : Tab Nat
  listFullSent : Bool
  cleaning : Bool
  flushes : List DenseFlush
  /-- accepted HBM_ASSIGN commands that wait for the cache: requester, tag, parameters (R289) -/
  assigns : List (Nat × Nat × Nat)
  /-- accepted DENSE_ATTACH commands that wait for the cache: requester, tag, drives found (R292) -/
  attaches : List (Nat × Nat × List DriveIn)
  /-- drives that have failed since a DENSE_ATTACH last succeeded (Table 18.4) -/
  lost : List Nat
  deriving DecidableEq, Repr

/-- Nothing attached. -/
def Dense.reset : Dense :=
  { drive := [], attached := [], perDrive := 0, units := 0, lines := [], stamp := 0, misses := []
    withheld := [], writing := [], failedBlocks := [], healing := [], listFullSent := false, cleaning := false, flushes := []
    assigns := [], attaches := [], lost := [] }

end Sys2Proof.Machine
end

