-- ==== Sys2Proof/Machine/StHost.lean ====
section
/-! DEFINITION. State of the host rings, the functions and the host-visible registers (chapters 10 and 19). -/

namespace Sys2Proof.Machine

/-- What the completion of an ended item will say. -/
structure Done where
  status : Nat
  result : Nat
  aux : Nat
  poison : Bool
  endf : Nat
  deriving DecidableEq, Repr

/-- A buffer list that the ring engine holds for an item with EXT, by the item's first unit counter (R319): ADDR, LEN, and the
bits from [96] up of each entry. -/
structure HeldList where
  first : BitVec 24
  count : Nat
  entries : List (Nat × Nat × Nat)
  at_ : Nat
  deriving DecidableEq, Repr

/-- A consumed item that has not completed (R312, R327). -/
structure Outst where
  /-- number of the consumption, by which the item's lines and its end find it: a SEQ may come again after a flush (R318) -/
  ticket : Nat
  seq : BitVec 32
  user : BitVec 32
  silent : Bool
  opcode : Nat
  /-- the item as a little-endian number -/
  item : Nat
  /-- window generation at consumption (R326) -/
  gen : BitVec 64
  /-- frame number of start -/
  frame : Nat
  /-- failure noted while the item runs: status of Table 10.11 -/
  fail : Option Nat
  /-- a poisoned line was written to the host -/
  poison : Bool
  /-- bytes completed (STAGE) -/
  bytes : Nat
  /-- lines still to take effect (STAGE) -/
  left : Nat
  /-- wall ps at which its last line ended (STAGE) -/
  doneAt : Option Nat
  /-- the item has ended and its completion is due -/
  ended : Option Done
  deriving DecidableEq, Repr

/-- A FLUSH_DONE that is still to be written (R329): its SEQ, the items discarded among the held units, whether exposed units
were not held, and the SEQ after the last item discarded. -/
structure Mark where
  seq : BitVec 32
  count : Nat
  more : Bool
  front : BitVec 32
  deriving DecidableEq, Repr

/-- Ring registers (Tables 10.3, 19.2). -/
structure RingRegs where
  enabled : Bool
  base : BitVec 64
  /-- log2 of SIZE, 6 to 16 -/
  sizeLog : Nat
  cqBase : BitVec 64
  cqSizeLog : Nat
  /-- VEC; 0xF is none -/
  vec : Nat
  modCount : Nat
  modTime : Nat
  cfgErr : Bool
  deriving DecidableEq, Repr

/-- One ring with its completion ring (R310 to R340). -/
structure Ring where
  regs : RingRegs
  head : BitVec 24
  tail : BitVec 24
  fetch : BitVec 24
  cqw : BitVec 24
  cqh : BitVec 24
  epoch : BitVec 8
  /-- expected SEQ; none: the next is accepted as it stands (R318) -/
  expSeq : Option (BitVec 32)
  /-- SEQ of the last item consumed -/
  lastSeq : BitVec 32
  /-- SEQ after the last item consumed or discarded (R327) -/
  front : BitVec 32
  /-- units held beyond HEAD, oldest first (R315) -/
  units : List (BitVec 512)
  /-- doorbells taken: the TAIL each set and its arrival tick (R132) -/
  bells : List (BitVec 24 × Nat)
  /-- tick by which the held units arrived, per unit, oldest first -/
  heldAt : List Nat
  /-- external buffer lists held (R319) -/
  lists : List HeldList
  /-- the oldest item has been a candidate at a boundary (R132, R320) -/
  seenFirst : Bool
  flushPend : Bool
  /-- flushes that have taken effect and whose FLUSH_DONE is still to be written -/
  marks : List Mark
  /-- a disable waits for its flush (R312) -/
  stopPend : Bool
  /-- consumed and uncompleted items, oldest first -/
  outst : List Outst
  /-- frame of the last consumption plus 1; 0 before the first (R326) -/
  lastFrame : Nat
  /-- completions written since enabled (R339) -/
  writes : Nat
  /-- completions since the last interrupt, and the reference time of the first of them (R340) -/
  modSeen : Nat
  modSince : Option Nat
  /-- weight 0 to 255 and round-robin counter (R331, R134) -/
  weight : Nat
  swrr : Int
  /-- an increment of the bad or stale count since the function last read it (R313) -/
  badNoted : Bool
  staleNoted : Bool
  deriving DecidableEq, Repr

/-- Ring registers after reset (Table 19.2). -/
def RingRegs.reset : RingRegs := ⟨false, 0, 0, 0, 0, 0xF, 1, 0, false⟩

/-- A ring after reset: disabled, zero, weight 16 (R331, R343). -/
def Ring.reset : Ring :=
  { regs := RingRegs.reset, head := 0, tail := 0, fetch := 0, cqw := 0, cqh := 0, epoch := 0, expSeq := none
    lastSeq := 0, front := 0, units := [], bells := [], heldAt := [], lists := [], seenFirst := false, flushPend := false, marks := [], stopPend := false, outst := []
    lastFrame := 0, writes := 0, modSeen := 0, modSince := none, weight := 16, swrr := 0, badNoted := false
    staleNoted := false }

/-- MSI-X state of a vector: masked and pending. -/
structure Vector where
  addr : BitVec 64
  data : BitVec 32
  masked : Bool
  pending : Bool
  deriving DecidableEq, Repr

/-- A vector after reset: masked. -/
def Vector.reset : Vector := ⟨0, 0, true, false⟩

/-- Per-function state. -/
structure Fn where
  /-- priority class (R331) -/
  cls : Nat
  /-- tolerated wake latency in ns (R539) -/
  wake : BitVec 32
  /-- function attention bits and their enables (Table 19.4) -/
  attn : BitVec 32
  attnEn : BitVec 32
  /-- vector of the function's attention (FVEC) -/
  fvec : Nat
  /-- FGEN: generation whose switch last brought its window into force -/
  fgen : BitVec 64
  deriving DecidableEq, Repr

/-- A function after reset: class 4 (R331). -/
def Fn.reset : Fn := ⟨4, 0, 0, 0, 0xF, 1⟩

/-- The rings and functions. Rings are keyed 4 × function + ring index. -/
structure Rings where
  ring : Tab Ring
  fn : Tab Fn
  /-- vectors keyed 8 × function + vector -/
  vec : Tab Vector
  /-- number of the next consumption -/
  next : Nat
  /-- started Bulk items of functions reset since, which run to completion inside the device: function and item (R341) -/
  stray : List (Nat × Outst)
  deriving DecidableEq, Repr

/-- Every ring disabled. -/
def Rings.reset : Rings := { ring := [], fn := [], vec := [], next := 0, stray := [] }

/-- The key of a ring. -/
def ringKey (fn ring : Nat) : Nat := 4 * fn + ring

/-- PF0's register blocks that belong to no other chapter (chapter 19). -/
structure Regs where
  /-- attention of the STS block and its enables (Table 19.7) -/
  stsAttn : BitVec 32
  stsAttnEn : BitVec 32
  /-- attention of the PWR block and its enables (Table 19.10) -/
  pwrAttn : BitVec 32
  pwrAttnEn : BitVec 32
  /-- capture sequence number (CSEQ) -/
  cseq : BitVec 32
  /-- EVT block: SEV_MIN, enables, new-entry bit (Table 19.11) -/
  evtSevMin : Nat
  evtEn : Bool
  evtNew : Bool
  /-- DBG block: ARM, KIND, UNIT, PENDING, COUNT, SCRATCH (Table 19.12) -/
  dbgArm : Bool
  dbgKind : Nat
  dbgUnit : BitVec 32
  dbgPending : Bool
  dbgCount : BitVec 32
  dbgScratch : BitVec 64
  /-- latched high halves by function × 2^26 + offset of the low half (R47, R611) -/
  latch : List (Nat × BitVec 32)
  /-- reserved bits of the ring registers as last written, by function × 2^26 + offset (R616) -/
  rsvd : Tab (BitVec 32)
  /-- mailbox: the 4 KiB window as a number, BUSY, DONE, ignored GO count (R361, R621) -/
  mbxWindow : Tab (BitVec 32)
  mbxBusy : Bool
  mbxDone : Bool
  /-- the response of the BUSY request is to be discarded (R582, Table 19.14) -/
  mbxDrop : Bool
  mbxIgnored : BitVec 32
  deriving DecidableEq, Repr

/-- Registers at reset. -/
def Regs.reset : Regs :=
  { stsAttn := 0, stsAttnEn := 0, pwrAttn := 0, pwrAttnEn := 0, cseq := 0, evtSevMin := 0, evtEn := false
    evtNew := false, dbgArm := false, dbgKind := 0, dbgUnit := 0, dbgPending := false, dbgCount := 0
    dbgScratch := 0, latch := [], rsvd := [], mbxWindow := [], mbxBusy := false, mbxDone := false, mbxDrop := false
    mbxIgnored := 0 }

end Sys2Proof.Machine
end

