-- ==== Sys2Proof/Machine/StLanes.lean ====
section
/-! DEFINITION. State of lane repair and stand-alone test (chapter 08). Lane entries are numbers in the layout of
Table 8.4, and a bundle is bits [19:0] of its entries. -/

namespace Sys2Proof.Machine

/-- A width change that waits for the MP's consent (R253): bundle, the code it would take (0 none, 1 half), and the
lane entries that the result found. -/
structure Consent where
  bundle : Nat
  code : Nat
  lanes : List Nat
  deriving DecidableEq, Repr

/-- A LANE_TEST in progress (R262): requester, tag, parameters, and whether it has begun on its unit. -/
structure LaneTest where
  who : Nat
  tag : Nat
  params : Nat
  begun : Bool
  deriving DecidableEq, Repr

/-- Lane maps and calibration. -/
structure Lanes where
  /-- assembly fuse bank, at most 4,096 entries (R247) -/
  assembly : List Nat
  /-- field fuse bank, at most 512 entries -/
  field : List Nat
  /-- volatile map: lanes found failed and steered (R253) -/
  volatile : List Nat
  /-- lanes that valid results found failed at the last cold start, and in this start (R254) -/
  seenCold : List Nat
  foundNow : List Nat
  /-- last calibration status of a bundle (Table 8.6) -/
  status : Tab Nat
  /-- failed lanes of the control-network stitch links as the last valid results gave them (R251) -/
  links : List Nat
  /-- HBM3E channel bundles whose repair resources are exhausted (R252) -/
  hbmDead : List Nat
  /-- bundles whose result was not valid at the last start, and in this start (R256) -/
  invalidPrev : List Nat
  invalidNow : List Nat
  consent : List Consent
  /-- tests in progress, on distinct units (R262) -/
  tests : List LaneTest
  /-- cells (routers) in retraining, with their cluster code before it -/
  retraining : List (Nat × Nat)
  /-- cells whose bonds were retrained since the cold start with an unchanged width (R260) -/
  retrained : List Nat
  /-- tick on which the stitch training began (R251) -/
  stitchFrom : Nat
  /-- the field bank was full when a failed lane was found again (R254) -/
  fieldFull : Bool
  deriving DecidableEq, Repr

/-- A part whose fuse banks are blank. -/
def Lanes.reset : Lanes :=
  { assembly := [], field := [], volatile := [], seenCold := [], foundNow := [], status := [], links := []
    hbmDead := [], invalidPrev := [], invalidNow := [], consent := [], tests := [], retraining := [], retrained := []
    stitchFrom := 0, fieldFull := false }

end Sys2Proof.Machine
end

