-- ==== Sys2Proof/Machine/StLat.lean ====
section
/-! DEFINITION. State of the Lattice fabric: configuration, ports with their link layers, the window stores, barriers and
linked throttling, unscheduled requests (chapter 14). -/

namespace Sys2Proof.Machine

/-- LATTICE_CONFIG (Table 14.11). -/
structure LatConfig where
  module : Nat
  domain : Nat
  /-- 0 NONE, 1 TORUS, 2 PAIR, 3 QUAD (Table 14.3) -/
  shape : Nat
  x : Nat
  y : Nat
  z : Nat
  portEn : BitVec 12
  group : Nat
  /-- cable delays in ns, port i in bits [8i + 7 : 8i] -/
  cable : Nat
  deriving DecidableEq, Repr

/-- No fabric: the module is a domain of its own (Table 14.3). -/
def LatConfig.unused : LatConfig := ⟨0, 0, 0, 1, 1, 1, 0, 0, 0⟩

/-- Barrier policy (Table 14.12). -/
structure Policy where
  period : Nat
  linked : Bool
  timeoutUs : Nat
  align : Nat
  lead : Nat
  deriving DecidableEq, Repr

/-- The policy after a cold reset (R491). -/
def Policy.reset : Policy := ⟨0, true, 10000, 0, 3⟩

/-- A flit with the header fields that its sender fixes (Table 14.5). -/
structure Flit where
  type : Nat
  vc : Nat
  src : Nat
  dst : Nat
  hops : Nat
  xt : Nat
  payload : Nat
  deriving DecidableEq, Repr

/-- A Lattice port with its link layer (R455 to R470). -/
structure LPort where
  /-- Table 14.2 -/
  state : Nat
  /-- lanes in use: 0, 2, 4 or 8 -/
  width : Nat
  /-- lanes found good at the last training -/
  lanes : BitVec 8
  /-- far side: module, port, domain, shape, from its LINK_ID -/
  far : Option (Nat × Nat × Nat × Nat)
  /-- one-way latency measured at training, in ns -/
  latency : Nat
  /-- the next SEQ, the unacknowledged flits with their SEQ, oldest first, and those to be resent -/
  txSeq : BitVec 16
  unacked : List (BitVec 16 × Flit)
  resend : List (BitVec 16 × Flit)
  /-- replays without progress (R468) -/
  replays : Nat
  /-- wall ps of the last acknowledgement progress -/
  progress : Nat
  /-- expected SEQ, whether any flit was accepted, and the value for which the last NAK was sent -/
  expected : BitVec 16
  accepted : Bool
  nakSent : Option (BitVec 16)
  /-- an acknowledgement waits to be carried (R467) -/
  ackDue : Bool
  /-- credits in hand by VC, as the number spent of those granted, and credits to return by VC (R469) -/
  spent : Tab Nat
  owed : Tab Nat
  /-- flits waiting at the output by class: CTRL, URSP, UREQ, WIN -/
  ctrlQ : List Flit
  urspQ : List Flit
  ureqQ : List Flit
  winQ : List Flit
  /-- consecutive WIN slots while unscheduled flits waited (R470) -/
  winRun : Nat
  /-- window flits sent in the current frame, and that frame (R483) -/
  load : Nat
  loadFrame : Nat
  overNoted : Bool
  /-- flits carried in the current frame, and consecutive frames with fewer than 64 (R543) -/
  flits : Nat
  quiet : Nat
  asleep : Bool
  /-- wall ps plus 1 since which the port has not been UP after a failure, its retries included; 0 otherwise -/
  failedAt : Nat
  /-- the port came from FAILED or DISABLED: it may widen (R458) -/
  fresh : Bool
  deriving DecidableEq, Repr

/-- A disabled port. -/
def LPort.reset : LPort :=
  { state := 0, width := 0, lanes := 0, far := none, latency := 0, txSeq := 0, unacked := [], resend := [], replays := 0
    progress := 0, expected := 0, accepted := false, nakSent := none, ackDue := false, spent := [], owed := []
    ctrlQ := [], urspQ := [], ureqQ := [], winQ := [], winRun := 0, load := 0, loadFrame := 0, overNoted := false
    flits := 0, quiet := 0, asleep := false, failedAt := 0, fresh := true }

/-- A window in the store of a port (R481). -/
structure StoredWin where
  port : Nat
  src : Nat
  /-- stamp: low 32 bits of the fabric frame number -/
  stamp : BitVec 32
  total : Nat
  /-- wire beats present: index, data, poison -/
  beats : List (Nat × LineData × Bool)
  failed : Bool
  /-- its consumption has begun, so it counts as on time or late already -/
  judged : Bool
  late : Bool
  deriving DecidableEq, Repr

/-- ARRIVE as a member collected it from a child (Table 14.9). -/
structure Arrived where
  from_ : Nat
  fsf : Nat
  count : Nat
  leave : Bool
  parkWait : Bool
  unlocked : Bool
  setting : BitVec 9
  deriving DecidableEq, Repr

/-- A RELEASE that waits for its delay (R474). -/
structure Release where
  fsf : Nat
  partialRel : Bool
  resume : Bool
  setv : Bool
  setting : BitVec 9
  /-- wall ps at which the hold is released -/
  at_ : Nat
  policy : Policy
  deriving DecidableEq, Repr

/-- Standing of the module in its barrier group (R472 to R476). -/
inductive Standing
  /-- GROUP is 0, or the module has left (R378) -/
  | out
  /-- not in good standing: JOIN was flooded -/
  | joining
  | good
  deriving DecidableEq, Repr

/-- An unscheduled request that awaits its response (R463): destination, TAG, the flit, the requester inside this
module, wall ps of its last sending. -/
structure OutReq where
  dst : Nat
  tag : Nat
  flit : Flit
  /-- what waits for the response: 0 a CXL access, 1 a parity step, 2 a rebuild, 3 a part of a pool command,
  4 a table copy, 5 token and lease traffic; with a number that names it -/
  kind : Nat
  ref : Nat
  at_ : Nat
  deriving DecidableEq, Repr

/-- The Lattice fabric as this module sees it. -/
structure Lat where
  cfg : LatConfig
  policy : Policy
  port : Tab LPort
  store : List StoredWin
  /-- FSF minus the local superframe number, modulo 2^48 (R471) -/
  fsfOff : Nat
  standing : Standing
  /-- members in good standing besides this one, joiners heard, modules lost -/
  members : List Nat
  joiners : List Nat
  lost : List Nat
  /-- own ARRIVE sent for the pending boundary; wall ps of the hold's start -/
  arriveSent : Bool
  heldAt : Nat
  arrivals : List Arrived
  release : Option Release
  /-- PARTIAL and RESUME of the last release, and its boundary tick plus 1 -/
  lastPartial : Bool
  lastResume : Bool
  lastRelease : Nat
  /-- locked until the next barrier; a slip, lapse or unilateral setting since the last ARRIVE (R478) -/
  locked : Bool
  unlockedNote : Bool
  /-- coordinator: latest request of each member, and the group setting (R477) -/
  treqs : Tab (BitVec 9)
  groupSetting : BitVec 9
  /-- TSET received: setting and EFFECTIVE fabric frame, low 32 bits -/
  tset : Option (BitVec 9 × BitVec 32)
  /-- policy the coordinator takes into the next RELEASE (R491) -/
  nextPolicy : Option Policy
  /-- links reported failed: module and its port (R488) -/
  failed : List (Nat × Nat)
  /-- last FLOOD forwarded by 1024 × MSG + origin, plus 1; own counters by MSG (R464) -/
  floods : Tab Nat
  ownFlood : Tab Nat
  /-- next TAG of this source; requests outstanding; responses kept: source, tag, response flit, wall ps (R463) -/
  tag : Nat
  outReqs : List OutReq
  kept : List (Nat × Nat × Flit × Nat)
  /-- requests that wait for a free place among 16 per destination -/
  waiting : List OutReq
  deriving DecidableEq, Repr

/-- No fabric configured. -/
def Lat.reset : Lat :=
  { cfg := LatConfig.unused, policy := Policy.reset, port := [], store := [], fsfOff := 0, standing := .out
    members := [], joiners := [], lost := [], arriveSent := false, heldAt := 0, arrivals := []
    release := none, lastPartial := false, lastResume := false, lastRelease := 0, locked := false
    unlockedNote := false, treqs := [], groupSetting := 0, tset := none, nextPolicy := none, failed := [], floods := []
    ownFlood := [], tag := 0, outReqs := [], kept := [], waiting := [] }

end Sys2Proof.Machine
end

