-- ==== Sys2Proof/Machine/StLogs.lean ====
section
/-! DEFINITION. State of the event log, the persistent error log, the counters, the replacement requests and the
fault map (chapter 18). -/

namespace Sys2Proof.Machine

/-- An event entry (Table 18.6); `seen` records that an EVENT_READ or EVT_ACK returned it (R591, R608). -/
structure LogEntry where
  seq : BitVec 64
  tick : BitVec 64
  reason : Nat
  sev : Nat
  repl : Bool
  src : Nat
  unit : Nat
  detail : Nat
  seen : Bool
  deriving DecidableEq, Repr

/-- A persistent log entry with its summary in RAM (Table 18.7, R595). `complete` is STATE = 0xA5. -/
structure ErrEntry where
  reason : Nat
  unit : Nat
  sev : Nat
  boot : BitVec 32
  ref : BitVec 64
  detail : Nat
  ext : Nat
  /-- continuation of the previous entry: EXT in bytes 1 to 63 and nothing else -/
  cont : Bool
  complete : Bool
  /-- summary: occurrences, latest REF and BOOT -/
  count : Nat
  lastRef : BitVec 64
  lastBoot : BitVec 32
  deriving DecidableEq, Repr

/-- A summary copy in flash: counts by key (R595). -/
structure SumEntry where
  reason : Nat
  unit : Nat
  count : Nat
  ref : BitVec 64
  boot : BitVec 32
  deriving DecidableEq, Repr

/-- A replacement request (R588 to R590). -/
structure ReplReq where
  reason : Nat
  unit : Nat
  boot : BitVec 32
  raised : Nat
  /-- false after a clear: the raise count is kept (R607) -/
  active : Bool
  deriving DecidableEq, Repr

/-- A run recorded in the P-domain record (R568, R596). -/
structure EndedRun where
  fn : Nat
  ring : Nat
  seq : BitVec 32
  deriving DecidableEq, Repr

/-- The P-domain record of a module-fatal event (R596, R598). -/
structure PowerRecord where
  reason : Nat
  unit : Nat
  ref : BitVec 64
  runs : Nat
  ended : List EndedRun
  deriving DecidableEq, Repr

/-- The logs (R591 to R598). -/
structure Logs where
  /-- event log, newest first, at most 65,536 entries -/
  entries : List LogEntry
  /-- SEQ of the next entry (NEXT) -/
  next : BitVec 64
  /-- LOSS -/
  loss : BitVec 64
  /-- EVT_ACK: entries below it count as returned (R625) -/
  ack : BitVec 64
  /-- flash event ring, newest first, at most 8,192 -/
  flash : List LogEntry
  flashNext : BitVec 64
  /-- burst tokens left of 64, refilled at one a second (R593) -/
  flashTokens : Nat
  /-- reference time of the last refill, in 10 ns units -/
  flashRef : Nat
  /-- persistent log, oldest first, at most 4,096 keys -/
  errors : List ErrEntry
  /-- occurrences of keys beyond the log (DROPPED) -/
  dropped : BitVec 32
  logFullSent : Bool
  /-- the two summary copies and which is written next -/
  summary0 : List SumEntry
  summary1 : List SumEntry
  summaryTurn : Bool
  /-- persistent writes held while the MP restarts (R605) -/
  held : List LogEntry
  /-- the P-domain record, where one is waiting for step 8 -/
  power : Option PowerRecord
  /-- the 16 most recently admitted runs (R596) -/
  recentRuns : List EndedRun
  /-- replacement requests in ascending (REASON, UNIT) -/
  requests : List ReplReq
  /-- first uncorrectable slice words within 24 h and uncorrectable lines per stack within 24 h: reference times -/
  slices24 : List (Nat × Nat)
  stacks24 : List (Nat × Nat)
  deriving DecidableEq, Repr

/-- Empty logs. -/
def Logs.reset : Logs :=
  { entries := [], next := 0, loss := 0, ack := 0, flash := [], flashNext := 0, flashTokens := 64, flashRef := 0
    errors := [], dropped := 0, logFullSent := false, summary0 := [], summary1 := [], summaryTurn := false
    held := [], power := none, recentRuns := [], requests := [], slices24 := [], stacks24 := [] }

/-- The fault map (R587). Bitmaps and 2-bit codes in the FAULTDEP layout; the map of a good part is all ones in
the bitmaps and code 2 throughout. -/
structure FaultMap where
  /-- merges since cold reset -/
  merges : BitVec 32
  /-- dead routers -/
  deadRouters : List Nat
  /-- cluster codes that differ from 2 (full), by router -/
  cluster : Tab Nat
  /-- stitch codes that differ from 2, by column -/
  stitch : Tab Nat
  /-- dead pseudo-channels -/
  deadPcs : List Nat
  /-- volatile findings that wait for the next merge: dead routers, cluster codes, stitch codes, dead PCs -/
  pendRouters : List Nat
  pendCluster : Tab Nat
  pendStitch : Tab Nat
  pendPcs : List Nat
  deriving DecidableEq, Repr

/-- The map of a part without faults, before any merge. -/
def FaultMap.reset : FaultMap :=
  { merges := 0, deadRouters := [], cluster := [], stitch := [], deadPcs := [], pendRouters := []
    pendCluster := [], pendStitch := [], pendPcs := [] }

/-- A router is live. -/
def FaultMap.live (f : FaultMap) (n : Nat) : Bool := !(f.deadRouters.contains n)
/-- Cluster code of a router: 0 fused, 1 half, 2 full; 0 above a dead router (R587, R11). -/
def FaultMap.clusterCode (f : FaultMap) (n : Nat) : Nat := if f.live n then Tab.get 2 f.cluster n else 0
/-- Stitch code of a column. -/
def FaultMap.stitchCode (f : FaultMap) (x : Nat) : Nat := Tab.get 2 f.stitch x
/-- A pseudo-channel is live. -/
def FaultMap.pcLive (f : FaultMap) (pc : Nat) : Bool := !(f.deadPcs.contains pc)

end Sys2Proof.Machine
end

