-- ==== Sys2Proof/Machine/Geometry.lean ====
section
/-! DEFINITION. Where every part of the module sits: routers, tiles, orientations, edge attachments, control
nodes (R12 to R27), buffer addresses (R152) and the router ports of Table 4.6. -/

namespace Sys2Proof.Machine

/-- Routers on the die. -/
def routerCount : Nat := 16384
/-- Router number of (x, y) (R12). -/
def routerAt (x y : Nat) : Nat := 128 * y + x
/-- Column of a router. -/
def routerX (n : Nat) : Nat := n % 128
/-- Row of a router. -/
def routerY (n : Nat) : Nat := n / 128
/-- Index 4i + j of the tile above a router (R14). -/
def tileOf (n : Nat) : Nat := 4 * (routerY n / 32) + routerX n / 32
/-- Footprint origin of a tile (R14). -/
def tileOrigin (t : Nat) : Nat × Nat := (32 * (t % 4), 32 * (t / 4))
/-- Orientation of a tile position: within each 2 × 2 group the north-west, north-east, south-east and south-west
tiles are 0, 1, 2, 3 (R17, Table 1.2). -/
def tileOrientation (t : Nat) : Nat :=
  match (t / 4) % 2, t % 2 with
  | 0, 0 => 0
  | 0, _ => 1
  | _, 0 => 3
  | _, _ => 2
/-- Die router under tile coordinate (u, v) (R18, Table 1.3). -/
def tileCell (t u v : Nat) : Nat :=
  let (x0, y0) := tileOrigin t
  match tileOrientation t with
  | 0 => routerAt (x0 + u) (y0 + v)
  | 1 => routerAt (x0 + 31 - v) (y0 + u)
  | 2 => routerAt (x0 + 31 - u) (y0 + 31 - v)
  | _ => routerAt (x0 + v) (y0 + 31 - u)
/-- Tile coordinates (u, v) of a router (Table 1.3, inverse). -/
def cellOfRouter (n : Nat) : Nat × Nat :=
  let t := tileOf n
  let (x0, y0) := tileOrigin t
  let x := routerX n
  let y := routerY n
  match tileOrientation t with
  | 0 => (x - x0, y - y0)
  | 1 => (y - y0, x0 + 31 - x)
  | 2 => (x0 + 31 - x, y0 + 31 - y)
  | _ => (y0 + 31 - y, x - x0)
/-- The die direction (0 N, 1 E, 2 S, 3 W) that a tile's own port faces (R19, Table 1.4). -/
def tilePortDirection (orientation port : Nat) : Nat := (orientation + port) % 4
/-- A beacon reading, the codes of the four tile groups in clockwise order with BN, BE, BS, BW = 0 to 3; valid when
they run BN, BE, BS, BW from some group g, and then the orientation is (4 − g) mod 4 (R212). -/
def beaconOrientation (codes : List Nat) : Option Nat :=
  if codes = [0, 1, 2, 3] then some 0
  else if codes = [3, 0, 1, 2] then some 3
  else if codes = [2, 3, 0, 1] then some 2
  else if codes = [1, 2, 3, 0] then some 1
  else none
/-- Control node of a router as the endpoint address 16 × cy + cx (R27, Table 5.5). -/
def controlNode (n : Nat) : Nat := 16 * (routerY n / 8) + routerX n / 8
/-- SUB of a router at its control node (Table 5.4). -/
def controlSub (n : Nat) : Nat := 8 * (routerY n % 8) + routerX n % 8
/-- The router that a SUB value addresses at a control node (Table 5.4). -/
def subRouter (node sub : Nat) : Nat := routerAt (8 * (node % 16) + sub % 8) (8 * (node / 16) + sub / 8)
/-- The control node next to a control node in direction 0 N, 1 E, 2 S, 3 W of the 16 × 16 mesh (R27). -/
def controlNeighbour (node dir : Nat) : Option Nat :=
  match dir with
  | 0 => if node < 16 then none else some (node - 16)
  | 1 => if node % 16 = 15 then none else some (node + 1)
  | 2 => if 240 ≤ node then none else some (node + 16)
  | 3 => if node % 16 = 0 then none else some (node - 1)
  | _ => none
/-- The control link crosses the stitch: it joins control rows 7 and 8 (R27). -/
def controlStitch (node dir : Nat) : Bool := (node / 16 == 7 && dir == 2) || (node / 16 == 8 && dir == 0)
/-- The control node to which an endpoint of Table 5.5 is linked: the nearest one, for an attachment by the middle of its rows or
columns (R27). DESIGN CHOICE, log entry 5: the MP and the fuse controller at the middle of host port 0, the telemetry bridge at
the middle of host port 1. -/
def endpointNode (e : Nat) : Option Nat :=
  if e < 256 then some e
  else if e = 0x100 ∨ e = 0x102 then some (16 * 3)
  else if e = 0x101 then some (16 * 11)
  else if 0x110 ≤ e ∧ e ≤ 0x115 then ([16, 16 * 3, 16 * 6, 16 * 8, 16 * 11, 16 * 14] : List Nat)[e - 0x110]?
  else if 0x120 ≤ e ∧ e ≤ 0x12B then
    some (16 * (((if e - 0x120 < 6 then 2 + 10 * (e - 0x120) else 66 + 10 * (e - 0x126)) + 4) / 8) + 15)
  else if 0x130 ≤ e ∧ e ≤ 0x137 then some (4 * ((e - 0x130) % 4) + 1 + if e < 0x134 then 0 else 240)
  else none
/-- Latency of a transfer over h hops (R26). -/
def hopLatency (h : Nat) : Nat := 6 + h
/-- Distance between two routers. -/
def hops (a b : Nat) : Nat :=
  (routerX a - routerX b) + (routerX b - routerX a) + (routerY a - routerY b) + (routerY b - routerY a)

/-- The ports of Table 4.6. -/
def portN : Nat := 0
def portE : Nat := 1
def portS : Nat := 2
def portW : Nat := 3
def portSlice : Nat := 4
def portEdge : Nat := 5
def portBypass : Nat := 6
def portFold : Nat := 7

/-- The neighbour of a router in direction N, E, S, W, where the grid has one. -/
def neighbour (n dir : Nat) : Option Nat :=
  let x := routerX n
  let y := routerY n
  match dir with
  | 0 => if y = 0 then none else some (routerAt x (y - 1))
  | 1 => if x ≥ 127 then none else some (routerAt (x + 1) y)
  | 2 => if y ≥ 127 then none else some (routerAt x (y + 1))
  | 3 => if x = 0 then none else some (routerAt (x - 1) y)
  | _ => none

/-- The direction facing back. -/
def opposite (dir : Nat) : Nat := (dir + 2) % 4

/-- Edge attachments, numbered as the restricted-attachment bits of R587: H0 to H7 are 0 to 7, the west
attachments in the row order of Table 1.5 are 8 to 13, L0 to L11 are 14 to 25. -/
def hbmAttachment (k : Nat) : Nat := k
def latticeAttachment (p : Nat) : Nat := 14 + p

/-- The west attachment of a row (R22, Table 1.5). -/
def westAttachment (y : Nat) : Nat :=
  if y ≤ 15 then 8 else if y ≤ 47 then 9 else if y ≤ 63 then 10 else if y ≤ 79 then 11
  else if y ≤ 111 then 12 else 13

/-- The Lattice port of an east row (R23, R24, Table 1.6). -/
def eastPort (y : Nat) : Option Nat :=
  if 2 ≤ y ∧ y ≤ 61 then some ((y - 2) / 10)
  else if 66 ≤ y ∧ y ≤ 125 then some (6 + (y - 66) / 10)
  else none

/-- First row of a Lattice port. -/
def latticeRow0 (p : Nat) : Nat := if p < 6 then 2 + 10 * p else 66 + 10 * (p - 6)

/-- The stack whose rim a router of row 0 or 127 belongs to (R20). -/
def stackOfRim (n : Nat) : Option Nat :=
  if routerY n = 0 then some (routerX n / 32)
  else if routerY n = 127 then some (4 + routerX n / 32)
  else none

/-- The rim router of stack k in its column c, 0 to 31 (R20, R21). -/
def rimRouter (k c : Nat) : Nat := routerAt (32 * (k % 4) + c) (if k < 4 then 0 else 127)

/-- Home rim router of a module pseudo-channel number (R21, R271). -/
def homeRim (pc : Nat) : Nat := rimRouter (pc / 32) (pc % 32)

/-- The attachment behind a router's EDGE port, where it has one (Table 5.2): at the corners on the west edge
EDGE is the HBM port and W names the west attachment. -/
def edgeAttachment (n : Nat) : Option Nat :=
  match stackOfRim n with
  | some k => some (hbmAttachment k)
  | none =>
    if routerX n = 0 then some (westAttachment (routerY n))
    else if routerX n = 127 then (eastPort (routerY n)).map latticeAttachment
    else none

/-- The four corners that serve an HBM stack. -/
def isWestCorner (n : Nat) : Bool := n == 0 || n == routerAt 0 127

/-- The rim routers of an attachment. -/
def attachmentRouters (a : Nat) : List Nat :=
  if a < 8 then (rangeFrom 0 32).map (rimRouter a)
  else if a < 14 then ((rangeFrom 0 128).filter fun y => westAttachment y == a).map (routerAt 0)
  else (rangeFrom (latticeRow0 (a - 14)) 10).map (routerAt 127)

/-- The inward neighbour that a rim bypass of router n joins, for the attachment of the same event: at the west
corners the HBM bypass runs along the column and the west bypass along the row (R25). -/
def bypassInward (n : Nat) (west : Bool) : Option Nat :=
  if isWestCorner n then
    (if west then some (routerAt 1 (routerY n))
     else some (routerAt 0 (if n == 0 then 1 else 126)))
  else if routerY n = 0 then some (routerAt (routerX n) 1)
  else if routerY n = 127 then some (routerAt (routerX n) 126)
  else if routerX n = 0 then some (routerAt 1 (routerY n))
  else if routerX n = 127 ∧ (eastPort (routerY n)).isSome then some (routerAt 126 (routerY n))
  else none

/-- The rim router at the far end of a bypass that arrives at an inward router; `bsel` selects among two
(Table 5.2). -/
def bypassOutward (n : Nat) (bsel : Bool) : Option Nat :=
  let x := routerX n
  let y := routerY n
  if n == routerAt 0 1 then some 0
  else if n == routerAt 0 126 then some (routerAt 0 127)
  else if n == routerAt 1 0 then some 0
  else if n == routerAt 1 127 then some (routerAt 0 127)
  else if n == routerAt 1 1 then some (if bsel then routerAt 1 0 else routerAt 0 1)
  else if n == routerAt 1 126 then some (if bsel then routerAt 1 127 else routerAt 0 126)
  else if y = 1 then some (routerAt x 0)
  else if y = 126 then some (routerAt x 127)
  else if x = 1 then some (routerAt 0 y)
  else if x = 126 ∧ (eastPort y).isSome then some (routerAt 127 y)
  else none

/-- A slice line as one number: router × 768 + line. -/
def sliceLine (router line : Nat) : Nat := router * 768 + line
/-- First byte of a slice line in the buffer memory of State, slice-major (R152). -/
def sliceByte (router line : Nat) : Nat := router * 49152 + line * 64

/-- A buffer address of Table 5.3, resolved. -/
structure BufLoc where
  router : Nat
  line : Nat
  byte : Nat
  deriving DecidableEq, Repr

/-- Bit 31 of a buffer address is reserved (R151). -/
def bufAddrReserved (a : Nat) : Bool := bits a 31 1 != 0
/-- The offset lies inside the 768 MiB view (R151). -/
def bufAddrInRange (a : Nat) : Bool := decide (bits a 0 30 < 0x30000000)
/-- The location that a buffer address names (R152). -/
def bufLocate (a : Nat) : BufLoc :=
  let o := bits a 0 30
  if bits a 30 1 = 0 then ⟨o / 49152, (o % 49152) / 64, o % 64⟩
  else ⟨(o / 64) % 16384, (o / 64) / 16384, o % 64⟩

/-- A rectangle of tiles: COL0, ROW0, COLS, ROWS (R102, R129). -/
structure Rect where
  col0 : Nat
  row0 : Nat
  cols : Nat
  rows : Nat
  deriving DecidableEq, Repr

/-- A router lies inside a rectangle of tile footprints. -/
def Rect.hasRouter (r : Rect) (n : Nat) : Bool :=
  decide (32 * r.col0 ≤ routerX n) && decide (routerX n < 32 * (r.col0 + r.cols)) &&
  decide (32 * r.row0 ≤ routerY n) && decide (routerY n < 32 * (r.row0 + r.rows))

/-- A tile lies inside a rectangle. -/
def Rect.hasTile (r : Rect) (t : Nat) : Bool :=
  decide (r.col0 ≤ t % 4) && decide (t % 4 < r.col0 + r.cols) &&
  decide (r.row0 ≤ t / 4) && decide (t / 4 < r.row0 + r.rows)

/-- The tiles of a rectangle. -/
def Rect.tiles (r : Rect) : List Nat := (rangeFrom 0 16).filter r.hasTile

/-- A stack belongs to the partition that holds the tile above its rim (R104). -/
def Rect.hasStack (r : Rect) (k : Nat) : Bool := r.hasRouter (rimRouter k 0)

/-- A pseudo-channel belongs to the partition of its stack. -/
def Rect.hasPc (r : Rect) (pc : Nat) : Bool := r.hasStack (pc / 32)

/-- A Lattice port lies within one tile row at the east edge (R104). -/
def Rect.hasPort (r : Rect) (p : Nat) : Bool := r.hasRouter (routerAt 127 (latticeRow0 p))

/-- A link from router n in a direction is sealed: it leaves the rectangle (R103). -/
def Rect.seals (r : Rect) (n dir : Nat) : Bool :=
  match neighbour n dir with
  | some m => !(r.hasRouter m)
  | none => false

end Sys2Proof.Machine
end

