-- ==== Sys2Proof/Machine/Image.lean ====
section
/-! DEFINITION. A Carul image as data: the parsed sections of Tables 4.1 to 4.10. Fields keep the numbers of the
layout, so a reserved value stays visible to the validator. -/

namespace Sys2Proof.Machine

/-- A router event record (Table 4.4). -/
structure Event where
  tick : Nat
  kind : Nat
  inp : Nat
  out : Nat
  line : Nat
  lstep : Int
  rep : Nat
  stride : Nat
  tree : Nat
  treeValid : Bool
  ctx : Bool
  bsel : Bool
  arg : Nat
  deriving DecidableEq, Repr

/-- The event kinds of Table 4.5. -/
def kLink : Nat := 1
def kRead : Nat := 2
def kWrite : Nat := 3
def kIndexLoad : Nat := 4
def kGather : Nat := 5
def kScatter : Nat := 6
def kDispatch : Nat := 7
def kFold : Nat := 8
def kRng : Nat := 9
def kUpdate : Nat := 10

/-- Tick offset of occurrence i (R121). -/
def Event.offset (e : Event) (i : Nat) : Nat := e.tick + i * e.stride

/-- The events of one router in one frame pattern. -/
structure RouterEvents where
  router : Nat
  events : List Event
  deriving DecidableEq, Repr

/-- A frame pattern: router lists in ascending router order. -/
abbrev Pattern := List RouterEvents

/-- An index window of a slice (Table 4.9). -/
structure IndexWindow where
  id : Nat
  base : Nat
  sizeM1 : Nat
  indexLine : Nat
  ctx : Bool
  deriving DecidableEq, Repr

/-- A slice entry (Table 4.9); TOUCH and PERSIST are bitmaps of 768 lines. -/
structure SliceEntry where
  router : Nat
  touch : Nat
  persist : Nat
  ctxBase : List Nat
  ctxSpan : Nat
  windows : List IndexWindow
  deriving DecidableEq, Repr

/-- A pattern run (Table 4.8). -/
structure PatternRun where
  pattern : Nat
  countM1 : Nat
  yieldAtEnd : Bool
  deriving DecidableEq, Repr

/-- A variant entry (Table 4.7). -/
structure Variant where
  frames : Nat
  runs : List PatternRun
  chosen : Bool
  next : Nat
  set : Nat
  deriving DecidableEq, Repr

/-- An HBM cell record (Table 4.9). -/
structure CellRec where
  pattern : Nat
  cell : Nat
  kind : Nat
  rim : Nat
  ctx : Bool
  cellsM1 : Nat
  addr : Nat
  deriving DecidableEq, Repr

/-- The records of one pseudo-channel. -/
structure PcRec where
  pc : Nat
  ctxRow : List Int
  cells : List CellRec
  deriving DecidableEq, Repr

/-- A host transfer record (Table 4.9). -/
structure HostRec where
  pattern : Nat
  tick : Nat
  dir : Nat
  row : Nat
  buf : Nat
  beatsM1 : Nat
  offset : Nat
  deriving DecidableEq, Repr

/-- A Sprinkle tree: (router, outs) nodes (Table 4.9). -/
structure Tree where
  id : Nat
  nodes : List (Nat × Nat)
  deriving DecidableEq, Repr

/-- One step of a Fold program. -/
structure FoldStepRec where
  router : Nat
  first : Nat
  second : Nat
  deriving DecidableEq, Repr

/-- A Fold program (Table 4.9). -/
structure FoldProg where
  id : Nat
  type : Nat
  sr : Bool
  steps : List FoldStepRec
  deriving DecidableEq, Repr

/-- The fault-map dependency: router bitmap, cluster codes, stitch codes, pseudo-channel bitmap (Table 4.9). -/
structure FaultDep where
  routers : Nat
  clusters : Nat
  stitch : Nat
  pcs : Nat
  deriving DecidableEq, Repr

/-- An operation class: number, latency and port pattern (Table 4.9, R215). -/
structure OpClass where
  cls : Nat
  latency : Nat
  ports : Nat
  deriving DecidableEq, Repr

/-- Operand line reads of a class (Table 7.8). -/
def OpClass.rd (c : OpClass) : Nat := bits c.ports 0 5
/-- Result line writes of a class. -/
def OpClass.wr (c : OpClass) : Nat := bits c.ports 5 5
/-- Offset of the first result line. -/
def OpClass.woff (c : OpClass) : Nat := bits c.ports 10 6
/-- A class entry is valid (R215). -/
def OpClass.valid (c : OpClass) : Bool :=
  decide (4 ≤ c.latency) && decide (c.latency ≤ 65535) && decide (c.rd + 1 ≤ c.latency) &&
  decide (c.latency + c.wr ≤ 65536)

/-- The TILEREQ section. -/
structure TileReq where
  vendor : Nat
  minRev : Nat
  classes : List OpClass
  deriving DecidableEq, Repr

/-- A cross-module window record (Table 4.9). -/
structure LatRec where
  pattern : Nat
  tick : Nat
  port : Nat
  dir : Nat
  peer : Nat
  bound : Nat
  beatsM1 : Nat
  deriving DecidableEq, Repr

/-- A TRAIN descriptor (Table 4.9). -/
structure TrainDesc where
  id : Nat
  op : Nat
  outfmt : Nat
  key : Nat
  ctrBase : Nat
  paramLine : Nat
  deriving DecidableEq, Repr

/-- The header fields of Table 4.1 that the device uses after loading. -/
structure ImageHeader where
  length : Nat
  lattice : Bool
  buildId : Nat
  rect : Rect
  variants : Nat
  contexts : Nat
  refresh : Nat
  floor : Nat
  budget : Nat
  fmax : Nat
  bIn : Nat
  hOut : Nat
  brRouter : Nat
  brLine : Nat
  brWord : Nat
  brCtx : Bool
  idlePattern : Nat
  deriving DecidableEq, Repr

/-- A parsed image. -/
structure Image where
  hdr : ImageHeader
  patterns : List Pattern
  slices : List SliceEntry
  variants : List Variant
  hbm : List PcRec
  host : List HostRec
  trees : List Tree
  folds : List FoldProg
  dep : FaultDep
  tileReq : TileReq
  lattice : List LatRec
  masks : List Nat
  train : List TrainDesc
  deriving DecidableEq, Repr

/-- An image without content: the value of the image field of a slot that holds none. -/
def Image.empty : Image :=
  { hdr := ⟨0, false, 0, ⟨0, 0, 0, 0⟩, 0, 0, 0, 0, 0, 0, 0, 0, 0, 0, 0, false, 0⟩
    patterns := [], slices := [], variants := [], hbm := [], host := [], trees := [], folds := []
    dep := ⟨0, 0, 0, 0⟩, tileReq := ⟨0, 0, []⟩, lattice := [], masks := [], train := [] }

/-- The events of a router in a pattern; a router absent from the list has none (R120). -/
def Image.events (im : Image) (pattern router : Nat) : List Event :=
  match im.patterns[pattern]? with
  | none => []
  | some p => match p.find? (fun re => re.router == router) with
    | none => []
    | some re => re.events

/-- The slice entry of a router. -/
def Image.slice (im : Image) (router : Nat) : Option SliceEntry :=
  im.slices.find? fun e => e.router == router

/-- The base line of context c in a router's slice (R123). -/
def Image.ctxBase (im : Image) (router c : Nat) : Nat :=
  match im.slice router with
  | none => 0
  | some e => e.ctxBase[c]?.getD 0

/-- The line of occurrence i of an event: LINE + i × LSTEP, relocated by the context when CTX is set (R121,
R123). -/
def Image.lineOf (im : Image) (router c : Nat) (e : Event) (i : Nat) : Nat :=
  ((e.line : Int) + i * e.lstep).toNat + if e.ctx then im.ctxBase router c else 0

/-- An index window of a slice by its ID. -/
def Image.window (im : Image) (router id : Nat) : Option IndexWindow :=
  match im.slice router with
  | none => none
  | some e => e.windows.find? fun w => w.id == id

/-- A Fold program by its ID. -/
def Image.foldProg (im : Image) (id : Nat) : Option FoldProg := im.folds.find? fun p => p.id == id

/-- A TRAIN descriptor by its ID. -/
def Image.trainDesc (im : Image) (id : Nat) : Option TrainDesc := im.train.find? fun d => d.id == id

/-- A write mask: index 0 is all 64 bytes, entry i is index i + 1 (Table 4.5, Table 4.9). -/
def Image.mask (im : Image) (k : Nat) : Nat := if k = 0 then 2 ^ 64 - 1 else im.masks[k - 1]?.getD 0

/-- An operation class of TILEREQ. -/
def Image.opClass (im : Image) (c : Nat) : Option OpClass := im.tileReq.classes.find? fun k => k.cls == c

/-- The step of program P that the n-th FOLD event at a router matches: the steps with ROUTER = r in step order
against the events in ascending TICK (R186). -/
def Image.foldStep (im : Image) (p : FoldProg) (pattern router n : Nat) : Option FoldStepRec :=
  let before := (im.events pattern router).take n |>.filter fun e => e.kind == kFold && e.arg == p.id
  (p.steps.filter fun st => st.router == router)[before.length]?

/-- The pattern run that covers frame f of a variant, with whether f is its last frame. -/
def runAt : List PatternRun → Nat → Option (PatternRun × Bool)
  | [], _ => none
  | r :: t, f => if f ≤ r.countM1 then some (r, f == r.countM1) else runAt t (f - (r.countM1 + 1))

/-- The pattern of frame f of a variant. -/
def Image.patternAt (im : Image) (variant f : Nat) : Option Nat :=
  match im.variants[variant]? with
  | none => none
  | some v => (runAt v.runs f).map fun x => x.1.pattern

/-- Frame f of a variant is a yield frame (Table 4.8). -/
def Image.isYield (im : Image) (variant f : Nat) : Bool :=
  match im.variants[variant]? with
  | none => false
  | some v => match runAt v.runs f with
    | none => false
    | some (r, last) => last && r.yieldAtEnd

/-- The parameter lines that RNG and UPDATE events name, with their slices (R502). -/
def Image.paramLines (im : Image) : List (Nat × Nat) :=
  (im.patterns.flatMap fun p => p.flatMap fun re => re.events.filterMap fun e =>
    if e.kind = kRng ∨ e.kind = kUpdate then (im.trainDesc e.arg).map fun d => (re.router, d.paramLine) else none).eraseDups

/-- The pseudo-channels that an image uses: those FAULTDEP relies on (Table 4.3). -/
def Image.usesPc (im : Image) (pc : Nat) : Bool := bit1 im.dep.pcs pc

/-- The pseudo-channels used, as a list. -/
def Image.pcs (im : Image) : List Nat := (rangeFrom 0 256).filter im.usesPc

end Sys2Proof.Machine
end

