-- ==== Sys2Proof/Machine/StOut.lean ====
section
/-! DEFINITION. What the device sends out. State keeps everything sent, in order: the model's own field, by which a
statement can say what the host, a tile, a drive, a peer or the platform receives. -/

namespace Sys2Proof.Machine

/-- A beat on a link (Table 5.1). -/
structure Beat where
  data : LineData
  par : BitVec 8
  poison : Bool
  valid : Bool
  deriving DecidableEq, Repr

/-- An idle beat (R144). -/
def Beat.idle : Beat := ⟨0, 0, false, false⟩

/-- The PAR field of a line: even parity of each 8-byte word (Table 5.1). -/
def lineParity (d : LineData) : BitVec 8 :=
  BitVec.ofNat 8 (packElems' (fun i => if evenParity (bits d.toNat (64 * i) 64) 64 then 1 else 0) 8)
where
  /-- bits from a function, bit i from f i -/
  packElems' (f : Nat → Nat) : Nat → Nat
    | 0 => 0
    | n + 1 => packElems' f n + f n * 2 ^ n

/-- A valid beat with good parity. -/
def Beat.of (d : LineData) (poison : Bool) : Beat := ⟨d, lineParity d, poison, true⟩

/-- The parity of a beat checks (R145). -/
def Beat.parityOk (b : Beat) : Bool := b.par == lineParity b.data

/-- Something the device sends. -/
inductive Output
  /-- a data write to host memory with a function's requester ID: address, length in bytes, data, poisoned TLP, and the No Snoop
  and Relaxed Ordering attributes (R307, R321) -/
  | hostWrite (fn addr len : Nat) (data : Nat) (poison ns rlx : Bool)
  /-- a read of host memory with a function's requester ID, and its No Snoop attribute -/
  | hostRead (fn addr len : Nat) (ns : Bool)
  /-- a completion entry, written with Relaxed Ordering clear: function, ring, entry index, its address, the 32-byte entry of
  Table 10.10 (R337, R339) -/
  | completion (fn ring index addr : Nat) (entry : Nat)
  /-- an MSI-X message of a function's vector, sent with Relaxed Ordering clear (R337, R340) -/
  | msix (fn vec : Nat)
  /-- an MCI response: endpoint, opcode, tag, status code, DETAIL, response length and parameters (Table 11.2) -/
  | mciResponse (who op tag status detail len params : Nat)
  /-- a NOTIFY to a subscriber: medium, EID, class, reason, unit (R364) -/
  | notify (medium eid cls reason unit : Nat)
  /-- an MCTP control answer on a medium, to an endpoint ID -/
  | mctpAnswer (medium eid : Nat) (content : Nat)
  /-- an SPDM answer on a transport -/
  | spdmAnswer (transport eid : Nat) (content : Nat)
  /-- a dispatch packet on the CTL group above a router, and its lanes (Table 7.7, R241) -/
  | dispatch (router : Nat) (packet : Nat) (lanes : BitVec 54)
  /-- an operand beat on the DN group above a router, and the group's lanes in its one or two ticks (R244) -/
  | operand (router : Nat) (beat : Beat) (lanes : List (BitVec 564))
  /-- a beat delivered by a rim router's edge port to its attachment -/
  | edgeBeat (router : Nat) (beat : Beat)
  /-- a DISCOVERY message to a tile: SUB, SEQ, CHUNK, content and its bytes (Table 7.11), and the service port's lanes clock by
  clock (R222) -/
  | tileMsg (tile sub seq chunk content bytes : Nat) (clocks : List (BitVec 78))
  /-- a control packet: header (Table 5.4) and payload words -/
  | ctlPacket (header : BitVec 64) (words : List Nat)
  /-- the last word of a packet leaves a control node on a link -/
  | ctlForward (node dir : Nat) (header : BitVec 64)
  /-- a control word resent on a control link -/
  | ctlResend (node dir : Nat)
  /-- a TELEMETRY packet injected by an endpoint -/
  | telemetry (endpoint : Nat) (content : Nat)
  /-- a DRAM command of a pseudo-channel: 0 PREab, 1 REFab, 2 ACT of the open stripe, 3 self-refresh entry,
  4 self-refresh exit -/
  | dram (pc cmd arg : Nat)
  /-- a drive command: drive, 0 read, 1 write, 2 flush, 3 abort, 4 writes of zeros to a GiB; the 4 KiB drive block, and the data
  of a write -/
  | driveCmd (drive cmd block data : Nat)
  /-- a CXL.mem response on the pool port: requester, tag, kind (0 data, 1 completion), data, poison -/
  | cxlResp (who tag kind : Nat) (data : LineData) (poison : Bool)
  /-- a CXL.mem forward or a pool request toward a module -/
  | latReq (dest op tag : Nat) (content : Nat)
  /-- a flit on a Lattice port: class and content -/
  | flit (port cls seq : Nat) (content : Nat)
  /-- a Lattice control message flooded or sent: port, MSG, content -/
  | ctrlMsg (port msg : Nat) (content : Nat)
  /-- a configuration completion on a host port: port, function, 0 completed, 1 Request Retry Status -/
  | cfgCompletion (port fn status : Nat)
  /-- a Device Readiness Status message on a host port -/
  | readiness (port : Nat)
  /-- data returned by a register read: function, offset, value -/
  | regData (fn offset : Nat) (value : Nat)
  /-- Unsupported Request for a memory request of a function -/
  | unsupported (fn : Nat)
  /-- an offer (or a release) of a region's extents to a host, through the Dynamic Capacity flows (R427) -/
  | capacity (tag pbr : Nat) (offer : Bool)
  /-- the control extent is offered to a host, or released from it (R418) -/
  | controlExtent (pbr : Nat) (offer : Bool)
  /-- an unexpected absence: poison returned on a read -/
  | poisonRead (who tag : Nat)
  deriving DecidableEq, Repr

end Sys2Proof.Machine
end

