-- ==== Sys2Proof/Machine/StPlane.lean ====
section
/-! DEFINITION. State of the scheduled plane and the shared buffer: runs, partitions, image slots, pipelines,
Fold adders, slices and control ports (chapters 03 to 06 and 15). -/

namespace Sys2Proof.Machine

/-- A buffer list entry (Table 10.7). -/
structure BufEntry where
  addr : Nat
  len : Nat
  rd : Bool
  wr : Bool
  ns : Bool
  rlx : Bool
  deriving DecidableEq, Repr

/-- The successor that a branch read chose (R97, R98). -/
inductive Choice
  /-- no branch read yet -/
  | pending
  /-- the named variant starts at the boundary -/
  | variant (n : Nat)
  /-- END was set -/
  | ends
  /-- the branch word lies outside the successor set -/
  | bad
  deriving DecidableEq, Repr

/-- A beat of host input data waiting in the hold buffer (R109): run frame, record index, beat index, data, failed. -/
structure HostHold where
  frame : Nat
  recIdx : Nat
  beat : Nat
  data : LineData
  failed : Bool
  deriving DecidableEq, Repr

/-- One admitted execution of an image (R73 to R75, R133). -/
structure Run where
  fn : Nat
  ring : Nat
  /-- number of the item's consumption -/
  ticket : Nat
  seq : BitVec 32
  user : BitVec 32
  /-- the item does not count toward interrupt moderation (Table 10.4) -/
  silent : Bool
  /-- window generation at admission (R326) -/
  gen : BitVec 64
  slot : Nat
  ctx : Nat
  variant : Nat
  /-- frame within the variant -/
  frame : Nat
  /-- run frame (R73) -/
  runFrame : Nat
  /-- patterns of the run's last 16 frames, newest first -/
  past : List Nat
  choice : Choice
  result : BitVec 16
  /-- out-of-range count (R94) -/
  oor : BitVec 32
  bufs : List BufEntry
  hostData : List HostHold
  hostLate : Bool
  hostAbort : Bool
  /-- a beat was written to the host poisoned (R334) -/
  poisoned : Bool
  /-- pending early end: the completion status of Table 10.11 -/
  breach : Option Nat
  /-- ends without a completion: its function was reset (R341) -/
  dropped : Bool
  /-- a WINDOW_LATE entry was already written for this run (R484) -/
  lateNoted : Bool
  /-- frame number of admission -/
  admitted : Nat
  deriving DecidableEq, Repr

/-- A beat in an input register: router, port, beat and the partition tick in which it arrived (R143). -/
structure Arrival where
  router : Nat
  port : Nat
  beat : Beat
  at_ : Nat
  deriving DecidableEq, Repr

/-- The gathered data of an UPDATE event in flight (R507). -/
structure UpdJob where
  router : Nat
  line : Nat
  desc : TrainDesc
  /-- tick offset, run frame and context of the event, for the generator's counter (R503) -/
  offset : Nat
  runFrame : Nat
  ctx : Nat
  /-- the gradient as 32 binary32 elements -/
  grad : BitVec 1024
  gradPoison : Bool
  /-- parameter line bytes 0 to 23 and whether one of their words is poisoned -/
  params : Nat
  paramPoison : Bool
  /-- the two master lines as read -/
  m0 : LineData
  m0Poison : Bool
  m1 : LineData
  m1Poison : Bool
  deriving DecidableEq, Repr

/-- Pipeline work that takes effect at the end of a later partition tick. -/
inductive Work
  /-- an operand line read of a dispatch (R216) -/
  | dispRead (router line : Nat)
  /-- a reserved result write of a dispatch (R216) -/
  | dispWrite (router line : Nat)
  /-- the slice write of an RNG event (R504) -/
  | rngWrite (router line quarter : Nat) (bits : BitVec 128) (poison : Bool)
  /-- the second master read of an UPDATE event (Table 15.5) -/
  | updRead (job : UpdJob)
  /-- a write of an UPDATE event: 0, 1 or 2 lines after LINE -/
  | updWrite (job : UpdJob) (k : Nat)
  /-- delivery of a Fold result: the event's IN and OUT, accumulator form, element type, SR (R147, R184) -/
  | foldOut (router inp outs : Nat) (acc : BitVec 1024) (type : Nat) (sr poison bsel : Bool)
  deriving DecidableEq, Repr

/-- Work with its partition tick. -/
structure Due where
  at_ : Nat
  work : Work
  deriving DecidableEq, Repr

/-- An array read by a READ event, held by the merge stage (R174). -/
structure MergeRead where
  router : Nat
  line : Nat
  ctx : Bool
  at_ : Nat
  beat : Beat
  /-- made by a READ event, not by a GATHER: only such a read leads (R175) -/
  byRead : Bool
  deriving DecidableEq, Repr

/-- A write seen by the merge rules: the lines [lo, lo + n) that it counts for in R175, and the line that it did commit to,
which alone counts in R177. -/
structure RecentWrite where
  router : Nat
  lo : Nat
  n : Nat
  hit : Option Nat
  at_ : Nat
  /-- made through the control port: seen by the dynamic rule of R177 alone -/
  control : Bool
  deriving DecidableEq, Repr

/-- Generator output held for a Fold adder (R190). -/
structure FoldBits where
  router : Nat
  at_ : Nat
  bits : BitVec 128
  poison : Bool
  deriving DecidableEq, Repr

/-- The pipelines of one partition, keyed by its own tick (R61). -/
structure Pipe where
  arrivals : List Arrival
  due : List Due
  reads : List MergeRead
  writes : List RecentWrite
  foldBits : List FoldBits
  /-- beats that left through edge ports, by rim router, port and tick -/
  edge : List Arrival
  deriving DecidableEq, Repr

/-- Empty pipelines. -/
def Pipe.empty : Pipe := ⟨[], [], [], [], [], []⟩

/-- One partition (R60 to R65, R112, R129 to R135). -/
structure Part where
  /-- the slot bound here -/
  slot : Option Nat
  /-- a bind accepted and its tick (R130) -/
  binding : Option (Nat × Nat)
  /-- an unbind accepted; FORCE (R131) -/
  unbinding : Option Bool
  /-- a partition reset accepted (R570) -/
  resetPend : Bool
  parked : Bool
  /-- held after a breach (R112) -/
  held : Bool
  /-- a breach of this frame holds the partition from the next boundary (Table 3.8) -/
  holdPend : Bool
  /-- the partition's own tick counter (R61) -/
  ptick : Nat
  run : Option Run
  /-- the pattern of the frame before the present one, unless the partition was parked or without an image (R285) -/
  lastPattern : Option Nat
  /-- the boundary ended a yield frame of the executing run (R100, R133) -/
  yielding : Bool
  /-- suspended runs in admission order (R133) -/
  suspended : List Run
  /-- first tick since which the setting has been at or above the floor (R64) -/
  okSince : Nat
  /-- consecutive boundaries, up to 17, since which every stack has permitted the refresh class: 0 for none, n + 1 for n whole
  frames (R89) -/
  permitFrames : Nat
  /-- the current frame is a preparation frame for the next boundary (R64, R87) -/
  prep : Bool
  /-- a debt breach parks the partition at the next boundary (Table 3.8) -/
  debtBreach : Bool
  /-- idle state 0 ACTIVE, 1 GATED, 2 PARKED, 3 SELF_REFRESH (Table 16.7) -/
  idleState : Nat
  /-- consecutive idle frames (R541) -/
  idleFrames : Nat
  /-- an idle-state exit is in progress (R542) -/
  exiting : Bool
  /-- wall time in ps, plus 1, at which QUIESCE was last sent to the partition's tiles; for 10 µs unreserved beats are
  discarded (R234) -/
  quiesceAt : Nat
  /-- the partition waits for its rejoin conditions (R486) -/
  rejoin : Bool
  pipe : Pipe
  deriving DecidableEq, Repr

/-- A partition without an image. -/
def Part.reset : Part :=
  { slot := none, binding := none, unbinding := none, resetPend := false, parked := false, held := false, holdPend := false
    ptick := 0, run := none, lastPattern := none, yielding := false, suspended := [], okSince := 0, permitFrames := 17, prep := false
    debtBreach := false, idleState := 0, idleFrames := 0, exiting := false, quiesceAt := 0, rejoin := false
    pipe := Pipe.empty }

/-- Slot states (Table 4.14). -/
inductive SlotState
  | empty
  | loading
  | valid
  | binding
  | bound
  | unbinding
  | invalid
  deriving DecidableEq, Repr

/-- The encoding of a slot state (Table 4.14). -/
def SlotState.code : SlotState → Nat
  | .empty => 0 | .loading => 1 | .valid => 2 | .binding => 3 | .bound => 4 | .unbinding => 5 | .invalid => 6

/-- One of the eight image slots (R127). -/
structure Slot where
  state : SlotState
  image : Image
  /-- last rejection report (Table 4.13) -/
  report : Nat
  /-- function that loaded it (R394) -/
  loader : Nat
  /-- generation under which its load was accepted (Table 12.4) -/
  gen : BitVec 64
  /-- request of the load in progress: endpoint and tag -/
  loadWho : Nat
  loadTag : Nat
  /-- LENGTH of the load in progress, and the loader's HBM entries and quota at its acceptance (R394) -/
  loadLen : Nat
  loadHbm : List Nat
  loadQuota : Nat
  deriving DecidableEq, Repr

/-- An EMPTY slot. -/
def Slot.reset : Slot :=
  { state := .empty, image := Image.empty, report := 0, loader := 0, gen := 0, loadWho := 0, loadTag := 0, loadLen := 0
    loadHbm := [], loadQuota := 0 }

/-- Index-window state of a slice: the entries of the last index line read and the next one (R93). -/
structure IndexState where
  entries : LineData
  next : Nat
  deriving DecidableEq, Repr

/-- A control-port request waiting at a slice (R150). -/
structure CtlReq where
  router : Nat
  line : Nat
  write : Bool
  data : LineData
  mask : LineMask
  origin : Origin
  /-- module tick of arrival -/
  arrived : Nat
  deriving DecidableEq, Repr

/-- A write of a line: data, byte mask, poison. -/
structure LineWrite where
  data : LineData
  mask : LineMask
  poison : Bool
  deriving DecidableEq, Repr

/-- What a slice line held before the accesses of one tick, and the writes of that tick: those of the control port are applied
first and those of the scheduled port second, whatever order they came in (R81, R150, R167, R168). -/
structure TickLine where
  key : Nat
  at_ : Nat
  before : LineData
  beforePoison : Nat
  beforeSingle : Nat
  ctl : List LineWrite
  sched : List LineWrite
  deriving DecidableEq, Repr

/-- A slice's mirror of bytes 0 to 23 of a parameter line: the line's key, the bytes and bad words 0 to 2 as they stand, as they
stood before the tick of the last write, and that tick (R502, R512). -/
structure Mirror where
  key : Nat
  now : Nat
  nowBad : Nat
  old : Nat
  oldBad : Nat
  at_ : Nat
  deriving DecidableEq, Repr

/-- Fold accumulator of a router (R183). -/
structure FoldAcc where
  value : BitVec 1024
  poison : Bool
  deriving DecidableEq, Repr

/-- The shared buffer and its control ports. -/
structure Buf where
  /-- 768 MiB, slice-major byte addresses (R152) -/
  mem : Memory
  /-- per line, the words marked poisoned or uncorrectable, bit w for word w (R163) -/
  bad : Tab Nat
  /-- per line, the words that hold a single-bit error, bit w for word w (R163) -/
  single : Tab Nat
  tickLines : List TickLine
  ctlQueue : List CtlReq
  /-- per slice, the tick of the last control-port commit plus 1; 0 before the first (R150) -/
  ctlLast : Tab Nat
  /-- per slice, the scrubber's next line in order (R165) -/
  scrubPos : Tab Nat
  /-- lines queued for the scrubber: router × 768 + line (R163) -/
  scrubQueue : List Nat
  /-- per slice, the tick of its last scrub visit -/
  scrubLast : Tab Nat
  /-- interval exponent e (R165) -/
  scrubExp : Nat
  /-- slices in stand-alone test: router numbers (R169) -/
  inTest : List Nat
  /-- index windows: router × 16 + window (R93) -/
  index : Tab IndexState
  /-- Fold accumulators by router -/
  acc : Tab FoldAcc
  /-- per line, the bad words already counted (R173) -/
  counted : Tab Nat
  /-- slices whose first uncorrectable word was reported since the MP last cleared their count (R166) -/
  firstBad : List Nat
  /-- events whose input held an idle beat, and valid beats that no event named, by router (R143, R171) -/
  idleOps : Tab Nat
  discards : Tab Nat
  /-- the slices' mirrors of their parameter lines, up to 4 a slice (R502) -/
  mirrors : List Mirror
  deriving DecidableEq, Repr

/-- No index line read. -/
def IndexState.none : IndexState := ⟨0, 32⟩
/-- A zero accumulator. -/
def FoldAcc.zero : FoldAcc := ⟨0, false⟩

/-- The buffer as a cold reset leaves it: every line zero with valid check codes (Table 17.2 step 6). -/
def Buf.reset : Buf :=
  { mem := [], bad := [], single := [], tickLines := [], ctlQueue := [], ctlLast := [], scrubPos := []
    scrubQueue := [], scrubLast := [], scrubExp := 16, inTest := [], index := [], acc := [], counted := [], firstBad := []
    idleOps := [], discards := [], mirrors := [] }

/-- What a descriptor beat configures (Table 6.2); `bad`: it holds a reserved value (R197). -/
structure CompDesc where
  mode : Nat
  etype : Nat
  resid : Bool
  k : Nat
  blocks : Nat
  bad : Bool
  deriving DecidableEq, Repr

/-- MODE 0. -/
def CompDesc.reset : CompDesc := ⟨0, 0, false, 0, 0, false⟩

/-- A block record that waits for its handover: partition tick, bytes and their number, poison, and whether it is the
window's last (R195). -/
structure CompRec where
  at_ : Nat
  bytes : Nat
  len : Nat
  poison : Bool
  last : Bool
  deriving DecidableEq, Repr

/-- A dense beat of the present block: entry tick, rim router, beat. -/
structure DenseBeat where
  at_ : Nat
  router : Nat
  beat : Beat
  deriving DecidableEq, Repr

/-- One direction of a Lattice port's compressor (R191 to R201). -/
structure Comp where
  /-- in force for the present window -/
  desc : CompDesc
  /-- from the next window on -/
  next : Option CompDesc
  /-- a descriptor fault: the direction reverts to MODE 0 after the window (R197) -/
  fault : Bool
  /-- the present window: index of its LATTICE record, its peer, wire beats and stamp -/
  window : Option (Nat × Nat × Nat × BitVec 32)
  /-- the latest window that opened: index of its record and its stamp -/
  opened : Option (Nat × BitVec 32)
  /-- dense beats that have entered, and the rim routers whose beats of the latest such partition tick are among them -/
  entered : Nat
  took : Nat × List Nat
  block : List DenseBeat
  /-- residual beats due at their tick of presentation -/
  residuals : List DenseBeat
  records : List CompRec
  /-- wire beats handed over and not yet in a flit, the index of the first, and the bytes of the beat in progress -/
  wire : List (LineData × Bool)
  first : Nat
  tail : Nat
  tailLen : Nat
  tailPoison : Bool
  deriving DecidableEq, Repr

/-- MODE 0 with nothing pending (R191, R201). -/
def Comp.reset : Comp :=
  { desc := CompDesc.reset, next := none, fault := false, window := none, opened := none, entered := 0
    took := (0, []), block := [], residuals := []
    records := [], wire := [], first := 0, tail := 0, tailLen := 0, tailPoison := false }

/-- A FAULT or EVENT packet (R585, Table 5.4). -/
structure FaultPkt where
  reason : Nat
  sev : Nat
  unit : Nat
  detail : Option Nat
  src : Nat
  sub : Nat
  deriving DecidableEq, Repr

/-- A control packet that waits at an output or is in transit there: its header, the words still to send, and the C cycles it
has waited (R158 to R160). -/
structure CtlPkt where
  header : BitVec 64
  left : Nat
  waited : Nat
  deriving DecidableEq, Repr

/-- The control network (R158 to R162, R172). -/
structure Ctl where
  /-- the MP endpoint's FAULT queue, 256 entries -/
  faultQ : List FaultPkt
  /-- the MP endpoint's BARRIER queue, 64 entries: headers of the packets that wait (R172) -/
  barrierQ : List (BitVec 64)
  /-- EVENT packets waiting for the log writer -/
  eventQ : List FaultPkt
  /-- priority 3 injection queue length of an endpoint, up to 32 (R162) -/
  inject : Tab Nat
  /-- an EVENT packet held back at a full queue, by endpoint -/
  heldEvent : Tab (Option FaultPkt)
  /-- events lost at an endpoint since its packet was held back (R162) -/
  eventsLost : Tab Nat
  /-- faults lost since the last FAULTS_LOST event (R172) -/
  faultsLost : Nat
  /-- consecutive failed resends of a control link, node × 4 + direction (R161) -/
  resends : Tab Nat
  /-- control links routed around -/
  dead : List Nat
  /-- the packets at the output of a control link, node × 4 + direction, in order of arrival: those of one priority are its
  virtual channel (R159) -/
  vc : Tab (List CtlPkt)
  deriving DecidableEq, Repr

/-- An idle control network. -/
def Ctl.reset : Ctl :=
  { faultQ := [], barrierQ := [], eventQ := [], inject := [], heldEvent := [], eventsLost := [], faultsLost := 0, resends := [], dead := []
    vc := [] }

end Sys2Proof.Machine
end

