-- ==== Sys2Proof/Machine/StPm.lean ====
section
/-! DEFINITION. State of the power manager: sensors, the control loop, the cap, the brake and the idle states
(chapter 16). -/

namespace Sys2Proof.Machine

/-- One temperature sensor (R520 to R522). Times are wall picoseconds. -/
structure Sensor where
  /-- latest raw reading in 1/16 °C, two's complement; 0x8000 before the first sample -/
  raw : BitVec 16
  /-- a sample has been taken -/
  sampled : Bool
  /-- status of Table 16.3 -/
  status : Nat
  /-- exclusions since cold reset -/
  exclusions : Nat
  /-- since when the raw value has been unchanged, and the least and greatest neighbour median since then -/
  rawSince : Nat
  medMin : Int
  medMax : Int
  /-- an excluded sensor: since when it has passed RANGE, RATE and LOW on every sample (time plus 1; 0 when it has not),
  and whether its raw value has changed since then -/
  goodSince : Nat
  changed : Bool
  /-- excluded as STUCK (R522) -/
  stuck : Bool
  /-- consecutive unusable tile frames (R239) -/
  unusable : Nat
  /-- consecutive samples of 110 °C or more within RANGE (R529) -/
  hot : Nat
  deriving DecidableEq, Repr

/-- A sensor before its first sample. -/
def Sensor.reset : Sensor :=
  { raw := 0x8000, sampled := false, status := 0, exclusions := 0, rawSince := 0, medMin := 0, medMax := 0
    goodSince := 0, changed := false, stuck := false, unusable := 0, hot := 0 }

/-- The power manager. -/
structure Pm where
  /-- set cap in W, lane sleep and pool self-refresh permitted (Table 16.5) -/
  cap : Nat
  laneSleep : Bool
  poolSr : Bool
  /-- values stored in the flash configuration: cap, lane sleep, pool self-refresh (R530) -/
  stored : Option (Nat × Bool × Bool)
  /-- effect instants of cap changes still ahead: wall ps and the cap before the change (R531) -/
  capChanges : List (Nat × Nat)
  /-- effect instants of changes into and out of UNVETTED still ahead: wall ps, and whether it was UNVETTED before (R531) -/
  vetChanges : List (Nat × Bool)
  /-- sensors by 256 × SET + index (SET 0 base die, 1 tile with index 8 × tile + i, 2 HBM) -/
  sensors : Tab Sensor
  /-- status of the last calibration by unit: base-die sensor s, current-sense channel 128 + c (Table 8.6) -/
  cal : Tab Nat
  /-- offset trims in force by unit, in 1/1000 of full scale (R255, R256) -/
  trims : Tab Int
  /-- T_ctl in 1/16 °C -/
  tctl : Int
  /-- rates in units of 2^-16 of full rate -/
  qTh : Nat
  qRamp : Nat
  /-- the ramp has risen since the last control period (R527) -/
  rose : Bool
  qCap : Nat
  /-- the PM's own setting (R525) and the last group setting received -/
  own : BitVec 9
  group : BitVec 9
  /-- brake register, and PWRBRK# answered (R534) -/
  brakeReg : BitVec 9
  braked : Bool
  /-- the assertion in progress has been counted (R653) -/
  counted : Bool
  /-- wall ps of the assertion in progress, and of the last deassertion -/
  brakeStart : Nat
  brakeEnd : Nat
  /-- picoseconds asserted beyond whole microseconds counted -/
  brakeRest : Nat
  /-- powers in 0.1 W over the last 10 µs, 1 ms, 5 ms; P_MIN -/
  p10us : Nat
  p1ms : Nat
  p5ms : Nat
  pMin : Nat
  capShort : Bool
  brakeShort : Bool
  /-- the guard of R353 is in force -/
  guard : Bool
  /-- a unilateral setting is in force (R538) -/
  alone : Bool
  /-- the setting that a cause of Table 16.6 requires now -/
  cause : Option (BitVec 9)
  /-- wall ps plus 1 since which the own setting has been slower than the setting in force; 0 when it is not -/
  slowSince : Nat
  /-- limits that govern since the last control period: bits 0, 1, 5 and 6 of LIMIT (Table 16.8) -/
  limit : BitVec 8
  /-- the last request sent to the group and the frame it was sent in (R537) -/
  lastTreq : BitVec 9
  treqFrame : Nat
  /-- sensors with a reading above 105 °C (R528) -/
  excursions : List Nat
  /-- no base-die or tile sensor is plausible (R523 rule 3) -/
  noPlausible : Bool
  /-- wall ps plus 1 of the last overcurrent packet per tile (R519) -/
  overLast : Tab Nat
  /-- tiles shut down that no later start has committed (R519, Table 18.4) -/
  shut : List Nat
  /-- since when coverage has been low: 0 base die, 1 to 16 tiles; wall ps plus 1 (Table 18.4) -/
  lowSince : Tab Nat
  deriving DecidableEq, Repr

/-- The slowest setting, d = 4 and K = 2, in the layout of Table 2.4. -/
def Pm.slow : BitVec 9 := 11

/-- The power manager before it first runs (Tables 16.5, 16.8; R527, R534). -/
def Pm.reset : Pm :=
  { cap := 1200, laneSleep := false, poolSr := false, stored := none, capChanges := [], vetChanges := [], sensors := [], cal := [], trims := [], tctl := 0
    qTh := 65536, qRamp := 8192, rose := false, qCap := 65536, own := 0, group := 0, brakeReg := Pm.slow, braked := false, counted := false
    brakeStart := 0, brakeEnd := 0, brakeRest := 0, p10us := 0, p1ms := 0, p5ms := 0, pMin := 0, capShort := false
    brakeShort := false, guard := false, alone := false, cause := none, slowSince := 0, limit := 0, lastTreq := 0, treqFrame := 0
    excursions := [], noPlausible := false, overLast := [], shut := [], lowSince := [] }

end Sys2Proof.Machine
end

