-- ==== Sys2Proof/Machine/StPool.lean ====
section
/-! DEFINITION. State of the shared pool: the region table, mailboxes, commands and accesses in progress
(chapter 13). -/

namespace Sys2Proof.Machine

/-- An entry of an access list (R426): PBR ID, R, W. -/
structure Access where
  pbr : Nat
  rd : Bool
  wr : Bool
  deriving DecidableEq, Repr

/-- A flush token that has not completed (R439). -/
structure Token where
  t : Nat
  /-- wall ps of issue -/
  at_ : Nat
  /-- dense write-backs met a failed drive -/
  bad : Bool
  /-- the write-backs and the NVMe Flush of this module have ended -/
  here : Bool
  deriving DecidableEq, Repr

/-- A region as this module's replica of the table holds it (R420 to R428). -/
structure Region where
  /-- Table 13.4 -/
  state : Nat
  /-- 0 NONE, 1 MIRROR, 2 PARITY (Table 13.3) -/
  prot : Nat
  /-- in force: 1 is read-only -/
  mode : Nat
  /-- 1 is dense -/
  backing : Nat
  /-- GiB -/
  size : Nat
  /-- modules, member 0 first -/
  members : List Nat
  /-- index of the lost member while DEGRADED or REBUILDING -/
  lost : Option Nat
  /-- this module's extents in order: module unit number, or GiB of dense capacity -/
  extents : List Nat
  acl : List Access
  shadow : Option (List Access × Nat)
  done : Nat
  good : Nat
  issued : Nat
  tokens : List Token
  /-- holder identity (Table 13.1) and wall ps of expiry -/
  lease : Option (Nat × Nat)
  /-- no lease is granted before this wall ps (R440) -/
  leaseFrom : Nat
  /-- lowest local offset not yet rebuilt, and the rate in GB/s (R443) -/
  cursor : Nat
  rate : Nat
  /-- wall ps at which the rebuild began -/
  rebuildAt : Nat
  /-- another module rebuilds the line at the cursor from this module's: the stripe is locked (R443) -/
  locked : Bool
  deriving DecidableEq, Repr

/-- A FREE region. -/
def Region.reset : Region :=
  { state := 0, prot := 0, mode := 0, backing := 0, size := 0, members := [], lost := none, extents := [], acl := []
    shadow := none, done := 0, good := 0, issued := 0, tokens := [], lease := none, leaseFrom := 0, cursor := 0, rate := 0, rebuildAt := 0
    locked := false }

/-- A mailbox slot (Table 13.2): SEQ last accepted, busy, and the response line. -/
structure MailSlot where
  seq : Nat
  busy : Bool
  response : Nat
  deriving DecidableEq, Repr

/-- A slot of a fresh mailbox (R419). -/
def MailSlot.reset : MailSlot := ⟨0, false, 0⟩

/-- Who started a pool command. -/
inductive CmdBy
  /-- mailbox slot of a fabric host, with its SEQ and FENCE -/
  | mailbox (pbr slot seq : Nat) (fence : Bool)
  /-- POOL item of a function, by its number -/
  | item (fn ticket : Nat)
  /-- a part run for another module (R438) -/
  | part (src tag : Nat)
  deriving DecidableEq, Repr

/-- A pool command on this module's engines. -/
structure PoolCmd where
  id : Nat
  by_ : CmdBy
  /-- Table 13.5 -/
  cmd : Nat
  /-- holder identity of its requester (Table 13.1) -/
  holder : Nat
  /-- parts on other modules without a response, and lines without completion -/
  left : Nat
  /-- the local part has run -/
  ran : Bool
  status : Nat
  result : Nat
  aux : Nat
  /-- window generation at acceptance (Table 12.4) -/
  gen : Nat
  deriving DecidableEq, Repr

/-- What a line access of the pool is for. -/
inductive PoolFor
  /-- CXL.mem request: PBR ID, tag -/
  | cxl (pbr tag : Nat)
  /-- line i of a request of another module: source, TAG -/
  | remote (src tag i : Nat)
  /-- a step of the rebuild of a region -/
  | rebuild (region : Nat)
  /-- a line that a pool command writes -/
  | cmd (id : Nat)
  deriving DecidableEq, Repr

/-- A line access of the pool in progress (R430, R441, R442). -/
structure PoolAcc where
  id : Nat
  for_ : PoolFor
  region : Nat
  /-- member index that holds the line, and its local offset -/
  member : Nat
  off : Nat
  write : Bool
  data : LineData
  poison : Bool
  /-- 0 line access on this module, 1 forwarded, 2 copy or delta under way, 4 lines of the stripe are being gathered,
  5 a plain write of this module's line, 6 waits for the rebuild of its stripe, 7 a delta, 8 a plain read,
  9 and 11 a plain write and a delta that wait for the rebuild of their stripe, 10 a plain read that waits for the writes of its
  line, 12 the data lines of a stripe are being gathered for a rebuild -/
  phase : Nat
  acc : LineData
  accPoison : Bool
  left : Nat
  /-- window generation at arrival (Table 12.4) -/
  gen : Nat
  deriving DecidableEq, Repr

/-- A request of another module being served (R463): its lines as they are read. -/
structure Serving where
  src : Nat
  tag : Nat
  uop : Nat
  region : Nat
  off : Nat
  left : Nat
  status : Nat
  lines : List (Nat × LineData × Bool)
  deriving DecidableEq, Repr

/-- The pool. -/
structure Pool where
  region : Tab Region
  /-- units and dense GiB that wait for their zero-fill (R422): module unit number, or 4096 + GiB -/
  unzeroed : List Nat
  /-- mailboxes that exist, and their slots by 8 × PBR ID + slot (R418, R419) -/
  boxes : List Nat
  slots : Tab MailSlot
  /-- command lines ignored: SEQ 0 and busy slots (R419) -/
  ignored : Nat
  cmds : List PoolCmd
  accs : List PoolAcc
  serving : List Serving
  nextId : Nat
  /-- regions whose shadow PF0 of this module wrote since its last switch (R426) -/
  written : List Nat
  /-- a region command or a switch awaits other modules: endpoint, opcode with its data above bit 16, tag of the
  request, answers left; an endpoint from 2^20 on is the module that forwarded it -/
  tables : List (Nat × Nat × Nat × Nat)
  deriving DecidableEq, Repr

/-- No region. -/
def Pool.reset : Pool :=
  { region := [], unzeroed := [], boxes := [], slots := [], ignored := 0, cmds := [], accs := [], serving := []
    nextId := 0, written := [], tables := [] }

end Sys2Proof.Machine
end

