-- ==== Sys2Proof/Machine/StTile.lean ====
section
/-! DEFINITION. State of the tile socket (chapter 07): discovery, identity, spares, sensor frames. -/

namespace Sys2Proof.Machine

/-- Where a tile stands in the sequence of Table 7.14. -/
inductive TileStep
  | off
  /-- VDDT, clocks and beacons are held, TRST_N low (R226) -/
  | power
  /-- TRST_N high, HELLO sent -/
  | hello
  /-- IDENT chunks arriving -/
  | ident
  /-- the identity record is complete; bond training runs (Table 8.5) -/
  | train
  /-- trained; the MP has yet to consent and to send LANES (R253, R269) -/
  | trained
  /-- LANES sent, ACK awaited -/
  | lanes
  /-- VDDT slewing to VDDT_MV (R560) -/
  | slew
  /-- BOOT chunks -/
  | boot
  /-- the last chunk is acknowledged; BOOT_DONE awaited -/
  | bootDone
  /-- self-test; SPARES awaited -/
  | spares
  /-- COMMIT sent, ACK awaited -/
  | commit
  | ready
  | failed
  /-- held in reset, or running the training sequence, for a LANE_TEST (R261) -/
  | test
  deriving DecidableEq, Repr

/-- Encoding of a step for DETAIL of TILE_BOUND: the row of Table 7.14. -/
def TileStep.row : TileStep → Nat
  | .off => 0 | .power => 0 | .test => 0 | .hello => 1 | .ident => 2 | .train => 2 | .trained => 2 | .lanes => 3 | .slew => 4 | .boot => 4 | .bootDone => 5
  | .spares => 6 | .commit => 7 | .ready => 8 | .failed => 9

/-- One tile as the base die sees it. -/
structure Tile where
  step : TileStep
  /-- TRST_N high: the tile is out of reset -/
  trst : Bool
  /-- VDDT regulator on; at VDDT_MV rather than 750 mV -/
  vddt : Bool
  vddtReached : Bool
  /-- full mode of the service port (R222) -/
  full : Bool
  /-- HELLO messages sent (R226) -/
  hellos : Nat
  /-- repeats of the present step (R227) -/
  repeats : Nat
  seqOut : BitVec 8
  seqIn : BitVec 8
  /-- next chunk expected or to send -/
  chunk : Nat
  /-- the identity record and class entries received, as a little-endian number (Table 7.12) -/
  ident : Nat
  /-- the spare state received (Table 7.13) -/
  spares : Nat
  /-- chunks of the boot image -/
  bootChunks : Nat
  /-- the lane map of the last LANES transfer, which both ends apply, and its chunks (R241, R248) -/
  laneMap : List Nat
  laneChunks : Nat
  /-- SEQ of the LANES chunk sent last (R223) -/
  laneSeq : BitVec 8
  /-- first tick of the training sequence (R249) -/
  trainFrom : Nat
  /-- last sensor frame: eight readings, and whether it was usable (R232, R239) -/
  readings : List (BitVec 16)
  usable : Bool
  /-- GATE is 1 for the tile's clusters (R230) -/
  gated : Bool
  /-- reason code of the last failed discovery; 0 for none (Table 18.4) -/
  failReason : Nat
  deriving DecidableEq, Repr

/-- A tile in reset and without power. -/
def Tile.reset : Tile :=
  { step := .off, trst := false, vddt := false, vddtReached := false, full := false, hellos := 0, repeats := 0
    seqOut := 0, seqIn := 0, chunk := 0, ident := 0, spares := 0, bootChunks := 0, laneMap := [], laneChunks := 0, laneSeq := 0, trainFrom := 0
    readings := [], usable := false, gated := false, failReason := 0 }

/-- Identity fields (Table 7.12). -/
def Tile.vendor (t : Tile) : Nat := bits t.ident 0 16
def Tile.rev (t : Tile) : Nat := bits t.ident 16 16
def Tile.socketLevel (t : Tile) : Nat := bits t.ident 32 8
def Tile.orient (t : Tile) : Nat := bits t.ident 40 2
def Tile.failBeacon (t : Tile) : Bool := bit1 t.ident 42
def Tile.beaconBad (t : Tile) : Nat := bits t.ident 48 16
def Tile.bootIf (t : Tile) : Nat := bits t.ident 64 16
def Tile.classCount (t : Tile) : Nat := bits t.ident 80 8
def Tile.sensors (t : Tile) : Nat := bits t.ident 88 8
def Tile.vddtMv (t : Tile) : Nat := bits t.ident 96 16
def Tile.pMax (t : Tile) : Nat := bits t.ident 112 16
def Tile.pIdle (t : Tile) : Nat := bits t.ident 128 16
def Tile.pGated (t : Tile) : Nat := bits t.ident 144 16
def Tile.wake (t : Tile) : Nat := bits t.ident 160 16
def Tile.retain (t : Tile) : Bool := bit1 t.ident 176

/-- Class entry i of the identity record (R224). -/
def Tile.classAt (t : Tile) (i : Nat) : OpClass :=
  let o := 512 + 64 * i
  ⟨bits t.ident o 8, bits t.ident (o + 8) 16, bits t.ident (o + 24) 16⟩

/-- The class entries. -/
def Tile.classes (t : Tile) : List OpClass := (rangeFrom 0 t.classCount).map t.classAt

/-- A tile with an identity record: discovery received it and the tile has not failed. -/
def Tile.known (t : Tile) : Bool := t.ident != 0 && t.failReason == 0

/-- The vendor and the least revision that an image requires (Table 4.9). -/
def Tile.isOf (t : Tile) (q : TileReq) : Bool := t.vendor == q.vendor && decide (q.minRev ≤ t.rev)

/-- The tile is what an image requires: vendor, revision and every class with its latency and pattern (R90, Table 4.9). -/
def Tile.meets (t : Tile) (q : TileReq) : Bool := t.isOf q && q.classes.all fun c => t.classes.contains c

/-- Spare-state code of cell (u, v) (R225). -/
def Tile.spareCode (t : Tile) (u v : Nat) : Nat := bits t.spares (4 * (32 * v + u)) 4

/-- The tiles, with the routers and ticks of recent PERR and socket-stall captures, and of a stall whether it was the first
breach of its run's frame (R218, "one cause"). -/
structure Tiles where
  tile : Tab Tile
  perrs : List (Nat × Nat)
  stalls : List (Nat × Nat × Bool)
  deriving DecidableEq, Repr

/-- Every tile in reset. -/
def Tiles.reset : Tiles := ⟨[], [], []⟩

end Sys2Proof.Machine
end

