-- ==== Sys2Proof/Machine/StWin.lean ====
section
/-! DEFINITION. State of the window tables (chapter 12). -/

namespace Sys2Proof.Machine

/-- The window table of one function: entries in the layouts of Table 12.2, as numbers. -/
structure WinTable where
  buf : Tab Nat
  hbm : Tab Nat
  dense : Tab Nat
  slots : Nat
  /-- chunks of 256 regions -/
  pool : Tab Nat
  ring : Nat
  quota : Nat
  deriving DecidableEq, Repr

/-- A table that grants nothing (R390). -/
def WinTable.empty : WinTable := ⟨[], [], [], 0, [], 0, 0⟩

/-- All window tables (R390, R399 to R404). -/
structure Windows where
  inForce : Tab WinTable
  shadow : Tab WinTable
  gen : BitVec 64
  /-- generation plus 1 under which a function's last violation event was written (R404) -/
  noted : Tab Nat
  /-- generation at acceptance of MCI requests not yet answered: endpoint, tag, generation (Table 12.4) -/
  held : List (Nat × Nat × Nat)
  deriving DecidableEq, Repr

/-- Every table empty, generation 1 (R390). -/
def Windows.reset : Windows := ⟨[], [], 1, [], []⟩

end Sys2Proof.Machine
end

