-- ==== Sys2Proof/Machine/State.lean ====
section
/-! DEFINITION. The state of the block: every register, queue, buffer, counter, mode and contact the spec names, as
plain data, and the queue of waiting commands. -/

namespace Sys2Proof.Machine

/-- Why the block stops with a fault. No meaning of this model raises one: every error the spec describes is an
effect on State (a log entry, a status, a breach). -/
inductive Fault
  /-- never raised; safe -/
  | none
  deriving DecidableEq, Repr

/-- Why the block has no meaning for a command. -/
inductive Refusal
  /-- the arm of a command without a meaning yet; safe -/
  | notModelled (mnemonic : String)
  deriving DecidableEq, Repr

/-- The state of the block. -/
structure State where
  clk : Clk
  pins : Pins
  boot : Boot
  /-- partitions 0 to 3 -/
  parts : Tab Part
  /-- the partition layout in force (R129) -/
  layout : Tab Rect
  /-- an accepted layout that waits for the next boundary -/
  layoutPend : Option (List Rect)
  slots : Tab Slot
  buf : Buf
  /-- compressors, keyed 2 × port + direction -/
  comp : Tab Comp
  ctl : Ctl
  fmap : FaultMap
  hbm : Hbm
  dense : Dense
  tiles : Tiles
  rings : Rings
  regs : Regs
  logs : Logs
  win : Windows
  lanes : Lanes
  fw : Fw
  pm : Pm
  lat : Lat
  pool : Pool
  /-- the counters of Table 18.8 that carry an ID, keyed ID × 65,536 + instance -/
  counters : Tab (BitVec 64)
  /-- everything sent so far (the model's own field) -/
  out : List Output
  /-- index of the next free value (the model's own field) -/
  free : Nat
  /-- the commands that wait, first in, first out -/
  pending : List Instr
  deriving DecidableEq, Repr

/-- The block before any input is powered: an absent rectangle in every partition, nothing resident, no command
waiting. -/
def State.reset : State :=
  { clk := Clk.reset, pins := Pins.reset, boot := Boot.reset, parts := [], layout := [], layoutPend := none
    slots := [], buf := Buf.reset, comp := [], ctl := Ctl.reset, fmap := FaultMap.reset, hbm := Hbm.reset, dense := Dense.reset
    tiles := Tiles.reset
    rings := Rings.reset, regs := Regs.reset, logs := Logs.reset, win := Windows.reset, lanes := Lanes.reset, fw := Fw.reset, pm := Pm.reset, lat := Lat.reset, pool := Pool.reset, counters := [], out := [], free := 0
    pending := [] }

end Sys2Proof.Machine
end

