-- ==== Sys2Proof/Machine/Ops.lean ====
section
/-! DEFINITION. The operations that the meanings share: what the device sends, its counters and logs, faults and
breaches, the slices' two ports, the partitions and the pipelines of the data mesh. -/

namespace Sys2Proof.Machine

/-! ### Output, free values, counters -/

/-- Send something. -/
def emit (o : Output) (s : State) : State := { s with out := s.out ++ [o] }

/-- Send a list of things in order. -/
def emitAll (os : List Output) (s : State) : State := { s with out := s.out ++ os }

/-- A line of free values: the content that the manual does not give. -/
def freeLine (n : Nat) : LineData :=
  Config.freeWord (n + 7) ++ Config.freeWord (n + 6) ++ Config.freeWord (n + 5) ++ Config.freeWord (n + 4) ++
  Config.freeWord (n + 3) ++ Config.freeWord (n + 2) ++ Config.freeWord (n + 1) ++ Config.freeWord n

/-- Draw a free line. -/
def drawLine (s : State) : LineData × State := (freeLine s.free, { s with free := s.free + 8 })

/-- The next free value and the state after drawing it. -/
def drawFree (s : State) : BitVec 64 × State := (Config.freeWord s.free, { s with free := s.free + 1 })

/-- Width of a counter and whether it saturates (Table 18.8). -/
def counterKind (id : Nat) : Nat × Bool :=
  if id = 0x0101 ∨ id = 0x0102 then (16, true)
  else if (0x0201 ≤ id ∧ id ≤ 0x0203) ∨ (0x0301 ≤ id ∧ id ≤ 0x0304) ∨ id = 0x040A ∨ id = 0x0604 ∨
    id = 0x0705 ∨ id = 0x0706 then (32, true)
  else if id = 0x0407 then (32, false)
  else if id = 0x0401 ∨ id = 0x0406 ∨ id = 0x0506 ∨ id = 0x0601 ∨ id = 0x0704 then (64, false)
  else (48, false)

/-- The IDs of Table 18.8. -/
def counterIds : List Nat :=
  [0x0101, 0x0102, 0x0103, 0x0201, 0x0202, 0x0203, 0x0301, 0x0302, 0x0303, 0x0304, 0x0401, 0x0402, 0x0403, 0x0404,
   0x0405, 0x0406, 0x0407, 0x0408, 0x0409, 0x040A] ++
  [0x0501, 0x0502, 0x0503, 0x0504, 0x0505, 0x0506, 0x0601, 0x0602, 0x0603, 0x0604, 0x0701, 0x0702, 0x0703, 0x0704,
   0x0705, 0x0706]

/-- Key of a counter instance. -/
def counterKey (id idx : Nat) : Nat := id * 65536 + idx

/-- Value of a counter instance. -/
def counter (s : State) (id idx : Nat) : BitVec 64 := Tab.get 0 s.counters (counterKey id idx)

/-- The value after adding n: saturating or wrapping at the counter's width (R599). -/
def counterAdd (id : Nat) (v : BitVec 64) (n : Nat) : BitVec 64 :=
  let (w, sat) := counterKind id
  if sat && decide (v.toNat + n ≥ 2 ^ w) then BitVec.ofNat 64 (2 ^ w - 1)
  else BitVec.ofNat 64 ((v.toNat + n) % 2 ^ w)

/-- Add n to a counter instance. -/
def countBy (id idx n : Nat) (s : State) : State :=
  { s with counters := Tab.upd 0 s.counters (counterKey id idx) fun v => counterAdd id v n }

/-- Add 1. -/
def countUp (id idx : Nat) (s : State) : State := countBy id idx 1 s

/-- A saturating counter stands at its maximum. -/
def counterFull (s : State) (id idx : Nat) : Bool :=
  let (w, sat) := counterKind id
  sat && (counter s id idx).toNat == 2 ^ w - 1

/-! ### Vectors and attention (R618, R619) -/

/-- Raise a vector of a function: a masked vector sets its pending bit. -/
def raiseVector (fn v : Nat) (s : State) : State :=
  let x := Tab.get Vector.reset s.rings.vec (8 * fn + v)
  if x.masked then
    { s with rings := { s.rings with vec := Tab.set Vector.reset s.rings.vec (8 * fn + v) { x with pending := true } } }
  else emit (.msix fn v) s

/-- Setting bit b of an attention register raises its vector: the bit is enabled and was 0 (R618). -/
def attnRises (attn en : BitVec 32) (b : Nat) : Bool := en.getLsbD b && !attn.getLsbD b

/-- Set a bit of STS_ATTN (Table 19.8, vector 5). -/
def stsAttention (b : Nat) (s : State) : State :=
  let s1 := { s with regs := { s.regs with stsAttn := s.regs.stsAttn ||| BitVec.twoPow 32 b } }
  if attnRises s.regs.stsAttn s.regs.stsAttnEn b then raiseVector 0 5 s1 else s1

/-- Set a bit of PWR_ATTN (Table 19.10, vector 7). -/
def pwrAttention (b : Nat) (s : State) : State :=
  let s1 := { s with regs := { s.regs with pwrAttn := s.regs.pwrAttn ||| BitVec.twoPow 32 b } }
  if attnRises s.regs.pwrAttn s.regs.pwrAttnEn b then raiseVector 0 7 s1 else s1

/-- A_NEW of the EVT block for an entry of a class (Table 19.11, vector 6). -/
def evtAttention (sev : Nat) (s : State) : State :=
  if s.regs.evtSevMin ≤ sev then
    let s1 := { s with regs := { s.regs with evtNew := true } }
    if s.regs.evtEn && !s.regs.evtNew then raiseVector 0 6 s1 else s1
  else s

/-! ### Event log, persistent log, flash ring (chapter 18) -/

/-- Cold-start count and day since cold start, the persistent UNIT of JUNCTION_EXCURSION (Table 18.2). -/
def excursionUnit (s : State) : Nat :=
  (s.boot.coldStarts.toNat % 65536) * 65536 + (s.clk.refPs / 86400000000000000) % 65536

/-- Reasons whose row says "logged" below class 5 (Table 18.2). -/
def loggedReasons : List Nat := [0x1004, 0x100B, 0x2001, 0x2006, 0x5004, 0x5009, 0x9001, 0x9002, 0x9003]

/-- An event goes to the persistent log (R594). -/
def isLogged (reason sev : Nat) (repl : Bool) : Bool :=
  decide (5 ≤ sev) || loggedReasons.contains reason || repl

/-- Append to the event log: the newest 65,536 entries stay, and an overwritten entry that nobody read counts in
LOSS (R591). -/
def appendEntry (e : LogEntry) (l : Logs) : Logs :=
  let full := e :: l.entries
  let lost := match full[65536]? with
    | some old => if old.seen then 0 else 1
    | none => 0
  { l with entries := full.take 65536, next := l.next + 1, loss := l.loss + lost }

/-- Flash ring copy of class 4 or above: bursts of 64, one entry a second on average (R593). Answers the logs and
whether the entry was in excess. -/
def flashCopy (e : LogEntry) (now : Nat) (l : Logs) : Logs × Bool :=
  let gained := (now - l.flashRef) / 100000000
  let tokens := min 64 (l.flashTokens + gained)
  let l1 := { l with flashTokens := tokens, flashRef := l.flashRef + gained * 100000000 }
  if tokens = 0 then (l1, true)
  else ({ l1 with flash := (e :: l1.flash).take 8192, flashNext := l1.flashNext + 1,
                  flashTokens := tokens - 1 }, false)

/-- First occurrence of a key in the persistent log, or a recurrence counted in its summary; a full log counts in
DROPPED (R594, R595, R597). The flag answers that LOG_FULL is due. -/
def persist (reason unit sev detail ext : Nat) (boot : BitVec 32) (ref : BitVec 64) (l : Logs) : Logs × Bool :=
  if l.errors.any (fun e => !e.cont && e.reason == reason && e.unit == unit) then
    ({ l with errors := l.errors.map fun e =>
        if !e.cont && e.reason == reason && e.unit == unit then { e with count := e.count + 1, lastRef := ref, lastBoot := boot }
        else e }, false)
  else if l.errors.length < 4096 then
    ({ l with errors := l.errors ++ [⟨reason, unit, sev, boot, ref, detail, ext, false, true, 1, ref, boot⟩] }, false)
  else
    ({ l with dropped := satInc l.dropped, logFullSent := true }, !l.logFullSent)

/-- The MP executes its firmware. -/
def mpRuns (s : State) : Bool := s.boot.mp == .running

/-- Persistent write of an event by the MP, or its hold while the MP restarts: 256 are held, more are dropped
(R605). -/
def mpPersist (e : LogEntry) (ext : Nat) (s : State) : State :=
  let unit := if e.reason = 0x1004 then excursionUnit s else e.unit
  if mpRuns s then
    let (l, full) := persist e.reason unit e.sev e.detail ext s.boot.coldStarts s.clk.refTime s.logs
    let s1 := { s with logs := l }
    if full then
      { s1 with logs := appendEntry ⟨l.next, s.clk.tick, 0x7005, 0, false, 0x100, 0, 0, false⟩ l }
    else s1
  else if s.logs.held.length < 256 then { s with logs := { s.logs with held := s.logs.held ++ [e] } }
  else { s with logs := { s.logs with dropped := satInc s.logs.dropped } }

/-- Write one event entry with its follow-ups: the attention of the EVT block, the flash copy of class 4 and above,
and the persistent log with its EXT (R591, R593, R594, R624). -/
def logExt (reason sev unit detail src : Nat) (repl : Bool) (ext : Nat) (s : State) : State :=
  let e : LogEntry := ⟨s.logs.next, s.clk.tick, reason, sev, repl, src, unit, detail, false⟩
  let s1 := evtAttention sev { s with logs := appendEntry e s.logs }
  let s2 := if 4 ≤ sev then
      let (l, excess) := flashCopy e s1.clk.refTime.toNat s1.logs
      let t := { s1 with logs := l }
      if excess then countUp 0x0706 0 t else t
    else s1
  if isLogged reason sev repl then mpPersist e ext s2 else s2

/-- An entry without EXT. -/
def logEntry (reason sev unit detail src : Nat) (repl : Bool) (s : State) : State := logExt reason sev unit detail src repl 0 s

/-- An event that the MP raises (R591). -/
def mpEvent (reason sev unit detail : Nat) (s : State) : State := logEntry reason sev unit detail 0x100 false s

/-- DETAIL of an entry made from a packet: the packet's, or SUB in [5:0] (R585, Table 18.6). -/
def FaultPkt.entryDetail (p : FaultPkt) : Nat := p.detail.getD (p.sub % 64)

/-- Send a FAULT packet: it waits in the MP endpoint's 256-entry queue; more are counted as lost (R172). -/
def sendFault (p : FaultPkt) (s : State) : State :=
  if s.ctl.faultQ.length < 256 then { s with ctl := { s.ctl with faultQ := s.ctl.faultQ ++ [p] } }
  else countUp 0x0703 0 { s with ctl := { s.ctl with faultsLost := s.ctl.faultsLost + 1 } }

/-- A FAULT packet of a router, slice or cluster. -/
def routerFault (reason sev router : Nat) (detail : Option Nat) (s : State) : State :=
  sendFault ⟨reason, sev, router, detail, controlNode router, controlSub router⟩ s

/-- A FAULT packet of another endpoint. -/
def blockFault (reason sev unit : Nat) (detail : Option Nat) (src : Nat) (s : State) : State :=
  sendFault ⟨reason, sev, unit, detail, src, 0⟩ s

/-- An EVENT packet toward the log writer, through its endpoint's priority 3 injection queue of 32 packets: a full queue holds
the packet, and behind a held one no further EVENT is generated but counted as lost (R162). -/
def sendEvent (p : FaultPkt) (s : State) : State :=
  let n := Tab.get 0 s.ctl.inject p.src
  if (Tab.get none s.ctl.heldEvent p.src).isSome then
    countUp 0x0702 p.src { s with ctl := { s.ctl with
      eventsLost := Tab.upd 0 s.ctl.eventsLost p.src fun k => k + 1 } }
  else if 32 ≤ n then { s with ctl := { s.ctl with heldEvent := Tab.set none s.ctl.heldEvent p.src (some p) } }
  else { s with ctl := { s.ctl with eventQ := s.ctl.eventQ ++ [p], inject := Tab.set 0 s.ctl.inject p.src (n + 1) } }

/-! ### Partitions -/

/-- Partition k. -/
def part (s : State) (k : Nat) : Part := Tab.get Part.reset s.parts k
/-- Replace partition k. -/
def setPart (k : Nat) (p : Part) (s : State) : State := { s with parts := Tab.set Part.reset s.parts k p }
/-- Change partition k. -/
def updPart (k : Nat) (f : Part → Part) (s : State) : State := setPart k (f (part s k)) s
/-- Slot k. -/
def slot (s : State) (k : Nat) : Slot := Tab.get Slot.reset s.slots k
/-- Replace slot k. -/
def setSlot (k : Nat) (v : Slot) (s : State) : State := { s with slots := Tab.set Slot.reset s.slots k v }
/-- Rectangle of partition k; COLS = 0 means absent (R129). -/
def rect (s : State) (k : Nat) : Rect := Tab.get ⟨0, 0, 0, 0⟩ s.layout k

/-- The partition that a router lies in, if any. -/
def partOf (s : State) (router : Nat) : Option Nat :=
  (rangeFrom 0 4).find? fun k => decide ((rect s k).cols ≠ 0) && (rect s k).hasRouter router

/-- The image bound to a partition. -/
def boundImage (s : State) (p : Part) : Option Image := p.slot.map fun k => (slot s k).image

/-- The frame pattern that a partition executes: the run's, or the idle frame (R75). -/
def currentPattern (im : Image) (p : Part) : Option Nat :=
  match p.run with
  | none => some im.hdr.idlePattern
  | some r => im.patternAt r.variant r.frame

/-- The context of the executing run; 0 in the idle frame. -/
def currentCtx (p : Part) : Nat := match p.run with
  | none => 0
  | some r => r.ctx

/-- The T clock delivers ticks (R38, R41, R58, R566). -/
def tickRuns (s : State) : Bool := s.clk.pll && !s.clk.stopped && !s.clk.held

/-- Tick offset within the frame (R45). -/
def frameOffset (s : State) : Nat := s.clk.tick.toNat % 4096
/-- Frame number (R45). -/
def frameNumber (s : State) : Nat := s.clk.tick.toNat / 4096

/-- Change the executing run of a partition. -/
def updRun (k : Nat) (f : Run → Run) (s : State) : State :=
  updPart k (fun p => { p with run := p.run.map f }) s

/-- Completion statuses of Table 10.11. -/
def stSuccess : Nat := 0x00
def stFlushDone : Nat := 0x01
def stBadItem : Nat := 0x02
def stBadSeq : Nat := 0x03
def stBadBuffer : Nat := 0x04
def stWindow : Nat := 0x05
def stImageUnavailable : Nat := 0x06
def stUnbind : Nat := 0x07
def stPartitionReset : Nat := 0x08
def stTileFault : Nat := 0x09
def stRefreshBreach : Nat := 0x0A
def stDataPath : Nat := 0x0B
def stBranchFault : Nat := 0x0C
def stFrameBudget : Nat := 0x0D
def stHostAbort : Nat := 0x0F
def stHostLate : Nat := 0x10
def stPoisonedData : Nat := 0x11
def stSliceUnavailable : Nat := 0x12
def stRole : Nat := 0x13
def stRange : Nat := 0x14
def stDenseUnavailable : Nat := 0x15
def stPoolFail : Nat := 0x16
def stUnitInTest : Nat := 0x17

/-- A schedule breach of a partition: the run ends at the next boundary with the status of the first breach, and
the partition is held where Table 3.8 says so (R112). -/
def breach (k status : Nat) (hold : Bool) (s : State) : State :=
  updPart k (fun p => { p with
    holdPend := p.holdPend || hold
    run := p.run.map fun r => { r with breach := some (r.breach.getD status) } }) s

/-- A router counts an event whose input held an idle beat (R143). -/
def countIdleOp (router : Nat) (s : State) : State :=
  { s with buf := { s.buf with idleOps := Tab.upd 0 s.buf.idleOps router fun n => n + 1 } }

/-- A data-path breach at a router: one FAULT packet of class 4 and the breach of its partition. -/
def dataPathBreach (reason router : Nat) (s : State) : State :=
  let s1 := routerFault reason 4 router none s
  match partOf s router with
  | some k => breach k stDataPath true s1
  | none => s1

/-! ### Slices: the scheduled port and the control port (R80, R81, R149, R150, R163 to R168) -/

/-- Bytes of word w in a byte mask. -/
def wordBytes (mask : Nat) (w : Nat) : Nat := bits mask (8 * w) 8

/-- Bit w of a word mask is set for the words of 0 to 7 that satisfy f. -/
def wordMask (f : Nat → Bool) : Nat :=
  (rangeFrom 0 8).foldl (fun m w => m + if f w then 2 ^ w else 0) 0

/-- The bad words after a write (R163, R164): a fully covered word takes the write's poison, a partly covered one
stays bad or becomes poisoned. -/
def badAfter (old mask : Nat) (poison : Bool) : Nat :=
  wordMask fun w => if wordBytes mask w = 0 then bit1 old w else poison || (bit1 old w && wordBytes mask w != 255)

/-- The single-bit errors after a write: a touched word is re-encoded. -/
def singleAfter (old mask : Nat) : Nat := wordMask fun w => bit1 old w && wordBytes mask w == 0

/-- The words that a mask covers in part: a write reads them through their check codes (R163). -/
def partWords (mask : Nat) : Nat := wordMask fun w => wordBytes mask w != 0 && wordBytes mask w != 255

/-- A line with the bytes of a mask replaced. -/
def mergeLine (old new : LineData) (mask : LineMask) : LineData :=
  lineOf 8 64 fun i => if mask.getLsbD i then (lineElem 8 new i : BitVec 8) else lineElem 8 old i

/-- A line (data, bad words, words with a single-bit error) after one write. -/
def LineWrite.apply (w : LineWrite) (l : LineData × Nat × Nat) : LineData × Nat × Nat :=
  (mergeLine l.1 w.data w.mask, badAfter l.2.1 w.mask.toNat w.poison, singleAfter l.2.2 w.mask.toNat)

/-- The line after the writes of its tick: the control port's first, the scheduled port's second (R150). -/
def TickLine.after (e : TickLine) : LineData × Nat × Nat :=
  (e.ctl ++ e.sched).foldl (fun l w => w.apply l) (e.before, e.beforePoison, e.beforeSingle)

/-- Content of a line. -/
def lineData (s : State) (router line : Nat) : LineData := Memory.line s.buf.mem (sliceByte router line)
/-- Bad words of a line. -/
def lineBad (s : State) (router line : Nat) : Nat := Tab.get 0 s.buf.bad (sliceLine router line)
/-- Words of a line that hold a single-bit error. -/
def lineSingle (s : State) (router line : Nat) : Nat := Tab.get 0 s.buf.single (sliceLine router line)

/-- What this tick's accesses have recorded for a line. -/
def tickLine (s : State) (router line : Nat) : Option TickLine :=
  s.buf.tickLines.find? fun e => e.key == sliceLine router line && e.at_ == s.clk.tick.toNat

/-- The line as it stood at the end of the tick before, with its bad words (R81, R168). -/
def lineBefore (s : State) (router line : Nat) : LineData × Nat :=
  match tickLine s router line with
  | some e => (e.before, e.beforePoison)
  | none => (lineData s router line, lineBad s router line)

/-- The words of a line that held a single-bit error at the end of the tick before (R168). -/
def singleBefore (s : State) (router line : Nat) : Nat :=
  match tickLine s router line with
  | some e => e.beforeSingle
  | none => lineSingle s router line

/-- Count the corrected and uncorrectable words that a read of a line meets: the first uncorrectable word of a
slice and the saturation of a count each send one FAULT packet; a poisoned word counts once until it is rewritten
(R166, R173). DESIGN CHOICE, log entry 4: a line with several such words adds one for each. A line whose read was corrected is
queued for the scrubber (R163). -/
def countErrors (queue : Bool) (router line bad single : Nat) (s : State) : State :=
  let key := sliceLine router line
  let fresh := popcount (wordMask fun w => bit1 bad w && !bit1 (Tab.get 0 s.buf.counted key) w) 8
  let s1 := if single = 0 then s else
    let t := countBy 0x0101 router (popcount single 8) { s with buf := { s.buf with
      scrubQueue := if !queue || s.buf.scrubQueue.contains key then s.buf.scrubQueue else s.buf.scrubQueue ++ [key] } }
    if counterFull t 0x0101 router && !counterFull s 0x0101 router then routerFault 0x4002 0 router (some 0) t else t
  if fresh = 0 then s1 else
    let t := countBy 0x0102 router fresh { s1 with buf := { s1.buf with
      counted := Tab.upd 0 s1.buf.counted key (fun c => c ||| bad)
      firstBad := if s1.buf.firstBad.contains router then s1.buf.firstBad else router :: s1.buf.firstBad } }
    let u := if s1.buf.firstBad.contains router then t else routerFault 0x4001 2 router none t
    if counterFull u 0x0102 router && !counterFull s 0x0102 router then routerFault 0x4002 0 router (some 1) u else u

/-- Put a tick's record of a line in place, with the line as its writes leave it. -/
def putTickLine (e : TickLine) (s : State) : State :=
  let (d, bad, single) := e.after
  { s with buf := { s.buf with
      mem := Memory.setLine s.buf.mem (64 * e.key) d (BitVec.allOnes 64)
      bad := Tab.set 0 s.buf.bad e.key bad
      counted := Tab.set 0 s.buf.counted e.key (Tab.get 0 s.buf.counted e.key &&& bad)
      single := Tab.set 0 s.buf.single e.key single
      tickLines := e :: s.buf.tickLines.filter fun x => x.at_ == e.at_ && x.key != e.key } }

/-- Bytes 0 to 23 of a line. -/
def headBytes (d : LineData) : Nat := d.toNat % 2 ^ 192

/-- A mirror after a committed write: its words that the write touched hold what the line now holds (R502). -/
def Mirror.wrote (m : Mirror) (d : LineData) (bad mask tick : Nat) : Mirror :=
  { m with
    now := headBytes d
    nowBad := wordMask fun w => decide (w < 3) && (if wordBytes mask w = 0 then bit1 m.nowBad w else bit1 bad w)
    old := if m.at_ = tick then m.old else m.now
    oldBad := if m.at_ = tick then m.oldBad else m.nowBad
    at_ := tick }

/-- Every write that commits to a mirrored line updates its mirror on its commit tick (R502, R512). -/
def mirrorWrite (key mask : Nat) (s : State) : State :=
  let d := Memory.line s.buf.mem (64 * key)
  let bad := Tab.get 0 s.buf.bad key
  let one (m : Mirror) : Mirror := if m.key = key then m.wrote d bad mask s.clk.tick.toNat else m
  { s with buf := { s.buf with mirrors := s.buf.mirrors.map one } }

/-- The mirrors of a binding image's parameter lines are loaded; those of the same slices' earlier images go (R502). -/
def loadMirrors (rc : Rect) (lines : List (Nat × Nat)) (s : State) : State :=
  let load (x : Nat × Nat) : Mirror :=
    let d := headBytes (lineData s x.1 x.2)
    let bad := lineBad s x.1 x.2 % 8
    ⟨sliceLine x.1 x.2, d, bad, d, bad, s.clk.tick.toNat⟩
  { s with buf := { s.buf with
      mirrors := lines.map load ++ s.buf.mirrors.filter fun m => !rc.hasRouter (m.key / 768) } }

/-- Store bytes of a line under a mask. Words that the mask covers in part are read through their check codes first, and what
that read corrects or finds bad counts (R163, R164, R166). -/
def storeLine (router line : Nat) (d : LineData) (mask : LineMask) (poison sched : Bool) (s : State) : State :=
  let e : TickLine := (tickLine s router line).getD ⟨sliceLine router line, s.clk.tick.toNat, lineData s router line,
    lineBad s router line, lineSingle s router line, [], []⟩
  let (_, bad, single) := (if sched then e else { e with sched := [] }).after
  let cut := partWords mask.toNat
  let s1 := countErrors false router line (bad &&& cut) (single &&& cut) s
  let w : LineWrite := ⟨d, mask, poison⟩
  mirrorWrite e.key mask.toNat (putTickLine (if sched then { e with sched := e.sched ++ [w] } else { e with ctl := e.ctl ++ [w] }) s1)

/-- An armed injection of a kind on a unit occurs (R626). -/
def injectHits (s : State) (kind unit : Nat) : Bool :=
  s.regs.dbgPending && s.regs.dbgKind == kind && s.regs.dbgUnit.toNat == unit

/-- The injection has occurred: PENDING clears and COUNT rises (R626). -/
def injectDone (s : State) : State :=
  { s with regs := { s.regs with dbgPending := false, dbgCount := s.regs.dbgCount + 1 } }

/-- The line held an error in word 0 when the tick began: a single-bit one, or a double-bit one. -/
def spoilWord (router line : Nat) (double : Bool) (s : State) : State :=
  let key := sliceLine router line
  match tickLine s router line with
  | none =>
    if double then { s with buf := { s.buf with bad := Tab.upd 0 s.buf.bad key fun w => w ||| 1 } }
    else { s with buf := { s.buf with single := Tab.upd 0 s.buf.single key fun w => w ||| 1 } }
  | some e =>
    putTickLine (if double then { e with beforePoison := e.beforePoison ||| 1 }
      else { e with beforeSingle := e.beforeSingle ||| 1 }) s

/-- An armed injection puts a single-bit or a double-bit error into word 0 of the next line read from its slice
(Table 19.13). -/
def injectLine (router line : Nat) (s : State) : State :=
  if injectHits s 1 router then injectDone (spoilWord router line false s)
  else if injectHits s 2 router then injectDone (spoilWord router line true s)
  else s

/-- A scheduled read: the corrected beat, POISON set when a word is bad (R163). -/
def schedRead (router line : Nat) (s : State) : Beat × State :=
  let s0 := injectLine router line s
  let (d, bad) := lineBefore s0 router line
  (Beat.of d (bad != 0), countErrors true router line bad (singleBefore s0 router line) s0)

/-- A scheduled write of a beat under a byte mask (R80, R164). -/
def schedWrite (router line : Nat) (b : Beat) (mask : LineMask) (s : State) : State :=
  storeLine router line b.data mask b.poison true s

/-- All 64 bytes. -/
def fullMask : LineMask := BitVec.allOnes 64

/-! ### Pipelines -/

/-- Registers of a router beyond the ports of Table 4.6: the first and second bypass arriving from a rim router, and
the west bypass of a west corner (Table 5.2). -/
def regBypass0 : Nat := 8
def regBypass1 : Nat := 9
def regWestBypass : Nat := 10

/-- The beat in an input register that arrived in a partition tick; idle when none did. -/
def inputBeat (p : Pipe) (router reg at_ : Nat) : Beat :=
  match p.arrivals.find? fun a => a.router == router && a.port == reg && a.at_ == at_ with
  | some a => a.beat
  | none => Beat.idle

/-- The input register that an event's IN names: BYPASS by the pairing rule of R147 and BSEL (Table 5.2). -/
def inputReg (router inp outs : Nat) (bsel : Bool) : Nat :=
  if inp ≠ portBypass then inp
  else if isWestCorner router then (if bit1 outs portW then regWestBypass else portBypass)
  else if bit1 outs portEdge then portBypass
  else if bsel then regBypass1 else regBypass0

/-- Put a beat into an input register. -/
def arrive (router reg : Nat) (b : Beat) (at_ : Nat) (p : Pipe) : Pipe :=
  if b.valid then { p with arrivals := ⟨router, reg, b, at_⟩ :: p.arrivals } else p

/-- Drop what no event can name any more: arrivals, reads, writes and generator bits older than 8 ticks. -/
def prunePipe (now : Nat) (p : Pipe) : Pipe :=
  { p with
    arrivals := p.arrivals.filter fun a => decide (now ≤ a.at_ + 8)
    reads := p.reads.filter fun a => decide (now ≤ a.at_ + 8)
    writes := p.writes.filter fun a => decide (now ≤ a.at_ + 8)
    foldBits := p.foldBits.filter fun a => decide (now ≤ a.at_ + 8)
    edge := p.edge.filter fun a => decide (now ≤ a.at_ + 16) }

/-- Change the pipelines of a partition. -/
def updPipe (k : Nat) (f : Pipe → Pipe) (s : State) : State := updPart k (fun p => { p with pipe := f p.pipe }) s

/-- The port names an attachment's edge port (Table 5.2). -/
def isEdgePort (router port : Nat) : Bool := port == portEdge || (port == portW && isWestCorner router)

/-- Some output of a mask is an edge port. -/
def namesEdge (router outs : Nat) : Bool := bit1 outs portEdge || (isWestCorner router && bit1 outs portW)

/-- The router and input register at which a beat that leaves through a link or a bypass arrives (R142, R146, R147,
Table 5.2). -/
def linkTarget (router port inp outs : Nat) (bsel : Bool) : Option (Nat × Nat) :=
  if port = portBypass then
    if isWestCorner router ∨ inp = portEdge ∨ bit1 outs portEdge then
      let west := isWestCorner router && (inp == portW || bit1 outs portW)
      (bypassInward router west).map fun m =>
        (m, if (m == routerAt 1 1 || m == routerAt 1 126) && decide (routerX router = 1) then regBypass1 else regBypass0)
    else
      (bypassOutward router bsel).map fun r =>
        (r, if isWestCorner r && decide (routerX router = 1) then regWestBypass else portBypass)
  else if port < 4 then (neighbour router port).map fun m => (m, opposite port)
  else none

/-- One output of a router: an edge port delivers to its attachment, and a sealed link carries only idle beats (R103). -/
def sendPort (rc : Rect) (router port inp outs : Nat) (bsel : Bool) (b : Beat) (at_ : Nat) (p : Pipe) : Pipe :=
  if isEdgePort router port then
    (if b.valid then { p with edge := ⟨router, port, b, at_⟩ :: p.edge } else p)
  else match linkTarget router port inp outs bsel with
    | some (m, reg) => if rc.hasRouter m then arrive m reg b at_ p else p
    | none => p

/-- All outputs named in a mask, each with the beat that leaves there. -/
def sendPorts (rc : Rect) (router inp outs : Nat) (bsel : Bool) (b : Nat → Beat) (at_ : Nat) (p : Pipe) : Pipe :=
  (rangeFrom 0 7).foldl (fun q port => if bit1 outs port then sendPort rc router port inp outs bsel (b port) at_ q else q) p

/-- Edge beats leave the die: what the attachments receive. -/
def edgeOutputs (router outs : Nat) (b : Beat) : List Output :=
  if b.valid && namesEdge router outs then [.edgeBeat router b] else []

/-- A scheduled event that can take place now: its partition, image, pattern, context, record, and the ticks from
now to its tick. -/
structure Ready where
  part : Nat
  image : Image
  pattern : Nat
  ctx : Nat
  rect : Rect
  ev : Event
  wait : Nat
  deriving DecidableEq, Repr

/-- The event that a reference names, when the timetable of the current frame holds it, the partition receives
ticks and the occurrence's tick has not passed (R61, R74, R121). -/
def readyEvent (s : State) (r : EvRef) (kind : Nat) : Option Ready :=
  if !tickRuns s || !s.clk.frameDone then none
  else match partOf s r.router with
    | none => none
    | some k =>
      let p := part s k
      if p.parked then none
      else match boundImage s p with
        | none => none
        | some im => match currentPattern im p with
          | none => none
          | some pat => match (im.events pat r.router)[r.index]? with
            | none => none
            | some ev =>
              if ev.kind = kind ∧ r.occ ≤ ev.rep ∧ frameOffset s ≤ ev.offset r.occ ∧ ev.offset r.occ < 4096 then
                some ⟨k, im, pat, currentCtx p, rect s k, ev, ev.offset r.occ - frameOffset s⟩
              else none

end Sys2Proof.Machine
end

