-- ==== Sys2Proof/Machine/Flags.lean ====
section
/-! DEFINITION. Flag and status computations: packet parities (Table 7.7), the INVALID and POISON flags and the
status precedence of a completion (R335, R336), STATUS words of slice accesses (Table 5.6). -/

namespace Sys2Proof.Machine

/-- PAR0 and PAR1 of a dispatch packet, even parity over [19:0] and [39:20] (Table 7.7). -/
def withDispatchParity (x : Nat) : Nat :=
  x + put (if evenParity (bits x 0 20) 20 then 1 else 0) 40 1 +
    put (if evenParity (bits x 20 20) 20 then 1 else 0) 41 1

/-- The dispatch packet (Table 7.7, R214). -/
def dispatchPacket (cls line ctx occ : Nat) : Nat :=
  withDispatchParity (1 + put cls 1 8 + put line 9 10 + put ctx 19 3 + put occ 22 12)

/-- INVALID: every status but SUCCESS, FLUSH_DONE and POISONED_DATA (R335). -/
def statusInvalid (st : Nat) : Bool := st != stSuccess && st != stFlushDone && st != stPoisonedData

/-- The status of a run by the precedence of R336: the early end, host abort, host late, poisoned data. -/
def runStatus (r : Run) : Nat :=
  match r.breach with
  | some st => st
  | none =>
    if r.hostAbort then stHostAbort
    else if r.hostLate then stHostLate
    else if r.poisoned then stPoisonedData
    else stSuccess

/-- The completion entry (Table 10.10). -/
def completionEntry (seq : BitVec 32) (status : Nat) (phase poison : Bool) (result aux : Nat) (user : BitVec 32)
    (head : BitVec 24) (epoch : BitVec 8) (frame endf : Nat) : Nat :=
  put seq.toNat 0 32 + put status 32 8 + put (if phase then 1 else 0) 40 1 +
  put (if statusInvalid status then 1 else 0) 41 1 + put (if poison then 1 else 0) 42 1 + put result 48 16 +
  put aux 64 64 + put user.toNat 128 32 + put head.toNat 160 24 + put epoch.toNat 184 8 + put frame 192 32 +
  put endf 224 32

/-- STATUS of a slice access (Table 5.6): unavailable, in test, poisoned, corrected, success. -/
def sliceStatus (dead inTest : Bool) (bad single : Nat) : Nat :=
  if dead then 1 else if inTest then 4 else if bad ≠ 0 then 3 else if single ≠ 0 then 2 else 0

end Sys2Proof.Machine
end

