-- ==== Sys2Proof/Machine/Rng.lean ====
section
/-! DEFINITION. The random-number function (R500) and the counter of an RNG position (R503). -/

namespace Sys2Proof.Machine

/-- The four state words of the generator. -/
structure RngState where
  x0 : BitVec 32
  x1 : BitVec 32
  x2 : BitVec 32
  x3 : BitVec 32
  deriving DecidableEq, Repr

/-- Key injection s with three schedule words (R500). -/
def RngState.inject (v : RngState) (a b c : BitVec 32) (s : Nat) : RngState :=
  ⟨v.x0 + a, v.x1 + b, v.x2 + c, v.x3 + BitVec.ofNat 32 s⟩

/-- One round with rotation constants p for x1 and q for x3 (Table 15.1); x1 and x3 swap at the end. -/
def RngState.round (v : RngState) (p q : Nat) : RngState :=
  let x0 := v.x0 + v.x1
  let x1 := v.x1.rotateLeft p ^^^ x0
  let x2 := v.x2 + v.x3
  let x3 := v.x3.rotateLeft q ^^^ x2
  ⟨x0, x3, x2, x1⟩

/-- The generator: a 64-bit key and a 128-bit counter to 128 bits (R500). -/
def mkRng (key : BitVec 64) (counter : BitVec 128) : BitVec 128 :=
  let k0 : BitVec 32 := key.truncate 32
  let k1 : BitVec 32 := (key >>> 32).truncate 32
  let k2 := k0 ^^^ k1 ^^^ 0x5B2D9E47#32
  let c (i : Nat) : BitVec 32 := (counter >>> (32 * i)).truncate 32
  let v0 := (RngState.mk (c 0) (c 1) (c 2) (c 3)).inject k0 k1 k2 0
  let v1 := ((((v0.round 7 19).round 12 25).round 9 22).round 16 5).inject k1 k2 k0 1
  let v2 := ((((v1.round 13 29).round 3 17).round 24 11).round 8 21).inject k2 k0 k1 2
  v2.x3 ++ v2.x2 ++ v2.x1 ++ v2.x0

/-- The counter of a position: router, tick offset, run frame, context and STEP over CTR_BASE (R503). -/
def rngCounter (base router offset frame ctx step : Nat) : BitVec 128 :=
  BitVec.ofNat 128 (base + router + 2 ^ 14 * offset + 2 ^ 26 * frame + 2 ^ 50 * ctx + 2 ^ 64 * step)

end Sys2Proof.Machine
end

