-- ==== Sys2Proof/Machine/Packet.lean ====
section
/-! DEFINITION. Control packets, the steering of logical signals onto working lanes, and the line code of the tile service port
(R158, R221 to R223, R240 to R246). -/

namespace Sys2Proof.Machine

/-! ### Control packets (R158) -/

/-- The fields of a packet header (Table 5.4). -/
def pktType (h : BitVec 64) : Nat := bits h.toNat 0 4
def pktPrio (h : BitVec 64) : Nat := bits h.toNat 4 2
def pktLen (h : BitVec 64) : Nat := bits h.toNat 6 5
def pktDest (h : BitVec 64) : Nat := bits h.toNat 11 12
def pktSrc (h : BitVec 64) : Nat := bits h.toNat 32 12
def pktSub (h : BitVec 64) : Nat := bits h.toNat 44 6
def pktTag (h : BitVec 64) : Nat := bits h.toNat 50 14

/-- A header (Table 5.4). -/
def mkHeader (type prio len dest src sub tag : Nat) : BitVec 64 :=
  BitVec.ofNat 64 (put type 0 4 + put prio 4 2 + put len 6 5 + put dest 11 12 + put src 32 12 + put sub 44 6 + put tag 50 14)

/-- The priority of a packet type; none for a reserved type (Tables 5.6, 5.7). -/
def typePrio (type : Nat) : Option Nat :=
  if type = 1 ∨ type = 2 then some 0
  else if type = 3 ∨ type = 4 ∨ type = 10 then some 1
  else if 5 ≤ type ∧ type ≤ 7 then some 2
  else if type = 8 ∨ type = 9 then some 3
  else none

/-- No reserved value in a header: TYPE with its priority, LEN up to 24 and within the limits of FAULT and BARRIER, endpoints of
Table 5.5 (0xFFF for BARRIER and MGMT alone), SUB at a control node alone (R8, Tables 5.4 to 5.7). -/
def packetOk (h : BitVec 64) : Bool :=
  let type := pktType h
  typePrio type == some (pktPrio h) && decide (pktLen h ≤ 24) && bits h.toNat 23 9 == 0 &&
  (type != 1 || decide (pktLen h ≤ 4)) && (type != 2 || decide (pktLen h ≤ 2)) &&
  ((endpointNode (pktDest h)).isSome || (pktDest h == 0xFFF && (type == 2 || type == 3))) &&
  (endpointNode (pktSrc h)).isSome && (decide (pktDest h < 256) || decide (pktSrc h < 256) || pktSub h == 0)

/-- Payload words as one number, word 0 lowest. -/
def wordsValue : List Nat → Nat
  | [] => 0
  | w :: t => w % 2 ^ 32 + 2 ^ 32 * wordsValue t

/-- The first n 32-bit words of a number, word 0 lowest. -/
def valueWords (x n : Nat) : List Nat := (rangeFrom 0 n).map fun i => bits x (32 * i) 32

/-! ### Bundles and lane entries (Tables 8.1, 8.2, 8.4) -/

/-- A tile bond group: roles 0 DN, 1 UP, 2 CTL, 3 SVC. A bundle is bits [19:0] of its lane entries. -/
def bondBundle (tile cell role : Nat) : Nat := 1 + put tile 4 4 + put cell 8 10 + put role 18 2
/-- One direction of a stitch crossing. -/
def stitchBundle (column dir : Nat) : Nat := 2 + put dir 3 1 + put column 4 7
/-- An HBM3E channel interface. -/
def hbmBundle (stack channel : Nat) : Nat := 3 + put stack 4 3 + put channel 8 4
/-- One direction of a control-network stitch link, from a node in a direction: KIND 0 names no lane entry, so this is the
model's own number of the bundle. -/
def linkBundle (node dir : Nat) : Nat := put dir 4 2 + put node 6 8
/-- The entry of a failed lane. -/
def laneEntry (bundle lane : Nat) : Nat := bundle + put lane 20 9
/-- The entry that forces a cell's data groups to half width. -/
def halfEntry (tile cell : Nat) : Nat := 1 + put 1 2 1 + put tile 4 4 + put cell 8 10
/-- Fields of an entry. -/
def entKind (e : Nat) : Nat := bits e 0 2
def entHalf (e : Nat) : Bool := bit1 e 2
def entBundle (e : Nat) : Nat := bits e 0 20
def entTile (e : Nat) : Nat := bits e 4 4
def entCell (e : Nat) : Nat := bits e 8 10
def entRole (e : Nat) : Nat := bits e 18 2
def entColumn (e : Nat) : Nat := bits e 4 7
def entLane (e : Nat) : Nat := bits e 20 9

/-- What Table 8.1 gives for a bundle: its physical lanes in order, its logical lanes, and whether it has a half width. -/
structure BundleKind where
  sites : List Nat
  logical : Nat
  half : Bool
  deriving DecidableEq, Repr

/-- The SVC sites in order, without S70 to S75 (R240). -/
def svcSites : List Nat := rangeFrom 0 70 ++ rangeFrom 76 8
/-- Sites of the SVC group without spares: the service clock, TRST_N and the sensor link (R240). -/
def svcFixed : List Nat := rangeFrom 70 6

/-- The row of Table 8.1 of a bundle. HBM3E defines the lanes of its own channel interface. -/
def bundleKind (b : Nat) : BundleKind := match entKind b with
  | 0 => ⟨rangeFrom 0 38, 34, false⟩
  | 1 => match entRole b with
    | 2 => ⟨rangeFrom 0 27, 23, false⟩
    | 3 => ⟨svcSites, 70, false⟩
    | _ => ⟨rangeFrom 0 282, 261, true⟩
  | 2 => ⟨rangeFrom 0 272, 261, true⟩
  | _ => ⟨[], 0, false⟩

/-- Logical lanes that a bundle carries at a width: ⌈n / 2⌉ at half width (R241). -/
def BundleKind.carried (k : BundleKind) (half : Bool) : Nat := if half then (k.logical + 1) / 2 else k.logical

/-- Width code of a bundle with f failed lanes: 2 full, 1 half, 0 none (Table 8.2). -/
def widthCode (bundle f : Nat) : Nat :=
  let k := bundleKind bundle
  if f + k.logical ≤ k.sites.length then 2
  else if k.half ∧ f + k.carried true ≤ k.sites.length then 1
  else 0

/-- Failed lanes of a bundle in a list of entries; a HALF entry names none. -/
def failedLanes (es : List Nat) (bundle : Nat) : List Nat :=
  ((es.filter fun e => entBundle e == bundle).map entLane).eraseDups

/-- Width code of a bundle under a list of entries: an HBM3E channel or a site that is no lane of the bundle counts for
nothing. -/
def bundleWidth (es : List Nat) (bundle : Nat) : Nat :=
  widthCode bundle ((failedLanes es bundle).filter fun k => (bundleKind bundle).sites.contains k).length

/-- A cell's code from its DN, UP and CTL groups and its HALF entries: both data groups run at the lower width, and a
group without a working width fuses the cluster (R242, R246, R257). -/
def cellWidth (es : List Nat) (tile cell : Nat) : Nat :=
  let w := min (bundleWidth es (bondBundle tile cell 0)) (bundleWidth es (bondBundle tile cell 1))
  let h := es.any fun e => entKind e == 1 && entHalf e && entTile e == tile && entCell e == cell
  if bundleWidth es (bondBundle tile cell 2) = 0 then 0 else if h then min w 1 else w

/-- Width code at which a bundle runs: a data group of a cell runs at the cell's half width too (R242). -/
def runningWidth (es : List Nat) (bundle : Nat) : Nat :=
  let w := bundleWidth es bundle
  if entKind bundle = 1 ∧ entRole bundle ≤ 1 ∧ cellWidth es (entTile bundle) (entCell bundle) = 1 then min w 1 else w

/-- A stitch column's code: the lower of its two directions (R257). -/
def columnWidth (es : List Nat) (column : Nat) : Nat :=
  min (bundleWidth es (stitchBundle column 0)) (bundleWidth es (stitchBundle column 1))

/-- The router under a tile's cell number 32v + u, and a router's cell number. -/
def cellRouter (tile cell : Nat) : Nat := tileCell tile (cell % 32) (cell / 32)
def cellNumber (router : Nat) : Nat := (cellOfRouter router).1 + 32 * (cellOfRouter router).2

/-! ### Steering (R241, R244) -/

/-- The places, in the order of Table 8.1, of the physical lanes that carry logical lanes 0, 1, 2, …: those that the map does
not mark failed, as many as the width carries. Lanes beyond carry nothing (R241). -/
def laneplaces (k : BundleKind) (failed : List Nat) (half : Bool) : List Nat :=
  (((k.sites.zip (rangeFrom 0 k.sites.length)).filter fun x => !failed.contains x.1).map fun x => x.2).take (k.carried half)

/-- The physical lane that carries logical lane i. -/
def physicalLane (k : BundleKind) (failed : List Nat) (half : Bool) (i : Nat) : Option Nat :=
  ((laneplaces k failed half)[i]?).bind fun p => k.sites[p]?

/-- Logical lanes of w bits each laid onto the physical lanes. -/
def layLanes (w : Nat) (places : List Nat) (x : Nat) : Nat :=
  (places.zip (rangeFrom 0 places.length)).foldl (fun a pi => a + bits x (w * pi.2) w * 2 ^ (w * pi.1)) 0

/-- The logical lanes that the physical lanes carry. -/
def pickLanes (w : Nat) (places : List Nat) (x : Nat) : Nat :=
  (places.zip (rangeFrom 0 places.length)).foldl (fun a pi => a + bits x (w * pi.1) w * 2 ^ (w * pi.2)) 0

/-- Bit pairs of a DN or UP group in one tick, lane by lane. -/
abbrev GroupTick := BitVec 564

/-- The lanes of a DN or UP group for the 522 bits of a beat: in one tick at full width, in two consecutive ticks at half width,
the first with bits 0 to 261, the second with bits 262 to 521 and zeros on logical lane 130 (R243, R244, Table 7.3). -/
def groupTicks (failed : List Nat) (half : Bool) (x : Nat) : List GroupTick :=
  let places := laneplaces (bundleKind 1) failed half
  (if half then [bits x 0 262, bits x 262 260] else [bits x 0 522]).map fun v => BitVec.ofNat 564 (layLanes 2 places v)

/-- The bits of a beat from the lanes of its ticks. -/
def groupBeat (failed : List Nat) (half : Bool) (ts : List GroupTick) : Nat :=
  let places := laneplaces (bundleKind 1) failed half
  let v (i : Nat) : Nat := pickLanes 2 places ((ts[i]?.map fun t => t.toNat).getD 0)
  if half then bits (v 0) 0 262 + bits (v 1) 0 260 * 2 ^ 262 else bits (v 0) 0 522

/-- The lanes of a CTL group for a dispatch packet: its bits 2i and 2i + 1 on logical lane i (Table 7.3). -/
def ctlTick (failed : List Nat) (packet : Nat) : BitVec 54 :=
  BitVec.ofNat 54 (layLanes 2 (laneplaces (bundleKind (bondBundle 0 0 2)) failed false) (bits packet 0 42))

/-! ### The service port (R222, R223) -/

/-- The 78 lanes of the SVC group at one edge of the service clock. -/
abbrev SvcClock := BitVec 78

/-- One byte of a copy in basic mode: VALID in bit 8, odd parity over bits 0 to 8 in bit 9. -/
def copyOf (byte : Nat) : Nat := bits byte 0 8 + 2 ^ 8 + if evenParity (bits byte 0 8 + 2 ^ 8) 9 then 0 else 2 ^ 9

/-- The byte of a copy whose parity checks and whose VALID is set; `some none` for an idle clock. -/
def copyByte (x : Nat) : Option (Option Nat) :=
  if evenParity (bits x 0 10) 10 then some (if bit1 x 8 then some (bits x 0 8) else none) else none

/-- A received clock of basic mode: copy A on S35 to S44, or copy B on S45 to S54 when A fails parity. -/
def basicByte (c : SvcClock) : Option Nat := match copyByte (bits c.toNat 35 10) with
  | some b => b
  | none => (copyByte (bits c.toNat 45 10)).join

/-- A word of basic mode as the base die sends it: four clocks, low byte first, copy A on S0 to S9, copy B on S10 to S19. -/
def basicWord (w : Nat) : List SvcClock := (rangeFrom 0 4).map fun i =>
  let x := copyOf (bits w (8 * i) 8)
  BitVec.ofNat 78 (x + x * 2 ^ 10)

/-- The bytes of a list of clocks, where every one can be read. -/
def basicBytes : List SvcClock → Option (List Nat)
  | [] => some []
  | c :: t => match basicByte c, basicBytes t with
    | some b, some l => some (b :: l)
    | _, _ => none

/-- A number from bytes, low byte first. -/
def bytesValue : List Nat → Nat
  | [] => 0
  | b :: t => b % 256 + 256 * bytesValue t

/-- The words that the base die receives in basic mode. -/
def basicWords (rx : List SvcClock) : Option (List Nat) :=
  (basicBytes rx).bind fun l => if l.length % 4 = 0 then some (valueWords (bytesValue l) (l.length / 4)) else none

/-- The 35 logical signals of a word in full mode: the word, even parity in bit 32, VALID in bit 33, and bit 34 on the first word
of a packet. -/
def fullSignals (w : Nat) (first : Bool) : Nat :=
  bits w 0 32 + (if evenParity (bits w 0 32) 32 then 2 ^ 32 else 0) + 2 ^ 33 + if first then 2 ^ 34 else 0

/-- A word of full mode as the base die sends it: logical lanes 0 to 34. -/
def fullWord (failed : List Nat) (w : Nat) (first : Bool) : SvcClock :=
  BitVec.ofNat 78 (layLanes 1 (laneplaces (bundleKind (bondBundle 0 0 3)) failed false) (fullSignals w first))

/-- The word of a received clock of full mode, on logical lanes 35 to 69, where it is the one expected and its parity checks. -/
def fullRead (failed : List Nat) (first : Bool) (c : SvcClock) : Option Nat :=
  let x := bits (pickLanes 1 (laneplaces (bundleKind (bondBundle 0 0 3)) failed false) c.toNat) 35 35
  if x = fullSignals x first then some (bits x 0 32) else none

/-- The words that the base die receives in full mode. -/
def fullWords (failed : List Nat) : Bool → List SvcClock → Option (List Nat)
  | _, [] => some []
  | first, c :: t => match fullRead failed first c, fullWords failed false t with
    | some w, some l => some (w :: l)
    | _, _ => none

/-- A packet on the service port: its words as the base die sends them. -/
def svcSend (full : Bool) (failed : List Nat) (ws : List Nat) : List SvcClock :=
  if full then (ws.take 1).map (fun w => fullWord failed w true) ++ (ws.drop 1).map fun w => fullWord failed w false
  else ws.flatMap basicWord

/-- The words of a packet that the base die receives; none where a word cannot be read from either copy. -/
def svcReceive (full : Bool) (failed : List Nat) (rx : List SvcClock) : Option (List Nat) :=
  if full then fullWords failed true rx else basicWords rx

/-- The words of a DISCOVERY packet from the MP to the node of a router: header, SUB, SEQ and CHUNK, n bytes of content
(R221, R223). -/
def discoveryWords (router sub seq chunk content n : Nat) : List Nat :=
  let h := mkHeader 4 1 (1 + cdiv n 4) (controlNode router) 0x100 (controlSub router) 0
  valueWords h.toNat 2 ++ (put sub 0 8 + put seq 8 8 + put chunk 16 16) :: valueWords (content % 2 ^ (8 * n)) (cdiv n 4)

/-- A DISCOVERY message as it is received: SUB, SEQ, CHUNK, content and its number of bytes. -/
structure Discovery where
  sub : Nat
  seq : Nat
  chunk : Nat
  content : Nat
  bytes : Nat
  deriving DecidableEq, Repr

/-- The DISCOVERY message in the words of a packet that the node of a router sends to the MP. -/
def discoveryOf (router : Nat) : List Nat → Option Discovery
  | w0 :: w1 :: p :: content =>
    let h := BitVec.ofNat 64 (w0 % 2 ^ 32 + w1 % 2 ^ 32 * 2 ^ 32)
    if packetOk h ∧ pktType h = 4 ∧ pktDest h = 0x100 ∧ pktSrc h = controlNode router ∧ pktLen h = content.length + 1 then
      some ⟨bits p 0 8, bits p 8 8, bits p 16 16, wordsValue content, 4 * content.length⟩
    else none
  | _ => none

/-! ### Training streams (R249, R250) -/

/-- The PRBS-15 register holds the last 15 bits of the stream, the oldest in bit 14; polynomial x¹⁵ + x¹⁴ + 1. -/
def prbsNext (x : BitVec 15) : BitVec 15 := (x <<< 1) ||| (if x.getLsbD 14 != x.getLsbD 13 then 1#15 else 0#15)

/-- The first n bits of a stream from a register, bit 0 first. -/
def prbsStream : Nat → BitVec 15 → Nat
  | 0, _ => 0
  | n + 1, x => (if (prbsNext x).getLsbD 0 then 1 else 0) + 2 * prbsStream n (prbsNext x)

/-- The seed of site k (R249). DESIGN CHOICE, log entry 23: it is what the register holds before the first bit. -/
def prbsSeed (k : Nat) : BitVec 15 := BitVec.ofNat 15 (0x7FFF - k)

/-- The self-synchronising checker finds a bit error among n bits, the first at bit 15 of a window that begins with the 15
bits before them: a bit is in error when it is not the sum of the 14th and 15th before it (R250). -/
def prbsError (n window : Nat) : Bool := (window ^^^ (window >>> 1) ^^^ (window >>> 15)) % 2 ^ n != 0

/-- No transition among the n bits of a window. -/
def prbsStatic (n window : Nat) : Bool := bits window 15 n == 0 || bits window 15 n == 2 ^ n - 1

/-- Bits of a checking window: 131,072 ticks, two bits per tick (R250, R251). -/
def checkBits : Nat := 262144

end Sys2Proof.Machine
end

