-- ==== Sys2Proof/Machine/Socket.lean ====
section
/-! DEFINITION. The base die's end of a tile's bonds: the lane map that both ends apply, messages on the service port, and
LANES transfers (R221 to R223, R241, R248, R258). -/

namespace Sys2Proof.Machine

/-- A tile. -/
def tileAt (s : State) (t : Nat) : Tile := Tab.get Tile.reset s.tiles.tile t
/-- Change a tile. -/
def updTile (t : Nat) (f : Tile → Tile) (s : State) : State :=
  { s with tiles := { s.tiles with tile := Tab.upd Tile.reset s.tiles.tile t f } }

/-! ### Lanes of a bond -/

/-- Failed lanes of a group of the cell above a router, by the map that its tile applies. -/
def cellFailed (s : State) (router role : Nat) : List Nat :=
  failedLanes (tileAt s (tileOf router)).laneMap (bondBundle (tileOf router) (cellNumber router) role)

/-- The data groups of the cell above a router run at half width (R242, R246). -/
def cellHalf (s : State) (router : Nat) : Bool :=
  cellWidth (tileAt s (tileOf router)).laneMap (tileOf router) (cellNumber router) == 1

/-- The 522 bits of a beat (Table 5.1). -/
def beatBits (b : Beat) : Nat := b.data.toNat + put b.par.toNat 512 8 + put (flag b.poison) 520 1 + put (flag b.valid) 521 1
/-- A beat from its bits. -/
def bitsBeat (x : Nat) : Beat := ⟨BitVec.ofNat 512 (bits x 0 512), BitVec.ofNat 8 (bits x 512 8), bit1 x 520, bit1 x 521⟩

/-- An operand beat leaves on the DN group above a router (R216, R241, R244). -/
def sendOperand (router : Nat) (b : Beat) (s : State) : State :=
  emit (.operand router b (groupTicks (cellFailed s router 0) (cellHalf s router) (beatBits b))) s

/-- A dispatch packet leaves on the CTL group above a router (R214). -/
def sendDispatch (router packet : Nat) (s : State) : State :=
  emit (.dispatch router packet (ctlTick (cellFailed s router 2) packet)) s

/-- The beat that the UP group above a router captured in its one or two ticks (R241, R244). -/
def captured (s : State) (router : Nat) (up : List GroupTick) : Beat :=
  bitsBeat (groupBeat (cellFailed s router 1) (cellHalf s router) up)

/-! ### Messages (R221 to R223) -/

/-- The router under the active corner cell of a tile (R221). -/
def cornerRouter (t : Nat) : Nat := routerAt (tileOrigin t).1 (tileOrigin t).2
/-- The SVC bundle of a tile. -/
def svcBundle (t : Nat) : Nat := bondBundle t (cellNumber (cornerRouter t)) 3
/-- Failed lanes of a tile's service port, by the map that the tile applies. -/
def svcFailed (s : State) (t : Nat) : List Nat := failedLanes (tileAt s t).laneMap (svcBundle t)

/-- A message to a tile as it leaves, with n bytes of content, in a DISCOVERY packet of priority 1 over the service port. -/
def tileOutput (s : State) (t sub chunk content n : Nat) : Output :=
  let x := tileAt s t
  .tileMsg t sub x.seqOut.toNat chunk content n
    (svcSend x.full (svcFailed s t) (discoveryWords (cornerRouter t) sub x.seqOut.toNat chunk content n))

/-- Send a message to a tile. -/
def sendTile (t sub chunk content n : Nat) (s : State) : State :=
  emit (tileOutput s t sub chunk content n) (updTile t (fun x => { x with seqOut := x.seqOut + 1 }) s)

/-- A message of a tile as the MP receives it: it runs, the packet can be read, and SUB is the one named. A packet that cannot
be read, or that reaches no running MP, is lost; its sender's bound expires (R30, R226, R236). -/
def heard (s : State) (t sub : Nat) (rx : List SvcClock) : Option Discovery :=
  if !mpRuns s then none
  else match (svcReceive (tileAt s t).full (svcFailed s t) rx).bind (discoveryOf (cornerRouter t)) with
    | some d => if d.sub = sub then some d else none
    | none => none

/-- Message codes of Table 7.11. -/
def mHello : Nat := 0x01
def mIdent : Nat := 0x02
def mLanes : Nat := 0x03
def mBoot : Nat := 0x04
def mBootDone : Nat := 0x05
def mSpares : Nat := 0x06
def mCommit : Nat := 0x07
def mAck : Nat := 0x08
def mQuiesce : Nat := 0x09
def mError : Nat := 0x0A

/-- The ACK of a message (R223, R226). -/
def sendAck (t seq : Nat) (s : State) : State := sendTile t mAck 0 seq 4 s

/-! ### LANES (R248, R258) -/

/-- Chunks of a map: 23 entries each, and an entry of KIND 0 ends it. -/
def mapChunks (es : List Nat) : Nat := es.length / 23 + 1

/-- Send one chunk of the tile's map. -/
def sendLanes (t chunk : Nat) (s : State) : State :=
  let es := ((tileAt s t).laneMap ++ [0]).drop (23 * chunk) |>.take 23
  sendTile t mLanes chunk (wordsValue es) (4 * es.length) (updTile t (fun y => { y with laneSeq := y.seqOut }) s)

/-- A transfer of a map to a tile begins (R248). -/
def startTransfer (t : Nat) (es : List Nat) (s : State) : State :=
  sendLanes t 0 (updTile t (fun y => { y with laneMap := es, chunk := 0, repeats := 0, laneChunks := mapChunks es }) s)

/-- HALF entries that a tile is to hold: a transfer with them replaces the map unless it holds them already (R248). -/
def setHalves (t : Nat) (halves : List Nat) (s : State) : State :=
  let m := (tileAt s t).laneMap
  if (tileAt s t).step ≠ .ready ∨ m.filter entHalf = halves then s
  else startTransfer t ((m.filter fun e => !entHalf e) ++ halves) s

/-- The full-width cells of a tile to which an image gives cluster code 1 (R258). -/
def halfCells (s : State) (im : Image) (t : Nat) : List Nat :=
  ((rangeFrom 0 1024).filter fun c => bits im.dep.clusters (2 * cellRouter t c) 2 == 1 && s.fmap.clusterCode (cellRouter t c) == 2)

/-- Each tile of a rectangle receives the HALF entries that an image needs; none without an image (R258). -/
def lanesFor (rc : Rect) (im : Option Image) (s : State) : State :=
  rc.tiles.foldl (fun u t =>
    if (tileAt u t).step ≠ .ready then u
    else setHalves t (match im with
      | some i => (halfCells u i t).map (halfEntry t)
      | none => []) u) s

end Sys2Proof.Machine
end

