-- ==== Sys2Proof/Machine/Pipeline.lean ====
section
/-! DEFINITION. Time: tick-clock periods, Crumbs and throttle boundaries, and the pipeline work that falls due as
ticks pass (R9, R53 to R55, Tables 3.3, 7.9, 15.5; R184). -/

namespace Sys2Proof.Machine

/-! ### Throttle settings -/

/-- Tick divisor d of a setting (Table 2.4). -/
def setD (x : BitVec 9) : Nat := x.toNat % 4 + 1
/-- Crumb period K; 0 for none. -/
def setK (x : BitVec 9) : Nat := x.toNat / 4
/-- CRUMB holds a value that may be applied (Table 2.4). -/
def setValid (x : BitVec 9) : Bool := setK x == 0 || (decide (2 ≤ setK x) && decide (setK x ≤ 64))
/-- The setting of a divisor and a Crumb period. -/
def mkSetting (d k : Nat) : BitVec 9 := BitVec.ofNat 9 (4 * k + (d - 1))
/-- d = 4, K = 2, the slowest setting. -/
def slowest : BitVec 9 := mkSetting 4 2
/-- Numerator and denominator of the effective rate q. -/
def rateNum (x : BitVec 9) : Nat := if setK x = 0 then 1 else setK x - 1
def rateDen (x : BitVec 9) : Nat := if setK x = 0 then setD x else setK x * setD x

/-- The setting is at or above the floor: an exact comparison of effective rates (R59). -/
def aboveFloor (x floor : BitVec 9) : Bool := decide (rateNum x * rateDen floor ≥ rateNum floor * rateDen x)

/-- The slower of two settings; at equal rates the smaller divisor (R658). -/
def slower (a b : BitVec 9) : BitVec 9 :=
  if rateNum a * rateDen b < rateNum b * rateDen a then a
  else if rateNum b * rateDen a < rateNum a * rateDen b then b
  else if setD a ≤ setD b then a else b

/-- Throttle floor of an image as a setting. -/
def floorOf (im : Image) : BitVec 9 := BitVec.ofNat 9 im.hdr.floor

/-- One tick-clock period in picoseconds (R9). -/
def periodPs (x : BitVec 9) : Nat := 625 * setD x

/-- Crumbs that fall within the next n ticks: a Crumb follows each run of K − 1 ticks (R55). -/
def crumbsIn (x : BitVec 9) (done n : Nat) : Nat := if setK x < 2 then 0 else (done + n - 1) / (setK x - 1)

/-- Ticks done in the Crumb run after n more ticks. -/
def crumbAfter (x : BitVec 9) (done n : Nat) : Nat :=
  if setK x < 2 ∨ n = 0 then done else (done + n - 1) % (setK x - 1) + 1

/-- A partition's own tick counter advances unless it is parked (R61). -/
def partTicks (n : Nat) (p : Part) : Part :=
  if p.parked then p else { p with ptick := p.ptick + n, pipe := prunePipe (p.ptick + n) p.pipe }

/-- Change all four partitions. -/
def updParts (f : Nat → Part → Part) (s : State) : State :=
  { s with parts := Tab.updAll Part.reset s.parts (rangeFrom 0 4) f }

/-- n ticks pass under the setting in force. -/
def rawTicks (n : Nat) (s : State) : State :=
  let c := s.clk
  let periods := n + crumbsIn c.setting c.crumb n
  updParts (fun _ p => partTicks n p) { s with clk := { c with
    tick := c.tick + BitVec.ofNat 64 n
    wallPs := c.wallPs + periods * periodPs c.setting
    crumb := crumbAfter c.setting c.crumb n
    frameDone := c.frameDone && c.tick.toNat / 4096 == (c.tick.toNat + n) / 4096 } }

/-- A setting takes effect on the present tick: the Crumb counter restarts when d or K changes, and a partition that
was below its floor counts its hold-off from here (R53, R55, R64). A reserved CRUMB value is never applied (R52). -/
def applySetting (x : BitVec 9) (s : State) : State :=
  if !setValid x then s
  else
    let old := s.clk.setting
    let now := s.clk.tick.toNat
    updParts (fun _ p => match boundImage s p with
        | some im => if aboveFloor old (floorOf im) then p else { p with okSince := now }
        | none => p)
      { s with clk := { s.clk with
        setting := x, crumb := if old = x then s.clk.crumb else 1 } }

/-- The throttle boundary at which a setting that arrived on tick a takes effect (R53). -/
def throttleBoundaryAfter (a : Nat) : Nat := (a / 64 + 1) * 64

/-- Ticks pass up to a target tick, with a pending setting applied at its boundary on the way. -/
def passTo (target : Nat) (s : State) : State :=
  let now := s.clk.tick.toNat
  match s.clk.pendSetting with
  | none => rawTicks (target - now) s
  | some (x, a) =>
    let b := throttleBoundaryAfter a
    if b ≤ target then
      let u := rawTicks (b - now) s
      let t := applySetting x { u with clk := { u.clk with pendSetting := none } }
      rawTicks (target - t.clk.tick.toNat) t
    else rawTicks (target - now) s

/-! ### Arithmetic of Fold and update -/

/-- Elements of an operand in accumulator form: 16 words of 32 bits, or 32 for type 1 (Table 6.1). -/
def foldLanes (type : Nat) : Nat := if type = 1 then 32 else 16

/-- A beat as an operand in accumulator form: BF16 elements are widened (R188). -/
def foldWiden (type : Nat) (d : LineData) : BitVec 1024 :=
  if type = 1 then BitVec.ofNat 1024 (packElems 32 (fun i => bf16Widen (lineElem 16 d i)) 32)
  else d.zeroExtend 1024

/-- One reduction step, element by element (R187). -/
def foldCombine (type : Nat) (a b : BitVec 1024) : BitVec 1024 :=
  BitVec.ofNat 1024 (packElems 32 (fun i =>
    let x : BitVec 32 := lineElem 32 a i
    let y : BitVec 32 := lineElem 32 b i
    if type = 2 then x + y else fpAdd x y) (foldLanes type))

/-- The beat of a result delivered to a port: type 1 is rounded to bfloat16, stochastically when SR is set
(R188, R190). -/
def foldNarrow (type : Nat) (sr : Bool) (rnd : BitVec 256) (a : BitVec 1024) : LineData :=
  if type = 1 then
    lineOf 16 32 fun i =>
      let x : BitVec 32 := lineElem 32 a i
      if sr then bf16Sr x (lineElem 8 rnd i) else bf16Rne x
  else a.truncate 512

/-- Fields of the parameter line (Table 15.3). -/
def prmStep (p : Nat) : Nat := bits p 0 64
def prmEta (p : Nat) : BitVec 32 := BitVec.ofNat 32 (bits p 64 32)
def prmWd (p : Nat) : BitVec 32 := BitVec.ofNat 32 (bits p 96 32)
def prmGscale (p : Nat) : BitVec 32 := BitVec.ofNat 32 (bits p 128 32)
def prmSr (p : Nat) : Bool := bit1 p 160

/-- The parameter line as an event of the present tick uses it: bytes 0 to 23 as its slice's mirror held them at the end of the
tick before, and whether one of words 0 to 2 was poisoned (R502, R512). A bind loads a mirror for every line that an event
names; without one the line itself stands in. -/
def paramLine (s : State) (router line : Nat) : Nat × Bool :=
  match s.buf.mirrors.find? fun m => m.key == sliceLine router line with
  | some m => if m.at_ = s.clk.tick.toNat then (m.old, m.oldBad != 0) else (m.now, m.nowBad != 0)
  | none =>
    let (d, bad) := lineBefore s router line
    (headBytes d, bits bad 0 3 != 0)

/-- One optimizer step (R508). -/
def updStep (p : Nat) (g w : BitVec 32) : BitVec 32 :=
  let u := fpAdd (fpMul g (prmGscale p)) (fpMul (prmWd p) w)
  fpAdd w (fpNeg (fpMul (prmEta p) u))

/-- Master element i from the two lines (R509). -/
def UpdJob.master (j : UpdJob) (i : Nat) : BitVec 32 :=
  if j.desc.op = 2 then
    ((lineElem 16 j.m0 i : BitVec 16).zeroExtend 32 <<< 16) ||| (lineElem 16 j.m1 i : BitVec 16).zeroExtend 32
  else if i < 16 then lineElem 32 j.m0 i else lineElem 32 j.m1 (i - 16)

/-- New master element i (R508). -/
def UpdJob.result (j : UpdJob) (i : Nat) : BitVec 32 := updStep j.params (lineElem 32 j.grad i) (j.master i)

/-- The event's lines are written with POISON (R508). -/
def UpdJob.poison (j : UpdJob) : Bool := j.gradPoison || j.m0Poison || j.m1Poison || j.paramPoison

/-- Generator output k of an UPDATE event, drawn k ticks after the event (R503, R509, Table 15.5). -/
def UpdJob.draw (j : UpdJob) (k : Nat) : BitVec 128 :=
  let o := j.offset + k
  mkRng (BitVec.ofNat 64 j.desc.key)
    (rngCounter j.desc.ctrBase j.router (o % 4096) (j.runFrame + o / 4096) j.ctx (prmStep j.params))

/-- The k-th line that an UPDATE event writes: masters, then the working copy (R509, R510). -/
def UpdJob.lineOut (j : UpdJob) (k : Nat) : LineData :=
  if k = 2 then
    (if j.desc.outfmt = 2 then mxfp8Line j.result
     else
       let rnd : BitVec 256 := j.draw 3 ++ j.draw 2
       lineOf 16 32 fun i =>
         if prmSr j.params then bf16Sr (j.result i) (lineElem 8 rnd i) else bf16Rne (j.result i))
  else if j.desc.op = 2 then
    lineOf 16 32 fun i => if k = 0 then ((j.result i) >>> 16).truncate 16 else (j.result i).truncate 16
  else lineOf 32 16 fun i => j.result (16 * k + i)

/-- The gradient of an UPDATE event as 32 binary32 elements (R507). -/
def gradOfBeat (d : LineData) : BitVec 1024 := foldWiden 1 d

/-! ### Work that falls due -/

/-- Put work into a partition's pipelines. -/
def addDue (k : Nat) (ds : List Due) (s : State) : State := updPipe k (fun p => { p with due := p.due ++ ds }) s

/-- Generator bits held for a Fold adder in a tick. -/
def foldBitsAt (p : Pipe) (router at_ : Nat) : BitVec 128 × Bool :=
  match p.foldBits.find? fun f => f.router == router && f.at_ == at_ with
  | some f => (f.bits, f.poison)
  | none => (0, false)

/-- A socket stall of a cluster: tile fault and hold, unless a PERR of the same cell lies within 8 ticks (R218). -/
def socketStall (router : Nat) (terr : Bool) (s : State) : State :=
  let now := s.clk.tick.toNat
  let masked := !terr && s.tiles.perrs.any fun e => e.1 == router && decide (now ≤ e.2 + 8)
  let first : Bool := match partOf s router with
    | some k => ((part s k).run.map fun r => r.breach.isNone) == some true
    | none => false
  let s1 := if terr then s else { s with tiles := { s.tiles with
    stalls := (router, now, first) :: s.tiles.stalls.filter fun e => decide (now ≤ e.2.1 + 8) } }
  if masked then s1
  else
    let s2 := routerFault (if terr then 0x300C else 0x300B) 4 router none s1
    match partOf s router with
    | some k => breach k stTileFault true s2
    | none => s2

/-- Deliver a Fold result (R184): the accumulator, or the ports named in OUT, as a LINK event with the step's IN would: a bypass
paired with EDGE is the router's own (R147). -/
def deliverFold (k router inp outs : Nat) (acc : BitVec 1024) (type : Nat) (sr poison bsel : Bool) (s : State) : State :=
  let p := part s k
  if bit1 outs portFold then
    { s with buf := { s.buf with acc := Tab.set FoldAcc.zero s.buf.acc router ⟨acc, poison⟩ } }
  else
    let (r0, p0) := foldBitsAt p.pipe router (p.ptick - 1)
    let (r1, p1) := foldBitsAt p.pipe router p.ptick
    let b := Beat.of (foldNarrow type sr (r1 ++ r0) acc) (poison || (sr && (p0 || p1)))
    let s1 := updPipe k (fun q =>
      arrive router portFold b (p.ptick - 1) (sendPorts (rect s k) router inp outs bsel (fun _ => b) p.ptick q)) s
    emitAll (edgeOutputs router outs b) s1

/-- Remember a write for the merge rules (R175, R177): the lines that it counts for, and the line that it committed to. -/
def noteWrite (k router lo n : Nat) (hit : Option Nat) (control : Bool) (s : State) : State :=
  updPart k (fun p => { p with pipe := { p.pipe with writes := ⟨router, lo, n, hit, p.ptick, control⟩ :: p.pipe.writes } }) s

/-- A write of one line through the scheduled port, seen by the merge rules. -/
def noteLine (k router line : Nat) (s : State) : State := noteWrite k router line 1 (some line) false s

/-- An array read through the scheduled port: the merge stage holds it (R174). -/
def portRead (k router line : Nat) (ctx byRead : Bool) (s : State) : Beat × State :=
  let (b, s1) := schedRead router line s
  (b, updPart k (fun p => { p with pipe := { p.pipe with reads := ⟨router, line, ctx, p.ptick, b, byRead⟩ :: p.pipe.reads } }) s1)

/-- Do one piece of due work at the present tick, which is its own. -/
def doWork (k : Nat) (w : Work) (s : State) : State :=
  match w with
  | .dispRead router line =>
    let (b, s1) := portRead k router line false false s
    sendOperand router b s1
  | .dispWrite router line => noteWrite k router line 1 none false (socketStall router false s)
  | .rngWrite router line q rnd poison =>
    let d : LineData := (rnd.zeroExtend 512) <<< (128 * q)
    let m : LineMask := (0xFFFF#64) <<< (16 * q)
    noteLine k router line (storeLine router line d m poison true s)
  | .updRead j =>
    let (b, s1) := portRead k j.router (j.line + 1) false false s
    let j1 := { j with m1 := b.data, m1Poison := b.poison }
    let t := (part s k).ptick
    addDue k ([⟨t + 1, .updWrite j1 0⟩, ⟨t + 2, .updWrite j1 1⟩] ++
      if j.desc.op = 3 ∧ j.desc.outfmt ≠ 0 then [⟨t + 3, .updWrite j1 2⟩] else []) s1
  | .updWrite j i =>
    noteLine k j.router (j.line + i)
      (schedWrite j.router (j.line + i) (Beat.of (j.lineOut i) j.poison) fullMask s)
  | .foldOut router inp outs acc type sr poison bsel => deliverFold k router inp outs acc type sr poison bsel s

/-- Remove one piece of work. -/
def dropDue (k : Nat) (d : Due) (s : State) : State := updPipe k (fun p => { p with due := p.due.erase d }) s

/-- The earlier of two optional pieces of work. -/
def earlier (a b : Option (Nat × Nat × Due)) : Option (Nat × Nat × Due) :=
  match a, b with
  | none, y => y
  | x, none => x
  | some (k, t, d), some (k', t', d') => if t ≤ t' then some (k, t, d) else some (k', t', d')

/-- The next piece of work of the partitions that receive ticks: partition, module tick, work. -/
def nextDue (s : State) : Option (Nat × Nat × Due) :=
  (rangeFrom 0 4).foldl (fun acc k =>
    let p := part s k
    if p.parked then acc
    else p.pipe.due.foldl (fun a d => earlier a (some (k, s.clk.tick.toNat + (d.at_ - p.ptick), d))) acc) none

/-- Pieces of work outstanding. -/
def dueCount (s : State) : Nat := (rangeFrom 0 4).foldl (fun n k => n + (part s k).pipe.due.length) 0

/-! ### The branch word -/

/-- What a branch word chooses (Table 3.6, R98). -/
def branchChoice (v : Variant) (variants word : Nat) : Choice :=
  if bit1 word 3 then .ends
  else
    let n := bits word 0 3
    if bit1 v.set n ∧ n < variants then .variant n else .bad

/-- Read the branch word through the scheduled port and record the choice and RESULT (R97). -/
def branchNow (k : Nat) (im : Image) (v : Variant) (s : State) : State :=
  let p := part s k
  let line := im.hdr.brLine + if im.hdr.brCtx then im.ctxBase im.hdr.brRouter (currentCtx p) else 0
  let (b, s1) := portRead k im.hdr.brRouter line false false s
  let word := bits b.data.toNat (32 * im.hdr.brWord) 32
  let c := branchChoice v im.hdr.variants word
  updRun k (fun r => { r with choice := c, result := BitVec.ofNat 16 (bits word 16 16) }) s1

/-- The variant that a run executes, when the run stands in the variant's last frame. -/
def lastFrameOf (im : Image) (r : Run) : Option Variant :=
  match im.variants[r.variant]? with
  | none => none
  | some v => if r.frame + 1 = v.frames then some v else none

/-- The chosen-successor variant whose last frame a partition executes, before its branch read (R97). -/
def branchDue (s : State) (k : Nat) : Option (Image × Variant) :=
  let p := part s k
  if p.parked then none
  else match p.run, boundImage s p with
    | some r, some im => match lastFrameOf im r with
      | some v => if v.chosen && r.choice == .pending then some (im, v) else none
      | none => none
    | _, _ => none

/-- The next branch read of the frame: partition and tick. It reads at tick 3,968 what the writes of the ticks before left
(R97). -/
def nextBranch (s : State) : Option (Nat × Nat) :=
  if !s.clk.frameDone then none
  else ((rangeFrom 0 4).find? fun k => (branchDue s k).isSome).map fun k => (k, s.clk.tick.toNat / 4096 * 4096 + 3968)

/-- The branch read of a partition is done. -/
def doBranch (k : Nat) (s : State) : State := match branchDue s k with
  | some (im, v) => branchNow k im v s
  | none => s

/-! ### Advancing -/

/-- The tick by which work falls due first: a piece of a partition's pipelines, or a branch read. -/
def branchFirst (s : State) : Option (Nat × Nat) := match nextBranch s, nextDue s with
  | some (k, t), some (_, t', _) => if t ≤ t' then some (k, t) else none
  | b, _ => b

/-- Advance to a target tick, doing the work of every tick that is left. -/
def advanceLoop : Nat → Nat → State → State
  | 0, target, s => passTo target s
  | fuel + 1, target, s =>
    match branchFirst s with
    | some (k, t) => if t < target then advanceLoop fuel target (doBranch k (passTo t s)) else passTo target s
    | none => match nextDue s with
      | none => passTo target s
      | some (k, t, d) =>
        if t < target then advanceLoop fuel target (doWork k d.work (dropDue k d (passTo t s))) else passTo target s

/-- Advance to a target tick through a released boundary; one UPDATE read spawns at most three writes, and each partition reads
at most one branch word in a frame. -/
def advanceFree (target : Nat) (s : State) : State := advanceLoop (4 * dueCount s + 8) target s

/-- Local superframe number (R45). -/
def localSuper (s : State) : Nat := s.clk.tick.toNat / 1048576
/-- FSF of the current superframe. -/
def fsfNow (s : State) : Nat := (localSuper s + s.lat.fsfOff) % 2 ^ 48
/-- Fabric frame number of the current frame. -/
def fabricFrame (s : State) : Nat := 256 * fsfNow s + frameNumber s % 256
/-- Window stamp of the current frame. -/
def stampNow (s : State) : BitVec 32 := BitVec.ofNat 32 (fabricFrame s)

/-- First tick of the next superframe (R45). -/
def nextSuper (s : State) : Nat := (s.clk.tick.toNat / 1048576 + 1) * 1048576

/-- The module holds at the next superframe boundary: a member in good standing when it begins a superframe whose FSF
is a multiple of 2^PERIOD_LOG2, a joining member always (R473, R476). -/
def barrierArmed (s : State) : Bool := match s.lat.standing with
  | .out => false
  | .joining => true
  | .good => (nextSuper s / 1048576 + s.lat.fsfOff) % 2 ^ 48 % 2 ^ s.lat.policy.period == 0

/-- The tick root withholds the boundary tick (R58, R473). -/
def holdTick (s : State) : State :=
  { s with clk := { s.clk with held := true }, lat := { s.lat with heldAt := s.clk.wallPs, arriveSent := false } }

/-- Advance to a target tick; a barrier on the way holds the tick. -/
def advanceTo (target : Nat) (s : State) : State :=
  let b := nextSuper s
  if s.clk.held then s
  else if barrierArmed s && decide (b ≤ target) then holdTick (advanceFree (b - 1) s)
  else advanceFree target s

/-- Advance by n ticks. -/
def advance (n : Nat) (s : State) : State := advanceTo (s.clk.tick.toNat + n) s

/-- Wall time passes without a tick. -/
def passPs (ps : Nat) (s : State) : State := { s with clk := { s.clk with wallPs := s.clk.wallPs + ps } }

/-- The PM writes a throttle setting: it arrives on the present tick (R53); while no tick runs it is kept for the
first tick after the restart (R66). -/
def writeSetting (x : BitVec 9) (s : State) : State :=
  { s with clk := { s.clk with pendSetting := some (x, s.clk.tick.toNat) } }

end Sys2Proof.Machine
end

