-- ==== Sys2Proof/Machine/WinOps.lean ====
section
/-! DEFINITION. Window checks and violations (R388 to R397, R403, R404). -/

namespace Sys2Proof.Machine

/-- The in-force table of a function. -/
def winTable (s : State) (fn : Nat) : WinTable := Tab.get WinTable.empty s.win.inForce fn

/-- Values of a table. -/
def tabValues {α : Type} (m : Tab α) : List α := m.map fun e => e.2

/-- A BUF entry grants a right on a line of a router (R392). -/
def bufEntryAllows (e router line : Nat) (write : Bool) : Bool :=
  decide (bits e 0 7 ≤ routerX router) && decide (routerX router ≤ bits e 16 7) &&
  decide (bits e 8 7 ≤ routerY router) && decide (routerY router ≤ bits e 24 7) &&
  decide (bits e 32 10 ≤ line) && decide (line ≤ bits e 48 10) && bit1 e (if write then 59 else 58)

/-- A buffer line is permitted (R389, R392). -/
def winBuf (s : State) (fn router line : Nat) (write : Bool) : Bool :=
  fn == 0 || (tabValues (winTable s fn).buf).any fun e => bufEntryAllows e router line write

/-- An HBM entry covers a unit of a stack with a right: 24 R, 25 W, 26 IMG. -/
def hbmEntryAllows (e stack unit right : Nat) : Bool :=
  bits e 0 3 == stack && decide (bits e 8 6 ≤ unit) && decide (unit < bits e 8 6 + bits e 16 6) && bit1 e right

/-- An HBM unit is permitted (R393, R394). -/
def winHbm (t : WinTable) (fn stack unit right : Nat) : Bool :=
  fn == 0 || (tabValues t.hbm).any fun e => hbmEntryAllows e stack unit right

/-- A GiB of dense capacity is permitted (R393). -/
def winDense (s : State) (fn gib : Nat) (write : Bool) : Bool :=
  fn == 0 || (tabValues (winTable s fn).dense).any fun e =>
    decide (bits e 0 30 ≤ gib) && decide (gib < bits e 0 30 + bits e 32 30) && bit1 e (if write then 63 else 62)

/-- A slot right: 0 LOAD, 1 RUN, 2 QUERY (R394, R395). -/
def winSlot (s : State) (fn slot right : Nat) : Bool := fn == 0 || bit1 (winTable s fn).slots (3 * slot + right)

/-- A right on a pool region (R396). -/
def winPool (s : State) (fn region : Nat) (write : Bool) : Bool :=
  fn == 0 || bit1 (Tab.get 0 (winTable s fn).pool (region / 256)) (2 * (region % 256) + if write then 1 else 0)

/-- Function n may observe function m (R397). -/
def winRing (s : State) (n m : Nat) : Bool := n == 0 || n == m || bit1 (winTable s n).ring m

/-- The endpoint of a function's host port (Table 5.5). -/
def portEndpoint (fn : Nat) : Nat := if fn = 64 then 0x114 else 0x111

/-- Count a violation of a governed function; the first under each generation writes one EVENT entry (R404). -/
def violation (fn cls : Nat) (s : State) : State :=
  if fn = 0 then s
  else
    let s1 := countUp 0x0303 fn s
    let g := s.win.gen.toNat
    if Tab.get 0 s.win.noted fn = g + 1 then s1
    else
      let s2 := { s1 with win := { s1.win with noted := Tab.set 0 s1.win.noted fn (g + 1) } }
      sendEvent ⟨0x7003, 3, fn, some (put cls 0 8 + put g 8 56), portEndpoint fn, 0⟩ s2

end Sys2Proof.Machine
end

