-- ==== Sys2Proof/Machine/RingOps.lean ====
section
/-! DEFINITION. Shared operations of the host rings: items, visibility, consumption rules, completions, interrupts
and flushes (R310 to R340). -/

namespace Sys2Proof.Machine

/-- A ring. -/
def ringOf (s : State) (fn r : Nat) : Ring := Tab.get Ring.reset s.rings.ring (ringKey fn r)
/-- Change a ring. -/
def updRing (fn r : Nat) (f : Ring → Ring) (s : State) : State :=
  { s with rings := { s.rings with ring := Tab.upd Ring.reset s.rings.ring (ringKey fn r) f } }
/-- A function. -/
def fnOf (s : State) (fn : Nat) : Fn := Tab.get Fn.reset s.rings.fn fn
/-- Change a function. -/
def updFn (fn : Nat) (f : Fn → Fn) (s : State) : State :=
  { s with rings := { s.rings with fn := Tab.upd Fn.reset s.rings.fn fn f } }

/-- SIZE and CQ_SIZE in units and entries. -/
def Ring.size (r : Ring) : Nat := 2 ^ r.regs.sizeLog
def Ring.cqSize (r : Ring) : Nat := 2 ^ r.regs.cqSizeLog
/-- Exposed unconsumed units. -/
def Ring.exposed (r : Ring) : Nat := (r.tail - r.head).toNat
/-- Completion entries written and not yet freed. -/
def Ring.unread (r : Ring) : Nat := (r.cqw - r.cqh).toNat
/-- Entries of the completion ring that are written, or that consumed items and flush markers are to take. -/
def Ring.taken (r : Ring) : Nat := r.outst.length + r.marks.length + r.unread
/-- A completion entry is free for a flush marker (R329). -/
def Ring.entryFree (r : Ring) : Bool := decide (r.taken < r.cqSize)
/-- Nothing remains to be written to the completion ring (R312). -/
def Ring.quiet (r : Ring) : Bool := r.outst.isEmpty && r.marks.isEmpty

/-- The functions that exist: PF0, the VFs while VF Enable is set, the port-1 function in host role (R308). -/
def fnExists (s : State) (fn : Nat) : Bool :=
  fn == 0 || (decide (1 ≤ fn) && decide (fn ≤ 63) && s.boot.vfEnable) || (fn == 64 && !s.pins.poolRole)

/-! ### Items -/

/-- Header fields (Table 10.4). -/
def itOpcode (x : Nat) : Nat := bits x 0 8
def itUnits (x : Nat) : Nat := bits x 8 3 + 1
def itFence (x : Nat) : Bool := bit1 x 11
def itWait (x : Nat) : Bool := bit1 x 12
def itSilent (x : Nat) : Bool := bit1 x 13
def itSeq (x : Nat) : BitVec 32 := BitVec.ofNat 32 (bits x 32 32)
def itAfter (x : Nat) : BitVec 32 := BitVec.ofNat 32 (bits x 64 32)
def itUser (x : Nat) : BitVec 32 := BitVec.ofNat 32 (bits x 96 32)
/-- RUN body (Table 10.6). -/
def runSlot (x : Nat) : Nat := bits x 128 3
def runNbuf (x : Nat) : Nat := bits x 136 9
def runExt (x : Nat) : Bool := bit1 x 145
/-- STAGE body (Table 10.8). -/
def stageToHost (x : Nat) : Bool := bit1 x 128
def stageSpace (x : Nat) : Nat := bits x 129 2
def stageLen (x : Nat) : Nat := bits x 160 32
def stageHost (x : Nat) : Nat := bits x 192 64
def stageTarget (x : Nat) : Nat := bits x 256 64
/-- MCI body (Table 10.9). -/
def mciResp (x : Nat) : Nat := bits x 128 64
def mciRespUnits (x : Nat) : Nat := bits x 192 16

/-- Units as one little-endian number. -/
def unitsNat : List (BitVec 512) → Nat
  | [] => 0
  | u :: t => u.toNat + 2 ^ 512 * unitsNat t

/-- The oldest unconsumed item, when the engine holds its first unit: its number of units and, when all of them are
exposed and held, its bytes (R315). -/
def Ring.headItem (r : Ring) : Option Nat :=
  match r.units with
  | [] => none
  | u :: _ =>
    let n := itUnits u.toNat
    if n ≤ r.exposed ∧ n ≤ r.units.length then some (unitsNat (r.units.take n)) else none

/-- SEQs of the items among held units, a torn one included (R329). -/
def heldSeqs : Nat → List (BitVec 512) → List (BitVec 32)
  | 0, _ => []
  | _, [] => []
  | fuel + 1, u :: t => itSeq u.toNat :: heldSeqs fuel (t.drop (itUnits u.toNat - 1))

/-- The buffers of a RUN item, inline or from the held external list (R319). -/
def inlineBufs (x : Nat) : List BufEntry :=
  (rangeFrom 0 (runNbuf x)).map fun i =>
    let o := 256 + 128 * i
    ⟨bits x o 64, bits x (o + 64) 32, bit1 x (o + 96), bit1 x (o + 97), bit1 x (o + 98), bit1 x (o + 99)⟩

/-- A buffer entry held as (ADDR, LEN, flags). -/
def heldBuf (e : Nat × Nat × Nat) : BufEntry :=
  ⟨e.1, e.2.1, bit1 e.2.2 0, bit1 e.2.2 1, bit1 e.2.2 2, bit1 e.2.2 3⟩

/-- The external list held for the oldest item. -/
def Ring.headList (r : Ring) : Option HeldList := r.lists.find? fun l => l.first == r.head

/-- The buffer list of the oldest item, once held (R319). -/
def Ring.headBufs (r : Ring) (x : Nat) : Option (List BufEntry) :=
  if !runExt x then some (inlineBufs x)
  else if runNbuf x = 0 then some []
  else r.headList.map fun l => l.entries.map heldBuf

/-- Reserved bits of a header: [31:14], and AFTER while WAIT is 0 (R317). -/
def headerOk (x : Nat) : Bool := bits x 14 18 == 0 && (itWait x || bits x 64 32 == 0)

/-- Units that the body of a RUN needs. -/
def runUnits (x : Nat) : Nat := if runExt x then 1 else cdiv (32 + 16 * runNbuf x) 64

/-- The reserved bits of a held external list are zero (R317, Table 10.7). -/
def Ring.listOk (r : Ring) (x : Nat) : Bool :=
  itOpcode x != 0x10 || !runExt x || match r.headList with
    | none => true
    | some l => l.entries.all fun e => decide (e.2.2 < 16)

/-- A RUN body is well formed (R317, Table 10.6). -/
def runOk (x : Nat) : Bool :=
  bits x 131 5 == 0 && bits x 146 46 == 0 && (runExt x || bits x 192 64 == 0) && decide (runNbuf x ≤ 256) &&
  decide (runUnits x ≤ itUnits x) &&
  (runExt x || (rangeFrom 0 (runNbuf x)).all fun i => bits x (256 + 128 * i + 100) 28 == 0)

/-- A STAGE body is well formed: no reserved bit, no reserved SPACE; a buffer address with bit 31 set holds a
reserved field (R151, R317, Table 10.8). -/
def stageOk (x : Nat) : Bool :=
  let t := stageTarget x
  bits x 132 28 == 0 && match stageSpace x with
    | 0 => bits t 31 33 == 0
    | 1 => bits t 3 5 == 0 && bits t 14 2 == 0 && bits t 46 18 == 0
    | 2 => true
    | _ => false

/-- An MCI body is well formed, and the item has the units that its message with PLEN bytes of parameters needs (R317, Table
10.9). -/
def mciOk (x : Nat) : Bool :=
  bits x 208 48 == 0 && decide (1 ≤ mciRespUnits x) && decide (mciRespUnits x ≤ 4096) &&
  decide (cdiv (48 + bits x 320 12) 64 ≤ itUnits x)

/-- An item is well formed for its ring (R317, Tables 10.2 and 10.5). -/
def itemOk (ring x : Nat) : Bool :=
  headerOk x && match itOpcode x with
    | 0x01 => true
    | 0x10 => decide (ring ≤ 1) && runOk x
    | 0x20 => ring == 2 && stageOk x
    | 0x21 => ring == 2
    | 0x30 => ring == 3 && mciOk x
    | _ => false

/-! ### Consumption (R326 to R328) -/

/-- SEQ below which the Bulk ring of a function has completed; items that a flush discarded count as completed (R327). -/
def bulkFront (s : State) (fn : Nat) : BitVec 32 :=
  let b := ringOf s fn 2
  match b.outst with
  | [] => b.front
  | o :: _ => o.seq

/-- A disabled Bulk ring whose consumed items have completed holds no WAIT (R351). -/
def bulkOver (s : State) (fn : Nat) : Bool := !(ringOf s fn 2).regs.enabled && (ringOf s fn 2).outst.isEmpty

/-- FENCE and WAIT permit the item (R327). -/
def orderOk (s : State) (fn : Nat) (r : Ring) (x : Nat) : Bool :=
  (!itFence x || r.outst.isEmpty) && (!itWait x || bulkOver s fn || precedes32 (itAfter x) (bulkFront s fn))

/-- The ring may consume an item now: enabled, no flush due, one item a frame, room for its completion, a weight
(R326, R328, R331, R350). -/
def mayConsume (s : State) (r : Ring) : Bool :=
  r.regs.enabled && !r.flushPend && r.lastFrame != frameNumber s + 1 &&
  decide (r.taken + 1 < r.cqSize) && r.weight != 0

/-- The oldest item when it can be consumed now. -/
def consumable (s : State) (fn ring : Nat) : Option Nat :=
  let r := ringOf s fn ring
  match r.headItem with
  | none => none
  | some x => if mayConsume s r && orderOk s fn r x then some x else none

/-- HEAD moves past the oldest item; its SEQ becomes the last consumed and the next is expected (R318, R326). -/
def takeHead (s : State) (x : Nat) (o : Option Outst) (r : Ring) : Ring :=
  let n := itUnits x
  let h := r.head + BitVec.ofNat 24 n
  { r with
    head := h
    units := r.units.drop n
    heldAt := r.heldAt.drop n
    lists := r.lists.filter fun l => l.first != r.head
    bells := r.bells.filter fun b => decide (0 < (b.1 - h).toNat ∧ (b.1 - h).toNat ≤ r.size)
    expSeq := some (itSeq x + 1)
    lastSeq := itSeq x
    front := itSeq x + 1
    lastFrame := frameNumber s + 1
    seenFirst := false
    outst := match o with
      | none => r.outst
      | some a => r.outst ++ [a] }

/-- An item consumed now. -/
def outstOf (s : State) (x : Nat) : Outst :=
  { ticket := s.rings.next, seq := itSeq x, user := itUser x, silent := itSilent x, opcode := itOpcode x, item := x
    gen := s.win.gen, frame := frameNumber s, fail := none, poison := false, bytes := 0, left := 0, doneAt := none
    ended := none }

/-- Consume the oldest item and hold it as uncompleted, with some lines to take effect. -/
def consumeLines (fn ring x lines : Nat) (s : State) : State :=
  let s1 := updRing fn ring (takeHead s x (some { outstOf s x with left := lines })) s
  { s1 with rings := { s1.rings with next := s1.rings.next + 1 } }

/-- Consume the oldest item and hold it as uncompleted. -/
def consume (fn ring x : Nat) (s : State) : State := consumeLines fn ring x 0 s

/-- The item's SEQ is the one expected (R318). -/
def seqOk (r : Ring) (x : Nat) : Bool := match r.expSeq with
  | none => true
  | some e => e == itSeq x

/-! ### Completions and interrupts (R334 to R340) -/

/-- Interrupt the ring's vector and restart its moderation. -/
def ringInterrupt (fn ring : Nat) (s : State) : State :=
  let v := (ringOf s fn ring).regs.vec
  let s1 := updRing fn ring (fun r => { r with modSeen := 0, modSince := none }) s
  if v = 0xF then s1 else raiseVector fn v s1

/-- Count a completion toward moderation and interrupt when due (R340). -/
def moderate (fn ring : Nat) (silent : Bool) (s : State) : State :=
  let r := ringOf s fn ring
  if silent || r.regs.vec == 0xF then s
  else if r.regs.modTime = 0 ∨ r.regs.modCount ≤ r.modSeen + 1 then ringInterrupt fn ring s
  else updRing fn ring (fun q => { q with
    modSeen := q.modSeen + 1, modSince := some (q.modSince.getD s.clk.refTime.toNat) }) s

/-- Write a completion entry at CQW, in its place of the completion ring and with its phase (R310, R334, R337, R339), then
moderate. -/
def postCompletion (fn ring : Nat) (seq user : BitVec 32) (silent : Bool) (frame : Nat) (d : Done) (s : State) :
    State :=
  let r := ringOf s fn ring
  let phase := 1 - (r.writes / r.cqSize) % 2
  let entry := completionEntry seq d.status (phase == 1) d.poison d.result d.aux user r.head r.epoch frame d.endf
  let i := r.writes % r.cqSize
  let s1 := emit (.completion fn ring i (r.regs.cqBase.toNat + 32 * i) entry) s
  moderate fn ring silent (updRing fn ring (fun q => { q with cqw := q.cqw + 1, writes := q.writes + 1 }) s1)

/-- Complete an uncompleted item and forget it. -/
def completeOutst (fn ring : Nat) (o : Outst) (d : Done) (s : State) : State :=
  postCompletion fn ring o.seq o.user o.silent o.frame d
    (updRing fn ring (fun r => { r with outst := r.outst.filter fun a => a.ticket != o.ticket }) s)

/-- Consume the oldest item and complete it at once with a status. -/
def rejectHead (fn ring x status : Nat) (s : State) : State :=
  let s1 := updRing fn ring (takeHead s x none) s
  postCompletion fn ring (itSeq x) (itUser x) (itSilent x) (frameNumber s)
    ⟨status, 0, 0, false, frameNumber s⟩ s1

/-- An item that is malformed or out of sequence is consumed without effect; the sequence then expects its SEQ + 1
(R317, R318). Answers its status. -/
def badHead (s : State) (fn ring x : Nat) : Option Nat :=
  if !itemOk ring x || !(ringOf s fn ring).listOk x then some stBadItem
  else if !seqOk (ringOf s fn ring) x then some stBadSeq
  else none

/-- A flush takes effect: the items not consumed are discarded, the epoch moves, and a FLUSH_DONE is to be written (R329). -/
def Ring.flush (r : Ring) : Ring :=
  let seqs := heldSeqs r.units.length r.units
  let front := match seqs.getLast? with
    | some q => q + 1
    | none => r.front
  { r with
    head := r.tail, fetch := r.tail, expSeq := none, epoch := r.epoch + 1, units := [], heldAt := [], bells := [], lists := []
    seenFirst := false, flushPend := false, front := front
    marks := r.marks ++ [⟨r.lastSeq, seqs.length, r.fetch != r.tail, front⟩] }

/-- A requested flush takes effect once an entry is free, and the ring that is being disabled stops (R312, R329, R350). -/
def settleFlush (fn ring : Nat) (s : State) : State :=
  let r := ringOf s fn ring
  if r.flushPend && r.entryFree then updRing fn ring (fun q =>
    { q.flush with stopPend := false, regs := { q.regs with enabled := q.regs.enabled && !q.stopPend } }) s
  else s

/-- Write the FLUSH_DONE entries of the flushes that have taken effect (R329). `rest` counts the items among exposed units that
the engine did not hold. -/
def writeMarks (fn ring rest : Nat) (s : State) : State :=
  (ringOf s fn ring).marks.foldl (fun t m =>
    let more := if m.more then rest else 0
    let t1 := updRing fn ring (fun q => { q with
      marks := q.marks.drop 1
      front := if q.front = m.front then q.front + BitVec.ofNat 32 more else q.front }) t
    postCompletion fn ring m.seq 0 false (frameNumber t)
      ⟨stFlushDone, 0, (m.count + more) % 2 ^ 32, false, frameNumber t⟩ t1) s

/-- Vectors of a function: 8 of PF0 and the port-1 function, 4 of a VF (Table 19.2). -/
def vecCount (fn : Nat) : Nat := if fn = 0 ∨ fn = 64 then 8 else 4

/-- Set a bit of the function's attention register (R618, Table 19.4). -/
def fnAttention (fn b : Nat) (s : State) : State :=
  let f := fnOf s fn
  let s1 := updFn fn (fun g => { g with attn := g.attn ||| BitVec.twoPow 32 b }) s
  if attnRises f.attn f.attnEn b && decide (f.fvec < vecCount fn) then raiseVector fn f.fvec s1 else s1

/-! ### BAR0 (R561, R563, R613, R614) -/

/-- Requests to a function's BAR0 are served: the device is ready, the port's link is up and the function exists; in recovery
mode PF0 alone (R563, R613). -/
def barServed (s : State) (fn : Nat) : Bool :=
  s.boot.ready && match fn with
    | 0 => s.boot.linkUp0
    | n => s.boot.mp != .recovery && if n = 64 then s.boot.linkUp1 && !s.pins.poolRole
      else decide (n < 64) && s.boot.vfEnable && s.boot.linkUp0

/-- A function-level reset is in progress while a run of the function has not ended (R341, R613). -/
def flrBusy (s : State) (fn : Nat) : Bool :=
  (rangeFrom 0 4).any fun k => ((part s k).run.toList ++ (part s k).suspended).any fun r => r.fn == fn && r.dropped

/-- A write to a function's BAR0: Unsupported Request until ready, discarded during a function-level reset (R613). -/
def barWrite (fn : Nat) (act : State → State) (s : State) : State :=
  if !barServed s fn then emit (.unsupported fn) s else if flrBusy s fn then s else act s

/-- Count a bad doorbell; the first since the function read the count raises one EVENT entry (R313). -/
def badDoorbell (fn ring : Nat) (s : State) : State :=
  let s1 := fnAttention fn ring (countUp 0x0301 (ringKey fn ring) s)
  if (ringOf s fn ring).badNoted then s1
  else sendEvent ⟨0x7001, 0, ringKey fn ring, none, portEndpoint fn, 0⟩ (updRing fn ring (fun r => { r with badNoted := true }) s1)

/-- Count a stale doorbell (R313). -/
def staleDoorbell (fn ring : Nat) (s : State) : State :=
  let s1 := fnAttention fn (4 + ring) (countUp 0x0302 (ringKey fn ring) s)
  if (ringOf s fn ring).staleNoted then s1
  else sendEvent ⟨0x7002, 0, ringKey fn ring, none, portEndpoint fn, 0⟩
    (updRing fn ring (fun r => { r with staleNoted := true }) s1)

/-- The ring that holds an uncompleted item keeps it with its end. -/
def endOutst (fn ring ticket : Nat) (d : Done) (s : State) : State :=
  updRing fn ring (fun r => { r with outst := r.outst.map fun o =>
    if o.ticket == ticket then { o with ended := some d } else o }) s

/-- Smooth weighted round robin over tied (function, ring) pairs: each adds its weight, the largest counter wins with
ties to the first, and the winner's counter loses the sum (R134). -/
def swrr (ties : List (Nat × Nat)) (s : State) : Option (Nat × Nat) × State :=
  let s1 := ties.foldl (fun t fr => updRing fr.1 fr.2 (fun r => { r with swrr := r.swrr + r.weight }) t) s
  let sum : Nat := ties.foldl (fun n fr => n + (ringOf s fr.1 fr.2).weight) 0
  let win := ties.foldl (fun (acc : Option (Nat × Nat)) fr => match acc with
    | none => some fr
    | some b => if (ringOf s1 fr.1 fr.2).swrr > (ringOf s1 b.1 b.2).swrr then some fr else some b) none
  match win with
  | none => (none, s1)
  | some w => (some w, updRing w.1 w.2 (fun r => { r with swrr := r.swrr - sum }) s1)

end Sys2Proof.Machine
end

