-- ==== Sys2Proof/Machine/MciOps.lean ====
section
/-! DEFINITION. The Mykin Command Interface: requesters and privilege, the order of refusals, responses on the three
transports, notices (R354 to R364). -/

namespace Sys2Proof.Machine

/-! ### Endpoints (R356) -/

/-- The mailbox as a requester; a Service ring is its function number. -/
def whoMailbox : Nat := 65
/-- An MCTP endpoint: medium 0 PCIe port 0, 1 I3C, 2 PCIe port 1 in its host role. -/
def whoMctp (medium eid : Nat) : Nat := 256 * (medium + 1) + eid
/-- The requester is the platform management controller over MCTP. -/
def isMctp (who : Nat) : Bool := decide (256 ≤ who)
/-- The requester is a Service ring. -/
def isRing (who : Nat) : Bool := decide (who ≤ 64)
/-- The function of a requester: PF0 for the mailbox. -/
def fnOfWho (who : Nat) : Nat := if who ≤ 64 then who else 0

/-- Requesters of an opcode: 1 P, 2 F, 3 P and L, 4 F and L (Table 11.6); 0 is a reserved opcode. -/
def mciRequesters (op : Nat) : Nat :=
  if [0x0002, 0x0110, 0x0111, 0x0113, 0x0121, 0x0202, 0x0203, 0x0206, 0x0208, 0x0301, 0x0302, 0x0304, 0x0306, 0x0401,
      0x0402, 0x0403, 0x0501, 0x0502, 0x0503, 0x0601, 0x0603, 0x0904].contains op then 1
  else if [0x0004, 0x0201, 0x0204, 0x0205, 0x0307, 0x0404, 0x0803].contains op then 2
  else if [0x0003, 0x0101, 0x0102, 0x0103, 0x0104, 0x0105, 0x0112, 0x0122, 0x0303, 0x0305, 0x0308, 0x0602, 0x0801,
      0x0804, 0x0901, 0x0902, 0x0905, 0x0906, 0x0A01].contains op then 3
  else if [0x0001, 0x0120, 0x0207, 0x0504, 0x0802, 0x0903].contains op then 4
  else 0

/-- Privilege P: PF0 on its Service ring or the mailbox. -/
def isP (who : Nat) : Bool := who == 0 || who == whoMailbox

/-- The requester's privilege covers the opcode (R363). PF0's mailbox stands for a function where F is listed. -/
def mciPermitted (op who : Nat) : Bool := match mciRequesters op with
  | 1 => isP who
  | 2 => isRing who || who == whoMailbox
  | 3 => isP who || isMctp who
  | 4 => isRing who || who == whoMailbox || isMctp who
  | _ => false

/-- Opcodes served in recovery mode (R368). -/
def recoveryOps : List Nat := [0x0001, 0x0101, 0x0102, 0x0103, 0x0104, 0x0A01]

/-- The step of Table 17.2 on which the object of an opcode depends (R562). -/
def opcodeStep (op : Nat) : Nat :=
  if op = 0x0305 then 2
  else if [0x0801, 0x0802, 0x0602, 0x0504, 0x0308, 0x0207].contains op then 9
  else if [0x0303, 0x0905, 0x0906, 0x0120, 0x0804].contains op then 8
  else 0

/-- The request reaches a processor that serves its transport: MP firmware on every transport once ready and on I3C from
the end of step 4; the boot ROM on the mailbox in recovery mode (R361, R380, R561, R562). -/
def mciServed (s : State) (who : Nat) : Bool := match s.boot.mp with
  | .running => s.boot.ready || (decide (512 ≤ who) && decide (who < 768) && s.boot.steps.getLsbD 4)
  | .recovery => who == whoMailbox && s.boot.ready
  | _ => false

/-- Limit of outstanding requests of an endpoint (R356). -/
def mciLimit (who : Nat) : Nat := if who ≤ 64 then 16 else if who = whoMailbox then 1 else 4

/-- STATUS values of Table 11.3. -/
def mSuccess : Nat := 0
def mBadOpcode : Nat := 1
def mBadParam : Nat := 2
def mBadLength : Nat := 3
def mNotPermitted : Nat := 4
def mWindow : Nat := 5
def mBusy : Nat := 6
def mDuplicateTag : Nat := 7
def mTimeout : Nat := 8
def mMpReset : Nat := 9
def mRejected : Nat := 0xA
def mUnvetted : Nat := 0xB
def mResource : Nat := 0xC
def mAuth : Nat := 0xD
def mRollback : Nat := 0xE
def mHwFault : Nat := 0xF

/-- The first status that refuses a request before the command's own checks, in the order of R359. -/
def mciRefusal (s : State) (op : Nat) (lenOk paramOk : Bool) (q : MciReq) : Option Nat :=
  if s.fw.outstanding.any fun o => o.1 == q.who && o.2.2 == q.tag then some mDuplicateTag
  else if s.boot.mp == .recovery && !recoveryOps.contains op then some mBadOpcode
  else if !mciPermitted op q.who then some mNotPermitted
  else if q.ver ≠ 1 ∨ !lenOk then some mBadLength
  else if q.hdrRsvd ≠ 0 ∨ !paramOk then some mBadParam
  else if !s.boot.ready && !(s.boot.steps.getLsbD (opcodeStep op)) && opcodeStep op != 0 then some mBusy
  else if mciLimit q.who ≤ (s.fw.outstanding.filter fun o => o.1 == q.who).length then some mResource
  else none

/-! ### Responses -/

/-- The response header (Table 11.2). -/
def responseHeader (op tag status detail rlen : Nat) (trunc : Bool) : Nat :=
  put op 0 16 + put status 16 16 + put tag 32 24 + put (if trunc then 1 else 0) 56 1 + put rlen 64 24 + put detail 96 32

/-- A response as one number: header and parameters. -/
def responseBytes (op tag status detail rlen params space : Nat) : Nat :=
  responseHeader op tag status detail rlen (decide (space < 16 + rlen)) + (params % 2 ^ (8 * rlen)) * 2 ^ 128

/-- Words of a number as window contents. -/
def windowOf (x n : Nat) : Tab (BitVec 32) :=
  (rangeFrom 0 n).filterMap fun i =>
    let w := BitVec.ofNat 32 (bits x (32 * i) 32)
    if w = 0 then none else some (i, w)

/-- The mailbox holds a response: DONE set, vector 4 raised (R361); after a reset of PF0 the response is discarded and the
mailbox is idle (R582). -/
def mailboxDone (bytes : Nat) (s : State) : State :=
  if s.regs.mbxDrop then { s with regs := { s.regs with mbxBusy := false, mbxDrop := false } }
  else raiseVector 0 4 { s with regs := { s.regs with
    mbxWindow := windowOf bytes 1024, mbxBusy := false, mbxDone := true } }

/-- The MCI message of an item (Table 10.9). -/
def itemMessage (x : Nat) : Nat := x / 2 ^ 256

/-- The accepted Service item whose message carries a tag. -/
def serviceItem (s : State) (fn tag : Nat) : Option Outst :=
  (ringOf s fn 3).outst.find? fun o => o.opcode == 0x30 && bits (itemMessage o.item) 32 24 == tag

/-- Complete a Service item whose response is written: STATUS SUCCESS, RESULT the MCI status, AUX the tag and the
response bytes (R360, Table 10.10). -/
def serviceDone (fn : Nat) (o : Outst) (status tag bytes : Nat) (s : State) : State :=
  completeOutst fn 3 o ⟨stSuccess, status, put tag 0 24 + put bytes 32 32, false, frameNumber s⟩ s

/-- A response goes out on the transport of its request: mailbox window, response buffer and completion of the item, or MCTP
message. A response to a function whose ring was reset is discarded (R384). -/
def mciDeliver (op : Nat) (q : MciReq) (status detail rlen params : Nat) (item : Option Outst) (s : State) : State :=
  let s1 := emit (.mciResponse q.who op q.tag status detail rlen params) s
  if q.who = whoMailbox then mailboxDone (responseBytes op q.tag status detail rlen params 4096) s1
  else if q.who ≤ 64 then match item with
    | none => s1
    | some o =>
      let space := 64 * mciRespUnits o.item
      let n := min space (16 + rlen)
      serviceDone q.who o status q.tag n
        (emit (.hostWrite q.who (mciResp o.item) n (responseBytes op q.tag status detail rlen params space) false false false) s1)
  else s1

/-- The MP answers a request, which is outstanding no more. -/
def mciAnswer (op : Nat) (q : MciReq) (status detail rlen params : Nat) (s : State) : State :=
  let s1 := { s with fw := { s.fw with
    outstanding := s.fw.outstanding.filter fun o => !(o.1 == q.who && o.2.2 == q.tag) } }
  mciDeliver op q status detail rlen params (serviceItem s1 q.who q.tag) s1

/-- A request with the tag of one still outstanding is answered, and the outstanding one is unaffected (R356). -/
def mciDuplicate (op : Nat) (q : MciReq) (s : State) : State :=
  mciDeliver op q 7 0 0 0
    ((ringOf s q.who 3).outst.reverse.find? fun o => o.opcode == 0x30 && bits (itemMessage o.item) 32 24 == q.tag) s

/-- A request without further result. -/
def mciStatus (op : Nat) (q : MciReq) (status : Nat) (s : State) : State := mciAnswer op q status 0 0 0 s

/-- A request is judged and executed: a refusal answers with its status, an unserved transport discards it. -/
def mciRun (op : Nat) (lenOk paramOk : Bool) (q : MciReq) (act : State → State) (s : State) : State :=
  if !mciServed s q.who then s
  else match mciRefusal s op lenOk paramOk q with
    | some st => if st = mDuplicateTag then mciDuplicate op q s else mciStatus op q st s
    | none => act s

/-- The parameters a request carries: PLEN bytes. -/
def mciParams (q : MciReq) : Nat := q.params % 2 ^ (8 * q.plen)

/-- A request whose layout has a fixed length and fixed fields (R354). -/
def mciFixed (op len : Nat) (fields : List (Nat × Nat)) (rangeOk : Bool) (q : MciReq) (act : State → State)
    (s : State) : State :=
  mciRun op (q.plen == len) (reservedClear (mciParams q) fields && rangeOk) q act s

/-- The request stays outstanding until a later command answers it (R356). -/
def mciHold (op : Nat) (q : MciReq) (s : State) : State :=
  { s with
    fw := { s.fw with outstanding := s.fw.outstanding ++ [(q.who, op, q.tag)] }
    win := { s.win with held := (q.who, q.tag, s.win.gen.toNat) :: s.win.held.filter fun h =>
      s.fw.outstanding.any fun o => o.1 == h.1 && o.2.2 == h.2.1 } }

/-- A request as a later command answers it: endpoint and tag. -/
def reqOf (who tag : Nat) : MciReq := ⟨who, 1, 0, tag, 0, 0⟩

/-! ### Notices (R364) -/

/-- Send a notice of a class to its subscribers and set the host's attention bit of that class. -/
def notify (cls reason unit : Nat) (s : State) : State :=
  let outs := s.fw.subs.filterMap fun e =>
    if bit1 e.2.2 cls then some (Output.notify e.1 e.2.1 cls reason unit) else none
  stsAttention (cls - 1) (emitAll outs s)

end Sys2Proof.Machine
end

