-- ==== Sys2Proof/Machine/LaneOps.lean ====
section
/-! DEFINITION. Lane entries, widths, and what a calibration result decides (R240 to R257). -/

namespace Sys2Proof.Machine

/-! ### Maps -/

/-- The fused map: the union of both banks (R247). -/
def Lanes.fused (l : Lanes) : List Nat := l.assembly ++ l.field
/-- Every entry in force: fused and volatile. -/
def Lanes.inForce (l : Lanes) : List Nat := l.fused ++ l.volatile

/-- The tile's bond map: entries of KIND 1 that name it (R248). -/
def tileMap (l : Lanes) (tile : Nat) : List Nat := l.inForce.filter fun e => entKind e == 1 && entTile e == tile

/-! ### Judging a training (R250, R251, R255) -/

/-- What a checker received shows no transition among the n bits of its window. -/
def sawStatic (n : Nat) : Option Nat → Bool
  | none => false
  | some w => prbsStatic n w

/-- A site does not pass a phase: a bit error, or a static window. -/
def sawBad (n : Nat) : Option Nat → Bool
  | none => false
  | some w => prbsError n w || prbsStatic n w

/-- What the checker of a site received on a path. -/
def siteSeen (c : CellTrain) (role site path : Nat) : Option Nat :=
  (c.obs.find? fun o => o.role == role && o.site == site && o.path == path).map fun o => o.window

/-- What the checker of a lane received. -/
def laneSeen (obs : List LaneObs) (lane : Nat) : Option Nat := (obs.find? fun o => o.lane == lane).map fun o => o.window

/-- Sites of a group that take part in phase 1 (Table 8.5). -/
def phase1Sites (role : Nat) : List Nat := match role with
  | 1 => rangeFrom 0 282
  | 2 => rangeFrom 21 6
  | 3 => rangeFrom 35 35 ++ rangeFrom 76 8
  | _ => []

/-- A site did not pass phase 1. -/
def siteBad (c : CellTrain) (role k : Nat) : Bool := sawBad checkBits (siteSeen c role k 1)

/-- A looped site with the two UP sites onto which it is looped. -/
structure Loop where
  site : Nat
  up1 : Nat
  up2 : Nat
  deriving DecidableEq, Repr

/-- The looped sites of a group (Table 8.5). -/
def loopsOf (role : Nat) : List Loop := match role with
  | 0 => (rangeFrom 0 282).map fun k => ⟨k, k, (k + 141) % 282⟩
  | 2 => (rangeFrom 0 27).map fun k => ⟨k, k, 141 + k⟩
  | 3 => (rangeFrom 0 35).map (fun k => ⟨k, 32 + k, 173 + k⟩) ++ (rangeFrom 76 8).map fun k => ⟨k, k - 9, k + 132⟩
  | _ => []

/-- The paths of a group's loops: phases 2 and 3 for DN, phase 4 for CTL and SVC. -/
def loopPath1 (role : Nat) : Nat := if role = 0 then 2 else 4
def loopPath2 (role : Nat) : Nat := if role = 0 then 3 else 5

/-- A looped path failed although its UP site passed phase 1: first and second path. -/
def lost1 (c : CellTrain) (role : Nat) (x : Loop) : Bool :=
  !siteBad c 1 x.up1 && sawBad checkBits (siteSeen c role x.site (loopPath1 role))
def lost2 (c : CellTrain) (role : Nat) (x : Loop) : Bool :=
  !siteBad c 1 x.up2 && sawBad checkBits (siteSeen c role x.site (loopPath2 role))

/-- A looped site is a failed lane: a path over a good UP site failed, or neither UP site is good (R250). -/
def loopFailed (c : CellTrain) (role : Nat) (x : Loop) : Bool :=
  lost1 c role x || lost2 c role x || (siteBad c 1 x.up1 && siteBad c 1 x.up2)

/-- Failed lanes of a group. -/
def trainFailed (c : CellTrain) (role : Nat) : List Nat :=
  (((phase1Sites role).filter fun k => siteBad c role k) ++
    (((loopsOf role).filter fun x => loopFailed c role x).map fun x => x.site)).eraseDups

/-- A site of the SVC group that carries the service clock, TRST_N or the sensor link is at fault (R240). -/
def fixedFault (c : CellTrain) : Bool := svcFixed.any fun k => siteBad c 3 k

/-- Paths that failed although their UP site passed phase 1. -/
def lostPaths (c : CellTrain) (role : Nat) : Nat :=
  ((loopsOf role).filter fun x => lost1 c role x).length + ((loopsOf role).filter fun x => lost2 c role x).length

/-- Status of a group's result: the first check of Table 8.6 that fails. -/
def trainStatus (c : CellTrain) (role : Nat) : Nat :=
  let p := phase1Sites role
  let st := (p.filter fun k => sawStatic checkBits (siteSeen c role k 1)).length
  let loops := (loopsOf role).length
  if p.length ≠ 0 ∧ p.length ≤ 4 * st then 1
  else if loops ≠ 0 ∧ 2 * loops ≤ 4 * lostPaths c role then 2
  else if c.late then 6
  else 0

/-- The groups that a cell trains: SVC in the active corner cell alone. -/
def trainedRoles (tile cell : Nat) : List Nat :=
  if cellRouter tile cell = cornerRouter tile then [0, 1, 2, 3] else [0, 1, 2]

/-- Failed lanes, and status, of lanes that are all checked directly over n bits: a stitch direction, or a NEAR loop. -/
def directFailed (n : Nat) (lanes : List Nat) (seen : Nat → Option Nat) : List Nat := lanes.filter fun k => sawBad n (seen k)
def directStatus (n : Nat) (lanes : List Nat) (seen : Nat → Option Nat) (late : Bool) : Nat :=
  if lanes.length ≤ 4 * (lanes.filter fun k => sawStatic n (seen k)).length then 1 else if late then 6 else 0

/-- A direction of a stitch crossing, checked over n bits (R251, R255). -/
def stitchFailed (n : Nat) (t : StitchTrain) : List Nat := directFailed n (rangeFrom 0 272) (laneSeen t.obs)
def stitchStatus (n : Nat) (t : StitchTrain) : Nat := directStatus n (rangeFrom 0 272) (laneSeen t.obs) t.late

/-- A direction of a control-network stitch link. -/
def linkFailed (t : LinkTrain) : List Nat := directFailed checkBits (rangeFrom 0 38) (laneSeen t.obs)
def linkStatus (t : LinkTrain) : Nat := directStatus checkBits (rangeFrom 0 38) (laneSeen t.obs) t.late

/-! ### Acting on results (R253, R254, R256) -/

/-- Endpoint of the fuse and calibration controller. -/
def calEndpoint : Nat := 0x102

/-- A result that is not VALID: nothing is marked, and the bundle uses its fused map; a start remembers it (R256). -/
def noteInvalid (bundle status : Nat) (s : State) : State :=
  let l := s.lanes
  { s with lanes := { l with
    status := Tab.set 0 l.status bundle status
    volatile := l.volatile.filter fun e => entBundle e != bundle
    consent := l.consent.filter fun c => c.bundle != bundle
    invalidNow := if s.boot.starting && !l.invalidNow.contains bundle then bundle :: l.invalidNow else l.invalidNow } }

/-- One EVENT entry carries status and bundle or sensor (R256). -/
def calEvent (unit status : Nat) (s : State) : State := sendEvent ⟨0x2001, 0, unit, some status, calEndpoint, 0⟩ s

/-- An invalid result is noted and reported. -/
def calInvalid (bundle status : Nat) (s : State) : State := calEvent bundle status (noteInvalid bundle status s)

/-- Lanes steered alone: one entry of class 1 each (Table 18.2). -/
def steerEvents (es : List Nat) (s : State) : State :=
  es.foldl (fun t e => sendEvent ⟨0x2002, 1, e, none, calEndpoint, 0⟩ t) s

/-- A valid result of a bundle, combined with the fused map (R253, R266, R267): lanes are steered alone while the bundle stays at
the width that the fused map gives it, and any lower width waits for the MP's consent. A cold start notes what was found for the
field bank (R254). -/
def calValid (bundle : Nat) (failed : List Nat) (s : State) : State :=
  let l := s.lanes
  let found := failed.map (laneEntry bundle)
  let new := found.filter fun e => !(l.inForce.contains e)
  let l1 := { l with
    status := Tab.set 0 l.status bundle 0
    foundNow := if s.boot.cold && s.boot.starting then (found ++ l.foundNow).eraseDups else l.foundNow }
  let w := bundleWidth (l.inForce ++ new) bundle
  if new.isEmpty then { s with lanes := l1 }
  else if w = bundleWidth l.fused bundle then
    steerEvents new { s with lanes := { l1 with volatile := l1.volatile ++ new } }
  else { s with lanes := { l1 with
    consent := ⟨bundle, w, new⟩ :: l1.consent.filter fun c => c.bundle != bundle } }

/-- The result of one bundle. -/
def calResult (bundle status : Nat) (failed : List Nat) (s : State) : State :=
  if status = 0 then calValid bundle failed s else calInvalid bundle status s

/-- The MP consents to one width change: the map takes the lanes, and a width that falls is reported (R253). -/
def consentTo (c : Consent) (s : State) : State :=
  let s1 := { s with lanes := { s.lanes with
    volatile := s.lanes.volatile ++ c.lanes, consent := s.lanes.consent.filter fun d => d.bundle != c.bundle } }
  if bundleWidth s.lanes.inForce c.bundle = c.code then s1
  else mpEvent (if c.code = 0 then 0x2004 else 0x2003) 5 c.bundle 0 s1

/-- The same group invalid at two consecutive starts: its cluster is to be recorded as fused (R256). -/
def invalidTwice (l : Lanes) : List Nat :=
  (l.invalidNow.filter fun b => bits b 0 2 == 1 && l.invalidPrev.contains b).map fun b => cellRouter (entTile b) (entCell b)

end Sys2Proof.Machine
end

