-- ==== Sys2Proof/Machine/HbmOps.lean ====
section
/-! DEFINITION. Shared operations of the HBM controllers: line reads and writes through ECC, modes at park, bind,
resume and unbind, permitted cells of unscheduled traffic (R273 to R287, R301, R302). -/

namespace Sys2Proof.Machine

/-- A pseudo-channel. -/
def pcOf (s : State) (n : Nat) : Pc := Tab.get Pc.reset s.hbm.pc n
/-- Change a pseudo-channel. -/
def updPc (n : Nat) (f : Pc → Pc) (s : State) : State :=
  { s with hbm := { s.hbm with pc := Tab.upd Pc.reset s.hbm.pc n f } }
/-- A stack. -/
def stackOf (s : State) (k : Nat) : Stack := Tab.get Stack.reset s.hbm.stack k
/-- Change a stack. -/
def updStack (k : Nat) (f : Stack → Stack) (s : State) : State :=
  { s with hbm := { s.hbm with stack := Tab.upd Stack.reset s.hbm.stack k f } }
/-- Role of a module unit (Table 9.6): 0 SCHEDULED, 1 POOL, 2 CACHE, 3 OFFLINE. -/
def roleOf (s : State) (unit : Nat) : Nat := Tab.get 0 s.hbm.role unit

/-- Module units that HBM_ASSIGN names (Table 9.7). -/
def assignUnits (p : Nat) : List Nat := (rangeFrom (bits p 8 6) (bits p 16 6)).map fun u => 36 * bits p 0 3 + u

/-- An accepted HBM_ASSIGN that waits for the cache gives a unit another role than it has: neither an image nor a region takes
the unit any more (R289, R290). -/
def leaving (s : State) (unit : Nat) : Bool :=
  s.dense.assigns.any fun a => (assignUnits a.2.2).contains unit && bits a.2.2 24 2 != roleOf s unit

/-- Lines of a pseudo-channel (R273). -/
def pcLines : Nat := 18874368
/-- Key of a line: pseudo-channel, stripe, line in the stripe (R274). -/
def hbmLine (pc stripe line : Nat) : Nat := pc * pcLines + 64 * stripe + line
/-- The unit that a stripe lies in (R275). -/
def unitOfStripe (stripe : Nat) : Nat := stripe / 8192
/-- Stripe number of an ADDR field (R274, Table 9.2). -/
def addrStripe (a : Nat) : Nat := 12 * bits a 10 15 + 4 * bits a 8 2 + bits a 6 2
/-- First line of an ADDR field. -/
def addrLine (a : Nat) : Nat := bits a 0 6
/-- A byte offset within a unit of a stack as a line key (R275). -/
def unitLine (stack unit off : Nat) : Nat :=
  hbmLine (32 * stack + (off / 4096) % 32) (8192 * unit + off / 131072) ((off % 4096) / 64)
/-- Row of a line within its pseudo-channel: stripe and bank group (R274, R282). -/
def rowOfLine (l : Nat) : Nat := 4 * ((l % pcLines) / 64) + l % 4
/-- Bank of a row: SID, bank and bank group, 0 to 47. -/
def bankOfRow (r : Nat) : Nat := ((r / 4) % 12) * 4 + r % 4

/-- Endpoint of a stack's controller (Table 5.5). -/
def hbmEndpoint (pc : Nat) : Nat := 0x130 + pc / 32

/-- Note an error of a line; a row with two uncorrectable lines, or with corrected errors in three distinct lines
within 24 h, is a failing row (R282). -/
def noteRowError (pc line : Nat) (unc : Bool) (s : State) : State :=
  let now := s.clk.refTime.toNat
  let row := rowOfLine line
  updPc pc (fun p =>
    let old := p.rowErrors.filter fun e => e.2.2.1 || decide (now < e.2.2.2 + 8640000000000)
    let errs := if old.any (fun e => e.2.1 == line && e.2.2.1 == unc) then old else (row, line, unc, now) :: old
    let here := errs.filter fun e => e.1 == row
    let bad := (here.filter fun e => e.2.2.1).length
    let corr := (here.filter fun e => !e.2.2.1).length
    { p with
      rowErrors := errs
      failing := if (2 ≤ bad ∨ 3 ≤ corr) ∧ !(p.failing.contains row) ∧ !(p.kept.contains row) then
        row :: p.failing else p.failing }) s

/-- Raise one of a pseudo-channel's counts by n and, at saturation, report it (R280): which 0 corrected, 1 uncorrectable,
2 on-die ECC severity reports. -/
def hbmCount (pc which n : Nat) (s : State) : State :=
  let id := 0x0201 + which
  let t := if n = 0 then s else countBy id pc n s
  if counterFull t id pc && !counterFull s id pc then blockFault 0x5002 0 pc (some which) (hbmEndpoint pc) t else t

/-- 7-bit pieces of a number combined by exclusive or. -/
def fold7 (x : Nat) : Nat := bits x 0 7 ^^^ bits x 7 7 ^^^ bits x 14 7
/-- Bits [6:0] of a line's tag byte: the XOR fold of pseudo-channel, stripe and LINE (R280). DEDUCED, log entry 62: 7-bit
pieces from bit 0 up. -/
def tagFold (line : Nat) : Nat := fold7 (line / pcLines) ^^^ fold7 (line % pcLines / 64) ^^^ fold7 (line % 64)
/-- Module unit number of a line. -/
def unitOfLine (line : Nat) : Nat := 36 * (line / pcLines / 32) + unitOfStripe (line % pcLines / 64)

/-- What a read of a line finds: 0 good, 1 one bad symbol, 2 uncorrectable, 3 poisoned, 5 poisoned with one bad symbol. A zeroed tag that disagrees with the
address is uncorrectable (R280, R300). -/
def lineFlag (s : State) (line : Nat) : Nat := match Tab.get 0 s.hbm.flag line with
  | 0 => if s.hbm.zeroed.contains (unitOfLine line) && tagFold line != 0 then 2 else 0
  | 4 => 0
  | n => n

/-- The stored flag of a line written without poison. -/
def goodFlag (s : State) (line : Nat) : Nat := if s.hbm.zeroed.contains (unitOfLine line) then 4 else 0

/-- Queue a corrected line for write-back, at most 16 lines per pseudo-channel (R281). -/
def queueWriteback (line : Nat) (p : Pc) : Pc :=
  if p.writeback.contains line ∨ 16 ≤ p.writeback.length then p else { p with writeback := p.writeback ++ [line] }

/-- One more bad symbol in a line: a second one is beyond correction, and POISON stays in the tag (R279, R280). -/
def oneMoreBad (flag : Nat) : Nat := match flag with
  | 0 => 1
  | 3 => 5
  | _ => 2

/-- An armed injection puts one or two bad symbols into the next line read from its pseudo-channel (Table 19.13). -/
def injectHbm (line : Nat) (s : State) : State :=
  let pc := line / pcLines
  let mark (n : Nat) : State := injectDone { s with hbm := { s.hbm with flag := Tab.set 0 s.hbm.flag line n } }
  if injectHits s 3 pc then mark (oneMoreBad (lineFlag s line)) else if injectHits s 4 pc then mark 2 else s

/-- Note an uncorrectable line of a stack for the threshold of Table 18.4: reference times of the last 24 h. -/
def noteStack (k : Nat) (s : State) : State :=
  let now := s.clk.refTime.toNat
  { s with logs := { s.logs with
    stacks24 := (k, now) :: s.logs.stacks24.filter fun e => decide (now < e.2 + 8640000000000) } }

/-- Read a line through ECC: a correctable line is corrected, counted and queued for write-back; an uncorrectable or
poisoned line reads with POISON (R279 to R281). -/
def hbmRead (line : Nat) (s0 : State) : Beat × State :=
  let pc := line / pcLines
  let s := injectHbm line s0
  let d := Memory.line s.hbm.mem (64 * line)
  match lineFlag s line with
  | 0 => (Beat.of d false, s)
  | 1 => (Beat.of d false, updPc pc (queueWriteback line) (noteRowError pc line false (hbmCount pc 0 1 s)))
  | 5 => (Beat.of d true, updPc pc (queueWriteback line) (noteRowError pc line false (hbmCount pc 0 1 s)))
  | 2 =>
    let s1 := noteStack (pc / 32) (noteRowError pc line true (hbmCount pc 1 1 s))
    let s2 := if (pcOf s1 pc).firstBad then s1 else
      blockFault 0x5001 2 pc none (hbmEndpoint pc) (updPc pc (fun p => { p with firstBad := true }) s1)
    (Beat.of d true, s2)
  | _ => (Beat.of d true, s)

/-- Write a whole line; POISON is stored with it, and a correction waiting for the line is dropped (R279, R281,
R303). -/
def hbmWrite (line : Nat) (d : LineData) (poison : Bool) (s : State) : State :=
  let s1 := { s with hbm := { s.hbm with
    mem := Memory.setLine s.hbm.mem (64 * line) d fullMask
    flag := Tab.set 0 s.hbm.flag line (if poison then 3 else goodFlag s line) } }
  if (pcOf s (line / pcLines)).writeback.contains line then
    updPc (line / pcLines) (fun p => { p with writeback := p.writeback.filter fun l => l != line }) s1
  else s1

/-- The stack permits a refresh class at its level (R284, Table 9.5). -/
def levelPermits (level cls : Nat) : Bool := match level with
  | 0 => cls == 1 || cls == 2
  | 1 => cls == 2
  | _ => false

/-- Every stack that an image uses permits its class (R89). -/
def imagePermitted (s : State) (im : Image) : Bool :=
  im.pcs.all fun pc => levelPermits (stackOf s (pc / 32)).level im.hdr.refresh

/-- Every pseudo-channel of an image has zero debt (R64, R87). -/
def imageDebtZero (s : State) (im : Image) : Bool := im.pcs.all fun pc => (pcOf s pc).debt == 0

/-- Change each of a list of pseudo-channels. -/
def updPcs (l : List Nat) (f : Nat → Pc → Pc) (s : State) : State :=
  { s with hbm := { s.hbm with pc := Tab.updAll Pc.reset s.hbm.pc l f } }

/-- Autonomous mode: neither scheduled nor in a preparation frame (R283, R302). -/
def Pc.auto (p : Pc) : Bool := !p.sched && !p.prep

/-- What autonomous refresh takes over of a debt: what is owed it repays, pulled-in refreshes lapse (R116, R283). -/
def owed (d : Int) : Int := max d 0

/-- At a park: the open stripe is recorded, the rows precharged, and refresh becomes autonomous, which repays what is owed
(R62, R116, R302). -/
def hbmPark (l : List Nat) (s : State) : State :=
  emitAll (l.map fun pc => .dram pc 0 0) (updPcs l (fun _ p =>
    { p with
      sched := false, prep := false, recStripe := p.openStripe, openStripe := none, debt := owed p.debt, laneIdle := false
      moved := false }) s)

/-- A preparation frame: autonomous refresh ends, and the stripe recorded at the park is opened again (R64, R87, R302). -/
def hbmPrepare (l : List Nat) (s : State) : State :=
  emitAll (l.filterMap fun pc => (pcOf s pc).recStripe.map fun x => .dram pc 2 x)
    (updPcs l (fun _ p => { p with prep := true, openStripe := p.recStripe }) s)

/-- A preparation frame that failed: the rows are precharged again, and refresh is autonomous as before (R64). -/
def hbmUnprepare (l : List Nat) (s : State) : State :=
  emitAll ((l.filter fun pc => (pcOf s pc).openStripe.isSome).map fun pc => .dram pc 0 0)
    (updPcs l (fun _ p => { p with prep := false, openStripe := none }) s)

/-- Scheduled mode from a boundary on (R64, R87). -/
def hbmSchedule (l : List Nat) (s : State) : State := updPcs l (fun _ p => { p with sched := true, prep := false }) s

/-- Autonomous mode with nothing recorded: unbind and partition reset (R71, R131). -/
def hbmRelease (l : List Nat) (s : State) : State :=
  updPcs l (fun _ p => { p with
    sched := false, prep := false, openStripe := none, recStripe := none, debt := owed p.debt, forced := false
    laneIdle := false, moved := false }) s

/-- The stripe of a record for a context: CTX moves it by 12 × CTXROW[c] (R275). -/
def recStripeOf (r : PcRec) (c : CellRec) (ctx : Nat) : Nat :=
  if c.ctx then ((addrStripe c.addr : Int) + 12 * (r.ctxRow[ctx]?.getD 0)).toNat else addrStripe c.addr

/-- The records of a pseudo-channel in a pattern. -/
def pcCells (im : Image) (pc pat : Nat) : List CellRec :=
  match im.hbm.find? fun r => r.pc == pc with
  | none => []
  | some r => r.cells.filter fun c => c.pattern == pat

/-- Cells of the next frame that a lane of these records still takes. -/
def laneOver (cs : List CellRec) : Nat := cs.foldl (fun n r => max n (r.cell + r.cellsM1 + 1 - 512)) 0

/-- A cell is taken by a record of its pattern, or by a lane that the frame before began. -/
def cellBusy (cs : List CellRec) (before c : Nat) : Bool :=
  decide (c < before) || cs.any fun r => decide (r.cell ≤ c) && decide (c ≤ r.cell + r.cellsM1)

/-- Idle cells from c on, up to n of them. -/
def idleAhead (cs : List CellRec) (before : Nat) : Nat → Nat → Nat
  | 0, _ => 0
  | n + 1, c => if c ≥ 512 ∨ cellBusy cs before c then 0 else 1 + idleAhead cs before n (c + 1)

/-- Idle cells before c, counted back. -/
def idleBehind (cs : List CellRec) (before : Nat) : Nat → Nat
  | 0 => 0
  | c + 1 => if cellBusy cs before c then 0 else 1 + idleBehind cs before c

/-- The pattern of a partition's next frame, where nothing that a boundary decides can change it. -/
def fixedNext (im : Image) (p : Part) : Option Nat := match p.run with
  | none => none
  | some r =>
    if r.breach.isSome ∨ r.dropped ∨ p.unbinding.isSome ∨ p.resetPend ∨ im.isYield r.variant r.frame ∨
        im.hdr.budget ≤ r.runFrame + 1 then none
    else match lastFrameOf im r with
      | none => im.patternAt r.variant (r.frame + 1)
      | some v =>
        if v.chosen then match r.choice with
          | .variant n => im.patternAt n 0
          | _ => none
        else if v.next = 8 then none else im.patternAt v.next 0

/-- The partition whose image schedules a pseudo-channel. -/
def pcPart (s : State) (pc : Nat) : Option (Nat × Image) :=
  match partOf s (homeRim pc) with
  | none => none
  | some k => (boundImage s (part s k)).map fun im => (k, im)

/-- The present cell in its run of idle cells, which a frame end does not break: idle cells before it, and from it on. A frame
that is not fixed yet ends the run (R285). DESIGN CHOICE, log entry 31. -/
def idleRun (im : Image) (q : Part) (pc pat c : Nat) : Nat × Nat :=
  let cs := pcCells im pc pat
  let prev := (q.lastPattern.map (pcCells im pc)).getD []
  let before := laneOver prev
  let back := idleBehind cs before c
  let ahead := idleAhead cs before 512 c
  (back + (if back = c ∧ before = 0 ∧ q.lastPattern.isSome then idleBehind prev 0 512 else 0),
    ahead + if c + ahead = 512 then (match fixedNext im q with
      | some n => idleAhead (pcCells im pc n) (laneOver cs) 512 0
      | none => 0) else 0)

/-- Unscheduled traffic may use the present cell (R285, R287): every cell in autonomous mode; in scheduled mode cells
0 to r − 7 of an idle run of at least 16 cells, and cells 0 to 29 of an idle lane. -/
def cellPermitted (s : State) (pc : Nat) : Bool :=
  let p := pcOf s pc
  if !p.sched then !p.prep
  else match pcPart s pc with
    | none => true
    | some (k, im) =>
      let q := part s k
      if q.ptick < p.laneEnd then p.laneIdle && decide (q.ptick + 16 < p.laneEnd)
      else match currentPattern im q with
        | none => false
        | some pat =>
          let (back, ahead) := idleRun im q pc pat (frameOffset s / 8)
          decide (16 ≤ back + ahead) && decide (7 ≤ ahead)

/-- Unscheduled traffic in a scheduled pseudo-channel moves its rows. -/
def moveRows (pc : Nat) (s : State) : State := if (pcOf s pc).sched then updPc pc (fun p => { p with moved := true }) s else s

/-- In the last cells of an idle run or lane every bank is precharged and the open stripe, if the run's end has one, is opened
again: the image's next cell finds the row state that it assumes (R277, R285). -/
def restoreRows (pc : Nat) (s : State) : State :=
  let p := pcOf s pc
  if !p.moved then s
  else emitAll (.dram pc 0 0 :: p.openStripe.toList.map fun x => .dram pc 2 x) (updPc pc (fun q => { q with moved := false }) s)

end Sys2Proof.Machine
end

