-- ==== Sys2Proof/Machine/Sensors.lean ====
section
/-! DEFINITION. Temperature sensors: positions, neighbours, the plausibility checks, substitutes and T_ctl
(R520 to R524). -/

namespace Sys2Proof.Machine

/-- The PM's firmware runs. -/
def pmRuns (s : State) : Bool := s.boot.pm == .firmware

/-- Insert into a rising list. -/
def insertInt (a : Int) : List Int → List Int
  | [] => [a]
  | b :: t => if a ≤ b then a :: b :: t else b :: insertInt a t

/-- Sort into rising order. -/
def sortInts : List Int → List Int
  | [] => []
  | a :: t => insertInt a (sortInts t)

/-- Twice the median; the median of an even number is the mean of the middle two (R520). -/
def median2 (l : List Int) : Option Int :=
  let a := sortInts l
  match a[(a.length - 1) / 2]?, a[a.length / 2]? with
  | some x, some y => some (x + y)
  | _, _ => none

/-- The greatest of a list. -/
def maxInts : List Int → Option Int
  | [] => none
  | a :: t => match maxInts t with
    | none => some a
    | some b => some (max a b)

/-- Key of a sensor: base die s, sensor i of a tile, readout of a stack. -/
def baseSensor (i : Nat) : Nat := i
def tileSensor (t i : Nat) : Nat := 256 + 8 * t + i
def hbmSensor (k : Nat) : Nat := 512 + k
/-- SET of a key. -/
def sensorSet (key : Nat) : Nat := key / 256
/-- UNIT of a sensor (R586). -/
def sensorUnit (key : Nat) : Nat := 0x80000000 + key

/-- A sensor. -/
def sensorOf (s : State) (key : Nat) : Sensor := Tab.get Sensor.reset s.pm.sensors key
/-- Replace a sensor. -/
def setSensor (key : Nat) (z : Sensor) (s : State) : State :=
  { s with pm := { s.pm with sensors := Tab.set Sensor.reset s.pm.sensors key z } }

/-- Die position of a base-die or tile sensor (Table 16.2). -/
def sensorPos (s : State) (key : Nat) : Nat × Nat :=
  if sensorSet key = 0 then (16 * (key % 8) + 8, 8 * (key / 8) + 4)
  else
    let t := (key - 256) / 8
    let e := bits (Tab.get Tile.reset s.tiles.tile t).ident (256 + 16 * ((key - 256) % 8)) 16
    let n := tileCell t (bits e 0 5) (bits e 5 5)
    (routerX n, routerY n)

/-- Distance of two numbers. -/
def natDist (a b : Nat) : Nat := (a - b) + (b - a)

/-- Every base-die and tile sensor, and every readout. -/
def dieSensors : List Nat := rangeFrom 0 128 ++ rangeFrom 256 128
def hbmSensors : List Nat := rangeFrom 512 8

/-- Neighbours of a sensor (R520). -/
def sensorNeighbours (s : State) (key : Nat) : List Nat :=
  if sensorSet key = 2 then hbmSensors.filter fun k => k != key && (k - 512) / 4 == (key - 512) / 4
  else
    let p := sensorPos s key
    dieSensors.filter fun k =>
      let q := sensorPos s k
      k != key && decide (natDist p.1 q.1 ≤ 24) && decide (natDist p.2 q.2 ≤ 24)

/-- A sensor is plausible. -/
def Sensor.plausible (z : Sensor) : Bool := z.sampled && z.status == 0
/-- Its reading in 1/16 °C. -/
def Sensor.value (z : Sensor) : Int := z.raw.toInt

/-- Readings of the plausible sensors of a list. -/
def plausibleValues (s : State) (l : List Nat) : List Int :=
  (l.filter fun k => (sensorOf s k).plausible).map fun k => (sensorOf s k).value

/-- Twice the median of the plausible neighbours. -/
def neighbourMedian2 (s : State) (key : Nat) : Option Int := median2 (plausibleValues s (sensorNeighbours s key))

/-- RANGE, RATE and LOW of Table 16.3 on a sample. -/
def rangeFails (raw : BitVec 16) : Bool := raw == 0x8000#16 || decide (raw.toInt < -320) || decide (2080 < raw.toInt)
def rateFails (z : Sensor) (raw : BitVec 16) : Bool :=
  z.sampled && z.raw != 0x8000#16 && (decide (raw.toInt - z.value > 32) || decide (z.value - raw.toInt > 32))
def lowFails (med : Option Int) (raw : BitVec 16) : Bool := match med with
  | none => false
  | some m => decide (1920 ≤ m) && decide (m - 2 * raw.toInt > 480)

/-- The raw value with its history: since when it has been unchanged, and the range of the neighbour median since. -/
def trackRaw (now : Nat) (med : Option Int) (raw : BitVec 16) (z : Sensor) : Sensor :=
  if z.sampled && z.raw == raw then
    match med with
    | none => z
    | some m => { z with medMin := min z.medMin m, medMax := max z.medMax m }
  else { z with raw := raw, sampled := true, rawSince := now, medMin := med.getD 0, medMax := med.getD 0 }

/-- STUCK: the raw value unchanged for 250 ms while the median moved by 4 °C or more (twice the median moves by 128). -/
def stuckFails (now : Nat) (z : Sensor) : Bool :=
  decide (z.rawSince + 250000000000 ≤ now) && decide (128 ≤ z.medMax - z.medMin)

/-- The first check of Table 16.3 that fails; 0 for none. -/
def sampleStatus (now : Nat) (med : Option Int) (old z : Sensor) (raw : BitVec 16) : Nat :=
  if rangeFails raw then 1
  else if rateFails old raw then 2
  else if stuckFails now z then 3
  else if lowFails med raw then 4
  else 0

/-- Endpoint of the PM. -/
def pmEndpoint : Nat := 0x101

/-- Exclude a sensor: its status, its count, and RETIRED at the eighth exclusion; one EVENT entry each (R521, R522). -/
def excludeSensor (key st : Nat) (z : Sensor) (s : State) : State :=
  let n := min 15 (z.exclusions + 1)
  let final := if 8 ≤ n then 5 else st
  let s1 := sendEvent ⟨0xA001, 0, sensorUnit key, some st, pmEndpoint, 0⟩
    (setSensor key { z with status := final, exclusions := n, goodSince := 0, changed := false, stuck := st == 3 } s)
  if final = 5 then sendEvent ⟨0xA002, 5, sensorUnit key, none, pmEndpoint, 0⟩ s1 else s1

/-- An excluded sensor earns its way back: one second of samples that pass RANGE, RATE and LOW (R522). -/
def requalify (now : Nat) (key : Nat) (old z : Sensor) (raw : BitVec 16) (med : Option Int) (s : State) : State :=
  if rangeFails raw || rateFails old raw || lowFails med raw then
    setSensor key { z with goodSince := 0, changed := false } s
  else
    let since := if z.goodSince = 0 then now + 1 else z.goodSince
    let ch := z.changed || old.raw != raw
    if now + 1 ≥ since + 1000000000000 && (!z.stuck || ch) then
      setSensor key { z with status := 0, goodSince := 0, changed := false, stuck := false } s
    else setSensor key { z with goodSince := since, changed := ch } s

/-- Judge one sample of a sensor (R521, R522). -/
def judgeSample (key : Nat) (raw : BitVec 16) (s : State) : State :=
  let now := s.clk.wallPs
  let med := neighbourMedian2 s key
  let old := sensorOf s key
  let z := trackRaw now med raw old
  if old.status = 5 then setSensor key z s
  else if old.status ≠ 0 then requalify now key old z raw med s
  else
    let st := sampleStatus now med old z raw
    if st = 0 then setSensor key z s else excludeSensor key st z s

/-- An unusable tile frame: 16 in a row exclude the tile's sensors as RANGE; in a shorter run the last usable frame stands in, and
what it has passed still counts (R239, R521). -/
def unusableFrame (t : Nat) (s : State) : State :=
  (rangeFrom 0 8).foldl (fun u i =>
    let z := sensorOf u (tileSensor t i)
    let z1 := { z with unusable := z.unusable + 1 }
    if z1.unusable = 16 ∧ z.status = 0 then excludeSensor (tileSensor t i) 1 { z1 with sampled := true } u
    else setSensor (tileSensor t i) (if z1.unusable < 16 then z1 else { z1 with goodSince := 0 }) u) s

/-- A usable tile frame: every reading is judged. -/
def usableFrame (t : Nat) (readings : List (BitVec 16)) (s : State) : State :=
  (rangeFrom 0 8).foldl (fun u i =>
    judgeSample (tileSensor t i) (readings[i]?.getD 0x8000#16)
      (setSensor (tileSensor t i) { sensorOf u (tileSensor t i) with unusable := 0 } u)) s

/-- The value with which a sensor enters T_ctl, in 1/16 °C: its reading, a substitute, or none (R523, R524). -/
def controlValue (s : State) (key : Nat) : Option Int :=
  let z := sensorOf s key
  if !z.sampled then none
  else if sensorSet key = 2 then
    if z.status = 0 then some (z.value + 80)
    else match maxInts (plausibleValues s (sensorNeighbours s key)) with
      | some v => some (v + 144)
      | none => some 1600
  else if z.status = 0 then some z.value
  else match maxInts (plausibleValues s (sensorNeighbours s key)) with
    | some v => some (v + if sensorSet key = 0 then 64 else 96)
    | none => (maxInts (plausibleValues s dieSensors)).map fun v => v + 160

/-- T_ctl: the largest value; none before any sample (R525). -/
def tCtl (s : State) : Option Int := maxInts ((dieSensors ++ hbmSensors).filterMap (controlValue s))

/-- No base-die or tile sensor is plausible although one has been sampled (R523 rule 3). -/
def nonePlausible (s : State) : Bool :=
  (dieSensors.any fun k => (sensorOf s k).sampled) && !(dieSensors.any fun k => (sensorOf s k).plausible)

/-- Refresh level after a readout in 1/16 °C (Table 9.5, R284). -/
def nextLevel (level : Nat) (v : Int) : Nat :=
  if v > 1520 then 2
  else if v > 1360 then (if level = 2 ∧ v > 1472 then 2 else 1)
  else if v ≤ 1312 then 0
  else min level 1

/-- Plausible base-die sensors, and plausible sensors of a tile. -/
def basePlausible (s : State) : Nat := ((rangeFrom 0 128).filter fun k => (sensorOf s k).plausible).length
def tilePlausible (s : State) (t : Nat) : Nat :=
  ((rangeFrom 0 8).filter fun i => (sensorOf s (tileSensor t i)).plausible).length

/-- Note since when coverage has been low (Table 18.4): unit 0 the base die, t + 1 a tile whose sensors have been read. -/
def noteCoverage (unit : Nat) (s : State) : State :=
  let low : Bool := if unit = 0 then (sensorOf s 0).sampled && decide (basePlausible s < 112)
    else (sensorOf s (tileSensor (unit - 1) 0)).sampled && decide (tilePlausible s (unit - 1) < 6)
  let since := Tab.get 0 s.pm.lowSince unit
  let v := if !low then 0 else if since = 0 then s.clk.wallPs + 1 else since
  { s with pm := { s.pm with lowSince := Tab.set 0 s.pm.lowSince unit v } }

/-- Coverage of a unit has been low for an hour. -/
def coverageLow (s : State) (unit : Nat) : Bool :=
  let since := Tab.get 0 s.pm.lowSince unit
  since != 0 && decide (since + 3600000000000000 ≤ s.clk.wallPs + 1)

end Sys2Proof.Machine
end

