-- ==== Sys2Proof/Machine/Repl.lean ====
section
/-! DEFINITION. The fault map as software reads it, the capability summary, and replacement requests (R587 to R590,
R605, R607). -/

namespace Sys2Proof.Machine

/-- Fields of width w, field i from f i, packed from bit 0. -/
def packFields (w : Nat) (f : Nat → Nat) : Nat → Nat
  | 0 => 0
  | n + 1 => packFields w f n + put (f n) (w * n) w

/-- Ones of a predicate below n. -/
def countTrue (f : Nat → Bool) : Nat → Nat
  | 0 => 0
  | n + 1 => countTrue f n + if f n then 1 else 0

/-! ### The fault map -/

/-- Good clusters, cells at half width. -/
def goodClusters (s : State) : Nat := countTrue (fun n => s.fmap.clusterCode n != 0) 16384
def narrowCells (s : State) : Nat := countTrue (fun n => s.fmap.clusterCode n == 1) 16384
/-- Stitch columns missing and at half width. -/
def missingColumns (s : State) : Nat := countTrue (fun x => s.fmap.stitchCode x == 0) 128
def halfColumns (s : State) : Nat := countTrue (fun x => s.fmap.stitchCode x == 1) 128

/-- Live routers of a list. -/
def liveOf (s : State) (l : List Nat) : Nat := (l.filter s.fmap.live).length

/-- Rows of the halves of the split host ports, in the order of R587. -/
def halfRows (h : Nat) : List Nat := rangeFrom (match h with | 0 => 16 | 1 => 32 | 2 => 80 | _ => 96) 16

/-- An attachment, or a half of a host port, has fewer than eight live rim routers (R157). -/
def restricted (s : State) (i : Nat) : Bool :=
  decide (liveOf s (if i < 26 then attachmentRouters i else (halfRows (i - 26)).map (routerAt 0)) < 8)

/-- The header of the fault map. -/
def mapHeader (s : State) : Nat :=
  put s.fmap.merges.toNat 0 32 + put (goodClusters s) 32 16 + put s.fmap.deadRouters.length 48 16 +
  put (narrowCells s) 64 16 + put s.fmap.deadPcs.length 80 16 + put (missingColumns s) 96 8 + put (halfColumns s) 104 8

/-- The 6,240-byte fault map as a little-endian number (R587, Table 4.9). -/
def faultMapBytes (s : State) : Nat :=
  mapHeader s +
  packFields 1 (fun n => flag (s.fmap.live n)) 16384 * 2 ^ 128 +
  packFields 2 s.fmap.clusterCode 16384 * 2 ^ (128 + 16384) +
  packFields 2 s.fmap.stitchCode 128 * 2 ^ (128 + 16384 + 32768) +
  packFields 1 (fun p => flag (s.fmap.pcLive p)) 256 * 2 ^ (128 + 16384 + 32768 + 256) +
  packFields 1 (fun i => flag (restricted s i)) 30 * 2 ^ (8 * 6224)

/-! ### Capability summary (Table 18.5) -/

/-- A Lattice port. -/
def latPort (s : State) (p : Nat) : LPort := Tab.get LPort.reset s.lat.port p

/-- WIDTHS code of a port: 0 failed or disabled, 1 two lanes, 2 four, 3 eight. -/
def widthField (s : State) (p : Nat) : Nat :=
  let x := latPort s p
  if x.state ≠ 2 ∧ x.state ≠ 3 then 0
  else match x.width with
    | 2 => 1
    | 4 => 2
    | 8 => 3
    | _ => 0

/-- Usable attached drives. -/
def usableDrives (s : State) : Nat :=
  (s.dense.attached.filter fun d =>
    let v := Tab.get Drive.reset s.dense.drive d.1
    v.usable && !v.failed).length

/-- Active requests. -/
def activeRequests (s : State) : List ReplReq := s.logs.requests.filter fun r => r.active

/-- The summary. -/
def capability (s : State) : Nat :=
  put (activeRequests s).length 0 16 + put (goodClusters s) 16 16 + put (narrowCells s) 32 16 +
  put s.fmap.deadPcs.length 48 16 + put (missingColumns s) 64 8 + put (usableDrives s) 72 8 +
  put (packFields 2 (widthField s) 12) 80 24 + put (basePlausible s) 104 8

/-! ### Replacement requests -/

/-- Failed lanes of a bundle in force. -/
def laneCount (s : State) (bundle : Nat) : Nat := (failedLanes s.lanes.inForce bundle).length

/-- A tile's service port has no working width, or a site without a spare is at fault (R240, Table 8.2). -/
def svcLost (s : State) (t : Nat) : Bool :=
  bundleWidth s.lanes.inForce (svcBundle t) == 0 ||
  s.lanes.inForce.any fun e => entBundle e == svcBundle t && svcFixed.contains (entLane e)

/-- Tiles with 32 or more cells whose DN, UP or CTL group has no unused spare: only cells named by entries can be short. -/
def shortCells (s : State) (t : Nat) : Nat :=
  let cells := ((tileMap s.lanes t).map entCell).eraseDups
  (cells.filter fun c => decide (21 ≤ laneCount s (bondBundle t c 0)) || decide (21 ≤ laneCount s (bondBundle t c 1)) ||
    decide (4 ≤ laneCount s (bondBundle t c 2))).length

/-- Banks of a stack without a repair resource. -/
def exhaustedBanks (s : State) (k : Nat) : Nat :=
  (rangeFrom (32 * k) 32).foldl (fun n p => n + (pcOf s p).exhausted.length) 0

/-- A stack's uncorrectable lines, and distinct slices with a first uncorrectable word, within 24 h. -/
def lines24 (s : State) (k : Nat) : Nat :=
  (s.logs.stacks24.filter fun e => e.1 == k && decide (s.clk.refTime.toNat < e.2 + 8640000000000)).length
def slices24 (s : State) : Nat :=
  (((s.logs.slices24.filter fun e => decide (s.clk.refTime.toNat < e.2 + 8640000000000)).map fun e => e.1).eraseDups).length

/-- Numbers below n that satisfy f, as (reason, number). -/
def unitsWhere (reason n : Nat) (f : Nat → Bool) : List (Nat × Nat) := ((rangeFrom 0 n).filter f).map fun u => (reason, u)

/-- One pair when a condition holds. -/
def oneWhen (reason unit : Nat) (c : Bool) : List (Nat × Nat) := if c then [(reason, unit)] else []

/-- A port has been FAILED for an hour. -/
def failedHour (s : State) (port : Nat) : Bool :=
  let f := (latPort s port).failedAt
  f != 0 && decide (f + 3600000000000000 ≤ s.clk.wallPs + 1)

/-- The (REASON, UNIT) pairs whose condition of Table 18.4 holds. -/
def replConditions (s : State) : List (Nat × Nat) :=
  oneWhen 0x300E 0 (decide (goodClusters s < 16256)) ++
  ((rangeFrom 0 16).filterMap fun t =>
    let r := (Tab.get Tile.reset s.tiles.tile t).failReason
    if 0x3001 ≤ r ∧ r ≤ 0x300A then some (r, t) else none) ++
  s.fmap.deadRouters.map (fun n => (0x4005, n)) ++
  oneWhen 0x2003 0 (decide (64 ≤ narrowCells s)) ++
  ((rangeFrom 0 256).filterMap fun i =>
    let b := stitchBundle (i / 2) (i % 2)
    if bundleWidth s.lanes.inForce b = 1 then some (0x2003, b) else none) ++
  ((rangeFrom 0 256).filterMap fun i =>
    let b := stitchBundle (i / 2) (i % 2)
    if bundleWidth s.lanes.inForce b = 0 then some (0x2004, b) else none) ++
  ((rangeFrom 0 16).filterMap fun t =>
    if svcLost s t then some (0x2004, svcBundle t) else none) ++
  unitsWhere 0x2007 128 (fun x =>
    decide (8 < laneCount s (stitchBundle x 0)) || decide (8 < laneCount s (stitchBundle x 1)) ||
    (decide (x < 16) && decide (32 ≤ shortCells s x))) ++
  oneWhen 0x2005 0 s.lanes.fieldFull ++
  (unitsWhere 0x5005 8 (fun k => decide (48 ≤ exhaustedBanks s k))).map (fun e => (e.1, 32 * e.2)) ++
  s.fmap.deadPcs.map (fun p => (0x5006, p)) ++
  unitsWhere 0x5007 8 (fun k => (stackOf s k).dead) ++
  (unitsWhere 0x5001 8 (fun k => decide (256 ≤ lines24 s k))).map (fun e => (e.1, 32 * e.2)) ++
  oneWhen 0x4001 0 (decide (8 ≤ slices24 s)) ++
  unitsWhere 0xA003 17 (coverageLow s) ++
  oneWhen 0xA003 17 (hbmSensors.any fun k => (sensorOf s k).status == 5) ++
  ((dieSensors ++ hbmSensors).filterMap fun k =>
    if (sensorOf s k).status = 5 ∧ !((sensorNeighbours s k).any fun j => (sensorOf s j).plausible) then
      some (0xA002, sensorUnit k) else none) ++
  oneWhen 0xA004 0 s.pm.noPlausible ++
  s.pm.shut.map (fun t => (0x1008, t)) ++
  s.dense.lost.map (fun d => (0x6001, d)) ++
  oneWhen 0x6005 0 (decide (1024 ≤ s.dense.failedBlocks.length)) ++
  unitsWhere 0x8001 12 (fun p => (latPort s p).state == 2 && (latPort s p).width == 2) ++
  unitsWhere 0x8002 12 (failedHour s)

/-- The class of a reason in Table 18.2, for the reasons of Table 18.4. -/
def replClass (reason : Nat) : Nat := if reason = 0x4001 ∨ reason = 0x5001 then 2 else 5

/-- Insert a request in ascending (REASON, UNIT). -/
def insertRequest (r : ReplReq) : List ReplReq → List ReplReq
  | [] => [r]
  | a :: t =>
    if r.reason < a.reason ∨ (r.reason = a.reason ∧ r.unit < a.unit) then r :: a :: t else a :: insertRequest r t

/-- Raise a request (R588): the request, its NOTIFY, its event entry with REPL, its persistent entry. -/
def raiseRequest (reason unit : Nat) (s : State) : State :=
  let l := match s.logs.requests.find? fun r => r.reason == reason && r.unit == unit with
    | some _ => s.logs.requests.map fun r =>
        if r.reason == reason && r.unit == unit then { r with raised := r.raised + 1, active := true } else r
    | none => insertRequest ⟨reason, unit, s.boot.coldStarts, 1, true⟩ s.logs.requests
  notify 1 reason unit
    (logEntry reason (replClass reason) unit 0 0x100 true { s with logs := { s.logs with requests := l } })

/-- The pair has an active request. -/
def isRequested (s : State) (e : Nat × Nat) : Bool :=
  s.logs.requests.any fun r => r.active && r.reason == e.1 && r.unit == e.2

/-- Evaluate Table 18.4, once the MP runs (R588, R605). -/
def evaluateRequests (s : State) : State :=
  if mpRuns s then
    (replConditions s).foldl (fun t e => if isRequested t e then t else raiseRequest e.1 e.2 t) s
  else s

/-- Evaluate for a condition that time has met: it holds and its pair is not requested yet. -/
def evaluateFor (pair : Nat × Nat) (c : Bool) (s : State) : State :=
  if c && !isRequested s pair then evaluateRequests s else s

/-- An entry of REPLACEMENT_QUERY's listing (R590). -/
def requestBytes (r : ReplReq) : Nat :=
  put r.reason 0 16 + put r.unit 32 32 + put r.boot.toNat 64 32 + put r.raised 96 32

/-- Numbers of w bytes each, the first lowest. -/
def concatBytes (w : Nat) : List Nat → Nat
  | [] => 0
  | a :: t => a % 2 ^ (8 * w) + 2 ^ (8 * w) * concatBytes w t

end Sys2Proof.Machine
end

