-- ==== Sys2Proof/Machine/LatOps.lean ====
section
/-! DEFINITION. Lattice operations: shapes and routes, ports, flits and control messages, unscheduled requests
(R459 to R472, R487). -/

namespace Sys2Proof.Machine

/-! ### Shapes, numbering, routes (R459, R460) -/

/-- Modules of the shape. -/
def LatConfig.modules (c : LatConfig) : Nat := match c.shape with
  | 1 => c.x * c.y * c.z
  | 2 => 2
  | 3 => 4
  | _ => 1

/-- Coordinates of a module in the torus. -/
def LatConfig.coord (c : LatConfig) (m : Nat) : Nat × Nat × Nat := (m % c.x, m / c.x % c.y, m / (c.x * c.y))
/-- Module at coordinates. -/
def LatConfig.at (c : LatConfig) (x y z : Nat) : Nat := x + c.x * (y + c.y * z)

/-- Size of dimension d: 0 X, 1 Y, 2 Z. -/
def LatConfig.dim (c : LatConfig) (d : Nat) : Nat := match d with
  | 0 => c.x
  | 1 => c.y
  | _ => c.z
/-- Position of a module in dimension d. -/
def LatConfig.pos (c : LatConfig) (m d : Nat) : Nat := match d with
  | 0 => (c.coord m).1
  | 1 => (c.coord m).2.1
  | _ => (c.coord m).2.2
/-- The neighbour of a module one step along dimension d; `up` is the + direction. -/
def LatConfig.stepTo (c : LatConfig) (m d : Nat) (up : Bool) : Nat :=
  let n := c.dim d
  let (x, y, z) := c.coord m
  let move (p : Nat) : Nat := if up then (p + 1) % n else (p + n - 1) % n
  match d with
  | 0 => c.at (move x) y z
  | 1 => c.at x (move y) z
  | _ => c.at x y (move z)

/-- Hops left in dimension d and the direction taken: the shorter, and + on a tie. -/
def LatConfig.need (c : LatConfig) (m dst d : Nat) : Nat × Bool :=
  let n := c.dim d
  let fwd := (c.pos dst d + n - c.pos m d) % n
  if fwd = 0 then (0, true) else if 2 * fwd ≤ n then (fwd, true) else (n - fwd, false)

/-- Role of a hop: 2 × dimension + (0 for +, 1 for −) (Table 14.4). -/
def roleOfHop (d : Nat) (up : Bool) : Nat := 2 * d + if up then 0 else 1

/-- The first dimension of an order that still needs hops. -/
def LatConfig.firstHop (c : LatConfig) (m dst : Nat) : List Nat → Option (Nat × Bool)
  | [] => none
  | d :: t => let (n, up) := c.need m dst d
    if n = 0 then c.firstHop m dst t else some (d, up)

/-- Hops of a route (R459). -/
def LatConfig.hopCount (c : LatConfig) (m dst : Nat) : Nat := match c.shape with
  | 1 => (c.need m dst 0).1 + (c.need m dst 1).1 + (c.need m dst 2).1
  | _ => if m = dst then 0 else 1

/-- Diameter H. -/
def LatConfig.diameter (c : LatConfig) : Nat := match c.shape with
  | 1 => c.x / 2 + c.y / 2 + c.z / 2
  | 0 => 0
  | _ => 1

/-- Ports of this module toward peer j in QUAD, in rank order (Table 14.3). -/
def quadPorts (m j : Nat) : List Nat :=
  let k := (j + 4 - m % 4) % 4
  if k = 0 then [] else [2 * k - 2, 2 * k - 1, (2 * k + 4) % 12, (2 * k + 5) % 12]

/-- The module at the far end of a port of module m, where the shape uses the port. -/
def LatConfig.farOf (c : LatConfig) (m port : Nat) : Option Nat := match c.shape with
  | 1 =>
    let d := port % 6 / 2
    if port < 12 ∧ 1 < c.dim d then some (c.stepTo m d (port % 2 == 0)) else none
  | 2 => if port < 12 then some (1 - m) else none
  | 3 => (rangeFrom 0 4).find? fun j => (quadPorts m j).contains port
  | _ => none

/-- The far side's port for a port of module m: its facing role in the same plane, the same port of a PAIR, the port of
equal rank in a QUAD. -/
def LatConfig.farPort (c : LatConfig) (m port : Nat) : Nat := match c.shape with
  | 1 => 6 * (port / 6) + (if port % 2 = 0 then port % 6 + 1 else port % 6 - 1)
  | 3 => match c.farOf m port with
    | some j => (quadPorts j m)[(quadPorts m j).idxOf port]?.getD port
    | none => port
  | _ => port

/-- Change a port. -/
def updPort (p : Nat) (f : LPort → LPort) (s : State) : State :=
  { s with lat := { s.lat with port := Tab.upd LPort.reset s.lat.port p f } }

/-- A port is UP. -/
def portUp (s : State) (p : Nat) : Bool := (latPort s p).state == 2
/-- Own module number. -/
def self (s : State) : Nat := s.lat.cfg.module

/-- The UP port of a role, the starting plane first (R460). -/
def portOfRole (s : State) (role plane : Nat) : Option Nat :=
  let a := role + 6 * plane
  let b := role + 6 * (1 - plane)
  if portUp s a then some a else if portUp s b then some b else none

/-- The next hop in a torus under one dimension order. -/
def torusHop (s : State) (dst plane : Nat) (order : List Nat) : Option Nat :=
  match s.lat.cfg.firstHop (self s) dst order with
  | none => none
  | some (d, up) => portOfRole s (roleOfHop d up) plane

/-- UP links to a peer of a PAIR or QUAD, in rank order. -/
def linksTo (s : State) (peer : Nat) : List Nat :=
  (match s.lat.cfg.shape with
    | 2 => rangeFrom 0 12
    | 3 => quadPorts (self s) peer
    | _ => []).filter (portUp s)

/-- Output port of unscheduled or control traffic toward a module: dimension order, the other plane, then the orders
Y, Z, X and Z, X, Y; or the UP link of rank TAG modulo their number (R460). -/
def unschedPort (s : State) (src dst tag : Nat) : Option Nat :=
  if s.lat.cfg.shape = 1 then
    let plane := (src + dst) % 2
    match torusHop s dst plane [0, 1, 2] with
    | some p => some p
    | none => match torusHop s dst plane [1, 2, 0] with
      | some p => some p
      | none => torusHop s dst plane [2, 0, 1]
  else
    let l := linksTo s dst
    if l.isEmpty then none else l[tag % l.length]?

/-- Output port of a window toward a module, in its plane; a PAIR or QUAD window leaves by its own port (R460). -/
def windowPort (s : State) (dst port : Nat) : Option Nat :=
  if s.lat.cfg.shape = 1 then torusHop s dst (port / 6) [0, 1, 2]
  else if portUp s port then some port else none

/-- D_L in picoseconds (R487, R543): the narrowest width of this module's ports in use stands for the route's. -/
def deliveryPs (s : State) : Nat :=
  let c := s.lat.cfg
  let ws := (rangeFrom 0 12).filterMap fun p =>
    let x := latPort s p
    if x.state = 2 then some (if x.asleep then 2 else x.width) else none
  let w := ws.foldl min 8
  let sleeping := ((rangeFrom 0 12).filter fun p => (latPort s p).asleep).length
  2000000 + 600000 * c.diameter + 163840 * (c.modules - 1) * 8 / max w 1 + 4000000 * sleeping

/-! ### Flits -/

/-- First virtual channel of a flit type (Table 14.6). -/
def firstVc (type : Nat) : Nat := match type with
  | 2 => 1
  | 3 => 3
  | 4 => 5
  | _ => 0

/-- Put a flit at an output by its class. -/
def queueFlit (p : Nat) (f : Flit) (s : State) : State :=
  updPort p (fun x => match f.type with
    | 1 => { x with ctrlQ := x.ctrlQ ++ [f] }
    | 2 => { x with winQ := x.winQ ++ [f] }
    | 3 => { x with ureqQ := x.ureqQ ++ [f] }
    | _ => { x with urspQ := x.urspQ ++ [f] }) s

/-- The dimension of a torus port. -/
def portDim (p : Nat) : Nat := p % 6 / 2

/-- The virtual channel after a hop: the second from the wraparound link of a dimension on, the first after a turn
(R460). `inPort` is where the flit came from, if it did. -/
def hopVc (s : State) (f : Flit) (inPort : Option Nat) (out : Nat) : Nat :=
  let c := s.lat.cfg
  let v0 := firstVc f.type
  if c.shape ≠ 1 ∨ f.type = 1 then v0
  else
    let d := portDim out
    let pos := c.pos (self s) d
    let wrap : Bool := if out % 2 = 0 then pos + 1 == c.dim d else pos == 0
    let stay : Bool := match inPort with
      | some i => portDim i == d
      | none => false
    if wrap || (stay && f.vc == v0 + 1) then v0 + 1 else v0

/-- Send a flit out of a port. -/
def sendFlit (out : Nat) (inPort : Option Nat) (f : Flit) (s : State) : State :=
  queueFlit out { f with vc := hopVc s f inPort out } s

/-- The unscheduled header with its lines or command as payload (R463). -/
def unschedPayload (uop tag region nl poison off status body : Nat) : Nat :=
  put uop 128 8 + put tag 136 24 + put region 160 12 + put nl 172 2 + put poison 174 3 + put off 192 48 +
  put status 240 16 + put body 256 1536

/-- Lines side by side. -/
def linesBody : List LineData → Nat
  | [] => 0
  | d :: t => d.toNat + 2 ^ 512 * linesBody t

/-- Poison bits of lines. -/
def poisonBits : List Bool → Nat
  | [] => 0
  | b :: t => flag b + 2 * poisonBits t

/-! ### Control messages (R464) -/

/-- Message codes of Table 14.9. -/
def cLinkId : Nat := 1
def cArrive : Nat := 2
def cRelease : Nat := 3
def cTreq : Nat := 4
def cTset : Nat := 5
def cJoin : Nat := 6
def cLinkFail : Nat := 7
def cLost : Nat := 8
def cPolicy : Nat := 9

/-- A message of this module; FLOOD counts flooded ones. -/
def ctrlBytes (s : State) (msg flood body : Nat) : Nat :=
  put msg 0 8 + put (self s) 8 10 + put s.lat.cfg.group 18 8 + body % 2 ^ 240 + put flood 240 16

/-- A CTRL flit with one message, link-local. -/
def ctrlFlit (x : Nat) : Flit := ⟨1, 0, 0x3FF, 0x3FF, 0, 0, x * 2 ^ 128⟩

/-- Send a message on a port. -/
def sendCtrl (port x : Nat) (s : State) : State :=
  if portUp s port then emit (.ctrlMsg port (bits x 0 8) x) (sendFlit port none (ctrlFlit x) s) else s

/-- Send a message on every UP port but one. -/
def sendAll (except : Option Nat) (x : Nat) (s : State) : State :=
  (rangeFrom 0 12).foldl (fun t p => if some p = except then t else sendCtrl p x t) s

/-- Flood a message of this module. -/
def floodOwn (msg body : Nat) (s : State) : State :=
  let n := Tab.get 0 s.lat.ownFlood msg + 1
  sendAll none (ctrlBytes s msg (n % 65536) body)
    { s with lat := { s.lat with ownFlood := Tab.set 0 s.lat.ownFlood msg n } }

/-- Key of a FLOOD record. -/
def floodKey (msg origin : Nat) : Nat := 1024 * msg + origin

/-- A flooded message is new: its FLOOD is newer than the last one forwarded from its origin for its MSG; this module's own is
not (R464). -/
def floodNew (s : State) (x : Nat) : Bool :=
  let old := Tab.get 0 s.lat.floods (floodKey (bits x 0 8) (bits x 8 10))
  bits x 8 10 != self s && (old == 0 || newer16 (BitVec.ofNat 16 (old - 1)) (BitVec.ofNat 16 (bits x 240 16)))

/-- Forward a new flooded message once on every UP port but its own, and note its FLOOD. -/
def floodOn (port x : Nat) (s : State) : State :=
  sendAll (some port) x { s with lat := { s.lat with
    floods := Tab.set 0 s.lat.floods (floodKey (bits x 0 8) (bits x 8 10)) (bits x 240 16 + 1) } }

/-! ### The barrier tree (R472) -/

/-- Members in good standing, this module included when it is. -/
def goodMembers (s : State) : List Nat :=
  if s.lat.standing = .good then self s :: s.lat.members else s.lat.members

/-- Modules of the group that take part in the tree: members, this module, joiners. -/
def treeModules (s : State) : List Nat := (self s :: (s.lat.members ++ s.lat.joiners)).eraseDups

/-- The least of a list. -/
def leastOf : List Nat → Option Nat
  | [] => none
  | a :: t => match leastOf t with
    | none => some a
    | some b => some (min a b)

/-- The coordinator: the lowest-numbered member in good standing; before any is, the lowest module heard of (R472,
R476). -/
def coordinator (s : State) : Option Nat := match leastOf (goodMembers s) with
  | some k => some k
  | none => leastOf (treeModules s)

/-- The next module on a module's route to another. -/
def LatConfig.nextModule (c : LatConfig) (m dst : Nat) : Nat := match c.shape with
  | 1 => match c.firstHop m dst [0, 1, 2] with
    | some (d, up) => c.stepTo m d up
    | none => m
  | _ => dst

/-- The port toward this module's parent: plane A, or B when A's port is not UP. -/
def parentPort (s : State) : Option Nat :=
  match coordinator s with
  | none => none
  | some k => if k = self s then none else
    if s.lat.cfg.shape = 1 then torusHop s k 0 [0, 1, 2] else (linksTo s k).head?

/-- The children of this module in the tree. -/
def children (s : State) : List Nat :=
  match coordinator s with
  | none => []
  | some k => (treeModules s).filter fun m => m != self s && m != k && s.lat.cfg.nextModule m k == self s

/-- The UP port toward a neighbouring module. -/
def portToward (s : State) (m : Nat) : Option Nat :=
  (rangeFrom 0 12).find? fun p => portUp s p && s.lat.cfg.farOf (self s) p == some m

/-- Greatest depth of the tree. -/
def treeDepth (s : State) : Nat := match coordinator s with
  | none => 0
  | some k => (treeModules s).foldl (fun n m => max n (s.lat.cfg.hopCount m k)) 0

/-! ### Unscheduled requests (R463) -/

/-- Requests outstanding to a destination. -/
def outstandingTo (s : State) (dst : Nat) : Nat := (s.lat.outReqs.filter fun r => r.dst == dst).length

/-- Send a request now: it counts as outstanding and leaves on its route. -/
def launchReq (r : OutReq) (s : State) : State :=
  let s1 := { s with lat := { s.lat with outReqs := s.lat.outReqs ++ [{ r with at_ := s.clk.wallPs }] } }
  match unschedPort s1 (self s) r.dst r.tag with
  | none => s1
  | some p => sendFlit p none r.flit s1

/-- An unscheduled request of this module: the next TAG, at most 16 outstanding per destination (R463). -/
def sendReq (dst uop region nl poison off body kind ref : Nat) (s : State) : State :=
  let tag := s.lat.tag
  let f : Flit := ⟨3, 3, self s, dst, 0, 0, unschedPayload uop tag region nl poison off 0 body⟩
  let r : OutReq := ⟨dst, tag, f, kind, ref, s.clk.wallPs⟩
  let s1 := emit (.latReq dst uop tag body) { s with lat := { s.lat with tag := (tag + 1) % 2 ^ 24 } }
  if outstandingTo s1 dst < 16 then launchReq r s1
  else { s1 with lat := { s1.lat with waiting := s1.lat.waiting ++ [r] } }

/-- A place has become free for a destination: the oldest waiting request goes out. -/
def admitWaiting (dst : Nat) (s : State) : State :=
  match s.lat.waiting.find? fun r => r.dst == dst with
  | none => s
  | some r =>
    if outstandingTo s dst < 16 then launchReq r { s with lat := { s.lat with waiting := s.lat.waiting.erase r } }
    else s

/-- A kept response has aged out: it stands 8 × D_L, for one of the last 4,096 TAGs of its source (R463). -/
def keptStale (s : State) (tag : Nat) (k : Nat × Nat × Flit × Nat) : Bool :=
  let age := (tag + 2 ^ 24 - k.2.1) % 2 ^ 24
  decide (k.2.2.2 + 8 * deliveryPs s ≤ s.clk.wallPs) || decide (4096 ≤ age ∧ age < 2 ^ 23)

/-- Answer a request of another module, and keep the answer for repeats (R463). -/
def sendRsp (dst uop tag region nl poison off status body : Nat) (s : State) : State :=
  let f : Flit := ⟨4, 5, self s, dst, 0, 0, unschedPayload uop tag region nl poison off status body⟩
  let keep := s.lat.kept.filter fun k => !(k.1 == dst && (k.2.1 == tag || keptStale s tag k))
  let s1 := { s with lat := { s.lat with kept := (dst, tag, f, s.clk.wallPs) :: keep } }
  match unschedPort s1 (self s) dst tag with
  | none => s1
  | some p => sendFlit p none f s1

end Sys2Proof.Machine
end

