-- ==== Sys2Proof/Machine/LinkOps.lean ====
section
/-! DEFINITION. The Lattice link layer: sequence numbers, acknowledgements, replay, credits, flit slots, port states
(R457, R458, R465 to R470, R488). -/

namespace Sys2Proof.Machine

/-- Endpoint of a Lattice port (Table 5.5). -/
def latEndpoint (p : Nat) : Nat := 0x120 + p

/-! ### Sending -/

/-- Credits after UP by virtual channel (R469). -/
def creditLimit (vc : Nat) : Nat := if vc = 0 then 4 else if vc ≤ 2 then 16 else 7
/-- A credit is in hand. -/
def hasCredit (x : LPort) (vc : Nat) : Bool := decide (Tab.get 0 x.spent vc < creditLimit vc)

/-- The virtual channel whose credits the next flit returns, with their number. -/
def creditReturn (x : LPort) : Nat × Nat := match x.owed with
  | [] => (0, 0)
  | (vc, n) :: _ => (vc, min 63 n)

/-- The header of Table 14.5 with the payload and the CRC of R461. -/
def flitBytes (x : LPort) (f : Flit) (seq : Nat) (ack : BitVec 16) (ackv : Bool) : Nat :=
  let (cvc, crd) := creditReturn x
  let body := put f.type 0 4 + put f.vc 4 3 + put seq 8 16 + put ack.toNat 24 16 + put (flag ackv) 40 1 + put cvc 41 3 +
    put crd 44 6 + put f.src 64 10 + put f.dst 74 10 + put f.hops 84 4 + put f.xt 96 32 + put f.payload 128 1888
  body + put (crc32 body 252).toNat 2016 32

/-- Put a flit on the wire: it carries the acknowledgement and returns credits (R467, R469). -/
def wire (port : Nat) (f : Flit) (seq : Nat) (s : State) : State :=
  let x := latPort s port
  let (cvc, crd) := creditReturn x
  emit (.flit port f.type seq (flitBytes x f seq (x.expected - 1) x.accepted))
    (countUp 0x0401 port (updPort port (fun y => { y with
      ackDue := false, owed := Tab.upd 0 y.owed cvc (fun n => n - crd) }) s))

/-- An IDLE or NAK flit: no SEQ, no credit. -/
def wireBare (port type : Nat) (s : State) : State := wire port ⟨type, 0, 0x3FF, 0x3FF, 0, 0, 0⟩ 0 s

/-- Count a flit of the current frame: the load of window flits, and the quiet frames of R543. A frame beyond
1,024 × w / 8 window flits is overloaded (R483). -/
def noteLoad (port : Nat) (isWin : Bool) (s : State) : State :=
  let fr := frameNumber s
  let x := latPort s port
  let gap := fr - x.loadFrame
  let x1 := if gap = 0 then x
    else { x with load := 0, flits := 0, overNoted := false, loadFrame := fr
                  quiet := if x.flits < 64 then x.quiet + gap else gap - 1 }
  let x2 := { x1 with flits := x1.flits + 1, load := x1.load + flag isWin }
  let beyond := decide (128 * x2.width < x2.load) && !x2.overNoted
  let s1 := updPort port (fun _ => { x2 with overNoted := x2.overNoted || beyond }) s
  if beyond then countUp 0x0408 port s1 else s1

/-- The flit of a class that may go: the second virtual channel before the first, with a credit (R470). -/
def pickFlit (x : LPort) (q : List Flit) : Option Flit :=
  match q.find? fun f => f.vc != firstVc f.type && hasCredit x f.vc with
  | some f => some f
  | none => q.find? fun f => f.vc == firstVc f.type && hasCredit x f.vc

/-- The class that the slot serves: CTRL, URSP, UREQ, WIN; seven window flits go between two unscheduled ones while both
wait (R470). -/
def slotFlit (x : LPort) : Option Flit :=
  match pickFlit x x.ctrlQ with
  | some f => some f
  | none =>
    let u := match pickFlit x x.urspQ with
      | some f => some f
      | none => pickFlit x x.ureqQ
    let w := pickFlit x x.winQ
    match u, w with
    | some f, none => some f
    | none, v => v
    | some f, some g => if x.winRun < 7 then some g else some f

/-- Take a flit off its queue. -/
def dequeue (f : Flit) (x : LPort) : LPort :=
  let waiting := !x.ureqQ.isEmpty || !x.urspQ.isEmpty
  match f.type with
  | 1 => { x with ctrlQ := x.ctrlQ.erase f }
  | 2 => { x with winQ := x.winQ.erase f, winRun := if waiting then x.winRun + 1 else 0 }
  | 3 => { x with ureqQ := x.ureqQ.erase f, winRun := 0 }
  | _ => { x with urspQ := x.urspQ.erase f, winRun := 0 }

/-- Oldest unacknowledged SEQ; the next SEQ when nothing is outstanding. -/
def oldestSeqOf (x : LPort) : BitVec 16 := match x.unacked with
  | [] => x.txSeq
  | (q, _) :: _ => q

/-- FLIT_SLOT's choice: a replay first, in order and ahead of any new flit; else a new flit while fewer than 8,192 are
unacknowledged (R465, R468, R470). -/
def fillSlot (port : Nat) (s : State) : State :=
  let x := latPort s port
  match x.resend with
  | (q, f) :: rest =>
    if hasCredit x f.vc then
      wire port f q.toNat (noteLoad port (f.type == 2) (updPort port (fun y => { y with
        resend := rest, spent := Tab.upd 0 y.spent f.vc (fun n => n + 1) }) s))
    else s
  | [] =>
    if 8192 ≤ (x.txSeq - oldestSeqOf x).toNat then s
    else match slotFlit x with
      | none => s
      | some f =>
        let y := dequeue f x
        let s1 := updPort port (fun _ => { y with
          unacked := y.unacked ++ [(x.txSeq, f)], txSeq := x.txSeq + 1
          spent := Tab.upd 0 y.spent f.vc (fun n => n + 1)
          progress := if x.unacked.isEmpty then s.clk.wallPs else y.progress }) s
        wire port f x.txSeq.toNat (noteLoad port (f.type == 2) s1)

/-! ### Port states (R457, R488) -/

/-- A port enters RETRAINING: link-layer state is kept (R457). -/
def retrainPort (port : Nat) (s : State) : State :=
  if portUp s port then
    countUp 0x0407 port (updPort port (fun x => { x with state := 3, replays := 0 }) s)
  else s

/-- Replay from a SEQ on; the eighth in a row from one oldest SEQ retrains the port (R468). -/
def replayFrom (port : Nat) (e : BitVec 16) (s : State) : State :=
  let x := latPort s port
  let back := (e - oldestSeqOf x).toNat
  if x.unacked.isEmpty ∨ x.unacked.length ≤ back then s
  else
    let s1 := countUp 0x0403 port (updPort port (fun y => { y with
      resend := y.unacked.drop back, replays := y.replays + 1, progress := s.clk.wallPs }) s)
    if 8 ≤ x.replays + 1 then retrainPort port (updPort port (fun y => { y with resend := y.unacked }) s1) else s1

/-- An acknowledgement (R467). -/
def takeAck (port : Nat) (a : BitVec 16) (s : State) : State :=
  let x := latPort s port
  let old := oldestSeqOf x
  if (a - old).toNat < 8192 then
    let n := (a - old).toNat + 1
    let left := x.unacked.drop n
    updPort port (fun y => { y with
      unacked := left, resend := y.resend.filter fun r => left.any fun l => l.1 == r.1
      progress := s.clk.wallPs, replays := 0 }) s
  else countUp 0x0404 port s

/-- What every flit's header delivers: credits and an acknowledgement. -/
def takeHeader (h : FlitHdr) (s : State) : State :=
  let s1 := updPort h.port (fun x => { x with spent := Tab.upd 0 x.spent h.cvc (fun n => n - h.crd) }) s
  if h.ackv then takeAck h.port h.ack s1 else s1

/-- An armed injection fails the CRC of a flit received on its port: it is discarded and counted (Table 19.13, R466). -/
def crcInjected (h : FlitHdr) (s : State) : Option State :=
  if injectHits s 5 h.port then some (countUp 0x0402 h.port (injectDone s)) else none

/-- The corrected symbols of a flit count on its port (R492). -/
def noteCorrected (h : FlitHdr) (s : State) : State :=
  if h.corrected = 0 then s else countBy 0x0406 h.port h.corrected s

/-- A flit without SEQ (IDLE, NAK) arrives on an UP port. -/
def rxBare (h : FlitHdr) (act : State → State) (s0 : State) : State :=
  if !portUp s0 h.port then s0
  else
    let s := noteCorrected h s0
    match crcInjected h s with
    | some t => t
    | none => act (takeHeader h s)

/-- A flit with a SEQ arrives: accepted in order, and then `act` follows; ahead of the expected SEQ it is discarded and one
NAK is sent per value; behind it is a duplicate (R466, R469). -/
def rxFlit (h : FlitHdr) (act : State → State) (s : State) : State :=
  rxBare h (fun s =>
    let x := latPort s h.port
    let d := (h.seq - x.expected).toNat
    let s1 := updPort h.port (fun y => { y with owed := Tab.upd 0 y.owed h.vc (fun n => n + 1) }) s
    if d = 0 then
      act (updPort h.port (fun y => { y with
        expected := y.expected + 1, accepted := true, nakSent := none, ackDue := true }) s1)
    else if d < 32768 ∧ x.nakSent ≠ some x.expected then
      wireBare h.port 5 (updPort h.port (fun y => { y with nakSent := some x.expected }) s1)
    else s1) s

/-- A CTRL flit's message: the first of a flit comes with its header, later ones without (R464). -/
def rxCtrl (h : Option FlitHdr) (port : Nat) (act : State → State) (s : State) : State := match h with
  | some x => rxFlit { x with port := port } act s
  | none => if portUp s port then act s else s

/-! ### Failed links and lost modules (R488) -/

/-- Ports that a module of the shape uses. -/
def usedPorts (c : LatConfig) (m : Nat) : List Nat := (rangeFrom 0 12).filter fun p => (c.farOf m p).isSome

/-- Every configured link of a module has been reported failed. -/
def allFailed (s : State) (m : Nat) : Bool :=
  let ps := usedPorts s.lat.cfg m
  !ps.isEmpty && ps.all fun p => s.lat.failed.contains (m, p)

/-- Both ends of the link at a port of a module. -/
def linkEnds (s : State) (m port : Nat) : List (Nat × Nat) :=
  (m, port) :: match s.lat.cfg.farOf m port with
    | some n => [(n, s.lat.cfg.farPort m port)]
    | none => []

/-- Neighbours of a module. -/
def neighboursOf (c : LatConfig) (m : Nat) : List Nat := ((usedPorts c m).filterMap fun p => c.farOf m p).eraseDups

/-- A module is lost: it leaves every count, its FLOOD record is discarded, and its live neighbour with the lowest number
tells the others (R475, R488, R601). -/
def declareLost (m : Nat) (s : State) : State :=
  if s.lat.lost.contains m ∨ m = self s then s
  else
    let s1 := mpEvent 0x8004 5 m 0 { s with lat := { s.lat with
      lost := m :: s.lat.lost
      members := s.lat.members.filter (fun x => x != m), joiners := s.lat.joiners.filter (fun x => x != m)
      treqs := Tab.set 0 s.lat.treqs m 0, arrivals := s.lat.arrivals.filter (fun a => a.from_ != m)
      floods := s.lat.floods.filter (fun e => e.1 % 1024 != m)
      arriveSent := s.lat.arriveSent && coordinator s != some m } }
    let near := (neighboursOf s.lat.cfg m).filter fun n => !(s.lat.lost.contains n)
    if allFailed s m && leastOf near == some (self s) then floodOwn cLost (put m 32 10) s1 else s1

/-- Judge every module whose links may all have failed. -/
def judgeLost (ms : List Nat) (s : State) : State :=
  ms.foldl (fun t m => if allFailed t m then declareLost m t else t) s

/-- A link of a module is reported failed. -/
def noteFailed (m port : Nat) (s : State) : State :=
  let es := linkEnds s m port
  judgeLost (es.map fun e => e.1) { s with lat := { s.lat with
    failed := (es.filter fun e => !s.lat.failed.contains e) ++ s.lat.failed } }

/-- A link is reported restored. -/
def noteRestored (m port : Nat) (s : State) : State :=
  let es := linkEnds s m port
  { s with lat := { s.lat with failed := s.lat.failed.filter fun e => !es.contains e } }

/-- Body of LINK_FAIL (Table 14.9). -/
def linkFailBody (s : State) (port : Nat) (up : Bool) : Nat :=
  put ((s.lat.cfg.farOf (self s) port).getD 0x3FF) 32 10 + put port 42 4 + put (flag up) 46 1

/-- A port becomes FAILED: its replay buffer and queues are discarded and LINK_FAIL is flooded (R457, R468, R488). -/
def failPort (port : Nat) (s : State) : State :=
  let s1 := updPort port (fun x => { LPort.reset with
    state := 4, failedAt := if x.failedAt = 0 then s.clk.wallPs + 1 else x.failedAt, fresh := true, loadFrame := x.loadFrame }) s
  let s2 := blockFault 0x8002 5 port none (latEndpoint port) s1
  noteFailed (self s) port (floodOwn cLinkFail (linkFailBody s port false) s2)

/-- The widest width of Table 14.1 whose lanes are all good. -/
def widthOf (g : BitVec 8) : Nat :=
  let x := g.toNat
  if x = 255 then 8
  else if bits x 0 4 = 15 ∨ bits x 4 4 = 15 then 4
  else if (rangeFrom 0 4).any (fun i => bits x (2 * i) 2 == 3) then 2
  else 0

/-- The announcement at the end of training (Table 14.9). -/
def linkIdBytes (s : State) (port : Nat) : Nat :=
  ctrlBytes s cLinkId 0 (put s.lat.cfg.domain 32 16 + put port 48 4 + put s.lat.cfg.shape 52 2)

/-- Enabled ports have left TRAINING. -/
def trainingOver (s : State) : Bool := (rangeFrom 0 12).all fun p => (latPort s p).state != 1

/-- The ports of the configuration start training: every enabled port that the shape uses (R490). -/
def trainPorts (s : State) : State :=
  let c := s.lat.cfg
  let fresh (p : Nat) : LPort :=
    if c.portEn.getLsbD p && (c.farOf c.module p).isSome then { LPort.reset with state := 1 } else LPort.reset
  { s with lat := { s.lat with port := Tab.updAll LPort.reset s.lat.port (rangeFrom 0 12) fun p _ => fresh p } }

/-- This module asks to join its barrier group (R476). -/
def joinGroup (s : State) : State :=
  if s.lat.cfg.group = 0 then { s with lat := { s.lat with standing := .out } }
  else if s.fw.vet = 1 then s
  else floodOwn cJoin (put (2 ^ 48 - 1) 32 48) { s with lat := { s.lat with standing := .joining } }

/-- The restriction of an unvetted combination has lifted: a module outside its group asks to join again (R379, R486). -/
def rejoinGroup (s : State) : State :=
  if s.lat.standing = .out ∧ s.lat.cfg.group ≠ 0 ∧ s.fw.vet ≠ 1 ∧ s.boot.ready then joinGroup s else s

end Sys2Proof.Machine
end

