-- ==== Sys2Proof/Machine/Frames.lean ====
section
/-! DEFINITION. Frame boundaries: ends of frames and runs, parks and resumes, binds and unbinds, partition resets,
candidates and admission (R60 to R66, R96 to R99, R112, R129 to R135, R570). -/

namespace Sys2Proof.Machine

/-! ### Ends of runs -/

/-- The run ends: its item is to complete with the status, unless its function was reset (R334, R341). -/
def endRun (r : Run) (status : Nat) (s : State) : State :=
  if r.dropped then s
  else
    endOutst r.fn r.ring r.ticket
      ⟨status, r.result.toNat, r.oor.toNat + put (r.runFrame + 1) 32 32, r.poisoned, frameNumber s⟩ s

/-- Remove the executing run. -/
def clearRun (k : Nat) (s : State) : State := updPart k (fun p => { p with run := none, yielding := false }) s

/-- Reserved ticks after the end of a run's frame are not kept (R235, R514). -/
def dropWork (k : Nat) (s : State) : State := updPipe k (fun _ => Pipe.empty) s

/-- The executing run goes on in another frame. -/
def nextFrame (k variant frame : Nat) (yields : Bool) (s : State) : State :=
  let ended := (boundImage s (part s k)).bind fun im => currentPattern im (part s k)
  updPart k (fun p => { p with
    yielding := yields
    run := p.run.map fun r => { r with
      variant := variant, frame := frame, runFrame := r.runFrame + 1, choice := .pending
      past := (ended.toList ++ r.past).take 16 } }) s

/-- A variant starts, or the frame budget ends the run (R99, R115). -/
def startVariant (k : Nat) (im : Image) (r : Run) (n : Nat) (yields : Bool) (s : State) : State :=
  if r.runFrame + 1 ≥ im.hdr.budget then clearRun k (endRun r stFrameBudget s)
  else nextFrame k n 0 yields s

/-- The frame that a run executed ends: breach, budget, successor or the next frame of the variant (R96 to R99,
R112, R115). -/
def endFrame (k : Nat) (im : Image) (r : Run) (s : State) : State :=
  let yields := im.isYield r.variant r.frame
  match r.breach with
  | some st => dropWork k (clearRun k (endRun r st s))
  | none =>
    match lastFrameOf im r with
    | none =>
      if r.runFrame + 1 ≥ im.hdr.budget then clearRun k (endRun r stFrameBudget s)
      else nextFrame k r.variant (r.frame + 1) yields s
    | some v =>
      if !v.chosen then
        if v.next = 8 then clearRun k (endRun { r with result := 0 } (runStatus r) s)
        else startVariant k im r v.next yields s
      else
        let s1 := if r.choice = .pending then branchNow k im v s else s
        match (part s1 k).run with
        | none => s1
        | some q => match q.choice with
          | .ends => clearRun k (endRun q (runStatus q) s1)
          | .variant n => startVariant k im q n yields s1
          | _ => clearRun k (endRun q stBranchFault s1)

/-! ### Parks, resumes, binds, unbinds, resets -/

/-- The setting in force is below the image's floor (R60). -/
def belowFloor (s : State) (im : Image) : Bool := !aboveFloor s.clk.setting (floorOf im)

/-- The partition parks on this boundary: its frozen state stays, its pseudo-channels turn autonomous (R60 to R62). -/
def parkPart (k : Nat) (im : Image) (s : State) : State :=
  hbmPark (im.pcs) (updPart k (fun p => { p with
    parked := true, yielding := false, prep := false, debtBreach := false, rejoin := im.hdr.lattice }) s)

/-- 16 consecutive frames have been permitted: the boundary that begins the first of them and the one that ends each (R89). -/
def permitted : Nat := 17

/-- The conditions of a resume at this boundary (R64, R89), apart from the preparation frame. -/
def resumeOk (s : State) (p : Part) (im : Image) : Bool :=
  !belowFloor s im && decide (p.okSince + 65536 ≤ s.clk.tick.toNat) && p.permitFrames == permitted &&
  !p.resetPend && p.unbinding.isNone && !p.rejoin && (decide (p.idleState ≤ 1) || p.exiting)

/-- The conditions could hold at the next boundary: a preparation frame begins when every debt is zero (R64); a partition
that waits to rejoin begins it before a barrier boundary (R486). -/
def prepareOk (s : State) (p : Part) (im : Image) : Bool :=
  !belowFloor s im && decide (p.okSince + 61440 ≤ s.clk.tick.toNat) && decide (permitted ≤ p.permitFrames + 1) &&
  imageDebtZero s im && !p.resetPend && p.unbinding.isNone && (decide (p.idleState ≤ 1) || p.exiting) &&
  (!p.rejoin || (frameNumber s % 256 == 255 && barrierArmed s))

/-- A parked partition at a boundary: it resumes after a good preparation frame, or begins one, or waits (R64,
R67). -/
def parkedBoundary (k : Nat) (im : Image) (s : State) : State :=
  let p := part s k
  if p.prep && resumeOk s p im then
    hbmSchedule im.pcs (updPart k (fun q => { q with parked := false, prep := false }) s)
  else if prepareOk s p im then hbmPrepare im.pcs (updPart k (fun q => { q with prep := true }) s)
  else
    let s1 := if p.prep then hbmUnprepare im.pcs s else s
    updPart k (fun q => { q with prep := false }) s1

/-- Compressors of the Lattice ports inside a rectangle return to MODE 0 with nothing pending (R191, R201). -/
def resetComps (rc : Rect) (s : State) : State :=
  let own := (rangeFrom 0 24).filter fun c => rc.hasPort (c / 2)
  { s with comp := Tab.updAll Comp.reset s.comp own fun _ _ => Comp.reset }

/-- QUIESCE to every tile of a partition that is out of reset (R234). -/
def quiesce (k : Nat) (s : State) : State :=
  ((rect s k).tiles.filter fun t => (tileAt s t).trst).foldl (fun u t => sendTile t mQuiesce 0 0 0 u)
    (updPart k (fun p => { p with quiesceAt := s.clk.wallPs + 1 }) s)

/-- All runs of a partition end with a status: a breach status prevails, and a dropped run has no completion
(R131, R570, R580). -/
def endAllRuns (k status : Nat) (s : State) : State :=
  let p := part s k
  let rs := p.run.toList ++ p.suspended
  updPart k (fun q => { q with run := none, suspended := [], yielding := false })
    (rs.foldl (fun t r => endRun r (r.breach.getD status) t) s)

/-- The Urgent and Standard rings, in the order of R134: port 0 by function, then port 1. -/
def runRings : List (Nat × Nat) := (rangeFrom 0 65).flatMap fun f => [(f, 0), (f, 1)]

/-- The oldest item of a ring when it is a candidate on this boundary tick: doorbell at least 2,048 ticks ago, all
units held, and consumable (R132, R326 to R328). -/
def candidate (s : State) (fn ring : Nat) : Option Nat :=
  let r := ringOf s fn ring
  match consumable s fn ring with
  | none => none
  | some x =>
    if itOpcode x = 0x01 then none
    else
      let seen := r.bells.any fun b => decide (itUnits x ≤ (b.1 - r.head).toNat) &&
        decide (b.2 + 2048 ≤ s.clk.tick.toNat)
      if seen && (itOpcode x != 0x10 || (r.headBufs x).isSome) then some x else none

/-- Every candidate item that names a slot completes with IMAGE_UNAVAILABLE (R132, R570). -/
def rejectNaming (sl : Nat) (s : State) : State :=
  runRings.foldl (fun t fr => match candidate t fr.1 fr.2 with
    | some x => if itOpcode x = 0x10 ∧ runSlot x = sl then rejectHead fr.1 fr.2 x stImageUnavailable t else t
    | none => t) s

/-- The image leaves the partition: slot VALID, pipelines, hold buffers and recorded rows discarded, pseudo-channels
autonomous; the pending windows of its ports are discarded, and its tiles' maps lose their HALF entries (R71, R131, R201, R258,
R481). -/
def detach (k : Nat) (s : State) : State :=
  match (part s k).slot with
  | none => s
  | some n =>
    let im := (slot s n).image
    let s := { s with lat := { s.lat with store := s.lat.store.filter fun w => !(rect s k).hasPort w.port } }
    let s1 := lanesFor (rect s k) none (resetComps (rect s k) (hbmRelease im.pcs (setSlot n { slot s n with state := .valid } s)))
    setPart k { (part s1 k) with
      slot := none, unbinding := none, resetPend := false, parked := false, held := false, holdPend := false
      prep := false, debtBreach := false, rejoin := false, idleFrames := 0, pipe := Pipe.empty } s1

/-- A binding is given up: the slot is VALID again (R580). -/
def cancelBind (k : Nat) (s : State) : State :=
  match (part s k).binding with
  | none => s
  | some (n, _) =>
    lanesFor (rect s k) none (hbmRelease (slot s n).image.pcs
      (updPart k (fun p => { p with binding := none, prep := false, resetPend := false })
        (setSlot n { slot s n with state := .valid } s)))

/-- The reset of a partition takes effect (R570). -/
def resetEffect (k : Nat) (s : State) : State :=
  let s1 := cancelBind k s
  match (part s1 k).slot with
  | none => updPart k (fun p => { p with resetPend := false }) s1
  | some n => detach k (quiesce k (rejectNaming n (endAllRuns k stPartitionReset s1)))

/-- An accepted unbind takes effect: items naming the slot complete; with FORCE, and where the partition is parked and so
never resumes, the runs end and the frozen state is discarded (R64, R71, R131, R132). -/
def unbindEffect (k : Nat) (s : State) : State :=
  match (part s k).slot, (part s k).unbinding with
  | some n, some force =>
    let s1 := if force || (part s k).parked then quiesce k (endAllRuns k stUnbind s) else s
    detach k (rejectNaming n s1)
  | _, _ => s

/-- The unbind can take effect on this boundary: no run is left, or FORCE or a park lets none go on (R71, R131). -/
def unbindDue (p : Part) : Bool := match p.unbinding with
  | none => false
  | some force => force || p.parked || (p.run.isNone && p.suspended.isEmpty)

/-- The bind takes effect: the partition starts the idle frame, parked when the setting is below the floor or a stack
does not permit the class (R130). -/
def bindEffect (k : Nat) (s : State) : State :=
  match (part s k).binding with
  | none => s
  | some (n, _) =>
    let im := (slot s n).image
    let bad := belowFloor s im || !imagePermitted s im
    let s1 := loadMirrors (rect s k) im.paramLines (resetComps (rect s k) (setSlot n { slot s n with state := .bound } s))
    let s2 := updPart k (fun p => { p with
      slot := some n, binding := none, prep := false, parked := bad, ptick := s.clk.tick.toNat, pipe := Pipe.empty
      okSince := if belowFloor s im then s.clk.tick.toNat else 0
      permitFrames := if imagePermitted s im then permitted else 0
      rejoin := bad && im.hdr.lattice }) s1
    if bad then hbmUnprepare im.pcs s2 else hbmSchedule im.pcs s2

/-- Stacks of a partition (R104). -/
def partStacks (s : State) (k : Nat) : List Nat := (rangeFrom 0 8).filter (rect s k).hasStack

/-- The stacks of a list leave self-refresh. -/
def leaveRefresh (ks : List Nat) (s : State) : State :=
  ks.foldl (fun t j =>
    if (stackOf t j).selfRefresh then
      emitAll ((rangeFrom (32 * j) 32).map fun pc => .dram pc 4 0) (updStack j (fun z => { z with selfRefresh := false }) t)
    else t) s

/-- An exit starts: the stacks leave self-refresh; an entry into PARKED whose boundary has not come is cancelled (R542,
R552). -/
def startExit (k : Nat) (s : State) : State :=
  let p := part s k
  if p.idleState = 0 ∨ p.exiting then s
  else leaveRefresh (partStacks s k) (updPart k (fun q => { q with
    exiting := true, idleState := if q.idleState = 2 && !q.parked then 1 else q.idleState }) s)

/-- Gate or ungate the clusters of tiles (R230). -/
def setGate (ts : List Nat) (on : Bool) (s : State) : State :=
  { s with tiles := { s.tiles with tile := Tab.updAll Tile.reset s.tiles.tile ts fun _ t => { t with gated := on } } }

/-- A binding at a boundary: after a preparation frame that began after acceptance with zero debt the bind takes
effect; otherwise a preparation frame begins, in which the tiles receive the HALF entries that the image needs; stacks in self-refresh leave it first (R87, R130,
R258, R541). -/
def bindBoundary (k : Nat) (s : State) : State :=
  match (part s k).binding with
  | none => s
  | some (n, _) =>
    let im := (slot s n).image
    if (part s k).prep then bindEffect k s
    else if (part s k).exiting then s
    else if (part s k).idleState = 3 then startExit k s
    else if imageDebtZero s im then lanesFor (rect s k) (some im) (hbmPrepare im.pcs (updPart k (fun p => { p with prep := true }) s))
    else s

/-- The rectangles of a partition change: it starts ACTIVE, and the stacks it had leave self-refresh (R541). -/
def reshape (k : Nat) (rc : Rect) (s : State) : State :=
  if rect s k = rc then s
  else
    let s1 := leaveRefresh (partStacks s k) (updPart k (fun p => { p with idleState := 0, idleFrames := 0, exiting := false }) s)
    setGate rc.tiles false { s1 with layout := Tab.set ⟨0, 0, 0, 0⟩ s1.layout k rc }

/-- An accepted layout takes effect (R129). The tiles outside every partition are gated (R540). -/
def layoutBoundary (s : State) : State :=
  match s.layoutPend with
  | none => s
  | some l =>
    let s1 := (rangeFrom 0 4).foldl (fun t k => reshape k (l[k]?.getD ⟨0, 0, 0, 0⟩) t) { s with layoutPend := none }
    setGate ((rangeFrom 0 16).filter fun t => (partOf s1 (cornerRouter t)).isNone) true s1

/-- Per partition: the frame that ended (of a parked one only a run whose function was reset ends, R341), then reset, unbind, bind, hold, park or resume (R60, R112, R116, R133). -/
def boundaryPart (k : Nat) (s : State) : State :=
  let p0 := part s k
  let s1 := match p0.run, boundImage s p0 with
    | some r, some im =>
      if !p0.parked then endFrame k im r s
      else if r.dropped then dropWork k (clearRun k s) else s
    | _, _ => s
  let s2 := updPart k (fun p => { p with
    held := p.held || p.holdPend, holdPend := false
    lastPattern := if p0.parked then none else (boundImage s p0).bind fun im => currentPattern im p0
    suspended := p.suspended.filter fun r => !r.dropped }) s1
  if (part s2 k).resetPend then resetEffect k s2
  else if unbindDue (part s2 k) then unbindEffect k s2
  else
    let p := part s2 k
    match boundImage s2 p with
    | none => bindBoundary k s2
    | some im =>
      let ok := imagePermitted s2 im
      let s3 := updPart k (fun q => { q with
        permitFrames := if ok then min permitted (q.permitFrames + 1) else 0
        okSince := if belowFloor s2 im then s2.clk.tick.toNat + 1 else q.okSince }) s2
      if p.parked then parkedBoundary k im s3
      else if belowFloor s3 im || !ok || p.debtBreach || (p.idleState == 2 && !p.exiting) then parkPart k im s3
      else s3

/-! ### Candidates and the choice -/

/-- Every host transfer record of an image is covered by the buffer list (R320). -/
def bufsCover (im : Image) (bufs : List BufEntry) : Bool :=
  im.host.all fun h => match bufs[h.buf]? with
    | none => false
    | some b => decide (h.offset + 64 * (h.beatsM1 + 1) ≤ b.len) && (if h.dir = 0 then b.rd else b.wr)

/-- A slot that a RUN item may name (R132). -/
def slotUsable (st : SlotState) : Bool := match st with
  | .binding | .bound | .unbinding => true
  | _ => false

/-- The candidates of one ring that complete at this boundary: malformed or misnumbered items, an unusable slot, a
missing right, an uncovered buffer list (R132, R317, R318, R320, R395). -/
def screenRing (s : State) (fr : Nat × Nat) : State :=
  let (fn, ring) := fr
  match candidate s fn ring with
  | none => s
  | some x =>
    match badHead s fn ring x with
    | some st => rejectHead fn ring x st s
    | none =>
      let sl := slot s (runSlot x)
      let r := ringOf s fn ring
      if !winSlot s fn (runSlot x) 1 then rejectHead fn ring x stImageUnavailable (violation fn 3 s)
      else if !slotUsable sl.state then rejectHead fn ring x stImageUnavailable s
      else if !r.seenFirst && !bufsCover sl.image ((r.headBufs x).getD []) then rejectHead fn ring x stBadBuffer s
      else updRing fn ring (fun q => { q with seenFirst := true }) s

/-- An entity that a boundary may choose (R133). -/
inductive Entity
  | yielding
  | suspended (i : Nat)
  | item (fn ring : Nat)
  deriving DecidableEq, Repr

/-- An entity with its rank: class, ring, kind, admission order (R134). -/
structure Ranked where
  ent : Entity
  cls : Nat
  ring : Nat
  kind : Nat
  order : Nat
  deriving DecidableEq, Repr

/-- Rank comparison of R134, keys 1 to 3. -/
def Ranked.before (a b : Ranked) : Bool :=
  decide (a.cls < b.cls) || (a.cls == b.cls && (decide (a.ring < b.ring) || (a.ring == b.ring &&
    (decide (a.kind < b.kind) || (a.kind == b.kind && decide (a.order < b.order))))))

/-- Keys 1 to 3 are equal: new items that still tie (R134). -/
def Ranked.ties (a b : Ranked) : Bool := a.cls == b.cls && a.ring == b.ring && a.kind == b.kind

/-- The first of a list by rank. -/
def bestOf : List Ranked → Option Ranked
  | [] => none
  | a :: t => match bestOf t with
    | none => some a
    | some b => if b.before a then some b else some a

/-- The lowest context that no run of the partition uses (R133). -/
def freeContext (p : Part) (im : Image) : Option Nat :=
  (rangeFrom 0 im.hdr.contexts).find? fun c =>
    !((p.run.toList ++ p.suspended).any fun r => r.ctx == c)

/-- The items that may start in a partition: candidates naming its slot whose checks passed, while a context is
free. -/
def newItems (s : State) (k n : Nat) (im : Image) : List (Nat × Nat) :=
  if (slot s n).state != .bound || (freeContext (part s k) im).isNone then []
  else runRings.filter fun fr => match candidate s fr.1 fr.2 with
    | none => false
    | some x => itOpcode x == 0x10 && runSlot x == n && (ringOf s fr.1 fr.2).seenFirst

/-- The partition is open on this boundary (R133, R139). -/
def isOpen (p : Part) : Bool :=
  !p.parked && !p.held && p.idleState == 0 && !p.exiting && (p.run.isNone || p.yielding)

/-- A partition bound to an image with LATTICE = 1 is open only on frames whose fabric frame is a multiple of
2^ALIGN_LOG2, while its module is in good standing, and not while it waits to rejoin (R378, R485, R486). -/
def latticeOpen (s : State) (p : Part) (im : Image) : Bool :=
  !im.hdr.lattice || (s.lat.standing == .good && !p.rejoin &&
    fabricFrame s % 2 ^ s.lat.policy.align == 0)

/-- The entities of a partition with their ranks. -/
def entities (s : State) (p : Part) (items : List (Nat × Nat)) : List Ranked :=
  (match p.run with
    | some r => [⟨.yielding, (fnOf s r.fn).cls, r.ring, 0, 0⟩]
    | none => []) ++
  ((rangeFrom 0 p.suspended.length).filterMap fun i => (p.suspended[i]?).map fun r =>
    ⟨.suspended i, (fnOf s r.fn).cls, r.ring, 1, r.admitted⟩) ++
  items.map fun fr => ⟨.item fr.1 fr.2, (fnOf s fr.1).cls, fr.2, 2, 0⟩

/-- The run that an item starts (R73, R133). -/
def newRun (s : State) (fn ring x n ctx : Nat) (bufs : List BufEntry) : Run :=
  { fn := fn, ring := ring, ticket := s.rings.next, seq := itSeq x, user := itUser x, silent := itSilent x, gen := s.win.gen, slot := n
    ctx := ctx, variant := 0, frame := 0, runFrame := 0, past := [], choice := .pending, result := 0, oor := 0, bufs := bufs
    hostData := [], hostLate := false, hostAbort := false, poisoned := false, breach := none, dropped := false
    lateNoted := false, admitted := frameNumber s }

/-- The executing run gives way: it is suspended (R133). -/
def suspend (p : Part) : Part :=
  { p with run := none, suspended := p.suspended ++ p.run.toList, yielding := false }

/-- Admit the oldest item of a ring to a partition (R133, R326). -/
def admitRun (k n fn ring : Nat) (im : Image) (s : State) : State :=
  match candidate s fn ring, freeContext (part s k) im with
  | some x, some c =>
    let run := newRun s fn ring x n c (((ringOf s fn ring).headBufs x).getD [])
    let s1 := consume fn ring x s
    let s2 := { s1 with logs := { s1.logs with
      recentRuns := (⟨fn, ring, itSeq x⟩ :: s1.logs.recentRuns).take 16 } }
    updPart k (fun p => { (suspend p) with run := some run }) s2
  | _, _ => s

/-- Choose for one partition whose slot is BOUND and which is open; on any other boundary a yielding run stays current (R133,
R134, R139). -/
def choose (k : Nat) (s : State) : State :=
  let p := part s k
  match p.slot with
  | none => s
  | some n =>
    let im := (slot s n).image
    if (slot s n).state != .bound || !isOpen p || !latticeOpen s p im then updPart k (fun q => { q with yielding := false }) s
    else
      let items := newItems s k n im
      match bestOf (entities s p items) with
      | none => s
      | some b => match b.ent with
        | .yielding => updPart k (fun q => { q with yielding := false }) s
        | .suspended i =>
          match p.suspended[i]? with
          | none => s
          | some r => updPart k (fun q =>
              let q1 := suspend { q with suspended := q.suspended.eraseIdx i }
              { q1 with run := some r }) s
        | .item _ _ =>
          let ties := items.filter fun fr => (⟨.item fr.1 fr.2, (fnOf s fr.1).cls, fr.2, 2, 0⟩ : Ranked).ties b
          match swrr ties s with
          | (some w, s1) => admitRun k n w.1 w.2 im s1
          | (none, s1) => s1

/-- A group setting takes effect on the boundary tick of frame EFFECTIVE (R477). -/
def groupBoundary (s : State) : State := match s.lat.tset with
  | none => s
  | some (x, e) => if stampNow s = e then applySetting x { s with lat := { s.lat with tset := none } } else s

/-- A window that a record of the frame now beginning consumes: on time when it is complete in the store on this tick.
Otherwise it is late: its flits are discarded, it counts, the run ends at the next boundary with data-path status, and one
entry is written per run (R480, R481, R483, R484). -/
def judgeWindow (k : Nat) (s : State) (r : LatRec) : State :=
  let stamp := stampNow s - BitVec.ofNat 32 r.bound
  let mine (w : StoredWin) : Bool := w.port == r.port && w.src == r.peer && w.stamp == stamp
  let rest := s.lat.store.filter fun w => !mine w
  let wire := r.beatsM1 + 1
  let w := (s.lat.store.find? mine).getD ⟨r.port, r.peer, stamp, wire, [], false, false, false⟩
  if !w.failed && w.total == wire && w.beats.length == wire then
    { s with lat := { s.lat with store := { w with judged := true } :: rest } }
  else
    let s1 := if !w.failed && w.total != wire then countUp 0x0502 0 s else s
    let s2 := breach k stDataPath false (countUp 0x0501 0 { s1 with lat := { s1.lat with
      store := { w with beats := [], judged := true, late := true } :: rest } })
    match (part s2 k).run with
    | none => s2
    | some run =>
      if run.lateNoted then s2
      else sendEvent ⟨0x8007, 3, r.port, none, 0x120 + r.port, 0⟩ (updRun k (fun x => { x with lateNoted := true }) s2)

/-- The incoming windows of the frame that a partition begins. -/
def judgeWindows (k : Nat) (s : State) : State :=
  let p := part s k
  if p.parked then s
  else match boundImage s p with
    | none => s
    | some im => match currentPattern im p with
      | none => s
      | some pat => (im.lattice.filter fun r => r.dir == 1 && r.pattern == pat).foldl (judgeWindow k) s

/-- The host reads of the frame that a partition begins are issued with the requester ID of the run's function and the buffer's NS
(R109, R319, R321). DESIGN CHOICE, log entry 13: at the frame's start. -/
def issueReads (k : Nat) (s : State) : State :=
  let p := part s k
  match boundImage s p, p.run with
  | some im, some r =>
    if p.parked || r.dropped then s
    else match currentPattern im p with
      | none => s
      | some pat => emitAll ((im.host.filter fun h => h.dir == 0 && h.pattern == pat).filterMap fun h =>
          (r.bufs[h.buf]?).map fun b => .hostRead r.fn (b.addr + h.offset) (64 * (h.beatsM1 + 1)) b.ns) s
  | _, _ => s

/-- Consecutive frames without a run, executing or suspended (R541). -/
def countIdle (k : Nat) (s : State) : State :=
  updPart k (fun p => { p with idleFrames := if p.run.isNone && p.suspended.isEmpty then p.idleFrames + 1 else 0 }) s

/-- The boundary decisions of the frame that begins on the present tick. -/
def boundary (s : State) : State :=
  let s1 := layoutBoundary (groupBoundary { s with clk := { s.clk with frameDone := true } })
  let s2 := (rangeFrom 0 4).foldl (fun t k => boundaryPart k t) s1
  let s3 := runRings.foldl screenRing s2
  let s4 := (rangeFrom 0 4).foldl (fun t k => choose k t) s3
  let s5 := (rangeFrom 0 4).foldl (fun t k => countIdle k t) s4
  let s6 := (rangeFrom 0 4).foldl (fun t k => judgeWindows k t) s5
  (rangeFrom 0 4).foldl (fun t k => issueReads k t) s6

/-- The next boundary tick, when the present one is done. -/
def nextBoundary (s : State) : Nat := (s.clk.tick.toNat / 4096 + 1) * 4096

/-- Take the boundary decisions of the current frame if they are still due. -/
def settle (s : State) : State := if s.clk.frameDone || !tickRuns s then s else boundary s

/-- Advance to a tick, taking the boundary decisions on the way. -/
def runToLoop : Nat → Nat → State → State
  | 0, _, s => s
  | fuel + 1, target, s =>
    let s1 := settle s
    if target < nextBoundary s1 ∨ s1.clk.held then advanceTo target s1
    else runToLoop fuel target (advanceTo (nextBoundary s1) s1)

/-- Advance to a tick, boundaries included. -/
def runTo (target : Nat) (s : State) : State :=
  runToLoop ((target - s.clk.tick.toNat) / 4096 + 2) target s

end Sys2Proof.Machine
end

