-- ==== Sys2Proof/Machine/StageOps.lean ====
section
/-! DEFINITION. Line accesses of STAGE items: what each served line does to its item and to host memory (R322,
R323). -/

namespace Sys2Proof.Machine

/-- The STAGE item of a function that still runs, by its number. -/
def stageItem (s : State) (fn ticket : Nat) : Option Outst :=
  (ringOf s fn 2).outst.find? fun o => o.ticket == ticket && o.opcode == 0x20 && o.ended.isNone

/-- A change of a running STAGE item, with the instant at which its last line ends. -/
def Outst.step (now ticket : Nat) (f : Outst → Outst) (o : Outst) : Outst :=
  if o.ticket == ticket && o.opcode == 0x20 && o.ended.isNone then
    let x := f o
    if x.left = 0 then { x with doneAt := some (x.doneAt.getD now) } else x
  else o

/-- Change a running STAGE item; one whose function was reset is forgotten with its last line (R341). -/
def updStage (fn ticket : Nat) (f : Outst → Outst) (s : State) : State :=
  let now := s.clk.wallPs
  let s1 := updRing fn 2 (fun r => { r with outst := r.outst.map (Outst.step now ticket f) }) s
  if s1.rings.stray.isEmpty then s1
  else { s1 with rings := { s1.rings with
    stray := (s1.rings.stray.map fun e => (e.1, e.2.step now ticket f)).filter fun e => e.2.doneAt.isNone } }

/-- The first failure in the order of R336: HOST_ABORT, then 0x12 to 0x17 by value. -/
def firstFail (a b : Option Nat) : Option Nat :=
  match a, b with
  | none, y => y
  | x, none => x
  | some x, some y => some (min x y)

/-- One line of an item has been served: bytes moved and a failure. -/
def stageLine (moved : Nat) (fail : Option Nat) (poison : Bool) (o : Outst) : Outst :=
  { o with left := o.left - 1, bytes := o.bytes + moved, fail := firstFail o.fail fail, poison := o.poison || poison }

/-- A line read from the device for a STAGE goes to host memory with the item's NS, as a poisoned TLP when it carries POISON or
comes from an unavailable unit; the transfers of a function reset since are suppressed (R322, R323, R341). -/
def stageRead (fn : Nat) (ticket : Nat) (off : Nat) (d : LineData) (poison : Bool) (fail : Option Nat) (s : State) :
    State :=
  match stageItem s fn ticket with
  | none => s
  | some o =>
    emit (.hostWrite fn (stageHost o.item + off) 64 d.toNat poison (bit1 o.item 131) false) (updStage fn ticket (stageLine 64 fail poison) s)

/-- A line written to the device for a STAGE has taken effect, or was dropped by an unavailable unit (R323, R153). -/
def stageWritten (fn : Nat) (ticket : Nat) (fail : Option Nat) (s : State) : State :=
  updStage fn ticket (stageLine (if fail.isSome then 0 else 64) fail false) s

end Sys2Proof.Machine
end

