-- ==== Sys2Proof/Machine/Control.lean ====
section
/-! DEFINITION. The control network and the slices' control ports (R27, R149, R150, R153, R158 to R169). -/

namespace Sys2Proof.Machine

/-! ### Control packets (R158) -/

/-- The 32-bit payload words of a line, low word first. -/
def lineWords (d : LineData) : List Nat := (rangeFrom 0 16).map fun i => bits d.toNat (32 * i) 32
/-- The response of a slice access: 16 data words for a read, and STATUS (Table 5.6). -/
def sliceAnswer (src tag router status : Nat) (write : Bool) (d : LineData) : Output :=
  .ctlPacket (mkHeader (if write then 6 else 5) 2 (if write then 1 else 17) src (controlNode router) (controlSub router) tag)
    ((if write then [] else lineWords d) ++ [status])

/-! ### The slices' control ports (R149, R150, R153, R169) -/

/-- Queue a control-port request at a slice (R150). -/
def queueCtl (router line : Nat) (write : Bool) (data : LineData) (mask : LineMask) (o : Origin) (s : State) : State :=
  { s with buf := { s.buf with ctlQueue := s.buf.ctlQueue ++ [⟨router, line, write, data, mask, o, s.clk.tick.toNat⟩] } }

/-- The answer of a control-port access reaches whoever asked: a response packet, or the STAGE item that moves the line. -/
def ctlAnswer (o : Origin) (router status : Nat) (write : Bool) (d : LineData) (s : State) : State :=
  match o with
  | .ctl src tag => emit (sliceAnswer src tag router status write d) s
  | .stage fn seq off =>
    let fail := if status = 1 then some stSliceUnavailable else if status = 4 then some 0x17 else none
    if write then stageWritten fn seq fail s else stageRead fn seq off d (status == 1 || status == 3) fail s
  | .pool _ => s

/-- A request that no line access serves: a dead router or a slice in stand-alone test (R153, R169, Table 5.6). DESIGN CHOICE,
log entry 6: a line beyond 767 is answered as an unavailable slice. The data of an unavailable slice is a free value. -/
def ctlRefused (s : State) (router line : Nat) : Option Nat :=
  if !s.fmap.live router || decide (768 ≤ line) then some 1
  else if s.buf.inTest.contains router then some 4
  else none

/-- A control-port request reaches its slice. -/
def ctlArrive (router line : Nat) (write : Bool) (data : LineData) (mask : LineMask) (o : Origin) (s : State) : State :=
  match ctlRefused s router line with
  | some st =>
    let (d, s1) := drawLine s
    ctlAnswer o router st write d s1
  | none => queueCtl router line write data mask o s

/-- A slice access packet that a control node takes: TYPE, LEN and as many words, a node as its destination, and LINE alone in
word 0. A packet with a reserved value is discarded (R8, R158). -/
def sliceAccessOk (h : BitVec 64) (words : List Nat) (type len : Nat) : Bool :=
  packetOk h && pktType h == type && pktLen h == len && words.length == len && decide (pktDest h < 256) &&
  decide (words.head?.getD 0 < 1024)

/-- The router that a packet to a control node addresses. -/
def pktRouter (h : BitVec 64) : Nat := subRouter (pktDest h) (pktSub h)

/-- SLICE_RD: a control-port read of a line arrives (R150, Table 5.6). -/
def execSliceRd (header : BitVec 64) (words : List Nat) (s : State) : Host.Outcome State Fault Refusal :=
  if sliceAccessOk header words 5 1 then
    .next (ctlArrive (pktRouter header) (words.head?.getD 0) false 0 0 (.ctl (pktSrc header) (pktTag header)) s)
  else .next s

/-- SLICE_WR: a control-port write of a line under a byte mask arrives: LINE, the mask in words 1 and 2, data in words 3 to 18
(R150, Table 5.6). -/
def execSliceWr (header : BitVec 64) (words : List Nat) (s : State) : Host.Outcome State Fault Refusal :=
  if sliceAccessOk header words 6 19 then
    let v := wordsValue words
    .next (ctlArrive (pktRouter header) (words.head?.getD 0) true (BitVec.ofNat 512 (bits v 96 512))
      (BitVec.ofNat 64 (bits v 32 64)) (.ctl (pktSrc header) (pktTag header)) s)
  else .next s

/-- The control endpoint that sent a request: a packet's SRC, or the host port of a STAGE item (Table 5.5). -/
def ctlSource (o : Origin) : Nat := match o with
  | .ctl src _ => src
  | .stage fn _ _ => if fn = 64 then 0x114 else 0x111
  | .pool _ => 0x100

/-- A request has been injected: an endpoint has at most 64 requests outstanding, and the others wait in it (Table 5.7). -/
def ctlInjected (s : State) (q : CtlReq) : Bool :=
  ((s.buf.ctlQueue.filter fun r => ctlSource r.origin == ctlSource q.origin).take 64).contains q

/-- The earliest tick at which the port of a slice can take an access that reached it on tick `at_` (R150). -/
def portFree (s : State) (router at_ : Nat) : Nat :=
  let last := Tab.get 0 s.buf.ctlLast router
  if last = 0 then at_ else max at_ (last + 3)

/-- The tick on which an access commits: a free value chooses it, at most 8 ticks after the port can take it (R150). -/
def commitTick (s : State) (router at_ : Nat) : Nat := portFree s router at_ + Config.commitDelay s.free % 9

/-- Ticks pass to a commit tick, and the port notes it. -/
def toCommit (router tick : Nat) (s : State) : State :=
  let s1 := runTo tick { s with free := s.free + 1 }
  { s1 with buf := { s1.buf with ctlLast := Tab.set 0 s1.buf.ctlLast router (s1.clk.tick.toNat + 1) } }

/-- Note a control-port write for the merge rules (R177). -/
def noteControl (router line : Nat) (s : State) : State :=
  match partOf s router with
  | none => s
  | some k => noteWrite k router line 1 (some line) true s

/-- The access itself on its commit tick: a read sees the line as it stood at the end of the tick before, and a write
stands below the tick's scheduled bytes (R81, R150, R168). -/
def commitAccess (q : CtlReq) (s0 : State) : State :=
  let s := if q.write then s0 else injectLine q.router q.line s0
  let (d, bad) := lineBefore s q.router q.line
  let single := singleBefore s q.router q.line
  if q.write then
    let s1 := noteControl q.router q.line (storeLine q.router q.line q.data q.mask false false s)
    ctlAnswer q.origin q.router 0 true 0 s1
  else
    ctlAnswer q.origin q.router (sliceStatus false false bad single) false d
      (countErrors true q.router q.line bad single s)

/-- CONTROL_PORT_COMMIT: the oldest request that has reached a slice commits and its response is sent (R150). -/
def execControlPortCommit (router : Nat) (s : State) : Host.Outcome State Fault Refusal :=
  match s.buf.ctlQueue.find? fun q => q.router == router && ctlInjected s q with
  | none => .next s
  | some q =>
    if !tickRuns s then .next s
    else
      let s1 := { s with buf := { s.buf with ctlQueue := s.buf.ctlQueue.erase q } }
      match ctlRefused s1 router q.line with
      | some st =>
        let (d, s2) := drawLine s1
        .next (ctlAnswer q.origin router st q.write d s2)
      | none => .next (commitAccess q (toCommit router (commitTick s1 router q.arrived) s1))

/-- Bytes of the words of a word mask. -/
def maskOfWords (m : Nat) : LineMask :=
  BitVec.ofNat 64 ((rangeFrom 0 8).foldl (fun a w => a + if bit1 m w then 255 * 256 ^ w else 0) 0)

/-- The line that a scrubber visits next: a queued line first (R163, R165). -/
def scrubLine (s : State) (router : Nat) : Nat × Bool :=
  match s.buf.scrubQueue.find? fun k => k / 768 == router with
  | some k => (k % 768, true)
  | none => (Tab.get 0 s.buf.scrubPos router, false)

/-- Ticks between two visits of a scrubber (R165). -/
def scrubInterval (s : State) : Nat := 2 ^ s.buf.scrubExp

/-- SCRUB_VISIT: one line is read, its correctable words are corrected and written back in the same access, below the
tick's scheduled bytes; poison stays (R165, R167, R173). -/
def execScrubVisit (router : Nat) (s : State) : Host.Outcome State Fault Refusal :=
  if !tickRuns s || !s.fmap.live router || s.buf.inTest.contains router then .next s
  else
    let due := Tab.get 0 s.buf.scrubLast router + scrubInterval s
    let s0 := toCommit router (commitTick s router (max due s.clk.tick.toNat)) s
    let (line, queued) := scrubLine s0 router
    let s1 := injectLine router line s0
    let (d, bad) := lineBefore s1 router line
    let single := singleBefore s1 router line
    let s2 := countErrors true router line bad single s1
    let s3 := if single = 0 then s2 else storeLine router line d (maskOfWords single) false false s2
    .next { s3 with buf := { s3.buf with
      scrubLast := Tab.set 0 s3.buf.scrubLast router s1.clk.tick.toNat
      scrubQueue := s3.buf.scrubQueue.filter fun k => k != sliceLine router line
      scrubPos := if queued then s3.buf.scrubPos else Tab.set 0 s3.buf.scrubPos router ((line + 1) % 768) } }

/-! ### Links, virtual channels and routes (R27, R159 to R161) -/

/-- A control link: node × 4 + direction. -/
def ctlLink (node dir : Nat) : Nat := 4 * node + dir

/-- A packet as it arrives at an output: two header words and its payload. -/
def CtlPkt.arriving (h : BitVec 64) : CtlPkt := ⟨h, pktLen h + 2, 0⟩

/-- The priority at which an output serves a packet: after 2,048 C cycles there one of priority 2 or 3 is served at the next
higher one; its header, and so its priority at the next node, stays (R160). -/
def CtlPkt.served (p : CtlPkt) : Nat :=
  let k := pktPrio p.header
  if 2 ≤ k ∧ 2048 ≤ p.waited then k - 1 else k

/-- The packets that an output may serve: the oldest of each virtual channel (R159, R161). -/
def channelFronts (l : List CtlPkt) : List CtlPkt :=
  (rangeFrom 0 4).filterMap fun k => l.find? fun p => pktPrio p.header == k

/-- Which packet sends the next word: the highest priority served. DESIGN CHOICE, log entry 7: of two served at one priority, the
one that has waited longer. -/
def firstServed (l : List CtlPkt) : Option CtlPkt :=
  (channelFronts l).foldl (fun a p => match a with
    | none => some p
    | some q => if p.served < q.served ∨ (p.served = q.served ∧ q.waited < p.waited) then some p else some q) none

/-- One C cycle of an output: a word of the packet served goes out, so a packet of higher priority overtakes one in transit;
every other packet waits. The header of a packet whose last word went is answered (R159). -/
def outputCycle (l : List CtlPkt) : List CtlPkt × List (BitVec 64) :=
  match firstServed l with
  | none => (l, [])
  | some p =>
    let rest := l.erase p
    let aged := rest.map fun q => { q with waited := q.waited + 1 }
    if p.left ≤ 1 then (aged, [p.header])
    else
      let at_ := (l.takeWhile fun q => q != p).length
      (aged.take at_ ++ [{ p with left := p.left - 1 }] ++ aged.drop at_, [])

/-- A number of C cycles of an output. -/
def outputCycles : Nat → List CtlPkt → List CtlPkt × List (BitVec 64)
  | 0, l => (l, [])
  | n + 1, l =>
    let (l1, a) := outputCycle l
    let (l2, b) := outputCycles n l1
    (l2, a ++ b)

/-- Distances to a control node over links that are not dead, grown from the nodes reached so far. -/
def spreadNodes (dead : List Nat) : Nat → List Nat → Tab Nat → Nat → Tab Nat
  | 0, _, t, _ => t
  | fuel + 1, front, t, d =>
    let new := ((front.flatMap fun n => (rangeFrom 0 4).filterMap fun k =>
      (controlNeighbour n k).filter fun m => !dead.contains (ctlLink m (opposite k)) && Tab.get 0 t m == 0).eraseDups)
    if new.isEmpty then t else spreadNodes dead fuel new (new.foldl (fun a m => Tab.set 0 a m (d + 1)) t) (d + 1)

/-- The alternative route that the MP sets from a node around the dead links. DESIGN CHOICE, log entry 8: the shortest one, its
first link in the order N, E, S, W (R161). -/
def alternativeDir (dead : List Nat) (node dst : Nat) : Option Nat :=
  let t := spreadNodes dead 256 [dst] (Tab.set 0 [] dst 1) 1
  let far (k : Nat) : Option Nat := match controlNeighbour node k with
    | none => none
    | some m => if dead.contains (ctlLink node k) ∨ Tab.get 0 t m = 0 then none else some (Tab.get 0 t m)
  (rangeFrom 0 4).foldl (fun a k => match a, far k with
    | none, some _ => some k
    | some b, some x => if x < (far b).getD 0 then some k else some b
    | b, none => b) none

/-- A packet at the output of a dead link goes by the alternative route of its node pair. -/
def reroute (node dir : Nat) (s : State) (p : CtlPkt) : State :=
  let k := ((endpointNode (pktDest p.header)).bind fun d => alternativeDir s.ctl.dead node d).getD dir
  { s with ctl := { s.ctl with vc := Tab.upd [] s.ctl.vc (ctlLink node k) fun l => l ++ [p] } }

/-- The link is dead: packets at its output are routed around it, in their order (R161). -/
def killLink (node dir : Nat) (s : State) : State :=
  let l := ctlLink node dir
  let s1 := { s with ctl := { s.ctl with
    resends := Tab.set 0 s.ctl.resends l 0, dead := l :: s.ctl.dead, vc := Tab.set [] s.ctl.vc l [] } }
  (Tab.get [] s.ctl.vc l).foldl (fun t p => reroute node dir t p) (blockFault 0x4006 5 node none node s1)

/-- CONTROL_WORD_PARITY_ERROR: the word is resent; after eight consecutive failed resends the link is reported and
routed around (R161). `resend` says that the failing word is itself a resend. -/
def execControlWordParityError (node dir : Nat) (resend : Bool) (s0 : State) : Host.Outcome State Fault Refusal :=
  let l := ctlLink node dir
  if (controlNeighbour node dir).isNone || s0.ctl.dead.contains l then .next s0
  else
    let s := if injectHits s0 6 node then injectDone s0 else s0
    let n := if resend then Tab.get 0 s.ctl.resends l + 1 else 0
    if 8 ≤ n then .next (killLink node dir s)
    else .next (emit (.ctlResend node dir) { s with ctl := { s.ctl with resends := Tab.set 0 s.ctl.resends l n } })

/-- BARRIER packets for the MP, or for all, that reach the MP's node wait in its own queue and are never dropped; the injection
limit keeps them below its 64 entries (R172). -/
def takeBarriers (node dir : Nat) (gone : List (BitVec 64)) (s : State) : State :=
  if controlNeighbour node dir = endpointNode 0x100 then
    { s with ctl := { s.ctl with
      barrierQ := s.ctl.barrierQ ++ gone.filter fun h => pktType h == 2 && (pktDest h == 0x100 || pktDest h == 0xFFF) } }
  else s

/-- PACKET_AGEING: packets arrive at an output of a control node and C cycles pass there, each with one word of the ready channel
of the highest priority; a packet of priority 2 or 3 that has waited 2,048 of them is served at the next higher priority. At the
output of a dead link they take their alternative route (R159 to R161). -/
def execPacketAgeing (node dir : Nat) (arrivals : List (BitVec 64)) (cycles : Nat) (s : State) :
    Host.Outcome State Fault Refusal :=
  let l := ctlLink node dir
  let new := (arrivals.filter packetOk).map CtlPkt.arriving
  if (controlNeighbour node dir).isNone then .next s
  else if s.ctl.dead.contains l then .next (new.foldl (fun t p => reroute node dir t p) s)
  else
    let (q, gone) := outputCycles cycles (Tab.get [] s.ctl.vc l ++ new)
    .next (emitAll (gone.map fun h => .ctlForward node dir h)
      (takeBarriers node dir gone { s with ctl := { s.ctl with vc := Tab.set [] s.ctl.vc l q } }))

/-- A packet as a fault or event packet. -/
def pktOf (p : PktIn) : FaultPkt := ⟨p.reason, p.sev, p.unit, p.detail, p.src, p.sub⟩

/-- The queue of an endpoint has drained by some packets. DESIGN CHOICE, log entry 9: it has drained enough for a held EVENT
packet as soon as it is no longer full; the packet then enters it, with the count of the events lost meanwhile (R162). -/
def drainQueue (endpoint left : Nat) (s : State) : State :=
  let n := Tab.get 0 s.ctl.inject endpoint - left
  let s1 := { s with ctl := { s.ctl with inject := Tab.set 0 s.ctl.inject endpoint n } }
  match Tab.get none s.ctl.heldEvent endpoint with
  | none => s1
  | some p =>
    if 32 ≤ n then s1
    else
      let lost := Tab.get 0 s.ctl.eventsLost endpoint
      let s2 := sendEvent p { s1 with ctl := { s1.ctl with
        heldEvent := Tab.set none s1.ctl.heldEvent endpoint none
        eventsLost := Tab.set 0 s1.ctl.eventsLost endpoint 0 } }
      if lost = 0 then s2 else sendEvent ⟨0x4008, 0, endpoint, some lost, endpoint, 0⟩ s2

/-- TELEMETRY_INJECT: an endpoint injects a TELEMETRY packet, or an EVENT packet; a full queue of 32 drops and counts
the former and holds the latter (R162). `left` packets have left the queue since the last injection. -/
def execTelemetryInject (endpoint left content : Nat) (event : Option PktIn) (s : State) :
    Host.Outcome State Fault Refusal :=
  let s1 := drainQueue endpoint left s
  let n := Tab.get 0 s1.ctl.inject endpoint
  match event with
  | some p => .next (sendEvent { pktOf p with src := endpoint } s1)
  | none =>
    if 32 ≤ n then .next (countUp 0x0701 endpoint s1)
    else .next (emit (.telemetry endpoint content) { s1 with ctl := { s1.ctl with
      inject := Tab.set 0 s1.ctl.inject endpoint (n + 1) } })

end Sys2Proof.Machine
end

