-- ==== Sys2Proof/Machine/ImgParse.lean ====
section
/-! DEFINITION. A Carul image as bytes: header, directory and sections, the checks of their structure, and the parsed
image (R119 to R122, Tables 4.1 to 4.10). -/

namespace Sys2Proof.Machine

/-! ### Violations (R125, Table 4.13) -/

/-- Where a check fails: the locator of a rejection report, all ones where a field does not apply. -/
structure Viol where
  sec : Nat := 0xFF
  variant : Nat := 0xFF
  frame : Nat := 0xFFFFFFFF
  tick : Nat := 0xFFFF
  router : Nat := 0xFFFF
  resource : Nat := 0xFFFF
  deriving DecidableEq, Repr

/-- The key that orders the violations of one check; the section decides only between equal locators. -/
def Viol.key (v : Viol) : List Nat := [v.variant, v.frame, v.tick, v.router, v.resource, v.sec]

/-- Lexicographic order of lists of numbers. -/
def lexLess : List Nat → List Nat → Bool
  | [], [] => false
  | [], _ => true
  | _, [] => false
  | a :: s, b :: t => decide (a < b) || (a == b && lexLess s t)

/-- The smallest violation (R125). -/
def firstViol : List Viol → Option Viol
  | [] => none
  | v :: t => match firstViol t with
    | none => some v
    | some w => if lexLess w.key v.key then some w else some v

/-- The rejection report of Table 4.13. -/
def reportOf (code : Nat) (v : Viol) : Nat :=
  put code 0 8 + put v.sec 8 8 + put v.variant 16 8 + put v.frame 32 32 + put v.tick 64 16 + put v.router 80 16 +
  put v.resource 96 16

/-- The report of an accepted image: every locator field all ones. -/
def reportAccepted : Nat := reportOf 0 {}

/-- A violation unless a condition holds. -/
def unless_ (ok : Bool) (v : Viol) : List Viol := if ok then [] else [v]

/-! ### Bytes -/

/-- Image bytes as a little-endian number with their count. -/
structure Raw where
  x : Nat
  len : Nat
  deriving DecidableEq, Repr

/-- `n` bytes at an offset. -/
def Raw.bytes (r : Raw) (off n : Nat) : Nat := bits r.x (8 * off) (8 * n)

/-- The 1,024 bits of the header. -/
def Raw.header (r : Raw) : Nat := r.bytes 0 128

/-- The named fields of the header (Table 4.1). -/
def headerFields : List (Nat × Nat) :=
  [(0, 32), (32, 16), (48, 16), (64, 32), (96, 16), (112, 1), (128, 128), (256, 8), (264, 8), (272, 8), (280, 8), (288, 3),
   (291, 3), (294, 2), (296, 9), (320, 32), (352, 32), (384, 32), (416, 32), (448, 14), (464, 10), (474, 4), (478, 1),
   (480, 16), (496, 16)]

/-- A directory entry with its index (Table 4.2). -/
structure Sect where
  idx : Nat
  type : Nat
  off : Nat
  size : Nat
  crc : Nat
  rsvd : Nat
  deriving DecidableEq, Repr

/-- SECTIONS. -/
def Raw.count (r : Raw) : Nat := bits r.header 96 16

/-- The directory. -/
def Raw.sects (r : Raw) : List Sect := (rangeFrom 0 r.count).map fun i =>
  let e := r.bytes (128 + 16 * i) 16
  ⟨i, bits e 0 16, bits e 32 32, bits e 64 32, bits e 96 32, bits e 16 16⟩

/-- The section types of Table 4.3. -/
def tPatterns : Nat := 1
def tSlices : Nat := 2
def tVariants : Nat := 3
def tHbm : Nat := 4
def tHost : Nat := 5
def tSprinkle : Nat := 6
def tFold : Nat := 7
def tFaultDep : Nat := 8
def tTileReq : Nat := 9
def tLattice : Nat := 10
def tMasks : Nat := 11
def tTrain : Nat := 12

/-- The directory entry of a type. -/
def Raw.sect (r : Raw) (type : Nat) : Option Sect := r.sects.find? fun e => e.type == type

/-- The directory index of a type: the SECTION field of a report. -/
def Raw.secOf (r : Raw) (type : Nat) : Nat := match r.sect type with
  | some e => e.idx
  | none => 0xFF

/-- The bytes of a section; an absent section is empty. -/
def Raw.part (r : Raw) (type : Nat) : Raw := match r.sect type with
  | some e => ⟨r.bytes e.off e.size, e.size⟩
  | none => ⟨0, 0⟩

/-- Offsets of records that follow one another to the end of a section, each as long as its own fields say; none where
the last does not end with the section. -/
def seqRecs (size : Nat) (lenAt : Nat → Nat) : Nat → Nat → Option (List Nat)
  | 0, off => if off = size then some [] else none
  | n + 1, off =>
    if off = size then some []
    else if size < off + lenAt off then none
    else (seqRecs size lenAt n (off + lenAt off)).map fun l => off :: l

/-- The records of a section, with fuel for the shortest record of 4 bytes. -/
def Raw.recs (r : Raw) (lenAt : Nat → Nat) : Option (List Nat) := seqRecs r.len lenAt (r.len / 4 + 1) 0

/-- Offsets of records of a fixed length. -/
def Raw.fixed (r : Raw) (n : Nat) : List Nat := (rangeFrom 0 (r.len / n)).map fun i => n * i

/-- A list rises, strictly or not. -/
def rising (strict : Bool) : List Nat → Bool
  | a :: b :: t => (if strict then decide (a < b) else decide (a ≤ b)) && rising strict (b :: t)
  | _ => true

/-- The largest of a list of ends. -/
def maxEnd : List Nat → Nat
  | [] => 0
  | a :: t => max a (maxEnd t)

/-! ### Raw records -/

/-- Number of frame patterns. -/
def Raw.patterns (r : Raw) : Nat := bits r.header 496 16
/-- Number of variants. -/
def Raw.variants (r : Raw) : Nat := bits r.header 288 3 + 1

/-- The directory word of pattern i: list offset and router count. -/
def patWord (p : Raw) (i : Nat) : Nat := p.bytes (8 * i) 8
/-- The router entries of pattern i. -/
def patRouters (p : Raw) (i : Nat) : List Nat :=
  (rangeFrom 0 (bits (patWord p i) 32 16)).map fun j => p.bytes (bits (patWord p i) 0 32 + 8 * j) 8
/-- The event records of a router entry. -/
def patEvents (p : Raw) (e : Nat) : List Nat :=
  (rangeFrom 0 (bits e 16 16)).map fun j => p.bytes (bits e 32 32 + 16 * j) 16

/-- Every router entry and event record as (pattern, router entry, event). -/
def Raw.eventRecs (r : Raw) : List (Nat × Nat × Nat) :=
  let p := r.part tPatterns
  (rangeFrom 0 r.patterns).flatMap fun i =>
    (patRouters p i).flatMap fun e => (patEvents p e).map fun w => (i, e, w)

/-- Slice entries: offset and 240 bytes. -/
def Raw.sliceOffs (r : Raw) : Option (List Nat) :=
  let p := r.part tSlices
  p.recs fun o => 240 + 8 * bits (p.bytes o 4) 16 5

/-- Variant entries. -/
def Raw.variantRecs (r : Raw) : List Nat :=
  (rangeFrom 0 r.variants).map fun i => (r.part tVariants).bytes (32 * i) 32
/-- The pattern runs of a variant entry. -/
def Raw.runRecs (r : Raw) (v : Nat) : List Nat :=
  (rangeFrom 0 (bits v 32 16)).map fun j => (r.part tVariants).bytes (bits v 64 32 + 8 * j) 8

/-- Number of pseudo-channel headers: they end at the first multiple of 48 that equals the lowest OFFSET so far
(Table 4.9). -/
def hbmHeaders (p : Raw) : Nat → Nat → Nat → Option Nat
  | 0, _, _ => none
  | f + 1, n, low =>
    if 0 < n ∧ 48 * n = low then some n
    else if p.len < 48 * (n + 1) then none
    else
      let o := bits (p.bytes (48 * n) 48) 32 32
      hbmHeaders p f (n + 1) (if n = 0 then o else min low o)

/-- The pseudo-channel headers of the HBM section; none where they do not end. -/
def Raw.hbmHeads (r : Raw) : Option (List Nat) :=
  let p := r.part tHbm
  if p.len = 0 then some [] else
    (hbmHeaders p 258 0 0).map fun n => (rangeFrom 0 n).map fun i => p.bytes (48 * i) 48

/-- The cell records of a header. -/
def Raw.cellRecs (r : Raw) (h : Nat) : List Nat :=
  (rangeFrom 0 (bits h 16 16)).map fun j => (r.part tHbm).bytes (bits h 32 32 + 16 * j) 16

/-- Sprinkle trees by offset. -/
def Raw.treeOffs (r : Raw) : Option (List Nat) :=
  let p := r.part tSprinkle
  p.recs fun o => 4 + 4 * bits (p.bytes o 4) 16 16
/-- Fold programs by offset. -/
def Raw.foldOffs (r : Raw) : Option (List Nat) :=
  let p := r.part tFold
  p.recs fun o => 8 + 4 * bits (p.bytes o 8) 32 16

/-- Records of the fixed-length sections. -/
def Raw.hostRecs (r : Raw) : List Nat := let p := r.part tHost; (p.fixed 16).map fun o => p.bytes o 16
def Raw.latRecs (r : Raw) : List Nat := let p := r.part tLattice; (p.fixed 16).map fun o => p.bytes o 16
def Raw.maskRecs (r : Raw) : List Nat := let p := r.part tMasks; (p.fixed 8).map fun o => p.bytes o 8
def Raw.trainRecs (r : Raw) : List Nat := let p := r.part tTrain; (p.fixed 32).map fun o => p.bytes o 32

/-! ### Structure: the two stages of BAD_DIRECTORY (R119, R120) -/

/-- Ranges that do not overlap. -/
def disjointRanges : List (Nat × Nat) → Bool
  | [] => true
  | (a, n) :: t => t.all (fun b => decide (a + n ≤ b.1) || decide (b.1 + b.2 ≤ a) || n == 0 || b.2 == 0) &&
    disjointRanges t

/-- Bytes outside every named range are zero. -/
def paddingZero (r : Raw) (ranges : List (Nat × Nat)) : Bool :=
  reservedClear r.x (ranges.map fun a => (8 * a.1, 8 * a.2))

/-- Section types that are always required (Table 4.3). -/
def requiredTypes : List Nat := [tPatterns, tSlices, tVariants, tFaultDep]

/-- The directory stage: counts, ends, types, duplicates, offsets, overlap, required sections, padding. -/
def directoryFaults (r : Raw) : List Viol :=
  let n := r.count
  let dirEnd := 128 + 16 * n
  if n = 0 ∨ 12 < n ∨ r.len < dirEnd + 256 then [{}]
  else
    let ss := r.sects
    let each := ss.flatMap fun e =>
      unless_ (decide (1 ≤ e.type ∧ e.type ≤ 12) && !(ss.any fun f => decide (f.idx < e.idx) && f.type == e.type) &&
        e.off % 64 == 0 && decide (dirEnd ≤ e.off) && decide (e.off + e.size ≤ r.len - 256) &&
        disjointRanges [(e.off, e.size)] &&
        ss.all (fun f => !decide (f.idx < e.idx) || disjointRanges [(f.off, f.size), (e.off, e.size)])) { sec := e.idx }
    let need := requiredTypes.all (fun t => (r.sect t).isSome) &&
      bit1 r.header 112 == (r.sect tLattice).isSome
    let pad := paddingZero r ((0, dirEnd) :: (r.len - 256, 256) :: ss.map fun e => (e.off, e.size))
    each ++ unless_ (need && pad) {}

/-- A list of n bytes lies between the end of the words or entries that name it and the end of the section. -/
def within (len start off n : Nat) : Bool := decide (start ≤ off) && decide (off + n ≤ len)

/-- A sum of counts. -/
def sumOf (l : List Nat) : Nat := l.foldl (· + ·) 0

/-- PATTERNS: the words, lists and records lie in the section and fill it, in order (R120, R121). DEDUCED (log entry 12):
SIZE is the sum that the counts give, so no list is shared between patterns or laid over another. -/
def patternsOk (r : Raw) : Bool :=
  let p := r.part tPatterns
  let words := rangeFrom 0 r.patterns
  let lists := words.all fun i => bits (patWord p i) 32 16 == 0 ||
    within p.len (8 * r.patterns) (bits (patWord p i) 0 32) (8 * bits (patWord p i) 32 16)
  let routers := words.flatMap (patRouters p)
  let events := routers.all fun e => bits e 16 16 == 0 ||
    within p.len (8 * r.patterns) (bits e 32 32) (16 * bits e 16 16)
  decide (8 * r.patterns ≤ p.len) && lists && events &&
  8 * r.patterns + 8 * sumOf (words.map fun i => bits (patWord p i) 32 16) + 16 * sumOf (routers.map fun e => bits e 16 16)
    == p.len &&
  words.all (fun i => rising true ((patRouters p i).map fun e => bits e 0 14)) &&
  routers.all (fun e => rising false ((patEvents p e).map fun w => bits w 0 12))

/-- SLICES: entries fill the section, no router twice. -/
def slicesOk (r : Raw) : Bool := match r.sliceOffs with
  | none => false
  | some os => decide (os.map fun o => bits ((r.part tSlices).bytes o 4) 0 14).Nodup

/-- VARIANTS: entries and runs fill the section. -/
def variantsOk (r : Raw) : Bool :=
  let p := r.part tVariants
  decide (32 * r.variants ≤ p.len) &&
  r.variantRecs.all (fun v => bits v 32 16 == 0 || within p.len (32 * r.variants) (bits v 64 32) (8 * bits v 32 16)) &&
  32 * r.variants + 8 * sumOf (r.variantRecs.map fun v => bits v 32 16) == p.len

/-- HBM: headers in ascending PC with records, records after them and in order. -/
def hbmOk (r : Raw) : Bool :=
  let p := r.part tHbm
  match r.hbmHeads with
  | none => false
  | some hs =>
    (p.len == 0 || 48 * hs.length + 16 * sumOf (hs.map fun h => bits h 16 16) == p.len) &&
    rising true (hs.map fun h => bits h 0 8) &&
    hs.all fun h => decide (1 ≤ bits h 16 16) && within p.len (48 * hs.length) (bits h 32 32) (16 * bits h 16 16) &&
      rising false ((r.cellRecs h).map fun c => bits c 0 16 * 512 + bits c 16 9)

/-- The structure stage per section. -/
def structureFaults (r : Raw) : List Viol :=
  let check (t : Nat) (ok : Bool) : List Viol := unless_ (!(r.sect t).isSome || ok) { sec := r.secOf t }
  let size (t : Nat) : Nat := (r.part t).len
  check tPatterns (patternsOk r) ++ check tSlices (slicesOk r) ++ check tVariants (variantsOk r) ++
  check tHbm (hbmOk r) ++ check tHost (size tHost % 16 == 0) ++ check tSprinkle r.treeOffs.isSome ++
  check tFold r.foldOffs.isSome ++ check tFaultDep (size tFaultDep == 6208) ++
  check tTileReq (decide (8 ≤ size tTileReq) &&
    size tTileReq == 8 + 8 * bits ((r.part tTileReq).bytes 0 8) 32 8) ++
  check tLattice (size tLattice % 16 == 0) ++ check tMasks (size tMasks % 8 == 0) ++
  check tTrain (size tTrain % 32 == 0)

/-! ### The parsed image -/

/-- A two's-complement field. -/
def signed (v w : Nat) : Int := if v < 2 ^ (w - 1) then v else (v : Int) - 2 ^ w

/-- A router event record (Table 4.4). -/
def parseEvent (w : Nat) : Event :=
  { tick := bits w 0 12, kind := bits w 12 4, inp := bits w 16 4, out := bits w 20 8, line := bits w 28 10
    lstep := signed (bits w 38 10) 10, rep := bits w 48 12, stride := bits w 60 12, tree := bits w 72 8
    treeValid := bit1 w 80, ctx := bit1 w 81, bsel := bit1 w 82, arg := bits w 96 16 }

/-- A frame pattern. -/
def parsePattern (p : Raw) (i : Nat) : Pattern :=
  (patRouters p i).map fun e => ⟨bits e 0 14, (patEvents p e).map parseEvent⟩

/-- A slice entry at an offset (Table 4.9). -/
def parseSlice (p : Raw) (o : Nat) : SliceEntry :=
  let e := p.bytes o 240
  { router := bits e 0 14, touch := bits e 32 768, persist := bits e 800 768
    ctxBase := (rangeFrom 0 8).map fun i => bits e (1568 + 16 * i) 16
    ctxSpan := bits e 1696 16
    windows := (rangeFrom 0 (bits e 16 5)).map fun i =>
      let w := p.bytes (o + 240 + 8 * i) 8
      ⟨bits w 0 4, bits w 8 10, bits w 18 10, bits w 28 10, bit1 w 38⟩ }

/-- A variant entry (Tables 4.7, 4.8). -/
def Raw.parseVariant (r : Raw) (v : Nat) : Variant :=
  { frames := bits v 0 32, chosen := bit1 v 96, next := bits v 97 4, set := bits v 104 8
    runs := (r.runRecs v).map fun w => ⟨bits w 0 16, bits w 16 16, bit1 w 32⟩ }

/-- A cell record. -/
def parseCell (w : Nat) : CellRec :=
  { pattern := bits w 0 16, cell := bits w 16 9, kind := bits w 25 3, rim := bits w 28 5, ctx := bit1 w 33
    cellsM1 := bits w 34 9, addr := bits w 64 32 }

/-- The records of a pseudo-channel. -/
def Raw.parsePc (r : Raw) (h : Nat) : PcRec :=
  { pc := bits h 0 8, ctxRow := (rangeFrom 0 8).map fun i => signed (bits h (64 + 32 * i) 32) 32
    cells := (r.cellRecs h).map parseCell }

/-- A host transfer record. -/
def parseHost (w : Nat) : HostRec :=
  { pattern := bits w 0 16, tick := bits w 16 12, dir := bits w 28 1, row := bits w 30 7, buf := bits w 40 8
    beatsM1 := bits w 48 16, offset := bits w 64 32 }

/-- A Sprinkle tree. -/
def parseTree (p : Raw) (o : Nat) : Tree :=
  { id := bits (p.bytes o 4) 0 8
    nodes := (rangeFrom 0 (bits (p.bytes o 4) 16 16)).map fun i =>
      let w := p.bytes (o + 4 + 4 * i) 4
      (bits w 0 14, bits w 16 8) }

/-- A Fold program. -/
def parseFold (p : Raw) (o : Nat) : FoldProg :=
  let h := p.bytes o 8
  { id := bits h 0 10, type := bits h 16 2, sr := bit1 h 18
    steps := (rangeFrom 0 (bits h 32 16)).map fun i =>
      let w := p.bytes (o + 8 + 4 * i) 4
      ⟨bits w 0 14, bits w 16 4, bits w 20 4⟩ }

/-- The fault-map dependency. -/
def parseDep (p : Raw) : FaultDep := ⟨p.bytes 0 2048, p.bytes 2048 4096, p.bytes 6144 32, p.bytes 6176 32⟩

/-- The tile requirements. -/
def parseTileReq (p : Raw) : TileReq :=
  let h := p.bytes 0 8
  { vendor := bits h 0 16, minRev := bits h 16 16
    classes := (rangeFrom 0 (bits h 32 8)).map fun i =>
      let w := p.bytes (8 + 8 * i) 8
      ⟨bits w 0 8, bits w 8 16, bits w 24 16⟩ }

/-- A window record. -/
def parseLat (w : Nat) : LatRec :=
  { pattern := bits w 0 16, tick := bits w 16 12, port := bits w 28 4, dir := bits w 32 1, peer := bits w 48 10
    bound := bits w 64 8, beatsM1 := bits w 72 16 }

/-- A TRAIN descriptor. -/
def parseTrain (w : Nat) : TrainDesc :=
  { id := bits w 0 16, op := bits w 16 4, outfmt := bits w 20 4, key := bits w 32 64, ctrBase := bits w 96 128
    paramLine := bits w 224 10 }

/-- The header fields used after loading. -/
def Raw.parseHeader (r : Raw) : ImageHeader :=
  let h := r.header
  { length := bits h 64 32, lattice := bit1 h 112, buildId := bits h 128 128
    rect := ⟨bits h 256 8, bits h 264 8, bits h 272 8, bits h 280 8⟩
    variants := bits h 288 3 + 1, contexts := bits h 291 3 + 1, refresh := bits h 294 2, floor := bits h 296 9
    budget := bits h 320 32, fmax := bits h 352 32, bIn := bits h 384 32, hOut := bits h 416 32
    brRouter := bits h 448 14, brLine := bits h 464 10, brWord := bits h 474 4, brCtx := bit1 h 478
    idlePattern := bits h 480 16 }

/-- The image that the bytes spell. -/
def Raw.parse (r : Raw) : Image :=
  { hdr := r.parseHeader
    patterns := (rangeFrom 0 r.patterns).map (parsePattern (r.part tPatterns))
    slices := (r.sliceOffs.getD []).map (parseSlice (r.part tSlices))
    variants := r.variantRecs.map r.parseVariant
    hbm := (r.hbmHeads.getD []).map r.parsePc
    host := r.hostRecs.map parseHost
    trees := (r.treeOffs.getD []).map (parseTree (r.part tSprinkle))
    folds := (r.foldOffs.getD []).map (parseFold (r.part tFold))
    dep := parseDep (r.part tFaultDep)
    tileReq := parseTileReq (r.part tTileReq)
    lattice := r.latRecs.map parseLat
    masks := r.maskRecs
    train := r.trainRecs.map parseTrain }

/-- Some event names EDGE at a rim router of an HBM stack (Table 4.3). -/
def namesHbmEdge (im : Image) : Bool :=
  im.patterns.any fun p => p.any fun re => (stackOfRim re.router).isSome &&
    re.events.any fun e => e.inp == portEdge || bit1 e.out portEdge

/-- Sections required by what the image uses (Table 4.3). -/
def requiredFaults (r : Raw) (im : Image) : List Viol :=
  let disp := im.patterns.any fun p => p.any fun re => re.events.any fun e => e.kind == kDispatch
  unless_ ((r.sect tHbm).isSome || !(im.dep.pcs != 0 || namesHbmEdge im)) {} ++
  unless_ ((r.sect tTileReq).isSome || !disp) {}

/-- BAD_DIRECTORY: the first stage that finds a fault. -/
def structureViols (r : Raw) : List Viol :=
  let d := directoryFaults r
  if !d.isEmpty then d
  else
    let t := structureFaults r
    if !t.isEmpty then t else requiredFaults r r.parse

end Sys2Proof.Machine
end

