-- ==== Sys2Proof/Machine/FwOps.lean ====
section
/-! DEFINITION. Firmware packages and bundles, vetting, MP-only resets (R352, R365 to R380). -/

namespace Sys2Proof.Machine

/-! ### Flash slots and packages (R365 to R367) -/

/-- A firmware slot. -/
def fwSlot (s : State) (k : Nat) : FwSlot := Tab.get FwSlot.reset s.fw.slots k

/-- One byte of a slot; an erased byte reads 0xFF. -/
def FwSlot.byte (f : FwSlot) (a : Nat) : Nat := (Tab.get (0xFF#8) f.data a).toNat

/-- n bytes of a slot, little-endian. -/
def FwSlot.bytes (f : FwSlot) (a : Nat) : Nat → Nat
  | 0 => 0
  | n + 1 => f.byte a + 256 * f.bytes (a + 1) n

/-- Write n bytes. -/
def FwSlot.write (f : FwSlot) (a x : Nat) : Nat → FwSlot
  | 0 => f
  | n + 1 =>
    FwSlot.write { f with data := Tab.set (0xFF#8) f.data a (BitVec.ofNat 8 x) } (a + 1) (x / 256) n

/-- Size of a slot (Table 11.4). -/
def fwSlotSize : Nat := 29360128

/-- A directory entry: KIND, VENDOR, OFFSET, SIZE, and whether its reserved bits are zero (R366). -/
structure DirEntry where
  kind : Nat
  vendor : Nat
  offset : Nat
  size : Nat
  ok : Bool
  deriving DecidableEq, Repr

/-- The directory of a slot; none for a wrong magic or a count that does not fit 4 KiB. -/
def FwSlot.directory (f : FwSlot) : Option (List DirEntry) :=
  let n := f.bytes 4 4
  if f.bytes 0 4 = 0x4E444B4D ∧ n ≤ 255 then
    some ((rangeFrom 0 n).map fun i =>
      let e := f.bytes (8 + 16 * i) 16
      ⟨bits e 0 8, bits e 8 16, bits e 32 32, bits e 64 32, reservedClear e [(0, 8), (8, 16), (32, 32), (64, 32)]⟩)
  else none

/-- Payload maximum of a kind (Table 11.5). -/
def payloadMax (kind : Nat) : Nat := match kind with
  | 1 => 6291456
  | 2 => 524288
  | 3 => 1048576
  | 4 => 4194304
  | _ => 0

/-- First byte of the payload. -/
def payloadStart (tw : Nat) : Nat := cdiv (64 + 16 * tw) 64 * 64

/-- The package of a directory entry, when its header uses no reserved value and fits its entry (Table 11.5). -/
def FwSlot.package (f : FwSlot) (d : DirEntry) : Option Package :=
  let h := f.bytes d.offset 64
  let kind := bits h 32 8
  let tw := bits h 160 8
  let entry (i : Nat) : Nat := f.bytes (d.offset + 64 + 16 * i) 16
  let fields := [(0, 32), (32, 8), (40, 16), (64, 32), (96, 16), (112, 16), (128, 32), (160, 8), (168, 8)] ++
    (if kind = 1 then [(256, 96)] else [])
  let total := payloadStart tw + bits h 128 32 + 256
  if bits h 0 32 = 0x57464B4D ∧ 1 ≤ kind ∧ kind ≤ 4 ∧ kind = d.kind ∧ bits h 40 16 = d.vendor ∧
      (kind = 4 ∨ d.vendor = 1) ∧ d.vendor ≠ 0 ∧ bits h 112 16 ≤ 64 ∧ bits h 128 32 ≤ payloadMax kind ∧ tw ≤ 64 ∧
      bits h 168 8 ≤ 8 ∧ (kind = 4 ∨ bits h 168 8 = 0) ∧ reservedClear h fields ∧ total ≤ d.size ∧
      (rangeFrom 0 tw).all (fun i => reservedClear (entry i) [(0, 8), (8, 16), (24, 16), (64, 32), (96, 32)]) then
    some
      { kind := kind, vendor := d.vendor, version := bits h 64 32, ifLevel := bits h 96 16, svn := bits h 112 16
        payload := bits h 128 32, key := bits h 168 8
        tested := (rangeFrom 0 tw).map fun i =>
          let e := entry i
          ⟨bits e 0 8, bits e 8 16, bits e 24 16, bits e 64 32, bits e 96 32⟩
        range := if kind = 1 then
          [(bits h 256 16, bits h 272 16), (bits h 288 16, bits h 304 16), (bits h 320 16, bits h 336 16)] else []
        digest := Config.sha384 (f.bytes d.offset total) total }
  else none

/-- Key numbers of the fused Atunon keys. -/
def firmwareKey : Nat := 0
def imageKeyAtunon : Nat := 1

/-- A signature block over the `len` bytes before it (Table 4.10). -/
def signatureOk (key msg len sig : Nat) : Bool :=
  bits sig 0 8 == 1 && reservedClear sig [(0, 8), (8, 8), (64, 384), (448, 384)] &&
  Config.ecdsaVerify key msg len (bits sig 64 384) (bits sig 448 384)

/-- SVN minimum of a package's kind (R367). -/
def svnMinimum (s : State) (p : Package) : Nat :=
  if p.kind = 4 then Tab.get 0 s.fw.tileSvn p.key else Tab.get 0 s.fw.minSvn p.kind

/-- A package is valid: SUCCESS, REJECTED, AUTH or ROLLBACK (R367, R369). -/
def packageStatus (s : State) (f : FwSlot) (d : DirEntry) : Nat :=
  match f.package d with
  | none => mRejected
  | some p =>
    let len := payloadStart p.tested.length + p.payload
    let sig := f.bytes (d.offset + len) 256
    let key : Option Nat := if p.key = 0 then some firmwareKey else
      match Tab.get none s.fw.tileKeys p.key with
      | some (v, k) => if v = p.vendor then some k else none
      | none => none
    match key with
    | none => mAuth
    | some k =>
      if !signatureOk k (f.bytes d.offset len) len sig then mAuth
      else if p.svn < svnMinimum s p then mRollback
      else mSuccess

/-- The MP package of a directory. -/
def FwSlot.mpPackage (f : FwSlot) (ds : List DirEntry) : Option Package :=
  (ds.find? fun d => d.kind == 1).bind f.package

/-- The level of a KIND 2, 3 or 4 package lies within the MP package's IF_RANGE (R367). -/
def levelIn (mp p : Package) : Bool := match mp.range[p.kind - 2]? with
  | some (lo, hi) => decide (lo ≤ p.ifLevel) && decide (p.ifLevel ≤ hi)
  | none => false

/-- The directory lists one package each of KIND 1, 2 and 3 and at most 8 of KIND 4 with distinct vendors, and no
reserved kind (R366). -/
def directoryOk (ds : List DirEntry) : Bool :=
  let n (k : Nat) := (ds.filter fun d => d.kind == k).length
  let v : List Nat := (ds.filter fun d => d.kind == 4).map fun d => d.vendor
  n 1 == 1 && n 2 == 1 && n 3 == 1 && decide (n 4 ≤ 8) && ds.all (fun d => decide (1 ≤ d.kind ∧ d.kind ≤ 4)) &&
  decide v.Nodup

/-- The first entry of a directory that fails, with its status: a range beyond the slot, an invalid package, or a
KIND 2 or 3 package outside IF_RANGE (R366, R367). -/
def firstFailure (s : State) (f : FwSlot) (mp : Option Package) : Nat → List DirEntry → Option (Nat × Nat)
  | _, [] => none
  | i, d :: t =>
    let st := if !d.ok || decide (fwSlotSize < d.offset + d.size) then mRejected else packageStatus s f d
    if st ≠ mSuccess then some (i, st)
    else match mp, f.package d with
      | some m, some p =>
        if (p.kind = 2 ∨ p.kind = 3) ∧ !levelIn m p then some (i, mRejected) else firstFailure s f mp (i + 1) t
      | _, _ => some (i, mRejected)

/-- FW_VERIFY's verdict on a slot: none when the bundle is compatible, else DETAIL and status (R367, R369). -/
def bundleVerdict (s : State) (k : Nat) : Option (Nat × Nat) :=
  let f := fwSlot s k
  match f.directory with
  | none => some (0, mRejected)
  | some ds => match firstFailure s f (f.mpPackage ds) 0 ds with
    | some e => some e
    | none => if directoryOk ds then none else some (ds.length, mRejected)

/-- The packages of a slot's bundle. -/
def bundlePackages (s : State) (k : Nat) : List Package :=
  let f := fwSlot s k
  match f.directory with
  | none => []
  | some ds => ds.filterMap f.package

/-- The KIND 4 package of a vendor in the bundle in use, unless its level lies outside IF_RANGE (R367, R228). -/
def tileBootPackage (s : State) (vendor : Nat) : Option Package :=
  let ps := bundlePackages s s.fw.useSlot
  match ps.find? fun p => p.kind == 1 with
  | none => none
  | some mp => ps.find? fun p => p.kind == 4 && p.vendor == vendor && levelIn mp p

/-! ### Vetting (R375 to R379) -/

/-- a vouches for b (R375). -/
def covers (a b : Package) : Bool := a.tested.any fun e =>
  e.kind == b.kind && e.vendor == b.vendor && e.ifLevel == b.ifLevel && decide (e.verMin ≤ b.version) &&
  decide (b.version ≤ e.verMax)

/-- The ordered pairs of the running combination that fail the check. -/
def failingPairs (l : List Package) : List (Package × Package) :=
  (l.flatMap fun a => l.map fun b => (a, b)).filter fun x =>
    x.1 != x.2 && !(x.1.kind == 4 && x.2.kind == 4) && !covers x.1 x.2

/-- SHA-384 digests as one number, the first lowest. -/
def digestsNat : List Package → Nat
  | [] => 0
  | p :: t => p.digest.toNat + 2 ^ 384 * digestsNat t

/-- The combination digest (R376). -/
def combinationDigest (l : List Package) : BitVec 384 := Config.sha384 (digestsNat l) (48 * l.length)

/-- The module enters or leaves UNVETTED: the cap in force follows 5 ms later (R378, R379, R531). -/
def noteVet (before s : State) : State :=
  if (before.fw.vet == 1) = (s.fw.vet == 1) then s
  else { s with pm := { s.pm with vetChanges := s.pm.vetChanges ++ [(s.clk.wallPs + 5000000000, before.fw.vet == 1)] } }

/-- The check of R375 and R376: the record is deleted when its digest differs, and the state follows Table 11.9. An unvetted
module joins no barrier (R378). -/
def recheckVet (s : State) : State :=
  let d := combinationDigest s.fw.running
  let rec0 := if s.fw.accept = some d then s.fw.accept else none
  let v := if (failingPairs s.fw.running).isEmpty then 0 else if rec0.isSome then 2 else 1
  let s1 := noteVet s { s with fw := { s.fw with accept := rec0, vet := v } }
  if v = s.fw.vet then s1
  else if v = 1 then
    let st := if s.lat.standing = .joining then .out else s.lat.standing
    notify 2 0x9001 0 (mpEvent 0x9001 0 0 0 { s1 with lat := { s1.lat with standing := st } })
  else notify 2 0x9001 0 s1

/-- Packages in the order of the running combination: MP, PM, Lattice, KIND 4 by vendor. -/
def insertPackage (p : Package) : List Package → List Package
  | [] => [p]
  | a :: t => if p.kind < a.kind ∨ (p.kind = a.kind ∧ p.vendor ≤ a.vendor) then p :: a :: t else a :: insertPackage p t

/-- A package takes effect in place of the one of its kind and vendor. -/
def runPackage (p : Package) (s : State) : State :=
  { s with fw := { s.fw with
    running := insertPackage p (s.fw.running.filter fun a => !(a.kind == p.kind && a.vendor == p.vendor)) } }

/-! ### MP-only resets (R352, R371, R380) -/

/-- Each accepted Service item without a response completes with MP_RESET and a response length of 0 (R380). -/
def answerReset (fn : Nat) (s : State) : State :=
  ((ringOf s fn 3).outst.filter fun o => o.opcode == 0x30).foldl
    (fun t o => serviceDone fn o mMpReset (bits (itemMessage o.item) 32 24) 0 t) s

/-- The report of a load that a reset or an eviction cancelled. -/
def reportAborted : Nat := reportOf 0x1B {}

/-- A load in progress ends with LOAD_ABORTED (R371, Table 4.12). -/
def abortLoads (s : State) : State :=
  { s with slots := Tab.updAll Slot.reset s.slots (rangeFrom 0 8) fun _ v =>
      if v.state = .loading then { Slot.reset with report := reportAborted } else v }

/-- An MP-only reset begins; DETAIL names its cause (Table 18.2, Table 17.4). -/
def mpOnlyReset (detail : Nat) (s : State) : State :=
  let s1 := mpEvent 0x100A 6 0 detail { s with boot := { s.boot with mp := .restarting } }
  let s2 := abortLoads ((rangeFrom 0 65).foldl (fun t f => answerReset f t) s1)
  { s2 with
    fw := { s2.fw with restart := detail + 1, outstanding := [], spdm := [] }
    win := { s2.win with shadow := s2.win.inForce } }

/-- Set a firmware slot's state, with the notice of a slot change (R364). -/
def fwSetState (k st : Nat) (s : State) : State :=
  let f := fwSlot s k
  let s1 := { s with fw := { s.fw with slots := Tab.set FwSlot.reset s.fw.slots k { f with state := st } } }
  if f.state = st then s1 else notify 3 0 k s1

/-- The boot record is written anew (R365). -/
def bootRecord (active : Nat) (trial : Bool) (failed : Nat) (s : State) : State :=
  { s with fw := { s.fw with
    active := active, trial := trial, failedBoots := failed, bootSeq := s.fw.bootSeq + 1, recordCopy := 1 - s.fw.recordCopy
    otherCopy := some ⟨s.fw.bootSeq, s.fw.active, s.fw.trial, s.fw.failedBoots⟩ } }

/-- A query command answers with content whose layout is open. -/
def mciQuery (op : Nat) (q : MciReq) (content : List Nat) (s : State) : State :=
  mciAnswer op q mSuccess 0 (Config.queryLength op content % 4081) (Config.queryLayout op content) s

end Sys2Proof.Machine
end

