-- ==== Sys2Proof/Machine/Logs.lean ====
section
/-! DEFINITION. The log writer and the commands on logs, counters, the fault map and replacement requests
(R585 to R607). -/

namespace Sys2Proof.Machine

/-! ### Packets (R585, R591, R172) -/

/-- Events on which Table 18.4 is evaluated: its reasons. -/
def replReasons : List Nat :=
  [0x300E, 0x3001, 0x3002, 0x3003, 0x3004, 0x3005, 0x3006, 0x3007, 0x3008, 0x3009, 0x300A, 0x4005, 0x2003, 0x2004,
   0x2007, 0x2005, 0x5005, 0x5006, 0x5007, 0x5001, 0x4001, 0xA003, 0xA002, 0xA004, 0x1008, 0x6001, 0x6005, 0x8001,
   0x8002]

/-- A slice's first uncorrectable word, noted for the threshold of Table 18.4. -/
def noteSlice (p : FaultPkt) (s : State) : State :=
  if p.reason ≠ 0x4001 then s
  else
    let now := s.clk.refTime.toNat
    { s with logs := { s.logs with
      slices24 := (p.unit, now) :: s.logs.slices24.filter fun e => decide (now < e.2 + 8640000000000) } }

/-- The log writer makes an entry of a packet, and the MP evaluates the thresholds that name its reason. -/
def writePacket (p : FaultPkt) (s : State) : State :=
  let s1 := noteSlice p (logEntry p.reason p.sev p.unit p.entryDetail p.src false s)
  if replReasons.contains p.reason then evaluateRequests s1 else s1

/-- FAULTS_LOST, once the queue has room again (R172). -/
def reportLost (s : State) : State :=
  if s.ctl.faultsLost = 0 then s
  else mpEvent 0x4007 0 0 s.ctl.faultsLost { s with ctl := { s.ctl with faultsLost := 0 } }

/-- The control packet that a command handles: the oldest waiting one, or one of a block whose cause no command of this
model is. -/
def takePacket (q : List FaultPkt) (p : Option PktIn) : Option (FaultPkt × List FaultPkt) :=
  match p with
  | some x => some (pktOf x, q)
  | none => match q with
    | [] => none
    | a :: t => some (a, t)

/-- FAULT_PACKET: one FAULT packet becomes one entry of the event log (R585, R591). DESIGN CHOICE, log entry 30: the MP consumes
what waits in its BARRIER queue with it (R172). -/
def execFaultPacket (p : Option PktIn) (s : State) : Host.Outcome State Fault Refusal :=
  match takePacket s.ctl.faultQ p with
  | none => .next s
  | some (a, t) => .next (reportLost (writePacket a { s with ctl := { s.ctl with faultQ := t, barrierQ := [] } }))

/-- EVENT_PACKET: one EVENT packet becomes one entry of the event log (R591). -/
def execEventPacket (p : Option PktIn) (s : State) : Host.Outcome State Fault Refusal :=
  match takePacket s.ctl.eventQ p with
  | none => .next s
  | some (a, t) =>
    let s1 := { s with ctl := { s.ctl with eventQ := t } }
    .next (writePacket a (if p.isNone then drainQueue a.src 1 s1 else s1))

/-! ### EVENT_READ (R592, R608) -/

/-- An entry in the layout of Table 18.6. -/
def eventBytes (e : LogEntry) : Nat :=
  put e.seq.toNat 0 64 + put e.tick.toNat 64 64 + put e.reason 128 16 + put e.sev 144 3 + put (flag e.repl) 147 1 +
  put e.src 148 12 + put e.unit 160 32 + put e.detail 192 64

/-- Entries at or above a sequence number, oldest first, at most n. -/
def entriesFrom (l : List LogEntry) (from_ n : Nat) : List LogEntry :=
  (l.reverse.filter fun e => decide (from_ ≤ e.seq.toNat)).take n

/-- SEQ of the oldest entry of a list that holds the newest first; `next` when it is empty. -/
def oldestSeq (l : List LogEntry) (next : Nat) : Nat := (l.getLast?.map fun e => e.seq.toNat).getD next

/-- EVENT_READ: a snapshot of the event log or the flash event ring (R592). -/
def execEventRead (q : MciReq) (s : State) : Host.Outcome State Fault Refusal :=
  let p := mciParams q
  let n := bits p 64 8
  .next (mciFixed 0x0901 16 [(0, 64), (64, 8), (72, 1)] (decide (1 ≤ n ∧ n ≤ 126)) q (fun s =>
    let l := if bit1 p 72 then s.logs.flash else s.logs.entries
    let next := if bit1 p 72 then (s.logs.flash.head?.map fun e => e.seq.toNat + 1).getD 0 else s.logs.next.toNat
    let old := oldestSeq l next
    let es := entriesFrom l (max (bits p 0 64) old) n
    let mark (e : LogEntry) : LogEntry := if es.any (fun x => x.seq == e.seq) then { e with seen := true } else e
    let s1 := if bit1 p 72 then s else { s with logs := { s.logs with entries := s.logs.entries.map mark } }
    mciAnswer 0x0901 q mSuccess 0 (32 + 32 * es.length)
      (old + put next 64 64 + put s.logs.loss.toNat 128 64 + put (flag (decide (bits p 0 64 < old))) 192 1 +
        concatBytes 32 (es.map eventBytes) * 2 ^ 256) s1) s)

/-! ### The persistent log (R594, R595, R597) -/

/-- An entry with its summary as numbers. -/
def errContent (e : ErrEntry) : List Nat :=
  [e.reason, e.unit, e.sev, e.boot.toNat, e.ref.toNat, e.detail, e.ext, flag e.cont, flag e.complete, e.count,
    e.lastRef.toNat, e.lastBoot.toNat]

/-- The log and both summaries are erased. -/
def eraseErrlog (s : State) : State :=
  { s with logs := { s.logs with
    errors := [], dropped := 0, logFullSent := false, summary0 := [], summary1 := [] } }

/-- ERRLOG_READ and its CLEAR. -/
def errlogCommand (q : MciReq) (s : State) : State :=
  let p := mciParams q
  let n := bits p 16 6
  mciFixed 0x0902 8 [(0, 12), (16, 6), (31, 1)] (decide (1 ≤ n)) q (fun s =>
    if bit1 p 31 && !isP q.who then mciStatus 0x0902 q mNotPermitted s
    else
      let s1 := mciQuery 0x0902 q
        (s.logs.dropped.toNat :: ((s.logs.errors.drop (bits p 0 12)).take n).flatMap errContent) s
      if bit1 p 31 then eraseErrlog s1 else s1) s

/-- ERRLOG_READ: entries merged with their summaries (R595, R597). -/
def execErrlogRead (q : MciReq) (s : State) : Host.Outcome State Fault Refusal := .next (errlogCommand q s)

/-- ERRLOG_CLEAR: with CLEAR set, which only PF0 may, the log and both summaries are erased after the response
(R597). -/
def execErrlogClear (q : MciReq) (s : State) : Host.Outcome State Fault Refusal := .next (errlogCommand q s)

/-- The counts of every key. -/
def summaryOf (l : Logs) : List SumEntry := (l.errors.filter fun e => !e.cont).map fun e => ⟨e.reason, e.unit, e.count, e.lastRef, e.lastBoot⟩

/-- Write the alternate summary copy (R595). -/
def writeSummary (s : State) : State :=
  let c := summaryOf s.logs
  { s with logs := { s.logs with
    summary0 := if s.logs.summaryTurn then s.logs.summary0 else c
    summary1 := if s.logs.summaryTurn then c else s.logs.summary1
    summaryTurn := !s.logs.summaryTurn } }

/-- ERRLOG_SUMMARY_WRITE: every 24 h the MP writes the alternate copy (R595). -/
def execErrlogSummaryWrite (s : State) : Host.Outcome State Fault Refusal :=
  if mpRuns s then .next (writeSummary s) else .next s

/-! ### Counters (R603, R604) -/

/-- Instances of a counter (Table 18.8). -/
def counterInstances (id : Nat) : Nat :=
  if id ≤ 0x0103 then 16384
  else if id ≤ 0x0203 then 256
  else if id ≤ 0x0302 then 260
  else if id = 0x0303 then 65
  else if id = 0x0304 then 4096
  else if id ≤ 0x040A then 12
  else if id = 0x0604 then 16
  else if id = 0x0701 ∨ id = 0x0702 then 512
  else 1

/-- A counter's value; LOSS and DROPPED are the logs' own. -/
def counterValue (s : State) (id idx : Nat) : BitVec 64 :=
  if id = 0x0704 then s.logs.loss
  else if id = 0x0705 then s.logs.dropped.zeroExtend 64
  else counter s id idx

/-- The function that a counter instance belongs to, where it belongs to one (R603). -/
def counterFn (id idx : Nat) : Option Nat :=
  if id = 0x0301 ∨ id = 0x0302 then some (idx / 4) else if id = 0x0303 then some idx else none

/-- A saturating counter stands at its maximum. -/
def counterSat (s : State) (id idx : Nat) : Bool :=
  let (w, sat) := counterKind id
  sat && (counterValue s id idx).toNat == 2 ^ w - 1

/-- COUNTER_READ: value, saturation and the tick of sampling (R603); a function's read of its bad or stale count ends the
silence of R313. -/
def execCounterRead (q : MciReq) (s : State) : Host.Outcome State Fault Refusal :=
  let p := mciParams q
  let id := bits p 0 16
  let idx := bits p 16 16
  .next (mciFixed 0x0903 8 [(0, 16), (16, 16)] (counterIds.contains id && decide (idx < counterInstances id)) q (fun s =>
    let ok : Bool := match counterFn id idx with
      | some m => isMctp q.who || winRing s (fnOfWho q.who) m
      | none => true
    if !ok then mciStatus 0x0903 q mWindow (violation (fnOfWho q.who) 5 s)
    else
      let s1 := if (id = 0x0301 ∨ id = 0x0302) ∧ !(isMctp q.who) ∧ fnOfWho q.who = idx / 4 then
          updRing (idx / 4) (idx % 4) (fun r =>
            if id = 0x0301 then { r with badNoted := false } else { r with staleNoted := false }) s
        else s
      mciAnswer 0x0903 q mSuccess 0 24
        ((counterValue s id idx).toNat + put (flag (counterSat s id idx)) 64 1 + put s.clk.tick.toNat 128 64) s1) s)

/-- Clear one instance; with an uncorrectable count the next such error is a first one again (R166, R280). -/
def clearCounter (id idx : Nat) (s : State) : State :=
  if id = 0x0705 then { s with logs := { s.logs with dropped := 0 } }
  else
    let s1 := { s with counters := Tab.set 0 s.counters (counterKey id idx) 0 }
    if id = 0x0102 then { s1 with buf := { s1.buf with firstBad := s1.buf.firstBad.erase idx } }
    else if id = 0x0202 then updPc idx (fun p => { p with firstBad := false }) s1
    else s1

/-- COUNTER_CLEAR: a saturating counter, or every instance of it; BAD_PARAM for a wrapping one (R603). -/
def execCounterClear (q : MciReq) (s : State) : Host.Outcome State Fault Refusal :=
  let p := mciParams q
  let id := bits p 0 16
  let idx := bits p 16 16
  let ok := counterIds.contains id && (counterKind id).2 && (idx == 0xFFFF || decide (idx < counterInstances id))
  .next (mciFixed 0x0904 8 [(0, 16), (16, 16)] ok q (fun s =>
    let s1 := if idx = 0xFFFF then (rangeFrom 0 (counterInstances id)).foldl (fun t i => clearCounter id i t) s
      else clearCounter id idx s
    mciStatus 0x0904 q mSuccess s1) s)

/-! ### The fault map and replacement requests (R587, R590) -/

/-- FAULT_MAP_QUERY: a byte range of the 6,240-byte map, cut at its end (R587). -/
def execFaultMapQuery (q : MciReq) (s : State) : Host.Outcome State Fault Refusal :=
  let p := mciParams q
  let off := bits p 0 32
  let len := bits p 32 16
  .next (mciFixed 0x0905 8 [(0, 32), (32, 16)] (decide (1 ≤ len ∧ len ≤ 4064 ∧ off < 6240)) q (fun s =>
    let n := min len (6240 - off)
    mciAnswer 0x0905 q mSuccess 0 n (bits (faultMapBytes s) (8 * off) (8 * n)) s) s)

/-- Clear the named request, or every request (R590). -/
def clearRequests (reason unit : Nat) (s : State) : State :=
  { s with logs := { s.logs with requests := s.logs.requests.map fun r =>
      if reason = 0 ∨ (r.reason = reason ∧ r.unit = unit) then { r with active := false } else r } }

/-- REPLACEMENT_QUERY and its CLEAR. -/
def replacementCommand (q : MciReq) (s : State) : State :=
  let p := mciParams q
  let reason := bits p 16 16
  let unit := bits p 32 32
  mciFixed 0x0906 8 [(0, 1), (16, 16), (32, 32)] true q (fun s =>
    if bit1 p 0 && isMctp q.who then mciStatus 0x0906 q mNotPermitted s
    else
      let s1 := if bit1 p 0 then evaluateRequests (clearRequests reason unit s) else s
      let all := activeRequests s1
      let l := (if bit1 p 0 then all else all.filter fun r =>
        decide (reason < r.reason ∨ (reason = r.reason ∧ unit ≤ r.unit))).take 250
      mciAnswer 0x0906 q mSuccess 0 (16 + 16 * l.length)
        (capability s1 + concatBytes 16 (l.map requestBytes) * 2 ^ 128) s1) s

/-- REPLACEMENT_QUERY: the capability summary and the active requests from a key on (R590). -/
def execReplacementQuery (q : MciReq) (s : State) : Host.Outcome State Fault Refusal := .next (replacementCommand q s)

/-- REPLACEMENT_CLEAR: with CLEAR set, requests are cleared, and those whose condition holds are raised again (R590,
R607). -/
def execReplacementClear (q : MciReq) (s : State) : Host.Outcome State Fault Refusal := .next (replacementCommand q s)

end Sys2Proof.Machine
end

