-- ==== Sys2Proof/Machine/Operands.lean ====
section
/-! DEFINITION. The operand forms of scheduled events: input registers with their link check, slice lines with the
merge stage, index entries, Fold operands, gradients (R143, R145, R174 to R177, R182, R507). -/

namespace Sys2Proof.Machine

/-- Run a scheduled event at its tick: advance to it, then act. An event that the timetable does not hold now leaves
the state unchanged. -/
def atEvent (r : EvRef) (kind : Nat) (s : State) (act : Ready → State → State) :
    Host.Outcome State Fault Refusal :=
  match readyEvent s r kind with
  | none => .next s
  | some rd => .next (act rd (advance rd.wait s))

/-- Line of the event's occurrence (R121, R123). -/
def Ready.line (rd : Ready) (r : EvRef) : Nat := rd.image.lineOf r.router rd.ctx rd.ev r.occ

/-- A beat as the receiving router switches it: a parity mismatch sets POISON and recomputes PAR (R145). -/
def checkedBeat (b : Beat) : Beat := if b.valid && !b.parityOk then Beat.of b.data true else b

/-- The beat that an event takes from a port, `lag` ticks after its arrival, checked; a mismatch is reported as a data-path
breach, once: the beat stands corrected in its register for every other event that takes it (R145). -/
def takeInput (k router inp outs : Nat) (bsel : Bool) (lag : Nat) (s : State) : Beat × State :=
  let p := part s k
  let reg := inputReg router inp outs bsel
  let b := inputBeat p.pipe router reg (p.ptick - lag)
  if b.valid && !b.parityOk then
    (checkedBeat b, dataPathBreach 0x4003 router (updPipe k (fun q => { q with arrivals := q.arrivals.map fun a =>
      if a.router == router && a.port == reg && a.at_ == p.ptick - lag then { a with beat := checkedBeat a.beat } else a }) s))
  else (b, s)

/-- The read of the merge stage that a READ of a line follows (R175). -/
def leaderOf (p : Part) (router line : Nat) (ctx : Bool) : Option MergeRead :=
  p.pipe.reads.find? fun m =>
    m.byRead && m.router == router && m.line == line && m.ctx == ctx && decide (p.ptick ≤ m.at_ + 3) &&
    decide (m.at_ < p.ptick) && m.at_ / 4096 == p.ptick / 4096 &&
    !(p.pipe.writes.any fun w => !w.control && w.router == router && decide (w.lo ≤ line) &&
      decide (line < w.lo + w.n) && decide (m.at_ < w.at_) && decide (w.at_ < p.ptick))

/-- The read of the merge stage that serves a GATHER of a line (R177). -/
def mergeOf (p : Part) (router line : Nat) : Option MergeRead :=
  p.pipe.reads.find? fun m =>
    m.router == router && m.line == line && decide (p.ptick ≤ m.at_ + 3) && decide (m.at_ < p.ptick) &&
    m.at_ / 4096 == p.ptick / 4096 &&
    !(p.pipe.writes.any fun w => w.router == router && w.hit == some line &&
      decide (m.at_ ≤ w.at_) && decide (w.at_ < p.ptick))

/-- Read a line into the router's SLICE input, from the merge stage where a leader serves it (R174, R175). The beat
stands in the register two ticks later, so that the event of tick t + 3 takes it (R146). -/
def readInto (k router line : Nat) (ctx byRead : Bool) (leader : Option MergeRead) (s : State) : State :=
  match leader with
  | some m =>
    updPart k (fun p => { p with pipe := arrive router portSlice m.beat (p.ptick + 2) p.pipe })
      (countUp 0x0103 router s)
  | none =>
    let (b, s1) := portRead k router line ctx byRead s
    updPart k (fun p => { p with pipe := arrive router portSlice b (p.ptick + 2) p.pipe }) s1

/-- Key of an index window. -/
def windowKey (router id : Nat) : Nat := 16 * router + id

/-- What the next index entry of a window says (Table 3.5): the line to access, or a suppression and whether it
counts as out of range (R94). -/
inductive IndexHit
  | line (l : Nat)
  | suppressed (counted : Bool)
  deriving DecidableEq, Repr

/-- Resolve index entry i of a window (R93, R94). -/
def indexEntry (im : Image) (router ctx : Nat) (w : IndexWindow) (st : IndexState) : IndexHit :=
  let e := bits st.entries.toNat (16 * st.next) 16
  if 32 ≤ st.next ∨ bit1 e 15 then .suppressed false
  else if bits e 0 10 > w.sizeM1 then .suppressed true
  else .line (w.base + (if w.ctx then im.ctxBase router ctx else 0) + bits e 0 10)

/-- Consume one index entry of a window. -/
def useEntry (key : Nat) (counted : Bool) (k : Nat) (s : State) : State :=
  let s1 := { s with buf := { s.buf with
    index := Tab.upd IndexState.none s.buf.index key fun st => { st with next := min 32 (st.next + 1) } } }
  if counted then updRun k (fun r => { r with oor := satInc r.oor }) s1 else s1

/-- A Fold operand in accumulator form with its poison: the accumulator, or the beat of an input register; an idle
beat counts as zero, sets POISON and is reported as IDLE_OPERAND (R182, R183, R198). -/
def foldOperand (k router port outs : Nat) (bsel : Bool) (type : Nat) (s : State) :
    (BitVec 1024 × Bool) × State :=
  if port = portFold then
    let a := Tab.get FoldAcc.zero s.buf.acc router
    ((a.value, a.poison), s)
  else
    let (b, s1) := takeInput k router port outs bsel 1 s
    if b.valid then ((foldWiden type b.data, b.poison), s1)
    else ((0, true), dataPathBreach 0x4009 router (countIdleOp router s1))

/-- The gradient of an UPDATE event as 32 binary32 elements; none for an idle beat (R507, R143). -/
def gradient (k router inp : Nat) (bsel : Bool) (s : State) : Option (BitVec 1024 × Bool) × State :=
  if inp = portFold then
    let a := Tab.get FoldAcc.zero s.buf.acc router
    (some (a.value, a.poison), s)
  else
    let (b, s1) := takeInput k router inp 0 bsel 1 s
    (if b.valid then some (gradOfBeat b.data, b.poison) else none, s1)

/-- Run frame of the executing run; 0 in the idle frame. -/
def runFrameOf (p : Part) : Nat := match p.run with
  | none => 0
  | some r => r.runFrame

end Sys2Proof.Machine
end

