-- ==== Sys2Proof/Machine/Compute.lean ====
section
/-! DEFINITION. Tile dispatch, Fold steps, random numbers and the update engine (R182 to R190, R214 to R218, R500 to
R510). -/

namespace Sys2Proof.Machine

/-- The reservations of a dispatch at partition tick t (R216). -/
def dispatchDues (t router line : Nat) (c : OpClass) : List Due :=
  (rangeFrom 0 c.rd).map (fun k => ⟨t + 1 + k, .dispRead router (line + k)⟩) ++
  (rangeFrom 0 c.wr).map (fun k => ⟨t + c.latency + k, .dispWrite router (line + c.woff + k)⟩)

/-- The reservations of a dispatch at a cell whose cluster code is 1: half width (R245, Table 8.3). -/
def dispatchHalfDues (t router line : Nat) (c : OpClass) : List Due :=
  (rangeFrom 0 c.rd).map (fun k => ⟨t + 1 + 2 * k, .dispRead router (line + k)⟩) ++
  (rangeFrom 0 c.wr).map (fun k => ⟨t + c.latency + c.rd + 1 + 2 * k, .dispWrite router (line + c.woff + k)⟩)

/-- The timing of a cluster by the image's FAULTDEP code (R257). -/
def duesFor (im : Image) (t router line : Nat) (c : OpClass) : List Due :=
  if bits im.dep.clusters (2 * router) 2 = 1 then dispatchHalfDues t router line c
  else dispatchDues t router line c

/-- DISPATCH: the dispatch packet goes to the cluster above, and the slice port is reserved for the class's operand
reads and result writes (R90, R214, R216). -/
def execDispatch (e : EvRef) (s : State) : Host.Outcome State Fault Refusal :=
  atEvent e kDispatch s fun rd s1 =>
    match rd.image.opClass (bits rd.ev.arg 0 8) with
    | none => s1
    | some c =>
      let line := rd.line e
      addDue rd.part (duesFor rd.image (part s1 rd.part).ptick e.router line c)
        (sendDispatch e.router (dispatchPacket c.cls line rd.ctx e.occ) s1)

/-- The next reserved result write of a router's cluster: partition tick and line. -/
def nextResult (p : Part) (router : Nat) : Option (Nat × Nat) :=
  p.pipe.due.foldl (fun acc d => match d.work with
    | .dispWrite r l =>
      if r = router then
        match acc with
        | none => some (d.at_, l)
        | some (t, m) => if d.at_ < t then some (d.at_, l) else some (t, m)
      else acc
    | _ => acc) none

/-- DISPATCH_RESULT_WRITE: on the reserved tick the slice writes the UP beat, judged whole once its lanes of one tick, or of two
at half width, are captured (R241, R244); a beat with VALID = 0 is a
socket stall and the line stays, a parity mismatch is a data-path breach and the line is written poisoned (R216,
R218). -/
def execDispatchResultWrite (router : Nat) (up : List GroupTick) (s : State) : Host.Outcome State Fault Refusal :=
  match partOf s router with
  | none => .next s
  | some k =>
    let p := part s k
    match nextResult p router with
    | none => .next s
    | some (t, line) =>
      let wait := t - p.ptick
      if !tickRuns s || !s.clk.frameDone || p.parked || decide (4096 ≤ frameOffset s + wait) then .next s
      else
        let s1 := dropDue k ⟨t, .dispWrite router line⟩ (advance wait s)
        let b := captured s1 router up
        if !b.valid then .next (noteWrite k router line 1 none false (socketStall router false s1))
        else
          let s2 := if b.parityOk then s1 else dataPathBreach 0x300D router s1
          .next (noteLine k router line (schedWrite router line (checkedBeat b) fullMask s2))

/-- FOLD_STEP: two operands are combined and the result is delivered at τ + 2 (R182, R184, R186). -/
def execFoldStep (e : EvRef) (s : State) : Host.Outcome State Fault Refusal :=
  atEvent e kFold s fun rd s1 =>
    match rd.image.foldProg rd.ev.arg with
    | none => s1
    | some prog =>
      match rd.image.foldStep prog rd.pattern e.router e.index with
      | none => s1
      | some st =>
        let ((a, pa), s2) := foldOperand rd.part e.router st.first rd.ev.out rd.ev.bsel prog.type s1
        let ((b, pb), s3) := foldOperand rd.part e.router st.second rd.ev.out rd.ev.bsel prog.type s2
        let t := (part s3 rd.part).ptick
        addDue rd.part [⟨t + 2, .foldOut e.router rd.ev.inp rd.ev.out (foldCombine prog.type a b) prog.type prog.sr (pa || pb)
          rd.ev.bsel⟩] s3

/-- RNG: the generator's 128 bits go to a quarter of a slice line at t + 3, or to the Fold adder (R503, R504). -/
def execRng (e : EvRef) (s : State) : Host.Outcome State Fault Refusal :=
  atEvent e kRng s fun rd s1 =>
    match rd.image.trainDesc rd.ev.arg with
    | none => s1
    | some d =>
      let p := part s1 rd.part
      let (prm, bad) := paramLine s1 e.router d.paramLine
      let tau := rd.ev.offset e.occ
      let out := mkRng (BitVec.ofNat 64 d.key)
        (rngCounter d.ctrBase e.router tau (runFrameOf p) rd.ctx (prmStep prm))
      if bit1 rd.ev.out portSlice then
        addDue rd.part [⟨p.ptick + 3, .rngWrite e.router (rd.line e) (tau % 4) out bad⟩] s1
      else updPipe rd.part (fun q => { q with foldBits := ⟨e.router, p.ptick, out, bad⟩ :: q.foldBits }) s1

/-- UPDATE: the gradient is captured and LINE read at t; the rest of the step falls due at t + 1 to t + 4 (R507 to
R510). An idle gradient leaves the lines unchanged and is the breach IDLE_OPERAND (R143). -/
def execUpdate (e : EvRef) (s : State) : Host.Outcome State Fault Refusal :=
  atEvent e kUpdate s fun rd s1 =>
    match rd.image.trainDesc rd.ev.arg with
    | none => s1
    | some d =>
      match gradient rd.part e.router rd.ev.inp rd.ev.bsel s1 with
      | (none, s2) => dataPathBreach 0x4009 e.router (countIdleOp e.router s2)
      | (some (g, gp), s2) =>
        let p := part s2 rd.part
        let (prm, bad) := paramLine s2 e.router d.paramLine
        let (b, s3) := portRead rd.part e.router (rd.line e) false false s2
        addDue rd.part [⟨p.ptick + 1, .updRead
          { router := e.router, line := rd.line e, desc := d, offset := rd.ev.offset e.occ, runFrame := runFrameOf p
            ctx := rd.ctx, grad := g, gradPoison := gp, params := prm, paramPoison := bad, m0 := b.data
            m0Poison := b.poison, m1 := 0, m1Poison := false }⟩] s3

end Sys2Proof.Machine
end

