-- ==== Sys2Proof/Machine/Tiles.lean ====
section
/-! DEFINITION. The tile socket: status, unreserved beats, identity discovery, boot images, spares and sensor frames
(R218 to R239). -/

namespace Sys2Proof.Machine

/-! ### Status and unreserved beats (R218, R234) -/

/-- A stall of a cell lies within the last 8 ticks. -/
def recentStall (s : State) (router : Nat) : Option (Nat × Nat × Bool) :=
  s.tiles.stalls.find? fun e => e.1 == router && decide (s.clk.tick.toNat ≤ e.2.1 + 8)

/-- A stall that a PERR of the same cell follows within 8 ticks is one cause with it (R218). The spec does not say how the
report of the stall is held back. DESIGN CHOICE, log entry 16: its FAULT packet, if still queued, is withdrawn, and a breach that
it was the first to raise becomes the data-path breach. -/
def withdrawStall (router : Nat) (s : State) : State := match recentStall s router with
  | none => s
  | some e =>
    let s1 := { s with
      ctl := { s.ctl with faultQ := s.ctl.faultQ.eraseP fun p => p.reason == 0x300B && p.unit == router }
      tiles := { s.tiles with stalls := s.tiles.stalls.erase e } }
    match partOf s1 router with
    | some k => updRun k (fun r => { r with
        breach := if e.2.2 && r.breach == some stTileFault then some stDataPath else r.breach }) s1
    | none => s1

/-- A bond parity breach of a cell (R218). -/
def bondParity (router : Nat) (s : State) : State :=
  let now := s.clk.tick.toNat
  let s1 := { s with tiles := { s.tiles with
    perrs := (router, now) :: s.tiles.perrs.filter fun e => decide (now ≤ e.2 + 8) } }
  dataPathBreach 0x300D router (withdrawStall router s1)

/-- SOCKET_STATUS: the status bits that the base die captured from a cell (Table 7.10). -/
def execSocketStatus (router : Nat) (status : BitVec 4) (s : State) : Host.Outcome State Fault Refusal :=
  let s1 := if status.getLsbD 1 then bondParity router s else s
  let s2 := if status.getLsbD 0 then socketStall router false s1 else s1
  .next (if status.getLsbD 2 then socketStall router true s2 else s2)

/-- QUIESCE was sent to the partition less than 10 µs ago (R234). -/
def quiescing (s : State) (p : Part) : Bool :=
  p.quiesceAt != 0 && decide (s.clk.wallPs < p.quiesceAt + 10000000)

/-- UNRESERVED_UP_BEAT: within the bound after a QUIESCE the beat is discarded, otherwise it is a tile fault (R234). -/
def execUnreservedUpBeat (router : Nat) (beat : BeatIn) (s : State) : Host.Outcome State Fault Refusal :=
  if !beat.valid then .next s
  else match partOf s router with
    | some k => if quiescing s (part s k) then .next s else .next (socketStall router false s)
    | none => .next (socketStall router false s)

/-! ### Discovery (R221 to R228, Table 7.14) -/

/-- A tile's power begins: VDDT at 750 mV, clocks and beacons are held while TRST_N is low (R226, R560). -/
def startTile (t : Nat) (s : State) : State :=
  updTile t (fun x => { Tile.reset with step := .power, vddt := true, readings := x.readings }) s

/-- Vendors among the committed tiles. -/
def readyVendors (s : State) : List Nat :=
  (rangeFrom 0 16).filterMap fun t => if (tileAt s t).step = .ready then some (tileAt s t).vendor else none

/-- The running combination holds one KIND 4 package for each vendor among the committed tiles; outside the start
sequence the change is checked at once (R260, R375, R382). -/
def tileCombination (s : State) : State :=
  let s1 := { s with fw := { s.fw with
    running := s.fw.running.filter fun p => p.kind != 4 || (readyVendors s).contains p.vendor } }
  if s.boot.starting then s1 else recheckVet s1

/-- What becomes of a tile that fails discovery: its clusters fused at the next merge, TRST_N low, VDDT off (R227). -/
def dropTile (t reason : Nat) (s : State) : State :=
  let cells := (rangeFrom 0 1024).map (cellRouter t)
  let s1 := updTile t (fun x => { x with step := .failed, trst := false, vddt := false, vddtReached := false, failReason := reason }) s
  tileCombination { s1 with fmap := { s1.fmap with
    pendCluster := Tab.updAll 2 s1.fmap.pendCluster cells fun _ _ => 0 } }

/-- A tile fails discovery, and its reason is logged (R227). -/
def failTile (t reason detail : Nat) (s : State) : State := dropTile t reason (mpEvent reason 5 t detail s)

/-- HELLO_RETRY: with TRST_N low the base die has held power, clocks and beacons for 10 µs: it deasserts TRST_N, and the first
HELLO goes out 60 µs later; afterwards 100 µs have passed without IDENT, and the tenth HELLO was the last (R226, R227). -/
def execHelloRetry (t : Nat) (s : State) : Host.Outcome State Fault Refusal :=
  let x := tileAt s t
  if !mpRuns s then .next s
  else if x.step = .power then
    .next (sendTile t mHello 0 0 0 (updTile t (fun y => { y with step := .hello, trst := true, hellos := 1 }) s))
  else if x.step ≠ .hello then .next s
  else if 10 ≤ x.hellos then .next (failTile t 0x3001 0 s)
  else .next (sendTile t mHello 0 0 0 (updTile t (fun y => { y with hellos := y.hellos + 1 }) s))

/-- Bytes of a message's chunk content. -/
def chunkBytes : Nat := 92

/-- The boot image for a tile: its vendor's package, valid now, of the interface level it requires (R227, R228). -/
def bootImage (s : State) (x : Tile) : Option Package :=
  match tileBootPackage s x.vendor with
  | none => none
  | some p =>
    let f := fwSlot s s.fw.useSlot
    let ok : Bool := match f.directory with
      | none => false
      | some ds => ds.any fun d => d.kind == 4 && d.vendor == x.vendor && packageStatus s f d == mSuccess
    if ok ∧ p.ifLevel = x.bootIf then some p else none

/-- The first reason of R227 for which an identity record is refused. Where several hold the spec names none: DESIGN CHOICE, log
entry 18: they are tested in the order of R227, and CLASSES = 0 counts as an invalid class entry. -/
def identFault (s : State) (t : Nat) (x : Tile) : Option Nat :=
  if x.socketLevel ≠ 1 then some 0x3003
  else if x.failBeacon then some 0x3004
  else if x.orient ≠ tileOrientation t then some 0x3005
  else if x.classCount = 0 ∨ !(x.classes.all OpClass.valid) then some 0x3006
  else if x.sensors ≠ 8 then some 0x3007
  else if (bootImage s x).isNone then some 0x300A
  else none

/-- Bytes of an identity record once its class count has arrived; 64 before. -/
def identLength (x : Tile) : Nat := 64 + 8 * x.classCount

/-- The identity record is complete: it is judged, and bond training begins (R227, R249). -/
def identDone (t : Nat) (s : State) : State :=
  let x := tileAt s t
  let s1 := if x.beaconBad = 0 then s else mpEvent 0x3010 0 t x.beaconBad s
  match identFault s t x with
  | some r => failTile t r 0 s1
  | none => updTile t (fun y => { y with step := .train, chunk := 0, repeats := 0, trainFrom := s.clk.tick.toNat + 1 }) s1

/-- A tile in its steps before `ready`, or ready: it takes messages. -/
def Tile.talks (x : Tile) : Bool := match x.step with
  | .off | .power | .failed | .test => false
  | _ => true

/-- The tile sends the chunk that the MP waits for. -/
def identExpected (x : Tile) (d : Discovery) : Bool :=
  (x.step == .hello || x.step == .ident) && d.chunk == x.chunk

/-- A chunk that is not expected: one that came before is acknowledged again, one too early is not (R226). -/
def ackAgain (t chunk seq : Nat) (over_ : Bool) (s : State) : State :=
  if (tileAt s t).talks && (over_ || decide (chunk < (tileAt s t).chunk)) then sendAck t seq s else s

/-- IDENT: a chunk of the identity record arrives and is acknowledged (R224, R226). -/
def execIdent (t : Nat) (rx : List SvcClock) (s : State) : Host.Outcome State Fault Refusal :=
  match heard s t mIdent rx with
  | none => .next s
  | some d =>
    let x := tileAt s t
    if !identExpected x d then .next (ackAgain t d.chunk d.seq (x.step != .hello && x.step != .ident) s)
    else
      let s1 := updTile t (fun y => { y with
        step := .ident, chunk := d.chunk + 1, seqIn := BitVec.ofNat 8 d.seq
        ident := y.ident + (d.content % 2 ^ (8 * chunkBytes)) * 2 ^ (8 * chunkBytes * d.chunk) }) s
      let s2 := sendAck t d.seq s1
      let n := if d.chunk = 0 then max (identLength (tileAt s2 t)) 64 else identLength (tileAt s2 t)
      if n ≤ chunkBytes * (d.chunk + 1) then .next (identDone t s2) else .next s2

/-- LANES delivery begins (R248). -/
def startLanes (t : Nat) (s : State) : State :=
  startTransfer t (tileMap s.lanes t) (updTile t (fun y => { y with step := .lanes }) s)

/-- A group's result in its place: of a tile that is judged as a whole, an invalid one is noted without an event of its own
(R256). -/
def trainGroup (t : Nat) (whole : Bool) (c : CellTrain) (s : State) (role : Nat) : State :=
  let b := bondBundle t c.cell role
  match trainStatus c role with
  | 0 => calValid b (trainFailed c role) s
  | st + 1 => if whole then noteInvalid b (st + 1) s else calInvalid b (st + 1) s

/-- The result of one cell; a fault of an SVC site without a spare enters the volatile map (R240). -/
def trainCell (t : Nat) (whole : Bool) (s : State) (c : CellTrain) : State :=
  let s1 := (trainedRoles t c.cell).foldl (trainGroup t whole c) s
  if (trainedRoles t c.cell).contains 3 && fixedFault c && trainStatus c 3 == 0 then
    { s1 with lanes := { s1.lanes with
      volatile := s1.lanes.volatile ++ ((svcFixed.filter fun k => siteBad c 3 k).map (laneEntry (svcBundle t))) } }
  else s1

/-- A group of a cell shows NO_PATTERN or NO_LOOP. -/
def cellSilent (t : Nat) (c : CellTrain) : Bool :=
  (trainedRoles t c.cell).any fun r => trainStatus c r == 1 || trainStatus c r == 2

/-- Every cell of a tile shows NO_PATTERN or NO_LOOP: it is judged per tile (R256). -/
def tileSilent (t : Nat) (cells : List CellTrain) : Bool :=
  (rangeFrom 0 1024).all fun n => cells.any fun c => c.cell == n && cellSilent t c

/-- The status of a tile that is judged as a whole: NO_PATTERN where every cell shows it, else NO_LOOP. -/
def tileStatus (t : Nat) (cells : List CellTrain) : Nat :=
  if cells.all fun c => (trainedRoles t c.cell).any fun r => trainStatus c r == 1 then 1 else 2

/-- The sites of a tile are judged (R250 to R256). DESIGN CHOICE, log entry 27: the one report of a silent tile names the DN group
of its cell 0. -/
def judgeBonds (t : Nat) (cells : List CellTrain) (s : State) : State :=
  if tileSilent t cells then cells.foldl (trainCell t true) (calEvent (bondBundle t 0 0) (tileStatus t cells) s)
  else cells.foldl (trainCell t false) s

/-- The MP consents to the width changes of a tile's bonds and sends its map, which LANES must give whole; a tile whose service
port has no working width fails discovery (R248, R253, Table 8.2). DEDUCED, log entry 26: the consent of step 8 is given here for
bonds, since no later LANES may add a failed lane. DESIGN CHOICE, log entry 24: a fault of S70 to S75 is reported as 0x2004. -/
def trainedTile (t : Nat) (s : State) : State :=
  let s1 := (s.lanes.consent.filter fun c => entKind c.bundle == 1 && entTile c.bundle == t).foldl (fun u c => consentTo c u) s
  if !svcLost s1 t then (if 8192 < (tileMap s1.lanes t).length then failTile t 0x2004 0 s1 else startLanes t s1)
  else dropTile t 0x2004 (if bundleWidth s1.lanes.inForce (svcBundle t) = 0 then s1 else mpEvent 0x2004 5 (svcBundle t) 0 s1)

/-- BOND_TRAINING_DONE: the sequence of Table 8.5 ends after 1,048,576 ticks, and the sites are judged; without a running MP
the width changes wait (R249 to R256, R269). -/
def execBondTrainingDone (t : Nat) (cells : List CellTrain) (s : State) : Host.Outcome State Fault Refusal :=
  if (tileAt s t).step ≠ .train ∨ !tickRuns s then .next s
  else
    let last := (tileAt s t).trainFrom + 1048575
    let s1 := if s.clk.tick.toNat < last then runTo last s else s
    let s2 := judgeBonds t cells (updTile t (fun y => { y with step := .trained }) s1)
    .next (if mpRuns s2 then trainedTile t s2 else s2)

/-- One chunk of a boot image's payload (R228). -/
def bootChunk (s : State) (p : Package) (chunk : Nat) : Nat :=
  let f := fwSlot s s.fw.useSlot
  let off := match f.directory with
    | none => 0
    | some ds => match ds.find? fun d => d.kind == 4 && d.vendor == p.vendor with
      | none => 0
      | some d => d.offset
  f.bytes (off + payloadStart p.tested.length + chunkBytes * chunk) (min chunkBytes (p.payload - chunkBytes * chunk))

/-- Send a BOOT chunk. -/
def sendBoot (t chunk : Nat) (s : State) : State :=
  match bootImage s (tileAt s t) with
  | none => failTile t 0x300A 0 s
  | some p => sendTile t mBoot chunk (bootChunk s p chunk) (min chunkBytes (p.payload - chunkBytes * chunk)) s

/-- VDDT_REACHED: the regulator stands at VDDT_MV, and a running MP sends the first BOOT chunk (R560). -/
def execVddtReached (t : Nat) (s : State) : Host.Outcome State Fault Refusal :=
  if (tileAt s t).step ≠ .slew then .next s
  else
    let n := match bootImage s (tileAt s t) with
      | none => 0
      | some p => cdiv p.payload chunkBytes
    let s1 := updTile t (fun y => { y with step := .boot, vddtReached := true, chunk := 0, repeats := 0, bootChunks := n }) s
    .next (if mpRuns s then sendBoot t 0 s1 else s1)

/-- Cells that the spare state reports as fused: codes 9 to 15 (Table 7.13). -/
def fusedCells (t : Nat) (x : Tile) : List Nat :=
  ((rangeFrom 0 1024).filter fun n => decide (9 ≤ x.spareCode (n % 32) (n / 32))).map (cellRouter t)

/-- READY: the spare state enters the next merge, and the vendor's package is one of the running combination; a tile outside
every partition, or of one that is gated, is gated (R227, R375, R540, R541). -/
def tileReady (t : Nat) (s : State) : State :=
  let outside := match partOf s (cornerRouter t) with
    | none => true
    | some k => (part s k).idleState != 0
  let s1 := updTile t (fun y => { y with
    step := .ready, chunk := 0, repeats := 0, gated := outside }) s
  let s2 := { s1 with fmap := { s1.fmap with
    pendCluster := Tab.updAll 2 s1.fmap.pendCluster (fusedCells t (tileAt s t)) fun _ _ => 0 } }
  let s3 := if s.boot.starting then { s2 with pm := { s2.pm with shut := s2.pm.shut.filter fun k => k != t } } else s2
  tileCombination (match tileBootPackage s3 (tileAt s t).vendor with
    | some p => runPackage p s3
    | none => s3)

/-- The chunk of a LANES transfer is acknowledged: the next one follows, or the map is in force at both ends (R222, R248). -/
def lanesAcked (t : Nat) (s : State) : State :=
  let x := tileAt s t
  if x.chunk + 1 < x.laneChunks then
    sendLanes t (x.chunk + 1) (updTile t (fun y => { y with chunk := y.chunk + 1, repeats := 0 }) s)
  else updTile t (fun y => { y with
    step := if x.step == .lanes then .slew else x.step, full := true, chunk := 0, laneChunks := 0, repeats := 0 }) s

/-- DISCOVERY_ACK: the tile acknowledges the last message, and the next step of Table 7.14 proceeds; a LANES transfer to a
committed tile goes on in the same way (R223, R226, R248, R258). -/
def execDiscoveryAck (t : Nat) (rx : List SvcClock) (s : State) : Host.Outcome State Fault Refusal :=
  match heard s t mAck rx with
  | none => .next s
  | some d =>
    let x := tileAt s t
    let seq := BitVec.ofNat 8 (bits d.content 0 8)
    if x.laneChunks ≠ 0 then .next (if seq = x.laneSeq then lanesAcked t s else s)
    else if seq ≠ x.seqOut - 1 then .next s
    else match x.step with
      | .boot =>
        if x.chunk + 1 < x.bootChunks then
          .next (sendBoot t (x.chunk + 1) (updTile t (fun y => { y with chunk := y.chunk + 1, repeats := 0 }) s))
        else .next (updTile t (fun y => { y with step := .bootDone, chunk := 0, repeats := 0 }) s)
      | .commit => .next (tileReady t s)
      | _ => .next s

/-- BOOT_DONE: 0 accepted and acknowledged by its own SEQ, 1 and 2 fail the tile (R223, R226, R227). The spec gives no other code a
meaning. DESIGN CHOICE, log entry 17: another code is acknowledged alone. -/
def execBootDone (t : Nat) (rx : List SvcClock) (s : State) : Host.Outcome State Fault Refusal :=
  match heard s t mBootDone rx with
  | none => .next s
  | some d =>
    if (tileAt s t).step ≠ .bootDone then .next (ackAgain t 0 d.seq ((tileAt s t).step == .spares) s)
    else match bits d.content 0 32 with
      | 0 => .next (sendAck t d.seq (updTile t (fun y => { y with
          step := .spares, chunk := 0, repeats := 0, spares := 0, seqIn := BitVec.ofNat 8 d.seq }) s))
      | 1 => .next (failTile t 0x3008 0 (sendAck t d.seq s))
      | 2 => .next (failTile t 0x3009 0 (sendAck t d.seq s))
      | _ => .next (sendAck t d.seq s)

/-- SPARES: a chunk of the 512-byte spare state; after the sixth the MP sends COMMIT (R225, R226). -/
def execSpares (t : Nat) (rx : List SvcClock) (s : State) : Host.Outcome State Fault Refusal :=
  match heard s t mSpares rx with
  | none => .next s
  | some d =>
    let x := tileAt s t
    if x.step ≠ .spares ∨ d.chunk ≠ x.chunk then .next (ackAgain t d.chunk d.seq (x.step == .commit) s)
    else
      let n := if d.chunk = 5 then 52 else chunkBytes
      let s1 := updTile t (fun y => { y with
        chunk := d.chunk + 1, seqIn := BitVec.ofNat 8 d.seq
        spares := y.spares + (d.content % 2 ^ (8 * n)) * 2 ^ (8 * chunkBytes * d.chunk) }) s
      let s2 := sendAck t d.seq s1
      if d.chunk + 1 < 6 then .next s2
      else .next (sendTile t mCommit 0 0 0 (updTile t (fun y => { y with step := .commit, repeats := 0 }) s2))

/-- TILE_ERROR: the MP logs the tile's code and acknowledges the message (R223, R226, Table 18.2). -/
def execTileError (t : Nat) (rx : List SvcClock) (s : State) : Host.Outcome State Fault Refusal :=
  match heard s t mError rx with
  | none => .next s
  | some d => .next (mpEvent 0x300F 0 t (bits d.content 0 32) (sendAck t d.seq s))

/-- Send the present step's message again. -/
def repeatStep (t : Nat) (s : State) : State :=
  let x := tileAt s t
  match x.step with
  | .hello | .ident => sendTile t mHello 0 0 0 (updTile t (fun y => { y with ident := 0, chunk := 0, step := .hello }) s)
  | .lanes | .ready => sendLanes t x.chunk s
  | .boot => sendBoot t x.chunk s
  | .bootDone => sendBoot t (x.bootChunks - 1) s
  | .spares => sendAck t x.seqIn.toNat s
  | .commit => sendTile t mCommit 0 0 0 s
  | _ => s

/-- A step of Table 7.14 that a message of the tile ends is in progress. -/
def inDiscovery (x : Tile) : Bool := match x.step with
  | .hello | .ident | .lanes | .boot | .bootDone | .spares | .commit => true
  | .ready => x.laneChunks != 0
  | _ => false

/-- DISCOVERY_TIMEOUT: a bound of Table 7.14 expires; the step is repeated twice, and then the tile fails (R227). A tile whose
training ended while the MP was away goes on with it (R269). -/
def execDiscoveryTimeout (t : Nat) (s : State) : Host.Outcome State Fault Refusal :=
  let x := tileAt s t
  if !mpRuns s then .next s
  else if x.step = .trained then .next (trainedTile t s)
  else if !inDiscovery x then .next s
  else if x.repeats < 2 then .next (repeatStep t (updTile t (fun y => { y with repeats := y.repeats + 1 }) s))
  else .next (failTile t 0x3002 (if x.step == .ready then 3 else x.step.row) s)

/-! ### Sensor frames (R232, R239) -/

/-- CRC-16/CCITT of eight readings, sensor 0 first, most significant bit first. -/
def frameCrc (init : BitVec 16) (rs : List (BitVec 16)) : BitVec 16 :=
  rs.foldl (fun c r => (rangeFrom 0 16).foldl (fun d i => crc16Bit d (r.getLsbD (15 - i))) c) init

/-- TILE_SENSOR_FRAME: eight readings with their CRC; a bad CRC or an invalid reading makes the
frame unusable; a usable frame is judged sensor by sensor (R232, R239, R521). -/
def execTileSensorFrame (t : Nat) (readings : List (BitVec 16)) (crc : BitVec 16) (s : State) :
    Host.Outcome State Fault Refusal :=
  let x := tileAt s t
  if !x.trst then .next s
  else
    let good := readings.length == 8 && frameCrc Config.crc16Init readings == crc && !(readings.contains 0x8000#16)
    let s1 := updTile t (fun y => { y with readings := readings, usable := good }) s
    let s2 := noteCoverage (t + 1) (if good then usableFrame t readings s1 else unusableFrame t s1)
    .next (if !pmRuns s then s1 else evaluateFor (0xA003, t + 1) (coverageLow s2 (t + 1)) s2)

end Sys2Proof.Machine
end

