-- ==== Sys2Proof/Machine/Merge.lean ====
section
/-! DEFINITION. Fault-map merges, consents, stitch training, retraining in service, the release of held partitions and
stand-alone tests (R108, R112, R251 to R264). -/

namespace Sys2Proof.Machine

/-! ### Merging (R108, R253, R254, R256, R257) -/

/-- The field bank takes one entry; a full bank is reported once and kept for the thresholds (R254). -/
def fieldWrite (e : Nat) (s : State) : State :=
  if s.lanes.fused.contains e then s
  else if s.lanes.field.length < 512 then { s with lanes := { s.lanes with field := s.lanes.field ++ [e] } }
  else if s.lanes.fieldFull then s
  else mpEvent 0x2005 5 0 0 { s with lanes := { s.lanes with fieldFull := true } }

/-- At a cold start, lanes found failed at it and at the one before enter the field bank (R254). -/
def fieldWrites (s : State) : State :=
  if !(s.boot.cold && s.boot.starting) then s
  else (s.lanes.foundNow.filter fun e => s.lanes.seenCold.contains e).foldl (fun t e => fieldWrite e t) s

/-- A cluster is recorded as fused in the volatile map, with its event (R256, R260). -/
def fuseCluster (router : Nat) (s : State) : State :=
  let s1 := { s with fmap := { s.fmap with pendCluster := Tab.set 2 s.fmap.pendCluster router 0 } }
  if s.fmap.clusterCode router = 0 then s1 else mpEvent 0x300E 5 router 0 s1

/-- Cells and columns that lane entries name. -/
def namedCells (es : List Nat) : List (Nat × Nat) :=
  ((es.filter fun e => entKind e == 1).map fun e => (entTile e, entCell e)).eraseDups
def namedColumns (es : List Nat) : List Nat := ((es.filter fun e => entKind e == 2).map entColumn).eraseDups

/-- Cluster codes after a merge: no wider than before, than the findings, than the lane map allows. -/
def mergedClusters (s : State) : Tab Nat :=
  let es := s.lanes.inForce
  let m1 := s.fmap.pendCluster.foldl (fun m e => Tab.upd 2 m e.1 fun c => min c e.2) s.fmap.cluster
  (namedCells es).foldl (fun m c => Tab.upd 2 m (cellRouter c.1 c.2) fun w => min w (cellWidth es c.1 c.2)) m1

/-- Stitch codes after a merge. -/
def mergedStitches (s : State) : Tab Nat :=
  let es := s.lanes.inForce
  let m1 := s.fmap.pendStitch.foldl (fun m e => Tab.upd 2 m e.1 fun c => min c e.2) s.fmap.stitch
  (namedColumns es).foldl (fun m x => Tab.upd 2 m x fun w => min w (columnWidth es x)) m1

/-- The map after a merge. -/
def mergedMap (s : State) : FaultMap :=
  { s.fmap with
    merges := s.fmap.merges + 1
    deadRouters := (s.fmap.deadRouters ++ s.fmap.pendRouters).eraseDups
    deadPcs := (s.fmap.deadPcs ++ s.fmap.pendPcs).eraseDups
    cluster := mergedClusters s, stitch := mergedStitches s
    pendRouters := [], pendCluster := [], pendStitch := [], pendPcs := [] }

/-- A predicate holds of every number below n. -/
def allBelow (f : Nat → Bool) : Nat → Bool
  | 0 => true
  | n + 1 => f n && allBelow f n

/-- What an image relies on is present at the width it assumes (R108, R257). -/
def dependencyMet (f : FaultMap) (d : FaultDep) : Bool :=
  allBelow (fun n => !bit1 d.routers n || f.live n) 16384 &&
  allBelow (fun n => bits d.clusters (2 * n) 2 == 0 || decide (bits d.clusters (2 * n) 2 ≤ f.clusterCode n)) 16384 &&
  allBelow (fun x => bits d.stitch (2 * x) 2 == 0 || decide (bits d.stitch (2 * x) 2 ≤ f.stitchCode x)) 128 &&
  allBelow (fun p => !bit1 d.pcs p || f.pcLive p) 256

/-- A resource that an image relies on. -/
inductive Relied
  | router (n : Nat)
  | cluster (n : Nat)
  | stitch (x : Nat)
  | pc (p : Nat)
  deriving DecidableEq, Repr

/-- The locators of a resource: a router number, or a RESOURCE (Table 4.14). -/
def Relied.viol (sec : Nat) : Relied → Viol
  | .router n => { sec := sec, router := n }
  | .cluster n => { sec := sec, router := n }
  | .stitch x => { sec := sec, resource := x }
  | .pc p => { sec := sec, resource := p }

/-- Resources relied on that the map marks dead, fused or narrower. -/
def unmet (f : FaultMap) (d : FaultDep) : List Relied :=
  ((rangeFrom 0 16384).filter fun n => bit1 d.routers n && !f.live n).map Relied.router ++
  ((rangeFrom 0 16384).filter fun n => decide (f.clusterCode n < bits d.clusters (2 * n) 2)).map Relied.cluster ++
  ((rangeFrom 0 128).filter fun x => decide (f.stitchCode x < bits d.stitch (2 * x) 2)).map Relied.stitch ++
  ((rangeFrom 0 256).filter fun p => bit1 d.pcs p && !f.pcLive p).map Relied.pc

/-- A slot holds an image that was accepted. -/
def Slot.resident (v : Slot) : Bool := match v.state with
  | .valid | .binding | .bound | .unbinding => true
  | _ => false

/-- An image is invalidated: its runs end, it is unbound, its records are freed, and its slot is INVALID and keeps the
header and the cause (R108, Table 4.14). -/
def invalidate (n why : Nat) (s : State) : State :=
  let s1 := (rangeFrom 0 4).foldl (fun t k =>
    let t1 := if ((part t k).binding.map fun b => b.1) = some n then cancelBind k t else t
    if (part t1 k).slot = some n then detach k (quiesce k (endAllRuns k stUnbind t1)) else t1) s
  let v := slot s1 n
  mpEvent 0x9005 5 n 0 (setSlot n { v with
    state := .invalid, report := why, image := { Image.empty with hdr := v.image.hdr } } s1)

/-- The tiles of an image's rectangle that are no longer what it requires: a replaced tile, a new revision, changed classes
(R237). -/
def changedTiles (s : State) (im : Image) : List Nat :=
  if im.tileReq.vendor = 0 ∧ im.tileReq.classes.isEmpty then []
  else (rangeFrom 0 16).filter fun t => im.hdr.rect.hasTile t && (tileAt s t).known && !(tileAt s t).meets im.tileReq

/-- A resident image is checked against the map, and against the identity of its tiles (R108, R237). -/
def checkImage (s : State) (n : Nat) : State :=
  let im := (slot s n).image
  if !(slot s n).resident then s
  else if !dependencyMet s.fmap im.dep then
    invalidate n (reportOf 0x0A ((firstViol ((unmet s.fmap im.dep).map (Relied.viol 0xFF))).getD {})) s
  else match changedTiles s im with
    | [] => s
    | t :: _ => invalidate n (reportOf 0x0B { router := cornerRouter t }) s

/-- Every resident image is checked. -/
def checkImages (s : State) : State := (rangeFrom 0 8).foldl checkImage s

/-- A retraining that a merge has taken in: it is remembered when it left the cell at the width it had (R260). -/
def noteRetrained (s : State) : State :=
  let over_ (e : Nat × Nat) : Bool := (tileAt s (tileOf e.1)).step == .ready
  { s with lanes := { s.lanes with
    retrained := ((s.lanes.retraining.filter fun e => over_ e && s.fmap.clusterCode e.1 == e.2).map fun e => e.1) ++ s.lanes.retrained
    retraining := s.lanes.retraining.filter fun e => !over_ e } }

/-- The MP consents to every pending width change, records what is due, merges the map, checks the images and the
thresholds (R108, R253, R254, R256, R588). -/
def mergeFaultMap (s : State) : State :=
  let s1 := s.lanes.consent.foldl (fun t c => consentTo c t) s
  let s2 := fieldWrites s1
  let s3 := (invalidTwice s2.lanes).foldl (fun t r => fuseCluster r t) s2
  evaluateRequests (notify 4 0 0 (checkImages (noteRetrained { s3 with fmap := mergedMap s3 })))

/-- CONSENT_TIMEOUT: 100 ms without consent; the bundle keeps its fused map and the refusal is logged (R253). -/
def execConsentTimeout (bundle : Nat) (s : State) : Host.Outcome State Fault Refusal :=
  if s.lanes.consent.any fun c => c.bundle == bundle then
    .next (sendEvent ⟨0x2006, 0, bundle, none, calEndpoint, 0⟩ { s with lanes := { s.lanes with
      consent := s.lanes.consent.filter fun c => c.bundle != bundle
      volatile := s.lanes.volatile.filter fun e => entBundle e != bundle } })
  else .next s

/-! ### Stitch training and retraining (R251, R259, R270) -/

/-- The results of stitch directions. -/
def stitchResults (rs : List StitchTrain) (s : State) : State :=
  rs.foldl (fun t r => calResult (stitchBundle r.column r.dir) (stitchStatus checkBits r) (stitchFailed checkBits r) t) s

/-- Ticks of a stitch training (R251). -/
def stitchTicks : Nat := 262144

/-- Stitch training runs its ticks from a tick on. -/
def stitchPass (from_ : Nat) (s : State) : State :=
  if s.clk.tick.toNat < from_ + stitchTicks then runTo (from_ + stitchTicks) s else s

/-- The result of one direction of a control-network stitch link: an invalid one is reported, a valid one gives its failed
lanes, and a link with five or more is at fault and routed around (R161, R251, R256, Table 8.2). -/
def stitchLink (s : State) (r : LinkTrain) : State :=
  let b := linkBundle r.node r.dir
  if !controlStitch r.node r.dir then s
  else if linkStatus r ≠ 0 then calInvalid b (linkStatus r) s
  else
    let s1 := { s with lanes := { s.lanes with
      status := Tab.set 0 s.lanes.status b 0
      links := (linkFailed r).map (laneEntry b) ++ s.lanes.links.filter fun e => entBundle e != b } }
    if widthCode b (linkFailed r).length = 0 ∧ !s.ctl.dead.contains (ctlLink r.node r.dir) then killLink r.node r.dir s1 else s1

/-- A router that the mesh self-test found dead. -/
def deadRouter (n : Nat) (s : State) : State :=
  if s.fmap.live n && !s.fmap.pendRouters.contains n then
    mpEvent 0x4005 5 n 0 { s with fmap := { s.fmap with pendRouters := n :: s.fmap.pendRouters } }
  else s

/-- Every slice line zero with valid check codes (Table 17.2 step 6). -/
def zeroBuffer (s : State) : State :=
  { s with buf := { s.buf with mem := [], bad := [], single := [], tickLines := [], counted := [], firstBad := [], mirrors := [] } }

/-- A step of Table 17.2 is complete. -/
def stepDone (k : Nat) (s : State) : State :=
  { s with boot := { s.boot with steps := s.boot.steps ||| BitVec.twoPow 10 k } }

/-- STITCH_TRAINING_DONE: after 262,144 ticks stitch crossings and control links are judged, and the mesh self-test reports; on
a cold start the buffer is zeroed (R251, Table 17.2 step 6). -/
def execStitchTrainingDone (results : List StitchTrain) (links : List LinkTrain) (dead : List Nat) (s : State) :
    Host.Outcome State Fault Refusal :=
  if !s.boot.starting || s.boot.steps.getLsbD 6 || !s.boot.steps.getLsbD 4 || !tickRuns s then .next s
  else
    let s1 := links.foldl stitchLink (stitchResults results (stitchPass s.lanes.stitchFrom s))
    let s2 := dead.foldl (fun t n => deadRouter n t) s1
    .next (stepDone 6 (if s.boot.cold then zeroBuffer s2 else s2))

/-- The partition of a stitch crossing that no boundary seals (R103, R259). -/
def crossingPart (s : State) (x : Nat) : Option Nat :=
  match partOf s (routerAt x 63), partOf s (routerAt x 64) with
  | some a, some b => if a = b then some a else none
  | _, _ => none

/-- No beat can cross a stitch column: its partition is held or without an image, and none is about to be bound (R259, R270). -/
def crossingIdle (s : State) (x : Nat) : Bool := match crossingPart s x with
  | some k => (part s k).held || ((part s k).slot.isNone && (part s k).binding.isNone)
  | none => true

/-- A held partition is released (R112, R234). -/
def releasePart (k : Nat) (s : State) : State :=
  if (part s k).held then updPart k (fun p => { p with held := false }) (quiesce k s) else s

/-- STITCH_RETRAIN: crossings that no beat can cross are retrained for 262,144 ticks, the result is merged, and held partitions
whose images stay valid are released (R259). -/
def execStitchRetrain (results : List StitchTrain) (s : State) : Host.Outcome State Fault Refusal :=
  if !mpRuns s || !tickRuns s || results.isEmpty || !(results.all fun r => crossingIdle s r.column) then .next s
  else
    let s1 := mergeFaultMap (stitchResults results (stitchPass s.clk.tick.toNat s))
    .next (((results.filterMap fun r => crossingPart s r.column).eraseDups).foldl (fun t k =>
      if (part t k).slot.isSome then releasePart k t else t) s1)

/-- TILE_REDISCOVERY: the tile of a held partition is held in reset for 10 µs and discovered again with training; a cell that
breaches again although a retraining left it at its width is recorded as fused (R260). -/
def execTileRediscovery (tile cell : Nat) (s : State) : Host.Outcome State Fault Refusal :=
  let router := cellRouter tile cell
  match partOf s router with
  | none => .next s
  | some k =>
    if !mpRuns s || !(part s k).held then .next s
    else
      let s1 := if s.lanes.retrained.contains router then fuseCluster router s
        else { s with lanes := { s.lanes with
          retraining := (router, s.fmap.clusterCode router) :: s.lanes.retraining.filter fun e => e.1 != router } }
      .next (startTile tile (passPs 10000000 s1))

/-- PARTITION_RELEASE: the MP releases a held partition (R112). -/
def execPartitionRelease (k : Nat) (s : State) : Host.Outcome State Fault Refusal :=
  if mpRuns s then .next (releasePart k s) else .next s

/-! ### Stand-alone test (R261 to R264, R268) -/

/-- Fields of Table 8.8. -/
def ltScope (p : Nat) : Nat := bits p 0 2
def ltUnit (p : Nat) : Nat := bits p 2 4
def ltColumn (p : Nat) : Nat := bits p 8 8
def ltLoop (p : Nat) : Nat := bits p 16 2
def ltOverride (p : Nat) : Bool := bit1 p 18
def ltLen (p : Nat) : Nat := bits p 32 8

/-- Fields that name the unit. -/
def ltUnitFields (p : Nat) : List (Nat × Nat) := match ltScope p with
  | 0 => [(2, 4)]
  | 1 => [(8, 8)]
  | _ => [(2, 3)]

/-- No reserved value names the unit. -/
def ltUnitOk (p : Nat) : Bool := ltScope p != 3 && (ltScope p != 1 || decide (ltColumn p ≤ 127) || ltColumn p == 0xFF)

/-- No reserved value in a LANE_TEST: NEAR is a loop of bond pads, FAR of bonds and stitches, HBM of stacks (Tables 8.7, 8.8).
DESIGN CHOICE, log entry 22: NEAR with SCOPE 1 is a reserved value. In a test boot FAR is not accepted for bonds (R263); DESIGN
CHOICE, log entry 21: it answers as a reserved value does. -/
def ltOk (test : Bool) (p : Nat) : Bool :=
  ltUnitOk p && (match ltScope p with
    | 0 => ltLoop p == 0 || (ltLoop p == 1 && !test)
    | 1 => ltLoop p == 1
    | _ => ltLoop p == 2) &&
  (!(ltLoop p == 0 || ltScope p == 1) || decide (16 ≤ ltLen p ∧ ltLen p ≤ 30))

/-- Columns that a stitch test names. -/
def ltColumns (p : Nat) : List Nat := if ltColumn p = 0xFF then rangeFrom 0 128 else [ltColumn p]

/-- Routers whose place decides the partitions that contain the unit. -/
def ltRouters (p : Nat) : List Nat := match ltScope p with
  | 0 => [routerAt (32 * (ltUnit p % 4)) (32 * (ltUnit p / 4))]
  | 1 => (ltColumns p).flatMap fun x => [routerAt x 63, routerAt x 64]
  | _ => [rimRouter (ltUnit p % 8) 0]

/-- Slices under the unit: those of a tile (R262). -/
def ltSlices (p : Nat) : List Nat :=
  if ltScope p = 0 then (rangeFrom 0 1024).map (cellRouter (ltUnit p)) else []

/-- Two tests name a unit in common. -/
def ltShares (p q : Nat) : Bool := ltScope p == ltScope q && match ltScope p with
  | 1 => (ltColumns p).any fun x => (ltColumns q).contains x
  | 0 => ltUnit p == ltUnit q
  | _ => ltUnit p % 8 == ltUnit q % 8

/-- The unit is in test already, a partition that contains it is bound or about to be, or a layout in flight would take it in
(R262, R268). -/
def ltBusy (s : State) (p : Nat) : Bool :=
  (s.lanes.tests.any fun t => ltShares t.params p) ||
  ((ltRouters p).any fun r => match partOf s r with
    | none => false
    | some k => (part s k).slot.isSome || (part s k).binding.isSome) ||
  match s.layoutPend with
  | none => false
  | some l => l.any fun rc => rc.cols != 0 && (ltRouters p).any rc.hasRouter

/-- A router lies under a unit in test; a stack is in test. -/
def testHasRouter (t : LaneTest) (r : Nat) : Bool := ltScope t.params == 0 && tileOf r == ltUnit t.params
def testHasStack (t : LaneTest) (k : Nat) : Bool := ltScope t.params == 2 && ltUnit t.params % 8 == k

/-- A STAGE body touches the unit in test. -/
def stageTouches (t : LaneTest) (x : Nat) : Bool :=
  let n := stageLen x / 64
  match stageSpace x with
  | 0 => !allBelow (fun i => !testHasRouter t (bufLocate (stageTarget x + 64 * i)).router) n
  | 1 => testHasStack t (bits (stageTarget x) 0 3)
  | _ => false

/-- A STAGE item consumed earlier still touches the unit (R262). -/
def stagePending (s : State) (t : LaneTest) : Bool :=
  let items := (rangeFrom 0 65).flatMap (fun f => (ringOf s f 2).outst) ++ s.rings.stray.map fun e => e.2
  items.any fun o => o.opcode == 0x20 && o.ended.isNone && stageTouches t o.item

/-- The tile of a bond test is held in reset for NEAR, and reset to run its training sequence for FAR (R261). -/
def tileInTest (p : Nat) (s : State) : State :=
  if ltScope p = 0 ∧ (tileAt s (ltUnit p)).talks then
    updTile (ltUnit p) (fun x => { Tile.reset with
      step := .test, vddt := true, trst := ltLoop p == 1, readings := x.readings }) s
  else s

/-- A test begins on its unit: its tile, its slices or its stack leave service (R169, R261, R262). -/
def startTest (t : LaneTest) (s : State) : State :=
  let s1 := tileInTest t.params { s with buf := { s.buf with inTest := ltSlices t.params ++ s.buf.inTest } }
  if ltScope t.params = 2 then updStack (ltUnit t.params % 8) (fun k => { k with inTest := true }) s1 else s1

/-- Tests begin on their units once no STAGE item consumed before their acceptance touches them (R262). -/
def beginTest (s : State) : State :=
  let ready := s.lanes.tests.filter fun t => !t.begun && !stagePending s t
  ready.foldl (fun u t => startTest t u) { s with lanes := { s.lanes with
    tests := s.lanes.tests.map fun t => if ready.contains t then { t with begun := true } else t } }

/-- LANE_TEST: a loop test of a unit is accepted (R262). -/
def execLaneTest (q : MciReq) (s : State) : Host.Outcome State Fault Refusal :=
  let p := mciParams q
  .next (mciFixed 0x0302 8 ([(0, 2), (16, 2), (18, 1), (32, 8)] ++ ltUnitFields p) (ltOk s.pins.testBoot p) q (fun s =>
    if ltBusy s p then mciStatus 0x0302 q mBusy s
    else
      let s1 := mciHold 0x0302 q s
      beginTest { s1 with lanes := { s1.lanes with tests := s1.lanes.tests ++ [⟨q.who, q.tag, p, false⟩] } }) s)

/-- Answer an asynchronous request, if it is still outstanding. -/
def mciReply (op who tag status detail rlen params : Nat) (s : State) : State :=
  if s.fw.outstanding.any fun o => o.1 == who && o.2.2 == tag then
    mciAnswer op (reqOf who tag) status detail rlen params s
  else s

/-- Bits of the checking window that a test names. -/
def ltBits (p : Nat) : Nat := 2 * 2 ^ ltLen p

/-- Failed lanes and status of one bond group in a test (R261). -/
def groupTest (p : Nat) (c : CellTrain) (role : Nat) : List Nat × Nat :=
  let b := bondBundle (ltUnit p) c.cell role
  if ltLoop p = 0 then
    let seen := fun k => siteSeen c role k 1
    ((directFailed (ltBits p) (bundleKind b).sites seen).map (laneEntry b),
      directStatus (ltBits p) (bundleKind b).sites seen c.late)
  else ((trainFailed c role).map (laneEntry b), trainStatus c role)

/-- The least of the statuses that are not VALID; VALID when all are. -/
def worstStatus (l : List Nat) : Nat := match l.filter (· != 0) with
  | [] => 0
  | a :: t => t.foldl min a

/-- Lane entries that a test found, and the status of each unit: a tile, a stitch column, or a stack (R262, Table 8.6).
DESIGN CHOICE, log entry 20. -/
def testFindings (p : Nat) (cells : List CellTrain) (stitch : List StitchTrain) (hbm : List Nat) : List Nat × List Nat :=
  match ltScope p with
  | 0 =>
    let gs := cells.flatMap fun c => (trainedRoles (ltUnit p) c.cell).map (groupTest p c)
    (gs.flatMap fun g => g.1, [worstStatus (gs.map fun g => g.2)])
  | 1 =>
    let rs := stitch.filter fun x => (ltColumns p).contains x.column
    (rs.flatMap fun x => (stitchFailed (ltBits p) x).map (laneEntry (stitchBundle x.column x.dir)),
      (ltColumns p).map fun x => worstStatus ((rs.filter fun r => r.column == x).map (stitchStatus (ltBits p))))
  | _ => (hbm.filter fun e => entKind e == 3 && bits e 4 3 == ltUnit p % 8, [0])

/-- 32-bit lane entries with the entry of KIND 0 that ends them (R246). -/
def entryList (es : List Nat) : List Nat := es ++ [0]

/-- A test ends: its slices and scrubbers, its stack or its tile return to service; a tile that was reset is discovered again,
unless the device is in a test boot (R169, R262, R263). DESIGN CHOICE, log entry 21. -/
def endTest (t : LaneTest) (s : State) : State :=
  let s1 := { s with
    lanes := { s.lanes with tests := s.lanes.tests.erase t }
    buf := { s.buf with inTest := s.buf.inTest.filter fun r => !testHasRouter t r } }
  let s2 := if ltScope t.params = 2 then updStack (ltUnit t.params % 8) (fun k => { k with inTest := false }) s1 else s1
  if ltScope t.params = 0 ∧ (tileAt s2 (ltUnit t.params)).step = .test ∧ !s2.pins.testBoot then startTile (ltUnit t.params) s2 else s2

/-- LANE_TEST_COMPLETE: the checking window of the n-th test ends: the failed lanes, without OVERRIDE those alone that the fused
map does not mark, and the statuses are returned; the maps stay (R262, R169). DESIGN CHOICE, log entry 20: 32-bit entries ended by
KIND 0, then one byte for each status. -/
def execLaneTestComplete (n : Nat) (cells : List CellTrain) (stitch : List StitchTrain) (hbm : List Nat) (s : State) :
    Host.Outcome State Fault Refusal :=
  match s.lanes.tests[n]? with
  | none => .next s
  | some t =>
    if !t.begun then .next s
    else
      let (es, sts) := testFindings t.params cells stitch hbm
      let shown := entryList (if ltOverride t.params then es else es.filter fun e => !s.lanes.fused.contains e)
      .next (mciReply 0x0302 t.who t.tag mSuccess 0 (4 * shown.length + sts.length)
        (concatBytes 4 shown + concatBytes 1 sts * 2 ^ (32 * shown.length)) (endTest t s))

/-- Bundles of a unit. -/
def unitBundles (p : Nat) : List Nat := match ltScope p with
  | 0 => (rangeFrom 0 1024).flatMap fun c => (trainedRoles (ltUnit p) c).map (bondBundle (ltUnit p) c)
  | 1 => (ltColumns p).flatMap fun x => [stitchBundle x 0, stitchBundle x 1]
  | _ => (rangeFrom 0 16).map (hbmBundle (ltUnit p % 8))

/-- Width code of a bundle that runs: of an HBM3E channel 0 once its repair resources are exhausted, else full (R242, R252). -/
def widthNow (s : State) (b : Nat) : Nat :=
  if entKind b = 3 then (if s.lanes.hbmDead.contains b then 0 else 2) else runningWidth (s.lanes.inForce ++ (tileAt s (entTile b)).laneMap.filter entHalf) b

/-- An entry belongs to a unit. -/
def entryOf (p e : Nat) : Bool := match ltScope p with
  | 0 => entKind e == 1 && entTile e == ltUnit p
  | 1 => entKind e == 2 && (ltColumns p).contains (entColumn e)
  | _ => entKind e == 3 && bits e 4 3 == ltUnit p % 8

/-- LANE_QUERY: fused and volatile maps, width codes and last calibration statuses of a unit (R264). DESIGN CHOICE, log entry
20: both maps as 32-bit entries ended by KIND 0, then one byte for each bundle, its width code in [3:0] and its status in
[7:4]. -/
def execLaneQuery (q : MciReq) (s : State) : Host.Outcome State Fault Refusal :=
  let p := mciParams q
  .next (mciFixed 0x0303 8 ((0, 2) :: ltUnitFields p) (ltUnitOk p) q (fun s =>
    let maps := entryList (s.lanes.fused.filter (entryOf p)) ++ entryList (s.lanes.volatile.filter (entryOf p))
    let bs := (unitBundles p).map fun b => put (widthNow s b) 0 4 + put (Tab.get 0 s.lanes.status b) 4 4
    mciAnswer 0x0303 q mSuccess 0 (4 * maps.length + bs.length)
      (concatBytes 4 maps + concatBytes 1 bs * 2 ^ (32 * maps.length)) s) s)

end Sys2Proof.Machine
end

