-- ==== Sys2Proof/Machine/PoolOps.lean ====
section
/-! DEFINITION. Shared operations of the pool: region layouts, line accesses with their copies, deltas and
reconstructions, answers to hosts and modules (R420 to R422, R430, R441 to R443). -/

namespace Sys2Proof.Machine

/-! ### Regions -/

/-- Region r of this module's replica. -/
def regionOf (s : State) (r : Nat) : Region := Tab.get Region.reset s.pool.region r
/-- Change a region. -/
def updRegion (r : Nat) (f : Region → Region) (s : State) : State :=
  { s with pool := { s.pool with region := Tab.upd Region.reset s.pool.region r f } }
/-- One GiB. -/
def giB : Nat := 1073741824
/-- Members of a protection mode (Table 13.3). -/
def memberCount (prot : Nat) : Nat := match prot with
  | 0 => 1
  | 1 => 2
  | _ => 9
/-- Bytes that each member holds (Table 13.3). -/
def Region.memberSize (r : Region) : Nat := (if r.prot = 2 then r.size / 8 else r.size) * giB
/-- Member and local offset of a byte of the region (Table 13.3). -/
def Region.locate (r : Region) (o : Nat) : Nat × Nat :=
  if r.prot = 2 then (o / 4096 % 8, o / 32768 * 4096 + o % 4096) else (0, o)
/-- Module of a member. -/
def Region.moduleOf (r : Region) (m : Nat) : Nat := r.members[m]?.getD 0
/-- This module's member index in a region. -/
def myMember (s : State) (r : Region) : Option Nat := r.members.findIdx? fun m => m == self s

/-- A member cannot serve a local offset: lost, or this module's own part above the rebuild cursor (R441, R443). -/
def absent (s : State) (r : Region) (m off : Nat) : Bool :=
  r.lost == some m && (r.state == 3 || (r.state == 4 && r.moduleOf m == self s && decide (r.cursor ≤ off)))

/-- The member that orders the writes of a mirrored region (R430, R441). -/
def mirrorHead (s : State) (r : Region) (off : Nat) : Nat := if absent s r 0 off then 1 else 0

/-- The region is served: ONLINE, DEGRADED or REBUILDING (Table 13.4). -/
def Region.served (r : Region) : Bool := decide (2 ≤ r.state) && decide (r.state ≤ 4)
/-- Accesses of a region in this state go on: it is served, or is being deleted while they end (R452). -/
def Region.goesOn (r : Region) : Bool := r.served || r.state == 6
/-- The region does not exist for a command: FREE, CREATING or DELETING (Table 13.7). -/
def Region.missing (r : Region) : Bool := decide (r.state ≤ 1) || decide (6 ≤ r.state)

/-- A module has not been lost. -/
def moduleLive (s : State) (m : Nat) : Bool := !(s.lat.lost.contains m)
/-- The lowest-numbered live member coordinates the region (R420). -/
def regionCoord (s : State) (r : Region) : Nat :=
  (leastOf ((rangeFrom 0 r.members.length).filterMap fun i =>
    if r.lost = some i ∨ !moduleLive s (r.moduleOf i) then none else some (r.moduleOf i))).getD (self s)

/-- Where a member's local line lies on this module (R422). -/
inductive Place
  | hbm (line : Nat)
  | dense (addr : Nat)
  deriving DecidableEq, Repr

/-- The place of a local offset. -/
def placeOf (r : Region) (off : Nat) : Option Place :=
  (r.extents[off / giB]?).map fun e =>
    if r.backing = 1 then .dense (e * giB + off % giB) else .hbm (unitLine (e / 36) (e % 36) (off % giB))

/-! ### Table traffic (R420, R426): the content of TABLE requests is the model's own layout. DESIGN CHOICE, log entry 40 -/

/-- A replica of a region entry: kind 5. -/
def entryBody (r : Region) : Nat :=
  5 + put r.state 8 3 + put r.prot 11 2 + put r.mode 13 1 + put r.backing 14 1 + put (flag r.lost.isSome) 15 1 +
  put (r.lost.getD 0) 16 4 + put r.members.length 20 4 + put r.size 24 13 + put r.rate 40 8 +
  packFields 10 (fun i => r.moduleOf i) r.members.length * 2 ^ 64 + put r.done 160 48 + put r.good 208 48 + put r.issued 256 48

/-- The replicated fields of an entry, taken over. -/
def takeEntry (x : Nat) (r : Region) : Region :=
  { r with
    state := bits x 8 3, prot := bits x 11 2, mode := bits x 13 1, backing := bits x 14 1
    lost := if bit1 x 15 then some (bits x 16 4) else none, size := bits x 24 13, rate := bits x 40 8
    members := (rangeFrom 0 (bits x 20 4)).map fun i => bits x (64 + 10 * i) 10
    done := max r.done (bits x 160 48), good := max r.good (bits x 208 48), issued := max r.issued (bits x 256 48) }

/-- Live modules of the domain besides this one. -/
def otherModules (s : State) : List Nat :=
  (rangeFrom 0 s.lat.cfg.modules).filter fun m => m != self s && moduleLive s m

/-- A TABLE request with a content of up to three lines. -/
def sendTable (m region body kind ref : Nat) (s : State) : State := sendReq m 6 region 3 0 0 body kind ref s

/-- Every live module receives the entry of a region. -/
def replicate (region : Nat) (s : State) : State :=
  (otherModules s).foldl (fun t m => sendTable m region (entryBody (regionOf s region)) 6 0 t) s

/-! ### Accesses -/

/-- Access by ID. -/
def accOf (s : State) (id : Nat) : Option PoolAcc := s.pool.accs.find? fun a => a.id == id
/-- Replace an access. -/
def setAcc (a : PoolAcc) (s : State) : State :=
  { s with pool := { s.pool with accs := s.pool.accs.map fun b => if b.id == a.id then a else b } }
/-- Forget an access. -/
def dropAcc (id : Nat) (s : State) : State :=
  { s with pool := { s.pool with accs := s.pool.accs.filter fun b => b.id != id } }

/-- Queue this module's line for an access: at its pseudo-channel, or at the dense tier (R429). -/
def queueLocal (a : PoolAcc) (write : Bool) (s : State) : State := match placeOf (regionOf s a.region) a.off with
  | some (.hbm l) => updPc (l / pcLines) (fun p => { p with queue := p.queue ++ [⟨l, write, a.data, a.poison, .pool a.id⟩] }) s
  | some (.dense b) => { s with dense := { s.dense with withheld := s.dense.withheld ++
      [⟨b / 4096, b % 4096, 64, write, a.data.toNat, .pool a.id, s.clk.wallPs⟩] } }
  | none => s

/-- A line of a request of another module has ended: with its last line the response goes out (R463). -/
def servedLine (src tag i : Nat) (data : LineData) (poison : Bool) (status : Nat) (s : State) : State :=
  match s.pool.serving.find? fun v => v.src == src && v.tag == tag with
  | none => s
  | some v =>
    let v1 := { v with left := v.left - 1, status := if v.status = 0 then status else v.status
                       lines := (i, data, poison) :: v.lines }
    let rest := s.pool.serving.filter fun w => !(w.src == src && w.tag == tag)
    if 0 < v1.left then { s with pool := { s.pool with serving := v1 :: rest } }
    else
      let reads := v.uop == 1 || v.uop == 4
      let ls := (rangeFrom 0 v1.lines.length).map fun j => ((v1.lines.find? fun e => e.1 == j).getD (j, 0, false))
      let body := if reads then linesBody (ls.map fun e => e.2.1) else 0
      sendRsp src v.uop tag v.region (if reads then ls.length else 0) (poisonBits (ls.map fun e => e.2.2)) v.off
        v1.status body { s with pool := { s.pool with serving := rest } }

/-- Change a pool command. -/
def updCmd (id : Nat) (f : PoolCmd → PoolCmd) (s : State) : State :=
  { s with pool := { s.pool with cmds := s.pool.cmds.map fun c => if c.id == id then f c else c } }

/-- A command keeps its first status. -/
def PoolCmd.noteStatus (st : Nat) (c : PoolCmd) : PoolCmd := { c with status := if c.status = 0 then st else c.status }

/-- Send a response to a fabric host: data, or completion of a write. -/
def cxlAnswer (who tag : Nat) (write : Bool) (d : LineData) (poison : Bool) (s : State) : State :=
  emit (.cxlResp who tag (flag write) (if write then 0 else d) poison) s

/-- The rebuild has filled the line at the cursor; at the end the region is ONLINE (R443), and the others learn so. A region
that is no longer REBUILDING stays as it is. -/
def rebuilt (r : Nat) (s : State) : State :=
  let g := regionOf s r
  if g.state ≠ 4 then s
  else if g.memberSize ≤ g.cursor + 64 then
    replicate r (updRegion r (fun g => { g with state := 2, lost := none, cursor := 0, rate := 0 }) s)
  else updRegion r (fun g => { g with cursor := g.cursor + 64 }) s

/-- A write of a line of this module is in progress: applied here with its copy or delta under way, or about to be (R430). -/
def lineWriting (s : State) (region off : Nat) : Bool := s.pool.accs.any fun b =>
  b.write && b.region == region && b.off == off && [0, 2, 4, 5, 7].contains b.phase

/-- A write has ended: a read for the rebuild that waited for it goes on. -/
def wakeReads (a : PoolAcc) (s : State) : State :=
  if !a.write || lineWriting s a.region a.off then s
  else (s.pool.accs.filter fun b => b.phase == 10 && b.region == a.region && b.off == a.off).foldl (fun t b =>
    let c := { b with phase := 8 }
    queueLocal c false (setAcc c t)) s

/-- An access ends: its requester is answered (R430). -/
def finishAcc (a : PoolAcc) (d : LineData) (poison : Bool) (status : Nat) (s0 : State) : State :=
  let s := wakeReads a (dropAcc a.id s0)
  match a.for_ with
  | .cxl who tag => cxlAnswer who tag a.write d poison s
  | .remote src tag i => servedLine src tag i d poison status s
  | .rebuild r => rebuilt r s
  | .cmd id => updCmd id (fun c => { c.noteStatus status with left := c.left - 1 }) s

/-- The other members whose lines give a member's line: the other copy, or the rest of the stripe. -/
def piecesOf (r : Region) (m : Nat) (withParity : Bool) : List Nat :=
  if r.prot = 1 then [1 - m]
  else (rangeFrom 0 9).filter fun j => j != m && (withParity || j != 8)

/-- Send a request of an access to another module. -/
def sendAcc (m uop nl : Nat) (a : PoolAcc) (d : LineData) (poison : Bool) (s : State) : State :=
  sendReq m uop a.region nl (flag poison) a.off d.toNat 0 a.id s

/-- Ask members for their lines of a stripe. -/
def askPieces (phase : Nat) (pieces : List Nat) (a : PoolAcc) (s : State) : State :=
  let r := regionOf s a.region
  let b := { a with phase := phase, left := pieces.length }
  pieces.foldl (fun t j =>
    if r.moduleOf j = self s then queueLocal b false t else sendAcc (r.moduleOf j) 4 1 b 0 false t) (setAcc b s)

/-- Gather the lines of other members and combine them (R441 to R443). -/
def gatherAcc (a : PoolAcc) (pieces : List Nat) (s : State) : State :=
  let r := regionOf s a.region
  if pieces.any fun j => absent s r j a.off then finishAcc a 0 true 7 s
  else askPieces 4 pieces { a with acc := 0, accPoison := false } s

/-- The rebuild of the stripe at the same offset is in progress, here or, as its last request says, at another module: the access
waits (R443). -/
def stripeLocked (s : State) (a : PoolAcc) : Bool :=
  let r := regionOf s a.region
  a.write && ((s.pool.accs.any fun b => b.for_ == .rebuild a.region && b.off == a.off && b.id != a.id) ||
    (r.locked && r.state == 4 && r.cursor == a.off))

/-- Send an access on its way: this module's line, another member, or a reconstruction (R417, R430, R441). -/
def routeAcc (a : PoolAcc) (s : State) : State :=
  let r := regionOf s a.region
  let me := myMember s r
  let t := if r.prot = 1 then
      (if !a.write && me.isSome && !absent s r (me.getD 0) a.off then me.getD 0 else mirrorHead s r a.off)
    else a.member
  if !r.goesOn then finishAcc a 0 true 7 s
  else if stripeLocked s a then setAcc { a with phase := 6 } s
  else if absent s r t a.off then
    if r.prot ≠ 2 ∨ r.lost = some 8 then finishAcc a 0 true 7 s
    else if me = some 8 ∨ (!a.write && me == some t) then gatherAcc a (piecesOf r t (!a.write)) s
    else
      sendAcc (r.moduleOf 8) (if a.write then 2 else 1) 1 a (if a.write then a.data else 0) a.poison
        (setAcc { a with phase := 1 } s)
  else if r.moduleOf t = self s then queueLocal a a.write (setAcc { a with phase := 0 } s)
  else
    sendAcc (r.moduleOf t) (if a.write then 2 else 1) 1 a (if a.write then a.data else 0) a.poison
      (setAcc { a with phase := 1 } s)

/-- Start an access; phase 13 stands for a write that the rebuilding member hands to the parity member above its cursor (R443). -/
def startAcc (for_ : PoolFor) (region member off : Nat) (write : Bool) (d : LineData) (poison : Bool) (phase : Nat)
    (s : State) : State :=
  let a : PoolAcc := ⟨s.pool.nextId, for_, region, member, off, write, d, poison, phase, 0, false, 0, s.win.gen.toNat⟩
  let s1 := { s with pool := { s.pool with accs := s.pool.accs ++ [a], nextId := s.pool.nextId + 1 } }
  if phase = 5 ∨ phase = 7 then
    (if stripeLocked s { a with write := true } then setAcc { a with phase := phase + 4 } s1 else queueLocal a true s1)
  else if phase = 8 then queueLocal a false s1
  else if phase = 10 then s1
  else if phase = 13 then gatherAcc a (piecesOf (regionOf s region) member false) s1
  else routeAcc a s1

/-- A write at this module has been applied: the copy or the delta follows (R430). -/
def afterWrite (a : PoolAcc) (old : Beat) (s : State) : State :=
  let r := regionOf s a.region
  let b := { a with phase := 2 }
  if r.prot = 1 then
    let o := 1 - (myMember s r).getD 0
    if absent s r o a.off then finishAcc a 0 false 0 s else sendAcc (r.moduleOf o) 2 1 b a.data a.poison (setAcc b s)
  else if r.prot = 2 then
    if absent s r 8 a.off then finishAcc a 0 false 0 s
    else sendAcc (r.moduleOf 8) 3 1 b (old.data ^^^ a.data) (a.poison || old.poison) (setAcc b s)
  else finishAcc a 0 false 0 s

/-- All lines of a reconstruction are here: the line is returned, written where this module holds it, or becomes the
new parity (R441 to R443). -/
def gathered (a : PoolAcc) (s : State) : State :=
  let r := regionOf s a.region
  let me := myMember s r
  if a.write then
    let b := { a with phase := 5, data := a.acc ^^^ a.data, poison := a.accPoison || a.poison }
    queueLocal b true (setAcc b s)
  else if me = some a.member ∨ (r.prot = 1 ∧ me.isSome) ∨ a.for_ = .rebuild a.region then
    let b := { a with phase := 5, data := a.acc, poison := a.accPoison }
    queueLocal b true (setAcc b s)
  else finishAcc a a.acc a.accPoison 0 s

/-- One line of a reconstruction has arrived; a rebuild reads the parity line after the data lines, so that every delta of theirs
is in it. -/
def pieceOf (a : PoolAcc) (d : LineData) (poison : Bool) (s : State) : State :=
  let b := { a with acc := a.acc ^^^ d, accPoison := a.accPoison || poison, left := a.left - 1 }
  if b.left = 0 then (if a.phase = 12 then askPieces 4 [8] b s else gathered b (setAcc b s)) else setAcc b s

/-- Accesses that waited for a stripe go on, unless it is locked again. -/
def unlockStripe (region : Nat) (s : State) : State :=
  (s.pool.accs.filter fun b => (b.phase == 6 || b.phase == 9 || b.phase == 11) && b.region == region).foldl (fun t b =>
    if stripeLocked t b then t
    else if b.phase = 6 then routeAcc { b with phase := 0 } t
    else
      let c := { b with phase := b.phase - 4 }
      queueLocal c true (setAcc c t)) s

/-- This module's line has been reached for an access: `rd` reads it, `wr` writes it, `unc` says that it is
uncorrectable, and `fail` that its unit cannot serve it (R430, R441, R442). -/
def poolServe (id : Nat) (rd : State → Beat × State) (wr : LineData → Bool → State → State) (unc : Bool)
    (fail : Option Nat) (s : State) : State :=
  match accOf s id with
  | none => s
  | some a =>
    let r := regionOf s a.region
    match fail with
    | some st =>
      if a.phase = 4 ∨ a.phase = 12 then pieceOf a 0 true s
      else if a.phase = 5 ∧ !a.write ∧ a.for_ ≠ .rebuild a.region then finishAcc a a.data a.poison 0 s
      else if a.phase = 0 ∧ !a.write ∧ r.prot ≠ 0 then gatherAcc a (piecesOf r a.member true) s
      else finishAcc a 0 true st s
    | none =>
      if a.phase = 4 ∨ a.phase = 12 then
        let (b, s1) := rd s
        pieceOf a b.data b.poison s1
      else if a.phase = 5 then
        unlockStripe a.region (finishAcc a a.data a.poison 0 (wr a.data a.poison s))
      else if a.phase = 7 then
        let (b, s1) := rd s
        finishAcc a 0 false 0 (wr (b.data ^^^ a.data) (b.poison || a.poison) s1)
      else if a.phase = 8 then
        let (b, s1) := rd s
        finishAcc a b.data b.poison 0 s1
      else if a.write then
        let (b, s1) := if r.prot = 2 then rd s else (Beat.idle, s)
        afterWrite a b (wr a.data a.poison s1)
      else
        let (b, s1) := rd s
        if unc && decide (r.prot ≠ 0) && (r.state == 2 || r.state == 4) then
          gatherAcc { a with member := (myMember s r).getD 0 } (piecesOf r ((myMember s r).getD 0) true) s1
        else finishAcc a b.data b.poison 0 s1

/-- The answer of another module to a request of an access. -/
def poolReply (id : Nat) (d : LineData) (poison : Bool) (status : Nat) (s : State) : State :=
  match accOf s id with
  | none => s
  | some a =>
    if a.phase = 4 ∨ a.phase = 12 then pieceOf a d (poison || status != 0) s
    else finishAcc a d (poison || status != 0) status s

/-! ### Losses (R441, R449) -/

/-- Accesses that waited for a lost module: a copy or delta counts as done, a forwarded access goes out under the new
state, a reconstruction fails. -/
def rerouteLost (m region : Nat) (s : State) : State :=
  let waiting := (s.lat.outReqs ++ s.lat.waiting).filter fun q => q.dst == m && q.kind == 0 &&
    s.pool.accs.any fun a => a.id == q.ref && a.region == region
  let s1 := { s with lat := { s.lat with
    outReqs := s.lat.outReqs.filter fun q => !(waiting.contains q)
    waiting := s.lat.waiting.filter fun q => !(waiting.contains q) } }
  waiting.foldl (fun t q => match accOf t q.ref with
    | none => t
    | some a =>
      if (regionOf t region).state = 5 then finishAcc a 0 true 7 t
      else if a.phase = 2 then finishAcc a 0 false 0 t
      else if a.phase = 1 then routeAcc { a with phase := 0 } t
      else finishAcc a 0 true 7 t) s1

/-- The state of a region after the loss of a member (Table 13.8). -/
def lossOf (r : Region) (m : Nat) : Region :=
  if r.prot = 0 then { r with state := 5, lost := some m }
  else if r.lost = some m then { r with state := 3 }
  else if r.state = 2 then { r with state := 3, lost := some m }
  else { r with state := 5 }

/-- A member of a region is lost (R441). -/
def loseMember (region m : Nat) (s : State) : State :=
  let r := regionOf s region
  let n := lossOf r m
  let s1 := updRegion region (fun _ => n) s
  let s2 := if n.state = r.state then s1
    else mpEvent (if n.state = 5 then 0x800A else 0x8009) 5 region 0 s1
  unlockStripe region (rerouteLost (r.moduleOf m) region s2)

/-! ### Access lists between modules (R426) -/

/-- A list and mode in the layout of POOL_ACCESS_SET. -/
def aclParams (region : Nat) (l : List Access) (mode : Nat) : Nat :=
  put region 0 12 + put mode 12 1 + put l.length 16 6 + 2 ^ 128 * packFields 32 (fun i =>
    match l[i]? with
    | some a => a.pbr % 4096 + put (flag a.rd) 12 1 + put (flag a.wr) 13 1
    | none => 0) l.length

/-- A module that was lost is heard again: it receives the entries and lists of the regions that this module coordinates, before it
serves again (R426). -/
def informReturned (m : Nat) (s : State) : State :=
  if moduleLive s m then s
  else (s.pool.region.filter fun e => e.2.state != 0 && regionCoord s e.2 == self s).foldl (fun t e =>
    sendTable m e.1 (4 + 2 ^ 64 * aclParams e.1 e.2.acl e.2.mode) 6 0 (sendTable m e.1 (entryBody e.2) 6 0 t)) s

/-! ### Mailboxes (R418, R419) -/

/-- PBR IDs on any in-force access list. -/
def listedIds (s : State) : List Nat := (s.pool.region.flatMap fun e => e.2.acl.map Access.pbr).eraseDups

/-- A command of a mailbox has not ended. -/
def boxBusy (s : State) (pbr : Nat) : Bool := s.pool.cmds.any fun c => match c.by_ with
  | .mailbox p _ _ _ => p == pbr
  | _ => false

/-- Mailboxes after a change of the lists or the end of a command: a listed ID has one, fresh when it is new; one that
is no longer listed goes with its last command. -/
def updateBoxes (s : State) : State :=
  let ids := listedIds s
  let keep := s.pool.boxes.filter fun b => ids.contains b || boxBusy s b
  let slots := s.pool.slots.filter fun e => keep.contains (e.1 / 8)
  { s with pool := { s.pool with boxes := keep ++ ids.filter (fun b => !keep.contains b), slots := slots } }

end Sys2Proof.Machine
end

