-- ==== Sys2Proof/Machine/PoolTab.lean ====
section
/-! DEFINITION. Region commands and list switches across modules, as far as this module takes part (R420, R424 to R427,
R441, R453). The content of TABLE requests is the model's own layout. -/

namespace Sys2Proof.Machine

/-- The endpoint value of a module that forwarded a region command. -/
def whoModule (m : Nat) : Nat := 1048576 + m
/-- The reference by which answers name a waiting command. -/
def tableRef (who tag : Nat) : Nat := who * 2 ^ 24 + tag

/-- The response parameters of WINDOW_SWITCH: generation in bytes 16 to 23 of the message, slot mask in byte 24 (R355, R400). -/
def switchParams (gen mask : Nat) : Nat := put gen 0 64 + put mask 64 8

/-- Answer a region command: an MCI response, or an answer to the module that forwarded it. -/
def answerTable (who opx tag status : Nat) (s : State) : State :=
  if 1048576 ≤ who then sendRsp (who - 1048576) 6 tag 0 1 0 0 0 status s
  else if opx % 65536 = 0x0403 then
    mciReply 0x0403 who tag status 0 9 (switchParams (opx / 2 ^ 24) (opx / 65536 % 256)) s
  else mciReply (opx % 65536) who tag status 0 0 0 s

/-- Dense GiB are keyed above the HBM units in the list that waits for zero-fill. -/
def denseKey (g : Nat) : Nat := 4096 + g

/-- Extents of all regions on this module with a backing. -/
def usedExtents (s : State) (backing : Nat) : List Nat :=
  (s.pool.region.filter fun e => e.2.backing == backing).flatMap fun e => e.2.extents

/-- Zeroed free units, lowest stack and unit first, or zeroed free GiB of dense capacity (R422). -/
def freeExtents (s : State) (backing : Nat) : List Nat :=
  let used := usedExtents s backing
  if backing = 1 then (rangeFrom 0 (if denseUp s then blocks / 262144 else 0)).filter fun g =>
    !used.contains g && !s.pool.unzeroed.contains (denseKey g)
  else (rangeFrom 0 288).filter fun u =>
    roleOf s u == 1 && !leaving s u && !used.contains u && !s.pool.unzeroed.contains u
where
  blocks : Nat := s.dense.attached.length * s.dense.perDrive
  /-- drives attached and a cache unit assigned -/
  denseUp (s : State) : Bool := !s.dense.attached.isEmpty && s.dense.units != 0

/-- Allocate this module's extents of a region; none when there are too few (R422, R424). -/
def allocExtents (region : Nat) (s : State) : Option State :=
  let r := regionOf s region
  let n := r.memberSize / giB
  let l := (freeExtents s r.backing).take n
  if l.length = n then some (updRegion region (fun g => { g with extents := l }) s) else none

/-- Extents that are given back: they wait for their zero-fill (R422). -/
def releaseExtents (region : Nat) (s : State) : State :=
  let r := regionOf s region
  let keys := if r.backing = 1 then r.extents.map denseKey else r.extents
  updRegion region (fun g => { g with extents := [] })
    { s with pool := { s.pool with unzeroed := s.pool.unzeroed ++ keys } }

/-- Mark of a command that another module runs for this one. -/
def forwarded : Nat := 2 ^ 60

/-- A region command has ended everywhere: CREATE makes the region ONLINE, REPLACE starts the rebuild (R424, R443). -/
def tableSuccess (opx : Nat) (s : State) : State :=
  let region := opx / 65536 % 4096
  if opx % 65536 ≠ 0x0501 ∨ forwarded ≤ opx then s
  else if (regionOf s region).state = 1 then replicate region (updRegion region (fun r => { r with state := 2 }) s)
  else
    let m := opx / 2 ^ 28 % 1024
    let rate := opx / 2 ^ 38 % 256
    replicate region (updRegion region (fun r => { r with
      state := 4, cursor := 0, locked := false, rate := if rate = 0 then 4 else rate
      members := match r.lost with
        | some i => r.members.set i m
        | none => r.members }) s)

/-- A region command has failed on a member: CREATE leaves the region FREE (R424). -/
def tableFailure (opx : Nat) (s : State) : State :=
  let region := opx / 65536 % 4096
  if opx % 65536 = 0x0501 ∧ opx < forwarded ∧ (regionOf s region).state = 1 then
    replicate region (updRegion region (fun _ => Region.reset) (releaseExtents region s))
  else s

/-- One module has answered a TABLE request of a waiting command. -/
def tableReply (ref status : Nat) (s : State) : State :=
  match s.pool.tables.find? fun t => tableRef t.1 t.2.2.1 == ref with
  | none => s
  | some (who, opx, tag, left) =>
    let rest := s.pool.tables.filter fun t => tableRef t.1 t.2.2.1 != ref
    let s1 := { s with pool := { s.pool with tables := rest } }
    if status ≠ 0 then answerTable who opx tag status (tableFailure opx s1)
    else if left ≤ 1 then answerTable who opx tag 0 (tableSuccess opx s1)
    else { s with pool := { s.pool with tables := (who, opx, tag, left - 1) :: rest } }

/-- A command waits for TABLE answers; with none to wait for it ends at once. -/
def tableWait (who opx tag left : Nat) (s : State) : State :=
  let s1 := { s with pool := { s.pool with tables := (who, opx, tag, left) :: s.pool.tables } }
  if left = 0 then tableReply (tableRef who tag) 0 s1 else s1

/-- The status of a TABLE request whose module is lost: a command forwarded to its coordinator is refused as a whole, an allocation
fails, and a switch or a release no longer waits (R426, R453). -/
def lostTable (s : State) (ref : Nat) : Nat := match s.pool.tables.find? fun t => tableRef t.1 t.2.2.1 == ref with
  | none => 0
  | some (_, opx, _, _) => if forwarded ≤ opx then mBusy else if opx % 65536 = 0x0501 then mResource else 0

/-- The status with which a part that waited for a lost module ends (R449). -/
def lostPart (q : OutReq) (s : State) : State := match q.kind with
  | 3 => updCmd q.ref (fun c => { c.noteStatus 7 with left := c.left - 1 }) s
  | 5 => updCmd q.ref (fun c => { c.noteStatus 7 with left := c.left - 1 }) s
  | 4 => tableReply q.ref (lostTable s q.ref) s
  | _ => s

/-- Requests that waited for a lost module end; the accesses of regions end with MEMBER_LOSS. -/
def dropRequests (m : Nat) (s : State) : State :=
  let gone := (s.lat.outReqs ++ s.lat.waiting).filter fun q => q.dst == m && q.kind != 0
  gone.foldl (fun t q => lostPart q t) { s with lat := { s.lat with
    outReqs := s.lat.outReqs.filter fun q => !gone.contains q
    waiting := s.lat.waiting.filter fun q => !gone.contains q } }

end Sys2Proof.Machine
end

