-- ==== Sys2Proof/Machine/Link.lean ====
section
/-! DEFINITION. Commands of the Lattice link layer and ports, cross-module window flits, configuration and queries
(R455 to R470, R481, R488, R490, R492, R543). -/

namespace Sys2Proof.Machine

/-- Requests to modules that have just been declared lost end. -/
def withLost (f : State → State) (s : State) : State :=
  let t := f s
  (t.lat.lost.filter fun m => !s.lat.lost.contains m).foldl (fun u m => dropRequests m u) t

/-! ### Training -/

/-- Step 5 of a start ends when no port trains any more (Table 17.2). -/
def trainingStep (s : State) : State :=
  if s.boot.starting && s.boot.steps.getLsbD 4 && trainingOver s then stepDone 5 s else s

/-- A width below the one before sends one FAULT packet (R458). -/
def noteNarrow (port before now : Nat) (s : State) : State :=
  if now < before then blockFault 0x8001 5 port (some now) (latEndpoint port) s else s

/-- PORT_TRAINING_DONE: PHY training of a port ends with its good lanes and its one-way latency in ns. A port with no good
pair becomes FAILED; one that trained announces itself with LINK_ID; one that retrained goes on from its oldest
unacknowledged flit (R457, R458, R468). -/
def execPortTrainingDone (port : Nat) (good : BitVec 8) (latency : Nat) (s : State) : Host.Outcome State Fault Refusal :=
  let x := latPort s port
  let w := widthOf (if x.state = 1 ∧ !x.fresh then good &&& x.lanes else good)
  if x.state = 1 then
    if w = 0 then .next (trainingStep (withLost (failPort port) s))
    else
      let s1 := updPort port (fun y => { y with width := w, lanes := good, latency := latency }) s
      .next (emit (.ctrlMsg port cLinkId (linkIdBytes s1 port)) (noteNarrow port 8 w s1))
  else if x.state = 3 then
    if w = 0 then .next (withLost (failPort port) s)
    else
      let v := min w x.width
      .next (noteNarrow port x.width v (updPort port (fun y => { y with
        state := 2, width := v, lanes := good, latency := latency, resend := y.unacked, progress := s.clk.wallPs }) s))
  else .next s

/-- The far side is the one that the configuration expects at the port (Table 14.9). -/
def linkIdOk (s : State) (port msg : Nat) : Bool :=
  let c := s.lat.cfg
  c.farOf c.module port == some (bits msg 8 10) && bits msg 48 4 == c.farPort c.module port &&
  bits msg 32 16 == c.domain && bits msg 52 2 == c.shape

/-- A port that trained comes UP with sequence numbers from zero, and its link counts as restored (R457, R465, R488). -/
def bringUp (port msg : Nat) (s : State) : State :=
  let x := latPort s port
  let far := some (bits msg 8 10, bits msg 48 4, bits msg 32 16, bits msg 52 2)
  let s1 := updPort port (fun _ => { LPort.reset with
    state := 2, width := x.width, lanes := x.lanes, latency := x.latency, far := far, fresh := false
    loadFrame := frameNumber s }) s
  let back := s1.lat.failed.contains (self s1, port)
  let s2 := if back then noteRestored (self s1) port (floodOwn cLinkFail (linkFailBody s1 port true) s1) else s1
  if s2.lat.standing = .joining then joinGroup s2 else s2

/-- LINK_ID: the announcement at the end of training is checked: the port is UP, or MISMATCH (R457, R464). -/
def execLinkId (port msg : Nat) (s : State) : Host.Outcome State Fault Refusal :=
  let x := latPort s port
  if x.state ≠ 1 ∨ x.width = 0 then .next s
  else if linkIdOk s port msg then .next (trainingStep (bringUp port msg s))
  else
    let s1 := updPort port (fun y => { y with
      state := 5, far := some (bits msg 8 10, bits msg 48 4, bits msg 32 16, bits msg 52 2) }) s
    .next (trainingStep (blockFault 0x8003 5 port none (latEndpoint port) s1))

/-- PORT_RETRAIN: an UP port loses block lock, exceeds the codeword ratio or excludes a lane (R457, R458). -/
def execPortRetrain (port : Nat) (s : State) : Host.Outcome State Fault Refusal := .next (retrainPort port s)

/-- RETRAIN_TIMEOUT: a port RETRAINING for 1 ms becomes FAILED (R457, R488). -/
def execRetrainTimeout (port : Nat) (s : State) : Host.Outcome State Fault Refusal :=
  if (latPort s port).state = 3 then .next (withLost (failPort port) s) else .next s

/-- TRAINING_RETRY: a FAILED or MISMATCH port trains again; one from MISMATCH does not widen; one that has been FAILED for an hour
raises its request (R457, R458, R588). -/
def execTrainingRetry (port : Nat) (s : State) : Host.Outcome State Fault Refusal :=
  let x := latPort s port
  if x.state = 4 ∨ x.state = 5 then
    .next (evaluateFor (0x8002, port) (failedHour s port) (updPort port (fun _ => { LPort.reset with
      state := 1, failedAt := x.failedAt, lanes := x.lanes, fresh := x.state == 4 }) s))
  else .next s

/-- Depth of an elastic buffer in its entries (Table 2.3): 0 and 1 PCIe/CXL receive, 2 and 3 transmit, of 128 B; 4 to 11
dense-tier receive, 12 to 19 transmit, of 32 B; 20 to 31 Lattice receive, 32 to 43 transmit, of one flit. -/
def elasticDepth (b : Nat) : Nat := if b < 4 then 96 else if b < 20 then 32 else if b < 44 then 64 else 0

/-- A buffer on the receive side of its link. -/
def elasticReceives (b : Nat) : Bool := decide (b < 2) || (decide (4 ≤ b) && decide (b < 12)) || (decide (20 ≤ b) && decide (b < 32))

/-- The Lattice port of a buffer. -/
def elasticPort (b : Nat) : Option Nat :=
  if 20 ≤ b ∧ b < 32 then some (b - 20) else if 32 ≤ b ∧ b < 44 then some (b - 32) else none

/-- What the observed fill of a buffer says: an entry beyond the depth is an overflow, an empty receive buffer that its
domain reads is an underflow; a transmit buffer that runs empty sends idle and is no fault (R51). -/
def elasticFault (b fill : Nat) : Bool := decide (elasticDepth b < fill) || (elasticReceives b && fill == 0)

/-- ELASTIC_OVERFLOW: a buffer of Table 2.3 is observed with a fill. Where that is an overflow or an underflow a link fault is
recorded for the buffer, its content is gone, and the link retrains: a Lattice port as a retraining there, a PCIe or drive link
by its own protocol, which leaves no other state of this device changed. DESIGN CHOICE, log entry 3: the record is a count per
buffer, as Table 18.2 has no reason for it (R50, R51). -/
def execElasticOverflow (buffer fill : Nat) (s : State) : Host.Outcome State Fault Refusal :=
  if 44 ≤ buffer then .next s
  else
    let bad := elasticFault buffer fill
    let s1 := { s with clk := { s.clk with elastic := Tab.upd Elastic.reset s.clk.elastic buffer fun e =>
      if bad then ⟨0, e.faults + 1⟩ else { e with fill := fill } } }
    .next (match elasticPort buffer with
      | some p => if bad then retrainPort p s1 else s1
      | none => s1)

/-! ### Flits -/

/-- IDLE_FLIT: an acknowledgement and credits (R467, R469). -/
def execIdleFlit (h : FlitHdr) (s : State) : Host.Outcome State Fault Refusal := .next (rxBare h (fun t => t) s)

/-- NAK: replay from the expected SEQ of the far side (R468). -/
def execNak (h : FlitHdr) (s : State) : Host.Outcome State Fault Refusal :=
  let fresh := decide ((h.ack - oldestSeqOf (latPort s h.port)).toNat < 8192)
  .next (rxBare { h with ackv := h.ackv && fresh } (replayFrom h.port (h.ack + 1)) s)

/-- ACK_IDLE_TIMER: 64 flit times without an ACK-bearing flit: an IDLE goes out (R467). -/
def execAckIdleTimer (port : Nat) (s : State) : Host.Outcome State Fault Refusal :=
  if portUp s port then .next (wireBare port 0 s) else .next s

/-- REPLAY_TIMEOUT: 1 µs without acknowledgement progress while flits are outstanding (R468). -/
def execReplayTimeout (port : Nat) (s : State) : Host.Outcome State Fault Refusal :=
  let x := latPort s port
  if portUp s port && !x.unacked.isEmpty && decide (x.progress + 1000000 ≤ s.clk.wallPs) then
    .next (replayFrom port (oldestSeqOf x) s)
  else .next s

/-- FLIT_SLOT: one flit slot of an UP port's output (R470). -/
def execFlitSlot (port : Nat) (s : State) : Host.Outcome State Fault Refusal :=
  if portUp s port then .next (fillSlot port s) else .next s

/-- FLIT_CRC_FAILURE: a flit fails its CRC, or lies in an uncorrectable codeword: discarded unused and counted (R455,
R466). -/
def execFlitCrcFailure (port : Nat) (uncorrectable : Bool) (s : State) : Host.Outcome State Fault Refusal :=
  if !portUp s port then .next s
  else
    let s1 := countUp 0x0402 port s
    .next (if uncorrectable then countUp 0x0405 port s1 else s1)

/-! ### Failures reported by others (R488) -/

/-- LINK_FAIL: a flooded message reports a link failed or restored. -/
def execLinkFail (h : Option FlitHdr) (port msg : Nat) (s : State) : Host.Outcome State Fault Refusal :=
  .next (withLost (rxCtrl h port (fun s =>
    if !floodNew s msg then s
    else
      let s1 := floodOn port msg s
      let (m, p) := (bits msg 8 10, bits msg 42 4)
      if bit1 msg 46 then noteRestored m p s1 else noteFailed m p s1)) s)

/-- LOST: a flooded message declares a module lost. -/
def execLost (h : Option FlitHdr) (port msg : Nat) (s : State) : Host.Outcome State Fault Refusal :=
  .next (withLost (rxCtrl h port (fun s =>
    if !floodNew s msg then s else declareLost (bits msg 32 10) (floodOn port msg s))) s)

/-! ### Window flits (R460, R462, R481) -/

/-- The stored window of a key at a port. -/
def storedWin (s : State) (port src : Nat) (stamp : BitVec 32) : Option StoredWin :=
  s.lat.store.find? fun w => w.port == port && w.src == src && w.stamp == stamp

/-- Replace a stored window. -/
def putWin (w : StoredWin) (s : State) : State :=
  { s with lat := { s.lat with
    store := w :: s.lat.store.filter fun v => !(v.port == w.port && v.src == w.src && v.stamp == w.stamp) } }

/-- Wire beats that a port's store holds. -/
def storeLoad (s : State) (port : Nat) : Nat :=
  (s.lat.store.filter fun w => w.port == port).foldl (fun n w => n + w.beats.length) 0

/-- A window becomes failed: its flits are discarded, and it counts once (R481). -/
def failWin (w : StoredWin) (s : State) : State :=
  let s1 := putWin { w with beats := [], failed := true } s
  if w.failed then s1 else countUp 0x0502 0 s1

/-- A window of this module: its beats enter the store of the arrival port. It fails when the store is full or when beats
of a second window come under its key; flits of a late window are discarded (R481, R484). -/
def storeWin (h : FlitHdr) (first total : Nat) (beats : List LineIn) (s : State) : State :=
  let stamp := BitVec.ofNat 32 h.xt
  let w := (storedWin s h.port h.src stamp).getD ⟨h.port, h.src, stamp, total, [], false, false, false⟩
  if w.failed || w.late then putWin w s
  else if w.total ≠ total ∨ w.beats.any (fun b => decide (first ≤ b.1) && decide (b.1 < first + beats.length)) then failWin w s
  else if 32768 < storeLoad s h.port + beats.length then failWin w s
  else
    let new := (rangeFrom 0 beats.length).filterMap fun i => (beats[i]?).map fun b => (first + i, b.data, b.poison)
    putWin { w with beats := w.beats ++ new } s

/-- The payload of a WIN flit (Table 14.7). -/
def winPayload (first total : Nat) (beats : List LineIn) : Nat :=
  put first 0 16 + put (total - 1) 16 16 + put beats.length 32 2 + put (poisonBits (beats.map fun b => b.poison)) 34 3 +
  linesBody (beats.map fun b => b.data) * 2 ^ 64

/-- WIN: a window flit is accepted in order and stored at its destination, or forwarded in its plane; with no UP port it is
discarded (R460, R481). `total` is the number of wire beats. -/
def execWin (h : FlitHdr) (first total : Nat) (beats : List LineIn) (s : State) : Host.Outcome State Fault Refusal :=
  .next (rxFlit h (fun s =>
    if h.dst = self s then storeWin h first total beats s
    else match windowPort s h.dst h.port with
      | none => s
      | some p => sendFlit p (some h.port) ⟨2, h.vc, h.src, h.dst, h.hops + 1, h.xt, winPayload first total beats⟩ s) s)

/-- WINDOW_AGE_OUT: a stored window whose stamp lies more than 255 frames behind the current fabric frame leaves the store
(R481). -/
def execWindowAgeOut (port src : Nat) (stamp : BitVec 32) (s : State) : Host.Outcome State Fault Refusal :=
  let age := (stampNow s - stamp).toNat
  if 255 < age ∧ age < 2 ^ 31 then
    .next { s with lat := { s.lat with
      store := s.lat.store.filter fun w => !(w.port == port && w.src == src && w.stamp == stamp) } }
  else .next s

/-! ### Lane sleep (R543) -/

/-- The partition that owns a Lattice port. -/
def portPart (s : State) (port : Nat) : Option Nat := partOf s (routerAt 127 (latticeRow0 port))

/-- The port's partition has an image with LATTICE = 1 bound. -/
def portBusy (s : State) (port : Nat) : Bool := match portPart s port with
  | none => false
  | some k => match boundImage s (part s k) with
    | some im => im.hdr.lattice
    | none => false

/-- LANE_SLEEP: with LANE_SLEEP set, an UP port without such an image and with 256 quiet frames keeps lanes 0 and 1 alone
running (R543). -/
def execLaneSleep (port : Nat) (s : State) : Host.Outcome State Fault Refusal :=
  let x := latPort s port
  let quiet := if frameNumber s = x.loadFrame then x.quiet
    else if x.flits < 64 then x.quiet + (frameNumber s - x.loadFrame) else frameNumber s - x.loadFrame - 1
  if portUp s port && !x.asleep && s.pm.laneSleep && !portBusy s port && decide (256 ≤ quiet) then
    .next (updPort port (fun y => { y with asleep := true }) s)
  else .next s

/-- LANE_WAKE: the transmit queue holds 32 flits, or the far side wakes the lanes (R543). -/
def execLaneWake (port : Nat) (s : State) : Host.Outcome State Fault Refusal :=
  if (latPort s port).asleep then .next (updPort port (fun y => { y with asleep := false }) s) else .next s

/-! ### Configuration and query (R490, R492) -/

/-- The configuration that parameters give (Table 14.11). -/
def latConfigOf (p : Nat) : LatConfig :=
  ⟨bits p 0 10, bits p 16 16, bits p 32 2, bits p 40 4 + 1, bits p 44 3 + 1, bits p 47 3 + 1, BitVec.ofNat 12 (bits p 64 12),
    bits p 80 8, bits p 128 96⟩

/-- Its fields are in range (Tables 14.3, 14.11). -/
def latConfigOk (c : LatConfig) : Bool :=
  (c.shape != 1 || (decide (2 ≤ c.modules) && decide (c.modules ≤ 1024))) && decide (c.module < max 1 c.modules) &&
  (rangeFrom 0 12).all fun i => decide (bits c.cable (8 * i) 8 ≤ 60)

/-- A partition is bound to an image with LATTICE = 1, or a pool region names this module. -/
def latConfigBusy (s : State) : Bool :=
  ((rangeFrom 0 4).any fun k => match boundImage s (part s k) with
    | some im => im.hdr.lattice
    | none => false) ||
  s.pool.region.any fun e => e.2.state != 0 && e.2.members.contains (self s)

/-- LATTICE_CONFIG: the configuration is kept, and every enabled port trains (R490). -/
def execLatticeConfig (q : MciReq) (s : State) : Host.Outcome State Fault Refusal :=
  let c := latConfigOf (mciParams q)
  .next (mciFixed 0x0601 32 [(0, 10), (16, 16), (32, 2), (40, 4), (44, 3), (47, 3), (64, 12), (80, 8), (128, 96)]
    (latConfigOk c) q (fun s =>
    if latConfigBusy s then mciStatus 0x0601 q mBusy s
    else
      let s1 := { s with lat := { Lat.reset with cfg := c, policy := s.lat.policy, tag := s.lat.tag } }
      mciStatus 0x0601 q mSuccess (joinGroup (trainPorts s1))) s)

/-- What LATTICE_QUERY says of a port. -/
def portContent (s : State) (p : Nat) : List Nat :=
  let x := latPort s p
  let far : List Nat := match x.far with
    | some f => [1, f.1, f.2.1, f.2.2.1, f.2.2.2]
    | none => [0]
  [x.state, x.width] ++ far ++
    [0x0401, 0x0402, 0x0403, 0x0404, 0x0405, 0x0406, 0x0407, 0x0408].map fun id => (counter s id p).toNat

/-- LATTICE_QUERY: ports, counters and standing (R492). -/
def execLatticeQuery (q : MciReq) (s : State) : Host.Outcome State Fault Refusal :=
  .next (mciFixed 0x0602 0 [] true q (fun s =>
    mciQuery 0x0602 q ((rangeFrom 0 12).flatMap (portContent s) ++
      [fsfNow s, s.lat.cfg.group, flag (s.lat.standing == .good), flag s.lat.locked, (coordinator s).getD 0x3FF, treeDepth s,
        deliveryPs s, 1500000000 + deliveryPs s, s.lat.lost.length] ++ s.lat.lost ++
      [0x0501, 0x0502, 0x0503, 0x0504, 0x0505, 0x0506].map fun id => (counter s id 0).toNat) s) s)

end Sys2Proof.Machine
end

