-- ==== Sys2Proof/Machine/Barrier.lean ====
section
/-! DEFINITION. Barriers and linked throttling (R471 to R478, R485, R486, R491, R494). -/

namespace Sys2Proof.Machine

/-! ### Messages (Tables 14.9, 14.12) -/

/-- Barrier policy in the layout of Table 14.12. -/
def policyBytes (p : Policy) : Nat :=
  put p.period 0 3 + put (flag p.linked) 3 1 + put p.timeoutUs 4 24 + put p.align 28 4 + put p.lead 32 4
/-- The policy of a layout. -/
def policyOf (x : Nat) : Policy := ⟨bits x 0 3, bit1 x 3, bits x 4 24, bits x 28 4, bits x 32 4⟩
/-- Its fields are in range. -/
def policyOk (p : Policy) : Bool :=
  decide (p.period ≤ 4) && decide (10 ≤ p.timeoutUs) && decide (p.timeoutUs ≤ 1000000) && decide (p.align ≤ 8) &&
  decide (3 ≤ p.lead)

/-- FSF of the superframe that the pending boundary begins. -/
def fsfPend (s : State) : Nat := (nextSuper s / 1048576 + s.lat.fsfOff) % 2 ^ 48

/-- The slowest of some settings (R59, R658). -/
def slowestOf (l : List (BitVec 9)) : BitVec 9 := l.foldl slower 0

/-! ### The conditions of ARRIVE (R473) -/

/-- Frames that follow in a run, as far as they are decided. -/
def framesAhead (im : Image) : Nat → Nat → Nat → List (Nat × Nat)
  | 0, _, _ => []
  | n + 1, v, f => match im.variants[v]? with
    | none => []
    | some x =>
      if f < x.frames then (v, f) :: framesAhead im n v (f + 1)
      else if x.chosen ∨ x.next = 8 then []
      else (x.next, 0) :: framesAhead im n x.next 1

/-- The frames of a run from the pending boundary on. -/
def framesOf (im : Image) (r : Run) : List (Nat × Nat) := match r.choice with
  | .variant n => framesAhead im 256 n 0
  | .ends => []
  | .bad => []
  | .pending => framesAhead im 256 r.variant (r.frame + 1)

/-- The window of a key is in the store, complete or failed. -/
def windowThere (s : State) (port peer : Nat) (stamp : BitVec 32) : Bool := match storedWin s port peer stamp with
  | none => false
  | some w => w.failed || w.late || w.beats.length == w.total

/-- The windows that a partition expects with a stamp before the boundary and a consumption at or after it: port, module and
stamp. -/
def expectedWindows (s : State) (k : Nat) : List (Nat × Nat × BitVec 32) :=
  let p := part s k
  let f0 := 256 * fsfPend s
  if p.parked then []
  else match boundImage s p, p.run with
    | some im, some r =>
      let fs := framesOf im r
      (rangeFrom 0 fs.length).flatMap fun j => match fs[j]? with
        | none => []
        | some (v, f) => im.lattice.filterMap fun w =>
          if w.dir = 1 ∧ im.patternAt v f = some w.pattern ∧ j < w.bound then
            some (w.port, w.peer, BitVec.ofNat 32 (f0 + j) - BitVec.ofNat 32 w.bound) else none
    | _, _ => []

/-- Each of them is there, for one partition (R473). -/
def windowsThere (s : State) (k : Nat) : Bool := (expectedWindows s k).all fun w => windowThere s w.1 w.2.1 w.2.2

/-- After a PARTIAL release the windows still waited for are late: what comes of them is discarded (R475, R484). -/
def markLate (s : State) : State :=
  ((rangeFrom 0 4).flatMap (expectedWindows s)).foldl (fun t w =>
    if windowThere t w.1 w.2.1 w.2.2 then t
    else
      let v := (storedWin t w.1 w.2.1 w.2.2).getD ⟨w.1, w.2.1, w.2.2, 1, [], false, false, false⟩
      putWin { v with beats := [], late := true } t) s

/-- A run of an image with LATTICE = 1 executes. -/
def latticeRuns (s : State) : Bool := (rangeFrom 0 4).any fun k => match boundImage s (part s k) with
  | some im => im.hdr.lattice && (part s k).run.isSome && !(part s k).parked
  | none => false

/-- This module leaves the group at this boundary (R378). -/
def leavesNow (s : State) : Bool := s.fw.vet == 1 && !latticeRuns s

/-- A parked partition waits to rejoin and does not yet meet the other conditions of R64 (R486). -/
def parkWaits (s : State) : Bool := (rangeFrom 0 4).any fun k =>
  let p := part s k
  match boundImage s p with
  | none => false
  | some im => p.parked && im.hdr.lattice && !(p.prep && !belowFloor s im && decide (permitted ≤ p.permitFrames + 1) &&
      decide (p.okSince + 65536 ≤ nextSuper s) && !p.resetPend && p.unbinding.isNone && (decide (p.idleState ≤ 1) || p.exiting))

/-- The children whose ARRIVE is awaited have sent it. -/
def childrenHere (s : State) : Bool :=
  ((children s).filter fun m => s.lat.members.contains m).all fun m => s.lat.arrivals.any fun a => a.from_ == m

/-- The conditions of an ARRIVE hold. -/
def arriveReady (s : State) : Bool :=
  s.clk.held && !s.lat.arriveSent && childrenHere s && (rangeFrom 0 4).all (windowsThere s)

/-- Own ARRIVE with the subtree's: count, flags, setting. -/
def arriveOf (s : State) : Arrived :=
  let l := s.lat.arrivals
  ⟨self s, if s.lat.standing = .good then fsfPend s else 2 ^ 48 - 1, l.foldl (fun n a => n + a.count) 1,
    leavesNow s || l.any Arrived.leave, parkWaits s || l.any Arrived.parkWait, s.lat.unlockedNote || l.any Arrived.unlocked,
    slowestOf (s.pm.own :: l.map Arrived.setting)⟩

/-- The body of ARRIVE. -/
def arriveBody (a : Arrived) : Nat :=
  put a.fsf 32 48 + put a.count 80 11 + put (flag a.leave) 91 1 + put (flag a.parkWait) 92 1 +
  put (flag a.unlocked) 93 1 + put a.setting.toNat 94 9

/-! ### Release (R474) -/

/-- The body of RELEASE with its delay in ns. -/
def releaseBody (r : Release) (delay : Nat) : Nat :=
  put r.fsf 32 48 + put (flag r.partialRel) 80 1 + put (flag r.resume) 81 1 + put (flag r.setv) 82 1 +
  put r.setting.toNat 83 9 + put delay 96 16 + put (policyBytes r.policy) 112 40

/-- RELEASE goes to every child, with the delay reduced by the latency of the link to it. -/
def sendRelease (r : Release) (delay : Nat) (s : State) : State :=
  (children s).foldl (fun t c => match portToward t c with
    | none => t
    | some p => sendCtrl p (ctrlBytes t cRelease 0 (releaseBody r (delay - (latPort t p).latency))) t) s

/-- The coordinator releases the pending barrier (R473 to R476). -/
def releaseBarrier (late : Bool) (s : State) : State :=
  let a := arriveOf s
  let pol := s.lat.nextPolicy.getD s.lat.policy
  let fsf := if s.lat.standing = .good then fsfPend s else nextSuper s / 1048576 % 2 ^ 48
  let delay := 190 * treeDepth s + 200
  let setting := slowestOf (a.setting :: (s.lat.members.map fun m => Tab.get 0 s.lat.treqs m))
  let r : Release := ⟨fsf, late, !a.parkWait, pol.linked, if pol.linked then setting else 0,
    s.clk.wallPs + 1000 * delay, pol⟩
  sendRelease r delay { s with lat := { s.lat with release := some r, nextPolicy := none, arriveSent := true,
                                                   unlockedNote := false,
                                                   groupSetting := setting } }

/-- The coordinator has heard from every member in good standing, and from each joiner that arrived (R473, R476). -/
def countFull (s : State) : Bool :=
  let known := (s.lat.arrivals.filter fun a => a.fsf != 2 ^ 48 - 1).foldl (fun n a => n + a.count) 0
  s.lat.standing == .good && decide (s.lat.members.length ≤ known)

/-- ARRIVE goes out once its conditions hold; at the coordinator a full count releases (R473). -/
def arriveTry (s : State) : State :=
  if coordinator s = some (self s) then
    (if arriveReady { s with lat := { s.lat with arriveSent := false } } && countFull s && s.lat.release.isNone then
      releaseBarrier false s
    else if arriveReady s then { s with lat := { s.lat with arriveSent := true } } else s)
  else if arriveReady s then match parentPort s with
    | none => s
    | some p =>
      sendCtrl p (ctrlBytes s cArrive 0 (arriveBody (arriveOf s)))
        { s with lat := { s.lat with arriveSent := true, unlockedNote := false } }
  else s

/-- This module lapses: it holds at no barrier, keeps its runs, and asks to join again (R475). -/
def lapse (s : State) : State :=
  joinGroup (countUp 0x0503 0 (mpEvent 0x8005 0 0 0
    { s with lat := { s.lat with standing := .joining, locked := false, unlockedNote := true, release := none } }))

/-- Every module named as PEER is a member in good standing. -/
def peersGood (s : State) (im : Image) : Bool := im.lattice.all fun r => s.lat.members.contains r.peer

/-- The rejoin conditions at this barrier boundary (R486). -/
def rejoinParts (ok : Bool) (s : State) : State :=
  updParts (fun _ p => match boundImage s p with
    | some im => if p.rejoin then { p with rejoin := !(ok && s.lat.standing == .good && peersGood s im) } else p
    | none => p) s

/-- A partition that stayed parked waits for the next barrier boundary. -/
def keepWaiting (s : State) : State :=
  updParts (fun _ p => match boundImage s p with
    | some im => if p.parked && im.hdr.lattice then { p with rejoin := true } else p
    | none => p) s

/-- The hold ends: its time counts, the boundary tick passes with a setting that applies on it, and the boundary's decisions
are taken (R58, R66, R474). -/
def releaseTick (fsf : Nat) (setting : Option (BitVec 9)) (resume : Bool) (s : State) : State :=
  let b := nextSuper s
  let s1 := countBy 0x0506 0 ((s.clk.wallPs - s.lat.heldAt) / 1000) { s with
    clk := { s.clk with held := false }
    lat := { s.lat with fsfOff := (fsf + 2 ^ 48 - b / 1048576 % 2 ^ 48) % 2 ^ 48 } }
  let s2 := advanceFree b s1
  let s3 := match setting with
    | none => s2
    | some x => applySetting x { s2 with lat := { s2.lat with tset := s2.lat.tset.filter fun e => e.2 != stampNow s2 } }
  keepWaiting (boundary (rejoinParts resume s3))

/-- Children that leave with this barrier. -/
def leavers (s : State) : List Nat := (s.lat.arrivals.filter fun a => a.leave && a.count == 1).map fun a => a.from_

/-- The release takes effect at this member (R474, R476, R478). -/
def applyRelease (r : Release) (s : State) : State :=
  let gone := leavers s
  let left := leavesNow s
  let mem := ((s.lat.members ++ s.lat.joiners).eraseDups).filter fun m => !gone.contains m && moduleUp s m
  let alone := s.pm.alone && !(r.setv && s.pm.cause.isNone)
  let setting := if r.setv && s.fw.vet != 1 then some (match s.pm.cause with
      | some c => slower r.setting c
      | none => r.setting) else none
  let s1 := { s with
    lat := { s.lat with
      release := none, arrivals := [], members := mem, joiners := [], policy := r.policy
      standing := if left then .out else .good
      locked := r.setv && r.policy.linked && !alone, lastPartial := r.partialRel, lastResume := r.resume
      lastRelease := nextSuper s + 1 }
    pm := { s.pm with alone := alone, group := if r.setv then r.setting else s.pm.group } }
  releaseTick r.fsf setting (r.resume && !r.partialRel) (if r.partialRel then markLate s1 else s1)
where
  /-- not declared lost -/
  moduleUp (s : State) (m : Nat) : Bool := !s.lat.lost.contains m

/-- A PARTIAL release is noted (R475, Table 18.8). -/
def notePartial (late : Bool) (s : State) : State :=
  if late then countUp 0x0504 0 (mpEvent 0x8006 0 0 0 s) else s

/-! ### Commands -/

/-- BARRIER_HOLD: the ticks up to the next barrier boundary pass and its tick is withheld; ARRIVE follows once its
conditions hold (R58, R473). -/
def execBarrierHold (s : State) : Host.Outcome State Fault Refusal :=
  if s.clk.held then .next (arriveTry s)
  else if tickRuns s && barrierArmed s then .next (arriveTry (runTo (nextSuper s) s))
  else .next s

/-- ARRIVE: a child's subtree has arrived (R473). -/
def execArrive (h : Option FlitHdr) (port msg : Nat) (s : State) : Host.Outcome State Fault Refusal :=
  .next (rxCtrl h port (fun s =>
    if bits msg 18 8 ≠ s.lat.cfg.group ∨ s.lat.standing = .out then s
    else match s.lat.cfg.farOf (self s) port with
      | none => s
      | some m =>
        let a : Arrived := ⟨m, bits msg 32 48, bits msg 80 11, bit1 msg 91, bit1 msg 92, bit1 msg 93,
          BitVec.ofNat 9 (bits msg 94 9)⟩
        let resend := s.lat.arrivals.any fun b => b.from_ == m
        let s1 := { s with lat := { s.lat with
          arrivals := a :: s.lat.arrivals.filter fun b => b.from_ != m
          arriveSent := s.lat.arriveSent && !resend } }
        arriveTry s1) s)

/-- RELEASE: forwarded to the children; a held member releases after its delay, and one that has not reached the boundary
of a PARTIAL release lapses (R474, R475). -/
def execRelease (h : Option FlitHdr) (port msg : Nat) (s : State) : Host.Outcome State Fault Refusal :=
  .next (rxCtrl h port (fun s =>
    if bits msg 18 8 ≠ s.lat.cfg.group ∨ s.lat.standing = .out then s
    else
      let delay := bits msg 96 16
      let r : Release := ⟨bits msg 32 48, bit1 msg 80, bit1 msg 81, bit1 msg 82, BitVec.ofNat 9 (bits msg 83 9),
        s.clk.wallPs + 1000 * delay, policyOf (bits msg 112 40)⟩
      let s1 := notePartial r.partialRel (sendRelease r delay s)
      if s1.clk.held then { s1 with lat := { s1.lat with release := some r } }
      else if r.partialRel ∧ s1.lat.standing = .good then lapse s1
      else s1) s)

/-- RELEASE_DELAY_EXPIRY: DELAY_NS have passed and the hold ends (R474). -/
def execReleaseDelayExpiry (s : State) : Host.Outcome State Fault Refusal := match s.lat.release with
  | none => .next s
  | some r => if s.clk.held then .next (applyRelease r s) else .next s

/-- BARRIER_TIMEOUT: the coordinator's count is short TIMEOUT_US after it arrived: PARTIAL (R475). -/
def execBarrierTimeout (s : State) : Host.Outcome State Fault Refusal :=
  if s.clk.held && s.lat.arriveSent && s.lat.release.isNone && s.lat.standing == .good &&
      coordinator s == some (self s) then
    .next (notePartial true (releaseBarrier true s))
  else .next s

/-- BARRIER_LONE_RELEASE: held for TIMEOUT_US + 2 ms without any RELEASE, the member releases alone and lapses (R475). -/
def execBarrierLoneRelease (s : State) : Host.Outcome State Fault Refusal :=
  if s.clk.held && s.lat.release.isNone then
    .next (lapse (releaseTick (fsfPend s) none false { s with lat := { s.lat with standing := .joining, arrivals := [] } }))
  else .next s

/-- FIRST_BARRIER_TIMER: the lowest-numbered member whose ports are UP, which has heard of no lower one for 10 ms, releases
the first barrier with its local superframe number (R476). -/
def execFirstBarrierTimer (s : State) : Host.Outcome State Fault Refusal :=
  let ports := (rangeFrom 0 12).filter fun p => (latPort s p).state != 0
  if s.clk.held && s.lat.standing == .joining && s.lat.release.isNone && ports.all (portUp s) &&
      (s.lat.members ++ s.lat.joiners).all (fun m => decide (self s < m)) then
    .next (releaseBarrier false s)
  else .next s

/-- The coordinator takes a request: a change of the group setting goes out as TSET with EFFECTIVE = current fabric frame +
LEAD (R477). -/
def takeRequest (m : Nat) (x : BitVec 9) (s : State) : State :=
  let s1 := { s with lat := { s.lat with treqs := Tab.set 0 s.lat.treqs m x } }
  let g := slowestOf ((goodMembers s1).map fun k => Tab.get 0 s1.lat.treqs k)
  if g = s.lat.groupSetting then s1
  else
    let eff := stampNow s1 + BitVec.ofNat 32 s1.lat.policy.lead
    let s2 := { s1 with
      lat := { s1.lat with groupSetting := g, tset := if s1.pm.alone then s1.lat.tset else some (g, eff) }
      pm := { s1.pm with group := g } }
    (children s2).foldl (fun t c => match portToward t c with
      | none => t
      | some p => sendCtrl p (ctrlBytes t cTset 0 (put g.toNat 32 9 + put eff.toNat 64 32)) t) s2

/-- Linked throttling is in use here: LINKED, and the module is not UNVETTED (R378, R477). -/
def linkedOn (s : State) : Bool := s.lat.policy.linked && s.fw.vet != 1 && s.lat.standing == .good

/-- This module's PM requests a setting of the group (R477). -/
def requestSetting (x : BitVec 9) (s : State) : State :=
  let s1 := { s with pm := { s.pm with lastTreq := x, treqFrame := frameNumber s } }
  if coordinator s = some (self s) then takeRequest (self s) x s1
  else match parentPort s with
    | none => s1
    | some p => sendCtrl p (ctrlBytes s1 cTreq 0 (put x.toNat 32 9)) s1

/-- TREQ: a member's request reaches the coordinator, or goes on up the tree (R477). -/
def execTreq (h : Option FlitHdr) (port msg : Nat) (s : State) : Host.Outcome State Fault Refusal :=
  .next (rxCtrl h port (fun s =>
    if !linkedOn s || bits msg 18 8 != s.lat.cfg.group then s
    else if coordinator s = some (self s) then takeRequest (bits msg 8 10) (BitVec.ofNat 9 (bits msg 32 9)) s
    else match parentPort s with
      | none => s
      | some p => sendCtrl p msg s) s)

/-- TSET: a group setting for the boundary tick of frame EFFECTIVE; one that comes too late applies at the next throttle
boundary and the member has slipped (R477). -/
def execTset (h : Option FlitHdr) (port msg : Nat) (s : State) : Host.Outcome State Fault Refusal :=
  .next (rxCtrl h port (fun s =>
    if !linkedOn s || bits msg 18 8 != s.lat.cfg.group then s
    else
      let x := BitVec.ofNat 9 (bits msg 32 9)
      let eff := BitVec.ofNat 32 (bits msg 64 32)
      let s1 := (children s).foldl (fun t c => match portToward t c with
        | none => t
        | some p => sendCtrl p (ctrlBytes t cTset 0 (put x.toNat 32 9 + put eff.toNat 64 32)) t) s
      let s2 := { s1 with pm := { s1.pm with group := x } }
      if s.pm.alone then s2
      else if precedes32 (stampNow s) eff then { s2 with lat := { s2.lat with tset := some (x, eff) } }
      else writeSetting x (countUp 0x0505 0 { s2 with lat := { s2.lat with locked := false, unlockedNote := true } })) s)

/-- JOIN: a flooded message: its origin is not in good standing and asks to join; a lost module becomes known again (R476,
R488). -/
def execJoin (h : Option FlitHdr) (port msg : Nat) (s : State) : Host.Outcome State Fault Refusal :=
  .next (rxCtrl h port (fun s =>
    if !floodNew s msg then s
    else
      let m := bits msg 8 10
      let s1 := floodOn port msg s
      if bits msg 18 8 ≠ s.lat.cfg.group ∨ s.lat.cfg.group = 0 then s1
      else
        let s2 := informReturned m s1
        { s2 with lat := { s2.lat with
        lost := s1.lat.lost.filter (fun x => x != m), members := s1.lat.members.filter (fun x => x != m)
        joiners := if s1.lat.joiners.contains m then s1.lat.joiners else m :: s1.lat.joiners
        treqs := Tab.set 0 s1.lat.treqs m 0 } }) s)

/-- POLICY: a barrier policy reaches the coordinator, or goes on toward it (R491). -/
def execPolicy (h : Option FlitHdr) (port msg : Nat) (s : State) : Host.Outcome State Fault Refusal :=
  .next (rxCtrl h port (fun s =>
    if bits msg 18 8 ≠ s.lat.cfg.group then s
    else if coordinator s = some (self s) then
      { s with lat := { s.lat with nextPolicy := some (policyOf (bits msg 32 40)) } }
    else match parentPort s with
      | none => s
      | some p => sendCtrl p msg s) s)

/-- BARRIER_POLICY: any member accepts it and passes it to the coordinator; it takes effect at the next RELEASE (R491). -/
def execBarrierPolicy (q : MciReq) (s : State) : Host.Outcome State Fault Refusal :=
  let p := mciParams q
  .next (mciFixed 0x0603 8 [(0, 3), (3, 1), (4, 24), (28, 4), (32, 4)] (policyOk (policyOf p)) q (fun s =>
    let s1 := mciStatus 0x0603 q mSuccess s
    if coordinator s = some (self s) then { s1 with lat := { s1.lat with nextPolicy := some (policyOf p) } }
    else match parentPort s1 with
      | none => s1
      | some port => sendCtrl port (ctrlBytes s1 cPolicy 0 (put p 32 40)) s1) s)

end Sys2Proof.Machine
end

