-- ==== Sys2Proof/Machine/CompOps.lean ====
section
/-! DEFINITION. The compressor of a Lattice port: blocks, records, residuals, expansion, and the flits of a window
(R191 to R201, R462, R479). -/

namespace Sys2Proof.Machine

/-- A direction of a port: 0 outgoing, 1 incoming. -/
def compOf (s : State) (port dir : Nat) : Comp := Tab.get Comp.reset s.comp (2 * port + dir)
/-- Change a direction of a port. -/
def updComp (port dir : Nat) (f : Comp → Comp) (s : State) : State :=
  { s with comp := Tab.upd Comp.reset s.comp (2 * port + dir) f }

/-! ### Descriptors (Table 6.2) -/

/-- The descriptor of a beat. DESIGN CHOICE (log entry 15): Table 6.2 says of RESID "outgoing only"; a 1 in an incoming
descriptor is taken as a reserved value. -/
def descOf (x : Nat) : CompDesc :=
  let mode := bits x 0 2
  let k := bits x 8 8
  let blocks := bits x 16 16
  ⟨mode, bits x 2 1, bit1 x 4, k, blocks,
   mode == 3 || bits x 5 3 != 0 || bits x 32 480 != 0 || (if mode = 1 then decide (k = 0 ∨ 128 < k) else k != 0) ||
   (if mode = 0 then blocks != 0 else blocks == 0) || (bit1 x 3 && bit1 x 4)⟩

/-- Elements per beat, beats per block, bytes per element. -/
def perBeat (etype : Nat) : Nat := if etype = 1 then 16 else 32
def perBlock (etype : Nat) : Nat := if etype = 1 then 16 else 8
def elemBytes (etype : Nat) : Nat := if etype = 1 then 4 else 2
/-- Record size S (Table 6.3). -/
def recordSize (d : CompDesc) : Nat := if d.mode = 2 then 36 else d.k * (1 + elemBytes d.etype)
/-- The window passes unchanged. -/
def CompDesc.passes (d : CompDesc) : Bool := d.mode == 0 && !d.bad
/-- Dense beats of a window of `wire` wire beats. -/
def denseBeats (d : CompDesc) (wire : Nat) : Nat :=
  if d.mode = 0 ∨ d.blocks = 0 then wire else d.blocks * perBlock d.etype
/-- The descriptor or the compressed size is faulty (R192, R197). -/
def descFault (d : CompDesc) (wire : Nat) : Bool :=
  d.bad || (d.mode != 0 && cdiv (d.blocks * recordSize d) 64 != wire)

/-- Count a descriptor fault and send its FAULT packet (R197). -/
def noteDescFault (port : Nat) (s : State) : State := blockFault 0x8008 2 port none (latEndpoint port) (countUp 0x040A port s)

/-! ### Blocks (R192 to R194) -/

/-- Element j of a block as stored. -/
def blockRaw (etype : Nat) (bs : List DenseBeat) (j : Nat) : BitVec 32 :=
  let n := perBeat etype
  let d := (bs[j / n]?.map fun b => b.beat.data).getD 0
  if etype = 1 then lineElem 32 d (j % n) else (lineElem 16 d (j % n) : BitVec 16).zeroExtend 32
/-- Element j as binary32. -/
def blockFp (etype : Nat) (bs : List DenseBeat) (j : Nat) : BitVec 32 :=
  if etype = 1 then blockRaw 1 bs j else blockRaw etype bs j <<< 16

/-- The top-k key: the bit pattern without its sign (R193). -/
def topKey (etype : Nat) (x : BitVec 32) : Nat := x.toNat % 2 ^ (8 * elemBytes etype - 1)

/-- The indices selected: the K largest keys, among equal ones the lower index (R193). -/
def topIndices (etype k : Nat) (bs : List DenseBeat) : List Nat :=
  let keys := (rangeFrom 0 256).map fun j => topKey etype (blockRaw etype bs j)
  (rangeFrom 0 256).filter fun j =>
    let a := keys[j]?.getD 0
    decide (((rangeFrom 0 256).filter fun i =>
      let b := keys[i]?.getD 0
      decide (a < b) || (b == a && decide (i < j))).length < k)

/-- Bytes side by side. -/
def packBytes (w : Nat) : List Nat → Nat
  | [] => 0
  | a :: t => a % 2 ^ w + 2 ^ w * packBytes w t

/-- The top-k record. -/
def topRecord (etype k : Nat) (bs : List DenseBeat) : Nat :=
  let ix := topIndices etype k bs
  packBytes 8 ix + 2 ^ (8 * k) * packBytes (8 * elemBytes etype) (ix.map fun j => (blockRaw etype bs j).toNat)

/-- The sum of magnitudes in ascending order, times 2^-8 (R194). -/
def blockScale (etype : Nat) (bs : List DenseBeat) : BitVec 32 :=
  fpMul ((rangeFrom 0 256).foldl (fun a j => fpAdd a (fpAbs (blockFp etype bs j))) 0) 0x3B800000#32
/-- The block is nonfinite. -/
def blockNonfinite (etype : Nat) (bs : List DenseBeat) : Bool :=
  !((rangeFrom 0 256).all fun j => fpFinite (blockFp etype bs j)) || !fpFinite (blockScale etype bs)
/-- The scale as the element type holds it. -/
def blockSe (etype : Nat) (bs : List DenseBeat) : BitVec 32 :=
  if etype = 1 then blockScale etype bs else bf16Widen (bf16Rne (blockScale etype bs))

/-- The sign record (Table 6.3). -/
def signRecord (etype : Nat) (bs : List DenseBeat) : Nat :=
  packBytes 1 ((rangeFrom 0 256).map fun j => flag (fpSign (blockFp etype bs j))) +
  2 ^ 256 * (if blockNonfinite etype bs then 0x7FC00000 else (blockSe etype bs).toNat)

/-- The record of a block. -/
def blockRecord (d : CompDesc) (bs : List DenseBeat) : Nat :=
  if d.mode = 2 then signRecord d.etype bs else topRecord d.etype d.k bs

/-- Residual of element j, as the element type holds it, given what the block sends: its selected indices, or its scale
(none for a nonfinite block) (R193, R194). -/
def residElem (d : CompDesc) (ix : List Nat) (se : Option (BitVec 32)) (bs : List DenseBeat) (j : Nat) : BitVec 32 :=
  let raw := blockRaw d.etype bs j
  if d.mode = 2 then
    match se with
    | none => raw
    | some e =>
      let x := blockFp d.etype bs j
      let y := fpAdd x (if fpSign x then e else fpNeg e)
      if d.etype = 1 then y else (bf16Rne y).zeroExtend 32
  else if ix.contains j then 0 else raw

/-- A beat of elements. -/
def elemsBeat (etype : Nat) (f : Nat → BitVec 32) : LineData :=
  if etype = 1 then lineOf 32 16 f else lineOf 16 32 fun i => (f i).truncate 16

/-- The residual beats of a block; of a faulty window, its dense beats unchanged (R195, R197, R198). -/
def residBeats (d : CompDesc) (fault : Bool) (bs : List DenseBeat) : List DenseBeat :=
  let ix := if fault ∨ d.mode = 2 then [] else topIndices d.etype d.k bs
  let se := if fault ∨ d.mode ≠ 2 ∨ blockNonfinite d.etype bs then none else some (blockSe d.etype bs)
  (rangeFrom 0 bs.length).filterMap fun i => (bs[i]?).map fun b =>
    let data := if fault then b.beat.data else elemsBeat d.etype fun j => residElem d ix se bs (perBeat d.etype * i + j)
    ⟨b.at_ + 45, b.router, Beat.of data b.beat.poison⟩

/-! ### The transmit path (R462, R479) -/

/-- Bytes become wire beats; the window's last one is padded with zero bytes. `poison` is that of the record that the bytes
end with: a wire beat is poisoned when a record with bytes in it is (R198). -/
def packWire : Nat → Bool → Bool → Comp → Comp
  | 0, _, _, c => c
  | n + 1, last, poison, c =>
    if 64 ≤ c.tailLen ∨ (last ∧ 0 < c.tailLen) then
      packWire n last poison { c with
        wire := c.wire ++ [(BitVec.ofNat 512 c.tail, c.tailPoison)], tail := c.tail / 2 ^ 512
        tailLen := c.tailLen - 64, tailPoison := poison && decide (64 < c.tailLen) }
    else c

/-- Bytes of a record join the beat in progress. -/
def addBytes (bytes len : Nat) (poison last : Bool) (c : Comp) : Comp :=
  packWire (len / 64 + 2) last poison { c with
    tail := c.tail + bytes % 2 ^ (8 * len) * 2 ^ (8 * c.tailLen), tailLen := c.tailLen + len
    tailPoison := c.tailPoison || poison }

/-- Whole flits of three beats leave, and with the window's last beat the rest (R462). -/
def sendWire (port peer total : Nat) (stamp : BitVec 32) (last : Bool) : Nat → State → State
  | 0, s => s
  | n + 1, s =>
    let c := compOf s port 0
    if 3 ≤ c.wire.length ∨ (last ∧ c.wire ≠ []) then
      let beats := (c.wire.take 3).map fun w => (⟨w.1, w.2⟩ : LineIn)
      let f : Flit := ⟨2, 1, self s, peer, 0, stamp.toNat, winPayload c.first total beats⟩
      let s1 := updComp port 0 (fun x => { x with wire := x.wire.drop 3, first := x.first + beats.length }) s
      sendWire port peer total stamp last n (match windowPort s1 peer port with
        | none => s1
        | some p => sendFlit p none f s1)
    else s

/-- The window ends: after a fault the direction is back in MODE 0. -/
def endWindow (c : Comp) : Comp :=
  { c with window := none, entered := 0, block := [], wire := [], first := 0, tail := 0, tailLen := 0, tailPoison := false
           desc := if c.fault then CompDesc.reset else c.desc, fault := false }

/-- A piece of the window is handed to the transmit path; of a faulty window the last one brings every missing wire beat
as zero bytes with POISON (R197). -/
def handOver (port : Nat) (r : CompRec) (s : State) : State :=
  match (compOf s port 0).window with
  | none => s
  | some (_, peer, total, stamp) =>
    let s1 := updComp port 0 (fun c =>
      if !c.fault then addBytes r.bytes r.len r.poison r.last c
      else if r.last then { c with
        wire := c.wire ++ List.replicate (total - c.first - c.wire.length) (0, true), tail := 0, tailLen := 0 }
      else c) s
    let s2 := sendWire port peer total stamp r.last (total + 1) s1
    if r.last then updComp port 0 endWindow s2 else s2

/-! ### Entry of dense beats (R191, R192, R479) -/

/-- A window opens on a port: the latest descriptor is in force, and its faults count. What an unfinished window of the
port still had to send is discarded (log entry 19, DESIGN CHOICE). -/
def openWindow (port recIdx : Nat) (r : LatRec) (s : State) : State :=
  let wire := r.beatsM1 + 1
  let c := compOf s port 0
  let d := c.next.getD c.desc
  let bad := descFault d wire
  let s1 := updComp port 0 (fun x => { (endWindow x) with
    desc := d, next := none, fault := bad, records := [], window := some (recIdx, r.peer, wire, stampNow s)
    opened := some (recIdx, stampNow s) }) s
  if bad then noteDescFault port s1 else s1

/-- A block is complete: its residuals and its record fall due (R192, R195). -/
def closeBlock (port : Nat) (last : Bool) (s : State) : State :=
  let c := compOf s port 0
  match c.block, c.block.getLast? with
  | b :: _, some e =>
    let span := decide (b.at_ + 15 < e.at_)
    let fault := c.fault || span
    let s1 := if span && !c.fault then noteDescFault port s else s
    let s2 := if c.desc.mode = 2 && !fault && blockNonfinite c.desc.etype c.block then countUp 0x0409 port s1 else s1
    let rec_ : CompRec := ⟨e.at_ + 45, if fault then 0 else blockRecord c.desc c.block, recordSize c.desc,
      c.block.any fun x => x.beat.poison, last⟩
    updComp port 0 (fun x => { x with
      fault := fault, block := [], records := x.records ++ [rec_]
      residuals := if c.desc.resid then x.residuals ++ residBeats c.desc fault c.block else x.residuals }) s2
  | _, _ => s

/-- An outgoing window of a port is open: not all of its dense beats have entered (R191). -/
def windowOpen (s : State) (port : Nat) : Bool :=
  let c := compOf s port 0
  match c.window with
  | some (_, _, wire, _) => decide (c.entered < denseBeats c.desc wire)
  | none => false

/-- The beat of a rim router in a partition tick has not entered yet, nor has one of a later tick (R192). -/
def notTaken (c : Comp) (at_ router : Nat) : Bool :=
  decide (c.took.1 < at_) || (c.took.1 == at_ && !c.took.2.contains router)

/-- The next dense beat of the open window enters at a partition tick. Where the window passes unchanged it is a wire beat
(R479); else it joins its block (R192). -/
def enterBeat (port at_ router : Nat) (x : Beat) (s : State) : State :=
  let c := compOf s port 0
  match c.window with
  | none => s
  | some (_, _, wire, _) =>
    let n := denseBeats c.desc wire
    let last := c.entered + 1 == n
    let s1 := updComp port 0 (fun y => { y with
      entered := y.entered + 1
      took := (at_, router :: if y.took.1 = at_ then y.took.2 else []) }) s
    if c.desc.passes && !c.fault then handOver port ⟨at_ + 3, x.data.toNat, 64, x.poison, last⟩ s1
    else
      let s2 := updComp port 0 (fun y => { y with block := y.block ++ [⟨at_, router, x⟩] }) s1
      if last || (compOf s2 port 0).block.length == perBlock c.desc.etype then closeBlock port last s2 else s2

/-! ### Expansion (R196) -/

/-- Strictly ascending. -/
def ascending : List Nat → Bool
  | [] => true
  | [_] => true
  | a :: b :: t => decide (a < b) && ascending (b :: t)

/-- A dense beat of a record: element type's beat i of the block, and POISON where the record cannot be expanded. -/
def expandBeat (d : CompDesc) (record i : Nat) : LineData × Bool :=
  let n := perBeat d.etype
  if d.mode = 2 then
    let se := BitVec.ofNat 32 (bits record 256 32)
    if !fpFinite se then (0, true)
    else
      let v : BitVec 32 := if d.etype = 1 then se else se >>> 16
      let sign : BitVec 32 := if d.etype = 1 then 0x80000000#32 else 0x8000#32
      (elemsBeat d.etype fun j => if bit1 record (n * i + j) then v ^^^ sign else v, false)
  else
    let ix := (rangeFrom 0 d.k).map fun a => bits record (8 * a) 8
    if !ascending ix then (0, true)
    else (elemsBeat d.etype fun j =>
      let a := ix.idxOf (n * i + j)
      if a < d.k then BitVec.ofNat 32 (bits record (8 * d.k + 8 * elemBytes d.etype * a) (8 * elemBytes d.etype)) else 0,
      false)

/-- The bytes of a window in the store, in order, and the poison of a range of them. -/
def winBytes (w : StoredWin) : Nat :=
  linesBody ((rangeFrom 0 w.total).map fun i => ((w.beats.find? fun b => b.1 == i).getD (0, 0, false)).2.1)
/-- POISON on a wire beat that holds a byte of a range. -/
def winPoison (w : StoredWin) (lo len : Nat) : Bool :=
  w.beats.any fun b => b.2.2 && decide (64 * b.1 < lo + len) && decide (lo < 64 * b.1 + 64)

/-- Dense beat i of a stored window (R196). -/
def presentBeat (d : CompDesc) (w : StoredWin) (i : Nat) : Beat :=
  if d.mode = 0 then
    let b := (w.beats.find? fun b => b.1 == i).getD (i, 0, true)
    Beat.of b.2.1 b.2.2
  else
    let size := recordSize d
    let n := perBlock d.etype
    let lo := i / n * size
    let (x, bad) := expandBeat d (bits (winBytes w) (8 * lo) (8 * size)) (i % n)
    Beat.of x (bad || winPoison w lo size)

end Sys2Proof.Machine
end

