-- ==== Sys2Proof/Machine/HbmPlane.lean ====
section
/-! DEFINITION. HBM cells and refresh on the scheduled plane (R83 to R89, R276 to R283, R301). -/

namespace Sys2Proof.Machine

/-- A cell record that covers a cell now: partition, image, record, cells after its first, context. -/
structure CellReady where
  part : Nat
  rec_ : PcRec
  cell : CellRec
  index : Nat
  ctx : Nat
  deriving DecidableEq, Repr

/-- The record of a kind that covers a cell of the current frame, while the partition executes it (R276). -/
def readyCell (s : State) (pc cell kind : Nat) : Option CellReady :=
  if !tickRuns s || !s.clk.frameDone || decide (512 ≤ cell) then none
  else match pcPart s pc with
    | none => none
    | some (k, im) =>
      let p := part s k
      if p.parked then none
      else match currentPattern im p, im.hbm.find? fun r => r.pc == pc with
        | some pat, some r =>
          match r.cells.find? fun c => c.pattern == pat && c.kind == kind && decide (c.cell ≤ cell) &&
              decide (cell ≤ c.cell + c.cellsM1) with
          | some c => some ⟨k, r, c, cell - c.cell, currentCtx p⟩
          | none => none
        | _, _ => none

/-- REFRESH_TIMER: the debt rises by one; beyond +8 the controller forces a refresh in the next cell, the run ends at
the next boundary with refresh-breach status and the partition parks (R85, Table 3.8, R301). -/
def execRefreshTimer (pc : Nat) (s : State) : Host.Outcome State Fault Refusal :=
  let p := pcOf s pc
  if !p.sched then .next s
  else if p.debt < 8 then .next (updPc pc (fun q => { q with debt := q.debt + 1 }) s)
  else
    let s1 := updPc pc (fun q => { q with forced := true, openStripe := none }) s
    let s2 := emitAll [.dram pc 0 0, .dram pc 1 0] (blockFault 0x5008 4 pc none (hbmEndpoint pc) s1)
    match pcPart s pc with
    | none => .next s2
    | some (k, _) => .next (updPart k (fun q => { q with debtBreach := true }) (breach k stRefreshBreach false s2))

/-- REFRESH_LANE: with debt above −8 the lane issues PREab and REFab and decrements the debt; at −8 it stays idle.
No stripe is open after it (R85, R277, R283). -/
def execRefreshLane (pc cell : Nat) (s : State) : Host.Outcome State Fault Refusal :=
  match readyCell s pc cell 3 with
  | none => .next s
  | some c =>
    if c.index ≠ 0 ∨ 8 * cell < frameOffset s then .next s
    else
      let s1 := restoreRows pc (advance (8 * cell - frameOffset s) s)
      let t := (part s1 c.part).ptick
      if (pcOf s1 pc).debt > -8 then
        .next (emitAll [.dram pc 0 0, .dram pc 1 0]
          (updPc pc (fun q => { q with
            debt := q.debt - 1, openStripe := none, laneEnd := t + 256, laneIdle := false }) s1))
      else .next (updPc pc (fun q => { q with openStripe := none, laneEnd := t + 256, laneIdle := true }) s1)

/-- The beats of a read cell: partition ticks at which they stand in the rim router's edge register, two ticks after
their presentation (R146, R278). -/
def readCellBeats (router tick : Nat) (bs : List Beat) : List Arrival :=
  (rangeFrom 0 bs.length).map fun j => ⟨router, portEdge, bs[j]?.getD Beat.idle, tick + 42 + 3 * j⟩

/-- Three reads of consecutive lines. -/
def readThree (line : Nat) (s : State) : List Beat × State :=
  let (a, s1) := hbmRead line s
  let (b, s2) := hbmRead (line + 1) s1
  let (c, s3) := hbmRead (line + 2) s2
  ([a, b, c], s3)

/-- READ_WINDOW_CELL: three beats are presented into the named rim router at T + 40, 43 and 46; after a forced
refresh they are 64 zero bytes with POISON (R278, R301). `sev` is the number of on-die ECC severity reports that the reads bring
(R280). -/
def execReadWindowCell (pc cell sev : Nat) (s : State) : Host.Outcome State Fault Refusal :=
  match readyCell s pc cell 1 with
  | none => .next s
  | some c =>
    if 8 * cell < frameOffset s then .next s
    else
      let s1 := hbmCount pc 2 sev (restoreRows pc (advance (8 * cell - frameOffset s) s))
      let stripe := recStripeOf c.rec_ c.cell c.ctx
      let t := (part s1 c.part).ptick
      let (bs, s2) := if (pcOf s1 pc).openStripe = some stripe then
          readThree (hbmLine pc stripe (addrLine c.cell.addr + 3 * c.index)) s1
        else ([Beat.of 0 true, Beat.of 0 true, Beat.of 0 true], s1)
      .next (updPipe c.part (fun q => { q with
        arrivals := readCellBeats (rimRouter (pc / 32) c.cell.rim) t bs ++ q.arrivals }) s2)

/-- The beat that left a rim router's edge port in a partition tick. -/
def edgeBeatAt (p : Pipe) (router port at_ : Nat) : Beat :=
  match p.edge.find? fun a => a.router == router && a.port == port && a.at_ == at_ with
  | some a => a.beat
  | none => Beat.idle

/-- Write one accepted beat. -/
def acceptBeat (line : Nat) (b : Beat) (s : State) : State := if b.valid then hbmWrite line b.data b.poison s else s

/-- WRITE_WINDOW_CELL: the beats that the rim router's edge port delivered at T, T + 3 and T + 6 are written to three
consecutive lines; after a forced refresh they are dropped (R278, R279, R301). -/
def execWriteWindowCell (pc cell : Nat) (s : State) : Host.Outcome State Fault Refusal :=
  match readyCell s pc cell 2 with
  | none => .next s
  | some c =>
    if 8 * cell + 15 < frameOffset s then .next s
    else
      let s1 := restoreRows pc (advance (8 * cell + 6 - frameOffset s) s)
      let p := part s1 c.part
      let t := p.ptick - (frameOffset s1 - 8 * cell)
      let rim := rimRouter (pc / 32) c.cell.rim
      let stripe := recStripeOf c.rec_ c.cell c.ctx
      let l := hbmLine pc stripe (addrLine c.cell.addr + 3 * c.index)
      if (pcOf s1 pc).openStripe = some stripe then
        .next (acceptBeat (l + 2) (edgeBeatAt p.pipe rim portEdge (t + 6))
          (acceptBeat (l + 1) (edgeBeatAt p.pipe rim portEdge (t + 3))
            (acceptBeat l (edgeBeatAt p.pipe rim portEdge t) s1)))
      else .next s1

/-- ROW_SWITCH_GAP: the open stripe is precharged and the named one opened (R277). -/
def execRowSwitchGap (pc cell : Nat) (s : State) : Host.Outcome State Fault Refusal :=
  match readyCell s pc cell 4 with
  | none => .next s
  | some c =>
    if c.index ≠ 0 ∨ 8 * cell < frameOffset s then .next s
    else
      let stripe := recStripeOf c.rec_ c.cell c.ctx
      .next (emitAll [.dram pc 0 0, .dram pc 2 stripe]
        (updPc pc (fun q => { q with openStripe := some stripe, forced := false })
          (restoreRows pc (advance (8 * cell - frameOffset s) s))))

end Sys2Proof.Machine
end

