-- ==== Sys2Proof/Machine/Compressor.lean ====
section
/-! DEFINITION. The commands of the compressor and of cross-module windows: descriptors, residuals, records, entries and
presentations (R191 to R201, R479 to R484). -/

namespace Sys2Proof.Machine

/-- Rim router of dense beat i of a port's window (R479, R480). -/
def windowRouter (port i : Nat) : Nat := routerAt 127 (latticeRow0 port + i % 10)

/-- A LATTICE record of the frame that a partition executes (R479, R480). -/
def latRecord (s : State) (k recIdx dir : Nat) : Option LatRec :=
  let p := part s k
  if !tickRuns s || !s.clk.frameDone || p.parked then none
  else match boundImage s p with
    | none => none
    | some im => match im.lattice[recIdx]? with
      | none => none
      | some r => if r.dir = dir ∧ currentPattern im p = some r.pattern then some r else none

/-- The outgoing window of a port whose TICK lies at or before an offset of the present frame, the latest, opens unless it
has (R191, R479). -/
def openDue (k port offset : Nat) (s : State) : State :=
  match boundImage s (part s k) with
  | none => s
  | some im =>
    let recs := (rangeFrom 0 im.lattice.length).filterMap fun i => (im.lattice[i]?).bind fun r =>
      if r.dir = 0 ∧ r.port = port ∧ currentPattern im (part s k) = some r.pattern ∧ r.tick ≤ offset then some (i, r) else none
    match recs.foldl (fun a x => match a with
        | some y => if y.2.tick ≤ x.2.tick then some x else a
        | none => some x) (none : Option (Nat × LatRec)) with
    | none => s
    | some (i, r) => if (compOf s port 0).opened = some (i, stampNow s) then s else openWindow port i r s

/-- The beat that stands in a rim router's edge port: in the present tick, or in the one before it (a Fold result leaves at
the end of its tick). -/
def edgeNow (p : Pipe) (now router : Nat) : Option Arrival :=
  match p.edge.find? fun a => a.router == router && a.port == portEdge && a.at_ == now && a.beat.valid with
  | some a => some a
  | none => p.edge.find? fun a => a.router == router && a.port == portEdge && a.at_ + 1 == now && a.beat.valid

/-- The window whose TICK lies at or before the tick of a beat of the present frame is open when the beat is judged (R191). -/
def openBefore (k port : Nat) (a : Arrival) (s : State) : State :=
  let back := (part s k).ptick - a.at_
  if frameOffset s < back ∨ !s.clk.frameDone then s else openDue k port (frameOffset s - back) s

/-- DESCRIPTOR_BEAT: the beat that a rim router delivers to the edge port. While no outgoing window of the port is open it
configures a direction of the compressor from its next window on (R191); while one is open it is a dense beat of that
window (R201). -/
def execDescriptorBeat (router : Nat) (s : State) : Host.Outcome State Fault Refusal :=
  match partOf s router, (if routerX router = 127 then eastPort (routerY router) else none) with
  | some k, some port =>
    let p := part s k
    match edgeNow p.pipe p.ptick router with
    | none => .next s
    | some a =>
      if !tickRuns s || p.parked then .next s
      else
        let s1 := openBefore k port a s
        if windowOpen s1 port then
          .next (if notTaken (compOf s1 port 0) a.at_ router then enterBeat port a.at_ router a.beat s1 else s1)
        else
          let x := a.beat.data.toNat
          .next (if (compOf s1 port 0).took.1 = a.at_ ∧ (compOf s1 port 0).took.2.contains router then s1
            else updComp port (bits x 3 1) (fun c => { c with next := some (descOf x) }) s1)
  | _, _ => .next s

/-- Ticks pass to a partition tick; a late command finds it passed. -/
def toPartTick (k at_ : Nat) (s : State) : State := runTo (s.clk.tick.toNat + (at_ - (part s k).ptick)) s

/-- RESIDUAL_RETURN: the residuals that fall due next on a port are presented to their rim routers' edge ports, three ticks
before the events that take them (R195). -/
def execResidualReturn (port : Nat) (s : State) : Host.Outcome State Fault Refusal :=
  match partOf s (windowRouter port 0), (compOf s port 0).residuals with
  | some k, r :: _ =>
    if !tickRuns s || (part s k).parked then .next s
    else
      let s1 := toPartTick k r.at_ s
      if s1.clk.held || (part s1 k).parked then .next s1
      else
        let now := (compOf s1 port 0).residuals.filter fun x => x.at_ == r.at_
        .next (updPipe k (fun p => now.foldl (fun q x => arrive x.router portEdge x.beat (x.at_ + 2) q) p)
          (updComp port 0 (fun c => { c with residuals := c.residuals.filter fun x => x.at_ != r.at_ }) s1))
  | _, _ => .next s

/-- COMPRESSED_RECORD_HANDOVER: the record of the oldest complete block goes to the transmit path at E + 45 (R195). -/
def execCompressedRecordHandover (port : Nat) (s : State) : Host.Outcome State Fault Refusal :=
  match partOf s (windowRouter port 0), (compOf s port 0).records with
  | some k, r :: _ =>
    if !tickRuns s || (part s k).parked then .next s
    else
      let s1 := toPartTick k r.at_ s
      if s1.clk.held || (part s1 k).parked || (compOf s1 port 0).records.head? != some r then .next s1
      else .next (handOver port r (updComp port 0 (fun c => { c with records := c.records.drop 1 }) s1))
  | _, _ => .next s

/-- The tick offset at which dense beat i of a record enters or is presented. -/
def beatTick (r : LatRec) (i : Nat) : Nat := r.tick + i / 2

/-- LATTICE_WINDOW_ENTRY: the window of a record opens at its TICK and takes its stamp; the beat that the rim router of
dense beat i delivered on its tick enters. In MODE 0 a missing one enters as zero bytes with POISON; a compressed window
waits for its beats, wherever they enter (R191, R201, R479). Beats of one tick are commanded in the order of R192. -/
def execLatticeWindowEntry (part_ recIdx beat : Nat) (s : State) : Host.Outcome State Fault Refusal :=
  match latRecord s part_ recIdx 0 with
  | none => .next s
  | some r =>
    let t := beatTick r beat
    if 4096 ≤ t ∨ t + 12 < frameOffset s then .next s
    else
      let s1 := advance (t - frameOffset s) s
      let p := part s1 part_
      let at_ := p.ptick - (frameOffset s1 - t)
      let s2 := openDue part_ r.port t s1
      let c := compOf s2 r.port 0
      let router := windowRouter r.port beat
      let b := edgeBeatAt p.pipe router portEdge at_
      if (c.window.map fun w => w.1) = some recIdx ∧ windowOpen s2 r.port = true ∧ notTaken c at_ router = true then
        .next (if b.valid then enterBeat r.port at_ router b s2
          else if c.desc.passes && !c.fault then enterBeat r.port at_ router (Beat.of 0 true) s2 else s2)
      else .next s2

/-- The incoming window that a record of the present frame consumes (R480). -/
def incomingWin (s : State) (r : LatRec) : Option StoredWin := storedWin s r.port r.peer (stampNow s - BitVec.ofNat 32 r.bound)

/-- The window leaves the store (R481). -/
def dropWin (w : StoredWin) (s : State) : State :=
  { s with lat := { s.lat with store := s.lat.store.filter fun v => !(v.port == w.port && v.src == w.src && v.stamp == w.stamp) } }

/-- LATTICE_WINDOW_PRESENT: dense beat i of an incoming window stands in its rim router's edge register for the event three
ticks later; of a late window it is 64 zero bytes with POISON, and so is every beat of a window under a faulty incoming
descriptor, as many as that descriptor names (log entry 14, DESIGN CHOICE: the spec says only what an outgoing one sends
and returns). With the first one the incoming descriptor comes into force,
and after the last one the window leaves the store (R480, R481, R484, R196). -/
def execLatticeWindowPresent (part_ recIdx beat : Nat) (s : State) : Host.Outcome State Fault Refusal :=
  match latRecord s part_ recIdx 1 with
  | none => .next s
  | some r =>
    let t := beatTick r beat
    if 4096 ≤ t ∨ t < frameOffset s then .next s
    else
      let s1 := advance (t - frameOffset s) s
      let wire := r.beatsM1 + 1
      let s2 := if beat = 0 then
          let c := compOf s1 r.port 1
          let d := c.next.getD c.desc
          let u := updComp r.port 1 (fun x => { x with desc := d, next := none, fault := descFault d wire }) s1
          if descFault d wire then noteDescFault r.port u else u
        else s1
      let c := compOf s2 r.port 1
      let n := denseBeats c.desc wire
      if n ≤ beat then .next s2
      else
        let w := incomingWin s2 r
        let b := match w with
          | some v => if v.late || v.failed || c.fault then Beat.of 0 true else presentBeat c.desc v beat
          | none => Beat.of 0 true
        let p := part s2 part_
        let s3 := updPipe part_ (arrive (windowRouter r.port beat) portEdge b (p.ptick + 2)) s2
        if beat + 1 = n then
          let s4 := updComp r.port 1 (fun x => if x.fault then { x with desc := CompDesc.reset, fault := false } else x) s3
          .next (match w with
            | some v => dropWin v s4
            | none => s4)
        else .next s3

end Sys2Proof.Machine
end

