-- ==== Sys2Proof/Machine/DenseOps.lean ====
section
/-! DEFINITION. Shared operations of the dense tier: striping, the HBM cache, misses and write-backs, failed drives
(R291 to R299, R305, R306). -/

namespace Sys2Proof.Machine

/-- A drive. -/
def driveOf (s : State) (d : Nat) : Drive := Tab.get Drive.reset s.dense.drive d
/-- Change a drive. -/
def updDrive (d : Nat) (f : Drive → Drive) (s : State) : State :=
  { s with dense := { s.dense with drive := Tab.upd Drive.reset s.dense.drive d f } }

/-- Blocks of the dense tier: N = n × c (R292). -/
def denseBlocks (s : State) : Nat := s.dense.attached.length * s.dense.perDrive
/-- Capacity in whole GiB. -/
def denseGiB (s : State) : Nat := denseBlocks s / 262144
/-- The drive of a block, and its LBA there (R292). -/
def driveAt (s : State) (b : Nat) : Nat := ((s.dense.attached[b / 32 % max 1 s.dense.attached.length]?).getD (0, 0)).1
def lbaOf (s : State) (b : Nat) : Nat :=
  b / (32 * max 1 s.dense.attached.length) * 32 + b % 32
/-- Cache sets (R293). -/
def cacheSets (s : State) : Nat := 16352 * s.dense.units
/-- The dense tier is available: drives attached and a CACHE unit assigned (R293). -/
def denseUp (s : State) : Bool := !s.dense.attached.isEmpty && s.dense.units != 0

/-- Key of a cache line, and the line. -/
def cacheKey (set way : Nat) : Nat := 16 * set + way
def cacheLine (s : State) (k : Nat) : CacheLine := Tab.get CacheLine.reset s.dense.lines k
/-- Change a cache line. -/
def updLine (k : Nat) (f : CacheLine → CacheLine) (s : State) : State :=
  { s with dense := { s.dense with lines := Tab.upd CacheLine.reset s.dense.lines k f } }
/-- Set of a block, and its tag (R293). -/
def setOf (s : State) (b : Nat) : Nat := b % cacheSets s
def tagOf (s : State) (b : Nat) : Nat := b / cacheSets s
/-- Block that a line of a set holds. -/
def blockOf (s : State) (k : Nat) : Nat := (cacheLine s k).tag * cacheSets s + k / 16

/-- The way that holds a block. -/
def wayOf (s : State) (b : Nat) : Option Nat :=
  (rangeFrom 0 16).find? fun w =>
    let l := cacheLine s (cacheKey (setOf s b) w)
    l.state != 0 && l.tag == tagOf s b

/-- The least recently used of some lines. -/
def oldestLine (s : State) : List Nat → Option Nat
  | [] => none
  | k :: t => match oldestLine s t with
    | none => some k
    | some j => if (cacheLine s j).used < (cacheLine s k).used then some j else some k

/-- Work waits at a pseudo-channel for a cache line. -/
def lineBusy (s : State) (k : Nat) : Bool := s.hbm.pc.any fun e => e.2.cacheQ.any fun j => j.1 == k

/-- The victim way for a block: an INVALID one, else the least recently used that is CLEAN or DIRTY, not pinned, and not in use
by a request or by a miss (R293, R298, R299). -/
def victimOf (s : State) (b : Nat) : Option Nat :=
  let ks := ((rangeFrom 0 16).map (cacheKey (setOf s b))).filter fun k => !(s.dense.misses.any fun m => m.way == k)
  match ks.find? fun k => (cacheLine s k).state == 0 with
  | some k => some k
  | none => oldestLine s (ks.filter fun k =>
      ((cacheLine s k).state == 1 || (cacheLine s k).state == 2) && !(cacheLine s k).pinned && !lineBusy s k)

/-! ### Data of cached blocks -/

/-- The HBM line that holds 64-byte line i of a cache line: cache lines take the CACHE units in ascending order, each 261,632 of
them by 4 KiB from the unit's start; its last 2 MiB hold the tags (R275, R293). DESIGN CHOICE, log entry 33. -/
def lineHome (s : State) (k i : Nat) : Nat :=
  let us := (rangeFrom 0 288).filter fun u => roleOf s u == 2
  let u := us.getD (k / 261632) 0
  unitLine (u / 36) (u % 36) (4096 * (k % 261632) + 64 * i)

/-- Put work on a cache line into the queue of its pseudo-channel (R287). -/
def queueCache (k : Nat) (j : CacheJob) (s : State) : State :=
  updPc (lineHome s k 0 / pcLines) (fun p => { p with cacheQ := p.cacheQ ++ [(k, j)] }) s

/-- Take work out of every queue. -/
def dropJobs (f : Nat × CacheJob → Bool) (s : State) : State :=
  updPcs ((s.hbm.pc.filter fun e => !e.2.cacheQ.isEmpty).map fun e => e.1)
    (fun _ p => { p with cacheQ := p.cacheQ.filter fun j => !f j }) s

/-- No work on cache lines waits. -/
def cacheIdle (s : State) : Bool := s.hbm.pc.all fun e => e.2.cacheQ.isEmpty

/-- A line is used. -/
def useLine (k : Nat) (s : State) : State :=
  updLine k (fun l => { l with used := s.dense.stamp + 1 }) { s with dense := { s.dense with stamp := s.dense.stamp + 1 } }

/-- A line has been written: DIRTY, or DIRTY after its write-back, unless that is still to read the line (Table 9.8, R305). -/
def dirtied (s : State) (k : Nat) (l : CacheLine) : CacheLine :=
  if l.state ≠ 4 then { l with state := 2 }
  else if s.hbm.pc.any fun e => e.2.cacheQ.any fun j => j.1 == k && (match j.2 with
      | .evict _ => true
      | _ => false) then l
  else { l with redirty := true }

/-- Endpoint of the north dense-tier block; the south one follows (Tables 1.5, 5.5). -/
def denseEndpoint : Nat := 0x112

/-- Record a block in the failed-block list, at most 1,024 entries (R306, R602). -/
def failBlock (b : Nat) (s : State) : State :=
  if s.dense.failedBlocks.contains b then s
  else
    let src := denseEndpoint + driveAt s b / 4
    let s1 := sendEvent ⟨0x6003, 2, driveAt s b, some b, src, 0⟩ s
    if s.dense.failedBlocks.length < 1024 then
      let s2 := { s1 with dense := { s1.dense with failedBlocks := s1.dense.failedBlocks ++ [b] } }
      if s2.dense.failedBlocks.length = 1024 ∧ !s.dense.listFullSent then
        sendEvent ⟨0x6005, 5, 0, none, src, 0⟩ { s2 with dense := { s2.dense with listFullSent := true } }
      else s2
    else s1

/-- A 64-byte line of a block has been overwritten: with its last one the block leaves the failed-block list (R306). -/
def healLine (b i : Nat) (s : State) : State :=
  if !s.dense.failedBlocks.contains b then s
  else
    let m := Tab.get 0 s.dense.healing b ||| 2 ^ i
    if m = 2 ^ 64 - 1 then { s with dense := { s.dense with
      failedBlocks := s.dense.failedBlocks.filter (fun x => x != b), healing := Tab.set 0 s.dense.healing b 0 } }
    else { s with dense := { s.dense with healing := Tab.set 0 s.dense.healing b m } }

/-! ### Serving requests -/

/-- The lines of a request as its requester sees them. -/
def serveLines (n : Nat) (f : Nat → State → State) (s : State) : State := (rangeFrom 0 n).foldl (fun t i => f i t) s

/-- A request ends with poisoned data and the status "dense-tier unavailable"; a write is not applied (R296). -/
def failReq (q : DReq) (s : State) : State := match q.origin with
  | .stage fn seq off => serveLines (q.len / 64) (fun i t =>
      if q.write then stageWritten fn seq (some stDenseUnavailable) t
      else
        let (d, t1) := drawLine t
        stageRead fn seq (off + 64 * i) d true (some stDenseUnavailable) t1) s
  | .pool id => poolServe id (fun t => (Beat.of 0 true, t)) (fun _ _ t => t) false (some 8) s
  | .ctl _ _ => s

/-- A request of a block whose fill met an error: poisoned data; a write is not applied (R306). -/
def poisonReq (q : DReq) (s : State) : State :=
  if q.write then failReq q s
  else match q.origin with
    | .stage fn seq off => serveLines (q.len / 64) (fun i t =>
        let (d, t1) := drawLine t
        stageRead fn seq (off + 64 * i) d true none t1) s
    | .pool id => poolServe id (fun t => (Beat.of 0 true, t)) (fun _ _ t => t) true none s
    | .ctl _ _ => s

/-- Read one 64-byte line of a cached block; a listed block reads poison (R306). -/
def cacheGet (b k off : Nat) (s : State) : Beat × State :=
  let (x, s1) := hbmRead (lineHome s k (off / 64)) s
  ({ x with poison := x.poison || s.dense.failedBlocks.contains b }, s1)

/-- Write one 64-byte line of a cached block. -/
def cachePut (b k off : Nat) (d : LineData) (poison : Bool) (s : State) : State :=
  healLine b (off / 64) (hbmWrite (lineHome s k (off / 64)) d poison (updLine k (dirtied s k) s))

/-- The HBM lines of a request. -/
def reqHomes (s : State) (k : Nat) (q : DReq) : List Nat :=
  (rangeFrom (q.off / 64) (q.len / 64)).map (lineHome s k)

/-- Line i of the data of a request. -/
def reqLine (q : DReq) (i : Nat) : LineData := BitVec.ofNat 512 (q.data / 2 ^ (512 * i))

/-- A request is served from the line that holds its block (R295). A dead pseudo-channel gives poison and "slice unavailable"
(R288); a CLEAN line whose read is uncorrectable becomes INVALID (R306). -/
def serveHit (q : DReq) (k : Nat) (dead : Bool) (s : State) : State := match q.origin with
  | .stage fn seq off =>
    if q.write then
      serveLines (q.len / 64) (fun i t =>
        if dead then stageWritten fn seq (some stSliceUnavailable) t
        else stageWritten fn seq none (cachePut q.block k (q.off + 64 * i) (reqLine q i) false t)) s
    else
      let t := serveLines (q.len / 64) (fun i t =>
        if dead then
          let (d, t1) := drawLine t
          stageRead fn seq (off + 64 * i) d true (some stSliceUnavailable) t1
        else
          let (b, t1) := cacheGet q.block k (q.off + 64 * i) t
          stageRead fn seq (off + 64 * i) b.data b.poison none t1) s
      cleanLost t
  | .pool id =>
    let l := lineHome s k (q.off / 64)
    cleanLost (poolServe id (cacheGet q.block k q.off) (cachePut q.block k q.off)
      (s.dense.failedBlocks.contains q.block || lineFlag (injectHbm l s) l == 2) (if dead then some 6 else none) s)
  | .ctl _ _ => s
where
  /-- what an uncorrectable read leaves of a CLEAN line -/
  cleanLost (t : State) : State :=
    if !q.write && !dead && (cacheLine t k).state == 1 && (reqHomes s k q).any (fun l => lineFlag t l == 2) then
      updLine k (fun _ => CacheLine.reset) t
    else t

/-! ### Drive commands -/

/-- Entries in use on an I/O queue pair of a drive. -/
def queueUse (d : Drive) (i : Nat) : Nat := (d.io.filter fun c => c.queue == i).length

/-- The I/O queue pair with the fewest commands, if it has a free entry of its 64 (R291). DESIGN CHOICE, log entry 32. -/
def freeQueue (d : Drive) : Option Nat :=
  let best := (rangeFrom 1 3).foldl (fun b i => if queueUse d i < queueUse d b then i else b) 0
  if queueUse d best < 64 then some best else none

/-- Send a command to a drive, or let it wait for a queue entry (R291). -/
def sendDrive (d cmd b data : Nat) (s : State) : State := match freeQueue (driveOf s d) with
  | some i => emit (.driveCmd d cmd (if cmd = 2 then 0 else lbaOf s b) data)
      (updDrive d (fun x => { x with io := x.io ++ [⟨cmd, b, data, i⟩] }) s)
  | none => updDrive d (fun x => { x with backlog := x.backlog ++ [⟨cmd, b, data, 0⟩] }) s

/-- Issue a command on a block to its drive. -/
def driveCommand (cmd b data : Nat) (s : State) : State := sendDrive (driveAt s b) cmd b data s

/-- A command is outstanding on a drive. -/
def outstanding (s : State) (d cmd b : Nat) : Option DriveCmd :=
  (driveOf s d).io.find? fun c => c.cmd == cmd && (c.block == b || c.cmd == 2)

/-- A command leaves its queue entry, which the oldest waiting command takes. -/
def driveEnds (d : Nat) (c : DriveCmd) (s : State) : State :=
  let s1 := updDrive d (fun x => { x with io := x.io.erase c }) s
  match (driveOf s1 d).backlog with
  | [] => s1
  | n :: rest => sendDrive d n.cmd n.block n.data (updDrive d (fun x => { x with backlog := rest }) s1)

/-- Start the write-back of a line: reason 0 victim, 1 cleaner, 2 flush, 3 role change. The line is read from HBM first. -/
def startWrite (k reason : Nat) (s : State) : State :=
  let b := blockOf s k
  queueCache k (.evict b) (updLine k (fun l => { l with state := 4, redirty := false })
    { s with dense := { s.dense with writing := s.dense.writing ++ [(b, reason)] } })

/-- Change the entry of a block. -/
def setMiss (m : MissEntry) (s : State) : State :=
  { s with dense := { s.dense with misses := s.dense.misses.map fun e => if e.block == m.block then m else e } }
/-- Free the entry of a block. -/
def dropMiss (b : Nat) (s : State) : State :=
  { s with dense := { s.dense with misses := s.dense.misses.filter fun e => e.block != b } }

/-- A write of the whole block. -/
def DReq.whole (q : DReq) : Bool := q.write && q.off == 0 && q.len == 4096

/-- Read the block of an entry from its drive. -/
def readBlock (m : MissEntry) (s : State) : State := driveCommand 0 m.block 0 (setMiss { m with phase := 1 } s)

/-- The victim's way is free: the block is read from its drive, or, where its first request writes the whole block, the line
takes that write over without a read (R295). -/
def fillLine (m : MissEntry) (s : State) : State :=
  let s1 := updLine m.way (fun _ =>
    { CacheLine.reset with state := 3, tag := tagOf s m.block, used := s.dense.stamp + 1 })
    { s with dense := { s.dense with stamp := s.dense.stamp + 1 } }
  match m.waiters.head? with
  | some q => if q.whole then queueCache m.way (.take m.block) (setMiss { m with phase := 3 } s1) else readBlock m s1
  | none => readBlock m s1

/-- A miss that can proceed: an entry is allocated, the victim written back first when DIRTY (R295). -/
def startMiss (q : DReq) (k : Nat) (s : State) : State :=
  let m : MissEntry := ⟨q.block, k, 0, [q]⟩
  let s1 := { s with dense := { s.dense with misses := s.dense.misses ++ [m] } }
  if (cacheLine s k).state = 2 then startWrite k 0 s1 else fillLine m s1

/-- What a request meets. -/
inductive DenseStep
  | fails
  | hit (k : Nat)
  /-- joins the waiters of an entry -/
  | joins (m : MissEntry)
  | miss (k : Nat)
  /-- withheld -/
  | waits
  deriving DecidableEq, Repr

/-- Judge a request (R293 to R299). -/
def denseStep (s : State) (q : DReq) : DenseStep :=
  if !denseUp s || decide (denseBlocks s ≤ q.block) then .fails
  else if !s.dense.assigns.isEmpty || !s.dense.attaches.isEmpty then .waits
  else match s.dense.misses.find? fun m => m.block == q.block with
    | some m => if m.waiters.length < 16 then .joins m else .waits
    | none => match wayOf s q.block with
      | some w => .hit (cacheKey (setOf s q.block) w)
      | none =>
        if (driveOf s (driveAt s q.block)).failed then .fails
        else if 1024 ≤ (s.dense.misses.filter fun m => driveAt s m.block / 4 == driveAt s q.block / 4).length then .waits
        else match victimOf s q.block with
          | some k => .miss k
          | none => .waits

/-- Perform the step of a request: a hit waits for its line's pseudo-channel (R287). -/
def denseServe (q : DReq) (s : State) : State := match denseStep s q with
  | .fails => failReq q s
  | .hit k => queueCache k (.hit q) (useLine k s)
  | .joins m => setMiss { m with waiters := m.waiters ++ [q] } s
  | .miss k => startMiss q k s
  | .waits => { s with dense := { s.dense with withheld := s.dense.withheld ++ [q] } }

/-! ### Work of the pseudo-channels on cache lines -/

/-- A line holds a block that it can serve. -/
def holdsBlock (s : State) (k b : Nat) : Bool :=
  (cacheLine s k).state != 0 && (cacheLine s k).state != 3 && blockOf s k == b

/-- The waiters of an entry whose line is there go on, in arrival order. -/
def releaseMiss (m : MissEntry) (s : State) : State :=
  m.waiters.foldl (fun t q => queueCache m.way (.hit q) t) (dropMiss m.block s)

/-- Write a block into a cache line. -/
def storeBlock (k data : Nat) (s : State) : State :=
  serveLines 64 (fun i t => hbmWrite (lineHome s k i) (BitVec.ofNat 512 (data / 2 ^ (512 * i))) false t) s

/-- Read a cache line for its write-back: its bytes, and whether some of them are poisoned. -/
def loadBlock (k : Nat) (dead : Bool) (s : State) : (Nat × Bool) × State :=
  (rangeFrom 0 64).foldl (fun (a : (Nat × Bool) × State) i =>
    if dead then
      let (d, t) := drawLine a.2
      ((a.1.1 + d.toNat * 2 ^ (512 * i), true), t)
    else
      let (b, t) := hbmRead (lineHome s k i) a.2
      ((a.1.1 + b.data.toNat * 2 ^ (512 * i), a.1.2 || b.poison), t)) ((0, false), s)

/-- The oldest work on a cache line is done (R287, R295, R306). A request whose block the line holds no longer asks again. -/
def serveCache (k : Nat) (j : CacheJob) (dead : Bool) (s : State) : State := match j with
  | .hit q =>
    if holdsBlock s k q.block then serveHit q k dead s
    else { s with dense := { s.dense with withheld := s.dense.withheld ++ [q] } }
  | .fill b data => match s.dense.misses.find? fun m => m.block == b && m.phase == 2 with
    | none => s
    | some m => releaseMiss m (updLine k (fun l => { l with state := 1 }) (if dead then s else storeBlock k data s))
  | .take b => match s.dense.misses.find? fun m => m.block == b && m.phase == 3 with
    | none => s
    | some m => match m.waiters with
      | q :: rest =>
        if q.whole then releaseMiss { m with waiters := rest } (serveHit q k dead (updLine k (fun l => { l with state := 1 }) s))
        else readBlock m s
      | [] => readBlock m s
  | .evict b =>
    if (cacheLine s k).state = 4 ∧ blockOf s k = b then
      let ((data, poison), s1) := loadBlock k dead s
      driveCommand 1 b data (if poison then failBlock b s1 else s1)
    else s

/-! ### Flushes, role changes, attachment, failed drives -/

/-- Lines in a state. -/
def linesIn (s : State) (st : Nat) : List Nat := (s.dense.lines.filter fun e => e.2.state == st).map fun e => e.1
/-- DIRTY lines whose drive serves. -/
def dirtyLines (s : State) : List Nat := (linesIn s 2).filter fun k => !(driveOf s (driveAt s (blockOf s k))).failed

/-- Units of role CACHE. -/
def cacheUnits (s : State) : Nat := countTrue (fun u => roleOf s u == 2) 288

/-- A role change takes effect: a unit that becomes POOL waits for its zero-fill, and a change of the cache invalidates it; DIRTY
lines that a failed drive keeps from being written back are listed (R289, R306, R422). DESIGN CHOICE, log entry 34. -/
def assignRoles (p : Nat) (s : State) : State :=
  let us := assignUnits p
  let role := bits p 24 2
  let cached := role == 2 || us.any fun u => roleOf s u == 2
  let s0 := if cached then (linesIn s 2).foldl (fun t k => failBlock (blockOf t k) t) s else s
  let s1 := { s0 with
    hbm := { s0.hbm with role := Tab.updAll 0 s0.hbm.role us fun _ _ => role }
    pool := { s0.pool with unzeroed :=
      (s0.pool.unzeroed.filter fun u => !us.contains u) ++ (if role = 1 then us else []) } }
  if cached then { s1 with dense := { s1.dense with units := cacheUnits s1, lines := [] } } else s1

/-- Stripes of an image's cells lie in a unit of a stack, in some context (R274, R275, R290). -/
def imageUses (im : Image) (stack unit : Nat) : Bool :=
  im.hbm.any fun r => r.pc / 32 == stack && r.cells.any fun c => c.kind != 3 &&
    (rangeFrom 0 im.hdr.contexts).any fun x => unitOfStripe (recStripeOf r c x) == unit

/-- A role change is refused: a unit leaves SCHEDULED while a resident image addresses it, or POOL while a region maps
it (R289). -/
def assignRefused (s : State) (p : Nat) : Bool :=
  let stack := bits p 0 3
  let role := bits p 24 2
  (assignUnits p).any fun u =>
    (roleOf s u == 0 && role != 0 && ((rangeFrom 0 8).any fun k =>
      (slot s k).resident && imageUses (slot s k).image stack (u % 36))) ||
    (roleOf s u == 1 && role != 1 && (s.pool.region.any fun e => e.2.backing == 0 && e.2.extents.contains u))

/-- Waiting role changes go on, oldest first: DIRTY lines are written back, and with the cache at rest the change takes effect;
one that has come to be refused meanwhile is (R289, R305). -/
def assignGo : Nat → State → State
  | 0, s => s
  | n + 1, s => match s.dense.assigns with
    | [] => s
    | (who, tag, p) :: rest =>
      if !s.dense.flushes.isEmpty then s
      else
        let s1 := (dirtyLines s).foldl (fun t k => startWrite k 3 t) s
        if (linesIn s1 4).isEmpty ∧ s1.dense.misses.isEmpty ∧ cacheIdle s1 then
          let s2 := { s1 with dense := { s1.dense with assigns := rest } }
          assignGo n (if assignRefused s2 p then mciReply 0x0304 who tag mBusy 0 0 0 s2
            else mciReply 0x0304 who tag mSuccess 0 0 0 (assignRoles p s2))
        else s1

/-- Write-backs that a block still needs for a flush accepted now: none where the line is not DIRTY or WRITING, two where it is
WRITING and has been written since (R297, R305). -/
def flushNeeds (s : State) (k : Nat) : Option (Nat × Nat) :=
  let l := cacheLine s k
  if l.state = 2 then some (blockOf s k, 1)
  else if l.state = 4 then some (blockOf s k, if l.redirty then 2 else 1) else none

/-- One write-back of a block has ended: flushes need one less of it. -/
def flushWrote (b : Nat) (s : State) : State :=
  { s with dense := { s.dense with flushes := s.dense.flushes.map fun f => { f with
    blocks := (f.blocks.map fun e => if e.1 == b then (e.1, e.2 - 1) else e).filter fun e => e.2 != 0 } } }

/-- Two records of one flush. -/
def DenseFlush.same (a b : DenseFlush) : Bool := a.who == b.who && a.tag == b.tag && a.token == b.token

/-- A flush has ended: its requester is answered, or its token is durable or has failed on this module (R297, R439). -/
def flushEnds (good : Bool) (f : DenseFlush) (s : State) : State := match f.token with
  | none => mciReply 0x0307 f.who f.tag (if good then mSuccess else mHwFault) 0 0 0 s
  | some (g, t) => updRegion g (fun r => { r with tokens := r.tokens.map fun k =>
      if k.t == t then { k with here := true, bad := k.bad || !good } else k }) s

/-- A flush goes on: DIRTY lines of its list are written, then every attached drive flushes, then the response (R297, R305). -/
def flushOne (f : DenseFlush) (s : State) : State :=
  let line (t : State) (b : Nat) : Option Nat := (wayOf t b).map fun w => cacheKey (setOf t b) w
  let left := f.blocks.filter fun e => match line s e.1 with
    | none => false
    | some k => !(driveOf s (driveAt s e.1)).failed && ((cacheLine s k).state == 2 || (cacheLine s k).state == 4)
  let s1 := left.foldl (fun t e => match line t e.1 with
    | some k => if (cacheLine t k).state = 2 then startWrite k 2 t else t
    | none => t) s
  let go := left.isEmpty && !f.sent
  let g := { f with blocks := left, sent := f.sent || go }
  let s2 := { s1 with dense := { s1.dense with flushes := s1.dense.flushes.map fun x => if x.same f then g else x } }
  let s3 := if go then f.drives.foldl (fun t d => sendDrive d 2 0 0 t) s2 else s2
  if g.sent && g.drives.isEmpty then
    flushEnds true f { s3 with dense := { s3.dense with flushes := s3.dense.flushes.filter fun x => !x.same f } }
  else s3

/-- Every flush goes on. -/
def flushGo (s : State) : State := s.dense.flushes.foldl (fun t f => flushOne f t) s

/-- The least of the capacities found. -/
def leastCapacity (l : List (Nat × Nat × Nat)) : Nat := (leastOf (l.map fun e => e.2.1)).getD 0

/-- The usable drives of a list in ascending number: drive, capacity, identity. -/
def usableFound (s : State) (found : List DriveIn) : List (Nat × Nat × Nat) :=
  (rangeFrom 0 8).filterMap fun d =>
    if !s.pins.dprsnt.getLsbD d then none
    else match found.find? fun x => x.drive == d with
      | some x => x.capacity.map fun c => (d, c, x.identity)
      | none => none

/-- Attach drives: the striping and the drives' records; the cache starts empty (R292, R299). -/
def attachDrives (l : List (Nat × Nat × Nat)) (s : State) : State :=
  let drives := (rangeFrom 0 8).foldl (fun (m : Tab Drive) d => match l.find? fun e => e.1 == d with
    | some e => Tab.set Drive.reset m d { Drive.reset with usable := true, capacity := e.2.1, identity := e.2.2 }
    | none => Tab.set Drive.reset m d Drive.reset) s.dense.drive
  { s with dense := { s.dense with
    drive := drives, attached := l.map fun e => (e.1, e.2.2), perDrive := leastCapacity l / 32 * 32
    lines := [], failedBlocks := [], healing := [], listFullSent := false } }

/-- A pool region maps dense capacity. -/
def denseMapped (s : State) : Bool := s.pool.region.any fun e => e.2.backing == 1 && !e.2.extents.isEmpty

/-- The attachment of an accepted DENSE_ATTACH; a present drive without a usable namespace is reported (R291, R292). -/
def attachFound (who tag : Nat) (found : List DriveIn) (s : State) : State :=
  let bad := found.filter fun x => x.capacity.isNone && s.pins.dprsnt.getLsbD x.drive
  let s1 := bad.foldl (fun t x => sendEvent ⟨0x6004, 0, x.drive, none, denseEndpoint + x.drive / 4, 0⟩ t) s
  let l := usableFound s found
  if l.isEmpty then mciReply 0x0306 who tag mResource 0 0 0 s1
  else
    let s2 := attachDrives l s1
    mciReply 0x0306 who tag mSuccess 0 0 0 { s2 with dense := { s2.dense with lost := [] } }

/-- Waiting attachments go on once the cache is at rest; one that a region has come to stand against is refused (R292). -/
def attachGo : Nat → State → State
  | 0, s => s
  | n + 1, s => match s.dense.attaches with
    | [] => s
    | (who, tag, found) :: rest =>
      if s.dense.assigns.isEmpty ∧ s.dense.flushes.isEmpty ∧ s.dense.misses.isEmpty ∧ (linesIn s 4).isEmpty ∧ cacheIdle s then
        let s1 := { s with dense := { s.dense with attaches := rest } }
        attachGo n (if denseMapped s1 then mciReply 0x0306 who tag mBusy 0 0 0 s1 else attachFound who tag found s1)
      else s

/-- What a finished or failed drive command, or finished work on a line, lets go on. -/
def denseGo (s0 : State) : State :=
  let s := flushGo s0
  let s1 := assignGo s.dense.assigns.length s
  attachGo s1.dense.attaches.length s1

/-- Release the pinned lines of a set beyond 12: CLEAN ones first, then DIRTY ones, whose blocks are listed (R299). -/
def releasePins (set : Nat) : Nat → State → State
  | 0, s => s
  | n + 1, s =>
    let ks := ((rangeFrom 0 16).map (cacheKey set)).filter fun k => (cacheLine s k).pinned && (cacheLine s k).state != 0
    if ks.length ≤ 12 then s
    else match oldestLine s (ks.filter fun k => (cacheLine s k).state == 1) with
      | some k => releasePins set n (updLine k (fun _ => CacheLine.reset) s)
      | none => match oldestLine s (ks.filter fun k => (cacheLine s k).state == 2) with
        | some k => releasePins set n (updLine k (fun _ => CacheLine.reset) (failBlock (blockOf s k) s))
        | none => s

/-- A drive is failed: its lines are pinned within the limit, misses that wait for it fail, and the entry is sent
(R298, R299). -/
def failDrive (d : Nat) (s : State) : State :=
  if (driveOf s d).failed then s
  else
    let s0 := { s with dense := { s.dense with lost := d :: s.dense.lost.filter fun k => k != d } }
    let s1 := sendEvent ⟨0x6001, 5, d, none, denseEndpoint + d / 4, 0⟩ (updDrive d (fun x => { x with failed := true }) s0)
    let ks := (s1.dense.lines.filter fun e => driveAt s1 (blockOf s1 e.1) == d).map fun e => e.1
    let s2 := ks.foldl (fun t k => updLine k (fun l =>
      if l.state = 4 then { l with state := 2, redirty := false, pinned := true }
      else if l.state = 3 then CacheLine.reset else { l with pinned := true }) t) s1
    let s3 := dropJobs (fun j => match j.2 with
        | .hit _ => false
        | .fill b _ => driveAt s1 b == d
        | .evict b => driveAt s1 b == d
        | .take b => driveAt s1 b == d)
      { s2 with dense := { s2.dense with writing := s2.dense.writing.filter fun w => driveAt s2 w.1 != d } }
    let s4 := ((ks.map fun k => k / 16).eraseDups).foldl (fun t set => releasePins set 16 t) s3
    let dead := s4.dense.misses.filter fun m => driveAt s4 m.block == d ||
      (m.phase == 0 && (cacheLine s4 m.way).pinned)
    let s5 := dead.foldl (fun t m => m.waiters.foldl (fun u q => failReq q u) (dropMiss m.block t)) s4
    let rs := s5.pool.region.map fun e => e.1
    let mark (r : Region) : Region :=
      if r.backing = 1 then { r with tokens := r.tokens.map fun k => { k with bad := true } } else r
    let s6 := { s5 with pool := { s5.pool with region := Tab.updAll Region.reset s5.pool.region rs fun _ r => mark r } }
    denseGo (updDrive d (fun x => { x with io := [], backlog := [] })
      { s6 with dense := { s6.dense with flushes := s6.dense.flushes.map fun f => { f with drives := f.drives.erase d } } })

end Sys2Proof.Machine
end

