-- ==== Sys2Proof/Machine/Dense.lean ====
section
/-! DEFINITION. Commands of the dense tier (R291 to R299, R305, R306, R657). -/

namespace Sys2Proof.Machine

/-- The oldest request that can proceed, or that must fail. -/
def denseReady (s : State) : Option DReq := s.dense.withheld.find? fun q => denseStep s q != .waits

/-- CACHE_ACCESS: the oldest request that can proceed meets the cache: a hit, a miss that allocates its entry, or one more
waiter of an entry (R295). -/
def execCacheAccess (s : State) : Host.Outcome State Fault Refusal := match denseReady s with
  | none => .next s
  | some q => .next (denseServe q { s with dense := { s.dense with withheld := s.dense.withheld.erase q } })

/-- The write-back of a block has ended on its line. -/
def wroteLine (b : Nat) (s : State) : State := match wayOf s b with
  | none => s
  | some w =>
    updLine (cacheKey (setOf s b) w) (fun x =>
      if x.state = 4 then { x with state := if x.redirty then 2 else 1, redirty := false } else x) s

/-- A miss whose victim has been written back reads its block; a victim written meanwhile goes back first. -/
def victimGone (b : Nat) (s : State) : State := match wayOf s b with
  | none => s
  | some w =>
    let k := cacheKey (setOf s b) w
    match s.dense.misses.find? fun m => m.way == k && m.phase == 0 with
    | none => s
    | some m => if (cacheLine s k).state = 2 then startWrite k 0 s else fillLine m s

/-- The read of a block has ended: its data goes to the line in HBM, or the line is INVALID and the requests end with poisoned
data (R295, R306). -/
def filled (b data : Nat) (error : Bool) (s : State) : State :=
  match s.dense.misses.find? fun m => m.block == b && m.phase == 1 with
  | none => s
  | some m =>
    if error then m.waiters.foldl (fun t q => poisonReq q t) (updLine m.way (fun _ => CacheLine.reset) (dropMiss b s))
    else queueCache m.way (.fill b data) (setMiss { m with phase := 2 } s)

/-- A drive's NVMe Flush ends for the oldest DENSE_FLUSH that waits for it. -/
def flushedDrive (d : Nat) : List DenseFlush → List DenseFlush
  | [] => []
  | f :: t => if f.sent && f.drives.contains d then { f with drives := f.drives.erase d } :: t else f :: flushedDrive d t

/-- DRIVE_COMMAND_COMPLETE: a Read (0), Write (1) or Flush (2) outstanding on a drive ends; `data` is the block read and `error`
its error (R295, R297, R306). -/
def execDriveCommandComplete (drive cmd block data : Nat) (error : Bool) (s : State) : Host.Outcome State Fault Refusal :=
  match outstanding s drive cmd block with
  | none => .next s
  | some c =>
    let s1 := driveEnds drive c s
    .next (denseGo (match cmd with
      | 0 => filled block data error s1
      | 1 => victimGone block (wroteLine block (flushWrote block
          { s1 with dense := { s1.dense with writing := s1.dense.writing.filter fun w => w.1 != block } }))
      | _ => { s1 with dense := { s1.dense with flushes := flushedDrive drive s1.dense.flushes } }))

/-- A drive counts an abort; the third within one second fails it (R298). -/
def noteAbort (drive : Nat) (s : State) : State :=
  let now := s.clk.refTime.toNat
  let recent := (driveOf s drive).aborts.filter fun t => decide (now < t + 100000000)
  let s1 := sendEvent ⟨0x6002, 3, drive, none, denseEndpoint + drive / 4, 0⟩
    (updDrive drive (fun x => { x with aborts := now :: recent }) s)
  if 2 ≤ recent.length then failDrive drive s1 else s1

/-- An aborted read: its line is INVALID, and the requests that depend on it end with "dense-tier unavailable" (R296). -/
def readAborted (b : Nat) (s : State) : State := match s.dense.misses.find? fun m => m.block == b && m.phase == 1 with
  | none => s
  | some m => m.waiters.foldl (fun t q => failReq q t) (updLine m.way (fun _ => CacheLine.reset) (dropMiss b s))

/-- An aborted write-back: the line stays DIRTY, and the requests of a miss that waits for its way end with "dense-tier
unavailable" (R296). -/
def writeAborted (b : Nat) (s0 : State) : State :=
  let s := { s0 with dense := { s0.dense with writing := s0.dense.writing.filter fun w => w.1 != b } }
  match wayOf s b with
  | none => s
  | some w =>
    let k := cacheKey (setOf s b) w
    let s1 := updLine k (fun l => if l.state = 4 then { l with state := 2, redirty := false } else l) s
    match s1.dense.misses.find? fun m => m.way == k && m.phase == 0 with
    | none => s1
    | some m => m.waiters.foldl (fun t q => failReq q t) (dropMiss m.block s1)

/-- The flush whose NVMe Flush on a drive was aborted fails: a DENSE_FLUSH with HW_FAULT. -/
def flushAborted (d : Nat) (s : State) : State := match s.dense.flushes.find? fun f => f.sent && f.drives.contains d with
  | none => s
  | some f => flushEnds false f
      { s with dense := { s.dense with flushes := s.dense.flushes.erase f } }

/-- DRIVE_COMMAND_ABORT: a command outstanding for 10 ms is aborted, which counts toward the failure of its drive (R296,
R298). -/
def execDriveCommandAbort (drive cmd block : Nat) (s : State) : Host.Outcome State Fault Refusal :=
  match outstanding s drive cmd block with
  | none => .next s
  | some c =>
    let s1 := driveEnds drive c (emit (.driveCmd drive 3 (if cmd = 2 then 0 else lbaOf s block) 0) s)
    .next (denseGo (noteAbort drive (match cmd with
      | 0 => readAborted block s1
      | 1 => writeAborted block s1
      | _ => flushAborted drive s1)))

/-- The oldest of some requests. -/
def oldestReq : List DReq → Option DReq
  | [] => none
  | q :: t => match oldestReq t with
    | none => some q
    | some r => if r.arrived < q.arrived then some r else some q

/-- The requests that wait for work on cache lines. -/
def queuedHits (s : State) : List DReq := s.hbm.pc.flatMap fun e => e.2.cacheQ.filterMap fun j => match j.2 with
  | .hit q => some q
  | _ => none

/-- DENSE_REQUEST_TIMEOUT: the oldest request that reached the block 40 ms ago ends with "dense-tier unavailable"; a write
is not applied (R296). -/
def execDenseRequestTimeout (s : State) : Host.Outcome State Fault Refusal :=
  match oldestReq (s.dense.withheld ++ s.dense.misses.flatMap (fun m => m.waiters) ++ queuedHits s) with
  | none => .next s
  | some q =>
    if s.clk.wallPs < q.arrived + 40000000000 then .next s
    else
      let s1 := { s with dense := { s.dense with
        withheld := s.dense.withheld.erase q
        misses := s.dense.misses.map fun m => { m with waiters := m.waiters.erase q } } }
      .next (denseGo (failReq q (dropJobs (fun j => j.2 == .hit q) s1)))

/-- CACHE_CLEANER: above 50 % DIRTY lines, and until they are below 25 %, the next DIRTY line in set order is written
back (R297). -/
def execCacheCleaner (s : State) : Host.Outcome State Fault Refusal :=
  let total := 16 * cacheSets s
  let n := (linesIn s 2).length
  let on := if s.dense.cleaning then decide (total ≤ 4 * n) else decide (total < 2 * n)
  let s1 := { s with dense := { s.dense with cleaning := on } }
  if !on then .next s1
  else match dirtyLines s1 with
    | k :: _ => .next (startWrite k 1 s1)
    | [] => .next s1

/-- DRIVE_FAILED: an attached drive loses its link (R298). -/
def execDriveFailed (drive : Nat) (s : State) : Host.Outcome State Fault Refusal :=
  if s.dense.attached.any fun e => e.1 == drive then .next (failDrive drive s) else .next s

/-- DRIVE_PRESENCE_LOSS: DPRSNT# goes high while DPERST# is high: DPERST# is driven low, DREF disabled, and the drive is
failed (R657). -/
def execDrivePresenceLoss (drive : Nat) (s : State) : Host.Outcome State Fault Refusal :=
  if !s.pins.dprsnt.getLsbD drive || !s.pins.dperst.getLsbD drive then .next s
  else
    let off := ~~~(BitVec.twoPow 8 drive)
    let s1 := { s with pins := { s.pins with
      dprsnt := s.pins.dprsnt &&& off, dperst := s.pins.dperst &&& off, dref := s.pins.dref &&& off } }
    if s.dense.attached.any fun e => e.1 == drive then .next (failDrive drive s1) else .next s1

/-- DENSE_ATTACH: the usable drives present are attached, after the work of the cache; refused while a pool region maps dense
capacity (R291, R292). -/
def execDenseAttach (q : MciReq) (found : List DriveIn) (s : State) : Host.Outcome State Fault Refusal :=
  .next (mciFixed 0x0306 0 [] true q (fun s =>
    if denseMapped s then mciStatus 0x0306 q mBusy s
    else
      let s1 := mciHold 0x0306 q s
      denseGo { s1 with dense := { s1.dense with attaches := s1.dense.attaches ++ [(q.who, q.tag, found)] } }) s)

/-- A function holds a DENSE entry with W (R393). -/
def mayFlush (s : State) (fn : Nat) : Bool := fn == 0 || (tabValues (winTable s fn).dense).any fun e => bit1 e 63

/-- DENSE_FLUSH: the lines DIRTY or WRITING at acceptance are written back and every attached drive flushes; the response
follows (R297, R305). -/
def execDenseFlush (q : MciReq) (s : State) : Host.Outcome State Fault Refusal :=
  .next (mciFixed 0x0307 0 [] true q (fun s =>
    let fn := fnOfWho q.who
    if !mayFlush s fn then mciStatus 0x0307 q mWindow (violation fn 2 s)
    else if s.dense.attached.isEmpty then mciStatus 0x0307 q mSuccess s
    else
      let bs := (s.dense.lines.map fun e => e.1).filterMap (flushNeeds s)
      let ds := (s.dense.attached.map fun e => e.1).filter fun d => !(driveOf s d).failed
      let s1 := mciHold 0x0307 q s
      denseGo { s1 with dense := { s1.dense with flushes := s1.dense.flushes ++ [⟨q.who, q.tag, bs, ds, false, none⟩] } }) s)

/-- DENSE_QUERY: drives, units, capacity, state of the cache (R291 to R297). -/
def execDenseQuery (q : MciReq) (s : State) : Host.Outcome State Fault Refusal :=
  .next (mciFixed 0x0308 0 [] true q (fun s =>
    mciQuery 0x0308 q ([denseBlocks s, s.dense.units, (linesIn s 1).length, (linesIn s 2).length,
      s.dense.failedBlocks.length] ++ (rangeFrom 0 8).flatMap fun d =>
        [d, flag (s.dense.attached.any fun e => e.1 == d), (driveOf s d).capacity, flag (driveOf s d).failed]) s) s)

end Sys2Proof.Machine
end

