-- ==== Sys2Proof/Machine/Firmware.lean ====
section
/-! DEFINITION. MCI commands of the management chapter: information, notices, clocks, firmware slots, keys, vetting
(R46, R363 to R379). -/

namespace Sys2Proof.Machine

/-- Package data as numbers. -/
def packageContent (p : Package) : List Nat := [p.kind, p.vendor, p.version, p.ifLevel, p.svn]

/-- MCI_INFO: versions, interface levels, mode and vetting state (R363, R626). -/
def execMciInfo (q : MciReq) (s : State) : Host.Outcome State Fault Refusal :=
  .next (mciFixed 0x0001 0 [] true q (fun s =>
    mciQuery 0x0001 q ([if s.boot.mp == .recovery then 1 else 0, s.fw.vet,
      if s.regs.dbgArm then 1 else 0] ++ s.fw.running.flatMap packageContent) s) s)

/-- MP_RESET: the MP answers, then resets (R352, R363). -/
def execMpReset (q : MciReq) (s : State) : Host.Outcome State Fault Refusal :=
  .next (mciFixed 0x0002 0 [] true q (fun s => mpOnlyReset 1 (mciStatus 0x0002 q mSuccess s)) s)

/-- NOTIFY_SUBSCRIBE: the classes of the requester's notices, bit c of [7:0] for class c, replace its subscription
(R364). DESIGN CHOICE, log entry 39: the parameter layout. -/
def execNotifySubscribe (q : MciReq) (s : State) : Host.Outcome State Fault Refusal :=
  .next (mciFixed 0x0003 8 [(0, 8)] true q (fun s =>
    let s1 := if isMctp q.who then
        let m := q.who / 256 - 1
        let e := q.who % 256
        { s with fw := { s.fw with
          subs := (m, e, bits (mciParams q) 0 8) :: s.fw.subs.filter fun x => !(x.1 == m && x.2.1 == e) } }
      else s
    mciStatus 0x0003 q mSuccess s1) s)

/-- CLOCK_CORRELATE: the tick timestamp and the reference-time counter captured together (R46). -/
def execClockCorrelate (q : MciReq) (s : State) : Host.Outcome State Fault Refusal :=
  .next (mciFixed 0x0004 0 [] true q (fun s =>
    mciAnswer 0x0004 q mSuccess 0 16 (s.clk.tick.toNat + 2 ^ 64 * s.clk.refTime.toNat) s) s)

/-- FW_INFO: slot states and package details (R369). -/
def execFwInfo (q : MciReq) (s : State) : Host.Outcome State Fault Refusal :=
  .next (mciFixed 0x0101 0 [] true q (fun s =>
    mciQuery 0x0101 q ([(fwSlot s 0).state, (fwSlot s 1).state] ++
      (bundlePackages s 0 ++ bundlePackages s 1).flatMap packageContent) s) s)

/-- FW_WRITE may write a slot (R369, R370). -/
def fwWritable (s : State) (k : Nat) : Bool :=
  if s.boot.mp == .recovery then
    k != s.fw.active || [0, 1, 2, 6].contains (fwSlot s k).state
  else k != s.fw.active && (fwSlot s s.fw.active).state == 5

/-- The body of FW_WRITE once permitted: sequence, limit, erase, write, LAST (R369). -/
def fwWrite (q : MciReq) (k off len data : Nat) (last : Bool) (s : State) : State :=
  if !fwWritable s k then mciStatus 0x0102 q mBusy s
  else if fwSlotSize < off + len then mciStatus 0x0102 q mResource s
  else
    let f := fwSlot s k
    if off ≠ 0 ∧ (f.state ≠ 1 ∨ off ≠ f.next) then mciStatus 0x0102 q mBadParam s
    else
      let f1 := (if off = 0 then FwSlot.reset else f).write off data len
      let s1 := { s with fw := { s.fw with
        slots := Tab.set FwSlot.reset s.fw.slots k { f1 with state := f.state, next := off + len } } }
      mciStatus 0x0102 q mSuccess (fwSetState k (if last then 2 else 1) s1)

/-- FW_WRITE: sequential bundle data into a slot, inline or from a buffer list whose bytes the DMA delivered (R369,
R370). -/
def execFwWrite (q : MciReq) (data : Nat) (s : State) : Host.Outcome State Fault Refusal :=
  let p := mciParams q
  let src := bit1 p 1
  let len := bits p 64 32
  .next (mciRun 0x0102 (q.plen == 24 + if src then 0 else len)
    (reservedClear (p % 2 ^ 192) [(0, 3), (32, 32), (64, 32), (96, 64)] && (!src || isRing q.who)) q
    (fun s => fwWrite q (bits p 0 1) (bits p 32 32) len (if src then data % 2 ^ (8 * len) else p / 2 ^ 192)
      (bit1 p 2) s) s)

/-- FW_VERIFY: a WRITTEN slot becomes VERIFIED, or FAILED with the failing package (R367, R369, R370). -/
def execFwVerify (q : MciReq) (s : State) : Host.Outcome State Fault Refusal :=
  let k := bits (mciParams q) 0 1
  .next (mciFixed 0x0103 8 [(0, 1)] true q (fun s =>
    if (fwSlot s k).state ≠ 2 then mciStatus 0x0103 q mBusy s
    else match bundleVerdict s k with
      | none => mciStatus 0x0103 q mSuccess (fwSetState k 3 s)
      | some (i, st) => mciAnswer 0x0103 q st i 0 0 (mpEvent 0x9004 0 0 i (fwSetState k 6 s))) s)

/-- A VERIFIED slot becomes active with TRIAL set; outside recovery the other becomes the COMMITTED fallback (R369,
R370). -/
def fwActivate (k : Nat) (s : State) : State :=
  let s1 := if s.boot.mp == .recovery then s else fwSetState (1 - k) 5 s
  bootRecord k true 0 (fwSetState k 4 s1)

/-- FW_ACTIVATE: with WHEN = 1 the MP resets after the response, or in recovery mode the boot restarts (R369, R370). -/
def execFwActivate (q : MciReq) (s : State) : Host.Outcome State Fault Refusal :=
  let p := mciParams q
  let k := bits p 0 1
  .next (mciFixed 0x0104 8 [(0, 1), (8, 1)] true q (fun s =>
    if (fwSlot s k).state ≠ 3 then mciStatus 0x0104 q mBusy s
    else
      let s1 := mciStatus 0x0104 q mSuccess (fwActivate k s)
      if !bit1 p 8 then s1
      else if s.boot.mp == .recovery then { s1 with boot := { s1.boot with mp := .bootRom, ready := false, starting := true } }
      else mpOnlyReset 2 { s1 with fw := { s1.fw with useSlot := k } }) s)

/-- Raise the minimum of every package's kind to the slot's (R367, R369). -/
def raiseMinimums (ps : List Package) (s : State) : State :=
  ps.foldl (fun t p =>
    if p.kind = 4 then
      { t with fw := { t.fw with tileSvn := Tab.upd 0 t.fw.tileSvn p.key fun m => max m p.svn } }
    else { t with fw := { t.fw with minSvn := Tab.upd 0 t.fw.minSvn p.kind fun m => max m p.svn } }) s

/-- FW_COMMIT: the running TRIAL slot is committed; RAISE raises the SVN minimums (R369). -/
def execFwCommit (q : MciReq) (s : State) : Host.Outcome State Fault Refusal :=
  .next (mciFixed 0x0105 8 [(0, 1)] true q (fun s =>
    if !s.fw.trial || s.fw.mpSlot != s.fw.active then mciStatus 0x0105 q mBusy s
    else
      let k := s.fw.active
      let s1 := bootRecord k false 0 (fwSetState k 5 s)
      mciStatus 0x0105 q mSuccess
        (if bit1 (mciParams q) 0 then raiseMinimums (bundlePackages s1 k) s1 else s1)) s)

/-! ### Keys and image policy (R372) -/

/-- SLOT of a key command is 1 to 8. -/
def keySlotOk (p : Nat) : Bool := decide (1 ≤ bits p 8 4) && decide (bits p 8 4 ≤ 8)

/-- KEY_INSTALL: a public key into an empty key slot. -/
def execKeyInstall (q : MciReq) (s : State) : Host.Outcome State Fault Refusal :=
  let p := mciParams q
  let n := bits p 8 4
  let key := bits p 128 768
  .next (mciFixed 0x0110 112 ([(0, 1), (8, 4), (128, 768)] ++ if bit1 p 0 then [(16, 16)] else []) (keySlotOk p) q
    (fun s =>
      if bit1 p 0 then
        if (Tab.get none s.fw.tileKeys n).isSome then mciStatus 0x0110 q mBusy s
        else mciStatus 0x0110 q mSuccess { s with fw := { s.fw with
          tileKeys := Tab.set none s.fw.tileKeys n (some (bits p 16 16, key)) } }
      else if (Tab.get none s.fw.imageKeys n).isSome then mciStatus 0x0110 q mBusy s
      else mciStatus 0x0110 q mSuccess { s with fw := { s.fw with
        imageKeys := Tab.set none s.fw.imageKeys n (some key) } }) s)

/-- KEY_REMOVE: a key slot becomes empty; what was verified before stays (R372, R386). -/
def execKeyRemove (q : MciReq) (s : State) : Host.Outcome State Fault Refusal :=
  let p := mciParams q
  let n := bits p 8 4
  .next (mciFixed 0x0111 8 [(0, 1), (8, 4)] (keySlotOk p) q (fun s =>
    let fw1 := if bit1 p 0 then { s.fw with tileKeys := Tab.set none s.fw.tileKeys n none }
      else { s.fw with imageKeys := Tab.set none s.fw.imageKeys n none }
    mciStatus 0x0111 q mSuccess { s with fw := fw1 }) s)

/-- KEY_LIST: SET, VENDOR and key hash of each slot. -/
def execKeyList (q : MciReq) (s : State) : Host.Outcome State Fault Refusal :=
  .next (mciFixed 0x0112 0 [] true q (fun s =>
    let im := s.fw.imageKeys.flatMap fun e => [0, e.1, (Config.sha384 (e.2.getD 0) 96).toNat]
    let ti := s.fw.tileKeys.flatMap fun e => match e.2 with
      | some (v, k) => [1, e.1, v, (Config.sha384 k 96).toNat]
      | none => []
    mciQuery 0x0112 q (im ++ ti) s) s)

/-- IMAGE_POLICY: ALLOW_UNSIGNED (R124, R372). -/
def execImagePolicy (q : MciReq) (s : State) : Host.Outcome State Fault Refusal :=
  .next (mciFixed 0x0113 8 [(0, 1)] true q (fun s =>
    mciStatus 0x0113 q mSuccess { s with fw := { s.fw with allowUnsigned := bit1 (mciParams q) 0 } }) s)

/-! ### Vetting (R377, R379) -/

/-- VET_REPORT: state, digest, running packages and failing pairs. -/
def execVetReport (q : MciReq) (s : State) : Host.Outcome State Fault Refusal :=
  .next (mciFixed 0x0120 0 [] true q (fun s =>
    mciQuery 0x0120 q ([s.fw.vet, (combinationDigest s.fw.running).toNat] ++
      s.fw.running.flatMap packageContent ++
      (failingPairs s.fw.running).flatMap fun x => packageContent x.1 ++ packageContent x.2) s) s)

/-- VET_ACCEPT: the current unvetted combination is accepted by its digest (R379). -/
def execVetAccept (q : MciReq) (s : State) : Host.Outcome State Fault Refusal :=
  let d := BitVec.ofNat 384 (bits (mciParams q) 128 384)
  .next (mciFixed 0x0121 64 [(128, 384)] true q (fun s =>
    if s.fw.vet = 1 ∧ d = combinationDigest s.fw.running then
      mciStatus 0x0121 q mSuccess
        (rejoinGroup (notify 2 0x9001 0 (noteVet s { s with fw := { s.fw with accept := some d, vet := 2 } })))
    else mciStatus 0x0121 q mBadParam s) s)

/-- VET_REVOKE: the record is deleted and the state recomputed (R379). -/
def execVetRevoke (q : MciReq) (s : State) : Host.Outcome State Fault Refusal :=
  .next (mciFixed 0x0122 0 [] true q (fun s =>
    mciStatus 0x0122 q mSuccess (recheckVet { s with fw := { s.fw with accept := none } })) s)

end Sys2Proof.Machine
end

