-- ==== Sys2Proof/Machine/HbmCmds.lean ====
section
/-! DEFINITION. Commands of the HBM controllers outside the scheduled plane: training, autonomous refresh, unscheduled
accesses, write-backs, scrub, soft repair, temperature, unit roles (R281 to R289, R300). -/

namespace Sys2Proof.Machine

/-- The pseudo-channel serves: it exists and its stack is trained. -/
def pcServes (s : State) (pc : Nat) : Bool := decide (pc < 256) && (stackOf s (pc / 32)).trained

/-- A pseudo-channel that the fault map records as dead, or of a stack that failed training (R288, R300). -/
def pcDead (s : State) (pc : Nat) : Bool := !s.fmap.pcLive pc || (stackOf s (pc / 32)).dead

/-- The tag byte of every line of a stack's OFFLINE units is zeroed (R300). -/
def zeroTags (stack : Nat) (s : State) : State :=
  let us := (rangeFrom (36 * stack) 36).filter fun u => roleOf s u == 3
  { s with hbm := { s.hbm with
    flag := s.hbm.flag.filter fun e => !us.contains (unitOfLine e.1)
    zeroed := us ++ s.hbm.zeroed.filter fun u => !us.contains u } }

/-- Pseudo-channels that the next merge records as dead. -/
def deadenPcs (pcs : List Nat) (s : State) : State :=
  { s with fmap := { s.fmap with pendPcs := pcs.filter (fun p => !s.fmap.pendPcs.contains p) ++ s.fmap.pendPcs } }

/-- Lane repair of one channel at training: its failed lanes are entries of KIND 3 in the volatile map; without repair resources
the channel has no working width, and both of its pseudo-channels are dead (R252, R272). -/
def repairChannel (stack : Nat) (s : State) (c : ChannelTrain) : State :=
  let b := hbmBundle stack c.channel
  let s1 := calValid b c.lanes s
  if c.repaired then s1
  else
    let p := 32 * stack + 2 * c.channel
    [p, p + 1].foldl (fun t x => mpEvent 0x5006 5 x 0 t)
      (deadenPcs [p, p + 1] { s1 with lanes := { s1.lanes with hbmDead := b :: s1.lanes.hbmDead.filter fun d => d != b } })

/-- HBM_TRAINING: a stack trains and its channels are repaired, or it fails and has every pseudo-channel recorded as dead; step 2
ends with the eighth stack (R252, R300, Table 17.2). -/
def execHbmTraining (stack : Nat) (good : Bool) (channels : List ChannelTrain) (s : State) : Host.Outcome State Fault Refusal :=
  let k := stackOf s stack
  if !s.boot.starting || !s.boot.steps.getLsbD 1 || decide (8 ≤ stack) || k.trained || k.dead then .next s
  else
    let s1 := if good then channels.foldl (repairChannel stack)
        (zeroTags stack (updStack stack (fun x => { x with trained := true, selfRefresh := false }) s))
      else
        mpEvent 0x5007 5 stack 0 (deadenPcs (rangeFrom (32 * stack) 32) (updStack stack (fun x => { x with dead := true }) s))
    let s2 := updPcs (rangeFrom (32 * stack) 32) (fun _ p => { p with sched := false, openStripe := none, recStripe := none }) s1
    let all := (rangeFrom 0 8).all fun i => (stackOf s2 i).trained || (stackOf s2 i).dead
    .next (if all then stepDone 2 s2 else s2)

/-- AUTONOMOUS_REFRESH: the controller issues REFab on its own timer; one refresh that is still owed from scheduled mode is
repaid by it (R64, R116, R283). -/
def execAutonomousRefresh (pc : Nat) (s : State) : Host.Outcome State Fault Refusal :=
  if pcServes s pc && (pcOf s pc).auto && !(stackOf s (pc / 32)).selfRefresh then
    .next (emit (.dram pc 1 0) (updPc pc (fun p => { p with debt := owed (p.debt - 1) }) s))
  else .next s

/-- A stack in self-refresh leaves it for an access, and its partition is no longer in that state (R541, R544). -/
def wakeStack (pc : Nat) (s : State) : State :=
  let s1 := updStack (pc / 32) (fun k => { k with selfRefresh := false, lastUse := s.clk.wallPs }) s
  if (stackOf s (pc / 32)).selfRefresh then
    emit (.dram pc 4 0) (updParts (fun k p =>
      if p.idleState = 3 ∧ (rect s k).hasStack (pc / 32) then { p with idleState := if p.slot.isSome then 2 else 1 } else p) s1)
  else s1

/-- The request comes from the pool. -/
def UReq.isPool (q : UReq) : Bool := match q.origin with
  | .pool _ => true
  | _ => false

/-- The oldest request of a class: 0 pool, 1 cache, 2 staging. -/
def classFront (p : Pc) : Nat → Option (UReq ⊕ (Nat × CacheJob))
  | 1 => p.cacheQ.head?.map .inr
  | c => (p.queue.find? fun q => q.isPool == (c == 0)).map .inl

/-- The next work of a pseudo-channel: pool accesses, cache accesses and staging in round robin (R287). -/
def nextWork (p : Pc) : Option (Nat × (UReq ⊕ (Nat × CacheJob))) :=
  (rangeFrom (p.lastClass + 1) 3).findSome? fun c => (classFront p (c % 3)).map fun w => (c % 3, w)

/-- One unscheduled request is served: a live pseudo-channel reads or writes the line; a dead one returns poison with the
status "slice unavailable" (R287, R288, R323). -/
def serveReq (pc : Nat) (q : UReq) (s : State) : State :=
  let dead := pcDead s pc
  match q.origin with
  | .stage fn seq off =>
    if dead then
      if q.write then stageWritten fn seq (some stSliceUnavailable) s
      else
        let (d, s1) := drawLine s
        stageRead fn seq off d true (some stSliceUnavailable) s1
    else if q.write then stageWritten fn seq none (hbmWrite q.line q.data q.poison s)
    else
      let (b, s1) := hbmRead q.line s
      stageRead fn seq off b.data b.poison none s1
  | .pool id =>
    poolServe id (hbmRead q.line) (hbmWrite q.line) (lineFlag (injectHbm q.line s) q.line == 2) (if dead then some 6 else none) s
  | .ctl _ _ => s

/-- UNSCHEDULED_ACCESS: the next waiting work of a pseudo-channel is done in a permitted cell, after the write-backs; a dead
pseudo-channel answers at once (R285, R287, R288). `sev` counts the on-die ECC severity reports that come with it (R280). -/
def execUnscheduledAccess (pc sev : Nat) (s : State) : Host.Outcome State Fault Refusal :=
  let p := pcOf s pc
  let dead := pcDead s pc
  if !dead && (!pcServes s pc || !cellPermitted s pc || !p.writeback.isEmpty) || decide (256 ≤ pc) then .next s
  else match nextWork p with
    | none => .next s
    | some (c, w) =>
      let s1 := updPc pc (fun x => { x with lastClass := c }) (if dead then s else hbmCount pc 2 sev (moveRows pc (wakeStack pc s)))
      .next (match w with
        | .inl q => serveReq pc q (updPc pc (fun x => { x with queue := x.queue.erase q }) s1)
        | .inr (k, j) => denseGo (serveCache k j dead (updPc pc (fun x => { x with cacheQ := x.cacheQ.drop 1 }) s1)))

/-- CORRECTED_WRITEBACK: the oldest corrected line is written back in a permitted cell (R281). -/
def execCorrectedWriteback (pc : Nat) (s : State) : Host.Outcome State Fault Refusal :=
  match (pcOf s pc).writeback with
  | [] => .next s
  | l :: rest =>
    if !pcServes s pc || !cellPermitted s pc then .next s
    else
      let s1 := updPc pc (fun p => { p with writeback := rest }) (moveRows pc (wakeStack pc s))
      let put (v : Nat) : State := { s1 with hbm := { s1.hbm with flag := Tab.set 0 s1.hbm.flag l v } }
      .next (match Tab.get 0 s1.hbm.flag l with
        | 1 => put (goodFlag s1 l)
        | 5 => put 3
        | _ => s1)

/-- PATROL_SCRUB: the next line of a pseudo-channel is read with its ECC when nothing else waits (R280, R281, R287). -/
def execPatrolScrub (pc sev : Nat) (s : State) : Host.Outcome State Fault Refusal :=
  let p := pcOf s pc
  if !pcServes s pc || !cellPermitted s pc || pcDead s pc || !p.queue.isEmpty || !p.cacheQ.isEmpty ||
      !p.writeback.isEmpty || (stackOf s (pc / 32)).selfRefresh then
    .next s
  else
    let (_, s1) := hbmRead (pc * pcLines + p.patrol) (hbmCount pc 2 sev (moveRows pc s))
    .next (updPc pc (fun x => { x with patrol := (x.patrol + 1) % pcLines }) s1)

/-- Lines of a row: 16 lines of a stripe with one bank group (R274). -/
def rowLines (pc row : Nat) : List Nat := (rangeFrom 0 16).map fun i => pc * pcLines + 64 * (row / 4) + 4 * i + row % 4

/-- HBM_SOFT_REPAIR: a failing row of an autonomous pseudo-channel is read through its ECC, repaired and rewritten with
each line's poison state; without a repair resource it stays in service and is logged (R282). -/
def execHbmSoftRepair (pc row : Nat) (resource : Bool) (s : State) : Host.Outcome State Fault Refusal :=
  let p := pcOf s pc
  if !pcServes s pc || !p.auto || !(p.failing.contains row) then .next s
  else if resource then
    let s1 := updPc pc (fun x => { x with
      failing := x.failing.erase row, repaired := row :: x.repaired
      spent := Tab.upd 0 x.spent (bankOfRow row) (fun n => n + 1)
      rowErrors := x.rowErrors.filter fun e => e.1 != row }) s
    let after (l : Nat) : Nat := if lineFlag s1 l ≤ 1 then goodFlag s1 l else 3
    let s2 := { s1 with hbm := { s1.hbm with flag := Tab.updAll 0 s1.hbm.flag (rowLines pc row) fun l _ => after l } }
    .next (sendEvent ⟨0x5003, 1, pc, some (row / 4), hbmEndpoint pc, 0⟩ s2)
  else
    let s1 := updPc pc (fun x => { x with
      failing := x.failing.erase row, kept := row :: x.kept
      exhausted := if x.exhausted.contains (bankOfRow row) then x.exhausted else bankOfRow row :: x.exhausted }) s
    .next (sendEvent ⟨0x5005, 5, pc, some (bankOfRow row), hbmEndpoint pc, 0⟩
      (sendEvent ⟨0x5009, 0, pc, some (row / 4), hbmEndpoint pc, 0⟩ s1))

/-- Partitions whose image uses a stack that does not permit its class count their permitted frames from zero (R89). -/
def denyFrames (s : State) : State :=
  updParts (fun _ p => match boundImage s p with
    | some im => if imagePermitted s im then p else { p with permitFrames := 0 }
    | none => p) s

/-- HBM_TEMP_SAMPLE: a stack's readout is judged, and its refresh level follows; an implausible readout sets HOT (R89, R284). -/
def execHbmTempSample (stack : Nat) (raw : BitVec 16) (s : State) : Host.Outcome State Fault Refusal :=
  if 8 ≤ stack ∨ !(stackOf s stack).trained then .next s
  else
    let s1 := judgeSample (hbmSensor stack) raw s
    let z := sensorOf s1 (hbmSensor stack)
    .next (denyFrames (updStack stack (fun k => { k with
      readout := z.value
      level := if z.plausible then nextLevel k.level z.value else 2 }) s1))

/-- HBM_ASSIGN (R289, Table 9.7). -/
def execHbmAssign (q : MciReq) (s : State) : Host.Outcome State Fault Refusal :=
  let p := mciParams q
  .next (mciFixed 0x0304 8 [(0, 3), (8, 6), (16, 6), (24, 2)]
    (decide (bits p 8 6 ≤ 35) && decide (1 ≤ bits p 16 6) && decide (bits p 8 6 + bits p 16 6 ≤ 36)) q (fun s =>
    if assignRefused s p then mciStatus 0x0304 q mBusy s
    else if bits p 24 2 = 2 ∨ (assignUnits p).any (fun u => roleOf s u == 2) then
      let s1 := mciHold 0x0304 q s
      denseGo { s1 with dense := { s1.dense with assigns := s1.dense.assigns ++ [(q.who, q.tag, p)] } }
    else mciStatus 0x0304 q mSuccess (assignRoles p s)) s)

/-- Repair resources that a bank has left (R282). -/
def resourcesLeft (s : State) (pc bank : Nat) : Nat :=
  let p := pcOf s pc
  if p.exhausted.contains bank then 0 else Config.repairResources pc bank - Tab.get 0 p.spent bank

/-- HBM_QUERY: stacks, levels, roles, and the repair resources that are left (R282, R288). -/
def execHbmQuery (q : MciReq) (s : State) : Host.Outcome State Fault Refusal :=
  .next (mciFixed 0x0305 0 [] true q (fun s =>
    mciQuery 0x0305 q ((rangeFrom 0 8).flatMap (fun k =>
        [flag (stackOf s k).trained, flag (stackOf s k).dead, (stackOf s k).level, exhaustedBanks s k]) ++
      (rangeFrom 0 288).map (roleOf s) ++
      (rangeFrom 0 256).flatMap fun pc => (rangeFrom 0 48).map (resourcesLeft s pc)) s) s)

end Sys2Proof.Machine
end

