-- ==== Sys2Proof/Machine/ImgFrame.lean ====
section
/-! DEFINITION. The checks of an image that look at one record at a time: integrity, reserved values and ranges,
capacities, the rectangle, the fault-map dependency, the tile requirements and the spreading rule (Table 4.12 codes 0x01
to 0x0B and 0x0F). -/

namespace Sys2Proof.Machine

/-! ### Where a pattern is used (R125) -/

/-- First frame of a variant, from frame f on, that uses pattern p. -/
def runsUse (p : Nat) : List PatternRun → Nat → Option Nat
  | [], _ => none
  | r :: t, f => if r.pattern = p then some f else runsUse p t (f + r.countM1 + 1)

/-- First use among variants from number v on. -/
def variantsUse (p : Nat) : List Variant → Nat → Option (Nat × Nat)
  | [], _ => none
  | x :: t, v => match runsUse p x.runs 0 with
    | some f => some (v, f)
    | none => variantsUse p t (v + 1)

/-- The first frame that uses a pattern: variants in order, then the idle frame, counted as variant 8. -/
def Image.firstUse (im : Image) (p : Nat) : Option (Nat × Nat) :=
  match variantsUse p im.variants 0 with
  | some u => some u
  | none => if im.hdr.idlePattern = p then some (8, 0) else none

/-- A violation in a pattern: placed in the first frame that uses it (R125). -/
def Image.inPattern (im : Image) (p : Nat) (v : Viol) : Viol := match im.firstUse p with
  | some (a, f) => { v with variant := a, frame := f }
  | none => v

/-! ### Occurrences -/

/-- One occurrence of an event record: its router, index in the router's list, and occurrence number (R121). -/
structure Occ where
  router : Nat
  index : Nat
  ev : Event
  occ : Nat
  deriving DecidableEq, Repr

def Occ.tick (o : Occ) : Nat := o.ev.offset o.occ
def Occ.line (o : Occ) : Nat := ((o.ev.line : Int) + o.occ * o.ev.lstep).toNat

/-- Numbered elements of a list. -/
def indexed {α : Type} (l : List α) : List (Nat × α) := (rangeFrom 0 l.length).zip l

/-- Every occurrence in a pattern. -/
def occsOf (p : Pattern) : List Occ :=
  p.flatMap fun re => (indexed re.events).flatMap fun ie =>
    (rangeFrom 0 (ie.2.rep + 1)).map fun i => ⟨re.router, ie.1, ie.2, i⟩

/-- Every occurrence in pattern p. -/
def Image.occs (im : Image) (p : Nat) : List Occ := match im.patterns[p]? with
  | some pt => occsOf pt
  | none => []

/-- Pattern numbers. -/
def Image.patNums (im : Image) : List Nat := rangeFrom 0 im.patterns.length

/-- Every event record with its pattern and router. -/
def Image.eventList (im : Image) : List (Nat × Nat × Event) :=
  (indexed im.patterns).flatMap fun ip => ip.2.flatMap fun re => re.events.map fun e => (ip.1, re.router, e)

/-- Contexts that an event can run in: all of them when CTX is set. -/
def Image.ctxsOf (im : Image) (ctx : Bool) : List Nat := if ctx then rangeFrom 0 im.hdr.contexts else [0]

/-- A line of a slice is declared in TOUCH (R82). -/
def Image.touched (im : Image) (router line : Nat) : Bool :=
  decide (line < 768) && ((im.slice router).map fun e => bit1 e.touch line) == some true

/-- CTXSPAN of a router's slice; 0 without an entry (R123). -/
def Image.ctxSpan (im : Image) (router : Nat) : Nat := ((im.slice router).map fun e => e.ctxSpan).getD 0

/-! ### 0x01 to 0x06: integrity -/

/-- BAD_MAGIC, BAD_LEVEL, BAD_LENGTH; `named` is the length that the command gave. -/
def magicOk (r : Raw) : Bool := bits r.header 0 32 == 0x334C5243 && bits r.header 48 16 == 128
def levelOk (r : Raw) : Bool := bits r.header 32 16 == 3
def lengthOk (r : Raw) (named : Nat) : Bool :=
  bits r.header 64 32 == r.len && r.len == named && r.len % 64 == 0 && decide (r.len ≤ 67108864)

/-- SECTION_CRC. -/
def crcViols (r : Raw) : List Viol :=
  r.sects.flatMap fun e => unless_ ((crc32 (r.bytes e.off e.size) e.size).toNat == e.crc) { sec := e.idx }

/-- SIGNATURE: the fields of the block, the image policy, the key slot and the signature over bytes 0 to LENGTH − 257
(R124, Tables 4.10, 4.12). An unsigned block has no key slot to be empty, but its KEY and reserved bits are judged all the
same. -/
def imageSignatureOk (s : State) (r : Raw) : Bool :=
  let sig := r.bytes (r.len - 256) 256
  match bits sig 0 8 with
  | 0 => s.fw.allowUnsigned && decide (bits sig 8 8 ≤ 8) && reservedClear sig [(0, 8), (8, 8), (64, 384), (448, 384)]
  | _ =>
    let key : Option Nat := match bits sig 8 8 with
      | 0 => some imageKeyAtunon
      | k => if k ≤ 8 then Tab.get none s.fw.imageKeys k else none
    match key with
    | none => false
    | some k => signatureOk k (r.bytes 0 (r.len - 256)) (r.len - 256) sig

/-! ### 0x07: reserved values and ranges (R121, R276) -/

/-- Header fields. DESIGN CHOICE (log entry 10): a rectangle that leaves the grid, a COL0 or ROW0 above 3 among them, is
left to check 0x09, though Table 4.12 would let 0x07 take it as a field out of range; only a COLS or ROWS of 0 is refused
here. -/
def headerRange (r : Raw) (im : Image) : List Viol :=
  let h := im.hdr
  unless_ (reservedClear r.header headerFields && decide (1 ≤ h.rect.cols ∧ 1 ≤ h.rect.rows) &&
    (h.refresh == 1 || h.refresh == 2) && setValid (BitVec.ofNat 9 h.floor) &&
    decide (1 ≤ h.budget ∧ h.budget ≤ 16777216) && decide (1 ≤ r.patterns ∧ r.patterns ≤ 4096) &&
    decide (h.idlePattern < r.patterns) && r.sects.all fun e => e.rsvd == 0) {}

/-- Lines of every occurrence lie within 0 to 767: the first and the last do. -/
def linesInRange (e : Event) : Bool :=
  let last : Int := e.line + e.rep * e.lstep
  decide (e.line < 768) && decide (0 ≤ last) && decide (last < 768)

/-- An event record (R121, Tables 4.4, 4.5). -/
def eventRange (im : Image) (w : Nat) : Bool :=
  let e := parseEvent w
  reservedClear w [(0, 83), (96, 16)] && decide (1 ≤ e.kind ∧ e.kind ≤ 10) && decide (e.inp ≤ 7) &&
  decide (e.tick + e.rep * e.stride < 4096) && linesInRange e && (e.rep != 0 || e.stride == 0) &&
  (e.kind != kDispatch || decide (e.arg < 256)) && (e.kind != kWrite || decide (e.arg ≤ im.masks.length))

/-- PATTERNS. -/
def patternRange (r : Raw) (im : Image) : List Viol :=
  let p := r.part tPatterns
  let sec := r.secOf tPatterns
  (rangeFrom 0 r.patterns).flatMap fun i =>
    unless_ (reservedClear (patWord p i) [(0, 32), (32, 16)]) (im.inPattern i { sec := sec }) ++
    (patRouters p i).flatMap fun e =>
      unless_ (reservedClear e [(0, 14), (16, 16), (32, 32)]) (im.inPattern i { sec := sec, router := bits e 0 14 }) ++
      (patEvents p e).flatMap fun w =>
        unless_ (eventRange im w) (im.inPattern i { sec := sec, tick := bits w 0 12, router := bits e 0 14 })

/-- SLICES. -/
def sliceRange (r : Raw) : List Viol :=
  let p := r.part tSlices
  (r.sliceOffs.getD []).flatMap fun o =>
    let e := p.bytes o 240
    let n := bits e 16 5
    unless_ (reservedClear e [(0, 14), (16, 5), (32, 768), (800, 768), (1568, 128), (1696, 16)] && decide (n ≤ 16) &&
      (rangeFrom 0 n).all fun i => reservedClear (p.bytes (o + 240 + 8 * i) 8) [(0, 4), (8, 10), (18, 10), (28, 10), (38, 1)])
      { sec := r.secOf tSlices, router := bits e 0 14 }

/-- VARIANTS. -/
def variantRange (r : Raw) : List Viol :=
  (indexed r.variantRecs).flatMap fun iv =>
    let v := iv.2
    unless_ (reservedClear v [(0, 32), (32, 16), (64, 32), (96, 1), (97, 4), (104, 8)] &&
      decide (1 ≤ bits v 0 32 ∧ bits v 0 32 ≤ 65536) && decide (bits v 97 4 ≤ 8) &&
      (r.runRecs v).all fun w => reservedClear w [(0, 16), (16, 16), (32, 1)] && decide (bits w 0 16 < r.patterns))
      { sec := r.secOf tVariants, variant := iv.1 }

/-- A cell record: kind, count and end cell, LINE, ADDR (R274, R276). -/
def cellRange (np w : Nat) : Bool :=
  let c := parseCell w
  let n := c.cellsM1 + 1
  let ends := decide (c.cell + c.cellsM1 ≤ 511)
  reservedClear w [(0, 16), (16, 9), (25, 3), (28, 5), (33, 1), (34, 9), (64, 32)] && decide (c.pattern < np) &&
  bits c.addr 8 2 != 3 && decide (bits c.addr 10 15 < 24576) && bits c.addr 25 7 == 0 &&
  (match c.kind with
   | 1 => decide (n ≤ 21) && ends && decide (bits c.addr 0 6 + 3 * n ≤ 64)
   | 2 => decide (n ≤ 21) && ends && decide (bits c.addr 0 6 + 3 * n ≤ 64)
   | 3 => n == 32
   | 4 => n == 6 && ends
   | _ => false)

/-- HBM. -/
def hbmRange (r : Raw) (im : Image) : List Viol :=
  (r.hbmHeads.getD []).flatMap fun h =>
    unless_ (reservedClear h [(0, 8), (16, 16), (32, 32), (64, 256)]) { sec := r.secOf tHbm, resource := bits h 0 8 } ++
    (r.cellRecs h).flatMap fun w =>
      unless_ (cellRange r.patterns w) (im.inPattern (bits w 0 16)
        { sec := r.secOf tHbm, tick := 8 * bits w 16 9, resource := bits h 0 8 })

/-- HOST, SPRINKLE, FOLD, FAULTDEP, TILEREQ, LATTICE and TRAIN. -/
def otherRange (r : Raw) (im : Image) : List Viol :=
  (r.hostRecs.flatMap fun w =>
    unless_ (reservedClear w [(0, 16), (16, 12), (28, 1), (30, 7), (40, 8), (48, 16), (64, 32)] &&
      decide (bits w 0 16 < r.patterns) && bits w 64 32 % 64 == 0)
      (im.inPattern (bits w 0 16) { sec := r.secOf tHost, tick := bits w 16 12, router := routerAt 0 (bits w 30 7) })) ++
  ((r.treeOffs.getD []).flatMap fun o =>
    let p := r.part tSprinkle
    unless_ (reservedClear (p.bytes o 4) [(0, 8), (16, 16)] &&
      (rangeFrom 0 (bits (p.bytes o 4) 16 16)).all fun i => reservedClear (p.bytes (o + 4 + 4 * i) 4) [(0, 14), (16, 8)])
      { sec := r.secOf tSprinkle, resource := bits (p.bytes o 4) 0 8 }) ++
  ((r.foldOffs.getD []).flatMap fun o =>
    let p := r.part tFold
    let h := p.bytes o 8
    unless_ (reservedClear h [(0, 10), (16, 2), (18, 1), (32, 16)] &&
      (rangeFrom 0 (bits h 32 16)).all fun i =>
        let w := p.bytes (o + 8 + 4 * i) 4
        reservedClear w [(0, 14), (16, 4), (20, 4)] && decide (bits w 16 4 ≤ 7 ∧ bits w 20 4 ≤ 7))
      { sec := r.secOf tFold, resource := bits h 0 10 }) ++
  unless_ (allBelow (fun n => bits im.dep.clusters (2 * n) 2 != 3) 16384 &&
    allBelow (fun n => bits im.dep.stitch (2 * n) 2 != 3) 128) { sec := r.secOf tFaultDep } ++
  (let p := r.part tTileReq
   unless_ (reservedClear (p.bytes 0 8) [(0, 16), (16, 16), (32, 8)] &&
     (rangeFrom 0 (bits (p.bytes 0 8) 32 8)).all fun i => reservedClear (p.bytes (8 + 8 * i) 8) [(0, 8), (8, 16), (24, 16)])
     { sec := r.secOf tTileReq }) ++
  (r.latRecs.flatMap fun w =>
    unless_ (reservedClear w [(0, 16), (16, 12), (28, 4), (32, 1), (48, 10), (64, 8), (72, 16)] &&
      decide (bits w 0 16 < r.patterns) && decide (bits w 28 4 ≤ 11))
      (im.inPattern (bits w 0 16) { sec := r.secOf tLattice, tick := bits w 16 12, resource := bits w 28 4 })) ++
  (r.trainRecs.flatMap fun w =>
    unless_ (reservedClear w [(0, 16), (16, 4), (20, 4), (32, 64), (96, 128), (224, 10)] &&
      decide (1 ≤ bits w 16 4 ∧ bits w 16 4 ≤ 3)) { sec := r.secOf tTrain, resource := bits w 0 16 })

/-- RESERVED_VALUE. -/
def rangeViols (r : Raw) (im : Image) : List Viol :=
  headerRange r im ++ patternRange r im ++ sliceRange r ++ variantRange r ++ hbmRange r im ++ otherRange r im

/-! ### 0x08: capacities (R127, R290, Table 4.11) -/

/-- Images resident in slots other than n. -/
def residents (s : State) (n : Nat) : List Image :=
  ((rangeFrom 0 8).filter fun k => k != n && (slot s k).resident).map fun k => (slot s k).image

/-- Event records of a router in all patterns of an image. -/
def eventsAt (im : Image) (router : Nat) : Nat :=
  im.patterns.foldl (fun a p => a + ((p.find? fun re => re.router == router).map fun re => re.events.length).getD 0) 0
/-- Cell records of a pseudo-channel. -/
def cellsAt (im : Image) (pc : Nat) : Nat :=
  ((im.hbm.find? fun h => h.pc == pc).map fun h => h.cells.length).getD 0
/-- Transfer records of a row and window records of a port. -/
def hostAt (im : Image) (row : Nat) : Nat := (im.host.filter fun h => h.row == row).length
def latAt (im : Image) (port : Nat) : Nat := (im.lattice.filter fun h => h.port == port).length

/-- The sum of a count over an image and the residents. -/
def total (l : List Image) (im : Image) (f : Image → Nat) : Nat := l.foldl (fun a i => a + f i) (f im)

/-- The routers that an image's patterns name. -/
def Image.eventRouters (im : Image) : List Nat := (im.patterns.flatMap fun p => p.map fun re => re.router).eraseDups

/-- A stripe in a context (R123, R275); an integer, since the relocation may leave the pseudo-channel. -/
def stripeIn (h : PcRec) (c : CellRec) (ctx : Nat) : Int :=
  (addrStripe c.addr : Int) + if c.ctx then 12 * h.ctxRow[ctx]?.getD 0 else 0

/-- The module unit of a stripe (R275). -/
def unitAt (pc : Nat) (stripe : Int) : Nat := 36 * (pc / 32) + stripe.toNat / 8192

/-- The cells that name a stripe: windows and gaps. -/
def stripeCells (im : Image) : List (PcRec × CellRec) :=
  im.hbm.flatMap fun h => (h.cells.filter fun c => c.kind != 3).map fun c => (h, c)

/-- CAPACITY. -/
def capacityViols (s : State) (n : Nat) (r : Raw) (im : Image) : List Viol :=
  let rs := residents s n
  (im.eventRouters.flatMap fun x =>
    unless_ (decide (total rs im (fun i => eventsAt i x) ≤ 512)) { sec := r.secOf tPatterns, router := x }) ++
  (im.hbm.flatMap fun h =>
    unless_ (decide (total rs im (fun i => cellsAt i h.pc) ≤ 2048)) { sec := r.secOf tHbm, resource := h.pc }) ++
  ((rangeFrom 0 128).flatMap fun y =>
    unless_ (hostAt im y == 0 || decide (total rs im (fun i => hostAt i y) ≤ 1024))
      { sec := r.secOf tHost, router := routerAt 0 y }) ++
  ((rangeFrom 0 12).flatMap fun p =>
    unless_ (decide (total rs im (fun i => latAt i p) ≤ 1024)) { sec := r.secOf tLattice, resource := p }) ++
  unless_ (decide (im.variants.foldl (fun a v => a + v.runs.length) 0 ≤ 16384)) { sec := r.secOf tVariants } ++
  unless_ (decide (im.trees.length ≤ 256)) { sec := r.secOf tSprinkle } ++
  unless_ (decide (im.folds.length ≤ 1024)) { sec := r.secOf tFold } ++
  unless_ (decide (im.masks.length ≤ 255)) { sec := r.secOf tMasks } ++
  (stripeCells im).flatMap fun hc => (im.ctxsOf hc.2.ctx).flatMap fun c =>
    let st := stripeIn hc.1 hc.2 c
    unless_ (decide (0 ≤ st) && decide (st < 294912) && roleOf s (unitAt hc.1.pc st) == 0 &&
        !leaving s (unitAt hc.1.pc st))
      (im.inPattern hc.2.pattern { sec := r.secOf tHbm, tick := 8 * hc.2.cell, resource := hc.1.pc })

/-! ### What an image uses -/

/-- A use of a router: where a report places it. -/
structure RouterUse where
  router : Nat
  at_ : Viol
  deriving DecidableEq, Repr

/-- The rim routers of a window record: those that its first ten dense beats take turns through (R479). -/
def latticeRims (l : LatRec) : List Nat := (rangeFrom (latticeRow0 l.port) 10).map (routerAt 127)

/-- Every router that an event or a record names (R102, R108). -/
def Image.routerUses (r : Raw) (im : Image) : List RouterUse :=
  (im.eventList.map fun (p, x, e) => ⟨x, im.inPattern p { sec := r.secOf tPatterns, tick := e.tick, router := x }⟩) ++
  (im.slices.map fun e => ⟨e.router, { sec := r.secOf tSlices, router := e.router }⟩) ++
  (im.hbm.flatMap fun h => h.cells.map fun c =>
    let x := rimRouter (h.pc / 32) c.rim
    ⟨x, im.inPattern c.pattern { sec := r.secOf tHbm, tick := 8 * c.cell, router := x, resource := h.pc }⟩) ++
  (im.host.map fun h => ⟨routerAt 0 h.row, im.inPattern h.pattern
    { sec := r.secOf tHost, tick := h.tick, router := routerAt 0 h.row }⟩) ++
  (im.trees.flatMap fun t => t.nodes.map fun n => ⟨n.1, { sec := r.secOf tSprinkle, router := n.1, resource := t.id }⟩) ++
  (im.folds.flatMap fun f => f.steps.map fun t =>
    ⟨t.router, { sec := r.secOf tFold, router := t.router, resource := f.id }⟩)

/-- The variants whose successor a branch word chooses. -/
def Image.anyChosen (im : Image) : Bool := im.variants.any fun v => v.chosen

/-! ### 0x09: the rectangle (R102, R103) -/

/-- The output links N, E, S, W of a mask. -/
def meshPorts (outs : Nat) : List Nat := (rangeFrom 0 4).filter fun d => bit1 outs d

/-- The mesh ports that an event names, with those of its Fold step. -/
def routePorts (im : Image) (p : Nat) (o : Occ) : List Nat :=
  let inp := if [kLink, kWrite, kScatter, kFold, kUpdate].contains o.ev.kind && decide (o.ev.inp < 4) then [o.ev.inp] else []
  let outs := if o.ev.kind = kLink ∨ o.ev.kind = kFold then meshPorts o.ev.out else []
  let second : List Nat :=
    if o.ev.kind = kFold then
      ((im.foldProg o.ev.arg).bind fun f => im.foldStep f p o.router o.index).toList.map fun st => st.second
    else []
  inp ++ outs ++ second.filter fun d => decide (d < 4)

/-- RECTANGLE. -/
def rectangleViols (r : Raw) (im : Image) : List Viol :=
  let rc := im.hdr.rect
  if 4 < rc.col0 + rc.cols ∨ 4 < rc.row0 + rc.rows then [{}]
  else
    ((im.routerUses r).filter fun u => !rc.hasRouter u.router).map (fun u => u.at_) ++
    im.patNums.flatMap fun p => ((im.occs p).filter fun o => o.occ == 0).flatMap fun o =>
      unless_ ((routePorts im p o).all fun d => !rc.seals o.router d)
        (im.inPattern p { sec := r.secOf tPatterns, tick := o.tick, router := o.router })

/-! ### 0x0A: the fault-map dependency (R108, R257) -/

/-- Stitch columns that an event crosses (R13). -/
def crossesStitch (router port : Nat) : Bool :=
  (routerY router == 63 && port == portS) || (routerY router == 64 && port == portN)

/-- A resource with the place of a use of it. -/
structure Use where
  what : Relied
  at_ : Viol
  deriving DecidableEq, Repr

/-- What an image uses and FAULTDEP lists: routers of events, windows, records and descriptors, clusters of dispatches, stitch
columns that an event crosses, pseudo-channels (R108). -/
def Image.uses (r : Raw) (im : Image) : List Use :=
  let sec := r.secOf tFaultDep
  let rim (x : Nat) (v : Viol) : Use := ⟨.router x, { v with sec := sec, router := x, resource := 0xFFFF }⟩
  let plain : List Nat := (im.slices.map fun e => e.router) ++ (im.trees.flatMap fun t => t.nodes.map fun n => n.1) ++
    (im.folds.flatMap fun f => f.steps.map fun t => t.router) ++ if im.anyChosen then [im.hdr.brRouter] else []
  (plain.map fun x => rim x {}) ++
  (im.eventList.flatMap fun (p, x, e) =>
    let v := im.inPattern p { sec := sec, tick := e.tick }
    [rim x v] ++ (if e.kind = kDispatch then [⟨.cluster x, { v with router := x }⟩] else []) ++
    if (e.kind == kLink || e.kind == kFold) && (meshPorts e.out).any (crossesStitch x) then
      [⟨.stitch (routerX x), { v with resource := routerX x }⟩] else []) ++
  (im.hbm.flatMap fun h => ⟨.pc h.pc, { sec := sec, resource := h.pc }⟩ :: h.cells.flatMap fun c =>
    let v := im.inPattern c.pattern { sec := sec, tick := 8 * c.cell }
    ⟨.pc h.pc, { v with resource := h.pc }⟩ ::
      if c.kind = 1 ∨ c.kind = 2 then [rim (rimRouter (h.pc / 32) c.rim) v] else []) ++
  (im.host.map fun h => rim (routerAt 0 h.row) (im.inPattern h.pattern { tick := h.tick })) ++
  im.lattice.flatMap fun l => (latticeRims l).map fun x => rim x (im.inPattern l.pattern { tick := l.tick })

/-- FAULTDEP lists a resource. -/
def FaultDep.lists (d : FaultDep) : Relied → Bool
  | .router n => bit1 d.routers n
  | .cluster n => bits d.clusters (2 * n) 2 != 0
  | .stitch x => bits d.stitch (2 * x) 2 != 0
  | .pc p => bit1 d.pcs p

/-- FAULT_DEP: a use that the section omits, and a listed resource that the map does not offer, placed at its first use where
the image has one. -/
def dependencyViols (s : State) (r : Raw) (im : Image) : List Viol :=
  let us := im.uses r
  ((us.filter fun u => !im.dep.lists u.what).map fun u => u.at_) ++
  (unmet s.fmap im.dep).map fun w =>
    (firstViol ((us.filter fun u => u.what == w).map fun u => u.at_)).getD (w.viol (r.secOf tFaultDep))

/-! ### 0x0B: tile requirements (R90, R215, R216) -/

/-- The reserved lines of a dispatch. -/
def reservedLines (c : OpClass) (line : Nat) : List Nat :=
  rangeFrom line c.rd ++ rangeFrom (line + c.woff) c.wr

/-- TILE_REQ. -/
def tileViols (s : State) (r : Raw) (im : Image) : List Viol :=
  let q := im.tileReq
  let sec := r.secOf tTileReq
  if (r.sect tTileReq).isNone then []
  else
    ((indexed q.classes).flatMap fun ic =>
      unless_ (ic.2.valid && !((q.classes.take ic.1).any fun d => d.cls == ic.2.cls)) { sec := sec, resource := ic.2.cls }) ++
    (((rangeFrom 0 16).filter fun t => im.hdr.rect.hasTile t && (Tab.get Tile.reset s.tiles.tile t).known).flatMap fun t =>
      let x := Tab.get Tile.reset s.tiles.tile t
      let v : Viol := { sec := sec, router := routerAt (tileOrigin t).1 (tileOrigin t).2 }
      unless_ (x.isOf q) v ++
      q.classes.flatMap fun c => unless_ (x.classes.contains c) { v with resource := c.cls }) ++
    im.patNums.flatMap fun p => ((im.occs p).filter fun o => o.ev.kind == kDispatch).flatMap fun o =>
      let v := im.inPattern p { sec := r.secOf tPatterns, tick := o.tick, router := o.router, resource := o.ev.arg }
      match im.opClass o.ev.arg with
      | none => [v]
      | some c => unless_ ((im.ctxsOf o.ev.ctx).all fun k =>
          (reservedLines c (im.lineOf o.router k o.ev o.occ)).all (im.touched o.router)) { v with resource := 0xFFFF }

/-! ### 0x0F: rim routers (R156, R157) -/

/-- The attachment whose edge port a port names at a router (Table 5.2). -/
def portAttachment (router port : Nat) : Option Nat :=
  if port = portEdge then edgeAttachment router
  else if port = portW ∧ isWestCorner router then some (westAttachment (routerY router))
  else none

/-- The ports at which an event takes or delivers beats: IN, OUT and the second operand of a Fold step. -/
def beatPorts (im : Image) (p : Nat) (o : Occ) : List Nat :=
  let takes := [kLink, kWrite, kScatter, kFold, kUpdate].contains o.ev.kind
  (if takes then [o.ev.inp] else []) ++
  (if o.ev.kind = kLink ∨ o.ev.kind = kFold then (rangeFrom 0 7).filter fun d => bit1 o.ev.out d else []) ++
  (if o.ev.kind = kFold then
    ((im.foldProg o.ev.arg).bind fun f => im.foldStep f p o.router o.index).toList.map fun st => st.second else [])

/-- A WRITE takes the beat that a Sprinkle LINK with the SLICE bit took three ticks before from the same input: the beat
crosses its edge port once (R143, R180). -/
def sameBeat (im : Image) (p : Nat) (o : Occ) : Bool :=
  (o.ev.kind == kWrite || o.ev.kind == kScatter) && (im.occs p).any fun q =>
    q.router == o.router && q.ev.kind == kLink && bit1 q.ev.out portSlice && q.ev.inp == o.ev.inp && q.tick + 3 == o.tick

/-- The edge crossings of a pattern: (attachment, router), one per beat. -/
def crossings (im : Image) (p : Nat) : List (Nat × Nat) :=
  ((im.occs p).filter fun o => !sameBeat im p o).flatMap fun o =>
    (beatPorts im p o).filterMap fun d => (portAttachment o.router d).map fun a => (a, o.router)

/-- Live rim routers of an attachment inside the rectangle. -/
def liveRims (s : State) (im : Image) (a : Nat) : Nat :=
  ((attachmentRouters a).filter fun x => s.fmap.live x && im.hdr.rect.hasRouter x).length

/-- Rows of the host ports (Table 1.5). -/
def hostRow (y : Nat) : Bool := westAttachment y == 9 || westAttachment y == 12

/-- RIM. -/
def rimViols (s : State) (r : Raw) (im : Image) : List Viol :=
  (im.host.flatMap fun h => unless_ (hostRow h.row) (im.inPattern h.pattern
    { sec := r.secOf tHost, tick := h.tick, router := routerAt 0 h.row })) ++
  (im.patNums.flatMap fun p =>
    let xs := crossings im p
    xs.eraseDups.flatMap fun ar =>
      let b := (xs.filter fun x => x.1 == ar.1).length
      unless_ (decide ((xs.filter fun x => x == ar).length ≤ cdiv b 8))
        (im.inPattern p { sec := r.secOf tPatterns, router := ar.2 })) ++
  let xs : List (Nat × Nat) := (im.patNums.flatMap (crossings im)) ++
    (im.host.filter fun (h : HostRec) => hostRow h.row).map fun (h : HostRec) => (westAttachment h.row, routerAt 0 h.row)
  let used : List Nat := (xs.map (fun x => x.1) ++ im.hbm.map (fun (h : PcRec) => h.pc / 32) ++
    im.lattice.map fun (l : LatRec) => latticeAttachment l.port).eraseDups
  (used.flatMap fun a => unless_ (decide (8 ≤ liveRims s im a)) {}) ++
  (rangeFrom 0 4).flatMap fun k =>
    let rows := (xs.filter fun x => x.1 == (if k < 2 then 9 else 12)).map fun x => routerY x.2
    unless_ (rows.isEmpty || !rows.all (fun y => (halfRows k).contains y) || !restricted s (26 + k)) {}

end Sys2Proof.Machine
end

