-- ==== Sys2Proof/Machine/Router.lean ====
section
/-! DEFINITION. Router and slice events of the data mesh: LINK, discarded beats, scheduled reads and writes, index
loads, gathers and scatters (R80, R81, R93, R94, R143, R171). -/

namespace Sys2Proof.Machine

/-- Ticks from the arrival of a beat to the LINK that switches it: one, and four at the destination router of a route that
ends in an attachment, where OUT is one edge port and no tree is named (R143, R146, R180). -/
def linkLag (router : Nat) (e : Event) : Nat :=
  if !e.treeValid && namesEdge router e.out && popcount e.out 8 == 1 then 4 else 1

/-- A beat as it arrives behind an output whose link, or whose pipeline register, inverts bits of it (R117, R145). -/
def noisyBeat (noise : List LinkNoise) (b : Beat) (port : Nat) : Beat :=
  (noise.filter fun n => n.port == port).foldl (fun x n => { x with
    data := x.data ^^^ n.flips.truncate 512, par := x.par ^^^ BitVec.ofNat 8 (n.flips.toNat / 2 ^ 512) }) b

/-- EVENT_LINK: the beat at IN leaves on every output named in OUT (R143, R145, R180). -/
def execEventLink (e : EvRef) (noise : List LinkNoise) (s : State) : Host.Outcome State Fault Refusal :=
  atEvent e kLink s fun rd s1 =>
    let (b, s2) := takeInput rd.part e.router rd.ev.inp rd.ev.out rd.ev.bsel (linkLag e.router rd.ev) s1
    let t := (part s2 rd.part).ptick
    let s3 := updPipe rd.part (sendPorts rd.rect e.router rd.ev.inp rd.ev.out rd.ev.bsel (noisyBeat noise b) t) s2
    emitAll (edgeOutputs e.router rd.ev.out b) s3

/-- The input port of a router comes over a sealed link (R103). -/
def sealedInput (rc : Rect) (router port : Nat) : Bool := decide (port < 4) && rc.seals router port

/-- The event has an occurrence at a tick offset (R121). -/
def Event.fallsAt (e : Event) (t : Nat) : Bool :=
  if e.stride = 0 then t == e.tick
  else decide (e.tick ≤ t) && decide ((t - e.tick) % e.stride = 0) && decide ((t - e.tick) / e.stride ≤ e.rep)

/-- The input registers that an event names, each with the ticks from the arrival of its beat to the event (R143, R146,
R182). -/
def namedInputs (im : Image) (pattern router n : Nat) (e : Event) : List (Nat × Nat) :=
  if e.kind = kLink then [(inputReg router e.inp e.out e.bsel, linkLag router e)]
  else if e.kind = kWrite ∨ e.kind = kScatter then [(inputReg router e.inp 0 e.bsel, 4)]
  else if e.kind = kUpdate then [(inputReg router e.inp 0 e.bsel, 1)]
  else if e.kind = kFold then
    match (im.foldProg e.arg).bind fun p => im.foldStep p pattern router n with
    | some st => [(inputReg router st.first e.out e.bsel, 1), (inputReg router st.second e.out e.bsel, 1)]
    | none => []
  else []

/-- Some event of a pattern takes the beat that stands in an input register, at a tick offset of its frame. -/
def namedAt (im : Image) (pattern router reg now base : Nat) : Bool :=
  let es := im.events pattern router
  (rangeFrom 0 es.length).any fun n => match es[n]? with
    | none => false
    | some e => (namedInputs im pattern router n e).any fun x =>
        x.1 == reg && decide (base ≤ now + x.2) && decide (now + x.2 < base + 4096) && e.fallsAt (now + x.2 - base)

/-- An event names the input in the tick that is due: of the frame that executes, or of a frame that may follow it when
that tick lies beyond the frame's end (R143). -/
def inputNamed (s : State) (k router reg : Nat) : Bool :=
  let p := part s k
  match boundImage s p with
  | none => false
  | some im =>
    ((currentPattern im p).any fun pat => namedAt im pat router reg (frameOffset s) 0) ||
    (decide (4092 ≤ frameOffset s) &&
      (rangeFrom 0 im.patterns.length).any fun pat => namedAt im pat router reg (frameOffset s) 4096)

/-- BEAT_DISCARD: a valid beat that arrived in the present tick on an input that no event names is dropped; unless
the link is sealed it is counted and reported as a data-path breach (R143, R171). -/
def execBeatDiscard (router port : Nat) (s : State) : Host.Outcome State Fault Refusal :=
  match partOf s router with
  | none => .next s
  | some k =>
    let p := part s k
    if (inputBeat p.pipe router port p.ptick).valid && !inputNamed s k router port then
      let s1 := updPipe k (fun q => { q with arrivals := q.arrivals.filter fun a =>
        !(a.router == router && a.port == port && a.at_ == p.ptick) }) s
      if sealedInput (rect s k) router port then .next s1
      else .next (dataPathBreach 0x4004 router { s1 with buf := { s1.buf with
        discards := Tab.upd 0 s1.buf.discards router fun n => n + 1 } })
    else .next s

/-- SCHEDULED_READ: one line through the scheduled port, or from the merge stage for a follower (R81, R163,
R175). -/
def execScheduledRead (e : EvRef) (s : State) : Host.Outcome State Fault Refusal :=
  atEvent e kRead s fun rd s1 =>
    readInto rd.part e.router (rd.line e) rd.ev.ctx true
      (leaderOf (part s1 rd.part) e.router (rd.line e) rd.ev.ctx) s1

/-- Write a beat taken from IN four ticks after its arrival; an idle beat leaves the line unchanged, is counted and is the
breach IDLE_OPERAND. For R175 the event counts for the lines [lo, lo + n) either way (R79, R143, R146). -/
def writeFrom (rd : Ready) (router line lo n : Nat) (mask : LineMask) (s : State) : State :=
  let (b, s1) := takeInput rd.part router rd.ev.inp 0 rd.ev.bsel 4 s
  if b.valid then noteWrite rd.part router lo n (some line) false (schedWrite router line b mask s1)
  else noteWrite rd.part router lo n none false (dataPathBreach 0x4009 router (countIdleOp router s1))

/-- SCHEDULED_WRITE: the beat at IN is written to LINE under the byte mask that ARG names (R80, R164). -/
def execScheduledWrite (e : EvRef) (s : State) : Host.Outcome State Fault Refusal :=
  atEvent e kWrite s fun rd s1 =>
    writeFrom rd e.router (rd.line e) (rd.line e) 1 (BitVec.ofNat 64 (rd.image.mask rd.ev.arg)) s1

/-- INDEX_LOAD: the index line of window ARG supplies the entries of the window's next 32 slots (R93). -/
def execIndexLoad (e : EvRef) (s : State) : Host.Outcome State Fault Refusal :=
  atEvent e kIndexLoad s fun rd s1 =>
    match rd.image.window e.router rd.ev.arg with
    | none => s1
    | some w =>
      let line := w.indexLine + if w.ctx then rd.image.ctxBase e.router rd.ctx else 0
      let (b, s2) := portRead rd.part e.router line false false s1
      { s2 with buf := { s2.buf with
        index := Tab.set IndexState.none s2.buf.index (windowKey e.router w.id) ⟨b.data, 0⟩ } }

/-- GATHER: the line that the next index entry names goes to the router, or 64 zero bytes when the access is
suppressed (R94, R177). -/
def execGather (e : EvRef) (s : State) : Host.Outcome State Fault Refusal :=
  atEvent e kGather s fun rd s1 =>
    match rd.image.window e.router rd.ev.arg with
    | none => s1
    | some w =>
      let key := windowKey e.router w.id
      let st := Tab.get IndexState.none s1.buf.index key
      match indexEntry rd.image e.router rd.ctx w st with
      | .line l =>
        readInto rd.part e.router l w.ctx false (mergeOf (part s1 rd.part) e.router l) (useEntry key false rd.part s1)
      | .suppressed c =>
        updPart rd.part (fun p => { p with pipe := arrive e.router portSlice (Beat.of 0 false) (p.ptick + 2) p.pipe })
          (useEntry key c rd.part s1)

/-- SCATTER: the beat at IN is written to the line that the next index entry names, or nowhere when the access is
suppressed; for R175 it counts as a write of its whole range (R94, R95, R175). -/
def execScatter (e : EvRef) (s : State) : Host.Outcome State Fault Refusal :=
  atEvent e kScatter s fun rd s1 =>
    match rd.image.window e.router rd.ev.arg with
    | none => s1
    | some w =>
      let key := windowKey e.router w.id
      let lo := w.base + if w.ctx then rd.image.ctxBase e.router rd.ctx else 0
      match indexEntry rd.image e.router rd.ctx w (Tab.get IndexState.none s1.buf.index key) with
      | .line l => writeFrom rd e.router l lo (w.sizeM1 + 1) fullMask (useEntry key false rd.part s1)
      | .suppressed c => noteWrite rd.part e.router lo (w.sizeM1 + 1) none false (useEntry key c rd.part s1)

end Sys2Proof.Machine
end

