-- ==== Sys2Proof/Machine/ImgFlow.lean ====
section
/-! DEFINITION. The flow checks of an image: every resource held, every beat in flight and every edge port, in every frame
and across every succession (R77, R125, R142 to R148, R175, R180, R184, R214 to R216, R245, R257; codes 0x0C, 0x0D, 0x12
and 0x14). -/

namespace Sys2Proof.Machine

/-! ### Frames and successions (R75, R77, R99, R125) -/

/-- A frame: variant and frame number; variant 8 is the idle frame, and (256 + p, 0) is a frame of pattern p, which no
frame of the image uses: R125 validates those patterns too. -/
abbrev Frm := Nat × Nat

/-- The idle frame. -/
def idleFrm : Frm := (8, 0)

/-- Frames that the runs of a variant give, whatever FRAMES holds (R125). -/
def Variant.len (v : Variant) : Nat := v.runs.foldl (fun a r => a + (r.countM1 + 1)) 0

/-- Length of variant v; 0 when the image lacks it. -/
def Image.lenOf (im : Image) (v : Nat) : Nat := (im.variants[v]?.map Variant.len).getD 0

/-- Every frame of every variant, and the idle frame. -/
def Image.frames (im : Image) : List Frm :=
  (indexed im.variants).flatMap (fun iv => (rangeFrom 0 iv.2.len).map fun f => (iv.1, f)) ++ [idleFrm]

/-- The patterns that no frame uses, each in a frame of its own. -/
def Image.unused (im : Image) : List Frm :=
  (im.patNums.filter fun p => (im.firstUse p).isNone).map fun p => (256 + p, 0)

/-- Every frame that validation examines (R125). -/
def Image.allFrames (im : Image) : List Frm := im.frames ++ im.unused

/-- Where a report places a frame: VARIANT and FRAME; 0xFF and all ones for an unused pattern (R125). -/
def place (x : Frm) : Frm := if 256 ≤ x.1 then (0xFF, 0xFFFFFFFF) else x

/-- The pattern of a frame. -/
def Image.patOf (im : Image) (x : Frm) : Nat :=
  if 256 ≤ x.1 then x.1 - 256 else if x.1 = 8 then im.hdr.idlePattern else (im.patternAt x.1 x.2).getD 0

/-- The frame is the last of its variant. -/
def Image.isLast (im : Image) (x : Frm) : Bool := x.1 != 8 && x.2 + 1 == im.lenOf x.1

/-- Variants that may follow a variant: its fixed successor or its set, where the image contains them. -/
def Image.followers (im : Image) (v : Nat) : List Nat := match im.variants[v]? with
  | none => []
  | some x =>
    (if x.chosen then (rangeFrom 0 8).filter fun w => bit1 x.set w else [x.next]).filter fun w =>
      decide (w < im.variants.length)

/-- Frames that follow a frame within its run. -/
def Image.inRun (im : Image) (x : Frm) : List Frm :=
  if 8 ≤ x.1 then []
  else if im.isLast x then ((im.followers x.1).filter fun w => decide (0 < im.lenOf w)).map fun w => (w, 0)
  else [(x.1, x.2 + 1)]

/-- The yield frames. -/
def Image.yieldFrames (im : Image) : List Frm := im.frames.filter fun x => im.isYield x.1 x.2

/-- Frames on which a run may start or resume: frame 0 of variant 0 and those that follow a yield frame. -/
def Image.starts (im : Image) : List Frm :=
  ((if 0 < im.lenOf 0 then [(0, 0)] else []) ++ im.yieldFrames.flatMap im.inRun).eraseDups

/-- Frames that can be run frame n on some path from the start. -/
def Image.runFrames (im : Image) : Nat → List Frm
  | 0 => if 0 < im.lenOf 0 then [(0, 0)] else []
  | n + 1 => ((im.runFrames n).flatMap im.inRun).eraseDups

/-- Frames at whose end a run can end: the last of a variant that can end the run or whose successor is chosen, and
those that can be run frame M − 1. -/
def Image.canEnd (im : Image) (x : Frm) : Bool :=
  (im.isLast x && ((im.variants[x.1]?.map fun v => v.chosen || v.next == 8).getD false)) ||
  (im.runFrames (im.hdr.budget - 1)).contains x

/-- The successions from a frame, each with whether it stays in one run (R125); none from an unused pattern. -/
def Image.nexts (im : Image) (x : Frm) : List (Frm × Bool) :=
  let other := (im.starts.map fun y => (y, false))
  if 256 ≤ x.1 then []
  else if x.1 = 8 then (idleFrm, false) :: other
  else
    (im.inRun x).map (fun y => (y, true)) ++
    (if im.canEnd x then (idleFrm, false) :: other else []) ++
    (if im.isYield x.1 x.2 then other else [])

/-- The successions into a frame. -/
def Image.preds (im : Image) (x : Frm) : List (Frm × Bool) :=
  im.frames.flatMap fun y => ((im.nexts y).filter fun e => e.1 == x).map fun e => (y, e.2)

/-- The frames that may lead to a frame, n back: lists that begin with the frame itself. A frame that nothing can precede
starts from an empty state. -/
def Image.histories (im : Image) : Nat → Frm → List (List Frm)
  | 0, x => [[x]]
  | n + 1, x =>
    if (im.preds x).isEmpty then [[x]]
    else (im.preds x).flatMap fun y => (im.histories n y.1).map fun h => x :: h

/-! ### Resources (Table 3.2) -/

/-- A resource instance. A bypass direction is named by the router and input register that it feeds. -/
inductive Res
  | link (router dir : Nat)
  | bypass (router reg : Nat)
  | edgeOut (router port : Nat)
  | edgeIn (router port : Nat)
  | slice (router : Nat)
  | dispatch (router : Nat)
  | adder (router : Nat)
  | generator (router : Nat)
  | down (router : Nat)
  | up (router : Nat)
  deriving DecidableEq, Repr

/-- Lines that a slice access may touch: first line, count, relocated by the context. -/
structure Lines where
  first : Nat
  n : Nat
  ctx : Bool
  deriving DecidableEq, Repr

/-- A resource held on a tick: where a report places it, the lines written for a slice write. -/
structure Hold where
  tick : Nat
  res : Res
  router : Nat
  port : Nat
  writes : Option Lines
  deriving DecidableEq, Repr

/-- A beat that stands in an input register from a tick on; `certain` is false where only the run decides whether the
compressor presents it. -/
structure Landing where
  tick : Nat
  router : Nat
  reg : Nat
  certain : Bool
  deriving DecidableEq, Repr

/-- What an event does with the beat it takes. -/
inductive Role
  | pass
  | branch
  | write
  | fold
  | update
  deriving DecidableEq, Repr

/-- An event takes a beat from a register, `lag` ticks after it landed. -/
structure Take where
  tick : Nat
  lag : Nat
  router : Nat
  reg : Nat
  role : Role
  deriving DecidableEq, Repr

/-- A READ event: tick, router and line. -/
structure ReadAt where
  tick : Nat
  router : Nat
  line : Lines
  deriving DecidableEq, Repr

/-- A beat that leaves or may leave through an edge port. -/
structure EdgeUse where
  tick : Nat
  router : Nat
  port : Nat
  deriving DecidableEq, Repr

/-- One use of a Sprinkle tree at a router: the tick it switches, the register it takes and the registers it feeds. -/
structure TreeUse where
  tick : Nat
  router : Nat
  tree : Nat
  reg : Nat
  feeds : List (Nat × Nat)
  deriving DecidableEq, Repr

/-- A beat handed on: the tick of the event, the register it takes, the tick and registers it reaches; the step of a Fold
program (program, number, and the registers of its operands) that makes it. -/
structure Move where
  tick : Nat
  router : Nat
  reg : Nat
  reach : Nat
  feeds : List (Nat × Nat)
  step : Option (Nat × Nat × List Nat)
  deriving DecidableEq, Repr

/-- What one frame pattern holds and moves, in ticks from the frame's start. -/
structure Flow where
  holds : List Hold
  lands : List Landing
  takes : List Take
  reads : List ReadAt
  gives : List EdgeUse
  accepts : List EdgeUse
  uses : List TreeUse
  moves : List Move
  /-- events that name a port against R142, R147, R148 or Table 5.2: tick, router, port -/
  illegal : List (Nat × Nat × Nat)
  deriving DecidableEq, Repr

/-- Nothing. -/
def Flow.empty : Flow := ⟨[], [], [], [], [], [], [], [], []⟩

/-- Two flows together. -/
def Flow.add (a b : Flow) : Flow :=
  ⟨a.holds ++ b.holds, a.lands ++ b.lands, a.takes ++ b.takes, a.reads ++ b.reads, a.gives ++ b.gives,
   a.accepts ++ b.accepts, a.uses ++ b.uses, a.moves ++ b.moves, a.illegal ++ b.illegal⟩

/-- A list of flows together. -/
def Flow.sum (l : List Flow) : Flow := l.foldr Flow.add Flow.empty

/-! ### Ports (R142, R147, R148, Table 5.2) -/

/-- An input port that an event may name; `outs` decides what BYPASS means. -/
def inputLegal (router inp outs : Nat) (bsel : Bool) : Bool :=
  if inp = portSlice then true
  else if isEdgePort router inp then (portAttachment router inp).isSome
  else if inp < 4 then (neighbour router inp).isSome
  else if inp = portBypass then
    if isWestCorner router ∨ bit1 outs portEdge then
      -- its own bypass: to the edge port alone
      (edgeAttachment router).isSome && (rangeFrom 0 7).all (fun d => !bit1 outs d || isEdgePort router d) && namesEdge router outs
    else (bypassOutward router bsel).isSome
  else false

/-- An output port that an event may name. -/
def outputLegal (router port inp outs : Nat) (bsel : Bool) : Bool :=
  if isEdgePort router port then (portAttachment router port).isSome
  else if port = portBypass then
    inp != portBypass && (linkTarget router port inp outs bsel).isSome &&
    (!(isWestCorner router || bit1 outs portEdge) || isEdgePort router inp)
  else if port < 4 then (linkTarget router port inp outs bsel).isSome
  else port == portSlice

/-- BSEL is 0 but at the two routers that receive two bypasses (R148). DESIGN CHOICE (log entry 11): a BSEL of 1 elsewhere
is reported as ROUTE (0x0C), a bypass named against Table 5.2, and not as RESERVED_VALUE. -/
def bselLegal (router : Nat) (bsel : Bool) : Bool := !bsel || router == routerAt 1 1 || router == routerAt 1 126

/-! ### What an occurrence holds and moves -/

/-- A beat switched to an output on tick d. -/
def sendFlow (router port inp outs : Nat) (bsel : Bool) (d : Nat) : Flow :=
  if isEdgePort router port then
    { Flow.empty with holds := [⟨d, .edgeOut router port, router, port, none⟩], gives := [⟨d, router, port⟩] }
  else match linkTarget router port inp outs bsel with
    | none => Flow.empty
    | some (m, reg) =>
      let res : Res := if port = portBypass then .bypass m reg else .link router port
      { Flow.empty with holds := [⟨d, res, router, port, none⟩], lands := [⟨d, m, reg, true⟩] }

/-- Every output of a mask. -/
def sendMask (router inp outs : Nat) (bsel : Bool) (d : Nat) : Flow :=
  Flow.sum (((rangeFrom 0 7).filter fun p => bit1 outs p).map fun p => sendFlow router p inp outs bsel d)

/-- A beat taken from an input. -/
def takeFlow (o : Occ) (port outs lag : Nat) (role : Role) : Flow :=
  { Flow.empty with
    takes := [⟨o.tick, lag, o.router, inputReg o.router port outs o.ev.bsel, role⟩]
    illegal := if inputLegal o.router port outs o.ev.bsel then [] else [(o.tick, o.router, port)] }

/-- A slice access on a tick. -/
def sliceFlow (tick router : Nat) (writes : Option Lines) : Flow :=
  { Flow.empty with holds := [⟨tick, .slice router, router, portSlice, writes⟩] }

/-- Outputs that the event may not name. -/
def illegalOuts (o : Occ) : Flow :=
  { Flow.empty with illegal := ((rangeFrom 0 7).filter fun p => bit1 o.ev.out p &&
      !outputLegal o.router p o.ev.inp o.ev.out o.ev.bsel).map fun p => (o.tick, o.router, p) }

/-- The registers that a mask feeds. -/
def feedsOf (router inp outs : Nat) (bsel : Bool) : List (Nat × Nat) :=
  ((rangeFrom 0 7).filter fun p => bit1 outs p && !isEdgePort router p).filterMap fun p =>
    linkTarget router p inp outs bsel

/-- The use of the tree that an event names. -/
def treeFlow (o : Occ) (tick reg : Nat) : Flow :=
  if o.ev.treeValid then
    { Flow.empty with uses := [⟨tick, o.router, o.ev.tree, reg, feedsOf o.router o.ev.inp o.ev.out o.ev.bsel⟩] }
  else Flow.empty

/-- LINK (R143, R146, R180). -/
def linkFlow (o : Occ) : Flow :=
  let e := o.ev
  let slice := bit1 e.out portSlice
  let bad := e.out == 0 || bit1 e.out portFold
  Flow.sum
    [takeFlow o e.inp e.out (linkLag o.router e) (if slice then .branch else if linkLag o.router e = 4 then .write else .pass),
     sendMask o.router e.inp e.out e.bsel o.tick, illegalOuts o,
     treeFlow o o.tick (inputReg o.router e.inp e.out e.bsel),
     { Flow.empty with
       moves := [⟨o.tick, o.router, inputReg o.router e.inp e.out e.bsel, o.tick, feedsOf o.router e.inp e.out e.bsel, none⟩]
       illegal := if bad then [(o.tick, o.router, e.inp)] else [] }]

/-- The step that a FOLD event matches, with its number in the program (R186). -/
def Image.stepAt (im : Image) (p : Nat) (o : Occ) : Option (FoldStepRec × Nat) :=
  (im.foldProg o.ev.arg).bind fun f =>
    let k := (((im.events p o.router).take o.index).filter fun e => e.kind == kFold && e.arg == f.id).length
    (((indexed f.steps).filter fun x => x.2.router == o.router)[k]?).map fun x => (x.2, x.1)

/-- FOLD (R182, R184): the result leaves at τ + 2, a SLICE result stands for the WRITE at τ + 5. -/
def foldFlow (im : Image) (p : Nat) (o : Occ) : Flow :=
  let e := o.ev
  let st := im.stepAt p o
  let ops : List Nat := match st with
    | some x => [x.1.first, x.1.second]
    | none => [e.inp]
  let regs := (ops.filter fun x => x != portFold).map fun x => inputReg o.router x e.out e.bsel
  Flow.sum
    ([{ Flow.empty with
        holds := [⟨o.tick, .adder o.router, o.router, portFold, none⟩]
        lands := if bit1 e.out portSlice then [⟨o.tick + 1, o.router, portFold, true⟩] else []
        moves := match st with
          | some x => [⟨o.tick, o.router, portFold, o.tick + 2, feedsOf o.router e.inp e.out e.bsel, some (e.arg, x.2, regs)⟩]
          | none => [] },
      treeFlow o (o.tick + 2) portFold,
      sendMask o.router e.inp e.out e.bsel (o.tick + 2), illegalOuts o] ++
     (ops.filter fun x => x != portFold).map fun x => takeFlow o x e.out 1 .fold)

/-- DISPATCH (R214, R216, R245): the channel, the slice reads and writes, the DN and UP groups. -/
def dispatchFlow (im : Image) (o : Occ) : Flow :=
  let e := o.ev
  let t := o.tick
  let r := o.router
  match im.opClass e.arg with
  | none => Flow.empty
  | some c =>
    let half := bits im.dep.clusters (2 * r) 2 == 1
    let step := if half then 2 else 1
    let first := t + c.latency + if half then c.rd + 1 else 0
    let lead := if half then 3 else 2
    let hold (res : Res) (k : Nat) : Hold := ⟨k, res, r, 0xFFFF, none⟩
    let beats (res : Res) (t0 n : Nat) : List Hold := (rangeFrom 0 n).flatMap fun k =>
      (rangeFrom 0 step).map fun h => hold res (t0 + step * k + h)
    { Flow.empty with
      holds := hold (.dispatch r) t ::
        ((rangeFrom 0 c.rd).map (fun k => ⟨t + 1 + step * k, .slice r, r, portSlice, none⟩) ++
         (rangeFrom 0 c.wr).map (fun k =>
           ⟨first + step * k, .slice r, r, portSlice, some ⟨o.line + c.woff + k, 1, e.ctx⟩⟩) ++
         beats (.down r) (t + 3) c.rd ++ beats (.up r) (first - lead) c.wr) }

/-- UPDATE (Table 15.5). -/
def updateFlow (im : Image) (o : Occ) : Flow :=
  let t := o.tick
  let l (k : Nat) : Option Lines := some ⟨o.line + k, 1, o.ev.ctx⟩
  match im.trainDesc o.ev.arg with
  | none => Flow.empty
  | some d =>
    let copy := d.op == 3 && d.outfmt != 0
    let gen (k : Nat) : Hold := ⟨k, .generator o.router, o.router, 0xFFFF, none⟩
    Flow.sum
      [sliceFlow t o.router none, sliceFlow (t + 1) o.router none, sliceFlow (t + 2) o.router (l 0),
       sliceFlow (t + 3) o.router (l 1), if copy then sliceFlow (t + 4) o.router (l 2) else Flow.empty,
       { Flow.empty with holds := if d.op == 3 && d.outfmt == 1 then [gen (t + 2), gen (t + 3)] else [] },
       if o.ev.inp = portFold then Flow.empty else takeFlow o o.ev.inp 0 1 .update]

/-- One occurrence of pattern p. -/
def occFlow (im : Image) (p : Nat) (o : Occ) : Flow :=
  let e := o.ev
  let t := o.tick
  let r := o.router
  let win := im.window r e.arg
  let range : Option Lines := win.map fun w => ⟨w.base, w.sizeM1 + 1, w.ctx⟩
  let own : Flow := match e.kind with
    | 1 => linkFlow o
    | 2 => { Flow.empty with reads := [⟨t, r, ⟨o.line, 1, e.ctx⟩⟩], lands := [⟨t + 2, r, portSlice, true⟩] }
    | 3 => (sliceFlow t r (some ⟨o.line, 1, e.ctx⟩)).add
        (if e.inp = portFold then { Flow.empty with takes := [⟨t, 4, r, portFold, .write⟩] } else takeFlow o e.inp 0 4 .write)
    | 4 => sliceFlow t r none
    | 5 => (sliceFlow t r none).add { Flow.empty with lands := [⟨t + 2, r, portSlice, true⟩] }
    | 6 => (sliceFlow t r range).add (takeFlow o e.inp 0 4 .write)
    | 7 => dispatchFlow im o
    | 8 => foldFlow im p o
    | 9 =>
      let g : Flow := { Flow.empty with holds := [⟨t, .generator r, r, 0xFFFF, none⟩] }
      g.add (if bit1 e.out portSlice then sliceFlow (t + 3) r (some ⟨o.line, 1, e.ctx⟩) else Flow.empty)
    | _ => updateFlow im o
  if bselLegal r e.bsel then own else own.add { Flow.empty with illegal := [(t, r, portBypass)] }

/-! ### What a record holds and moves (R146, R278, R479, R480) -/

/-- A beat presented into an edge port on tick t. -/
def presentFlow (router t : Nat) : Flow :=
  { Flow.empty with holds := [⟨t, .edgeIn router portEdge, router, portEdge, none⟩], lands := [⟨t + 2, router, portEdge, true⟩] }

/-- A beat accepted from an edge port on tick t. -/
def acceptFlow (router t : Nat) : Flow := { Flow.empty with accepts := [⟨t, router, portEdge⟩] }

/-- A window of a cell record. -/
def cellFlow (h : PcRec) (c : CellRec) : Flow :=
  let r := rimRouter (h.pc / 32) c.rim
  Flow.sum ((rangeFrom 0 (c.cellsM1 + 1)).flatMap fun m => (rangeFrom 0 3).map fun j =>
    let t := 8 * (c.cell + m) + 3 * j
    match c.kind with
    | 1 => presentFlow r (t + 40)
    | 2 => acceptFlow r t
    | _ => Flow.empty)

/-- A host transfer record; nothing stands behind a row of no host port. -/
def hostFlow (h : HostRec) : Flow :=
  if !hostRow h.row then Flow.empty
  else Flow.sum ((rangeFrom 0 (h.beatsM1 + 1)).map fun j =>
    let r := routerAt 0 h.row
    if h.dir = 0 then presentFlow r (h.tick + j) else acceptFlow r (h.tick + j))

/-- The rim router of dense beat i of a port's window. -/
def denseRim (port i : Nat) : Nat := routerAt 127 (latticeRow0 port + i % 10)

/-- A window record: the beats that its count names are certain; an incoming window may present more when its
descriptor expands it (R196, R480). -/
def latticeFlow (l : LatRec) : Flow :=
  let n := l.beatsM1 + 1
  if l.dir = 0 then Flow.sum ((rangeFrom 0 n).map fun i => acceptFlow (denseRim l.port i) (l.tick + i / 2))
  else
    Flow.sum ((rangeFrom 0 n).map fun i => presentFlow (denseRim l.port i) (l.tick + i / 2)) |>.add
      { Flow.empty with lands := (rangeFrom n (2 * (4096 - l.tick) - n)).map fun i =>
          ⟨l.tick + i / 2 + 2, denseRim l.port i, portEdge, false⟩ }

/-- The edge port belongs to a Lattice port. -/
def isLatticeEdge (u : EdgeUse) : Bool := match portAttachment u.router u.port with
  | some a => decide (14 ≤ a)
  | none => false

/-- Residual beats that the compressor may return for the beats that enter it (R195). -/
def residualFlow (f : Flow) : Flow :=
  { f with lands := f.lands ++ (f.gives.filter isLatticeEdge).map fun g => ⟨g.tick + 47, g.router, g.port, false⟩ }

/-- Everything that pattern p holds and moves. -/
def patternFlow (im : Image) (p : Nat) : Flow :=
  residualFlow (Flow.sum
    ((im.occs p).map (occFlow im p) ++
     im.hbm.flatMap (fun h => (h.cells.filter fun c => c.pattern == p).map (cellFlow h)) ++
     (im.host.filter fun h => h.pattern == p).map hostFlow ++
     (im.lattice.filter fun l => l.pattern == p).map latticeFlow))

/-! ### A frame behind its history -/

/-- A flow that began n frames earlier: what still lies ahead, with ticks from the present frame's start. Ticks are kept
4,096 above zero, so that what landed late in the frame before stays visible. -/
def Flow.shift (f : Flow) (n : Nat) : Flow :=
  let keep (t : Nat) : Bool := decide (4096 * n ≤ t + 4096)
  let s (t : Nat) : Nat := t + 4096 - 4096 * n
  { holds := (f.holds.filter fun x => keep x.tick).map fun x => { x with tick := s x.tick }
    lands := (f.lands.filter fun x => keep x.tick).map fun x => { x with tick := s x.tick }
    takes := (f.takes.filter fun x => keep x.tick).map fun x => { x with tick := s x.tick }
    reads := (f.reads.filter fun x => keep x.tick).map fun x => { x with tick := s x.tick }
    gives := (f.gives.filter fun x => keep x.tick).map fun x => { x with tick := s x.tick }
    accepts := (f.accepts.filter fun x => keep x.tick).map fun x => { x with tick := s x.tick }
    uses := (f.uses.filter fun x => keep x.tick).map fun x => { x with tick := s x.tick }
    moves := (f.moves.filter fun x => keep x.tick).map fun x => { x with tick := s x.tick, reach := s x.reach }
    illegal := [] }

/-- The flows of a history together: the present frame begins at tick 4,096. -/
def historyFlow (flows : List Flow) (pats : List Nat) : Flow :=
  Flow.sum ((indexed pats).map fun ip => (flows[ip.2]?.getD Flow.empty).shift ip.1)

/-- A tick of the present frame. -/
def present (t : Nat) : Bool := decide (4096 ≤ t) && decide (t < 8192)

/-- Two sets of lines may meet in some context (R123). -/
def linesMeet (im : Image) (router : Nat) (a b : Lines) : Bool :=
  (im.ctxsOf (a.ctx || b.ctx)).any fun c =>
    let x := a.first + if a.ctx then im.ctxBase router c else 0
    let y := b.first + if b.ctx then im.ctxBase router c else 0
    decide (x < y + b.n) && decide (y < x + a.n)

/-- The array reads among the READ events of the present frame, in tick order: a READ that an earlier array read of the
same line leads, within three ticks and without a write between, holds no port (R175, R202). -/
def arrayReads (im : Image) (f : Flow) : List ReadAt → List ReadAt → List ReadAt
  | acc, [] => acc
  | acc, x :: t =>
    let led := acc.any fun y => y.router == x.router && y.line == x.line && decide (y.tick < x.tick) &&
      decide (x.tick ≤ y.tick + 3) && !(f.holds.any fun h => h.res == .slice x.router &&
        decide (y.tick < h.tick) && decide (h.tick ≤ x.tick) &&
        ((h.writes.map fun w => linesMeet im x.router w x.line) == some true))
    arrayReads im f (if led then acc else x :: acc) t

/-- Put a read in tick order. -/
def insertRead (x : ReadAt) : List ReadAt → List ReadAt
  | [] => [x]
  | y :: t => if x.tick ≤ y.tick then x :: y :: t else y :: insertRead x t

/-- The resources held in the present frame, the array reads of its READ events among them. -/
def presentHolds (im : Image) (f : Flow) : List Hold :=
  let rs := (f.reads.filter fun x => present x.tick).foldr insertRead []
  f.holds ++ (arrayReads im f [] rs).map fun x => ⟨x.tick, .slice x.router, x.router, portSlice, none⟩

/-- The roles under which the events of a flow take a landing. -/
def rolesOf (f : Flow) (l : Landing) : List Role :=
  (f.takes.filter fun t => t.router == l.router && t.reg == l.reg && t.tick == l.tick + t.lag).map fun t => t.role

/-- A beat is named exactly once, or by a Sprinkle branch and its WRITE (R142, R143, R171, R180). -/
def rolesOk (l : List Role) : Bool := match l with
  | [.pass] => true
  | [.write] => true
  | [.fold] => true
  | [.update] => true
  | [.branch, .write] => true
  | [.write, .branch] => true
  | _ => false

/-! ### Violations of a frame -/

/-- A frame with one of its histories, and the flow of both. -/
structure Scene where
  frm : Frm
  flow : Flow
  deriving DecidableEq, Repr

/-- A place in the present frame of a scene. -/
def Scene.at_ (x : Scene) (sec t router resource : Nat) : Viol :=
  ⟨sec, (place x.frm).1, (place x.frm).2, if t < 4096 then 0 else min (t - 4096) 4095, router, resource⟩

/-- ROUTE: a take without a landing, a landing that nothing names rightly, an edge port used without a record, a record
without a beat, and a degraded crossing held in two consecutive ticks. -/
def routeAt (im : Image) (sec : Nat) (x : Scene) : List Viol :=
  let f := x.flow
  (f.takes.filter fun t => present t.tick).flatMap (fun t =>
    unless_ (f.lands.any fun l => l.router == t.router && l.reg == t.reg && l.tick + t.lag == t.tick)
      (x.at_ sec t.tick t.router t.reg)) ++
  (f.lands.filter fun l => l.certain && present (l.tick + 4) && !(rolesOf f l).contains .fold).flatMap (fun l =>
    unless_ (rolesOk (rolesOf f l)) (x.at_ sec (l.tick + 1) l.router l.reg)) ++
  (f.gives.filter fun g => present g.tick && !isLatticeEdge g).flatMap (fun g =>
    unless_ (f.accepts.contains g) (x.at_ sec g.tick g.router g.port)) ++
  (f.accepts.filter fun g => present g.tick).flatMap (fun g =>
    unless_ (f.gives.contains g) (x.at_ sec g.tick g.router g.port)) ++
  f.holds.flatMap fun h => match h.res with
    | .link r d =>
      unless_ (!(present h.tick && crossesStitch r d && bits im.dep.stitch (2 * routerX r) 2 == 1 &&
        f.holds.any fun g => g.res == h.res && g.tick + 1 == h.tick)) (x.at_ sec h.tick r d)
    | _ => []

/-- TWO_WRITER: two holders of one resource in one tick, or two lines delivered into the router in one tick. -/
def twoWriterAt (im : Image) (sec : Nat) (x : Scene) : List Viol :=
  let hs := (presentHolds im x.flow).filter fun h => present h.tick
  (hs.filter fun h => decide (1 < (hs.filter fun g => g.tick == h.tick && g.res == h.res).length)).map
    (fun h => x.at_ sec h.tick h.router h.port) ++
  (x.flow.lands.filter fun l => l.reg == portSlice && present l.tick &&
    decide (1 < (x.flow.lands.filter fun m => m.tick == l.tick && m.router == l.router && m.reg == portSlice).length)).map
    fun l => x.at_ sec l.tick l.router portSlice

/-- FOLD: an operand register that another event of the tick names too (R182). -/
def sharedOperandAt (sec : Nat) (x : Scene) : List Viol :=
  (x.flow.lands.filter fun l => present (l.tick + 4)).flatMap fun l =>
    let rs := rolesOf x.flow l
    unless_ (!rs.contains .fold || rs.length == 1) (x.at_ sec (l.tick + 1) l.router l.reg)

/-- BRANCH: the branch slice's port at tick 3,968 of the last frame of a variant whose successor is chosen (R97). -/
def branchAt (im : Image) (sec : Nat) (x : Scene) : List Viol :=
  let br := im.hdr.brRouter
  if im.isLast x.frm && ((im.variants[x.frm.1]?.map fun v => v.chosen).getD false) then
    unless_ (!((presentHolds im x.flow).any fun h => h.tick == 4096 + 3968 && h.res == .slice br))
      (x.at_ sec (4096 + 3968) br portSlice)
  else []

/-- YIELD: something is held or in flight behind a yield boundary, or a Fold step completes behind it, into the
accumulator too (R100). -/
def yieldAt (im : Image) (sec : Nat) (x : Scene) : List Viol :=
  if im.isYield x.frm.1 x.frm.2 then
    ((x.flow.holds.filter fun h => decide (8192 ≤ h.tick)).map fun h => (⟨sec, x.frm.1, x.frm.2, 0xFFFF, h.router, 0xFFFF⟩ : Viol)) ++
    ((x.flow.accepts.filter fun h => decide (8192 ≤ h.tick)).map fun h => ⟨sec, x.frm.1, x.frm.2, 0xFFFF, h.router, 0xFFFF⟩) ++
    ((x.flow.moves.filter fun m => m.step.isSome && decide (8192 ≤ m.reach)).map fun m =>
      ⟨sec, x.frm.1, x.frm.2, 0xFFFF, m.router, 0xFFFF⟩) ++
    (x.flow.lands.filter fun l => l.certain && decide (8192 ≤ l.tick + 4) && (rolesOf x.flow l).isEmpty).map
      fun l => ⟨sec, x.frm.1, x.frm.2, 0xFFFF, l.router, 0xFFFF⟩
  else []

/-- Frames back that anything can reach: the longest carry of the image's patterns. -/
def carryFrames (flows : List Flow) : Nat :=
  (flows.foldl (fun a f => max (max a (maxEnd (f.holds.map fun h => h.tick)))
    (max (maxEnd (f.lands.map fun l => l.tick + 4)) (maxEnd (f.accepts.map fun l => l.tick)))) 0) / 4096

/-- Every frame behind every history; an unused pattern from an empty state (R125). -/
def scenes (im : Image) : List Scene :=
  let flows := im.patNums.map (patternFlow im)
  let n := carryFrames flows
  im.allFrames.flatMap fun x =>
    ((im.histories n x).map fun h => h.map im.patOf).eraseDups.map fun ps => ⟨x, historyFlow flows ps⟩

/-- Events that name a port against the rules of ports. -/
def illegalViols (im : Image) (sec : Nat) : List Viol :=
  im.patNums.flatMap fun p => (patternFlow im p).illegal.map fun x =>
    im.inPattern p { sec := sec, tick := x.1, router := x.2.1, resource := x.2.2 }

end Sys2Proof.Machine
end

