-- ==== Sys2Proof/Machine/ImgHbm.lean ====
section
/-! DEFINITION. The checks of an image along successions that name no mesh resource: HBM cells, refresh lanes, Fold
accumulators, host bounds (R88, R100, R109, R186, R276, R277, R507). -/

namespace Sys2Proof.Machine

/-! ### HBM cells (R276, R277) -/

/-- Records of a pseudo-channel in the pattern of a frame, in cell order. -/
def cellsIn (im : Image) (pc : Nat) (x : Frm) : List CellRec := pcCells im pc (im.patOf x)

/-- The pseudo-channel's header. -/
def pcRecOf (im : Image) (pc : Nat) : PcRec := (im.hbm.find? fun h => h.pc == pc).getD ⟨pc, [], []⟩

/-- What the latest gap or lane in a list left open: some stripe-naming record, `some none` after a lane, none when the
list holds neither. -/
def lastOpen : List CellRec → Option (Option CellRec)
  | [] => none
  | c :: t => match lastOpen t with
    | some o => some o
    | none => if c.kind = 4 then some (some c) else if c.kind = 3 then some none else none

/-- The two records name one stripe in every context (R123, R277). -/
def sameStripe (im : Image) (h : PcRec) (a b : CellRec) : Bool :=
  (im.ctxsOf (a.ctx || b.ctx)).all fun c => stripeIn h a c == stripeIn h b c

/-- On every path into a frame the stripe of a window is open: the search goes back through frames of the same run that
hold neither gap nor lane. A start or another run leaves none open. -/
def openFrom (im : Image) (h : PcRec) (w : CellRec) : Nat → List Frm → Frm → Bool
  | 0, _, _ => true
  | n + 1, seen, x =>
    let ps := im.preds x
    !ps.isEmpty && ps.all fun p =>
      p.2 && (match lastOpen (cellsIn im h.pc p.1) with
        | some (some g) => sameStripe im h g w
        | some none => false
        | none => seen.contains p.1 || openFrom im h w n (p.1 :: seen) p.1)

/-- The stripe of the window at place i of a frame is open (R277). -/
def stripeOpen (im : Image) (h : PcRec) (x : Frm) (before : List CellRec) (w : CellRec) : Bool :=
  match lastOpen before with
  | some (some g) => sameStripe im h g w
  | some none => false
  | none => openFrom im h w im.frames.length [x] x

/-- The first record of a list that is a window of the gap's stripe; `some false` when another gap or lane, or a window
of another stripe, comes first. -/
def gapServed (im : Image) (h : PcRec) (g : CellRec) : List CellRec → Option Bool
  | [] => none
  | c :: _ => some (decide (c.kind = 1 ∨ c.kind = 2) && sameStripe im h g c)

/-- On every path from a frame some window uses the gap's stripe before the next gap or lane. -/
def servedFrom (im : Image) (h : PcRec) (g : CellRec) : Nat → List Frm → Frm → Bool
  | 0, _, _ => true
  | n + 1, seen, x =>
    (im.nexts x).all fun p =>
      p.2 && (match gapServed im h g (cellsIn im h.pc p.1) with
        | some b => b
        | none => seen.contains p.1 || servedFrom im h g n (p.1 :: seen) p.1)

/-- The last window of a list. -/
def lastWindow (cs : List CellRec) : Option CellRec := (cs.filter fun c => c.kind == 1 || c.kind == 2).getLast?

/-- Cells without window data that must lie between two windows (Table 9.3). -/
def turnaround (a b : CellRec) : Nat := if a.kind = 1 ∧ b.kind = 2 then 4 else if a.kind = 2 ∧ b.kind = 1 then 2 else 0

/-- The turnaround between an earlier window, `back` cells before the frame's start, and a window. -/
def turnaroundOk (a : CellRec) (back : Nat) (b : CellRec) : Bool :=
  decide (a.cell + a.cellsM1 + 1 + turnaround a b ≤ b.cell + back)

/-- The turnaround before the window that follows `before` in a frame. -/
def turnOk (im : Image) (pc : Nat) (x : Frm) (before : List CellRec) (w : CellRec) : Bool :=
  match lastWindow before with
  | some a => turnaroundOk a 0 w
  | none => (im.preds x).all fun p => match lastWindow (cellsIn im pc p.1) with
    | some a => turnaroundOk a 512 w
    | none => true

/-- A record of a frame under the rules that depend on other cells. -/
def cellFollows (im : Image) (h : PcRec) (x : Frm) (i : Nat) (c : CellRec) : Bool :=
  let cs := cellsIn im h.pc x
  let before := cs.take i
  match c.kind with
  | 1 => stripeOpen im h x before c && turnOk im h.pc x before c
  | 2 => stripeOpen im h x before c && turnOk im h.pc x before c
  | 4 => match gapServed im h c (cs.drop (i + 1)) with
    | some b => b
    | none => servedFrom im h c im.frames.length [x] x
  | _ => true

/-- Every (pseudo-channel, frame). -/
def pcFrames (im : Image) : List (PcRec × Frm) := im.hbm.flatMap fun h => im.allFrames.map fun x => (h, x)

/-- LATENCY_ORDER of the cells. -/
def cellOrderViols (r : Raw) (im : Image) : List Viol :=
  (pcFrames im).flatMap fun hx => (indexed (cellsIn im hx.1.pc hx.2)).flatMap fun ic =>
    unless_ (cellFollows im hx.1 hx.2 ic.1 ic.2)
      ⟨r.secOf tHbm, (place hx.2).1, (place hx.2).2, 8 * ic.2.cell, 0xFFFF, hx.1.pc⟩

/-- A record holds cell c of the frame it starts in, with cells beyond 511 counted on. -/
def holdsCell (c : CellRec) (n : Nat) : Bool := decide (c.cell ≤ n) && decide (n ≤ c.cell + c.cellsM1)

/-- TWO_WRITER of the cells: two records in one cell, also behind a lane of the frame before (R77, R83). -/
def cellClashViols (r : Raw) (im : Image) : List Viol :=
  (pcFrames im).flatMap fun hx =>
    let cs := cellsIn im hx.1.pc hx.2
    let v (n : Nat) : Viol := ⟨r.secOf tHbm, (place hx.2).1, (place hx.2).2, 8 * n, 0xFFFF, hx.1.pc⟩
    (indexed cs).flatMap fun ic =>
      unless_ (!(cs.take ic.1).any fun d => holdsCell d ic.2.cell) (v ic.2.cell) ++
      unless_ ((im.preds hx.2).all fun p => !(cellsIn im hx.1.pc p.1).any fun d => holdsCell d (ic.2.cell + 512)) (v ic.2.cell)

/-! ### Refresh debt (R88) -/

/-- T_ref of a refresh class in picoseconds (Table 3.4). -/
def trefPs (cls : Nat) : Nat := if cls = 1 then 3900000 else 1950000

/-- One tick at the floor is num / den ps. -/
def floorNum (x : BitVec 9) : Nat := 625 * setD x * (if setK x = 0 then 1 else setK x)
def floorDen (x : BitVec 9) : Nat := if setK x = 0 then 1 else setK x - 1

/-- The first tick from t on, n ticks ahead, at which the debt could pass +8 (R88). -/
def debtTick (num den tref : Nat) (lanes : List Nat) (t : Nat) : Nat → Option Nat
  | 0 => none
  | n + 1 =>
    let before := (lanes.filter fun l => decide (l ≤ t)).length
    let accrued := cdiv ((t + 1) * num) (den * tref)
    let tail := cdiv ((4095 - t) * 5000 + 335000) tref
    if 8 + before < accrued ∨ 8 + lanes.length < accrued + tail then some t
    else debtTick num den tref lanes (t + 1) n

/-- The frame fails R88: at no tick for the first test, else at the first tick. -/
def debtFails (floor : BitVec 9) (cls : Nat) (lanes : List Nat) : Option Nat :=
  let num := floorNum floor
  let den := floorDen floor
  let tref := trefPs cls
  if lanes.length < cdiv (4096 * num) (den * tref) then some 0xFFFF else debtTick num den tref lanes 0 4096

/-- REFRESH_CHECK. -/
def refreshViols (r : Raw) (im : Image) : List Viol :=
  im.pcs.flatMap fun pc => im.allFrames.flatMap fun x =>
    let lanes := ((cellsIn im pc x).filter fun c => c.kind == 3).map fun c => 8 * c.cell
    match debtFails (floorOf im) im.hdr.refresh lanes with
    | none => []
    | some t => [⟨r.secOf tHbm, (place x).1, (place x).2, t, 0xFFFF, pc⟩]

/-! ### Fold accumulators (R184, R186, R507) -/

/-- A FOLD event takes the accumulator as an operand. -/
def takesAcc (im : Image) (p : Nat) (o : Occ) : Bool := match im.stepAt p o with
  | some st => st.1.first == portFold || st.1.second == portFold
  | none => false

/-- FOLD events of a router in a pattern that write the accumulator, with their program, and those that only consume it,
without: ticks and programs. -/
def accUses (im : Image) (p router : Nat) : List (Nat × Option Nat) :=
  ((im.occs p).filter fun o => o.router == router && o.ev.kind == kFold).filterMap fun o =>
    if o.ev.out = 2 ^ portFold then some (o.tick, some o.ev.arg)
    else if takesAcc im p o then some (o.tick, none) else none

/-- Those that write it. -/
def accWrites (im : Image) (p router : Nat) : List (Nat × Option Nat) :=
  (accUses im p router).filter fun x => x.2.isSome

/-- The latest of them before a tick. -/
def latestUse (l : List (Nat × Option Nat)) (before : Nat) : Option (Nat × Option Nat) :=
  l.foldl (fun a x => if x.1 < before then
    (match a with
     | some y => if y.1 ≤ x.1 then some x else a
     | none => some x) else a) none

/-- Along every succession into a frame the latest use of the accumulator satisfies a condition; none since the start of
a run does not. -/
def accFrom (im : Image) (uses : Nat → List (Nat × Option Nat)) (ok : Option Nat → Bool) : Nat → List Frm → Frm → Bool
  | 0, _, _ => true
  | n + 1, seen, x =>
    let ps := im.preds x
    !ps.isEmpty && ps.all fun p =>
      p.2 && (match latestUse (uses (im.patOf p.1)) 4096 with
        | some w => ok w.2
        | none => seen.contains p.1 || accFrom im uses ok n (p.1 :: seen) p.1)

/-- The accumulator operand of an event at tick t of a frame comes from a use that satisfies a condition. -/
def accOk (im : Image) (uses : Nat → List (Nat × Option Nat)) (ok : Option Nat → Bool) (x : Frm) (t : Nat) : Bool :=
  match latestUse (uses (im.patOf x)) t with
  | some w => ok w.2
  | none => accFrom im uses ok im.frames.length [x] x

/-- The accumulator is written less than three ticks before tick t of a frame (R184). -/
def accEarly (im : Image) (router : Nat) (x : Frm) (t : Nat) : Bool :=
  match latestUse (accWrites im (im.patOf x) router) t with
  | some w => decide (t < w.1 + 3)
  | none => (im.preds x).any fun p => p.2 && match latestUse (accWrites im (im.patOf p.1) router) 4096 with
    | some w => decide (t + 4096 < w.1 + 3)
    | none => false

/-- The FOLD occurrences of a pattern whose step takes the accumulator. -/
def accReads (im : Image) (p : Nat) : List Occ := (im.occs p).filter fun o => o.ev.kind == kFold && takesAcc im p o

/-- A place in a frame. -/
def frameViol (sec : Nat) (x : Frm) (o : Occ) : Viol := ⟨sec, (place x).1, (place x).2, o.tick, o.router, o.ev.arg⟩

/-- FOLD: an accumulator operand that no step of its program wrote last, or that another step has consumed. -/
def accViols (r : Raw) (im : Image) : List Viol :=
  im.allFrames.flatMap fun x => (accReads im (im.patOf x)).flatMap fun o =>
    unless_ (accOk im (fun p => accUses im p o.router) (fun q => q == some o.ev.arg) x o.tick) (frameViol (r.secOf tPatterns) x o)

/-- Writes of an accumulator that the next write of the frame overwrites before anything has consumed the value: neither a
final result nor an operand; tick and program (R186). -/
def lostWrites (im : Image) (p router : Nat) : List (Nat × Nat) :=
  let os := (im.occs p).filter fun o => o.router == router
  let takes := os.filter fun o => (o.ev.kind == kFold && takesAcc im p o) || (o.ev.kind == kUpdate && o.ev.inp == portFold)
  let ws := os.filter fun o => o.ev.kind == kFold && o.ev.out == 2 ^ portFold
  (ws.filter fun w => ws.any fun v => decide (w.tick < v.tick) &&
    !(takes.any fun t => decide (w.tick < t.tick) && decide (t.tick ≤ v.tick))).map fun w => (w.tick, w.ev.arg)

/-- FOLD: a partial result overwritten unused. -/
def lostViols (r : Raw) (im : Image) : List Viol :=
  im.patNums.flatMap fun p => im.eventRouters.flatMap fun x => (lostWrites im p x).map fun t =>
    im.inPattern p { sec := r.secOf tPatterns, tick := t.1, router := x, resource := t.2 }

/-- LATENCY_ORDER of accumulator operands. -/
def accOrderViols (r : Raw) (im : Image) : List Viol :=
  im.allFrames.flatMap fun x => (accReads im (im.patOf x)).flatMap fun o =>
    unless_ (!accEarly im o.router x o.tick) (frameViol (r.secOf tPatterns) x o)

/-- TRAIN: an UPDATE whose accumulator gradient does not come from a step of type 1 (R507). -/
def gradientViols (r : Raw) (im : Image) : List Viol :=
  im.allFrames.flatMap fun x =>
    ((im.occs (im.patOf x)).filter fun o => o.ev.kind == kUpdate && o.ev.inp == portFold).flatMap fun o =>
      unless_ (accOk im (fun p => accWrites im p o.router) (fun q => ((q.bind im.foldProg).map fun f => f.type) == some 1) x o.tick)
        (frameViol (r.secOf tPatterns) x o)

/-! ### Host bounds (R100, R109) -/

/-- Ticks of B_in at full rate. -/
def inputTicks (im : Image) : Nat := cdiv (im.hdr.bIn * 8) 5

/-- LATENCY_ORDER of host input: presented no earlier than the bound after the issue tick of its read (R109). DESIGN CHOICE
(log entry 13): the spec does not say which tick is the issue tick; the model takes the first tick of the frame that holds
the record. -/
def hostOrderViols (r : Raw) (im : Image) : List Viol :=
  (im.host.filter fun h => h.dir == 0).flatMap fun h =>
    unless_ (decide (inputTicks im ≤ h.tick)) (im.inPattern h.pattern
      { sec := r.secOf tHost, tick := h.tick, router := routerAt 0 h.row })

/-- A bound in ns as ticks at the floor (R100). -/
def boundTicks (im : Image) (ns : Nat) : Nat := cdiv (ns * 1000 * floorDen (floorOf im)) (floorNum (floorOf im))

/-- The frames exactly n steps before a frame in its run. -/
def levelBack (im : Image) : Nat → Frm → List Frm
  | 0, x => [x]
  | n + 1, x => ((levelBack im n x).flatMap fun y => ((im.preds y).filter fun p => p.2).map fun p => p.1).eraseDups

/-- YIELD: a host transfer whose declared bound ends behind the yield boundary (R100). -/
def hostYieldViols (im : Image) : List Viol :=
  let bIn := boundTicks im im.hdr.bIn
  let hOut := boundTicks im im.hdr.hOut
  let ends (h : HostRec) : Nat := if h.dir = 0 then max bIn (h.tick + h.beatsM1 + 1) else h.tick + h.beatsM1 + hOut
  im.yieldFrames.flatMap fun x =>
    (rangeFrom 0 ((max bIn hOut + 65536) / 4096 + 2)).flatMap fun n =>
      (levelBack im n x).flatMap fun y =>
        (im.host.filter fun h => h.pattern == im.patOf y && decide (4096 * (n + 1) < ends h)).map fun _ =>
          ⟨0xFF, x.1, x.2, 0xFFFF, 0xFFFF, 0xFFFF⟩

end Sys2Proof.Machine
end

