-- ==== Sys2Proof/Machine/ImgStatic.lean ====
section
/-! DEFINITION. The checks of an image's declarations: index windows, the variant graph, Sprinkle trees, Fold programs,
TRAIN descriptors, Lattice windows and contexts (R82, R93, R95, R96, R99, R122, R123, R179 to R186, R190, R479 to R482, R502
to R509; codes 0x11 to 0x13 and 0x15 to 0x19). -/

namespace Sys2Proof.Machine

/-! ### 0x11: index windows (R93, R95) -/

/-- The line of a window in a context. -/
def windowLine (im : Image) (router c : Nat) (w : IndexWindow) (line : Nat) : Nat :=
  line + if w.ctx then im.ctxBase router c else 0

/-- A window's declaration: its range and its index line lie in the slice, are touched, and stay within the relocated block
when relocated or apart from every block when not. -/
def windowOk (im : Image) (e : SliceEntry) (w : IndexWindow) : Bool :=
  let n := w.sizeM1 + 1
  let lines := rangeFrom w.base n ++ [w.indexLine]
  let blocks := rangeFrom 0 im.hdr.contexts
  decide (w.base + n ≤ 768) && decide (w.indexLine < 768) &&
  (im.ctxsOf w.ctx).all (fun c => lines.all fun l => im.touched e.router (windowLine im e.router c w l)) &&
  (if w.ctx then lines.all fun l => decide (l < e.ctxSpan)
   else blocks.all fun c => lines.all fun l =>
     !(decide (im.ctxBase e.router c ≤ l) && decide (l < im.ctxBase e.router c + e.ctxSpan))) &&
  (e.windows.filter fun v => v.id == w.id).length == 1

/-- The occurrences of a router that use a window, in tick order: tick and whether it is a read of the index line. -/
def windowUses (im : Image) (p router id : Nat) : List (Nat × Bool) :=
  let l := ((im.occs p).filter fun o => o.router == router && o.ev.arg == id &&
    (o.ev.kind == kIndexLoad || o.ev.kind == kGather || o.ev.kind == kScatter)).map fun o => (o.tick, o.ev.kind == kIndexLoad)
  l.foldr (fun x a => (a.takeWhile fun y => decide (y.1 < x.1)) ++ x :: a.dropWhile fun y => decide (y.1 < x.1)) []

/-- Slots without an entry: entries left from the latest read and its tick, none before the first. -/
def starved : Option (Nat × Nat) → List (Nat × Bool) → List Nat
  | _, [] => []
  | _, (t, true) :: rest => starved (some (32, t)) rest
  | none, (t, false) :: rest => t :: starved none rest
  | some (n, t0), (t, false) :: rest =>
    if n = 0 ∨ t < t0 + 4 then t :: starved (some (n - 1, t0)) rest else starved (some (n - 1, t0)) rest

/-- INDEX_WINDOW. -/
def indexViols (r : Raw) (im : Image) : List Viol :=
  (im.slices.flatMap fun e => e.windows.flatMap fun w =>
    unless_ (windowOk im e w) { sec := r.secOf tSlices, router := e.router, resource := w.id }) ++
  im.patNums.flatMap fun p =>
    let os := (im.occs p).filter fun o => o.ev.kind == kIndexLoad || o.ev.kind == kGather || o.ev.kind == kScatter
    (os.flatMap fun o => unless_ (im.window o.router o.ev.arg).isSome
      (im.inPattern p { sec := r.secOf tPatterns, tick := o.tick, router := o.router, resource := o.ev.arg })) ++
    ((os.map fun o => (o.router, o.ev.arg)).eraseDups.flatMap fun x =>
      (starved none (windowUses im p x.1 x.2)).map fun t =>
        im.inPattern p { sec := r.secOf tPatterns, tick := t, router := x.1, resource := x.2 })

/-! ### 0x12: the branch slice (R96, R97) -/

/-- BRANCH, but for its port. -/
def branchSliceViols (im : Image) : List Viol :=
  let h := im.hdr
  if im.anyChosen then
    unless_ (h.rect.hasRouter h.brRouter && (im.ctxsOf h.brCtx).all fun c =>
      im.touched h.brRouter (h.brLine + if h.brCtx then im.ctxBase h.brRouter c else 0)) { router := h.brRouter }
  else []

/-! ### 0x13: the variant graph (R75, R99, R122, R126) -/

/-- Frames of the longest path from a variant; none where a cycle is reached. -/
def longestPath (im : Image) : Nat → Nat → Option Nat
  | 0, _ => none
  | n + 1, v => (im.followers v).foldl (fun a w => match a, longestPath im n w with
      | some x, some y => some (max x (im.lenOf v + y))
      | _, _ => none) (some (im.lenOf v))

/-- F_max (R99). -/
def fmaxOf (im : Image) : Nat := match longestPath im (im.variants.length + 1) 0 with
  | some n => min im.hdr.budget n
  | none => im.hdr.budget

/-- The idle frame holds refresh lanes and nothing else. -/
def idleOk (im : Image) : Bool :=
  let p := im.hdr.idlePattern
  (im.occs p).isEmpty && im.host.all (fun h => h.pattern != p) && im.lattice.all (fun l => l.pattern != p) &&
  im.hbm.all fun h => h.cells.all fun c => c.pattern != p || c.kind == 3

/-- VARIANT_GRAPH. -/
def graphViols (r : Raw) (im : Image) : List Viol :=
  let sec := r.secOf tVariants
  let n := im.variants.length
  ((indexed im.variants).flatMap fun iv =>
    let v := iv.2
    unless_ (v.len == v.frames &&
      (if v.chosen then (rangeFrom 0 8).all fun w => !bit1 v.set w || decide (w < n) else v.next == 8 || decide (v.next < n)))
      { sec := sec, variant := iv.1 }) ++
  unless_ (idleOk im) { sec := sec, variant := 8, frame := 0 } ++
  unless_ (im.hdr.fmax == fmaxOf im) { sec := sec }

/-! ### 0x15: Sprinkle trees (R179, R180) -/

/-- The link bits of a node's OUTS: mesh ports that are no edge port, and BYPASS. -/
def linkBits (n : Nat × Nat) : List Nat := [0, 1, 2, 3, portBypass].filter fun p => bit1 n.2 p && !isEdgePort n.1 p

/-- Routers to which a link bit may lead: BYPASS by either pairing. -/
def bitEnds (n : Nat × Nat) (p : Nat) : List Nat :=
  ([(portEdge, false), (portSlice, false), (portSlice, true)].filterMap fun x => linkTarget n.1 p x.1 n.2 x.2).map
    fun m => m.1

/-- Nodes of the tree that a node reaches by a link bit. -/
def treeNexts (t : Tree) (n : Nat × Nat) : List Nat :=
  (linkBits n).flatMap fun p => ((bitEnds n p).filter fun m => t.nodes.any fun k => k.1 == m).eraseDups

/-- Roots: nodes that no node reaches. -/
def treeRoots (t : Tree) : List Nat :=
  (t.nodes.map fun n => n.1).filter fun x => !(t.nodes.any fun n => (treeNexts t n).contains x)

/-- Everything reached from a set of nodes. -/
def treeReach (t : Tree) : Nat → List Nat → List Nat
  | 0, l => l
  | n + 1, l => treeReach t n (l ++ (t.nodes.filter fun k => l.contains k.1).flatMap (treeNexts t)).eraseDups

/-- A tree is well formed (R179). -/
def treeOk (t : Tree) : Bool :=
  let xs := t.nodes.map fun n => n.1
  decide xs.Nodup && (treeRoots t).length == 1 &&
  xs.all (fun x => (treeRoots t).contains x || (t.nodes.filter fun n => (treeNexts t n).contains x).length == 1) &&
  xs.all (fun x => (treeReach t xs.length (treeRoots t)).contains x) &&
  t.nodes.all fun n => n.2 != 0 && !bit1 n.2 portFold &&
    (linkBits n).all (fun p => !(bitEnds n p).isEmpty) &&
    ([portW, portEdge].all fun p => !bit1 n.2 p || !isEdgePort n.1 p || (portAttachment n.1 p).isSome)

/-- The tree of an ID and the OUTS of a router in it. -/
def Image.tree (im : Image) (id : Nat) : Option Tree := im.trees.find? fun t => t.id == id
def Image.treeOuts (im : Image) (id router : Nat) : Option Nat :=
  (im.tree id).bind fun t => (t.nodes.find? fun n => n.1 == router).map fun n => n.2

/-- The router is the root of a tree. -/
def Image.isRoot (im : Image) (id router : Nat) : Bool :=
  ((im.tree id).map fun t => treeRoots t == [router]) == some true

/-- A LINK or FOLD event agrees with its tree: OUT is its node's OUTS, and more than one output needs a tree. -/
def treeEventOk (im : Image) (router : Nat) (e : Event) : Bool :=
  if e.kind = kLink ∨ e.kind = kFold then
    if e.treeValid then im.treeOuts e.tree router == some e.out
    else e.kind == kFold || decide (popcount e.out 8 ≤ 1)
  else true

/-- Uses of trees in a frame: each one but the root's follows its parent's in the tick before, from the register that the
parent feeds, and each feeds its children or a Fold operand in the tick after. -/
def treeUsesAt (im : Image) (sec : Nat) (x : Scene) : List Viol :=
  let us := x.flow.uses
  let v (u : TreeUse) : Viol := x.at_ sec u.tick u.router u.tree
  (us.filter fun u => present u.tick).flatMap (fun u =>
    unless_ (im.isRoot u.tree u.router ||
      us.any fun w => w.tree == u.tree && w.tick + 1 == u.tick && w.feeds.contains (u.router, u.reg)) (v u)) ++
  (us.filter fun w => present (w.tick + 1)).flatMap fun w =>
    unless_ (w.feeds.all fun m =>
      us.any (fun u => u.tree == w.tree && u.tick == w.tick + 1 && u.router == m.1 && u.reg == m.2) ||
      x.flow.takes.any fun t => t.tick == w.tick + 1 && t.router == m.1 && t.reg == m.2 && t.role == .fold)
      { v w with tick := min (w.tick - 4096) 4095 }

/-- SPRINKLE. -/
def sprinkleViols (r : Raw) (im : Image) (xs : List Scene) : List Viol :=
  ((indexed im.trees).flatMap fun it =>
    let xs := it.2.nodes.map fun n => n.1
    unless_ (treeOk it.2 && !((im.trees.take it.1).any fun t => t.id == it.2.id))
      { sec := r.secOf tSprinkle, resource := it.2.id, router := (xs.find? fun x => decide (1 < xs.count x)).getD 0xFFFF }) ++
  (im.eventList.flatMap fun (p, x, e) => unless_ (treeEventOk im x e)
    (im.inPattern p { sec := r.secOf tPatterns, tick := e.tick, router := x, resource := e.tree })) ++
  xs.flatMap (treeUsesAt im (r.secOf tPatterns))

/-! ### 0x16: Fold programs (R182 to R186, R190) -/

/-- A program's own fields. -/
def foldProgOk (f : FoldProg) : Bool :=
  f.type != 3 && (!f.sr || f.type == 1) && f.steps.all fun st => st.first != st.second && decide (st.first ≤ 7 ∧ st.second ≤ 7)

/-- A FOLD event's own fields: IN is FIRST, LINE and LSTEP are zero, OUT is FOLDADD alone or ports without it, and several
outputs leave through a tree rooted here. -/
def foldEventOk (im : Image) (p : Nat) (o : Occ) : Bool :=
  let e := o.ev
  match im.stepAt p o with
  | none => false
  | some st =>
    e.inp == st.1.first && e.line == 0 && e.lstep == 0 && e.out != 0 &&
    (e.out == 2 ^ portFold || !bit1 e.out portFold) &&
    (decide (popcount e.out 8 ≤ 1) || (e.treeValid && im.isRoot e.tree o.router))

/-- In a pattern that names a program, every router has as many FOLD events that name it as the program has steps there
(R186). -/
def foldCountOk (im : Image) (p : Nat) (o : Occ) : Bool :=
  match im.foldProg o.ev.arg with
  | none => false
  | some f => (o.router :: f.steps.map fun st => st.router).all fun x =>
      ((im.events p x).filter fun e => e.kind == kFold && e.arg == f.id).length ==
        (f.steps.filter fun st => st.router == x).length

/-- The descriptor of the RNG event that delivers to the Fold adder of a router at a tick of a frame, beyond its end in the
frame that follows: one for every succession, none where nothing follows. -/
def foldRng (im : Image) (x : Frm) (router t : Nat) : List (Option Nat) :=
  let find (p t : Nat) : Option Nat := ((im.occs p).find? fun o => o.router == router && o.ev.kind == kRng &&
    o.tick == t && o.ev.out == 2 ^ portFold).map fun o => o.ev.arg
  if t < 4096 then [find (im.patOf x) t] else (im.nexts x).map fun y => find (im.patOf y.1) (t - 4096)

/-- Stochastic rounding has its two generator outputs, of one descriptor with OP 1 (R190). -/
def roundingOk (im : Image) (x : Frm) (o : Occ) : Bool :=
  match im.foldProg o.ev.arg with
  | none => true
  | some f =>
    if f.sr && o.ev.out != 2 ^ portFold then
      let ds := foldRng im x o.router (o.tick + 1) ++ foldRng im x o.router (o.tick + 2)
      match ds with
      | some d :: _ => ds.all (fun e => e == some d) && ((im.trainDesc d).map fun t => t.op) == some 1
      | none :: _ => false
      | [] => true
    else true

/-- The step whose result stands in a register from a tick on: back through the links that carried it. -/
def producerOf (f : Flow) : Nat → Nat → Nat → Nat → Option (Nat × Nat × Nat)
  | 0, _, _, _ => none
  | n + 1, tick, router, reg =>
    match f.moves.find? fun m => m.reach == tick && m.feeds.contains (router, reg) with
    | none => none
    | some m => match m.step with
      | some (q, i, _) => some (q, i, m.tick)
      | none => producerOf f n (m.tick - 1) m.router m.reg

/-- The operands of the Fold steps of a flow: step, tick, and the step that produced each. -/
def operands (f : Flow) : List (Nat × Nat × Move × Nat × Nat × Nat) :=
  f.moves.flatMap fun m => match m.step with
    | none => []
    | some (q, i, regs) => regs.filterMap fun reg =>
        (producerOf f 512 (m.tick - 1) m.router reg).map fun w => (q, i, m, w.1, w.2.1, w.2.2)

/-- A partial result of a program is an operand of one step of it alone, and of a later one (R186). -/
def stepOrderAt (sec : Nat) (x : Scene) : List Viol :=
  let os := operands x.flow
  (os.filter fun o => present o.2.2.1.tick && o.1 == o.2.2.2.1).flatMap fun o =>
    unless_ (decide (o.2.2.2.2.1 < o.2.1) &&
      (os.filter fun w => w.1 == o.1 && w.2.2.2 == o.2.2.2).length == 1) (x.at_ sec o.2.2.1.tick o.2.2.1.router o.1)

/-- FOLD. -/
def foldViols (r : Raw) (im : Image) (xs : List Scene) : List Viol :=
  let sec := r.secOf tPatterns
  ((indexed im.folds).flatMap fun jf =>
    unless_ (foldProgOk jf.2 && !((im.folds.take jf.1).any fun f => f.id == jf.2.id))
      { sec := r.secOf tFold, resource := jf.2.id }) ++
  (im.patNums.flatMap fun p => ((im.occs p).filter fun o => o.ev.kind == kFold).flatMap fun o =>
    unless_ (foldEventOk im p o && foldCountOk im p o)
      (im.inPattern p { sec := sec, tick := o.tick, router := o.router, resource := o.ev.arg })) ++
  (im.allFrames.flatMap fun x => ((im.occs (im.patOf x)).filter fun o => o.ev.kind == kFold).flatMap fun o =>
    unless_ (roundingOk im x o) (frameViol sec x o)) ++
  accViols r im ++ lostViols r im ++ xs.flatMap (sharedOperandAt sec) ++ xs.flatMap (stepOrderAt sec)

/-! ### 0x17: TRAIN descriptors (R502, R504, R507, R509) -/

/-- A descriptor's own fields. -/
def descOk (d : TrainDesc) : Bool :=
  decide (d.paramLine < 768) && (match d.op with
    | 1 => d.outfmt == 0
    | 2 => d.outfmt == 0
    | _ => decide (d.outfmt ≤ 2))

/-- Lines of an UPDATE occurrence. -/
def updateLines (d : TrainDesc) (o : Occ) : List Nat := rangeFrom o.line (if d.op = 3 ∧ d.outfmt ≠ 0 then 3 else 2)

/-- An RNG or UPDATE occurrence. -/
def trainEventOk (im : Image) (o : Occ) : Bool :=
  match im.trainDesc o.ev.arg with
  | none => false
  | some d =>
    im.touched o.router d.paramLine &&
    (if o.ev.kind = kRng then
      d.op == 1 && o.ev.inp == 0 && (o.ev.out == 2 ^ portSlice || o.ev.out == 2 ^ portFold)
    else
      d.op != 1 && o.ev.out == 0 && (im.ctxsOf o.ev.ctx).all fun c => (updateLines d o).all fun l =>
        im.touched o.router (l + if o.ev.ctx then im.ctxBase o.router c else 0))

/-- TRAIN. -/
def trainViols (r : Raw) (im : Image) : List Viol :=
  let sec := r.secOf tTrain
  let used := im.eventList.filterMap fun (_, _, e) => if e.kind = kRng ∨ e.kind = kUpdate then some e.arg else none
  ((indexed im.train).flatMap fun jd =>
    unless_ (descOk jd.2 && used.contains jd.2.id && !((im.train.take jd.1).any fun d => d.id == jd.2.id))
      { sec := sec, resource := jd.2.id }) ++
  unless_ (decide ((im.train.map fun d => d.paramLine).eraseDups.length ≤ 4)) { sec := sec } ++
  (im.patNums.flatMap fun p => ((im.occs p).filter fun o => o.ev.kind == kRng || o.ev.kind == kUpdate).flatMap fun o =>
    unless_ (trainEventOk im o)
      (im.inPattern p { sec := r.secOf tPatterns, tick := o.tick, router := o.router, resource := o.ev.arg })) ++
  gradientViols r im

/-! ### 0x18: Lattice windows (R104, R479, R480, R482) -/

/-- The ticks on which a window is open, for the beats that its count names: an outgoing one to its last handover, an
incoming one to its last presentation. -/
def openTicks (l : LatRec) : Nat × Nat := (l.tick, l.tick + l.beatsM1 / 2 + if l.dir = 0 then 3 else 0)

/-- Two windows of one direction on one port open at once. -/
def windowsClash (a b : LatRec) : Bool :=
  a.pattern == b.pattern && a.dir == b.dir &&
  ((a.port == b.port && decide ((openTicks a).1 ≤ (openTicks b).2) && decide ((openTicks b).1 ≤ (openTicks a).2)) ||
   (a.dir == 0 && a.peer == b.peer))

/-- Flits of the outgoing windows of a port in a frame pattern: three wire beats a flit (R482). -/
def windowFlits (im : Image) (port pattern : Nat) : Nat :=
  ((im.lattice.filter fun l => l.dir == 0 && l.port == port && l.pattern == pattern).map fun l => (l.beatsM1 + 3) / 3).sum

/-- Wire beats of a port's incoming records, in frames f to f + 255 of a variant, whose span from g - BOUND to g includes frame
f (R482). -/
def spanBeats (im : Image) (port variant f : Nat) : Nat :=
  ((rangeFrom f 256).map fun g => match im.patternAt variant g with
    | none => 0
    | some p => ((im.lattice.filter fun l => l.dir == 1 && l.port == port && l.pattern == p && decide (g ≤ f + l.bound)).map fun l =>
        l.beatsM1 + 1).sum).sum

/-- The limits on what a port carries and holds: 1,024 outgoing window flits in a frame pattern, 32,768 wire beats of incoming
windows in a frame (R482). -/
def portLoadViols (im : Image) (sec : Nat) : List Viol :=
  let ports := (im.lattice.map fun l => l.port).eraseDups
  ports.flatMap fun q =>
    (im.patNums.flatMap fun p => unless_ (decide (windowFlits im q p ≤ 1024)) (im.inPattern p { sec := sec, resource := q })) ++
    ((indexed im.variants).flatMap fun iv => (rangeFrom 0 iv.2.len).flatMap fun f =>
      unless_ (decide (spanBeats im q iv.1 f ≤ 32768)) { sec := sec, variant := iv.1, frame := f, resource := q })

/-- LATTICE. -/
def latticeViols (s : State) (r : Raw) (im : Image) : List Viol :=
  ((indexed im.lattice).flatMap fun jl =>
    let l := jl.2
    unless_ (im.hdr.rect.hasPort l.port && l.peer != s.lat.cfg.module && decide (l.peer < s.lat.cfg.modules) && l.bound != 0 &&
      decide ((openTicks l).2 < 4096) && !((im.lattice.take jl.1).any fun m => windowsClash m l))
      (im.inPattern l.pattern { sec := r.secOf tLattice, tick := l.tick, resource := l.port })) ++
  (if im.lattice.isEmpty then [] else portLoadViols im (r.secOf tLattice))

/-! ### 0x19: contexts (R82, R123, R275) -/

/-- Lines that a slice access of an occurrence names before relocation; DISPATCH, index windows and UPDATE are judged
elsewhere but count where CTXSPAN is concerned. An event that names no line of its own and has CTX set is judged by its
LINE (R123). -/
def occLines (im : Image) (o : Occ) : List Nat := match o.ev.kind with
  | 2 => [o.line]
  | 3 => [o.line]
  | 7 => match im.opClass o.ev.arg with
    | some c => reservedLines c o.line
    | none => []
  | 9 => if bit1 o.ev.out portSlice then [o.line] else []
  | 10 => match im.trainDesc o.ev.arg with
    | some d => updateLines d o
    | none => []
  | _ => []

/-- Lines of a slice touched without CTX: by events, windows, parameter lines and the branch word. -/
def fixedLines (im : Image) (router : Nat) : List Nat :=
  (im.patNums.flatMap fun p => ((im.occs p).filter fun o => o.router == router && !o.ev.ctx).flatMap (occLines im)) ++
  (match im.slice router with
   | some e => (e.windows.filter fun w => !w.ctx).flatMap fun w => w.indexLine :: rangeFrom w.base (w.sizeM1 + 1)
   | none => []) ++
  (im.eventList.filterMap fun (_, x, e) =>
    if x = router ∧ (e.kind = kRng ∨ e.kind = kUpdate) then (im.trainDesc e.arg).map fun d => d.paramLine else none) ++
  (if im.anyChosen && im.hdr.brRouter == router && !im.hdr.brCtx then [im.hdr.brLine] else [])

/-- A context's block meets another's or a fixed line. -/
def blockBad (im : Image) (e : SliceEntry) (c : Nat) : Bool :=
  let lo (k : Nat) : Nat := e.ctxBase[k]?.getD 0
  (rangeFrom 0 c).any (fun k => decide (lo k < lo c + e.ctxSpan) && decide (lo c < lo k + e.ctxSpan)) ||
  (fixedLines im e.router).any fun l => decide (lo c ≤ l) && decide (l < lo c + e.ctxSpan)

/-- Stripes that a pseudo-channel's cells name in a context, or without one. -/
def stripesOf (h : PcRec) (ctx : Option Nat) : List Int := match ctx with
  | some c => (h.cells.filter fun x => x.kind != 3 && x.ctx).map fun x => stripeIn h x c
  | none => (h.cells.filter fun x => x.kind != 3 && !x.ctx).map fun x => stripeIn h x 0

/-- A context's stripes leave their unit, or meet another context's or fixed ones. -/
def stripesBad (h : PcRec) (c : Nat) : Bool :=
  (h.cells.any fun x => x.kind != 3 && x.ctx &&
    (decide (stripeIn h x c < 0) || (stripeIn h x c).toNat / 8192 != addrStripe x.addr / 8192)) ||
  (stripesOf h (some c)).any fun s => (stripesOf h none).contains s || (rangeFrom 0 c).any fun k => (stripesOf h (some k)).contains s

/-- CONTEXT. -/
def contextViols (r : Raw) (im : Image) : List Viol :=
  let ctxs := rangeFrom 0 im.hdr.contexts
  (im.slices.flatMap fun e => if e.ctxSpan = 0 then [] else ctxs.flatMap fun c =>
    unless_ (!blockBad im e c) { sec := r.secOf tSlices, router := e.router, resource := c }) ++
  (im.hbm.flatMap fun h => ctxs.flatMap fun c => unless_ (!stripesBad h c) { sec := r.secOf tHbm, resource := c }) ++
  unless_ (!(im.anyChosen && im.hdr.brCtx) || decide (im.hdr.brLine < im.ctxSpan im.hdr.brRouter))
    { router := im.hdr.brRouter } ++
  im.patNums.flatMap fun p => (im.occs p).flatMap fun o =>
    let v := im.inPattern p { sec := r.secOf tPatterns, tick := o.tick, router := o.router }
    let ls := occLines im o
    let inSpan := !o.ev.ctx || (if ls.isEmpty then [o.line] else ls).all fun l => decide (l < im.ctxSpan o.router)
    unless_ inSpan v ++
    (if inSpan ∧ (o.ev.kind = kRead ∨ o.ev.kind = kWrite ∨ o.ev.kind = kRng) then
      (im.ctxsOf o.ev.ctx).flatMap fun c =>
        unless_ (ls.all fun l => im.touched o.router (l + if o.ev.ctx then im.ctxBase o.router c else 0))
          { v with resource := if o.ev.ctx then c else 0xFFFF }
     else [])

end Sys2Proof.Machine
end

