-- ==== Sys2Proof/Machine/ImgCheck.lean ====
section
/-! DEFINITION. Validation of an image: the checks of Table 4.12 in order, and the report of the first that fails
(R125). -/

namespace Sys2Proof.Machine

/-- The first check with a violation: its code and its smallest violation; code 0 when every check passes. -/
def firstFailing : List (Nat × (Unit → List Viol)) → Nat × Viol
  | [] => (0, {})
  | (code, vs) :: t => match firstViol (vs ()) with
    | some v => (code, v)
    | none => firstFailing t

/-- Checks 0x01 to 0x08, which do not depend on the fault map or the tiles; `named` is the LENGTH of the command. -/
def formChecks (s : State) (n named : Nat) (r : Raw) : List (Nat × (Unit → List Viol)) :=
  [(0x01, fun _ => unless_ (magicOk r) {}),
   (0x02, fun _ => unless_ (levelOk r) {}),
   (0x03, fun _ => unless_ (lengthOk r named) {}),
   (0x04, fun _ => structureViols r),
   (0x05, fun _ => crcViols r),
   (0x06, fun _ => unless_ (imageSignatureOk s r) {}),
   (0x07, fun _ => rangeViols r r.parse),
   (0x08, fun _ => capacityViols s n r r.parse)]

/-- Checks 0x09 to 0x19, which are repeated when a merge completes during a load (R137). -/
def contractChecks (s : State) (r : Raw) (im : Image) : List (Nat × (Unit → List Viol)) :=
  let sec := r.secOf tPatterns
  let xs (_ : Unit) := scenes im
  [(0x09, fun _ => rectangleViols r im),
   (0x0A, fun _ => dependencyViols s r im),
   (0x0B, fun _ => tileViols s r im),
   (0x0C, fun u => illegalViols im sec ++ (xs u).flatMap (routeAt im sec)),
   (0x0D, fun u => cellClashViols r im ++ (xs u).flatMap (twoWriterAt im sec)),
   (0x0E, fun _ => cellOrderViols r im ++ hostOrderViols r im ++ accOrderViols r im),
   (0x0F, fun _ => rimViols s r im),
   (0x10, fun _ => refreshViols r im),
   (0x11, fun _ => indexViols r im),
   (0x12, fun u => branchSliceViols im ++ (xs u).flatMap (branchAt im sec)),
   (0x13, fun _ => graphViols r im),
   (0x14, fun u => (xs u).flatMap (yieldAt im sec) ++ hostYieldViols im),
   (0x15, fun u => sprinkleViols r im (xs u)),
   (0x16, fun u => foldViols r im (xs u)),
   (0x17, fun _ => trainViols r im),
   (0x18, fun _ => latticeViols s r im),
   (0x19, fun _ => contextViols r im)]

/-- The verdict on the bytes of an image for slot n: code and place (R125). -/
def validateImage (s : State) (n named : Nat) (r : Raw) : Nat × Viol :=
  match firstFailing (formChecks s n named r) with
  | (0, _) => firstFailing (contractChecks s r r.parse)
  | x => x

end Sys2Proof.Machine
end

