-- ==== Sys2Proof/Machine/ImageCmds.lean ====
section
/-! DEFINITION. The commands that load, bind, unbind, evict and query images (R127 to R131, R141, R378, R394, R485). -/

namespace Sys2Proof.Machine

/-! ### Loading (R128, R394) -/

/-- SLOT, the refusal of a load into a slot that is not EMPTY or lies outside the window table (Table 4.12). -/
def reportSlot : Nat := reportOf 0x1A {}

/-- The slot moves to LOADING with the loader's rights at acceptance. -/
def startLoad (q : MciReq) (n : Nat) (s : State) : State :=
  let fn := fnOfWho q.who
  let w := winTable s fn
  mciHold 0x0201 q (setSlot n { Slot.reset with
    state := .loading, report := (slot s n).report, loader := fn, gen := s.win.gen, loadWho := q.who, loadTag := q.tag
    loadLen := bits (mciParams q) 32 32, loadHbm := tabValues w.hbm, loadQuota := w.quota } s)

/-- IMAGE_LOAD: accepted for an EMPTY slot in the caller's window table (R128, Table 4.15). -/
def execImageLoad (q : MciReq) (s : State) : Host.Outcome State Fault Refusal :=
  let n := bits (mciParams q) 0 3
  .next (mciFixed 0x0201 16 [(0, 3), (32, 32), (64, 64)] true q (fun s =>
    if !winSlot s (fnOfWho q.who) n 0 then
      mciAnswer 0x0201 q mWindow (3 + put n 8 24) 16 reportSlot (violation (fnOfWho q.who) 3 s)
    else if (slot s n).state ≠ .empty then mciAnswer 0x0201 q mRejected 0x1A 16 reportSlot s
    else startLoad q n s) s)

/-- The module units that an image addresses, in every context (R394). -/
def imageUnits (im : Image) : List Nat :=
  ((stripeCells im).flatMap fun hc => (im.ctxsOf hc.2.ctx).map fun c => unitAt hc.1.pc (stripeIn hc.1 hc.2 c)).eraseDups

/-- A unit lies in an HBM entry with IMG set. -/
def unitGranted (entries : List Nat) (u : Nat) : Bool := entries.any fun e => hbmEntryAllows e (u / 36) (u % 36) 26

/-- Trees and Fold programs of the images resident in slots other than n that a function loaded. -/
def loadedBy (s : State) (fn n : Nat) : List Image :=
  ((rangeFrom 0 8).filter fun k => k != n && (slot s k).resident && (slot s k).loader == fn).map fun k => (slot s k).image

/-- The footprint of an image against a function's HBM entries and quota: none when it fits, else DETAIL (R394). -/
def footprint (s : State) (fn n : Nat) (im : Image) (entries : List Nat) (quota : Nat) : Option Nat :=
  if fn = 0 then none
  else match ((imageUnits im).filter fun u => !unitGranted entries u).min? with
    | some u => some (1 + put u 8 24)
    | none =>
      let others := loadedBy s fn n
      if bits quota 0 12 < total others im (fun i => i.trees.length) ∨
          bits quota 16 14 < total others im (fun i => i.folds.length) then some 6
      else none

/-- The slot returns to EMPTY with a report, and the load is answered. -/
def loadFails (n status detail report answer : Nat) (s : State) : State :=
  let v := slot s n
  mciReply 0x0201 v.loadWho v.loadTag status detail 16 answer (setSlot n { Slot.reset with report := report } s)

/-- IMAGE_LOAD_DONE: the bytes transferred are validated; the slot becomes VALID, or EMPTY with the rejection report, or
EMPTY with status WINDOW when the footprint leaves the window (R125, R128, R394). -/
def execImageLoadDone (slot_ bytes len : Nat) (s : State) : Host.Outcome State Fault Refusal :=
  let v := slot s slot_
  if v.state ≠ .loading ∨ !mpRuns s then .next s
  else
    let r : Raw := ⟨bytes % 2 ^ (8 * len), len⟩
    match validateImage s slot_ v.loadLen r with
    | (0, _) =>
      let im := r.parse
      match footprint s v.loader slot_ im v.loadHbm v.loadQuota with
      | some d => .next (violation v.loader (d % 256) (loadFails slot_ mWindow d v.report reportAccepted s))
      | none =>
        .next (mciReply 0x0201 v.loadWho v.loadTag mSuccess 0 16 reportAccepted
          (setSlot slot_ { v with state := .valid, image := im, report := reportAccepted } s))
    | (code, w) => .next (loadFails slot_ mRejected code (reportOf code w) (reportOf code w) s)

/-! ### Binding (R130, R131, R268, R378, R485) -/

/-- The rectangle of a partition in the layout last accepted (R141). -/
def acceptedRect (s : State) (k : Nat) : Rect := match s.layoutPend with
  | some l => l[k]?.getD ⟨0, 0, 0, 0⟩
  | none => rect s k

/-- A partition holds a slot BINDING, BOUND or UNBINDING. -/
def partTaken (s : State) (k : Nat) : Bool := (part s k).slot.isSome || (part s k).binding.isSome

/-- A unit in stand-alone test lies in a rectangle (R268). -/
def testInside (s : State) (rc : Rect) : Bool := s.lanes.tests.any fun t => (ltRouters t.params).any rc.hasRouter

/-- A bind that the module refuses for the state of the fabric: GROUP 0, not in good standing, or a port not UP (R485). -/
def latticeBusy (s : State) (im : Image) : Bool :=
  im.hdr.lattice && (s.lat.cfg.group == 0 || s.lat.standing != .good || !im.lattice.all fun l => portUp s l.port)

/-- IMAGE_BIND: a VALID slot and an existing free partition with the image's rectangle (R130). -/
def execImageBind (q : MciReq) (s : State) : Host.Outcome State Fault Refusal :=
  let p := mciParams q
  let n := bits p 0 3
  let k := bits p 8 2
  .next (mciFixed 0x0202 8 [(0, 3), (8, 2)] true q (fun s =>
    let im := (slot s n).image
    let rc := acceptedRect s k
    if (slot s n).state ≠ .valid ∨ rc.cols = 0 ∨ partTaken s k ∨ rc ≠ im.hdr.rect ∨ testInside s rc then
      mciStatus 0x0202 q mBusy s
    else if im.hdr.lattice && s.fw.vet == 1 then mciStatus 0x0202 q mUnvetted s
    else if latticeBusy s im then mciStatus 0x0202 q mBusy s
    else mciStatus 0x0202 q mSuccess (setSlot n { slot s n with state := .binding }
      (updPart k (fun x => { x with binding := some (n, s.clk.tick.toNat), prep := false }) s))) s)

/-- IMAGE_UNBIND: the bound slot is UNBINDING until its boundary; a later command may add FORCE (R131). -/
def execImageUnbind (q : MciReq) (s : State) : Host.Outcome State Fault Refusal :=
  let p := mciParams q
  let k := bits p 8 2
  .next (mciFixed 0x0203 8 [(8, 2), (16, 1)] true q (fun s =>
    match (part s k).slot with
    | none => mciStatus 0x0203 q mBusy s
    | some n => mciStatus 0x0203 q mSuccess (setSlot n { slot s n with state := .unbinding }
        (updPart k (fun x => { x with unbinding := some (bit1 p 16 || x.unbinding == some true) }) s))) s)

/-! ### Eviction and query (R127, R128) -/

/-- IMAGE_EVICT: a VALID or INVALID slot empties, a load is cancelled, a bound slot refuses. -/
def execImageEvict (q : MciReq) (s : State) : Host.Outcome State Fault Refusal :=
  let n := bits (mciParams q) 0 3
  .next (mciFixed 0x0204 8 [(0, 3)] true q (fun s =>
    let v := slot s n
    let clear := setSlot n { Slot.reset with report := v.report } s
    if !winSlot s (fnOfWho q.who) n 0 then mciStatus 0x0204 q mWindow (violation (fnOfWho q.who) 3 s)
    else match v.state with
      | .empty => mciStatus 0x0204 q mSuccess s
      | .loading => mciStatus 0x0204 q mSuccess (loadFails n mRejected 0x1B reportAborted reportAborted s)
      | .valid => mciStatus 0x0204 q mSuccess clear
      | .invalid => mciStatus 0x0204 q mSuccess clear
      | .binding => mciStatus 0x0204 q mBusy s
      | .bound => mciStatus 0x0204 q mBusy s
      | .unbinding => mciStatus 0x0204 q mBusy s) s)

/-- IMAGE_QUERY: state, BUILD_ID, rectangle, C and the last rejection report. -/
def execImageQuery (q : MciReq) (s : State) : Host.Outcome State Fault Refusal :=
  let n := bits (mciParams q) 0 3
  .next (mciFixed 0x0205 8 [(0, 3)] true q (fun s =>
    let v := slot s n
    let h := v.image.hdr
    if !winSlot s (fnOfWho q.who) n 2 then mciStatus 0x0205 q mWindow (violation (fnOfWho q.who) 3 s)
    else mciQuery 0x0205 q
      [v.state.code, h.buildId % 2 ^ 64, h.buildId / 2 ^ 64, h.rect.col0, h.rect.row0, h.rect.cols, h.rect.rows, h.contexts,
       v.report % 2 ^ 64, v.report / 2 ^ 64] s) s)

end Sys2Proof.Machine
end

