-- ==== Sys2Proof/Machine/PoolCmdOps.lean ====
section
/-! DEFINITION. Pool commands: judgement, tokens and leases, the arithmetic of REDUCE, the engines' own part (R435 to R440,
R451, R602). -/

namespace Sys2Proof.Machine

/-! ### Fields (Table 13.5) -/

def pcOp (c : Nat) : Nat := bits c 0 8
def pcEtype (c : Nat) : Nat := bits c 8 2
def pcFn (c : Nat) : Nat := bits c 10 2
def pcAcc (c : Nat) : Bool := bit1 c 12
def pcDreg (c : Nat) : Nat := bits c 16 12
def pcSreg (c : Nat) : Nat := bits c 32 12
def pcDoff (c : Nat) : Nat := bits c 64 48
def pcSoff (c : Nat) : Nat := bits c 128 48
def pcLen (c : Nat) : Nat := bits c 192 40
def pcSources (c : Nat) : Nat := bits c 256 6 + 1
def pcStride (c : Nat) : Nat := bits c 288 48
def pcValue (c : Nat) : Nat := bits c 352 32

/-- Fields that an operation uses (Tables 13.5, 13.6); none for a reserved one. -/
def pcFields (op : Nat) : Option (List (Nat × Nat)) := match op with
  | 1 => some [(0, 8), (16, 12), (64, 48), (192, 40), (352, 32)]
  | 2 => some [(0, 8), (16, 12), (32, 12), (64, 48), (128, 48), (192, 40)]
  | 3 => some [(0, 8), (16, 12), (32, 12), (64, 48), (128, 48), (192, 40)]
  | 4 => some [(0, 8), (8, 2), (10, 2), (12, 1), (16, 12), (32, 12), (64, 48), (128, 48), (192, 40), (256, 6), (288, 48)]
  | 5 => some [(0, 8), (16, 12)]
  | 6 => some [(0, 8), (16, 12), (128, 48)]
  | 7 => some [(0, 8), (16, 12), (352, 32)]
  | 8 => some [(0, 8), (16, 12)]
  | _ => none

/-- The command is well formed (Table 13.7, BAD_COMMAND). -/
def pcWellFormed (c : Nat) : Bool := match pcFields (pcOp c) with
  | none => false
  | some fs => reservedClear c fs && (pcOp c != 4 || (pcEtype c != 3 && pcFn c != 3)) &&
      (pcOp c != 7 || (decide (1 ≤ pcValue c) && decide (pcValue c ≤ 10000)))

/-- Rights that a command needs: region and whether W (Table 13.6). -/
def pcRights (c : Nat) : List (Nat × Bool) := match pcOp c with
  | 1 => [(pcDreg c, true)]
  | 2 => [(pcSreg c, false), (pcDreg c, true)]
  | 3 => [(pcSreg c, false), (pcDreg c, false)]
  | 4 => [(pcSreg c, false), (pcDreg c, true)]
  | 5 => [(pcDreg c, true)]
  | 6 => [(pcDreg c, false)]
  | 7 => [(pcDreg c, false)]
  | _ => []

/-- Regions that a command touches. -/
def pcRegions (c : Nat) : List Nat :=
  if pcOp c = 2 ∨ pcOp c = 3 ∨ pcOp c = 4 then [pcSreg c, pcDreg c] else [pcDreg c]

/-- Two ranges of one region overlap. -/
def overlaps (a b len : Nat) : Bool := decide (a < b + len) && decide (b < a + len)

/-- Every range lies within its region, aligned, without a forbidden overlap (R436, R437). -/
def pcRangeOk (s : State) (c : Nat) : Bool :=
  let len := pcLen c
  let dSize := (regionOf s (pcDreg c)).size * giB
  let sSize := (regionOf s (pcSreg c)).size * giB
  let one := pcSreg c == pcDreg c
  let lenOk := decide (64 ≤ len) && len % 64 == 0
  let dOk := pcDoff c % 64 == 0 && decide (pcDoff c + len ≤ dSize)
  let sOk := pcSoff c % 64 == 0 && decide (pcSoff c + len ≤ sSize)
  match pcOp c with
  | 1 => lenOk && dOk
  | 2 => lenOk && dOk && sOk && !(one && overlaps (pcSoff c) (pcDoff c) len)
  | 3 => lenOk && dOk && sOk
  | 4 => lenOk && dOk && pcStride c % 64 == 0 && pcSoff c % 64 == 0 &&
      (rangeFrom 0 (pcSources c)).all fun k =>
        let o := pcSoff c + k * pcStride c
        decide (o + len ≤ sSize) && !(one && overlaps o (pcDoff c) len)
  | _ => true

/-- Status that refuses a command whose rights have been judged: `denied` is the status of a missing right. -/
def pcRefusal (s : State) (c : Nat) (denied : Option Nat) : Option Nat :=
  if !pcWellFormed c then some 1
  else match denied with
    | some st => some st
    | none =>
      let rs := (pcRegions c).map (regionOf s)
      if rs.any Region.missing then some 3
      else if rs.any fun r => r.state == 5 then some 7
      else if (pcOp c == 1 || pcOp c == 2 || pcOp c == 4) && (regionOf s (pcDreg c)).mode == 1 then some 5
      else if !pcRangeOk s c then some 4
      else if 512 ≤ s.pool.cmds.length then some 9
      else none

/-! ### Access lists (R396, R403, R404) -/

/-- A host holds a right on a region. -/
def aclAllows (s : State) (pbr region : Nat) (write : Bool) : Bool :=
  (regionOf s region).acl.any fun a => a.pbr == pbr && (if write then a.wr else a.rd)

/-- Count a denial of a region; the first under each generation writes one EVENT entry (R404). -/
def denial (region : Nat) (s : State) : State :=
  let s1 := countUp 0x0304 region s
  let g := s.win.gen.toNat
  if Tab.get 0 s.win.noted (128 + region) = g + 1 then s1
  else
    sendEvent ⟨0x7004, 3, region, some (put 4 0 8 + put g 8 56), 0x114, 0⟩
      { s1 with win := { s1.win with noted := Tab.set 0 s1.win.noted (128 + region) (g + 1) } }

/-! ### Tokens and leases (R439, R440) -/

/-- The oldest token completes, and every replica of the table learns DONE and GOOD (R420, R439). -/
def completeToken (region : Nat) (good : Bool) (s : State) : State :=
  replicate region (updRegion region (fun r => match r.tokens with
    | [] => r
    | t :: rest => { r with tokens := rest, done := t.t, good := if good && !t.bad then t.t else r.good }) s)

/-- The lines of a dense-backed region that are DIRTY or WRITING now are written back, and the drives flush, for its token
(R439). -/
def tokenFlush (region t : Nat) (s : State) : State :=
  let r := regionOf s region
  let bs := ((s.dense.lines.map fun e => e.1).filterMap (flushNeeds s)).filter fun e => r.extents.contains (e.1 / 262144)
  let ds := (s.dense.attached.map fun e => e.1).filter fun d => !(driveOf s d).failed
  denseGo { s with dense := { s.dense with flushes := s.dense.flushes ++ [⟨0, 0, bs, ds, false, some (region, t)⟩] } }

/-- FLUSH: the next token; in HBM every completed write is already held in every copy (R430, R439, R602). -/
def flushToken (region : Nat) (s : State) : (Nat × Nat × Nat) × State :=
  let r := regionOf s region
  if 2 ^ 48 - 2 ≤ r.issued then ((9, 0, 0), s)
  else
    let t := r.issued + 1
    let s1 := updRegion region (fun g => { g with
      issued := t, tokens := g.tokens ++ [⟨t, s.clk.wallPs, false, false⟩] }) s
    ((0, 0, t), if r.backing = 0 then (if r.tokens.isEmpty then completeToken region true s1 else s1)
      else tokenFlush region t (replicate region s1))

/-- The lease in force now. -/
def leaseNow (s : State) (r : Region) : Option (Nat × Nat) := match r.lease with
  | some (h, t) => if s.clk.wallPs < t then some (h, t) else none
  | none => none

/-- LEASE: granted to the holder or while none is held; AUX is the holder and the remaining ms (R440). -/
def takeLease (region holder ms : Nat) (s : State) : (Nat × Nat × Nat) × State :=
  let r := regionOf s region
  match leaseNow s r with
  | some (h, t) =>
    if h = holder then
      ((0, 0, put holder 0 32 + put ms 32 32), updRegion region (fun g => { g with
        lease := some (holder, s.clk.wallPs + ms * 1000000000) }) s)
    else ((0, 1, put h 0 32 + put ((t - s.clk.wallPs) / 1000000000) 32 32), s)
  | none =>
    if s.clk.wallPs < r.leaseFrom then ((0, 1, 0), s)
    else ((0, 0, put holder 0 32 + put ms 32 32), updRegion region (fun g => { g with
      lease := some (holder, s.clk.wallPs + ms * 1000000000) }) s)

/-- FLUSH, STATUS, LEASE and UNLEASE at the coordinator: status, RESULT, AUX (Table 13.6, R439, R440). -/
def tokenRun (c holder : Nat) (s : State) : (Nat × Nat × Nat) × State :=
  let region := pcDreg c
  let r := regionOf s region
  match pcOp c with
  | 5 => flushToken region s
  | 6 =>
    let t := pcSoff c
    ((0, if t ≤ r.good then 0 else if t ≤ r.done then 1 else 2, r.done), s)
  | 7 => takeLease region holder (pcValue c) s
  | _ => match leaseNow s r with
    | some (h, _) =>
      if h = holder then ((0, 0, 0), updRegion region (fun g => { g with lease := none }) s) else ((0, 1, 0), s)
    | none => ((0, 1, 0), s)

/-! ### Starting a command -/

/-- Command by ID. -/
def cmdOf (s : State) (id : Nat) : Option PoolCmd := s.pool.cmds.find? fun c => c.id == id

/-- Queue a command on the engines. -/
def queueCmd (by_ : CmdBy) (c holder : Nat) (s : State) : State :=
  let aux := if pcOp c = 3 then 2 ^ 64 - 1 else 0
  { s with pool := { s.pool with
    cmds := s.pool.cmds ++ [⟨s.pool.nextId, by_, c, holder, 0, false, 0, 0, aux, s.win.gen.toNat⟩], nextId := s.pool.nextId + 1 } }

/-- FENCE: every earlier command of the mailbox has ended (Table 13.2). -/
def fenceOk (s : State) (x : PoolCmd) : Bool := match x.by_ with
  | .mailbox pbr _ _ true => !(s.pool.cmds.any fun y => decide (y.id < x.id) && match y.by_ with
      | .mailbox p _ _ _ => p == pbr
      | _ => false)
  | _ => true

/-- The position of the destination that this module's engines work on (R438): the whole of an unprotected or mirrored
region, a data member of a stripe, or at the parity member the lost one. -/
def myPart (s : State) (r : Region) : Option Nat := match myMember s r with
  | none => none
  | some m =>
    if r.prot = 0 then some 0
    else if r.prot = 1 then (if m = mirrorHead s r 0 then some 0 else none)
    else if m < 8 then some m
    else if r.state = 3 then r.lost else none

/-- Positions that a range of a region covers. -/
def positionsOf (r : Region) (off len : Nat) : List Nat :=
  if r.prot = 2 then
    let first := off / 4096
    let last := (off + len - 1) / 4096
    (rangeFrom 0 8).filter fun i => decide (7 ≤ last - first) || (rangeFrom first (last - first + 1)).any fun b => b % 8 == i
  else [0]

/-- Modules besides this one that hold a part of the destination. -/
def partModules (s : State) (r : Region) (off len : Nat) : List Nat :=
  ((positionsOf r off len).map fun i =>
    if r.prot = 2 then (if r.state = 3 ∧ r.lost = some i then r.moduleOf 8 else r.moduleOf i)
    else r.moduleOf (if r.prot = 1 then mirrorHead s r 0 else 0)).eraseDups.filter fun m => m != self s

/-- Send a part of a command to another module; token and lease traffic names the holder (R440). -/
def sendPart (uop m id c holder kind : Nat) (s : State) : State :=
  updCmd id (fun x => { x with left := x.left + 1 }) (sendReq m uop (pcDreg c) 0 0 0
    (if uop = 7 then c + put holder 384 32 else c) kind id s)

/-! ### Lines of a part -/

/-- Region offsets of the destination lines of a part, ascending. -/
def partLines (r : Region) (off len pos : Nat) : List Nat :=
  (rangeFrom 0 (len / 64)).filterMap fun i =>
    let o := off + 64 * i
    if r.prot ≠ 2 ∨ (r.locate o).1 = pos then some o else none

/-- Read a source line: from this module's HBM where it lies there, else the next line fetched over Lattice or through the
cache. -/
def sourceLine (region o : Nat) (fetched : List LineIn) (s : State) : Option ((LineData × Bool) × List LineIn × State) :=
  let r := regionOf s region
  let (m, off) := r.locate o
  let mine := match myMember s r with
    | none => false
    | some i => (r.prot == 1 || i == m) && !absent s r i off
  match mine, placeOf r off with
  | true, some (.hbm l) =>
    let (b, s1) := hbmRead l s
    some ((b.data, b.poison), fetched, s1)
  | _, _ => match fetched with
    | x :: rest => some ((x.data, x.poison), rest, s)
    | [] => none

/-- Write a destination line under R430. -/
def destLine (id region o : Nat) (d : LineData) (s : State) : State :=
  let (m, off) := (regionOf s region).locate o
  startAcc (.cmd id) region m off true d false 0 (updCmd id (fun x => { x with left := x.left + 1 }) s)

/-- The command stops at a poisoned source line: AUX is its offset (R438). -/
def stopPoison (id o : Nat) (s : State) : State :=
  updCmd id (fun x => if x.status = 0 then { x with status := 6, aux := o } else x) s

/-- COPY line by line. -/
def copyLines (id c : Nat) : List Nat → List LineIn → State → Option State
  | [], _, s => some s
  | o :: t, f, s => match sourceLine (pcSreg c) (pcSoff c + (o - pcDoff c)) f s with
    | none => none
    | some ((d, poison), f1, s1) =>
      if poison then some (stopPoison id (pcSoff c + (o - pcDoff c)) s1)
      else copyLines id c t f1 (destLine id (pcDreg c) o d s1)

/-- The lowest byte in which two lines differ. -/
def firstDiff (a b : LineData) : Nat :=
  ((rangeFrom 0 64).find? fun i => bits (a ^^^ b).toNat (8 * i) 8 != 0).getD 0

/-- COMPARE line by line, up to the first difference. -/
def compareLines (id c : Nat) : List Nat → List LineIn → State → Option State
  | [], _, s => some s
  | o :: t, f, s => match sourceLine (pcSreg c) (pcSoff c + (o - pcDoff c)) f s with
    | none => none
    | some ((a, pa), f1, s1) =>
      if pa then some (stopPoison id (pcSoff c + (o - pcDoff c)) s1)
      else match sourceLine (pcDreg c) o f1 s1 with
        | none => none
        | some ((b, pb), f2, s2) =>
          if pb then some (stopPoison id o s2)
          else if a = b then compareLines id c t f2 s2
          else some (updCmd id (fun x =>
            let d := o - pcDoff c + firstDiff a b
            if x.status = 0 ∧ d < x.aux then { x with result := 1, aux := d } else x) s2)

/-! ### REDUCE (R437) -/

/-- Order key of a binary32 number: numeric order with −0 below +0. -/
def fpKey (x : BitVec 32) : Nat := if fpSign x then 2 ^ 31 - 1 - fpMag x else 2 ^ 31 + fpMag x
/-- MIN or MAX of binary32. -/
def fpPick (greatest : Bool) (a b : BitVec 32) : BitVec 32 :=
  if fpIsNaN a || fpIsNaN b then fpNaN
  else if decide (fpKey a < fpKey b) == greatest then b else a
/-- MIN or MAX of signed INT32. -/
def intPick (greatest : Bool) (a b : BitVec 32) : BitVec 32 := if a.slt b == greatest then b else a

/-- Combine two operands of one element in accumulator form: BF16 is widened to binary32. -/
def reduceStep (etype fn : Nat) (a b : BitVec 32) : BitVec 32 :=
  if etype = 2 then (if fn = 0 then a + b else intPick (fn == 2) a b)
  else if fn = 0 then fpAdd a b else fpPick (fn == 2) a b

/-- Element j of a line in accumulator form. -/
def reduceElem (etype : Nat) (d : LineData) (j : Nat) : BitVec 32 :=
  if etype = 1 then bf16Widen (lineElem 16 d j) else lineElem 32 d j

/-- Combine operands strictly left to right. -/
def reduceElems (etype fn : Nat) (ls : List LineData) (j : Nat) : BitVec 32 := match ls with
  | [] => 0
  | d :: t =>
    let first := reduceElem etype d j
    let start := if fn ≠ 0 ∧ etype ≠ 2 ∧ fpIsNaN first then fpNaN else first
    t.foldl (fun a e => reduceStep etype fn a (reduceElem etype e j)) start

/-- The destination line of a reduction; BF16 is rounded once at the end. -/
def reduceLine (etype fn : Nat) (ls : List LineData) : LineData :=
  if etype = 1 then lineOf 16 32 fun j => bf16Rne (reduceElems etype fn ls j)
  else lineOf 32 16 fun j => reduceElems etype fn ls j

/-- The operand lines of one destination line, in order; the offset of the first poisoned one ends the command. -/
def operandLines (region : Nat) : List (Nat × Nat) → List LineIn → State →
    Option ((List LineData × Option Nat) × List LineIn × State)
  | [], f, s => some (([], none), f, s)
  | (r, o) :: t, f, s => match sourceLine r o f s with
    | none => none
    | some ((d, poison), f1, s1) =>
      if poison then some (([], some o), f1, s1)
      else match operandLines region t f1 s1 with
        | none => none
        | some ((ds, bad), f2, s2) => some ((d :: ds, bad), f2, s2)

/-- REDUCE line by line. -/
def reduceLines (id c : Nat) : List Nat → List LineIn → State → Option State
  | [], _, s => some s
  | o :: t, f, s =>
    let srcs := (rangeFrom 0 (pcSources c)).map fun k => (pcSreg c, pcSoff c + k * pcStride c + (o - pcDoff c))
    let ops := if pcAcc c then (pcDreg c, o) :: srcs else srcs
    match operandLines 0 ops f s with
    | none => none
    | some ((_, some bad), _, s1) => some (stopPoison id bad s1)
    | some ((ds, none), f1, s1) =>
      reduceLines id c t f1 (destLine id (pcDreg c) o (reduceLine (pcEtype c) (pcFn c) ds) s1)

/-- FILL: VALUE repeated over a line. -/
def fillLineOf (c : Nat) : LineData := lineOf 32 16 fun _ => BitVec.ofNat 32 (pcValue c)

/-- A data command of an operation runs: parts go to the other modules that hold destination lines, unless it is itself
such a part, and this module's engines do their own (R438). Lines that are not at hand must all be given. -/
def runData (op id : Nat) (lines : Nat → List Nat → State → Option State) (s : State) : State :=
  match cmdOf s id with
  | none => s
  | some x =>
    if pcOp x.cmd ≠ op ∨ x.ran ∨ !fenceOk s x then s
    else
      let r := regionOf s (pcDreg x.cmd)
      let others := match x.by_ with
        | .part _ _ => []
        | _ => partModules s r (pcDoff x.cmd) (pcLen x.cmd)
      let s1 := others.foldl (fun t m => sendPart 5 m id x.cmd x.holder 3 t) (updCmd id (fun c => { c with ran := true }) s)
      match myPart s1 r with
      | none => s1
      | some pos => (lines x.cmd (partLines r (pcDoff x.cmd) (pcLen x.cmd) pos) s1).getD s

/-- A token or lease command runs: here when this module coordinates the region, else at the coordinator (R439, R440). -/
def runToken (op id : Nat) (s : State) : State :=
  match cmdOf s id with
  | none => s
  | some x =>
    if pcOp x.cmd ≠ op ∨ x.ran ∨ !fenceOk s x then s
    else
      let k := regionCoord s (regionOf s (pcDreg x.cmd))
      if k = self s then
        let ((st, res, aux), s1) := tokenRun x.cmd x.holder s
        updCmd id (fun c => { c with ran := true, status := st, result := res, aux := aux }) s1
      else sendPart 7 k id x.cmd x.holder 5 (updCmd id (fun c => { c with ran := true }) s)

/-- Result and AUX as an answer between modules: the places of the response line (Table 13.2). DESIGN CHOICE, log entry 37. -/
def resultBody (status result aux : Nat) : Nat := put status 8 8 + put result 16 16 + put aux 64 64

/-- A part has ended on another module. -/
def partDone (id status body : Nat) (s : State) : State :=
  updCmd id (fun x =>
    let y := { x with left := x.left - 1 }
    let (res, aux) := (bits body 16 16, bits body 64 64)
    if x.status ≠ 0 then y
    else if status ≠ 0 then { y with status := status, aux := aux }
    else if pcOp x.cmd = 3 then (if res = 1 ∧ aux < x.aux then { y with result := 1, aux := aux } else y)
    else if 5 ≤ pcOp x.cmd then { y with result := res, aux := aux }
    else y) s

end Sys2Proof.Machine
end

