-- ==== Sys2Proof/Machine/PoolReg.lean ====
section
/-! DEFINITION. Region commands at their coordinator, TABLE traffic, and the switch of access lists (R420, R424 to R427,
R400, R453). The content of TABLE requests is the model's own layout: kind in [7:0], then the kind's fields. -/

namespace Sys2Proof.Machine

/-! ### Parameters (R424 to R426) -/

def prRegion (x : Nat) : Nat := bits x 0 12
def prOp (x : Nat) : Nat := bits x 12 2
def prProt (x : Nat) : Nat := bits x 14 2
def prMode (x : Nat) : Nat := bits x 16 1
def prBacking (x : Nat) : Nat := bits x 17 1
def prIndex (x : Nat) : Nat := bits x 20 4
def prRate (x : Nat) : Nat := bits x 24 8
def prSize (x : Nat) : Nat := bits x 32 16
/-- Member entry i. -/
def prMember (x i : Nat) : Nat := bits x (64 + 16 * i) 10
/-- The members that CREATE names. -/
def prMembers (x : Nat) : List Nat := (rangeFrom 0 (memberCount (prProt x))).map (prMember x)

/-- The fields of POOL_REGION_CREATE by its OP; the remaining bits are reserved, and entries beyond the mode's count are
zero. -/
def prFields (x : Nat) : List (Nat × Nat) :=
  if prOp x = 0 then [(0, 14), (14, 2), (16, 1), (17, 1), (32, 16)] ++
    (rangeFrom 0 (memberCount (prProt x))).map fun i => (64 + 16 * i, 10)
  else [(0, 14), (20, 4), (24, 8), (64, 10)]

/-- Its values are in range (R424). -/
def prRangeOk (s : State) (x : Nat) : Bool :=
  let ms := prMembers x
  if prOp x = 0 then
    prProt x != 3 && decide (1 ≤ prSize x) && decide (prSize x ≤ 4096) && (prProt x != 2 || prSize x % 8 == 0) &&
    ms.all (fun m => decide (m < s.lat.cfg.modules) && moduleLive s m) && ms.eraseDups.length == ms.length
  else
    prOp x == 1 && decide (prRate x ≤ 64) && decide (prMember x 0 < s.lat.cfg.modules) && moduleLive s (prMember x 0)

/-- An entry of an access list. -/
def aclEntry (x i : Nat) : Access :=
  let o := 128 + 32 * i
  ⟨bits x o 12, bit1 x (o + 12), bit1 x (o + 13)⟩
/-- The list and mode that POOL_ACCESS_SET carries. -/
def aclOf (x : Nat) : List Access × Nat := ((rangeFrom 0 (bits x 16 6)).map (aclEntry x), bits x 12 1)
/-! ### Access lists in force -/

/-- Offers and releases of a region's extents when its list changes (R427). -/
def offers (tag : Nat) (old new : List Access) : List Output :=
  (((old.map Access.pbr).filter fun p => !(new.map Access.pbr).contains p).map fun p => .capacity tag p false) ++
  ((new.map Access.pbr).filter fun p => !(old.map Access.pbr).contains p).map fun p => .capacity tag p true

/-- Offers and releases of the control extent when the hosts on any list change (R418). -/
def controlOffers (old new : List Nat) : List Output :=
  ((old.filter fun p => !new.contains p).map fun p => .controlExtent p false) ++
  (new.filter fun p => !old.contains p).map fun p => .controlExtent p true

/-- The tag of a region: REGION and the domain number (R417). -/
def regionTag (s : State) (region : Nat) : Nat := region % 4096 + put s.lat.cfg.domain 16 16

/-- Bring a list and mode into force on this module (R426, R427); the generation moves with the switch that does it. -/
def aclInForce (region : Nat) (l : List Access) (mode : Nat) (s : State) : State :=
  let old := (regionOf s region).acl
  let s1 := updRegion region (fun r => { r with acl := l, mode := mode, shadow := none }) s
  updateBoxes (if s.pins.poolRole then
    emitAll (offers (regionTag s region) old l ++ controlOffers (listedIds s) (listedIds s1)) s1 else s1)

/-- A generation switch (R400, R425). -/
def bumpGen (s : State) : State := { s with win := { s.win with gen := s.win.gen + 1 } }

/-- The lists that PF0 wrote since the last switch come into force here and on every other live module; answers the
number of modules to hear from (R400, R426). -/
def poolSwitch (ref : Nat) (s : State) : Nat × State :=
  let l := s.pool.written.filterMap fun g => (regionOf s g).shadow.map fun x => (g, x)
  let ms := otherModules s
  let t1 := l.foldl (fun u e => aclInForce e.1 e.2.1 e.2.2 u) { s with pool := { s.pool with written := [] } }
  let t2 := l.foldl (fun u e => ms.foldl (fun v m =>
    sendTable m e.1 (4 + 2 ^ 64 * aclParams e.1 e.2.1 e.2.2) 4 ref v) u) t1
  (l.length * ms.length, t2)

/-! ### Region commands at the coordinator (R420, R424 to R426) -/

/-- The opcode with its region, and for REPLACE the new module and the rate. -/
def opxOf (op x : Nat) : Nat :=
  op + 2 ^ 16 * prRegion x + if op = 0x0501 ∧ prOp x = 1 then 2 ^ 28 * prMember x 0 + 2 ^ 38 * prRate x else 0

/-- The region that CREATE makes. -/
def newRegion (x : Nat) : Region := { Region.reset with
  state := 1, prot := prProt x, mode := prMode x, backing := prBacking x, size := prSize x, members := prMembers x }

/-- Allocate on this module for CREATE, or for REPLACE as the new module. -/
def allocHere (x : Nat) (s : State) : Option State :=
  if prOp x = 0 then
    (if (regionOf s (prRegion x)).state = 0 then allocExtents (prRegion x) (updRegion (prRegion x) (fun _ => newRegion x) s)
     else none)
  else allocExtents (prRegion x) s

/-- Send a command's orders to the modules of a list, and wait for their answers. -/
def orderAll (kind : Nat) (ms : List Nat) (who opx tag x : Nat) (s : State) : State :=
  let t := ms.foldl (fun u m => sendTable m (prRegion x) (kind + 2 ^ 64 * x) 4 (tableRef who tag) u) s
  tableWait who opx tag ms.length t

/-- CREATE (R424). -/
def createRun (who tag x : Nat) (s : State) : State :=
  let opx := opxOf 0x0501 x
  if (regionOf s (prRegion x)).state ≠ 0 then answerTable who opx tag mBusy s
  else
    let ms := (prMembers x).filter fun m => m != self s
    if (prMembers x).contains (self s) then
      match allocHere x s with
      | none => answerTable who opx tag mResource s
      | some t => orderAll 2 ms who opx tag x t
    else orderAll 2 ms who opx tag x (updRegion (prRegion x) (fun _ => newRegion x) s)

/-- REPLACE (R424, R443). -/
def replaceRun (who tag x : Nat) (s : State) : State :=
  let opx := opxOf 0x0501 x
  let r := regionOf s (prRegion x)
  if r.state ≠ 3 ∨ r.lost ≠ some (prIndex x) then answerTable who opx tag mBusy s
  else if r.members.contains (prMember x 0) then answerTable who opx tag mBadParam s
  else if prMember x 0 = self s then
    match allocHere x s with
    | none => answerTable who opx tag mResource s
    | some t => orderAll 2 [] who opx tag x t
  else orderAll 2 [prMember x 0] who opx tag x s

/-- The access list is emptied and the region is DELETING (R425). -/
def deleteHere (region : Nat) (s : State) : State :=
  bumpGen (aclInForce region [] (regionOf s region).mode (updRegion region (fun r => { r with state := 6 }) s))

/-- DELETE (R425). -/
def deleteRun (who tag x : Nat) (s : State) : State :=
  let opx := opxOf 0x0502 x
  if (regionOf s (prRegion x)).state ≤ 1 then answerTable who opx tag mBusy s
  else orderAll 3 (otherModules s) who opx tag x (deleteHere (prRegion x) s)

/-- ACCESS_SET: the shadow at the coordinator (R426). -/
def accessRun (who tag x : Nat) (s : State) : State :=
  if (regionOf s (prRegion x)).state = 0 then answerTable who (opxOf 0x0503 x) tag mBusy s
  else answerTable who (opxOf 0x0503 x) tag mSuccess
    (updRegion (prRegion x) (fun r => { r with shadow := some (aclOf x) }) s)

/-- A region command at its coordinator. -/
def regionRun (op who tag x : Nat) (s : State) : State := match op with
  | 0x0501 => if prOp x = 0 then createRun who tag x s else replaceRun who tag x s
  | 0x0502 => deleteRun who tag x s
  | _ => accessRun who tag x s

/-- The module that coordinates a region command: for CREATE the lowest-numbered member named (R420). -/
def coordFor (s : State) (op x : Nat) : Nat :=
  if op = 0x0501 ∧ prOp x = 0 then (leastOf (prMembers x)).getD (self s)
  else regionCoord s (regionOf s (prRegion x))

/-- A region command accepted on this module: run here, or forwarded to the coordinator (R420). -/
def regionCommand (op : Nat) (q : MciReq) (s : State) : State :=
  let x := mciParams q
  let k := coordFor s op x
  let s1 := mciHold op q s
  if k = self s then regionRun op q.who q.tag x s1
  else
    let s2 := sendTable k (prRegion x) (1 + put op 8 16 + 2 ^ 64 * x) 4 (tableRef q.who q.tag) s1
    tableWait q.who (forwarded + op) q.tag 1 s2

/-! ### TABLE requests -/

/-- Every extent of a DELETING region on this module is back: the coordinator learns so. -/
def extentsDone (region : Nat) (s : State) : State :=
  let k := regionCoord s (regionOf s region)
  if k = self s then s else sendTable k region 7 6 0 s

/-- The entry of a region as another module sends it. -/
def entryHere (src region x : Nat) (s : State) : State :=
  let old := regionOf s region
  let new := takeEntry x old
  if new.state = 0 then updRegion region (fun _ => Region.reset) (releaseExtents region s)
  else
    let s1 := updRegion region (fun _ => { new with
      rebuildAt := if old.state ≠ 4 ∧ new.state = 4 then s.clk.wallPs else old.rebuildAt
      cursor := if old.state ≠ 4 ∧ new.state = 4 then 0 else old.cursor
      locked := old.locked && old.state == 4 && new.state == 4 }) s
    unlockStripe region (match new.lost with
    | some i => if old.lost = some i ∧ old.state = new.state then s1 else rerouteLost (old.moduleOf i) region s1
    | none => if src = self s then s else s1)

/-- A TABLE request: a forwarded command, an allocation, a release, a list in force, an entry, extents given back. The
commands answer for themselves; the others are answered with a status (R420, R424 to R426). -/
def tableHere (src tag region x : Nat) (s : State) : State :=
  let p := x / 2 ^ 64
  let done (st : Nat) (t : State) : State := sendRsp src 6 tag region 0 0 0 st 0 t
  match x % 256 with
  | 1 => regionRun (bits x 8 16) (whoModule src) tag p s
  | 2 => match allocHere p s with
    | none => done mResource s
    | some t => done 0 t
  | 3 =>
    let t := done 0 (deleteHere region s)
    if (regionOf t region).extents.isEmpty then extentsDone region t else t
  | 4 => done 0 (aclInForce region (aclOf p).1 (aclOf p).2 s)
  | 5 => done 0 (entryHere src region x s)
  | 7 => done 0 (updRegion region (fun r => { r with members := r.members.filter fun m => m != src }) s)
  | _ => done 1 s

/-- A TABLE request is being worked on. -/
def tableBusy (s : State) (src tag : Nat) : Bool := s.pool.tables.any fun t => t.1 == whoModule src && t.2.2.1 == tag

end Sys2Proof.Machine
end

