-- ==== Sys2Proof/Machine/PoolReq.lean ====
section
/-! DEFINITION. Requests and responses between modules, and the requests of fabric hosts on the pool port (R415 to R419,
R430, R433, R463). -/

namespace Sys2Proof.Machine

/-! ### Unscheduled flits -/

/-- What follows the unscheduled header: a command (CMD, TOKEN), or lines. -/
def unschBody (uop : Nat) (u : UnschIn) : Nat :=
  if uop = 5 ∨ uop = 7 then u.cmd else linesBody (u.lines.map LineIn.data)

/-- A flit for another module goes on by its route, one hop further (R460). -/
def passOn (h : FlitHdr) (type uop : Nat) (u : UnschIn) (s : State) : State :=
  match unschedPort s h.src h.dst u.tag with
  | none => s
  | some p => sendFlit p (some h.port) ⟨type, h.vc, h.src, h.dst, h.hops + 1, h.xt,
      unschedPayload uop u.tag u.region u.nl (poisonBits (u.lines.map LineIn.poison)) u.off u.status (unschBody uop u)⟩ s

/-- A request of another module is being worked on: it has no answer yet. -/
def reqBusy (s : State) (src tag : Nat) : Bool :=
  tableBusy s src tag || (s.pool.serving.any fun v => v.src == src && v.tag == tag) ||
  s.pool.cmds.any fun c => c.by_ == .part src tag

/-- A UREQ arrives: passed on, answered with the kept response, or executed once (R460, R463, R466). -/
def takeReq (h : FlitHdr) (uop : Nat) (u : UnschIn) (act : State → State) (s : State) : State :=
  rxFlit h (fun t =>
    if h.dst ≠ self t then passOn h 3 uop u t
    else match t.lat.kept.find? fun k => k.1 == h.src && k.2.1 == u.tag && !keptStale t u.tag k with
      | some k => match unschedPort t (self t) h.src u.tag with
        | none => t
        | some p => sendFlit p none k.2.2.1 t
      | none => if reqBusy t h.src u.tag then t else act t) s

/-- The lines of a request as accesses of this module's part, each in its own way (R463). -/
def serveLinesOf (h : FlitHdr) (uop : Nat) (u : UnschIn) (each : Nat → LineIn → State → State) (s : State) : State :=
  let s1 := { s with pool := { s.pool with
    serving := ⟨h.src, u.tag, uop, u.region, u.off, u.nl, 0, []⟩ :: s.pool.serving } }
  if u.nl = 0 then servedLine h.src u.tag 0 0 false 0 { s with pool := { s.pool with
    serving := ⟨h.src, u.tag, uop, u.region, u.off, 1, 0, []⟩ :: s.pool.serving } }
  else (rangeFrom 0 u.nl).foldl (fun t i => each i (u.lines[i]?.getD ⟨0, false⟩) t) s1

/-- A request for a region: this module must be a member and the lines must lie within its part. -/
def withMember (h : FlitHdr) (uop : Nat) (u : UnschIn) (act : Region → Nat → State → State) (s : State) : State :=
  let r := regionOf s u.region
  let bad (st : Nat) : State := sendRsp h.src uop u.tag u.region 0 0 u.off st 0 s
  match myMember s r with
  | none => bad 3
  | some m =>
    if r.state ≤ 1 then bad 3
    else if r.extents.length * giB < u.off + 64 * u.nl then bad 4
    else act r m s

/-- The member whose line a request at this module is about: its own, or at the parity member the lost one (R441). -/
def aboutMember (r : Region) (m : Nat) : Nat := if m = 8 then r.lost.getD 8 else m

/-- READ of lines. -/
def reqRead (h : FlitHdr) (u : UnschIn) (s : State) : State :=
  withMember h 1 u (fun r m t => serveLinesOf h 1 u (fun i _ v =>
    startAcc (.remote h.src u.tag i) u.region (aboutMember r m) (u.off + 64 * i) false 0 false 0 v) t) s

/-- WRITE of lines: a copy from the module that orders a mirrored region's writes, or a write that this module orders. A
copy above the rebuild cursor is dropped, since the rebuild brings the line later; a write that the rebuilding member hands to the
parity member takes the DEGRADED rule (R430, R443). -/
def reqWrite (h : FlitHdr) (u : UnschIn) (s : State) : State :=
  withMember h 2 u (fun r m t => serveLinesOf h 2 u (fun i l v =>
    let off := u.off + 64 * i
    let handed : Bool := r.prot == 2 && m == 8 && r.state == 4 && r.lost.any fun j => j != 8 && h.src == r.moduleOf j
    let copy : Bool := r.prot == 1 && h.src == r.moduleOf (mirrorHead v r off) && m != mirrorHead v r off
    if copy && absent v r m off then servedLine h.src u.tag i 0 false 0 v
    else startAcc (.remote h.src u.tag i) u.region (aboutMember r m) off true l.data l.poison 
      (if copy then 5 else if handed then 13 else 0) v) t) s

/-- DELTA of lines at the parity member; above the rebuild cursor it is dropped (R430, R441). -/
def reqDelta (h : FlitHdr) (u : UnschIn) (s : State) : State :=
  withMember h 3 u (fun r m t => serveLinesOf h 3 u (fun i l v =>
    let off := u.off + 64 * i
    if absent v r m off then servedLine h.src u.tag i 0 false 0 v
    else startAcc (.remote h.src u.tag i) u.region m off true l.data l.poison 7 v) t) s

/-- A rebuild reads this module's line at an offset: the cursor stands there and the stripe is locked, and accesses to the stripe
before go on (R443). DESIGN CHOICE, log entry 36: the next line in ascending order unlocks the one before. -/
def rebuildAtLine (src region off : Nat) (s : State) : State :=
  let r := regionOf s region
  if r.state = 4 ∧ (r.lost.any fun j => src == r.moduleOf j && src != self s) ∧ (off = r.cursor ∨ off = r.cursor + 64) then
    unlockStripe region (updRegion region (fun g => { g with cursor := off, locked := true }) s)
  else s

/-- REBUILD: lines of this module's own part as they are, each after the writes of the line; a part that this module cannot serve
answers LOST. -/
def reqRebuild (h : FlitHdr) (u : UnschIn) (s : State) : State :=
  withMember h 4 u (fun r m t => serveLinesOf h 4 u (fun i _ v =>
    let off := u.off + 64 * i
    if absent v r m off then servedLine h.src u.tag i 0 true 7 v
    else startAcc (.remote h.src u.tag i) u.region m off false 0 false (if lineWriting v u.region off then 10 else 8) v)
      (rebuildAtLine h.src u.region u.off t)) s

/-- CMD: a part of a pool command for this module's engines (R438). -/
def reqCmd (h : FlitHdr) (u : UnschIn) (s : State) : State :=
  if 512 ≤ s.pool.cmds.length then sendRsp h.src 5 u.tag u.region 0 0 0 9 0 s
  else queueCmd (.part h.src u.tag) (bits u.cmd 0 384) 0 s

/-- TOKEN: token and lease traffic at the coordinator (R439, R440). -/
def reqToken (h : FlitHdr) (u : UnschIn) (s : State) : State :=
  let ((st, res, aux), s1) := tokenRun (bits u.cmd 0 384) (bits u.cmd 384 32) s
  sendRsp h.src 7 u.tag u.region 0 0 0 st (resultBody st res aux) s1

/-- A response arrives for this module: the request is no longer outstanding, and its requester goes on (R463). -/
def takeRsp (h : FlitHdr) (uop : Nat) (u : UnschIn) (s : State) : State :=
  match s.lat.outReqs.find? fun q => q.dst == h.src && q.tag == u.tag with
  | none => s
  | some q =>
    let s1 := admitWaiting q.dst { s with lat := { s.lat with
      outReqs := s.lat.outReqs.filter fun r => !(r.dst == q.dst && r.tag == q.tag) } }
    let l := u.lines.headD ⟨0, false⟩
    match q.kind with
    | 0 => poolReply q.ref l.data l.poison u.status s1
    | 3 => partDone q.ref u.status (unschBody uop u) s1
    | 5 => partDone q.ref u.status (unschBody uop u) s1
    | 4 => tableReply q.ref u.status s1
    | _ => s1

/-! ### Fabric hosts on the pool port (R415 to R419) -/

/-- The pool port serves requests: port 1 in its pool role, its link up, the device ready (R415, R561). -/
def poolPortUp (s : State) : Bool := s.boot.ready && s.pins.poolRole && s.boot.linkUp1

/-- Mailbox slot of a host. -/
def mailSlot (s : State) (pbr slot : Nat) : MailSlot := Tab.get MailSlot.reset s.pool.slots (8 * pbr + slot)
/-- Change a mailbox slot. -/
def updMail (pbr slot : Nat) (f : MailSlot → MailSlot) (s : State) : State :=
  { s with pool := { s.pool with slots := Tab.upd MailSlot.reset s.pool.slots (8 * pbr + slot) f } }

/-- A 64-byte line of the control extent as its host reads it: response lines of its mailbox, zero elsewhere (R418,
R419). -/
def controlLine (s : State) (pbr off : Nat) : LineData :=
  if off < 1024 ∧ off / 64 % 2 = 1 then BitVec.ofNat 512 (mailSlot s pbr (off / 128)).response else 0

/-- A host request to a region outside its right, or a write to a read-only region, is denied (R403, R433, Table 12.5). -/
def hostDenied (s : State) (pbr region : Nat) (write : Bool) : Bool :=
  !aclAllows s pbr region write || (write && (regionOf s region).mode == 1)

/-- An offset lies beyond the region: the extents offered hold no such byte. -/
def beyondRegion (s : State) (region off : Nat) : Bool := decide ((regionOf s region).size * giB < off / 64 * 64 + 64)

/-- A read of a fabric host: the control extent, a denial, poison of a LOST region, or the line (R417, R418, R423, R430). -/
def hostRead (pbr tag : Nat) (region : Option Nat) (off : Nat) (s : State) : State := match region with
  | none => cxlAnswer pbr tag false (controlLine s pbr off) false s
  | some g =>
    if hostDenied s pbr g false then cxlAnswer pbr tag false 0 true (denial g s)
    else if beyondRegion s g off then cxlAnswer pbr tag false 0 true s
    else
      let (m, o) := (regionOf s g).locate (off / 64 * 64)
      startAcc (.cxl pbr tag) g m o false 0 false 0 s

/-- A write of a fabric host to a region; a denied one completes and is discarded, and so does one to a LOST region. -/
def hostWrite (pbr tag : Nat) (region : Option Nat) (off : Nat) (d : LineData) (poison : Bool) (s : State) : State :=
  match region with
  | none => cxlAnswer pbr tag true 0 false s
  | some g =>
    if hostDenied s pbr g true then cxlAnswer pbr tag true 0 false (denial g s)
    else if (regionOf s g).state = 5 ∨ beyondRegion s g off then cxlAnswer pbr tag true 0 false s
    else
      let (m, o) := (regionOf s g).locate (off / 64 * 64)
      startAcc (.cxl pbr tag) g m o true d poison 0 s

/-! ### Mailbox commands (R419, Table 13.2) -/

/-- A response line. -/
def responseLine (seq status result aux : Nat) : Nat := put seq 0 8 + resultBody status result aux

/-- The first right that a mailbox command lacks is denied: region and status. -/
def mailDenied (s : State) (pbr c : Nat) : Option Nat :=
  ((pcRights c).find? fun r => !aclAllows s pbr r.1 r.2).map fun r => r.1

/-- A write to a command line starts a command, is refused with its response line, or is ignored and counted. -/
def mailCommand (pbr slot : Nat) (line : Nat) (s : State) : State :=
  let seq := bits line 384 8
  let m := mailSlot s pbr slot
  let skip : State := { s with pool := { s.pool with ignored := s.pool.ignored + 1 } }
  if !s.pool.boxes.contains pbr then s
  else if seq = 0 ∨ m.busy then skip
  else if m.seq = seq then s
  else
    let c := bits line 0 384
    let formed := bits line 393 119 == 0 && pcWellFormed c
    let lacking := mailDenied s pbr c
    let refusal := if formed then pcRefusal s c (lacking.map fun _ => 2) else some 1
    let s1 := updMail pbr slot (fun x => { x with seq := seq }) s
    match refusal with
    | none => queueCmd (.mailbox pbr slot seq (bit1 line 392)) c pbr (updMail pbr slot (fun x => { x with busy := true }) s1)
    | some st =>
      let s2 := match lacking with
        | some g => if formed then denial g s1 else s1
        | none => s1
      updMail pbr slot (fun x => { x with response := responseLine seq st 0 0 }) s2

/-! ### End of a command (R419, R438, Table 10.10) -/

/-- The result of a command goes to its requester. -/
def commandEnd (x : PoolCmd) (s0 : State) : State :=
  let s := { s0 with pool := { s0.pool with cmds := s0.pool.cmds.filter fun c => c.id != x.id } }
  match x.by_ with
  | .mailbox pbr slot seq _ =>
    updateBoxes (updMail pbr slot (fun m => { m with
      busy := false, response := responseLine seq x.status x.result x.aux }) s)
  | .item fn ticket => match (ringOf s fn 2).outst.find? fun o => o.ticket == ticket && o.opcode == 0x21 with
    | none => { s with rings := { s.rings with stray := s.rings.stray.filter fun e => e.2.ticket != ticket } }
    | some o => completeOutst fn 2 o (if x.status = 0 then ⟨stSuccess, x.result, x.aux, false, frameNumber s⟩
        else ⟨stPoolFail, x.status, x.aux, false, frameNumber s⟩) s
  | .part src tag =>
    sendRsp src 5 tag (pcDreg x.cmd) 0 0 0 x.status (resultBody x.status x.result x.aux) s

end Sys2Proof.Machine
end

