-- ==== Sys2Proof/Machine/StartOps.lean ====
section
/-! DEFINITION. The start of Bulk and Service items: whose turn it is on a port (R326, R331). -/

namespace Sys2Proof.Machine

/-- Functions of the host port of a function (R308). -/
def portFns (fn : Nat) : List Nat := if fn = 64 then [64] else rangeFrom 0 64

/-- Bulk items that execute on the port of a function, those of functions reset since included (R326, R341). -/
def bulkRunning (s : State) (fn : Nat) : Nat :=
  (portFns fn).foldl (fun n f => n + ((ringOf s f 2).outst.filter fun o => o.ended.isNone).length)
    (s.rings.stray.filter fun e => (portFns fn).contains e.1).length

/-- The MP takes a message from a Service ring now: it serves the transport and the ring has fewer than 16 outstanding
(R356, R361). -/
def serviceOpen (s : State) (fn : Nat) : Bool :=
  mciServed s fn && decide ((s.fw.outstanding.filter fun o => o.1 == fn).length < mciLimit fn)

/-- The oldest Bulk or Service item of a function can start now. -/
def startable (s : State) (fn ring : Nat) : Bool :=
  match consumable s fn ring with
  | none => false
  | some x =>
    if (badHead s fn ring x).isSome || itOpcode x == 0x01 then true
    else if ring = 3 then serviceOpen s fn
    else decide (bulkRunning s fn < 64)

/-- The (function, ring) pairs of a port whose items wait to start. -/
def waitingPairs (s : State) (fn : Nat) : List (Nat × Nat) :=
  ((portFns fn).flatMap fun f => [(f, 2), (f, 3)]).filter fun p => startable s p.1 p.2

/-- The highest class among pairs; 8 for none. -/
def bestClass (s : State) (ps : List (Nat × Nat)) : Nat := ps.foldl (fun c p => min c (fnOf s p.1).cls) 8

/-- A Bulk or Service item of a function starts when its pair wins: class first, then smooth weighted round robin (R326,
R331). Answers the item and the state with the counters of the round. -/
def startTurn (fn ring : Nat) (s : State) : Option (Nat × State) :=
  let ps := waitingPairs s fn
  let (win, s1) := swrr (ps.filter fun p => (fnOf s p.1).cls == bestClass s ps) s
  if win = some (fn, ring) then (consumable s fn ring).map fun x => (x, s1) else none

end Sys2Proof.Machine
end

