-- ==== Sys2Proof/Machine/Items.lean ====
section
/-! DEFINITION. Bulk items, NOP items and the host transfers of a run (R109, R146, R316 to R324, R331). -/

namespace Sys2Proof.Machine

/-- NOP: a NOP item is consumed and completes with SUCCESS; a malformed or misnumbered one completes with its status
(R316 to R318). On a Bulk or Service ring it takes its turn (R331). -/
def execNop (fn ring : Nat) (s : State) : Host.Outcome State Fault Refusal :=
  match (if ring < 2 then (consumable s fn ring).map fun x => (x, s) else startTurn fn ring s) with
  | none => .next s
  | some (x, s1) =>
    if itOpcode x ≠ 0x01 then .next s
    else match badHead s fn ring x with
      | some st => .next (rejectHead fn ring x st s1)
      | none => .next (rejectHead fn ring x stSuccess s1)

/-! ### STAGE (R322, R323) -/

/-- Bytes of a unit of a stack (R275). -/
def unitBytes : Nat := 1073741824

/-- STACK, UNIT and OFFSET of an HBM target (Table 10.8). -/
def tgStack (t : Nat) : Nat := bits t 0 3
def tgUnit (t : Nat) : Nat := bits t 8 6
def tgOff (t : Nat) : Nat := bits t 16 30

/-- The range is aligned and lies within its view, unit or dense capacity. -/
def stageRangeOk (s : State) (x : Nat) : Bool :=
  let t := stageTarget x
  let len := stageLen x
  decide (64 ≤ len) && len % 64 == 0 && stageHost x % 64 == 0 && match stageSpace x with
    | 0 => bits t 0 30 % 64 == 0 && decide (bits t 0 30 + len ≤ 0x30000000)
    | 1 => tgOff t % 64 == 0 && decide (tgUnit t < 36) && decide (tgOff t + len ≤ unitBytes)
    | _ => t % 64 == 0 && (!denseUp s || decide (t + len ≤ 4096 * denseBlocks s))

/-- The function's window covers the target (R392, R393); host-to-device staging writes it. -/
def stageWindowOk (s : State) (fn x : Nat) : Bool :=
  let t := stageTarget x
  let write := !stageToHost x
  match stageSpace x with
  | 0 => fn == 0 || allBelow (fun i =>
      let l := bufLocate (t + 64 * i)
      winBuf s fn l.router l.line write) (stageLen x / 64)
  | 1 => winHbm (winTable s fn) fn (tgStack t) (tgUnit t) (if write then 25 else 24)
  | _ => (rangeFrom (t / giB) ((t + stageLen x - 1) / giB - t / giB + 1)).all fun g => winDense s fn g write

/-- The window class of a target: BUF, HBM or DENSE (R404). -/
def stageClass (x : Nat) : Nat := stageSpace x

/-- The HBM lines of a STAGE touch a dead pseudo-channel. -/
def stageDeadPc (s : State) (x : Nat) : Bool :=
  let t := stageTarget x
  !allBelow (fun i => s.fmap.pcLive (32 * tgStack t + (tgOff t / 4096 + i) % 32))
    (min 32 ((tgOff t + stageLen x - 1) / 4096 - tgOff t / 4096 + 1))

/-- A unit in test is touched: a test runs from its acceptance, and items consumed before it hold its beginning back (R262). -/
def stageInTest (s : State) (x : Nat) : Bool := s.lanes.tests.any fun t => stageTouches t x

/-- The item-specific failures of a STAGE, the first in the order of R336. -/
def stageRefusal (s : State) (x : Nat) : Option Nat :=
  if stageSpace x = 1 && stageDeadPc s x then some stSliceUnavailable
  else if stageSpace x = 1 && roleOf s (36 * tgStack (stageTarget x) + tgUnit (stageTarget x)) != 0 then some stRole
  else if stageSpace x = 2 && !denseUp s then some stDenseUnavailable
  else if stageInTest s x then some stUnitInTest
  else none

/-- Host data of line i. -/
def stageData (data : List (Option LineData)) (i : Nat) : Option LineData := (data[i]?).getD none

/-- A line whose host read failed moves nothing (R321). -/
def stageHole (fn ticket : Nat) (s : State) : State :=
  updStage fn ticket (stageLine 0 (some stHostAbort) false) s

/-- One line to or from the buffer goes to its slice's control port (R323). -/
def stageBufLine (fn ticket : Nat) (x : Nat) (data : List (Option LineData)) (i : Nat) (s : State) : State :=
  let l := bufLocate (stageTarget x + 64 * i)
  if stageToHost x then ctlArrive l.router l.line false 0 0 (.stage fn ticket (64 * i)) s
  else match stageData data i with
    | some d => ctlArrive l.router l.line true d fullMask (.stage fn ticket (64 * i)) s
    | none => stageHole fn ticket s

/-- Queue a line at its pseudo-channel (R287). -/
def queuePc (q : UReq) (s : State) : State := updPc (q.line / pcLines) (fun p => { p with queue := p.queue ++ [q] }) s

/-- One line to or from HBM waits for an unscheduled cell (R285, R323). -/
def stageHbmLine (fn ticket : Nat) (x : Nat) (data : List (Option LineData)) (i : Nat) (s : State) : State :=
  let t := stageTarget x
  let l := unitLine (tgStack t) (tgUnit t) (tgOff t + 64 * i)
  if stageToHost x then queuePc ⟨l, false, 0, false, .stage fn ticket (64 * i)⟩ s
  else match stageData data i with
    | some d => queuePc ⟨l, true, d, false, .stage fn ticket (64 * i)⟩ s
    | none => stageHole fn ticket s

/-- A request at the dense tier (R295). -/
def queueDense (q : DReq) (s : State) : State :=
  { s with dense := { s.dense with withheld := s.dense.withheld ++ [q] } }

/-- Lines as one number. -/
def linesNat : List LineData → Nat
  | [] => 0
  | d :: t => d.toNat + 2 ^ 512 * linesNat t

/-- n lines from item offset `off` within one dense block: one request, or one for each line when a host line is
missing. -/
def stageChunk (fn ticket : Nat) (x : Nat) (data : List (Option LineData)) (off n : Nat) (s : State) : State :=
  let a := stageTarget x + off
  let req (o k v : Nat) : DReq := ⟨a / 4096, (a + (o - off)) % 4096, 64 * k, !stageToHost x, v, .stage fn ticket o, s.clk.wallPs⟩
  let mine := (rangeFrom (off / 64) n).map (stageData data)
  if stageToHost x then queueDense (req off n 0) s
  else if mine.all Option.isSome then queueDense (req off n (linesNat (mine.filterMap id))) s
  else (rangeFrom 0 n).foldl (fun t i => match stageData data (off / 64 + i) with
    | some d => queueDense (req (off + 64 * i) 1 d.toNat) t
    | none => stageHole fn ticket t) s

/-- The dense requests of a STAGE, block by block. -/
def stageDense (fn ticket : Nat) (x : Nat) (data : List (Option LineData)) : Nat → Nat → State → State
  | 0, _, s => s
  | fuel + 1, off, s =>
    if stageLen x ≤ off then s
    else
      let n := min (64 - (stageTarget x + off) % 4096 / 64) ((stageLen x - off) / 64)
      stageDense fn ticket x data fuel (off + 64 * n) (stageChunk fn ticket x data off n s)

/-- A STAGE item is consumed and its lines set out; its host accesses carry its NS (R322, R323). -/
def stageGo (fn x : Nat) (data : List (Option LineData)) (s : State) : State :=
  let n := stageLen x / 64
  let ticket := s.rings.next
  let s1 := consumeLines fn 2 x n s
  let s2 := if stageToHost x then s1 else emit (.hostRead fn (stageHost x) (stageLen x) (bit1 x 131)) s1
  match stageSpace x with
  | 0 => (rangeFrom 0 n).foldl (fun t i => stageBufLine fn ticket x data i t) s2
  | 1 => (rangeFrom 0 n).foldl (fun t i => stageHbmLine fn ticket x data i t) s2
  | _ => stageDense fn ticket x data (n + 1) 0 s2

/-- A well-formed STAGE: range, then window, then the item-specific failures; otherwise it moves (R322, R403). -/
def stageStart (fn x : Nat) (data : List (Option LineData)) (s : State) : State :=
  if !stageRangeOk s x then rejectHead fn 2 x stRange s
  else if !stageWindowOk s fn x then rejectHead fn 2 x stWindow (violation fn (stageClass x) s)
  else match stageRefusal s x with
    | some st => rejectHead fn 2 x st s
    | none => stageGo fn x data s

/-- STAGE_START: a STAGE item whose turn it is, is consumed and judged; with DIR 0 the operand gives the host's lines, none
where the read of a line failed (R321, R322). An item of any opcode but NOP and POOL is judged here: one that the Bulk ring does
not accept completes with BAD_ITEM (R317). -/
def execStageStart (fn : Nat) (data : List (Option LineData)) (s : State) : Host.Outcome State Fault Refusal :=
  match startTurn fn 2 s with
  | none => .next s
  | some (x, s1) =>
    if itOpcode x = 0x01 ∨ itOpcode x = 0x21 then .next s
    else match badHead s fn 2 x with
      | some st => .next (rejectHead fn 2 x st s1)
      | none => .next (stageStart fn x data s1)

/-- What the completion of a STAGE says (R335, R336). -/
def stageDone (o : Outst) (now : Nat) : Done :=
  ⟨match o.fail with
    | some st => st
    | none => if o.poison then stPoisonedData else stSuccess, 0, o.bytes, o.poison, now⟩

/-- The STAGE items of a function whose every line has ended. -/
def doneStages (s : State) (fn : Nat) : List Outst :=
  (ringOf s fn 2).outst.filter fun o => o.opcode == 0x20 && o.left == 0 && o.ended.isNone

/-- The last line of an item ended before that of another; in one instant the lower SEQ goes first (R337). -/
def doneBefore (a b : Outst) : Bool :=
  decide (a.doneAt.getD 0 < b.doneAt.getD 0) || (a.doneAt.getD 0 == b.doneAt.getD 0 && precedes32 a.seq b.seq)

/-- STAGE_COMPLETE: of the STAGE items of a function whose every line has ended, the one that ended first completes; a test that
waited for it may begin (R262, R323, R337). -/
def execStageComplete (fn : Nat) (s : State) : Host.Outcome State Fault Refusal :=
  let l := doneStages s fn
  match l.find? fun o => !(l.any fun a => doneBefore a o) with
  | none => .next s
  | some o => .next (beginTest (completeOutst fn 2 o (stageDone o (frameNumber s)) s))

/-! ### POOL (R324, R436) -/

/-- A POOL item that is refused: WINDOW for a missing right, otherwise POOL_FAIL with the pool status in RESULT (R403,
R436). -/
def rejectPool (fn x status result : Nat) (s : State) : State :=
  postCompletion fn 2 (itSeq x) (itUser x) (itSilent x) (frameNumber s) ⟨status, result, 0, false, frameNumber s⟩
    (updRing fn 2 (takeHead s x none) s)

/-- The holder identity of a function for leases (Table 13.1). -/
def fnHolder (s : State) (fn : Nat) : Nat := fn + 2 ^ 16 * self s + 2 ^ 30

/-- A well-formed POOL item: its rights are judged as WINDOW, then the command starts or fails. -/
def poolStart (fn x : Nat) (s : State) : State :=
  let c := bits x 128 384
  let lacks := pcWellFormed c && (pcRights c).any fun r => !winPool s fn r.1 r.2
  if lacks then rejectPool fn x stWindow 0 (violation fn 4 s)
  else match pcRefusal s c none with
    | some st => rejectPool fn x stPoolFail st s
    | none => queueCmd (.item fn s.rings.next) c (fnHolder s fn) (consume fn 2 x s)

/-- POOL_ITEM: a POOL item whose turn it is, is consumed and its command starts (R324). -/
def execPoolItem (fn : Nat) (s : State) : Host.Outcome State Fault Refusal :=
  match startTurn fn 2 s with
  | none => .next s
  | some (x, s1) =>
    if itOpcode x ≠ 0x21 then .next s
    else match badHead s fn 2 x with
      | some st => .next (rejectHead fn 2 x st s1)
      | none => .next (poolStart fn x s1)

/-! ### Host transfers of a run (R109, R146, R320, R321) -/

/-- Frames after the record's own in which a beat falls: beat j falls at TICK + j, which may lie in a later frame of the
run (Table 4.9). -/
def hostBack (h : HostRec) (beat : Nat) : Nat := (h.tick + beat) / 4096

/-- The pattern that a run executed some frames ago; 0 is its present frame. -/
def patternBack (im : Image) (p : Part) (r : Run) (back : Nat) : Option Nat :=
  if back = 0 then currentPattern im p else r.past[back - 1]?

/-- A transfer record of a frame that the run executes or executed, with a beat that falls in the present frame, before
its tick has passed. -/
def hostRecord (s : State) (k recIdx beat : Nat) : Option (HostRec × Run) :=
  let p := part s k
  if !tickRuns s || !s.clk.frameDone || p.parked then none
  else match boundImage s p, p.run with
    | some im, some r => match im.host[recIdx]? with
      | none => none
      | some h =>
        if patternBack im p r (hostBack h beat) = some h.pattern ∧ beat ≤ h.beatsM1 ∧
            frameOffset s ≤ (h.tick + beat) % 4096 then some (h, r)
        else none
    | _, _ => none

/-- The rim router of a record, and the input register into which the host interface presents (R146, Table 5.2). -/
def hostRim (h : HostRec) : Nat := routerAt 0 h.row
def hostPort (h : HostRec) : Nat := if isWestCorner (hostRim h) then portW else portEdge

/-- A hold entry is of a beat that falls in the run's present frame. -/
def heldHere (h : HostRec) (r : Run) (recIdx beat : Nat) (x : HostHold) : Bool :=
  x.frame + hostBack h beat == r.runFrame && x.recIdx == recIdx && x.beat == beat

/-- A beat of input data is presented: the data held, 64 zero bytes for a failed read, or 64 zero bytes for data that has
not arrived, which makes the run late; a reset function's run reads zeros without a count (R109, R321, R341). -/
def presentHostBeat (k recIdx beat : Nat) (h : HostRec) (r : Run) (s : State) : State :=
  let d : LineData := match r.hostData.find? (heldHere h r recIdx beat) with
    | some x => if x.failed then 0 else x.data
    | none => 0
  let late := (r.hostData.find? (heldHere h r recIdx beat)).isNone && !r.dropped
  let s1 := updRun k (fun q => { q with
    hostData := q.hostData.filter fun x => !(heldHere h r recIdx beat x)
    hostLate := q.hostLate || late }) s
  updPipe k (fun p => arrive (hostRim h) (hostPort h) (Beat.of d false) ((part s k).ptick + 2) p) s1

/-- A beat of output data that a rim router delivered goes to the run's buffer with its NS and RLX; a dropped run writes nothing
(R319, R321, R341). -/
def acceptHostBeat (k beat : Nat) (h : HostRec) (r : Run) (s : State) : State :=
  let b := edgeBeatAt (part s k).pipe (hostRim h) (hostPort h) (part s k).ptick
  match r.bufs[h.buf]? with
  | none => s
  | some e =>
    if !b.valid || r.dropped then s
    else emit (.hostWrite r.fn (e.addr + h.offset + 64 * beat) 64 b.data.toNat b.poison e.ns e.rlx)
      (updRun k (fun q => { q with poisoned := q.poisoned || b.poison }) s)

/-- HOST_TRANSFER_BEAT: beat j of a transfer record falls at TICK + j (R146). -/
def execHostTransferBeat (k recIdx beat : Nat) (s : State) : Host.Outcome State Fault Refusal :=
  match hostRecord s k recIdx beat with
  | none => .next s
  | some (h, r) =>
    let s1 := advance ((h.tick + beat) % 4096 - frameOffset s) s
    if h.dir = 0 then .next (presentHostBeat k recIdx beat h r s1) else .next (acceptHostBeat k beat h r s1)

/-- HOST_READ_DATA: a host read of the executing run, for a beat of one of its frames, completes and fills the hold buffer;
an error, poison or time-out notes a host abort (R109, R321). -/
def execHostReadData (k frame recIdx beat : Nat) (data : LineData) (failed : Bool) (s : State) :
    Host.Outcome State Fault Refusal :=
  .next (updRun k (fun r =>
    if r.dropped then r
    else { r with
      hostData := ⟨frame, recIdx, beat, data, failed⟩ :: r.hostData.filter fun x =>
        !(x.frame == frame && x.recIdx == recIdx && x.beat == beat)
      hostAbort := r.hostAbort || failed }) s)

end Sys2Proof.Machine
end

