-- ==== Sys2Proof/Machine/IdleOps.lean ====
section
/-! DEFINITION. Idle states of partitions: tolerances, exit latencies, the start of an exit (R539 to R542, R552). -/

namespace Sys2Proof.Machine

/-- The oldest item of an Urgent or Standard ring names a slot, its doorbell taken and its first unit held. -/
def namesSlot (s : State) (n : Nat) : Bool :=
  runRings.any fun fr =>
    let r := ringOf s fr.1 fr.2
    r.regs.enabled && decide (0 < r.exposed) && match r.units with
      | u :: _ => itOpcode u.toNat == 0x10 && runSlot u.toNat == n
      | [] => false

/-- Functions that hold RUN on a slot, PF0 among them. -/
def runHolders (s : State) (n : Nat) : List Nat := (rangeFrom 0 65).filter fun f => winSlot s f n 1

/-- The least of some numbers; none for an empty list. -/
def minNats : List Nat → Option Nat
  | [] => none
  | a :: t => match minNats t with
    | none => some a
    | some b => some (min a b)

/-- Tolerance of a partition in ns; unlimited while unbound (R540). -/
def tolerance (s : State) (k : Nat) : Option Nat := match (part s k).slot with
  | none => none
  | some n => minNats ((runHolders s n).map fun f => (fnOf s f).wake.toNat)

/-- Exit latency of a state in ps (Table 16.7). -/
def exitPs (s : State) (k state : Nat) : Nat :=
  let ts := (rect s k).tiles
  let wake := ts.foldl (fun w t => max w (Tab.get Tile.reset s.tiles.tile t).wake) 0
  let gated := wake * 1000 + 500000 * (ts.length - 1) + 1000000
  let frames := if (part s k).slot.isNone then 0
    else 8192 * 625 * rateDen s.clk.setting / max 1 (rateNum s.clk.setting)
  if state = 0 then 0
  else if state = 1 then gated
  else if state = 2 then gated + frames
  else gated + frames + 15000000

/-- A state's exit fits the tolerance. -/
def exitFits (s : State) (k state : Nat) : Bool := match tolerance s k with
  | none => true
  | some ns => decide (exitPs s k state ≤ 1000 * ns)

/-- A doorbell of a RUN item has reached the admission unit: partitions whose slot it names start their exit (R542). -/
def wakeNamed (s : State) : State :=
  (rangeFrom 0 4).foldl (fun t k => match (part t k).slot with
    | some n => if (part t k).idleState ≠ 0 ∧ namesSlot t n then startExit k t else t
    | none => t) s

/-- A partition whose tolerance has fallen below its state's exit latency starts the exit (R552). -/
def wakeTolerance (s : State) : State :=
  (rangeFrom 0 4).foldl (fun t k => if exitFits t k (part t k).idleState then t else startExit k t) s

/-- A stack may enter self-refresh: idle for 1 ms, and without POOL or CACHE units unless POOL_SR is set (Table 16.7). -/
def refreshable (s : State) (k : Nat) : Bool :=
  let z := stackOf s k
  z.trained && !z.dead && !z.inTest && !z.selfRefresh && decide (z.lastUse + 1000000000 ≤ s.clk.wallPs) &&
  ((rangeFrom (32 * k) 32).all fun pc => (pcOf s pc).queue.isEmpty && (pcOf s pc).cacheQ.isEmpty) &&
  (s.pm.poolSr || (rangeFrom (36 * k) 36).all fun u => roleOf s u != 1 && roleOf s u != 2)

/-- The state that a partition may deepen to now (Table 16.7). -/
def nextIdle (s : State) (k : Nat) : Option Nat :=
  let p := part s k
  let bound := p.slot.isSome
  let free := p.run.isNone && p.suspended.isEmpty && !p.exiting && p.binding.isNone &&
    (match p.slot with
      | some n => !namesSlot s n
      | none => true)
  if !free then none
  else if p.idleState = 0 ∧ 16 ≤ p.idleFrames then some 1
  else if p.idleState = 1 ∧ bound ∧ 256 ≤ p.idleFrames then some 2
  else if (p.idleState = 2 ∧ p.parked ∨ p.idleState = 1 ∧ !bound) ∧ (partStacks s k).any (refreshable s) then some 3
  else none

end Sys2Proof.Machine
end

