-- ==== Sys2Proof/Machine/PowerOps.lean ====
section
/-! DEFINITION. Shared operations of the power manager: the selection of a setting, the cap in force, the causes of a
unilateral setting, applying settings (R519, R525 to R538). -/

namespace Sys2Proof.Machine

/-! ### Rates and settings (R525) -/

/-- Rate of divisor d and period k in units of 2^-16; k = 1 stands for no Crumb. -/
def rateUnits (d k : Nat) : Nat := if k = 1 then 65536 / d else 65536 * (k - 1) / (k * d)

/-- Rate of a setting in units of 2^-16. -/
def settingUnits (x : BitVec 9) : Nat := rateUnits (setD x) (if setK x = 0 then 1 else setK x)

/-- The fastest setting whose rate does not exceed q; ties go to the smaller divisor. -/
def selectSetting (q : Nat) : BitVec 9 :=
  ((rangeFrom 1 4).foldl (fun best d => (rangeFrom 1 64).foldl (fun (b : BitVec 9 × Nat) k =>
    let r := rateUnits d k
    if r ≤ q ∧ b.2 < r then (mkSetting d (if k = 1 then 0 else k), r) else b) best) (slowest, 0)).1

/-- The setting that will be in force: a written one that waits for its boundary, else the present one. -/
def settingAhead (s : State) : BitVec 9 := match s.clk.pendSetting with
  | some (x, _) => x
  | none => s.clk.setting

/-- Write a setting unless it is already on its way. -/
def putSetting (x : BitVec 9) (s : State) : State := if settingAhead s = x then s else writeSetting x s

/-- x is strictly slower than y (R59). -/
def slowerThan (x y : BitVec 9) : Bool := decide (rateNum x * rateDen y < rateNum y * rateDen x)

/-! ### The cap (R530 to R533) -/

/-- The set cap whose effect instant has come. -/
def capEffective (s : State) : Nat := match s.pm.capChanges.find? fun c => decide (s.clk.wallPs < c.1) with
  | some c => c.2
  | none => s.pm.cap
/-- The vetting state whose effect instant has come is UNVETTED. -/
def unvettedEffective (s : State) : Bool := match s.pm.vetChanges.find? fun c => decide (s.clk.wallPs < c.1) with
  | some c => c.2
  | none => s.fw.vet == 1
/-- The cap in force: each change of it counts from its effect instant (R531, R549). -/
def capForce (s : State) : Nat := if unvettedEffective s then 7 * capEffective s / 10 else capEffective s

/-! ### The brake (R534, R535) -/

/-- q_b: the rate at which P_fix + q × A is 0.45 × the set cap; powers in 0.1 W. -/
def brakeRate (s : State) (m : PowerIn) : Nat :=
  let target := 45 * s.pm.cap / 10
  if target ≤ m.pFix then 0
  else if m.aRate = 0 then 65536 else min 65536 ((target - m.pFix) * 65536 / m.aRate)

/-- The brake register: never faster than the setting in force; the slowest while P_MIN exceeds half the set cap. -/
def brakeSetting (s : State) (m : PowerIn) : BitVec 9 :=
  if 5 * s.pm.cap < m.pMin then slowest else slower (selectSetting (brakeRate s m)) s.clk.setting

/-- PM firmware counts an assertion in progress, and its time from now on (R535, R653). -/
def countBrake (s : State) : State :=
  pwrAttention 0 (countUp 0x0602 0 { s with pm := { s.pm with counted := true, brakeStart := s.clk.wallPs } })

/-- The time of a counted assertion counts up to now (R535). -/
def closeBrake (s : State) : State :=
  if !s.pm.counted then s
  else
    let t := s.clk.wallPs - s.pm.brakeStart + s.pm.brakeRest
    countBy 0x0603 0 (t / 1000000) { s with pm := { s.pm with counted := false, brakeRest := t % 1000000 } }

/-! ### Unilateral settings (R538) -/

/-- The member is unlocked by a unilateral setting (R478, R538). -/
def goAlone (s : State) : State :=
  { s with pm := { s.pm with alone := true }, lat := { s.lat with locked := false, unlockedNote := true } }

/-- The settings that the causes of Table 16.6 require now. -/
def causesNow (s : State) (m : PowerIn) : List (BitVec 9) :=
  let p := s.pm
  let ramp := selectSetting p.qRamp
  (if p.braked then [p.brakeReg] else []) ++
  (if 1648 < p.tctl then [slowest] else []) ++
  (if m.emergency then [p.own] else []) ++
  (if p.slowSince ≠ 0 ∧ p.slowSince + 400000000 ≤ s.clk.wallPs + 1 then [p.own] else []) ++
  (if p.guard then [slowest] else []) ++
  (if p.alone && slowerThan ramp p.group then [ramp] else [])

/-- Apply the result of a control period: in local mode the own setting, slowed by the brake; in linked mode a request to
the group, and alone only what a cause requires; once no cause is left the recorded group setting governs, and a RELEASE with SETV
locks the member again (R525, R537, R538, R554, Table 16.10). -/
def applyOwn (m : PowerIn) (s : State) : State :=
  if !linkedOn s then
    let x := if s.pm.braked then slower s.pm.own s.pm.brakeReg else s.pm.own
    putSetting x { s with pm := { s.pm with cause := none, alone := false } }
  else
    let s1 := if s.pm.own ≠ s.pm.lastTreq ∧ s.pm.treqFrame ≠ frameNumber s then requestSetting s.pm.own s else s
    match causesNow s1 m with
    | [] =>
      let s2 := { s1 with pm := { s1.pm with cause := none } }
      if s.pm.alone then putSetting s.pm.group s2 else s2
    | cs =>
      let c := slowestOf cs
      let s2 := { s1 with pm := { s1.pm with cause := some c } }
      putSetting (slower c s2.pm.group) (goAlone s2)

/-! ### Junction limit (R528) -/

/-- Sensors above 105 °C: plausible readings and substitutes. -/
def hotSensors (s : State) : List Nat :=
  (dieSensors ++ hbmSensors).filter fun k =>
    let z := sensorOf s k
    if sensorSet k = 2 && z.plausible then decide (1680 < z.value)
    else match controlValue s k with
      | some v => decide (1680 < v)
      | none => false

/-- Each new excursion writes one entry. -/
def noteExcursions (s : State) : State :=
  let now := hotSensors s
  let new := now.filter fun k => !s.pm.excursions.contains k
  let s1 := new.foldl (fun t k => pwrAttention 4 (sendEvent ⟨0x1004, 0, sensorUnit k, none, pmEndpoint, 0⟩ t)) s
  { s1 with pm := { s1.pm with excursions := now } }

/-! ### Queries (Tables 16.8, 16.10) -/

/-- The bits of LIMIT that a control period decides: the thermal limit, the cap, the reduced cap of an UNVETTED module, the
ramp. -/
def limitBits (s : State) (q : Nat) : BitVec 8 :=
  let p := s.pm
  let cap := p.capShort || (p.qCap == q && decide (q < 65536))
  let heat := p.noPlausible || decide (1648 < p.tctl) || (p.qTh == q && decide (q < 65536))
  BitVec.ofNat 8 (flag heat + 2 * flag cap + 32 * flag (cap && unvettedEffective s) +
    64 * flag (p.qRamp == q && decide (q < 65536)))

/-- LIMIT: with the brake, the group's setting and the guard where they slow the PM's own setting. -/
def limitNow (s : State) : Nat :=
  let p := s.pm
  p.limit.toNat + 4 * flag (p.braked && slowerThan p.brakeReg p.own) + 8 * flag (linkedOn s && slowerThan p.group p.own) +
    16 * flag p.guard

/-- Two's complement of T_ctl in 16 bits. -/
def tctlBits (s : State) : Nat := (BitVec.ofInt 16 s.pm.tctl).toNat
/-- Idle states of the partitions, and ports with lanes asleep. -/
def idleBits (s : State) : Nat := packFields 2 (fun k => (part s k).idleState) 4
def sleepBits (s : State) : Nat := packFields 1 (fun p => flag (latPort s p).asleep) 12
/-- The last group setting, 0 in local mode. -/
def groupField (s : State) : Nat := if linkedOn s then s.pm.group.toNat else 0

/-- The POWER_QUERY response (Table 16.8). -/
def powerView (s : State) : Nat :=
  let p := s.pm
  put p.cap 0 11 + put (capForce s) 16 11 + put s.clk.setting.toNat 32 9 + put p.own.toNat 41 9 + put (groupField s) 50 9 +
  put (flag (linkedOn s)) 59 1 + put (flag s.pins.pwrbrk) 60 1 + put (flag p.capShort) 61 1 + put (flag p.brakeShort) 62 1 +
  put p.p10us 64 16 + put p.p1ms 80 16 + put p.p5ms 96 16 + put p.pMin 112 16 + put (tctlBits s) 128 16 +
  put (limitNow s) 144 8 + put (idleBits s) 152 8 + put (sleepBits s) 160 12 + put (counter s 0x0601 0).toNat 192 64 +
  put (counter s 0x0602 0).toNat 256 48 + put (counter s 0x0603 0).toNat 304 48

/-- An entry of SENSOR_QUERY (R546). -/
def sensorEntry (s : State) (key : Nat) : Nat :=
  let z := sensorOf s key
  put z.raw.toNat 0 16 + put z.status 16 4 + put z.exclusions 20 4 +
  put (match controlValue s key with
    | some v => (BitVec.ofInt 16 v).toNat
    | none => 0x8000) 32 16

end Sys2Proof.Machine
end

