-- ==== Sys2Proof/Machine/StartUp.lean ====
section
/-! DEFINITION. The start sequence from the fault-map merge to ready, and merges in service (R108, R282, R375, R559 to R564,
R596, R598). -/

namespace Sys2Proof.Machine

/-! ### Step 8 -/

/-- Every tile is committed or failed, or the TEST strap skips discovery (step 7, R557). -/
def tilesOver (s : State) : Bool :=
  s.pins.testBoot || (rangeFrom 0 16).all fun t => (tileAt s t).step == .ready || (tileAt s t).step == .failed

/-- Rows that soft repair keeps, by pseudo-channel: the first 16 (R282). -/
def hardDue (s : State) : List (Nat × Nat) :=
  ((rangeFrom 0 256).flatMap fun pc => (pcOf s pc).repaired.map fun r => (pc, r)).take 16

/-- A soft repair is made permanent and recorded (R282). -/
def hardRepair (e : Nat × Nat) (s : State) : State :=
  mpEvent 0x5004 1 e.1 e.2 (updPcs [e.1] (fun _ p => { p with repaired := p.repaired.filter fun r => r != e.2 }) s)

/-- A recorded run in 6 bytes: function, ring, SEQ (R596). -/
def runBytes (r : EndedRun) : Nat := put r.fn 0 8 + put r.ring 8 8 + put r.seq.toNat 16 32

/-- A continuation entry: bytes 1 to 60 hold ten runs. -/
def contEntry (rs : List EndedRun) (s : State) : ErrEntry :=
  { reason := 0, unit := 0, sev := 0, boot := 0, ref := 0, detail := 0, ext := concatBytes 6 (rs.map runBytes), cont := true
    complete := true, count := 0, lastRef := s.clk.refTime, lastBoot := s.boot.coldStarts }

/-- The module-fatal event of the P-domain record enters the logs, with up to two continuation entries (R596). -/
def recordPower (s : State) : State := match s.logs.power with
  | none => s
  | some r =>
    let n := r.ended.length
    let s1 := logExt r.reason 7 r.unit 0 0x100 false (put r.runs 0 32 + put n 32 8)
      { s with logs := { s.logs with power := none } }
    if s1.logs.errors.length = s.logs.errors.length ∨ n = 0 then s1
    else
      let cs := contEntry (r.ended.take 10) s :: if n ≤ 10 then [] else [contEntry (r.ended.drop 10) s]
      { s1 with logs := { s1.logs with errors := (s1.logs.errors ++ cs).take 4096 } }

/-- The previous power cycle ended without an orderly reset record (R598). -/
def noteUnclean (s : State) : State :=
  let s1 := if s.boot.orderly then s else mpEvent 0x100B 0 0 0 s
  { s1 with boot := { s1.boot with orderly := false } }

/-- Hard repairs of a cold start. -/
def hardRepairs (s : State) : State := if s.boot.cold then (hardDue s).foldl (fun t e => hardRepair e t) s else s

/-- Step 8: hard repairs, the merge with its consents and field-bank writes, image checks, the vetting check, and what the
P-domain record holds (Table 17.2). -/
def startMerge (s : State) : State :=
  stepDone 8 (noteUnclean (recordPower (recheckVet (mergeFaultMap (hardRepairs (stepDone 7 s))))))

/-- The strands that meet at the merge are complete (Table 17.2). -/
def strandsOver (s : State) : Bool := s.boot.steps.getLsbD 2 && s.boot.steps.getLsbD 6 && tilesOver s

/-- FAULT_MAP_MERGE: step 8 of a start once its strands are complete, or a merge in service (R108). -/
def execFaultMapMerge (s : State) : Host.Outcome State Fault Refusal :=
  if !mpRuns s then .next s
  else if s.boot.starting && !s.boot.steps.getLsbD 8 then (if strandsOver s then .next (startMerge s) else .next s)
  else .next (mergeFaultMap s)

/-! ### Ready (R561, R564) -/

/-- After a cold reset the set cap and the policy bits are the stored ones (R530). -/
def applyStored (s : State) : State :=
  if s.boot.cold then
    let (c, l, p) := s.pm.stored.getD (1200, false, false)
    { s with pm := { s.pm with cap := c, laneSleep := l, poolSr := p, capChanges := [], vetChanges := [] } }
  else s

/-- The drive list of the last DENSE_ATTACH is attached again when every drive shows the same namespace identity; otherwise
the tier stays unattached (R564). -/
def reattach (found : List DriveIn) (s : State) : State :=
  let l := usableFound s found
  let old := s.dense.attached
  if old.isEmpty then s
  else if old.all fun a => l.any fun e => e.1 == a.1 && e.2.2 == a.2 then
    attachDrives (l.filter fun e => old.any fun a => a.1 == e.1) s
  else { s with dense := { s.dense with attached := [], perDrive := 0 } }

/-- DEVICE_READY: step 9 is applied and completes; in recovery mode PF0 and the mailbox are served (R559, R561, R563). -/
def execDeviceReady (found : List DriveIn) (s : State) : Host.Outcome State Fault Refusal :=
  let served := { s with boot := { s.boot with ready := true, starting := false } }
  let told := emitAll ((if s.boot.linkUp0 then [.readiness 0] else []) ++ if s.boot.linkUp1 then [.readiness 1] else [])
  if s.boot.mp = .recovery ∧ s.boot.starting then
    .next (if s.boot.linkUp0 then emit (.readiness 0) served else served)
  else if !mpRuns s || !s.boot.starting || !s.boot.steps.getLsbD 8 || !s.boot.steps.getLsbD 5 then .next s
  else
    let s1 := stepDone 9 (applyStored { served with
      fw := { s.fw with failedBoots := 0 }, dense := { s.dense with units := cacheUnits s } })
    .next (evaluateRequests (rejoinGroup (reattach found (told s1))))

end Sys2Proof.Machine
end

