-- ==== Sys2Proof/Machine/MpBoot.lean ====
section
/-! DEFINITION. The management processor's boots, watchdogs and restarts, and its MCTP control and SPDM answers (R352, R353,
R362, R368, R373, R374, R379, R380, R584). -/

namespace Sys2Proof.Machine

/-! ### Boots (R368, R370) -/

/-- Persistent writes held while the MP was away are made (R605). -/
def persistHeld (s : State) : State :=
  s.logs.held.foldl (fun t e => mpPersist e 0 t) { s with logs := { s.logs with held := [] } }

/-- The boot ROM enters recovery mode (R368). -/
def enterRecovery (s : State) : State := mpEvent 0x9003 6 0 0 { s with boot := { s.boot with mp := .recovery } }

/-- The boot ROM returns to the other slot (R368). -/
def revertSlot (k : Nat) (s : State) : State := 
  let s1 := bootRecord (1 - k) false 0 (fwSetState k 6 s)
  mpEvent 0x9002 6 0 0 { s1 with fw := { s1.fw with useSlot := 1 - k } }

/-- A boot attempt of the active slot failed. A TRIAL slot has two attempts and then gives way to a COMMITTED fallback;
DEDUCED, log entry 61: a slot without TRIAL gives way at once to a COMMITTED slot whose bundle is compatible. With no slot
left the failed ones are marked and recovery mode begins (R368, R370). -/
def failedBoot (s : State) : State :=
  let k := s.fw.active
  let other := (fwSlot s (1 - k)).state == 5
  if s.fw.trial && s.fw.failedBoots == 0 then bootRecord k true 1 s
  else if other && (s.fw.trial || (bundleVerdict s (1 - k)).isNone) then revertSlot k s
  else enterRecovery (fwSetState k 6 (if other then fwSetState (1 - k) 6 s else s))

/-- Lattice microcode is loaded and the enabled ports start to train (step 5). -/
def startLattice (s : State) : State := trainingStep (trainPorts s)

/-- Every tile is powered for its discovery, unless the TEST strap forbids it (step 7, R557). -/
def startTiles (s : State) : State :=
  if s.pins.testBoot then s else (rangeFrom 0 16).foldl (fun t i => startTile i t) s

/-- Stitch training begins (step 6, R251). -/
def startStitches (s : State) : State := { s with lanes := { s.lanes with stitchFrom := s.clk.tick.toNat } }

/-- The PM runs the payload that the MP delivered; after a cold reset its ramp starts at 8,192. An assertion of PWRBRK# that it finds
is counted (R353, R527, R653). -/
def startPm (s : State) : State :=
  let s1 := { s with
    boot := { s.boot with pm := .firmware }
    fw := { s.fw with pmRetained := true }
    pm := { s.pm with guard := false, qRamp := if s.boot.cold then 8192 else s.pm.qRamp } }
  if s1.pm.braked && !s1.pm.counted then countBrake s1 else s1

/-! ### Calibrations of the PM (R255, R256, R558) -/

/-- What a base-die sensor shows while the thermal references settle: its last sample, or its latest reading. -/
def settled (s : State) (cals : List CalIn) (k : Nat) : Option Int :=
  match cals.find? fun c => c.unit == k with
  | some c => c.samples.getLast?
  | none =>
    let z := sensorOf s k
    if z.sampled && !rangeFails z.raw then some z.value else none

/-- A thermal reference moved by more than 0.25 °C, or lies more than 8 °C from the median of the other base-die sensors. -/
def notSettled (s : State) (cals : List CalIn) (c : CalIn) : Bool :=
  let xs := sortInts c.samples
  let spread : Bool := match xs.head?, xs.getLast? with
    | some a, some b => decide (4 < b - a)
    | _, _ => false
  spread || match c.samples.getLast?, median2 (((rangeFrom 0 128).filter (· != c.unit)).filterMap (settled s cals)) with
    | some x, some m => decide (256 < (2 * x - m).natAbs)
    | _, _ => false

/-- Status of a calibration: the first check of Table 8.6 that fails (R255). -/
def calStatus (s : State) (cals : List CalIn) (c : CalIn) : Nat :=
  if 128 ≤ c.unit ∧ (!c.disabled ∨ 50 ≤ c.mv) then 3
  else if 128 ≤ c.unit ∧ 40 < (c.offset - c.trim).natAbs then 4
  else if c.unit < 128 ∧ notSettled s cals c then 5
  else if c.late then 6
  else 0

/-- A calibrated unit: a valid offset becomes the channel's trim; an invalid result is reported, a channel keeps its fused trim,
and a sensor is handled as an implausible one of status CAL_INVALID (R256, R522). DESIGN CHOICE, log entry 29: the UNIT of a
channel's report is 128 plus its number. -/
def calibrate (cals : List CalIn) (s : State) (c : CalIn) : State :=
  let st := calStatus s cals c
  let z := sensorOf s c.unit
  let s1 := { s with pm := { s.pm with
    cal := Tab.set 0 s.pm.cal c.unit st
    trims := if c.unit < 128 then s.pm.trims else Tab.set 0 s.pm.trims c.unit (if st = 0 then c.offset else c.trim) } }
  let s2 := if c.unit < 128 ∧ z.status ≠ 5 then
      if st ≠ 0 then setSensor c.unit { z with status := 6, goodSince := 0, changed := false, stuck := false } s1
      else if z.status = 6 then setSensor c.unit { z with status := 0 } s1 else s1
    else s1
  if st = 0 then s2 else calEvent (if c.unit < 128 then sensorUnit c.unit else c.unit) st s2

/-- The firmware of the active slot runs: steps 3 and 4 complete and steps 5 to 7 begin (Table 17.2). -/
def startFirmware (s : State) : State :=
  let ps := (bundlePackages s s.fw.active).filter fun p => p.kind != 4
  let s1 := { s with
    boot := { s.boot with mp := .running, starting := true }
    fw := { s.fw with mpSlot := s.fw.active, useSlot := s.fw.active, running := ps.foldl (fun l p => insertPackage p l) [] } }
  startTiles (startStitches (startLattice (stepDone 4 (stepDone 3 (persistHeld (startPm s1))))))

/-- MP_BOOT: one attempt of the boot ROM; what the PM's boot ROM has calibrated by then is in force when PM firmware starts. A
unit that is not listed had a valid result that leaves its trim (R255, R368, R558). -/
def execMpBoot (cals : List CalIn) (s : State) : Host.Outcome State Fault Refusal :=
  if s.boot.mp ≠ .bootRom ∨ s.pins.perst ∨ !s.clk.pll then .next s
  else if s.pins.recoveryStrap then .next (enterRecovery s)
  else match bundleVerdict s s.fw.active with
    | none => .next (startFirmware (cals.foldl (calibrate cals) s))
    | some _ => .next (failedBoot s)

/-- TRIAL_BOOT_TIMEOUT: a TRIAL attempt did not reach ready within 2 s and counts as failed; a running attempt goes back to
the boot ROM (R368). -/
def execTrialBootTimeout (s : State) : Host.Outcome State Fault Refusal :=
  if !s.fw.trial ∨ (s.boot.mp ≠ .restarting ∧ !s.boot.starting) then .next s
  else
    let s1 := if s.boot.mp = .running then { s with boot := { s.boot with
        mp := .bootRom, steps := s.boot.steps &&& 0x3E7#10 } } else s
    .next (failedBoot s1)

/-! ### Restarts of the MP and the PM (R352, R353, R371, R379, R380, R584) -/

/-- MP_WATCHDOG: firmware did not service its watchdog for 500 ms. -/
def execMpWatchdog (s : State) : Host.Outcome State Fault Refusal :=
  if mpRuns s then .next (mpOnlyReset 0 s) else .next s

/-- MP_SRAM_UNCORRECTABLE: class 6, an MP-only reset with DETAIL 3 (R584). -/
def execMpSramUncorrectable (s : State) : Host.Outcome State Fault Refusal :=
  if mpRuns s then .next (mpOnlyReset 3 s) else .next s

/-- A word of the mailbox window. -/
def mbxWord (s : State) (i : Nat) : Nat := (Tab.get 0 s.regs.mbxWindow i).toNat

/-- The mailbox request that was BUSY receives MP_RESET (R380). -/
def answerMailbox (s : State) : State :=
  if s.regs.mbxBusy then
    mailboxDone (responseBytes (mbxWord s 0 % 65536) (mbxWord s 1 % 2 ^ 24) mMpReset 0 0 0 4096) s
  else s

/-- The MP is ready with the firmware of the slot in use: held writes are made, the mailbox is answered, the vetting state is
computed afresh, and a PM without its payload receives it again (R353, R375, R380, R385, R605). -/
def mpReady (s : State) : State :=
  let s1 := { s with
    boot := { s.boot with mp := .running }
    fw := { s.fw with mpSlot := s.fw.useSlot, restart := 0, failedBoots := 0 } }
  let s2 := ((bundlePackages s s.fw.useSlot).filter fun p => p.kind == 1).foldl (fun t p => runPackage p t) s1
  let s3 := if s2.boot.pm = .restarting then startPm s2 else s2
  evaluateRequests (stsAttention 4 (rejoinGroup (recheckVet (answerMailbox (persistHeld s3)))))

/-- MP_READY: an MP-only reset ends, or its boot attempt fails (R368, R380). -/
def execMpReady (s : State) : Host.Outcome State Fault Refusal :=
  if s.boot.mp ≠ .restarting then .next s
  else match bundleVerdict s s.fw.useSlot with
    | none => .next (mpReady s)
    | some _ => .next (failedBoot s)

/-- PM_WATCHDOG: the guard writes d = 4, K = 2 and the PM restarts from its payload when its CRC-32 checks; otherwise the
guard stays until the payload is delivered again; in linked mode its setting is applied alone (R353, R387, R538, R551). -/
def execPmWatchdog (crcOk : Bool) (s : State) : Host.Outcome State Fault Refusal :=
  if !pmFirmware s then .next s
  else
    let s0 := if linkedOn s then goAlone { s with pm := { s.pm with cause := some Pm.slow } } else s
    let s1 := blockFault 0x1009 6 0 none 0x101 (writeSetting Pm.slow s0)
    .next { s1 with
      boot := { s1.boot with pm := if crcOk then .firmware else .restarting }
      fw := { s1.fw with pmRetained := crcOk }
      pm := { s1.pm with guard := !crcOk, own := Pm.slow } }
where
  /-- the PM's firmware runs -/
  pmFirmware (s : State) : Bool := s.boot.pm == .firmware

/-! ### MCTP control and SPDM (R362, R373, R374) -/

/-- The MP takes a message of an MCTP medium now: 0 port 0, 1 I3C, 2 port 1 in its host role (R362, R562). -/
def mctpOpen (s : State) (medium : Nat) : Bool :=
  decide (medium ≤ 2) && mciServed s (whoMctp medium 0) && (medium != 2 || !s.pins.poolRole)

/-- MCTP_CONTROL: the MP answers a control message; Set Endpoint ID takes effect (R362). -/
def execMctpControl (medium cmd src eid : Nat) (s : State) : Host.Outcome State Fault Refusal :=
  if !mctpOpen s medium then .next s
  else
    let s1 := if cmd = 1 then { s with fw := { s.fw with eid := Tab.set 0 s.fw.eid medium (eid % 256) } } else s
    .next (emit (.mctpAnswer medium src (Config.mctpAnswer cmd (Tab.get 0 s1.fw.eid medium))) s1)

/-- The digests of the running packages of a kind. -/
def digestsOf (s : State) (kind : Nat) : List Nat :=
  (s.fw.running.filter fun p => p.kind == kind).map fun p => p.digest.toNat

/-- A number as an optional key: 0 stands for an empty key slot. -/
def keyDigest (key : Option Nat) : Nat := match key with
  | none => 0
  | some k => (Config.sha384 k 96).toNat

/-- The measurement blocks of Table 11.8: index and SHA-384 digest, in index order. The boot ROM and the fused key hash are
properties of the part; how a measured list is laid out is left to SPDM's format. -/
def measurements (s : State) : List (Nat × Nat) :=
  let tiles := digestsOf s 4
  [(1, Config.bootRomDigest.toNat)] ++ (digestsOf s 1).map (fun d => (2, d)) ++ (digestsOf s 2).map (fun d => (3, d)) ++
  (digestsOf s 3).map (fun d => (4, d)) ++
  [(5, (Config.measure (Config.fusedKeyHash.toNat :: [1, 2, 3].map fun k => Tab.get 0 s.fw.minSvn k)).toNat),
   (6, (Config.measure (flag s.fw.allowUnsigned :: (rangeFrom 1 8).map (fun n => keyDigest (Tab.get none s.fw.imageKeys n)) ++
      (rangeFrom 1 8).map fun n => keyDigest ((Tab.get none s.fw.tileKeys n).map Prod.snd))).toNat),
   (7, (Config.measure [(combinationDigest s.fw.running).toNat, s.fw.vet]).toNat)] ++
  (rangeFrom 8 (min 8 tiles.length)).map fun i => (i, tiles[i - 8]?.getD 0)

/-- The transport of a request is served: 0 and 1 the DOE mailboxes of PF0 and the port-1 function, 2 to 4 the MCTP
media. -/
def spdmOpen (s : State) (transport : Nat) : Bool := match transport with
  | 0 => mpRuns s && s.boot.ready
  | 1 => mpRuns s && s.boot.ready && !s.pins.poolRole
  | n + 2 => mpRuns s && mctpOpen s n

/-- The context after a request that succeeds: 1 after GET_VERSION, 2 after GET_CAPABILITIES, 3 after NEGOTIATE_ALGORITHMS, in
that order (R373). -/
def spdmNext (ctx kind : Nat) : Nat := match kind with
  | 0 => 1
  | 1 => if ctx = 1 then 2 else ctx
  | 2 => if ctx = 2 then 3 else ctx
  | _ => ctx

/-- SPDM_REQUEST: kinds 0 to 6 are the seven requests of R373; the answer depends on the request, its transport's context and
the measurements. -/
def execSpdmRequest (transport src kind content : Nat) (s : State) : Host.Outcome State Fault Refusal :=
  if !spdmOpen s transport then .next s
  else
    let ctx := Tab.get 0 s.fw.spdm transport
    .next (emit (.spdmAnswer transport src (Config.spdmAnswer [kind, content, ctx] (measurements s)))
      { s with fw := { s.fw with spdm := Tab.set 0 s.fw.spdm transport (spdmNext ctx kind) } })

end Sys2Proof.Machine
end

