-- ==== Sys2Proof/Machine/PartCmds.lean ====
section
/-! DEFINITION. The commands on partitions and the scrub interval (R102, R129, R141, R165, R268, R363, R570, R580). -/

namespace Sys2Proof.Machine

/-- Entry i of PARTITION_SET_LAYOUT: COL0, ROW0, COLS and ROWS in that byte order. -/
def layoutEntry (p i : Nat) : Rect :=
  ⟨bits p (32 * i) 8, bits p (32 * i + 8) 8, bits p (32 * i + 16) 8, bits p (32 * i + 24) 8⟩

/-- The four rectangles of the command. -/
def layoutOf (p : Nat) : List Rect := (rangeFrom 0 4).map (layoutEntry p)

/-- An entry is absent and zero, or a rectangle of the grid (R129). -/
def layoutEntryOk (r : Rect) : Bool :=
  if r.cols = 0 then r.col0 == 0 && r.row0 == 0 && r.rows == 0
  else r.rows != 0 && decide (r.col0 + r.cols ≤ 4) && decide (r.row0 + r.rows ≤ 4)

/-- Two present rectangles share a tile. -/
def rectsShare (a b : Rect) : Bool :=
  a.cols != 0 && b.cols != 0 && decide (a.col0 < b.col0 + b.cols) && decide (b.col0 < a.col0 + a.cols) &&
  decide (a.row0 < b.row0 + b.rows) && decide (b.row0 < a.row0 + a.rows)

/-- No two rectangles of a list share a tile. -/
def rectsApart : List Rect → Bool
  | [] => true
  | a :: t => (t.all fun b => !rectsShare a b) && rectsApart t

/-- The layout is well formed (R129). -/
def layoutOk (p : Nat) : Bool := (layoutOf p).all layoutEntryOk && rectsApart (layoutOf p)

/-- A changed rectangle holds a slot, or takes in a unit under test (R129, R268). -/
def layoutBusy (s : State) (p : Nat) : Bool :=
  (rangeFrom 0 4).any fun i =>
    layoutEntry p i != acceptedRect s i && (partTaken s i || testInside s (layoutEntry p i))

/-- PARTITION_SET_LAYOUT: the layout waits for the next frame boundary. -/
def execPartitionSetLayout (q : MciReq) (s : State) : Host.Outcome State Fault Refusal :=
  let p := mciParams q
  .next (mciFixed 0x0206 16 [(0, 128)] (layoutOk p) q (fun s =>
    if layoutBusy s p then mciStatus 0x0206 q mBusy s
    else mciStatus 0x0206 q mSuccess { s with layoutPend := some (layoutOf p) }) s)

/-- What PARTITION_QUERY tells of a partition: rectangle, slot or binding, park and hold. -/
def partContent (s : State) (k : Nat) : List Nat :=
  let p := part s k
  let r := rect s k
  [put r.col0 0 8 + put r.row0 8 8 + put r.cols 16 8 + put r.rows 24 8,
   match p.slot, p.binding with
   | some n, _ => 1 + n
   | none, some (n, _) => 16 + n
   | none, none => 0,
   flag p.unbinding.isSome, flag p.parked, flag p.held]

/-- PARTITION_QUERY: the layout and its bindings. -/
def execPartitionQuery (q : MciReq) (s : State) : Host.Outcome State Fault Refusal :=
  .next (mciFixed 0x0207 0 [] true q (fun s =>
    mciQuery 0x0207 q ((rangeFrom 0 4).flatMap (partContent s)) s) s)

/-- PARTITION_RESET: pending until the next boundary of the partition, at once when it is parked; a bind that has not
taken effect is cancelled (R570, R580). -/
def execPartitionReset (q : MciReq) (s : State) : Host.Outcome State Fault Refusal :=
  let k := bits (mciParams q) 8 2
  .next (mciFixed 0x0208 8 [(8, 2)] true q (fun s =>
    if !partTaken s k then mciStatus 0x0208 q mBusy s
    else
      let s1 := mciStatus 0x0208 q mSuccess s
      if (part s1 k).slot.isNone then cancelBind k s1
      else if (part s1 k).parked then resetEffect k s1
      else updPart k (fun x => { x with resetPend := true }) s1) s)

/-- BUFFER_SCRUB: the interval exponent, 12 to 20 (R165). -/
def execBufferScrub (q : MciReq) (s : State) : Host.Outcome State Fault Refusal :=
  let e := bits (mciParams q) 0 5
  .next (mciFixed 0x0301 8 [(0, 5)] (decide (12 ≤ e) && decide (e ≤ 20)) q (fun s =>
    mciStatus 0x0301 q mSuccess { s with buf := { s.buf with scrubExp := e } }) s)

end Sys2Proof.Machine
end

