-- ==== Sys2Proof/Machine/PoolGap.lean ====
section
/-! DEFINITION. The pool gap of a pseudo-channel and the service bound of a region (R431, R454, R544). -/

namespace Sys2Proof.Machine

/-- What a walk over the cells of successive frames has met: cells since the last permitted one, the idle run under way, and the
longest span without a permitted cell. -/
structure GapWalk where
  since : Nat
  run : Nat
  worst : Nat
  deriving DecidableEq, Repr

/-- One cell. The sixteenth idle cell of a run makes the run's cells permitted, from its first on; its last 6 cells are not (R285). -/
def GapWalk.cell (busy : Bool) (w : GapWalk) : GapWalk :=
  if busy then (if 16 ≤ w.run then { w with since := 7, run := 0 } else { w with since := w.since + w.run + 1, run := 0 })
  else if w.run = 15 then { since := 0, run := 16, worst := max w.worst w.since }
  else { w with run := w.run + 1 }

/-- The cells of a frame, of which the lane that the frame before began takes the first. Every lane counts as refreshing (R431). -/
def GapWalk.frame (cs : List CellRec) (before : Nat) (w : GapWalk) : GapWalk :=
  (rangeFrom 0 512).foldl (fun v c => v.cell (cellBusy cs before c)) w

/-- The longest of some spans; none is unbounded. -/
def worstSpan (l : List (Option Nat)) : Option Nat := l.foldl (fun a b => match a, b with
  | some x, some y => some (max x y)
  | _, _ => none) (some 0)

/-- The longest span in cells on the paths of n further frames; a span that covers every frame of the image comes from a cycle
without a permitted cell, and is unbounded. -/
def Image.gapFrom (im : Image) (pc : Nat) : Nat → Nat → Frm → GapWalk → Option Nat
  | 0, _, _, w => if 512 * (im.frames.length + 1) ≤ w.since + w.run ∧ w.run < 16 then none else some w.worst
  | n + 1, before, x, w =>
    let cs := pcCells im pc (im.patOf x)
    let v := w.frame cs before
    worstSpan (some v.worst :: (im.nexts x).map fun e => im.gapFrom pc n (laneOver cs) e.1 v)

/-- The longest span without a permitted cell, in cells, over every frame and succession of an image (R431). A span covers at
most every frame once, behind the idle run that it follows. -/
def Image.gapCells (im : Image) (pc : Nat) : Option Nat :=
  worstSpan (im.frames.map fun x => im.gapFrom pc (im.frames.length + 3) 0 x ⟨0, 0, 0⟩)

/-- Cells of 8 ticks at the image's floor, in picoseconds (R59). -/
def floorPs (im : Image) (cells : Nat) : Nat :=
  cdiv (8 * cells * 625 * rateDen (floorOf im)) (max 1 (rateNum (floorOf im)))

/-- The gap that the MP computed at the bind of the image that holds a pseudo-channel; 0 without one (R431). -/
def boundGap (s : State) (pc : Nat) : Option Nat := match pcPart s pc with
  | none => some 0
  | some (_, im) => (im.gapCells pc).map (floorPs im)

/-- The pool gap G at present: 0 in autonomous mode, and so while a park lasts (R431, R454). -/
def poolGap (s : State) (pc : Nat) : Option Nat := if (pcOf s pc).sched then boundGap s pc else some 0

/-- The pseudo-channels of a region's extents on this module; a unit is striped across its stack's 32 (R275, R422). -/
def regionPcs (r : Region) : List Nat :=
  if r.backing = 1 then [] else ((r.extents.map fun e => e / 36).eraseDups).flatMap fun k => rangeFrom (32 * k) 32

/-- A member is being declared lost: its module is not lost yet, but no route reaches it (R431, R488). DEDUCED, log entry 35. -/
def memberFails (s : State) (r : Region) : Bool :=
  r.members.any fun m => m != self s && !s.lat.lost.contains m && (unschedPort s (self s) m 0).isNone

/-- The service bound that is reported, in picoseconds: it assumes scheduled mode at the floor, so that a park, a throttle change
or a hold leaves it as it is (R431, R454, R544). -/
def serviceBound (s : State) (r : Region) : Option Nat :=
  (worstSpan ((regionPcs r).map (boundGap s))).map fun g =>
    2000000 + g + (if r.prot ≠ 0 ∨ r.members.any (fun m => m != self s) then 2 * deliveryPs s else 0) +
    (if r.backing = 1 then 40000000000 else 0) + (if s.pm.poolSr ∧ !(regionPcs r).isEmpty then 15000000 else 0) +
    if memberFails s r then 1500000000 + deliveryPs s else 0

end Sys2Proof.Machine
end

