-- ==== Sys2Proof/Machine/PoolCmds.lean ====
section
/-! DEFINITION. The commands of the shared pool: region commands, requests of hosts and modules, pool commands and their
ends, tokens and leases, member loss, rebuild and zero-fill (chapter 13, R463). -/

namespace Sys2Proof.Machine

/-! ### Region commands (R424 to R428) -/

/-- POOL_REGION_CREATE (opcode 0x0501, OP CREATE): extents are allocated on every member; the region is then ONLINE with an
empty list (R424). -/
def execPoolRegionCreate (q : MciReq) (s : State) : Host.Outcome State Fault Refusal :=
  .next (mciFixed 0x0501 32 (prFields (mciParams q)) (prRangeOk s (mciParams q)) q (regionCommand 0x0501 q) s)

/-- POOL_REGION_REPLACE (opcode 0x0501, OP REPLACE): for a DEGRADED region, a new module takes the lost member's place and
the rebuild starts (R424, R443). -/
def execPoolRegionReplace (q : MciReq) (s : State) : Host.Outcome State Fault Refusal :=
  .next (mciFixed 0x0501 32 (prFields (mciParams q)) (prRangeOk s (mciParams q)) q (fun t => regionCommand 0x0501 q t) s)

/-- POOL_REGION_DELETE (opcode 0x0502): the access list is emptied on every module at once, then the extents are released
(R425, R452). -/
def execPoolRegionDelete (q : MciReq) (s : State) : Host.Outcome State Fault Refusal :=
  .next (mciFixed 0x0502 8 [(0, 12)] true q (regionCommand 0x0502 q) s)

/-- POOL_ACCESS_SET (opcode 0x0503): the region's shadow list and mode; PF0 of this module wrote it, so its next switch with
POOL brings it into force (R426). -/
def execPoolAccessSet (q : MciReq) (s : State) : Host.Outcome State Fault Refusal :=
  let x := mciParams q
  let n := bits x 16 6
  let ids := (aclOf x).1.map Access.pbr
  let fields := [(0, 12), (12, 1), (16, 6)] ++ (rangeFrom 0 n).map fun i => (128 + 32 * i, 14)
  .next (mciRun 0x0503 (q.plen == 16 + 4 * n) (reservedClear x fields && decide (n ≤ 32) && ids.eraseDups.length == ids.length)
    q (fun t =>
      let g := prRegion x
      let t1 := if (regionOf t g).state = 0 then t
        else
          let u := updRegion g (fun r => { r with shadow := some (aclOf x) }) t
          { u with pool := { u.pool with written := g :: u.pool.written.filter fun w => w != g } }
      regionCommand 0x0503 q t1) s)

/-- A time that may be unbounded: a flag and the value. -/
def orUnbounded (x : Option Nat) : List Nat := match x with
  | some t => [0, t]
  | none => [1, 0]

/-- What POOL_QUERY says of a region: its entry, the service bound, and the largest pool gap G at present (R428, R431, R454). -/
def regionReport (s : State) (g : Nat) : List Nat :=
  let r := regionOf s g
  orUnbounded (serviceBound s r) ++ orUnbounded (worstSpan ((regionPcs r).map (poolGap s))) ++
  [g, r.state, r.prot, r.mode, r.backing, r.size, regionCoord s r, r.cursor, r.done, r.good, (counter s 0x0304 g).toNat] ++
  r.members ++ r.acl.map fun a => a.pbr + put (flag a.rd) 12 1 + put (flag a.wr) 13 1

/-- POOL_QUERY (opcode 0x0504): a region, or with ALL every region on which the requester holds a right (R428, Table 12.3). -/
def execPoolQuery (q : MciReq) (s : State) : Host.Outcome State Fault Refusal :=
  let x := mciParams q
  .next (mciFixed 0x0504 8 [(0, 12), (12, 1)] true q (fun t =>
    let seen (g : Nat) : Bool := isMctp q.who || winPool t (fnOfWho q.who) g false || winPool t (fnOfWho q.who) g true
    if bit1 x 12 then
      mciQuery 0x0504 q (((t.pool.region.map fun e => e.1).filter seen).flatMap (regionReport t)) t
    else if seen (bits x 0 12) then mciQuery 0x0504 q (regionReport t (bits x 0 12)) t
    else mciStatus 0x0504 q mWindow (violation (fnOfWho q.who) 4 t)) s)

/-! ### Requests of hosts (R417 to R419, R430, R433) -/

/-- CXL_MEM_READ: judged by the access list on arrival and served here or forwarded (R403, R417, R430). -/
def execCxlMemRead (pbr tag : Nat) (region : Option Nat) (off : Nat) (s : State) : Host.Outcome State Fault Refusal :=
  .next (if poolPortUp s then hostRead pbr tag region off s else s)

/-- A write of a fabric host: a 64-byte write to a command line of the control extent starts a mailbox command (R418, R419). -/
def memWrite (pbr tag : Nat) (region : Option Nat) (off : Nat) (data : LineData) (poison : Bool) (s : State) : State :=
  hostWrite pbr tag region off data poison
    (if region.isNone ∧ off < 1024 ∧ off % 128 = 0 then mailCommand pbr (off / 128) data.toNat s else s)

/-- CXL_MEM_WRITE: judged, and completed once every copy holds the line (R403, R430). -/
def execCxlMemWrite (pbr tag : Nat) (region : Option Nat) (off : Nat) (data : LineData) (poison : Bool) (s : State) :
    Host.Outcome State Fault Refusal :=
  .next (if poolPortUp s then memWrite pbr tag region off data poison s else s)

/-- POOL_MAILBOX_COMMAND: a 64-byte write to a command line (R419). -/
def execPoolMailboxCommand (pbr slot : Nat) (line : BitVec 512) (s : State) : Host.Outcome State Fault Refusal :=
  .next (if poolPortUp s && decide (slot < 8) then mailCommand pbr slot line.toNat s else s)

/-! ### Pool commands on the engines (R436 to R440) -/

/-- Write a pattern over this module's lines of a FILL. -/
def fillLines (id c : Nat) (offs : List Nat) (_ : List LineIn) (s : State) : Option State :=
  some (offs.foldl (fun t o => destLine id (pcDreg c) o (fillLineOf c) t) s)

/-- FILL: VALUE repeatedly over LEN bytes at DOFF (Table 13.6). -/
def execFill (id : Nat) (fetched : List LineIn) (s : State) : Host.Outcome State Fault Refusal :=
  .next (runData 1 id (fun c offs => fillLines id c offs fetched) s)

/-- COPY: LEN bytes from SREG to DREG (Table 13.6). -/
def execCopy (id : Nat) (fetched : List LineIn) (s : State) : Host.Outcome State Fault Refusal :=
  .next (runData 2 id (fun c offs => copyLines id c offs fetched) s)

/-- COMPARE: the first difference of two ranges (Table 13.6). -/
def execCompare (id : Nat) (fetched : List LineIn) (s : State) : Host.Outcome State Fault Refusal :=
  .next (runData 3 id (fun c offs => compareLines id c offs fetched) s)

/-- REDUCE: element-wise, strictly left to right (R437). -/
def execReduce (id : Nat) (fetched : List LineIn) (s : State) : Host.Outcome State Fault Refusal :=
  .next (runData 4 id (fun c offs => reduceLines id c offs fetched) s)

/-- FLUSH: the next token of DREG (R439). -/
def execFlush (id : Nat) (s : State) : Host.Outcome State Fault Refusal := .next (runToken 5 id s)

/-- STATUS: the state of a token (R439). -/
def execStatus (id : Nat) (s : State) : Host.Outcome State Fault Refusal := .next (runToken 6 id s)

/-- LEASE: granted or renewed for VALUE ms (R440). -/
def execLease (id : Nat) (s : State) : Host.Outcome State Fault Refusal := .next (runToken 7 id s)

/-- UNLEASE: the holder's lease ends (R440). -/
def execUnlease (id : Nat) (s : State) : Host.Outcome State Fault Refusal := .next (runToken 8 id s)

/-- POOL_COMMAND_END: every part has ended and the result goes to the requester (R438). -/
def execPoolCommandEnd (id : Nat) (s : State) : Host.Outcome State Fault Refusal :=
  match cmdOf s id with
  | none => .next s
  | some x => .next (if x.ran && x.left == 0 then commandEnd x s else s)

/-! ### Tokens and leases (R439, R440) -/

/-- What the oldest token of a region covers is durable on this module. -/
def regionDurable (s : State) (g : Nat) : Bool :=
  (regionOf s g).backing == 0 || (regionOf s g).tokens.any fun k => k.t == (regionOf s g).done + 1 && k.here

/-- FLUSH_TOKEN_COMPLETE: the writes that the region's oldest token covers are held in every copy, and durable (R439). -/
def execFlushTokenComplete (region : Nat) (s : State) : Host.Outcome State Fault Refusal :=
  .next (if regionDurable s region then completeToken region true s else s)

/-- FLUSH_TOKEN_TIMEOUT: a token 10 s after its issue completes as failed (R439). -/
def execFlushTokenTimeout (region : Nat) (s : State) : Host.Outcome State Fault Refusal :=
  match (regionOf s region).tokens with
  | [] => .next s
  | t :: _ => .next (if t.at_ + 10000000000000 ≤ s.clk.wallPs then completeToken region false s else s)

/-- LEASE_EXPIRY: a lease ends at its expiry (R440). -/
def execLeaseExpiry (region : Nat) (s : State) : Host.Outcome State Fault Refusal :=
  match (regionOf s region).lease with
  | none => .next s
  | some (_, t) => .next (if t ≤ s.clk.wallPs then updRegion region (fun r => { r with lease := none }) s else s)

/-! ### Loss, rebuild, zero-fill (R422, R425, R441 to R445) -/

/-- A member of a region is gone: its module is lost, or this module's part can no longer be served (R441, R445). -/
def memberGone (s : State) (r : Region) (m : Nat) : Bool :=
  let mine := r.moduleOf m == self s
  s.lat.lost.contains (r.moduleOf m) ||
  (mine && r.backing == 1 && (!denseUp s || s.dense.attached.any fun a => (driveOf s a.1).failed)) ||
  (mine && r.backing == 0 && !r.extents.isEmpty && r.extents.all fun e => (rangeFrom (32 * (e / 36)) 32).all fun p =>
      !s.fmap.pcLive p || (stackOf s (e / 36)).dead)

/-- The counters and the tokens as a coordinator new to its office takes them over: what was pending is pending from now on, and no
lease is granted for 10 s (R439, R440). -/
def takeOffice (s : State) (r : Region) : Region :=
  { r with
    leaseFrom := s.clk.wallPs + 10000000000000
    tokens := (rangeFrom (r.done + 1) (r.issued - r.done)).map fun t => ⟨t, s.clk.wallPs, false, false⟩ }

/-- MEMBER_LOSS: the coordinator applies Table 13.8 and the others learn of it; a coordinator new to its office grants no
lease for 10 s (R440, R441). -/
def execMemberLoss (region member : Nat) (s : State) : Host.Outcome State Fault Refusal :=
  let r := regionOf s region
  if r.served && decide (member < r.members.length) && memberGone s r member &&
      !(r.lost == some member && r.state == 3) then
    let s1 := loseMember region member s
    let k := regionCoord s1 (regionOf s1 region)
    let newOffice := k == self s && r.members.any fun m => m != self s && decide (m < self s) && s.lat.lost.contains m
    let s2 := if newOffice then updRegion region (takeOffice s) s1 else s1
    .next (if k = self s ∨ r.moduleOf member = self s then replicate region s2 else s2)
  else .next s

/-- The rebuild may go on: this module is the new member, no line of it and no write at the cursor is under way, and RATE is kept
(R443). -/
def rebuildDue (s : State) (region : Nat) (r : Region) (i : Nat) : Bool :=
  r.state == 4 && r.moduleOf i == self s && !(s.pool.accs.any fun a => a.for_ == .rebuild region) &&
  !(s.pool.accs.any fun a => a.write && a.region == region && a.off == r.cursor) &&
  decide (r.cursor * 1000 ≤ r.rate * (s.clk.wallPs - r.rebuildAt))

/-- REBUILD_STEP: the line at the cursor is fetched from the survivor or the stripe and written here (R443). -/
def execRebuildStep (region : Nat) (s : State) : Host.Outcome State Fault Refusal :=
  let r := regionOf s region
  match r.lost with
  | none => .next s
  | some i =>
    if rebuildDue s region r i then
      let a : PoolAcc := ⟨s.pool.nextId, .rebuild region, region, i, r.cursor, false, 0, false, 4, 0, false, 0, s.win.gen.toNat⟩
      .next ((if r.prot = 2 ∧ i ≠ 8 then askPieces 12 (piecesOf r i false) a else gatherAcc a (piecesOf r i true))
        { s with pool := { s.pool with accs := s.pool.accs ++ [a], nextId := s.pool.nextId + 1 } })
    else .next s

/-- Bytes of an HBM unit read zero, and its lines carry no error (R275, R422). -/
def zeroUnit (u : Nat) (s : State) : State :=
  let inUnit (pc line : Nat) : Bool := pc / 32 == u / 36 && unitOfStripe (line / 64) == u % 36
  { s with hbm := { s.hbm with
    mem := s.hbm.mem.filter fun e => !inUnit (e.1 / 1207959552) (e.1 % 1207959552 / 64)
    flag := s.hbm.flag.filter fun e => !inUnit (e.1 / pcLines) (e.1 % pcLines)
    zeroed := s.hbm.zeroed.filter fun v => v != u } }

/-- A GiB of dense capacity reads zero: cached lines of it go, zeros go to its blocks on every drive, and a block written
whole leaves the failed-block list (R306, R422). -/
def zeroDense (g : Nat) (s : State) : State :=
  let mine (k : Nat) : Bool := (cacheLine s k).state != 0 && blockOf s k / 262144 == g
  let s1 := dropJobs (fun j => match j.2 with
    | .evict b => b / 262144 == g
    | _ => false) s
  emitAll (s.dense.attached.map fun a => .driveCmd a.1 4 g 0) { s1 with dense := { s1.dense with
    lines := s.dense.lines.filter fun e => !mine e.1
    writing := s.dense.writing.filter fun w => w.1 / 262144 != g
    failedBlocks := s.dense.failedBlocks.filter fun b => b / 262144 != g
    healing := s.dense.healing.filter fun e => e.1 / 262144 != g } }

/-- Zero a unit or a GiB by its key. -/
def zeroKey (key : Nat) (s : State) : State := if key < 4096 then zeroUnit key s else zeroDense (key - 4096) s

/-- A region is being deleted, and no access or command on it is in flight here (R452). -/
def deletable (s : State) (e : Nat × Region) : Bool :=
  e.2.state == 6 && !(s.pool.accs.any fun a => a.region == e.1) &&
  !(s.pool.cmds.any fun c => (pcRegions c.cmd).contains e.1)

/-- UNIT_ZERO_FILL: a freed unit or GiB, or one of a region that is being deleted, is zeroed by the near-memory engines
(R422, R425). The unit is a module unit number, or 4,096 + GiB. -/
def execUnitZeroFill (unit : Nat) (s : State) : Host.Outcome State Fault Refusal :=
  if s.pool.unzeroed.contains unit then
    .next (zeroKey unit { s with pool := { s.pool with unzeroed := s.pool.unzeroed.filter fun u => u != unit } })
  else
    let ext := if unit < 4096 then unit else unit - 4096
    let back := if unit < 4096 then 0 else 1
    match s.pool.region.find? fun e => deletable s e && e.2.backing == back && e.2.extents.contains ext with
    | none => .next s
    | some e =>
      let s1 := zeroKey unit (updRegion e.1 (fun r => { r with extents := r.extents.filter fun x => x != ext }) s)
      .next (if (regionOf s1 e.1).extents.isEmpty then extentsDone e.1 s1 else s1)

/-- REGION_DELETE_COMPLETE: every extent on every live member is back, and the region is FREE (R425). -/
def execRegionDeleteComplete (region : Nat) (s : State) : Host.Outcome State Fault Refusal :=
  let r := regionOf s region
  let left := r.members.filter fun m => m != self s && moduleLive s m
  if deletable s (region, r) && r.extents.isEmpty && left.isEmpty && regionCoord s r == self s then
    .next (replicate region (updRegion region (fun _ => Region.reset) s))
  else .next s

/-! ### Requests between modules (R463) -/

/-- UREQ_READ: lines of this module's part. -/
def execUreqRead (h : FlitHdr) (u : UnschIn) (s : State) : Host.Outcome State Fault Refusal :=
  .next (takeReq h 1 u (reqRead h u) s)

/-- UREQ_WRITE: lines are applied, for mirroring or as a forwarded write (R430). -/
def execUreqWrite (h : FlitHdr) (u : UnschIn) (s : State) : Host.Outcome State Fault Refusal :=
  .next (takeReq h 2 u (reqWrite h u) s)

/-- UREQ_DELTA: lines are XORed into the parity (R430). -/
def execUreqDelta (h : FlitHdr) (u : UnschIn) (s : State) : Host.Outcome State Fault Refusal :=
  .next (takeReq h 3 u (reqDelta h u) s)

/-- UREQ_REBUILD: lines for a reconstruction (R441, R443). -/
def execUreqRebuild (h : FlitHdr) (u : UnschIn) (s : State) : Host.Outcome State Fault Refusal :=
  .next (takeReq h 4 u (reqRebuild h u) s)

/-- UREQ_CMD: a part of a pool command (R438). -/
def execUreqCmd (h : FlitHdr) (u : UnschIn) (s : State) : Host.Outcome State Fault Refusal :=
  .next (takeReq h 5 u (reqCmd h u) s)

/-- UREQ_TABLE: the region table and access lists (R420, R426). -/
def execUreqTable (h : FlitHdr) (u : UnschIn) (s : State) : Host.Outcome State Fault Refusal :=
  .next (takeReq h 6 u (fun t => tableHere h.src u.tag u.region (unschBody 6 u) t) s)

/-- UREQ_TOKEN: token and lease traffic with the coordinator (R439, R440). -/
def execUreqToken (h : FlitHdr) (u : UnschIn) (s : State) : Host.Outcome State Fault Refusal :=
  .next (takeReq h 7 u (reqToken h u) s)

/-- URSP: a response completes its outstanding request (R463). -/
def execUrsp (h : FlitHdr) (uop : Nat) (u : UnschIn) (s : State) : Host.Outcome State Fault Refusal :=
  .next (rxFlit h (fun t => if h.dst = self t then takeRsp h uop u t else passOn h 4 uop u t) s)

/-- UREQ_REPEAT: no response within 4 × D_L, so the request goes out again with its TAG (R463). -/
def execUreqRepeat (dst tag : Nat) (s : State) : Host.Outcome State Fault Refusal :=
  match s.lat.outReqs.find? fun q => q.dst == dst && q.tag == tag with
  | none => .next s
  | some q =>
    if q.at_ + 4 * deliveryPs s ≤ s.clk.wallPs then
      let s1 := { s with lat := { s.lat with outReqs := s.lat.outReqs.map fun r =>
        if r == q then { r with at_ := s.clk.wallPs } else r } }
      match unschedPort s1 (self s) dst tag with
      | none => .next s1
      | some p => .next (sendFlit p none q.flit s1)
    else .next s

end Sys2Proof.Machine
end

