-- ==== Sys2Proof/Machine/Power.lean ====
section
/-! DEFINITION. The commands of the power manager: control and thermal periods, sensor samples, the power brake, tile
regulators, idle states, and its MCI commands (chapter 16). -/

namespace Sys2Proof.Machine

/-! ### The control loop (R523, R525, R527, R533, R534) -/

/-- Measure: powers, energy, T_ctl, the junction limit, and whether any sensor can be believed. -/
def measure (m : PowerIn) (s : State) : State :=
  let hot := (tCtl s).getD 0
  let s1 := if 1648 < hot ∧ s.pm.tctl ≤ 1648 then pwrAttention 3 s else s
  let s2 := countBy 0x0601 0 m.energy { s1 with pm := { s1.pm with
    p10us := m.p10us, p1ms := m.p1ms, p5ms := m.p5ms, pMin := m.pMin, tctl := hot, noPlausible := nonePlausible s } }
  let s3 := noteExcursions s2
  if nonePlausible s ≠ s.pm.noPlausible then evaluateRequests s3 else s3

/-- The ramp falls to the setting in force when another limit governs (R527). The comparison of the control period with which a
100 µs period begins comes before the rise, so a rise that no setting has followed yet is not undone. -/
def rampFalls (s : State) : State :=
  let x := s.clk.setting
  if !s.pm.rose && slowerThan x (selectSetting s.pm.qRamp) then { s with pm := { s.pm with qRamp := settingUnits x } } else s

/-- CAP_SHORT and BRAKE_SHORT with the entry for each time that they begin (R533, R535). -/
def noteShort (m : PowerIn) (s : State) : State :=
  let cs := decide (10 * capForce s < m.pMin)
  let bs := s.pm.braked && decide (5 * s.pm.cap < m.pMin)
  let s1 := if cs && !s.pm.capShort then pwrAttention 1 (sendEvent ⟨0x1005, 0, 0, none, pmEndpoint, 0⟩ s) else s
  let s2 := if bs && !s.pm.brakeShort then pwrAttention 2 (sendEvent ⟨0x1006, 0, 0, none, pmEndpoint, 0⟩ s1) else s1
  { s2 with pm := { s2.pm with capShort := cs, brakeShort := bs } }

/-- A current-sense channel runs on its fused trim (R533). -/
def onFusedTrim (s : State) : Bool := s.pm.cal.any fun e => decide (128 ≤ e.1) && e.2 != 0

/-- The budget of a tile in 0.1 W: P_MAX while a run of its partition executes, P_GATED while its clusters are gated, else P_IDLE;
none for a tile without VDDT (R229, Table 7.12). -/
def tileBudget (s : State) (t : Nat) : Nat :=
  let x := tileAt s t
  if !x.vddt then 0
  else if x.gated then x.pGated
  else match partOf s (cornerRouter t) with
    | some k => if (part s k).run.isSome then x.pMax else x.pIdle
    | none => x.pIdle

/-- The PM budgets each tile (R229). -/
def tileBudgets (s : State) : List Nat := (rangeFrom 0 16).map (tileBudget s)

/-- q_cap, q_own and the PM's own setting: the slowest while P_MIN exceeds the cap, above 103 °C, and while no sensor is
plausible (R523, R525, R528, R533). -/
def ownSetting (m : PowerIn) (s : State) : State :=
  let qc := Config.capRate [capForce s, m.pFix, m.aRate, m.p10us, m.p1ms, m.p5ms, flag (onFusedTrim s)] (tileBudgets s)
  let q := min s.pm.qTh (min qc s.pm.qRamp)
  let x := if s.pm.capShort || s.pm.noPlausible || decide (1648 < s.pm.tctl) then slowest else selectSetting q
  let s1 := { s with pm := { s.pm with
    qCap := qc, own := x
    slowSince := if slowerThan x s.clk.setting then (if s.pm.slowSince = 0 then s.clk.wallPs + 1 else s.pm.slowSince) else 0
    capChanges := s.pm.capChanges.filter fun c => decide (s.clk.wallPs < c.1)
    vetChanges := s.pm.vetChanges.filter fun c => decide (s.clk.wallPs < c.1) } }
  { s1 with pm := { s1.pm with limit := limitBits s1 q } }

/-- PM_CONTROL_PERIOD: every 10 µs (R525). -/
def execPmControlPeriod (m : PowerIn) (s : State) : Host.Outcome State Fault Refusal :=
  if !pmRuns s then .next s
  else
    let s1 := ownSetting m (noteShort m (rampFalls (measure m s)))
    let s2 := { s1 with pm := { s1.pm with brakeReg := brakeSetting s1 m, rose := false } }
    .next (wakeTolerance (applyOwn m s2))

/-- q_th after Table 16.4. -/
def thermalRate (q : Nat) (t : Int) : Nat :=
  if t < 1488 then min 65536 (q + 1024)
  else if t ≤ 1520 then q
  else if t ≤ 1648 then max 8192 (q - 64 * (t - 1520).toNat)
  else 8192

/-- PM_THERMAL_PERIOD: every 100 µs q_th follows the bands and the ramp rises; while the brake setting governs q_th stands,
and the first raise after it falls 100 µs after the deassertion (R527, R528, R536). -/
def execPmThermalPeriod (s : State) : Host.Outcome State Fault Refusal :=
  if !pmRuns s then .next s
  else
    let p := s.pm
    let mayRise := !p.braked && (p.brakeEnd == 0 || decide (p.brakeEnd + 100000000 ≤ s.clk.wallPs))
    let fallen := (rampFalls s).pm.qRamp
    .next { s with pm := { p with
      qTh := if p.braked then p.qTh else thermalRate p.qTh p.tctl
      qRamp := if mayRise then min 65536 (fallen + 4096) else fallen
      rose := p.rose || mayRise } }

/-- Consecutive samples at or above 110 °C within RANGE, for the trip comparator (R529). -/
def countHot (sensor : Nat) (raw : BitVec 16) (s : State) : State :=
  let z := sensorOf s sensor
  setSensor sensor { z with hot := if !rangeFails raw && decide (1760 ≤ raw.toInt) then z.hot + 1 else 0 } s

/-! ### PWRBRK# (R534 to R536, R548) -/

/-- PWRBRK_ASSERT: held low for 200 ns, it brings the slower of the brake setting and the setting in force, alone in linked
mode; PM firmware counts it. While no tick runs it changes nothing (R534, R538, R653). -/
def execPwrbrkAssert (s : State) : Host.Outcome State Fault Refusal :=
  if s.pins.pwrbrk ∨ s.boot.pm = .off then .next s
  else
    let s0 := { s with pins := { s.pins with pwrbrk := true } }
    if s.clk.stopped then .next s0
    else
      let s1 := { s0 with pm := { s0.pm with braked := true } }
      let s2 := if pmRuns s1 then countBrake s1 else s1
      let s3 := if linkedOn s2 then goAlone { s2 with pm := { s2.pm with cause := some s2.pm.brakeReg } } else s2
      .next (putSetting (slower s3.pm.brakeReg (settingAhead s3)) s3)

/-- PWRBRK_DEASSERT: the time asserted counts, and the loop goes on from the rate in force (R535, R536). -/
def execPwrbrkDeassert (s : State) : Host.Outcome State Fault Refusal :=
  if !s.pins.pwrbrk then .next s
  else
    let s1 := closeBrake s
    .next { s1 with
      pins := { s1.pins with pwrbrk := false }
      pm := { s1.pm with braked := false, brakeEnd := s.clk.wallPs, brakeShort := false } }

/-! ### Tile regulators (R519) -/

/-- TILE_OVERCURRENT: the excursion counts, with one FAULT packet for the first in each second. -/
def execTileOvercurrent (tile : Nat) (s : State) : Host.Outcome State Fault Refusal :=
  if 16 ≤ tile ∨ !(tileAt s tile).vddt then .next s
  else
    let s1 := countUp 0x0604 tile s
    let last := Tab.get 0 s.pm.overLast tile
    .next (if last = 0 ∨ last + 1000000000000 ≤ s.clk.wallPs + 1 then
      blockFault 0x1007 0 tile none pmEndpoint { s1 with pm := { s1.pm with
        overLast := Tab.set 0 s1.pm.overLast tile (s.clk.wallPs + 1) } } else s1)

/-- TILE_SHUTDOWN: overcurrent for 1 ms: regulator off, TRST_N low, every cluster of the tile fused in the volatile fault
map, and a replacement request. -/
def execTileShutdown (tile : Nat) (s : State) : Host.Outcome State Fault Refusal :=
  if 16 ≤ tile ∨ !(tileAt s tile).vddt then .next s
  else
    let cells := (rangeFrom 0 1024).map (cellRouter tile)
    let s1 := updTile tile (fun x => { x with step := .off, trst := false, vddt := false, vddtReached := false }) s
    let s2 := { s1 with
      fmap := { s1.fmap with pendCluster := Tab.updAll 2 s1.fmap.pendCluster cells fun _ _ => 0 }
      pm := { s1.pm with shut := tile :: s1.pm.shut.filter fun t => t != tile } }
    .next (evaluateRequests (blockFault 0x1008 5 tile none pmEndpoint s2))

/-! ### Idle states (R541, R542) -/

/-- IDLE_STATE_ENTRY: the partition deepens to the next state whose conditions hold and whose exit fits its tolerance. -/
def execIdleStateEntry (part_ : Nat) (s : State) : Host.Outcome State Fault Refusal :=
  if !pmRuns s ∨ 4 ≤ part_ then .next s
  else match nextIdle s part_ with
    | none => .next s
    | some n =>
      if !exitFits s part_ n then .next s
      else
        let s1 := updPart part_ (fun p => { p with idleState := n, idleFrames := 0 }) s
        .next (if n = 1 then setGate (rect s part_).tiles true s1
          else if n = 3 then
            ((partStacks s part_).filter (refreshable s)).foldl (fun t j =>
              emitAll ((rangeFrom (32 * j) 32).map fun pc => .dram pc 3 0)
                (updStack j (fun z => { z with selfRefresh := true }) t)) s1
          else s1)

/-- The exit may complete: the partition has resumed, or is parked for another reason. -/
def exitOver (s : State) (k : Nat) : Bool :=
  let p := part s k
  p.exiting && (!p.parked || decide (p.idleState ≤ 1) || match boundImage s p with
    | none => true
    | some im => belowFloor s im || !imagePermitted s im)

/-- IDLE_EXIT_COMPLETE: the tiles are ungated and the partition is open again under R133 (R542). -/
def execIdleExitComplete (part_ : Nat) (s : State) : Host.Outcome State Fault Refusal :=
  if exitOver s part_ then
    .next (setGate (rect s part_).tiles false (updPart part_ (fun p => { p with
      idleState := 0, idleFrames := 0, exiting := false }) s))
  else .next s

/-! ### MCI commands (R530, R531, R539, R545, R546) -/

/-- POWER_CAP_SET (opcode 0x0801): the set cap, in effect 1 ms after acceptance, and the policy bits; with PERSIST they are
stored (R530, R531). -/
def execPowerCapSet (q : MciReq) (s : State) : Host.Outcome State Fault Refusal :=
  let x := mciParams q
  let cap := bits x 0 11
  .next (mciFixed 0x0801 8 [(0, 11), (16, 3)] (decide (500 ≤ cap) && decide (cap ≤ 1500)) q (fun t =>
    let p := t.pm
    mciStatus 0x0801 q mSuccess { t with pm := { p with
      cap := cap, laneSleep := bit1 x 17, poolSr := bit1 x 18
      stored := if bit1 x 16 then some (cap, bit1 x 17, bit1 x 18) else p.stored
      capChanges := p.capChanges ++ [(t.clk.wallPs + 1000000000, p.cap)] } }) s)

/-- POWER_QUERY (opcode 0x0802): the fields of Table 16.8 (R545). -/
def execPowerQuery (q : MciReq) (s : State) : Host.Outcome State Fault Refusal :=
  .next (mciFixed 0x0802 0 [] true q (fun t => mciAnswer 0x0802 q mSuccess 0 48 (powerView t) t) s)

/-- WAKE_LATENCY_SET (opcode 0x0803): the issuing function's tolerated wake latency (R539). -/
def execWakeLatencySet (q : MciReq) (s : State) : Host.Outcome State Fault Refusal :=
  .next (mciFixed 0x0803 8 [(0, 32)] true q (fun t =>
    mciStatus 0x0803 q mSuccess (updFn (fnOfWho q.who) (fun f => { f with
      wake := BitVec.ofNat 32 (bits (mciParams q) 0 32) }) t)) s)

/-- SENSOR_QUERY (opcode 0x0804): one entry per sensor of a set (R546). -/
def execSensorQuery (q : MciReq) (s : State) : Host.Outcome State Fault Refusal :=
  let x := mciParams q
  let set := bits x 0 2
  let keys := match set with
    | 0 => rangeFrom 0 128
    | 1 => rangeFrom (tileSensor (bits x 4 4) 0) 8
    | _ => hbmSensors
  .next (mciFixed 0x0804 8 [(0, 2), (4, 4)] (set != 3) q (fun t =>
    mciAnswer 0x0804 q mSuccess 0 (8 * keys.length)
      (packFields 64 (fun i => sensorEntry t (keys[i]?.getD 0)) keys.length) t) s)

end Sys2Proof.Machine
end

