-- ==== Sys2Proof/Machine/ResetOps.lean ====
section
/-! DEFINITION. What the resets of chapter 17 keep and clear, the P-domain record, the alert and trip outputs, and the start
that follows a reset (R529, R556 to R559, R566 to R571, R596, R598, R646, R647). -/

namespace Sys2Proof.Machine

/-! ### Runs, records and the class 7 event (R566, R568, R596) -/

/-- Runs executing and suspended. -/
def allRuns (s : State) : List Run := (rangeFrom 0 4).flatMap fun k => (part s k).run.toList ++ (part s k).suspended

/-- The runs of the P-domain record: of the 16 most recently admitted, those that the event ends (R596). -/
def endedNow (s : State) : List EndedRun :=
  s.logs.recentRuns.filter fun e => (allRuns s).any fun r => r.fn == e.fn && r.ring == e.ring && r.seq == e.seq

/-- A module-fatal event enters the P-domain record, which holds the first of them until step 8. -/
def fatalRecord (reason unit : Nat) (s : State) : State := match s.logs.power with
  | some _ => s
  | none => { s with logs := { s.logs with
      power := some ⟨reason, unit, s.clk.refTime, (allRuns s).length, endedNow s⟩ } }

/-- A class 7 event: its record, and ALERT# (R646). -/
def fatalEvent (reason unit : Nat) (s : State) : State :=
  let s1 := fatalRecord reason unit s
  { s1 with pins := { s1.pins with alert := true } }

/-! ### What a reset clears, block by block (Table 17.4) -/

/-- Every run and bind ends without a completion, and the plane is empty (R566). -/
def clearPlane (s : State) : State :=
  { s with
    parts := [], layout := [], layoutPend := none, slots := [], comp := [], ctl := Ctl.reset
    buf := { Buf.reset with
      mem := s.buf.mem, bad := s.buf.bad, single := s.buf.single, counted := s.buf.counted, firstBad := s.buf.firstBad }
    rings := Rings.reset, regs := Regs.reset, win := Windows.reset, tiles := Tiles.reset }

/-- Stacks in self-refresh with every row precharged, pseudo-channels without work; contents and roles stay (R566). -/
def restHbm (s : State) : State :=
  let on := (rangeFrom 0 8).filter fun k => (stackOf s k).trained
  let keep (p : Pc) : Pc :=
    { Pc.reset with
      failing := p.failing, repaired := p.repaired, kept := p.kept, exhausted := p.exhausted, spent := p.spent }
  let keys := s.hbm.pc.map fun e => e.1
  emitAll (on.flatMap fun k => (rangeFrom (32 * k) 32).map fun pc => Output.dram pc 3 0)
    { s with hbm := { s.hbm with
      pc := Tab.updAll Pc.reset s.hbm.pc keys fun _ p => keep p
      stack := Tab.updAll Stack.reset [] on fun _ _ => { Stack.reset with selfRefresh := true } } }

/-- The cache is invalidated with its DIRTY lines; the list of the last DENSE_ATTACH stays for the reattachment, and the failed
drives of Table 18.4 stay known (R564, R588). -/
def restDense (s : State) : State :=
  { s with dense := { Dense.reset with attached := s.dense.attached, perDrive := s.dense.perDrive, lost := s.dense.lost } }

/-- This module is no member any more: its regions suffer the loss, its extents await their zero-fill (Table 17.4, R422). -/
def leaveRegion (e : Nat × Region) (s : State) : State :=
  let me := s.lat.cfg.module
  let mine := (rangeFrom 0 e.2.members.length).filter fun i => e.2.members[i]? == some me
  if mine.isEmpty then s
  else releaseExtents e.1 (mine.foldl (fun t i => updRegion e.1 (fun r => lossOf r i) t) s)

/-- Access lists, mailboxes, commands and accesses of the pool go. -/
def restPool (s : State) : State :=
  let s1 := s.pool.region.foldl (fun t e => leaveRegion e t) s
  let keys := s1.pool.region.map fun e => e.1
  let bare (r : Region) : Region := { r with acl := [], shadow := none, tokens := [], lease := none }
  { s1 with pool := { Pool.reset with
    region := Tab.updAll Region.reset s1.pool.region keys fun _ r => bare r, unzeroed := s1.pool.unzeroed } }

/-- Links down, group standing lost; configuration and policy stay (Table 17.4). -/
def restLattice (s : State) : State :=
  { s with lat := { Lat.reset with cfg := s.lat.cfg, policy := s.lat.policy, tag := s.lat.tag } }

/-- Findings of this power cycle's map and lanes are derived afresh at the next start; consents and tests go. -/
def restLanes (s : State) : State :=
  { s with
    lanes := { s.lanes with volatile := [], status := [], consent := [], tests := [], retraining := [], links := [], hbmDead := [] }
    fmap := { FaultMap.reset with merges := s.fmap.merges } }

/-- The MP stops: requests, subscriptions, addresses and running packages go; flash stays. -/
def restMp (s : State) : State :=
  { s with
    fw := { s.fw with
      running := [], pmRetained := false, vet := 0, outstanding := [], subs := [], eid := [], spdm := [], restart := 0 }
    pins := { s.pins with i3cDyn := none } }

/-- A sensor that loses its power keeps its exclusions alone. -/
def sleepSensor (z : Sensor) : Sensor := { Sensor.reset with status := z.status, exclusions := z.exclusions, stuck := z.stuck }

/-- The PM's boot ROM takes over: it reads the base-die sensors, and tile and stack sensors are without power (R558). -/
def restPm (s : State) : State :=
  let keys := (s.pm.sensors.map fun e => e.1).filter fun k => decide (256 ≤ k)
  { s with pm := { Pm.reset with
    cap := s.pm.cap, laneSleep := s.pm.laneSleep, poolSr := s.pm.poolSr, stored := s.pm.stored
    capChanges := s.pm.capChanges, vetChanges := s.pm.vetChanges, brakeRest := s.pm.brakeRest
    sensors := Tab.updAll Sensor.reset s.pm.sensors keys fun _ z => sleepSensor z, shut := s.pm.shut } }

/-- Counters with access RWS start from zero (Table 17.4). -/
def rwsCleared (m : Tab (BitVec 64)) : Tab (BitVec 64) :=
  m.filter fun e => e.1 / 65536 != 0x0301 && e.1 / 65536 != 0x0302

/-- Start-up control during a reset: no MP, nothing ready, links down, the PM in its boot ROM; an orderly reset record is
made once the last start's step 8 has read the previous one (R566, R598). -/
def restBoot (b : Boot) : Boot :=
  { b with
    pm := if b.pm = .off then .off else .bootRom
    mp := .off, starting := false, ready := false, steps := 0, hold := none
    nextCold := b.nextCold || ((b.starting || b.mp == .recovery) && b.cold && !b.steps.getLsbD 6)
    orderly := b.orderly || b.steps.getLsbD 8
    linkUp0 := false, linkUp1 := false, vfEnable := false }

/-- The tick stops; the boot ROM writes the slowest setting, which waits for the restart (R66, R558, R566). -/
def restClock (c : Clk) : Clk :=
  { c with stopped := true, held := false, crumb := 0, capTick := 0, capRef := 0, pendSetting := some (Pm.slow, c.tick.toNat) }

/-- Everything but the PM and start-up control, as a reset or a fatal event leaves it (R566, R568). -/
def stopModule (s : State) : State :=
  let s1 := restMp (restLanes (restLattice (restPool (restDense (restHbm (clearPlane s))))))
  { s1 with
    clk := restClock s1.clk, pins := { s1.pins with dperst := 0, dref := 0 }
    counters := rwsCleared s1.counters, logs := { s1.logs with recentRuns := [], held := [] } }

/-- Entering a warm or cold reset (R566); the MP writes its summary copy first (R595). -/
def enterReset (s : State) : State :=
  let s1 := restPm (stopModule (closeBrake (if mpRuns s then writeSummary s else s)))
  { s1 with boot := restBoot s1.boot }

/-- A trip or a clock-loss fault ends every run as a reset does; the PM goes on, no orderly reset is recorded, and the reset
that recovers from it is cold (R41, R529, R568). -/
def fatalStop (s : State) : State :=
  let s1 := stopModule s
  let b := s1.boot
  { s1 with boot := { b with
    mp := .off, starting := false, ready := false, hold := none, nextCold := true, linkUp0 := false, linkUp1 := false
    vfEnable := false } }

/-! ### Regulators, trip and alert (R529, R558, R568, R646, R647) -/

/-- Only VDDP stays (R529, R566): the root PLL loses its supply and its lock. -/
def dropRegulators (s : State) : State :=
  { s with boot := { s.boot with regs := s.boot.regs &&& 1 }, clk := { s.clk with pll := false, pSource := if s.clk.refValid then 1 else 3 } }

/-- The boot ROM brings up the core regulators once the main input is in range, unless a trip is latched (R558). -/
def raiseRegulators (s : State) : State :=
  if s.pins.main && !s.boot.tripped && s.pins.standby then { s with boot := { s.boot with regs := 31 } } else s

/-- Every base-die sensor that passes RANGE reads below 90 °C (R558, R568). -/
def baseCool (s : State) : Bool :=
  (rangeFrom 0 128).all fun i =>
    let z := sensorOf s (baseSensor i)
    rangeFails z.raw || decide (z.raw.toInt < 1440)

/-- With PERST# asserted and the base die cool a trip is over: THERMTRIP# deasserts and the regulators come up (R568). -/
def settleTrip (s : State) : State :=
  if s.boot.tripped && s.pins.perst && baseCool s then
    raiseRegulators { s with boot := { s.boot with tripped := false }, pins := { s.pins with thermtrip := false } }
  else s

/-- An input named by UNIT of INPUT_RANGE is in range: 0 the main input, k the input of stack k − 1 (Table 18.2). -/
def inputInRange (p : Pins) (unit : Nat) : Bool := if unit = 0 then p.main else p.hbmIn.getLsbD (unit - 1)

/-- With PERST# asserted each cause that is over is dropped, and ALERT# deasserts with the last of them (R646). -/
def settleAlert (s0 : State) : State :=
  let s := settleTrip s0
  if !s.pins.perst then s
  else
    let lost := s.boot.clockLost && !s.clk.refValid
    let range := s.boot.rangeLost.filter fun u => !inputInRange s.pins u
    { s with
      boot := { s.boot with clockLost := lost, rangeLost := range }
      pins := { s.pins with alert := s.pins.alert && (s.boot.tripped || lost || range.isSome) } }

/-! ### The start that follows (R559, R571) -/

/-- The base-die sensors count their exclusions from this cold reset on. -/
def coldSensors (m : Tab Sensor) : Tab Sensor :=
  Tab.updAll Sensor.reset (m.filter fun e => decide (e.1 < 128)) ((m.map fun e => e.1).filter fun k => decide (k < 128))
    fun _ z => { z with status := 0, exclusions := 0, goodSince := 0, changed := false, stuck := false }

/-- Failing rows wait no longer: their errors are gone with the contents. -/
def calmRows (m : Tab Pc) : Tab Pc := Tab.updAll Pc.reset m (m.map fun e => e.1) fun _ p => { p with failing := [] }

/-- A key of the persistent log with the counts of the last summary copy: the counts since are lost with the MP's RAM
(R595). -/
def recountEntry (l : Logs) (e : ErrEntry) : ErrEntry :=
  if e.cont then e
  else match (if l.summaryTurn then l.summary0 else l.summary1).find? fun x => x.reason == e.reason && x.unit == e.unit with
    | some x => { e with count := x.count, lastRef := x.ref, lastBoot := x.boot }
    | none => { e with count := 1, lastRef := e.ref, lastBoot := e.boot }

/-- What a cold reset clears beyond a warm one (Table 17.4): time, HBM contents, the event log and the counters. -/
def coldClear (s : State) : State :=
  { s with
    clk := { s.clk with
      tick := 0, refStart := if s.boot.begun then s.clk.wallPs else s.clk.refStart, frameDone := false, setting := Pm.slow, pendSetting := none, capTick := 0, capRef := 0 }
    boot := { s.boot with coldStarts := s.boot.coldStarts + 1 }
    hbm := { s.hbm with mem := [], flag := [], zeroed := [], pc := calmRows s.hbm.pc }
    pool := { s.pool with unzeroed :=
      ((rangeFrom 0 288).filter fun u => roleOf s u == 1) ++ s.pool.unzeroed.filter fun u => decide (4096 ≤ u) }
    lanes := { s.lanes with seenCold := s.lanes.foundNow, foundNow := [], retrained := [] }
    fmap := FaultMap.reset
    lat := { s.lat with policy := Policy.reset }
    pm := { s.pm with
      sensors := coldSensors s.pm.sensors, capChanges := [], vetChanges := [], brakeRest := 0 }
    fw := { s.fw with allowUnsigned := false }
    counters := []
    logs := { s.logs with
      entries := [], next := 0, loss := 0, ack := 0, flashRef := 0, slices24 := [], stacks24 := []
      errors := s.logs.errors.map (recountEntry s.logs) } }

/-- The setting written last before the restart is in force on its first tick, from which the Crumb counter counts: tick 0, which
stands now, after a cold reset, the tick after the one that the timestamp stopped on after a warm one (R55, R66). -/
def restartClock (cold : Bool) (c : Clk) : Clk :=
  let x := match c.pendSetting with
    | some (v, _) => v
    | none => c.setting
  { c with stopped := !c.pll, crumb := if cold then 1 else 0, setting := x, pendSetting := none }

/-- Every stack is to be trained again (R300). -/
def untrained (m : Tab Stack) : Tab Stack :=
  Tab.updAll Stack.reset m (rangeFrom 0 8) fun _ k => { k with trained := false, dead := false }

/-- Steps 1 to 3 begin: straps are latched already, the MP's boot ROM runs, the host links train, and present drives leave
reset (R559, R564, R642). DESIGN CHOICE, log entry 63: the links and the drives' reset, due 100 ms into the start, are taken
at its begin. -/
def beginStart (s0 : State) : State :=
  let s := if s0.boot.nextCold then coldClear s0 else s0
  { s with
    clk := restartClock s0.boot.nextCold s.clk
    boot := { s.boot with
      starting := true, begun := true, cold := s0.boot.nextCold, nextCold := false, hold := none, steps := 2, mp := .bootRom
      linkUp0 := true, linkUp1 := !s.pins.perst1 }
    pins := { s.pins with dperst := s.pins.dprsnt, dref := s.pins.dprsnt }
    lanes := { s.lanes with invalidPrev := s.lanes.invalidNow, invalidNow := [] }
    pm := { s.pm with braked := s.pins.pwrbrk }
    hbm := { s.hbm with stack := untrained s.hbm.stack } }

/-- A start is possible: power in range, the root PLL locked, no trip (R555, R558). -/
def canStart (s : State) : Bool :=
  s.pins.standby && s.pins.main && s.clk.refValid && s.clk.pll && !s.boot.tripped && s.boot.regs == 31

end Sys2Proof.Machine
end

