-- ==== Sys2Proof/Machine/RingCmds.lean ====
section
/-! DEFINITION. Doorbells, flushes, fetches, NOP items, run completions, interrupt timers and function-level resets
(R310 to R343). -/

namespace Sys2Proof.Machine

/-- A ring doorbell: bad and stale ones are counted, an older TAIL is ignored (R313). A flush requested before it takes effect
first (R314, R330). -/
def ringDoorbell (fn ring : Nat) (value : BitVec 32) (whole : Bool) (s0 : State) : State :=
  let s := settleFlush fn ring s0
  let r := ringOf s fn ring
  let tail : BitVec 24 := value.truncate 24
  let epoch : BitVec 8 := (value >>> 24).truncate 8
  if !r.regs.enabled || !whole || decide ((tail - r.head).toNat > r.size) then badDoorbell fn ring s
  else if epoch ≠ r.epoch then staleDoorbell fn ring s
  else if (tail - r.head).toNat ≤ r.exposed then s
  else wakeNamed (updRing fn ring (fun q => { q with tail := tail, bells := q.bells ++ [(tail, s.clk.tick.toNat)] }) s)

/-- RING_DOORBELL: a 32-bit write of TAIL in [23:0] and EPOCH in [31:24] (R313, Table 19.3). -/
def execRingDoorbell (fn ring : Nat) (value : BitVec 32) (whole : Bool) (s : State) :
    Host.Outcome State Fault Refusal := .next (barWrite fn (ringDoorbell fn ring value whole) s)

/-- A completion-head doorbell; a value that would leave more than CQ_SIZE entries is ignored and counted (R313). A flush that
waits for an entry takes effect with the doorbell that frees one (R350). -/
def cqDoorbell (fn ring : Nat) (value : BitVec 32) (s : State) : State :=
  let r := ringOf s fn ring
  let h : BitVec 24 := value.truncate 24
  if (r.cqw - h).toNat > r.cqSize then badDoorbell fn ring s
  else settleFlush fn ring (updRing fn ring (fun q => { q with cqh := h }) s)

/-- CQ_HEAD_DOORBELL: the driver frees completion entries (R313). -/
def execCqHeadDoorbell (fn ring : Nat) (value : BitVec 32) (s : State) : Host.Outcome State Fault Refusal :=
  .next (barWrite fn (cqDoorbell fn ring value) s)

/-- A flush is requested; a disabled ring holds nothing to flush (R329). -/
def flushRequest (fn ring : Nat) (s : State) : State :=
  if (ringOf s fn ring).regs.enabled then updRing fn ring (fun q => { q with flushPend := true }) s else s

/-- FLUSH_REQUEST: a write of the ring's flush register (R329). -/
def execFlushRequest (fn ring : Nat) (s : State) : Host.Outcome State Fault Refusal :=
  .next (barWrite fn (flushRequest fn ring) s)

/-- FLUSH_EFFECT: a requested flush takes effect once a completion entry is free, and the FLUSH_DONE of every flush that has
taken effect is written (R329). -/
def execFlushEffect (fn ring rest : Nat) (s : State) : Host.Outcome State Fault Refusal :=
  .next (writeMarks fn ring rest (settleFlush fn ring s))

/-- The first unit counter of the oldest held item that names an external list not yet held. -/
def wantsList : Nat → BitVec 24 → List (BitVec 512) → List HeldList → Option (BitVec 24 × BitVec 512)
  | 0, _, _, _ => none
  | _, _, [], _ => none
  | fuel + 1, c, u :: t, ls =>
    let n := itUnits u.toNat
    if itOpcode u.toNat = 0x10 ∧ runExt u.toNat ∧ runNbuf u.toNat ≠ 0 ∧ !(ls.any fun l => l.first == c) then
      some (c, u)
    else wantsList fuel (c + BitVec.ofNat 24 n) (t.drop (n - 1)) ls

/-- A buffer list entry with its bits from [96] up as a number. -/
def packBuf (b : BufIn) : Nat × Nat × Nat :=
  (b.addr, b.len, (if b.rd then 1 else 0) + (if b.wr then 2 else 0) + (if b.ns then 4 else 0) + (if b.rlx then 8 else 0) +
    16 * b.rsvd)

/-- The reads of n units from a unit counter on: unit c lies at BASE + 64 × (c mod SIZE), and a run of them may wrap (R310). -/
def unitReads (fn : Nat) (r : Ring) (c n : Nat) : List Output :=
  let at_ (i : Nat) : Nat := r.regs.base.toNat + 64 * (i % r.size)
  let a := min n (r.size - c % r.size)
  (if a = 0 then [] else [.hostRead fn (at_ c) (64 * a) false]) ++
  if n ≤ a then [] else [.hostRead fn r.regs.base.toNat (64 * (n - a)) false]

/-- RING_FETCH: the DMA read of exposed units completes and the engine holds them, at most 64 beyond HEAD; an
external list attaches to the oldest held item that wants one (R315, R319). -/
def execRingFetch (fn ring : Nat) (units : List (BitVec 512)) (list : List BufIn) (s : State) :
    Host.Outcome State Fault Refusal :=
  let r := ringOf s fn ring
  let room := min (64 - r.units.length) (r.tail - r.fetch).toNat
  if !r.regs.enabled then .next s
  else
    let new := units.take room
    let now := s.clk.tick.toNat
    let r1 := { r with
      units := r.units ++ new
      heldAt := r.heldAt ++ new.map fun _ => now
      fetch := r.fetch + BitVec.ofNat 24 new.length }
    let reads := unitReads fn r r.fetch.toNat new.length
    .next (wakeNamed (match wantsList r1.units.length r1.head r1.units r1.lists with
      | some (c, u) =>
        if list.length = runNbuf u.toNat then
          updRing fn ring (fun _ => { r1 with lists := r1.lists ++ [⟨c, list.length, list.map packBuf, now⟩] })
            (emitAll (reads ++ [.hostRead fn (bits u.toNat 192 64) (16 * list.length) false]) s)
        else updRing fn ring (fun _ => r1) (emitAll reads s)
      | none => updRing fn ring (fun _ => r1) (emitAll reads s)))

/-- An ended run of a ring whose completion goes before that of another: its end boundary came first, or on one boundary its SEQ
is lower (R337). -/
def endsBefore (a b : Outst) : Bool := match a.ended, b.ended with
  | some x, some y => decide (x.endf < y.endf) || (x.endf == y.endf && precedes32 a.seq b.seq)
  | _, _ => false

/-- Runs of a ring that have ended. -/
def endedRuns (r : Ring) : List Outst := r.outst.filter fun o => o.opcode == 0x10 && o.ended.isSome

/-- RUN_COMPLETE: the completion of an ended run is written after its last host data write, in the order of the ends (R337,
R338). -/
def execRunComplete (fn ring : Nat) (seq : BitVec 32) (s : State) : Host.Outcome State Fault Refusal :=
  let l := endedRuns (ringOf s fn ring)
  match l.find? fun o => o.seq == seq && !(l.any fun a => endsBefore a o) with
  | none => .next s
  | some o => match o.ended with
    | none => .next s
    | some d => .next (completeOutst fn ring o d s)

/-- INTERRUPT_TIMER: MOD_TIME µs after the first completion without an interrupt the vector is raised (R340). -/
def execInterruptTimer (fn ring : Nat) (s : State) : Host.Outcome State Fault Refusal :=
  let r := ringOf s fn ring
  match r.modSince with
  | none => .next s
  | some t0 =>
    let due := (t0 + 100 * r.regs.modTime) * 10000
    .next (ringInterrupt fn ring (passPs (due - s.clk.refPs) s))

/-- A ring after a function-level reset: parameters, counters and EPOCH zero; the weight stays with PF0, the
round-robin counter clears (R341, R343). -/
def Ring.afterFlr (r : Ring) : Ring :=
  { Ring.reset with weight := r.weight, badNoted := r.badNoted, staleNoted := r.staleNoted }

/-- The runs of a function are to end at the next boundary without a completion (R341). -/
def dropRuns (fn : Nat) (p : Part) : Part :=
  let f (r : Run) : Run := if r.fn = fn then { r with breach := some (r.breach.getD 0), dropped := true } else r
  { p with run := p.run.map f, suspended := p.suspended.map f }

/-- The vectors of a function masked and not pending, as PCIe's reset leaves MSI-X. -/
def resetVectors (fn : Nat) (m : Tab Vector) : Tab Vector :=
  Tab.updAll Vector.reset m ((rangeFrom 0 8).map fun v => 8 * fn + v) fun _ _ => Vector.reset

/-- The function's own registers: attention, enables and vector reset, the wake latency zero (R539, Table 19.14). -/
def Fn.afterFlr (f : Fn) : Fn := { f with attn := 0, attnEn := 0, fvec := 0xF, wake := 0 }

/-- PF0's module blocks after its reset: enable registers cleared, mailbox idle once its request has ended, injection
cancelled (Table 19.14). DEDUCED, log entry 64: the register that holds SEV_MIN and EN is an enable register. -/
def Regs.afterFlr (r : Regs) : Regs :=
  { r with
    stsAttnEn := 0, pwrAttnEn := 0, evtSevMin := 0, evtEn := false, mbxDone := false, mbxDrop := r.mbxBusy
    mbxWindow := [], dbgArm := false, dbgPending := false, dbgScratch := 0 }

/-- Latches of a function's 64-bit registers are empty, and no reserved bit of its ring registers is set. -/
def dropLatches (fn : Nat) (r : Regs) : Regs :=
  { r with latch := r.latch.filter fun e => e.1 / 2 ^ 26 != fn, rsvd := r.rsvd.filter fun e => e.1 / 2 ^ 26 != fn }

/-- The started Bulk items of a function that still run inside the device. -/
def strayOf (s : State) (fn : Nat) : List (Nat × Outst) :=
  ((ringOf s fn 2).outst.filter fun o => o.ended.isNone && (o.opcode == 0x21 || o.left != 0)).map fun o => (fn, o)

/-- Function-level reset of one function (R341, R343, Table 19.14). -/
def flrOne (fn : Nat) (s : State) : State :=
  let s1 := { s with
    rings := { s.rings with
      stray := s.rings.stray ++ strayOf s fn
      ring := Tab.updAll Ring.reset s.rings.ring ((rangeFrom 0 4).map fun r => ringKey fn r) fun _ r => r.afterFlr
      fn := Tab.upd Fn.reset s.rings.fn fn Fn.afterFlr
      vec := resetVectors fn s.rings.vec }
    regs := dropLatches fn (if fn = 0 then s.regs.afterFlr else s.regs) }
  updParts (fun _ p => dropRuns fn p) s1

/-- Reset a list of functions. -/
def flrAll (fns : List Nat) (s : State) : State := fns.foldl (fun t f => flrOne f t) s

/-- FUNCTION_LEVEL_RESET: of PF0 it also clears VF Enable and resets every VF; window tables stay (R341, R342). -/
def execFunctionLevelReset (fn : Nat) (s : State) : Host.Outcome State Fault Refusal :=
  if fn = 0 then
    .next (flrAll (rangeFrom 0 64) { s with boot := { s.boot with vfEnable := false } })
  else .next (flrOne fn s)

end Sys2Proof.Machine
end

