-- ==== Sys2Proof/Machine/WinCmds.lean ====
section
/-! DEFINITION. The commands that write, switch and query window tables, and the classes and weights of functions (R331,
R332, R388 to R402, R407, R620). -/

namespace Sys2Proof.Machine

/-! ### Entries (R391, Table 12.2) -/

/-- Bytes of the entry of a class; class 7 carries none. -/
def entrySize (cls : Nat) : Nat := match cls with
  | 0 => 8 | 1 => 4 | 2 => 8 | 3 => 4 | 4 => 64 | 5 => 16 | 6 => 4 | _ => 0

/-- Entries that INDEX selects in a class (R399). -/
def entryCount (cls : Nat) : Nat := match cls with
  | 0 => 16 | 1 => 16 | 2 => 4 | 4 => 16 | _ => 1

/-- Named fields of an entry. -/
def entryFields (cls : Nat) : List (Nat × Nat) := match cls with
  | 0 => [(0, 7), (8, 7), (16, 7), (24, 7), (32, 10), (48, 10), (58, 1), (59, 1)]
  | 1 => [(0, 3), (8, 6), (16, 6), (24, 3)]
  | 2 => [(0, 30), (32, 32)]
  | 3 => [(0, 24)]
  | 4 => [(0, 512)]
  | 5 => [(1, 64)]
  | 6 => [(0, 12), (16, 14)]
  | _ => []

/-- Ranges within an entry: corners in order, lines to 767, units to 35, quotas to their limits. -/
def entryRangeOk (cls e : Nat) : Bool := match cls with
  | 0 => decide (bits e 0 7 ≤ bits e 16 7) && decide (bits e 8 7 ≤ bits e 24 7) &&
      decide (bits e 32 10 ≤ bits e 48 10) && decide (bits e 48 10 ≤ 767)
  | 1 => decide (bits e 8 6 + bits e 16 6 ≤ 36) && (bits e 24 3 == 0 || bits e 16 6 != 0)
  | 6 => decide (bits e 0 12 ≤ 2048) && decide (bits e 16 14 ≤ 8192)
  | _ => true

/-- A table with one entry written; class 7 empties it. -/
def WinTable.write (t : WinTable) (cls index e : Nat) : WinTable := match cls with
  | 0 => { t with buf := Tab.set 0 t.buf index e }
  | 1 => { t with hbm := Tab.set 0 t.hbm index e }
  | 2 => { t with dense := Tab.set 0 t.dense index e }
  | 3 => { t with slots := e }
  | 4 => { t with pool := Tab.set 0 t.pool index e }
  | 5 => { t with ring := e }
  | 6 => { t with quota := e }
  | _ => WinTable.empty

/-! ### WINDOW_WRITE (R399) -/

/-- FUNC, CLASS, INDEX and the entry of WINDOW_WRITE. -/
def wwFunc (p : Nat) : Nat := bits p 0 7
def wwClass (p : Nat) : Nat := bits p 8 4
def wwIndex (p : Nat) : Nat := bits p 16 8
def wwEntry (p : Nat) : Nat := p / 2 ^ 128

/-- The length that CLASS fixes (R354); a reserved class is refused by its value. -/
def wwLenOk (p plen : Nat) : Bool :=
  if wwClass p = 7 then plen == 8 else decide (7 < wwClass p) || plen == 16 + entrySize (wwClass p)

/-- Reserved bits, FUNC, CLASS, INDEX and the entry's ranges. -/
def wwOk (p : Nat) : Bool :=
  reservedClear (p % 2 ^ 128) [(0, 7), (8, 4), (16, 8)] && decide (1 ≤ wwFunc p) && decide (wwFunc p ≤ 64) &&
  decide (wwClass p ≤ 7) && decide (wwIndex p < entryCount (wwClass p)) &&
  reservedClear (wwEntry p) (entryFields (wwClass p)) && entryRangeOk (wwClass p) (wwEntry p)

/-- A function's shadow table. -/
def shadowTable (s : State) (fn : Nat) : WinTable := Tab.get WinTable.empty s.win.shadow fn

/-- WINDOW_WRITE: one entry of a function's shadow. -/
def execWindowWrite (q : MciReq) (s : State) : Host.Outcome State Fault Refusal :=
  let p := mciParams q
  .next (mciRun 0x0402 (wwLenOk p q.plen) (wwOk p) q (fun s =>
    let t := (shadowTable s (wwFunc p)).write (wwClass p) (wwIndex p) (wwEntry p)
    mciStatus 0x0402 q mSuccess { s with win := { s.win with
      shadow := Tab.set WinTable.empty s.win.shadow (wwFunc p) t } }) s)

/-! ### WINDOW_SWITCH (R400) -/

/-- The shadow of a function comes into force under a generation, and the function is told (R400, Table 19.4). -/
def switchFn (gen : BitVec 64) (s : State) (fn : Nat) : State :=
  fnAttention fn 8 (updFn fn (fun f => { f with fgen := gen })
    { s with win := { s.win with inForce := Tab.set WinTable.empty s.win.inForce fn (shadowTable s fn) } })

/-- One generation switch over the named functions; a boundary tick's choice is made before it, with the generation in force at
the start of the tick (R138). -/
def switchFns (fns : List Nat) (s : State) : State :=
  let t := settle s
  let gen := t.win.gen + 1
  fns.foldl (switchFn gen) { t with win := { t.win with gen := gen } }

/-- Slots whose image exceeds its loading function's window (R400, R407). -/
def exceedMask (s : State) : Nat :=
  packFields 1 (fun n =>
    let v := slot s n
    let w := winTable s v.loader
    flag (v.resident && (footprint s v.loader n v.image (tabValues w.hbm) w.quota).isSome)) 8

/-- WINDOW_SWITCH: shadows and, with POOL, access lists come into force in one switch; the response gives the new
generation and the slot mask. -/
def execWindowSwitch (q : MciReq) (s : State) : Host.Outcome State Fault Refusal :=
  let p := mciParams q
  .next (mciFixed 0x0403 16 [(1, 65)] true q (fun s =>
    let s1 := switchFns ((rangeFrom 1 64).filter fun m => bit1 p m) (mciHold 0x0403 q s)
    let opx := 0x0403 + 2 ^ 16 * exceedMask s1 + 2 ^ 24 * s1.win.gen.toNat
    let (left, s2) := if bit1 p 65 then poolSwitch (tableRef q.who q.tag) s1 else (0, s1)
    tableWait q.who opx q.tag left s2) s)

/-- VF Enable is cleared: tables and shadows of every VF are empty after one switch (R390). -/
def clearVfWindows (s : State) : State :=
  let vfs := rangeFrom 1 63
  let s1 := { s with win := { s.win with
    shadow := Tab.updAll WinTable.empty s.win.shadow vfs fun _ _ => WinTable.empty } }
  switchFns vfs s1

/-! ### WINDOW_QUERY (R397, R402) -/

/-- Generations under which accepted operations are outstanding (Table 12.4). DEDUCED, log entry 38: a resident image's footprint is no
outstanding operation, as the chapter's worked example shows. -/
def outstandingGens (s : State) : List Nat :=
  (s.rings.ring.flatMap fun e => e.2.outst.map fun o => o.gen.toNat) ++
  (s.parts.flatMap fun e => (e.2.run.toList ++ e.2.suspended).map fun r => r.gen.toNat) ++
  ((s.win.held.filter fun h => s.fw.outstanding.any fun o => o.1 == h.1 && o.2.2 == h.2.1).map fun h => h.2.2) ++
  (s.pool.cmds.map fun c => c.gen) ++ (s.pool.accs.map fun a => a.gen)

/-- OLDEST (R402). -/
def oldestGen (s : State) : Nat := (outstandingGens s).foldl min s.win.gen.toNat

/-- The entries of a table as listed, for a response whose layout the spec leaves open. -/
def tableContent (t : WinTable) : List Nat :=
  [t.slots, t.ring, t.quota] ++
    ((rangeFrom 0 16).map fun i => Tab.get 0 t.buf i) ++ ((rangeFrom 0 16).map fun i => Tab.get 0 t.hbm i) ++
    ((rangeFrom 0 4).map fun i => Tab.get 0 t.dense i) ++ (rangeFrom 0 16).map fun i => Tab.get 0 t.pool i

/-- WINDOW_QUERY: GEN, OLDEST and the table of FUNC, or its shadow for PF0. -/
def execWindowQuery (q : MciReq) (s : State) : Host.Outcome State Fault Refusal :=
  let p := mciParams q
  let fn := bits p 0 7
  let me := fnOfWho q.who
  .next (mciFixed 0x0404 8 [(0, 7), (8, 1)] (decide (fn ≤ 64)) q (fun s =>
    if me ≠ 0 ∧ (bit1 p 8 ∨ !winRing s me fn) then mciStatus 0x0404 q mWindow (violation me 5 s)
    else
      let t := if bit1 p 8 then shadowTable s fn else winTable s fn
      mciQuery 0x0404 q ([s.win.gen.toNat, oldestGen s] ++ tableContent t) s) s)

/-! ### Classes and weights (R331, R332, R620) -/

/-- A weight is rewritten; a weight of 0 clears the pair's round-robin counter. -/
def setWeight (fn ring w : Nat) (s : State) : State :=
  updRing fn ring (fun r => { r with weight := w, swrr := if w = 0 then 0 else r.swrr }) s

/-- The fields of PRIO[n] in its low half. -/
def prioLow (fn v : Nat) (s : State) : State :=
  setWeight fn 0 (bits v 8 8) (setWeight fn 1 (bits v 16 8) (setWeight fn 2 (bits v 24 8)
    (updFn fn (fun f => { f with cls := bits v 0 3 }) s)))

/-- The field of PRIO[n] in its high half, as a 32-bit word. -/
def prioHigh (fn v : Nat) (s : State) : State := setWeight fn 3 (bits v 0 8) s

/-- One rewrite of PRIO[n]: half 0 is the whole register, 1 its low word, 2 its high word. A set reserved bit discards
the write (R620). -/
def prioRewrite (fn half v : Nat) (s : State) : State := match half with
  | 1 => if reservedClear v [(0, 3), (8, 24)] then prioLow fn v s else s
  | 2 => if reservedClear v [(0, 8)] then prioHigh fn v s else s
  | _ => if reservedClear v [(0, 3), (8, 32)] then prioHigh fn (v / 2 ^ 32) (prioLow fn (v % 2 ^ 32) s) else s

/-- PRIORITY_SET. DESIGN CHOICE, log entry 60: FUNC in [6:0], the value of Table 19.6 in bytes 8 to 15. -/
def execPrioritySet (q : MciReq) (s : State) : Host.Outcome State Fault Refusal :=
  let p := mciParams q
  .next (mciFixed 0x0401 16 [(0, 7), (64, 3), (72, 32)] (decide (bits p 0 7 ≤ 64)) q (fun s =>
    mciStatus 0x0401 q mSuccess (prioRewrite (bits p 0 7) 0 (bits p 64 64) s)) s)

end Sys2Proof.Machine
end

