-- ==== Sys2Proof/Machine/PowerUp.lean ====
section
/-! DEFINITION. Power, references, reset inputs, MODULE_RESET, port resets and configuration requests (chapters 17 and 20,
R38, R41, R529). -/

namespace Sys2Proof.Machine

/-! ### Inputs and references (R38, R41, R555, R556, R558, R639, R652, R657) -/

/-- STANDBY_POWER_ON: the standby input and the core reference are in range; the PM's boot ROM arms the trip comparator and
holds the slowest setting; ALERT# and THERMTRIP# are released (R558, R641). -/
def execStandbyPowerOn (s : State) : Host.Outcome State Fault Refusal :=
  if s.pins.standby then .next s
  else .next { s with
    pins := { s.pins with standby := true, perst := true, alert := false, thermtrip := false }
    clk := { s.clk with refValid := true, refStart := s.clk.wallPs, refHalt := none, pSource := 1, setting := Pm.slow, stopped := true }
    boot := { s.boot with pm := .bootRom, regs := 1, nextCold := true }
    pm := { s.pm with brakeReg := Pm.slow } }

/-- MAIN_INPUT_ON: the main input is in range, with the HBM inputs of the mask; the boot ROM brings up the core regulators
(R555, R558). -/
def execMainInputOn (hbm : BitVec 8) (s : State) : Host.Outcome State Fault Refusal :=
  if !s.pins.standby then .next s
  else .next (settleAlert (raiseRegulators { s with pins := { s.pins with main := true, hbmIn := hbm } }))

/-- The input is out of range from now on. -/
def dropInput (unit : Nat) (p : Pins) : Pins :=
  if unit = 0 then { p with main := false } else { p with hbmIn := p.hbmIn &&& ~~~(BitVec.twoPow 8 (unit - 1)) }

/-- The next start is cold. -/
def coldNext (s : State) : State := { s with boot := { s.boot with nextCold := true } }

/-- INPUT_OUT_OF_RANGE: unit 0 the main input, k the input of stack k − 1. While PERST# is deasserted it is a class 7 event and
a warm reset at once; while it is asserted an HBM input is recorded alone. The next start is cold (R556, R657). -/
def execInputOutOfRange (unit : Nat) (s : State) : Host.Outcome State Fault Refusal :=
  if !s.pins.standby ∨ 9 ≤ unit ∨ !inputInRange s.pins unit then .next s
  else
    let s1 := coldNext { s with pins := dropInput unit s.pins }
    if s.pins.perst then .next (if unit = 0 then dropRegulators s1 else fatalRecord 0x1003 unit s1)
    else
      let s2 := coldNext (enterReset (fatalEvent 0x1003 unit s1))
      let s3 := { s2 with boot := { s2.boot with rangeLost := some unit } }
      .next (if unit = 0 then dropRegulators s3 else s3)

/-- The root PLL loses its lock: the clocks stop, ALERT# asserts, and the runs end (R41, R568). -/
def clockLossNow (src : Nat) (s : State) : State :=
  let s1 := fatalStop (fatalEvent 0x1001 0 s)
  { s1 with
    clk := { s1.clk with pll := false, pSource := src }
    boot := { s1.boot with clockLost := true } }

/-- CLOCK_LOSS: the root PLL loses lock after start-up (R41). -/
def execClockLoss (s : State) : Host.Outcome State Fault Refusal :=
  if s.clk.pll then .next (clockLossNow 1 s) else .next s

/-- CORE_REFERENCE_STOP: the P domain runs from its fallback oscillator, PM firmware halts, and the guard holds the slowest
setting; a locked PLL loses its lock (R652). -/
def execCoreReferenceStop (s : State) : Host.Outcome State Fault Refusal :=
  if !s.pins.standby ∨ !s.clk.refValid then .next s
  else
    let s0 := { s with clk := { s.clk with refValid := false, refHalt := some s.clk.wallPs, pSource := 3 } }
    let s1 := if s.clk.pll then clockLossNow 3 s0 else s0
    let s2 := writeSetting Pm.slow s1
    .next { s2 with
      boot := { s2.boot with pm := if s.boot.pm = .firmware then .halted else s.boot.pm }
      pm := { s2.pm with guard := s.boot.pm == .firmware || s2.pm.guard, own := Pm.slow } }

/-- CORE_REFERENCE_VALID: the P domain returns to the reference, and the reference time counts on (R46, R652). -/
def execCoreReferenceValid (s : State) : Host.Outcome State Fault Refusal :=
  if !s.pins.standby ∨ s.clk.refValid then .next s
  else
    let lost := s.clk.refHalt.elim 0 fun h => s.clk.wallPs - h
    .next (settleAlert { s with clk := { s.clk with
      refValid := true, refStart := s.clk.refStart + lost, refHalt := none, pSource := 1 } })

/-- ROOT_PLL_LOCK: the core supplies and the reference are there; the P domain switches to 200 MHz, and after a cold reset the
timestamp starts from zero (R38, R41, R44). DESIGN CHOICE, log entry 2: the tick stays stopped from the lock to the start
sequence, so the first tick after the lock is the first tick of that start. -/
def execRootPllLock (s : State) : Host.Outcome State Fault Refusal :=
  if s.clk.pll ∨ !s.clk.refValid ∨ s.boot.regs ≠ 31 ∨ s.boot.tripped ∨ s.boot.clockLost then .next s
  else .next { s with clk := { s.clk with
    pll := true, pSource := 2, stopped := true
    tick := if s.boot.nextCold then 0 else s.clk.tick
    frameDone := !s.boot.nextCold && s.clk.frameDone } }

/-- STANDBY_POWER_OFF: nothing is driven and everything but fuses, flash and the platform's own levels is gone; a record that
step 8 has not read is cut off (R598, R639). -/
def execStandbyPowerOff (s : State) : Host.Outcome State Fault Refusal :=
  if !s.pins.standby then .next s
  else
    let s1 := coldClear (restPm (stopModule s))
    .next { s1 with
      clk := { Clk.reset with wallPs := s.clk.wallPs }
      pins := { Pins.reset with main := s.pins.main, hbmIn := s.pins.hbmIn, dprsnt := s.pins.dprsnt }
      boot := { Boot.reset with coldStarts := s.boot.coldStarts, orderly := s.boot.orderly }
      lanes := { s1.lanes with seenCold := s.lanes.seenCold, foundNow := s.lanes.foundNow }
      buf := Buf.reset
      hbm := { s1.hbm with stack := [] }
      pm := { Pm.reset with shut := s.pm.shut, stored := s.pm.stored, cap := (s.pm.stored.getD (1200, false, false)).1 }
      logs := { s1.logs with power := none } }

/-! ### Sensors and the trip (R522, R529, R558, R568) -/

/-- The boot ROM's reading of a base-die sensor: the RANGE check alone excludes it (R558). -/
def romSample (sensor : Nat) (raw : BitVec 16) (s : State) : State :=
  let z := trackRaw s.clk.wallPs none raw (sensorOf s sensor)
  if !rangeFails raw then setSensor sensor z s
  else if z.status = 0 then excludeSensor sensor 1 z s
  else setSensor sensor { z with goodSince := 0 } s

/-- SENSOR_SAMPLE: a base-die sensor's sample; an armed injection makes it read 0x8000. The trip comparator counts it, PM
firmware judges it, the boot ROM records it, and a trip ends once the base die is cool (R521, R522, R558, R568, Table
19.13). -/
def execSensorSample (sensor : Nat) (raw : BitVec 16) (s : State) : Host.Outcome State Fault Refusal :=
  if 128 ≤ sensor ∨ s.boot.pm = .off then .next s
  else
    let hit := injectHits s 7 sensor
    let x : BitVec 16 := if hit then 0x8000 else raw
    let s1 := countHot sensor x (if hit then injectDone s else s)
    let s2 := noteCoverage 0 (judgeSample sensor x s1)
    .next (settleAlert (if pmRuns s1 then evaluateFor (0xA003, 0) (coverageLow s2 0) s2 else romSample sensor x s1))

/-- THERMAL_TRIP: after three samples of 110 °C or more every regulator but VDDP stops with the clocks, and ALERT# and
THERMTRIP# assert (R529, R568, R646, R654). -/
def execThermalTrip (sensor : Nat) (s : State) : Host.Outcome State Fault Refusal :=
  if 128 ≤ sensor ∨ s.boot.pm = .off ∨ s.boot.tripped ∨ (sensorOf s sensor).hot < 3 then .next s
  else
    let s1 := dropRegulators (fatalStop (fatalEvent 0x1002 (sensorUnit sensor) s))
    .next { s1 with
      boot := { s1.boot with tripped := true }
      pins := { s1.pins with thermtrip := true } }

/-! ### PERST# and the start (R557, R559, R566, R577, R578) -/

/-- A reset that is to be cold shuts down every regulator but VDDP and stops the root PLL; the boot ROM then brings the core
regulators up again (R558, R566). -/
def coldEntry (s : State) : State := if s.boot.nextCold then raiseRegulators (dropRegulators s) else s

/-- PERST_ASSERT: the device enters a reset, or takes over an internal hold (R566, R577, R578). -/
def execPerstAssert (s : State) : Host.Outcome State Fault Refusal :=
  if !s.pins.standby ∨ s.pins.perst then .next s
  else
    let s1 := enterReset s
    .next (settleAlert (coldEntry { s1 with pins := { s1.pins with perst := true } }))

/-- PERST_DEASSERT: the straps of Table 20.8 and the drives present are taken, and the start sequence begins (R557, R559). -/
def execPerstDeassert (straps : BitVec 5) (drives : BitVec 8) (s : State) : Host.Outcome State Fault Refusal :=
  if !s.pins.standby ∨ !s.pins.perst then .next s
  else
    let s1 := { s with pins := { s.pins with perst := false, strapsRaw := straps, straps := straps, dprsnt := drives } }
    .next (if canStart s1 then beginStart s1 else s1)

/-- MODULE_RESET (opcode 0x0A01): after the response the device enters the reset of KIND and holds it. DESIGN CHOICE, log
entry 65: at once (R567). -/
def execModuleReset (q : MciReq) (s : State) : Host.Outcome State Fault Refusal :=
  let kind := bits (mciParams q) 0 2
  .next (mciFixed 0x0A01 8 [(0, 2)] (decide (kind ≤ 1)) q (fun t =>
    let s1 := enterReset (mciStatus 0x0A01 q mSuccess t)
    coldEntry { s1 with boot := { s1.boot with hold := some kind, nextCold := s1.boot.nextCold || kind == 1 } }) s)

/-- RESET_HOLD_EXPIRY: the hold of 10 or 100 ms ends and the start sequence runs with the straps latched before (R567). -/
def execResetHoldExpiry (s : State) : Host.Outcome State Fault Refusal :=
  if s.boot.hold.isNone ∨ s.pins.perst ∨ !canStart s then .next s else .next (beginStart s)

/-! ### Ports (R569, R582, R645, R655) -/

/-- Bad and stale counts and wake latencies of a port's functions are zero (Table 17.4). -/
def clearPortRws (fns : List Nat) (s : State) : State :=
  let keys := fns.flatMap fun f => (rangeFrom 0 4).flatMap fun r =>
    [counterKey 0x0301 (ringKey f r), counterKey 0x0302 (ringKey f r)]
  { s with counters := Tab.updAll 0 s.counters keys fun _ _ => 0 }

/-- CXL.mem requests in flight at the pool port are discarded, and every mailbox is created anew; a slot whose command still runs
stays busy until it ends (R419, R569). -/
def discardCxl (s : State) : State :=
  { s with pool := { s.pool with slots := (s.pool.slots.filter fun e => e.2.busy).map fun e => (e.1, ⟨0, true, 0⟩), accs := s.pool.accs.filter fun a => match a.for_ with
    | .cxl _ _ => false
    | _ => true } }

/-- Every function of a port is reset (R569, R655). -/
def portReset (port : Nat) (s : State) : State :=
  if port = 0 then
    let fns := rangeFrom 0 64
    clearVfWindows (clearPortRws fns (flrAll fns { s with boot := { s.boot with vfEnable := false } }))
  else
    let s1 := clearPortRws [64] (flrAll [64] s)
    if s.pins.poolRole then discardCxl s1 else s1

/-- PORT_RESET: hot reset, link disable or DL_Down on a host port (R569). -/
def execPortReset (port : Nat) (s : State) : Host.Outcome State Fault Refusal :=
  if 2 ≤ port ∨ s.clk.stopped then .next s else .next (portReset port s)

/-- PERST1_ASSERT: port 1 is reset in either role and presents no receiver (R645). -/
def execPerst1Assert (s : State) : Host.Outcome State Fault Refusal :=
  if !s.pins.standby ∨ s.pins.perst1 then .next s
  else
    let s1 := if s.clk.stopped then s else portReset 1 s
    .next { s1 with
      pins := { s1.pins with perst1 := true }
      boot := { s1.boot with linkUp1 := false } }

/-- PERST1_DEASSERT: the link of port 1 trains from the later of the two deassertions on (R645, R655). -/
def execPerst1Deassert (s : State) : Host.Outcome State Fault Refusal :=
  if !s.pins.standby ∨ !s.pins.perst1 then .next s
  else if s.pins.perst then .next { s with pins := { s.pins with perst1 := false } }
  else
    let up := s.boot.steps.getLsbD 1
    let s1 := { s with pins := { s.pins with perst1 := false }, boot := { s.boot with linkUp1 := up } }
    .next (if up && s.boot.ready && s.boot.mp != .recovery then emit (.readiness 1) s1 else s1)

/-- A function is configurable: PF0 alone in recovery mode, VFs while VF Enable is set, and the port's own (R308, R563). -/
def configurable (s : State) (port fn : Nat) : Bool :=
  if s.boot.mp = .recovery then port == 0 && fn == 0
  else if port = 0 then fn == 0 || (s.boot.vfEnable && decide (fn < 64))
  else fn == 64

/-- CONFIGURATION_REQUEST: Request Retry Status until ready; PF0's write of VF Enable resets and empties its VFs when it
clears it (R342, R390, R561). -/
def execConfigurationRequest (port fn : Nat) (clearVf setVf : Bool) (s : State) : Host.Outcome State Fault Refusal :=
  let up := if port = 0 then s.boot.linkUp0 else port == 1 && s.boot.linkUp1
  if !up then .next s
  else if !s.boot.ready then .next (emit (.cfgCompletion port fn 1) s)
  else if !configurable s port fn then .next (emit (.unsupported fn) s)
  else
    let s1 := emit (.cfgCompletion port fn 0) s
    if fn ≠ 0 then .next s1
    else if clearVf then
      .next (clearVfWindows (flrAll (rangeFrom 1 63) { s1 with boot := { s1.boot with vfEnable := false } }))
    else if setVf then .next { s1 with boot := { s1.boot with vfEnable := true } }
    else .next s1

/-- DYNAMIC_ADDRESS_ASSIGNMENT: the target takes the address while it acknowledges its own (R648, R649). -/
def execDynamicAddressAssignment (addr : BitVec 7) (s : State) : Host.Outcome State Fault Refusal :=
  if mciServed s (whoMctp 1 0) then .next { s with pins := { s.pins with i3cDyn := some addr } } else .next s

end Sys2Proof.Machine
end

