-- ==== Sys2Proof/Machine/RegOps.lean ====
section
/-! DEFINITION. BAR0: the values that reads return, the 64-bit registers with their latches, and writes to registers
(R609 to R634, Tables 19.1 to 19.12). -/

namespace Sys2Proof.Machine

/-! ### Access rules (R610) -/

/-- The MSI-X structures, the mailbox data window and the event-buffer window. -/
def inMsix (off : Nat) : Bool := decide (0x8000 ≤ off) && decide (off < 0xA000)
def inMbxWindow (fn off : Nat) : Bool := fn == 0 && decide (0x21000 ≤ off) && decide (off < 0x22000)
def inEvtWindow (fn off : Nat) : Bool := fn == 0 && decide (0x1000000 ≤ off) && decide (off < 0x1200000)

/-- An access of a size is supported at an offset: 4 or 8 bytes everywhere, up to 64 in the windows, 16 at WIN (R610). -/
def sizeOk (fn off size : Nat) (write : Bool) : Bool :=
  off % size == 0 && (size == 4 || size == 8 ||
    ((size == 16 || size == 32 || size == 64) &&
      (inMsix off || inMbxWindow fn off || (!write && inEvtWindow fn off) || (!write && fn == 0 && size == 16 && off == 0x40000))))

/-- Offset within a VF's 64 KiB or PF0's 32 MiB (R614). -/
def inBar (fn off : Nat) : Bool := decide (off < if fn = 0 then 0x2000000 else 0x10000)

/-! ### Values (Tables 19.2 to 19.12) -/

/-- Units of an item that lie beyond the exposed ones: the ring holds a torn item (R315). -/
def tornIn : Nat → Nat → List (BitVec 512) → Bool
  | 0, _, _ => false
  | _, _, [] => false
  | fuel + 1, left, u :: t =>
    if left = 0 then false
    else if left < itUnits u.toNat then true
    else tornIn fuel (left - itUnits u.toNat) (t.drop (itUnits u.toNat - 1))
/-- TORN. -/
def Ring.torn (r : Ring) : Bool := tornIn r.units.length r.exposed r.units

/-- A 32-bit ring register (Table 19.2). -/
def ringWord (s : State) (fn ring o : Nat) : Nat :=
  let r := ringOf s fn ring
  let g := r.regs
  match o with
  | 0x10 => put g.sizeLog 0 5 + put g.cqSizeLog 8 5 + put g.vec 16 4
  | 0x14 => put g.modCount 0 8 + put g.modTime 16 10
  | 0x18 => flag g.enabled
  | 0x1C => r.epoch.toNat + put (flag g.enabled) 8 1 + put (flag r.quiet) 9 1 + put (flag g.cfgErr) 10 1 + put (flag r.torn) 11 1
  | 0x20 => r.head.toNat
  | 0x24 => r.tail.toNat
  | 0x28 => r.fetch.toNat
  | 0x2C => r.cqw.toNat
  | 0x30 => r.cqh.toNat
  | 0x34 => (counter s 0x0301 (ringKey fn ring)).toNat
  | 0x38 => (counter s 0x0302 (ringKey fn ring)).toNat
  | _ => 0

/-- FSTS (Table 19.4). -/
def fstsWord (s : State) (fn : Nat) : Nat :=
  flag s.boot.ready + put (flag (flrBusy s fn)) 1 1 + put fn 8 7 + put (flag (fn == 0)) 15 1

/-- A vector of a function. -/
def vecOf (s : State) (fn v : Nat) : Vector := Tab.get Vector.reset s.rings.vec (8 * fn + v)

/-- A word of the MSI-X table and array, as PCIe lays them out. -/
def msixWord (s : State) (fn off : Nat) : Nat :=
  let v := (off - 0x8000) / 16
  if 0x9000 ≤ off then
    (if off = 0x9000 then packFields 1 (fun i => flag (vecOf s fn i).pending) (vecCount fn) else 0)
  else if vecCount fn ≤ v then 0
  else match off % 16 with
    | 0 => (vecOf s fn v).addr.toNat % 2 ^ 32
    | 4 => (vecOf s fn v).addr.toNat / 2 ^ 32
    | 8 => (vecOf s fn v).data.toNat
    | _ => flag (vecOf s fn v).masked

/-- MODE of the mailbox (Table 19.7). -/
def mbxMode (s : State) : Nat := match s.boot.mp with
  | .running => 0
  | .recovery => 1
  | _ => 2

/-- A word of the mailbox window; zero while BUSY (R621). -/
def mbxRead (s : State) (i : Nat) : Nat := if s.regs.mbxBusy then 0 else (Tab.get 0 s.regs.mbxWindow i).toNat

/-- STS_MODULE (Table 19.8). -/
def stsModule (s : State) : Nat :=
  flag s.boot.ready + put (flag (mpRuns s && s.boot.ready)) 1 1 + put (flag (s.boot.mp == .recovery)) 2 1 +
  put (flag s.pins.testBoot) 3 1 + put (flag s.pins.poolRole) 4 1 + put s.fw.vet 5 2 + put (flag (s.fw.vet == 1)) 7 1 +
  put (flag (!(activeRequests s).isEmpty)) 8 1 + put (flag (s.lat.standing == .good)) 9 1 + put (flag s.regs.dbgArm) 10 1

/-- A 32-bit register of STS global. -/
def stsWord (s : State) (o : Nat) : Nat := match o with
  | 0x00 => stsModule s
  | 0x04 => s.regs.stsAttn.toNat
  | 0x08 => s.regs.stsAttnEn.toNat
  | 0x0C => (activeRequests s).length % 65536
  | 0x10 => s.boot.coldStarts.toNat
  | 0x30 => put s.regs.cseq.toNat 16 16
  | _ => 0

/-- A 32-bit register of WIN: violations by function and denials by region (Table 19.9). -/
def winWord (s : State) (o : Nat) : Nat :=
  if 0x104 ≤ o ∧ o ≤ 0x200 then (counter s 0x0303 ((o - 0x100) / 4)).toNat
  else if 0x8000 ≤ o ∧ o < 0xC000 then (counter s 0x0304 ((o - 0x8000) / 4)).toNat
  else 0

/-- A 32-bit register of the power view (Table 19.10). -/
def pwrWord (s : State) (o : Nat) : Nat :=
  let p := s.pm
  match o with
  | 0x00 => put s.clk.setting.toNat 0 9 + put p.own.toNat 16 9
  | 0x04 => put (groupField s) 0 9 + put (flag (linkedOn s)) 16 1 + put (flag s.pins.pwrbrk) 17 1 + put (flag p.capShort) 18 1 +
      put (flag p.brakeShort) 19 1 + put (limitNow s) 24 7
  | 0x08 => put p.cap 0 11 + put (capForce s) 16 11
  | 0x0C => put p.p10us 0 16 + put p.p1ms 16 16
  | 0x10 => put p.p5ms 0 16 + put p.pMin 16 16
  | 0x14 => put (tctlBits s) 0 16 + put (idleBits s) 16 8
  | 0x18 => put (sleepBits s) 0 12
  | 0x40 => s.regs.pwrAttn.toNat
  | 0x44 => s.regs.pwrAttnEn.toNat
  | _ => 0

/-- A 32-bit register of EVT (Table 19.11). -/
def evtWord (s : State) (o : Nat) : Nat := match o with
  | 0x20 => put s.regs.evtSevMin 0 3 + put (flag s.regs.evtEn) 3 1
  | 0x24 => flag s.regs.evtNew
  | _ => 0

/-- A word of the event-buffer window: slot i holds the entry whose SEQ is i modulo 65,536 (R625). -/
def evtSlotWord (s : State) (o : Nat) : Nat :=
  match s.logs.entries.find? fun e => e.seq.toNat % 65536 == o / 32 with
  | some e => bits (eventBytes e) (8 * (o % 32)) 32
  | none => 0

/-- A 32-bit register of DBG (Table 19.12). -/
def dbgWord (s : State) (o : Nat) : Nat := match o with
  | 0x00 => flag s.regs.dbgArm + put s.pins.strapsRaw.toNat 8 5
  | 0x10 => put s.regs.dbgKind 0 4 + put (flag s.regs.dbgPending) 4 1 + put s.regs.dbgUnit.toNat 16 16
  | 0x14 => s.regs.dbgCount.toNat
  | _ => 0

/-- A 32-bit register of PF0's module blocks. -/
def pf0Word (s : State) (off : Nat) : Nat :=
  if off < 0x20000 then 0
  else if off < 0x30000 then
    (if off = 0x20000 then put (flag s.regs.mbxBusy) 1 1 + put (flag s.regs.mbxDone) 2 1 + put (mbxMode s) 4 2
     else if off = 0x20004 then s.regs.mbxIgnored.toNat
     else if inMbxWindow 0 off then mbxRead s ((off - 0x21000) / 4) else 0)
  else if off < 0x40000 then stsWord s (off - 0x30000)
  else if off < 0x60000 then winWord s (off - 0x40000)
  else if off < 0x70000 then pwrWord s (off - 0x60000)
  else if off < 0x80000 then evtWord s (off - 0x70000)
  else if off < 0x90000 then dbgWord s (off - 0x80000)
  else if inEvtWindow 0 off then evtSlotWord s (off - 0x1000000) else 0

/-- A 32-bit register of any block. -/
def regWord (s : State) (fn off : Nat) : Nat :=
  if off < 0x100 then ringWord s fn (off / 0x40) (off % 0x40)
  else if off = 0x2000 then fstsWord s fn
  else if off = 0x2004 then (fnOf s fn).attn.toNat
  else if off = 0x2008 then (fnOf s fn).attnEn.toNat + put (fnOf s fn).fvec 16 4
  else if inMsix off then msixWord s fn off
  else if off < 0x10000 ∨ fn ≠ 0 then 0
  else pf0Word s off

/-- PRIO[n] (Table 19.6). -/
def prioValue (s : State) (n : Nat) : Nat :=
  put (fnOf s n).cls 0 3 + packFields 8 (fun r => (ringOf s n r).weight) 4 * 2 ^ 8

/-- The 64-bit register that begins at an offset of PF0's module blocks. -/
def pf0Long (s : State) (off : Nat) : Option Nat :=
  if 0x10000 ≤ off ∧ off ≤ 0x10200 then some (prioValue s ((off - 0x10000) / 8))
  else match off with
    | 0x30020 => some s.clk.tick.toNat
    | 0x30028 => some s.clk.refTime.toNat
    | 0x30038 => some s.clk.capTick.toNat
    | 0x30040 => some s.clk.capRef.toNat
    | 0x30048 => some (fsfNow s)
    | 0x40000 => some s.win.gen.toNat
    | 0x40008 => some (oldestGen s)
    | 0x60020 => some (counter s 0x0601 0).toNat
    | 0x60028 => some (counter s 0x0602 0).toNat
    | 0x60030 => some (counter s 0x0603 0).toNat
    | 0x70000 => some (oldestSeq s.logs.entries s.logs.next.toNat)
    | 0x70008 => some s.logs.next.toNat
    | 0x70010 => some s.logs.loss.toNat
    | 0x70018 => some s.logs.ack.toNat
    | 0x80008 => some s.regs.dbgScratch.toNat
    | _ => none

/-- The 64-bit register that begins at an offset. -/
def regLong (s : State) (fn off : Nat) : Option Nat :=
  if off % 8 ≠ 0 then none
  else if off < 0x100 ∧ off % 0x40 = 0 then some (ringOf s fn (off / 0x40)).regs.base.toNat
  else if off < 0x100 ∧ off % 0x40 = 8 then some (ringOf s fn (off / 0x40)).regs.cqBase.toNat
  else if off = 0x2010 then some (fnOf s fn).fgen.toNat
  else if fn = 0 then pf0Long s off else none

/-! ### Reads (R611) -/

/-- Key of a register of a function. -/
def regKey (fn off : Nat) : Nat := fn * 2 ^ 26 + off

/-- A read of a bad or stale count ends the silence of R313. -/
def countRead (fn off : Nat) (s : State) : State :=
  if 0x100 ≤ off then s
  else if off % 0x40 = 0x34 then updRing fn (off / 0x40) (fun r => { r with badNoted := false }) s
  else if off % 0x40 = 0x38 then updRing fn (off / 0x40) (fun r => { r with staleNoted := false }) s
  else s

/-- A 4-byte read: the low half of a 64-bit register latches its high half, and the next 4-byte read of the high half returns
what is latched (R611). -/
def readWord (fn off : Nat) (s : State) : Nat × State :=
  let base := off - off % 8
  match regLong s fn base with
  | none => (regWord s fn off, countRead fn off s)
  | some v =>
    let key := regKey fn base
    if off % 8 = 0 then
      (v % 2 ^ 32, { s with regs := { s.regs with
        latch := (key, BitVec.ofNat 32 (v / 2 ^ 32)) :: s.regs.latch.filter fun e => e.1 != key } })
    else match s.regs.latch.find? fun e => e.1 == key with
      | some e => (e.2.toNat, { s with regs := { s.regs with latch := s.regs.latch.filter fun e => e.1 != key } })
      | none => (v / 2 ^ 32, s)

/-- Eight aligned bytes, sampled whole. -/
def readLong (fn off : Nat) (s : State) : Nat × State := match regLong s fn off with
  | some v => (v, s)
  | none => (regWord s fn off + regWord s fn (off + 4) * 2 ^ 32, countRead fn (off + 4) (countRead fn off s))

/-- Aligned bytes in words of eight. -/
def readLongs (fn off : Nat) : Nat → State → Nat × State
  | 0, s => (0, s)
  | n + 1, s =>
    let (v, s1) := readLong fn off s
    let (w, s2) := readLongs fn (off + 8) n s1
    (v + w * 2 ^ 64, s2)

/-- A read of BAR0: zero for what R610 does not support, FSTS alone during a function-level reset (R613). -/
def readReg (fn off size : Nat) (s : State) : Nat × State :=
  if !inBar fn off || !sizeOk fn off size false then (0, s)
  else if flrBusy s fn then (if off = 0x2000 then fstsWord s fn else 0, s)
  else if size = 4 then readWord fn off s
  else readLongs fn off (size / 8) s

/-! ### Attention (R618) -/

/-- Enabling a bit that is set, and was not enabled, raises the vector once. -/
def enableRaises (attn old new : BitVec 32) : Bool := attn &&& new &&& ~~~old != 0

/-- A write to FATTN_EN and FVEC. -/
def writeFattnEn (fn : Nat) (v : BitVec 32) (s : State) : State :=
  let f := fnOf s fn
  let en := v &&& 0x1FF
  let vec := bits v.toNat 16 4
  let s1 := updFn fn (fun g => { g with attnEn := en, fvec := vec }) s
  if enableRaises f.attn f.attnEn en && decide (vec < vecCount fn) then raiseVector fn vec s1 else s1

/-- A write to STS_ATTN_EN. -/
def writeStsEn (v : BitVec 32) (s : State) : State :=
  let en := v &&& 0x1F
  let s1 := { s with regs := { s.regs with stsAttnEn := en } }
  if enableRaises s.regs.stsAttn s.regs.stsAttnEn en then raiseVector 0 5 s1 else s1

/-- A write to PWR_ATTN_EN. -/
def writePwrEn (v : BitVec 32) (s : State) : State :=
  let en := v &&& 0x1F
  let s1 := { s with regs := { s.regs with pwrAttnEn := en } }
  if enableRaises s.regs.pwrAttn s.regs.pwrAttnEn en then raiseVector 0 7 s1 else s1

/-- A write to SEV_MIN and EN of the EVT block. -/
def writeEvtEn (v : BitVec 32) (s : State) : State :=
  let s1 := { s with regs := { s.regs with evtSevMin := bits v.toNat 0 3, evtEn := v.getLsbD 3 } }
  if v.getLsbD 3 && !s.regs.evtEn && s.regs.evtNew then raiseVector 0 6 s1 else s1

/-! ### Rings (R615, R616) -/

/-- The reserved bits of a ring register as written. -/
def noteRsvd (fn off : Nat) (v : BitVec 32) (s : State) : State :=
  { s with regs := { s.regs with rsvd := Tab.set 0 s.regs.rsvd (regKey fn off) v } }

/-- A write to a ring parameter register (Table 19.2). -/
def writeRingParam (fn ring o : Nat) (v : BitVec 32) (s : State) : State :=
  let off := 0x40 * ring + o
  let x := v.toNat
  let put64 (old : BitVec 64) (lo : Bool) : BitVec 64 :=
    if lo then BitVec.ofNat 64 (old.toNat / 2 ^ 32 * 2 ^ 32 + x / 4096 * 4096) else BitVec.ofNat 64 (old.toNat % 2 ^ 32 + x * 2 ^ 32)
  let upd (f : RingRegs → RingRegs) (t : State) : State := updRing fn ring (fun r => { r with regs := f r.regs }) t
  match o with
  | 0x00 => upd (fun g => { g with base := put64 g.base true }) (noteRsvd fn off (v &&& 0xFFF) s)
  | 0x04 => upd (fun g => { g with base := put64 g.base false }) s
  | 0x08 => upd (fun g => { g with cqBase := put64 g.cqBase true }) (noteRsvd fn off (v &&& 0xFFF) s)
  | 0x0C => upd (fun g => { g with cqBase := put64 g.cqBase false }) s
  | 0x10 => upd (fun g => { g with sizeLog := bits x 0 5, cqSizeLog := bits x 8 5, vec := bits x 16 4 })
      (noteRsvd fn off (v &&& 0xFFF0E0E0) s)
  | 0x14 => upd (fun g => { g with modCount := bits x 0 8, modTime := bits x 16 10 })
      (noteRsvd fn off (v &&& 0xFC00FF00) s)
  | _ => s

/-- A ring can be enabled (R616). -/
def enableOk (s : State) (fn ring : Nat) : Bool :=
  let g := (ringOf s fn ring).regs
  decide (6 ≤ g.sizeLog) && decide (g.sizeLog ≤ 16) && decide (6 ≤ g.cqSizeLog) && decide (g.cqSizeLog ≤ 16) &&
  (g.vec == 0xF || decide (g.vec < vecCount fn)) &&
  ([0x00, 0x08, 0x10, 0x14].all fun o => Tab.get 0 s.regs.rsvd (regKey fn (0x40 * ring + o)) == 0)

/-- A ring as enabling leaves it: counters zero, no expected SEQ, EPOCH unchanged, consumed items still to complete
(R312). -/
def Ring.enable (r : Ring) : Ring :=
  { r with
    regs := { r.regs with enabled := true, cfgErr := false }
    head := 0, tail := 0, fetch := 0, cqw := 0, cqh := 0, expSeq := none, lastSeq := 0, front := 0, units := [], bells := [], heldAt := []
    lists := [], seenFirst := false, flushPend := false, stopPend := false, writes := 0, modSeen := 0, modSince := none }

/-- A write of 1 to ENABLE. -/
def ringEnable (fn ring : Nat) (s : State) : State :=
  if (ringOf s fn ring).regs.enabled then s
  else if enableOk s fn ring then updRing fn ring Ring.enable s
  else updRing fn ring (fun r => { r with regs := { r.regs with cfgErr := true } }) s

/-- A write of 0 to ENABLE: a flush, and the ring stops as it takes effect (R312). -/
def ringDisable (fn ring : Nat) (s : State) : State :=
  if !(ringOf s fn ring).regs.enabled then s
  else settleFlush fn ring (updRing fn ring (fun q => { q with flushPend := true, stopPend := true }) s)

/-- The doorbell registers of a ring, its completion-head doorbells and the flush registers (Table 19.3). -/
def inDbl (off : Nat) : Bool := decide (0x1000 ≤ off) && decide (off < 0x1050)

/-- A whole 32-bit write to the page of the doorbells (R309, R617, Table 19.3). -/
def writeDbl (fn off : Nat) (v : BitVec 32) (s : State) : State :=
  if off < 0x1020 then
    (if off % 8 = 0 then ringDoorbell fn (off / 8 % 4) v true s else cqDoorbell fn (off / 8 % 4) v s)
  else if 0x1040 ≤ off ∧ v.getLsbD 0 then flushRequest fn (off / 4 % 4) s
  else s

/-- A write of 1 or 0 to ENABLE (R616). -/
def writeEnable (fn ring : Nat) (on : Bool) (s : State) : State := if on then ringEnable fn ring s else ringDisable fn ring s

/-- A write to a register of the ring page: parameters while disabled, ENABLE, and the clears of the two counts. -/
def writeRing (fn ring o : Nat) (v : BitVec 32) (s : State) : State :=
  if o ≤ 0x14 then (if (ringOf s fn ring).regs.enabled then s else writeRingParam fn ring o v s)
  else if o = 0x18 then writeEnable fn ring (v.getLsbD 0) s
  else if o = 0x34 ∧ v = 0 then { s with counters := Tab.set 0 s.counters (counterKey 0x0301 (ringKey fn ring)) 0 }
  else if o = 0x38 ∧ v = 0 then { s with counters := Tab.set 0 s.counters (counterKey 0x0302 (ringKey fn ring)) 0 }
  else s

/-! ### Other registers -/

/-- A write to a word of the MSI-X table; a vector that is unmasked while pending sends its message. -/
def writeMsix (fn off : Nat) (v : BitVec 32) (s : State) : State :=
  let i := (off - 0x8000) / 16
  if 0x9000 ≤ off ∨ vecCount fn ≤ i then s
  else
    let x := vecOf s fn i
    let a := x.addr.toNat
    let y : Vector := match off % 16 with
      | 0 => { x with addr := BitVec.ofNat 64 (a / 2 ^ 32 * 2 ^ 32 + v.toNat) }
      | 4 => { x with addr := BitVec.ofNat 64 (a % 2 ^ 32 + v.toNat * 2 ^ 32) }
      | 8 => { x with data := v }
      | _ => { x with masked := v.getLsbD 0 }
    let send := y.pending && !y.masked
    let s1 := { s with rings := { s.rings with
      vec := Tab.set Vector.reset s.rings.vec (8 * fn + i) { y with pending := y.pending && !send } } }
    if send then emit (.msix fn i) s1 else s1

/-- A GO or a window write that the mailbox discards is counted (R621). -/
def mbxCount (s : State) : State := { s with regs := { s.regs with mbxIgnored := satInc s.regs.mbxIgnored } }

/-- A write to ARM: 0 cancels a pending injection (R626). -/
def writeArm (v : BitVec 32) (s : State) : State :=
  let on := v.getLsbD 0
  { s with regs := { s.regs with dbgArm := on, dbgPending := s.regs.dbgPending && on } }

/-- An injection is armed by a write to KIND and UNIT while ARM is 1 and none is pending (R626, Table 19.13). -/
def writeInject (v : BitVec 32) (s : State) : State :=
  let kind := bits v.toNat 0 4
  if !s.regs.dbgArm || s.regs.dbgPending || kind == 0 || decide (8 ≤ kind) then s
  else { s with regs := { s.regs with
    dbgKind := kind, dbgUnit := BitVec.ofNat 32 (bits v.toNat 16 16), dbgPending := true } }

/-- A half of SCRATCH. -/
def writeScratch (hi : Bool) (v : BitVec 32) (s : State) : State :=
  let old := s.regs.dbgScratch.toNat
  let new := if hi then old % 2 ^ 32 + v.toNat * 2 ^ 32 else old / 2 ^ 32 * 2 ^ 32 + v.toNat
  { s with regs := { s.regs with dbgScratch := BitVec.ofNat 64 new } }

/-- EVT_ACK only rises, and not beyond NEXT; entries below it count as read (R625). -/
def writeAck (v : BitVec 64) (s : State) : State :=
  let a := min v.toNat s.logs.next.toNat
  if v.toNat < s.logs.ack.toNat then s
  else { s with logs := { s.logs with
    ack := BitVec.ofNat 64 a
    entries := s.logs.entries.map fun e => if e.seq.toNat < a then { e with seen := true } else e } }

/-- The capture of R46 with its sequence number (R622). -/
def capture (s : State) : State :=
  { s with
    clk := { s.clk with capTick := s.clk.tick, capRef := s.clk.refTime }
    regs := { s.regs with cseq := (s.regs.cseq + 1) &&& 0xFFFF } }

/-- A word of the mailbox data window. -/
def writeMbx (i : Nat) (v : BitVec 32) (s : State) : State :=
  { s with regs := { s.regs with mbxWindow := Tab.set 0 s.regs.mbxWindow i v } }

/-- A half of EVT_ACK. -/
def writeAckHalf (hi : Bool) (v : BitVec 32) (s : State) : State :=
  let old := s.logs.ack.toNat
  writeAck (BitVec.ofNat 64 (if hi then old % 2 ^ 32 + v.toNat * 2 ^ 32 else old / 2 ^ 32 * 2 ^ 32 + v.toNat)) s

/-- A write of a word: ring parameters, ENABLE and counts, doorbells, attention and enable registers, MSI-X, PRIO, DONE, the
mailbox window, CAPTURE, EVT_ACK, ARM, SCRATCH and KIND. Everything else is read-only or reserved; GO is a command of its own. -/
def writeWord (fn off : Nat) (v : BitVec 32) (s : State) : State :=
  if off < 0x100 then writeRing fn (off / 0x40) (off % 0x40) v s
  else if inDbl off then writeDbl fn off v s
  else if off = 0x2004 then updFn fn (fun f => { f with attn := f.attn &&& ~~~(v &&& 0x1FF) }) s
  else if off = 0x2008 then writeFattnEn fn v s
  else if inMsix off then writeMsix fn off v s
  else if fn ≠ 0 then s
  else if inMbxWindow fn off then (if s.regs.mbxBusy then s else writeMbx ((off - 0x21000) / 4) v s)
  else if 0x10000 ≤ off ∧ off < 0x10208 then prioRewrite ((off - 0x10000) / 8) (1 + off / 4 % 2) v.toNat s
  else match off with
    | 0x20000 => if v.getLsbD 2 then { s with regs := { s.regs with mbxDone := false } } else s
    | 0x30004 => { s with regs := { s.regs with stsAttn := s.regs.stsAttn &&& ~~~v } }
    | 0x30008 => writeStsEn v s
    | 0x30030 => if v.getLsbD 0 then capture s else s
    | 0x60044 => writePwrEn v s
    | 0x70018 => writeAckHalf false v s
    | 0x7001C => writeAckHalf true v s
    | 0x70020 => writeEvtEn v s
    | 0x60040 => { s with regs := { s.regs with pwrAttn := s.regs.pwrAttn &&& ~~~v } }
    | 0x70024 => if v.getLsbD 0 then { s with regs := { s.regs with evtNew := false } } else s
    | 0x80000 => writeArm v s
    | 0x80008 => writeScratch false v s
    | 0x8000C => writeScratch true v s
    | 0x80010 => writeInject v s
    | _ => s

/-- Words in ascending address order (R612). -/
def writeWords (fn off value : Nat) : Nat → State → State
  | 0, s => s
  | n + 1, s => writeWords fn (off + 4) (value / 2 ^ 32) n (writeWord fn off (BitVec.ofNat 32 value) s)

/-- A write of BAR0; one that R610 does not support is discarded, and a write to the mailbox window while BUSY is counted
(R610, R612, R621); a doorbell write of less than 32 bits counts as bad (R313). An 8-byte write of EVT_ACK or of a PRIO register
is one write (R620, R625). -/
def writeReg (fn off size value : Nat) (s : State) : State :=
  if inDbl off && decide (off < 0x1020) && decide (size < 4) then badDoorbell fn (off / 8 % 4) s
  else if !inBar fn off || !sizeOk fn off size true then s
  else
    let s1 := if inMbxWindow fn off && s.regs.mbxBusy then mbxCount s else s
    if size = 8 ∧ fn = 0 ∧ off = 0x70018 then writeAck (BitVec.ofNat 64 value) s1
    else if size = 8 ∧ fn = 0 ∧ 0x10000 ≤ off ∧ off < 0x10208 then prioRewrite ((off - 0x10000) / 8) 0 (value % 2 ^ 64) s1
    else writeWords fn off value (size / 4) s1

end Sys2Proof.Machine
end

