-- ==== Sys2Proof/Machine/RegFile.lean ====
section
/-! DEFINITION. MCI messages from items and the mailbox, and the commands on BAR0 registers (R325, R354, R360, R361, chapter
19). -/

namespace Sys2Proof.Machine

/-! ### Messages (R354, Tables 11.1 and 11.6) -/

/-- A message of at most `room` parameter bytes as a request; a PLEN beyond the room agrees with no opcode (R360). -/
def messageReq (who x room : Nat) : MciReq :=
  { who := who, ver := bits x 16 8, hdrRsvd := bits x 24 8 + bits x 56 8 + bits x 76 52, tag := bits x 32 24
    plen := if bits x 64 12 ≤ room then bits x 64 12 else 2 ^ 40, params := x / 2 ^ 128 % 2 ^ (8 * room) }

/-- A reserved opcode: DUPLICATE_TAG goes before BAD_OPCODE (R359). -/
def mciReserved (op : Nat) (q : MciReq) (s : State) : State :=
  if !mciServed s q.who then s
  else if s.fw.outstanding.any fun o => o.1 == q.who && o.2.2 == q.tag then mciDuplicate op q s
  else mciStatus op q mBadOpcode s

/-- The command that an opcode names (Table 11.6); `data` is what a buffer list brings, `found` what DENSE_ATTACH finds. -/
def mciMessage (op : Nat) (q : MciReq) (data : Nat) (found : List DriveIn) (s : State) : Host.Outcome State Fault Refusal :=
  match op with
  | 0x0001 => execMciInfo q s
  | 0x0002 => execMpReset q s
  | 0x0003 => execNotifySubscribe q s
  | 0x0004 => execClockCorrelate q s
  | 0x0101 => execFwInfo q s
  | 0x0102 => execFwWrite q data s
  | 0x0103 => execFwVerify q s
  | 0x0104 => execFwActivate q s
  | 0x0105 => execFwCommit q s
  | 0x0110 => execKeyInstall q s
  | 0x0111 => execKeyRemove q s
  | 0x0112 => execKeyList q s
  | 0x0113 => execImagePolicy q s
  | 0x0120 => execVetReport q s
  | 0x0121 => execVetAccept q s
  | 0x0122 => execVetRevoke q s
  | 0x0201 => execImageLoad q s
  | 0x0202 => execImageBind q s
  | 0x0203 => execImageUnbind q s
  | 0x0204 => execImageEvict q s
  | 0x0205 => execImageQuery q s
  | 0x0206 => execPartitionSetLayout q s
  | 0x0207 => execPartitionQuery q s
  | 0x0208 => execPartitionReset q s
  | 0x0301 => execBufferScrub q s
  | 0x0302 => execLaneTest q s
  | 0x0303 => execLaneQuery q s
  | 0x0304 => execHbmAssign q s
  | 0x0305 => execHbmQuery q s
  | 0x0306 => execDenseAttach q found s
  | 0x0307 => execDenseFlush q s
  | 0x0308 => execDenseQuery q s
  | 0x0401 => execPrioritySet q s
  | 0x0402 => execWindowWrite q s
  | 0x0403 => execWindowSwitch q s
  | 0x0404 => execWindowQuery q s
  | 0x0501 => if prOp (mciParams q) = 1 then execPoolRegionReplace q s else execPoolRegionCreate q s
  | 0x0502 => execPoolRegionDelete q s
  | 0x0503 => execPoolAccessSet q s
  | 0x0504 => execPoolQuery q s
  | 0x0601 => execLatticeConfig q s
  | 0x0602 => execLatticeQuery q s
  | 0x0603 => execBarrierPolicy q s
  | 0x0801 => execPowerCapSet q s
  | 0x0802 => execPowerQuery q s
  | 0x0803 => execWakeLatencySet q s
  | 0x0804 => execSensorQuery q s
  | 0x0901 => execEventRead q s
  | 0x0902 => if bit1 (mciParams q) 31 then execErrlogClear q s else execErrlogRead q s
  | 0x0903 => execCounterRead q s
  | 0x0904 => execCounterClear q s
  | 0x0905 => execFaultMapQuery q s
  | 0x0906 => execReplacementQuery q s
  | 0x0A01 => execModuleReset q s
  | _ => .next (mciReserved op q s)

/-- MCI_ITEM: the MP accepts the oldest item of a Service ring and executes its message (R325, R360); one that the ring does not
accept completes with BAD_ITEM (R317). -/
def execMciItem (fn data : Nat) (found : List DriveIn) (s : State) : Host.Outcome State Fault Refusal :=
  match startTurn fn 3 s with
  | none => .next s
  | some (x, s1) =>
    if itOpcode x = 0x01 then .next s
    else match badHead s fn 3 x with
      | some st => .next (rejectHead fn 3 x st s1)
      | none =>
        let m := itemMessage x
        mciMessage (bits m 0 16) (messageReq fn m 432) data found (consume fn 3 x s1)

/-! ### Rings (R312, R616) -/

/-- RING_ENABLE: a write of 1 to ENABLE. -/
def execRingEnable (fn ring : Nat) (s : State) : Host.Outcome State Fault Refusal :=
  if 4 ≤ ring then .next s else .next (barWrite fn (ringEnable fn ring) s)

/-- RING_DISABLE: a write of 0 to ENABLE; `rest` counts the items among exposed units that the engine does not hold. -/
def execRingDisable (fn ring rest : Nat) (s : State) : Host.Outcome State Fault Refusal :=
  if 4 ≤ ring then .next s else .next (barWrite fn (fun t => writeMarks fn ring rest (ringDisable fn ring t)) s)

/-! ### PF0's module blocks -/

/-- PRIO_WRITE: half 0 an 8-byte write, 1 and 2 a write of the low and of the high word (R620). -/
def execPrioWrite (fn half : Nat) (value : BitVec 64) (s : State) : Host.Outcome State Fault Refusal :=
  if 65 ≤ fn then .next s else .next (barWrite 0 (prioRewrite fn half value.toNat) s)

/-- The window as one number. -/
def mbxBytes (s : State) : Nat := packFields 32 (fun i => (Tab.get 0 s.regs.mbxWindow i).toNat) 1024

/-- The mailbox takes no request now (R361, R621). -/
def mbxClosed (s : State) : Bool :=
  s.regs.mbxBusy || s.regs.mbxDone || !(mpRuns s || s.boot.mp == .recovery)

/-- MAILBOX_GO: a write of GO submits the request in the window, or is discarded and counted (R361, R621). -/
def execMailboxGo (found : List DriveIn) (s : State) : Host.Outcome State Fault Refusal :=
  if !barServed s 0 then .next (emit (.unsupported 0) s)
  else if flrBusy s 0 then .next s
  else if mbxClosed s then .next (mbxCount s)
  else
    let x := mbxBytes s
    mciMessage (bits x 0 16) (messageReq whoMailbox x 4080) 0 found { s with regs := { s.regs with mbxBusy := true } }

/-- CAPTURE: a write of 1 to CAPTURE (R46, R622). -/
def execCapture (s : State) : Host.Outcome State Fault Refusal := .next (barWrite 0 capture s)

/-- COUNTER_LOW_READ: a read of BAR0; a 4-byte read of the low half of a 64-bit register latches its high half (R610, R611,
R613). -/
def execCounterLowRead (fn offset size : Nat) (s : State) : Host.Outcome State Fault Refusal :=
  if !barServed s fn then .next (emit (.unsupported fn) s)
  else
    let (v, s1) := readReg fn offset size s
    .next (emit (.regData fn offset v) s1)

/-- EVT_ACK_WRITE: an 8-byte write of EVT_ACK (R625). -/
def execEvtAckWrite (value : BitVec 64) (s : State) : Host.Outcome State Fault Refusal := .next (barWrite 0 (writeAck value) s)

/-- ATTENTION_ENABLE_WRITE: block 0 is FATTN_EN of a function, 1 STS_ATTN_EN, 2 the EVT register at 0x20, 3 PWR_ATTN_EN
(R618). -/
def execAttentionEnableWrite (fn block : Nat) (value : BitVec 32) (s : State) : Host.Outcome State Fault Refusal :=
  match block with
  | 0 => .next (barWrite fn (writeFattnEn fn value) s)
  | 1 => .next (barWrite 0 (writeStsEn value) s)
  | 2 => .next (barWrite 0 (writeEvtEn value) s)
  | 3 => .next (barWrite 0 (writePwrEn value) s)
  | _ => .next s

/-- DBG_INJECT: a write of KIND and UNIT (R626). -/
def execDbgInject (value : BitVec 32) (s : State) : Host.Outcome State Fault Refusal := .next (barWrite 0 (writeInject value) s)

/-- REGISTER_WRITE: a write to registers; the words that it covers take effect in ascending order (R610, R612). A write of GO is
given as MAILBOX_GO. -/
def execRegisterWrite (fn offset size value : Nat) (s : State) : Host.Outcome State Fault Refusal :=
  .next (barWrite fn (writeReg fn offset size value) s)

end Sys2Proof.Machine
end

