-- ==== Sys2Proof/Machine/Ticks.lean ====
section
/-! DEFINITION. The tick's own commands: throttle boundaries, Crumbs, frame boundaries, branch reads, frame budgets
and the effects that fall on a boundary (R53, R55, R60, R97, R99, R130, R131, R570). -/

namespace Sys2Proof.Machine

/-- The next frame boundary whose decisions are still due is reached and its decisions are taken (R60). -/
def toBoundary (s : State) : State :=
  if s.clk.frameDone then
    let s1 := advanceTo (nextBoundary s) s
    if s1.clk.held then s1 else boundary s1
  else boundary s

/-- THROTTLE_BOUNDARY: ticks pass to the next tick that is a multiple of 64; a setting that arrived before it takes
effect there (R53). -/
def execThrottleBoundary (s : State) : Host.Outcome State Fault Refusal :=
  if tickRuns s then .next (runTo (throttleBoundaryAfter s.clk.tick.toNat) s) else .next s

/-- The run of K − 1 ticks is complete: the next tick-clock period is a Crumb (R55). -/
def crumbDue (s : State) : Bool := decide (2 ≤ setK s.clk.setting) && decide (setK s.clk.setting ≤ s.clk.crumb + 1)

/-- One tick-clock period passes without a tick. -/
def passCrumb (s : State) : State :=
  let t := passPs (periodPs s.clk.setting) s
  { t with clk := { t.clk with crumb := 0 } }

/-- The ticks that the present Crumb run still lacks pass; a setting that takes effect on the way starts a run of its own. -/
def fillRun (s : State) : State := runTo (s.clk.tick.toNat + (setK s.clk.setting - 1 - s.clk.crumb)) s

/-- CRUMB: the run of K − 1 ticks completes and one tick-clock period passes without a tick. A setting that takes effect on a
throttle boundary on the way restarts the counter there; as a run is shorter than 64 ticks, no second one falls within the run
that follows. With K = 0 from there on no Crumb occurs (R53, R55). -/
def execCrumb (s : State) : Host.Outcome State Fault Refusal :=
  if tickRuns s && decide (2 ≤ setK s.clk.setting) then
    let s1 := fillRun s
    let s2 := if s1.clk.held || crumbDue s1 || decide (setK s1.clk.setting < 2) then s1 else fillRun s1
    .next (if !s2.clk.held && crumbDue s2 then passCrumb s2 else s2)
  else .next s

/-- FRAME_BOUNDARY: the decisions of the next frame boundary (R60). -/
def execFrameBoundary (s : State) : Host.Outcome State Fault Refusal :=
  if tickRuns s then .next (toBoundary s) else .next s

/-- BRANCH_READ: at tick 3,968 of the last frame of a variant whose successor is chosen, the branch word is read
(R97). -/
def execBranchRead (part : Nat) (s : State) : Host.Outcome State Fault Refusal :=
  if !tickRuns s || !s.clk.frameDone || decide (3968 < frameOffset s) then .next s
  else match branchDue s part with
    | none => .next s
    | some (im, v) => .next (branchNow part im v (advance (3968 - frameOffset s) s))

/-- The executing run of a partition stands in run frame M − 1 (R99). -/
def budgetFrame (s : State) (k : Nat) : Bool :=
  let p := part s k
  !p.parked && match p.run, boundImage s p with
    | some r, some im => r.runFrame + 1 == im.hdr.budget
    | _, _ => false

/-- FRAME_BUDGET_EXHAUSTED: run frame M − 1 ends, and with it the run (R99). -/
def execFrameBudgetExhausted (part : Nat) (s : State) : Host.Outcome State Fault Refusal :=
  if tickRuns s && s.clk.frameDone && budgetFrame s part then .next (toBoundary s) else .next s

/-- BIND_EFFECT: the preparation frame of an accepted bind ends and the partition starts the idle frame (R87, R130). -/
def execBindEffect (k : Nat) (s : State) : Host.Outcome State Fault Refusal :=
  if tickRuns s && (part s k).binding.isSome && (part s k).prep then .next (toBoundary s) else .next s

/-- UNBIND_EFFECT: an accepted unbind takes effect on the next boundary once no run executes or is suspended, or with
FORCE (R131). -/
def execUnbindEffect (k : Nat) (s : State) : Host.Outcome State Fault Refusal :=
  if tickRuns s && (part s k).unbinding.isSome then .next (toBoundary s) else .next s

/-- PARTITION_RESET_EFFECT: an accepted reset takes effect on the partition's next boundary (R570). -/
def execPartitionResetEffect (k : Nat) (s : State) : Host.Outcome State Fault Refusal :=
  if tickRuns s && (part s k).resetPend then .next (toBoundary s) else .next s

/-- No command waits: while the tick runs one tick passes, or the Crumb that is due (R55); otherwise 10 ns of
reference time. DESIGN CHOICE, log entry 1. -/
def idle (s : State) : State :=
  if tickRuns s then
    let s1 := settle s
    if crumbDue s1 then passCrumb s1 else advance 1 s1
  else passPs 10000 s

end Sys2Proof.Machine
end

