-- ==== Sys2Proof/Machine/Dispatch.lean ====
section
/-! DEFINITION. One arm per command: the meaning it calls. -/

namespace Sys2Proof.Machine

/-- The effect of a command on everything but the queue. -/
def exec (i : Instr) (s : State) : Host.Outcome State Fault Refusal :=
  match i with
  | .standbyPowerOn => Sys2Proof.Machine.execStandbyPowerOn s
  | .mainInputOn hbm => Sys2Proof.Machine.execMainInputOn hbm s
  | .inputOutOfRange unit => Sys2Proof.Machine.execInputOutOfRange unit s
  | .coreReferenceStop => Sys2Proof.Machine.execCoreReferenceStop s
  | .rootPllLock => Sys2Proof.Machine.execRootPllLock s
  | .clockLoss => Sys2Proof.Machine.execClockLoss s
  | .thermalTrip sensor => Sys2Proof.Machine.execThermalTrip sensor s
  | .perstAssert => Sys2Proof.Machine.execPerstAssert s
  | .perstDeassert straps drives => Sys2Proof.Machine.execPerstDeassert straps drives s
  | .deviceReady found => Sys2Proof.Machine.execDeviceReady found s
  | .perst1Assert => Sys2Proof.Machine.execPerst1Assert s
  | .perst1Deassert => Sys2Proof.Machine.execPerst1Deassert s
  | .portReset port => Sys2Proof.Machine.execPortReset port s
  | .moduleReset q => Sys2Proof.Machine.execModuleReset q s
  | .resetHoldExpiry => Sys2Proof.Machine.execResetHoldExpiry s
  | .throttleBoundary => Sys2Proof.Machine.execThrottleBoundary s
  | .crumb => Sys2Proof.Machine.execCrumb s
  | .frameBoundary => Sys2Proof.Machine.execFrameBoundary s
  | .barrierHold => Sys2Proof.Machine.execBarrierHold s
  | .refreshTimer pc => Sys2Proof.Machine.execRefreshTimer pc s
  | .refreshLane pc cell => Sys2Proof.Machine.execRefreshLane pc cell s
  | .readWindowCell pc cell sev => Sys2Proof.Machine.execReadWindowCell pc cell sev s
  | .writeWindowCell pc cell => Sys2Proof.Machine.execWriteWindowCell pc cell s
  | .rowSwitchGap pc cell => Sys2Proof.Machine.execRowSwitchGap pc cell s
  | .eventLink e noise => Sys2Proof.Machine.execEventLink e noise s
  | .beatDiscard router port => Sys2Proof.Machine.execBeatDiscard router port s
  | .scheduledRead e => Sys2Proof.Machine.execScheduledRead e s
  | .scheduledWrite e => Sys2Proof.Machine.execScheduledWrite e s
  | .indexLoad e => Sys2Proof.Machine.execIndexLoad e s
  | .gather e => Sys2Proof.Machine.execGather e s
  | .scatter e => Sys2Proof.Machine.execScatter e s
  | .dispatch e => Sys2Proof.Machine.execDispatch e s
  | .dispatchResultWrite router up => Sys2Proof.Machine.execDispatchResultWrite router up s
  | .foldStep e => Sys2Proof.Machine.execFoldStep e s
  | .rng e => Sys2Proof.Machine.execRng e s
  | .update e => Sys2Proof.Machine.execUpdate e s
  | .branchRead part => Sys2Proof.Machine.execBranchRead part s
  | .frameBudgetExhausted part => Sys2Proof.Machine.execFrameBudgetExhausted part s
  | .hostTransferBeat part recIdx beat => Sys2Proof.Machine.execHostTransferBeat part recIdx beat s
  | .hostReadData part frame recIdx beat data failed => Sys2Proof.Machine.execHostReadData part frame recIdx beat data failed s
  | .descriptorBeat router => Sys2Proof.Machine.execDescriptorBeat router s
  | .residualReturn port => Sys2Proof.Machine.execResidualReturn port s
  | .compressedRecordHandover port => Sys2Proof.Machine.execCompressedRecordHandover port s
  | .latticeWindowEntry part recIdx beat => Sys2Proof.Machine.execLatticeWindowEntry part recIdx beat s
  | .latticeWindowPresent part recIdx beat => Sys2Proof.Machine.execLatticeWindowPresent part recIdx beat s
  | .sliceRd header words => Sys2Proof.Machine.execSliceRd header words s
  | .sliceWr header words => Sys2Proof.Machine.execSliceWr header words s
  | .controlPortCommit router => Sys2Proof.Machine.execControlPortCommit router s
  | .scrubVisit router => Sys2Proof.Machine.execScrubVisit router s
  | .controlWordParityError node dir resend => Sys2Proof.Machine.execControlWordParityError node dir resend s
  | .packetAgeing node dir arrivals cycles => Sys2Proof.Machine.execPacketAgeing node dir arrivals cycles s
  | .telemetryInject endpoint left content event => Sys2Proof.Machine.execTelemetryInject endpoint left content event s
  | .faultPacket p => Sys2Proof.Machine.execFaultPacket p s
  | .eventPacket p => Sys2Proof.Machine.execEventPacket p s
  | .socketStatus router status => Sys2Proof.Machine.execSocketStatus router status s
  | .unreservedUpBeat router beat => Sys2Proof.Machine.execUnreservedUpBeat router beat s
  | .helloRetry tile => Sys2Proof.Machine.execHelloRetry tile s
  | .ident tile rx => Sys2Proof.Machine.execIdent tile rx s
  | .discoveryAck tile rx => Sys2Proof.Machine.execDiscoveryAck tile rx s
  | .bootDone tile rx => Sys2Proof.Machine.execBootDone tile rx s
  | .spares tile rx => Sys2Proof.Machine.execSpares tile rx s
  | .tileError tile rx => Sys2Proof.Machine.execTileError tile rx s
  | .discoveryTimeout tile => Sys2Proof.Machine.execDiscoveryTimeout tile s
  | .tileSensorFrame tile readings crc => Sys2Proof.Machine.execTileSensorFrame tile readings crc s
  | .bondTrainingDone tile cells => Sys2Proof.Machine.execBondTrainingDone tile cells s
  | .stitchTrainingDone results links dead => Sys2Proof.Machine.execStitchTrainingDone results links dead s
  | .consentTimeout bundle => Sys2Proof.Machine.execConsentTimeout bundle s
  | .stitchRetrain results => Sys2Proof.Machine.execStitchRetrain results s
  | .tileRediscovery tile cell => Sys2Proof.Machine.execTileRediscovery tile cell s
  | .faultMapMerge => Sys2Proof.Machine.execFaultMapMerge s
  | .partitionRelease k => Sys2Proof.Machine.execPartitionRelease k s
  | .hbmTraining stack good channels => Sys2Proof.Machine.execHbmTraining stack good channels s
  | .autonomousRefresh pc => Sys2Proof.Machine.execAutonomousRefresh pc s
  | .unscheduledAccess pc sev => Sys2Proof.Machine.execUnscheduledAccess pc sev s
  | .correctedWriteback pc => Sys2Proof.Machine.execCorrectedWriteback pc s
  | .patrolScrub pc sev => Sys2Proof.Machine.execPatrolScrub pc sev s
  | .hbmSoftRepair pc row resource => Sys2Proof.Machine.execHbmSoftRepair pc row resource s
  | .hbmTempSample stack raw => Sys2Proof.Machine.execHbmTempSample stack raw s
  | .cacheAccess => Sys2Proof.Machine.execCacheAccess s
  | .driveCommandComplete drive cmd block data error => Sys2Proof.Machine.execDriveCommandComplete drive cmd block data error s
  | .driveCommandAbort drive cmd block => Sys2Proof.Machine.execDriveCommandAbort drive cmd block s
  | .denseRequestTimeout => Sys2Proof.Machine.execDenseRequestTimeout s
  | .cacheCleaner => Sys2Proof.Machine.execCacheCleaner s
  | .driveFailed drive => Sys2Proof.Machine.execDriveFailed drive s
  | .drivePresenceLoss drive => Sys2Proof.Machine.execDrivePresenceLoss drive s
  | .ringDoorbell fn ring value whole => Sys2Proof.Machine.execRingDoorbell fn ring value whole s
  | .cqHeadDoorbell fn ring value => Sys2Proof.Machine.execCqHeadDoorbell fn ring value s
  | .flushRequest fn ring => Sys2Proof.Machine.execFlushRequest fn ring s
  | .flushEffect fn ring rest => Sys2Proof.Machine.execFlushEffect fn ring rest s
  | .ringFetch fn ring units list => Sys2Proof.Machine.execRingFetch fn ring units list s
  | .ringEnable fn ring => Sys2Proof.Machine.execRingEnable fn ring s
  | .ringDisable fn ring rest => Sys2Proof.Machine.execRingDisable fn ring rest s
  | .nop fn ring => Sys2Proof.Machine.execNop fn ring s
  | .stageStart fn data => Sys2Proof.Machine.execStageStart fn data s
  | .stageComplete fn => Sys2Proof.Machine.execStageComplete fn s
  | .poolItem fn => Sys2Proof.Machine.execPoolItem fn s
  | .mciItem fn data found => Sys2Proof.Machine.execMciItem fn data found s
  | .runComplete fn ring seq => Sys2Proof.Machine.execRunComplete fn ring seq s
  | .interruptTimer fn ring => Sys2Proof.Machine.execInterruptTimer fn ring s
  | .functionLevelReset fn => Sys2Proof.Machine.execFunctionLevelReset fn s
  | .prioWrite fn half value => Sys2Proof.Machine.execPrioWrite fn half value s
  | .mailboxGo found => Sys2Proof.Machine.execMailboxGo found s
  | .capture => Sys2Proof.Machine.execCapture s
  | .counterLowRead fn offset size => Sys2Proof.Machine.execCounterLowRead fn offset size s
  | .evtAckWrite value => Sys2Proof.Machine.execEvtAckWrite value s
  | .attentionEnableWrite fn block value => Sys2Proof.Machine.execAttentionEnableWrite fn block value s
  | .dbgInject value => Sys2Proof.Machine.execDbgInject value s
  | .registerWrite fn offset size value => Sys2Proof.Machine.execRegisterWrite fn offset size value s
  | .mciInfo q => Sys2Proof.Machine.execMciInfo q s
  | .mpReset q => Sys2Proof.Machine.execMpReset q s
  | .notifySubscribe q => Sys2Proof.Machine.execNotifySubscribe q s
  | .clockCorrelate q => Sys2Proof.Machine.execClockCorrelate q s
  | .fwInfo q => Sys2Proof.Machine.execFwInfo q s
  | .fwWrite q data => Sys2Proof.Machine.execFwWrite q data s
  | .fwVerify q => Sys2Proof.Machine.execFwVerify q s
  | .fwActivate q => Sys2Proof.Machine.execFwActivate q s
  | .fwCommit q => Sys2Proof.Machine.execFwCommit q s
  | .keyInstall q => Sys2Proof.Machine.execKeyInstall q s
  | .keyRemove q => Sys2Proof.Machine.execKeyRemove q s
  | .keyList q => Sys2Proof.Machine.execKeyList q s
  | .imagePolicy q => Sys2Proof.Machine.execImagePolicy q s
  | .vetReport q => Sys2Proof.Machine.execVetReport q s
  | .vetAccept q => Sys2Proof.Machine.execVetAccept q s
  | .vetRevoke q => Sys2Proof.Machine.execVetRevoke q s
  | .imageLoad q => Sys2Proof.Machine.execImageLoad q s
  | .imageLoadDone slot bytes len => Sys2Proof.Machine.execImageLoadDone slot bytes len s
  | .imageBind q => Sys2Proof.Machine.execImageBind q s
  | .bindEffect k => Sys2Proof.Machine.execBindEffect k s
  | .imageUnbind q => Sys2Proof.Machine.execImageUnbind q s
  | .unbindEffect k => Sys2Proof.Machine.execUnbindEffect k s
  | .imageEvict q => Sys2Proof.Machine.execImageEvict q s
  | .imageQuery q => Sys2Proof.Machine.execImageQuery q s
  | .partitionSetLayout q => Sys2Proof.Machine.execPartitionSetLayout q s
  | .partitionQuery q => Sys2Proof.Machine.execPartitionQuery q s
  | .partitionReset q => Sys2Proof.Machine.execPartitionReset q s
  | .partitionResetEffect k => Sys2Proof.Machine.execPartitionResetEffect k s
  | .bufferScrub q => Sys2Proof.Machine.execBufferScrub q s
  | .laneTest q => Sys2Proof.Machine.execLaneTest q s
  | .laneQuery q => Sys2Proof.Machine.execLaneQuery q s
  | .hbmAssign q => Sys2Proof.Machine.execHbmAssign q s
  | .hbmQuery q => Sys2Proof.Machine.execHbmQuery q s
  | .denseAttach q found => Sys2Proof.Machine.execDenseAttach q found s
  | .denseFlush q => Sys2Proof.Machine.execDenseFlush q s
  | .denseQuery q => Sys2Proof.Machine.execDenseQuery q s
  | .prioritySet q => Sys2Proof.Machine.execPrioritySet q s
  | .windowWrite q => Sys2Proof.Machine.execWindowWrite q s
  | .windowSwitch q => Sys2Proof.Machine.execWindowSwitch q s
  | .windowQuery q => Sys2Proof.Machine.execWindowQuery q s
  | .poolRegionCreate q => Sys2Proof.Machine.execPoolRegionCreate q s
  | .poolRegionReplace q => Sys2Proof.Machine.execPoolRegionReplace q s
  | .poolRegionDelete q => Sys2Proof.Machine.execPoolRegionDelete q s
  | .regionDeleteComplete region => Sys2Proof.Machine.execRegionDeleteComplete region s
  | .poolAccessSet q => Sys2Proof.Machine.execPoolAccessSet q s
  | .poolQuery q => Sys2Proof.Machine.execPoolQuery q s
  | .latticeConfig q => Sys2Proof.Machine.execLatticeConfig q s
  | .latticeQuery q => Sys2Proof.Machine.execLatticeQuery q s
  | .barrierPolicy q => Sys2Proof.Machine.execBarrierPolicy q s
  | .powerCapSet q => Sys2Proof.Machine.execPowerCapSet q s
  | .powerQuery q => Sys2Proof.Machine.execPowerQuery q s
  | .wakeLatencySet q => Sys2Proof.Machine.execWakeLatencySet q s
  | .sensorQuery q => Sys2Proof.Machine.execSensorQuery q s
  | .eventRead q => Sys2Proof.Machine.execEventRead q s
  | .errlogRead q => Sys2Proof.Machine.execErrlogRead q s
  | .errlogClear q => Sys2Proof.Machine.execErrlogClear q s
  | .counterRead q => Sys2Proof.Machine.execCounterRead q s
  | .counterClear q => Sys2Proof.Machine.execCounterClear q s
  | .faultMapQuery q => Sys2Proof.Machine.execFaultMapQuery q s
  | .replacementQuery q => Sys2Proof.Machine.execReplacementQuery q s
  | .replacementClear q => Sys2Proof.Machine.execReplacementClear q s
  | .mctpControl medium cmd src eid => Sys2Proof.Machine.execMctpControl medium cmd src eid s
  | .spdmRequest transport src kind content => Sys2Proof.Machine.execSpdmRequest transport src kind content s
  | .mpWatchdog => Sys2Proof.Machine.execMpWatchdog s
  | .mpReady => Sys2Proof.Machine.execMpReady s
  | .pmWatchdog crcOk => Sys2Proof.Machine.execPmWatchdog crcOk s
  | .mpBoot cals => Sys2Proof.Machine.execMpBoot cals s
  | .trialBootTimeout => Sys2Proof.Machine.execTrialBootTimeout s
  | .cxlMemRead pbr tag region off => Sys2Proof.Machine.execCxlMemRead pbr tag region off s
  | .cxlMemWrite pbr tag region off data poison => Sys2Proof.Machine.execCxlMemWrite pbr tag region off data poison s
  | .poolMailboxCommand pbr slot line => Sys2Proof.Machine.execPoolMailboxCommand pbr slot line s
  | .fill id fetched => Sys2Proof.Machine.execFill id fetched s
  | .copy id fetched => Sys2Proof.Machine.execCopy id fetched s
  | .compare id fetched => Sys2Proof.Machine.execCompare id fetched s
  | .reduce id fetched => Sys2Proof.Machine.execReduce id fetched s
  | .flush id => Sys2Proof.Machine.execFlush id s
  | .status id => Sys2Proof.Machine.execStatus id s
  | .lease id => Sys2Proof.Machine.execLease id s
  | .unlease id => Sys2Proof.Machine.execUnlease id s
  | .poolCommandEnd id => Sys2Proof.Machine.execPoolCommandEnd id s
  | .flushTokenComplete region => Sys2Proof.Machine.execFlushTokenComplete region s
  | .flushTokenTimeout region => Sys2Proof.Machine.execFlushTokenTimeout region s
  | .leaseExpiry region => Sys2Proof.Machine.execLeaseExpiry region s
  | .memberLoss region member => Sys2Proof.Machine.execMemberLoss region member s
  | .rebuildStep region => Sys2Proof.Machine.execRebuildStep region s
  | .unitZeroFill unit => Sys2Proof.Machine.execUnitZeroFill unit s
  | .portTrainingDone port good latency => Sys2Proof.Machine.execPortTrainingDone port good latency s
  | .linkId port msg => Sys2Proof.Machine.execLinkId port msg s
  | .portRetrain port => Sys2Proof.Machine.execPortRetrain port s
  | .retrainTimeout port => Sys2Proof.Machine.execRetrainTimeout port s
  | .trainingRetry port => Sys2Proof.Machine.execTrainingRetry port s
  | .idleFlit h => Sys2Proof.Machine.execIdleFlit h s
  | .nak h => Sys2Proof.Machine.execNak h s
  | .win h first total beats => Sys2Proof.Machine.execWin h first total beats s
  | .ureqRead h u => Sys2Proof.Machine.execUreqRead h u s
  | .ureqWrite h u => Sys2Proof.Machine.execUreqWrite h u s
  | .ureqDelta h u => Sys2Proof.Machine.execUreqDelta h u s
  | .ureqRebuild h u => Sys2Proof.Machine.execUreqRebuild h u s
  | .ureqCmd h u => Sys2Proof.Machine.execUreqCmd h u s
  | .ureqTable h u => Sys2Proof.Machine.execUreqTable h u s
  | .ureqToken h u => Sys2Proof.Machine.execUreqToken h u s
  | .ursp h uop u => Sys2Proof.Machine.execUrsp h uop u s
  | .ureqRepeat dst tag => Sys2Proof.Machine.execUreqRepeat dst tag s
  | .ackIdleTimer port => Sys2Proof.Machine.execAckIdleTimer port s
  | .replayTimeout port => Sys2Proof.Machine.execReplayTimeout port s
  | .flitSlot port => Sys2Proof.Machine.execFlitSlot port s
  | .arrive h port msg => Sys2Proof.Machine.execArrive h port msg s
  | .release h port msg => Sys2Proof.Machine.execRelease h port msg s
  | .releaseDelayExpiry => Sys2Proof.Machine.execReleaseDelayExpiry s
  | .barrierTimeout => Sys2Proof.Machine.execBarrierTimeout s
  | .barrierLoneRelease => Sys2Proof.Machine.execBarrierLoneRelease s
  | .treq h port msg => Sys2Proof.Machine.execTreq h port msg s
  | .tset h port msg => Sys2Proof.Machine.execTset h port msg s
  | .join h port msg => Sys2Proof.Machine.execJoin h port msg s
  | .firstBarrierTimer => Sys2Proof.Machine.execFirstBarrierTimer s
  | .linkFail h port msg => Sys2Proof.Machine.execLinkFail h port msg s
  | .lost h port msg => Sys2Proof.Machine.execLost h port msg s
  | .policy h port msg => Sys2Proof.Machine.execPolicy h port msg s
  | .windowAgeOut port src stamp => Sys2Proof.Machine.execWindowAgeOut port src stamp s
  | .laneSleep port => Sys2Proof.Machine.execLaneSleep port s
  | .laneWake port => Sys2Proof.Machine.execLaneWake port s
  | .pmControlPeriod m => Sys2Proof.Machine.execPmControlPeriod m s
  | .pmThermalPeriod => Sys2Proof.Machine.execPmThermalPeriod s
  | .sensorSample sensor raw => Sys2Proof.Machine.execSensorSample sensor raw s
  | .pwrbrkAssert => Sys2Proof.Machine.execPwrbrkAssert s
  | .pwrbrkDeassert => Sys2Proof.Machine.execPwrbrkDeassert s
  | .tileOvercurrent tile => Sys2Proof.Machine.execTileOvercurrent tile s
  | .tileShutdown tile => Sys2Proof.Machine.execTileShutdown tile s
  | .idleStateEntry part => Sys2Proof.Machine.execIdleStateEntry part s
  | .idleExitComplete part => Sys2Proof.Machine.execIdleExitComplete part s
  | .elasticOverflow buffer level => Sys2Proof.Machine.execElasticOverflow buffer level s
  | .errlogSummaryWrite => Sys2Proof.Machine.execErrlogSummaryWrite s
  | .coreReferenceValid => Sys2Proof.Machine.execCoreReferenceValid s
  | .standbyPowerOff => Sys2Proof.Machine.execStandbyPowerOff s
  | .mpSramUncorrectable => Sys2Proof.Machine.execMpSramUncorrectable s
  | .flitCrcFailure port uncorrectable => Sys2Proof.Machine.execFlitCrcFailure port uncorrectable s
  | .configurationRequest port fn clearVf setVf => Sys2Proof.Machine.execConfigurationRequest port fn clearVf setVf s
  | .laneTestComplete n cells stitch hbm => Sys2Proof.Machine.execLaneTestComplete n cells stitch hbm s
  | .vddtReached tile => Sys2Proof.Machine.execVddtReached tile s
  | .dynamicAddressAssignment addr => Sys2Proof.Machine.execDynamicAddressAssignment addr s

end Sys2Proof.Machine
end

