-- ==== Sys2Proof/WellFormed.lean ====
section
/-! DEFINITION. Well-formed commands: every operand within the range that the spec gives its object. -/

namespace Sys2Proof

/-- A router of the mesh and one of its records. -/
def EvRef.wf (e : EvRef) : Bool := decide (e.router < 16384)

/-- The fields of a request fit their widths, and its parameters its PLEN (Table 11.1). -/
def MciReq.wf (q : MciReq) : Bool :=
  decide (q.ver < 256) && decide (q.tag < 2 ^ 24) && decide (q.plen ≤ 4080) && decide (q.params < 2 ^ (8 * q.plen)) &&
  (decide (q.who ≤ 65) || (decide (256 ≤ q.who) && decide (q.who < 1024)))

/-- The fields of a flit header fit their widths (Table 14.5). -/
def FlitHdr.wf (h : FlitHdr) : Bool :=
  decide (h.port < 12) && decide (h.vc < 7) && decide (h.cvc < 7) && decide (h.crd < 64) && decide (h.src < 1024) &&
  decide (h.dst < 1024) && decide (h.hops < 16) && decide (h.xt < 2 ^ 32)

/-- A drive number. -/
def DriveIn.wf (d : DriveIn) : Bool := decide (d.drive < 8)

/-- The fields of the unscheduled header fit their widths, and it carries at most NL lines (R463). -/
def UnschIn.wf (u : UnschIn) : Bool :=
  decide (u.tag < 2 ^ 24) && decide (u.region < 4096) && decide (u.off < 2 ^ 48) && decide (u.status < 65536) &&
  decide (u.nl ≤ 3) && decide (u.lines.length ≤ u.nl)

/-- REASON in 16 bits and SEV from 0 to 7 (R585). -/
def PktIn.wf (p : PktIn) : Bool := decide (p.reason < 65536) && decide (p.sev < 8)

/-- A port of a router. -/
def LinkNoise.wf (n : LinkNoise) : Bool := decide (n.port < 7)

/-- A bond group and one of its paths. -/
def SiteObs.wf (o : SiteObs) : Bool := decide (o.role < 4) && decide (o.site < 282) && decide (1 ≤ o.path) && decide (o.path ≤ 5)

/-- A cell of a tile. -/
def CellTrain.wf (c : CellTrain) : Bool := decide (c.cell < 1024) && c.obs.all SiteObs.wf

/-- A column, one of its two directions, and its lanes. -/
def StitchTrain.wf (t : StitchTrain) : Bool :=
  decide (t.column < 128) && decide (t.dir < 2) && t.obs.all fun o => decide (o.lane < 272)

/-- A control node, a direction, and the lanes of a link. -/
def LinkTrain.wf (t : LinkTrain) : Bool :=
  decide (t.node < 256) && decide (t.dir < 4) && t.obs.all fun o => decide (o.lane < 38)

/-- A channel of a stack. -/
def ChannelTrain.wf (c : ChannelTrain) : Bool := decide (c.channel < 16)

/-- Four samples for a thermal reference. -/
def CalIn.wf (c : CalIn) : Bool := decide (c.unit < 256) && (decide (128 ≤ c.unit) || c.samples.length == 4)

/-- Well-formedness of a command. -/
def Instr.wf (i : Instr) : Bool :=
  match i with
  | .standbyPowerOn => true
  | .mainInputOn _ => true
  | .inputOutOfRange unit => decide (unit < 9)
  | .coreReferenceStop => true
  | .rootPllLock => true
  | .clockLoss => true
  | .thermalTrip sensor => decide (sensor < 128)
  | .perstAssert => true
  | .perstDeassert _ _ => true
  | .deviceReady found => found.all DriveIn.wf
  | .perst1Assert => true
  | .perst1Deassert => true
  | .portReset port => decide (port < 2)
  | .moduleReset q => q.wf
  | .resetHoldExpiry => true
  | .throttleBoundary => true
  | .crumb => true
  | .frameBoundary => true
  | .barrierHold => true
  | .refreshTimer pc => decide (pc < 256)
  | .refreshLane pc cell => decide (pc < 256) && decide (cell < 512)
  | .readWindowCell pc cell _ => decide (pc < 256) && decide (cell < 512)
  | .writeWindowCell pc cell => decide (pc < 256) && decide (cell < 512)
  | .rowSwitchGap pc cell => decide (pc < 256) && decide (cell < 512)
  | .eventLink e noise => e.wf && noise.all LinkNoise.wf
  | .beatDiscard router port => decide (router < 16384) && decide (port < 11)
  | .scheduledRead e => e.wf
  | .scheduledWrite e => e.wf
  | .indexLoad e => e.wf
  | .gather e => e.wf
  | .scatter e => e.wf
  | .dispatch e => e.wf
  | .dispatchResultWrite router _ => decide (router < 16384)
  | .foldStep e => e.wf
  | .rng e => e.wf
  | .update e => e.wf
  | .branchRead part => decide (part < 4)
  | .frameBudgetExhausted part => decide (part < 4)
  | .hostTransferBeat part _ _ => decide (part < 4)
  | .hostReadData part _ _ _ _ _ => decide (part < 4)
  | .descriptorBeat router => decide (router < 16384)
  | .residualReturn port => decide (port < 12)
  | .compressedRecordHandover port => decide (port < 12)
  | .latticeWindowEntry part _ _ => decide (part < 4)
  | .latticeWindowPresent part _ _ => decide (part < 4)
  | .sliceRd _ words => words.all (fun w => decide (w < 2 ^ 32))
  | .sliceWr _ words => words.all (fun w => decide (w < 2 ^ 32))
  | .controlPortCommit router => decide (router < 16384)
  | .scrubVisit router => decide (router < 16384)
  | .controlWordParityError node dir _ => decide (node < 256) && decide (dir < 4)
  | .packetAgeing node dir _ cycles => decide (node < 256) && decide (dir < 4) && decide (cycles ≤ 4096)
  | .telemetryInject endpoint _ _ event => decide (endpoint < 4096) && event.all PktIn.wf
  | .faultPacket p => p.all PktIn.wf
  | .eventPacket p => p.all PktIn.wf
  | .socketStatus router _ => decide (router < 16384)
  | .unreservedUpBeat router _ => decide (router < 16384)
  | .helloRetry tile => decide (tile < 16)
  | .ident tile _ => decide (tile < 16)
  | .discoveryAck tile _ => decide (tile < 16)
  | .bootDone tile _ => decide (tile < 16)
  | .spares tile _ => decide (tile < 16)
  | .tileError tile _ => decide (tile < 16)
  | .discoveryTimeout tile => decide (tile < 16)
  | .tileSensorFrame tile _ _ => decide (tile < 16)
  | .bondTrainingDone tile cells => decide (tile < 16) && cells.all CellTrain.wf
  | .stitchTrainingDone results links _ => results.all StitchTrain.wf && links.all LinkTrain.wf
  | .consentTimeout _ => true
  | .stitchRetrain results => results.all StitchTrain.wf
  | .tileRediscovery tile cell => decide (tile < 16) && decide (cell < 1024)
  | .faultMapMerge => true
  | .partitionRelease k => decide (k < 4)
  | .hbmTraining stack _ channels => decide (stack < 8) && channels.all ChannelTrain.wf
  | .autonomousRefresh pc => decide (pc < 256)
  | .unscheduledAccess pc _ => decide (pc < 256)
  | .correctedWriteback pc => decide (pc < 256)
  | .patrolScrub pc _ => decide (pc < 256)
  | .hbmSoftRepair pc row _ => decide (pc < 256) && decide (row < 1179648)
  | .hbmTempSample stack _ => decide (stack < 8)
  | .cacheAccess => true
  | .driveCommandComplete drive _ _ _ _ => decide (drive < 8)
  | .driveCommandAbort drive _ _ => decide (drive < 8)
  | .denseRequestTimeout => true
  | .cacheCleaner => true
  | .driveFailed drive => decide (drive < 8)
  | .drivePresenceLoss drive => decide (drive < 8)
  | .ringDoorbell fn ring _ _ => decide (fn < 65) && decide (ring < 4)
  | .cqHeadDoorbell fn ring _ => decide (fn < 65) && decide (ring < 4)
  | .flushRequest fn ring => decide (fn < 65) && decide (ring < 4)
  | .flushEffect fn ring _ => decide (fn < 65) && decide (ring < 4)
  | .ringFetch fn ring _ _ => decide (fn < 65) && decide (ring < 4)
  | .ringEnable fn ring => decide (fn < 65) && decide (ring < 4)
  | .ringDisable fn ring _ => decide (fn < 65) && decide (ring < 4)
  | .nop fn ring => decide (fn < 65) && decide (ring < 4)
  | .stageStart fn _ => decide (fn < 65)
  | .stageComplete fn => decide (fn < 65)
  | .poolItem fn => decide (fn < 65)
  | .mciItem fn _ found => decide (fn < 65) && found.all DriveIn.wf
  | .runComplete fn ring _ => decide (fn < 65) && decide (ring < 4)
  | .interruptTimer fn ring => decide (fn < 65) && decide (ring < 4)
  | .functionLevelReset fn => decide (fn < 65)
  | .prioWrite fn half _ => decide (fn < 65) && decide (half < 3)
  | .mailboxGo found => found.all DriveIn.wf
  | .capture => true
  | .counterLowRead fn offset size => decide (fn < 65) && decide (offset < 2 ^ 25) && decide (size ≤ 64)
  | .evtAckWrite _ => true
  | .attentionEnableWrite fn block _ => decide (fn < 65) && decide (block < 4)
  | .dbgInject _ => true
  | .registerWrite fn offset size _ => decide (fn < 65) && decide (offset < 2 ^ 25) && decide (size ≤ 64)
  | .mciInfo q => q.wf
  | .mpReset q => q.wf
  | .notifySubscribe q => q.wf
  | .clockCorrelate q => q.wf
  | .fwInfo q => q.wf
  | .fwWrite q _ => q.wf
  | .fwVerify q => q.wf
  | .fwActivate q => q.wf
  | .fwCommit q => q.wf
  | .keyInstall q => q.wf
  | .keyRemove q => q.wf
  | .keyList q => q.wf
  | .imagePolicy q => q.wf
  | .vetReport q => q.wf
  | .vetAccept q => q.wf
  | .vetRevoke q => q.wf
  | .imageLoad q => q.wf
  | .imageLoadDone slot _ _ => decide (slot < 8)
  | .imageBind q => q.wf
  | .bindEffect k => decide (k < 4)
  | .imageUnbind q => q.wf
  | .unbindEffect k => decide (k < 4)
  | .imageEvict q => q.wf
  | .imageQuery q => q.wf
  | .partitionSetLayout q => q.wf
  | .partitionQuery q => q.wf
  | .partitionReset q => q.wf
  | .partitionResetEffect k => decide (k < 4)
  | .bufferScrub q => q.wf
  | .laneTest q => q.wf
  | .laneQuery q => q.wf
  | .hbmAssign q => q.wf
  | .hbmQuery q => q.wf
  | .denseAttach q found => q.wf && found.all DriveIn.wf
  | .denseFlush q => q.wf
  | .denseQuery q => q.wf
  | .prioritySet q => q.wf
  | .windowWrite q => q.wf
  | .windowSwitch q => q.wf
  | .windowQuery q => q.wf
  | .poolRegionCreate q => q.wf
  | .poolRegionReplace q => q.wf
  | .poolRegionDelete q => q.wf
  | .regionDeleteComplete region => decide (region < 4096)
  | .poolAccessSet q => q.wf
  | .poolQuery q => q.wf
  | .latticeConfig q => q.wf
  | .latticeQuery q => q.wf
  | .barrierPolicy q => q.wf
  | .powerCapSet q => q.wf
  | .powerQuery q => q.wf
  | .wakeLatencySet q => q.wf
  | .sensorQuery q => q.wf
  | .eventRead q => q.wf
  | .errlogRead q => q.wf
  | .errlogClear q => q.wf
  | .counterRead q => q.wf
  | .counterClear q => q.wf
  | .faultMapQuery q => q.wf
  | .replacementQuery q => q.wf
  | .replacementClear q => q.wf
  | .mctpControl medium _ src eid => decide (medium < 3) && decide (src < 256) && decide (eid < 256)
  | .spdmRequest transport src kind _ => decide (transport < 5) && decide (src < 256) && decide (kind < 7)
  | .mpWatchdog => true
  | .mpReady => true
  | .pmWatchdog _ => true
  | .mpBoot cals => cals.all CalIn.wf
  | .trialBootTimeout => true
  | .cxlMemRead pbr tag region _ => decide (pbr < 4096) && decide (tag < 65536) && region.all (fun r => decide (r < 4096))
  | .cxlMemWrite pbr tag region _ _ _ => decide (pbr < 4096) && decide (tag < 65536) && region.all (fun r => decide (r < 4096))
  | .poolMailboxCommand pbr slot _ => decide (pbr < 4096) && decide (slot < 8)
  | .fill _ _ => true
  | .copy _ _ => true
  | .compare _ _ => true
  | .reduce _ _ => true
  | .flush _ => true
  | .status _ => true
  | .lease _ => true
  | .unlease _ => true
  | .poolCommandEnd _ => true
  | .flushTokenComplete region => decide (region < 4096)
  | .flushTokenTimeout region => decide (region < 4096)
  | .leaseExpiry region => decide (region < 4096)
  | .memberLoss region _ => decide (region < 4096)
  | .rebuildStep region => decide (region < 4096)
  | .unitZeroFill unit => decide (unit < 8192)
  | .portTrainingDone port _ _ => decide (port < 12)
  | .linkId port _ => decide (port < 12)
  | .portRetrain port => decide (port < 12)
  | .retrainTimeout port => decide (port < 12)
  | .trainingRetry port => decide (port < 12)
  | .idleFlit h => h.wf
  | .nak h => h.wf
  | .win h _ _ _ => h.wf
  | .ureqRead h u => h.wf && u.wf
  | .ureqWrite h u => h.wf && u.wf
  | .ureqDelta h u => h.wf && u.wf
  | .ureqRebuild h u => h.wf && u.wf
  | .ureqCmd h u => h.wf && u.wf
  | .ureqTable h u => h.wf && u.wf
  | .ureqToken h u => h.wf && u.wf
  | .ursp h _ u => h.wf && u.wf
  | .ureqRepeat dst tag => decide (dst < 1024) && decide (tag < 65536)
  | .ackIdleTimer port => decide (port < 12)
  | .replayTimeout port => decide (port < 12)
  | .flitSlot port => decide (port < 12)
  | .arrive h port _ => h.all FlitHdr.wf && decide (port < 12)
  | .release h port _ => h.all FlitHdr.wf && decide (port < 12)
  | .releaseDelayExpiry => true
  | .barrierTimeout => true
  | .barrierLoneRelease => true
  | .treq h port _ => h.all FlitHdr.wf && decide (port < 12)
  | .tset h port _ => h.all FlitHdr.wf && decide (port < 12)
  | .join h port _ => h.all FlitHdr.wf && decide (port < 12)
  | .firstBarrierTimer => true
  | .linkFail h port _ => h.all FlitHdr.wf && decide (port < 12)
  | .lost h port _ => h.all FlitHdr.wf && decide (port < 12)
  | .policy h port _ => h.all FlitHdr.wf && decide (port < 12)
  | .windowAgeOut port _ _ => decide (port < 12)
  | .laneSleep port => decide (port < 12)
  | .laneWake port => decide (port < 12)
  | .pmControlPeriod _ => true
  | .pmThermalPeriod => true
  | .sensorSample sensor _ => decide (sensor < 128)
  | .pwrbrkAssert => true
  | .pwrbrkDeassert => true
  | .tileOvercurrent tile => decide (tile < 16)
  | .tileShutdown tile => decide (tile < 16)
  | .idleStateEntry part => decide (part < 4)
  | .idleExitComplete part => decide (part < 4)
  | .elasticOverflow buffer level => decide (buffer < 44) && decide (level ≤ 97)
  | .errlogSummaryWrite => true
  | .coreReferenceValid => true
  | .standbyPowerOff => true
  | .mpSramUncorrectable => true
  | .flitCrcFailure port _ => decide (port < 12)
  | .configurationRequest port fn _ _ => decide (port < 2) && decide (fn < 65)
  | .laneTestComplete _ cells stitch _ => cells.all CellTrain.wf && stitch.all StitchTrain.wf
  | .vddtReached tile => decide (tile < 16)
  | .dynamicAddressAssignment _ => true

end Sys2Proof
end

