-- ==== Sys2Proof/Safety.lean ====
section
/-! DEFINITION. What claims about the block are stated in: canonical memories and tables, frames over the blocks of the state,
what every effect keeps, completion, and runs without a stop. -/

namespace Sys2Proof.Machine

/-! ### Canonical forms -/

/-- The two byte memories are in their canonical form: buffer and HBM (the cache's contents lie in HBM). -/
abbrev State.MemWf (s : State) : Prop := Memory.wf s.buf.mem = true ∧ Memory.wf s.hbm.mem = true

/-- What a tick keeps of a slice line agrees with the memory: the line as the tick's writes leave it (R150, R168). -/
abbrev State.LinesHeld (s : State) : Prop := ∀ e ∈ s.buf.tickLines, Memory.line s.buf.mem (64 * e.key) = e.after.1

/-- The tables of the host side are canonical: rings, functions, vectors, counters. -/
abbrev State.HostWf (s : State) : Prop :=
  Tab.wf Ring.reset s.rings.ring = true ∧ Tab.wf Fn.reset s.rings.fn = true ∧ Tab.wf Vector.reset s.rings.vec = true ∧
  Tab.wf 0 s.counters = true

/-- The tables of the scheduled plane are canonical: partitions, slots, tiles, layout. -/
abbrev State.PlaneWf (s : State) : Prop :=
  Tab.wf Part.reset s.parts = true ∧ Tab.wf Slot.reset s.slots = true ∧ Tab.wf Tile.reset s.tiles.tile = true ∧
  Tab.wf ⟨0, 0, 0, 0⟩ s.layout = true

/-- The tables of the memories' controllers, the sensors, the ports, the regions and the compressors are canonical. -/
abbrev State.UnitWf (s : State) : Prop :=
  Tab.wf Pc.reset s.hbm.pc = true ∧ Tab.wf Stack.reset s.hbm.stack = true ∧ Tab.wf Sensor.reset s.pm.sensors = true ∧
  Tab.wf LPort.reset s.lat.port = true ∧ Tab.wf Region.reset s.pool.region = true ∧
  Tab.wf 0 s.hbm.flag = true ∧ Tab.wf Comp.reset s.comp = true ∧ Tab.wf CacheLine.reset s.dense.lines = true ∧
  Tab.wf Drive.reset s.dense.drive = true

/-- The tables of the slices are canonical: bad words, single-bit errors, counted words, index windows, accumulators. -/
abbrev State.SliceWf (s : State) : Prop :=
  Tab.wf 0 s.buf.bad = true ∧ Tab.wf 0 s.buf.single = true ∧ Tab.wf 0 s.buf.counted = true ∧
  Tab.wf IndexState.none s.buf.index = true ∧ Tab.wf FoldAcc.zero s.buf.acc = true

/-! ### Frames -/

/-- The blocks of the state: its fields. -/
inductive Block
  | clk
  | pins
  | boot
  | parts
  | layout
  | layoutPend
  | slots
  | buf
  | comp
  | ctl
  | fmap
  | hbm
  | dense
  | tiles
  | rings
  | regs
  | logs
  | win
  | lanes
  | fw
  | pm
  | lat
  | pool
  | counters
  | out
  | free
  | pending
  deriving DecidableEq, Repr

/-- A block stands as it was. -/
def Block.same (b : Block) (s t : State) : Prop := match b with
  | .clk => t.clk = s.clk
  | .pins => t.pins = s.pins
  | .boot => t.boot = s.boot
  | .parts => t.parts = s.parts
  | .layout => t.layout = s.layout
  | .layoutPend => t.layoutPend = s.layoutPend
  | .slots => t.slots = s.slots
  | .buf => t.buf = s.buf
  | .comp => t.comp = s.comp
  | .ctl => t.ctl = s.ctl
  | .fmap => t.fmap = s.fmap
  | .hbm => t.hbm = s.hbm
  | .dense => t.dense = s.dense
  | .tiles => t.tiles = s.tiles
  | .rings => t.rings = s.rings
  | .regs => t.regs = s.regs
  | .logs => t.logs = s.logs
  | .win => t.win = s.win
  | .lanes => t.lanes = s.lanes
  | .fw => t.fw = s.fw
  | .pm => t.pm = s.pm
  | .lat => t.lat = s.lat
  | .pool => t.pool = s.pool
  | .counters => t.counters = s.counters
  | .out => t.out = s.out
  | .free => t.free = s.free
  | .pending => t.pending = s.pending

/-- Nothing but the named blocks changes from s to t. -/
def Touches (bs : List Block) (s t : State) : Prop := ∀ b, b ∉ bs → b.same s t

/-- The command answers a next state t that has a property, and only the named blocks change. -/
def Does (c : Instr) (s : State) (bs : List Block) (p : State → Prop) : Prop :=
  ∃ t, exec c s = .next t ∧ p t ∧ Touches bs s t

/-- The command answers a next state t that has a property, and of the state u on its way there only the named blocks change. -/
def DoesFrom (c : Instr) (s u : State) (bs : List Block) (p : State → Prop) : Prop :=
  ∃ t, exec c s = .next t ∧ p t ∧ Touches bs u t

/-- The beat that an event takes, `lag` ticks after its arrival. -/
def eventBeat (u : State) (rd : Ready) (router lag : Nat) : Beat :=
  inputBeat (part u rd.part).pipe router (inputReg router rd.ev.inp rd.ev.out rd.ev.bsel) ((part u rd.part).ptick - lag)

/-- The same for a write, which names no output. -/
def writeBeat (u : State) (rd : Ready) (router lag : Nat) : Beat :=
  inputBeat (part u rd.part).pipe router (inputReg router rd.ev.inp 0 rd.ev.bsel) ((part u rd.part).ptick - lag)

/-- Nothing of the other partitions changes. -/
def OnlyPart (k : Nat) (s t : State) : Prop := ∀ j, j ≠ k → part t j = part s j

/-- Every byte of the buffer outside [lo, lo + n) reads as before. -/
def BufOutside (lo n : Nat) (s t : State) : Prop :=
  ∀ a, (a < lo ∨ lo + n ≤ a) → Memory.byte t.buf.mem a = Memory.byte s.buf.mem a

/-- Byte i of a line. -/
def lineByte (d : LineData) (i : Nat) : Byte := BitVec.ofNat 8 (bits d.toNat (8 * i) 8)

/-- The 64 bytes from lo are those of d where the mask says so, and as before elsewhere. -/
def BufLine (lo : Nat) (d : LineData) (mask : LineMask) (s t : State) : Prop :=
  ∀ i, i < 64 → Memory.byte t.buf.mem (lo + i) = if mask.getLsbD i then lineByte d i else Memory.byte s.buf.mem (lo + i)

/-- Every byte of HBM outside [lo, lo + n) reads as before. -/
def HbmOutside (lo n : Nat) (s t : State) : Prop :=
  ∀ a, (a < lo ∨ lo + n ≤ a) → Memory.byte t.hbm.mem a = Memory.byte s.hbm.mem a

/-- An HBM line holds data. -/
def HbmLineIs (line : Nat) (d : LineData) (t : State) : Prop :=
  ∀ i, i < 64 → Memory.byte t.hbm.mem (64 * line + i) = lineByte d i

/-- No other pseudo-channel changes. -/
def OnlyPc (n : Nat) (s t : State) : Prop := ∀ j, j ≠ n → pcOf t j = pcOf s j

/-- No other cache line changes. -/
def OnlyLine (k : Nat) (s t : State) : Prop := ∀ j, j ≠ k → cacheLine t j = cacheLine s j

/-- A dense request reads for a Bulk staging. -/
def stageReads (q : DReq) : Bool := match q.origin with
  | .stage _ _ _ => !q.write
  | _ => false

/-- No other ring changes. -/
def OnlyRing (fn ring : Nat) (s t : State) : Prop := ∀ k, k ≠ ringKey fn ring → Tab.get Ring.reset t.rings.ring k = Tab.get Ring.reset s.rings.ring k

/-- The requests of an opcode that reach the MP's execution: the transport is served and nothing of R359 refuses them. -/
abbrev Serves (op : Nat) (lenOk paramOk : Bool) (q : MciReq) (s : State) : Prop :=
  mciServed s q.who = true ∧ mciRefusal s op lenOk paramOk q = none

/-- From s to t an output was sent. -/
abbrev Sent (o : Output) (s t : State) : Prop := o ∈ t.out.drop s.out.length

/-- From s to t a request was answered with a status, DETAIL, and parameters. -/
abbrev Answered (op : Nat) (q : MciReq) (status detail rlen params : Nat) (s t : State) : Prop :=
  Sent (.mciResponse q.who op q.tag status detail rlen params) s t

/-- A flit with a SEQ is accepted: its port is UP, its CRC holds, and its SEQ is the expected one (R466). -/
abbrev InOrder (h : FlitHdr) (s : State) : Prop :=
  portUp s h.port = true ∧ injectHits s 5 h.port = false ∧ h.seq = (latPort s h.port).expected

/-- The state after the link layer has taken such a flit: its acknowledgement and credits, a credit to return, the next
expected SEQ (R466, R467, R469). -/
def flitTaken (h : FlitHdr) (s : State) : State :=
  updPort h.port (fun y => { y with
    owed := Tab.upd 0 y.owed h.vc (fun n => n + 1), expected := y.expected + 1, accepted := true, nakSent := none
    ackDue := true }) (takeHeader h s)

/-- A control message is accepted: with the header of its flit, or as a later message of an accepted flit (R464, R466). -/
abbrev CtrlIn (h : Option FlitHdr) (port : Nat) (s : State) : Prop := (match h with
  | some x => decide (InOrder { x with port := port } s)
  | none => portUp s port) = true

/-- The state after the link layer has taken it. -/
def ctrlTaken (h : Option FlitHdr) (port : Nat) (s : State) : State := match h with
  | some x => flitTaken { x with port := port } s
  | none => s

/-- The answer to a request of another module, as it goes out and is kept for repeats (R463). -/
abbrev Responded (h : FlitHdr) (uop nl poison status body : Nat) (u : UnschIn) (t : State) : Prop :=
  (t.lat.kept.head?.map fun k => (k.1, k.2.1, k.2.2.1)) =
    some (h.src, u.tag, (⟨4, 5, self t, h.src, 0, 0, unschedPayload uop u.tag u.region nl poison u.off status body⟩ : Flit))

/-- A request for this module that is new: neither answered before, unless the answer has aged out, nor being worked on (R463). -/
abbrev NewReq (h : FlitHdr) (u : UnschIn) (s : State) : Prop :=
  h.dst = self s ∧ (s.lat.kept.any fun k => k.1 == h.src && k.2.1 == u.tag && !keptStale s u.tag k) = false ∧ reqBusy s h.src u.tag = false

/-- This module's unprotected region serves a local offset from an HBM line (R422). -/
abbrev HereAt (region off line : Nat) (s : State) : Prop :=
  (regionOf s region).prot = 0 ∧ (regionOf s region).served = true ∧ (regionOf s region).lost = none ∧
  (regionOf s region).members = [self s] ∧ placeOf (regionOf s region) off = some (.hbm line)

/-- No rebuild holds the stripe at an offset (R443). -/
abbrev NotRebuilt (region off : Nat) (s : State) : Prop :=
  (s.pool.accs.any fun b => b.for_ == .rebuild region && b.off == off) = false

/-- An access of the pool waits at the pseudo-channel of an HBM line (R429). -/
abbrev Queued (line : Nat) (write : Bool) (d : LineData) (poison : Bool) (s t : State) : Prop :=
  (pcOf t (line / pcLines)).queue = (pcOf s (line / pcLines)).queue ++ [⟨line, write, d, poison, .pool s.pool.nextId⟩] ∧
  OnlyPc (line / pcLines) s t

/-- Every byte of an HBM unit reads zero, and every other byte of HBM as before. -/
def UnitZeroed (u : Nat) (s t : State) : Prop :=
  ∀ a, Memory.byte t.hbm.mem a =
    if a / 1207959552 / 32 = u / 36 ∧ unitOfStripe (a % 1207959552 / 64 / 64) = u % 36 then 0 else Memory.byte s.hbm.mem a

/-- The completion entry that the ring engine writes for a ring as it stands, at its address (R310, R334, R337, R339). -/
def ringEntry (fn ring : Nat) (r : Ring) (seq user : BitVec 32) (frame : Nat) (d : Done) : Output :=
  .completion fn ring (r.writes % r.cqSize)
    (r.regs.cqBase.toNat + 32 * (r.writes % r.cqSize))
    (completionEntry seq d.status ((1 - (r.writes / r.cqSize) % 2) == 1) d.poison d.result d.aux user r.head r.epoch frame d.endf)

/-! ### Which commands may change contents -/

/-- The command may change a byte of the buffer: the tick's accesses, control-port accesses, the zeroing after
training, the loss of standby power; with them whatever may carry a waiting boundary's tick to its end (R80, R150, R345, Table 17.2,
Table 17.4). -/
def mayStoreBuffer : Instr → Bool
  | .perst1Assert | .portReset _ | .throttleBoundary | .crumb | .frameBoundary | .barrierHold | .refreshLane _ _
  | .readWindowCell _ _ _ | .writeWindowCell _ _ | .rowSwitchGap _ _ | .eventLink _ _ | .scheduledRead _
  | .scheduledWrite _ | .indexLoad _ | .gather _ | .scatter _ | .dispatch _ | .dispatchResultWrite _ _ | .foldStep _
  | .rng _ | .update _ | .branchRead _ | .frameBudgetExhausted _ | .hostTransferBeat _ _ _ | .residualReturn _
  | .compressedRecordHandover _ | .latticeWindowEntry _ _ _ | .latticeWindowPresent _ _ _ | .controlPortCommit _
  | .scrubVisit _ | .bondTrainingDone _ _ | .stitchTrainingDone _ _ _ | .stitchRetrain _ | .mciItem _ _ _
  | .mailboxGo _ | .bindEffect _ | .unbindEffect _ | .partitionResetEffect _ | .windowSwitch _ | .releaseDelayExpiry
  | .barrierLoneRelease | .standbyPowerOff | .configurationRequest _ _ _ _ => true
  | _ => false

/-- The command may change a byte of HBM: window writes, served requests, zero-fill, a cold reset, the loss of power (R278, R281, R422, Table 17.4). -/
def mayStoreHbm : Instr → Bool
  | .perstDeassert _ _ | .resetHoldExpiry | .writeWindowCell _ _ | .unscheduledAccess _ _ | .unitZeroFill _
  | .standbyPowerOff => true
  | _ => false

/-- The command may change which blocks the dense tier's cache holds, or their marks: requests, drive commands, the cleaner,
flushes, attachment, roles, zero-fill, resets (R293 to R299, Table 17.4). -/
def mayChangeLines : Instr → Bool
  | .inputOutOfRange _ | .coreReferenceStop | .clockLoss | .thermalTrip _ | .perstAssert | .deviceReady _
  | .moduleReset _ | .unscheduledAccess _ _ | .cacheAccess | .driveCommandComplete _ _ _ _ _ | .driveCommandAbort _ _ _
  | .denseRequestTimeout | .cacheCleaner | .driveFailed _ | .drivePresenceLoss _ | .mciItem _ _ _ | .mailboxGo _
  | .hbmAssign _ | .denseAttach _ _ | .denseFlush _ | .flush _ | .status _ | .lease _ | .unlease _ | .unitZeroFill _
  | .ureqToken _ _ | .standbyPowerOff => true
  | _ => false

/-- The command may change a window table in force: switches, the clearing of VF Enable, resets (R390, R399, Table 17.4). -/
def maySwitchWindows : Instr → Bool
  | .inputOutOfRange _ | .coreReferenceStop | .clockLoss | .thermalTrip _ | .perstAssert | .perst1Assert | .portReset _
  | .moduleReset _ | .mciItem _ _ _ | .mailboxGo _ | .windowSwitch _ | .standbyPowerOff | .configurationRequest _ _ _ _ => true
  | _ => false

/-- The command may change the partition layout in force: frame boundaries and resets (R129, Table 17.4). -/
def maySwitchLayout : Instr → Bool
  | .inputOutOfRange _ | .coreReferenceStop | .clockLoss | .thermalTrip _ | .perstAssert | .perst1Assert | .portReset _
  | .moduleReset _ | .throttleBoundary | .crumb | .frameBoundary | .barrierHold | .frameBudgetExhausted _
  | .residualReturn _ | .compressedRecordHandover _ | .controlPortCommit _ | .scrubVisit _ | .bondTrainingDone _ _
  | .stitchTrainingDone _ _ _ | .stitchRetrain _ | .mciItem _ _ _ | .mailboxGo _ | .bindEffect _ | .unbindEffect _
  | .partitionResetEffect _ | .windowSwitch _ | .releaseDelayExpiry | .barrierLoneRelease | .standbyPowerOff
  | .configurationRequest _ _ _ _ => true
  | _ => false

/-! ### The tables of the whole state -/

/-- Every table that the state holds is canonical. -/
structure State.TabsWf (s : State) : Prop where
  host : s.HostWf
  plane : s.PlaneWf
  unit : s.UnitWf
  slice : s.SliceWf
  fwSlots : Tab.wf FwSlot.reset s.fw.slots = true
  imageKeys : Tab.wf none s.fw.imageKeys = true
  tileKeys : Tab.wf none s.fw.tileKeys = true
  minSvn : Tab.wf 0 s.fw.minSvn = true
  tileSvn : Tab.wf 0 s.fw.tileSvn = true
  eid : Tab.wf 0 s.fw.eid = true
  spdm : Tab.wf 0 s.fw.spdm = true
  role : Tab.wf 0 s.hbm.role = true
  rsvd : Tab.wf 0 s.regs.rsvd = true
  mbxWindow : Tab.wf 0 s.regs.mbxWindow = true
  laneStatus : Tab.wf 0 s.lanes.status = true
  treqs : Tab.wf 0 s.lat.treqs = true
  floods : Tab.wf 0 s.lat.floods = true
  ownFlood : Tab.wf 0 s.lat.ownFlood = true
  cluster : Tab.wf 2 s.fmap.cluster = true
  stitch : Tab.wf 2 s.fmap.stitch = true
  pendCluster : Tab.wf 2 s.fmap.pendCluster = true
  pendStitch : Tab.wf 2 s.fmap.pendStitch = true
  ctlLast : Tab.wf 0 s.buf.ctlLast = true
  scrubPos : Tab.wf 0 s.buf.scrubPos = true
  scrubLast : Tab.wf 0 s.buf.scrubLast = true
  inject : Tab.wf 0 s.ctl.inject = true
  heldEvent : Tab.wf none s.ctl.heldEvent = true
  eventsLost : Tab.wf 0 s.ctl.eventsLost = true
  resends : Tab.wf 0 s.ctl.resends = true
  overLast : Tab.wf 0 s.pm.overLast = true
  lowSince : Tab.wf 0 s.pm.lowSince = true
  mail : Tab.wf MailSlot.reset s.pool.slots = true
  inForce : Tab.wf WinTable.empty s.win.inForce = true
  shadow : Tab.wf WinTable.empty s.win.shadow = true
  noted : Tab.wf 0 s.win.noted = true
  healing : Tab.wf 0 s.dense.healing = true
  idleOps : Tab.wf 0 s.buf.idleOps = true
  discards : Tab.wf 0 s.buf.discards = true
  channels : Tab.wf [] s.ctl.vc = true
  sensorCal : Tab.wf 0 s.pm.cal = true
  trims : Tab.wf 0 s.pm.trims = true

/-! ### What every effect keeps -/

/-- The queue, the canonical memories, and all that was sent before stay from s to t. -/
structure Keeps (s t : State) : Prop where
  pending : t.pending = s.pending
  mem : s.MemWf → t.MemWf
  out : ∃ l, t.out = s.out ++ l

/-- The command answers a next state. -/
def Completes (i : Instr) (s : State) : Prop := ∃ t, exec i s = .next t

/-- n steps without a fault or a refusal. -/
def SafeFor : Nat → State → Prop
  | 0, _ => True
  | n + 1, s => ∃ t, step s = .next t ∧ SafeFor n t

end Sys2Proof.Machine
end

