-- ==== Sys2Proof/Certificates/Slice0/Obligations.lean ====
section
/-! DEFINITION. The statements about the block: commands and their effects, and what every step keeps. -/

open Sys2Proof Sys2Proof.Machine

/-- The inputs of R555 to R558 and R657. R639, R649 and the flash and fuse row of Table 17.4. -/
def Obligations.PowerInputs : Prop :=
  (∀ s : State,
    s.pins.standby = false →
    Does .standbyPowerOn s [.pins, .clk, .boot, .pm] fun t =>
      t.pins.standby = true ∧ t.boot.pm = PmState.bootRom ∧ t.boot.regs = 1 ∧ t.clk.refValid = true ∧ t.clk.setting = Pm.slow ∧
      t.pm.brakeReg = Pm.slow ∧ t.pins.alert = false ∧ t.pins.thermtrip = false) ∧
  (∀ (h : BitVec 8) (s : State),
    s.pins.standby = true →
    s.boot.tripped = false →
    Does (.mainInputOn h) s [.pins, .boot] fun t =>
      t.pins.main = true ∧ t.pins.hbmIn = h ∧ t.boot.regs = 31) ∧
  (∀ (h : BitVec 8) (s : State),
    s.pins.standby = true →
    s.boot.tripped = true →
    baseCool s = false →
    Does (.mainInputOn h) s [.pins, .boot] fun t =>
      t.pins.main = true ∧ t.boot.regs = s.boot.regs ∧ t.boot.tripped = true) ∧
  (∀ (u : Nat) (s : State),
    s.pins.standby = true →
    u < 9 →
    inputInRange s.pins u = true →
    s.pins.perst = false →
    Does (.inputOutOfRange u) s [.clk, .pins, .boot, .parts, .layout, .layoutPend, .slots, .buf, .comp, .ctl, .fmap, .hbm, .dense, .tiles, .rings, .regs, .logs, .win, .lanes, .fw, .pm, .lat, .pool, .counters, .out] fun t =>
      t.pins.alert = true ∧ t.boot.nextCold = true ∧ inputInRange t.pins u = false ∧
      t.clk.stopped = true ∧ t.clk.tick = s.clk.tick ∧ t.clk.wallPs = s.clk.wallPs ∧ t.parts = [] ∧ t.slots = [] ∧ t.rings = Rings.reset ∧
      t.win = Windows.reset ∧ t.tiles = Tiles.reset ∧ t.boot.mp = MpState.off ∧ t.boot.ready = false ∧
      t.buf.mem = s.buf.mem ∧ t.hbm.mem = s.hbm.mem ∧ t.hbm.role = s.hbm.role ∧ t.lanes.assembly = s.lanes.assembly ∧
      t.lanes.field = s.lanes.field ∧ t.fw.slots = s.fw.slots ∧ t.lat.cfg = s.lat.cfg) ∧
  (∀ (u : Nat) (s : State),
    s.pins.standby = true →
    0 < u →
    u < 9 →
    inputInRange s.pins u = true →
    s.pins.perst = true →
    Does (.inputOutOfRange u) s [.pins, .boot, .logs] fun t =>
      t.boot.nextCold = true ∧ inputInRange t.pins u = false ∧ t.logs.power.isSome = true ∧ t.pins.alert = s.pins.alert) ∧
  (∀ s : State,
    s.pins.standby = true →
    Does .standbyPowerOff s [.clk, .pins, .boot, .parts, .layout, .layoutPend, .slots, .buf, .comp, .ctl, .fmap, .hbm, .dense, .tiles, .rings, .regs, .logs, .win, .lanes, .fw, .pm, .lat, .pool, .counters, .out] fun t =>
      t.pins.standby = false ∧ t.pins.alert = false ∧ t.pins.thermtrip = false ∧ t.clk.pll = false ∧ t.clk.refValid = false ∧
      t.boot.pm = PmState.off ∧ t.boot.mp = MpState.off ∧ t.boot.coldStarts = s.boot.coldStarts ∧ t.lanes.assembly = s.lanes.assembly ∧
      t.lanes.field = s.lanes.field ∧ t.fw.slots = s.fw.slots ∧ t.hbm.role = s.hbm.role ∧ t.lat.cfg = s.lat.cfg ∧
      t.logs.flash = s.logs.flash ∧ t.logs.power = none)

/-- R38, R41, R44, R652; R568 for the runs. -/
def Obligations.ClocksStartAndStop : Prop :=
  (∀ s : State,
    s.clk.pll = false →
    s.clk.refValid = true →
    s.boot.regs = 31 →
    s.boot.tripped = false →
    s.boot.clockLost = false →
    Does .rootPllLock s [.clk] fun t =>
      t.clk.pll = true ∧ t.clk.pSource = 2 ∧ t.clk.tick = (if s.boot.nextCold then 0 else s.clk.tick) ∧ t.clk.wallPs = s.clk.wallPs) ∧
  (∀ s : State,
    s.clk.pll = true →
    Does .clockLoss s [.clk, .pins, .boot, .parts, .layout, .layoutPend, .slots, .buf, .comp, .ctl, .fmap, .hbm, .dense, .tiles, .rings, .regs, .logs, .win, .lanes, .fw, .pm, .lat, .pool, .counters, .out] fun t =>
      t.clk.pll = false ∧ t.clk.pSource = 1 ∧ t.pins.alert = true ∧ t.boot.clockLost = true ∧ t.boot.nextCold = true ∧ t.logs.power.isSome = true ∧
      t.clk.stopped = true ∧ t.clk.tick = s.clk.tick ∧ t.clk.wallPs = s.clk.wallPs ∧ t.parts = [] ∧ t.slots = [] ∧ t.rings = Rings.reset ∧
      t.win = Windows.reset ∧ t.tiles = Tiles.reset ∧ t.boot.mp = MpState.off ∧ t.boot.ready = false ∧
      t.buf.mem = s.buf.mem ∧ t.hbm.mem = s.hbm.mem ∧ t.hbm.role = s.hbm.role ∧ t.lanes.assembly = s.lanes.assembly ∧
      t.lanes.field = s.lanes.field ∧ t.fw.slots = s.fw.slots ∧ t.lat.cfg = s.lat.cfg) ∧
  (∀ s : State,
    s.pins.standby = true →
    s.clk.refValid = true →
    s.clk.pll = true →
    Does .coreReferenceStop s [.clk, .pins, .boot, .parts, .layout, .layoutPend, .slots, .buf, .comp, .ctl, .fmap, .hbm, .dense, .tiles, .rings, .regs, .logs, .win, .lanes, .fw, .pm, .lat, .pool, .counters, .out] fun t =>
      t.clk.refValid = false ∧ t.clk.pll = false ∧ t.clk.pSource = 3 ∧ t.pins.alert = true ∧ t.boot.clockLost = true ∧ t.boot.nextCold = true ∧
      t.clk.stopped = true ∧ t.clk.tick = s.clk.tick ∧ t.clk.wallPs = s.clk.wallPs ∧ t.parts = [] ∧ t.slots = [] ∧ t.rings = Rings.reset ∧
      t.win = Windows.reset ∧ t.tiles = Tiles.reset ∧ t.boot.mp = MpState.off ∧ t.boot.ready = false ∧
      t.buf.mem = s.buf.mem ∧ t.hbm.mem = s.hbm.mem ∧ t.hbm.role = s.hbm.role ∧ t.lanes.assembly = s.lanes.assembly ∧
      t.lanes.field = s.lanes.field ∧ t.fw.slots = s.fw.slots ∧ t.lat.cfg = s.lat.cfg) ∧
  (∀ s : State,
    s.pins.standby = true →
    s.clk.refValid = true →
    s.clk.pll = false →
    Does .coreReferenceStop s [.clk, .boot, .pm] fun t =>
      t.clk.refValid = false ∧ t.clk.pSource = 3) ∧
  (∀ s : State,
    s.pins.standby = true →
    s.clk.refValid = false →
    s.pins.perst = false →
    Does .coreReferenceValid s [.clk] fun t =>
      t.clk.refValid = true ∧ t.clk.pSource = 1) ∧
  (∀ s : State,
    s.pins.standby = true →
    s.clk.refValid = false →
    s.pins.perst = true →
    Does .coreReferenceValid s [.clk, .boot, .pins] fun t =>
      t.clk.refValid = true ∧ t.clk.pSource = 1 ∧ t.boot.clockLost = false)

/-- R529, R568, R646, R654. -/
def Obligations.TripStops : Prop :=
  (∀ (i : Nat) (s : State),
    i < 128 →
    s.boot.pm ≠ .off →
    s.boot.tripped = false →
    3 ≤ (sensorOf s i).hot →
    Does (.thermalTrip i) s [.clk, .pins, .boot, .parts, .layout, .layoutPend, .slots, .buf, .comp, .ctl, .fmap, .hbm, .dense, .tiles, .rings, .regs, .logs, .win, .lanes, .fw, .pm, .lat, .pool, .counters, .out] fun t =>
      t.boot.tripped = true ∧ t.pins.thermtrip = true ∧ t.pins.alert = true ∧ t.boot.regs = s.boot.regs &&& 1 ∧ t.clk.pll = false ∧
      t.boot.nextCold = true ∧
      t.clk.stopped = true ∧ t.clk.tick = s.clk.tick ∧ t.clk.wallPs = s.clk.wallPs ∧ t.parts = [] ∧ t.slots = [] ∧ t.rings = Rings.reset ∧
      t.win = Windows.reset ∧ t.tiles = Tiles.reset ∧ t.boot.mp = MpState.off ∧ t.boot.ready = false ∧
      t.buf.mem = s.buf.mem ∧ t.hbm.mem = s.hbm.mem ∧ t.hbm.role = s.hbm.role ∧ t.lanes.assembly = s.lanes.assembly ∧
      t.lanes.field = s.lanes.field ∧ t.fw.slots = s.fw.slots ∧ t.lat.cfg = s.lat.cfg)

/-- R566, R567 and Table 17.4. -/
def Obligations.ResetEntered : Prop :=
  (∀ s : State,
    s.pins.standby = true →
    s.pins.perst = false →
    Does .perstAssert s [.clk, .pins, .boot, .parts, .layout, .layoutPend, .slots, .buf, .comp, .ctl, .fmap, .hbm, .dense, .tiles, .rings, .regs, .logs, .win, .lanes, .fw, .pm, .lat, .pool, .counters, .out] fun t =>
      t.pins.perst = true ∧ t.win.gen = 1 ∧ t.clk.refTime = s.clk.refTime ∧
      t.clk.stopped = true ∧ t.clk.tick = s.clk.tick ∧ t.clk.wallPs = s.clk.wallPs ∧ t.parts = [] ∧ t.slots = [] ∧ t.rings = Rings.reset ∧
      t.win = Windows.reset ∧ t.tiles = Tiles.reset ∧ t.boot.mp = MpState.off ∧ t.boot.ready = false ∧
      t.buf.mem = s.buf.mem ∧ t.hbm.mem = s.hbm.mem ∧ t.hbm.role = s.hbm.role ∧ t.lanes.assembly = s.lanes.assembly ∧
      t.lanes.field = s.lanes.field ∧ t.fw.slots = s.fw.slots ∧ t.lat.cfg = s.lat.cfg) ∧
  (∀ (q : MciReq) (s : State),
    mciServed s q.who = true →
    mciRefusal s 0x0A01 (q.plen == 8) (reservedClear (mciParams q) [(0, 2)] && decide (bits (mciParams q) 0 2 ≤ 1)) q = none →
    Does (.moduleReset q) s [.clk, .pins, .boot, .parts, .layout, .layoutPend, .slots, .buf, .comp, .ctl, .fmap, .hbm, .dense, .tiles, .rings, .regs, .logs, .win, .lanes, .fw, .pm, .lat, .pool, .counters, .out] fun t =>
      t.boot.hold = some (bits (mciParams q) 0 2) ∧ t.win.gen = 1 ∧ (bits (mciParams q) 0 2 = 1 → t.boot.nextCold = true) ∧
      t.clk.stopped = true ∧ t.parts = [] ∧ t.rings = Rings.reset ∧ t.boot.mp = MpState.off ∧ t.boot.ready = false ∧
      t.buf.mem = s.buf.mem ∧ t.hbm.mem = s.hbm.mem ∧ t.fw.slots = s.fw.slots)

/-- R557, R559, R567; Table 17.4 for what a cold and a warm start keep. That the start begins at once and links train with it is log entry 63. -/
def Obligations.StartBegins : Prop :=
  (∀ (p : BitVec 5) (d : BitVec 8) (s : State),
    s.pins.perst = true →
    canStart s = true →
    Does (.perstDeassert p d) s [.clk, .boot, .pins, .lanes, .pm, .hbm, .pool, .fmap, .lat, .fw, .counters, .logs] fun t =>
      t.pins.perst = false ∧ t.pins.straps = p ∧ t.boot.starting = true ∧ t.boot.mp = MpState.bootRom ∧ t.clk.stopped = false ∧ t.boot.cold = s.boot.nextCold ∧
      (s.boot.nextCold = true → t.clk.tick = 0 ∧ (s.boot.begun = true → t.clk.refTime = 0) ∧ (s.boot.begun = false → t.clk.refStart = s.clk.refStart) ∧ t.boot.coldStarts = s.boot.coldStarts + 1) ∧
      (s.boot.nextCold = false → t.clk.tick = s.clk.tick ∧ t.hbm.mem = s.hbm.mem ∧ t.counters = s.counters ∧ t.logs = s.logs)) ∧
  (∀ (p : BitVec 5) (d : BitVec 8) (s : State),
    s.pins.standby = true →
    s.pins.perst = true →
    canStart s = false →
    Does (.perstDeassert p d) s [.pins] fun t =>
      t.pins.perst = false ∧ t.pins.straps = p) ∧
  (∀ s : State,
    s.boot.hold.isSome = true →
    s.pins.perst = false →
    canStart s = true →
    Does .resetHoldExpiry s [.clk, .boot, .pins, .lanes, .pm, .hbm, .pool, .fmap, .lat, .fw, .counters, .logs] fun t =>
      t.pins.straps = s.pins.straps ∧ t.boot.starting = true ∧ t.boot.hold = none ∧ t.boot.mp = MpState.bootRom ∧ t.clk.stopped = false)

/-- R341, R561, R569, R645, R648, R655. -/
def Obligations.PortsReset : Prop :=
  (∀ s : State,
    s.clk.stopped = false →
    s.HostWf →
    s.clk.frameDone = true →
    Does (.portReset 0) s [.boot, .rings, .regs, .parts, .counters, .win, .out] fun t =>
      t.boot.vfEnable = false ∧ (∀ f, f < 64 → ∀ r, r < 4 → (ringOf t f r).regs.enabled = false ∧ (ringOf t f r).epoch = 0) ∧
      (∀ r, r < 4 → ringOf t 64 r = ringOf s 64 r) ∧ (∀ f, f < 64 → 1 ≤ f → winTable t f = WinTable.empty) ∧ winTable t 64 = winTable s 64) ∧
  (∀ s : State,
    s.clk.stopped = false →
    s.HostWf →
    s.clk.frameDone = false →
    Does (.portReset 0) s [.clk, .boot, .parts, .layout, .layoutPend, .slots, .buf, .comp, .ctl, .hbm, .tiles, .rings, .regs, .logs, .win, .lat, .pool, .counters, .out] fun t =>
      t.boot.vfEnable = false ∧ (∀ f, f < 64 → ∀ r, r < 4 → (ringOf t f r).regs.enabled = false ∧ (ringOf t f r).epoch = 0) ∧
      (∀ f, f < 64 → 1 ≤ f → winTable t f = WinTable.empty) ∧ winTable t 64 = winTable s 64 ∧ t.pool = s.pool) ∧
  (∀ s : State,
    s.clk.stopped = false →
    s.HostWf →
    Does (.portReset 1) s [.rings, .regs, .parts, .counters, .pool] fun t =>
      (∀ r, r < 4 → (ringOf t 64 r).regs.enabled = false) ∧ (∀ f, f < 64 → ∀ r, r < 4 → ringOf t f r = ringOf s f r) ∧ t.pool.region = s.pool.region) ∧
  (∀ s : State,
    s.pins.standby = true →
    s.pins.perst1 = false →
    s.clk.stopped = false →
    Does .perst1Assert s [.pins, .boot, .rings, .regs, .parts, .counters, .pool] fun t =>
      t.pins.perst1 = true ∧ t.boot.linkUp1 = false ∧ t.boot.linkUp0 = s.boot.linkUp0 ∧ (∀ f, f < 64 → ∀ r, r < 4 → ringOf t f r = ringOf s f r)) ∧
  (∀ s : State,
    s.pins.standby = true →
    s.pins.perst1 = true →
    s.pins.perst = false →
    Does .perst1Deassert s [.pins, .boot, .out] fun t =>
      t.pins.perst1 = false ∧ t.boot.linkUp1 = s.boot.steps.getLsbD 1) ∧
  (∀ (p f : Nat) (c v : Bool) (s : State),
    (if p = 0 then s.boot.linkUp0 else p == 1 && s.boot.linkUp1) = true →
    s.boot.ready = false →
    Does (.configurationRequest p f c v) s [.out] fun t =>
      t.out = s.out ++ [Output.cfgCompletion p f 1]) ∧
  (∀ (s : State),
    s.boot.linkUp0 = true →
    s.boot.ready = true →
    s.boot.mp ≠ .recovery →
    Does (.configurationRequest 0 0 false true) s [.boot, .out] fun t =>
      t.out = s.out ++ [Output.cfgCompletion 0 0 0] ∧ t.boot.vfEnable = true) ∧
  (∀ (s : State),
    s.boot.linkUp0 = true →
    s.boot.ready = true →
    s.HostWf →
    s.clk.frameDone = true ∨ tickRuns s = false →
    Does (.configurationRequest 0 0 true false) s [.boot, .out, .rings, .regs, .parts, .win] fun t =>
      t.boot.vfEnable = false ∧ (∀ f, f < 64 → 1 ≤ f → winTable t f = WinTable.empty) ∧ (∀ r, r < 4 → ringOf t 0 r = ringOf s 0 r)) ∧
  (∀ (s : State),
    s.boot.linkUp0 = true →
    s.boot.ready = true →
    s.HostWf →
    s.clk.frameDone = false →
    tickRuns s = true →
    Does (.configurationRequest 0 0 true false) s [.clk, .boot, .parts, .layout, .layoutPend, .slots, .buf, .comp, .ctl, .hbm, .tiles, .rings, .regs, .logs, .win, .lat, .counters, .out] fun t =>
      t.boot.vfEnable = false ∧ (∀ f, f < 64 → 1 ≤ f → winTable t f = WinTable.empty) ∧ (∀ f, f < 64 → 1 ≤ f → ∀ r, r < 4 → (ringOf t f r).regs.enabled = false)) ∧
  (∀ (a : BitVec 7) (s : State),
    mciServed s (whoMctp 1 0) = true →
    Does (.dynamicAddressAssignment a) s [.pins] fun t =>
      t.pins.i3cDyn = some a)

/-- R143, R145, R146, R171; the breach of R112. -/
def Obligations.MeshLinks : Prop :=
  (∀ (e : EvRef) (rd : Ready) (noise : List LinkNoise) (s : State),
    readyEvent s e kLink = some rd →
    (advance rd.wait s).PlaneWf →
    let b := (eventBeat (advance rd.wait s) rd e.router (linkLag e.router rd.ev)); b.valid = true ∧ b.parityOk = true →
    DoesFrom (.eventLink e noise) s (advance rd.wait s) [.parts, .out] fun t =>
      (let b := (eventBeat (advance rd.wait s) rd e.router (linkLag e.router rd.ev)); t.out = (advance rd.wait s).out ++ edgeOutputs e.router rd.ev.out b ∧
      (part t rd.part).pipe = sendPorts rd.rect e.router rd.ev.inp rd.ev.out rd.ev.bsel (noisyBeat noise b) (part (advance rd.wait s) rd.part).ptick (part (advance rd.wait s) rd.part).pipe) ∧
      OnlyPart rd.part (advance rd.wait s) t) ∧
  (∀ (e : EvRef) (rd : Ready) (noise : List LinkNoise) (s : State),
    readyEvent s e kLink = some rd →
    (advance rd.wait s).PlaneWf →
    partOf (advance rd.wait s) e.router = some rd.part →
    let b := (eventBeat (advance rd.wait s) rd e.router (linkLag e.router rd.ev)); b.valid = true ∧ b.parityOk = false →
    (advance rd.wait s).ctl.faultQ.length < 256 →
    DoesFrom (.eventLink e noise) s (advance rd.wait s) [.parts, .ctl, .out] fun t =>
      (part t rd.part).holdPend = true ∧ t.ctl.faultQ = (advance rd.wait s).ctl.faultQ ++ [(⟨0x4003, 4, e.router, none, controlNode e.router, controlSub e.router⟩ : FaultPkt)] ∧
      t.out = (advance rd.wait s).out ++ edgeOutputs e.router rd.ev.out (Beat.of (eventBeat (advance rd.wait s) rd e.router (linkLag e.router rd.ev)).data true) ∧
      OnlyPart rd.part (advance rd.wait s) t) ∧
  (∀ (router port k : Nat) (s : State),
    s.PlaneWf →
    partOf s router = some k →
    (inputBeat (part s k).pipe router port (part s k).ptick).valid = true →
    inputNamed s k router port = false →
    sealedInput (rect s k) router port = true →
    Does (.beatDiscard router port) s [.parts] fun t =>
      (inputBeat (part t k).pipe router port (part t k).ptick).valid = false ∧ (part t k).holdPend = (part s k).holdPend ∧ OnlyPart k s t) ∧
  (∀ (router port k : Nat) (s : State),
    s.PlaneWf →
    partOf s router = some k →
    (inputBeat (part s k).pipe router port (part s k).ptick).valid = true →
    inputNamed s k router port = false →
    sealedInput (rect s k) router port = false →
    s.ctl.faultQ.length < 256 →
    Does (.beatDiscard router port) s [.parts, .buf, .ctl] fun t =>
      (Tab.wf 0 s.buf.discards = true → Tab.get 0 t.buf.discards router = Tab.get 0 s.buf.discards router + 1) ∧ t.buf.mem = s.buf.mem ∧ (inputBeat (part t k).pipe router port (part t k).ptick).valid = false ∧ (part t k).holdPend = true ∧
      t.ctl.faultQ = s.ctl.faultQ ++ [(⟨0x4004, 4, router, none, controlNode router, controlSub router⟩ : FaultPkt)] ∧ OnlyPart k s t)

/-- R81, R93, R94, R174, R175, R177. -/
def Obligations.SliceReads : Prop :=
  (∀ (e : EvRef) (rd : Ready) (s : State),
    readyEvent s e kRead = some rd →
    (advance rd.wait s).PlaneWf →
    leaderOf (part (advance rd.wait s) rd.part) e.router (rd.line e) rd.ev.ctx = none →
    DoesFrom (.scheduledRead e) s (advance rd.wait s) [.parts, .buf, .ctl, .regs, .counters] fun t =>
      (inputBeat (part t rd.part).pipe e.router portSlice ((part (advance rd.wait s) rd.part).ptick + 2)) = (schedRead e.router (rd.line e) (advance rd.wait s)).1 ∧ t.buf.mem = (advance rd.wait s).buf.mem ∧ OnlyPart rd.part (advance rd.wait s) t) ∧
  (∀ (e : EvRef) (rd : Ready) (m : MergeRead) (s : State),
    readyEvent s e kRead = some rd →
    (advance rd.wait s).PlaneWf →
    leaderOf (part (advance rd.wait s) rd.part) e.router (rd.line e) rd.ev.ctx = some m →
    m.beat.valid = true →
    (advance rd.wait s).HostWf →
    DoesFrom (.scheduledRead e) s (advance rd.wait s) [.parts, .counters] fun t =>
      (inputBeat (part t rd.part).pipe e.router portSlice ((part (advance rd.wait s) rd.part).ptick + 2)) = m.beat ∧ counter t 0x0103 e.router = counterAdd 0x0103 (counter (advance rd.wait s) 0x0103 e.router) 1 ∧ OnlyPart rd.part (advance rd.wait s) t) ∧
  (∀ (e : EvRef) (rd : Ready) (w : IndexWindow) (s : State),
    readyEvent s e kIndexLoad = some rd →
    (advance rd.wait s).PlaneWf →
    rd.image.window e.router rd.ev.arg = some w →
    DoesFrom (.indexLoad e) s (advance rd.wait s) [.parts, .buf, .ctl, .regs, .counters] fun t =>
      Tab.get IndexState.none t.buf.index (windowKey e.router w.id) =
        (⟨(schedRead e.router (w.indexLine + if w.ctx then rd.image.ctxBase e.router rd.ctx else 0) (advance rd.wait s)).1.data, 0⟩ : IndexState) ∧
      t.buf.mem = (advance rd.wait s).buf.mem ∧ OnlyPart rd.part (advance rd.wait s) t ∧
      (part t rd.part).pipe.arrivals = (part (advance rd.wait s) rd.part).pipe.arrivals ∧ (part t rd.part).run = (part (advance rd.wait s) rd.part).run) ∧
  (∀ (e : EvRef) (rd : Ready) (w : IndexWindow) (l : Nat) (s : State),
    readyEvent s e kGather = some rd →
    (advance rd.wait s).PlaneWf →
    rd.image.window e.router rd.ev.arg = some w →
    indexEntry rd.image e.router rd.ctx w (Tab.get IndexState.none (advance rd.wait s).buf.index (windowKey e.router w.id)) = .line l →
    mergeOf (part (advance rd.wait s) rd.part) e.router l = none →
    DoesFrom (.gather e) s (advance rd.wait s) [.parts, .buf, .ctl, .regs, .counters] fun t =>
      (inputBeat (part t rd.part).pipe e.router portSlice ((part (advance rd.wait s) rd.part).ptick + 2)) =
        (schedRead e.router l (useEntry (windowKey e.router w.id) false rd.part (advance rd.wait s))).1 ∧
      t.buf.mem = (advance rd.wait s).buf.mem ∧ OnlyPart rd.part (advance rd.wait s) t) ∧
  (∀ (e : EvRef) (rd : Ready) (w : IndexWindow) (c : Bool) (r : Run) (s : State),
    readyEvent s e kGather = some rd →
    (advance rd.wait s).PlaneWf →
    rd.image.window e.router rd.ev.arg = some w →
    indexEntry rd.image e.router rd.ctx w (Tab.get IndexState.none (advance rd.wait s).buf.index (windowKey e.router w.id)) = .suppressed c →
    (part (advance rd.wait s) rd.part).run = some r →
    DoesFrom (.gather e) s (advance rd.wait s) [.parts, .buf] fun t =>
      (inputBeat (part t rd.part).pipe e.router portSlice ((part (advance rd.wait s) rd.part).ptick + 2)) = Beat.of 0 false ∧
      (part t rd.part).run = some { r with oor := if c then satInc r.oor else r.oor } ∧ t.buf.mem = (advance rd.wait s).buf.mem ∧
      OnlyPart rd.part (advance rd.wait s) t)

/-- R79, R80, R94, R95, R143, R164. -/
def Obligations.SliceWrites : Prop :=
  (∀ (e : EvRef) (rd : Ready) (s : State),
    readyEvent s e kWrite = some rd →
    (advance rd.wait s).PlaneWf →
    (advance rd.wait s).MemWf →
    (advance rd.wait s).LinesHeld →
    (writeBeat (advance rd.wait s) rd e.router 4).valid = true →
    (writeBeat (advance rd.wait s) rd e.router 4).parityOk = true →
    DoesFrom (.scheduledWrite e) s (advance rd.wait s) [.parts, .buf, .ctl, .counters] fun t =>
      BufLine (sliceByte e.router (rd.line e)) (writeBeat (advance rd.wait s) rd e.router 4).data (BitVec.ofNat 64 (rd.image.mask rd.ev.arg)) (advance rd.wait s) t ∧
      BufOutside (sliceByte e.router (rd.line e)) 64 (advance rd.wait s) t ∧ OnlyPart rd.part (advance rd.wait s) t) ∧
  (∀ (e : EvRef) (rd : Ready) (s : State),
    readyEvent s e kWrite = some rd →
    (advance rd.wait s).PlaneWf →
    partOf (advance rd.wait s) e.router = some rd.part →
    (writeBeat (advance rd.wait s) rd e.router 4).valid = false →
    (advance rd.wait s).ctl.faultQ.length < 256 →
    DoesFrom (.scheduledWrite e) s (advance rd.wait s) [.parts, .buf, .ctl] fun t =>
      t.buf.mem = (advance rd.wait s).buf.mem ∧ t.buf.bad = (advance rd.wait s).buf.bad ∧ (part t rd.part).holdPend = true ∧ t.ctl.faultQ = (advance rd.wait s).ctl.faultQ ++ [(⟨0x4009, 4, e.router, none, controlNode e.router, controlSub e.router⟩ : FaultPkt)] ∧
      OnlyPart rd.part (advance rd.wait s) t) ∧
  (∀ (e : EvRef) (rd : Ready) (w : IndexWindow) (l : Nat) (s : State),
    readyEvent s e kScatter = some rd →
    (advance rd.wait s).PlaneWf →
    rd.image.window e.router rd.ev.arg = some w →
    (advance rd.wait s).MemWf →
    (advance rd.wait s).LinesHeld →
    indexEntry rd.image e.router rd.ctx w (Tab.get IndexState.none (advance rd.wait s).buf.index (windowKey e.router w.id)) = .line l →
    (writeBeat (advance rd.wait s) rd e.router 4).valid = true →
    (writeBeat (advance rd.wait s) rd e.router 4).parityOk = true →
    DoesFrom (.scatter e) s (advance rd.wait s) [.parts, .buf] fun t =>
      BufLine (sliceByte e.router l) (writeBeat (advance rd.wait s) rd e.router 4).data fullMask (advance rd.wait s) t ∧
      BufOutside (sliceByte e.router l) 64 (advance rd.wait s) t ∧ OnlyPart rd.part (advance rd.wait s) t) ∧
  (∀ (e : EvRef) (rd : Ready) (w : IndexWindow) (c : Bool) (s : State),
    readyEvent s e kScatter = some rd →
    (advance rd.wait s).PlaneWf →
    rd.image.window e.router rd.ev.arg = some w →
    indexEntry rd.image e.router rd.ctx w (Tab.get IndexState.none (advance rd.wait s).buf.index (windowKey e.router w.id)) = .suppressed c →
    (advance rd.wait s).SliceWf →
    DoesFrom (.scatter e) s (advance rd.wait s) [.parts, .buf] fun t =>
      t.buf.mem = (advance rd.wait s).buf.mem ∧ t.buf.bad = (advance rd.wait s).buf.bad ∧
      (Tab.get IndexState.none t.buf.index (windowKey e.router w.id)).next =
        min 32 ((Tab.get IndexState.none (advance rd.wait s).buf.index (windowKey e.router w.id)).next + 1) ∧ OnlyPart rd.part (advance rd.wait s) t)

/-- R182, R184, R187, R214, R216, R503, R504, R507. -/
def Obligations.ComputeEvents : Prop :=
  (∀ (e : EvRef) (rd : Ready) (c : OpClass) (s : State),
    readyEvent s e kDispatch = some rd →
    (advance rd.wait s).PlaneWf →
    rd.image.opClass (bits rd.ev.arg 0 8) = some c →
    DoesFrom (.dispatch e) s (advance rd.wait s) [.parts, .out] fun t =>
      (part t rd.part).pipe.due = (part (advance rd.wait s) rd.part).pipe.due ++ 
        duesFor rd.image (part (advance rd.wait s) rd.part).ptick e.router (rd.line e) c ∧
      (let p := dispatchPacket c.cls (rd.line e) rd.ctx e.occ; t.out = (advance rd.wait s).out ++ [Output.dispatch e.router p (ctlTick (cellFailed (advance rd.wait s) e.router 2) p)]) ∧ OnlyPart rd.part (advance rd.wait s) t) ∧
  (∀ (router k at_ line : Nat) (up : List GroupTick) (s : State),
    partOf s router = some k →
    nextResult (part s k) router = some (at_, line) →
    tickRuns s = true →
    s.clk.frameDone = true →
    (part s k).parked = false →
    frameOffset s + (at_ - (part s k).ptick) < 4096 →
    (captured (dropDue k ⟨at_, .dispWrite router line⟩ (advance (at_ - (part s k).ptick) s)) router up).valid = true →
    (captured (dropDue k ⟨at_, .dispWrite router line⟩ (advance (at_ - (part s k).ptick) s)) router up).parityOk = true →
    (dropDue k ⟨at_, .dispWrite router line⟩ (advance (at_ - (part s k).ptick) s)).MemWf →
    (dropDue k ⟨at_, .dispWrite router line⟩ (advance (at_ - (part s k).ptick) s)).LinesHeld →
    (dropDue k ⟨at_, .dispWrite router line⟩ (advance (at_ - (part s k).ptick) s)).PlaneWf →
    DoesFrom (.dispatchResultWrite router up) s (dropDue k ⟨at_, .dispWrite router line⟩ (advance (at_ - (part s k).ptick) s)) [.parts, .buf] fun t =>
      BufLine (sliceByte router line) (captured (dropDue k ⟨at_, .dispWrite router line⟩ (advance (at_ - (part s k).ptick) s)) router up).data fullMask (dropDue k ⟨at_, .dispWrite router line⟩ (advance (at_ - (part s k).ptick) s)) t ∧
      BufOutside (sliceByte router line) 64 (dropDue k ⟨at_, .dispWrite router line⟩ (advance (at_ - (part s k).ptick) s)) t ∧
      OnlyPart k (dropDue k ⟨at_, .dispWrite router line⟩ (advance (at_ - (part s k).ptick) s)) t) ∧
  (∀ (e : EvRef) (rd : Ready) (prog : FoldProg) (st : FoldStepRec) (s : State),
    readyEvent s e kFold = some rd →
    (advance rd.wait s).PlaneWf →
    rd.image.foldProg rd.ev.arg = some prog →
    rd.image.foldStep prog rd.pattern e.router e.index = some st →
    (foldOperand rd.part e.router st.first rd.ev.out rd.ev.bsel prog.type (advance rd.wait s)).2 = advance rd.wait s →
    (foldOperand rd.part e.router st.second rd.ev.out rd.ev.bsel prog.type (advance rd.wait s)).2 = advance rd.wait s →
    DoesFrom (.foldStep e) s (advance rd.wait s) [.parts] fun t =>
      (let a := (foldOperand rd.part e.router st.first rd.ev.out rd.ev.bsel prog.type (advance rd.wait s)).1
       let b := (foldOperand rd.part e.router st.second rd.ev.out rd.ev.bsel prog.type (advance rd.wait s)).1
       (part t rd.part).pipe.due = (part (advance rd.wait s) rd.part).pipe.due ++ [(⟨(part (advance rd.wait s) rd.part).ptick + 2,
         .foldOut e.router rd.ev.inp rd.ev.out (foldCombine prog.type a.1 b.1) prog.type prog.sr (a.2 || b.2) rd.ev.bsel⟩ : Due)]) ∧ OnlyPart rd.part (advance rd.wait s) t) ∧
  (∀ (e : EvRef) (rd : Ready) (d : TrainDesc) (s : State),
    readyEvent s e kRng = some rd →
    (advance rd.wait s).PlaneWf →
    rd.image.trainDesc rd.ev.arg = some d →
    bit1 rd.ev.out portSlice = true →
    DoesFrom (.rng e) s (advance rd.wait s) [.parts] fun t =>
      (let p := part (advance rd.wait s) rd.part
       let x := paramLine (advance rd.wait s) e.router d.paramLine
       (part t rd.part).pipe.due = p.pipe.due ++ [(⟨p.ptick + 3, .rngWrite e.router (rd.line e) (rd.ev.offset e.occ % 4)
         (mkRng (BitVec.ofNat 64 d.key) (rngCounter d.ctrBase e.router (rd.ev.offset e.occ) (runFrameOf p) rd.ctx (prmStep x.1))) x.2⟩ : Due)]) ∧
      OnlyPart rd.part (advance rd.wait s) t) ∧
  (∀ (e : EvRef) (rd : Ready) (d : TrainDesc) (s : State),
    readyEvent s e kUpdate = some rd →
    (advance rd.wait s).PlaneWf →
    rd.image.trainDesc rd.ev.arg = some d →
    rd.ev.inp = portFold →
    (schedRead e.router (rd.line e) (advance rd.wait s)).2 = advance rd.wait s →
    DoesFrom (.update e) s (advance rd.wait s) [.parts] fun t =>
      (let u := advance rd.wait s
       let a := Tab.get FoldAcc.zero u.buf.acc e.router
       let b := (schedRead e.router (rd.line e) u).1
       let x := paramLine u e.router d.paramLine
       (part t rd.part).pipe.due = (part u rd.part).pipe.due ++ [(⟨(part u rd.part).ptick + 1, .updRead
         ⟨e.router, rd.line e, d, rd.ev.offset e.occ, runFrameOf (part u rd.part), rd.ctx, a.value, a.poison, x.1, x.2, b.data, b.poison, 0, false⟩⟩ : Due)]) ∧
      OnlyPart rd.part (advance rd.wait s) t) ∧
  (∀ (router k at_ line : Nat) (up : List GroupTick) (s : State),
    partOf s router = some k →
    nextResult (part s k) router = some (at_, line) →
    tickRuns s = true →
    s.clk.frameDone = true →
    (part s k).parked = false →
    frameOffset s + (at_ - (part s k).ptick) < 4096 →
    (captured (dropDue k ⟨at_, .dispWrite router line⟩ (advance (at_ - (part s k).ptick) s)) router up).valid = false →
    (dropDue k ⟨at_, .dispWrite router line⟩ (advance (at_ - (part s k).ptick) s)).tiles.perrs = [] →
    (dropDue k ⟨at_, .dispWrite router line⟩ (advance (at_ - (part s k).ptick) s)).PlaneWf →
    partOf (dropDue k ⟨at_, .dispWrite router line⟩ (advance (at_ - (part s k).ptick) s)) router = some k →
    DoesFrom (.dispatchResultWrite router up) s (dropDue k ⟨at_, .dispWrite router line⟩ (advance (at_ - (part s k).ptick) s)) [.parts, .tiles, .ctl, .counters] fun t =>
      (part t k).holdPend = true ∧ OnlyPart k (dropDue k ⟨at_, .dispWrite router line⟩ (advance (at_ - (part s k).ptick) s)) t) ∧
  (∀ (e : EvRef) (rd : Ready) (d : TrainDesc) (s : State),
    readyEvent s e kRng = some rd →
    (advance rd.wait s).PlaneWf →
    rd.image.trainDesc rd.ev.arg = some d →
    bit1 rd.ev.out portSlice = false →
    DoesFrom (.rng e) s (advance rd.wait s) [.parts] fun t =>
      (let p := part (advance rd.wait s) rd.part
       let x := paramLine (advance rd.wait s) e.router d.paramLine
       (part t rd.part).pipe.foldBits = (⟨e.router, p.ptick, (mkRng (BitVec.ofNat 64 d.key) (rngCounter d.ctrBase e.router
         (rd.ev.offset e.occ) (runFrameOf p) rd.ctx (prmStep x.1))), x.2⟩ : FoldBits) :: p.pipe.foldBits) ∧ OnlyPart rd.part (advance rd.wait s) t) ∧
  (∀ (e : EvRef) (rd : Ready) (d : TrainDesc) (s : State),
    readyEvent s e kUpdate = some rd →
    (advance rd.wait s).PlaneWf →
    rd.image.trainDesc rd.ev.arg = some d →
    rd.ev.inp ≠ portFold →
    (writeBeat (advance rd.wait s) rd e.router 1).valid = false →
    partOf (advance rd.wait s) e.router = some rd.part →
    DoesFrom (.update e) s (advance rd.wait s) [.parts, .buf, .ctl, .counters] fun t =>
      t.buf.mem = (advance rd.wait s).buf.mem ∧ (part t rd.part).holdPend = true ∧ (part t rd.part).pipe.due = (part (advance rd.wait s) rd.part).pipe.due ∧ OnlyPart rd.part (advance rd.wait s) t) ∧
  (∀ (e : EvRef) (rd : Ready) (d : TrainDesc) (s : State),
    readyEvent s e kUpdate = some rd →
    (advance rd.wait s).PlaneWf →
    rd.image.trainDesc rd.ev.arg = some d →
    rd.ev.inp ≠ portFold →
    (writeBeat (advance rd.wait s) rd e.router 1).valid = true →
    (writeBeat (advance rd.wait s) rd e.router 1).parityOk = true →
    (schedRead e.router (rd.line e) (advance rd.wait s)).2 = advance rd.wait s →
    DoesFrom (.update e) s (advance rd.wait s) [.parts] fun t =>
      (let u := advance rd.wait s
       let g := writeBeat u rd e.router 1
       let b := (schedRead e.router (rd.line e) u).1
       let x := paramLine u e.router d.paramLine
       (part t rd.part).pipe.due = (part u rd.part).pipe.due ++ [(⟨(part u rd.part).ptick + 1, .updRead
         ⟨e.router, rd.line e, d, rd.ev.offset e.occ, runFrameOf (part u rd.part), rd.ctx, gradOfBeat g.data, g.poison, x.1, x.2, b.data, b.poison, 0, false⟩⟩ : Due)]) ∧
      OnlyPart rd.part (advance rd.wait s) t)

/-- R53 to R55. R60, R97 to R99, R129. -/
def Obligations.TickAndFrameBoundaries : Prop :=
  (∀ s : State,
    tickRuns s = true →
    s.clk.frameDone = true →
    throttleBoundaryAfter s.clk.tick.toNat < nextBoundary s →
    nextBoundary s < 2 ^ 64 →
    Does .throttleBoundary s [.clk, .parts, .buf, .ctl, .tiles, .regs, .lat, .counters, .out] fun t =>
      t.clk.tick.toNat = throttleBoundaryAfter s.clk.tick.toNat ∧ t.clk.frameDone = true ∧
      (s.clk.pendSetting = none → t.clk.setting = s.clk.setting ∧ t.clk.pendSetting = none)) ∧
  (∀ (x : BitVec 9) (a : Nat) (s : State),
    tickRuns s = true →
    s.clk.frameDone = true →
    throttleBoundaryAfter s.clk.tick.toNat < nextBoundary s →
    nextBoundary s < 2 ^ 64 →
    s.clk.pendSetting = some (x, a) →
    a ≤ s.clk.tick.toNat →
    setValid x = true →
    Does .throttleBoundary s [.clk, .parts, .buf, .ctl, .tiles, .regs, .lat, .counters, .out] fun t =>
      t.clk.tick.toNat = throttleBoundaryAfter s.clk.tick.toNat ∧ t.clk.setting = x ∧ t.clk.pendSetting = none) ∧
  (∀ s : State,
    tickRuns s = true →
    s.clk.frameDone = true →
    2 ≤ setK s.clk.setting →
    s.clk.crumb < setK s.clk.setting →
    s.clk.pendSetting = none →
    s.clk.tick.toNat + (setK s.clk.setting - 1 - s.clk.crumb) < nextBoundary s →
    nextBoundary s < 2 ^ 64 →
    Does .crumb s [.clk, .parts, .buf, .ctl, .tiles, .regs, .lat, .counters, .out] fun t =>
      t.clk.tick.toNat = s.clk.tick.toNat + (setK s.clk.setting - 1 - s.clk.crumb) ∧ t.clk.crumb = 0 ∧
      t.clk.wallPs = s.clk.wallPs + (setK s.clk.setting - s.clk.crumb) * periodPs s.clk.setting) ∧
  (∀ s : State,
    tickRuns s = true →
    s.clk.frameDone = true →
    barrierArmed s = false →
    nextBoundary s < 2 ^ 64 →
    s.PlaneWf →
    Does .frameBoundary s [.clk, .parts, .layout, .layoutPend, .slots, .buf, .comp, .ctl, .hbm, .tiles, .rings, .regs, .logs, .win, .lat, .counters, .out] fun t =>
      t.clk.tick.toNat = nextBoundary s ∧ t.clk.frameDone = true ∧ t.layoutPend = none ∧
      (∀ l, s.layoutPend = some l → ∀ k, k < 4 → rect t k = l[k]?.getD ⟨0, 0, 0, 0⟩)) ∧
  (∀ (k : Nat) (im : Image) (v : Variant) (r : Run) (s : State),
    tickRuns s = true →
    s.clk.frameDone = true →
    frameOffset s ≤ 3968 →
    branchDue s k = some (im, v) →
    (part (advance (3968 - frameOffset s) s) k).run = some r →
    Does (.branchRead k) s [.clk, .parts, .buf, .ctl, .tiles, .regs, .lat, .counters, .out] fun t =>
      (let u := advance (3968 - frameOffset s) s
       let b := (schedRead im.hdr.brRouter (im.hdr.brLine + if im.hdr.brCtx then im.ctxBase im.hdr.brRouter (currentCtx (part u k)) else 0) u).1
       let word := bits b.data.toNat (32 * im.hdr.brWord) 32
       (part t k).run = some { r with choice := branchChoice v im.hdr.variants word, result := BitVec.ofNat 16 (bits word 16 16) } ∧
       t.buf.mem = u.buf.mem ∧ OnlyPart k u t)) ∧
  (∀ (k : Nat) (s : State),
    k < 4 →
    tickRuns s = true →
    s.clk.frameDone = true →
    budgetFrame s k = true →
    (part s k).suspended = [] →
    barrierArmed s = false →
    nextBoundary s < 2 ^ 64 →
    Does (.frameBudgetExhausted k) s [.clk, .parts, .layout, .layoutPend, .slots, .buf, .comp, .ctl, .hbm, .tiles, .rings, .regs, .logs, .win, .lat, .counters, .out] fun t =>
      t.clk.tick.toNat = nextBoundary s ∧ ∀ r, (part t k).run = some r → r.admitted = frameNumber t)

/-- R130, R131, R570. -/
def Obligations.BoundaryEffects : Prop :=
  (∀ (k n a : Nat) (s : State),
    k < 4 →
    tickRuns s = true →
    s.clk.frameDone = true →
    barrierArmed s = false →
    nextBoundary s < 2 ^ 64 →
    s.PlaneWf →
    (part s k).binding = some (n, a) →
    (part s k).prep = true →
    (part s k).slot = none →
    (part s k).run = none →
    (part s k).resetPend = false →
    (part s k).unbinding = none →
    ∀ j, j < 4 → j ≠ k → (part s j).slot ≠ some n ∧ ((part s j).binding.map fun b => b.1) ≠ some n →
    Does (.bindEffect k) s [.clk, .parts, .layout, .layoutPend, .slots, .buf, .comp, .ctl, .hbm, .tiles, .rings, .regs, .logs, .win, .lat, .counters, .out] fun t =>
      (part t k).slot = some n ∧ (part t k).binding = none ∧ (slot t n).state = SlotState.bound ∧ t.clk.tick.toNat = nextBoundary s) ∧
  (∀ (k n : Nat) (s : State),
    k < 4 →
    tickRuns s = true →
    s.clk.frameDone = true →
    barrierArmed s = false →
    nextBoundary s < 2 ^ 64 →
    s.PlaneWf →
    (part s k).unbinding = some true →
    (part s k).slot = some n →
    (part s k).resetPend = false →
    ∀ j, j < 4 → j ≠ k → (part s j).slot ≠ some n ∧ ((part s j).binding.map fun b => b.1) ≠ some n →
    Does (.unbindEffect k) s [.clk, .parts, .layout, .layoutPend, .slots, .buf, .comp, .ctl, .hbm, .tiles, .rings, .regs, .logs, .win, .lat, .counters, .out] fun t =>
      (part t k).slot = none ∧ (part t k).run = none ∧ (part t k).suspended = [] ∧ (slot t n).state = SlotState.valid) ∧
  (∀ (k n : Nat) (s : State),
    k < 4 →
    tickRuns s = true →
    s.clk.frameDone = true →
    barrierArmed s = false →
    nextBoundary s < 2 ^ 64 →
    s.PlaneWf →
    (part s k).resetPend = true →
    (part s k).slot = some n →
    (part s k).binding = none →
    ∀ j, j < 4 → j ≠ k → (part s j).slot ≠ some n ∧ ((part s j).binding.map fun b => b.1) ≠ some n →
    Does (.partitionResetEffect k) s [.clk, .parts, .layout, .layoutPend, .slots, .buf, .comp, .ctl, .hbm, .tiles, .rings, .regs, .logs, .win, .lat, .counters, .out] fun t =>
      (part t k).slot = none ∧ (part t k).run = none ∧ (part t k).suspended = [] ∧ (part t k).resetPend = false ∧ (slot t n).state = SlotState.valid)

/-- R85, R277, R283, R301. -/
def Obligations.RefreshDebt : Prop :=
  (∀ (pc : Nat) (s : State),
    (pcOf s pc).sched = true →
    (pcOf s pc).debt < 8 →
    Does (.refreshTimer pc) s [.hbm] fun t =>
      pcOf t pc = { pcOf s pc with debt := (pcOf s pc).debt + 1 } ∧ OnlyPc pc s t ∧ t.hbm.mem = s.hbm.mem) ∧
  (∀ (pc k : Nat) (im : Image) (s : State),
    (pcOf s pc).sched = true →
    8 ≤ (pcOf s pc).debt →
    pcPart s pc = some (k, im) →
    s.ctl.faultQ.length < 256 →
    s.PlaneWf →
    Does (.refreshTimer pc) s [.hbm, .parts, .ctl, .out] fun t =>
      pcOf t pc = { pcOf s pc with forced := true, openStripe := none } ∧ OnlyPc pc s t ∧ t.hbm.mem = s.hbm.mem ∧
      (part t k).debtBreach = true ∧ (part t k).holdPend = (part s k).holdPend ∧ OnlyPart k s t ∧
      t.out = s.out ++ [Output.dram pc 0 0, Output.dram pc 1 0] ∧
      t.ctl.faultQ = s.ctl.faultQ ++ [(⟨0x5008, 4, pc, none, hbmEndpoint pc, 0⟩ : FaultPkt)]) ∧
  (∀ (pc cell : Nat) (c : CellReady) (s : State),
    readyCell s pc cell 3 = some c →
    c.index = 0 →
    frameOffset s ≤ 8 * cell →
    -8 < (pcOf (restoreRows pc (advance (8 * cell - frameOffset s) s)) pc).debt →
    DoesFrom (.refreshLane pc cell) s (restoreRows pc (advance (8 * cell - frameOffset s) s)) [.hbm, .out] fun t =>
      pcOf t pc = { pcOf (restoreRows pc (advance (8 * cell - frameOffset s) s)) pc with
        debt := (pcOf (restoreRows pc (advance (8 * cell - frameOffset s) s)) pc).debt - 1, openStripe := none, laneEnd := (part (restoreRows pc (advance (8 * cell - frameOffset s) s)) c.part).ptick + 256, laneIdle := false } ∧
      OnlyPc pc (restoreRows pc (advance (8 * cell - frameOffset s) s)) t ∧ t.out = (restoreRows pc (advance (8 * cell - frameOffset s) s)).out ++ [Output.dram pc 0 0, Output.dram pc 1 0] ∧ t.hbm.mem = (restoreRows pc (advance (8 * cell - frameOffset s) s)).hbm.mem) ∧
  (∀ (pc cell : Nat) (c : CellReady) (s : State),
    readyCell s pc cell 3 = some c →
    c.index = 0 →
    frameOffset s ≤ 8 * cell →
    (pcOf (restoreRows pc (advance (8 * cell - frameOffset s) s)) pc).debt ≤ -8 →
    DoesFrom (.refreshLane pc cell) s (restoreRows pc (advance (8 * cell - frameOffset s) s)) [.hbm] fun t =>
      pcOf t pc = { pcOf (restoreRows pc (advance (8 * cell - frameOffset s) s)) pc with openStripe := none, laneEnd := (part (restoreRows pc (advance (8 * cell - frameOffset s) s)) c.part).ptick + 256, laneIdle := true } ∧
      OnlyPc pc (restoreRows pc (advance (8 * cell - frameOffset s) s)) t ∧ t.hbm.mem = (restoreRows pc (advance (8 * cell - frameOffset s) s)).hbm.mem) ∧
  (∀ (pc cell : Nat) (c : CellReady) (s : State),
    readyCell s pc cell 4 = some c →
    c.index = 0 →
    frameOffset s ≤ 8 * cell →
    DoesFrom (.rowSwitchGap pc cell) s (restoreRows pc (advance (8 * cell - frameOffset s) s)) [.hbm, .out] fun t =>
      pcOf t pc = { pcOf (restoreRows pc (advance (8 * cell - frameOffset s) s)) pc with openStripe := some (recStripeOf c.rec_ c.cell c.ctx), forced := false } ∧ OnlyPc pc (restoreRows pc (advance (8 * cell - frameOffset s) s)) t ∧
      t.out = (restoreRows pc (advance (8 * cell - frameOffset s) s)).out ++ [Output.dram pc 0 0, Output.dram pc 2 (recStripeOf c.rec_ c.cell c.ctx)] ∧ t.hbm.mem = (restoreRows pc (advance (8 * cell - frameOffset s) s)).hbm.mem) ∧
  (∀ (pc : Nat) (s : State),
    pcServes s pc = true →
    (pcOf s pc).auto = true →
    (stackOf s (pc / 32)).selfRefresh = false →
    Does (.autonomousRefresh pc) s [.hbm, .out] fun t =>
      pcOf t pc = { pcOf s pc with debt := owed ((pcOf s pc).debt - 1) } ∧ OnlyPc pc s t ∧ t.hbm.mem = s.hbm.mem ∧ t.out = s.out ++ [Output.dram pc 1 0])

/-- R278, R279, R301. -/
def Obligations.WindowCells : Prop :=
  (∀ (pc cell sev : Nat) (c : CellReady) (s : State),
    readyCell s pc cell 1 = some c →
    frameOffset s ≤ 8 * cell →
    (pcOf (hbmCount pc 2 sev (restoreRows pc (advance (8 * cell - frameOffset s) s))) pc).openStripe = some (recStripeOf c.rec_ c.cell c.ctx) →
    (hbmCount pc 2 sev (restoreRows pc (advance (8 * cell - frameOffset s) s))).PlaneWf →
    DoesFrom (.readWindowCell pc cell sev) s (hbmCount pc 2 sev (restoreRows pc (advance (8 * cell - frameOffset s) s))) [.parts, .ctl, .hbm, .regs, .logs, .counters] fun t =>
      (part t c.part).pipe.arrivals = readCellBeats (rimRouter (pc / 32) c.cell.rim) (part (hbmCount pc 2 sev (restoreRows pc (advance (8 * cell - frameOffset s) s))) c.part).ptick
        (readThree (hbmLine pc (recStripeOf c.rec_ c.cell c.ctx) (addrLine c.cell.addr + 3 * c.index)) (hbmCount pc 2 sev (restoreRows pc (advance (8 * cell - frameOffset s) s)))).1 ++ (part (hbmCount pc 2 sev (restoreRows pc (advance (8 * cell - frameOffset s) s))) c.part).pipe.arrivals ∧ t.hbm.mem = (hbmCount pc 2 sev (restoreRows pc (advance (8 * cell - frameOffset s) s))).hbm.mem ∧ OnlyPart c.part (hbmCount pc 2 sev (restoreRows pc (advance (8 * cell - frameOffset s) s))) t) ∧
  (∀ (pc cell sev : Nat) (c : CellReady) (s : State),
    readyCell s pc cell 1 = some c →
    frameOffset s ≤ 8 * cell →
    (pcOf (hbmCount pc 2 sev (restoreRows pc (advance (8 * cell - frameOffset s) s))) pc).openStripe ≠ some (recStripeOf c.rec_ c.cell c.ctx) →
    (hbmCount pc 2 sev (restoreRows pc (advance (8 * cell - frameOffset s) s))).PlaneWf →
    DoesFrom (.readWindowCell pc cell sev) s (hbmCount pc 2 sev (restoreRows pc (advance (8 * cell - frameOffset s) s))) [.parts] fun t =>
      (part t c.part).pipe.arrivals = readCellBeats (rimRouter (pc / 32) c.cell.rim) (part (hbmCount pc 2 sev (restoreRows pc (advance (8 * cell - frameOffset s) s))) c.part).ptick
        [Beat.of 0 true, Beat.of 0 true, Beat.of 0 true] ++ (part (hbmCount pc 2 sev (restoreRows pc (advance (8 * cell - frameOffset s) s))) c.part).pipe.arrivals ∧ OnlyPart c.part (hbmCount pc 2 sev (restoreRows pc (advance (8 * cell - frameOffset s) s))) t) ∧
  (∀ (pc cell : Nat) (c : CellReady) (s : State),
    readyCell s pc cell 2 = some c →
    frameOffset s ≤ 8 * cell + 15 →
    (pcOf (restoreRows pc (advance (8 * cell + 6 - frameOffset s) s)) pc).openStripe = some (recStripeOf c.rec_ c.cell c.ctx) →
    (restoreRows pc (advance (8 * cell + 6 - frameOffset s) s)).MemWf →
    (edgeBeatAt (part (restoreRows pc (advance (8 * cell + 6 - frameOffset s) s)) c.part).pipe (rimRouter (pc / 32) c.cell.rim) portEdge ((part (restoreRows pc (advance (8 * cell + 6 - frameOffset s) s)) c.part).ptick - (frameOffset (restoreRows pc (advance (8 * cell + 6 - frameOffset s) s)) - 8 * cell) + 0)).valid = true →
    (edgeBeatAt (part (restoreRows pc (advance (8 * cell + 6 - frameOffset s) s)) c.part).pipe (rimRouter (pc / 32) c.cell.rim) portEdge ((part (restoreRows pc (advance (8 * cell + 6 - frameOffset s) s)) c.part).ptick - (frameOffset (restoreRows pc (advance (8 * cell + 6 - frameOffset s) s)) - 8 * cell) + 3)).valid = true →
    (edgeBeatAt (part (restoreRows pc (advance (8 * cell + 6 - frameOffset s) s)) c.part).pipe (rimRouter (pc / 32) c.cell.rim) portEdge ((part (restoreRows pc (advance (8 * cell + 6 - frameOffset s) s)) c.part).ptick - (frameOffset (restoreRows pc (advance (8 * cell + 6 - frameOffset s) s)) - 8 * cell) + 6)).valid = true →
    DoesFrom (.writeWindowCell pc cell) s (restoreRows pc (advance (8 * cell + 6 - frameOffset s) s)) [.hbm] fun t =>
      HbmLineIs (hbmLine pc (recStripeOf c.rec_ c.cell c.ctx) (addrLine c.cell.addr + 3 * c.index)) (edgeBeatAt (part (restoreRows pc (advance (8 * cell + 6 - frameOffset s) s)) c.part).pipe (rimRouter (pc / 32) c.cell.rim) portEdge ((part (restoreRows pc (advance (8 * cell + 6 - frameOffset s) s)) c.part).ptick - (frameOffset (restoreRows pc (advance (8 * cell + 6 - frameOffset s) s)) - 8 * cell) + 0)).data t ∧
      HbmLineIs ((hbmLine pc (recStripeOf c.rec_ c.cell c.ctx) (addrLine c.cell.addr + 3 * c.index)) + 1) (edgeBeatAt (part (restoreRows pc (advance (8 * cell + 6 - frameOffset s) s)) c.part).pipe (rimRouter (pc / 32) c.cell.rim) portEdge ((part (restoreRows pc (advance (8 * cell + 6 - frameOffset s) s)) c.part).ptick - (frameOffset (restoreRows pc (advance (8 * cell + 6 - frameOffset s) s)) - 8 * cell) + 3)).data t ∧
      HbmLineIs ((hbmLine pc (recStripeOf c.rec_ c.cell c.ctx) (addrLine c.cell.addr + 3 * c.index)) + 2) (edgeBeatAt (part (restoreRows pc (advance (8 * cell + 6 - frameOffset s) s)) c.part).pipe (rimRouter (pc / 32) c.cell.rim) portEdge ((part (restoreRows pc (advance (8 * cell + 6 - frameOffset s) s)) c.part).ptick - (frameOffset (restoreRows pc (advance (8 * cell + 6 - frameOffset s) s)) - 8 * cell) + 6)).data t ∧
      HbmOutside (64 * (hbmLine pc (recStripeOf c.rec_ c.cell c.ctx) (addrLine c.cell.addr + 3 * c.index))) 192 (restoreRows pc (advance (8 * cell + 6 - frameOffset s) s)) t) ∧
  (∀ (pc cell : Nat) (c : CellReady) (s : State),
    readyCell s pc cell 2 = some c →
    frameOffset s ≤ 8 * cell + 15 →
    (pcOf (restoreRows pc (advance (8 * cell + 6 - frameOffset s) s)) pc).openStripe = some (recStripeOf c.rec_ c.cell c.ctx) →
    (edgeBeatAt (part (restoreRows pc (advance (8 * cell + 6 - frameOffset s) s)) c.part).pipe (rimRouter (pc / 32) c.cell.rim) portEdge ((part (restoreRows pc (advance (8 * cell + 6 - frameOffset s) s)) c.part).ptick - (frameOffset (restoreRows pc (advance (8 * cell + 6 - frameOffset s) s)) - 8 * cell) + 0)).valid = false →
    (edgeBeatAt (part (restoreRows pc (advance (8 * cell + 6 - frameOffset s) s)) c.part).pipe (rimRouter (pc / 32) c.cell.rim) portEdge ((part (restoreRows pc (advance (8 * cell + 6 - frameOffset s) s)) c.part).ptick - (frameOffset (restoreRows pc (advance (8 * cell + 6 - frameOffset s) s)) - 8 * cell) + 3)).valid = false →
    (edgeBeatAt (part (restoreRows pc (advance (8 * cell + 6 - frameOffset s) s)) c.part).pipe (rimRouter (pc / 32) c.cell.rim) portEdge ((part (restoreRows pc (advance (8 * cell + 6 - frameOffset s) s)) c.part).ptick - (frameOffset (restoreRows pc (advance (8 * cell + 6 - frameOffset s) s)) - 8 * cell) + 6)).valid = false →
    DoesFrom (.writeWindowCell pc cell) s (restoreRows pc (advance (8 * cell + 6 - frameOffset s) s)) [] fun t =>
      t.hbm.mem = (restoreRows pc (advance (8 * cell + 6 - frameOffset s) s)).hbm.mem) ∧
  (∀ (pc cell : Nat) (c : CellReady) (s : State),
    readyCell s pc cell 2 = some c →
    frameOffset s ≤ 8 * cell + 15 →
    (pcOf (restoreRows pc (advance (8 * cell + 6 - frameOffset s) s)) pc).openStripe ≠ some (recStripeOf c.rec_ c.cell c.ctx) →
    DoesFrom (.writeWindowCell pc cell) s (restoreRows pc (advance (8 * cell + 6 - frameOffset s) s)) [] fun t =>
      t.hbm.mem = (restoreRows pc (advance (8 * cell + 6 - frameOffset s) s)).hbm.mem)

/-- R252, R281, R282, R284, R287, R288, R300. -/
def Obligations.HbmControllers : Prop :=
  (∀ (k : Nat) (s : State),
    s.boot.starting = true →
    s.boot.steps.getLsbD 1 = true →
    k < 8 →
    (stackOf s k).trained = false →
    (stackOf s k).dead = false →
    Does (.hbmTraining k true []) s [.boot, .hbm] fun t =>
      (stackOf t k).trained = true ∧ (stackOf t k).dead = false ∧ (∀ j, j < 8 → j ≠ k → stackOf t j = stackOf s j) ∧
      (∀ u, 36 * k ≤ u → u < 36 * k + 36 → roleOf s u = 3 → t.hbm.zeroed.contains u = true) ∧ t.hbm.mem = s.hbm.mem) ∧
  (∀ (k : Nat) (cs : List ChannelTrain) (s : State),
    s.boot.starting = true →
    s.boot.steps.getLsbD 1 = true →
    k < 8 →
    (stackOf s k).trained = false →
    (stackOf s k).dead = false →
    Does (.hbmTraining k true cs) s [.boot, .ctl, .fmap, .hbm, .rings, .regs, .logs, .lanes, .counters, .out] fun t =>
      (stackOf t k).trained = true ∧ (stackOf t k).dead = false ∧ (∀ c ∈ cs, c.repaired = false →
        t.fmap.pendPcs.contains (32 * k + 2 * c.channel) = true ∧ t.fmap.pendPcs.contains (32 * k + 2 * c.channel + 1) = true) ∧ t.hbm.mem = s.hbm.mem) ∧
  (∀ (k : Nat) (cs : List ChannelTrain) (s : State),
    s.boot.starting = true →
    s.boot.steps.getLsbD 1 = true →
    k < 8 →
    (stackOf s k).trained = false →
    (stackOf s k).dead = false →
    Does (.hbmTraining k false cs) s [.boot, .fmap, .hbm, .rings, .regs, .logs, .counters, .out] fun t =>
      (stackOf t k).dead = true ∧ (stackOf t k).trained = false ∧ (∀ p, 32 * k ≤ p → p < 32 * k + 32 → t.fmap.pendPcs.contains p = true) ∧
      t.hbm.mem = s.hbm.mem) ∧
  (∀ (pc sev c : Nat) (q : UReq) (fn ticket : Nat) (off : Nat) (s : State),
    s.MemWf →
    s.UnitWf →
    pcServes s pc = true →
    cellPermitted s pc = true →
    (pcOf s pc).writeback = [] →
    nextWork (pcOf s pc) = some (c, .inl q) →
    q.origin = .stage fn ticket off →
    pcDead s pc = false →
    q.write = true →
    Does (.unscheduledAccess pc sev) s [.parts, .ctl, .hbm, .rings, .counters, .out] fun t =>
      HbmLineIs q.line q.data t ∧ HbmOutside (64 * q.line) 64 s t ∧ Tab.get 0 t.hbm.flag q.line = (if q.poison then 3 else goodFlag s q.line) ∧ OnlyRing fn 2 s t) ∧
  (∀ (pc sev c : Nat) (q : UReq) (fn ticket : Nat) (off : Nat) (s : State),
    pcServes s pc = true →
    cellPermitted s pc = true →
    (pcOf s pc).writeback = [] →
    nextWork (pcOf s pc) = some (c, .inl q) →
    q.origin = .stage fn ticket off →
    pcDead s pc = false →
    q.write = false →
    Does (.unscheduledAccess pc sev) s [.parts, .ctl, .hbm, .rings, .regs, .logs, .counters, .out] fun t =>
      t.hbm.mem = s.hbm.mem ∧ OnlyRing fn 2 s t) ∧
  (∀ (pc sev c : Nat) (q : UReq) (fn ticket : Nat) (off : Nat) (s : State),
    pc < 256 →
    nextWork (pcOf s pc) = some (c, .inl q) →
    q.origin = .stage fn ticket off →
    pcDead s pc = true →
    q.write = true →
    Does (.unscheduledAccess pc sev) s [.hbm, .rings] fun t =>
      t.hbm.mem = s.hbm.mem ∧ OnlyRing fn 2 s t ∧ OnlyPc pc s t ∧ (pcOf t pc).writeback = (pcOf s pc).writeback) ∧
  (∀ (pc l : Nat) (rest : List Nat) (s : State),
    (pcOf s pc).writeback = l :: rest →
    pcServes s pc = true →
    cellPermitted s pc = true →
    Tab.get 0 s.hbm.flag l = 1 →
    s.UnitWf →
    Does (.correctedWriteback pc) s [.parts, .hbm, .out] fun t =>
      (pcOf t pc).writeback = rest ∧ lineFlag t l = 0 ∧ OnlyPc pc s t ∧ t.hbm.mem = s.hbm.mem) ∧
  (∀ (pc l : Nat) (rest : List Nat) (s : State),
    (pcOf s pc).writeback = l :: rest →
    pcServes s pc = true →
    cellPermitted s pc = true →
    Tab.get 0 s.hbm.flag l = 5 →
    s.UnitWf →
    Does (.correctedWriteback pc) s [.parts, .hbm, .out] fun t =>
      (pcOf t pc).writeback = rest ∧ lineFlag t l = 3 ∧ OnlyPc pc s t ∧ t.hbm.mem = s.hbm.mem) ∧
  (∀ (pc sev : Nat) (s : State),
    s.UnitWf →
    (pcOf s pc).patrol < pcLines →
    pcServes s pc = true →
    cellPermitted s pc = true →
    pcDead s pc = false →
    (pcOf s pc).queue = [] →
    (pcOf s pc).cacheQ = [] →
    (pcOf s pc).writeback = [] →
    (stackOf s (pc / 32)).selfRefresh = false →
    Does (.patrolScrub pc sev) s [.ctl, .hbm, .regs, .logs, .counters] fun t =>
      (pcOf t pc).patrol = ((pcOf s pc).patrol + 1) % pcLines ∧ OnlyPc pc s t ∧ t.hbm.mem = s.hbm.mem) ∧
  (∀ (pc row : Nat) (s : State),
    s.UnitWf →
    pcServes s pc = true →
    (pcOf s pc).auto = true →
    (pcOf s pc).failing.contains row = true →
    Does (.hbmSoftRepair pc row true) s [.ctl, .hbm] fun t =>
      (pcOf t pc).failing = (pcOf s pc).failing.erase row ∧ (pcOf t pc).repaired = row :: (pcOf s pc).repaired ∧ (pcOf t pc).kept = (pcOf s pc).kept ∧ OnlyPc pc s t ∧
      t.ctl.eventQ = s.ctl.eventQ ++ [(⟨0x5003, 1, pc, some (row / 4), hbmEndpoint pc, 0⟩ : FaultPkt)] ∧ t.hbm.mem = s.hbm.mem) ∧
  (∀ (pc row : Nat) (s : State),
    s.UnitWf →
    pcServes s pc = true →
    (pcOf s pc).auto = true →
    (pcOf s pc).failing.contains row = true →
    Does (.hbmSoftRepair pc row false) s [.ctl, .hbm] fun t =>
      (pcOf t pc).failing = (pcOf s pc).failing.erase row ∧ (pcOf t pc).kept = row :: (pcOf s pc).kept ∧ (pcOf t pc).repaired = (pcOf s pc).repaired ∧ (pcOf t pc).exhausted.contains (bankOfRow row) = true ∧ OnlyPc pc s t ∧
      t.ctl.eventQ = s.ctl.eventQ ++ [(⟨0x5009, 0, pc, some (row / 4), hbmEndpoint pc, 0⟩ : FaultPkt),
        ⟨0x5005, 5, pc, some (bankOfRow row), hbmEndpoint pc, 0⟩] ∧ t.hbm.mem = s.hbm.mem) ∧
  (∀ (k : Nat) (raw : BitVec 16) (s : State),
    s.UnitWf →
    k < 8 →
    (stackOf s k).trained = true →
    Does (.hbmTempSample k raw) s [.parts, .ctl, .hbm, .pm, .counters] fun t =>
      (sensorOf t (hbmSensor k)).raw = raw ∧ (stackOf t k).level =
        (if (sensorOf t (hbmSensor k)).plausible then nextLevel (stackOf s k).level raw.toInt else 2) ∧ t.hbm.mem = s.hbm.mem)

/-- R109, R146, R321. -/
def Obligations.HostTransfers : Prop :=
  (∀ (k i beat : Nat) (h : HostRec) (r q : Run) (d : HostHold) (s : State),
    hostRecord s k i beat = some (h, r) →
    h.dir = 0 →
    (advance ((h.tick + beat) % 4096 - frameOffset s) s).PlaneWf →
    (part (advance ((h.tick + beat) % 4096 - frameOffset s) s) k).run = some q →
    r.hostData.find? (heldHere h r i beat) = some d →
    d.failed = false →
    DoesFrom (.hostTransferBeat k i beat) s (advance ((h.tick + beat) % 4096 - frameOffset s) s) [.parts] fun t =>
      (part t k).pipe.arrivals = (⟨hostRim h, hostPort h, Beat.of d.data false, (part (advance ((h.tick + beat) % 4096 - frameOffset s) s) k).ptick + 2⟩ : Arrival) :: (part (advance ((h.tick + beat) % 4096 - frameOffset s) s) k).pipe.arrivals ∧
      (part t k).run = some { q with hostData := q.hostData.filter fun x => !(heldHere h r i beat x) } ∧ OnlyPart k (advance ((h.tick + beat) % 4096 - frameOffset s) s) t) ∧
  (∀ (k i beat : Nat) (h : HostRec) (r q : Run) (s : State),
    hostRecord s k i beat = some (h, r) →
    h.dir = 0 →
    r.dropped = false →
    (advance ((h.tick + beat) % 4096 - frameOffset s) s).PlaneWf →
    (part (advance ((h.tick + beat) % 4096 - frameOffset s) s) k).run = some q →
    r.hostData.find? (heldHere h r i beat) = none →
    DoesFrom (.hostTransferBeat k i beat) s (advance ((h.tick + beat) % 4096 - frameOffset s) s) [.parts] fun t =>
      (part t k).pipe.arrivals = (⟨hostRim h, hostPort h, Beat.of 0 false, (part (advance ((h.tick + beat) % 4096 - frameOffset s) s) k).ptick + 2⟩ : Arrival) :: (part (advance ((h.tick + beat) % 4096 - frameOffset s) s) k).pipe.arrivals ∧
      (∃ z, (part t k).run = some z ∧ z.hostLate = true ∧ z.breach = q.breach) ∧ OnlyPart k (advance ((h.tick + beat) % 4096 - frameOffset s) s) t) ∧
  (∀ (k i beat : Nat) (h : HostRec) (r : Run) (b : BufEntry) (s : State),
    hostRecord s k i beat = some (h, r) →
    h.dir ≠ 0 →
    r.dropped = false →
    r.bufs[h.buf]? = some b →
    (edgeBeatAt (part (advance ((h.tick + beat) % 4096 - frameOffset s) s) k).pipe (hostRim h) (hostPort h) (part (advance ((h.tick + beat) % 4096 - frameOffset s) s) k).ptick).valid = true →
    DoesFrom (.hostTransferBeat k i beat) s (advance ((h.tick + beat) % 4096 - frameOffset s) s) [.parts, .out] fun t =>
      t.out = (advance ((h.tick + beat) % 4096 - frameOffset s) s).out ++ [Output.hostWrite r.fn (b.addr + h.offset + 64 * beat) 64
        (edgeBeatAt (part (advance ((h.tick + beat) % 4096 - frameOffset s) s) k).pipe (hostRim h) (hostPort h) (part (advance ((h.tick + beat) % 4096 - frameOffset s) s) k).ptick).data.toNat
        (edgeBeatAt (part (advance ((h.tick + beat) % 4096 - frameOffset s) s) k).pipe (hostRim h) (hostPort h) (part (advance ((h.tick + beat) % 4096 - frameOffset s) s) k).ptick).poison b.ns b.rlx] ∧ OnlyPart k (advance ((h.tick + beat) % 4096 - frameOffset s) s) t) ∧
  (∀ (k f i beat : Nat) (d : LineData) (e : Bool) (r : Run) (s : State),
    (part s k).run = some r →
    r.dropped = false →
    Does (.hostReadData k f i beat d e) s [.parts] fun t =>
      (part t k).run = some { r with
        hostData := (⟨f, i, beat, d, e⟩ : HostHold) :: r.hostData.filter fun x => !(x.frame == f && x.recIdx == i && x.beat == beat)
        hostAbort := r.hostAbort || e } ∧ (part t k).pipe = (part s k).pipe ∧ OnlyPart k s t)

/-- R191 to R195, R201. -/
def Obligations.CompressorCommands : Prop :=
  (∀ (router k port : Nat) (a : Arrival) (s : State),
    partOf s router = some k →
    routerX router = 127 →
    eastPort (routerY router) = some port →
    edgeNow (part s k).pipe (part s k).ptick router = some a →
    tickRuns s = true →
    (part s k).parked = false →
    windowOpen (openBefore k port a s) port = false →
    ¬((compOf (openBefore k port a s) port 0).took.1 = a.at_ ∧ (compOf (openBefore k port a s) port 0).took.2.contains router = true) →
    (openBefore k port a s).UnitWf →
    DoesFrom (.descriptorBeat router) s (openBefore k port a s) [.comp] fun t =>
      compOf t port (bits a.beat.data.toNat 3 1) = { compOf (openBefore k port a s) port (bits a.beat.data.toNat 3 1) with next := some (descOf a.beat.data.toNat) } ∧
      compOf t port (1 - bits a.beat.data.toNat 3 1) = compOf (openBefore k port a s) port (1 - bits a.beat.data.toNat 3 1)) ∧
  (∀ (router k port : Nat) (a : Arrival) (s : State),
    partOf s router = some k →
    routerX router = 127 →
    eastPort (routerY router) = some port →
    edgeNow (part s k).pipe (part s k).ptick router = some a →
    tickRuns s = true →
    (part s k).parked = false →
    windowOpen (openBefore k port a s) port = true →
    notTaken (compOf (openBefore k port a s) port 0) a.at_ router = true →
    (compOf (openBefore k port a s) port 0).entered + 1 < ((compOf (openBefore k port a s) port 0).window.map fun w => denseBeats (compOf (openBefore k port a s) port 0).desc w.2.2.1).getD 0 →
    (openBefore k port a s).UnitWf →
    DoesFrom (.descriptorBeat router) s (openBefore k port a s) [.comp, .ctl, .lat, .counters] fun t =>
      (compOf t port 0).entered = (compOf (openBefore k port a s) port 0).entered + 1 ∧ (compOf t port 0).window = (compOf (openBefore k port a s) port 0).window ∧ (compOf t port 0).next = (compOf (openBefore k port a s) port 0).next ∧
      compOf t port 1 = compOf (openBefore k port a s) port 1) ∧
  (∀ (port k : Nat) (r : DenseBeat) (rest : List DenseBeat) (s : State),
    partOf s (windowRouter port 0) = some k →
    (compOf s port 0).residuals = r :: rest →
    tickRuns s = true →
    (part s k).parked = false →
    (toPartTick k r.at_ s).clk.held = false →
    (part (toPartTick k r.at_ s) k).parked = false →
    (toPartTick k r.at_ s).UnitWf →
    (toPartTick k r.at_ s).PlaneWf →
    DoesFrom (.residualReturn port) s (toPartTick k r.at_ s) [.comp, .parts] fun t =>
      (compOf t port 0).residuals = (compOf (toPartTick k r.at_ s) port 0).residuals.filter (fun (x : DenseBeat) => x.at_ != r.at_) ∧
      (part t k).pipe = ((compOf (toPartTick k r.at_ s) port 0).residuals.filter fun (x : DenseBeat) => x.at_ == r.at_).foldl
        (fun (q : Pipe) (x : DenseBeat) => arrive x.router portEdge x.beat (x.at_ + 2) q) (part (toPartTick k r.at_ s) k).pipe ∧ OnlyPart k (toPartTick k r.at_ s) t) ∧
  (∀ (port k a b c : Nat) (w : BitVec 32) (r : CompRec) (rest : List CompRec) (s : State),
    partOf s (windowRouter port 0) = some k →
    (compOf s port 0).records = r :: rest →
    tickRuns s = true →
    (part s k).parked = false →
    (toPartTick k r.at_ s).clk.held = false →
    (part (toPartTick k r.at_ s) k).parked = false →
    (compOf (toPartTick k r.at_ s) port 0).records = r :: rest →
    (compOf (toPartTick k r.at_ s) port 0).window = some (a, b, c, w) →
    (compOf (toPartTick k r.at_ s) port 0).fault = false →
    (compOf (toPartTick k r.at_ s) port 0).wire.length < 3 →
    r.last = false →
    (compOf (toPartTick k r.at_ s) port 0).tailLen + r.len < 64 →
    DoesFrom (.compressedRecordHandover port) s (toPartTick k r.at_ s) [.comp, .ctl, .lat, .counters] fun t =>
      compOf t port 0 = { compOf (toPartTick k r.at_ s) port 0 with
        records := rest, tail := (compOf (toPartTick k r.at_ s) port 0).tail + r.bytes % 2 ^ (8 * r.len) * 2 ^ (8 * (compOf (toPartTick k r.at_ s) port 0).tailLen)
        tailLen := (compOf (toPartTick k r.at_ s) port 0).tailLen + r.len, tailPoison := (compOf (toPartTick k r.at_ s) port 0).tailPoison || r.poison }) ∧
  (∀ (port k a b c : Nat) (w : BitVec 32) (r : CompRec) (rest : List CompRec) (s : State),
    partOf s (windowRouter port 0) = some k →
    (compOf s port 0).records = r :: rest →
    tickRuns s = true →
    (part s k).parked = false →
    (toPartTick k r.at_ s).clk.held = false →
    (part (toPartTick k r.at_ s) k).parked = false →
    (compOf (toPartTick k r.at_ s) port 0).records = r :: rest →
    (compOf (toPartTick k r.at_ s) port 0).window = some (a, b, c, w) →
    r.last = true →
    (toPartTick k r.at_ s).UnitWf →
    DoesFrom (.compressedRecordHandover port) s (toPartTick k r.at_ s) [.comp, .ctl, .lat, .counters] fun t =>
      (compOf t port 0).window = none ∧ (compOf t port 0).records = rest ∧ (compOf t port 0).wire = [] ∧ (compOf t port 0).fault = false)

/-- R479 to R481, R484. -/
def Obligations.LatticeWindows : Prop :=
  (∀ (k i beat : Nat) (r : LatRec) (s : State),
    latRecord s k i 0 = some r →
    beatTick r beat < 4096 →
    frameOffset s ≤ beatTick r beat + 12 →
    (openDue k r.port (beatTick r beat) (advance (beatTick r beat - frameOffset s) s)) = openWindow r.port i r (advance (beatTick r beat - frameOffset s) s) →
    1 < denseBeats ((compOf (advance (beatTick r beat - frameOffset s) s) r.port 0).next.getD (compOf (advance (beatTick r beat - frameOffset s) s) r.port 0).desc) (r.beatsM1 + 1) →
    (advance (beatTick r beat - frameOffset s) s).UnitWf →
    DoesFrom (.latticeWindowEntry k i beat) s (advance (beatTick r beat - frameOffset s) s) [.comp, .ctl, .lat, .counters] fun t =>
      (compOf t r.port 0).window = some (i, r.peer, r.beatsM1 + 1, stampNow (advance (beatTick r beat - frameOffset s) s)) ∧ (compOf t r.port 0).opened = some (i, stampNow (advance (beatTick r beat - frameOffset s) s)) ∧ (compOf t r.port 0).entered ≤ 1 ∧
      (compOf t r.port 0).next = none ∧ (compOf t r.port 0).desc = ((compOf (advance (beatTick r beat - frameOffset s) s) r.port 0).next.getD (compOf (advance (beatTick r beat - frameOffset s) s) r.port 0).desc)) ∧
  (∀ (k i beat : Nat) (w : BitVec 32) (r : LatRec) (s : State),
    latRecord s k i 0 = some r →
    beatTick r beat < 4096 →
    frameOffset s ≤ beatTick r beat + 12 →
    (compOf (openDue k r.port (beatTick r beat) (advance (beatTick r beat - frameOffset s) s)) r.port 0).window = some (i, r.peer, r.beatsM1 + 1, w) →
    (compOf (openDue k r.port (beatTick r beat) (advance (beatTick r beat - frameOffset s) s)) r.port 0).desc.passes = true →
    (compOf (openDue k r.port (beatTick r beat) (advance (beatTick r beat - frameOffset s) s)) r.port 0).fault = false →
    (compOf (openDue k r.port (beatTick r beat) (advance (beatTick r beat - frameOffset s) s)) r.port 0).tailLen = 0 →
    (compOf (openDue k r.port (beatTick r beat) (advance (beatTick r beat - frameOffset s) s)) r.port 0).tail = 0 →
    (compOf (openDue k r.port (beatTick r beat) (advance (beatTick r beat - frameOffset s) s)) r.port 0).tailPoison = false →
    (compOf (openDue k r.port (beatTick r beat) (advance (beatTick r beat - frameOffset s) s)) r.port 0).wire.length < 2 →
    (compOf (openDue k r.port (beatTick r beat) (advance (beatTick r beat - frameOffset s) s)) r.port 0).entered < r.beatsM1 →
    notTaken (compOf (openDue k r.port (beatTick r beat) (advance (beatTick r beat - frameOffset s) s)) r.port 0) ((part (advance (beatTick r beat - frameOffset s) s) k).ptick - (frameOffset (advance (beatTick r beat - frameOffset s) s) - beatTick r beat)) (windowRouter r.port beat) = true →
    (edgeBeatAt (part (advance (beatTick r beat - frameOffset s) s) k).pipe (windowRouter r.port beat) portEdge ((part (advance (beatTick r beat - frameOffset s) s) k).ptick - (frameOffset (advance (beatTick r beat - frameOffset s) s) - beatTick r beat))).valid = true →
    (openDue k r.port (beatTick r beat) (advance (beatTick r beat - frameOffset s) s)).UnitWf →
    DoesFrom (.latticeWindowEntry k i beat) s (openDue k r.port (beatTick r beat) (advance (beatTick r beat - frameOffset s) s)) [.comp, .ctl, .lat, .counters] fun t =>
      (let b := edgeBeatAt (part (advance (beatTick r beat - frameOffset s) s) k).pipe (windowRouter r.port beat) portEdge ((part (advance (beatTick r beat - frameOffset s) s) k).ptick - (frameOffset (advance (beatTick r beat - frameOffset s) s) - beatTick r beat))
       (compOf t r.port 0).entered = (compOf (openDue k r.port (beatTick r beat) (advance (beatTick r beat - frameOffset s) s)) r.port 0).entered + 1 ∧ (compOf t r.port 0).wire = (compOf (openDue k r.port (beatTick r beat) (advance (beatTick r beat - frameOffset s) s)) r.port 0).wire ++ [(b.data, b.poison)] ∧
       (compOf t r.port 0).window = (compOf (openDue k r.port (beatTick r beat) (advance (beatTick r beat - frameOffset s) s)) r.port 0).window ∧ (compOf t r.port 0).desc = (compOf (openDue k r.port (beatTick r beat) (advance (beatTick r beat - frameOffset s) s)) r.port 0).desc ∧ (compOf t r.port 0).records = (compOf (openDue k r.port (beatTick r beat) (advance (beatTick r beat - frameOffset s) s)) r.port 0).records)) ∧
  (∀ (k i beat : Nat) (r : LatRec) (s : State),
    latRecord s k i 0 = some r →
    4096 ≤ beatTick r beat ∨ beatTick r beat + 12 < frameOffset s →
    Does (.latticeWindowEntry k i beat) s [] fun t =>
      t = s) ∧
  (∀ (k i beat : Nat) (r : LatRec) (v : StoredWin) (s : State),
    latRecord s k i 1 = some r →
    beatTick r beat < 4096 →
    frameOffset s ≤ beatTick r beat →
    beat ≠ 0 →
    beat + 1 < denseBeats (compOf (advance (beatTick r beat - frameOffset s) s) r.port 1).desc (r.beatsM1 + 1) →
    (compOf (advance (beatTick r beat - frameOffset s) s) r.port 1).fault = false →
    incomingWin (advance (beatTick r beat - frameOffset s) s) r = some v →
    v.late = false →
    v.failed = false →
    (advance (beatTick r beat - frameOffset s) s).PlaneWf →
    DoesFrom (.latticeWindowPresent k i beat) s (advance (beatTick r beat - frameOffset s) s) [.parts] fun t =>
      (part t k).pipe = arrive (windowRouter r.port beat) portEdge (presentBeat (compOf (advance (beatTick r beat - frameOffset s) s) r.port 1).desc v beat) ((part (advance (beatTick r beat - frameOffset s) s) k).ptick + 2) (part (advance (beatTick r beat - frameOffset s) s) k).pipe ∧ OnlyPart k (advance (beatTick r beat - frameOffset s) s) t) ∧
  (∀ (k i beat : Nat) (r : LatRec) (s : State),
    latRecord s k i 1 = some r →
    beatTick r beat < 4096 →
    frameOffset s ≤ beatTick r beat →
    beat ≠ 0 →
    beat + 1 < denseBeats (compOf (advance (beatTick r beat - frameOffset s) s) r.port 1).desc (r.beatsM1 + 1) →
    (∀ v, incomingWin (advance (beatTick r beat - frameOffset s) s) r = some v → v.late = true ∨ v.failed = true) →
    DoesFrom (.latticeWindowPresent k i beat) s (advance (beatTick r beat - frameOffset s) s) [.parts] fun t =>
      (part t k).pipe.arrivals = (⟨windowRouter r.port beat, portEdge, Beat.of 0 true, (part (advance (beatTick r beat - frameOffset s) s) k).ptick + 2⟩ : Arrival) :: (part (advance (beatTick r beat - frameOffset s) s) k).pipe.arrivals ∧ OnlyPart k (advance (beatTick r beat - frameOffset s) s) t) ∧
  (∀ (k i beat : Nat) (r : LatRec) (v : StoredWin) (s : State),
    latRecord s k i 1 = some r →
    beatTick r beat < 4096 →
    frameOffset s ≤ beatTick r beat →
    beat ≠ 0 →
    beat + 1 = denseBeats (compOf (advance (beatTick r beat - frameOffset s) s) r.port 1).desc (r.beatsM1 + 1) →
    incomingWin (advance (beatTick r beat - frameOffset s) s) r = some v →
    DoesFrom (.latticeWindowPresent k i beat) s (advance (beatTick r beat - frameOffset s) s) [.parts, .comp, .lat] fun t =>
      storedWin t v.port v.src v.stamp = none ∧ (compOf t r.port 1).fault = false ∧ OnlyPart k (advance (beatTick r beat - frameOffset s) s) t)

/-- R313, R329, R613. -/
def Obligations.RingDoorbells : Prop :=
  (∀ (fn ring : Nat) (v : BitVec 32) (s : State),
    barServed s fn = true →
    flrBusy s fn = false →
    (ringOf (settleFlush fn ring s) fn ring).regs.enabled = true →
    ((v.truncate 24 : BitVec 24) - (ringOf (settleFlush fn ring s) fn ring).head).toNat ≤ (ringOf (settleFlush fn ring s) fn ring).size →
    ((v >>> 24).truncate 8 : BitVec 8) = (ringOf (settleFlush fn ring s) fn ring).epoch →
    (ringOf (settleFlush fn ring s) fn ring).exposed < ((v.truncate 24 : BitVec 24) - (ringOf (settleFlush fn ring s) fn ring).head).toNat →
    Does (.ringDoorbell fn ring v true) s [.parts, .hbm, .rings, .out] fun t =>
      ringOf t fn ring = { ringOf (settleFlush fn ring s) fn ring with tail := v.truncate 24, bells := (ringOf (settleFlush fn ring s) fn ring).bells ++ [((v.truncate 24 : BitVec 24), s.clk.tick.toNat)] } ∧ OnlyRing fn ring s t) ∧
  (∀ (fn ring : Nat) (v : BitVec 32) (w : Bool) (s : State),
    barServed s fn = true →
    flrBusy s fn = false →
    s.HostWf →
    (ringOf (settleFlush fn ring s) fn ring).regs.enabled = false ∨ w = false ∨ (ringOf (settleFlush fn ring s) fn ring).size < ((v.truncate 24 : BitVec 24) - (ringOf (settleFlush fn ring s) fn ring).head).toNat →
    Does (.ringDoorbell fn ring v w) s [.ctl, .rings, .counters, .out] fun t =>
      counter t 0x0301 (ringKey fn ring) = counterAdd 0x0301 (counter s 0x0301 (ringKey fn ring)) 1 ∧ (ringOf t fn ring).tail = (ringOf (settleFlush fn ring s) fn ring).tail ∧
      (fnOf t fn).attn.getLsbD ring = (decide (ring < 32) || (fnOf s fn).attn.getLsbD ring) ∧ OnlyRing fn ring s t) ∧
  (∀ (fn ring : Nat) (v : BitVec 32) (s : State),
    barServed s fn = true →
    flrBusy s fn = false →
    s.HostWf →
    (ringOf s fn ring).regs.enabled = true →
    ((v.truncate 24 : BitVec 24) - (ringOf (settleFlush fn ring s) fn ring).head).toNat ≤ (ringOf (settleFlush fn ring s) fn ring).size →
    ((v >>> 24).truncate 8 : BitVec 8) ≠ (ringOf (settleFlush fn ring s) fn ring).epoch →
    Does (.ringDoorbell fn ring v true) s [.ctl, .rings, .counters, .out] fun t =>
      counter t 0x0302 (ringKey fn ring) = counterAdd 0x0302 (counter s 0x0302 (ringKey fn ring)) 1 ∧ (ringOf t fn ring).tail = (ringOf (settleFlush fn ring s) fn ring).tail ∧ OnlyRing fn ring s t) ∧
  (∀ (fn ring : Nat) (v : BitVec 32) (s : State),
    barServed s fn = true →
    flrBusy s fn = false →
    (ringOf (settleFlush fn ring s) fn ring).regs.enabled = true →
    ((v.truncate 24 : BitVec 24) - (ringOf (settleFlush fn ring s) fn ring).head).toNat ≤ (ringOf (settleFlush fn ring s) fn ring).size →
    ((v >>> 24).truncate 8 : BitVec 8) = (ringOf (settleFlush fn ring s) fn ring).epoch →
    ((v.truncate 24 : BitVec 24) - (ringOf (settleFlush fn ring s) fn ring).head).toNat ≤ (ringOf (settleFlush fn ring s) fn ring).exposed →
    Does (.ringDoorbell fn ring v true) s [.rings] fun t =>
      t.rings = (settleFlush fn ring s).rings) ∧
  (∀ (fn ring : Nat) (v : BitVec 32) (w : Bool) (s : State),
    barServed s fn = false →
    Does (.ringDoorbell fn ring v w) s [.out] fun t =>
      t.out = s.out ++ [Output.unsupported fn]) ∧
  (∀ (fn ring : Nat) (v : BitVec 32) (s : State),
    barServed s fn = true →
    flrBusy s fn = false →
    s.HostWf →
    ((ringOf s fn ring).cqw - (v.truncate 24 : BitVec 24)).toNat ≤ (ringOf s fn ring).cqSize →
    Does (.cqHeadDoorbell fn ring v) s [.rings] fun t =>
      (let q : Ring := { ringOf s fn ring with cqh := v.truncate 24 }
       ringOf t fn ring = if q.flushPend && q.entryFree then { q.flush with stopPend := false, regs := { q.regs with enabled := q.regs.enabled && !q.stopPend } } else q) ∧ OnlyRing fn ring s t) ∧
  (∀ (fn ring : Nat) (s : State),
    barServed s fn = true →
    flrBusy s fn = false →
    (ringOf s fn ring).regs.enabled = true →
    Does (.flushRequest fn ring) s [.rings] fun t =>
      ringOf t fn ring = { ringOf s fn ring with flushPend := true } ∧ OnlyRing fn ring s t)

/-- R315, R329, R334 to R340. -/
def Obligations.RingEngine : Prop :=
  (∀ (fn ring : Nat) (us : List (BitVec 512)) (s : State),
    (ringOf s fn ring).regs.enabled = true →
    us.length ≤ min (64 - (ringOf s fn ring).units.length) ((ringOf s fn ring).tail - (ringOf s fn ring).fetch).toNat →
    Does (.ringFetch fn ring us []) s [.parts, .hbm, .rings, .out] fun t =>
      (ringOf t fn ring).units = (ringOf s fn ring).units ++ us ∧ (ringOf t fn ring).fetch = (ringOf s fn ring).fetch + BitVec.ofNat 24 us.length ∧
      (ringOf t fn ring).head = (ringOf s fn ring).head ∧ (∀ o ∈ unitReads fn (ringOf s fn ring) (ringOf s fn ring).fetch.toNat us.length, Sent o s t) ∧ OnlyRing fn ring s t) ∧
  (∀ (fn ring rest : Nat) (s : State),
    s.HostWf →
    (ringOf s fn ring).flushPend = true →
    (ringOf s fn ring).entryFree = true →
    Does (.flushEffect fn ring rest) s [.rings, .out] fun t =>
      (ringOf t fn ring).head = (ringOf s fn ring).tail ∧ (ringOf t fn ring).units = [] ∧ (ringOf t fn ring).epoch = (ringOf s fn ring).epoch + 1 ∧ (ringOf t fn ring).expSeq = none ∧
      (ringOf t fn ring).flushPend = false ∧ (ringOf t fn ring).outst = (ringOf s fn ring).outst ∧
      (ringOf t fn ring).regs.enabled = ((ringOf s fn ring).regs.enabled && !(ringOf s fn ring).stopPend) ∧ OnlyRing fn ring s t ∧
      Sent (ringEntry fn ring ({ ringOf s fn ring with head := (ringOf s fn ring).tail, epoch := (ringOf s fn ring).epoch + 1, writes := (ringOf s fn ring).writes + (ringOf s fn ring).marks.length }) ((ringOf s fn ring).lastSeq) (0) (frameNumber s) ⟨stFlushDone, 0, ((heldSeqs (ringOf s fn ring).units.length (ringOf s fn ring).units).length + if (ringOf s fn ring).fetch = (ringOf s fn ring).tail then 0 else rest) % 2 ^ 32, false, frameNumber s⟩) s t) ∧
  (∀ (fn ring rest i : Nat) (s : State),
    s.HostWf →
    i < (ringOf (settleFlush fn ring s) fn ring).marks.length →
    Does (.flushEffect fn ring rest) s [.rings, .out] fun t =>
      (let m := (ringOf (settleFlush fn ring s) fn ring).marks.getD i ⟨0, 0, false, 0⟩
       Sent (ringEntry fn ring { ringOf (settleFlush fn ring s) fn ring with writes := (ringOf (settleFlush fn ring s) fn ring).writes + i } m.seq 0 (frameNumber s)
         ⟨stFlushDone, 0, (m.count + if m.more then rest else 0) % 2 ^ 32, false, frameNumber s⟩) s t) ∧
      (ringOf t fn ring).marks = [] ∧ (ringOf t fn ring).cqw = (ringOf (settleFlush fn ring s) fn ring).cqw + BitVec.ofNat 24 (ringOf (settleFlush fn ring s) fn ring).marks.length ∧ OnlyRing fn ring s t) ∧
  (∀ (fn ring : Nat) (seq : BitVec 32) (o : Outst) (d : Done) (s : State),
    s.HostWf →
    (endedRuns (ringOf s fn ring)).find? (fun o => o.seq == seq && !((endedRuns (ringOf s fn ring)).any fun a => endsBefore a o)) = some o →
    o.ended = some d →
    Does (.runComplete fn ring seq) s [.rings, .out] fun t =>
      (ringOf t fn ring).outst = (ringOf s fn ring).outst.filter (fun (a : Outst) => a.ticket != o.ticket) ∧ (ringOf t fn ring).cqw = (ringOf s fn ring).cqw + 1 ∧ OnlyRing fn ring s t ∧
      Sent (ringEntry fn ring ((ringOf s fn ring)) (o.seq) (o.user) (o.frame) d) s t) ∧
  (∀ (fn ring t0 : Nat) (s : State),
    s.HostWf →
    (ringOf s fn ring).modSince = some t0 →
    (ringOf s fn ring).regs.vec ≠ 0xF →
    (Tab.get Vector.reset s.rings.vec (8 * fn + (ringOf s fn ring).regs.vec)).masked = false →
    Does (.interruptTimer fn ring) s [.clk, .rings, .out] fun t =>
      t.out = s.out ++ [Output.msix fn (ringOf s fn ring).regs.vec] ∧ (ringOf t fn ring).modSince = none ∧ (ringOf t fn ring).modSeen = 0 ∧ OnlyRing fn ring s t ∧ t.clk.tick = s.clk.tick)

/-- R316 to R318, R322 to R324, R326, R392, R403. -/
def Obligations.ItemsConsumed : Prop :=
  (∀ (fn ring x : Nat) (s : State),
    ring < 2 →
    consumable s fn ring = some x →
    itOpcode x = 1 →
    s.HostWf →
    Does (.nop fn ring) s [.rings, .out] fun t =>
      (ringOf t fn ring).head = (ringOf s fn ring).head + BitVec.ofNat 24 (itUnits x) ∧ (ringOf t fn ring).expSeq = some (itSeq x + 1) ∧ OnlyRing fn ring s t ∧
      Sent (ringEntry fn ring (takeHead s x none (ringOf s fn ring)) (itSeq x) (itUser x) (frameNumber s) ⟨(badHead s fn ring x).getD stSuccess, 0, 0, false, frameNumber s⟩) s t) ∧
  (∀ (fn ring x : Nat) (u s : State),
    2 ≤ ring →
    startTurn fn ring s = some (x, u) →
    itOpcode x = 1 →
    DoesFrom (.nop fn ring) s (u) [.rings, .out] fun t =>
      (ringOf t fn ring).lastSeq = itSeq x ∧ OnlyRing fn ring u t ∧
      Sent (ringEntry fn ring (takeHead u x none (ringOf u fn ring)) (itSeq x) (itUser x) (frameNumber u) ⟨(badHead s fn ring x).getD stSuccess, 0, 0, false, frameNumber u⟩) u t) ∧
  (∀ (fn ring x : Nat) (l : List (Option LineData)) (u s : State),
    ring = 2 →
    startTurn fn 2 s = some (x, u) →
    itOpcode x = 0x20 →
    badHead s fn 2 x = none →
    stageRangeOk u x = false →
    DoesFrom (.stageStart fn l) s (u) [.rings, .out] fun t =>
      (ringOf t fn 2).lastSeq = itSeq x ∧
      Sent (ringEntry fn ring (takeHead u x none (ringOf u fn 2)) (itSeq x) (itUser x) (frameNumber u) ⟨stRange, 0, 0, false, frameNumber u⟩) u t) ∧
  (∀ (fn x : Nat) (l : List (Option LineData)) (u s : State),
    startTurn fn 2 s = some (x, u) →
    itOpcode x = 0x20 →
    badHead s fn 2 x = none →
    stageRangeOk u x = true →
    stageWindowOk u fn x = true →
    stageRefusal u x = none →
    stageSpace x = 1 →
    stageToHost x = true →
    stageLen x = 64 →
    DoesFrom (.stageStart fn l) s (u) [.rings, .hbm] fun t =>
      (ringOf t fn 2).outst = (ringOf u fn 2).outst ++ [{ outstOf u x with left := 1 }] ∧ (ringOf t fn 2).lastSeq = itSeq x ∧
      (let n := unitLine (tgStack (stageTarget x)) (tgUnit (stageTarget x)) (tgOff (stageTarget x))
       (pcOf t (n / pcLines)).queue = (pcOf u (n / pcLines)).queue ++ [(⟨n, false, 0, false, .stage fn u.rings.next 0⟩ : UReq)] ∧
       OnlyPc (n / pcLines) u t ∧ t.hbm.mem = u.hbm.mem)) ∧
  (∀ (fn x : Nat) (d : LineData) (u s : State),
    startTurn fn 2 s = some (x, u) →
    itOpcode x = 0x20 →
    badHead s fn 2 x = none →
    stageRangeOk u x = true →
    stageWindowOk u fn x = true →
    stageRefusal u x = none →
    stageSpace x = 1 →
    stageToHost x = false →
    stageLen x = 64 →
    DoesFrom (.stageStart fn [some d]) s (u) [.rings, .hbm, .out] fun t =>
      t.out = u.out ++ [Output.hostRead fn (stageHost x) 64 (bit1 x 131)] ∧
      (let n := unitLine (tgStack (stageTarget x)) (tgUnit (stageTarget x)) (tgOff (stageTarget x))
       (pcOf t (n / pcLines)).queue = (pcOf u (n / pcLines)).queue ++ [(⟨n, true, d, false, .stage fn u.rings.next 0⟩ : UReq)] ∧
       OnlyPc (n / pcLines) u t ∧ t.hbm.mem = u.hbm.mem)) ∧
  (∀ (fn ring x : Nat) (l : List (Option LineData)) (u s : State),
    ring = 2 →
    startTurn fn 2 s = some (x, u) →
    itOpcode x = 0x20 →
    badHead s fn 2 x = none →
    stageRangeOk u x = true →
    stageWindowOk u fn x = false →
    u.HostWf →
    DoesFrom (.stageStart fn l) s (u) [.rings, .out, .win, .counters, .ctl] fun t =>
      (ringOf t fn 2).lastSeq = itSeq x ∧ counter t 0x0303 fn = counterAdd 0x0303 (counter u 0x0303 fn) 1 ∧ t.buf = u.buf ∧ t.hbm = u.hbm ∧ t.dense = u.dense) ∧
  (∀ (fn ring : Nat) (o : Outst) (s : State),
    ring = 2 →
    (doneStages s fn).find? (fun o => !((doneStages s fn).any fun a => doneBefore a o)) = some o →
    Does (.stageComplete fn) s [.buf, .hbm, .tiles, .rings, .lanes, .out] fun t =>
      ((ringOf t fn 2).outst.find? (fun (a : Outst) => a.ticket == o.ticket) = none) ∧ OnlyRing fn 2 s t ∧ t.buf.mem = s.buf.mem ∧ t.hbm.mem = s.hbm.mem ∧
      Sent (ringEntry fn ring (ringOf s fn 2) (o.seq) (o.user) (o.frame) (stageDone o (frameNumber s))) s t) ∧
  (∀ (fn x : Nat) (u s : State),
    startTurn fn 2 s = some (x, u) →
    itOpcode x = 0x21 →
    badHead s fn 2 x = none →
    pcWellFormed (bits x 128 384) = true →
    (pcRights (bits x 128 384)).all (fun r => winPool u fn r.1 r.2) = true →
    pcRefusal u (bits x 128 384) none = none →
    DoesFrom (.poolItem fn) s (u) [.rings, .pool] fun t =>
      (ringOf t fn 2).outst = (ringOf u fn 2).outst ++ [outstOf u x] ∧
      t.pool.cmds = u.pool.cmds ++ [(⟨u.pool.nextId, .item fn u.rings.next, bits x 128 384, fnHolder u fn, 0, false, 0, 0,
        if pcOp (bits x 128 384) = 3 then 2 ^ 64 - 1 else 0, u.win.gen.toNat⟩ : PoolCmd)] ∧ OnlyRing fn 2 u t)

/-- R312, R341, R342, R616. With no free entry the ring stops when its flush takes effect (FLUSH_EFFECT). -/
def Obligations.RingSwitches : Prop :=
  (∀ (fn ring : Nat) (s : State),
    ring < 4 →
    barServed s fn = true →
    flrBusy s fn = false →
    s.HostWf →
    (ringOf s fn ring).regs.enabled = false →
    enableOk s fn ring = true →
    Does (.ringEnable fn ring) s [.rings] fun t =>
      ringOf t fn ring = Ring.enable (ringOf s fn ring) ∧ (ringOf t fn ring).epoch = (ringOf s fn ring).epoch ∧ OnlyRing fn ring s t) ∧
  (∀ (fn ring : Nat) (s : State),
    ring < 4 →
    barServed s fn = true →
    flrBusy s fn = false →
    (ringOf s fn ring).regs.enabled = false →
    enableOk s fn ring = false →
    Does (.ringEnable fn ring) s [.rings] fun t =>
      (ringOf t fn ring).regs = { (ringOf s fn ring).regs with cfgErr := true } ∧ OnlyRing fn ring s t) ∧
  (∀ (fn ring rest : Nat) (s : State),
    ring < 4 →
    barServed s fn = true →
    flrBusy s fn = false →
    s.HostWf →
    (ringOf s fn ring).regs.enabled = true →
    (ringOf s fn ring).entryFree = true →
    Does (.ringDisable fn ring rest) s [.rings, .out] fun t =>
      (ringOf t fn ring).regs.enabled = false ∧ (ringOf t fn ring).epoch = (ringOf s fn ring).epoch + 1 ∧ (ringOf t fn ring).units = [] ∧ (ringOf t fn ring).outst = (ringOf s fn ring).outst ∧ OnlyRing fn ring s t) ∧
  (∀ (fn ring rest : Nat) (s : State),
    ring < 4 →
    barServed s fn = true →
    flrBusy s fn = false →
    (ringOf s fn ring).regs.enabled = true →
    (ringOf s fn ring).entryFree = false →
    Does (.ringDisable fn ring rest) s [.rings] fun t =>
      ringOf t fn ring = { ringOf s fn ring with flushPend := true, stopPend := true } ∧ OnlyRing fn ring s t) ∧
  (∀ (fn : Nat) (s : State),
    fn ≠ 0 →
    fn ≤ 64 →
    s.HostWf →
    Does (.functionLevelReset fn) s [.rings, .regs, .parts] fun t =>
      (∀ r, r < 4 → ringOf t fn r = (ringOf s fn r).afterFlr) ∧ (∀ g, g < 65 → g ≠ fn → ∀ r, r < 4 → ringOf t g r = ringOf s g r) ∧ fnOf t fn = (fnOf s fn).afterFlr ∧
      (∀ v, v < 8 → (vecOf t fn v).masked = true ∧ (vecOf t fn v).pending = false)) ∧
  (∀ (s : State),
    s.HostWf →
    Does (.functionLevelReset 0) s [.boot, .rings, .regs, .parts] fun t =>
      t.boot = { s.boot with vfEnable := false } ∧ (∀ g, g < 64 → ∀ r, r < 4 → ringOf t g r = (ringOf s g r).afterFlr) ∧ (∀ r, r < 4 → ringOf t 64 r = ringOf s 64 r))

/-- R46, R331, R620, R622, R625, R626. -/
def Obligations.PriorityAndCapture : Prop :=
  (∀ (fn : Nat) (v : BitVec 64) (s : State),
    fn < 65 →
    barServed s 0 = true →
    flrBusy s 0 = false →
    s.HostWf →
    reservedClear v.toNat [(0, 3), (8, 32)] = true →
    Does (.prioWrite fn 0 v) s [.rings] fun t =>
      (fnOf t fn).cls = bits v.toNat 0 3 ∧ (∀ r, r < 4 → (ringOf t fn r).weight = bits v.toNat (8 + 8 * r) 8 ∧ (bits v.toNat (8 + 8 * r) 8 = 0 → (ringOf t fn r).swrr = 0)) ∧
      (∀ r, r < 4 → (ringOf t fn r).regs = (ringOf s fn r).regs ∧ (ringOf t fn r).units = (ringOf s fn r).units)) ∧
  (∀ (fn : Nat) (v : BitVec 64) (s : State),
    fn < 65 →
    barServed s 0 = true →
    flrBusy s 0 = false →
    reservedClear v.toNat [(0, 3), (8, 32)] = false →
    Does (.prioWrite fn 0 v) s [] fun t =>
      t.rings = s.rings) ∧
  (∀ (fn : Nat) (v : BitVec 64) (s : State),
    fn < 65 →
    barServed s 0 = true →
    flrBusy s 0 = false →
    s.HostWf →
    reservedClear v.toNat [(0, 8)] = true →
    Does (.prioWrite fn 2 v) s [.rings] fun t =>
      (ringOf t fn 3).weight = bits v.toNat 0 8 ∧ (fnOf t fn).cls = (fnOf s fn).cls ∧ (∀ r, r < 3 → ringOf t fn r = ringOf s fn r)) ∧
  (∀ s : State,
    barServed s 0 = true →
    flrBusy s 0 = false →
    Does .capture s [.clk, .regs] fun t =>
      t.clk.capTick = s.clk.tick ∧ t.clk.capRef = s.clk.refTime ∧ t.regs.cseq = (s.regs.cseq + 1) &&& 0xFFFF ∧ t.clk.tick = s.clk.tick) ∧
  (∀ (v : BitVec 64) (s : State),
    barServed s 0 = true →
    flrBusy s 0 = false →
    s.logs.ack.toNat ≤ v.toNat →
    Does (.evtAckWrite v) s [.logs] fun t =>
      t.logs.ack.toNat = min v.toNat s.logs.next.toNat ∧ t.logs.next = s.logs.next ∧ t.logs.entries.length = s.logs.entries.length) ∧
  (∀ (v : BitVec 64) (s : State),
    barServed s 0 = true →
    flrBusy s 0 = false →
    v.toNat < s.logs.ack.toNat →
    Does (.evtAckWrite v) s [] fun t =>
      t.logs = s.logs) ∧
  (∀ (v : BitVec 32) (s : State),
    barServed s 0 = true →
    flrBusy s 0 = false →
    s.regs.dbgArm = true →
    s.regs.dbgPending = false →
    1 ≤ bits v.toNat 0 4 →
    bits v.toNat 0 4 ≤ 7 →
    Does (.dbgInject v) s [.regs] fun t =>
      t.regs.dbgPending = true ∧ t.regs.dbgKind = bits v.toNat 0 4 ∧ t.regs.dbgUnit.toNat = bits v.toNat 16 16 ∧ t.regs.dbgCount = s.regs.dbgCount) ∧
  (∀ (v : BitVec 32) (s : State),
    barServed s 0 = true →
    flrBusy s 0 = false →
    s.regs.dbgArm = false ∨ s.regs.dbgPending = true ∨ bits v.toNat 0 4 = 0 ∨ 8 ≤ bits v.toNat 0 4 →
    Does (.dbgInject v) s [] fun t =>
      t.regs = s.regs)

/-- R610 to R613, R618, R626. That SEV_MIN and EN form an enable register is log entry 64. -/
def Obligations.RegisterAccess : Prop :=
  (∀ (fn off v : Nat) (s : State),
    barServed s fn = true →
    flrBusy s fn = false →
    inBar fn off = true →
    off % 8 = 0 →
    regLong s fn off = some v →
    Does (.counterLowRead fn off 4) s [.regs, .out] fun t =>
      t.out = s.out ++ [Output.regData fn off (v % 2 ^ 32)] ∧ (t.regs.latch.find? fun (e : Nat × BitVec 32) => e.1 == regKey fn off) = some (regKey fn off, BitVec.ofNat 32 (v / 2 ^ 32))) ∧
  (∀ (fn off v : Nat) (l : Nat × BitVec 32) (s : State),
    barServed s fn = true →
    flrBusy s fn = false →
    inBar fn (off + 4) = true →
    off % 8 = 0 →
    regLong s fn off = some v →
    s.regs.latch.find? (fun (e : Nat × BitVec 32) => e.1 == regKey fn off) = some l →
    Does (.counterLowRead fn (off + 4) 4) s [.regs, .out] fun t =>
      t.out = s.out ++ [Output.regData fn (off + 4) l.2.toNat] ∧ (t.regs.latch.find? fun (e : Nat × BitVec 32) => e.1 == regKey fn off) = none) ∧
  (∀ (fn off v : Nat) (s : State),
    barServed s fn = true →
    flrBusy s fn = false →
    inBar fn off = true →
    off % 8 = 0 →
    regLong s fn off = some v →
    Does (.counterLowRead fn off 8) s [.out] fun t =>
      t.out = s.out ++ [Output.regData fn off v]) ∧
  (∀ (fn off n : Nat) (s : State),
    barServed s fn = false →
    Does (.counterLowRead fn off n) s [.out] fun t =>
      t.out = s.out ++ [Output.unsupported fn]) ∧
  (∀ (fn off n v : Nat) (s : State),
    barServed s fn = false →
    Does (.registerWrite fn off n v) s [.out] fun t =>
      t.out = s.out ++ [Output.unsupported fn]) ∧
  (∀ (v : Nat) (s : State),
    barServed s 0 = true →
    flrBusy s 0 = false →
    Does (.registerWrite 0 0x30004 4 v) s [.regs] fun t =>
      t.regs = { s.regs with stsAttn := s.regs.stsAttn &&& ~~~(BitVec.ofNat 32 v) }) ∧
  (∀ (fn v : Nat) (s : State),
    barServed s fn = true →
    flrBusy s fn = false →
    s.HostWf →
    Does (.registerWrite fn 0x2004 4 v) s [.rings] fun t =>
      (fnOf t fn).attn = (fnOf s fn).attn &&& ~~~(BitVec.ofNat 32 v &&& 0x1FF) ∧ t.rings.ring = s.rings.ring) ∧
  (∀ (v : Nat) (s : State),
    barServed s 0 = true →
    flrBusy s 0 = false →
    v < 2 ^ 64 →
    Does (.registerWrite 0 0x80008 8 v) s [.regs] fun t =>
      t.regs = { s.regs with dbgScratch := BitVec.ofNat 64 v }) ∧
  (∀ (fn ring v : Nat) (s : State),
    barServed s fn = true →
    flrBusy s fn = false →
    ring < 4 →
    s.HostWf →
    (ringOf s fn ring).regs.enabled = false →
    Does (.registerWrite fn (0x40 * ring + 0x10) 4 v) s [.rings, .regs] fun t =>
      (ringOf t fn ring).regs = { (ringOf s fn ring).regs with sizeLog := bits v 0 5, cqSizeLog := bits v 8 5, vec := bits v 16 4 } ∧ OnlyRing fn ring s t) ∧
  (∀ (fn ring v : Nat) (s : State),
    barServed s fn = true →
    flrBusy s fn = false →
    ring < 4 →
    (ringOf s fn ring).regs.enabled = true →
    Does (.registerWrite fn (0x40 * ring + 0x10) 4 v) s [] fun t =>
      t.rings = s.rings) ∧
  (∀ (v : BitVec 32) (s : State),
    barServed s 0 = true →
    flrBusy s 0 = false →
    Does (.attentionEnableWrite 0 1 v) s [.regs, .rings, .out] fun t =>
      t.regs = { s.regs with stsAttnEn := v &&& 0x1F } ∧ ((s.regs.stsAttn &&& (v &&& 0x1F) &&& ~~~s.regs.stsAttnEn) ≠ 0 → (Tab.get Vector.reset s.rings.vec 5).masked = false → Sent (Output.msix 0 5) s t)) ∧
  (∀ (v : BitVec 32) (s : State),
    barServed s 0 = true →
    flrBusy s 0 = false →
    Does (.attentionEnableWrite 0 2 v) s [.regs, .rings, .out] fun t =>
      t.regs = { s.regs with evtSevMin := bits v.toNat 0 3, evtEn := v.getLsbD 3 }) ∧
  (∀ (v : BitVec 32) (s : State),
    barServed s 0 = true →
    flrBusy s 0 = false →
    Does (.attentionEnableWrite 0 3 v) s [.regs, .rings, .out] fun t =>
      t.regs = { s.regs with pwrAttnEn := v &&& 0x1F }) ∧
  (∀ (fn : Nat) (v : BitVec 32) (s : State),
    barServed s fn = true →
    flrBusy s fn = false →
    s.HostWf →
    Does (.attentionEnableWrite fn 0 v) s [.rings, .out] fun t =>
      (fnOf t fn).attnEn = v &&& 0x1FF ∧ (fnOf t fn).fvec = bits v.toNat 16 4 ∧ (fnOf t fn).attn = (fnOf s fn).attn ∧ t.rings.ring = s.rings.ring)

/-- R325, R354, R360, R361, R621. -/
def Obligations.MessagesSubmitted : Prop :=
  (∀ (found : List DriveIn) (s : State),
    barServed s 0 = true →
    flrBusy s 0 = false →
    mbxClosed s = false →
    ∃ t, exec (.mailboxGo found) s = .next t ∧
      mciMessage (bits (mbxBytes s) 0 16) (messageReq whoMailbox (mbxBytes s) 4080) 0 found { s with regs := { s.regs with mbxBusy := true } } = .next t ∧ t.pending = s.pending) ∧
  (∀ (found : List DriveIn) (s : State),
    barServed s 0 = true →
    flrBusy s 0 = false →
    mbxClosed s = true →
    Does (.mailboxGo found) s [.regs] fun t =>
      t.regs = { s.regs with mbxIgnored := satInc s.regs.mbxIgnored }) ∧
  (∀ (fn x data : Nat) (found : List DriveIn) (u s : State),
    startTurn fn 3 s = some (x, u) →
    itOpcode x = 0x30 →
    badHead s fn 3 x = none →
    ∃ t, exec (.mciItem fn data found) s = .next t ∧
      mciMessage (bits (itemMessage x) 0 16) (messageReq fn (itemMessage x) 432) data found (consume fn 3 x u) = .next t ∧ t.pending = s.pending) ∧
  (∀ (fn ring x data : Nat) (st : Nat) (found : List DriveIn) (u s : State),
    ring = 3 →
    startTurn fn 3 s = some (x, u) →
    itOpcode x = 0x30 →
    badHead s fn 3 x = some st →
    DoesFrom (.mciItem fn data found) s (u) [.rings, .out] fun t =>
      (ringOf t fn 3).lastSeq = itSeq x ∧ Sent (ringEntry fn 3 (takeHead u x none (ringOf u fn 3)) (itSeq x) (itUser x) (frameNumber u) ⟨st, 0, 0, false, frameNumber u⟩) u t) ∧
  (∀ (found : List DriveIn) (s : State),
    barServed s 0 = true →
    flrBusy s 0 = false →
    mbxClosed s = false →
    s.regs.mbxDrop = false →
    bits (mbxBytes s) 0 16 = 1 →
    Serves 0x0001 ((messageReq whoMailbox (mbxBytes s) 4080).plen == 0) (reservedClear (mciParams (messageReq whoMailbox (mbxBytes s) 4080)) [] && true) (messageReq whoMailbox (mbxBytes s) 4080) { s with regs := { s.regs with mbxBusy := true } } →
    Does (.mailboxGo found) s [.rings, .regs, .fw, .out] fun t =>
      (let q := (messageReq whoMailbox (mbxBytes s) 4080)
       let c := ([if s.boot.mp == MpState.recovery then 1 else 0, s.fw.vet, if s.regs.dbgArm then 1 else 0] ++ s.fw.running.flatMap packageContent)
       Answered 0x0001 q 0 0 (Config.queryLength 0x0001 c % 4081) (Config.queryLayout 0x0001 c) s t ∧
       t.regs = { s.regs with mbxBusy := false, mbxDone := true, mbxWindow := windowOf (responseBytes 0x0001 q.tag 0 0 (Config.queryLength 0x0001 c % 4081) (Config.queryLayout 0x0001 c) 4096) 1024 })) ∧
  (∀ (found : List DriveIn) (s : State),
    barServed s 0 = true →
    flrBusy s 0 = false →
    mbxClosed s = false →
    s.regs.mbxDrop = false →
    bits (mbxBytes s) 0 16 = 0xFFFF →
    mciServed s 65 = true →
    (s.fw.outstanding.any fun o => o.1 == 65 && o.2.2 == (messageReq whoMailbox (mbxBytes s) 4080).tag) = false →
    Does (.mailboxGo found) s [.rings, .regs, .fw, .out] fun t =>
      (let q := (messageReq whoMailbox (mbxBytes s) 4080)
       Answered 0xFFFF q 1 0 0 0 s t ∧ t.regs = { s.regs with mbxBusy := false, mbxDone := true, mbxWindow := windowOf (responseBytes 0xFFFF q.tag 1 0 0 0 4096) 1024 })) ∧
  (∀ (fn x data : Nat) (found : List DriveIn) (o : Outst) (u s : State),
    startTurn fn 3 s = some (x, u) →
    itOpcode x = 0x30 →
    badHead s fn 3 x = none →
    bits (itemMessage x) 0 16 = 1 →
    Serves 0x0001 ((messageReq fn (itemMessage x) 432).plen == 0) (reservedClear (mciParams (messageReq fn (itemMessage x) 432)) [] && true) (messageReq fn (itemMessage x) 432) (consume fn 3 x u) →
    serviceItem (consume fn 3 x u) fn (messageReq fn (itemMessage x) 432).tag = some o →
    fn ≤ 64 →
    (consume fn 3 x u).HostWf →
    DoesFrom (.mciItem fn data found) s (u) [.rings, .regs, .fw, .out] fun t =>
      (let q := (messageReq fn (itemMessage x) 432)
       let c := ([if s.boot.mp == MpState.recovery then 1 else 0, s.fw.vet, if s.regs.dbgArm then 1 else 0] ++ s.fw.running.flatMap packageContent)
       let len := Config.queryLength 0x0001 c % 4081
       Answered 0x0001 q 0 0 len (Config.queryLayout 0x0001 c) u t ∧
       Sent (Output.hostWrite fn (mciResp o.item) (min (64 * mciRespUnits o.item) (16 + len)) (responseBytes 0x0001 q.tag 0 0 len (Config.queryLayout 0x0001 c) (64 * mciRespUnits o.item)) false false false) u t ∧
       (ringOf t fn 3).head = (ringOf u fn 3).head + BitVec.ofNat 24 (itUnits x) ∧ (ringOf t fn 3).outst = (ringOf (consume fn 3 x u) fn 3).outst.filter (fun (a : Outst) => a.ticket != o.ticket) ∧ (ringOf t fn 3).writes = (ringOf u fn 3).writes + 1)) ∧
  (∀ (fn x data : Nat) (found : List DriveIn) (u s : State),
    startTurn fn 3 s = some (x, u) →
    itOpcode x = 0x30 →
    badHead s fn 3 x = none →
    bits (itemMessage x) 0 16 = 0xFFFF →
    mciServed u fn = true →
    (u.fw.outstanding.any fun o => o.1 == fn && o.2.2 == (messageReq fn (itemMessage x) 432).tag) = false →
    fn ≤ 64 →
    DoesFrom (.mciItem fn data found) s (u) [.rings, .regs, .fw, .out] fun t =>
      Answered 0xFFFF (messageReq fn (itemMessage x) 432) 1 0 0 0 u t)

/-- R585, R591, R594, R595. -/
def Obligations.LogWriter : Prop :=
  (∀ (a : FaultPkt) (l : List FaultPkt) (s : State),
    s.ctl.faultQ = a :: l →
    s.ctl.faultsLost = 0 →
    replReasons.contains a.reason = false →
    isLogged a.reason a.sev false = false →
    Does (.faultPacket none) s [.ctl, .rings, .regs, .logs, .counters, .out] fun t =>
      t.ctl.faultQ = l ∧ t.logs.next = s.logs.next + 1 ∧
      t.logs.entries = ((⟨s.logs.next, s.clk.tick, a.reason, a.sev, false, a.src, a.unit, a.entryDetail, false⟩ : LogEntry) :: s.logs.entries).take 65536 ∧
      t.logs.errors = s.logs.errors) ∧
  (∀ (a : FaultPkt) (l : List FaultPkt) (s : State),
    s.ctl.faultQ = a :: l →
    s.ctl.faultsLost = 0 →
    replReasons.contains a.reason = false →
    isLogged a.reason a.sev false = true →
    a.reason ≠ 0x1004 →
    mpRuns s = true →
    s.logs.errors.any (fun e => !e.cont && e.reason == a.reason && e.unit == a.unit) = false →
    s.logs.errors.length < 4096 →
    Does (.faultPacket none) s [.ctl, .rings, .regs, .logs, .counters, .out] fun t =>
      t.ctl.faultQ = l ∧ t.logs.next = s.logs.next + 1 ∧
      t.logs.errors = s.logs.errors ++ [(⟨a.reason, a.unit, a.sev, s.boot.coldStarts, s.clk.refTime, a.entryDetail, 0, false, true, 1, s.clk.refTime, s.boot.coldStarts⟩ : ErrEntry)]) ∧
  (∀ (a : FaultPkt) (l : List FaultPkt) (s : State),
    s.ctl.eventQ = a :: l →
    replReasons.contains a.reason = false →
    isLogged a.reason a.sev false = false →
    Does (.eventPacket none) s [.ctl, .rings, .regs, .logs, .counters, .out] fun t =>
      t.ctl.eventQ = l ∧ t.logs.next = s.logs.next + 1 ∧
      t.logs.entries = ((⟨s.logs.next, s.clk.tick, a.reason, a.sev, false, a.src, a.unit, a.entryDetail, false⟩ : LogEntry) :: s.logs.entries).take 65536) ∧
  (∀ (s : State),
    mpRuns s = true →
    Does .errlogSummaryWrite s [.logs] fun t =>
      t.logs.summaryTurn = !s.logs.summaryTurn ∧ (if s.logs.summaryTurn then t.logs.summary1 = summaryOf s.logs ∧ t.logs.summary0 = s.logs.summary0 else t.logs.summary0 = summaryOf s.logs ∧ t.logs.summary1 = s.logs.summary1) ∧ t.logs.errors = s.logs.errors)

/-- R587, R590, R592, R597, R603, R607. The layout of ERRLOG_READ's answer is the model's own open value, log entry 46. -/
def Obligations.LogQueries : Prop :=
  (∀ (q : MciReq) (s : State),
    Serves 0x0901 (q.plen == 16) (reservedClear (mciParams q) [(0, 64), (64, 8), (72, 1)] && decide (1 ≤ bits (mciParams q) 64 8 ∧ bits (mciParams q) 64 8 ≤ 126)) q s →
    bit1 (mciParams q) 72 = false →
    Does (.eventRead q) s [.rings, .regs, .fw, .out, .logs] fun t =>
      (let es := entriesFrom s.logs.entries (max (bits (mciParams q) 0 64) (oldestSeq s.logs.entries s.logs.next.toNat)) (bits (mciParams q) 64 8)
       Answered 0x0901 q 0 0 (32 + 32 * es.length)
        (oldestSeq s.logs.entries s.logs.next.toNat + put s.logs.next.toNat 64 64 + put s.logs.loss.toNat 128 64 +
          put (flag (decide (bits (mciParams q) 0 64 < oldestSeq s.logs.entries s.logs.next.toNat))) 192 1 + concatBytes 32 (es.map eventBytes) * 2 ^ 256) s t ∧
       t.logs.entries.map (fun (e : LogEntry) => e.seq) = s.logs.entries.map (fun (e : LogEntry) => e.seq) ∧ t.logs.next = s.logs.next)) ∧
  (∀ (q : MciReq) (s : State),
    Serves 0x0902 (q.plen == 8) (reservedClear (mciParams q) [(0, 12), (16, 6), (31, 1)] && decide (1 ≤ bits (mciParams q) 16 6)) q s →
    bit1 (mciParams q) 31 = false →
    Does (.errlogRead q) s [.rings, .regs, .fw, .out] fun t =>
      Answered 0x0902 q 0 0 (Config.queryLength 0x0902 (s.logs.dropped.toNat :: ((s.logs.errors.drop (bits (mciParams q) 0 12)).take (bits (mciParams q) 16 6)).flatMap errContent) % 4081) (Config.queryLayout 0x0902 (s.logs.dropped.toNat :: ((s.logs.errors.drop (bits (mciParams q) 0 12)).take (bits (mciParams q) 16 6)).flatMap errContent)) s t ∧ t.fw = { s.fw with outstanding := t.fw.outstanding }) ∧
  (∀ (q : MciReq) (s : State),
    Serves 0x0902 (q.plen == 8) (reservedClear (mciParams q) [(0, 12), (16, 6), (31, 1)] && decide (1 ≤ bits (mciParams q) 16 6)) q s →
    bit1 (mciParams q) 31 = true →
    isP q.who = true →
    Does (.errlogClear q) s [.rings, .regs, .fw, .out, .logs] fun t =>
      t.logs.errors = [] ∧ t.logs.dropped = 0 ∧ t.logs.summary0 = [] ∧ t.logs.summary1 = [] ∧ t.logs.entries = s.logs.entries) ∧
  (∀ (q : MciReq) (s : State),
    Serves 0x0903 (q.plen == 8) (reservedClear (mciParams q) [(0, 16), (16, 16)] && (counterIds.contains (bits (mciParams q) 0 16) && decide (bits (mciParams q) 16 16 < counterInstances (bits (mciParams q) 0 16)))) q s →
    counterFn (bits (mciParams q) 0 16) (bits (mciParams q) 16 16) = none →
    Does (.counterRead q) s [.rings, .regs, .fw, .out] fun t =>
      t.counters = s.counters ∧ Answered 0x0903 q 0 0 24 ((counterValue s (bits (mciParams q) 0 16) (bits (mciParams q) 16 16)).toNat +
        put (flag (counterSat s (bits (mciParams q) 0 16) (bits (mciParams q) 16 16))) 64 1 + put s.clk.tick.toNat 128 64) s t) ∧
  (∀ (q : MciReq) (s : State),
    Serves 0x0904 (q.plen == 8) (reservedClear (mciParams q) [(0, 16), (16, 16)] && (counterIds.contains (bits (mciParams q) 0 16) && (counterKind (bits (mciParams q) 0 16)).2 && (bits (mciParams q) 16 16 == 0xFFFF || decide (bits (mciParams q) 16 16 < counterInstances (bits (mciParams q) 0 16))))) q s →
    bits (mciParams q) 16 16 ≠ 0xFFFF →
    bits (mciParams q) 0 16 ≠ 0x0705 →
    s.HostWf →
    Does (.counterClear q) s [.rings, .regs, .fw, .out, .counters] fun t =>
      counter t (bits (mciParams q) 0 16) (bits (mciParams q) 16 16) = 0 ∧ t.counters = Tab.set 0 s.counters (counterKey (bits (mciParams q) 0 16) (bits (mciParams q) 16 16)) 0 ∧ Answered 0x0904 q 0 0 0 0 s t) ∧
  (∀ (q : MciReq) (s : State),
    Serves 0x0905 (q.plen == 8) (reservedClear (mciParams q) [(0, 32), (32, 16)] && decide (1 ≤ bits (mciParams q) 32 16 ∧ bits (mciParams q) 32 16 ≤ 4064 ∧ bits (mciParams q) 0 32 < 6240)) q s →
    Does (.faultMapQuery q) s [.rings, .regs, .fw, .out] fun t =>
      Answered 0x0905 q 0 0 (min (bits (mciParams q) 32 16) (6240 - bits (mciParams q) 0 32)) (bits (faultMapBytes s) (8 * bits (mciParams q) 0 32) (8 * min (bits (mciParams q) 32 16) (6240 - bits (mciParams q) 0 32))) s t ∧ t.fmap = s.fmap) ∧
  (∀ (q : MciReq) (s : State),
    Serves 0x0906 (q.plen == 8) (reservedClear (mciParams q) [(0, 1), (16, 16), (32, 32)] && true) q s →
    bit1 (mciParams q) 0 = false →
    Does (.replacementQuery q) s [.rings, .regs, .fw, .out] fun t =>
      (let l := ((activeRequests s).filter fun (r : ReplReq) => decide (bits (mciParams q) 16 16 < r.reason ∨ (bits (mciParams q) 16 16 = r.reason ∧ bits (mciParams q) 32 32 ≤ r.unit))).take 250
       Answered 0x0906 q 0 0 (16 + 16 * l.length) (capability s + concatBytes 16 (l.map requestBytes) * 2 ^ 128) s t) ∧ t.logs = s.logs) ∧
  (∀ (q : MciReq) (s : State),
    Serves 0x0906 (q.plen == 8) (reservedClear (mciParams q) [(0, 1), (16, 16), (32, 32)] && true) q s →
    bit1 (mciParams q) 0 = true →
    isMctp q.who = false →
    mpRuns s = true →
    replConditions s = [] →
    Does (.replacementClear q) s [.rings, .regs, .fw, .out, .logs, .counters] fun t =>
      t.logs.requests = s.logs.requests.map fun (r : ReplReq) => if bits (mciParams q) 16 16 = 0 ∨ (r.reason = bits (mciParams q) 16 16 ∧ r.unit = bits (mciParams q) 32 32) then { r with active := false } else r)

/-- R331, R388, R397, R399, R400, R402. The layout of PRIORITY_SET is log entry 60; that of WINDOW_QUERY's answer an open value, log entry 46. -/
def Obligations.WindowCommands : Prop :=
  (∀ (q : MciReq) (s : State),
    Serves 0x0402 (wwLenOk (mciParams q) q.plen) (wwOk (mciParams q)) q s →
    Does (.windowWrite q) s [.rings, .regs, .fw, .out, .win] fun t =>
      (∀ f, f < 65 → shadowTable t f = if f = (wwFunc (mciParams q)) then (shadowTable s f).write (wwClass (mciParams q)) (wwIndex (mciParams q)) (wwEntry (mciParams q)) else shadowTable s f) ∧
      t.win.inForce = s.win.inForce ∧ t.win.gen = s.win.gen ∧ Answered 0x0402 q 0 0 0 0 s t) ∧
  (∀ (q : MciReq) (s : State),
    Serves 0x0403 (q.plen == 16) (reservedClear (mciParams q) [(1, 65)] && true) q s →
    bit1 (mciParams q) 65 = false →
    Does (.windowSwitch q) s [.clk, .parts, .layout, .layoutPend, .slots, .buf, .comp, .ctl, .hbm, .tiles, .rings, .regs, .logs, .win, .fw, .lat, .pool, .counters, .out] fun t =>
      t.win.gen = s.win.gen + 1 ∧ (∀ f, f < 65 → winTable t f = if 1 ≤ f ∧ bit1 (mciParams q) f = true then shadowTable s f else winTable s f) ∧ t.win.shadow = s.win.shadow ∧ t.pool.region = s.pool.region ∧
      (s.clk.frameDone = true → t.clk = s.clk ∧ t.parts = s.parts ∧ t.layout = s.layout ∧ t.layoutPend = s.layoutPend ∧ t.slots = s.slots ∧ t.buf = s.buf ∧ t.comp = s.comp ∧ t.ctl = s.ctl ∧ t.hbm = s.hbm ∧ t.tiles = s.tiles ∧ t.logs = s.logs ∧ t.counters = s.counters)) ∧
  (∀ (q : MciReq) (s : State),
    Serves 0x0403 (q.plen == 16) (reservedClear (mciParams q) [(1, 65)] && true) q s →
    bit1 (mciParams q) 65 = false →
    s.clk.frameDone = true →
    (s.pool.tables.any fun e => tableRef e.1 e.2.2.1 == tableRef q.who q.tag) = false →
    Does (.windowSwitch q) s [.rings, .regs, .fw, .out, .win, .lat, .pool] fun t =>
      Answered 0x0403 q 0 0 9 (switchParams (s.win.gen + 1).toNat (exceedMask t)) s t) ∧
  (∀ (q : MciReq) (s : State),
    Serves 0x0404 (q.plen == 8) (reservedClear (mciParams q) [(0, 7), (8, 1)] && decide (bits (mciParams q) 0 7 ≤ 64)) q s →
    fnOfWho q.who = 0 →
    Does (.windowQuery q) s [.rings, .regs, .fw, .out] fun t =>
      Answered 0x0404 q 0 0 (Config.queryLength 0x0404 ([s.win.gen.toNat, oldestGen s] ++ tableContent (if bit1 (mciParams q) 8 then shadowTable s (bits (mciParams q) 0 7) else winTable s (bits (mciParams q) 0 7))) % 4081) (Config.queryLayout 0x0404 ([s.win.gen.toNat, oldestGen s] ++ tableContent (if bit1 (mciParams q) 8 then shadowTable s (bits (mciParams q) 0 7) else winTable s (bits (mciParams q) 0 7)))) s t ∧ t.fw = { s.fw with outstanding := t.fw.outstanding } ∧ t.win = s.win) ∧
  (∀ (q : MciReq) (s : State),
    Serves 0x0404 (q.plen == 8) (reservedClear (mciParams q) [(0, 7), (8, 1)] && decide (bits (mciParams q) 0 7 ≤ 64)) q s →
    fnOfWho q.who ≠ 0 →
    bit1 (mciParams q) 8 = true ∨ winRing s (fnOfWho q.who) (bits (mciParams q) 0 7) = false →
    s.HostWf →
    Does (.windowQuery q) s [.rings, .regs, .fw, .out, .win, .ctl, .counters] fun t =>
      Answered 0x0404 q 5 0 0 0 s t ∧ counter t 0x0303 (fnOfWho q.who) = counterAdd 0x0303 (counter s 0x0303 (fnOfWho q.who)) 1 ∧ t.win.inForce = s.win.inForce) ∧
  (∀ (q : MciReq) (s : State),
    Serves 0x0401 (q.plen == 16) (reservedClear (mciParams q) [(0, 7), (64, 3), (72, 32)] && decide (bits (mciParams q) 0 7 ≤ 64)) q s →
    s.HostWf →
    Does (.prioritySet q) s [.rings, .regs, .fw, .out] fun t =>
      (fnOf t (bits (mciParams q) 0 7)).cls = bits (mciParams q) 64 3 ∧ (∀ r, r < 4 → (ringOf t (bits (mciParams q) 0 7) r).weight = bits (mciParams q) (72 + 8 * r) 8) ∧ Answered 0x0401 q 0 0 0 0 s t)

/-- R125, R127, R128, R394. The layout of IMAGE_QUERY's answer is an open value, log entry 46. -/
def Obligations.ImageLoading : Prop :=
  (∀ (q : MciReq) (s : State),
    Serves 0x0201 (q.plen == 16) (reservedClear (mciParams q) [(0, 3), (32, 32), (64, 64)] && true) q s →
    winSlot s (fnOfWho q.who) (bits (mciParams q) 0 3) 0 = true →
    (slot s (bits (mciParams q) 0 3)).state = SlotState.empty →
    s.PlaneWf →
    Does (.imageLoad q) s [.rings, .regs, .fw, .out, .slots, .win] fun t =>
      (slot t (bits (mciParams q) 0 3)).state = SlotState.loading ∧ (slot t (bits (mciParams q) 0 3)).loader = fnOfWho q.who ∧ (slot t (bits (mciParams q) 0 3)).gen = s.win.gen ∧ (slot t (bits (mciParams q) 0 3)).loadLen = bits (mciParams q) 32 32 ∧ (∀ j, j < 8 → j ≠ (bits (mciParams q) 0 3) → slot t j = slot s j) ∧
      t.fw.outstanding = s.fw.outstanding ++ [(q.who, 0x0201, q.tag)] ∧ t.out = s.out) ∧
  (∀ (q : MciReq) (s : State),
    Serves 0x0201 (q.plen == 16) (reservedClear (mciParams q) [(0, 3), (32, 32), (64, 64)] && true) q s →
    winSlot s (fnOfWho q.who) (bits (mciParams q) 0 3) 0 = true →
    (slot s (bits (mciParams q) 0 3)).state ≠ SlotState.empty →
    Does (.imageLoad q) s [.rings, .regs, .fw, .out] fun t =>
      Answered 0x0201 q 0xA 0x1A 16 reportSlot s t) ∧
  (∀ (n bytes len : Nat) (s : State),
    (slot s n).state = SlotState.loading →
    mpRuns s = true →
    (validateImage s n (slot s n).loadLen ⟨bytes % 2 ^ (8 * len), len⟩).1 = 0 →
    footprint s (slot s n).loader n (Raw.parse ⟨bytes % 2 ^ (8 * len), len⟩) (slot s n).loadHbm (slot s n).loadQuota = none →
    s.PlaneWf →
    Does (.imageLoadDone n bytes len) s [.rings, .regs, .fw, .out, .slots] fun t =>
      slot t n = { slot s n with state := .valid, image := Raw.parse ⟨bytes % 2 ^ (8 * len), len⟩, report := reportAccepted } ∧ (∀ j, j < 8 → j ≠ n → slot t j = slot s j)) ∧
  (∀ (n bytes len : Nat) (s : State),
    (slot s n).state = SlotState.loading →
    mpRuns s = true →
    (validateImage s n (slot s n).loadLen ⟨bytes % 2 ^ (8 * len), len⟩).1 ≠ 0 →
    s.PlaneWf →
    Does (.imageLoadDone n bytes len) s [.rings, .regs, .fw, .out, .slots] fun t =>
      slot t n = { Slot.reset with report := reportOf (validateImage s n (slot s n).loadLen ⟨bytes % 2 ^ (8 * len), len⟩).1 (validateImage s n (slot s n).loadLen ⟨bytes % 2 ^ (8 * len), len⟩).2 } ∧ (∀ j, j < 8 → j ≠ n → slot t j = slot s j)) ∧
  (∀ (q : MciReq) (s : State),
    Serves 0x0204 (q.plen == 8) (reservedClear (mciParams q) [(0, 3)] && true) q s →
    winSlot s (fnOfWho q.who) (bits (mciParams q) 0 3) 0 = true →
    (slot s (bits (mciParams q) 0 3)).state = SlotState.valid ∨ (slot s (bits (mciParams q) 0 3)).state = SlotState.invalid →
    s.PlaneWf →
    Does (.imageEvict q) s [.rings, .regs, .fw, .out, .slots] fun t =>
      slot t (bits (mciParams q) 0 3) = { Slot.reset with report := (slot s (bits (mciParams q) 0 3)).report } ∧ (∀ j, j < 8 → j ≠ (bits (mciParams q) 0 3) → slot t j = slot s j) ∧ Answered 0x0204 q 0 0 0 0 s t) ∧
  (∀ (q : MciReq) (s : State),
    Serves 0x0204 (q.plen == 8) (reservedClear (mciParams q) [(0, 3)] && true) q s →
    winSlot s (fnOfWho q.who) (bits (mciParams q) 0 3) 0 = true →
    (slot s (bits (mciParams q) 0 3)).state = SlotState.binding ∨ (slot s (bits (mciParams q) 0 3)).state = SlotState.bound ∨ (slot s (bits (mciParams q) 0 3)).state = SlotState.unbinding →
    Does (.imageEvict q) s [.rings, .regs, .fw, .out] fun t =>
      Answered 0x0204 q 6 0 0 0 s t) ∧
  (∀ (q : MciReq) (s : State),
    Serves 0x0205 (q.plen == 8) (reservedClear (mciParams q) [(0, 3)] && true) q s →
    winSlot s (fnOfWho q.who) (bits (mciParams q) 0 3) 2 = true →
    Does (.imageQuery q) s [.rings, .regs, .fw, .out] fun t =>
      Answered 0x0205 q 0 0 (Config.queryLength 0x0205 ([(slot s (bits (mciParams q) 0 3)).state.code, (slot s (bits (mciParams q) 0 3)).image.hdr.buildId % 2 ^ 64, (slot s (bits (mciParams q) 0 3)).image.hdr.buildId / 2 ^ 64, (slot s (bits (mciParams q) 0 3)).image.hdr.rect.col0, (slot s (bits (mciParams q) 0 3)).image.hdr.rect.row0, (slot s (bits (mciParams q) 0 3)).image.hdr.rect.cols, (slot s (bits (mciParams q) 0 3)).image.hdr.rect.rows, (slot s (bits (mciParams q) 0 3)).image.hdr.contexts, (slot s (bits (mciParams q) 0 3)).report % 2 ^ 64, (slot s (bits (mciParams q) 0 3)).report / 2 ^ 64]) % 4081) (Config.queryLayout 0x0205 ([(slot s (bits (mciParams q) 0 3)).state.code, (slot s (bits (mciParams q) 0 3)).image.hdr.buildId % 2 ^ 64, (slot s (bits (mciParams q) 0 3)).image.hdr.buildId / 2 ^ 64, (slot s (bits (mciParams q) 0 3)).image.hdr.rect.col0, (slot s (bits (mciParams q) 0 3)).image.hdr.rect.row0, (slot s (bits (mciParams q) 0 3)).image.hdr.rect.cols, (slot s (bits (mciParams q) 0 3)).image.hdr.rect.rows, (slot s (bits (mciParams q) 0 3)).image.hdr.contexts, (slot s (bits (mciParams q) 0 3)).report % 2 ^ 64, (slot s (bits (mciParams q) 0 3)).report / 2 ^ 64])) s t ∧ t.fw = { s.fw with outstanding := t.fw.outstanding })

/-- R129 to R131, R141, R570, R580. The layout of PARTITION_QUERY's answer is an open value, log entry 46. -/
def Obligations.ImageBinding : Prop :=
  (∀ (q : MciReq) (s : State),
    Serves 0x0202 (q.plen == 8) (reservedClear (mciParams q) [(0, 3), (8, 2)] && true) q s →
    (slot s (bits (mciParams q) 0 3)).state = SlotState.valid →
    (acceptedRect s (bits (mciParams q) 8 2)).cols ≠ 0 →
    partTaken s (bits (mciParams q) 8 2) = false →
    (acceptedRect s (bits (mciParams q) 8 2)) = (slot s (bits (mciParams q) 0 3)).image.hdr.rect →
    testInside s (acceptedRect s (bits (mciParams q) 8 2)) = false →
    (slot s (bits (mciParams q) 0 3)).image.hdr.lattice = false →
    s.PlaneWf →
    Does (.imageBind q) s [.rings, .regs, .fw, .out, .parts, .slots] fun t =>
      (slot t (bits (mciParams q) 0 3)).state = SlotState.binding ∧ (part t (bits (mciParams q) 8 2)).binding = some ((bits (mciParams q) 0 3), s.clk.tick.toNat) ∧ (part t (bits (mciParams q) 8 2)).slot = (part s (bits (mciParams q) 8 2)).slot ∧ OnlyPart (bits (mciParams q) 8 2) s t ∧ (∀ j, j < 8 → j ≠ (bits (mciParams q) 0 3) → slot t j = slot s j) ∧ Answered 0x0202 q 0 0 0 0 s t) ∧
  (∀ (q : MciReq) (s : State),
    Serves 0x0202 (q.plen == 8) (reservedClear (mciParams q) [(0, 3), (8, 2)] && true) q s →
    (slot s (bits (mciParams q) 0 3)).state ≠ SlotState.valid ∨ (acceptedRect s (bits (mciParams q) 8 2)).cols = 0 ∨ partTaken s (bits (mciParams q) 8 2) = true ∨ (acceptedRect s (bits (mciParams q) 8 2)) ≠ (slot s (bits (mciParams q) 0 3)).image.hdr.rect →
    Does (.imageBind q) s [.rings, .regs, .fw, .out] fun t =>
      Answered 0x0202 q 6 0 0 0 s t ∧ t.parts = s.parts ∧ t.slots = s.slots) ∧
  (∀ (q : MciReq) (n : Nat) (s : State),
    Serves 0x0203 (q.plen == 8) (reservedClear (mciParams q) [(8, 2), (16, 1)] && true) q s →
    (part s (bits (mciParams q) 8 2)).slot = some n →
    s.PlaneWf →
    Does (.imageUnbind q) s [.rings, .regs, .fw, .out, .parts, .slots] fun t =>
      (slot t n).state = SlotState.unbinding ∧ (part t (bits (mciParams q) 8 2)).unbinding = some (bit1 (mciParams q) 16 || (part s (bits (mciParams q) 8 2)).unbinding == some true) ∧ (part t (bits (mciParams q) 8 2)).run = (part s (bits (mciParams q) 8 2)).run ∧ OnlyPart (bits (mciParams q) 8 2) s t ∧ Answered 0x0203 q 0 0 0 0 s t) ∧
  (∀ (q : MciReq) (s : State),
    Serves 0x0206 (q.plen == 16) (reservedClear (mciParams q) [(0, 128)] && layoutOk (mciParams q)) q s →
    layoutBusy s (mciParams q) = false →
    Does (.partitionSetLayout q) s [.rings, .regs, .fw, .out, .layoutPend] fun t =>
      t.layoutPend = some (layoutOf (mciParams q)) ∧ t.layout = s.layout ∧ Answered 0x0206 q 0 0 0 0 s t) ∧
  (∀ (q : MciReq) (s : State),
    Serves 0x0206 (q.plen == 16) (reservedClear (mciParams q) [(0, 128)] && layoutOk (mciParams q)) q s →
    layoutBusy s (mciParams q) = true →
    Does (.partitionSetLayout q) s [.rings, .regs, .fw, .out] fun t =>
      t.layoutPend = s.layoutPend ∧ Answered 0x0206 q 6 0 0 0 s t) ∧
  (∀ (q : MciReq) (s : State),
    Serves 0x0207 (q.plen == 0) (reservedClear (mciParams q) [] && true) q s →
    Does (.partitionQuery q) s [.rings, .regs, .fw, .out] fun t =>
      Answered 0x0207 q 0 0 (Config.queryLength 0x0207 ((rangeFrom 0 4).flatMap (partContent s)) % 4081) (Config.queryLayout 0x0207 ((rangeFrom 0 4).flatMap (partContent s))) s t ∧ t.fw = { s.fw with outstanding := t.fw.outstanding }) ∧
  (∀ (q : MciReq) (n : Nat) (s : State),
    Serves 0x0208 (q.plen == 8) (reservedClear (mciParams q) [(8, 2)] && true) q s →
    (part s (bits (mciParams q) 8 2)).slot = some n →
    (part s (bits (mciParams q) 8 2)).parked = false →
    Does (.partitionReset q) s [.rings, .regs, .fw, .out, .parts] fun t =>
      part t (bits (mciParams q) 8 2) = { part s (bits (mciParams q) 8 2) with resetPend := true } ∧ OnlyPart (bits (mciParams q) 8 2) s t ∧ Answered 0x0208 q 0 0 0 0 s t) ∧
  (∀ (q : MciReq) (n a : Nat) (s : State),
    Serves 0x0208 (q.plen == 8) (reservedClear (mciParams q) [(8, 2)] && true) q s →
    (part s (bits (mciParams q) 8 2)).slot = none →
    (part s (bits (mciParams q) 8 2)).binding = some (n, a) →
    s.PlaneWf →
    Does (.partitionReset q) s [.rings, .regs, .fw, .out, .parts, .slots] fun t =>
      (part t (bits (mciParams q) 8 2)).binding = none ∧ (slot t n).state = SlotState.valid ∧ OnlyPart (bits (mciParams q) 8 2) s t ∧ Answered 0x0208 q 0 0 0 0 s t)

/-- R165, R169, R262, R264, R282, R288. The layouts of the queries' answers are open values, log entry 46; that of LANE_QUERY is the model's, log entry 20. -/
def Obligations.MemoryUnitCommands : Prop :=
  (∀ (q : MciReq) (s : State),
    Serves 0x0301 (q.plen == 8) (reservedClear (mciParams q) [(0, 5)] && (decide (12 ≤ bits (mciParams q) 0 5) && decide (bits (mciParams q) 0 5 ≤ 20))) q s →
    Does (.bufferScrub q) s [.rings, .regs, .fw, .out, .buf] fun t =>
      t.buf = { s.buf with scrubExp := bits (mciParams q) 0 5 } ∧ Answered 0x0301 q 0 0 0 0 s t) ∧
  (∀ (q : MciReq) (s : State),
    Serves 0x0302 (q.plen == 8) (reservedClear (mciParams q) ([(0, 2), (16, 2), (18, 1), (32, 8)] ++ ltUnitFields (mciParams q)) && ltOk s.pins.testBoot (mciParams q)) q s →
    ltBusy s (mciParams q) = false →
    stagePending s ⟨q.who, q.tag, (mciParams q), false⟩ = false →
    Does (.laneTest q) s [.rings, .regs, .fw, .out, .lanes, .buf, .hbm, .tiles, .win] fun t =>
      (⟨q.who, q.tag, (mciParams q), true⟩ : LaneTest) ∈ t.lanes.tests ∧ (∀ r ∈ ltSlices (mciParams q), r ∈ t.buf.inTest) ∧ t.buf.mem = s.buf.mem ∧ t.hbm.mem = s.hbm.mem ∧
      (ltScope (mciParams q) = 2 → (stackOf t (ltUnit (mciParams q) % 8)).inTest = true) ∧ t.fw.outstanding = s.fw.outstanding ++ [(q.who, 0x0302, q.tag)] ∧ t.out = s.out) ∧
  (∀ (q : MciReq) (s : State),
    Serves 0x0302 (q.plen == 8) (reservedClear (mciParams q) ([(0, 2), (16, 2), (18, 1), (32, 8)] ++ ltUnitFields (mciParams q)) && ltOk s.pins.testBoot (mciParams q)) q s →
    ltBusy s (mciParams q) = false →
    stagePending s ⟨q.who, q.tag, (mciParams q), false⟩ = true →
    Does (.laneTest q) s [.rings, .regs, .fw, .out, .lanes, .buf, .hbm, .tiles, .win] fun t =>
      (⟨q.who, q.tag, (mciParams q), false⟩ : LaneTest) ∈ t.lanes.tests ∧ t.fw.outstanding = s.fw.outstanding ++ [(q.who, 0x0302, q.tag)] ∧ t.out = s.out) ∧
  (∀ (q : MciReq) (s : State),
    Serves 0x0302 (q.plen == 8) (reservedClear (mciParams q) ([(0, 2), (16, 2), (18, 1), (32, 8)] ++ ltUnitFields (mciParams q)) && ltOk s.pins.testBoot (mciParams q)) q s →
    ltBusy s (mciParams q) = true →
    Does (.laneTest q) s [.rings, .regs, .fw, .out] fun t =>
      Answered 0x0302 q 6 0 0 0 s t ∧ t.lanes = s.lanes) ∧
  (∀ (n : Nat) (cells : List CellTrain) (stitch : List StitchTrain) (hbm : List Nat) (x : LaneTest) (s : State),
    s.lanes.tests[n]? = some x →
    x.begun = true →
    (s.fw.outstanding.any fun o => o.1 == x.who && o.2.2 == x.tag) = true →
    Does (.laneTestComplete n cells stitch hbm) s [.rings, .regs, .fw, .out, .lanes, .buf, .hbm, .tiles] fun t =>
      t.lanes = { s.lanes with tests := s.lanes.tests.erase x } ∧ t.buf = { s.buf with inTest := s.buf.inTest.filter fun r => !testHasRouter x r } ∧ t.hbm.mem = s.hbm.mem ∧
      (ltScope x.params = 2 → (stackOf t (ltUnit x.params % 8)).inTest = false) ∧
      (let f := testFindings x.params cells stitch hbm
       let shown := entryList (if ltOverride x.params then f.1 else f.1.filter fun e => !s.lanes.fused.contains e)
       Sent (Output.mciResponse x.who 0x0302 x.tag 0 0 (4 * shown.length + f.2.length) (concatBytes 4 shown + concatBytes 1 f.2 * 2 ^ (32 * shown.length))) s t)) ∧
  (∀ (n : Nat) (cells : List CellTrain) (stitch : List StitchTrain) (hbm : List Nat) (s : State),
    s.lanes.tests[n]? = none →
    Does (.laneTestComplete n cells stitch hbm) s [] fun t =>
      t = s) ∧
  (∀ (q : MciReq) (s : State),
    Serves 0x0303 (q.plen == 8) (reservedClear (mciParams q) ((0, 2) :: ltUnitFields (mciParams q)) && ltUnitOk (mciParams q)) q s →
    Does (.laneQuery q) s [.rings, .regs, .fw, .out] fun t =>
      (let maps := entryList (s.lanes.fused.filter (entryOf (mciParams q))) ++ entryList (s.lanes.volatile.filter (entryOf (mciParams q)))
       let bs := (unitBundles (mciParams q)).map fun (b : Nat) => put (widthNow s b) 0 4 + put (Tab.get 0 s.lanes.status b) 4 4
       Answered 0x0303 q 0 0 (4 * maps.length + bs.length) (concatBytes 4 maps + concatBytes 1 bs * 2 ^ (32 * maps.length)) s t) ∧ t.fw = { s.fw with outstanding := t.fw.outstanding }) ∧
  (∀ (q : MciReq) (s : State),
    Serves 0x0304 (q.plen == 8) (reservedClear (mciParams q) [(0, 3), (8, 6), (16, 6), (24, 2)] && (decide (bits (mciParams q) 8 6 ≤ 35) && decide (1 ≤ bits (mciParams q) 16 6) && decide (bits (mciParams q) 8 6 + bits (mciParams q) 16 6 ≤ 36))) q s →
    assignRefused s (mciParams q) = false →
    bits (mciParams q) 24 2 ≠ 2 →
    (assignUnits (mciParams q)).any (fun u => roleOf s u == 2) = false →
    Tab.wf 0 s.hbm.role = true →
    Does (.hbmAssign q) s [.rings, .regs, .fw, .out, .hbm, .pool] fun t =>
      (∀ u, u < 288 → roleOf t u = if (assignUnits (mciParams q)).contains u then bits (mciParams q) 24 2 else roleOf s u) ∧ t.hbm.mem = s.hbm.mem ∧ t.hbm.pc = s.hbm.pc ∧ Answered 0x0304 q 0 0 0 0 s t) ∧
  (∀ (q : MciReq) (s : State),
    Serves 0x0304 (q.plen == 8) (reservedClear (mciParams q) [(0, 3), (8, 6), (16, 6), (24, 2)] && (decide (bits (mciParams q) 8 6 ≤ 35) && decide (1 ≤ bits (mciParams q) 16 6) && decide (bits (mciParams q) 8 6 + bits (mciParams q) 16 6 ≤ 36))) q s →
    assignRefused s (mciParams q) = true →
    Does (.hbmAssign q) s [.rings, .regs, .fw, .out] fun t =>
      t.hbm = s.hbm ∧ Answered 0x0304 q 6 0 0 0 s t) ∧
  (∀ (q : MciReq) (s : State),
    Serves 0x0304 (q.plen == 8) (reservedClear (mciParams q) [(0, 3), (8, 6), (16, 6), (24, 2)] && (decide (bits (mciParams q) 8 6 ≤ 35) && decide (1 ≤ bits (mciParams q) 16 6) && decide (bits (mciParams q) 8 6 + bits (mciParams q) 16 6 ≤ 36))) q s →
    assignRefused s (mciParams q) = false →
    bits (mciParams q) 24 2 = 2 ∨ (assignUnits (mciParams q)).any (fun u => roleOf s u == 2) = true →
    s.dense.misses ≠ [] →
    s.dense.flushes = [] →
    s.dense.attaches = [] →
    s.dense.assigns = [] →
    dirtyLines s = [] →
    Does (.hbmAssign q) s [.rings, .regs, .fw, .out, .dense, .win] fun t =>
      t.dense = { s.dense with assigns := [(q.who, q.tag, (mciParams q))] } ∧ t.fw.outstanding = s.fw.outstanding ++ [(q.who, 0x0304, q.tag)] ∧ t.out = s.out) ∧
  (∀ (q : MciReq) (s : State),
    Serves 0x0305 (q.plen == 0) (reservedClear (mciParams q) [] && true) q s →
    Does (.hbmQuery q) s [.rings, .regs, .fw, .out] fun t =>
      Answered 0x0305 q 0 0 (Config.queryLength 0x0305 ((rangeFrom 0 8).flatMap (fun (k : Nat) => [flag (stackOf s k).trained, flag (stackOf s k).dead, (stackOf s k).level, exhaustedBanks s k]) ++ (rangeFrom 0 288).map (roleOf s) ++ (rangeFrom 0 256).flatMap fun (pc : Nat) => (rangeFrom 0 48).map (resourcesLeft s pc)) % 4081) (Config.queryLayout 0x0305 ((rangeFrom 0 8).flatMap (fun (k : Nat) => [flag (stackOf s k).trained, flag (stackOf s k).dead, (stackOf s k).level, exhaustedBanks s k]) ++ (rangeFrom 0 288).map (roleOf s) ++ (rangeFrom 0 256).flatMap fun (pc : Nat) => (rangeFrom 0 48).map (resourcesLeft s pc))) s t ∧ t.fw = { s.fw with outstanding := t.fw.outstanding })

/-- R81, R150, R153, R158, R163, R165, R168, R169. The commit tick within its bound and the data of an unavailable slice are free values. -/
def Obligations.SliceAccess : Prop :=
  (∀ (h : BitVec 64) (ws : List Nat) (s : State),
    sliceAccessOk h ws 5 1 = true →
    ctlRefused s (pktRouter h) (ws.head?.getD 0) = none →
    Does (.sliceRd h ws) s [.buf] fun t =>
      t.buf = { s.buf with ctlQueue := s.buf.ctlQueue ++ [(⟨pktRouter h, (ws.head?.getD 0), false, 0, 0, .ctl (pktSrc h) (pktTag h), s.clk.tick.toNat⟩ : CtlReq)] }) ∧
  (∀ (h : BitVec 64) (ws : List Nat) (st : Nat) (s : State),
    sliceAccessOk h ws 5 1 = true →
    ctlRefused s (pktRouter h) (ws.head?.getD 0) = some st →
    Does (.sliceRd h ws) s [.out, .free] fun t =>
      t.out = s.out ++ [sliceAnswer (pktSrc h) (pktTag h) (pktRouter h) st false (freeLine s.free)]) ∧
  (∀ (h : BitVec 64) (ws : List Nat) (s : State),
    sliceAccessOk h ws 5 1 = false →
    Does (.sliceRd h ws) s [] fun t =>
      t = s) ∧
  (∀ (h : BitVec 64) (ws : List Nat) (s : State),
    sliceAccessOk h ws 6 19 = true →
    ctlRefused s (pktRouter h) (ws.head?.getD 0) = none →
    Does (.sliceWr h ws) s [.buf] fun t =>
      t.buf = { s.buf with ctlQueue := s.buf.ctlQueue ++ [(⟨pktRouter h, (ws.head?.getD 0), true, BitVec.ofNat 512 (bits (wordsValue ws) 96 512), BitVec.ofNat 64 (bits (wordsValue ws) 32 64),
        .ctl (pktSrc h) (pktTag h), s.clk.tick.toNat⟩ : CtlReq)] }) ∧
  (∀ (h : BitVec 64) (ws : List Nat) (st : Nat) (s : State),
    sliceAccessOk h ws 6 19 = true →
    ctlRefused s (pktRouter h) (ws.head?.getD 0) = some st →
    Does (.sliceWr h ws) s [.out, .free] fun t =>
      t.out = s.out ++ [sliceAnswer (pktSrc h) (pktTag h) (pktRouter h) st true 0] ∧ t.buf.mem = s.buf.mem) ∧
  (∀ (h : BitVec 64) (ws : List Nat) (s : State),
    sliceAccessOk h ws 6 19 = false →
    Does (.sliceWr h ws) s [] fun t =>
      t = s) ∧
  (∀ (q : CtlReq) (src tag router : Nat) (s : State),
    s.buf.ctlQueue.find? (fun q => q.router == router && ctlInjected s q) = some q →
    tickRuns s = true →
    ctlRefused s router q.line = none →
    q.write = true →
    q.origin = .ctl src tag →
    s.MemWf →
    s.LinesHeld →
    DoesFrom (.controlPortCommit router) s (toCommit router (commitTick { s with buf := { s.buf with ctlQueue := s.buf.ctlQueue.erase q } } router q.arrived) { s with buf := { s.buf with ctlQueue := s.buf.ctlQueue.erase q } }) [.parts, .buf, .ctl, .counters, .out] fun t =>
      (let u := toCommit router (commitTick { s with buf := { s.buf with ctlQueue := s.buf.ctlQueue.erase q } } router q.arrived) { s with buf := { s.buf with ctlQueue := s.buf.ctlQueue.erase q } }
       BufLine (sliceByte router q.line) q.data (q.mask &&& ~~~((((tickLine u router q.line).map fun (e : TickLine) => e.sched).getD []).foldl (fun (m : LineMask) (w : LineWrite) => m ||| w.mask) 0)) u t ∧
       BufOutside (sliceByte router q.line) 64 u t ∧ t.out = u.out ++ [sliceAnswer src tag router 0 true 0])) ∧
  (∀ (q : CtlReq) (src tag router : Nat) (s : State),
    s.buf.ctlQueue.find? (fun q => q.router == router && ctlInjected s q) = some q →
    tickRuns s = true →
    ctlRefused s router q.line = none →
    q.write = false →
    q.origin = .ctl src tag →
    s.regs.dbgPending = false →
    DoesFrom (.controlPortCommit router) s (toCommit router (commitTick { s with buf := { s.buf with ctlQueue := s.buf.ctlQueue.erase q } } router q.arrived) { s with buf := { s.buf with ctlQueue := s.buf.ctlQueue.erase q } }) [.buf, .ctl, .regs, .counters, .out] fun t =>
      (let u := toCommit router (commitTick { s with buf := { s.buf with ctlQueue := s.buf.ctlQueue.erase q } } router q.arrived) { s with buf := { s.buf with ctlQueue := s.buf.ctlQueue.erase q } }
       t.buf.mem = u.buf.mem ∧ t.out = u.out ++ [sliceAnswer src tag router (sliceStatus false false (lineBefore u router q.line).2 (singleBefore u router q.line)) false (lineBefore u router q.line).1])) ∧
  (∀ (router : Nat) (s : State),
    tickRuns s = true →
    s.fmap.live router = true →
    s.buf.inTest.contains router = false →
    s.MemWf →
    s.LinesHeld →
    Tab.wf 0 s.buf.scrubPos = true →
    Tab.wf 0 s.buf.scrubLast = true →
    DoesFrom (.scrubVisit router) s (toCommit router (commitTick s router (max (Tab.get 0 s.buf.scrubLast router + scrubInterval s) s.clk.tick.toNat)) s) [.buf, .ctl, .regs, .counters] fun t =>
      (let u := toCommit router (commitTick s router (max (Tab.get 0 s.buf.scrubLast router + scrubInterval s) s.clk.tick.toNat)) s
       BufOutside 0 0 u t ∧ Tab.get 0 t.buf.scrubLast router = u.clk.tick.toNat ∧
       Tab.get 0 t.buf.scrubPos router = (if (scrubLine u router).2 then Tab.get 0 u.buf.scrubPos router else ((scrubLine u router).1 + 1) % 768)))

/-- R159 to R162. Of two packets served at one priority the one that has waited longer goes first, and of the routes around a dead link the shortest is taken: the model's choices, log entries 7 and 8. -/
def Obligations.ControlNetwork : Prop :=
  (∀ (node dir : Nat) (resend : Bool) (s : State),
    injectHits s 6 node = false →
    (controlNeighbour node dir).isSome = true →
    s.ctl.dead.contains (ctlLink node dir) = false →
    Tab.wf 0 s.ctl.resends = true →
    (if resend then Tab.get 0 s.ctl.resends (ctlLink node dir) + 1 else 0) < 8 →
    Does (.controlWordParityError node dir resend) s [.ctl, .out] fun t =>
      t.out = s.out ++ [Output.ctlResend node dir] ∧ Tab.get 0 t.ctl.resends (ctlLink node dir) = (if resend then Tab.get 0 s.ctl.resends (ctlLink node dir) + 1 else 0) ∧ t.ctl.dead = s.ctl.dead) ∧
  (∀ (node dir : Nat) (s : State),
    injectHits s 6 node = false →
    (controlNeighbour node dir).isSome = true →
    s.ctl.dead.contains (ctlLink node dir) = false →
    7 ≤ Tab.get 0 s.ctl.resends (ctlLink node dir) →
    s.ctl.faultQ.length < 256 →
    Tab.wf [] s.ctl.vc = true →
    ∀ p ∈ Tab.get [] s.ctl.vc (ctlLink node dir), (((endpointNode (pktDest p.header)).bind fun d => alternativeDir ((ctlLink node dir) :: s.ctl.dead) node d).getD dir) ≠ dir →
    dir < 4 →
    Does (.controlWordParityError node dir true) s [.ctl] fun t =>
      t.ctl.dead = (ctlLink node dir) :: s.ctl.dead ∧ t.ctl.faultQ = s.ctl.faultQ ++ [(⟨0x4006, 5, node, none, node, 0⟩ : FaultPkt)] ∧ Tab.get [] t.ctl.vc (ctlLink node dir) = []) ∧
  (∀ (node dir : Nat) (resend : Bool) (s : State),
    (controlNeighbour node dir).isNone = true ∨ s.ctl.dead.contains (ctlLink node dir) = true →
    Does (.controlWordParityError node dir resend) s [] fun t =>
      t = s) ∧
  (∀ (node dir cycles : Nat) (l : List (BitVec 64)) (s : State),
    (controlNeighbour node dir).isSome = true →
    s.ctl.dead.contains (ctlLink node dir) = false →
    Tab.wf [] s.ctl.vc = true →
    Does (.packetAgeing node dir l cycles) s [.ctl, .out] fun t =>
      (let r := outputCycles cycles (Tab.get [] s.ctl.vc (ctlLink node dir) ++ (l.filter packetOk).map CtlPkt.arriving)
       Tab.get [] t.ctl.vc (ctlLink node dir) = r.1 ∧ t.out = s.out ++ r.2.map (fun (h : BitVec 64) => Output.ctlForward node dir h) ∧ t.ctl.faultQ = s.ctl.faultQ)) ∧
  (∀ (node dir : Nat) (a b : CtlPkt) (s : State),
    (controlNeighbour node dir).isSome = true →
    s.ctl.dead.contains (ctlLink node dir) = false →
    Tab.wf [] s.ctl.vc = true →
    Tab.get [] s.ctl.vc (ctlLink node dir) = [a, b] →
    pktPrio a.header ≠ pktPrio b.header →
    b.served < a.served ∨ b.served = a.served ∧ a.waited < b.waited →
    Does (.packetAgeing node dir [] 1) s [.ctl, .out] fun t =>
      Tab.get [] t.ctl.vc (ctlLink node dir) = { a with waited := a.waited + 1 } :: (if b.left ≤ 1 then [] else [{ b with left := b.left - 1 }]) ∧
      t.out = s.out ++ (if b.left ≤ 1 then [Output.ctlForward node dir b.header] else [])) ∧
  (∀ (node dir k cycles : Nat) (h : BitVec 64) (s : State),
    (controlNeighbour node dir).isSome = true →
    s.ctl.dead.contains (ctlLink node dir) = true →
    packetOk h = true →
    ((endpointNode (pktDest h)).bind fun d => alternativeDir s.ctl.dead node d) = some k →
    Does (.packetAgeing node dir [h] cycles) s [.ctl] fun t =>
      t.ctl = { s.ctl with vc := Tab.upd [] s.ctl.vc (ctlLink node k) fun l => l ++ [CtlPkt.arriving h] }) ∧
  (∀ (node dir cycles : Nat) (l : List (BitVec 64)) (s : State),
    (controlNeighbour node dir).isNone = true →
    Does (.packetAgeing node dir l cycles) s [] fun t =>
      t = s) ∧
  (∀ (e left content : Nat) (s : State),
    Tab.get none s.ctl.heldEvent e = none →
    (Tab.get 0 s.ctl.inject e - left) < 32 →
    Tab.wf 0 s.ctl.inject = true →
    Does (.telemetryInject e left content none) s [.ctl, .out] fun t =>
      t.out = s.out ++ [Output.telemetry e content] ∧ Tab.get 0 t.ctl.inject e = (Tab.get 0 s.ctl.inject e - left) + 1 ∧ t.ctl.eventQ = s.ctl.eventQ) ∧
  (∀ (e left content : Nat) (s : State),
    Tab.get none s.ctl.heldEvent e = none →
    32 ≤ (Tab.get 0 s.ctl.inject e - left) →
    s.HostWf →
    Does (.telemetryInject e left content none) s [.ctl, .counters] fun t =>
      t.out = s.out ∧ counter t 0x0701 e = counterAdd 0x0701 (counter s 0x0701 e) 1 ∧ t.ctl.eventQ = s.ctl.eventQ) ∧
  (∀ (e left content : Nat) (p : PktIn) (s : State),
    Tab.get none s.ctl.heldEvent e = none →
    (Tab.get 0 s.ctl.inject e - left) < 32 →
    Tab.wf 0 s.ctl.inject = true →
    Does (.telemetryInject e left content (some p)) s [.ctl] fun t =>
      t.ctl.eventQ = s.ctl.eventQ ++ [{ pktOf p with src := e }] ∧ Tab.get 0 t.ctl.inject e = (Tab.get 0 s.ctl.inject e - left) + 1) ∧
  (∀ (e left content : Nat) (p : PktIn) (s : State),
    Tab.get none s.ctl.heldEvent e = none →
    32 ≤ (Tab.get 0 s.ctl.inject e - left) →
    Tab.wf 0 s.ctl.inject = true →
    Tab.wf none s.ctl.heldEvent = true →
    Does (.telemetryInject e left content (some p)) s [.ctl] fun t =>
      t.ctl.eventQ = s.ctl.eventQ ∧ Tab.get none t.ctl.heldEvent e = some { pktOf p with src := e }) ∧
  (∀ (e left content : Nat) (p : PktIn) (s : State),
    (Tab.get none s.ctl.heldEvent e).isSome = true →
    32 ≤ (Tab.get 0 s.ctl.inject e - left) →
    s.HostWf →
    Tab.wf 0 s.ctl.eventsLost = true →
    Does (.telemetryInject e left content (some p)) s [.ctl, .counters] fun t =>
      t.ctl.eventQ = s.ctl.eventQ ∧ Tab.get none t.ctl.heldEvent e = Tab.get none s.ctl.heldEvent e ∧ Tab.get 0 t.ctl.eventsLost e = Tab.get 0 s.ctl.eventsLost e + 1 ∧ counter t 0x0702 e = counterAdd 0x0702 (counter s 0x0702 e) 1) ∧
  (∀ (e left content : Nat) (p : FaultPkt) (s : State),
    Tab.get none s.ctl.heldEvent e = some p →
    p.src = e →
    (Tab.get 0 s.ctl.inject e - left) < 30 →
    Tab.wf 0 s.ctl.inject = true →
    Tab.wf none s.ctl.heldEvent = true →
    Tab.wf 0 s.ctl.eventsLost = true →
    Does (.telemetryInject e left content none) s [.ctl, .out] fun t =>
      t.ctl.eventQ = s.ctl.eventQ ++ p :: (if Tab.get 0 s.ctl.eventsLost e = 0 then [] else [(⟨0x4008, 0, e, some (Tab.get 0 s.ctl.eventsLost e), e, 0⟩ : FaultPkt)]) ∧
      Tab.get none t.ctl.heldEvent e = none ∧ Tab.get 0 t.ctl.eventsLost e = 0 ∧ t.out = s.out ++ [Output.telemetry e content])

/-- R112, R218, R223, R232, R234, R239. The initial value of the frame CRC is an open value, log entry 44; that the report of a stall is withdrawn is the model's choice, log entry 16. -/
def Obligations.SocketFaults : Prop :=
  (∀ (router : Nat) (s : State),
    Does (.socketStatus router 0) s [] fun t =>
      t = s) ∧
  (∀ (router k : Nat) (s : State),
    partOf s router = some k →
    s.ctl.faultQ.length < 256 →
    s.tiles.perrs.any (fun e => e.1 == router && decide (s.clk.tick.toNat ≤ e.2 + 8)) = false →
    s.PlaneWf →
    Does (.socketStatus router 1) s [.parts, .ctl, .tiles] fun t =>
      t.ctl.faultQ = s.ctl.faultQ ++ [(⟨0x300B, 4, router, none, controlNode router, controlSub router⟩ : FaultPkt)] ∧ (part t k).holdPend = true ∧ (∀ r, (part s k).run = some r → (part t k).run = some { r with breach := some (r.breach.getD stTileFault) }) ∧ OnlyPart k s t) ∧
  (∀ (router : Nat) (s : State),
    s.tiles.perrs.any (fun e => e.1 == router && decide (s.clk.tick.toNat ≤ e.2 + 8)) = true →
    Does (.socketStatus router 1) s [.tiles] fun t =>
      t.tiles.perrs = s.tiles.perrs ∧ t.tiles.tile = s.tiles.tile) ∧
  (∀ (router k : Nat) (s : State),
    partOf s router = some k →
    s.ctl.faultQ.length < 256 →
    s.PlaneWf →
    Does (.socketStatus router 4) s [.parts, .ctl, .tiles] fun t =>
      t.ctl.faultQ = s.ctl.faultQ ++ [(⟨0x300C, 4, router, none, controlNode router, controlSub router⟩ : FaultPkt)] ∧ (part t k).holdPend = true ∧ (∀ r, (part s k).run = some r → (part t k).run = some { r with breach := some (r.breach.getD stTileFault) }) ∧ OnlyPart k s t) ∧
  (∀ (router k : Nat) (s : State),
    partOf s router = some k →
    s.ctl.faultQ.length < 256 →
    recentStall s router = none →
    s.PlaneWf →
    Does (.socketStatus router 2) s [.parts, .ctl, .tiles] fun t =>
      t.ctl.faultQ = s.ctl.faultQ ++ [(⟨0x300D, 4, router, none, controlNode router, controlSub router⟩ : FaultPkt)] ∧ (part t k).holdPend = true ∧ (∀ r, (part s k).run = some r → (part t k).run = some { r with breach := some (r.breach.getD stDataPath) }) ∧ OnlyPart k s t) ∧
  (∀ (router k at_ : Nat) (r : Run) (s : State),
    partOf s router = some k →
    s.ctl.faultQ.length < 256 →
    recentStall s router = some (router, at_, true) →
    (part s k).run = some r →
    r.breach = some stTileFault →
    s.PlaneWf →
    Does (.socketStatus router 2) s [.parts, .ctl, .tiles] fun t =>
      t.ctl.faultQ = s.ctl.faultQ.eraseP (fun (p : FaultPkt) => p.reason == 0x300B && p.unit == router) ++ [(⟨0x300D, 4, router, none, controlNode router, controlSub router⟩ : FaultPkt)] ∧
      (part t k).run = some { r with breach := some stDataPath } ∧ (part t k).holdPend = true ∧ OnlyPart k s t) ∧
  (∀ (router k : Nat) (b : BeatIn) (s : State),
    b.valid = true →
    partOf s router = some k →
    quiescing s (part s k) = true →
    Does (.unreservedUpBeat router b) s [] fun t =>
      t = s) ∧
  (∀ (router k : Nat) (b : BeatIn) (s : State),
    b.valid = true →
    quiescing s (part s k) = false →
    partOf s router = some k →
    s.ctl.faultQ.length < 256 →
    s.tiles.perrs.any (fun e => e.1 == router && decide (s.clk.tick.toNat ≤ e.2 + 8)) = false →
    s.PlaneWf →
    Does (.unreservedUpBeat router b) s [.parts, .ctl, .tiles] fun t =>
      t.ctl.faultQ = s.ctl.faultQ ++ [(⟨0x300B, 4, router, none, controlNode router, controlSub router⟩ : FaultPkt)] ∧ (part t k).holdPend = true ∧ (∀ r, (part s k).run = some r → (part t k).run = some { r with breach := some (r.breach.getD stTileFault) }) ∧ OnlyPart k s t) ∧
  (∀ (n : Nat) (rx : List SvcClock) (d : Machine.Discovery) (s : State),
    heard s n mError rx = some d →
    Does (.tileError n rx) s [.tiles, .rings, .regs, .logs, .counters, .out] fun t =>
      t.logs.next = s.logs.next + 1 ∧ t.logs.errors = s.logs.errors ∧ Sent (tileOutput s n mAck 0 d.seq 4) s t ∧
      t.logs.entries = ((⟨s.logs.next, s.clk.tick, 0x300F, 0, false, 0x100, n, bits d.content 0 32, false⟩ : LogEntry) :: s.logs.entries).take 65536) ∧
  (∀ (n : Nat) (rx : List SvcClock) (s : State),
    heard s n mError rx = none →
    Does (.tileError n rx) s [] fun t =>
      t = s) ∧
  (∀ (n : Nat) (l : List (BitVec 16)) (crc : BitVec 16) (s : State),
    (tileAt s n).trst = true →
    Does (.tileSensorFrame n l crc) s [.ctl, .tiles, .rings, .regs, .logs, .pm, .counters, .out] fun t =>
      tileAt t n = { tileAt s n with readings := l, usable := l.length == 8 && frameCrc Config.crc16Init l == crc && !(l.contains 0x8000) }) ∧
  (∀ (n : Nat) (l : List (BitVec 16)) (crc : BitVec 16) (s : State),
    (tileAt s n).trst = false →
    Does (.tileSensorFrame n l crc) s [] fun t =>
      t = s)

/-- R221 to R228, R248, R249, R260, R560. Which messages a repeated step resends is the model's choice, log entry 49. -/
def Obligations.Discovery : Prop :=
  (∀ (n : Nat) (s : State),
    mpRuns s = true →
    (tileAt s n).step = TileStep.power →
    Does (.helloRetry n) s [.tiles, .out] fun t =>
      tileAt t n = { tileAt s n with step := .hello, trst := true, hellos := 1, seqOut := (tileAt s n).seqOut + 1 } ∧ t.out = s.out ++ [tileOutput s n mHello 0 0 0]) ∧
  (∀ (n : Nat) (s : State),
    mpRuns s = true →
    (tileAt s n).step = TileStep.hello →
    (tileAt s n).hellos < 10 →
    Does (.helloRetry n) s [.tiles, .out] fun t =>
      tileAt t n = { tileAt s n with hellos := (tileAt s n).hellos + 1, seqOut := (tileAt s n).seqOut + 1 } ∧ t.out = s.out ++ [tileOutput s n mHello 0 0 0]) ∧
  (∀ (n : Nat) (s : State),
    mpRuns s = true →
    (tileAt s n).step = TileStep.hello →
    10 ≤ (tileAt s n).hellos →
    Does (.helloRetry n) s [.fmap, .tiles, .rings, .regs, .logs, .fw, .pm, .lat, .counters, .out] fun t =>
      (tileAt t n).step = TileStep.failed ∧ (tileAt t n).trst = false ∧ (tileAt t n).vddt = false ∧ (tileAt t n).failReason = 0x3001) ∧
  (∀ (n : Nat) (s : State),
    mpRuns s = false →
    Does (.helloRetry n) s [] fun t =>
      t = s) ∧
  (∀ (n : Nat) (rx : List SvcClock) (d : Machine.Discovery) (s : State),
    heard s n mIdent rx = some d →
    identExpected (tileAt s n) d = true →
    Does (.ident n rx) s [.fmap, .tiles, .rings, .regs, .logs, .fw, .pm, .lat, .counters, .out] fun t =>
      Sent (tileOutput s n mAck 0 d.seq 4) s t ∧
      (let y : Tile := { tileAt s n with step := .ident, chunk := d.chunk + 1, seqIn := BitVec.ofNat 8 d.seq, seqOut := (tileAt s n).seqOut + 1, ident := (tileAt s n).ident + (d.content % 2 ^ 736) * 2 ^ (736 * d.chunk) }
       let len := if d.chunk = 0 then max (identLength y) 64 else identLength y
       if len ≤ 92 * (d.chunk + 1) then
         (tileAt t n).step = (if (identFault s n y).isSome then TileStep.failed else .train) ∧ ((identFault s n y).isSome → (tileAt t n).failReason = (identFault s n y).getD 0)
       else tileAt t n = y)) ∧
  (∀ (n : Nat) (rx : List SvcClock) (d : Machine.Discovery) (s : State),
    heard s n mIdent rx = some d →
    (tileAt s n).step = TileStep.ident →
    d.chunk < (tileAt s n).chunk →
    Does (.ident n rx) s [.tiles, .out] fun t =>
      tileAt t n = { tileAt s n with seqOut := (tileAt s n).seqOut + 1 } ∧ t.out = s.out ++ [tileOutput s n mAck 0 d.seq 4]) ∧
  (∀ (n : Nat) (rx : List SvcClock) (s : State),
    heard s n mIdent rx = none ∧ heard s n mAck rx = none ∧ heard s n mBootDone rx = none ∧ heard s n mSpares rx = none →
    exec (.ident n rx) s = .next s ∧ exec (.discoveryAck n rx) s = .next s ∧ exec (.bootDone n rx) s = .next s ∧ exec (.spares n rx) s = .next s) ∧
  (∀ (n : Nat) (cells : List CellTrain) (s : State),
    (tileAt s n).step = TileStep.train →
    tickRuns s = true →
    mpRuns (judgeBonds n cells (updTile n (fun y => { y with step := .trained }) (if s.clk.tick.toNat < (tileAt s n).trainFrom + 1048575 then runTo ((tileAt s n).trainFrom + 1048575) s else s))) = true →
    svcLost (((judgeBonds n cells (updTile n (fun y => { y with step := .trained }) (if s.clk.tick.toNat < (tileAt s n).trainFrom + 1048575 then runTo ((tileAt s n).trainFrom + 1048575) s else s))).lanes.consent.filter fun c => entKind c.bundle == 1 && entTile c.bundle == n).foldl (fun u c => consentTo c u) (judgeBonds n cells (updTile n (fun y => { y with step := .trained }) (if s.clk.tick.toNat < (tileAt s n).trainFrom + 1048575 then runTo ((tileAt s n).trainFrom + 1048575) s else s)))) n = false →
    (tileMap (((judgeBonds n cells (updTile n (fun y => { y with step := .trained }) (if s.clk.tick.toNat < (tileAt s n).trainFrom + 1048575 then runTo ((tileAt s n).trainFrom + 1048575) s else s))).lanes.consent.filter fun c => entKind c.bundle == 1 && entTile c.bundle == n).foldl (fun u c => consentTo c u) (judgeBonds n cells (updTile n (fun y => { y with step := .trained }) (if s.clk.tick.toNat < (tileAt s n).trainFrom + 1048575 then runTo ((tileAt s n).trainFrom + 1048575) s else s)))).lanes n).length ≤ 8192 →
    Does (.bondTrainingDone n cells) s [.clk, .parts, .layout, .layoutPend, .slots, .buf, .comp, .ctl, .fmap, .hbm, .tiles, .rings, .regs, .logs, .win, .lanes, .fw, .pm, .lat, .counters, .out] fun t =>
      (tileAt t n).step = TileStep.lanes ∧ (tileAt t n).chunk = 0 ∧ (tileAt t n).laneMap = tileMap t.lanes n ∧ (tileAt t n).laneChunks = (tileMap t.lanes n).length / 23 + 1 ∧
      (∀ c ∈ t.lanes.consent, ¬(entKind c.bundle = 1 ∧ entTile c.bundle = n))) ∧
  (∀ (n : Nat) (cells : List CellTrain) (s : State),
    (tileAt s n).step = TileStep.train →
    tickRuns s = true →
    mpRuns (judgeBonds n cells (updTile n (fun y => { y with step := .trained }) (if s.clk.tick.toNat < (tileAt s n).trainFrom + 1048575 then runTo ((tileAt s n).trainFrom + 1048575) s else s))) = false →
    Does (.bondTrainingDone n cells) s [.clk, .parts, .layout, .layoutPend, .slots, .buf, .comp, .ctl, .fmap, .hbm, .tiles, .rings, .regs, .logs, .win, .lanes, .fw, .pm, .lat, .counters, .out] fun t =>
      (tileAt t n).step = TileStep.trained) ∧
  (∀ (n : Nat) (cells : List CellTrain) (s : State),
    (tileAt s n).step = TileStep.train →
    tickRuns s = true →
    mpRuns (judgeBonds n cells (updTile n (fun y => { y with step := .trained }) (if s.clk.tick.toNat < (tileAt s n).trainFrom + 1048575 then runTo ((tileAt s n).trainFrom + 1048575) s else s))) = true →
    svcLost (((judgeBonds n cells (updTile n (fun y => { y with step := .trained }) (if s.clk.tick.toNat < (tileAt s n).trainFrom + 1048575 then runTo ((tileAt s n).trainFrom + 1048575) s else s))).lanes.consent.filter fun c => entKind c.bundle == 1 && entTile c.bundle == n).foldl (fun u c => consentTo c u) (judgeBonds n cells (updTile n (fun y => { y with step := .trained }) (if s.clk.tick.toNat < (tileAt s n).trainFrom + 1048575 then runTo ((tileAt s n).trainFrom + 1048575) s else s)))) n = true →
    Does (.bondTrainingDone n cells) s [.clk, .parts, .layout, .layoutPend, .slots, .buf, .comp, .ctl, .fmap, .hbm, .tiles, .rings, .regs, .logs, .win, .lanes, .fw, .pm, .lat, .counters, .out] fun t =>
      (tileAt t n).step = TileStep.failed ∧ (tileAt t n).trst = false ∧ (tileAt t n).vddt = false ∧ (tileAt t n).failReason = 0x2004) ∧
  (∀ (n : Nat) (s : State),
    (tileAt s n).step = TileStep.slew →
    mpRuns s = true →
    Does (.vddtReached n) s [.fmap, .tiles, .rings, .regs, .logs, .fw, .pm, .lat, .counters, .out] fun t =>
      if (bootImage s (tileAt s n)).isSome then (tileAt t n).step = TileStep.boot ∧ (tileAt t n).vddtReached = true ∧ (tileAt t n).chunk = 0 ∧
        (tileAt t n).seqOut = (tileAt s n).seqOut + 1 else ((tileAt t n).step = TileStep.failed ∧ (tileAt t n).trst = false ∧ (tileAt t n).vddt = false ∧ (tileAt t n).failReason = 0x300A)) ∧
  (∀ (n : Nat) (rx : List SvcClock) (d : Machine.Discovery) (s : State),
    heard s n mAck rx = some d →
    (tileAt s n).laneChunks ≠ 0 →
    BitVec.ofNat 8 (bits d.content 0 8) = (tileAt s n).laneSeq →
    (tileAt s n).chunk + 1 < (tileAt s n).laneChunks →
    Does (.discoveryAck n rx) s [.tiles, .out] fun t =>
      (tileAt t n).chunk = (tileAt s n).chunk + 1 ∧ (tileAt t n).step = (tileAt s n).step ∧ (tileAt t n).laneSeq = (tileAt s n).seqOut ∧
      (let es := (((tileAt s n).laneMap ++ [0]).drop (23 * ((tileAt s n).chunk + 1))).take 23
       t.out = s.out ++ [tileOutput s n mLanes ((tileAt s n).chunk + 1) (wordsValue es) (4 * es.length)])) ∧
  (∀ (n : Nat) (rx : List SvcClock) (d : Machine.Discovery) (s : State),
    heard s n mAck rx = some d →
    (tileAt s n).laneChunks ≠ 0 →
    BitVec.ofNat 8 (bits d.content 0 8) = (tileAt s n).laneSeq →
    (tileAt s n).laneChunks ≤ (tileAt s n).chunk + 1 →
    Does (.discoveryAck n rx) s [.tiles] fun t =>
      tileAt t n = { tileAt s n with step := (if (tileAt s n).step = TileStep.lanes then .slew else (tileAt s n).step), full := true, chunk := 0, laneChunks := 0, repeats := 0 }) ∧
  (∀ (n : Nat) (rx : List SvcClock) (d : Machine.Discovery) (s : State),
    heard s n mAck rx = some d →
    (tileAt s n).laneChunks = 0 →
    (tileAt s n).step = TileStep.boot →
    BitVec.ofNat 8 (bits d.content 0 8) = (tileAt s n).seqOut - 1 →
    (tileAt s n).bootChunks ≤ (tileAt s n).chunk + 1 →
    Does (.discoveryAck n rx) s [.tiles] fun t =>
      tileAt t n = { tileAt s n with step := .bootDone, chunk := 0, repeats := 0 }) ∧
  (∀ (n : Nat) (rx : List SvcClock) (d : Machine.Discovery) (s : State),
    heard s n mAck rx = some d →
    (tileAt s n).laneChunks = 0 →
    (tileAt s n).step = TileStep.boot →
    BitVec.ofNat 8 (bits d.content 0 8) = (tileAt s n).seqOut - 1 →
    (tileAt s n).chunk + 1 < (tileAt s n).bootChunks →
    Does (.discoveryAck n rx) s [.fmap, .tiles, .rings, .regs, .logs, .fw, .pm, .lat, .counters, .out] fun t =>
      if (bootImage s (tileAt s n)).isSome then tileAt t n = { tileAt s n with chunk := (tileAt s n).chunk + 1, repeats := 0, seqOut := (tileAt s n).seqOut + 1 } ∧ t.out.length = s.out.length + 1 ∧ Touches [.tiles, .out] s t
      else ((tileAt t n).step = TileStep.failed ∧ (tileAt t n).trst = false ∧ (tileAt t n).vddt = false ∧ (tileAt t n).failReason = 0x300A)) ∧
  (∀ (n : Nat) (rx : List SvcClock) (d : Machine.Discovery) (s : State),
    heard s n mAck rx = some d →
    (tileAt s n).laneChunks = 0 →
    (tileAt s n).step = TileStep.commit →
    BitVec.ofNat 8 (bits d.content 0 8) = (tileAt s n).seqOut - 1 →
    Does (.discoveryAck n rx) s [.fmap, .tiles, .rings, .regs, .logs, .fw, .pm, .lat, .counters, .out] fun t =>
      (tileAt t n).step = TileStep.ready ∧ (∀ c ∈ fusedCells n (tileAt s n), Tab.get 2 t.fmap.pendCluster c = 0)) ∧
  (∀ (n : Nat) (rx : List SvcClock) (d : Machine.Discovery) (s : State),
    heard s n mBootDone rx = some d →
    (tileAt s n).step = TileStep.bootDone →
    bits d.content 0 32 = 0 →
    Does (.bootDone n rx) s [.tiles, .out] fun t =>
      tileAt t n = { tileAt s n with step := .spares, chunk := 0, repeats := 0, spares := 0, seqIn := BitVec.ofNat 8 d.seq, seqOut := (tileAt s n).seqOut + 1 } ∧ t.out = s.out ++ [tileOutput s n mAck 0 d.seq 4]) ∧
  (∀ (n : Nat) (rx : List SvcClock) (d : Machine.Discovery) (s : State),
    heard s n mBootDone rx = some d →
    (tileAt s n).step = TileStep.bootDone →
    bits d.content 0 32 = 1 ∨ bits d.content 0 32 = 2 →
    Does (.bootDone n rx) s [.fmap, .tiles, .rings, .regs, .logs, .fw, .pm, .lat, .counters, .out] fun t =>
      (tileAt t n).step = TileStep.failed ∧ (tileAt t n).trst = false ∧ (tileAt t n).vddt = false ∧ (tileAt t n).failReason = (0x3007 + bits d.content 0 32) ∧ Sent (tileOutput s n mAck 0 d.seq 4) s t) ∧
  (∀ (n : Nat) (rx : List SvcClock) (d : Machine.Discovery) (s : State),
    heard s n mSpares rx = some d →
    (tileAt s n).step = TileStep.spares →
    d.chunk = (tileAt s n).chunk →
    d.chunk < 5 →
    Does (.spares n rx) s [.tiles, .out] fun t =>
      tileAt t n = { tileAt s n with chunk := d.chunk + 1, seqIn := BitVec.ofNat 8 d.seq, seqOut := (tileAt s n).seqOut + 1, spares := (tileAt s n).spares + (d.content % 2 ^ 736) * 2 ^ (736 * d.chunk) } ∧
      t.out = s.out ++ [tileOutput s n mAck 0 d.seq 4]) ∧
  (∀ (n : Nat) (rx : List SvcClock) (d : Machine.Discovery) (s : State),
    heard s n mSpares rx = some d →
    (tileAt s n).step = TileStep.spares →
    (tileAt s n).chunk = 5 →
    d.chunk = 5 →
    Does (.spares n rx) s [.tiles, .out] fun t =>
      (tileAt t n).step = TileStep.commit ∧ (tileAt t n).seqOut = (tileAt s n).seqOut + 2 ∧ Sent (tileOutput s n mAck 0 d.seq 4) s t ∧ t.out.length = s.out.length + 2) ∧
  (∀ (n : Nat) (s : State),
    mpRuns s = true →
    inDiscovery (tileAt s n) = true →
    2 ≤ (tileAt s n).repeats →
    Does (.discoveryTimeout n) s [.fmap, .tiles, .rings, .regs, .logs, .lanes, .fw, .pm, .lat, .counters, .out] fun t =>
      (tileAt t n).step = TileStep.failed ∧ (tileAt t n).trst = false ∧ (tileAt t n).vddt = false ∧ (tileAt t n).failReason = 0x3002) ∧
  (∀ (n : Nat) (s : State),
    mpRuns s = true →
    (tileAt s n).step = TileStep.commit →
    (tileAt s n).repeats < 2 →
    Does (.discoveryTimeout n) s [.tiles, .out] fun t =>
      tileAt t n = { tileAt s n with repeats := (tileAt s n).repeats + 1, seqOut := (tileAt s n).seqOut + 1 } ∧ t.out = s.out ++ [tileOutput s n mCommit 0 0 0]) ∧
  (∀ (n cell k : Nat) (s : State),
    partOf s (cellRouter n cell) = some k →
    mpRuns s = true →
    (part s k).held = true →
    Does (.tileRediscovery n cell) s [.clk, .fmap, .tiles, .rings, .regs, .logs, .lanes, .counters, .out] fun t =>
      tileAt t n = { Tile.reset with step := .power, vddt := true, readings := (tileAt s n).readings } ∧ t.clk.wallPs = s.clk.wallPs + 10000000 ∧ t.clk.tick = s.clk.tick ∧
      (s.lanes.retrained.contains (cellRouter n cell) = true → Tab.wf 2 s.fmap.pendCluster = true → Tab.get 2 t.fmap.pendCluster (cellRouter n cell) = 0) ∧
      (s.lanes.retrained.contains (cellRouter n cell) = false → t.lanes.retraining.head? = some (cellRouter n cell, s.fmap.clusterCode (cellRouter n cell))))

/-- R108, R112, R251, R253, R259, R559, R561, Table 17.2. -/
def Obligations.LanesAndMerges : Prop :=
  (∀ (rs : List StitchTrain) (ls : List LinkTrain) (ds : List Nat) (s : State),
    s.boot.starting = true →
    s.boot.steps.getLsbD 6 = false →
    s.boot.steps.getLsbD 4 = true →
    tickRuns s = true →
    Does (.stitchTrainingDone rs ls ds) s [.clk, .boot, .parts, .layout, .layoutPend, .slots, .buf, .comp, .ctl, .fmap, .hbm, .tiles, .rings, .regs, .logs, .win, .lanes, .lat, .counters, .out] fun t =>
      t.boot = { s.boot with steps := s.boot.steps ||| BitVec.twoPow 10 6 } ∧ (s.boot.cold = true → t.buf.mem = [] ∧ t.buf.bad = []) ∧ (s.boot.cold = false → t.buf.mem = (stitchPass s.lanes.stitchFrom s).buf.mem ∧ t.buf.bad = (stitchPass s.lanes.stitchFrom s).buf.bad) ∧
      (∀ n ∈ ds, (stitchPass s.lanes.stitchFrom s).fmap.live n = true → t.fmap.pendRouters.contains n = true) ∧ t.fmap.deadRouters = (stitchPass s.lanes.stitchFrom s).fmap.deadRouters) ∧
  (∀ (b : Nat) (s : State),
    s.lanes.consent.any (fun c => c.bundle == b) = true →
    Tab.get none s.ctl.heldEvent 0x102 = none →
    Tab.get 0 s.ctl.inject 0x102 < 32 →
    Does (.consentTimeout b) s [.ctl, .lanes] fun t =>
      t.lanes = { s.lanes with consent := s.lanes.consent.filter (fun c => c.bundle != b), volatile := s.lanes.volatile.filter fun e => entBundle e != b } ∧
      t.ctl.eventQ = s.ctl.eventQ ++ [(⟨0x2006, 0, b, none, 0x102, 0⟩ : FaultPkt)]) ∧
  (∀ s : State,
    mpRuns s = true →
    s.boot.starting = false ∨ s.boot.steps.getLsbD 8 = true →
    Does .faultMapMerge s [.boot, .parts, .slots, .comp, .fmap, .hbm, .tiles, .rings, .regs, .logs, .lanes, .fw, .pm, .lat, .counters, .out] fun t =>
      t.fmap.merges = s.fmap.merges + 1 ∧ t.fmap.deadRouters = (s.fmap.deadRouters ++ s.fmap.pendRouters).eraseDups ∧ t.fmap.deadPcs = (s.fmap.deadPcs ++ s.fmap.pendPcs).eraseDups ∧
      t.fmap.pendRouters = [] ∧ t.fmap.pendPcs = [] ∧ t.fmap.pendCluster = [] ∧ t.fmap.pendStitch = [] ∧ t.lanes.consent = [] ∧ t.hbm.mem = s.hbm.mem ∧ t.boot = s.boot) ∧
  (∀ s : State,
    mpRuns s = true →
    s.boot.starting = true →
    s.boot.steps.getLsbD 8 = false →
    strandsOver s = true →
    Does .faultMapMerge s [.boot, .parts, .slots, .comp, .fmap, .hbm, .tiles, .rings, .regs, .logs, .lanes, .fw, .pm, .lat, .counters, .out] fun t =>
      t.fmap.merges = s.fmap.merges + 1 ∧ t.boot.steps = s.boot.steps ||| BitVec.twoPow 10 7 ||| BitVec.twoPow 10 8 ∧ t.boot.ready = s.boot.ready ∧ t.fmap.pendRouters = [] ∧ t.logs.power = none) ∧
  (∀ (rs : List StitchTrain) (s : State),
    mpRuns s = true →
    tickRuns s = true →
    rs.isEmpty = false →
    rs.all (fun r => crossingIdle s r.column) = true →
    Does (.stitchRetrain rs) s [.clk, .parts, .layout, .layoutPend, .slots, .buf, .comp, .ctl, .fmap, .hbm, .tiles, .rings, .regs, .logs, .win, .lanes, .lat, .counters, .out] fun t =>
      t.fmap.merges = s.fmap.merges + 1 ∧ (rs.filterMap (fun (r : StitchTrain) => crossingPart s r.column)).all (fun k => (part t k).slot.isNone || !(part t k).held) = true) ∧
  (∀ (k : Nat) (s : State),
    mpRuns s = true →
    (part s k).held = true →
    Does (.partitionRelease k) s [.parts, .tiles, .out] fun t =>
      part t k = { part s k with held := false, quiesceAt := s.clk.wallPs + 1 } ∧ OnlyPart k s t ∧
      t.out = s.out ++ (((rect s k).tiles.filter fun n => (tileAt s n).trst).map fun n => tileOutput s n mQuiesce 0 0 0)) ∧
  (∀ (found : List DriveIn) (s : State),
    mpRuns s = true →
    s.boot.starting = true →
    s.boot.steps.getLsbD 8 = true →
    s.boot.steps.getLsbD 5 = true →
    Does (.deviceReady found) s [.boot, .dense, .rings, .regs, .logs, .fw, .pm, .lat, .counters, .out] fun t =>
      t.boot = { s.boot with ready := true, starting := false, steps := s.boot.steps ||| BitVec.twoPow 10 9 } ∧ t.fw.failedBoots = 0 ∧
      (s.boot.linkUp0 = true → Sent (Output.readiness 0) s t) ∧ (s.boot.linkUp1 = true → Sent (Output.readiness 1) s t)) ∧
  (∀ (found : List DriveIn) (s : State),
    s.boot.mp = MpState.recovery →
    s.boot.starting = true →
    Does (.deviceReady found) s [.boot, .out] fun t =>
      t.boot = { s.boot with ready := true, starting := false } ∧ t.out = s.out ++ (if s.boot.linkUp0 then [Output.readiness 0] else []))

/-- R46, R352, R363, R364, R369, R371, R372, R377, R379, R380. The subscription layout is the model's choice, log entry 39; the layouts of query answers are open values, log entry 46. -/
def Obligations.ManagementCommands : Prop :=
  (∀ (q : MciReq) (s : State),
    Serves 0x0001 (q.plen == 0) (reservedClear (mciParams q) [] && true) q s →
    Does (.mciInfo q) s [.rings, .regs, .fw, .out] fun t =>
      Answered 0x0001 q 0 0 (Config.queryLength 0x0001 ([if s.boot.mp == MpState.recovery then 1 else 0, s.fw.vet, if s.regs.dbgArm then 1 else 0] ++ s.fw.running.flatMap packageContent) % 4081) (Config.queryLayout 0x0001 ([if s.boot.mp == MpState.recovery then 1 else 0, s.fw.vet, if s.regs.dbgArm then 1 else 0] ++ s.fw.running.flatMap packageContent)) s t ∧ t.fw = { s.fw with outstanding := t.fw.outstanding }) ∧
  (∀ (q : MciReq) (s : State),
    Serves 0x0101 (q.plen == 0) (reservedClear (mciParams q) [] && true) q s →
    Does (.fwInfo q) s [.rings, .regs, .fw, .out] fun t =>
      Answered 0x0101 q 0 0 (Config.queryLength 0x0101 ([(fwSlot s 0).state, (fwSlot s 1).state] ++ (bundlePackages s 0 ++ bundlePackages s 1).flatMap packageContent) % 4081) (Config.queryLayout 0x0101 ([(fwSlot s 0).state, (fwSlot s 1).state] ++ (bundlePackages s 0 ++ bundlePackages s 1).flatMap packageContent)) s t ∧ t.fw = { s.fw with outstanding := t.fw.outstanding }) ∧
  (∀ (q : MciReq) (s : State),
    Serves 0x0112 (q.plen == 0) (reservedClear (mciParams q) [] && true) q s →
    Does (.keyList q) s [.rings, .regs, .fw, .out] fun t =>
      Answered 0x0112 q 0 0 (Config.queryLength 0x0112 (s.fw.imageKeys.flatMap (fun (e : Nat × Option Nat) => [0, e.1, (Config.sha384 (e.2.getD 0) 96).toNat]) ++ s.fw.tileKeys.flatMap (fun (e : Nat × Option (Nat × Nat)) => match e.2 with
        | some (v, k) => [1, e.1, v, (Config.sha384 k 96).toNat]
        | none => [])) % 4081) (Config.queryLayout 0x0112 (s.fw.imageKeys.flatMap (fun (e : Nat × Option Nat) => [0, e.1, (Config.sha384 (e.2.getD 0) 96).toNat]) ++ s.fw.tileKeys.flatMap (fun (e : Nat × Option (Nat × Nat)) => match e.2 with
        | some (v, k) => [1, e.1, v, (Config.sha384 k 96).toNat]
        | none => []))) s t ∧ t.fw = { s.fw with outstanding := t.fw.outstanding }) ∧
  (∀ (q : MciReq) (s : State),
    Serves 0x0120 (q.plen == 0) (reservedClear (mciParams q) [] && true) q s →
    Does (.vetReport q) s [.rings, .regs, .fw, .out] fun t =>
      Answered 0x0120 q 0 0 (Config.queryLength 0x0120 ([s.fw.vet, (combinationDigest s.fw.running).toNat] ++ s.fw.running.flatMap packageContent ++ (failingPairs s.fw.running).flatMap fun (x : Package × Package) => packageContent x.1 ++ packageContent x.2) % 4081) (Config.queryLayout 0x0120 ([s.fw.vet, (combinationDigest s.fw.running).toNat] ++ s.fw.running.flatMap packageContent ++ (failingPairs s.fw.running).flatMap fun (x : Package × Package) => packageContent x.1 ++ packageContent x.2)) s t ∧ t.fw = { s.fw with outstanding := t.fw.outstanding }) ∧
  (∀ (q : MciReq) (s : State),
    Serves 0x0003 (q.plen == 8) (reservedClear (mciParams q) [(0, 8)] && true) q s →
    isMctp q.who = true →
    Does (.notifySubscribe q) s [.rings, .regs, .fw, .out] fun t =>
      t.fw.subs = (q.who / 256 - 1, q.who % 256, bits (mciParams q) 0 8) :: s.fw.subs.filter (fun (x : Nat × Nat × Nat) => !(x.1 == q.who / 256 - 1 && x.2.1 == q.who % 256)) ∧ Answered 0x0003 q 0 0 0 0 s t) ∧
  (∀ (q : MciReq) (s : State),
    Serves 0x0003 (q.plen == 8) (reservedClear (mciParams q) [(0, 8)] && true) q s →
    isMctp q.who = false →
    Does (.notifySubscribe q) s [.rings, .regs, .fw, .out] fun t =>
      t.fw.subs = s.fw.subs ∧ Answered 0x0003 q 0 0 0 0 s t) ∧
  (∀ (q : MciReq) (s : State),
    Serves 0x0004 (q.plen == 0) (reservedClear (mciParams q) [] && true) q s →
    Does (.clockCorrelate q) s [.rings, .regs, .fw, .out] fun t =>
      Answered 0x0004 q 0 0 16 (s.clk.tick.toNat + 2 ^ 64 * s.clk.refTime.toNat) s t) ∧
  (∀ (q : MciReq) (s : State),
    Serves 0x0002 (q.plen == 0) (reservedClear (mciParams q) [] && true) q s →
    s.PlaneWf →
    Does (.mpReset q) s [.boot, .slots, .rings, .regs, .logs, .win, .fw, .counters, .out] fun t =>
      Answered 0x0002 q 0 0 0 0 s t ∧ t.boot = { s.boot with mp := .restarting } ∧ t.fw.restart = 2 ∧ t.fw.outstanding = [] ∧ t.fw.spdm = [] ∧ t.win.shadow = s.win.inForce ∧ t.win.inForce = s.win.inForce ∧
      t.logs.entries = ((⟨s.logs.next, s.clk.tick, 0x100A, 6, false, 0x100, 0, 1, false⟩ : LogEntry) :: s.logs.entries).take 65536 ∧
      (∀ k, k < 8 → Tab.get Slot.reset t.slots k = if (Tab.get Slot.reset s.slots k).state = SlotState.loading then { Slot.reset with report := reportAborted } else Tab.get Slot.reset s.slots k)) ∧
  (∀ (q : MciReq) (s : State),
    Serves 0x0110 (q.plen == 112) (reservedClear (mciParams q) ([(0, 1), (8, 4), (128, 768)] ++ if bit1 (mciParams q) 0 then [(16, 16)] else []) && keySlotOk (mciParams q)) q s →
    bit1 (mciParams q) 0 = false →
    (Tab.get none s.fw.imageKeys (bits (mciParams q) 8 4)).isSome = false →
    Tab.wf none s.fw.imageKeys = true →
    Does (.keyInstall q) s [.rings, .regs, .fw, .out] fun t =>
      (∀ n, n < 16 → Tab.get none t.fw.imageKeys n = if n = (bits (mciParams q) 8 4) then some (bits (mciParams q) 128 768) else Tab.get none s.fw.imageKeys n) ∧ t.fw.tileKeys = s.fw.tileKeys ∧ Answered 0x0110 q 0 0 0 0 s t) ∧
  (∀ (q : MciReq) (s : State),
    Serves 0x0110 (q.plen == 112) (reservedClear (mciParams q) ([(0, 1), (8, 4), (128, 768)] ++ if bit1 (mciParams q) 0 then [(16, 16)] else []) && keySlotOk (mciParams q)) q s →
    bit1 (mciParams q) 0 = true →
    (Tab.get none s.fw.tileKeys (bits (mciParams q) 8 4)).isSome = false →
    Tab.wf none s.fw.tileKeys = true →
    Does (.keyInstall q) s [.rings, .regs, .fw, .out] fun t =>
      (∀ n, n < 16 → Tab.get none t.fw.tileKeys n = if n = (bits (mciParams q) 8 4) then some (bits (mciParams q) 16 16, (bits (mciParams q) 128 768)) else Tab.get none s.fw.tileKeys n) ∧ t.fw.imageKeys = s.fw.imageKeys ∧ Answered 0x0110 q 0 0 0 0 s t) ∧
  (∀ (q : MciReq) (s : State),
    Serves 0x0110 (q.plen == 112) (reservedClear (mciParams q) ([(0, 1), (8, 4), (128, 768)] ++ if bit1 (mciParams q) 0 then [(16, 16)] else []) && keySlotOk (mciParams q)) q s →
    if bit1 (mciParams q) 0 then (Tab.get none s.fw.tileKeys (bits (mciParams q) 8 4)).isSome = true else (Tab.get none s.fw.imageKeys (bits (mciParams q) 8 4)).isSome = true →
    Does (.keyInstall q) s [.rings, .regs, .fw, .out] fun t =>
      t.fw.imageKeys = s.fw.imageKeys ∧ t.fw.tileKeys = s.fw.tileKeys ∧ Answered 0x0110 q 6 0 0 0 s t) ∧
  (∀ (q : MciReq) (s : State),
    Serves 0x0111 (q.plen == 8) (reservedClear (mciParams q) [(0, 1), (8, 4)] && keySlotOk (mciParams q)) q s →
    Tab.wf none s.fw.imageKeys = true →
    Tab.wf none s.fw.tileKeys = true →
    Does (.keyRemove q) s [.rings, .regs, .fw, .out] fun t =>
      (∀ n, n < 16 → Tab.get none t.fw.imageKeys n = if n = (bits (mciParams q) 8 4) ∧ bit1 (mciParams q) 0 = false then none else Tab.get none s.fw.imageKeys n) ∧ (∀ n, n < 16 → Tab.get none t.fw.tileKeys n = if n = (bits (mciParams q) 8 4) ∧ bit1 (mciParams q) 0 = true then none else Tab.get none s.fw.tileKeys n) ∧ Answered 0x0111 q 0 0 0 0 s t) ∧
  (∀ (q : MciReq) (s : State),
    Serves 0x0113 (q.plen == 8) (reservedClear (mciParams q) [(0, 1)] && true) q s →
    Does (.imagePolicy q) s [.rings, .regs, .fw, .out] fun t =>
      t.fw.allowUnsigned = bit1 (mciParams q) 0 ∧ t.slots = s.slots ∧ Answered 0x0113 q 0 0 0 0 s t) ∧
  (∀ (q : MciReq) (s : State),
    Serves 0x0121 (q.plen == 64) (reservedClear (mciParams q) [(128, 384)] && true) q s →
    s.fw.vet = 1 →
    Does (.vetAccept q) s [.rings, .regs, .fw, .out, .pm, .lat] fun t =>
      if BitVec.ofNat 384 (bits (mciParams q) 128 384) = combinationDigest s.fw.running then t.fw.accept = some (BitVec.ofNat 384 (bits (mciParams q) 128 384)) ∧ t.fw.vet = 2 ∧ Answered 0x0121 q 0 0 0 0 s t
      else t.fw.accept = s.fw.accept ∧ t.fw.vet = 1 ∧ t.lat = s.lat ∧ Answered 0x0121 q 2 0 0 0 s t) ∧
  (∀ (q : MciReq) (s : State),
    Serves 0x0121 (q.plen == 64) (reservedClear (mciParams q) [(128, 384)] && true) q s →
    s.fw.vet ≠ 1 →
    Does (.vetAccept q) s [.rings, .regs, .fw, .out] fun t =>
      t.fw.accept = s.fw.accept ∧ t.fw.vet = s.fw.vet ∧ Answered 0x0121 q 2 0 0 0 s t) ∧
  (∀ (q : MciReq) (s : State),
    Serves 0x0122 (q.plen == 0) (reservedClear (mciParams q) [] && true) q s →
    Does (.vetRevoke q) s [.rings, .regs, .fw, .out, .logs, .pm, .lat, .counters] fun t =>
      t.fw.accept = none ∧ t.fw.vet = (if (failingPairs s.fw.running).isEmpty then 0 else 1) ∧ Answered 0x0122 q 0 0 0 0 s t)

/-- R365, R367 to R371, Table 11.7. -/
def Obligations.FirmwareSlots : Prop :=
  (∀ (q : MciReq) (data : Nat) (s : State),
    Serves 0x0102 (q.plen == 24 + if bit1 (mciParams q) 1 then 0 else (bits (mciParams q) 64 32)) (reservedClear ((mciParams q) % 2 ^ 192) [(0, 3), (32, 32), (64, 32), (96, 64)] && (!bit1 (mciParams q) 1 || isRing q.who)) q s →
    s.boot.mp = MpState.running →
    (bits (mciParams q) 0 1) ≠ s.fw.active →
    (fwSlot s s.fw.active).state = 5 →
    (bits (mciParams q) 32 32) + (bits (mciParams q) 64 32) ≤ 29360128 →
    (bits (mciParams q) 32 32) = 0 →
    Tab.wf FwSlot.reset s.fw.slots = true →
    Does (.fwWrite q data) s [.rings, .regs, .fw, .out] fun t =>
      (∀ j, j < 2 → fwSlot t j = if j = (bits (mciParams q) 0 1) then { (FwSlot.reset).write (bits (mciParams q) 32 32) (if bit1 (mciParams q) 1 then data % 2 ^ (8 * (bits (mciParams q) 64 32)) else (mciParams q) / 2 ^ 192) (bits (mciParams q) 64 32) with state := (if bit1 (mciParams q) 2 then 2 else 1), next := (bits (mciParams q) 32 32) + (bits (mciParams q) 64 32) } else fwSlot s j) ∧ Answered 0x0102 q 0 0 0 0 s t) ∧
  (∀ (q : MciReq) (data : Nat) (s : State),
    Serves 0x0102 (q.plen == 24 + if bit1 (mciParams q) 1 then 0 else (bits (mciParams q) 64 32)) (reservedClear ((mciParams q) % 2 ^ 192) [(0, 3), (32, 32), (64, 32), (96, 64)] && (!bit1 (mciParams q) 1 || isRing q.who)) q s →
    s.boot.mp = MpState.running →
    (bits (mciParams q) 0 1) ≠ s.fw.active →
    (fwSlot s s.fw.active).state = 5 →
    (bits (mciParams q) 32 32) + (bits (mciParams q) 64 32) ≤ 29360128 →
    (bits (mciParams q) 32 32) ≠ 0 →
    (fwSlot s (bits (mciParams q) 0 1)).state = 1 →
    (bits (mciParams q) 32 32) = (fwSlot s (bits (mciParams q) 0 1)).next →
    Tab.wf FwSlot.reset s.fw.slots = true →
    Does (.fwWrite q data) s [.rings, .regs, .fw, .out] fun t =>
      (∀ j, j < 2 → fwSlot t j = if j = (bits (mciParams q) 0 1) then { (fwSlot s (bits (mciParams q) 0 1)).write (bits (mciParams q) 32 32) (if bit1 (mciParams q) 1 then data % 2 ^ (8 * (bits (mciParams q) 64 32)) else (mciParams q) / 2 ^ 192) (bits (mciParams q) 64 32) with state := (if bit1 (mciParams q) 2 then 2 else 1), next := (bits (mciParams q) 32 32) + (bits (mciParams q) 64 32) } else fwSlot s j) ∧ Answered 0x0102 q 0 0 0 0 s t) ∧
  (∀ (q : MciReq) (data : Nat) (s : State),
    Serves 0x0102 (q.plen == 24 + if bit1 (mciParams q) 1 then 0 else (bits (mciParams q) 64 32)) (reservedClear ((mciParams q) % 2 ^ 192) [(0, 3), (32, 32), (64, 32), (96, 64)] && (!bit1 (mciParams q) 1 || isRing q.who)) q s →
    s.boot.mp = MpState.recovery →
    (bits (mciParams q) 0 1) ≠ s.fw.active ∨ (fwSlot s (bits (mciParams q) 0 1)).state ∈ [0, 1, 2, 6] →
    (bits (mciParams q) 32 32) + (bits (mciParams q) 64 32) ≤ 29360128 →
    (bits (mciParams q) 32 32) = 0 →
    Tab.wf FwSlot.reset s.fw.slots = true →
    Does (.fwWrite q data) s [.rings, .regs, .fw, .out] fun t =>
      (∀ j, j < 2 → fwSlot t j = if j = (bits (mciParams q) 0 1) then { (FwSlot.reset).write (bits (mciParams q) 32 32) (if bit1 (mciParams q) 1 then data % 2 ^ (8 * (bits (mciParams q) 64 32)) else (mciParams q) / 2 ^ 192) (bits (mciParams q) 64 32) with state := (if bit1 (mciParams q) 2 then 2 else 1), next := (bits (mciParams q) 32 32) + (bits (mciParams q) 64 32) } else fwSlot s j) ∧ Answered 0x0102 q 0 0 0 0 s t) ∧
  (∀ (q : MciReq) (data : Nat) (s : State),
    Serves 0x0102 (q.plen == 24 + if bit1 (mciParams q) 1 then 0 else (bits (mciParams q) 64 32)) (reservedClear ((mciParams q) % 2 ^ 192) [(0, 3), (32, 32), (64, 32), (96, 64)] && (!bit1 (mciParams q) 1 || isRing q.who)) q s →
    s.boot.mp = MpState.running →
    (bits (mciParams q) 0 1) ≠ s.fw.active →
    (fwSlot s s.fw.active).state = 5 →
    29360128 < (bits (mciParams q) 32 32) + (bits (mciParams q) 64 32) →
    Does (.fwWrite q data) s [.rings, .regs, .fw, .out] fun t =>
      t.fw.slots = s.fw.slots ∧ Answered 0x0102 q 0xC 0 0 0 s t) ∧
  (∀ (q : MciReq) (data : Nat) (s : State),
    Serves 0x0102 (q.plen == 24 + if bit1 (mciParams q) 1 then 0 else (bits (mciParams q) 64 32)) (reservedClear ((mciParams q) % 2 ^ 192) [(0, 3), (32, 32), (64, 32), (96, 64)] && (!bit1 (mciParams q) 1 || isRing q.who)) q s →
    s.boot.mp = MpState.running →
    (bits (mciParams q) 0 1) ≠ s.fw.active →
    (fwSlot s s.fw.active).state = 5 →
    (bits (mciParams q) 32 32) + (bits (mciParams q) 64 32) ≤ 29360128 →
    (bits (mciParams q) 32 32) ≠ 0 →
    (fwSlot s (bits (mciParams q) 0 1)).state ≠ 1 ∨ (bits (mciParams q) 32 32) ≠ (fwSlot s (bits (mciParams q) 0 1)).next →
    Does (.fwWrite q data) s [.rings, .regs, .fw, .out] fun t =>
      t.fw.slots = s.fw.slots ∧ Answered 0x0102 q 2 0 0 0 s t) ∧
  (∀ (q : MciReq) (data : Nat) (s : State),
    Serves 0x0102 (q.plen == 24 + if bit1 (mciParams q) 1 then 0 else (bits (mciParams q) 64 32)) (reservedClear ((mciParams q) % 2 ^ 192) [(0, 3), (32, 32), (64, 32), (96, 64)] && (!bit1 (mciParams q) 1 || isRing q.who)) q s →
    s.boot.mp = MpState.running →
    (bits (mciParams q) 0 1) = s.fw.active ∨ (fwSlot s s.fw.active).state ≠ 5 →
    Does (.fwWrite q data) s [.rings, .regs, .fw, .out] fun t =>
      t.fw.slots = s.fw.slots ∧ Answered 0x0102 q 6 0 0 0 s t) ∧
  (∀ (q : MciReq) (data : Nat) (s : State),
    Serves 0x0102 (q.plen == 24 + if bit1 (mciParams q) 1 then 0 else (bits (mciParams q) 64 32)) (reservedClear ((mciParams q) % 2 ^ 192) [(0, 3), (32, 32), (64, 32), (96, 64)] && (!bit1 (mciParams q) 1 || isRing q.who)) q s →
    s.boot.mp = MpState.recovery →
    (bits (mciParams q) 0 1) = s.fw.active →
    (fwSlot s (bits (mciParams q) 0 1)).state = 4 ∨ (fwSlot s (bits (mciParams q) 0 1)).state = 5 →
    Does (.fwWrite q data) s [.rings, .regs, .fw, .out] fun t =>
      t.fw.slots = s.fw.slots ∧ Answered 0x0102 q 6 0 0 0 s t) ∧
  (∀ (q : MciReq) (s : State),
    Serves 0x0103 (q.plen == 8) (reservedClear (mciParams q) [(0, 1)] && true) q s →
    (fwSlot s (bits (mciParams q) 0 1)).state = 2 →
    Tab.wf FwSlot.reset s.fw.slots = true →
    Does (.fwVerify q) s [.rings, .regs, .fw, .out, .logs, .counters] fun t =>
      if (bundleVerdict s (bits (mciParams q) 0 1)).isNone then fwSlot t (bits (mciParams q) 0 1) = { fwSlot s (bits (mciParams q) 0 1) with state := 3 } ∧ Answered 0x0103 q 0 0 0 0 s t ∧ t.logs = s.logs
      else fwSlot t (bits (mciParams q) 0 1) = { fwSlot s (bits (mciParams q) 0 1) with state := 6 } ∧ Answered 0x0103 q ((bundleVerdict s (bits (mciParams q) 0 1)).getD (0, 0)).2 ((bundleVerdict s (bits (mciParams q) 0 1)).getD (0, 0)).1 0 0 s t) ∧
  (∀ (q : MciReq) (s : State),
    Serves 0x0103 (q.plen == 8) (reservedClear (mciParams q) [(0, 1)] && true) q s →
    (fwSlot s (bits (mciParams q) 0 1)).state ≠ 2 →
    Does (.fwVerify q) s [.rings, .regs, .fw, .out] fun t =>
      t.fw.slots = s.fw.slots ∧ Answered 0x0103 q 6 0 0 0 s t) ∧
  (∀ (q : MciReq) (s : State),
    Serves 0x0104 (q.plen == 8) (reservedClear (mciParams q) [(0, 1), (8, 1)] && true) q s →
    (fwSlot s (bits (mciParams q) 0 1)).state = 3 →
    bit1 (mciParams q) 8 = false →
    Tab.wf FwSlot.reset s.fw.slots = true →
    Does (.fwActivate q) s [.rings, .regs, .fw, .out] fun t =>
      t.fw.active = (bits (mciParams q) 0 1) ∧ t.fw.trial = true ∧ t.fw.failedBoots = 0 ∧ t.fw.bootSeq = s.fw.bootSeq + 1 ∧ fwSlot t (bits (mciParams q) 0 1) = { fwSlot s (bits (mciParams q) 0 1) with state := 4 } ∧
      fwSlot t (1 - (bits (mciParams q) 0 1)) = { fwSlot s (1 - (bits (mciParams q) 0 1)) with state := if s.boot.mp = MpState.recovery then (fwSlot s (1 - (bits (mciParams q) 0 1))).state else 5 } ∧ t.fw.running = s.fw.running ∧ Answered 0x0104 q 0 0 0 0 s t) ∧
  (∀ (q : MciReq) (s : State),
    Serves 0x0104 (q.plen == 8) (reservedClear (mciParams q) [(0, 1), (8, 1)] && true) q s →
    (fwSlot s (bits (mciParams q) 0 1)).state = 3 →
    bit1 (mciParams q) 8 = true →
    s.boot.mp = MpState.running →
    Tab.wf FwSlot.reset s.fw.slots = true →
    s.PlaneWf →
    Does (.fwActivate q) s [.boot, .slots, .rings, .regs, .logs, .win, .fw, .counters, .out] fun t =>
      t.fw.active = (bits (mciParams q) 0 1) ∧ t.fw.trial = true ∧ (fwSlot t (bits (mciParams q) 0 1)).state = 4 ∧ (fwSlot t (1 - (bits (mciParams q) 0 1))).state = 5 ∧ Answered 0x0104 q 0 0 0 0 s t ∧ t.fw.useSlot = (bits (mciParams q) 0 1) ∧ t.boot = { s.boot with mp := .restarting } ∧ t.fw.restart = 3 ∧ t.fw.outstanding = [] ∧ t.fw.spdm = [] ∧ t.win.shadow = s.win.inForce ∧ t.win.inForce = s.win.inForce ∧
      t.logs.entries = ((⟨s.logs.next, s.clk.tick, 0x100A, 6, false, 0x100, 0, 2, false⟩ : LogEntry) :: s.logs.entries).take 65536 ∧
      (∀ k, k < 8 → Tab.get Slot.reset t.slots k = if (Tab.get Slot.reset s.slots k).state = SlotState.loading then { Slot.reset with report := reportAborted } else Tab.get Slot.reset s.slots k)) ∧
  (∀ (q : MciReq) (s : State),
    Serves 0x0104 (q.plen == 8) (reservedClear (mciParams q) [(0, 1), (8, 1)] && true) q s →
    (fwSlot s (bits (mciParams q) 0 1)).state = 3 →
    bit1 (mciParams q) 8 = true →
    s.boot.mp = MpState.recovery →
    Tab.wf FwSlot.reset s.fw.slots = true →
    Does (.fwActivate q) s [.rings, .regs, .fw, .out, .boot] fun t =>
      t.boot = { s.boot with mp := .bootRom, ready := false, starting := true } ∧ t.fw.active = (bits (mciParams q) 0 1) ∧ t.fw.trial = true ∧ (fwSlot t (bits (mciParams q) 0 1)).state = 4 ∧ (fwSlot t (1 - (bits (mciParams q) 0 1))).state = (fwSlot s (1 - (bits (mciParams q) 0 1))).state) ∧
  (∀ (q : MciReq) (s : State),
    Serves 0x0104 (q.plen == 8) (reservedClear (mciParams q) [(0, 1), (8, 1)] && true) q s →
    (fwSlot s (bits (mciParams q) 0 1)).state ≠ 3 →
    Does (.fwActivate q) s [.rings, .regs, .fw, .out] fun t =>
      t.fw.active = s.fw.active ∧ t.fw.trial = s.fw.trial ∧ t.fw.slots = s.fw.slots ∧ Answered 0x0104 q 6 0 0 0 s t) ∧
  (∀ (q : MciReq) (s : State),
    Serves 0x0105 (q.plen == 8) (reservedClear (mciParams q) [(0, 1)] && true) q s →
    s.fw.trial = true →
    s.fw.mpSlot = s.fw.active →
    Tab.wf FwSlot.reset s.fw.slots = true →
    Tab.wf 0 s.fw.minSvn = true →
    Tab.wf 0 s.fw.tileSvn = true →
    Does (.fwCommit q) s [.rings, .regs, .fw, .out] fun t =>
      t.fw.trial = false ∧ t.fw.active = s.fw.active ∧ (fwSlot t s.fw.active).state = 5 ∧ (bit1 (mciParams q) 0 = false → t.fw.minSvn = s.fw.minSvn ∧ t.fw.tileSvn = s.fw.tileSvn) ∧
      (bit1 (mciParams q) 0 = true → ∀ p ∈ bundlePackages s s.fw.active, p.svn ≤ svnMinimum t p) ∧ Answered 0x0105 q 0 0 0 0 s t) ∧
  (∀ (q : MciReq) (s : State),
    Serves 0x0105 (q.plen == 8) (reservedClear (mciParams q) [(0, 1)] && true) q s →
    s.fw.trial = false ∨ s.fw.mpSlot ≠ s.fw.active →
    Does (.fwCommit q) s [.rings, .regs, .fw, .out] fun t =>
      t.fw.trial = s.fw.trial ∧ t.fw.slots = s.fw.slots ∧ t.fw.minSvn = s.fw.minSvn ∧ Answered 0x0105 q 6 0 0 0 s t)

/-- R352, R353, R362, R368, R370, R371, R373, R379, R380, R584, Table 17.2. The failed boot of a slot without TRIAL is log entry 61. -/
def Obligations.BootsAndRestarts : Prop :=
  (∀ (cals : List CalIn) (s : State),
    s.boot.mp = MpState.bootRom →
    s.pins.perst = false →
    s.clk.pll = true →
    s.pins.recoveryStrap = true →
    Does (.mpBoot cals) s [.boot, .rings, .regs, .logs, .counters, .out] fun t =>
      t.boot = { s.boot with mp := MpState.recovery } ∧ t.fw = s.fw ∧ t.logs.entries = ((⟨s.logs.next, s.clk.tick, 0x9003, 6, false, 0x100, 0, 0, false⟩ : LogEntry) :: s.logs.entries).take 65536) ∧
  (∀ (cals : List CalIn) (s : State),
    s.boot.mp = MpState.bootRom →
    s.pins.perst = false →
    s.clk.pll = true →
    s.pins.recoveryStrap = false →
    Does (.mpBoot cals) s [.boot, .ctl, .tiles, .rings, .regs, .logs, .lanes, .fw, .pm, .lat, .counters, .out] fun t =>
      (bundleVerdict s s.fw.active).isNone = true → t.boot.mp = MpState.running ∧ t.boot.pm = PmState.firmware ∧ t.boot.steps.getLsbD 3 = true ∧ t.boot.steps.getLsbD 4 = true ∧ t.boot.ready = s.boot.ready ∧ t.fw.mpSlot = s.fw.active ∧ t.fw.useSlot = s.fw.active ∧ t.fw.active = s.fw.active ∧ t.fw.pmRetained = true ∧ t.pm.guard = false ∧ t.logs.held = []) ∧
  (∀ (cals : List CalIn) (s : State),
    s.boot.mp = MpState.bootRom →
    s.pins.perst = false →
    s.clk.pll = true →
    s.pins.recoveryStrap = false →
    (bundleVerdict s s.fw.active).isSome = true →
    s.fw.trial = true →
    s.fw.failedBoots = 0 →
    Does (.mpBoot cals) s [.fw] fun t =>
      t.fw = { s.fw with failedBoots := 1, bootSeq := s.fw.bootSeq + 1, recordCopy := 1 - s.fw.recordCopy, otherCopy := some ⟨s.fw.bootSeq, s.fw.active, s.fw.trial, s.fw.failedBoots⟩ }) ∧
  (∀ (cals : List CalIn) (s : State),
    s.boot.mp = MpState.bootRom →
    s.pins.perst = false →
    s.clk.pll = true →
    s.pins.recoveryStrap = false →
    (bundleVerdict s s.fw.active).isSome = true →
    s.fw.trial = true →
    s.fw.failedBoots ≠ 0 →
    (fwSlot s (1 - s.fw.active)).state = 5 →
    Tab.wf FwSlot.reset s.fw.slots = true →
    Does (.mpBoot cals) s [.rings, .regs, .logs, .fw, .counters, .out] fun t =>
      t.fw.active = 1 - s.fw.active ∧ t.fw.useSlot = 1 - s.fw.active ∧ t.fw.trial = false ∧ t.fw.failedBoots = 0 ∧ (s.fw.active ≤ 1 → (fwSlot t s.fw.active).state = 6 ∧ (fwSlot t (1 - s.fw.active)).state = 5) ∧ t.logs.entries = ((⟨s.logs.next, s.clk.tick, 0x9002, 6, false, 0x100, 0, 0, false⟩ : LogEntry) :: s.logs.entries).take 65536) ∧
  (∀ (cals : List CalIn) (s : State),
    s.boot.mp = MpState.bootRom →
    s.pins.perst = false →
    s.clk.pll = true →
    s.pins.recoveryStrap = false →
    (bundleVerdict s s.fw.active).isSome = true →
    s.fw.trial = true → s.fw.failedBoots ≠ 0 →
    (fwSlot s (1 - s.fw.active)).state ≠ 5 →
    Tab.wf FwSlot.reset s.fw.slots = true →
    Does (.mpBoot cals) s [.boot, .rings, .regs, .logs, .fw, .counters, .out] fun t =>
      t.boot = { s.boot with mp := MpState.recovery } ∧ (fwSlot t s.fw.active).state = 6 ∧ (s.fw.active ≤ 1 → fwSlot t (1 - s.fw.active) = fwSlot s (1 - s.fw.active)) ∧ t.fw.active = s.fw.active ∧ t.logs.entries = ((⟨s.logs.next, s.clk.tick, 0x9003, 6, false, 0x100, 0, 0, false⟩ : LogEntry) :: s.logs.entries).take 65536) ∧
  (∀ s : State,
    s.fw.trial = true →
    s.boot.mp = MpState.running →
    s.boot.starting = true →
    s.fw.failedBoots = 0 →
    Does .trialBootTimeout s [.boot, .fw] fun t =>
      t.fw = { s.fw with failedBoots := 1, bootSeq := s.fw.bootSeq + 1, recordCopy := 1 - s.fw.recordCopy, otherCopy := some ⟨s.fw.bootSeq, s.fw.active, s.fw.trial, s.fw.failedBoots⟩ } ∧ t.boot = { s.boot with mp := .bootRom, steps := s.boot.steps &&& 0x3E7#10 }) ∧
  (∀ s : State,
    s.fw.trial = true →
    s.boot.mp = MpState.restarting →
    s.fw.failedBoots ≠ 0 →
    (fwSlot s (1 - s.fw.active)).state = 5 →
    Tab.wf FwSlot.reset s.fw.slots = true →
    Does .trialBootTimeout s [.rings, .regs, .logs, .fw, .counters, .out] fun t =>
      t.fw.active = 1 - s.fw.active ∧ t.fw.useSlot = 1 - s.fw.active ∧ t.fw.trial = false ∧ t.fw.failedBoots = 0 ∧ (s.fw.active ≤ 1 → (fwSlot t s.fw.active).state = 6 ∧ (fwSlot t (1 - s.fw.active)).state = 5) ∧ t.boot.mp = MpState.restarting) ∧
  (∀ s : State,
    mpRuns s = true →
    s.PlaneWf →
    Does .mpWatchdog s [.boot, .slots, .rings, .regs, .logs, .win, .fw, .counters, .out] fun t =>
      t.boot = { s.boot with mp := .restarting } ∧ t.fw.restart = 1 ∧ t.fw.outstanding = [] ∧ t.fw.spdm = [] ∧ t.win.shadow = s.win.inForce ∧ t.win.inForce = s.win.inForce ∧
      t.logs.entries = ((⟨s.logs.next, s.clk.tick, 0x100A, 6, false, 0x100, 0, 0, false⟩ : LogEntry) :: s.logs.entries).take 65536 ∧
      (∀ k, k < 8 → Tab.get Slot.reset t.slots k = if (Tab.get Slot.reset s.slots k).state = SlotState.loading then { Slot.reset with report := reportAborted } else Tab.get Slot.reset s.slots k)) ∧
  (∀ s : State,
    mpRuns s = true →
    s.PlaneWf →
    Does .mpSramUncorrectable s [.boot, .slots, .rings, .regs, .logs, .win, .fw, .counters, .out] fun t =>
      t.boot = { s.boot with mp := .restarting } ∧ t.fw.restart = 4 ∧ t.fw.outstanding = [] ∧ t.fw.spdm = [] ∧ t.win.shadow = s.win.inForce ∧ t.win.inForce = s.win.inForce ∧
      t.logs.entries = ((⟨s.logs.next, s.clk.tick, 0x100A, 6, false, 0x100, 0, 3, false⟩ : LogEntry) :: s.logs.entries).take 65536 ∧
      (∀ k, k < 8 → Tab.get Slot.reset t.slots k = if (Tab.get Slot.reset s.slots k).state = SlotState.loading then { Slot.reset with report := reportAborted } else Tab.get Slot.reset s.slots k)) ∧
  (∀ s : State,
    s.boot.mp = MpState.restarting →
    Does .mpReady s [.boot, .rings, .regs, .logs, .fw, .pm, .lat, .counters, .out] fun t =>
      (bundleVerdict s s.fw.useSlot).isNone = true → t.boot.mp = MpState.running ∧ t.fw.restart = 0 ∧ t.fw.failedBoots = 0 ∧ t.fw.mpSlot = s.fw.useSlot ∧ t.fw.active = s.fw.active ∧ t.regs.stsAttn.getLsbD 4 = true ∧ t.regs.mbxBusy = false ∧ t.logs.held = [] ∧ (s.boot.pm ≠ PmState.restarting → t.boot.pm = s.boot.pm) ∧ (s.boot.pm = PmState.restarting → t.boot.pm = PmState.firmware)) ∧
  (∀ s : State,
    s.boot.mp = MpState.restarting →
    (bundleVerdict s s.fw.useSlot).isSome = true →
    s.fw.trial = false →
    (fwSlot s (1 - s.fw.active)).state ≠ 5 →
    Tab.wf FwSlot.reset s.fw.slots = true →
    Does .mpReady s [.boot, .rings, .regs, .logs, .fw, .counters, .out] fun t =>
      t.boot = { s.boot with mp := MpState.recovery } ∧ (fwSlot t s.fw.active).state = 6 ∧ t.logs.entries = ((⟨s.logs.next, s.clk.tick, 0x9003, 6, false, 0x100, 0, 0, false⟩ : LogEntry) :: s.logs.entries).take 65536) ∧
  (∀ (crc : Bool) (s : State),
    s.boot.pm = PmState.firmware →
    linkedOn s = false →
    s.ctl.faultQ.length < 256 →
    Does (.pmWatchdog crc) s [.clk, .boot, .ctl, .fw, .pm] fun t =>
      t.clk = { s.clk with pendSetting := some (Pm.slow, s.clk.tick.toNat) } ∧ t.ctl.faultQ = s.ctl.faultQ ++ [(⟨0x1009, 6, 0, none, 0x101, 0⟩ : FaultPkt)] ∧ t.pm = { s.pm with guard := !crc, own := Pm.slow } ∧ t.boot = { s.boot with pm := if crc then .firmware else .restarting } ∧ t.fw = { s.fw with pmRetained := crc }) ∧
  (∀ (crc : Bool) (s : State),
    s.boot.pm = PmState.firmware →
    linkedOn s = true →
    Does (.pmWatchdog crc) s [.clk, .boot, .ctl, .fw, .pm, .lat, .counters] fun t =>
      t.clk.pendSetting = some (Pm.slow, s.clk.tick.toNat) ∧ t.pm.own = Pm.slow ∧ t.pm.guard = !crc ∧ t.boot = { s.boot with pm := if crc then .firmware else .restarting } ∧ t.fw = { s.fw with pmRetained := crc }) ∧
  (∀ (crc : Bool) (s : State),
    s.boot.pm ≠ PmState.firmware →
    Does (.pmWatchdog crc) s [] fun t =>
      t = s) ∧
  (∀ (medium src eid : Nat) (s : State),
    mctpOpen s medium = true →
    Tab.wf 0 s.fw.eid = true →
    Does (.mctpControl medium 1 src eid) s [.fw, .out] fun t =>
      t.fw = { s.fw with eid := Tab.set 0 s.fw.eid medium (eid % 256) } ∧ t.out = s.out ++ [Output.mctpAnswer medium src (Config.mctpAnswer 1 (eid % 256))]) ∧
  (∀ (medium cmd src eid : Nat) (s : State),
    mctpOpen s medium = true →
    cmd ≠ 1 →
    Does (.mctpControl medium cmd src eid) s [.out] fun t =>
      t.out = s.out ++ [Output.mctpAnswer medium src (Config.mctpAnswer cmd (Tab.get 0 s.fw.eid medium))]) ∧
  (∀ (transport src kind content : Nat) (s : State),
    spdmOpen s transport = true →
    Tab.wf 0 s.fw.spdm = true →
    Does (.spdmRequest transport src kind content) s [.fw, .out] fun t =>
      (∀ j, j < 5 → Tab.get 0 t.fw.spdm j = if j = transport then spdmNext (Tab.get 0 s.fw.spdm transport) kind else Tab.get 0 s.fw.spdm j) ∧ t.out = s.out ++ [Output.spdmAnswer transport src (Config.spdmAnswer [kind, content, Tab.get 0 s.fw.spdm transport] (measurements s))])

/-- R287, R292 to R299, R305, Table 9.8. A failed write is not applied. In which order a cache line's 64-byte lines lie in the CACHE units is the model's choice, log entry 33. -/
def Obligations.CacheRequests : Prop :=
  (∀ s : State,
    denseReady s = none →
    Does .cacheAccess s [] fun t =>
      t = s) ∧
  (∀ (q : DReq) (k : Nat) (s : State),
    denseReady s = some q →
    denseStep s q = DenseStep.hit k →
    s.UnitWf →
    Does .cacheAccess s [.dense, .hbm] fun t =>
      (pcOf t (lineHome s k 0 / pcLines)).cacheQ = (pcOf s (lineHome s k 0 / pcLines)).cacheQ ++ [(k, CacheJob.hit q)] ∧ OnlyPc (lineHome s k 0 / pcLines) s t ∧ t.hbm.mem = s.hbm.mem ∧ OnlyLine k s t ∧ cacheLine t k = { cacheLine s k with used := s.dense.stamp + 1 } ∧ t.dense.withheld = s.dense.withheld.erase q) ∧
  (∀ (q : DReq) (m : MissEntry) (s : State),
    denseReady s = some q →
    denseStep s q = .joins m →
    Does .cacheAccess s [.dense] fun t =>
      t.dense = { s.dense with withheld := s.dense.withheld.erase q, misses := s.dense.misses.map fun (e : MissEntry) => if e.block == m.block then { m with waiters := m.waiters ++ [q] } else e }) ∧
  (∀ (q : DReq) (k : Nat) (s : State),
    denseReady s = some q →
    denseStep s q = .miss k →
    (cacheLine s k).state = 2 →
    s.UnitWf →
    Does .cacheAccess s [.dense, .hbm] fun t =>
      (pcOf t (lineHome s k 0 / pcLines)).cacheQ = (pcOf s (lineHome s k 0 / pcLines)).cacheQ ++ [(k, CacheJob.evict (blockOf s k))] ∧ OnlyPc (lineHome s k 0 / pcLines) s t ∧ t.hbm.mem = s.hbm.mem ∧ t.dense.misses = s.dense.misses ++ [(⟨q.block, k, 0, [q]⟩ : MissEntry)] ∧
      t.dense.writing = s.dense.writing ++ [(blockOf s k, 0)] ∧ OnlyLine k s t ∧ cacheLine t k = { cacheLine s k with state := 4, redirty := false }) ∧
  (∀ (q : DReq) (k : Nat) (s : State),
    denseReady s = some q →
    denseStep s q = .miss k →
    (cacheLine s k).state ≠ 2 →
    q.whole = false →
    (freeQueue (driveOf s (driveAt s q.block))).isSome = true →
    s.UnitWf →
    Does .cacheAccess s [.dense, .out] fun t =>
      t.out = s.out ++ [Output.driveCmd (driveAt s q.block) 0 (lbaOf s q.block) 0] ∧ t.dense.misses = s.dense.misses ++ [(⟨q.block, k, 1, [q]⟩ : MissEntry)] ∧ OnlyLine k s t ∧
      cacheLine t k = { CacheLine.reset with tag := tagOf s q.block, used := s.dense.stamp + 1, state := 3 }) ∧
  (∀ (q : DReq) (k : Nat) (s : State),
    denseReady s = some q →
    denseStep s q = .miss k →
    (cacheLine s k).state ≠ 2 →
    q.whole = true →
    s.UnitWf →
    Does .cacheAccess s [.dense, .hbm] fun t =>
      (pcOf t (lineHome s k 0 / pcLines)).cacheQ = (pcOf s (lineHome s k 0 / pcLines)).cacheQ ++ [(k, CacheJob.take q.block)] ∧ OnlyPc (lineHome s k 0 / pcLines) s t ∧ t.hbm.mem = s.hbm.mem ∧ t.dense.misses = s.dense.misses ++ [(⟨q.block, k, 3, [q]⟩ : MissEntry)] ∧ OnlyLine k s t ∧
      cacheLine t k = { CacheLine.reset with tag := tagOf s q.block, used := s.dense.stamp + 1, state := 3 }) ∧
  (∀ (q : DReq) (fn ticket off : Nat) (s : State),
    denseReady s = some q →
    q.origin = .stage fn ticket off →
    denseStep s q = .fails →
    q.write = true →
    Does .cacheAccess s [.dense, .rings] fun t =>
      t.dense = { s.dense with withheld := s.dense.withheld.erase q }) ∧
  (∀ (pc sev c k fn ticket off : Nat) (q : DReq) (s : State),
    pcServes s pc = true →
    cellPermitted s pc = true →
    (pcOf s pc).writeback = [] →
    pcDead s pc = false →
    pc < 256 →
    nextWork (pcOf s pc) = some (c, .inr (k, CacheJob.hit q)) →
    q.origin = .stage fn ticket off →
    q.write = true →
    q.len = 64 →
    holdsBlock s k q.block = true →
    (cacheLine s k).state ≠ 4 →
    s.MemWf →
    s.UnitWf →
    s.dense.flushes = [] →
    s.dense.assigns = [] →
    s.dense.attaches = [] →
    Does (.unscheduledAccess pc sev) s [.parts, .ctl, .hbm, .dense, .rings, .regs, .logs, .fw, .lat, .pool, .counters, .out, .free] fun t =>
      HbmLineIs (lineHome s k (q.off / 64)) (reqLine q 0) t ∧ HbmOutside (64 * lineHome s k (q.off / 64)) 64 s t ∧ OnlyLine k s t ∧ cacheLine t k = { cacheLine s k with state := 2 }) ∧
  (∀ (pc sev c k b data : Nat) (m : MissEntry) (s : State),
    pcServes s pc = true →
    cellPermitted s pc = true →
    (pcOf s pc).writeback = [] →
    pcDead s pc = false →
    pc < 256 →
    nextWork (pcOf s pc) = some (c, .inr (k, CacheJob.fill b data)) →
    s.dense.misses.find? (fun (e : MissEntry) => e.block == b && e.phase == 2) = some m →
    m.way = k →
    s.MemWf →
    s.UnitWf →
    s.dense.flushes = [] →
    s.dense.assigns = [] →
    s.dense.attaches = [] →
    Does (.unscheduledAccess pc sev) s [.parts, .ctl, .hbm, .dense, .rings, .regs, .logs, .fw, .lat, .pool, .counters, .out, .free] fun t =>
      (∀ i, i < 64 → HbmLineIs (lineHome s k 0 + i) (BitVec.ofNat 512 (data / 2 ^ (512 * i))) t) ∧ HbmOutside (64 * lineHome s k 0) 4096 s t ∧
      OnlyLine k s t ∧ cacheLine t k = { cacheLine s k with state := 1 } ∧ t.dense.misses = s.dense.misses.filter (fun (e : MissEntry) => e.block != m.block)) ∧
  (∀ (q : DReq) (s : State),
    oldestReq (s.dense.withheld ++ s.dense.misses.flatMap (fun m => m.waiters) ++ queuedHits s) = some q →
    s.clk.wallPs < q.arrived + 40000000000 →
    Does .denseRequestTimeout s [] fun t =>
      t = s) ∧
  (∀ (q : DReq) (fn ticket off : Nat) (s : State),
    oldestReq (s.dense.withheld ++ s.dense.misses.flatMap (fun m => m.waiters) ++ queuedHits s) = some q →
    q.arrived + 40000000000 ≤ s.clk.wallPs →
    q.origin = .stage fn ticket off →
    Does .denseRequestTimeout s [.ctl, .hbm, .dense, .rings, .regs, .fw, .lat, .pool, .counters, .out, .free] fun t =>
      t.dense.withheld = s.dense.withheld.erase q ∧ t.dense.misses = s.dense.misses.map (fun (m : MissEntry) => { m with waiters := m.waiters.erase q }) ∧ t.hbm.mem = s.hbm.mem) ∧
  (∀ s : State,
    s.dense.cleaning = false →
    2 * (linesIn s 2).length ≤ 16 * cacheSets s →
    Does .cacheCleaner s [] fun t =>
      t = s) ∧
  (∀ s : State,
    s.dense.cleaning = true →
    4 * (linesIn s 2).length < 16 * cacheSets s →
    Does .cacheCleaner s [.dense] fun t =>
      t.dense = { s.dense with cleaning := false }) ∧
  (∀ (k : Nat) (l : List Nat) (s : State),
    16 * cacheSets s < 2 * (linesIn s 2).length ∨ s.dense.cleaning = true ∧ 16 * cacheSets s ≤ 4 * (linesIn s 2).length →
    dirtyLines s = k :: l →
    s.UnitWf →
    Does .cacheCleaner s [.dense, .hbm] fun t =>
      t.dense.cleaning = true ∧ t.dense.writing = s.dense.writing ++ [(blockOf s k, 1)] ∧ OnlyLine k s t ∧ cacheLine t k = { cacheLine s k with state := 4, redirty := false } ∧
      (pcOf t (lineHome s k 0 / pcLines)).cacheQ = (pcOf s (lineHome s k 0 / pcLines)).cacheQ ++ [(k, CacheJob.evict (blockOf s k))] ∧ OnlyPc (lineHome s k 0 / pcLines) s t ∧ t.hbm.mem = s.hbm.mem)

/-- R291 to R299, R305, R306, R657. On which queue pair a command goes is the model's choice, log entry 32. -/
def Obligations.DriveCommands : Prop :=
  (∀ (drive block data : Nat) (c : DriveCmd) (m : MissEntry) (s : State),
    outstanding s drive 0 block = some c →
    (driveOf s drive).backlog = [] →
    s.dense.misses.find? (fun m => m.block == block && m.phase == 1) = some m →
    s.UnitWf →
    s.dense.flushes = [] →
    s.dense.assigns = [] →
    s.dense.attaches = [] →
    Does (.driveCommandComplete drive 0 block data false) s [.dense, .hbm] fun t =>
      (pcOf t (lineHome s m.way 0 / pcLines)).cacheQ = (pcOf s (lineHome s m.way 0 / pcLines)).cacheQ ++ [(m.way, CacheJob.fill block data)] ∧ OnlyPc (lineHome s m.way 0 / pcLines) s t ∧ t.hbm.mem = s.hbm.mem ∧ t.dense.misses = s.dense.misses.map (fun (e : MissEntry) => if e.block == block then { m with phase := 2 } else e) ∧
      t.dense.lines = s.dense.lines ∧ driveOf t drive = { driveOf s drive with io := (driveOf s drive).io.erase c }) ∧
  (∀ (drive block data : Nat) (c n : DriveCmd) (l : List DriveCmd) (s : State),
    outstanding s drive 0 block = some c →
    (driveOf s drive).backlog = n :: l →
    freeQueue { driveOf s drive with io := (driveOf s drive).io.erase c } = some 0 →
    s.dense.misses.find? (fun m => m.block == block && m.phase == 1) = none →
    s.UnitWf →
    s.dense.flushes = [] →
    s.dense.assigns = [] →
    s.dense.attaches = [] →
    Does (.driveCommandComplete drive 0 block data false) s [.dense, .out] fun t =>
      t.out = s.out ++ [Output.driveCmd drive n.cmd (if n.cmd = 2 then 0 else lbaOf s n.block) n.data] ∧ driveOf t drive = { driveOf s drive with io := (driveOf s drive).io.erase c ++ [{ n with queue := 0 }], backlog := l }) ∧
  (∀ (drive block data : Nat) (c : DriveCmd) (m : MissEntry) (s : State),
    outstanding s drive 0 block = some c →
    (driveOf s drive).backlog = [] →
    s.dense.misses.find? (fun m => m.block == block && m.phase == 1) = some m →
    m.waiters.all stageReads = true →
    s.UnitWf →
    s.dense.flushes = [] →
    s.dense.assigns = [] →
    s.dense.attaches = [] →
    Does (.driveCommandComplete drive 0 block data true) s [.dense, .rings, .out, .free] fun t =>
      OnlyLine m.way s t ∧ cacheLine t m.way = CacheLine.reset ∧ t.dense.misses = s.dense.misses.filter (fun (e : MissEntry) => e.block != block)) ∧
  (∀ (drive block data w : Nat) (c : DriveCmd) (error : Bool) (s : State),
    outstanding s drive 1 block = some c →
    (driveOf s drive).backlog = [] →
    wayOf s block = some w →
    (cacheLine s (cacheKey (setOf s block) w)).state = 4 →
    (s.dense.misses.any fun m => m.way == (cacheKey (setOf s block) w) && m.phase == 0) = false →
    s.UnitWf →
    s.dense.flushes = [] →
    s.dense.assigns = [] →
    s.dense.attaches = [] →
    Does (.driveCommandComplete drive 1 block data error) s [.dense] fun t =>
      t.dense.writing = s.dense.writing.filter (fun (e : Nat × Nat) => e.1 != block) ∧ OnlyLine (cacheKey (setOf s block) w) s t ∧ cacheLine t (cacheKey (setOf s block) w) = { cacheLine s (cacheKey (setOf s block) w) with state := (if (cacheLine s (cacheKey (setOf s block) w)).redirty then 2 else 1), redirty := false }) ∧
  (∀ (drive block data w : Nat) (c : DriveCmd) (m : MissEntry) (q : DReq) (s : State),
    outstanding s drive 1 block = some c →
    (driveOf s drive).backlog = [] →
    wayOf s block = some w →
    (cacheLine s (cacheKey (setOf s block) w)).state = 4 →
    (cacheLine s (cacheKey (setOf s block) w)).redirty = false →
    (s.dense.misses.find? fun m => m.way == (cacheKey (setOf s block) w) && m.phase == 0) = some m →
    m.waiters.head? = some q →
    q.whole = false →
    driveAt s m.block ≠ drive →
    (freeQueue (driveOf s (driveAt s m.block))).isSome = true →
    s.UnitWf →
    s.dense.flushes = [] →
    s.dense.assigns = [] →
    s.dense.attaches = [] →
    Does (.driveCommandComplete drive 1 block data false) s [.dense, .out] fun t =>
      t.out = s.out ++ [Output.driveCmd (driveAt s m.block) 0 (lbaOf s m.block) 0] ∧ OnlyLine (cacheKey (setOf s block) w) s t ∧
      cacheLine t (cacheKey (setOf s block) w) = { CacheLine.reset with state := 3, tag := tagOf s m.block, used := s.dense.stamp + 1 }) ∧
  (∀ (drive block data who tag : Nat) (c : DriveCmd) (error : Bool) (s : State),
    outstanding s drive 2 block = some c →
    (driveOf s drive).backlog = [] →
    s.dense.flushes = [⟨who, tag, [], [drive], true, none⟩] →
    s.dense.assigns = [] →
    s.dense.attaches = [] →
    (s.fw.outstanding.any fun o => o.1 == who && o.2.2 == tag) = true →
    Does (.driveCommandComplete drive 2 block data error) s [.rings, .regs, .fw, .out, .dense] fun t =>
      t.dense.flushes = [] ∧ t.dense.lines = s.dense.lines ∧ Sent (Output.mciResponse who 0x0307 tag 0 0 0 0) s t) ∧
  (∀ (drive block w : Nat) (c : DriveCmd) (s : State),
    outstanding s drive 1 block = some c →
    (driveOf s drive).backlog = [] →
    wayOf s block = some w →
    (cacheLine s (cacheKey (setOf s block) w)).state = 4 →
    (s.dense.misses.any fun m => m.way == (cacheKey (setOf s block) w) && m.phase == 0) = false →
    s.UnitWf →
    ((driveOf s drive).aborts.filter fun a => decide (s.clk.refTime.toNat < a + 100000000)).length < 2 →
    Tab.get none s.ctl.heldEvent (denseEndpoint + drive / 4) = none →
    Tab.get 0 s.ctl.inject (denseEndpoint + drive / 4) < 32 →
    s.dense.flushes = [] →
    s.dense.assigns = [] →
    s.dense.attaches = [] →
    Does (.driveCommandAbort drive 1 block) s [.ctl, .dense, .out] fun t =>
      OnlyLine (cacheKey (setOf s block) w) s t ∧ cacheLine t (cacheKey (setOf s block) w) = { cacheLine s (cacheKey (setOf s block) w) with state := 2, redirty := false } ∧ t.dense.writing = s.dense.writing.filter (fun (e : Nat × Nat) => e.1 != block) ∧ t.out = s.out ++ [Output.driveCmd drive 3 (lbaOf s block) 0] ∧
      t.ctl.eventQ = s.ctl.eventQ ++ [(⟨0x6002, 3, drive, none, denseEndpoint + drive / 4, 0⟩ : FaultPkt)] ∧ (driveOf t drive).aborts = s.clk.refTime.toNat :: (driveOf s drive).aborts.filter (fun (a : Nat) => decide (s.clk.refTime.toNat < a + 100000000)) ∧ (driveOf t drive).failed = (driveOf s drive).failed) ∧
  (∀ (drive block : Nat) (c : DriveCmd) (f : DenseFlush) (s : State),
    outstanding s drive 2 block = some c →
    (driveOf s drive).backlog = [] →
    s.dense.flushes = [f] →
    f.sent = true →
    f.drives.contains drive = true →
    f.token = none →
    s.dense.assigns = [] →
    s.dense.attaches = [] →
    (s.fw.outstanding.any fun o => o.1 == f.who && o.2.2 == f.tag) = true →
    ((driveOf s drive).aborts.filter fun a => decide (s.clk.refTime.toNat < a + 100000000)).length < 2 →
    Does (.driveCommandAbort drive 2 block) s [.rings, .regs, .fw, .out, .ctl, .dense] fun t =>
      t.dense.flushes = [] ∧ t.dense.lines = s.dense.lines ∧ Sent (Output.mciResponse f.who 0x0307 f.tag mHwFault 0 0 0) s t) ∧
  (∀ (drive cmd block data : Nat) (error : Bool) (s : State),
    outstanding s drive cmd block = none →
    exec (.driveCommandComplete drive cmd block data error) s = .next s ∧ exec (.driveCommandAbort drive cmd block) s = .next s) ∧
  (∀ (drive : Nat) (s : State),
    (s.dense.attached.any fun e => e.1 == drive) = true →
    (driveOf s drive).failed = false →
    Tab.wf Drive.reset s.dense.drive = true →
    Tab.get none s.ctl.heldEvent (denseEndpoint + drive / 4) = none →
    Tab.get 0 s.ctl.inject (denseEndpoint + drive / 4) < 32 →
    Does (.driveFailed drive) s [.ctl, .hbm, .dense, .rings, .regs, .fw, .lat, .pool, .counters, .out, .free] fun t =>
      (driveOf t drive).failed = true ∧ (⟨0x6001, 5, drive, none, denseEndpoint + drive / 4, 0⟩ : FaultPkt) ∈ t.ctl.eventQ.drop s.ctl.eventQ.length ∧ t.dense.attached = s.dense.attached ∧ t.dense.lost.contains drive = true ∧ t.hbm.mem = s.hbm.mem) ∧
  (∀ (drive : Nat) (s : State),
    (s.dense.attached.any fun e => e.1 == drive) = false →
    Does (.driveFailed drive) s [] fun t =>
      t = s) ∧
  (∀ (drive : Nat) (s : State),
    s.pins.dprsnt.getLsbD drive = true →
    s.pins.dperst.getLsbD drive = true →
    (s.dense.attached.any fun e => e.1 == drive) = false →
    Does (.drivePresenceLoss drive) s [.pins] fun t =>
      t.pins = { s.pins with dprsnt := s.pins.dprsnt &&& ~~~(BitVec.twoPow 8 drive), dperst := s.pins.dperst &&& ~~~(BitVec.twoPow 8 drive), dref := s.pins.dref &&& ~~~(BitVec.twoPow 8 drive) }) ∧
  (∀ (drive : Nat) (s : State),
    s.pins.dprsnt.getLsbD drive = true →
    s.pins.dperst.getLsbD drive = true →
    (s.dense.attached.any fun e => e.1 == drive) = true →
    (driveOf s drive).failed = false →
    Tab.wf Drive.reset s.dense.drive = true →
    Tab.get none s.ctl.heldEvent (denseEndpoint + drive / 4) = none →
    Tab.get 0 s.ctl.inject (denseEndpoint + drive / 4) < 32 →
    Does (.drivePresenceLoss drive) s [.pins, .ctl, .hbm, .dense, .rings, .regs, .fw, .lat, .pool, .counters, .out, .free] fun t =>
      t.pins.dperst = s.pins.dperst &&& ~~~(BitVec.twoPow 8 drive) ∧ t.pins.dref = s.pins.dref &&& ~~~(BitVec.twoPow 8 drive) ∧ (driveOf t drive).failed = true ∧ (⟨0x6001, 5, drive, none, denseEndpoint + drive / 4, 0⟩ : FaultPkt) ∈ t.ctl.eventQ.drop s.ctl.eventQ.length) ∧
  (∀ (q : MciReq) (found : List DriveIn) (s : State),
    Serves 0x0306 (q.plen == 0) (reservedClear (mciParams q) [] && true) q s →
    denseMapped s = false →
    s.dense.misses = [] →
    linesIn s 4 = [] →
    cacheIdle s = true →
    (usableFound s found).isEmpty = false →
    s.dense.flushes = [] →
    s.dense.assigns = [] →
    s.dense.attaches = [] →
    Does (.denseAttach q found) s [.rings, .regs, .fw, .out, .ctl, .dense, .win] fun t =>
      (let l := usableFound s found
       t.dense.attached = l.map (fun (e : Nat × Nat × Nat) => (e.1, e.2.2)) ∧ t.dense.perDrive = leastCapacity l / 32 * 32 ∧ t.dense.lines = [] ∧ t.dense.failedBlocks = [] ∧ t.dense.units = s.dense.units ∧ Answered 0x0306 q 0 0 0 0 s t)) ∧
  (∀ (q : MciReq) (found : List DriveIn) (s : State),
    Serves 0x0306 (q.plen == 0) (reservedClear (mciParams q) [] && true) q s →
    denseMapped s = false →
    s.dense.misses = [] →
    linesIn s 4 = [] →
    cacheIdle s = true →
    (usableFound s found).isEmpty = true →
    s.dense.flushes = [] →
    s.dense.assigns = [] →
    s.dense.attaches = [] →
    Does (.denseAttach q found) s [.rings, .regs, .fw, .out, .ctl, .dense, .win] fun t =>
      t.dense = s.dense ∧ Answered 0x0306 q mResource 0 0 0 s t) ∧
  (∀ (q : MciReq) (found : List DriveIn) (s : State),
    Serves 0x0306 (q.plen == 0) (reservedClear (mciParams q) [] && true) q s →
    denseMapped s = false →
    s.dense.misses ≠ [] →
    s.dense.flushes = [] →
    s.dense.assigns = [] →
    s.dense.attaches = [] →
    Does (.denseAttach q found) s [.rings, .regs, .fw, .out, .dense, .win] fun t =>
      t.dense = { s.dense with attaches := [(q.who, q.tag, found)] } ∧ t.fw.outstanding = s.fw.outstanding ++ [(q.who, 0x0306, q.tag)] ∧ t.out = s.out) ∧
  (∀ (q : MciReq) (found : List DriveIn) (s : State),
    Serves 0x0306 (q.plen == 0) (reservedClear (mciParams q) [] && true) q s →
    denseMapped s = true →
    Does (.denseAttach q found) s [.rings, .regs, .fw, .out] fun t =>
      t.dense = s.dense ∧ Answered 0x0306 q 6 0 0 0 s t) ∧
  (∀ (q : MciReq) (s : State),
    Serves 0x0307 (q.plen == 0) (reservedClear (mciParams q) [] && true) q s →
    mayFlush s (fnOfWho q.who) = true →
    s.dense.attached = [] →
    Does (.denseFlush q) s [.rings, .regs, .fw, .out] fun t =>
      t.dense = s.dense ∧ Answered 0x0307 q 0 0 0 0 s t) ∧
  (∀ (q : MciReq) (s : State),
    Serves 0x0307 (q.plen == 0) (reservedClear (mciParams q) [] && true) q s →
    mayFlush s (fnOfWho q.who) = true →
    s.dense.attached ≠ [] →
    linesIn s 2 = [] →
    linesIn s 4 = [] →
    (s.dense.attached.any fun e => !(driveOf s e.1).failed) = true →
    (s.dense.attached.all fun e => decide ((driveOf s e.1).io.length + s.dense.attached.length ≤ 64)) = true →
    Tab.wf Drive.reset s.dense.drive = true →
    s.dense.flushes = [] →
    s.dense.assigns = [] →
    s.dense.attaches = [] →
    Does (.denseFlush q) s [.dense, .win, .fw, .out] fun t =>
      (let ds := (s.dense.attached.map fun (e : Nat × Nat) => e.1).filter fun (d : Nat) => !(driveOf s d).failed
       t.dense.flushes = [(⟨q.who, q.tag, [], ds, true, none⟩ : DenseFlush)] ∧ t.out = s.out ++ ds.map (fun (d : Nat) => Output.driveCmd d 2 0 0) ∧ t.dense.lines = s.dense.lines ∧ t.fw.outstanding = s.fw.outstanding ++ [(q.who, 0x0307, q.tag)])) ∧
  (∀ (q : MciReq) (s : State),
    Serves 0x0307 (q.plen == 0) (reservedClear (mciParams q) [] && true) q s →
    mayFlush s (fnOfWho q.who) = false →
    s.HostWf →
    Does (.denseFlush q) s [.rings, .regs, .fw, .out, .ctl, .win, .counters] fun t =>
      t.dense = s.dense ∧ Answered 0x0307 q 5 0 0 0 s t ∧ counter t 0x0303 (fnOfWho q.who) = counterAdd 0x0303 (counter s 0x0303 (fnOfWho q.who)) 1) ∧
  (∀ (q : MciReq) (s : State),
    Serves 0x0308 (q.plen == 0) (reservedClear (mciParams q) [] && true) q s →
    Does (.denseQuery q) s [.rings, .regs, .fw, .out] fun t =>
      Answered 0x0308 q 0 0 (Config.queryLength 0x0308 ([denseBlocks s, s.dense.units, (linesIn s 1).length, (linesIn s 2).length, s.dense.failedBlocks.length] ++ (rangeFrom 0 8).flatMap fun (d : Nat) => [d, flag (s.dense.attached.any fun (e : Nat × Nat) => e.1 == d), (driveOf s d).capacity, flag (driveOf s d).failed]) % 4081) (Config.queryLayout 0x0308 ([denseBlocks s, s.dense.units, (linesIn s 1).length, (linesIn s 2).length, s.dense.failedBlocks.length] ++ (rangeFrom 0 8).flatMap fun (d : Nat) => [d, flag (s.dense.attached.any fun (e : Nat × Nat) => e.1 == d), (driveOf s d).capacity, flag (driveOf s d).failed])) s t ∧ t.fw = { s.fw with outstanding := t.fw.outstanding })

/-- R396, R400, R420, R422, R424 to R428, R440, R441, R443, R445, R452. Orders to other modules use the model's own TABLE layout, log entry 40. -/
def Obligations.RegionCommands : Prop :=
  (∀ (q : MciReq) (s : State),
    Serves 0x0501 (q.plen == 32) (reservedClear (mciParams q) (prFields (mciParams q)) && prRangeOk s (mciParams q)) q s →
    prOp (mciParams q) = 0 →
    prMembers (mciParams q) = [self s] →
    (regionOf s (prRegion (mciParams q))).state = 0 →
    ((newRegion (mciParams q)).memberSize / giB) ≤ (freeExtents (updRegion (prRegion (mciParams q)) (fun _ => newRegion (mciParams q)) s) (prBacking (mciParams q))).length →
    Tab.wf Region.reset s.pool.region = true →
    Does (.poolRegionCreate q) s [.rings, .regs, .fw, .out, .win, .lat, .pool] fun t =>
      regionOf t (prRegion (mciParams q)) = { newRegion (mciParams q) with state := 2, extents := (freeExtents (updRegion (prRegion (mciParams q)) (fun _ => newRegion (mciParams q)) s) (prBacking (mciParams q))).take ((newRegion (mciParams q)).memberSize / giB) } ∧ (∀ j, j < 4096 → j ≠ (prRegion (mciParams q)) → regionOf t j = regionOf s j) ∧ t.pool.unzeroed = s.pool.unzeroed ∧ Sent (Output.mciResponse q.who 0x0501 q.tag 0 0 0 0) s t) ∧
  (∀ (q : MciReq) (s : State),
    Serves 0x0501 (q.plen == 32) (reservedClear (mciParams q) (prFields (mciParams q)) && prRangeOk s (mciParams q)) q s →
    prOp (mciParams q) = 0 →
    leastOf (prMembers (mciParams q)) = some (self s) →
    1 < (prMembers (mciParams q)).length →
    (regionOf s (prRegion (mciParams q))).state = 0 →
    ((newRegion (mciParams q)).memberSize / giB) ≤ (freeExtents (updRegion (prRegion (mciParams q)) (fun _ => newRegion (mciParams q)) s) (prBacking (mciParams q))).length →
    Tab.wf Region.reset s.pool.region = true →
    Does (.poolRegionCreate q) s [.rings, .regs, .fw, .out, .win, .lat, .pool] fun t =>
      regionOf t (prRegion (mciParams q)) = { newRegion (mciParams q) with extents := (freeExtents (updRegion (prRegion (mciParams q)) (fun _ => newRegion (mciParams q)) s) (prBacking (mciParams q))).take ((newRegion (mciParams q)).memberSize / giB) } ∧ (∀ j, j < 4096 → j ≠ (prRegion (mciParams q)) → regionOf t j = regionOf s j) ∧ t.pool.tables = (q.who, 0x0501 + 2 ^ 16 * (prRegion (mciParams q)), q.tag, ((prMembers (mciParams q)).filter fun (m : Nat) => m != self s).length) :: s.pool.tables ∧ t.fw.outstanding = s.fw.outstanding ++ [(q.who, 0x0501, q.tag)]) ∧
  (∀ (q : MciReq) (s : State),
    Serves 0x0501 (q.plen == 32) (reservedClear (mciParams q) (prFields (mciParams q)) && prRangeOk s (mciParams q)) q s →
    prOp (mciParams q) = 0 →
    leastOf (prMembers (mciParams q)) = some (self s) →
    (regionOf s (prRegion (mciParams q))).state ≠ 0 →
    Does (.poolRegionCreate q) s [.rings, .regs, .fw, .out, .win, .lat, .pool] fun t =>
      t.pool = s.pool ∧ Sent (Output.mciResponse q.who 0x0501 q.tag 6 0 0 0) s t) ∧
  (∀ (q : MciReq) (s : State),
    Serves 0x0501 (q.plen == 32) (reservedClear (mciParams q) (prFields (mciParams q)) && prRangeOk s (mciParams q)) q s →
    prOp (mciParams q) = 0 →
    leastOf (prMembers (mciParams q)) = some (self s) →
    (regionOf s (prRegion (mciParams q))).state = 0 →
    (freeExtents (updRegion (prRegion (mciParams q)) (fun _ => newRegion (mciParams q)) s) (prBacking (mciParams q))).length < ((newRegion (mciParams q)).memberSize / giB) →
    Does (.poolRegionCreate q) s [.rings, .regs, .fw, .out, .win, .lat, .pool] fun t =>
      t.pool = s.pool ∧ Sent (Output.mciResponse q.who 0x0501 q.tag 0xC 0 0 0) s t) ∧
  (∀ (q : MciReq) (s : State),
    Serves 0x0501 (q.plen == 32) (reservedClear (mciParams q) (prFields (mciParams q)) && prRangeOk s (mciParams q)) q s →
    prOp (mciParams q) = 1 →
    regionCoord s (regionOf s (prRegion (mciParams q))) = self s →
    (regionOf s (prRegion (mciParams q))).state = 3 →
    (regionOf s (prRegion (mciParams q))).lost = some (prIndex (mciParams q)) →
    (regionOf s (prRegion (mciParams q))).members.contains (prMember (mciParams q) 0) = false →
    prMember (mciParams q) 0 ≠ self s →
    Does (.poolRegionReplace q) s [.rings, .regs, .fw, .out, .win, .lat, .pool] fun t =>
      t.pool.region = s.pool.region ∧ t.pool.tables = (q.who, 0x0501 + 2 ^ 16 * (prRegion (mciParams q)) + (2 ^ 28 * prMember (mciParams q) 0 + 2 ^ 38 * prRate (mciParams q)), q.tag, 1) :: s.pool.tables ∧ t.fw.outstanding = s.fw.outstanding ++ [(q.who, 0x0501, q.tag)]) ∧
  (∀ (q : MciReq) (s : State),
    Serves 0x0501 (q.plen == 32) (reservedClear (mciParams q) (prFields (mciParams q)) && prRangeOk s (mciParams q)) q s →
    prOp (mciParams q) = 1 →
    regionCoord s (regionOf s (prRegion (mciParams q))) = self s →
    (regionOf s (prRegion (mciParams q))).state ≠ 3 ∨ (regionOf s (prRegion (mciParams q))).lost ≠ some (prIndex (mciParams q)) →
    Does (.poolRegionReplace q) s [.rings, .regs, .fw, .out, .win, .lat, .pool] fun t =>
      t.pool = s.pool ∧ Sent (Output.mciResponse q.who 0x0501 q.tag 6 0 0 0) s t) ∧
  (∀ (q : MciReq) (s : State),
    Serves 0x0502 (q.plen == 8) (reservedClear (mciParams q) [(0, 12)] && true) q s →
    regionCoord s (regionOf s (prRegion (mciParams q))) = self s →
    2 ≤ (regionOf s (prRegion (mciParams q))).state →
    Tab.wf Region.reset s.pool.region = true →
    Does (.poolRegionDelete q) s [.rings, .regs, .fw, .out, .win, .lat, .pool] fun t =>
      regionOf t (prRegion (mciParams q)) = { regionOf s (prRegion (mciParams q)) with state := 6, acl := [], shadow := none } ∧ (∀ j, j < 4096 → j ≠ (prRegion (mciParams q)) → regionOf t j = regionOf s j) ∧ t.win.gen = s.win.gen + 1 ∧ (otherModules s = [] → Sent (Output.mciResponse q.who 0x0502 q.tag 0 0 0 0) s t) ∧ (otherModules s ≠ [] → t.pool.tables = (q.who, 0x0502 + 2 ^ 16 * (prRegion (mciParams q)), q.tag, (otherModules s).length) :: s.pool.tables)) ∧
  (∀ (q : MciReq) (s : State),
    Serves 0x0502 (q.plen == 8) (reservedClear (mciParams q) [(0, 12)] && true) q s →
    regionCoord s (regionOf s (prRegion (mciParams q))) = self s →
    (regionOf s (prRegion (mciParams q))).state ≤ 1 →
    Does (.poolRegionDelete q) s [.rings, .regs, .fw, .out, .win, .lat, .pool] fun t =>
      t.pool = s.pool ∧ Sent (Output.mciResponse q.who 0x0502 q.tag 6 0 0 0) s t) ∧
  (∀ (g : Nat) (s : State),
    (regionOf s g).state = 6 →
    deletable s (g, regionOf s g) = true →
    (regionOf s g).extents = [] →
    ((regionOf s g).members.filter fun m => m != self s && moduleLive s m) = [] →
    regionCoord s (regionOf s g) = self s →
    Tab.wf Region.reset s.pool.region = true →
    Does (.regionDeleteComplete g) s [.lat, .pool, .out] fun t =>
      regionOf t g = Region.reset ∧ (∀ j, j < 4096 → j ≠ g → regionOf t j = regionOf s j)) ∧
  (∀ (q : MciReq) (s : State),
    Serves 0x0503 (q.plen == 16 + 4 * bits (mciParams q) 16 6) (reservedClear (mciParams q) ([(0, 12), (12, 1), (16, 6)] ++ (rangeFrom 0 (bits (mciParams q) 16 6)).map fun i => (128 + 32 * i, 14)) && decide (bits (mciParams q) 16 6 ≤ 32) && ((aclOf (mciParams q)).1.map Access.pbr).eraseDups.length == ((aclOf (mciParams q)).1.map Access.pbr).length) q s →
    regionCoord s (regionOf s (prRegion (mciParams q))) = self s →
    (regionOf s (prRegion (mciParams q))).state ≠ 0 →
    Tab.wf Region.reset s.pool.region = true →
    Does (.poolAccessSet q) s [.rings, .regs, .fw, .out, .win, .lat, .pool] fun t =>
      regionOf t (prRegion (mciParams q)) = { regionOf s (prRegion (mciParams q)) with shadow := some (aclOf (mciParams q)) } ∧ (∀ j, j < 4096 → j ≠ (prRegion (mciParams q)) → regionOf t j = regionOf s j) ∧ t.pool.written = (prRegion (mciParams q)) :: s.pool.written.filter (fun (w : Nat) => w != (prRegion (mciParams q))) ∧ Sent (Output.mciResponse q.who 0x0503 q.tag 0 0 0 0) s t) ∧
  (∀ (q : MciReq) (s : State),
    Serves 0x0504 (q.plen == 8) (reservedClear (mciParams q) [(0, 12), (12, 1)] && true) q s →
    bit1 (mciParams q) 12 = true →
    Does (.poolQuery q) s [.rings, .regs, .fw, .out] fun t =>
      Answered 0x0504 q 0 0 (Config.queryLength 0x0504 (((s.pool.region.map fun (e : Nat × Region) => e.1).filter fun (g : Nat) => isMctp q.who || winPool s (fnOfWho q.who) g false || winPool s (fnOfWho q.who) g true).flatMap (regionReport s)) % 4081) (Config.queryLayout 0x0504 (((s.pool.region.map fun (e : Nat × Region) => e.1).filter fun (g : Nat) => isMctp q.who || winPool s (fnOfWho q.who) g false || winPool s (fnOfWho q.who) g true).flatMap (regionReport s))) s t ∧ t.fw = { s.fw with outstanding := t.fw.outstanding }) ∧
  (∀ (q : MciReq) (s : State),
    Serves 0x0504 (q.plen == 8) (reservedClear (mciParams q) [(0, 12), (12, 1)] && true) q s →
    bit1 (mciParams q) 12 = false →
    isMctp q.who = true ∨ winPool s (fnOfWho q.who) (bits (mciParams q) 0 12) false = true ∨ winPool s (fnOfWho q.who) (bits (mciParams q) 0 12) true = true →
    Does (.poolQuery q) s [.rings, .regs, .fw, .out] fun t =>
      Answered 0x0504 q 0 0 (Config.queryLength 0x0504 (regionReport s (bits (mciParams q) 0 12)) % 4081) (Config.queryLayout 0x0504 (regionReport s (bits (mciParams q) 0 12))) s t ∧ t.fw = { s.fw with outstanding := t.fw.outstanding }) ∧
  (∀ (q : MciReq) (s : State),
    Serves 0x0504 (q.plen == 8) (reservedClear (mciParams q) [(0, 12), (12, 1)] && true) q s →
    bit1 (mciParams q) 12 = false →
    isMctp q.who = false →
    winPool s (fnOfWho q.who) (bits (mciParams q) 0 12) false = false →
    winPool s (fnOfWho q.who) (bits (mciParams q) 0 12) true = false →
    Does (.poolQuery q) s [.rings, .regs, .fw, .out, .ctl, .win, .counters] fun t =>
      Answered 0x0504 q 5 0 0 0 s t) ∧
  (∀ (g m : Nat) (s : State),
    (regionOf s g).served = true →
    m < (regionOf s g).members.length →
    memberGone s (regionOf s g) m = true →
    ¬((regionOf s g).lost = some m ∧ (regionOf s g).state = 3) →
    Tab.wf Region.reset s.pool.region = true →
    Does (.memberLoss g m) s [.hbm, .dense, .rings, .regs, .logs, .lat, .pool, .counters, .out] fun t =>
      (regionOf t g).state = (lossOf (regionOf s g) m).state ∧ (regionOf t g).lost = (lossOf (regionOf s g) m).lost ∧ (regionOf t g).members = (regionOf s g).members ∧ (regionOf t g).extents = (regionOf s g).extents ∧ (regionOf t g).acl = (regionOf s g).acl ∧ t.hbm.mem = s.hbm.mem) ∧
  (∀ (g m : Nat) (s : State),
    (regionOf s g).served = false ∨ memberGone s (regionOf s g) m = false →
    Does (.memberLoss g m) s [] fun t =>
      t = s) ∧
  (∀ (g i : Nat) (s : State),
    (regionOf s g).lost = some i →
    rebuildDue s g (regionOf s g) i = true →
    ((piecesOf (regionOf s g) i true).any fun j => absent s (regionOf s g) j (regionOf s g).cursor) = false →
    Does (.rebuildStep g) s [.hbm, .dense, .lat, .pool, .out] fun t =>
      t.pool.nextId = s.pool.nextId + 1 ∧ t.hbm.mem = s.hbm.mem ∧ t.pool.region = s.pool.region ∧ (t.pool.accs.any fun (a : PoolAcc) => a.id == s.pool.nextId && a.for_ == PoolFor.rebuild g && a.phase == 4 && a.off == (regionOf s g).cursor && a.left == (piecesOf (regionOf s g) i true).length) = true) ∧
  (∀ (g : Nat) (s : State),
    (regionOf s g).lost = none →
    Does (.rebuildStep g) s [] fun t =>
      t = s) ∧
  (∀ (u : Nat) (s : State),
    u < 4096 →
    s.pool.unzeroed.contains u = true →
    Does (.unitZeroFill u) s [.hbm, .pool] fun t =>
      t.pool = { s.pool with unzeroed := s.pool.unzeroed.filter fun (v : Nat) => v != u } ∧ UnitZeroed u s t ∧ t.hbm.pc = s.hbm.pc ∧ t.hbm.role = s.hbm.role)

/-- R403, R404, R415, R417 to R419, R422, R429, R430, R433, R435, R438. -/
def Obligations.HostRequests : Prop :=
  (∀ (pbr tag off : Nat) (s : State),
    poolPortUp s = true →
    Does (.cxlMemRead pbr tag none off) s [.out] fun t =>
      t.out = s.out ++ [Output.cxlResp pbr tag 0 (controlLine s pbr off) false]) ∧
  (∀ (pbr tag g off : Nat) (s : State),
    poolPortUp s = true →
    hostDenied s pbr g false = true →
    s.HostWf →
    Does (.cxlMemRead pbr tag (some g) off) s [.ctl, .win, .counters, .out] fun t =>
      t.out = s.out ++ [Output.cxlResp pbr tag 0 0 true] ∧ counter t 0x0304 g = counterAdd 0x0304 (counter s 0x0304 g) 1) ∧
  (∀ (pbr tag g off : Nat) (s : State),
    poolPortUp s = true →
    hostDenied s pbr g false = false →
    beyondRegion s g off = true →
    Does (.cxlMemRead pbr tag (some g) off) s [.out] fun t =>
      t.out = s.out ++ [Output.cxlResp pbr tag 0 0 true]) ∧
  (∀ (pbr tag g off line : Nat) (s : State),
    poolPortUp s = true →
    hostDenied s pbr g false = false →
    beyondRegion s g off = false →
    HereAt g (off / 64 * 64) line s →
    Does (.cxlMemRead pbr tag (some g) off) s [.hbm, .pool] fun t =>
      Queued line false 0 false s t ∧ t.pool.nextId = s.pool.nextId + 1 ∧ (accOf t s.pool.nextId).isSome = true ∧ t.hbm.mem = s.hbm.mem ∧ t.pool.region = s.pool.region) ∧
  (∀ (pbr tag g off : Nat) (s : State),
    poolPortUp s = true →
    hostDenied s pbr g false = false →
    beyondRegion s g off = false →
    (regionOf s g).goesOn = false →
    Does (.cxlMemRead pbr tag (some g) off) s [.pool, .out] fun t =>
      t.out = s.out ++ [Output.cxlResp pbr tag 0 0 true]) ∧
  (∀ (pbr tag off : Nat) (d : LineData) (poison : Bool) (s : State),
    poolPortUp s = true →
    1024 ≤ off ∨ off % 128 ≠ 0 →
    Does (.cxlMemWrite pbr tag none off d poison) s [.out] fun t =>
      t.out = s.out ++ [Output.cxlResp pbr tag 1 0 false]) ∧
  (∀ (pbr tag off : Nat) (d : LineData) (poison : Bool) (s : State),
    poolPortUp s = true →
    off < 1024 →
    off % 128 = 0 →
    Does (.cxlMemWrite pbr tag none off d poison) s [.ctl, .win, .pool, .counters, .out] fun t =>
      t.out = s.out ++ [Output.cxlResp pbr tag 1 0 false] ∧ mailCommand pbr (off / 128) d.toNat s = { t with out := s.out }) ∧
  (∀ (pbr tag g off : Nat) (d : LineData) (poison : Bool) (s : State),
    poolPortUp s = true →
    hostDenied s pbr g true = true →
    s.HostWf →
    Does (.cxlMemWrite pbr tag (some g) off d poison) s [.ctl, .win, .counters, .out] fun t =>
      t.out = s.out ++ [Output.cxlResp pbr tag 1 0 false] ∧ counter t 0x0304 g = counterAdd 0x0304 (counter s 0x0304 g) 1) ∧
  (∀ (pbr tag g off : Nat) (d : LineData) (poison : Bool) (s : State),
    poolPortUp s = true →
    hostDenied s pbr g true = false →
    (regionOf s g).state = 5 ∨ beyondRegion s g off = true →
    Does (.cxlMemWrite pbr tag (some g) off d poison) s [.out] fun t =>
      t.out = s.out ++ [Output.cxlResp pbr tag 1 0 false]) ∧
  (∀ (pbr tag g off line : Nat) (d : LineData) (poison : Bool) (s : State),
    poolPortUp s = true →
    hostDenied s pbr g true = false →
    beyondRegion s g off = false →
    HereAt g (off / 64 * 64) line s →
    NotRebuilt g (off / 64 * 64) s →
    Does (.cxlMemWrite pbr tag (some g) off d poison) s [.hbm, .pool] fun t =>
      Queued line true d poison s t ∧ t.pool.nextId = s.pool.nextId + 1 ∧ (accOf t s.pool.nextId).isSome = true ∧ t.hbm.mem = s.hbm.mem ∧ t.out = s.out) ∧
  (∀ (pbr slot : Nat) (line : BitVec 512) (s : State),
    s.pool.boxes.contains pbr = false →
    Does (.poolMailboxCommand pbr slot line) s [] fun t =>
      t = s) ∧
  (∀ (pbr slot : Nat) (line : BitVec 512) (s : State),
    poolPortUp s = true →
    slot < 8 →
    s.pool.boxes.contains pbr = true →
    (bits line.toNat 384 8) = 0 ∨ (mailSlot s pbr slot).busy = true →
    Does (.poolMailboxCommand pbr slot line) s [.pool] fun t =>
      t.pool = { s.pool with ignored := s.pool.ignored + 1 }) ∧
  (∀ (pbr slot : Nat) (line : BitVec 512) (s : State),
    poolPortUp s = true →
    slot < 8 →
    s.pool.boxes.contains pbr = true →
    (bits line.toNat 384 8) ≠ 0 →
    (mailSlot s pbr slot).busy = false →
    (mailSlot s pbr slot).seq = (bits line.toNat 384 8) →
    Does (.poolMailboxCommand pbr slot line) s [] fun t =>
      t = s) ∧
  (∀ (pbr slot st : Nat) (line : BitVec 512) (s : State),
    poolPortUp s = true →
    slot < 8 →
    s.pool.boxes.contains pbr = true →
    (bits line.toNat 384 8) ≠ 0 →
    (mailSlot s pbr slot).busy = false →
    (mailSlot s pbr slot).seq ≠ (bits line.toNat 384 8) →
    bits line.toNat 393 119 = 0 →
    mailDenied s pbr (bits line.toNat 0 384) = none →
    pcRefusal s (bits line.toNat 0 384) none = some st →
    Tab.wf MailSlot.reset s.pool.slots = true →
    Does (.poolMailboxCommand pbr slot line) s [.pool] fun t =>
      mailSlot t pbr slot = (⟨(bits line.toNat 384 8), false, responseLine (bits line.toNat 384 8) st 0 0⟩ : MailSlot) ∧ t.pool.cmds = s.pool.cmds) ∧
  (∀ (pbr slot g : Nat) (line : BitVec 512) (s : State),
    poolPortUp s = true →
    slot < 8 →
    s.pool.boxes.contains pbr = true →
    (bits line.toNat 384 8) ≠ 0 →
    (mailSlot s pbr slot).busy = false →
    (mailSlot s pbr slot).seq ≠ (bits line.toNat 384 8) →
    bits line.toNat 393 119 = 0 →
    pcWellFormed (bits line.toNat 0 384) = true →
    mailDenied s pbr (bits line.toNat 0 384) = some g →
    Tab.wf MailSlot.reset s.pool.slots = true →
    s.HostWf →
    Does (.poolMailboxCommand pbr slot line) s [.ctl, .win, .pool, .counters] fun t =>
      mailSlot t pbr slot = (⟨(bits line.toNat 384 8), false, responseLine (bits line.toNat 384 8) 2 0 0⟩ : MailSlot) ∧ t.pool.cmds = s.pool.cmds ∧ counter t 0x0304 g = counterAdd 0x0304 (counter s 0x0304 g) 1) ∧
  (∀ (pbr slot : Nat) (line : BitVec 512) (s : State),
    poolPortUp s = true →
    slot < 8 →
    s.pool.boxes.contains pbr = true →
    (bits line.toNat 384 8) ≠ 0 →
    (mailSlot s pbr slot).busy = false →
    (mailSlot s pbr slot).seq ≠ (bits line.toNat 384 8) →
    bits line.toNat 393 119 = 0 →
    mailDenied s pbr (bits line.toNat 0 384) = none →
    pcRefusal s (bits line.toNat 0 384) none = none →
    Tab.wf MailSlot.reset s.pool.slots = true →
    Does (.poolMailboxCommand pbr slot line) s [.pool] fun t =>
      mailSlot t pbr slot = { (mailSlot s pbr slot) with seq := (bits line.toNat 384 8), busy := true } ∧ t.pool.nextId = s.pool.nextId + 1 ∧ t.pool.region = s.pool.region ∧
      t.pool.cmds = s.pool.cmds ++ [(⟨s.pool.nextId, .mailbox pbr slot (bits line.toNat 384 8) (bit1 line.toNat 392), (bits line.toNat 0 384), pbr, 0, false, 0, 0, (if pcOp (bits line.toNat 0 384) = 3 then 2 ^ 64 - 1 else 0), s.win.gen.toNat⟩ : PoolCmd)]) ∧
  (∀ (id : Nat) (x : PoolCmd) (s : State),
    cmdOf s id = some x →
    x.ran = false ∨ x.left ≠ 0 →
    Does (.poolCommandEnd id) s [] fun t =>
      t = s) ∧
  (∀ (id pbr slot seq : Nat) (fence : Bool) (x : PoolCmd) (s : State),
    cmdOf s id = some x →
    x.ran = true →
    x.left = 0 →
    x.by_ = .mailbox pbr slot seq fence →
    (listedIds s).contains pbr = true →
    s.pool.boxes.contains pbr = true →
    slot < 8 →
    Tab.wf MailSlot.reset s.pool.slots = true →
    Does (.poolCommandEnd id) s [.pool] fun t =>
      mailSlot t pbr slot = { (mailSlot s pbr slot) with busy := false, response := responseLine seq x.status x.result x.aux } ∧ t.pool.cmds = s.pool.cmds.filter (fun (c : PoolCmd) => c.id != id))

/-- R430, R436 to R440. -/
def Obligations.PoolCommands : Prop :=
  (∀ (id : Nat) (x : PoolCmd) (ld : Nat) (s : State),
    cmdOf s id = some x →
    x.ran = false →
    fenceOk s x = true →
    pcOp x.cmd = 1 →
    pcLen x.cmd = 64 →
    HereAt (pcDreg x.cmd) (pcDoff x.cmd) ld s →
    NotRebuilt (pcDreg x.cmd) (pcDoff x.cmd) s →
    Does (.fill id []) s [.hbm, .pool] fun t =>
      Queued ld true (fillLineOf x.cmd) false s t ∧ ((cmdOf t id).map fun (c : PoolCmd) => (c.ran, c.left, c.status)) = some (true, x.left + 1, x.status)) ∧
  (∀ (id : Nat) (x : PoolCmd) (ld ls : Nat) (s : State),
    cmdOf s id = some x →
    x.ran = false →
    fenceOk s x = true →
    pcOp x.cmd = 2 →
    pcLen x.cmd = 64 →
    HereAt (pcDreg x.cmd) (pcDoff x.cmd) ld s →
    NotRebuilt (pcDreg x.cmd) (pcDoff x.cmd) s →
    HereAt (pcSreg x.cmd) (pcSoff x.cmd) ls s →
    (hbmRead ls s).1.poison = false →
    Does (.copy id []) s [.ctl, .hbm, .regs, .logs, .pool, .counters] fun t =>
      Queued ld true (hbmRead ls s).1.data false (hbmRead ls s).2 t ∧ ((cmdOf t id).map fun (c : PoolCmd) => (c.ran, c.left, c.status)) = some (true, x.left + 1, x.status)) ∧
  (∀ (id : Nat) (x : PoolCmd) (ld ls : Nat) (s : State),
    cmdOf s id = some x →
    x.ran = false →
    fenceOk s x = true →
    pcOp x.cmd = 2 →
    pcLen x.cmd = 64 →
    HereAt (pcDreg x.cmd) (pcDoff x.cmd) ld s →
    NotRebuilt (pcDreg x.cmd) (pcDoff x.cmd) s →
    HereAt (pcSreg x.cmd) (pcSoff x.cmd) ls s →
    (hbmRead ls s).1.poison = true →
    x.status = 0 →
    Does (.copy id []) s [.ctl, .hbm, .regs, .logs, .pool, .counters] fun t =>
      t.hbm = (hbmRead ls s).2.hbm ∧ cmdOf t id = some { x with ran := true, status := 6, aux := pcSoff x.cmd }) ∧
  (∀ (id : Nat) (x : PoolCmd) (ld ls : Nat) (s : State),
    cmdOf s id = some x →
    x.ran = false →
    fenceOk s x = true →
    pcOp x.cmd = 3 →
    pcLen x.cmd = 64 →
    HereAt (pcDreg x.cmd) (pcDoff x.cmd) ld s →
    NotRebuilt (pcDreg x.cmd) (pcDoff x.cmd) s →
    HereAt (pcSreg x.cmd) (pcSoff x.cmd) ls s →
    (hbmRead ls s).1.poison = false →
    (hbmRead ld (hbmRead ls s).2).1.poison = false →
    x.status = 0 →
    Does (.compare id []) s [.ctl, .hbm, .regs, .logs, .pool, .counters] fun t =>
      (let a := (hbmRead ls s).1.data
       let b := (hbmRead ld (hbmRead ls s).2).1.data
       if a = b then cmdOf t id = some { x with ran := true }
       else (firstDiff a b < x.aux → cmdOf t id = some { x with ran := true, result := 1, aux := firstDiff a b }))) ∧
  (∀ (id : Nat) (x : PoolCmd) (ld ls : Nat) (s : State),
    cmdOf s id = some x →
    x.ran = false →
    fenceOk s x = true →
    pcOp x.cmd = 4 →
    pcLen x.cmd = 64 →
    HereAt (pcDreg x.cmd) (pcDoff x.cmd) ld s →
    NotRebuilt (pcDreg x.cmd) (pcDoff x.cmd) s →
    HereAt (pcSreg x.cmd) (pcSoff x.cmd) ls s →
    pcSources x.cmd = 1 →
    pcAcc x.cmd = true →
    (hbmRead ld s).1.poison = false →
    (hbmRead ls (hbmRead ld s).2).1.poison = false →
    Does (.reduce id []) s [.ctl, .hbm, .regs, .logs, .pool, .counters] fun t =>
      Queued ld true (reduceLine (pcEtype x.cmd) (pcFn x.cmd) [(hbmRead ld s).1.data, (hbmRead ls (hbmRead ld s).2).1.data]) false (hbmRead ls (hbmRead ld s).2).2 t ∧ ((cmdOf t id).map fun (c : PoolCmd) => (c.ran, c.left, c.status)) = some (true, x.left + 1, x.status)) ∧
  (∀ (id : Nat) (x : PoolCmd) (s : State),
    cmdOf s id = some x →
    x.ran = false →
    fenceOk s x = true →
    pcOp x.cmd = 5 →
    regionCoord s (regionOf s (pcDreg x.cmd)) = self s →
    Tab.wf Region.reset s.pool.region = true →
    (regionOf s (pcDreg x.cmd)).issued < 2 ^ 48 - 2 →
    Does (.flush id) s [.ctl, .hbm, .dense, .rings, .regs, .fw, .lat, .pool, .counters, .out] fun t =>
      cmdOf t id = some { x with ran := true, status := 0, result := 0, aux := (regionOf s (pcDreg x.cmd)).issued + 1 } ∧ (regionOf t (pcDreg x.cmd)).issued = (regionOf s (pcDreg x.cmd)).issued + 1 ∧
      (if (regionOf s (pcDreg x.cmd)).backing = 0 ∧ (regionOf s (pcDreg x.cmd)).tokens.isEmpty then (regionOf t (pcDreg x.cmd)).tokens = [] ∧ (regionOf t (pcDreg x.cmd)).done = (regionOf s (pcDreg x.cmd)).issued + 1 ∧ (regionOf t (pcDreg x.cmd)).good = (regionOf s (pcDreg x.cmd)).issued + 1
       else (regionOf t (pcDreg x.cmd)).tokens.map (fun (k : Token) => (k.t, k.at_)) = (regionOf s (pcDreg x.cmd)).tokens.map (fun (k : Token) => (k.t, k.at_)) ++ [((regionOf s (pcDreg x.cmd)).issued + 1, s.clk.wallPs)] ∧ (regionOf t (pcDreg x.cmd)).done = (regionOf s (pcDreg x.cmd)).done)) ∧
  (∀ (id : Nat) (x : PoolCmd) (s : State),
    cmdOf s id = some x →
    x.ran = false →
    fenceOk s x = true →
    pcOp x.cmd = 6 →
    regionCoord s (regionOf s (pcDreg x.cmd)) = self s →
    Tab.wf Region.reset s.pool.region = true →
    Does (.status id) s [.pool] fun t =>
      cmdOf t id = some { x with ran := true, status := 0, result := (if pcSoff x.cmd ≤ (regionOf s (pcDreg x.cmd)).good then 0 else if pcSoff x.cmd ≤ (regionOf s (pcDreg x.cmd)).done then 1 else 2), aux := (regionOf s (pcDreg x.cmd)).done } ∧ t.pool.region = s.pool.region) ∧
  (∀ (id : Nat) (x : PoolCmd) (s : State),
    cmdOf s id = some x →
    x.ran = false →
    fenceOk s x = true →
    pcOp x.cmd = 7 →
    regionCoord s (regionOf s (pcDreg x.cmd)) = self s →
    Tab.wf Region.reset s.pool.region = true →
    leaseNow s (regionOf s (pcDreg x.cmd)) = none ∨ ((leaseNow s (regionOf s (pcDreg x.cmd))).map fun l => l.1) = some x.holder →
    (regionOf s (pcDreg x.cmd)).leaseFrom ≤ s.clk.wallPs →
    Does (.lease id) s [.pool] fun t =>
      cmdOf t id = some { x with ran := true, status := 0, result := 0, aux := (put x.holder 0 32 + put (pcValue x.cmd) 32 32) } ∧ regionOf t (pcDreg x.cmd) = { (regionOf s (pcDreg x.cmd)) with lease := some (x.holder, s.clk.wallPs + pcValue x.cmd * 1000000000) }) ∧
  (∀ (id : Nat) (x : PoolCmd) (h e : Nat) (s : State),
    cmdOf s id = some x →
    x.ran = false →
    fenceOk s x = true →
    pcOp x.cmd = 7 →
    regionCoord s (regionOf s (pcDreg x.cmd)) = self s →
    Tab.wf Region.reset s.pool.region = true →
    leaseNow s (regionOf s (pcDreg x.cmd)) = some (h, e) →
    h ≠ x.holder →
    Does (.lease id) s [.pool] fun t =>
      cmdOf t id = some { x with ran := true, status := 0, result := 1, aux := (put h 0 32 + put ((e - s.clk.wallPs) / 1000000000) 32 32) } ∧ t.pool.region = s.pool.region) ∧
  (∀ (id : Nat) (x : PoolCmd) (e : Nat) (s : State),
    cmdOf s id = some x →
    x.ran = false →
    fenceOk s x = true →
    pcOp x.cmd = 8 →
    regionCoord s (regionOf s (pcDreg x.cmd)) = self s →
    Tab.wf Region.reset s.pool.region = true →
    leaseNow s (regionOf s (pcDreg x.cmd)) = some (x.holder, e) →
    Does (.unlease id) s [.pool] fun t =>
      cmdOf t id = some { x with ran := true, status := 0, result := 0, aux := 0 } ∧ regionOf t (pcDreg x.cmd) = { (regionOf s (pcDreg x.cmd)) with lease := none }) ∧
  (∀ (id : Nat) (x : PoolCmd) (s : State),
    cmdOf s id = some x →
    x.ran = false →
    fenceOk s x = true →
    pcOp x.cmd = 5 →
    regionCoord s (regionOf s (pcDreg x.cmd)) ≠ self s →
    Does (.flush id) s [.lat, .pool, .out] fun t =>
      cmdOf t id = some { x with ran := true, left := x.left + 1 } ∧ t.pool.region = s.pool.region ∧ t.lat.tag = (s.lat.tag + 1) % 2 ^ 24) ∧
  (∀ (g : Nat) (k : Token) (l : List Token) (s : State),
    (regionOf s g).tokens = k :: l →
    regionDurable s g = true →
    Tab.wf Region.reset s.pool.region = true →
    Does (.flushTokenComplete g) s [.lat, .pool, .out] fun t =>
      regionOf t g = { regionOf s g with tokens := l, done := k.t, good := (if k.bad then (regionOf s g).good else k.t) }) ∧
  (∀ (g : Nat) (k : Token) (l : List Token) (s : State),
    (regionOf s g).tokens = k :: l →
    k.at_ + 10000000000000 ≤ s.clk.wallPs →
    Tab.wf Region.reset s.pool.region = true →
    Does (.flushTokenTimeout g) s [.lat, .pool, .out] fun t =>
      regionOf t g = { regionOf s g with tokens := l, done := k.t }) ∧
  (∀ (g : Nat) (k : Token) (l : List Token) (s : State),
    (regionOf s g).tokens = k :: l →
    s.clk.wallPs < k.at_ + 10000000000000 →
    Does (.flushTokenTimeout g) s [] fun t =>
      t = s) ∧
  (∀ (g h e : Nat) (s : State),
    (regionOf s g).lease = some (h, e) →
    e ≤ s.clk.wallPs →
    Tab.wf Region.reset s.pool.region = true →
    Does (.leaseExpiry g) s [.pool] fun t =>
      regionOf t g = { regionOf s g with lease := none }) ∧
  (∀ (g h e : Nat) (s : State),
    (regionOf s g).lease = some (h, e) →
    s.clk.wallPs < e →
    Does (.leaseExpiry g) s [] fun t =>
      t = s)

/-- R426, R430, R438 to R441, R443, R463, R466. The bodies of TABLE and TOKEN requests are the model's own layout, log entries 37 and 40. -/
def Obligations.ModuleRequests : Prop :=
  (∀ (h : FlitHdr) (u : UnschIn) (line : Nat) (s : State),
    InOrder h s →
    NewReq h u s →
    HereAt u.region u.off line s →
    u.off + 64 ≤ (regionOf s u.region).extents.length * giB →
    u.nl = 1 →
    DoesFrom (.ureqRead h u) s (flitTaken h s) [.hbm, .pool] fun t =>
      Queued line false 0 false (flitTaken h s) t ∧ t.pool.serving = (⟨h.src, u.tag, 1, u.region, u.off, 1, 0, []⟩ : Serving) :: s.pool.serving ∧ t.hbm.mem = s.hbm.mem) ∧
  (∀ (h : FlitHdr) (u : UnschIn) (s : State),
    InOrder h s →
    NewReq h u s →
    myMember s (regionOf s u.region) = none →
    DoesFrom (.ureqRead h u) s (flitTaken h s) [.lat] fun t =>
      Responded h 1 0 0 3 0 u t ∧ t.pool = s.pool) ∧
  (∀ (h : FlitHdr) (u : UnschIn) (s : State),
    InOrder h s →
    h.dst = self s →
    (s.lat.kept.any fun k => k.1 == h.src && k.2.1 == u.tag && !keptStale s u.tag k) = true →
    DoesFrom (.ureqRead h u) s (flitTaken h s) [.lat] fun t =>
      t.pool = s.pool ∧ t.lat.kept = s.lat.kept) ∧
  (∀ (h : FlitHdr) (u : UnschIn) (line : Nat) (l : LineIn) (s : State),
    InOrder h s →
    NewReq h u s →
    HereAt u.region u.off line s →
    u.off + 64 ≤ (regionOf s u.region).extents.length * giB →
    u.nl = 1 →
    u.lines = [l] →
    NotRebuilt u.region u.off s →
    DoesFrom (.ureqWrite h u) s (flitTaken h s) [.hbm, .pool] fun t =>
      Queued line true l.data l.poison (flitTaken h s) t ∧ t.pool.serving = (⟨h.src, u.tag, 2, u.region, u.off, 1, 0, []⟩ : Serving) :: s.pool.serving ∧ t.hbm.mem = s.hbm.mem) ∧
  (∀ (h : FlitHdr) (u : UnschIn) (line : Nat) (l : LineIn) (s : State),
    InOrder h s →
    NewReq h u s →
    (regionOf s u.region).prot = 2 →
    myMember s (regionOf s u.region) = some 8 →
    (regionOf s u.region).missing = false →
    absent s (regionOf s u.region) 8 u.off = false →
    placeOf (regionOf s u.region) u.off = some (.hbm line) →
    u.off + 64 ≤ (regionOf s u.region).extents.length * giB →
    u.nl = 1 →
    u.lines = [l] →
    NotRebuilt u.region u.off s →
    DoesFrom (.ureqDelta h u) s (flitTaken h s) [.hbm, .pool] fun t =>
      Queued line true l.data l.poison (flitTaken h s) t ∧ t.pool.serving = (⟨h.src, u.tag, 3, u.region, u.off, 1, 0, []⟩ : Serving) :: s.pool.serving ∧ t.hbm.mem = s.hbm.mem) ∧
  (∀ (h : FlitHdr) (u : UnschIn) (line m : Nat) (s : State),
    InOrder h s →
    NewReq h u s →
    myMember s (regionOf s u.region) = some m →
    (regionOf s u.region).missing = false →
    placeOf (regionOf s u.region) u.off = some (.hbm line) →
    u.off + 64 ≤ (regionOf s u.region).extents.length * giB →
    u.nl = 1 →
    DoesFrom (.ureqRebuild h u) s (flitTaken h s) [.hbm, .pool] fun t =>
      Queued line false 0 false (flitTaken h s) t ∧ t.pool.serving = (⟨h.src, u.tag, 4, u.region, u.off, 1, 0, []⟩ : Serving) :: s.pool.serving ∧ t.hbm.mem = s.hbm.mem) ∧
  (∀ (h : FlitHdr) (u : UnschIn) (s : State),
    InOrder h s →
    NewReq h u s →
    s.pool.cmds.length < 512 →
    DoesFrom (.ureqCmd h u) s (flitTaken h s) [.pool] fun t =>
      t.pool.cmds = s.pool.cmds ++ [(⟨s.pool.nextId, .part h.src u.tag, bits u.cmd 0 384, 0, 0, false, 0, 0, (if pcOp (bits u.cmd 0 384) = 3 then 2 ^ 64 - 1 else 0), s.win.gen.toNat⟩ : PoolCmd)] ∧ t.pool.region = s.pool.region) ∧
  (∀ (h : FlitHdr) (u : UnschIn) (s : State),
    InOrder h s →
    NewReq h u s →
    512 ≤ s.pool.cmds.length →
    DoesFrom (.ureqCmd h u) s (flitTaken h s) [.lat] fun t =>
      Responded h 5 0 0 9 0 { u with off := 0 } t ∧ t.pool = s.pool) ∧
  (∀ (h : FlitHdr) (u : UnschIn) (s : State),
    InOrder h s →
    NewReq h u s →
    unschBody 6 u % 256 = 4 →
    Tab.wf Region.reset s.pool.region = true →
    DoesFrom (.ureqTable h u) s (flitTaken h s) [.lat, .pool, .out] fun t =>
      (let x := aclOf (unschBody 6 u / 2 ^ 64)
       regionOf t u.region = { regionOf s u.region with acl := x.1, mode := x.2, shadow := none } ∧ Responded h 6 0 0 0 0 { u with off := 0 } t)) ∧
  (∀ (h : FlitHdr) (u : UnschIn) (s : State),
    InOrder h s →
    NewReq h u s →
    pcOp (bits u.cmd 0 384) = 6 →
    DoesFrom (.ureqToken h u) s (flitTaken h s) [.lat] fun t =>
      (let r := regionOf s (pcDreg (bits u.cmd 0 384))
       Responded h 7 0 0 0 (resultBody 0 (if pcSoff (bits u.cmd 0 384) ≤ r.good then 0 else if pcSoff (bits u.cmd 0 384) ≤ r.done then 1 else 2) r.done) { u with off := 0 } t)) ∧
  (∀ (h : FlitHdr) (uop : Nat) (u : UnschIn) (r : OutReq) (s : State),
    InOrder h s →
    h.dst = self s →
    s.lat.outReqs.find? (fun r => r.dst == h.src && r.tag == u.tag) = some r →
    r.kind = 3 →
    s.lat.waiting = [] →
    DoesFrom (.ursp h uop u) s (flitTaken h s) [.lat, .pool] fun t =>
      t.lat.outReqs = s.lat.outReqs.filter (fun (x : OutReq) => !(x.dst == r.dst && x.tag == r.tag)) ∧ t.pool.cmds = (partDone r.ref u.status (unschBody uop u) s).pool.cmds ∧ t.pool.region = s.pool.region) ∧
  (∀ (dst tag : Nat) (r : OutReq) (s : State),
    s.lat.outReqs.find? (fun q => q.dst == dst && q.tag == tag) = some r →
    s.clk.wallPs < r.at_ + 4 * deliveryPs s →
    Does (.ureqRepeat dst tag) s [] fun t =>
      t = s) ∧
  (∀ (dst tag : Nat) (r : OutReq) (s : State),
    s.lat.outReqs.find? (fun q => q.dst == dst && q.tag == tag) = some r →
    r.at_ + 4 * deliveryPs s ≤ s.clk.wallPs →
    Does (.ureqRepeat dst tag) s [.lat] fun t =>
      t.lat.outReqs = s.lat.outReqs.map (fun (x : OutReq) => if x == r then { x with at_ := s.clk.wallPs } else x) ∧ t.lat.tag = s.lat.tag)

/-- R51, R457, R458, R464, R465, R468, R488, R490, R492, R543. A first training that ends narrower than 8 lanes reports it: the model's choice, log entry 50. -/
def Obligations.LinkStates : Prop :=
  (∀ (port : Nat) (latency : Nat) (good : BitVec 8) (s : State),
    (latPort s port).state = 1 →
    widthOf good ≠ 0 →
    Tab.wf LPort.reset s.lat.port = true →
    Does (.portTrainingDone port good latency) s [.ctl, .lat, .counters, .out] fun t =>
      (latPort t port) = { (latPort s port) with width := widthOf good, lanes := good, latency := latency } ∧ t.out = s.out ++ [Output.ctrlMsg port 1 (linkIdBytes s port)] ∧ (8 ≤ widthOf good → t.ctl = s.ctl) ∧ (widthOf good < 8 → s.ctl.faultQ.length < 256 → t.ctl.faultQ = s.ctl.faultQ ++ [(⟨0x8001, 5, port, some (widthOf good), latEndpoint port, 0⟩ : FaultPkt)])) ∧
  (∀ (port : Nat) (latency : Nat) (good : BitVec 8) (s : State),
    (latPort s port).state = 1 →
    widthOf good = 0 →
    Tab.wf LPort.reset s.lat.port = true →
    Does (.portTrainingDone port good latency) s [.boot, .ctl, .rings, .regs, .logs, .fw, .lat, .pool, .counters, .out] fun t =>
      (latPort t port).state = 4 ∧ (∀ e ∈ linkEnds s (self s) port, t.lat.failed.contains e = true)) ∧
  (∀ (port : Nat) (latency : Nat) (good : BitVec 8) (s : State),
    (latPort s port).state = 3 →
    widthOf good ≠ 0 →
    Tab.wf LPort.reset s.lat.port = true →
    Does (.portTrainingDone port good latency) s [.ctl, .lat, .counters] fun t =>
      (latPort t port) = { (latPort s port) with state := 2, width := min (widthOf good) (latPort s port).width, lanes := good, latency := latency, resend := (latPort s port).unacked, progress := s.clk.wallPs }) ∧
  (∀ (port : Nat) (msg : Nat) (s : State),
    (latPort s port).state = 1 →
    (latPort s port).width ≠ 0 →
    linkIdOk s port msg = true →
    Tab.wf LPort.reset s.lat.port = true →
    Does (.linkId port msg) s [.boot, .lat, .out] fun t =>
      (latPort t port).state = 2 ∧ (latPort t port).width = (latPort s port).width ∧ (latPort t port).txSeq = 0 ∧ (latPort t port).expected = 0 ∧ (latPort t port).unacked = [] ∧ (latPort t port).spent = [] ∧ (latPort t port).far = some (bits msg 8 10, bits msg 48 4, bits msg 32 16, bits msg 52 2)) ∧
  (∀ (port : Nat) (msg : Nat) (s : State),
    (latPort s port).state = 1 →
    (latPort s port).width ≠ 0 →
    linkIdOk s port msg = false →
    Tab.wf LPort.reset s.lat.port = true →
    Does (.linkId port msg) s [.boot, .ctl, .lat, .counters] fun t =>
      (latPort t port).state = 5 ∧ (latPort t port).width = (latPort s port).width ∧ (s.ctl.faultQ.length < 256 → t.ctl.faultQ = s.ctl.faultQ ++ [(⟨0x8003, 5, port, none, latEndpoint port, 0⟩ : FaultPkt)])) ∧
  (∀ (port : Nat) (s : State),
    (latPort s port).state = 2 →
    Tab.wf LPort.reset s.lat.port = true →
    Does (.portRetrain port) s [.lat, .counters] fun t =>
      (latPort t port) = { (latPort s port) with state := 3, replays := 0 } ∧ (s.HostWf → counter t 0x0407 port = counterAdd 0x0407 (counter s 0x0407 port) 1)) ∧
  (∀ (port : Nat) (s : State),
    (latPort s port).state ≠ 2 →
    Does (.portRetrain port) s [] fun t =>
      t = s) ∧
  (∀ (b port fill : Nat) (s : State),
    b < 44 →
    elasticPort b = some port →
    (latPort s port).state = 2 →
    elasticFault b fill = true →
    Tab.wf Elastic.reset s.clk.elastic = true →
    s.UnitWf →
    Does (.elasticOverflow b fill) s [.clk, .lat, .counters] fun t =>
      Tab.get Elastic.reset t.clk.elastic b = (⟨0, (Tab.get Elastic.reset s.clk.elastic b).faults + 1⟩ : Elastic) ∧ (latPort t port) = { (latPort s port) with state := 3, replays := 0 } ∧ (s.HostWf → counter t 0x0407 port = counterAdd 0x0407 (counter s 0x0407 port) 1)) ∧
  (∀ (b fill : Nat) (s : State),
    b < 44 →
    elasticPort b = none →
    elasticFault b fill = true →
    Tab.wf Elastic.reset s.clk.elastic = true →
    Does (.elasticOverflow b fill) s [.clk] fun t =>
      Tab.get Elastic.reset t.clk.elastic b = (⟨0, (Tab.get Elastic.reset s.clk.elastic b).faults + 1⟩ : Elastic) ∧ t.clk = { s.clk with elastic := t.clk.elastic }) ∧
  (∀ (b fill : Nat) (s : State),
    b < 44 →
    elasticFault b fill = false →
    Tab.wf Elastic.reset s.clk.elastic = true →
    Does (.elasticOverflow b fill) s [.clk] fun t =>
      Tab.get Elastic.reset t.clk.elastic b = (⟨fill, (Tab.get Elastic.reset s.clk.elastic b).faults⟩ : Elastic) ∧ t.clk = { s.clk with elastic := t.clk.elastic }) ∧
  (∀ (b fill : Nat) (s : State),
    44 ≤ b →
    Does (.elasticOverflow b fill) s [] fun t =>
      t = s) ∧
  (∀ (port : Nat) (s : State),
    (latPort s port).state = 3 →
    Tab.wf LPort.reset s.lat.port = true →
    Does (.retrainTimeout port) s [.ctl, .rings, .regs, .logs, .fw, .lat, .pool, .counters, .out] fun t =>
      (latPort t port).state = 4 ∧ (latPort t port).unacked = [] ∧ (∀ e ∈ linkEnds s (self s) port, t.lat.failed.contains e = true)) ∧
  (∀ (port : Nat) (s : State),
    (latPort s port).state = 4 ∨ (latPort s port).state = 5 →
    (failedHour s port && !isRequested s (0x8002, port)) = false ∨ mpRuns s = false →
    Tab.wf LPort.reset s.lat.port = true →
    Does (.trainingRetry port) s [.lat] fun t =>
      (latPort t port) = { LPort.reset with state := 1, failedAt := (latPort s port).failedAt, lanes := (latPort s port).lanes, fresh := (latPort s port).state == 4 }) ∧
  (∀ (port : Nat) (s : State),
    (latPort s port).state = 4 →
    port < 12 →
    mpRuns s = true →
    failedHour s port = true →
    isRequested s (0x8002, port) = false →
    Tab.wf LPort.reset s.lat.port = true →
    Does (.trainingRetry port) s [.rings, .regs, .logs, .lat, .counters, .out] fun t =>
      (latPort t port) = { LPort.reset with state := 1, failedAt := (latPort s port).failedAt, lanes := (latPort s port).lanes, fresh := true } ∧ t.lat.cfg = s.lat.cfg ∧ isRequested t (0x8002, port) = true) ∧
  (∀ (port : Nat) (s : State),
    portUp s port = true →
    (latPort s port).asleep = false →
    s.pm.laneSleep = true →
    portBusy s port = false →
    frameNumber s = (latPort s port).loadFrame →
    256 ≤ (latPort s port).quiet →
    Tab.wf LPort.reset s.lat.port = true →
    Does (.laneSleep port) s [.lat] fun t =>
      (latPort t port) = { (latPort s port) with asleep := true }) ∧
  (∀ (port : Nat) (s : State),
    s.pm.laneSleep = false →
    Does (.laneSleep port) s [] fun t =>
      t = s) ∧
  (∀ (port : Nat) (s : State),
    (latPort s port).asleep = true →
    Tab.wf LPort.reset s.lat.port = true →
    Does (.laneWake port) s [.lat] fun t =>
      (latPort t port) = { (latPort s port) with asleep := false }) ∧
  (∀ (q : MciReq) (s : State),
    Serves 0x0601 (q.plen == 32) (reservedClear (mciParams q) [(0, 10), (16, 16), (32, 2), (40, 4), (44, 3), (47, 3), (64, 12), (80, 8), (128, 96)] && latConfigOk (latConfigOf (mciParams q))) q s →
    latConfigBusy s = false →
    Does (.latticeConfig q) s [.rings, .regs, .fw, .out, .lat] fun t =>
      t.lat.cfg = latConfigOf (mciParams q) ∧ t.lat.policy = s.lat.policy ∧ t.lat.members = [] ∧ t.lat.lost = [] ∧ (∀ port, port < 12 → (latPort t port).state = if (latConfigOf (mciParams q)).portEn.getLsbD port ∧ ((latConfigOf (mciParams q)).farOf (latConfigOf (mciParams q)).module port).isSome then 1 else 0) ∧ Answered 0x0601 q 0 0 0 0 s t) ∧
  (∀ (q : MciReq) (s : State),
    Serves 0x0601 (q.plen == 32) (reservedClear (mciParams q) [(0, 10), (16, 16), (32, 2), (40, 4), (44, 3), (47, 3), (64, 12), (80, 8), (128, 96)] && latConfigOk (latConfigOf (mciParams q))) q s →
    latConfigBusy s = true →
    Does (.latticeConfig q) s [.rings, .regs, .fw, .out] fun t =>
      t.lat = s.lat ∧ Answered 0x0601 q 6 0 0 0 s t) ∧
  (∀ (q : MciReq) (s : State),
    Serves 0x0602 (q.plen == 0) (reservedClear (mciParams q) [] && true) q s →
    Does (.latticeQuery q) s [.rings, .regs, .fw, .out] fun t =>
      Answered 0x0602 q 0 0 (Config.queryLength 0x0602 ((rangeFrom 0 12).flatMap (portContent s) ++ [fsfNow s, s.lat.cfg.group, flag (s.lat.standing == Standing.good), flag s.lat.locked, (coordinator s).getD 0x3FF, treeDepth s, deliveryPs s, 1500000000 + deliveryPs s, s.lat.lost.length] ++ s.lat.lost ++ [0x0501, 0x0502, 0x0503, 0x0504, 0x0505, 0x0506].map fun (id : Nat) => (counter s id 0).toNat) % 4081) (Config.queryLayout 0x0602 ((rangeFrom 0 12).flatMap (portContent s) ++ [fsfNow s, s.lat.cfg.group, flag (s.lat.standing == Standing.good), flag s.lat.locked, (coordinator s).getD 0x3FF, treeDepth s, deliveryPs s, 1500000000 + deliveryPs s, s.lat.lost.length] ++ s.lat.lost ++ [0x0501, 0x0502, 0x0503, 0x0504, 0x0505, 0x0506].map fun (id : Nat) => (counter s id 0).toNat)) s t ∧ t.fw = { s.fw with outstanding := t.fw.outstanding })

/-- R455, R460, R461, R465 to R470, R481. -/
def Obligations.LinkFlits : Prop :=
  (∀ (h : FlitHdr) (s : State),
    portUp s h.port = true →
    injectHits s 5 h.port = false →
    h.ackv = true →
    (h.ack - oldestSeqOf (latPort s h.port)).toNat < 8192 →
    Tab.wf LPort.reset s.lat.port = true →
    Does (.idleFlit h) s [.lat] fun t =>
      (latPort t h.port).unacked = (latPort s h.port).unacked.drop ((h.ack - oldestSeqOf (latPort s h.port)).toNat + 1) ∧ (latPort t h.port).progress = s.clk.wallPs ∧ (latPort t h.port).replays = 0 ∧ (latPort t h.port).expected = (latPort s h.port).expected ∧ (latPort t h.port).spent = Tab.upd 0 (latPort s h.port).spent h.cvc (fun (n : Nat) => n - h.crd)) ∧
  (∀ (h : FlitHdr) (s : State),
    portUp s h.port = true →
    injectHits s 5 h.port = false →
    h.ackv = false →
    Tab.wf LPort.reset s.lat.port = true →
    Does (.idleFlit h) s [.lat] fun t =>
      (latPort t h.port) = { (latPort s h.port) with spent := Tab.upd 0 (latPort s h.port).spent h.cvc (fun (n : Nat) => n - h.crd) }) ∧
  (∀ (h : FlitHdr) (s : State),
    portUp s h.port = true →
    injectHits s 5 h.port = true →
    s.HostWf →
    Does (.idleFlit h) s [.regs, .counters] fun t =>
      counter t 0x0402 h.port = counterAdd 0x0402 (counter s 0x0402 h.port) 1) ∧
  (∀ (h : FlitHdr) (s : State),
    portUp s h.port = false →
    Does (.nak h) s [] fun t =>
      t = s) ∧
  (∀ (h : FlitHdr) (s : State),
    portUp s h.port = true →
    injectHits s 5 h.port = false →
    h.ackv = true →
    (h.ack - oldestSeqOf (latPort s h.port)).toNat < 8192 →
    ((latPort s h.port).unacked[(h.ack - oldestSeqOf (latPort s h.port)).toNat + 1]?).map (fun e => e.1) = some (h.ack + 1) →
    Tab.wf LPort.reset s.lat.port = true →
    Does (.nak h) s [.lat, .counters] fun t =>
      (latPort t h.port).unacked = (latPort s h.port).unacked.drop ((h.ack - oldestSeqOf (latPort s h.port)).toNat + 1) ∧ (latPort t h.port).resend = (latPort t h.port).unacked ∧ (latPort t h.port).replays = 1 ∧ (latPort t h.port).state = 2) ∧
  (∀ (port : Nat) (s : State),
    portUp s port = true →
    Tab.wf LPort.reset s.lat.port = true →
    Does (.ackIdleTimer port) s [.lat, .counters, .out] fun t =>
      (latPort t port).ackDue = false ∧ (latPort t port).expected = (latPort s port).expected ∧ (latPort t port).unacked = (latPort s port).unacked ∧ (latPort t port).txSeq = (latPort s port).txSeq ∧ t.out.length = s.out.length + 1) ∧
  (∀ (port : Nat) (s : State),
    portUp s port = true →
    (latPort s port).unacked ≠ [] →
    (latPort s port).progress + 1000000 ≤ s.clk.wallPs →
    (latPort s port).replays < 7 →
    Tab.wf LPort.reset s.lat.port = true →
    Does (.replayTimeout port) s [.lat, .counters] fun t =>
      (latPort t port) = { (latPort s port) with resend := (latPort s port).unacked, replays := (latPort s port).replays + 1, progress := s.clk.wallPs }) ∧
  (∀ (port : Nat) (s : State),
    portUp s port = true →
    (latPort s port).unacked ≠ [] →
    (latPort s port).progress + 1000000 ≤ s.clk.wallPs →
    7 ≤ (latPort s port).replays →
    Tab.wf LPort.reset s.lat.port = true →
    Does (.replayTimeout port) s [.lat, .counters] fun t =>
      (latPort t port).state = 3 ∧ (latPort t port).resend = (latPort s port).unacked) ∧
  (∀ (port : Nat) (s : State),
    (latPort s port).unacked = [] ∨ s.clk.wallPs < (latPort s port).progress + 1000000 →
    Does (.replayTimeout port) s [] fun t =>
      t = s) ∧
  (∀ (port : Nat) (f : Flit) (s : State),
    portUp s port = true →
    (latPort s port).resend = [] →
    ((latPort s port).txSeq - oldestSeqOf (latPort s port)).toNat < 8192 →
    slotFlit (latPort s port) = some f →
    Tab.wf LPort.reset s.lat.port = true →
    Does (.flitSlot port) s [.lat, .counters, .out] fun t =>
      (latPort t port).unacked = (latPort s port).unacked ++ [((latPort s port).txSeq, f)] ∧ (latPort t port).txSeq = (latPort s port).txSeq + 1 ∧ (latPort t port).ctrlQ = (dequeue f (latPort s port)).ctrlQ ∧ (latPort t port).winQ = (dequeue f (latPort s port)).winQ ∧ (latPort t port).ureqQ = (dequeue f (latPort s port)).ureqQ ∧ (latPort t port).urspQ = (dequeue f (latPort s port)).urspQ ∧ (latPort t port).expected = (latPort s port).expected ∧ t.out.length = s.out.length + 1) ∧
  (∀ (port : Nat) (s : State),
    portUp s port = true →
    (latPort s port).resend = [] →
    slotFlit (latPort s port) = none →
    Does (.flitSlot port) s [] fun t =>
      t = s) ∧
  (∀ (port : Nat) (unc : Bool) (s : State),
    portUp s port = true →
    s.HostWf →
    Does (.flitCrcFailure port unc) s [.counters] fun t =>
      counter t 0x0402 port = counterAdd 0x0402 (counter s 0x0402 port) 1 ∧ (unc = true → counter t 0x0405 port = counterAdd 0x0405 (counter s 0x0405 port) 1) ∧ (unc = false → counter t 0x0405 port = counter s 0x0405 port)) ∧
  (∀ (h : FlitHdr) (first total : Nat) (beats : List LineIn) (s : State),
    InOrder h s →
    h.dst = self s →
    storedWin s h.port h.src (BitVec.ofNat 32 h.xt) = none →
    storeLoad s h.port + beats.length ≤ 32768 →
    Tab.wf LPort.reset s.lat.port = true →
    DoesFrom (.win h first total beats) s (flitTaken h s) [.lat] fun t =>
      t.lat.store = (⟨h.port, h.src, BitVec.ofNat 32 h.xt, total, (rangeFrom 0 beats.length).filterMap (fun (i : Nat) => (beats[i]?).map fun (b : LineIn) => (first + i, b.data, b.poison)), false, false, false⟩ : StoredWin) :: s.lat.store.filter (fun (v : StoredWin) => !(v.port == h.port && v.src == h.src && v.stamp == BitVec.ofNat 32 h.xt)) ∧ (latPort t h.port).expected = (latPort s h.port).expected + 1) ∧
  (∀ (h : FlitHdr) (first total : Nat) (beats : List LineIn) (s : State),
    InOrder h s →
    h.dst ≠ self s →
    windowPort s h.dst h.port = none →
    DoesFrom (.win h first total beats) s (flitTaken h s) [] fun t =>
      t = flitTaken h s) ∧
  (∀ (h : FlitHdr) (first total : Nat) (beats : List LineIn) (s : State),
    portUp s h.port = true →
    injectHits s 5 h.port = false →
    32768 ≤ (h.seq - (latPort s h.port).expected).toNat →
    Tab.wf LPort.reset s.lat.port = true →
    Does (.win h first total beats) s [.lat, .counters] fun t =>
      t.lat.store = s.lat.store ∧ (latPort t h.port).expected = (latPort s h.port).expected) ∧
  (∀ (port src : Nat) (stamp : BitVec 32) (s : State),
    255 < (stampNow s - stamp).toNat →
    (stampNow s - stamp).toNat < 2 ^ 31 →
    Does (.windowAgeOut port src stamp) s [.lat] fun t =>
      t.lat.store = s.lat.store.filter (fun (w : StoredWin) => !(w.port == port && w.src == src && w.stamp == stamp)) ∧ t.lat.port = s.lat.port) ∧
  (∀ (port src : Nat) (stamp : BitVec 32) (s : State),
    (stampNow s - stamp).toNat ≤ 255 →
    Does (.windowAgeOut port src stamp) s [] fun t =>
      t = s)

/-- R464, R475 to R478, R488, R491, Table 14.9. -/
def Obligations.FabricMessages : Prop :=
  (∀ (h : Option FlitHdr) (port msg : Nat) (s : State),
    CtrlIn h port s →
    floodNew s msg = true →
    bit1 msg 46 = false →
    DoesFrom (.linkFail h port msg) s (ctrlTaken h port s) [.rings, .regs, .logs, .fw, .lat, .pool, .counters, .out] fun t =>
      (∀ e ∈ linkEnds s (bits msg 8 10) (bits msg 42 4), t.lat.failed.contains e = true) ∧ t.lat.cfg = s.lat.cfg) ∧
  (∀ (h : Option FlitHdr) (port msg : Nat) (s : State),
    CtrlIn h port s →
    floodNew s msg = true →
    bit1 msg 46 = true →
    DoesFrom (.linkFail h port msg) s (ctrlTaken h port s) [.lat, .out] fun t =>
      (∀ e ∈ linkEnds s (bits msg 8 10) (bits msg 42 4), t.lat.failed.contains e = false) ∧ t.lat.lost = s.lat.lost) ∧
  (∀ (h : Option FlitHdr) (port msg : Nat) (s : State),
    CtrlIn h port s →
    floodNew s msg = false →
    DoesFrom (.linkFail h port msg) s (ctrlTaken h port s) [] fun t =>
      t = ctrlTaken h port s) ∧
  (∀ (h : Option FlitHdr) (port msg : Nat) (s : State),
    CtrlIn h port s →
    floodNew s msg = false →
    DoesFrom (.lost h port msg) s (ctrlTaken h port s) [] fun t =>
      t = ctrlTaken h port s) ∧
  (∀ (h : Option FlitHdr) (port msg : Nat) (s : State),
    CtrlIn h port s →
    floodNew s msg = true →
    bits msg 32 10 ≠ self s →
    s.lat.lost.contains (bits msg 32 10) = false →
    DoesFrom (.lost h port msg) s (ctrlTaken h port s) [.rings, .regs, .logs, .fw, .lat, .pool, .counters, .out] fun t =>
      t.lat.lost = bits msg 32 10 :: s.lat.lost ∧ t.lat.members = s.lat.members.filter (fun (x : Nat) => x != bits msg 32 10)) ∧
  (∀ (h : Option FlitHdr) (port msg : Nat) (s : State),
    CtrlIn h port s →
    floodNew s msg = true →
    bits msg 18 8 = s.lat.cfg.group →
    s.lat.cfg.group ≠ 0 →
    DoesFrom (.join h port msg) s (ctrlTaken h port s) [.lat, .out] fun t =>
      t.lat.members = s.lat.members.filter (fun (x : Nat) => x != (bits msg 8 10)) ∧ t.lat.lost = s.lat.lost.filter (fun (x : Nat) => x != (bits msg 8 10)) ∧ t.lat.joiners.contains (bits msg 8 10) = true ∧ t.lat.standing = s.lat.standing) ∧
  (∀ (h : Option FlitHdr) (port msg : Nat) (s : State),
    CtrlIn h port s →
    floodNew s msg = false →
    DoesFrom (.join h port msg) s (ctrlTaken h port s) [] fun t =>
      t = ctrlTaken h port s) ∧
  (∀ (h : Option FlitHdr) (port msg : Nat) (s : State),
    CtrlIn h port s →
    bits msg 18 8 = s.lat.cfg.group →
    coordinator s = some (self s) →
    DoesFrom (.policy h port msg) s (ctrlTaken h port s) [.lat] fun t =>
      t.lat.nextPolicy = some (policyOf (bits msg 32 40)) ∧ t.lat.policy = s.lat.policy) ∧
  (∀ (h : Option FlitHdr) (port msg : Nat) (s : State),
    CtrlIn h port s →
    bits msg 18 8 ≠ s.lat.cfg.group →
    DoesFrom (.policy h port msg) s (ctrlTaken h port s) [] fun t =>
      t = ctrlTaken h port s) ∧
  (∀ (h : Option FlitHdr) (port msg : Nat) (s : State),
    CtrlIn h port s →
    linkedOn s = true →
    bits msg 18 8 = s.lat.cfg.group →
    coordinator s = some (self s) →
    Tab.wf 0 s.lat.treqs = true →
    DoesFrom (.treq h port msg) s (ctrlTaken h port s) [.pm, .lat, .out] fun t =>
      Tab.get 0 t.lat.treqs (bits msg 8 10) = BitVec.ofNat 9 (bits msg 32 9) ∧ t.lat.members = s.lat.members ∧ t.lat.groupSetting = slowestOf ((goodMembers s).map fun (k : Nat) => if k = (bits msg 8 10) then BitVec.ofNat 9 (bits msg 32 9) else Tab.get 0 s.lat.treqs k)) ∧
  (∀ (h : Option FlitHdr) (port msg : Nat) (s : State),
    CtrlIn h port s →
    linkedOn s = false →
    DoesFrom (.treq h port msg) s (ctrlTaken h port s) [] fun t =>
      t = ctrlTaken h port s) ∧
  (∀ (h : Option FlitHdr) (port msg : Nat) (s : State),
    CtrlIn h port s →
    linkedOn s = true →
    bits msg 18 8 = s.lat.cfg.group →
    s.pm.alone = false →
    precedes32 (stampNow s) (BitVec.ofNat 32 (bits msg 64 32)) = true →
    DoesFrom (.tset h port msg) s (ctrlTaken h port s) [.pm, .lat, .out] fun t =>
      t.pm = { s.pm with group := BitVec.ofNat 9 (bits msg 32 9) } ∧ t.lat.tset = some (BitVec.ofNat 9 (bits msg 32 9), BitVec.ofNat 32 (bits msg 64 32)) ∧ t.lat.locked = s.lat.locked) ∧
  (∀ (h : Option FlitHdr) (port msg : Nat) (s : State),
    CtrlIn h port s →
    linkedOn s = true →
    bits msg 18 8 = s.lat.cfg.group →
    s.pm.alone = false →
    precedes32 (stampNow s) (BitVec.ofNat 32 (bits msg 64 32)) = false →
    DoesFrom (.tset h port msg) s (ctrlTaken h port s) [.clk, .pm, .lat, .counters, .out] fun t =>
      t.clk.pendSetting = some (BitVec.ofNat 9 (bits msg 32 9), s.clk.tick.toNat) ∧ t.lat.locked = false ∧ t.lat.unlockedNote = true ∧ t.lat.tset = s.lat.tset) ∧
  (∀ (h : Option FlitHdr) (port msg : Nat) (s : State),
    CtrlIn h port s →
    linkedOn s = false →
    DoesFrom (.tset h port msg) s (ctrlTaken h port s) [] fun t =>
      t = ctrlTaken h port s)

/-- R58, R472 to R476, R478, R491. -/
def Obligations.BarrierCommands : Prop :=
  (∀ s : State,
    tickRuns s = true →
    barrierArmed s = true →
    s.clk.frameDone = true →
    nextBoundary s = nextSuper s →
    Does .barrierHold s [.clk, .parts, .layout, .layoutPend, .slots, .buf, .comp, .ctl, .hbm, .tiles, .rings, .regs, .logs, .win, .lat, .counters, .out] fun t =>
      t.clk.held = true ∧ t.clk.tick.toNat = nextSuper s - 1 ∧ t.lat.standing = s.lat.standing) ∧
  (∀ s : State,
    s.clk.held = false →
    barrierArmed s = false →
    Does .barrierHold s [] fun t =>
      t = s) ∧
  (∀ s : State,
    s.clk.held = true →
    coordinator s ≠ some (self s) →
    arriveReady s = false →
    Does .barrierHold s [] fun t =>
      t = s) ∧
  (∀ (h : Option FlitHdr) (port msg m : Nat) (s : State),
    CtrlIn h port s →
    bits msg 18 8 = s.lat.cfg.group →
    s.lat.standing ≠ .out →
    s.lat.cfg.farOf (self s) port = some m →
    DoesFrom (.arrive h port msg) s (ctrlTaken h port s) [.lat, .out] fun t =>
      t.lat.arrivals = (⟨m, bits msg 32 48, bits msg 80 11, bit1 msg 91, bit1 msg 92, bit1 msg 93, BitVec.ofNat 9 (bits msg 94 9)⟩ : Arrived) :: s.lat.arrivals.filter (fun (b : Arrived) => b.from_ != m) ∧ t.lat.members = s.lat.members ∧ t.lat.standing = s.lat.standing) ∧
  (∀ (h : Option FlitHdr) (port msg : Nat) (s : State),
    CtrlIn h port s →
    bits msg 18 8 ≠ s.lat.cfg.group ∨ s.lat.standing = .out →
    DoesFrom (.arrive h port msg) s (ctrlTaken h port s) [] fun t =>
      t = ctrlTaken h port s) ∧
  (∀ (h : Option FlitHdr) (port msg : Nat) (s : State),
    CtrlIn h port s →
    bits msg 18 8 = s.lat.cfg.group →
    s.lat.standing ≠ .out →
    s.clk.held = true →
    bit1 msg 80 = false →
    DoesFrom (.release h port msg) s (ctrlTaken h port s) [.lat, .out] fun t =>
      t.lat.release = some (⟨bits msg 32 48, false, bit1 msg 81, bit1 msg 82, BitVec.ofNat 9 (bits msg 83 9), s.clk.wallPs + 1000 * bits msg 96 16, policyOf (bits msg 112 40)⟩ : Release) ∧ t.lat.standing = s.lat.standing) ∧
  (∀ (h : Option FlitHdr) (port msg : Nat) (s : State),
    CtrlIn h port s →
    bits msg 18 8 = s.lat.cfg.group →
    s.lat.standing = .good →
    s.clk.held = false →
    bit1 msg 80 = true →
    s.lat.cfg.group ≠ 0 →
    s.fw.vet ≠ 1 →
    DoesFrom (.release h port msg) s (ctrlTaken h port s) [.rings, .regs, .logs, .lat, .counters, .out] fun t =>
      t.lat.standing = Standing.joining ∧ t.lat.locked = false ∧ t.lat.release = none) ∧
  (∀ (r : Release) (s : State),
    s.lat.release = some r →
    s.clk.held = true →
    s.clk.pll = true →
    s.clk.stopped = false →
    Does .releaseDelayExpiry s [.clk, .parts, .layout, .layoutPend, .slots, .buf, .comp, .ctl, .hbm, .tiles, .rings, .regs, .logs, .win, .lat, .counters, .out, .pm] fun t =>
      t.clk.held = false ∧ t.lat.release = none ∧ t.lat.policy = r.policy ∧ t.lat.lastPartial = r.partialRel ∧ t.lat.lastRelease = nextSuper s + 1 ∧ t.lat.arrivals = [] ∧ t.lat.standing = (if leavesNow s then Standing.out else Standing.good)) ∧
  (∀ s : State,
    s.lat.release = none →
    Does .releaseDelayExpiry s [] fun t =>
      t = s) ∧
  (∀ s : State,
    s.clk.held = true →
    s.lat.arriveSent = true →
    s.lat.release = none →
    s.lat.standing = .good →
    coordinator s = some (self s) →
    Does .barrierTimeout s [.rings, .regs, .logs, .lat, .counters, .out] fun t =>
      (t.lat.release.map fun (r : Release) => (r.partialRel, r.fsf)) = some (true, fsfPend s) ∧ t.lat.members = s.lat.members ∧ t.logs.next = s.logs.next + 1) ∧
  (∀ s : State,
    s.clk.held = false →
    Does .barrierTimeout s [] fun t =>
      t = s) ∧
  (∀ s : State,
    s.clk.held = true →
    s.lat.release = none →
    s.lat.cfg.group ≠ 0 →
    s.fw.vet ≠ 1 →
    s.clk.pll = true →
    s.clk.stopped = false →
    Does .barrierLoneRelease s [.clk, .parts, .layout, .layoutPend, .slots, .buf, .comp, .ctl, .hbm, .tiles, .rings, .regs, .logs, .win, .lat, .counters, .out] fun t =>
      t.clk.held = false ∧ t.lat.standing = Standing.joining ∧ t.lat.locked = false) ∧
  (∀ s : State,
    s.clk.held = false →
    Does .barrierLoneRelease s [] fun t =>
      t = s) ∧
  (∀ s : State,
    s.clk.held = true →
    s.lat.standing = .joining →
    s.lat.release = none →
    ((rangeFrom 0 12).filter fun p => (latPort s p).state != 0).all (portUp s) = true →
    (s.lat.members ++ s.lat.joiners).all (fun m => decide (self s < m)) = true →
    Does .firstBarrierTimer s [.lat, .out] fun t =>
      (t.lat.release.map fun (r : Release) => (r.partialRel, r.fsf)) = some (false, nextSuper s / 1048576 % 2 ^ 48) ∧ t.lat.standing = Standing.joining) ∧
  (∀ s : State,
    s.lat.standing = .good →
    Does .firstBarrierTimer s [] fun t =>
      t = s) ∧
  (∀ (q : MciReq) (s : State),
    Serves 0x0603 (q.plen == 8) (reservedClear (mciParams q) [(0, 3), (3, 1), (4, 24), (28, 4), (32, 4)] && policyOk (policyOf (mciParams q))) q s →
    coordinator s = some (self s) →
    Does (.barrierPolicy q) s [.rings, .regs, .fw, .out, .lat] fun t =>
      t.lat.nextPolicy = some (policyOf (mciParams q)) ∧ t.lat.policy = s.lat.policy ∧ Answered 0x0603 q 0 0 0 0 s t)

/-- R519, R523, R525, R527 to R529, R533 to R536. q_cap is an open value, log entry 48. -/
def Obligations.PowerControl : Prop :=
  (∀ (m : PowerIn) (s : State),
    pmRuns s = true →
    Does (.pmControlPeriod m) s [.clk, .parts, .ctl, .hbm, .rings, .regs, .logs, .pm, .lat, .counters, .out] fun t =>
      t.pm.tctl = (tCtl s).getD 0 ∧ t.pm.p10us = m.p10us ∧ t.pm.p1ms = m.p1ms ∧ t.pm.p5ms = m.p5ms ∧ t.pm.pMin = m.pMin ∧ t.pm.capShort = decide (10 * capForce s < m.pMin) ∧
      (t.pm.capShort = true ∨ nonePlausible s = true ∨ 1648 < (tCtl s).getD 0 → t.pm.own = slowest) ∧ t.pm.qTh = s.pm.qTh ∧ (linkedOn s = false → s.pm.braked = false → settingAhead t = t.pm.own) ∧ (s.HostWf → counter t 0x0601 0 = counterAdd 0x0601 (counter s 0x0601 0) m.energy)) ∧
  (∀ (m : PowerIn) (s : State),
    pmRuns s = false →
    Does (.pmControlPeriod m) s [] fun t =>
      t = s) ∧
  (∀ s : State,
    pmRuns s = true →
    s.pm.braked = false →
    Does .pmThermalPeriod s [.pm] fun t =>
      t.pm = { s.pm with qTh := (if s.pm.tctl < 1488 then min 65536 (s.pm.qTh + 1024) else if s.pm.tctl ≤ 1520 then s.pm.qTh else if s.pm.tctl ≤ 1648 then max 8192 (s.pm.qTh - 64 * (s.pm.tctl - 1520).toNat) else 8192), qRamp := (if s.pm.brakeEnd = 0 ∨ s.pm.brakeEnd + 100000000 ≤ s.clk.wallPs then min 65536 ((if s.pm.rose = false ∧ slowerThan s.clk.setting (selectSetting s.pm.qRamp) = true then settingUnits s.clk.setting else s.pm.qRamp) + 4096) else (if s.pm.rose = false ∧ slowerThan s.clk.setting (selectSetting s.pm.qRamp) = true then settingUnits s.clk.setting else s.pm.qRamp)), rose := s.pm.rose || decide (s.pm.brakeEnd = 0 ∨ s.pm.brakeEnd + 100000000 ≤ s.clk.wallPs) }) ∧
  (∀ s : State,
    pmRuns s = true →
    s.pm.braked = true →
    Does .pmThermalPeriod s [.pm] fun t =>
      t.pm = { s.pm with qRamp := (if s.pm.rose = false ∧ slowerThan s.clk.setting (selectSetting s.pm.qRamp) = true then settingUnits s.clk.setting else s.pm.qRamp) }) ∧
  (∀ s : State,
    s.pins.pwrbrk = false →
    s.boot.pm ≠ .off →
    s.clk.stopped = false →
    pmRuns s = true →
    linkedOn s = false →
    Does .pwrbrkAssert s [.clk, .pins, .rings, .regs, .pm, .counters, .out] fun t =>
      t.pins = { s.pins with pwrbrk := true } ∧ t.pm = { s.pm with braked := true, counted := true, brakeStart := s.clk.wallPs } ∧ settingAhead t = slower s.pm.brakeReg (settingAhead s) ∧ t.regs.pwrAttn = s.regs.pwrAttn ||| 1 ∧ (s.HostWf → counter t 0x0602 0 = counterAdd 0x0602 (counter s 0x0602 0) 1)) ∧
  (∀ s : State,
    s.pins.pwrbrk = false →
    s.boot.pm ≠ .off →
    s.clk.stopped = false →
    pmRuns s = true →
    linkedOn s = true →
    Does .pwrbrkAssert s [.clk, .pins, .rings, .regs, .pm, .lat, .counters, .out] fun t =>
      t.pins = { s.pins with pwrbrk := true } ∧ t.pm = { s.pm with braked := true, counted := true, brakeStart := s.clk.wallPs, cause := some s.pm.brakeReg, alone := true } ∧ settingAhead t = slower s.pm.brakeReg (settingAhead s) ∧ t.lat = { s.lat with locked := false, unlockedNote := true }) ∧
  (∀ s : State,
    s.pins.pwrbrk = false →
    s.boot.pm ≠ .off →
    s.clk.stopped = false →
    pmRuns s = false →
    linkedOn s = false →
    Does .pwrbrkAssert s [.clk, .pins, .pm] fun t =>
      t.pins = { s.pins with pwrbrk := true } ∧ t.pm = { s.pm with braked := true } ∧ settingAhead t = slower s.pm.brakeReg (settingAhead s)) ∧
  (∀ s : State,
    s.pins.pwrbrk = false →
    s.boot.pm ≠ .off →
    s.clk.stopped = true →
    Does .pwrbrkAssert s [.pins] fun t =>
      t.pins = { s.pins with pwrbrk := true }) ∧
  (∀ s : State,
    s.pins.pwrbrk = true →
    Does .pwrbrkAssert s [] fun t =>
      t = s) ∧
  (∀ s : State,
    s.pins.pwrbrk = true →
    s.pm.counted = true →
    Does .pwrbrkDeassert s [.pins, .pm, .counters] fun t =>
      t.pins = { s.pins with pwrbrk := false } ∧ t.pm = { s.pm with braked := false, counted := false, brakeEnd := s.clk.wallPs, brakeRest := (s.clk.wallPs - s.pm.brakeStart + s.pm.brakeRest) % 1000000, brakeShort := false } ∧ (s.HostWf → counter t 0x0603 0 = counterAdd 0x0603 (counter s 0x0603 0) ((s.clk.wallPs - s.pm.brakeStart + s.pm.brakeRest) / 1000000))) ∧
  (∀ s : State,
    s.pins.pwrbrk = true →
    s.pm.counted = false →
    Does .pwrbrkDeassert s [.pins, .pm] fun t =>
      t.pins = { s.pins with pwrbrk := false } ∧ t.pm = { s.pm with braked := false, brakeEnd := s.clk.wallPs, brakeShort := false }) ∧
  (∀ (n : Nat) (s : State),
    n < 16 →
    (tileAt s n).vddt = true →
    Tab.get 0 s.pm.overLast n = 0 →
    s.ctl.faultQ.length < 256 →
    s.HostWf →
    Does (.tileOvercurrent n) s [.ctl, .pm, .counters] fun t =>
      counter t 0x0604 n = counterAdd 0x0604 (counter s 0x0604 n) 1 ∧ t.ctl.faultQ = s.ctl.faultQ ++ [(⟨0x1007, 0, n, none, pmEndpoint, 0⟩ : FaultPkt)] ∧ t.pm = { s.pm with overLast := Tab.set 0 s.pm.overLast n (s.clk.wallPs + 1) }) ∧
  (∀ (n : Nat) (s : State),
    n < 16 →
    (tileAt s n).vddt = true →
    Tab.get 0 s.pm.overLast n ≠ 0 →
    s.clk.wallPs + 1 < Tab.get 0 s.pm.overLast n + 1000000000000 →
    s.HostWf →
    Does (.tileOvercurrent n) s [.counters] fun t =>
      counter t 0x0604 n = counterAdd 0x0604 (counter s 0x0604 n) 1) ∧
  (∀ (n : Nat) (s : State),
    n < 16 →
    (tileAt s n).vddt = true →
    Tab.wf Tile.reset s.tiles.tile = true →
    Tab.wf 2 s.fmap.pendCluster = true →
    Does (.tileShutdown n) s [.ctl, .fmap, .tiles, .rings, .regs, .logs, .pm, .counters, .out] fun t =>
      tileAt t n = { tileAt s n with step := .off, trst := false, vddt := false, vddtReached := false } ∧ (∀ c, c < 1024 → Tab.get 2 t.fmap.pendCluster (cellRouter n c) = 0) ∧ t.pm.shut.contains n = true ∧ t.fmap.deadRouters = s.fmap.deadRouters) ∧
  (∀ (n : Nat) (s : State),
    (tileAt s n).vddt = false →
    Does (.tileShutdown n) s [] fun t =>
      t = s)

/-- R520 to R522, R529 to R531, R539 to R542, R545, R546, R558. -/
def Obligations.SensorsIdleAndQueries : Prop :=
  (∀ (n : Nat) (raw : BitVec 16) (s : State),
    n < 128 →
    s.boot.pm ≠ .off →
    injectHits s 7 n = false →
    Tab.wf Sensor.reset s.pm.sensors = true →
    Does (.sensorSample n raw) s [.pins, .boot, .ctl, .pm] fun t =>
      (sensorOf t n).raw = raw ∧ (sensorOf t n).sampled = true ∧ (sensorOf t n).hot = (if rangeFails raw = false ∧ 1760 ≤ raw.toInt then (sensorOf s n).hot + 1 else 0) ∧ ((sensorOf s n).status = 5 → (sensorOf t n).status = 5) ∧ (pmRuns s = true → (sensorOf s n).status = 0 → rangeFails raw = true → (sensorOf t n).status = (if 8 ≤ min 15 ((sensorOf s n).exclusions + 1) then 5 else 1) ∧ (sensorOf t n).exclusions = min 15 ((sensorOf s n).exclusions + 1))) ∧
  (∀ (n : Nat) (raw : BitVec 16) (s : State),
    n < 128 →
    s.boot.pm ≠ .off →
    injectHits s 7 n = true →
    Tab.wf Sensor.reset s.pm.sensors = true →
    Does (.sensorSample n raw) s [.pins, .boot, .ctl, .regs, .pm] fun t =>
      (sensorOf t n).raw = 0x8000 ∧ t.regs = { s.regs with dbgPending := false, dbgCount := s.regs.dbgCount + 1 }) ∧
  (∀ (n : Nat) (raw : BitVec 16) (s : State),
    s.boot.pm = .off →
    Does (.sensorSample n raw) s [] fun t =>
      t = s) ∧
  (∀ (k n : Nat) (s : State),
    k < 4 →
    pmRuns s = true →
    nextIdle s k = some n →
    exitFits s k n = true →
    s.PlaneWf →
    Tab.wf Stack.reset s.hbm.stack = true →
    Does (.idleStateEntry k) s [.parts, .hbm, .tiles, .out] fun t =>
      part t k = { part s k with idleState := n, idleFrames := 0 } ∧ OnlyPart k s t ∧ (n = 1 → ∀ i ∈ (rect s k).tiles, (tileAt t i).gated = true) ∧ (n ≠ 1 → t.tiles = s.tiles) ∧ (n ≠ 3 → t.hbm = s.hbm) ∧ (n = 3 → ∀ j ∈ (partStacks s k).filter (refreshable s), (stackOf t j).selfRefresh = true)) ∧
  (∀ (k : Nat) (s : State),
    nextIdle s k = none →
    Does (.idleStateEntry k) s [] fun t =>
      t = s) ∧
  (∀ (k n : Nat) (s : State),
    nextIdle s k = some n →
    exitFits s k n = false →
    Does (.idleStateEntry k) s [] fun t =>
      t = s) ∧
  (∀ (k : Nat) (s : State),
    exitOver s k = true →
    s.PlaneWf →
    Does (.idleExitComplete k) s [.parts, .tiles] fun t =>
      part t k = { part s k with idleState := 0, idleFrames := 0, exiting := false } ∧ OnlyPart k s t ∧ (∀ i ∈ (rect s k).tiles, (tileAt t i).gated = false)) ∧
  (∀ (k : Nat) (s : State),
    (part s k).exiting = false →
    Does (.idleExitComplete k) s [] fun t =>
      t = s) ∧
  (∀ (q : MciReq) (s : State),
    Serves 0x0801 (q.plen == 8) (reservedClear (mciParams q) [(0, 11), (16, 3)] && (decide (500 ≤ bits (mciParams q) 0 11) && decide (bits (mciParams q) 0 11 ≤ 1500))) q s →
    Does (.powerCapSet q) s [.rings, .regs, .fw, .out, .pm] fun t =>
      t.pm = { s.pm with cap := bits (mciParams q) 0 11, laneSleep := bit1 (mciParams q) 17, poolSr := bit1 (mciParams q) 18, stored := (if bit1 (mciParams q) 16 then some (bits (mciParams q) 0 11, bit1 (mciParams q) 17, bit1 (mciParams q) 18) else s.pm.stored), capChanges := s.pm.capChanges ++ [(s.clk.wallPs + 1000000000, s.pm.cap)] } ∧ Answered 0x0801 q 0 0 0 0 s t) ∧
  (∀ (q : MciReq) (s : State),
    Serves 0x0802 (q.plen == 0) (reservedClear (mciParams q) [] && true) q s →
    Does (.powerQuery q) s [.rings, .regs, .fw, .out] fun t =>
      Answered 0x0802 q 0 0 48 (powerView s) s t ∧ t.fw = { s.fw with outstanding := t.fw.outstanding }) ∧
  (∀ (q : MciReq) (s : State),
    Serves 0x0803 (q.plen == 8) (reservedClear (mciParams q) [(0, 32)] && true) q s →
    s.HostWf →
    Does (.wakeLatencySet q) s [.rings, .regs, .fw, .out] fun t =>
      fnOf t (fnOfWho q.who) = { fnOf s (fnOfWho q.who) with wake := BitVec.ofNat 32 (bits (mciParams q) 0 32) } ∧ (∀ f, f < 65 → f ≠ fnOfWho q.who → fnOf t f = fnOf s f) ∧ Answered 0x0803 q 0 0 0 0 s t) ∧
  (∀ (q : MciReq) (s : State),
    Serves 0x0804 (q.plen == 8) (reservedClear (mciParams q) [(0, 2), (4, 4)] && (bits (mciParams q) 0 2 != 3)) q s →
    Does (.sensorQuery q) s [.rings, .regs, .fw, .out] fun t =>
      (let keys : List Nat := if bits (mciParams q) 0 2 = 0 then rangeFrom 0 128 else if bits (mciParams q) 0 2 = 1 then rangeFrom (256 + 8 * bits (mciParams q) 4 4) 8 else rangeFrom 512 8
       Answered 0x0804 q 0 0 (8 * keys.length) (packFields 64 (fun (i : Nat) => sensorEntry s (keys[i]?.getD 0)) keys.length) s t) ∧ t.pm = s.pm)

/-- R20: which routers are the rim of which stack. The port that a stack takes is the one with no neighbour. -/
def Obligations.RimRouters : Prop :=
  (∀ x y k, x < 128 → y < 128 → k < 8 →
    (edgeAttachment (routerAt x y) = some (hbmAttachment k) ↔
      (k < 4 ∧ y = 0 ∧ 32 * k ≤ x ∧ x ≤ 32 * k + 31) ∨
      (4 ≤ k ∧ y = 127 ∧ 32 * (k - 4) ≤ x ∧ x ≤ 32 * (k - 4) + 31))) ∧
  (∀ x, x < 128 → neighbour (routerAt x 0) portN = none ∧ neighbour (routerAt x 127) portS = none) ∧
  (∀ k, k < 8 → (attachmentRouters (hbmAttachment k)).length = 32 ∧ (attachmentRouters (hbmAttachment k)).Nodup ∧
    ∀ r ∈ attachmentRouters (hbmAttachment k), edgeAttachment r = some (hbmAttachment k))

/-- R655, with Table 17.4 for what the reset of the whole module is. -/
def Obligations.Perst1AndPerst : Prop :=
  (∀ s : State,
    s.pins.standby = true →
    s.pins.perst = true →
    s.pins.perst1 = true →
    Does .perst1Deassert s [.pins] fun t =>
      t = { s with pins := { s.pins with perst1 := false } }) ∧
  (∀ s : State,
    s.pins.standby = true →
    s.pins.perst = false →
    s.pins.perst1 = false →
    Does .perstAssert s [.clk, .pins, .boot, .parts, .layout, .layoutPend, .slots, .buf, .comp, .ctl, .fmap, .hbm, .dense, .tiles, .rings, .regs, .logs, .win, .lanes, .fw, .pm, .lat, .pool, .counters, .out] fun t =>
      t.boot.linkUp1 = false ∧ (∀ r, r < 4 → ringOf t 64 r = Ring.reset) ∧ fnOf t 64 = Fn.reset ∧ winTable t 64 = WinTable.empty ∧
      t.boot.linkUp0 = false ∧ t.boot.ready = false ∧ t.boot.mp = MpState.off ∧ t.clk.stopped = true ∧ t.parts = [] ∧ t.layout = [] ∧ t.slots = [] ∧ t.rings = Rings.reset ∧ t.regs = Regs.reset ∧ t.win = Windows.reset ∧ t.tiles = Tiles.reset ∧ t.pins.perst1 = false)

/-- R539: the operand, its reserved bits, the function it acts on, and the resets after which it is 0. -/
def Obligations.WakeLatency : Prop :=
  (∀ (q : MciReq) (s : State),
    mciServed s q.who = true →
    mciRefusal s 0x0803 true true q = none →
    q.plen = 8 →
    bits (mciParams q) 32 32 = 0 →
    s.HostWf →
    Does (.wakeLatencySet q) s [.rings, .regs, .fw, .out] fun t =>
      fnOf t (fnOfWho q.who) = { fnOf s (fnOfWho q.who) with wake := BitVec.ofNat 32 (bits (mciParams q) 0 32) } ∧ (∀ f, f < 65 → f ≠ fnOfWho q.who → fnOf t f = fnOf s f) ∧ Answered 0x0803 q 0 0 0 0 s t) ∧
  (∀ (q : MciReq) (s : State),
    mciServed s q.who = true →
    mciRefusal s 0x0803 true true q = none →
    q.plen = 8 →
    bits (mciParams q) 32 32 ≠ 0 →
    Does (.wakeLatencySet q) s [.rings, .regs, .fw, .out] fun t =>
      (∀ f, f < 65 → (fnOf t f).wake = (fnOf s f).wake) ∧ Answered 0x0803 q 2 0 0 0 s t) ∧
  (∀ (fn : Nat) (s : State),
    fn ≤ 64 →
    s.HostWf →
    Does (.functionLevelReset fn) s [.boot, .rings, .regs, .parts] fun t =>
      (fnOf t fn).wake = 0 ∧ (fn ≠ 0 → ∀ f, f < 65 → f ≠ fn → fnOf t f = fnOf s f)) ∧
  (∀ (q : MciReq) (s : State),
    mciServed s q.who = true →
    mciRefusal s 0x0A01 true true q = none →
    q.plen = 8 →
    (mciParams q) = 1 →
    Does (.moduleReset q) s [.clk, .pins, .boot, .parts, .layout, .layoutPend, .slots, .buf, .comp, .ctl, .fmap, .hbm, .dense, .tiles, .rings, .regs, .logs, .win, .lanes, .fw, .pm, .lat, .pool, .counters, .out] fun t =>
      t.boot.nextCold = true ∧ ∀ f, f < 65 → (fnOf t f).wake = 0) ∧
  (∀ s : State,
    s.pins.standby = true →
    s.pins.perst = false →
    Does .perstAssert s [.clk, .pins, .boot, .parts, .layout, .layoutPend, .slots, .buf, .comp, .ctl, .fmap, .hbm, .dense, .tiles, .rings, .regs, .logs, .win, .lanes, .fw, .pm, .lat, .pool, .counters, .out] fun t =>
      ∀ f, f < 65 → (fnOf t f).wake = 0) ∧
  (∀ (p : BitVec 5) (d : BitVec 8) (s : State),
    s.pins.perst = true →
    canStart s = true →
    Does (.perstDeassert p d) s [.clk, .boot, .pins, .lanes, .pm, .hbm, .pool, .fmap, .lat, .fw, .counters, .logs] fun t =>
      t.rings = s.rings)

/-- The queue is first in, first out. That an empty queue lets the clocks go on is the model's choice, log entry 1. -/
def Obligations.StepRunsFront : Prop :=
  (∀ (c : Instr) (rest : List Instr) (s : State), step { s with pending := c :: rest } = exec c { s with pending := rest }) ∧
  (∀ s : State, s.pending = [] → ∃ t, step s = .next t ∧ t.pending = [])

/-- What the spec gives for the reset; TabsWf and MemWf are the forms that StepKeepsTables and StepKeepsMemory keep. -/
def Obligations.ResetState : Prop :=
  State.reset.pending = [] ∧ State.reset.out = [] ∧ State.reset.MemWf ∧ State.reset.LinesHeld ∧ State.reset.TabsWf ∧
  (∀ f, (fnOf State.reset f).cls = 4 ∧ (fnOf State.reset f).wake = 0 ∧ winTable State.reset f = WinTable.empty) ∧
  (∀ f r, (ringOf State.reset f r).regs.enabled = false ∧ (ringOf State.reset f r).epoch = 0 ∧ (ringOf State.reset f r).weight = 16) ∧
  (∀ k, (part State.reset k).run = none) ∧ State.reset.slots = [] ∧ State.reset.win.gen = 1 ∧
  State.reset.fw.allowUnsigned = false ∧ State.reset.pm.cap = 1200 ∧ State.reset.pins.perst = true ∧
  State.reset.clk.tick = 0 ∧ State.reset.logs.entries = [] ∧ State.reset.boot.nextCold = true

/-- Equal contents stay equal data under every command and under the idle step. -/
def Obligations.StepKeepsMemory : Prop :=
  ∀ s t : State, step s = .next t → s.MemWf → t.MemWf ∧ (s.LinesHeld → t.LinesHeld)

/-- The premises HostWf, PlaneWf, UnitWf and SliceWf of other statements are parts of this invariant. -/
def Obligations.StepKeepsTables : Prop :=
  ∀ s t : State, step s = .next t → s.TabsWf → t.TabsWf

/-- No command is refused and none faults, whatever its operands and the state. -/
def Obligations.StepAnswers : Prop :=
  ∀ s : State, ∃ t, step s = .next t ∧ t.pending = s.pending.drop 1 ∧ s.out <+: t.out ∧ s.clk.wallPs ≤ t.clk.wallPs

/-- A whole-machine frame: the lists of Safety name every command with such an effect. -/
def Obligations.OnlyTheseStore : Prop :=
  ∀ (c : Instr) (s t : State), exec c s = .next t →
    (mayStoreBuffer c = false → t.buf.mem = s.buf.mem) ∧
    (mayStoreHbm c = false → t.hbm.mem = s.hbm.mem) ∧
    (mayChangeLines c = false → t.dense.lines = s.dense.lines) ∧
    (maySwitchWindows c = false → t.win.inForce = s.win.inForce) ∧
    (maySwitchLayout c = false → t.layout = s.layout)
end

