-- ==== Sys2Proof/Laws/Tab.lean ====
section
/-! SUPPORT. Reading a sparse table after a write, and the canonical form of tables: every operation of Tab keeps it. -/

namespace Sys2Proof.Machine

variable {α : Type}

@[simp] theorem Tab.get_nil (d : α) (i : Nat) : Tab.get d [] i = d := rfl

theorem Tab.get_cons (d : α) (k : Nat) (v : α) (m : Tab α) (i : Nat) :
    Tab.get d ((k, v) :: m) i = if k = i then v else Tab.get d m i := rfl

section
variable [DecidableEq α]

@[simp] theorem Tab.wf_nil (d : α) : Tab.wf d [] = true := rfl

theorem Tab.wfFrom_cons {d : α} {lo k : Nat} {v : α} {m : Tab α} :
    Tab.wfFrom d lo ((k, v) :: m) = true ↔ lo ≤ k ∧ v ≠ d ∧ Tab.wfFrom d (k + 1) m = true := by
  simp [Tab.wfFrom, and_assoc]

/-- A lower bound of the keys may be lowered. -/
theorem Tab.wfFrom_mono {d : α} {lo hi : Nat} {m : Tab α} (h : Tab.wfFrom d hi m = true) (le : lo ≤ hi) :
    Tab.wfFrom d lo m = true := by
  cases m with
  | nil => rfl
  | cons e m =>
    obtain ⟨k, v⟩ := e
    rw [Tab.wfFrom_cons] at h ⊢
    exact ⟨Nat.le_trans le h.1, h.2⟩

/-- A key below every key of a canonical table reads as unlisted. -/
theorem Tab.get_below {d : α} {lo i : Nat} {m : Tab α} (h : Tab.wfFrom d lo m = true) (lt : i < lo) : Tab.get d m i = d := by
  induction m generalizing lo with
  | nil => rfl
  | cons e m ih =>
    obtain ⟨k, v⟩ := e
    rw [Tab.wfFrom_cons] at h
    rw [Tab.get_cons, if_neg (by omega)]
    exact ih h.2.2 (by omega)

/-- A write keeps the canonical form above a bound that the key respects. -/
theorem Tab.wfFrom_set {d : α} {lo i : Nat} {m : Tab α} (v : α) (h : Tab.wfFrom d lo m = true) (le : lo ≤ i) :
    Tab.wfFrom d lo (Tab.set d m i v) = true := by
  induction m generalizing lo with
  | nil =>
    unfold Tab.set
    split
    · rfl
    · simp_all [Tab.wfFrom]
  | cons e m ih =>
    obtain ⟨k, w⟩ := e
    have h0 := h
    rw [Tab.wfFrom_cons] at h
    unfold Tab.set
    split
    · split
      · exact h0
      · rw [Tab.wfFrom_cons, Tab.wfFrom_cons]
        exact ⟨le, by assumption, by omega, h.2.1, h.2.2⟩
    · split
      · split
        · exact Tab.wfFrom_mono h.2.2 (by omega)
        · rw [Tab.wfFrom_cons]
          rename_i e1 ne
          exact ⟨le, ne, e1 ▸ h.2.2⟩
      · rw [Tab.wfFrom_cons]
        exact ⟨h.1, h.2.1, ih h.2.2 (by omega)⟩

/-- A write keeps the canonical form. -/
theorem Tab.wf_set {d : α} {m : Tab α} (i : Nat) (v : α) (h : Tab.wf d m = true) : Tab.wf d (Tab.set d m i v) = true :=
  Tab.wfFrom_set v h (Nat.zero_le _)

theorem Tab.wf_upd {d : α} {m : Tab α} (i : Nat) (f : α → α) (h : Tab.wf d m = true) : Tab.wf d (Tab.upd d m i f) = true :=
  Tab.wf_set i _ h

theorem Tab.wf_updAll {d : α} {m : Tab α} (l : List Nat) (f : Nat → α → α) (h : Tab.wf d m = true) :
    Tab.wf d (Tab.updAll d m l f) = true := by
  induction l generalizing m with
  | nil => exact h
  | cons i l ih => exact ih (Tab.wf_upd i _ h)

theorem Tab.wfFrom_filter {d : α} {lo : Nat} {m : Tab α} (p : Nat × α → Bool) (h : Tab.wfFrom d lo m = true) :
    Tab.wfFrom d lo (m.filter p) = true := by
  induction m generalizing lo with
  | nil => rfl
  | cons e m ih =>
    obtain ⟨k, v⟩ := e
    rw [Tab.wfFrom_cons] at h
    rw [List.filter_cons]
    split
    · rw [Tab.wfFrom_cons]
      exact ⟨h.1, h.2.1, ih h.2.2⟩
    · exact Tab.wfFrom_mono (ih h.2.2) (by omega)

/-- Dropping entries keeps the canonical form. -/
theorem Tab.wf_filter {d : α} {m : Tab α} (p : Nat × α → Bool) (h : Tab.wf d m = true) : Tab.wf d (m.filter p) = true :=
  Tab.wfFrom_filter p h

/-- The key just written reads as its new value, in a canonical table. -/
theorem Tab.wfFrom_get_set {d : α} {lo : Nat} {m : Tab α} (i : Nat) (v : α) (h : Tab.wfFrom d lo m = true) :
    Tab.get d (Tab.set d m i v) i = v := by
  induction m generalizing lo with
  | nil =>
    unfold Tab.set
    split
    · simp_all
    · simp [Tab.get]
  | cons e m ih =>
    obtain ⟨k, w⟩ := e
    rw [Tab.wfFrom_cons] at h
    unfold Tab.set
    split
    · split
      · rename_i lt e1
        rw [Tab.get_cons, if_neg (by omega), Tab.get_below h.2.2 (by omega), e1]
      · simp [Tab.get]
    · split
      · split
        · rename_i e1 e2
          rw [Tab.get_below h.2.2 (by omega), e2]
        · simp [Tab.get]
      · rw [Tab.get_cons, if_neg (by omega)]
        exact ih h.2.2

@[simp] theorem Tab.get_set {d : α} {m : Tab α} (i : Nat) (v : α) (h : Tab.wf d m = true) : Tab.get d (Tab.set d m i v) i = v :=
  Tab.wfFrom_get_set i v h

/-- Every other key reads as before. -/
theorem Tab.get_set_ne {d : α} {m : Tab α} {i j : Nat} (v : α) (ne : j ≠ i) : Tab.get d (Tab.set d m i v) j = Tab.get d m j := by
  induction m with
  | nil =>
    unfold Tab.set
    split
    · rfl
    · simp [Tab.get, Ne.symm ne]
  | cons e m ih =>
    obtain ⟨k, w⟩ := e
    unfold Tab.set
    split
    · split
      · rfl
      · rw [Tab.get_cons, if_neg (Ne.symm ne)]
    · split
      · rename_i e1
        split
        · rw [Tab.get_cons, if_neg (by omega)]
        · rw [Tab.get_cons, Tab.get_cons, if_neg (Ne.symm ne), if_neg (by omega)]
      · rw [Tab.get_cons, Tab.get_cons, ih]

@[simp] theorem Tab.get_upd {d : α} {m : Tab α} (i : Nat) (f : α → α) (h : Tab.wf d m = true) :
    Tab.get d (Tab.upd d m i f) i = f (Tab.get d m i) :=
  Tab.get_set i _ h

theorem Tab.get_upd_ne {d : α} {m : Tab α} {i j : Nat} (f : α → α) (ne : j ≠ i) :
    Tab.get d (Tab.upd d m i f) j = Tab.get d m j :=
  Tab.get_set_ne _ ne

/-- A key outside the list reads as before. -/
theorem Tab.get_updAll_ne {d : α} {m : Tab α} {j : Nat} (l : List Nat) (f : Nat → α → α) (ne : j ∉ l) :
    Tab.get d (Tab.updAll d m l f) j = Tab.get d m j := by
  induction l generalizing m with
  | nil => rfl
  | cons i l ih =>
    rw [List.mem_cons, not_or] at ne
    exact (ih ne.2).trans (Tab.get_upd_ne _ ne.1)

/-- A key that the list names once is changed once. -/
theorem Tab.get_updAll {d : α} {m : Tab α} {j : Nat} (l : List Nat) (f : Nat → α → α) (h : Tab.wf d m = true) (nd : l.Nodup)
    (hj : j ∈ l) : Tab.get d (Tab.updAll d m l f) j = f j (Tab.get d m j) := by
  induction l generalizing m with
  | nil => simp at hj
  | cons i l ih =>
    rw [List.nodup_cons] at nd
    rw [Tab.updAll]
    by_cases e : j = i
    · subst e
      rw [Tab.get_updAll_ne _ _ nd.1, Tab.get_upd _ _ h]
    · rw [List.mem_cons] at hj
      rw [ih (Tab.wf_upd _ _ h) nd.2 (hj.resolve_left e), Tab.get_upd_ne _ e]

end

end Sys2Proof.Machine
end

