-- ==== Sys2Proof/Laws/Memory.lean ====
section
/-! SUPPORT. Byte memory: a read after a write, and the canonical form, which every memory operation keeps. -/

namespace Sys2Proof.Machine

/-- Writing a byte keeps the canonical form. -/
theorem Memory.wf_put {m : Memory} (a : Nat) (b : Byte) (h : Memory.wf m = true) : Memory.wf (Memory.put m a b) = true :=
  Tab.wf_set a b h

@[simp] theorem Memory.byte_put {m : Memory} (a : Nat) (b : Byte) (h : Memory.wf m = true) :
    Memory.byte (Memory.put m a b) a = b :=
  Tab.get_set a b h

theorem Memory.byte_put_ne {m : Memory} {a c : Nat} (b : Byte) (ne : c ≠ a) :
    Memory.byte (Memory.put m a b) c = Memory.byte m c :=
  Tab.get_set_ne b ne

/-- Writing bytes under a mask keeps the canonical form. -/
theorem Memory.wf_writeN {m : Memory} (a v mask n : Nat) (h : Memory.wf m = true) :
    Memory.wf (Memory.writeN m a v mask n) = true := by
  induction n generalizing m a v mask with
  | zero => exact h
  | succ n ih =>
    unfold Memory.writeN
    refine ih _ _ _ ?_
    split
    · exact Memory.wf_put _ _ h
    · exact h

/-- Writing a line under a mask keeps the canonical form. -/
theorem Memory.wf_setLine {m : Memory} (a : Nat) (d : LineData) (mask : LineMask) (h : Memory.wf m = true) :
    Memory.wf (Memory.setLine m a d mask) = true :=
  Memory.wf_writeN _ _ _ _ h

/-- Dropping entries keeps the canonical form. -/
theorem Memory.wf_filter {m : Memory} (p : Host.Cell → Bool) (h : Memory.wf m = true) : Memory.wf (m.filter p) = true :=
  Tab.wf_filter p h

/-- Bytes outside the written range read as before. -/
theorem Memory.byte_writeN_outside {m : Memory} {a c : Nat} (v mask n : Nat) (h : c < a ∨ a + n ≤ c) :
    Memory.byte (Memory.writeN m a v mask n) c = Memory.byte m c := by
  induction n generalizing m a v mask with
  | zero => rfl
  | succ n ih =>
    unfold Memory.writeN
    rw [ih _ _ (by omega)]
    split
    · exact Memory.byte_put_ne _ (by omega)
    · rfl

/-- Byte i of the written range is byte i of the value where the mask says so, and as before elsewhere. -/
theorem Memory.byte_writeN {m : Memory} (a v mask n i : Nat) (h : Memory.wf m = true) (lt : i < n) :
    Memory.byte (Memory.writeN m a v mask n) (a + i) =
      if mask / 2 ^ i % 2 = 1 then BitVec.ofNat 8 (v / 256 ^ i) else Memory.byte m (a + i) := by
  induction n generalizing m a v mask i with
  | zero => omega
  | succ n ih =>
    unfold Memory.writeN
    cases i with
    | zero =>
      rw [Memory.byte_writeN_outside _ _ _ (by omega)]
      simp only [Nat.add_zero, Nat.pow_zero, Nat.div_one]
      split
      · exact Memory.byte_put _ _ h
      · rfl
    | succ i =>
      have e : a + (i + 1) = a + 1 + i := by omega
      rw [e, ih (a + 1) (v / 256) (mask / 2) i _ (by omega)]
      · rw [Nat.div_div_eq_div_mul, Nat.div_div_eq_div_mul, ← Nat.pow_succ', ← Nat.pow_succ']
        congr 1
        split
        · exact Memory.byte_put_ne _ (by omega)
        · rfl
      · split
        · exact Memory.wf_put _ _ h
        · exact h

/-- Bytes outside a written line read as before. -/
theorem Memory.byte_setLine_outside {m : Memory} {a c : Nat} (d : LineData) (mask : LineMask) (h : c < a ∨ a + 64 ≤ c) :
    Memory.byte (Memory.setLine m a d mask) c = Memory.byte m c :=
  Memory.byte_writeN_outside _ _ _ h

end Sys2Proof.Machine
end

