-- ==== Sys2Proof/Laws/State.lean ====
section
/-! SUPPORT. What each named update of the state leaves alone, field by field (true by rfl), and what a reader sees after the
update of what it reads. -/

namespace Sys2Proof.Machine

@[simp] theorem emit_keeps (o : Output) (s : State) :
    (emit o s).clk = s.clk ∧ (emit o s).pins = s.pins ∧ (emit o s).boot = s.boot ∧ (emit o s).parts = s.parts ∧
    (emit o s).layout = s.layout ∧ (emit o s).layoutPend = s.layoutPend ∧ (emit o s).slots = s.slots ∧
    (emit o s).buf = s.buf ∧ (emit o s).comp = s.comp ∧ (emit o s).ctl = s.ctl ∧ (emit o s).fmap = s.fmap ∧
    (emit o s).hbm = s.hbm ∧ (emit o s).dense = s.dense ∧ (emit o s).tiles = s.tiles ∧ (emit o s).rings = s.rings ∧
    (emit o s).regs = s.regs ∧ (emit o s).logs = s.logs ∧ (emit o s).win = s.win ∧ (emit o s).lanes = s.lanes ∧
    (emit o s).fw = s.fw ∧ (emit o s).pm = s.pm ∧ (emit o s).lat = s.lat ∧ (emit o s).pool = s.pool ∧
    (emit o s).counters = s.counters ∧ (emit o s).free = s.free ∧ (emit o s).pending = s.pending :=
  ⟨rfl, rfl, rfl, rfl, rfl, rfl, rfl, rfl, rfl, rfl, rfl, rfl, rfl, rfl, rfl, rfl, rfl, rfl, rfl, rfl, rfl, rfl, rfl, rfl, rfl, rfl⟩

@[simp] theorem emitAll_keeps (os : List Output) (s : State) :
    (emitAll os s).clk = s.clk ∧ (emitAll os s).pins = s.pins ∧ (emitAll os s).boot = s.boot ∧
    (emitAll os s).parts = s.parts ∧ (emitAll os s).layout = s.layout ∧ (emitAll os s).layoutPend = s.layoutPend ∧
    (emitAll os s).slots = s.slots ∧ (emitAll os s).buf = s.buf ∧ (emitAll os s).comp = s.comp ∧
    (emitAll os s).ctl = s.ctl ∧ (emitAll os s).fmap = s.fmap ∧ (emitAll os s).hbm = s.hbm ∧
    (emitAll os s).dense = s.dense ∧ (emitAll os s).tiles = s.tiles ∧ (emitAll os s).rings = s.rings ∧
    (emitAll os s).regs = s.regs ∧ (emitAll os s).logs = s.logs ∧ (emitAll os s).win = s.win ∧
    (emitAll os s).lanes = s.lanes ∧ (emitAll os s).fw = s.fw ∧ (emitAll os s).pm = s.pm ∧
    (emitAll os s).lat = s.lat ∧ (emitAll os s).pool = s.pool ∧ (emitAll os s).counters = s.counters ∧
    (emitAll os s).free = s.free ∧ (emitAll os s).pending = s.pending :=
  ⟨rfl, rfl, rfl, rfl, rfl, rfl, rfl, rfl, rfl, rfl, rfl, rfl, rfl, rfl, rfl, rfl, rfl, rfl, rfl, rfl, rfl, rfl, rfl, rfl, rfl, rfl⟩

@[simp] theorem setPart_keeps (k : Nat) (p : Part) (s : State) :
    (setPart k p s).clk = s.clk ∧ (setPart k p s).pins = s.pins ∧ (setPart k p s).boot = s.boot ∧
    (setPart k p s).layout = s.layout ∧ (setPart k p s).layoutPend = s.layoutPend ∧ (setPart k p s).slots = s.slots ∧
    (setPart k p s).buf = s.buf ∧ (setPart k p s).comp = s.comp ∧ (setPart k p s).ctl = s.ctl ∧
    (setPart k p s).fmap = s.fmap ∧ (setPart k p s).hbm = s.hbm ∧ (setPart k p s).dense = s.dense ∧
    (setPart k p s).tiles = s.tiles ∧ (setPart k p s).rings = s.rings ∧ (setPart k p s).regs = s.regs ∧
    (setPart k p s).logs = s.logs ∧ (setPart k p s).win = s.win ∧ (setPart k p s).lanes = s.lanes ∧
    (setPart k p s).fw = s.fw ∧ (setPart k p s).pm = s.pm ∧ (setPart k p s).lat = s.lat ∧
    (setPart k p s).pool = s.pool ∧ (setPart k p s).counters = s.counters ∧ (setPart k p s).out = s.out ∧
    (setPart k p s).free = s.free ∧ (setPart k p s).pending = s.pending :=
  ⟨rfl, rfl, rfl, rfl, rfl, rfl, rfl, rfl, rfl, rfl, rfl, rfl, rfl, rfl, rfl, rfl, rfl, rfl, rfl, rfl, rfl, rfl, rfl, rfl, rfl, rfl⟩

@[simp] theorem updPart_keeps (k : Nat) (f : Part → Part) (s : State) :
    (updPart k f s).clk = s.clk ∧ (updPart k f s).pins = s.pins ∧ (updPart k f s).boot = s.boot ∧
    (updPart k f s).layout = s.layout ∧ (updPart k f s).layoutPend = s.layoutPend ∧ (updPart k f s).slots = s.slots ∧
    (updPart k f s).buf = s.buf ∧ (updPart k f s).comp = s.comp ∧ (updPart k f s).ctl = s.ctl ∧
    (updPart k f s).fmap = s.fmap ∧ (updPart k f s).hbm = s.hbm ∧ (updPart k f s).dense = s.dense ∧
    (updPart k f s).tiles = s.tiles ∧ (updPart k f s).rings = s.rings ∧ (updPart k f s).regs = s.regs ∧
    (updPart k f s).logs = s.logs ∧ (updPart k f s).win = s.win ∧ (updPart k f s).lanes = s.lanes ∧
    (updPart k f s).fw = s.fw ∧ (updPart k f s).pm = s.pm ∧ (updPart k f s).lat = s.lat ∧
    (updPart k f s).pool = s.pool ∧ (updPart k f s).counters = s.counters ∧ (updPart k f s).out = s.out ∧
    (updPart k f s).free = s.free ∧ (updPart k f s).pending = s.pending :=
  ⟨rfl, rfl, rfl, rfl, rfl, rfl, rfl, rfl, rfl, rfl, rfl, rfl, rfl, rfl, rfl, rfl, rfl, rfl, rfl, rfl, rfl, rfl, rfl, rfl, rfl, rfl⟩

@[simp] theorem updRun_keeps (k : Nat) (f : Run → Run) (s : State) :
    (updRun k f s).clk = s.clk ∧ (updRun k f s).pins = s.pins ∧ (updRun k f s).boot = s.boot ∧
    (updRun k f s).layout = s.layout ∧ (updRun k f s).layoutPend = s.layoutPend ∧ (updRun k f s).slots = s.slots ∧
    (updRun k f s).buf = s.buf ∧ (updRun k f s).comp = s.comp ∧ (updRun k f s).ctl = s.ctl ∧
    (updRun k f s).fmap = s.fmap ∧ (updRun k f s).hbm = s.hbm ∧ (updRun k f s).dense = s.dense ∧
    (updRun k f s).tiles = s.tiles ∧ (updRun k f s).rings = s.rings ∧ (updRun k f s).regs = s.regs ∧
    (updRun k f s).logs = s.logs ∧ (updRun k f s).win = s.win ∧ (updRun k f s).lanes = s.lanes ∧
    (updRun k f s).fw = s.fw ∧ (updRun k f s).pm = s.pm ∧ (updRun k f s).lat = s.lat ∧ (updRun k f s).pool = s.pool ∧
    (updRun k f s).counters = s.counters ∧ (updRun k f s).out = s.out ∧ (updRun k f s).free = s.free ∧
    (updRun k f s).pending = s.pending :=
  ⟨rfl, rfl, rfl, rfl, rfl, rfl, rfl, rfl, rfl, rfl, rfl, rfl, rfl, rfl, rfl, rfl, rfl, rfl, rfl, rfl, rfl, rfl, rfl, rfl, rfl, rfl⟩

@[simp] theorem updPipe_keeps (k : Nat) (f : Pipe → Pipe) (s : State) :
    (updPipe k f s).clk = s.clk ∧ (updPipe k f s).pins = s.pins ∧ (updPipe k f s).boot = s.boot ∧
    (updPipe k f s).layout = s.layout ∧ (updPipe k f s).layoutPend = s.layoutPend ∧ (updPipe k f s).slots = s.slots ∧
    (updPipe k f s).buf = s.buf ∧ (updPipe k f s).comp = s.comp ∧ (updPipe k f s).ctl = s.ctl ∧
    (updPipe k f s).fmap = s.fmap ∧ (updPipe k f s).hbm = s.hbm ∧ (updPipe k f s).dense = s.dense ∧
    (updPipe k f s).tiles = s.tiles ∧ (updPipe k f s).rings = s.rings ∧ (updPipe k f s).regs = s.regs ∧
    (updPipe k f s).logs = s.logs ∧ (updPipe k f s).win = s.win ∧ (updPipe k f s).lanes = s.lanes ∧
    (updPipe k f s).fw = s.fw ∧ (updPipe k f s).pm = s.pm ∧ (updPipe k f s).lat = s.lat ∧
    (updPipe k f s).pool = s.pool ∧ (updPipe k f s).counters = s.counters ∧ (updPipe k f s).out = s.out ∧
    (updPipe k f s).free = s.free ∧ (updPipe k f s).pending = s.pending :=
  ⟨rfl, rfl, rfl, rfl, rfl, rfl, rfl, rfl, rfl, rfl, rfl, rfl, rfl, rfl, rfl, rfl, rfl, rfl, rfl, rfl, rfl, rfl, rfl, rfl, rfl, rfl⟩

@[simp] theorem setSlot_keeps (k : Nat) (v : Slot) (s : State) :
    (setSlot k v s).clk = s.clk ∧ (setSlot k v s).pins = s.pins ∧ (setSlot k v s).boot = s.boot ∧
    (setSlot k v s).parts = s.parts ∧ (setSlot k v s).layout = s.layout ∧ (setSlot k v s).layoutPend = s.layoutPend ∧
    (setSlot k v s).buf = s.buf ∧ (setSlot k v s).comp = s.comp ∧ (setSlot k v s).ctl = s.ctl ∧
    (setSlot k v s).fmap = s.fmap ∧ (setSlot k v s).hbm = s.hbm ∧ (setSlot k v s).dense = s.dense ∧
    (setSlot k v s).tiles = s.tiles ∧ (setSlot k v s).rings = s.rings ∧ (setSlot k v s).regs = s.regs ∧
    (setSlot k v s).logs = s.logs ∧ (setSlot k v s).win = s.win ∧ (setSlot k v s).lanes = s.lanes ∧
    (setSlot k v s).fw = s.fw ∧ (setSlot k v s).pm = s.pm ∧ (setSlot k v s).lat = s.lat ∧
    (setSlot k v s).pool = s.pool ∧ (setSlot k v s).counters = s.counters ∧ (setSlot k v s).out = s.out ∧
    (setSlot k v s).free = s.free ∧ (setSlot k v s).pending = s.pending :=
  ⟨rfl, rfl, rfl, rfl, rfl, rfl, rfl, rfl, rfl, rfl, rfl, rfl, rfl, rfl, rfl, rfl, rfl, rfl, rfl, rfl, rfl, rfl, rfl, rfl, rfl, rfl⟩

@[simp] theorem updRing_keeps (fn r : Nat) (f : Ring → Ring) (s : State) :
    (updRing fn r f s).clk = s.clk ∧ (updRing fn r f s).pins = s.pins ∧ (updRing fn r f s).boot = s.boot ∧
    (updRing fn r f s).parts = s.parts ∧ (updRing fn r f s).layout = s.layout ∧
    (updRing fn r f s).layoutPend = s.layoutPend ∧ (updRing fn r f s).slots = s.slots ∧
    (updRing fn r f s).buf = s.buf ∧ (updRing fn r f s).comp = s.comp ∧ (updRing fn r f s).ctl = s.ctl ∧
    (updRing fn r f s).fmap = s.fmap ∧ (updRing fn r f s).hbm = s.hbm ∧ (updRing fn r f s).dense = s.dense ∧
    (updRing fn r f s).tiles = s.tiles ∧ (updRing fn r f s).regs = s.regs ∧ (updRing fn r f s).logs = s.logs ∧
    (updRing fn r f s).win = s.win ∧ (updRing fn r f s).lanes = s.lanes ∧ (updRing fn r f s).fw = s.fw ∧
    (updRing fn r f s).pm = s.pm ∧ (updRing fn r f s).lat = s.lat ∧ (updRing fn r f s).pool = s.pool ∧
    (updRing fn r f s).counters = s.counters ∧ (updRing fn r f s).out = s.out ∧ (updRing fn r f s).free = s.free ∧
    (updRing fn r f s).pending = s.pending :=
  ⟨rfl, rfl, rfl, rfl, rfl, rfl, rfl, rfl, rfl, rfl, rfl, rfl, rfl, rfl, rfl, rfl, rfl, rfl, rfl, rfl, rfl, rfl, rfl, rfl, rfl, rfl⟩

@[simp] theorem updFn_keeps (fn : Nat) (f : Fn → Fn) (s : State) :
    (updFn fn f s).clk = s.clk ∧ (updFn fn f s).pins = s.pins ∧ (updFn fn f s).boot = s.boot ∧
    (updFn fn f s).parts = s.parts ∧ (updFn fn f s).layout = s.layout ∧ (updFn fn f s).layoutPend = s.layoutPend ∧
    (updFn fn f s).slots = s.slots ∧ (updFn fn f s).buf = s.buf ∧ (updFn fn f s).comp = s.comp ∧
    (updFn fn f s).ctl = s.ctl ∧ (updFn fn f s).fmap = s.fmap ∧ (updFn fn f s).hbm = s.hbm ∧
    (updFn fn f s).dense = s.dense ∧ (updFn fn f s).tiles = s.tiles ∧ (updFn fn f s).regs = s.regs ∧
    (updFn fn f s).logs = s.logs ∧ (updFn fn f s).win = s.win ∧ (updFn fn f s).lanes = s.lanes ∧
    (updFn fn f s).fw = s.fw ∧ (updFn fn f s).pm = s.pm ∧ (updFn fn f s).lat = s.lat ∧ (updFn fn f s).pool = s.pool ∧
    (updFn fn f s).counters = s.counters ∧ (updFn fn f s).out = s.out ∧ (updFn fn f s).free = s.free ∧
    (updFn fn f s).pending = s.pending :=
  ⟨rfl, rfl, rfl, rfl, rfl, rfl, rfl, rfl, rfl, rfl, rfl, rfl, rfl, rfl, rfl, rfl, rfl, rfl, rfl, rfl, rfl, rfl, rfl, rfl, rfl, rfl⟩

@[simp] theorem updPc_keeps (n : Nat) (f : Pc → Pc) (s : State) :
    (updPc n f s).clk = s.clk ∧ (updPc n f s).pins = s.pins ∧ (updPc n f s).boot = s.boot ∧
    (updPc n f s).parts = s.parts ∧ (updPc n f s).layout = s.layout ∧ (updPc n f s).layoutPend = s.layoutPend ∧
    (updPc n f s).slots = s.slots ∧ (updPc n f s).buf = s.buf ∧ (updPc n f s).comp = s.comp ∧
    (updPc n f s).ctl = s.ctl ∧ (updPc n f s).fmap = s.fmap ∧ (updPc n f s).dense = s.dense ∧
    (updPc n f s).tiles = s.tiles ∧ (updPc n f s).rings = s.rings ∧ (updPc n f s).regs = s.regs ∧
    (updPc n f s).logs = s.logs ∧ (updPc n f s).win = s.win ∧ (updPc n f s).lanes = s.lanes ∧
    (updPc n f s).fw = s.fw ∧ (updPc n f s).pm = s.pm ∧ (updPc n f s).lat = s.lat ∧ (updPc n f s).pool = s.pool ∧
    (updPc n f s).counters = s.counters ∧ (updPc n f s).out = s.out ∧ (updPc n f s).free = s.free ∧
    (updPc n f s).pending = s.pending :=
  ⟨rfl, rfl, rfl, rfl, rfl, rfl, rfl, rfl, rfl, rfl, rfl, rfl, rfl, rfl, rfl, rfl, rfl, rfl, rfl, rfl, rfl, rfl, rfl, rfl, rfl, rfl⟩

@[simp] theorem updStack_keeps (k : Nat) (f : Stack → Stack) (s : State) :
    (updStack k f s).clk = s.clk ∧ (updStack k f s).pins = s.pins ∧ (updStack k f s).boot = s.boot ∧
    (updStack k f s).parts = s.parts ∧ (updStack k f s).layout = s.layout ∧
    (updStack k f s).layoutPend = s.layoutPend ∧ (updStack k f s).slots = s.slots ∧ (updStack k f s).buf = s.buf ∧
    (updStack k f s).comp = s.comp ∧ (updStack k f s).ctl = s.ctl ∧ (updStack k f s).fmap = s.fmap ∧
    (updStack k f s).dense = s.dense ∧ (updStack k f s).tiles = s.tiles ∧ (updStack k f s).rings = s.rings ∧
    (updStack k f s).regs = s.regs ∧ (updStack k f s).logs = s.logs ∧ (updStack k f s).win = s.win ∧
    (updStack k f s).lanes = s.lanes ∧ (updStack k f s).fw = s.fw ∧ (updStack k f s).pm = s.pm ∧
    (updStack k f s).lat = s.lat ∧ (updStack k f s).pool = s.pool ∧ (updStack k f s).counters = s.counters ∧
    (updStack k f s).out = s.out ∧ (updStack k f s).free = s.free ∧ (updStack k f s).pending = s.pending :=
  ⟨rfl, rfl, rfl, rfl, rfl, rfl, rfl, rfl, rfl, rfl, rfl, rfl, rfl, rfl, rfl, rfl, rfl, rfl, rfl, rfl, rfl, rfl, rfl, rfl, rfl, rfl⟩

@[simp] theorem updTile_keeps (t : Nat) (f : Tile → Tile) (s : State) :
    (updTile t f s).clk = s.clk ∧ (updTile t f s).pins = s.pins ∧ (updTile t f s).boot = s.boot ∧
    (updTile t f s).parts = s.parts ∧ (updTile t f s).layout = s.layout ∧ (updTile t f s).layoutPend = s.layoutPend ∧
    (updTile t f s).slots = s.slots ∧ (updTile t f s).buf = s.buf ∧ (updTile t f s).comp = s.comp ∧
    (updTile t f s).ctl = s.ctl ∧ (updTile t f s).fmap = s.fmap ∧ (updTile t f s).hbm = s.hbm ∧
    (updTile t f s).dense = s.dense ∧ (updTile t f s).rings = s.rings ∧ (updTile t f s).regs = s.regs ∧
    (updTile t f s).logs = s.logs ∧ (updTile t f s).win = s.win ∧ (updTile t f s).lanes = s.lanes ∧
    (updTile t f s).fw = s.fw ∧ (updTile t f s).pm = s.pm ∧ (updTile t f s).lat = s.lat ∧
    (updTile t f s).pool = s.pool ∧ (updTile t f s).counters = s.counters ∧ (updTile t f s).out = s.out ∧
    (updTile t f s).free = s.free ∧ (updTile t f s).pending = s.pending :=
  ⟨rfl, rfl, rfl, rfl, rfl, rfl, rfl, rfl, rfl, rfl, rfl, rfl, rfl, rfl, rfl, rfl, rfl, rfl, rfl, rfl, rfl, rfl, rfl, rfl, rfl, rfl⟩

@[simp] theorem setSensor_keeps (key : Nat) (z : Sensor) (s : State) :
    (setSensor key z s).clk = s.clk ∧ (setSensor key z s).pins = s.pins ∧ (setSensor key z s).boot = s.boot ∧
    (setSensor key z s).parts = s.parts ∧ (setSensor key z s).layout = s.layout ∧
    (setSensor key z s).layoutPend = s.layoutPend ∧ (setSensor key z s).slots = s.slots ∧
    (setSensor key z s).buf = s.buf ∧ (setSensor key z s).comp = s.comp ∧ (setSensor key z s).ctl = s.ctl ∧
    (setSensor key z s).fmap = s.fmap ∧ (setSensor key z s).hbm = s.hbm ∧ (setSensor key z s).dense = s.dense ∧
    (setSensor key z s).tiles = s.tiles ∧ (setSensor key z s).rings = s.rings ∧ (setSensor key z s).regs = s.regs ∧
    (setSensor key z s).logs = s.logs ∧ (setSensor key z s).win = s.win ∧ (setSensor key z s).lanes = s.lanes ∧
    (setSensor key z s).fw = s.fw ∧ (setSensor key z s).lat = s.lat ∧ (setSensor key z s).pool = s.pool ∧
    (setSensor key z s).counters = s.counters ∧ (setSensor key z s).out = s.out ∧ (setSensor key z s).free = s.free ∧
    (setSensor key z s).pending = s.pending :=
  ⟨rfl, rfl, rfl, rfl, rfl, rfl, rfl, rfl, rfl, rfl, rfl, rfl, rfl, rfl, rfl, rfl, rfl, rfl, rfl, rfl, rfl, rfl, rfl, rfl, rfl, rfl⟩

@[simp] theorem updPort_keeps (p : Nat) (f : LPort → LPort) (s : State) :
    (updPort p f s).clk = s.clk ∧ (updPort p f s).pins = s.pins ∧ (updPort p f s).boot = s.boot ∧
    (updPort p f s).parts = s.parts ∧ (updPort p f s).layout = s.layout ∧ (updPort p f s).layoutPend = s.layoutPend ∧
    (updPort p f s).slots = s.slots ∧ (updPort p f s).buf = s.buf ∧ (updPort p f s).comp = s.comp ∧
    (updPort p f s).ctl = s.ctl ∧ (updPort p f s).fmap = s.fmap ∧ (updPort p f s).hbm = s.hbm ∧
    (updPort p f s).dense = s.dense ∧ (updPort p f s).tiles = s.tiles ∧ (updPort p f s).rings = s.rings ∧
    (updPort p f s).regs = s.regs ∧ (updPort p f s).logs = s.logs ∧ (updPort p f s).win = s.win ∧
    (updPort p f s).lanes = s.lanes ∧ (updPort p f s).fw = s.fw ∧ (updPort p f s).pm = s.pm ∧
    (updPort p f s).pool = s.pool ∧ (updPort p f s).counters = s.counters ∧ (updPort p f s).out = s.out ∧
    (updPort p f s).free = s.free ∧ (updPort p f s).pending = s.pending :=
  ⟨rfl, rfl, rfl, rfl, rfl, rfl, rfl, rfl, rfl, rfl, rfl, rfl, rfl, rfl, rfl, rfl, rfl, rfl, rfl, rfl, rfl, rfl, rfl, rfl, rfl, rfl⟩

@[simp] theorem updRegion_keeps (r : Nat) (f : Region → Region) (s : State) :
    (updRegion r f s).clk = s.clk ∧ (updRegion r f s).pins = s.pins ∧ (updRegion r f s).boot = s.boot ∧
    (updRegion r f s).parts = s.parts ∧ (updRegion r f s).layout = s.layout ∧
    (updRegion r f s).layoutPend = s.layoutPend ∧ (updRegion r f s).slots = s.slots ∧ (updRegion r f s).buf = s.buf ∧
    (updRegion r f s).comp = s.comp ∧ (updRegion r f s).ctl = s.ctl ∧ (updRegion r f s).fmap = s.fmap ∧
    (updRegion r f s).hbm = s.hbm ∧ (updRegion r f s).dense = s.dense ∧ (updRegion r f s).tiles = s.tiles ∧
    (updRegion r f s).rings = s.rings ∧ (updRegion r f s).regs = s.regs ∧ (updRegion r f s).logs = s.logs ∧
    (updRegion r f s).win = s.win ∧ (updRegion r f s).lanes = s.lanes ∧ (updRegion r f s).fw = s.fw ∧
    (updRegion r f s).pm = s.pm ∧ (updRegion r f s).lat = s.lat ∧ (updRegion r f s).counters = s.counters ∧
    (updRegion r f s).out = s.out ∧ (updRegion r f s).free = s.free ∧ (updRegion r f s).pending = s.pending :=
  ⟨rfl, rfl, rfl, rfl, rfl, rfl, rfl, rfl, rfl, rfl, rfl, rfl, rfl, rfl, rfl, rfl, rfl, rfl, rfl, rfl, rfl, rfl, rfl, rfl, rfl, rfl⟩

@[simp] theorem updCmd_keeps (id : Nat) (f : PoolCmd → PoolCmd) (s : State) :
    (updCmd id f s).clk = s.clk ∧ (updCmd id f s).pins = s.pins ∧ (updCmd id f s).boot = s.boot ∧
    (updCmd id f s).parts = s.parts ∧ (updCmd id f s).layout = s.layout ∧ (updCmd id f s).layoutPend = s.layoutPend ∧
    (updCmd id f s).slots = s.slots ∧ (updCmd id f s).buf = s.buf ∧ (updCmd id f s).comp = s.comp ∧
    (updCmd id f s).ctl = s.ctl ∧ (updCmd id f s).fmap = s.fmap ∧ (updCmd id f s).hbm = s.hbm ∧
    (updCmd id f s).dense = s.dense ∧ (updCmd id f s).tiles = s.tiles ∧ (updCmd id f s).rings = s.rings ∧
    (updCmd id f s).regs = s.regs ∧ (updCmd id f s).logs = s.logs ∧ (updCmd id f s).win = s.win ∧
    (updCmd id f s).lanes = s.lanes ∧ (updCmd id f s).fw = s.fw ∧ (updCmd id f s).pm = s.pm ∧
    (updCmd id f s).lat = s.lat ∧ (updCmd id f s).counters = s.counters ∧ (updCmd id f s).out = s.out ∧
    (updCmd id f s).free = s.free ∧ (updCmd id f s).pending = s.pending :=
  ⟨rfl, rfl, rfl, rfl, rfl, rfl, rfl, rfl, rfl, rfl, rfl, rfl, rfl, rfl, rfl, rfl, rfl, rfl, rfl, rfl, rfl, rfl, rfl, rfl, rfl, rfl⟩

@[simp] theorem setAcc_keeps (a : PoolAcc) (s : State) :
    (setAcc a s).clk = s.clk ∧ (setAcc a s).pins = s.pins ∧ (setAcc a s).boot = s.boot ∧
    (setAcc a s).parts = s.parts ∧ (setAcc a s).layout = s.layout ∧ (setAcc a s).layoutPend = s.layoutPend ∧
    (setAcc a s).slots = s.slots ∧ (setAcc a s).buf = s.buf ∧ (setAcc a s).comp = s.comp ∧ (setAcc a s).ctl = s.ctl ∧
    (setAcc a s).fmap = s.fmap ∧ (setAcc a s).hbm = s.hbm ∧ (setAcc a s).dense = s.dense ∧
    (setAcc a s).tiles = s.tiles ∧ (setAcc a s).rings = s.rings ∧ (setAcc a s).regs = s.regs ∧
    (setAcc a s).logs = s.logs ∧ (setAcc a s).win = s.win ∧ (setAcc a s).lanes = s.lanes ∧ (setAcc a s).fw = s.fw ∧
    (setAcc a s).pm = s.pm ∧ (setAcc a s).lat = s.lat ∧ (setAcc a s).counters = s.counters ∧
    (setAcc a s).out = s.out ∧ (setAcc a s).free = s.free ∧ (setAcc a s).pending = s.pending :=
  ⟨rfl, rfl, rfl, rfl, rfl, rfl, rfl, rfl, rfl, rfl, rfl, rfl, rfl, rfl, rfl, rfl, rfl, rfl, rfl, rfl, rfl, rfl, rfl, rfl, rfl, rfl⟩

@[simp] theorem dropAcc_keeps (id : Nat) (s : State) :
    (dropAcc id s).clk = s.clk ∧ (dropAcc id s).pins = s.pins ∧ (dropAcc id s).boot = s.boot ∧
    (dropAcc id s).parts = s.parts ∧ (dropAcc id s).layout = s.layout ∧ (dropAcc id s).layoutPend = s.layoutPend ∧
    (dropAcc id s).slots = s.slots ∧ (dropAcc id s).buf = s.buf ∧ (dropAcc id s).comp = s.comp ∧
    (dropAcc id s).ctl = s.ctl ∧ (dropAcc id s).fmap = s.fmap ∧ (dropAcc id s).hbm = s.hbm ∧
    (dropAcc id s).dense = s.dense ∧ (dropAcc id s).tiles = s.tiles ∧ (dropAcc id s).rings = s.rings ∧
    (dropAcc id s).regs = s.regs ∧ (dropAcc id s).logs = s.logs ∧ (dropAcc id s).win = s.win ∧
    (dropAcc id s).lanes = s.lanes ∧ (dropAcc id s).fw = s.fw ∧ (dropAcc id s).pm = s.pm ∧
    (dropAcc id s).lat = s.lat ∧ (dropAcc id s).counters = s.counters ∧ (dropAcc id s).out = s.out ∧
    (dropAcc id s).free = s.free ∧ (dropAcc id s).pending = s.pending :=
  ⟨rfl, rfl, rfl, rfl, rfl, rfl, rfl, rfl, rfl, rfl, rfl, rfl, rfl, rfl, rfl, rfl, rfl, rfl, rfl, rfl, rfl, rfl, rfl, rfl, rfl, rfl⟩

@[simp] theorem updMail_keeps (pbr slot : Nat) (f : MailSlot → MailSlot) (s : State) :
    (updMail pbr slot f s).clk = s.clk ∧ (updMail pbr slot f s).pins = s.pins ∧
    (updMail pbr slot f s).boot = s.boot ∧ (updMail pbr slot f s).parts = s.parts ∧
    (updMail pbr slot f s).layout = s.layout ∧ (updMail pbr slot f s).layoutPend = s.layoutPend ∧
    (updMail pbr slot f s).slots = s.slots ∧ (updMail pbr slot f s).buf = s.buf ∧
    (updMail pbr slot f s).comp = s.comp ∧ (updMail pbr slot f s).ctl = s.ctl ∧
    (updMail pbr slot f s).fmap = s.fmap ∧ (updMail pbr slot f s).hbm = s.hbm ∧
    (updMail pbr slot f s).dense = s.dense ∧ (updMail pbr slot f s).tiles = s.tiles ∧
    (updMail pbr slot f s).rings = s.rings ∧ (updMail pbr slot f s).regs = s.regs ∧
    (updMail pbr slot f s).logs = s.logs ∧ (updMail pbr slot f s).win = s.win ∧
    (updMail pbr slot f s).lanes = s.lanes ∧ (updMail pbr slot f s).fw = s.fw ∧ (updMail pbr slot f s).pm = s.pm ∧
    (updMail pbr slot f s).lat = s.lat ∧ (updMail pbr slot f s).counters = s.counters ∧
    (updMail pbr slot f s).out = s.out ∧ (updMail pbr slot f s).free = s.free ∧
    (updMail pbr slot f s).pending = s.pending :=
  ⟨rfl, rfl, rfl, rfl, rfl, rfl, rfl, rfl, rfl, rfl, rfl, rfl, rfl, rfl, rfl, rfl, rfl, rfl, rfl, rfl, rfl, rfl, rfl, rfl, rfl, rfl⟩

@[simp] theorem updLine_keeps (k : Nat) (f : CacheLine → CacheLine) (s : State) :
    (updLine k f s).clk = s.clk ∧ (updLine k f s).pins = s.pins ∧ (updLine k f s).boot = s.boot ∧
    (updLine k f s).parts = s.parts ∧ (updLine k f s).layout = s.layout ∧ (updLine k f s).layoutPend = s.layoutPend ∧
    (updLine k f s).slots = s.slots ∧ (updLine k f s).buf = s.buf ∧ (updLine k f s).comp = s.comp ∧
    (updLine k f s).ctl = s.ctl ∧ (updLine k f s).fmap = s.fmap ∧ (updLine k f s).hbm = s.hbm ∧
    (updLine k f s).tiles = s.tiles ∧ (updLine k f s).rings = s.rings ∧ (updLine k f s).regs = s.regs ∧
    (updLine k f s).logs = s.logs ∧ (updLine k f s).win = s.win ∧ (updLine k f s).lanes = s.lanes ∧
    (updLine k f s).fw = s.fw ∧ (updLine k f s).pm = s.pm ∧ (updLine k f s).lat = s.lat ∧
    (updLine k f s).pool = s.pool ∧ (updLine k f s).counters = s.counters ∧ (updLine k f s).out = s.out ∧
    (updLine k f s).free = s.free ∧ (updLine k f s).pending = s.pending :=
  ⟨rfl, rfl, rfl, rfl, rfl, rfl, rfl, rfl, rfl, rfl, rfl, rfl, rfl, rfl, rfl, rfl, rfl, rfl, rfl, rfl, rfl, rfl, rfl, rfl, rfl, rfl⟩

@[simp] theorem updDrive_keeps (d : Nat) (f : Drive → Drive) (s : State) :
    (updDrive d f s).clk = s.clk ∧ (updDrive d f s).pins = s.pins ∧ (updDrive d f s).boot = s.boot ∧
    (updDrive d f s).parts = s.parts ∧ (updDrive d f s).layout = s.layout ∧
    (updDrive d f s).layoutPend = s.layoutPend ∧ (updDrive d f s).slots = s.slots ∧ (updDrive d f s).buf = s.buf ∧
    (updDrive d f s).comp = s.comp ∧ (updDrive d f s).ctl = s.ctl ∧ (updDrive d f s).fmap = s.fmap ∧
    (updDrive d f s).hbm = s.hbm ∧ (updDrive d f s).tiles = s.tiles ∧ (updDrive d f s).rings = s.rings ∧
    (updDrive d f s).regs = s.regs ∧ (updDrive d f s).logs = s.logs ∧ (updDrive d f s).win = s.win ∧
    (updDrive d f s).lanes = s.lanes ∧ (updDrive d f s).fw = s.fw ∧ (updDrive d f s).pm = s.pm ∧
    (updDrive d f s).lat = s.lat ∧ (updDrive d f s).pool = s.pool ∧ (updDrive d f s).counters = s.counters ∧
    (updDrive d f s).out = s.out ∧ (updDrive d f s).free = s.free ∧ (updDrive d f s).pending = s.pending :=
  ⟨rfl, rfl, rfl, rfl, rfl, rfl, rfl, rfl, rfl, rfl, rfl, rfl, rfl, rfl, rfl, rfl, rfl, rfl, rfl, rfl, rfl, rfl, rfl, rfl, rfl, rfl⟩

@[simp] theorem updComp_keeps (port dir : Nat) (f : Comp → Comp) (s : State) :
    (updComp port dir f s).clk = s.clk ∧ (updComp port dir f s).pins = s.pins ∧
    (updComp port dir f s).boot = s.boot ∧ (updComp port dir f s).parts = s.parts ∧
    (updComp port dir f s).layout = s.layout ∧ (updComp port dir f s).layoutPend = s.layoutPend ∧
    (updComp port dir f s).slots = s.slots ∧ (updComp port dir f s).buf = s.buf ∧
    (updComp port dir f s).ctl = s.ctl ∧ (updComp port dir f s).fmap = s.fmap ∧ (updComp port dir f s).hbm = s.hbm ∧
    (updComp port dir f s).dense = s.dense ∧ (updComp port dir f s).tiles = s.tiles ∧
    (updComp port dir f s).rings = s.rings ∧ (updComp port dir f s).regs = s.regs ∧
    (updComp port dir f s).logs = s.logs ∧ (updComp port dir f s).win = s.win ∧
    (updComp port dir f s).lanes = s.lanes ∧ (updComp port dir f s).fw = s.fw ∧ (updComp port dir f s).pm = s.pm ∧
    (updComp port dir f s).lat = s.lat ∧ (updComp port dir f s).pool = s.pool ∧
    (updComp port dir f s).counters = s.counters ∧ (updComp port dir f s).out = s.out ∧
    (updComp port dir f s).free = s.free ∧ (updComp port dir f s).pending = s.pending :=
  ⟨rfl, rfl, rfl, rfl, rfl, rfl, rfl, rfl, rfl, rfl, rfl, rfl, rfl, rfl, rfl, rfl, rfl, rfl, rfl, rfl, rfl, rfl, rfl, rfl, rfl, rfl⟩

@[simp] theorem countBy_keeps (id idx n : Nat) (s : State) :
    (countBy id idx n s).clk = s.clk ∧ (countBy id idx n s).pins = s.pins ∧ (countBy id idx n s).boot = s.boot ∧
    (countBy id idx n s).parts = s.parts ∧ (countBy id idx n s).layout = s.layout ∧
    (countBy id idx n s).layoutPend = s.layoutPend ∧ (countBy id idx n s).slots = s.slots ∧
    (countBy id idx n s).buf = s.buf ∧ (countBy id idx n s).comp = s.comp ∧ (countBy id idx n s).ctl = s.ctl ∧
    (countBy id idx n s).fmap = s.fmap ∧ (countBy id idx n s).hbm = s.hbm ∧ (countBy id idx n s).dense = s.dense ∧
    (countBy id idx n s).tiles = s.tiles ∧ (countBy id idx n s).rings = s.rings ∧
    (countBy id idx n s).regs = s.regs ∧ (countBy id idx n s).logs = s.logs ∧ (countBy id idx n s).win = s.win ∧
    (countBy id idx n s).lanes = s.lanes ∧ (countBy id idx n s).fw = s.fw ∧ (countBy id idx n s).pm = s.pm ∧
    (countBy id idx n s).lat = s.lat ∧ (countBy id idx n s).pool = s.pool ∧ (countBy id idx n s).out = s.out ∧
    (countBy id idx n s).free = s.free ∧ (countBy id idx n s).pending = s.pending :=
  ⟨rfl, rfl, rfl, rfl, rfl, rfl, rfl, rfl, rfl, rfl, rfl, rfl, rfl, rfl, rfl, rfl, rfl, rfl, rfl, rfl, rfl, rfl, rfl, rfl, rfl, rfl⟩

@[simp] theorem countUp_keeps (id idx : Nat) (s : State) :
    (countUp id idx s).clk = s.clk ∧ (countUp id idx s).pins = s.pins ∧ (countUp id idx s).boot = s.boot ∧
    (countUp id idx s).parts = s.parts ∧ (countUp id idx s).layout = s.layout ∧
    (countUp id idx s).layoutPend = s.layoutPend ∧ (countUp id idx s).slots = s.slots ∧
    (countUp id idx s).buf = s.buf ∧ (countUp id idx s).comp = s.comp ∧ (countUp id idx s).ctl = s.ctl ∧
    (countUp id idx s).fmap = s.fmap ∧ (countUp id idx s).hbm = s.hbm ∧ (countUp id idx s).dense = s.dense ∧
    (countUp id idx s).tiles = s.tiles ∧ (countUp id idx s).rings = s.rings ∧ (countUp id idx s).regs = s.regs ∧
    (countUp id idx s).logs = s.logs ∧ (countUp id idx s).win = s.win ∧ (countUp id idx s).lanes = s.lanes ∧
    (countUp id idx s).fw = s.fw ∧ (countUp id idx s).pm = s.pm ∧ (countUp id idx s).lat = s.lat ∧
    (countUp id idx s).pool = s.pool ∧ (countUp id idx s).out = s.out ∧ (countUp id idx s).free = s.free ∧
    (countUp id idx s).pending = s.pending :=
  ⟨rfl, rfl, rfl, rfl, rfl, rfl, rfl, rfl, rfl, rfl, rfl, rfl, rfl, rfl, rfl, rfl, rfl, rfl, rfl, rfl, rfl, rfl, rfl, rfl, rfl, rfl⟩

@[simp] theorem passPs_keeps (ps : Nat) (s : State) :
    (passPs ps s).pins = s.pins ∧ (passPs ps s).boot = s.boot ∧ (passPs ps s).parts = s.parts ∧
    (passPs ps s).layout = s.layout ∧ (passPs ps s).layoutPend = s.layoutPend ∧ (passPs ps s).slots = s.slots ∧
    (passPs ps s).buf = s.buf ∧ (passPs ps s).comp = s.comp ∧ (passPs ps s).ctl = s.ctl ∧
    (passPs ps s).fmap = s.fmap ∧ (passPs ps s).hbm = s.hbm ∧ (passPs ps s).dense = s.dense ∧
    (passPs ps s).tiles = s.tiles ∧ (passPs ps s).rings = s.rings ∧ (passPs ps s).regs = s.regs ∧
    (passPs ps s).logs = s.logs ∧ (passPs ps s).win = s.win ∧ (passPs ps s).lanes = s.lanes ∧
    (passPs ps s).fw = s.fw ∧ (passPs ps s).pm = s.pm ∧ (passPs ps s).lat = s.lat ∧ (passPs ps s).pool = s.pool ∧
    (passPs ps s).counters = s.counters ∧ (passPs ps s).out = s.out ∧ (passPs ps s).free = s.free ∧
    (passPs ps s).pending = s.pending :=
  ⟨rfl, rfl, rfl, rfl, rfl, rfl, rfl, rfl, rfl, rfl, rfl, rfl, rfl, rfl, rfl, rfl, rfl, rfl, rfl, rfl, rfl, rfl, rfl, rfl, rfl, rfl⟩

@[simp] theorem emit_out (o : Output) (s : State) : (emit o s).out = s.out ++ [o] := rfl

@[simp] theorem emitAll_out (os : List Output) (s : State) : (emitAll os s).out = s.out ++ os := rfl

@[simp] theorem part_setPart (k : Nat) (p : Part) (s : State) (h : Tab.wf Part.reset s.parts = true) : part (setPart k p s) k = p :=
  Tab.get_set _ _ h

theorem part_setPart_ne (k : Nat) (p : Part) (s : State) {j : Nat} (ne : j ≠ k) : part (setPart k p s) j = part s j :=
  Tab.get_set_ne _ ne

theorem setPart_wf (k : Nat) (p : Part) (s : State) (h : Tab.wf Part.reset s.parts = true) : Tab.wf Part.reset (setPart k p s).parts = true :=
  Tab.wf_set _ _ h

@[simp] theorem slot_setSlot (k : Nat) (v : Slot) (s : State) (h : Tab.wf Slot.reset s.slots = true) : slot (setSlot k v s) k = v :=
  Tab.get_set _ _ h

theorem slot_setSlot_ne (k : Nat) (v : Slot) (s : State) {j : Nat} (ne : j ≠ k) : slot (setSlot k v s) j = slot s j :=
  Tab.get_set_ne _ ne

theorem setSlot_wf (k : Nat) (v : Slot) (s : State) (h : Tab.wf Slot.reset s.slots = true) : Tab.wf Slot.reset (setSlot k v s).slots = true :=
  Tab.wf_set _ _ h

@[simp] theorem sensorOf_setSensor (k : Nat) (z : Sensor) (s : State) (h : Tab.wf Sensor.reset s.pm.sensors = true) : sensorOf (setSensor k z s) k = z :=
  Tab.get_set _ _ h

theorem sensorOf_setSensor_ne (k : Nat) (z : Sensor) (s : State) {j : Nat} (ne : j ≠ k) : sensorOf (setSensor k z s) j = sensorOf s j :=
  Tab.get_set_ne _ ne

theorem setSensor_wf (k : Nat) (z : Sensor) (s : State) (h : Tab.wf Sensor.reset s.pm.sensors = true) : Tab.wf Sensor.reset (setSensor k z s).pm.sensors = true :=
  Tab.wf_set _ _ h

@[simp] theorem part_updPart (k : Nat) (f : Part → Part) (s : State) (h : Tab.wf Part.reset s.parts = true) : part (updPart k f s) k = f (part s k) :=
  Tab.get_set _ _ h

theorem part_updPart_ne (k : Nat) (f : Part → Part) (s : State) {j : Nat} (ne : j ≠ k) : part (updPart k f s) j = part s j :=
  Tab.get_set_ne _ ne

theorem updPart_wf (k : Nat) (f : Part → Part) (s : State) (h : Tab.wf Part.reset s.parts = true) : Tab.wf Part.reset (updPart k f s).parts = true :=
  Tab.wf_set _ _ h

@[simp] theorem fnOf_updFn (k : Nat) (f : Fn → Fn) (s : State) (h : Tab.wf Fn.reset s.rings.fn = true) : fnOf (updFn k f s) k = f (fnOf s k) :=
  Tab.get_upd _ _ h

theorem fnOf_updFn_ne (k : Nat) (f : Fn → Fn) (s : State) {j : Nat} (ne : j ≠ k) : fnOf (updFn k f s) j = fnOf s j :=
  Tab.get_upd_ne _ ne

theorem updFn_wf (k : Nat) (f : Fn → Fn) (s : State) (h : Tab.wf Fn.reset s.rings.fn = true) : Tab.wf Fn.reset (updFn k f s).rings.fn = true :=
  Tab.wf_upd _ _ h

@[simp] theorem pcOf_updPc (k : Nat) (f : Pc → Pc) (s : State) (h : Tab.wf Pc.reset s.hbm.pc = true) : pcOf (updPc k f s) k = f (pcOf s k) :=
  Tab.get_upd _ _ h

theorem pcOf_updPc_ne (k : Nat) (f : Pc → Pc) (s : State) {j : Nat} (ne : j ≠ k) : pcOf (updPc k f s) j = pcOf s j :=
  Tab.get_upd_ne _ ne

theorem updPc_wf (k : Nat) (f : Pc → Pc) (s : State) (h : Tab.wf Pc.reset s.hbm.pc = true) : Tab.wf Pc.reset (updPc k f s).hbm.pc = true :=
  Tab.wf_upd _ _ h

@[simp] theorem stackOf_updStack (k : Nat) (f : Stack → Stack) (s : State) (h : Tab.wf Stack.reset s.hbm.stack = true) : stackOf (updStack k f s) k = f (stackOf s k) :=
  Tab.get_upd _ _ h

theorem stackOf_updStack_ne (k : Nat) (f : Stack → Stack) (s : State) {j : Nat} (ne : j ≠ k) : stackOf (updStack k f s) j = stackOf s j :=
  Tab.get_upd_ne _ ne

theorem updStack_wf (k : Nat) (f : Stack → Stack) (s : State) (h : Tab.wf Stack.reset s.hbm.stack = true) : Tab.wf Stack.reset (updStack k f s).hbm.stack = true :=
  Tab.wf_upd _ _ h

@[simp] theorem tileAt_updTile (k : Nat) (f : Tile → Tile) (s : State) (h : Tab.wf Tile.reset s.tiles.tile = true) : tileAt (updTile k f s) k = f (tileAt s k) :=
  Tab.get_upd _ _ h

theorem tileAt_updTile_ne (k : Nat) (f : Tile → Tile) (s : State) {j : Nat} (ne : j ≠ k) : tileAt (updTile k f s) j = tileAt s j :=
  Tab.get_upd_ne _ ne

theorem updTile_wf (k : Nat) (f : Tile → Tile) (s : State) (h : Tab.wf Tile.reset s.tiles.tile = true) : Tab.wf Tile.reset (updTile k f s).tiles.tile = true :=
  Tab.wf_upd _ _ h

@[simp] theorem latPort_updPort (k : Nat) (f : LPort → LPort) (s : State) (h : Tab.wf LPort.reset s.lat.port = true) : latPort (updPort k f s) k = f (latPort s k) :=
  Tab.get_upd _ _ h

theorem latPort_updPort_ne (k : Nat) (f : LPort → LPort) (s : State) {j : Nat} (ne : j ≠ k) : latPort (updPort k f s) j = latPort s j :=
  Tab.get_upd_ne _ ne

theorem updPort_wf (k : Nat) (f : LPort → LPort) (s : State) (h : Tab.wf LPort.reset s.lat.port = true) : Tab.wf LPort.reset (updPort k f s).lat.port = true :=
  Tab.wf_upd _ _ h

@[simp] theorem regionOf_updRegion (k : Nat) (f : Region → Region) (s : State) (h : Tab.wf Region.reset s.pool.region = true) : regionOf (updRegion k f s) k = f (regionOf s k) :=
  Tab.get_upd _ _ h

theorem regionOf_updRegion_ne (k : Nat) (f : Region → Region) (s : State) {j : Nat} (ne : j ≠ k) : regionOf (updRegion k f s) j = regionOf s j :=
  Tab.get_upd_ne _ ne

theorem updRegion_wf (k : Nat) (f : Region → Region) (s : State) (h : Tab.wf Region.reset s.pool.region = true) : Tab.wf Region.reset (updRegion k f s).pool.region = true :=
  Tab.wf_upd _ _ h

@[simp] theorem cacheLine_updLine (k : Nat) (f : CacheLine → CacheLine) (s : State) (h : Tab.wf CacheLine.reset s.dense.lines = true) : cacheLine (updLine k f s) k = f (cacheLine s k) :=
  Tab.get_upd _ _ h

theorem cacheLine_updLine_ne (k : Nat) (f : CacheLine → CacheLine) (s : State) {j : Nat} (ne : j ≠ k) : cacheLine (updLine k f s) j = cacheLine s j :=
  Tab.get_upd_ne _ ne

theorem updLine_wf (k : Nat) (f : CacheLine → CacheLine) (s : State) (h : Tab.wf CacheLine.reset s.dense.lines = true) : Tab.wf CacheLine.reset (updLine k f s).dense.lines = true :=
  Tab.wf_upd _ _ h

@[simp] theorem driveOf_updDrive (k : Nat) (f : Drive → Drive) (s : State) (h : Tab.wf Drive.reset s.dense.drive = true) : driveOf (updDrive k f s) k = f (driveOf s k) :=
  Tab.get_upd _ _ h

theorem driveOf_updDrive_ne (k : Nat) (f : Drive → Drive) (s : State) {j : Nat} (ne : j ≠ k) : driveOf (updDrive k f s) j = driveOf s j :=
  Tab.get_upd_ne _ ne

theorem updDrive_wf (k : Nat) (f : Drive → Drive) (s : State) (h : Tab.wf Drive.reset s.dense.drive = true) : Tab.wf Drive.reset (updDrive k f s).dense.drive = true :=
  Tab.wf_upd _ _ h

/-- Two rings of functions below 4 × their number share no key. -/
theorem ringKey_inj {fn r gn q : Nat} (h : r < 4) (k : q < 4) (e : ringKey fn r = ringKey gn q) : fn = gn ∧ r = q := by
  unfold ringKey at e
  omega

@[simp] theorem ringOf_updRing (fn r : Nat) (f : Ring → Ring) (s : State) (h : Tab.wf Ring.reset s.rings.ring = true) :
    ringOf (updRing fn r f s) fn r = f (ringOf s fn r) :=
  Tab.get_upd _ _ h

theorem ringOf_updRing_ne (fn r : Nat) (f : Ring → Ring) (s : State) {gn q : Nat} (ne : ringKey gn q ≠ ringKey fn r) :
    ringOf (updRing fn r f s) gn q = ringOf s gn q :=
  Tab.get_upd_ne _ ne

/-- A count goes to its counter, by the counter's width. -/
@[simp] theorem counter_countBy (id idx n : Nat) (s : State) (h : Tab.wf 0 s.counters = true) :
    counter (countBy id idx n s) id idx = counterAdd id (counter s id idx) n :=
  Tab.get_upd (m := s.counters) (counterKey id idx) (fun v => counterAdd id v n) h

theorem counter_countBy_ne (id idx n : Nat) (s : State) {jd jdx : Nat} (ne : counterKey jd jdx ≠ counterKey id idx) :
    counter (countBy id idx n s) jd jdx = counter s jd jdx :=
  Tab.get_upd_ne (m := s.counters) (fun v => counterAdd id v n) ne

end Sys2Proof.Machine
end

