-- ==== Sys2Proof/Laws/Frame.lean ====
section
/-! SUPPORT. Frames compose: what a step along the way leaves alone, the whole leaves alone. The lemmas of the files
Frames are named after the operation: f_touches says which blocks of the state f may change, and for a command that it
answers a next state. -/

namespace Sys2Proof.Machine

/-- Every block of the first list is in the second. -/
def sub (bs cs : List Block) : Bool := bs.all fun b => cs.contains b

/-- A block that the list contains. -/
theorem mem_of {b : Block} {bs : List Block} (h : bs.contains b = true) : b ∈ bs := by simpa using h

/-- A part's blocks are blocks of the whole. -/
theorem sub_mem {bs cs : List Block} (h : sub bs cs = true) {b : Block} (hb : b ∈ bs) : b ∈ cs := by
  have := List.all_eq_true.mp h b hb
  exact mem_of this

/-- Nothing changes from a state to itself. -/
theorem Touches.refl (bs : List Block) (s : State) : Touches bs s s := by intro b _; cases b <;> rfl

/-- More blocks may be named. -/
theorem Touches.mono {bs cs : List Block} {s t : State} (h : Touches bs s t) (hs : sub bs cs = true) : Touches cs s t := fun b hb => h b fun hc => hb (sub_mem hs hc)

/-- A block that stands twice stands. -/
theorem Block.same_trans {b : Block} {s t u : State} (h : b.same s t) (k : b.same t u) : b.same s u := by
  cases b <;> exact Eq.trans k h

/-- Frames compose. -/
theorem Touches.trans {bs : List Block} {s t u : State} (h : Touches bs s t) (k : Touches bs t u) : Touches bs s u :=
  fun b hb => Block.same_trans (h b hb) (k b hb)

/-- An operation after a prefix. -/
theorem Touches.after {bs cs : List Block} {s t u : State} (k : Touches cs t u) (hs : sub cs bs = true) (h : Touches bs s t) : Touches bs s u :=
  h.trans (k.mono hs)

/-- The state of a pair. -/
theorem Touches.of_snd {α : Type} {bs : List Block} {s t : State} {p : α × State} {a : α} (h : Touches bs s p.2) (e : p = (a, t)) : Touches bs s t := by
  subst e; exact h

/-- A fold of an operation. -/
theorem touches_foldl {α : Type} {bs : List Block} {s x : State} {f : State → α → State} {l : List α} (h : Touches bs s x) (k : ∀ t a, Touches bs t (f t a)) :
    Touches bs s (l.foldl f x) := by
  induction l generalizing x with
  | nil => exact h
  | cons a l ih => exact ih (h.trans (k x a))

/-- Either branch. -/
theorem touches_ite {bs : List Block} {s x y : State} {c : Prop} [Decidable c] (h : Touches bs s x) (k : Touches bs s y) : Touches bs s (if c then x else y) := by
  split <;> assumption

/-- The outcome is a next state, and only the named blocks change. -/
def Nexts (bs : List Block) (s : State) (o : Host.Outcome State Fault Refusal) : Prop := ∃ t, o = .next t ∧ Touches bs s t

/-- A next state. -/
theorem nexts {bs : List Block} {s t : State} (h : Touches bs s t) : Nexts bs s (.next t) := ⟨t, rfl, h⟩

/-- Either outcome. -/
theorem nexts_ite {bs : List Block} {s : State} {x y : Host.Outcome State Fault Refusal} {c : Prop} [Decidable c] (h : Nexts bs s x) (k : Nexts bs s y) :
    Nexts bs s (if c then x else y) := by
  split <;> assumption

/-- An outcome after a prefix. -/
theorem Nexts.after {bs cs : List Block} {s t : State} {o : Host.Outcome State Fault Refusal} (k : Nexts cs t o) (hs : sub cs bs = true) (h : Touches bs s t) :
    Nexts bs s o := by
  obtain ⟨u, e, k⟩ := k
  exact ⟨u, e, Touches.after k hs h⟩

/-- Part of a part. -/
theorem sub_trans {as bs cs : List Block} (h : sub as bs = true) (k : sub bs cs = true) : sub as cs = true := by
  refine List.all_eq_true.mpr fun b hb => ?_
  have := sub_mem k (sub_mem h hb)
  simpa using this

/-- Frames compose, the later first. -/
theorem Touches.before {bs : List Block} {s t u : State} (k : Touches bs t u) (h : Touches bs s t) : Touches bs s u := h.trans k

/-- Either branch, of a pair. -/
theorem touches_ite_snd {α : Type} {bs : List Block} {s : State} {x y : α × State} {c : Prop} [Decidable c] (h : Touches bs s x.2) (k : Touches bs s y.2) : Touches bs s (if c then x else y).2 := by
  split <;> assumption

theorem upd_boot {bs : List Block} {s x : State} {v0 : Boot} (hb : sub [.boot] bs = true) (h : Touches bs s x) :
    Touches bs s { x with boot := v0 } :=
  h.trans (Touches.mono (bs := [.boot]) (by intro b hb; cases b <;> first | rfl | simp at hb) hb)

theorem upd_boot_dense_fw {bs : List Block} {s x : State} {v0 : Boot} {v1 : Dense} {v2 : Fw} (hb : sub [.boot, .dense, .fw] bs = true) (h : Touches bs s x) :
    Touches bs s { x with boot := v0, dense := v1, fw := v2 } :=
  h.trans (Touches.mono (bs := [.boot, .dense, .fw]) (by intro b hb; cases b <;> first | rfl | simp at hb) hb)

theorem upd_boot_fw {bs : List Block} {s x : State} {v0 : Boot} {v1 : Fw} (hb : sub [.boot, .fw] bs = true) (h : Touches bs s x) :
    Touches bs s { x with boot := v0, fw := v1 } :=
  h.trans (Touches.mono (bs := [.boot, .fw]) (by intro b hb; cases b <;> first | rfl | simp at hb) hb)

theorem upd_boot_fw_pm {bs : List Block} {s x : State} {v0 : Boot} {v1 : Fw} {v2 : Pm} (hb : sub [.boot, .fw, .pm] bs = true) (h : Touches bs s x) :
    Touches bs s { x with boot := v0, fw := v1, pm := v2 } :=
  h.trans (Touches.mono (bs := [.boot, .fw, .pm]) (by intro b hb; cases b <;> first | rfl | simp at hb) hb)

theorem upd_boot_pm {bs : List Block} {s x : State} {v0 : Boot} {v1 : Pm} (hb : sub [.boot, .pm] bs = true) (h : Touches bs s x) :
    Touches bs s { x with boot := v0, pm := v1 } :=
  h.trans (Touches.mono (bs := [.boot, .pm]) (by intro b hb; cases b <;> first | rfl | simp at hb) hb)

theorem upd_buf {bs : List Block} {s x : State} {v0 : Buf} (hb : sub [.buf] bs = true) (h : Touches bs s x) :
    Touches bs s { x with buf := v0 } :=
  h.trans (Touches.mono (bs := [.buf]) (by intro b hb; cases b <;> first | rfl | simp at hb) hb)

theorem upd_buf_counters {bs : List Block} {s x : State} {v0 : Buf} {v1 : Tab (BitVec 64)} (hb : sub [.buf, .counters] bs = true) (h : Touches bs s x) :
    Touches bs s { x with buf := v0, counters := v1 } :=
  h.trans (Touches.mono (bs := [.buf, .counters]) (by intro b hb; cases b <;> first | rfl | simp at hb) hb)

theorem upd_buf_lanes {bs : List Block} {s x : State} {v0 : Buf} {v1 : Lanes} (hb : sub [.buf, .lanes] bs = true) (h : Touches bs s x) :
    Touches bs s { x with buf := v0, lanes := v1 } :=
  h.trans (Touches.mono (bs := [.buf, .lanes]) (by intro b hb; cases b <;> first | rfl | simp at hb) hb)

theorem upd_clk {bs : List Block} {s x : State} {v0 : Clk} (hb : sub [.clk] bs = true) (h : Touches bs s x) :
    Touches bs s { x with clk := v0 } :=
  h.trans (Touches.mono (bs := [.clk]) (by intro b hb; cases b <;> first | rfl | simp at hb) hb)

theorem upd_clk_boot {bs : List Block} {s x : State} {v0 : Clk} {v1 : Boot} (hb : sub [.clk, .boot] bs = true) (h : Touches bs s x) :
    Touches bs s { x with clk := v0, boot := v1 } :=
  h.trans (Touches.mono (bs := [.clk, .boot]) (by intro b hb; cases b <;> first | rfl | simp at hb) hb)

theorem upd_clk_boot_fmap_hbm_logs_lanes_fw_pm_lat_pool_counters {bs : List Block} {s x : State} {v0 : Clk} {v1 : Boot} {v2 : FaultMap} {v3 : Hbm} {v4 : Logs} {v5 : Lanes} {v6 : Fw} {v7 : Pm} {v8 : Lat} {v9 : Pool} {v10 : Tab (BitVec 64)} (hb : sub [.clk, .boot, .fmap, .hbm, .logs, .lanes, .fw, .pm, .lat, .pool, .counters] bs = true) (h : Touches bs s x) :
    Touches bs s { x with clk := v0, boot := v1, fmap := v2, hbm := v3, logs := v4, lanes := v5, fw := v6, pm := v7, lat := v8, pool := v9, counters := v10 } :=
  h.trans (Touches.mono (bs := [.clk, .boot, .fmap, .hbm, .logs, .lanes, .fw, .pm, .lat, .pool, .counters]) (by intro b hb; cases b <;> first | rfl | simp at hb) hb)

theorem upd_clk_lat {bs : List Block} {s x : State} {v0 : Clk} {v1 : Lat} (hb : sub [.clk, .lat] bs = true) (h : Touches bs s x) :
    Touches bs s { x with clk := v0, lat := v1 } :=
  h.trans (Touches.mono (bs := [.clk, .lat]) (by intro b hb; cases b <;> first | rfl | simp at hb) hb)

theorem upd_clk_pins_boot_buf_hbm_logs_lanes_pm {bs : List Block} {s x : State} {v0 : Clk} {v1 : Pins} {v2 : Boot} {v3 : Buf} {v4 : Hbm} {v5 : Logs} {v6 : Lanes} {v7 : Pm} (hb : sub [.clk, .pins, .boot, .buf, .hbm, .logs, .lanes, .pm] bs = true) (h : Touches bs s x) :
    Touches bs s { x with clk := v0, pins := v1, boot := v2, buf := v3, hbm := v4, logs := v5, lanes := v6, pm := v7 } :=
  h.trans (Touches.mono (bs := [.clk, .pins, .boot, .buf, .hbm, .logs, .lanes, .pm]) (by intro b hb; cases b <;> first | rfl | simp at hb) hb)

theorem upd_clk_pins_boot_hbm_lanes_pm {bs : List Block} {s x : State} {v0 : Clk} {v1 : Pins} {v2 : Boot} {v3 : Hbm} {v4 : Lanes} {v5 : Pm} (hb : sub [.clk, .pins, .boot, .hbm, .lanes, .pm] bs = true) (h : Touches bs s x) :
    Touches bs s { x with clk := v0, pins := v1, boot := v2, hbm := v3, lanes := v4, pm := v5 } :=
  h.trans (Touches.mono (bs := [.clk, .pins, .boot, .hbm, .lanes, .pm]) (by intro b hb; cases b <;> first | rfl | simp at hb) hb)

theorem upd_clk_pins_boot_pm {bs : List Block} {s x : State} {v0 : Clk} {v1 : Pins} {v2 : Boot} {v3 : Pm} (hb : sub [.clk, .pins, .boot, .pm] bs = true) (h : Touches bs s x) :
    Touches bs s { x with clk := v0, pins := v1, boot := v2, pm := v3 } :=
  h.trans (Touches.mono (bs := [.clk, .pins, .boot, .pm]) (by intro b hb; cases b <;> first | rfl | simp at hb) hb)

theorem upd_clk_pins_logs_counters {bs : List Block} {s x : State} {v0 : Clk} {v1 : Pins} {v2 : Logs} {v3 : Tab (BitVec 64)} (hb : sub [.clk, .pins, .logs, .counters] bs = true) (h : Touches bs s x) :
    Touches bs s { x with clk := v0, pins := v1, logs := v2, counters := v3 } :=
  h.trans (Touches.mono (bs := [.clk, .pins, .logs, .counters]) (by intro b hb; cases b <;> first | rfl | simp at hb) hb)

theorem upd_clk_regs {bs : List Block} {s x : State} {v0 : Clk} {v1 : Regs} (hb : sub [.clk, .regs] bs = true) (h : Touches bs s x) :
    Touches bs s { x with clk := v0, regs := v1 } :=
  h.trans (Touches.mono (bs := [.clk, .regs]) (by intro b hb; cases b <;> first | rfl | simp at hb) hb)

theorem upd_comp {bs : List Block} {s x : State} {v0 : Tab Comp} (hb : sub [.comp] bs = true) (h : Touches bs s x) :
    Touches bs s { x with comp := v0 } :=
  h.trans (Touches.mono (bs := [.comp]) (by intro b hb; cases b <;> first | rfl | simp at hb) hb)

theorem upd_counters {bs : List Block} {s x : State} {v0 : Tab (BitVec 64)} (hb : sub [.counters] bs = true) (h : Touches bs s x) :
    Touches bs s { x with counters := v0 } :=
  h.trans (Touches.mono (bs := [.counters]) (by intro b hb; cases b <;> first | rfl | simp at hb) hb)

theorem upd_ctl {bs : List Block} {s x : State} {v0 : Ctl} (hb : sub [.ctl] bs = true) (h : Touches bs s x) :
    Touches bs s { x with ctl := v0 } :=
  h.trans (Touches.mono (bs := [.ctl]) (by intro b hb; cases b <;> first | rfl | simp at hb) hb)

theorem upd_ctl_tiles {bs : List Block} {s x : State} {v0 : Ctl} {v1 : Tiles} (hb : sub [.ctl, .tiles] bs = true) (h : Touches bs s x) :
    Touches bs s { x with ctl := v0, tiles := v1 } :=
  h.trans (Touches.mono (bs := [.ctl, .tiles]) (by intro b hb; cases b <;> first | rfl | simp at hb) hb)

theorem upd_dense {bs : List Block} {s x : State} {v0 : Dense} (hb : sub [.dense] bs = true) (h : Touches bs s x) :
    Touches bs s { x with dense := v0 } :=
  h.trans (Touches.mono (bs := [.dense]) (by intro b hb; cases b <;> first | rfl | simp at hb) hb)

theorem upd_dense_pool {bs : List Block} {s x : State} {v0 : Dense} {v1 : Pool} (hb : sub [.dense, .pool] bs = true) (h : Touches bs s x) :
    Touches bs s { x with dense := v0, pool := v1 } :=
  h.trans (Touches.mono (bs := [.dense, .pool]) (by intro b hb; cases b <;> first | rfl | simp at hb) hb)

theorem upd_fmap {bs : List Block} {s x : State} {v0 : FaultMap} (hb : sub [.fmap] bs = true) (h : Touches bs s x) :
    Touches bs s { x with fmap := v0 } :=
  h.trans (Touches.mono (bs := [.fmap]) (by intro b hb; cases b <;> first | rfl | simp at hb) hb)

theorem upd_fmap_lanes {bs : List Block} {s x : State} {v0 : FaultMap} {v1 : Lanes} (hb : sub [.fmap, .lanes] bs = true) (h : Touches bs s x) :
    Touches bs s { x with fmap := v0, lanes := v1 } :=
  h.trans (Touches.mono (bs := [.fmap, .lanes]) (by intro b hb; cases b <;> first | rfl | simp at hb) hb)

theorem upd_fmap_pm {bs : List Block} {s x : State} {v0 : FaultMap} {v1 : Pm} (hb : sub [.fmap, .pm] bs = true) (h : Touches bs s x) :
    Touches bs s { x with fmap := v0, pm := v1 } :=
  h.trans (Touches.mono (bs := [.fmap, .pm]) (by intro b hb; cases b <;> first | rfl | simp at hb) hb)

theorem upd_free {bs : List Block} {s x : State} {v0 : Nat} (hb : sub [.free] bs = true) (h : Touches bs s x) :
    Touches bs s { x with free := v0 } :=
  h.trans (Touches.mono (bs := [.free]) (by intro b hb; cases b <;> first | rfl | simp at hb) hb)

theorem upd_fw {bs : List Block} {s x : State} {v0 : Fw} (hb : sub [.fw] bs = true) (h : Touches bs s x) :
    Touches bs s { x with fw := v0 } :=
  h.trans (Touches.mono (bs := [.fw]) (by intro b hb; cases b <;> first | rfl | simp at hb) hb)

theorem upd_hbm {bs : List Block} {s x : State} {v0 : Hbm} (hb : sub [.hbm] bs = true) (h : Touches bs s x) :
    Touches bs s { x with hbm := v0 } :=
  h.trans (Touches.mono (bs := [.hbm]) (by intro b hb; cases b <;> first | rfl | simp at hb) hb)

theorem upd_hbm_dense_pool {bs : List Block} {s x : State} {v0 : Hbm} {v1 : Dense} {v2 : Pool} (hb : sub [.hbm, .dense, .pool] bs = true) (h : Touches bs s x) :
    Touches bs s { x with hbm := v0, dense := v1, pool := v2 } :=
  h.trans (Touches.mono (bs := [.hbm, .dense, .pool]) (by intro b hb; cases b <;> first | rfl | simp at hb) hb)

theorem upd_hbm_pool {bs : List Block} {s x : State} {v0 : Hbm} {v1 : Pool} (hb : sub [.hbm, .pool] bs = true) (h : Touches bs s x) :
    Touches bs s { x with hbm := v0, pool := v1 } :=
  h.trans (Touches.mono (bs := [.hbm, .pool]) (by intro b hb; cases b <;> first | rfl | simp at hb) hb)

theorem upd_lanes {bs : List Block} {s x : State} {v0 : Lanes} (hb : sub [.lanes] bs = true) (h : Touches bs s x) :
    Touches bs s { x with lanes := v0 } :=
  h.trans (Touches.mono (bs := [.lanes]) (by intro b hb; cases b <;> first | rfl | simp at hb) hb)

theorem upd_lat {bs : List Block} {s x : State} {v0 : Lat} (hb : sub [.lat] bs = true) (h : Touches bs s x) :
    Touches bs s { x with lat := v0 } :=
  h.trans (Touches.mono (bs := [.lat]) (by intro b hb; cases b <;> first | rfl | simp at hb) hb)

theorem upd_layout {bs : List Block} {s x : State} {v0 : Tab Rect} (hb : sub [.layout] bs = true) (h : Touches bs s x) :
    Touches bs s { x with layout := v0 } :=
  h.trans (Touches.mono (bs := [.layout]) (by intro b hb; cases b <;> first | rfl | simp at hb) hb)

theorem upd_layoutPend {bs : List Block} {s x : State} {v0 : Option (List Rect)} (hb : sub [.layoutPend] bs = true) (h : Touches bs s x) :
    Touches bs s { x with layoutPend := v0 } :=
  h.trans (Touches.mono (bs := [.layoutPend]) (by intro b hb; cases b <;> first | rfl | simp at hb) hb)

theorem upd_logs {bs : List Block} {s x : State} {v0 : Logs} (hb : sub [.logs] bs = true) (h : Touches bs s x) :
    Touches bs s { x with logs := v0 } :=
  h.trans (Touches.mono (bs := [.logs]) (by intro b hb; cases b <;> first | rfl | simp at hb) hb)

theorem upd_out {bs : List Block} {s x : State} {v0 : List Output} (hb : sub [.out] bs = true) (h : Touches bs s x) :
    Touches bs s { x with out := v0 } :=
  h.trans (Touches.mono (bs := [.out]) (by intro b hb; cases b <;> first | rfl | simp at hb) hb)

theorem upd_parts {bs : List Block} {s x : State} {v0 : Tab Part} (hb : sub [.parts] bs = true) (h : Touches bs s x) :
    Touches bs s { x with parts := v0 } :=
  h.trans (Touches.mono (bs := [.parts]) (by intro b hb; cases b <;> first | rfl | simp at hb) hb)

theorem upd_parts_layout_layoutPend_slots_buf_comp_ctl_tiles_rings_regs_win {bs : List Block} {s x : State} {v0 : Tab Part} {v1 : Tab Rect} {v2 : Option (List Rect)} {v3 : Tab Slot} {v4 : Buf} {v5 : Tab Comp} {v6 : Ctl} {v7 : Tiles} {v8 : Rings} {v9 : Regs} {v10 : Windows} (hb : sub [.parts, .layout, .layoutPend, .slots, .buf, .comp, .ctl, .tiles, .rings, .regs, .win] bs = true) (h : Touches bs s x) :
    Touches bs s { x with parts := v0, layout := v1, layoutPend := v2, slots := v3, buf := v4, comp := v5, ctl := v6, tiles := v7, rings := v8, regs := v9, win := v10 } :=
  h.trans (Touches.mono (bs := [.parts, .layout, .layoutPend, .slots, .buf, .comp, .ctl, .tiles, .rings, .regs, .win]) (by intro b hb; cases b <;> first | rfl | simp at hb) hb)

theorem upd_pins {bs : List Block} {s x : State} {v0 : Pins} (hb : sub [.pins] bs = true) (h : Touches bs s x) :
    Touches bs s { x with pins := v0 } :=
  h.trans (Touches.mono (bs := [.pins]) (by intro b hb; cases b <;> first | rfl | simp at hb) hb)

theorem upd_pins_boot {bs : List Block} {s x : State} {v0 : Pins} {v1 : Boot} (hb : sub [.pins, .boot] bs = true) (h : Touches bs s x) :
    Touches bs s { x with pins := v0, boot := v1 } :=
  h.trans (Touches.mono (bs := [.pins, .boot]) (by intro b hb; cases b <;> first | rfl | simp at hb) hb)

theorem upd_pins_fw {bs : List Block} {s x : State} {v0 : Pins} {v1 : Fw} (hb : sub [.pins, .fw] bs = true) (h : Touches bs s x) :
    Touches bs s { x with pins := v0, fw := v1 } :=
  h.trans (Touches.mono (bs := [.pins, .fw]) (by intro b hb; cases b <;> first | rfl | simp at hb) hb)

theorem upd_pins_pm {bs : List Block} {s x : State} {v0 : Pins} {v1 : Pm} (hb : sub [.pins, .pm] bs = true) (h : Touches bs s x) :
    Touches bs s { x with pins := v0, pm := v1 } :=
  h.trans (Touches.mono (bs := [.pins, .pm]) (by intro b hb; cases b <;> first | rfl | simp at hb) hb)

theorem upd_pm {bs : List Block} {s x : State} {v0 : Pm} (hb : sub [.pm] bs = true) (h : Touches bs s x) :
    Touches bs s { x with pm := v0 } :=
  h.trans (Touches.mono (bs := [.pm]) (by intro b hb; cases b <;> first | rfl | simp at hb) hb)

theorem upd_pm_lat {bs : List Block} {s x : State} {v0 : Pm} {v1 : Lat} (hb : sub [.pm, .lat] bs = true) (h : Touches bs s x) :
    Touches bs s { x with pm := v0, lat := v1 } :=
  h.trans (Touches.mono (bs := [.pm, .lat]) (by intro b hb; cases b <;> first | rfl | simp at hb) hb)

theorem upd_pool {bs : List Block} {s x : State} {v0 : Pool} (hb : sub [.pool] bs = true) (h : Touches bs s x) :
    Touches bs s { x with pool := v0 } :=
  h.trans (Touches.mono (bs := [.pool]) (by intro b hb; cases b <;> first | rfl | simp at hb) hb)

theorem upd_regs {bs : List Block} {s x : State} {v0 : Regs} (hb : sub [.regs] bs = true) (h : Touches bs s x) :
    Touches bs s { x with regs := v0 } :=
  h.trans (Touches.mono (bs := [.regs]) (by intro b hb; cases b <;> first | rfl | simp at hb) hb)

theorem upd_rings {bs : List Block} {s x : State} {v0 : Rings} (hb : sub [.rings] bs = true) (h : Touches bs s x) :
    Touches bs s { x with rings := v0 } :=
  h.trans (Touches.mono (bs := [.rings]) (by intro b hb; cases b <;> first | rfl | simp at hb) hb)

theorem upd_rings_pool {bs : List Block} {s x : State} {v0 : Rings} {v1 : Pool} (hb : sub [.rings, .pool] bs = true) (h : Touches bs s x) :
    Touches bs s { x with rings := v0, pool := v1 } :=
  h.trans (Touches.mono (bs := [.rings, .pool]) (by intro b hb; cases b <;> first | rfl | simp at hb) hb)

theorem upd_rings_regs {bs : List Block} {s x : State} {v0 : Rings} {v1 : Regs} (hb : sub [.rings, .regs] bs = true) (h : Touches bs s x) :
    Touches bs s { x with rings := v0, regs := v1 } :=
  h.trans (Touches.mono (bs := [.rings, .regs]) (by intro b hb; cases b <;> first | rfl | simp at hb) hb)

theorem upd_slots {bs : List Block} {s x : State} {v0 : Tab Slot} (hb : sub [.slots] bs = true) (h : Touches bs s x) :
    Touches bs s { x with slots := v0 } :=
  h.trans (Touches.mono (bs := [.slots]) (by intro b hb; cases b <;> first | rfl | simp at hb) hb)

theorem upd_tiles {bs : List Block} {s x : State} {v0 : Tiles} (hb : sub [.tiles] bs = true) (h : Touches bs s x) :
    Touches bs s { x with tiles := v0 } :=
  h.trans (Touches.mono (bs := [.tiles]) (by intro b hb; cases b <;> first | rfl | simp at hb) hb)

theorem upd_win {bs : List Block} {s x : State} {v0 : Windows} (hb : sub [.win] bs = true) (h : Touches bs s x) :
    Touches bs s { x with win := v0 } :=
  h.trans (Touches.mono (bs := [.win]) (by intro b hb; cases b <;> first | rfl | simp at hb) hb)

theorem upd_win_fw {bs : List Block} {s x : State} {v0 : Windows} {v1 : Fw} (hb : sub [.win, .fw] bs = true) (h : Touches bs s x) :
    Touches bs s { x with win := v0, fw := v1 } :=
  h.trans (Touches.mono (bs := [.win, .fw]) (by intro b hb; cases b <;> first | rfl | simp at hb) hb)

end Sys2Proof.Machine
end

