-- ==== Sys2Proof/Laws/Frames1.lean ====
section
/-! SUPPORT. What the shared operations leave alone, part 1: one lemma each, from State.withFetchWord to setHalves. -/

namespace Sys2Proof.Machine

theorem State.withFetchWord_touches (s : State) (_nbits : Nat) (_w : Nat) : Touches [] s (State.withFetchWord s _nbits _w) := by
  unfold State.withFetchWord
  exact (Touches.refl _ _)

theorem abortLoads_touches (s : State) : Touches [.slots] s (abortLoads s) := by
  unfold abortLoads
  dsimp only
  exact (upd_slots rfl (Touches.refl _ _))

theorem updPc_touches (n : Nat) (f : Pc → Pc) (s : State) : Touches [.hbm] s (updPc n f s) := by
  unfold updPc
  dsimp only
  exact (upd_hbm rfl (Touches.refl _ _))

theorem hbmWrite_touches (line : Nat) (d : LineData) (poison : Bool) (s : State) : Touches [.hbm] s (hbmWrite line d poison s) := by
  unfold hbmWrite
  dsimp only
  exact (Touches.before (touches_ite (Touches.mono (updPc_touches _ _ _) rfl) (Touches.refl _ _)) (upd_hbm rfl (Touches.refl _ _)))

theorem acceptBeat_touches (line : Nat) (b : Beat) (s : State) : Touches [.hbm] s (acceptBeat line b s) := by
  unfold acceptBeat
  exact (touches_ite (Touches.mono (hbmWrite_touches _ _ _ _) rfl) (Touches.refl _ _))

theorem emit_touches (o : Output) (s : State) : Touches [.out] s (emit o s) := by
  unfold emit
  exact (upd_out rfl (Touches.refl _ _))

theorem setPart_touches (k : Nat) (p : Part) (s : State) : Touches [.parts] s (setPart k p s) := by
  unfold setPart
  exact (upd_parts rfl (Touches.refl _ _))

theorem updPart_touches (k : Nat) (f : Part → Part) (s : State) : Touches [.parts] s (updPart k f s) := by
  unfold updPart
  exact (Touches.mono (setPart_touches _ _ _) rfl)

theorem updRun_touches (k : Nat) (f : Run → Run) (s : State) : Touches [.parts] s (updRun k f s) := by
  unfold updRun
  exact (Touches.mono (updPart_touches _ _ _) rfl)

theorem acceptHostBeat_touches (k : Nat) (beat : Nat) (h : HostRec) (r : Run) (s : State) : Touches [.parts, .out] s (acceptHostBeat k beat h r s) := by
  unfold acceptHostBeat
  dsimp only
  exact (by split; exact (Touches.refl _ _); exact (touches_ite (Touches.refl _ _) (Touches.before (Touches.mono (emit_touches _ _) rfl) (Touches.mono (updRun_touches _ _ _) rfl))))

theorem raiseVector_touches (fn : Nat) (v : Nat) (s : State) : Touches [.rings, .out] s (raiseVector fn v s) := by
  unfold raiseVector
  dsimp only
  exact (touches_ite (upd_rings rfl (Touches.refl _ _)) (Touches.mono (emit_touches _ _) rfl))

theorem mailboxDone_touches (bytes : Nat) (s : State) : Touches [.rings, .regs, .out] s (mailboxDone bytes s) := by
  unfold mailboxDone
  dsimp only
  exact (touches_ite (upd_regs rfl (Touches.refl _ _)) (Touches.before (Touches.mono (raiseVector_touches _ _ _) rfl) (upd_regs rfl (Touches.refl _ _))))

theorem updRing_touches (fn : Nat) (r : Nat) (f : Ring → Ring) (s : State) : Touches [.rings] s (updRing fn r f s) := by
  unfold updRing
  dsimp only
  exact (upd_rings rfl (Touches.refl _ _))

theorem ringInterrupt_touches (fn : Nat) (ring : Nat) (s : State) : Touches [.rings, .out] s (ringInterrupt fn ring s) := by
  unfold ringInterrupt
  dsimp only
  exact (Touches.before (touches_ite (Touches.refl _ _) (Touches.mono (raiseVector_touches _ _ _) rfl)) (Touches.mono (updRing_touches _ _ _ _) rfl))

theorem moderate_touches (fn : Nat) (ring : Nat) (silent : Bool) (s : State) : Touches [.rings, .out] s (moderate fn ring silent s) := by
  unfold moderate
  dsimp only
  exact (touches_ite (Touches.refl _ _) (touches_ite (Touches.mono (ringInterrupt_touches _ _ _) rfl) (Touches.mono (updRing_touches _ _ _ _) rfl)))

theorem postCompletion_touches (fn : Nat) (ring : Nat) (seq : BitVec 32) (user : BitVec 32) (silent : Bool) (frame : Nat) (d : Done) (s : State) : Touches [.rings, .out] s (postCompletion fn ring seq user silent frame d s) := by
  unfold postCompletion
  dsimp only
  exact (Touches.before (Touches.mono (moderate_touches _ _ _ _) rfl) (Touches.before (Touches.mono (updRing_touches _ _ _ _) rfl) (Touches.mono (emit_touches _ _) rfl)))

theorem completeOutst_touches (fn : Nat) (ring : Nat) (o : Outst) (d : Done) (s : State) : Touches [.rings, .out] s (completeOutst fn ring o d s) := by
  unfold completeOutst
  exact (Touches.before (Touches.mono (postCompletion_touches _ _ _ _ _ _ _ _) rfl) (Touches.mono (updRing_touches _ _ _ _) rfl))

theorem serviceDone_touches (fn : Nat) (o : Outst) (status : Nat) (tag : Nat) (bytes : Nat) (s : State) : Touches [.rings, .out] s (serviceDone fn o status tag bytes s) := by
  unfold serviceDone
  exact (Touches.mono (completeOutst_touches _ _ _ _ _) rfl)

theorem mciDeliver_touches (op : Nat) (q : MciReq) (status : Nat) (detail : Nat) (rlen : Nat) (params : Nat) (item : Option Outst) (s : State) : Touches [.rings, .regs, .out] s (mciDeliver op q status detail rlen params item s) := by
  unfold mciDeliver
  dsimp only
  exact (touches_ite (Touches.before (Touches.mono (mailboxDone_touches _ _) rfl) (Touches.mono (emit_touches _ _) rfl)) (touches_ite (by split; exact (Touches.mono (emit_touches _ _) rfl); exact (Touches.before (Touches.mono (serviceDone_touches _ _ _ _ _ _) rfl) (Touches.before (Touches.mono (emit_touches _ _) rfl) (Touches.mono (emit_touches _ _) rfl)))) (Touches.mono (emit_touches _ _) rfl)))

theorem mciAnswer_touches (op : Nat) (q : MciReq) (status : Nat) (detail : Nat) (rlen : Nat) (params : Nat) (s : State) : Touches [.rings, .regs, .fw, .out] s (mciAnswer op q status detail rlen params s) := by
  unfold mciAnswer
  dsimp only
  exact (Touches.before (Touches.mono (mciDeliver_touches _ _ _ _ _ _ _ _) rfl) (upd_fw rfl (Touches.refl _ _)))

theorem mciReply_touches (op : Nat) (who : Nat) (tag : Nat) (status : Nat) (detail : Nat) (rlen : Nat) (params : Nat) (s : State) : Touches [.rings, .regs, .fw, .out] s (mciReply op who tag status detail rlen params s) := by
  unfold mciReply
  exact (touches_ite (Touches.mono (mciAnswer_touches _ _ _ _ _ _ _) rfl) (Touches.refl _ _))

theorem updPort_touches (p : Nat) (f : LPort → LPort) (s : State) : Touches [.lat] s (updPort p f s) := by
  unfold updPort
  dsimp only
  exact (upd_lat rfl (Touches.refl _ _))

theorem queueFlit_touches (p : Nat) (f : Flit) (s : State) : Touches [.lat] s (queueFlit p f s) := by
  unfold queueFlit
  exact (Touches.mono (updPort_touches _ _ _) rfl)

theorem sendFlit_touches (out : Nat) (inPort : Option Nat) (f : Flit) (s : State) : Touches [.lat] s (sendFlit out inPort f s) := by
  unfold sendFlit
  exact (Touches.mono (queueFlit_touches _ _ _) rfl)

theorem sendRsp_touches (dst : Nat) (uop : Nat) (tag : Nat) (region : Nat) (nl : Nat) (poison : Nat) (off : Nat) (status : Nat) (body : Nat) (s : State) : Touches [.lat] s (sendRsp dst uop tag region nl poison off status body s) := by
  unfold sendRsp
  dsimp only
  exact (by split; exact (upd_lat rfl (Touches.refl _ _)); exact (Touches.before (Touches.mono (sendFlit_touches _ _ _ _) rfl) (upd_lat rfl (Touches.refl _ _))))

theorem answerTable_touches (who : Nat) (opx : Nat) (tag : Nat) (status : Nat) (s : State) : Touches [.rings, .regs, .fw, .lat, .out] s (answerTable who opx tag status s) := by
  unfold answerTable
  exact (touches_ite (Touches.mono (sendRsp_touches _ _ _ _ _ _ _ _ _ _) rfl) (touches_ite (Touches.mono (mciReply_touches _ _ _ _ _ _ _ _) rfl) (Touches.mono (mciReply_touches _ _ _ _ _ _ _ _) rfl)))

theorem updRegion_touches (r : Nat) (f : Region → Region) (s : State) : Touches [.pool] s (updRegion r f s) := by
  unfold updRegion
  dsimp only
  exact (upd_pool rfl (Touches.refl _ _))

theorem accessRun_touches (who : Nat) (tag : Nat) (x : Nat) (s : State) : Touches [.rings, .regs, .fw, .lat, .pool, .out] s (accessRun who tag x s) := by
  unfold accessRun
  exact (touches_ite (Touches.mono (answerTable_touches _ _ _ _ _) rfl) (Touches.before (Touches.mono (answerTable_touches _ _ _ _ _) rfl) (Touches.mono (updRegion_touches _ _ _) rfl)))

theorem updTile_touches (t : Nat) (f : Tile → Tile) (s : State) : Touches [.tiles] s (updTile t f s) := by
  unfold updTile
  dsimp only
  exact (upd_tiles rfl (Touches.refl _ _))

theorem sendTile_touches (t : Nat) (sub : Nat) (chunk : Nat) (content : Nat) (n : Nat) (s : State) : Touches [.tiles, .out] s (sendTile t sub chunk content n s) := by
  unfold sendTile
  exact (Touches.before (Touches.mono (emit_touches _ _) rfl) (Touches.mono (updTile_touches _ _ _) rfl))

theorem sendAck_touches (t : Nat) (seq : Nat) (s : State) : Touches [.tiles, .out] s (sendAck t seq s) := by
  unfold sendAck
  exact (Touches.mono (sendTile_touches _ _ _ _ _ _) rfl)

theorem ackAgain_touches (t : Nat) (chunk : Nat) (seq : Nat) (over_ : Bool) (s : State) : Touches [.tiles, .out] s (ackAgain t chunk seq over_ s) := by
  unfold ackAgain
  exact (touches_ite (Touches.mono (sendAck_touches _ _ _) rfl) (Touches.refl _ _))

theorem emitAll_touches (os : List Output) (s : State) : Touches [.out] s (emitAll os s) := by
  unfold emitAll
  exact (upd_out rfl (Touches.refl _ _))

theorem updateBoxes_touches (s : State) : Touches [.pool] s (updateBoxes s) := by
  unfold updateBoxes
  dsimp only
  exact (upd_pool rfl (Touches.refl _ _))

theorem aclInForce_touches (region : Nat) (l : List Access) (mode : Nat) (s : State) : Touches [.pool, .out] s (aclInForce region l mode s) := by
  unfold aclInForce
  dsimp only
  exact (Touches.before (Touches.mono (updateBoxes_touches _) rfl) (Touches.before (touches_ite (Touches.mono (emitAll_touches _ _) rfl) (Touches.refl _ _)) (Touches.mono (updRegion_touches _ _ _) rfl)))

theorem updPipe_touches (k : Nat) (f : Pipe → Pipe) (s : State) : Touches [.parts] s (updPipe k f s) := by
  unfold updPipe
  exact (Touches.mono (updPart_touches _ _ _) rfl)

theorem addDue_touches (k : Nat) (ds : List Due) (s : State) : Touches [.parts] s (addDue k ds s) := by
  unfold addDue
  exact (Touches.mono (updPipe_touches _ _ _) rfl)

theorem consumeLines_touches (fn : Nat) (ring : Nat) (x : Nat) (lines : Nat) (s : State) : Touches [.rings] s (consumeLines fn ring x lines s) := by
  unfold consumeLines
  dsimp only
  exact (Touches.before (upd_rings rfl (Touches.refl _ _)) (Touches.mono (updRing_touches _ _ _ _) rfl))

theorem consume_touches (fn : Nat) (ring : Nat) (x : Nat) (s : State) : Touches [.rings] s (consume fn ring x s) := by
  unfold consume
  exact (Touches.mono (consumeLines_touches _ _ _ _ _) rfl)

theorem admitRun_touches (k : Nat) (n : Nat) (fn : Nat) (ring : Nat) (im : Image) (s : State) : Touches [.parts, .rings, .logs] s (admitRun k n fn ring im s) := by
  unfold admitRun
  dsimp only
  exact (by split; exact (Touches.before (Touches.mono (updPart_touches _ _ _) rfl) (Touches.before (upd_logs rfl (Touches.refl _ _)) (Touches.mono (consume_touches _ _ _ _) rfl))); exact (Touches.refl _ _))

theorem launchReq_touches (r : OutReq) (s : State) : Touches [.lat] s (launchReq r s) := by
  unfold launchReq
  dsimp only
  exact (by split; exact (upd_lat rfl (Touches.refl _ _)); exact (Touches.before (Touches.mono (sendFlit_touches _ _ _ _) rfl) (upd_lat rfl (Touches.refl _ _))))

theorem admitWaiting_touches (dst : Nat) (s : State) : Touches [.lat] s (admitWaiting dst s) := by
  unfold admitWaiting
  dsimp only
  exact (by split; exact (Touches.refl _ _); exact (touches_ite (Touches.before (Touches.mono (launchReq_touches _ _) rfl) (upd_lat rfl (Touches.refl _ _))) (Touches.refl _ _)))

theorem countBy_touches (id : Nat) (idx : Nat) (n : Nat) (s : State) : Touches [.counters] s (countBy id idx n s) := by
  unfold countBy
  exact (upd_counters rfl (Touches.refl _ _))

theorem countUp_touches (id : Nat) (idx : Nat) (s : State) : Touches [.counters] s (countUp id idx s) := by
  unfold countUp
  exact (Touches.mono (countBy_touches _ _ _ _) rfl)

theorem sendFault_touches (p : FaultPkt) (s : State) : Touches [.ctl, .counters] s (sendFault p s) := by
  unfold sendFault
  dsimp only
  exact (touches_ite (upd_ctl rfl (Touches.refl _ _)) (Touches.before (Touches.mono (countUp_touches _ _ _) rfl) (upd_ctl rfl (Touches.refl _ _))))

theorem routerFault_touches (reason : Nat) (sev : Nat) (router : Nat) (detail : Option Nat) (s : State) : Touches [.ctl, .counters] s (routerFault reason sev router detail s) := by
  unfold routerFault
  exact (Touches.mono (sendFault_touches _ _) rfl)

theorem countErrors_touches (queue : Bool) (router : Nat) (line : Nat) (bad : Nat) (single : Nat) (s : State) : Touches [.buf, .ctl, .counters] s (countErrors queue router line bad single s) := by
  unfold countErrors
  dsimp only
  exact (Touches.before (touches_ite (Touches.refl _ _) (Touches.before (touches_ite (Touches.mono (routerFault_touches _ _ _ _ _) rfl) (Touches.refl _ _)) (Touches.before (touches_ite (Touches.refl _ _) (Touches.mono (routerFault_touches _ _ _ _ _) rfl)) (Touches.before (Touches.mono (countBy_touches _ _ _ _) rfl) (upd_buf rfl (Touches.refl _ _)))))) (touches_ite (Touches.refl _ _) (Touches.before (touches_ite (Touches.mono (routerFault_touches _ _ _ _ _) rfl) (Touches.refl _ _)) (Touches.before (Touches.mono (countBy_touches _ _ _ _) rfl) (upd_buf rfl (Touches.refl _ _))))))

theorem injectDone_touches (s : State) : Touches [.regs] s (injectDone s) := by
  unfold injectDone
  dsimp only
  exact (upd_regs rfl (Touches.refl _ _))

theorem putTickLine_touches (e : TickLine) (s : State) : Touches [.buf] s (putTickLine e s) := by
  unfold putTickLine
  dsimp only
  exact (upd_buf rfl (Touches.refl _ _))

theorem spoilWord_touches (router : Nat) (line : Nat) (double : Bool) (s : State) : Touches [.buf] s (spoilWord router line double s) := by
  unfold spoilWord
  dsimp only
  exact (by split; exact (touches_ite (upd_buf rfl (Touches.refl _ _)) (upd_buf rfl (Touches.refl _ _))); exact (Touches.mono (putTickLine_touches _ _) rfl))

theorem injectLine_touches (router : Nat) (line : Nat) (s : State) : Touches [.buf, .regs] s (injectLine router line s) := by
  unfold injectLine
  exact (touches_ite (Touches.before (Touches.mono (injectDone_touches _) rfl) (Touches.mono (spoilWord_touches _ _ _ _) rfl)) (touches_ite (Touches.before (Touches.mono (injectDone_touches _) rfl) (Touches.mono (spoilWord_touches _ _ _ _) rfl)) (Touches.refl _ _)))

theorem schedRead_touches (router : Nat) (line : Nat) (s : State) : Touches [.buf, .ctl, .regs, .counters] s (schedRead router line s).2 := by
  unfold schedRead
  dsimp only
  exact (Touches.before (Touches.mono (countErrors_touches _ _ _ _ _ _) rfl) (Touches.mono (injectLine_touches _ _ _) rfl))

theorem portRead_touches (k : Nat) (router : Nat) (line : Nat) (ctx : Bool) (byRead : Bool) (s : State) : Touches [.parts, .buf, .ctl, .regs, .counters] s (portRead k router line ctx byRead s).2 := by
  unfold portRead
  dsimp only
  exact (Touches.before (Touches.mono (updPart_touches _ _ _) rfl) (Touches.mono (schedRead_touches _ _ _) rfl))

theorem branchNow_touches (k : Nat) (im : Image) (v : Variant) (s : State) : Touches [.parts, .buf, .ctl, .regs, .counters] s (branchNow k im v s) := by
  unfold branchNow
  dsimp only
  exact (Touches.before (Touches.mono (updRun_touches _ _ _) rfl) (Touches.mono (portRead_touches _ _ _ _ _ _) rfl))

theorem doBranch_touches (k : Nat) (s : State) : Touches [.parts, .buf, .ctl, .regs, .counters] s (doBranch k s) := by
  unfold doBranch
  exact (by split; exact (Touches.mono (branchNow_touches _ _ _ _) rfl); exact (Touches.refl _ _))

theorem deliverFold_touches (k : Nat) (router : Nat) (inp : Nat) (outs : Nat) (acc : BitVec 1024) (type : Nat) (sr : Bool) (poison : Bool) (bsel : Bool) (s : State) : Touches [.parts, .buf, .out] s (deliverFold k router inp outs acc type sr poison bsel s) := by
  unfold deliverFold
  dsimp only
  exact (touches_ite (upd_buf rfl (Touches.refl _ _)) (Touches.before (Touches.mono (emitAll_touches _ _) rfl) (Touches.mono (updPipe_touches _ _ _) rfl)))

theorem noteWrite_touches (k : Nat) (router : Nat) (lo : Nat) (n : Nat) (hit : Option Nat) (control : Bool) (s : State) : Touches [.parts] s (noteWrite k router lo n hit control s) := by
  unfold noteWrite
  dsimp only
  exact (Touches.mono (updPart_touches _ _ _) rfl)

theorem noteLine_touches (k : Nat) (router : Nat) (line : Nat) (s : State) : Touches [.parts] s (noteLine k router line s) := by
  unfold noteLine
  exact (Touches.mono (noteWrite_touches _ _ _ _ _ _ _) rfl)

theorem mirrorWrite_touches (key : Nat) (mask : Nat) (s : State) : Touches [.buf] s (mirrorWrite key mask s) := by
  unfold mirrorWrite
  dsimp only
  exact (upd_buf rfl (Touches.refl _ _))

theorem storeLine_touches (router : Nat) (line : Nat) (d : LineData) (mask : LineMask) (poison : Bool) (sched : Bool) (s : State) : Touches [.buf, .ctl, .counters] s (storeLine router line d mask poison sched s) := by
  unfold storeLine
  dsimp only
  exact (Touches.before (Touches.mono (mirrorWrite_touches _ _ _) rfl) (Touches.before (Touches.mono (putTickLine_touches _ _) rfl) (Touches.mono (countErrors_touches _ _ _ _ _ _) rfl)))

theorem schedWrite_touches (router : Nat) (line : Nat) (b : Beat) (mask : LineMask) (s : State) : Touches [.buf, .ctl, .counters] s (schedWrite router line b mask s) := by
  unfold schedWrite
  exact (Touches.mono (storeLine_touches _ _ _ _ _ _ _) rfl)

theorem sendOperand_touches (router : Nat) (b : Beat) (s : State) : Touches [.out] s (sendOperand router b s) := by
  unfold sendOperand
  exact (Touches.mono (emit_touches _ _) rfl)

theorem breach_touches (k : Nat) (status : Nat) (hold : Bool) (s : State) : Touches [.parts] s (breach k status hold s) := by
  unfold breach
  exact (Touches.mono (updPart_touches _ _ _) rfl)

theorem socketStall_touches (router : Nat) (terr : Bool) (s : State) : Touches [.parts, .ctl, .tiles, .counters] s (socketStall router terr s) := by
  unfold socketStall
  dsimp only
  exact (touches_ite (touches_ite (Touches.refl _ _) (upd_tiles rfl (Touches.refl _ _))) (by split; exact (Touches.before (Touches.mono (breach_touches _ _ _ _) rfl) (Touches.before (Touches.mono (routerFault_touches _ _ _ _ _) rfl) (touches_ite (Touches.refl _ _) (upd_tiles rfl (Touches.refl _ _))))); exact (Touches.before (Touches.mono (routerFault_touches _ _ _ _ _) rfl) (touches_ite (Touches.refl _ _) (upd_tiles rfl (Touches.refl _ _))))))

theorem doWork_touches (k : Nat) (w : Work) (s : State) : Touches [.parts, .buf, .ctl, .tiles, .regs, .counters, .out] s (doWork k w s) := by
  unfold doWork
  dsimp only
  exact (by split; exact (Touches.before (Touches.mono (sendOperand_touches _ _ _) rfl) (Touches.mono (portRead_touches _ _ _ _ _ _) rfl)); exact (Touches.before (Touches.mono (noteWrite_touches _ _ _ _ _ _ _) rfl) (Touches.mono (socketStall_touches _ _ _) rfl)); exact (Touches.before (Touches.mono (noteLine_touches _ _ _ _) rfl) (Touches.mono (storeLine_touches _ _ _ _ _ _ _) rfl)); exact (Touches.before (Touches.mono (addDue_touches _ _ _) rfl) (Touches.mono (portRead_touches _ _ _ _ _ _) rfl)); exact (Touches.before (Touches.mono (noteLine_touches _ _ _ _) rfl) (Touches.mono (schedWrite_touches _ _ _ _ _) rfl)); exact (Touches.mono (deliverFold_touches _ _ _ _ _ _ _ _ _ _) rfl))

theorem dropDue_touches (k : Nat) (d : Due) (s : State) : Touches [.parts] s (dropDue k d s) := by
  unfold dropDue
  exact (Touches.mono (updPipe_touches _ _ _) rfl)

theorem updParts_touches (f : Nat → Part → Part) (s : State) : Touches [.parts] s (updParts f s) := by
  unfold updParts
  exact (upd_parts rfl (Touches.refl _ _))

theorem applySetting_touches (x : BitVec 9) (s : State) : Touches [.clk, .parts] s (applySetting x s) := by
  unfold applySetting
  dsimp only
  exact (touches_ite (Touches.refl _ _) (Touches.before (Touches.mono (updParts_touches _ _) rfl) (upd_clk rfl (Touches.refl _ _))))

theorem rawTicks_touches (n : Nat) (s : State) : Touches [.clk, .parts] s (rawTicks n s) := by
  unfold rawTicks
  dsimp only
  exact (Touches.before (Touches.mono (updParts_touches _ _) rfl) (upd_clk rfl (Touches.refl _ _)))

theorem passTo_touches (target : Nat) (s : State) : Touches [.clk, .parts] s (passTo target s) := by
  unfold passTo
  dsimp only
  exact (by split; exact (Touches.mono (rawTicks_touches _ _) rfl); exact (touches_ite (Touches.before (Touches.mono (rawTicks_touches _ _) rfl) (Touches.before (Touches.mono (applySetting_touches _ _) rfl) (Touches.before (upd_clk rfl (Touches.refl _ _)) (Touches.mono (rawTicks_touches _ _) rfl)))) (Touches.mono (rawTicks_touches _ _) rfl)))

theorem advanceLoop_touches (x0 : Nat) (x1 : Nat) (x2 : State) : Touches [.clk, .parts, .buf, .ctl, .tiles, .regs, .counters, .out] x2 (advanceLoop x0 x1 x2) := by
  induction x0 generalizing x2 with
  | zero => exact Touches.mono (passTo_touches _ _) rfl
  | succ n ih =>
    unfold advanceLoop
    split
    · exact touches_ite (Touches.before (ih _) (Touches.after (doBranch_touches _ _) rfl (Touches.mono (passTo_touches _ _) rfl)))
        (Touches.mono (passTo_touches _ _) rfl)
    · split
      · exact Touches.mono (passTo_touches _ _) rfl
      · exact touches_ite (Touches.before (ih _) (Touches.after (doWork_touches _ _ _) rfl (Touches.after (dropDue_touches _ _ _) rfl
          (Touches.mono (passTo_touches _ _) rfl)))) (Touches.mono (passTo_touches _ _) rfl)

theorem advanceFree_touches (target : Nat) (s : State) : Touches [.clk, .parts, .buf, .ctl, .tiles, .regs, .counters, .out] s (advanceFree target s) := by
  unfold advanceFree
  exact (Touches.mono (advanceLoop_touches _ _ _) rfl)

theorem holdTick_touches (s : State) : Touches [.clk, .lat] s (holdTick s) := by
  unfold holdTick
  dsimp only
  exact (upd_clk_lat rfl (Touches.refl _ _))

theorem advanceTo_touches (target : Nat) (s : State) : Touches [.clk, .parts, .buf, .ctl, .tiles, .regs, .lat, .counters, .out] s (advanceTo target s) := by
  unfold advanceTo
  dsimp only
  exact (touches_ite (Touches.refl _ _) (touches_ite (Touches.before (Touches.mono (holdTick_touches _) rfl) (Touches.mono (advanceFree_touches _ _) rfl)) (Touches.mono (advanceFree_touches _ _) rfl)))

theorem advance_touches (n : Nat) (s : State) : Touches [.clk, .parts, .buf, .ctl, .tiles, .regs, .lat, .counters, .out] s (advance n s) := by
  unfold advance
  exact (Touches.mono (advanceTo_touches _ _) rfl)

theorem cxlAnswer_touches (who : Nat) (tag : Nat) (write : Bool) (d : LineData) (poison : Bool) (s : State) : Touches [.out] s (cxlAnswer who tag write d poison s) := by
  unfold cxlAnswer
  exact (Touches.mono (emit_touches _ _) rfl)

theorem dropAcc_touches (id : Nat) (s : State) : Touches [.pool] s (dropAcc id s) := by
  unfold dropAcc
  dsimp only
  exact (upd_pool rfl (Touches.refl _ _))

theorem sendReq_touches (dst : Nat) (uop : Nat) (region : Nat) (nl : Nat) (poison : Nat) (off : Nat) (body : Nat) (kind : Nat) (ref : Nat) (s : State) : Touches [.lat, .out] s (sendReq dst uop region nl poison off body kind ref s) := by
  unfold sendReq
  dsimp only
  exact (Touches.before (touches_ite (Touches.mono (launchReq_touches _ _) rfl) (upd_lat rfl (Touches.refl _ _))) (Touches.before (Touches.mono (emit_touches _ _) rfl) (upd_lat rfl (Touches.refl _ _))))

theorem sendTable_touches (m : Nat) (region : Nat) (body : Nat) (kind : Nat) (ref : Nat) (s : State) : Touches [.lat, .out] s (sendTable m region body kind ref s) := by
  unfold sendTable
  exact (Touches.mono (sendReq_touches _ _ _ _ _ _ _ _ _ _) rfl)

theorem replicate_touches (region : Nat) (s : State) : Touches [.lat, .out] s (replicate region s) := by
  unfold replicate
  exact (touches_foldl (Touches.refl _ _) (fun _ _ => (Touches.mono (sendTable_touches _ _ _ _ _ _) rfl)))

theorem rebuilt_touches (r : Nat) (s : State) : Touches [.lat, .pool, .out] s (rebuilt r s) := by
  unfold rebuilt
  dsimp only
  exact (touches_ite (Touches.refl _ _) (touches_ite (Touches.before (Touches.mono (replicate_touches _ _) rfl) (Touches.mono (updRegion_touches _ _ _) rfl)) (Touches.mono (updRegion_touches _ _ _) rfl)))

theorem servedLine_touches (src : Nat) (tag : Nat) (i : Nat) (data : LineData) (poison : Bool) (status : Nat) (s : State) : Touches [.lat, .pool] s (servedLine src tag i data poison status s) := by
  unfold servedLine
  dsimp only
  exact (by split; exact (Touches.refl _ _); exact (touches_ite (upd_pool rfl (Touches.refl _ _)) (Touches.before (Touches.mono (sendRsp_touches _ _ _ _ _ _ _ _ _ _) rfl) (upd_pool rfl (Touches.refl _ _)))))

theorem updCmd_touches (id : Nat) (f : PoolCmd → PoolCmd) (s : State) : Touches [.pool] s (updCmd id f s) := by
  unfold updCmd
  dsimp only
  exact (upd_pool rfl (Touches.refl _ _))

theorem queueLocal_touches (a : PoolAcc) (write : Bool) (s : State) : Touches [.hbm, .dense] s (queueLocal a write s) := by
  unfold queueLocal
  dsimp only
  exact (by split; exact (Touches.mono (updPc_touches _ _ _) rfl); exact (upd_dense rfl (Touches.refl _ _)); exact (Touches.refl _ _))

theorem setAcc_touches (a : PoolAcc) (s : State) : Touches [.pool] s (setAcc a s) := by
  unfold setAcc
  dsimp only
  exact (upd_pool rfl (Touches.refl _ _))

theorem wakeReads_touches (a : PoolAcc) (s : State) : Touches [.hbm, .dense, .pool] s (wakeReads a s) := by
  unfold wakeReads
  dsimp only
  exact (touches_ite (Touches.refl _ _) (touches_foldl (Touches.refl _ _) (fun _ _ => (Touches.before (Touches.mono (queueLocal_touches _ _ _) rfl) (Touches.mono (setAcc_touches _ _) rfl)))))

theorem finishAcc_touches (a : PoolAcc) (d : LineData) (poison : Bool) (status : Nat) (sIn : State) : Touches [.hbm, .dense, .lat, .pool, .out] sIn (finishAcc a d poison status sIn) := by
  unfold finishAcc
  dsimp only
  exact (by split; exact (Touches.before (Touches.mono (cxlAnswer_touches _ _ _ _ _ _) rfl) (Touches.before (Touches.mono (wakeReads_touches _ _) rfl) (Touches.mono (dropAcc_touches _ _) rfl))); exact (Touches.before (Touches.mono (servedLine_touches _ _ _ _ _ _ _) rfl) (Touches.before (Touches.mono (wakeReads_touches _ _) rfl) (Touches.mono (dropAcc_touches _ _) rfl))); exact (Touches.before (Touches.mono (rebuilt_touches _ _) rfl) (Touches.before (Touches.mono (wakeReads_touches _ _) rfl) (Touches.mono (dropAcc_touches _ _) rfl))); exact (Touches.before (Touches.mono (updCmd_touches _ _ _) rfl) (Touches.before (Touches.mono (wakeReads_touches _ _) rfl) (Touches.mono (dropAcc_touches _ _) rfl))))

theorem sendAcc_touches (m : Nat) (uop : Nat) (nl : Nat) (a : PoolAcc) (d : LineData) (poison : Bool) (s : State) : Touches [.lat, .out] s (sendAcc m uop nl a d poison s) := by
  unfold sendAcc
  exact (Touches.mono (sendReq_touches _ _ _ _ _ _ _ _ _ _) rfl)

theorem afterWrite_touches (a : PoolAcc) (old : Beat) (s : State) : Touches [.hbm, .dense, .lat, .pool, .out] s (afterWrite a old s) := by
  unfold afterWrite
  dsimp only
  exact (touches_ite (touches_ite (Touches.mono (finishAcc_touches _ _ _ _ _) rfl) (Touches.before (Touches.mono (sendAcc_touches _ _ _ _ _ _ _) rfl) (Touches.mono (setAcc_touches _ _) rfl))) (touches_ite (touches_ite (Touches.mono (finishAcc_touches _ _ _ _ _) rfl) (Touches.before (Touches.mono (sendAcc_touches _ _ _ _ _ _ _) rfl) (Touches.mono (setAcc_touches _ _) rfl))) (Touches.mono (finishAcc_touches _ _ _ _ _) rfl)))

theorem answerMailbox_touches (s : State) : Touches [.rings, .regs, .out] s (answerMailbox s) := by
  unfold answerMailbox
  exact (touches_ite (Touches.mono (mailboxDone_touches _ _) rfl) (Touches.refl _ _))

theorem answerReset_touches (fn : Nat) (s : State) : Touches [.rings, .out] s (answerReset fn s) := by
  unfold answerReset
  exact (touches_foldl (Touches.refl _ _) (fun _ _ => (Touches.mono (serviceDone_touches _ _ _ _ _ _) rfl)))

theorem goAlone_touches (s : State) : Touches [.pm, .lat] s (goAlone s) := by
  unfold goAlone
  dsimp only
  exact (upd_pm_lat rfl (Touches.refl _ _))

theorem writeSetting_touches (x : BitVec 9) (s : State) : Touches [.clk] s (writeSetting x s) := by
  unfold writeSetting
  dsimp only
  exact (upd_clk rfl (Touches.refl _ _))

theorem putSetting_touches (x : BitVec 9) (s : State) : Touches [.clk] s (putSetting x s) := by
  unfold putSetting
  exact (touches_ite (Touches.refl _ _) (Touches.mono (writeSetting_touches _ _) rfl))

theorem sendCtrl_touches (port : Nat) (x : Nat) (s : State) : Touches [.lat, .out] s (sendCtrl port x s) := by
  unfold sendCtrl
  exact (touches_ite (Touches.before (Touches.mono (emit_touches _ _) rfl) (Touches.mono (sendFlit_touches _ _ _ _) rfl)) (Touches.refl _ _))

theorem takeRequest_touches (m : Nat) (x : BitVec 9) (s : State) : Touches [.pm, .lat, .out] s (takeRequest m x s) := by
  unfold takeRequest
  dsimp only
  exact (touches_ite (upd_lat rfl (Touches.refl _ _)) (touches_foldl (upd_pm_lat rfl (Touches.refl _ _)) (fun _ _ => (by split; exact (Touches.refl _ _); exact (Touches.mono (sendCtrl_touches _ _ _) rfl)))))

theorem requestSetting_touches (x : BitVec 9) (s : State) : Touches [.pm, .lat, .out] s (requestSetting x s) := by
  unfold requestSetting
  dsimp only
  exact (touches_ite (Touches.before (Touches.mono (takeRequest_touches _ _ _) rfl) (upd_pm rfl (Touches.refl _ _))) (by split; exact (upd_pm rfl (Touches.refl _ _)); exact (Touches.before (Touches.mono (sendCtrl_touches _ _ _) rfl) (upd_pm rfl (Touches.refl _ _)))))

theorem applyOwn_touches (m : PowerIn) (s : State) : Touches [.clk, .pm, .lat, .out] s (applyOwn m s) := by
  unfold applyOwn
  dsimp only
  exact (touches_ite (Touches.before (Touches.mono (putSetting_touches _ _) rfl) (upd_pm rfl (Touches.refl _ _))) (by split; exact (Touches.before (touches_ite (Touches.mono (putSetting_touches _ _) rfl) (Touches.refl _ _)) (Touches.before (upd_pm rfl (Touches.refl _ _)) (touches_ite (Touches.mono (requestSetting_touches _ _) rfl) (Touches.refl _ _)))); exact (Touches.before (Touches.mono (putSetting_touches _ _) rfl) (Touches.before (Touches.mono (goAlone_touches _) rfl) (Touches.before (upd_pm rfl (Touches.refl _ _)) (touches_ite (Touches.mono (requestSetting_touches _ _) rfl) (Touches.refl _ _)))))))

theorem putWin_touches (w : StoredWin) (s : State) : Touches [.lat] s (putWin w s) := by
  unfold putWin
  dsimp only
  exact (upd_lat rfl (Touches.refl _ _))

theorem markLate_touches (s : State) : Touches [.lat] s (markLate s) := by
  unfold markLate
  dsimp only
  exact (touches_foldl (Touches.refl _ _) (fun _ _ => (touches_ite (Touches.refl _ _) (Touches.mono (putWin_touches _ _) rfl))))

theorem updPcs_touches (l : List Nat) (f : Nat → Pc → Pc) (s : State) : Touches [.hbm] s (updPcs l f s) := by
  unfold updPcs
  dsimp only
  exact (upd_hbm rfl (Touches.refl _ _))

theorem hbmSchedule_touches (l : List Nat) (s : State) : Touches [.hbm] s (hbmSchedule l s) := by
  unfold hbmSchedule
  exact (Touches.mono (updPcs_touches _ _ _) rfl)

theorem hbmUnprepare_touches (l : List Nat) (s : State) : Touches [.hbm, .out] s (hbmUnprepare l s) := by
  unfold hbmUnprepare
  exact (Touches.before (Touches.mono (emitAll_touches _ _) rfl) (Touches.mono (updPcs_touches _ _ _) rfl))

theorem loadMirrors_touches (rc : Rect) (lines : List (Nat × Nat)) (s : State) : Touches [.buf] s (loadMirrors rc lines s) := by
  unfold loadMirrors
  dsimp only
  exact (upd_buf rfl (Touches.refl _ _))

theorem resetComps_touches (rc : Rect) (s : State) : Touches [.comp] s (resetComps rc s) := by
  unfold resetComps
  dsimp only
  exact (upd_comp rfl (Touches.refl _ _))

theorem setSlot_touches (k : Nat) (v : Slot) (s : State) : Touches [.slots] s (setSlot k v s) := by
  unfold setSlot
  exact (upd_slots rfl (Touches.refl _ _))

theorem bindEffect_touches (k : Nat) (s : State) : Touches [.parts, .slots, .buf, .comp, .hbm, .out] s (bindEffect k s) := by
  unfold bindEffect
  dsimp only
  exact (by split; exact (Touches.refl _ _); exact (Touches.before (touches_ite (Touches.mono (hbmUnprepare_touches _ _) rfl) (Touches.mono (hbmSchedule_touches _ _) rfl)) (Touches.before (Touches.mono (updPart_touches _ _ _) rfl) (Touches.before (Touches.mono (loadMirrors_touches _ _ _) rfl) (Touches.before (Touches.mono (resetComps_touches _ _) rfl) (Touches.mono (setSlot_touches _ _ _) rfl))))))

theorem hbmPrepare_touches (l : List Nat) (s : State) : Touches [.hbm, .out] s (hbmPrepare l s) := by
  unfold hbmPrepare
  exact (Touches.before (Touches.mono (emitAll_touches _ _) rfl) (Touches.mono (updPcs_touches _ _ _) rfl))

theorem sendLanes_touches (t : Nat) (chunk : Nat) (s : State) : Touches [.tiles, .out] s (sendLanes t chunk s) := by
  unfold sendLanes
  dsimp only
  exact (Touches.before (Touches.mono (sendTile_touches _ _ _ _ _ _) rfl) (Touches.mono (updTile_touches _ _ _) rfl))

theorem startTransfer_touches (t : Nat) (es : List Nat) (s : State) : Touches [.tiles, .out] s (startTransfer t es s) := by
  unfold startTransfer
  exact (Touches.before (Touches.mono (sendLanes_touches _ _ _) rfl) (Touches.mono (updTile_touches _ _ _) rfl))

theorem setHalves_touches (t : Nat) (halves : List Nat) (s : State) : Touches [.tiles, .out] s (setHalves t halves s) := by
  unfold setHalves
  dsimp only
  exact (touches_ite (Touches.refl _ _) (Touches.mono (startTransfer_touches _ _ _) rfl))

end Sys2Proof.Machine
end

