-- ==== Sys2Proof/Laws/Frames2.lean ====
section
/-! SUPPORT. What the shared operations leave alone, part 2: one lemma each, from lanesFor to fatalRecord. -/

namespace Sys2Proof.Machine

theorem lanesFor_touches (rc : Rect) (im : Option Image) (s : State) : Touches [.tiles, .out] s (lanesFor rc im s) := by
  unfold lanesFor
  exact (touches_foldl (Touches.refl _ _) (fun _ _ => (touches_ite (Touches.refl _ _) (Touches.mono (setHalves_touches _ _ _) rfl))))

theorem updStack_touches (k : Nat) (f : Stack → Stack) (s : State) : Touches [.hbm] s (updStack k f s) := by
  unfold updStack
  dsimp only
  exact (upd_hbm rfl (Touches.refl _ _))

theorem leaveRefresh_touches (ks : List Nat) (s : State) : Touches [.hbm, .out] s (leaveRefresh ks s) := by
  unfold leaveRefresh
  exact (touches_foldl (Touches.refl _ _) (fun _ _ => (touches_ite (Touches.before (Touches.mono (emitAll_touches _ _) rfl) (Touches.mono (updStack_touches _ _ _) rfl)) (Touches.refl _ _))))

theorem startExit_touches (k : Nat) (s : State) : Touches [.parts, .hbm, .out] s (startExit k s) := by
  unfold startExit
  dsimp only
  exact (touches_ite (Touches.refl _ _) (Touches.before (Touches.mono (leaveRefresh_touches _ _) rfl) (Touches.mono (updPart_touches _ _ _) rfl)))

theorem bindBoundary_touches (k : Nat) (s : State) : Touches [.parts, .slots, .buf, .comp, .hbm, .tiles, .out] s (bindBoundary k s) := by
  unfold bindBoundary
  dsimp only
  exact (by split; exact (Touches.refl _ _); exact (touches_ite (Touches.mono (bindEffect_touches _ _) rfl) (touches_ite (Touches.refl _ _) (touches_ite (Touches.mono (startExit_touches _ _) rfl) (touches_ite (Touches.before (Touches.mono (lanesFor_touches _ _ _) rfl) (Touches.before (Touches.mono (hbmPrepare_touches _ _) rfl) (Touches.mono (updPart_touches _ _ _) rfl))) (Touches.refl _ _))))))

theorem clearRun_touches (k : Nat) (s : State) : Touches [.parts] s (clearRun k s) := by
  unfold clearRun
  exact (Touches.mono (updPart_touches _ _ _) rfl)

theorem dropWork_touches (k : Nat) (s : State) : Touches [.parts] s (dropWork k s) := by
  unfold dropWork
  exact (Touches.mono (updPipe_touches _ _ _) rfl)

theorem endOutst_touches (fn : Nat) (ring : Nat) (ticket : Nat) (d : Done) (s : State) : Touches [.rings] s (endOutst fn ring ticket d s) := by
  unfold endOutst
  exact (Touches.mono (updRing_touches _ _ _ _) rfl)

theorem endRun_touches (r : Run) (status : Nat) (s : State) : Touches [.rings] s (endRun r status s) := by
  unfold endRun
  exact (touches_ite (Touches.refl _ _) (Touches.mono (endOutst_touches _ _ _ _ _) rfl))

theorem nextFrame_touches (k : Nat) (variant : Nat) (frame : Nat) (yields : Bool) (s : State) : Touches [.parts] s (nextFrame k variant frame yields s) := by
  unfold nextFrame
  dsimp only
  exact (Touches.mono (updPart_touches _ _ _) rfl)

theorem startVariant_touches (k : Nat) (im : Image) (r : Run) (n : Nat) (yields : Bool) (s : State) : Touches [.parts, .rings] s (startVariant k im r n yields s) := by
  unfold startVariant
  exact (touches_ite (Touches.before (Touches.mono (clearRun_touches _ _) rfl) (Touches.mono (endRun_touches _ _ _) rfl)) (Touches.mono (nextFrame_touches _ _ _ _ _) rfl))

theorem endFrame_touches (k : Nat) (im : Image) (r : Run) (s : State) : Touches [.parts, .buf, .ctl, .rings, .regs, .counters] s (endFrame k im r s) := by
  unfold endFrame
  dsimp only
  exact (by split; exact (Touches.before (Touches.mono (dropWork_touches _ _) rfl) (Touches.before (Touches.mono (clearRun_touches _ _) rfl) (Touches.mono (endRun_touches _ _ _) rfl))); exact (by split; exact (touches_ite (Touches.before (Touches.mono (clearRun_touches _ _) rfl) (Touches.mono (endRun_touches _ _ _) rfl)) (Touches.mono (nextFrame_touches _ _ _ _ _) rfl)); exact (touches_ite (touches_ite (Touches.before (Touches.mono (clearRun_touches _ _) rfl) (Touches.mono (endRun_touches _ _ _) rfl)) (Touches.mono (startVariant_touches _ _ _ _ _ _) rfl)) (by split; exact (touches_ite (Touches.mono (branchNow_touches _ _ _ _) rfl) (Touches.refl _ _)); exact (by split; exact (Touches.before (Touches.mono (clearRun_touches _ _) rfl) (Touches.before (Touches.mono (endRun_touches _ _ _) rfl) (touches_ite (Touches.mono (branchNow_touches _ _ _ _) rfl) (Touches.refl _ _)))); exact (Touches.before (Touches.mono (startVariant_touches _ _ _ _ _ _) rfl) (touches_ite (Touches.mono (branchNow_touches _ _ _ _) rfl) (Touches.refl _ _))); exact (Touches.before (Touches.mono (clearRun_touches _ _) rfl) (Touches.before (Touches.mono (endRun_touches _ _ _) rfl) (touches_ite (Touches.mono (branchNow_touches _ _ _ _) rfl) (Touches.refl _ _)))))))))

theorem hbmPark_touches (l : List Nat) (s : State) : Touches [.hbm, .out] s (hbmPark l s) := by
  unfold hbmPark
  exact (Touches.before (Touches.mono (emitAll_touches _ _) rfl) (Touches.mono (updPcs_touches _ _ _) rfl))

theorem parkPart_touches (k : Nat) (im : Image) (s : State) : Touches [.parts, .hbm, .out] s (parkPart k im s) := by
  unfold parkPart
  exact (Touches.before (Touches.mono (hbmPark_touches _ _) rfl) (Touches.mono (updPart_touches _ _ _) rfl))

theorem parkedBoundary_touches (k : Nat) (im : Image) (s : State) : Touches [.parts, .hbm, .out] s (parkedBoundary k im s) := by
  unfold parkedBoundary
  dsimp only
  exact (touches_ite (Touches.before (Touches.mono (hbmSchedule_touches _ _) rfl) (Touches.mono (updPart_touches _ _ _) rfl)) (touches_ite (Touches.before (Touches.mono (hbmPrepare_touches _ _) rfl) (Touches.mono (updPart_touches _ _ _) rfl)) (Touches.before (Touches.mono (updPart_touches _ _ _) rfl) (touches_ite (Touches.mono (hbmUnprepare_touches _ _) rfl) (Touches.refl _ _)))))

theorem hbmRelease_touches (l : List Nat) (s : State) : Touches [.hbm] s (hbmRelease l s) := by
  unfold hbmRelease
  exact (Touches.mono (updPcs_touches _ _ _) rfl)

theorem cancelBind_touches (k : Nat) (s : State) : Touches [.parts, .slots, .hbm, .tiles, .out] s (cancelBind k s) := by
  unfold cancelBind
  dsimp only
  exact (by split; exact (Touches.refl _ _); exact (Touches.before (Touches.mono (lanesFor_touches _ _ _) rfl) (Touches.before (Touches.mono (hbmRelease_touches _ _) rfl) (Touches.before (Touches.mono (updPart_touches _ _ _) rfl) (Touches.mono (setSlot_touches _ _ _) rfl)))))

theorem detach_touches (k : Nat) (s : State) : Touches [.parts, .slots, .comp, .hbm, .tiles, .lat, .out] s (detach k s) := by
  unfold detach
  dsimp only
  exact (by split; exact (Touches.refl _ _); exact (Touches.before (Touches.mono (setPart_touches _ _ _) rfl) (Touches.before (Touches.mono (lanesFor_touches _ _ _) rfl) (Touches.before (Touches.mono (resetComps_touches _ _) rfl) (Touches.before (Touches.mono (hbmRelease_touches _ _) rfl) (Touches.before (Touches.mono (setSlot_touches _ _ _) rfl) (upd_lat rfl (Touches.refl _ _))))))))

theorem endAllRuns_touches (k : Nat) (status : Nat) (s : State) : Touches [.parts, .rings] s (endAllRuns k status s) := by
  unfold endAllRuns
  dsimp only
  exact (Touches.before (Touches.mono (updPart_touches _ _ _) rfl) (touches_foldl (Touches.refl _ _) (fun _ _ => (Touches.mono (endRun_touches _ _ _) rfl))))

theorem quiesce_touches (k : Nat) (s : State) : Touches [.parts, .tiles, .out] s (quiesce k s) := by
  unfold quiesce
  exact (Touches.before (touches_foldl (Touches.refl _ _) (fun _ _ => (Touches.mono (sendTile_touches _ _ _ _ _ _) rfl))) (Touches.mono (updPart_touches _ _ _) rfl))

theorem rejectHead_touches (fn : Nat) (ring : Nat) (x : Nat) (status : Nat) (s : State) : Touches [.rings, .out] s (rejectHead fn ring x status s) := by
  unfold rejectHead
  dsimp only
  exact (Touches.before (Touches.mono (postCompletion_touches _ _ _ _ _ _ _ _) rfl) (Touches.mono (updRing_touches _ _ _ _) rfl))

theorem rejectNaming_touches (sl : Nat) (s : State) : Touches [.rings, .out] s (rejectNaming sl s) := by
  unfold rejectNaming
  exact (touches_foldl (Touches.refl _ _) (fun _ _ => (by split; exact (touches_ite (Touches.mono (rejectHead_touches _ _ _ _ _) rfl) (Touches.refl _ _)); exact (Touches.refl _ _))))

theorem resetEffect_touches (k : Nat) (s : State) : Touches [.parts, .slots, .comp, .hbm, .tiles, .rings, .lat, .out] s (resetEffect k s) := by
  unfold resetEffect
  dsimp only
  exact (by split; exact (Touches.before (Touches.mono (updPart_touches _ _ _) rfl) (Touches.mono (cancelBind_touches _ _) rfl)); exact (Touches.before (Touches.mono (detach_touches _ _) rfl) (Touches.before (Touches.mono (quiesce_touches _ _) rfl) (Touches.before (Touches.mono (rejectNaming_touches _ _) rfl) (Touches.before (Touches.mono (endAllRuns_touches _ _ _) rfl) (Touches.mono (cancelBind_touches _ _) rfl))))))

theorem unbindEffect_touches (k : Nat) (s : State) : Touches [.parts, .slots, .comp, .hbm, .tiles, .rings, .lat, .out] s (unbindEffect k s) := by
  unfold unbindEffect
  dsimp only
  exact (by split; exact (Touches.before (Touches.mono (detach_touches _ _) rfl) (Touches.before (Touches.mono (rejectNaming_touches _ _) rfl) (touches_ite (Touches.before (Touches.mono (quiesce_touches _ _) rfl) (Touches.mono (endAllRuns_touches _ _ _) rfl)) (Touches.refl _ _)))); exact (Touches.refl _ _))

theorem boundaryPart_touches (k : Nat) (s : State) : Touches [.parts, .slots, .buf, .comp, .ctl, .hbm, .tiles, .rings, .regs, .lat, .counters, .out] s (boundaryPart k s) := by
  unfold boundaryPart
  dsimp only
  exact (touches_ite (Touches.before (Touches.mono (resetEffect_touches _ _) rfl) (Touches.before (Touches.mono (updPart_touches _ _ _) rfl) (by split; exact (touches_ite (Touches.mono (endFrame_touches _ _ _ _) rfl) (touches_ite (Touches.before (Touches.mono (dropWork_touches _ _) rfl) (Touches.mono (clearRun_touches _ _) rfl)) (Touches.refl _ _))); exact (Touches.refl _ _)))) (touches_ite (Touches.before (Touches.mono (unbindEffect_touches _ _) rfl) (Touches.before (Touches.mono (updPart_touches _ _ _) rfl) (by split; exact (touches_ite (Touches.mono (endFrame_touches _ _ _ _) rfl) (touches_ite (Touches.before (Touches.mono (dropWork_touches _ _) rfl) (Touches.mono (clearRun_touches _ _) rfl)) (Touches.refl _ _))); exact (Touches.refl _ _)))) (by split; exact (Touches.before (Touches.mono (bindBoundary_touches _ _) rfl) (Touches.before (Touches.mono (updPart_touches _ _ _) rfl) (by split; exact (touches_ite (Touches.mono (endFrame_touches _ _ _ _) rfl) (touches_ite (Touches.before (Touches.mono (dropWork_touches _ _) rfl) (Touches.mono (clearRun_touches _ _) rfl)) (Touches.refl _ _))); exact (Touches.refl _ _)))); exact (Touches.before (touches_ite (Touches.mono (parkedBoundary_touches _ _ _) rfl) (touches_ite (Touches.mono (parkPart_touches _ _ _) rfl) (Touches.refl _ _))) (Touches.before (Touches.mono (updPart_touches _ _ _) rfl) (Touches.before (Touches.mono (updPart_touches _ _ _) rfl) (by split; exact (touches_ite (Touches.mono (endFrame_touches _ _ _ _) rfl) (touches_ite (Touches.before (Touches.mono (dropWork_touches _ _) rfl) (Touches.mono (clearRun_touches _ _) rfl)) (Touches.refl _ _))); exact (Touches.refl _ _))))))))

theorem swrr_touches (ties : List (Nat × Nat)) (s : State) : Touches [.rings] s (swrr ties s).2 := by
  unfold swrr
  dsimp only
  exact (by split; exact (touches_foldl (Touches.refl _ _) (fun _ _ => (Touches.mono (updRing_touches _ _ _ _) rfl))); exact (Touches.before (Touches.mono (updRing_touches _ _ _ _) rfl) (touches_foldl (Touches.refl _ _) (fun _ _ => (Touches.mono (updRing_touches _ _ _ _) rfl)))))

theorem choose_touches (k : Nat) (s : State) : Touches [.parts, .rings, .logs] s (choose k s) := by
  unfold choose
  dsimp only
  exact (by split; exact (Touches.refl _ _); exact (touches_ite (Touches.mono (updPart_touches _ _ _) rfl) (by split; exact (Touches.refl _ _); exact (by split; exact (Touches.mono (updPart_touches _ _ _) rfl); exact (by split; exact (Touches.refl _ _); exact (Touches.mono (updPart_touches _ _ _) rfl)); exact (by split; exact (Touches.before (Touches.mono (admitRun_touches _ _ _ _ _ _) rfl) (Touches.of_snd (Touches.after (swrr_touches _ _) rfl (Touches.refl _ _)) (by assumption))); exact (Touches.of_snd (Touches.after (swrr_touches _ _) rfl (Touches.refl _ _)) (by assumption)))))))

theorem countIdle_touches (k : Nat) (s : State) : Touches [.parts] s (countIdle k s) := by
  unfold countIdle
  exact (Touches.mono (updPart_touches _ _ _) rfl)

theorem groupBoundary_touches (s : State) : Touches [.clk, .parts, .lat] s (groupBoundary s) := by
  unfold groupBoundary
  dsimp only
  exact (by split; exact (Touches.refl _ _); exact (touches_ite (Touches.before (Touches.mono (applySetting_touches _ _) rfl) (upd_lat rfl (Touches.refl _ _))) (Touches.refl _ _)))

theorem issueReads_touches (k : Nat) (s : State) : Touches [.out] s (issueReads k s) := by
  unfold issueReads
  dsimp only
  exact (by split; exact (touches_ite (Touches.refl _ _) (by split; exact (Touches.refl _ _); exact (Touches.mono (emitAll_touches _ _) rfl))); exact (Touches.refl _ _))

theorem sendEvent_touches (p : FaultPkt) (s : State) : Touches [.ctl, .counters] s (sendEvent p s) := by
  unfold sendEvent
  dsimp only
  exact (touches_ite (Touches.before (Touches.mono (countUp_touches _ _ _) rfl) (upd_ctl rfl (Touches.refl _ _))) (touches_ite (upd_ctl rfl (Touches.refl _ _)) (upd_ctl rfl (Touches.refl _ _))))

theorem judgeWindow_touches (k : Nat) (s : State) (r : LatRec) : Touches [.parts, .ctl, .lat, .counters] s (judgeWindow k s r) := by
  unfold judgeWindow
  dsimp only
  exact (touches_ite (upd_lat rfl (Touches.refl _ _)) (by split; exact (Touches.before (Touches.mono (breach_touches _ _ _ _) rfl) (Touches.before (Touches.mono (countUp_touches _ _ _) rfl) (Touches.before (upd_lat rfl (Touches.refl _ _)) (touches_ite (Touches.mono (countUp_touches _ _ _) rfl) (Touches.refl _ _))))); exact (Touches.before (touches_ite (Touches.refl _ _) (Touches.before (Touches.mono (sendEvent_touches _ _) rfl) (Touches.mono (updRun_touches _ _ _) rfl))) (Touches.before (Touches.mono (breach_touches _ _ _ _) rfl) (Touches.before (Touches.mono (countUp_touches _ _ _) rfl) (Touches.before (upd_lat rfl (Touches.refl _ _)) (touches_ite (Touches.mono (countUp_touches _ _ _) rfl) (Touches.refl _ _))))))))

theorem judgeWindows_touches (k : Nat) (s : State) : Touches [.parts, .ctl, .lat, .counters] s (judgeWindows k s) := by
  unfold judgeWindows
  dsimp only
  exact (touches_ite (Touches.refl _ _) (by split; exact (Touches.refl _ _); exact (by split; exact (Touches.refl _ _); exact (touches_foldl (Touches.refl _ _) (fun _ _ => (Touches.mono (judgeWindow_touches _ _ _) rfl))))))

theorem setGate_touches (ts : List Nat) (on : Bool) (s : State) : Touches [.tiles] s (setGate ts on s) := by
  unfold setGate
  dsimp only
  exact (upd_tiles rfl (Touches.refl _ _))

theorem reshape_touches (k : Nat) (rc : Rect) (s : State) : Touches [.parts, .layout, .hbm, .tiles, .out] s (reshape k rc s) := by
  unfold reshape
  dsimp only
  exact (touches_ite (Touches.refl _ _) (Touches.before (Touches.mono (setGate_touches _ _ _) rfl) (Touches.before (upd_layout rfl (Touches.refl _ _)) (Touches.before (Touches.mono (leaveRefresh_touches _ _) rfl) (Touches.mono (updPart_touches _ _ _) rfl)))))

theorem layoutBoundary_touches (s : State) : Touches [.parts, .layout, .layoutPend, .hbm, .tiles, .out] s (layoutBoundary s) := by
  unfold layoutBoundary
  dsimp only
  exact (by split; exact (Touches.refl _ _); exact (Touches.before (Touches.mono (setGate_touches _ _ _) rfl) (Touches.before (touches_foldl (Touches.refl _ _) (fun _ _ => (Touches.mono (reshape_touches _ _ _) rfl))) (upd_layoutPend rfl (Touches.refl _ _)))))

theorem violation_touches (fn : Nat) (cls : Nat) (s : State) : Touches [.ctl, .win, .counters] s (violation fn cls s) := by
  unfold violation
  dsimp only
  exact (touches_ite (Touches.refl _ _) (Touches.before (touches_ite (Touches.refl _ _) (Touches.before (Touches.mono (sendEvent_touches _ _) rfl) (upd_win rfl (Touches.refl _ _)))) (Touches.mono (countUp_touches _ _ _) rfl)))

theorem screenRing_touches (s : State) (fr : Nat × Nat) : Touches [.ctl, .rings, .win, .counters, .out] s (screenRing s fr) := by
  unfold screenRing
  dsimp only
  exact (by split; exact (Touches.refl _ _); exact (by split; exact (Touches.mono (rejectHead_touches _ _ _ _ _) rfl); exact (touches_ite (Touches.before (Touches.mono (rejectHead_touches _ _ _ _ _) rfl) (Touches.mono (violation_touches _ _ _) rfl)) (touches_ite (Touches.mono (rejectHead_touches _ _ _ _ _) rfl) (touches_ite (Touches.mono (rejectHead_touches _ _ _ _ _) rfl) (Touches.mono (updRing_touches _ _ _ _) rfl))))))

theorem boundary_touches (s : State) : Touches [.clk, .parts, .layout, .layoutPend, .slots, .buf, .comp, .ctl, .hbm, .tiles, .rings, .regs, .logs, .win, .lat, .counters, .out] s (boundary s) := by
  unfold boundary
  dsimp only
  exact (Touches.before (touches_foldl (Touches.refl _ _) (fun _ _ => (Touches.mono (issueReads_touches _ _) rfl))) (Touches.before (touches_foldl (Touches.refl _ _) (fun _ _ => (Touches.mono (judgeWindows_touches _ _) rfl))) (Touches.before (touches_foldl (Touches.refl _ _) (fun _ _ => (Touches.mono (countIdle_touches _ _) rfl))) (Touches.before (touches_foldl (Touches.refl _ _) (fun _ _ => (Touches.mono (choose_touches _ _) rfl))) (Touches.before (touches_foldl (Touches.refl _ _) (fun _ _ => (Touches.mono (screenRing_touches _ _) rfl))) (Touches.before (touches_foldl (Touches.refl _ _) (fun _ _ => (Touches.mono (boundaryPart_touches _ _) rfl))) (Touches.before (Touches.mono (layoutBoundary_touches _) rfl) (Touches.before (Touches.mono (groupBoundary_touches _) rfl) (upd_clk rfl (Touches.refl _ _))))))))))

theorem keepWaiting_touches (s : State) : Touches [.parts] s (keepWaiting s) := by
  unfold keepWaiting
  exact (Touches.mono (updParts_touches _ _) rfl)

theorem rejoinParts_touches (ok : Bool) (s : State) : Touches [.parts] s (rejoinParts ok s) := by
  unfold rejoinParts
  exact (Touches.mono (updParts_touches _ _) rfl)

theorem releaseTick_touches (fsf : Nat) (setting : Option (BitVec 9)) (resume : Bool) (s : State) : Touches [.clk, .parts, .layout, .layoutPend, .slots, .buf, .comp, .ctl, .hbm, .tiles, .rings, .regs, .logs, .win, .lat, .counters, .out] s (releaseTick fsf setting resume s) := by
  unfold releaseTick
  dsimp only
  exact (Touches.before (Touches.mono (keepWaiting_touches _) rfl) (Touches.before (Touches.mono (boundary_touches _) rfl) (Touches.before (Touches.mono (rejoinParts_touches _ _) rfl) (by split; exact (Touches.before (Touches.mono (advanceFree_touches _ _) rfl) (Touches.before (Touches.mono (countBy_touches _ _ _ _) rfl) (upd_clk_lat rfl (Touches.refl _ _)))); exact (Touches.before (Touches.mono (applySetting_touches _ _) rfl) (Touches.before (upd_lat rfl (Touches.refl _ _)) (Touches.before (Touches.mono (advanceFree_touches _ _) rfl) (Touches.before (Touches.mono (countBy_touches _ _ _ _) rfl) (upd_clk_lat rfl (Touches.refl _ _))))))))))

theorem applyRelease_touches (r : Release) (s : State) : Touches [.clk, .parts, .layout, .layoutPend, .slots, .buf, .comp, .ctl, .hbm, .tiles, .rings, .regs, .logs, .win, .pm, .lat, .counters, .out] s (applyRelease r s) := by
  unfold applyRelease
  dsimp only
  exact (Touches.before (Touches.mono (releaseTick_touches _ _ _ _) rfl) (Touches.before (touches_ite (Touches.mono (markLate_touches _) rfl) (Touches.refl _ _)) (upd_pm_lat rfl (Touches.refl _ _))))

theorem applyStored_touches (s : State) : Touches [.pm] s (applyStored s) := by
  unfold applyStored
  dsimp only
  exact (touches_ite (upd_pm rfl (Touches.refl _ _)) (Touches.refl _ _))

theorem sendRelease_touches (r : Release) (delay : Nat) (s : State) : Touches [.lat, .out] s (sendRelease r delay s) := by
  unfold sendRelease
  exact (touches_foldl (Touches.refl _ _) (fun _ _ => (by split; exact (Touches.refl _ _); exact (Touches.mono (sendCtrl_touches _ _ _) rfl))))

theorem releaseBarrier_touches (late : Bool) (s : State) : Touches [.lat, .out] s (releaseBarrier late s) := by
  unfold releaseBarrier
  dsimp only
  exact (Touches.before (Touches.mono (sendRelease_touches _ _ _) rfl) (upd_lat rfl (Touches.refl _ _)))

theorem arriveTry_touches (s : State) : Touches [.lat, .out] s (arriveTry s) := by
  unfold arriveTry
  dsimp only
  exact (touches_ite (touches_ite (Touches.mono (releaseBarrier_touches _ _) rfl) (touches_ite (upd_lat rfl (Touches.refl _ _)) (Touches.refl _ _))) (touches_ite (by split; exact (Touches.refl _ _); exact (Touches.before (Touches.mono (sendCtrl_touches _ _ _) rfl) (upd_lat rfl (Touches.refl _ _)))) (Touches.refl _ _)))

theorem askPieces_touches (phase : Nat) (pieces : List Nat) (a : PoolAcc) (s : State) : Touches [.hbm, .dense, .lat, .pool, .out] s (askPieces phase pieces a s) := by
  unfold askPieces
  dsimp only
  exact (Touches.before (touches_foldl (Touches.refl _ _) (fun _ _ => (touches_ite (Touches.mono (queueLocal_touches _ _ _) rfl) (Touches.mono (sendAcc_touches _ _ _ _ _ _ _) rfl)))) (Touches.mono (setAcc_touches _ _) rfl))

theorem failBlock_touches (b : Nat) (s : State) : Touches [.ctl, .dense, .counters] s (failBlock b s) := by
  unfold failBlock
  dsimp only
  exact (touches_ite (Touches.refl _ _) (Touches.before (touches_ite (touches_ite (Touches.before (Touches.mono (sendEvent_touches _ _) rfl) (upd_dense rfl (Touches.refl _ _))) (upd_dense rfl (Touches.refl _ _))) (Touches.refl _ _)) (Touches.mono (sendEvent_touches _ _) rfl)))

theorem assignRoles_touches (p : Nat) (s : State) : Touches [.ctl, .hbm, .dense, .pool, .counters] s (assignRoles p s) := by
  unfold assignRoles
  dsimp only
  exact (Touches.before (touches_ite (upd_hbm_dense_pool rfl (Touches.refl _ _)) (upd_hbm_pool rfl (Touches.refl _ _))) (touches_ite (touches_foldl (Touches.refl _ _) (fun _ _ => (Touches.mono (failBlock_touches _ _) rfl))) (Touches.refl _ _)))

theorem queueCache_touches (k : Nat) (j : CacheJob) (s : State) : Touches [.hbm] s (queueCache k j s) := by
  unfold queueCache
  exact (Touches.mono (updPc_touches _ _ _) rfl)

theorem updLine_touches (k : Nat) (f : CacheLine → CacheLine) (s : State) : Touches [.dense] s (updLine k f s) := by
  unfold updLine
  dsimp only
  exact (upd_dense rfl (Touches.refl _ _))

theorem startWrite_touches (k : Nat) (reason : Nat) (s : State) : Touches [.hbm, .dense] s (startWrite k reason s) := by
  unfold startWrite
  dsimp only
  exact (Touches.before (Touches.mono (queueCache_touches _ _ _) rfl) (Touches.before (Touches.mono (updLine_touches _ _ _) rfl) (upd_dense rfl (Touches.refl _ _))))

theorem assignGo_touches (x0 : Nat) (x1 : State) : Touches [.ctl, .hbm, .dense, .rings, .regs, .fw, .pool, .counters, .out] x1 (assignGo x0 x1) := by
  induction x0 generalizing x1 with
  | zero => exact Touches.refl _ _
  | succ n ih =>
    unfold assignGo
    split
    · exact Touches.refl _ _
    · refine touches_ite (Touches.refl _ _) ?_
      dsimp only
      have h : Touches [.ctl, .hbm, .dense, .rings, .regs, .fw, .pool, .counters, .out] x1 ((dirtyLines x1).foldl (fun t k => startWrite k 3 t) x1) :=
        touches_foldl (Touches.refl _ _) fun _ _ => Touches.mono (startWrite_touches _ _ _) rfl
      refine touches_ite (Touches.before (ih _) (Touches.trans h ?_)) h
      refine Touches.trans (upd_dense (v0 := _) rfl (Touches.refl _ _)) (touches_ite (Touches.mono (mciReply_touches _ _ _ _ _ _ _ _) rfl) ?_)
      exact Touches.after (mciReply_touches _ _ _ _ _ _ _ _) rfl (Touches.mono (assignRoles_touches _ _) rfl)

theorem attachDrives_touches (l : List (Nat × Nat × Nat)) (s : State) : Touches [.dense] s (attachDrives l s) := by
  unfold attachDrives
  dsimp only
  exact (upd_dense rfl (Touches.refl _ _))

theorem attachFound_touches (who : Nat) (tag : Nat) (found : List DriveIn) (s : State) : Touches [.ctl, .dense, .rings, .regs, .fw, .counters, .out] s (attachFound who tag found s) := by
  unfold attachFound
  dsimp only
  exact (Touches.before (touches_ite (Touches.mono (mciReply_touches _ _ _ _ _ _ _ _) rfl) (Touches.before (Touches.mono (mciReply_touches _ _ _ _ _ _ _ _) rfl) (Touches.before (upd_dense rfl (Touches.refl _ _)) (Touches.mono (attachDrives_touches _ _) rfl)))) (touches_foldl (Touches.refl _ _) (fun _ _ => (Touches.mono (sendEvent_touches _ _) rfl))))

theorem attachGo_touches (x0 : Nat) (x1 : State) : Touches [.ctl, .dense, .rings, .regs, .fw, .counters, .out] x1 (attachGo x0 x1) := by
  induction x0 generalizing x1 with
  | zero => exact Touches.refl _ _
  | succ n ih =>
    unfold attachGo
    split
    · exact Touches.refl _ _
    · dsimp only
      refine touches_ite (Touches.before (ih _) ?_) (Touches.refl _ _)
      refine Touches.trans (upd_dense (v0 := _) rfl (Touches.refl _ _)) (touches_ite (Touches.mono (mciReply_touches _ _ _ _ _ _ _ _) rfl) ?_)
      exact attachFound_touches _ _ _ _

theorem updFn_touches (fn : Nat) (f : Fn → Fn) (s : State) : Touches [.rings] s (updFn fn f s) := by
  unfold updFn
  dsimp only
  exact (upd_rings rfl (Touches.refl _ _))

theorem fnAttention_touches (fn : Nat) (b : Nat) (s : State) : Touches [.rings, .out] s (fnAttention fn b s) := by
  unfold fnAttention
  dsimp only
  exact (Touches.before (touches_ite (Touches.mono (raiseVector_touches _ _ _) rfl) (Touches.refl _ _)) (Touches.mono (updFn_touches _ _ _) rfl))

theorem badDoorbell_touches (fn : Nat) (ring : Nat) (s : State) : Touches [.ctl, .rings, .counters, .out] s (badDoorbell fn ring s) := by
  unfold badDoorbell
  dsimp only
  exact (Touches.before (touches_ite (Touches.refl _ _) (Touches.before (Touches.mono (sendEvent_touches _ _) rfl) (Touches.mono (updRing_touches _ _ _ _) rfl))) (Touches.before (Touches.mono (fnAttention_touches _ _ _) rfl) (Touches.mono (countUp_touches _ _ _) rfl)))

theorem barWrite_touches {bs : List Block} {s0 : State} (fn : Nat) (act : State → State) (s : State) (hsub : sub [.out] bs = true) (hsx : Touches bs s0 s) (hx_act : ∀ v0, Touches bs v0 (act v0)) :
    Touches bs s0 (barWrite fn act s) := by
  refine Touches.trans hsx ?_
  unfold barWrite
  exact (touches_ite (Touches.mono (emit_touches _ _) (sub_trans rfl hsub)) (touches_ite (Touches.refl _ _) (hx_act _)))

theorem coldClear_touches (s : State) : Touches [.clk, .boot, .fmap, .hbm, .logs, .lanes, .fw, .pm, .lat, .pool, .counters] s (coldClear s) := by
  unfold coldClear
  dsimp only
  exact (upd_clk_boot_fmap_hbm_logs_lanes_fw_pm_lat_pool_counters rfl (Touches.refl _ _))

theorem beginStart_touches (sIn : State) : Touches [.clk, .pins, .boot, .fmap, .hbm, .logs, .lanes, .fw, .pm, .lat, .pool, .counters] sIn (beginStart sIn) := by
  unfold beginStart
  dsimp only
  exact (Touches.before (upd_clk_pins_boot_hbm_lanes_pm rfl (Touches.refl _ _)) (touches_ite (Touches.mono (coldClear_touches _) rfl) (Touches.refl _ _)))

theorem tileInTest_touches (p : Nat) (s : State) : Touches [.tiles] s (tileInTest p s) := by
  unfold tileInTest
  dsimp only
  exact (touches_ite (Touches.mono (updTile_touches _ _ _) rfl) (Touches.refl _ _))

theorem startTest_touches (t : LaneTest) (s : State) : Touches [.buf, .hbm, .tiles] s (startTest t s) := by
  unfold startTest
  dsimp only
  exact (Touches.before (touches_ite (Touches.mono (updStack_touches _ _ _) rfl) (Touches.refl _ _)) (Touches.before (Touches.mono (tileInTest_touches _ _) rfl) (upd_buf rfl (Touches.refl _ _))))

theorem beginTest_touches (s : State) : Touches [.buf, .hbm, .tiles, .lanes] s (beginTest s) := by
  unfold beginTest
  dsimp only
  exact (Touches.before (touches_foldl (Touches.refl _ _) (fun _ _ => (Touches.mono (startTest_touches _ _) rfl))) (upd_lanes rfl (Touches.refl _ _)))

theorem blockFault_touches (reason : Nat) (sev : Nat) (unit : Nat) (detail : Option Nat) (src : Nat) (s : State) : Touches [.ctl, .counters] s (blockFault reason sev unit detail src s) := by
  unfold blockFault
  exact (Touches.mono (sendFault_touches _ _) rfl)

theorem dataPathBreach_touches (reason : Nat) (router : Nat) (s : State) : Touches [.parts, .ctl, .counters] s (dataPathBreach reason router s) := by
  unfold dataPathBreach
  dsimp only
  exact (by split; exact (Touches.before (Touches.mono (breach_touches _ _ _ _) rfl) (Touches.mono (routerFault_touches _ _ _ _ _) rfl)); exact (Touches.mono (routerFault_touches _ _ _ _ _) rfl))

theorem withdrawStall_touches (router : Nat) (s : State) : Touches [.parts, .ctl, .tiles] s (withdrawStall router s) := by
  unfold withdrawStall
  dsimp only
  exact (by split; exact (Touches.refl _ _); exact (by split; exact (Touches.before (Touches.mono (updRun_touches _ _ _) rfl) (upd_ctl_tiles rfl (Touches.refl _ _))); exact (upd_ctl_tiles rfl (Touches.refl _ _))))

theorem bondParity_touches (router : Nat) (s : State) : Touches [.parts, .ctl, .tiles, .counters] s (bondParity router s) := by
  unfold bondParity
  dsimp only
  exact (Touches.before (Touches.mono (dataPathBreach_touches _ _ _) rfl) (Touches.before (Touches.mono (withdrawStall_touches _ _) rfl) (upd_tiles rfl (Touches.refl _ _))))

theorem bootRecord_touches (active : Nat) (trial : Bool) (failed : Nat) (s : State) : Touches [.fw] s (bootRecord active trial failed s) := by
  unfold bootRecord
  dsimp only
  exact (upd_fw rfl (Touches.refl _ _))

theorem sendAll_touches (except : Option Nat) (x : Nat) (s : State) : Touches [.lat, .out] s (sendAll except x s) := by
  unfold sendAll
  exact (touches_foldl (Touches.refl _ _) (fun _ _ => (touches_ite (Touches.refl _ _) (Touches.mono (sendCtrl_touches _ _ _) rfl))))

theorem floodOwn_touches (msg : Nat) (body : Nat) (s : State) : Touches [.lat, .out] s (floodOwn msg body s) := by
  unfold floodOwn
  dsimp only
  exact (Touches.before (Touches.mono (sendAll_touches _ _ _) rfl) (upd_lat rfl (Touches.refl _ _)))

theorem joinGroup_touches (s : State) : Touches [.lat, .out] s (joinGroup s) := by
  unfold joinGroup
  dsimp only
  exact (touches_ite (upd_lat rfl (Touches.refl _ _)) (touches_ite (Touches.refl _ _) (Touches.before (Touches.mono (floodOwn_touches _ _ _) rfl) (upd_lat rfl (Touches.refl _ _)))))

theorem noteRestored_touches (m : Nat) (port : Nat) (s : State) : Touches [.lat] s (noteRestored m port s) := by
  unfold noteRestored
  dsimp only
  exact (upd_lat rfl (Touches.refl _ _))

theorem bringUp_touches (port : Nat) (msg : Nat) (s : State) : Touches [.lat, .out] s (bringUp port msg s) := by
  unfold bringUp
  dsimp only
  exact (Touches.before (touches_ite (Touches.mono (joinGroup_touches _) rfl) (Touches.refl _ _)) (Touches.before (touches_ite (Touches.before (Touches.mono (noteRestored_touches _ _ _) rfl) (Touches.mono (floodOwn_touches _ _ _) rfl)) (Touches.refl _ _)) (Touches.mono (updPort_touches _ _ _) rfl)))

theorem bumpGen_touches (s : State) : Touches [.win] s (bumpGen s) := by
  unfold bumpGen
  dsimp only
  exact (upd_win rfl (Touches.refl _ _))

theorem hbmCount_touches (pc : Nat) (which : Nat) (n : Nat) (s : State) : Touches [.ctl, .counters] s (hbmCount pc which n s) := by
  unfold hbmCount
  dsimp only
  exact (Touches.before (touches_ite (Touches.mono (blockFault_touches _ _ _ _ _ _) rfl) (Touches.refl _ _)) (touches_ite (Touches.refl _ _) (Touches.mono (countBy_touches _ _ _ _) rfl)))

theorem injectHbm_touches (line : Nat) (s : State) : Touches [.hbm, .regs] s (injectHbm line s) := by
  unfold injectHbm
  dsimp only
  exact (touches_ite (Touches.before (Touches.mono (injectDone_touches _) rfl) (upd_hbm rfl (Touches.refl _ _))) (touches_ite (Touches.before (Touches.mono (injectDone_touches _) rfl) (upd_hbm rfl (Touches.refl _ _))) (Touches.refl _ _)))

theorem noteRowError_touches (pc : Nat) (line : Nat) (unc : Bool) (s : State) : Touches [.hbm] s (noteRowError pc line unc s) := by
  unfold noteRowError
  dsimp only
  exact (Touches.mono (updPc_touches _ _ _) rfl)

theorem noteStack_touches (k : Nat) (s : State) : Touches [.logs] s (noteStack k s) := by
  unfold noteStack
  dsimp only
  exact (upd_logs rfl (Touches.refl _ _))

theorem hbmRead_touches (line : Nat) (sIn : State) : Touches [.ctl, .hbm, .regs, .logs, .counters] sIn (hbmRead line sIn).2 := by
  unfold hbmRead
  dsimp only
  exact (by split; exact (Touches.mono (injectHbm_touches _ _) rfl); exact (Touches.before (Touches.mono (updPc_touches _ _ _) rfl) (Touches.before (Touches.mono (noteRowError_touches _ _ _ _) rfl) (Touches.before (Touches.mono (hbmCount_touches _ _ _ _) rfl) (Touches.mono (injectHbm_touches _ _) rfl)))); exact (Touches.before (Touches.mono (updPc_touches _ _ _) rfl) (Touches.before (Touches.mono (noteRowError_touches _ _ _ _) rfl) (Touches.before (Touches.mono (hbmCount_touches _ _ _ _) rfl) (Touches.mono (injectHbm_touches _ _) rfl)))); exact (Touches.before (touches_ite (Touches.refl _ _) (Touches.before (Touches.mono (blockFault_touches _ _ _ _ _ _) rfl) (Touches.mono (updPc_touches _ _ _) rfl))) (Touches.before (Touches.mono (noteStack_touches _ _) rfl) (Touches.before (Touches.mono (noteRowError_touches _ _ _ _) rfl) (Touches.before (Touches.mono (hbmCount_touches _ _ _ _) rfl) (Touches.mono (injectHbm_touches _ _) rfl))))); exact (Touches.mono (injectHbm_touches _ _) rfl))

theorem cacheGet_touches (b : Nat) (k : Nat) (off : Nat) (s : State) : Touches [.ctl, .hbm, .regs, .logs, .counters] s (cacheGet b k off s).2 := by
  unfold cacheGet
  dsimp only
  exact (Touches.mono (hbmRead_touches _ _) rfl)

theorem healLine_touches (b : Nat) (i : Nat) (s : State) : Touches [.dense] s (healLine b i s) := by
  unfold healLine
  dsimp only
  exact (touches_ite (Touches.refl _ _) (touches_ite (upd_dense rfl (Touches.refl _ _)) (upd_dense rfl (Touches.refl _ _))))

theorem cachePut_touches (b : Nat) (k : Nat) (off : Nat) (d : LineData) (poison : Bool) (s : State) : Touches [.hbm, .dense] s (cachePut b k off d poison s) := by
  unfold cachePut
  exact (Touches.before (Touches.mono (healLine_touches _ _ _) rfl) (Touches.before (Touches.mono (hbmWrite_touches _ _ _ _) rfl) (Touches.mono (updLine_touches _ _ _) rfl)))

theorem calEvent_touches (unit : Nat) (status : Nat) (s : State) : Touches [.ctl, .counters] s (calEvent unit status s) := by
  unfold calEvent
  exact (Touches.mono (sendEvent_touches _ _) rfl)

theorem noteInvalid_touches (bundle : Nat) (status : Nat) (s : State) : Touches [.lanes] s (noteInvalid bundle status s) := by
  unfold noteInvalid
  dsimp only
  exact (upd_lanes rfl (Touches.refl _ _))

theorem calInvalid_touches (bundle : Nat) (status : Nat) (s : State) : Touches [.ctl, .lanes, .counters] s (calInvalid bundle status s) := by
  unfold calInvalid
  exact (Touches.before (Touches.mono (calEvent_touches _ _ _) rfl) (Touches.mono (noteInvalid_touches _ _ _) rfl))

theorem steerEvents_touches (es : List Nat) (s : State) : Touches [.ctl, .counters] s (steerEvents es s) := by
  unfold steerEvents
  exact (touches_foldl (Touches.refl _ _) (fun _ _ => (Touches.mono (sendEvent_touches _ _) rfl)))

theorem calValid_touches (bundle : Nat) (failed : List Nat) (s : State) : Touches [.ctl, .lanes, .counters] s (calValid bundle failed s) := by
  unfold calValid
  dsimp only
  exact (touches_ite (upd_lanes rfl (Touches.refl _ _)) (touches_ite (Touches.before (Touches.mono (steerEvents_touches _ _) rfl) (upd_lanes rfl (Touches.refl _ _))) (upd_lanes rfl (Touches.refl _ _))))

theorem calResult_touches (bundle : Nat) (status : Nat) (failed : List Nat) (s : State) : Touches [.ctl, .lanes, .counters] s (calResult bundle status failed s) := by
  unfold calResult
  exact (touches_ite (Touches.mono (calValid_touches _ _ _) rfl) (Touches.mono (calInvalid_touches _ _ _) rfl))

theorem setSensor_touches (key : Nat) (z : Sensor) (s : State) : Touches [.pm] s (setSensor key z s) := by
  unfold setSensor
  dsimp only
  exact (upd_pm rfl (Touches.refl _ _))

theorem calibrate_touches (cals : List CalIn) (s : State) (c : CalIn) : Touches [.ctl, .pm, .counters] s (calibrate cals s c) := by
  unfold calibrate
  dsimp only
  exact (Touches.before (touches_ite (Touches.refl _ _) (Touches.mono (calEvent_touches _ _ _) rfl)) (Touches.before (touches_ite (touches_ite (Touches.mono (setSensor_touches _ _ _) rfl) (touches_ite (Touches.mono (setSensor_touches _ _ _) rfl) (Touches.refl _ _))) (Touches.refl _ _)) (upd_pm rfl (Touches.refl _ _))))

theorem capture_touches (s : State) : Touches [.clk, .regs] s (capture s) := by
  unfold capture
  dsimp only
  exact (upd_clk_regs rfl (Touches.refl _ _))

theorem evtAttention_touches (sev : Nat) (s : State) : Touches [.rings, .regs, .out] s (evtAttention sev s) := by
  unfold evtAttention
  dsimp only
  exact (touches_ite (Touches.before (touches_ite (Touches.mono (raiseVector_touches _ _ _) rfl) (Touches.refl _ _)) (upd_regs rfl (Touches.refl _ _))) (Touches.refl _ _))

theorem mpPersist_touches (e : LogEntry) (ext : Nat) (s : State) : Touches [.logs] s (mpPersist e ext s) := by
  unfold mpPersist
  dsimp only
  exact (touches_ite (touches_ite (upd_logs rfl (Touches.refl _ _)) (upd_logs rfl (Touches.refl _ _))) (touches_ite (upd_logs rfl (Touches.refl _ _)) (upd_logs rfl (Touches.refl _ _))))

theorem logExt_touches (reason : Nat) (sev : Nat) (unit : Nat) (detail : Nat) (src : Nat) (repl : Bool) (ext : Nat) (s : State) : Touches [.rings, .regs, .logs, .counters, .out] s (logExt reason sev unit detail src repl ext s) := by
  unfold logExt
  dsimp only
  exact (Touches.before (touches_ite (Touches.mono (mpPersist_touches _ _ _) rfl) (Touches.refl _ _)) (Touches.before (touches_ite (Touches.before (touches_ite (Touches.mono (countUp_touches _ _ _) rfl) (Touches.refl _ _)) (upd_logs rfl (Touches.refl _ _))) (Touches.refl _ _)) (Touches.before (Touches.mono (evtAttention_touches _ _) rfl) (upd_logs rfl (Touches.refl _ _)))))

theorem logEntry_touches (reason : Nat) (sev : Nat) (unit : Nat) (detail : Nat) (src : Nat) (repl : Bool) (s : State) : Touches [.rings, .regs, .logs, .counters, .out] s (logEntry reason sev unit detail src repl s) := by
  unfold logEntry
  exact (Touches.mono (logExt_touches _ _ _ _ _ _ _ _) rfl)

theorem mpEvent_touches (reason : Nat) (sev : Nat) (unit : Nat) (detail : Nat) (s : State) : Touches [.rings, .regs, .logs, .counters, .out] s (mpEvent reason sev unit detail s) := by
  unfold mpEvent
  exact (Touches.mono (logEntry_touches _ _ _ _ _ _ _) rfl)

theorem invalidate_touches (n : Nat) (why : Nat) (s : State) : Touches [.parts, .slots, .comp, .hbm, .tiles, .rings, .regs, .logs, .lat, .counters, .out] s (invalidate n why s) := by
  unfold invalidate
  dsimp only
  exact (Touches.before (Touches.mono (mpEvent_touches _ _ _ _ _) rfl) (Touches.before (Touches.mono (setSlot_touches _ _ _) rfl) (touches_foldl (Touches.refl _ _) (fun _ _ => (Touches.before (touches_ite (Touches.before (Touches.mono (detach_touches _ _) rfl) (Touches.before (Touches.mono (quiesce_touches _ _) rfl) (Touches.mono (endAllRuns_touches _ _ _) rfl))) (Touches.refl _ _)) (touches_ite (Touches.mono (cancelBind_touches _ _) rfl) (Touches.refl _ _)))))))

theorem checkImage_touches (s : State) (n : Nat) : Touches [.parts, .slots, .comp, .hbm, .tiles, .rings, .regs, .logs, .lat, .counters, .out] s (checkImage s n) := by
  unfold checkImage
  dsimp only
  exact (touches_ite (Touches.refl _ _) (touches_ite (Touches.mono (invalidate_touches _ _ _) rfl) (by split; exact (Touches.refl _ _); exact (Touches.mono (invalidate_touches _ _ _) rfl))))

theorem checkImages_touches (s : State) : Touches [.parts, .slots, .comp, .hbm, .tiles, .rings, .regs, .logs, .lat, .counters, .out] s (checkImages s) := by
  unfold checkImages
  exact (touches_foldl (Touches.refl _ _) (fun _ _ => (Touches.mono (checkImage_touches _ _) rfl)))

theorem clearCounter_touches (id : Nat) (idx : Nat) (s : State) : Touches [.buf, .hbm, .logs, .counters] s (clearCounter id idx s) := by
  unfold clearCounter
  dsimp only
  exact (touches_ite (upd_logs rfl (Touches.refl _ _)) (touches_ite (upd_buf_counters rfl (Touches.refl _ _)) (Touches.before (touches_ite (Touches.mono (updPc_touches _ _ _) rfl) (Touches.refl _ _)) (upd_counters rfl (Touches.refl _ _)))))

theorem clearPlane_touches (s : State) : Touches [.parts, .layout, .layoutPend, .slots, .buf, .comp, .ctl, .tiles, .rings, .regs, .win] s (clearPlane s) := by
  unfold clearPlane
  dsimp only
  exact (upd_parts_layout_layoutPend_slots_buf_comp_ctl_tiles_rings_regs_win rfl (Touches.refl _ _))

theorem clearPortRws_touches (fns : List Nat) (s : State) : Touches [.counters] s (clearPortRws fns s) := by
  unfold clearPortRws
  dsimp only
  exact (upd_counters rfl (Touches.refl _ _))

theorem clearRequests_touches (reason : Nat) (unit : Nat) (s : State) : Touches [.logs] s (clearRequests reason unit s) := by
  unfold clearRequests
  dsimp only
  exact (upd_logs rfl (Touches.refl _ _))

theorem settle_touches (s : State) : Touches [.clk, .parts, .layout, .layoutPend, .slots, .buf, .comp, .ctl, .hbm, .tiles, .rings, .regs, .logs, .win, .lat, .counters, .out] s (settle s) := by
  unfold settle
  exact (touches_ite (Touches.refl _ _) (Touches.mono (boundary_touches _) rfl))

theorem switchFn_touches (gen : BitVec 64) (s : State) (fn : Nat) : Touches [.rings, .win, .out] s (switchFn gen s fn) := by
  unfold switchFn
  dsimp only
  exact (Touches.before (Touches.mono (fnAttention_touches _ _ _) rfl) (Touches.before (Touches.mono (updFn_touches _ _ _) rfl) (upd_win rfl (Touches.refl _ _))))

theorem switchFns_touches (fns : List Nat) (s : State) : Touches [.clk, .parts, .layout, .layoutPend, .slots, .buf, .comp, .ctl, .hbm, .tiles, .rings, .regs, .logs, .win, .lat, .counters, .out] s (switchFns fns s) := by
  unfold switchFns
  dsimp only
  exact (Touches.before (touches_foldl (Touches.refl _ _) (fun _ _ => (Touches.mono (switchFn_touches _ _ _) rfl))) (Touches.before (upd_win rfl (Touches.refl _ _)) (Touches.mono (settle_touches _) rfl)))

theorem clearVfWindows_touches (s : State) : Touches [.clk, .parts, .layout, .layoutPend, .slots, .buf, .comp, .ctl, .hbm, .tiles, .rings, .regs, .logs, .win, .lat, .counters, .out] s (clearVfWindows s) := by
  unfold clearVfWindows
  dsimp only
  exact (Touches.before (Touches.mono (switchFns_touches _ _) rfl) (upd_win rfl (Touches.refl _ _)))

theorem fatalRecord_touches (reason : Nat) (unit : Nat) (s : State) : Touches [.logs] s (fatalRecord reason unit s) := by
  unfold fatalRecord
  dsimp only
  exact (by split; exact (Touches.refl _ _); exact (upd_logs rfl (Touches.refl _ _)))

end Sys2Proof.Machine
end

