-- ==== Sys2Proof/Laws/Frames3.lean ====
section
/-! SUPPORT. What the shared operations leave alone, part 3: one lemma each, from fatalEvent to evaluateFor. -/

namespace Sys2Proof.Machine

theorem fatalEvent_touches (reason : Nat) (unit : Nat) (s : State) : Touches [.pins, .logs] s (fatalEvent reason unit s) := by
  unfold fatalEvent
  dsimp only
  exact (Touches.before (upd_pins rfl (Touches.refl _ _)) (Touches.mono (fatalRecord_touches _ _ _) rfl))

theorem restDense_touches (s : State) : Touches [.dense] s (restDense s) := by
  unfold restDense
  dsimp only
  exact (upd_dense rfl (Touches.refl _ _))

theorem restHbm_touches (s : State) : Touches [.hbm, .out] s (restHbm s) := by
  unfold restHbm
  dsimp only
  exact (Touches.before (Touches.mono (emitAll_touches _ _) rfl) (upd_hbm rfl (Touches.refl _ _)))

theorem restLanes_touches (s : State) : Touches [.fmap, .lanes] s (restLanes s) := by
  unfold restLanes
  dsimp only
  exact (upd_fmap_lanes rfl (Touches.refl _ _))

theorem restLattice_touches (s : State) : Touches [.lat] s (restLattice s) := by
  unfold restLattice
  dsimp only
  exact (upd_lat rfl (Touches.refl _ _))

theorem restMp_touches (s : State) : Touches [.pins, .fw] s (restMp s) := by
  unfold restMp
  dsimp only
  exact (upd_pins_fw rfl (Touches.refl _ _))

theorem releaseExtents_touches (region : Nat) (s : State) : Touches [.pool] s (releaseExtents region s) := by
  unfold releaseExtents
  dsimp only
  exact (Touches.before (Touches.mono (updRegion_touches _ _ _) rfl) (upd_pool rfl (Touches.refl _ _)))

theorem leaveRegion_touches (e : Nat × Region) (s : State) : Touches [.pool] s (leaveRegion e s) := by
  unfold leaveRegion
  dsimp only
  exact (touches_ite (Touches.refl _ _) (Touches.before (Touches.mono (releaseExtents_touches _ _) rfl) (touches_foldl (Touches.refl _ _) (fun _ _ => (Touches.mono (updRegion_touches _ _ _) rfl)))))

theorem restPool_touches (s : State) : Touches [.pool] s (restPool s) := by
  unfold restPool
  dsimp only
  exact (Touches.before (upd_pool rfl (Touches.refl _ _)) (touches_foldl (Touches.refl _ _) (fun _ _ => (Touches.mono (leaveRegion_touches _ _) rfl))))

theorem stopModule_touches (s : State) : Touches [.clk, .pins, .parts, .layout, .layoutPend, .slots, .buf, .comp, .ctl, .fmap, .hbm, .dense, .tiles, .rings, .regs, .logs, .win, .lanes, .fw, .lat, .pool, .counters, .out] s (stopModule s) := by
  unfold stopModule
  dsimp only
  exact (Touches.before (upd_clk_pins_logs_counters rfl (Touches.refl _ _)) (Touches.before (Touches.mono (restMp_touches _) rfl) (Touches.before (Touches.mono (restLanes_touches _) rfl) (Touches.before (Touches.mono (restLattice_touches _) rfl) (Touches.before (Touches.mono (restPool_touches _) rfl) (Touches.before (Touches.mono (restDense_touches _) rfl) (Touches.before (Touches.mono (restHbm_touches _) rfl) (Touches.mono (clearPlane_touches _) rfl))))))))

theorem fatalStop_touches (s : State) : Touches [.clk, .pins, .boot, .parts, .layout, .layoutPend, .slots, .buf, .comp, .ctl, .fmap, .hbm, .dense, .tiles, .rings, .regs, .logs, .win, .lanes, .fw, .lat, .pool, .counters, .out] s (fatalStop s) := by
  unfold fatalStop
  dsimp only
  exact (Touches.before (upd_boot rfl (Touches.refl _ _)) (Touches.mono (stopModule_touches _) rfl))

theorem clockLossNow_touches (src : Nat) (s : State) : Touches [.clk, .pins, .boot, .parts, .layout, .layoutPend, .slots, .buf, .comp, .ctl, .fmap, .hbm, .dense, .tiles, .rings, .regs, .logs, .win, .lanes, .fw, .lat, .pool, .counters, .out] s (clockLossNow src s) := by
  unfold clockLossNow
  dsimp only
  exact (Touches.before (upd_clk_boot rfl (Touches.refl _ _)) (Touches.before (Touches.mono (fatalStop_touches _) rfl) (Touches.mono (fatalEvent_touches _ _ _) rfl)))

theorem noteDescFault_touches (port : Nat) (s : State) : Touches [.ctl, .counters] s (noteDescFault port s) := by
  unfold noteDescFault
  exact (Touches.before (Touches.mono (blockFault_touches _ _ _ _ _ _) rfl) (Touches.mono (countUp_touches _ _ _) rfl))

theorem updComp_touches (port : Nat) (dir : Nat) (f : Comp → Comp) (s : State) : Touches [.comp] s (updComp port dir f s) := by
  unfold updComp
  exact (upd_comp rfl (Touches.refl _ _))

theorem closeBlock_touches (port : Nat) (last : Bool) (s : State) : Touches [.comp, .ctl, .counters] s (closeBlock port last s) := by
  unfold closeBlock
  dsimp only
  exact (by split; exact (Touches.before (Touches.mono (updComp_touches _ _ _ _) rfl) (Touches.before (touches_ite (Touches.mono (countUp_touches _ _ _) rfl) (Touches.refl _ _)) (touches_ite (Touches.mono (noteDescFault_touches _ _) rfl) (Touches.refl _ _)))); exact (Touches.refl _ _))

theorem closeBrake_touches (s : State) : Touches [.pm, .counters] s (closeBrake s) := by
  unfold closeBrake
  dsimp only
  exact (touches_ite (Touches.refl _ _) (Touches.before (Touches.mono (countBy_touches _ _ _ _) rfl) (upd_pm rfl (Touches.refl _ _))))

theorem dropRegulators_touches (s : State) : Touches [.clk, .boot] s (dropRegulators s) := by
  unfold dropRegulators
  dsimp only
  exact (upd_clk_boot rfl (Touches.refl _ _))

theorem raiseRegulators_touches (s : State) : Touches [.boot] s (raiseRegulators s) := by
  unfold raiseRegulators
  dsimp only
  exact (touches_ite (upd_boot rfl (Touches.refl _ _)) (Touches.refl _ _))

theorem coldEntry_touches (s : State) : Touches [.clk, .boot] s (coldEntry s) := by
  unfold coldEntry
  exact (touches_ite (Touches.before (Touches.mono (raiseRegulators_touches _) rfl) (Touches.mono (dropRegulators_touches _) rfl)) (Touches.refl _ _))

theorem coldNext_touches (s : State) : Touches [.boot] s (coldNext s) := by
  unfold coldNext
  dsimp only
  exact (upd_boot rfl (Touches.refl _ _))

theorem updMail_touches (pbr : Nat) (slot : Nat) (f : MailSlot → MailSlot) (s : State) : Touches [.pool] s (updMail pbr slot f s) := by
  unfold updMail
  dsimp only
  exact (upd_pool rfl (Touches.refl _ _))

theorem commandEnd_touches (x : PoolCmd) (sIn : State) : Touches [.rings, .lat, .pool, .out] sIn (commandEnd x sIn) := by
  unfold commandEnd
  dsimp only
  exact (by split; exact (Touches.before (Touches.mono (updateBoxes_touches _) rfl) (Touches.before (Touches.mono (updMail_touches _ _ _ _) rfl) (upd_pool rfl (Touches.refl _ _)))); exact (by split; exact (upd_rings_pool rfl (Touches.refl _ _)); exact (Touches.before (Touches.mono (completeOutst_touches _ _ _ _ _) rfl) (upd_pool rfl (Touches.refl _ _)))); exact (Touches.before (Touches.mono (sendRsp_touches _ _ _ _ _ _ _ _ _ _) rfl) (upd_pool rfl (Touches.refl _ _))))

theorem updStage_touches (fn : Nat) (ticket : Nat) (f : Outst → Outst) (s : State) : Touches [.rings] s (updStage fn ticket f s) := by
  unfold updStage
  dsimp only
  exact (Touches.before (touches_ite (Touches.refl _ _) (upd_rings rfl (Touches.refl _ _))) (Touches.mono (updRing_touches _ _ _ _) rfl))

theorem stageRead_touches (fn : Nat) (ticket : Nat) (off : Nat) (d : LineData) (poison : Bool) (fail : Option Nat) (s : State) : Touches [.rings, .out] s (stageRead fn ticket off d poison fail s) := by
  unfold stageRead
  exact (by split; exact (Touches.refl _ _); exact (Touches.before (Touches.mono (emit_touches _ _) rfl) (Touches.mono (updStage_touches _ _ _ _) rfl)))

theorem stageWritten_touches (fn : Nat) (ticket : Nat) (fail : Option Nat) (s : State) : Touches [.rings] s (stageWritten fn ticket fail s) := by
  unfold stageWritten
  exact (Touches.mono (updStage_touches _ _ _ _) rfl)

theorem ctlAnswer_touches (o : Origin) (router : Nat) (status : Nat) (write : Bool) (d : LineData) (s : State) : Touches [.rings, .out] s (ctlAnswer o router status write d s) := by
  unfold ctlAnswer
  dsimp only
  exact (by split; exact (Touches.mono (emit_touches _ _) rfl); exact (touches_ite (Touches.mono (stageWritten_touches _ _ _ _) rfl) (Touches.mono (stageRead_touches _ _ _ _ _ _ _) rfl)); exact (Touches.refl _ _))

theorem noteControl_touches (router : Nat) (line : Nat) (s : State) : Touches [.parts] s (noteControl router line s) := by
  unfold noteControl
  exact (by split; exact (Touches.refl _ _); exact (Touches.mono (noteWrite_touches _ _ _ _ _ _ _) rfl))

theorem commitAccess_touches (q : CtlReq) (sIn : State) : Touches [.parts, .buf, .ctl, .rings, .regs, .counters, .out] sIn (commitAccess q sIn) := by
  unfold commitAccess
  dsimp only
  exact (Touches.before (touches_ite (Touches.before (Touches.mono (ctlAnswer_touches _ _ _ _ _ _) rfl) (Touches.before (Touches.mono (noteControl_touches _ _ _) rfl) (Touches.mono (storeLine_touches _ _ _ _ _ _ _) rfl))) (Touches.before (Touches.mono (ctlAnswer_touches _ _ _ _ _ _) rfl) (Touches.mono (countErrors_touches _ _ _ _ _ _) rfl))) (touches_ite (Touches.refl _ _) (Touches.mono (injectLine_touches _ _ _) rfl)))

theorem completeToken_touches (region : Nat) (good : Bool) (s : State) : Touches [.lat, .pool, .out] s (completeToken region good s) := by
  unfold completeToken
  exact (Touches.before (Touches.mono (replicate_touches _ _) rfl) (Touches.mono (updRegion_touches _ _ _) rfl))

theorem consentTo_touches (c : Consent) (s : State) : Touches [.rings, .regs, .logs, .lanes, .counters, .out] s (consentTo c s) := by
  unfold consentTo
  dsimp only
  exact (Touches.before (touches_ite (Touches.refl _ _) (Touches.mono (mpEvent_touches _ _ _ _ _) rfl)) (upd_lanes rfl (Touches.refl _ _)))

theorem pwrAttention_touches (b : Nat) (s : State) : Touches [.rings, .regs, .out] s (pwrAttention b s) := by
  unfold pwrAttention
  dsimp only
  exact (Touches.before (touches_ite (Touches.mono (raiseVector_touches _ _ _) rfl) (Touches.refl _ _)) (upd_regs rfl (Touches.refl _ _)))

theorem countBrake_touches (s : State) : Touches [.rings, .regs, .pm, .counters, .out] s (countBrake s) := by
  unfold countBrake
  dsimp only
  exact (Touches.before (Touches.mono (pwrAttention_touches _ _) rfl) (Touches.before (Touches.mono (countUp_touches _ _ _) rfl) (upd_pm rfl (Touches.refl _ _))))

theorem countHot_touches (sensor : Nat) (raw : BitVec 16) (s : State) : Touches [.pm] s (countHot sensor raw s) := by
  unfold countHot
  dsimp only
  exact (Touches.mono (setSensor_touches _ _ _) rfl)

theorem countIdleOp_touches (router : Nat) (s : State) : Touches [.buf] s (countIdleOp router s) := by
  unfold countIdleOp
  dsimp only
  exact (upd_buf rfl (Touches.refl _ _))

theorem countRead_touches (fn : Nat) (off : Nat) (s : State) : Touches [.rings] s (countRead fn off s) := by
  unfold countRead
  exact (touches_ite (Touches.refl _ _) (touches_ite (Touches.mono (updRing_touches _ _ _ _) rfl) (touches_ite (Touches.mono (updRing_touches _ _ _ _) rfl) (Touches.refl _ _))))

theorem settleFlush_touches (fn : Nat) (ring : Nat) (s : State) : Touches [.rings] s (settleFlush fn ring s) := by
  unfold settleFlush
  dsimp only
  exact (touches_ite (Touches.mono (updRing_touches _ _ _ _) rfl) (Touches.refl _ _))

theorem cqDoorbell_touches (fn : Nat) (ring : Nat) (value : BitVec 32) (s : State) : Touches [.ctl, .rings, .counters, .out] s (cqDoorbell fn ring value s) := by
  unfold cqDoorbell
  dsimp only
  exact (touches_ite (Touches.mono (badDoorbell_touches _ _ _) rfl) (Touches.before (Touches.mono (settleFlush_touches _ _ _) rfl) (Touches.mono (updRing_touches _ _ _ _) rfl)))

theorem tableFailure_touches (opx : Nat) (s : State) : Touches [.lat, .pool, .out] s (tableFailure opx s) := by
  unfold tableFailure
  dsimp only
  exact (touches_ite (Touches.before (Touches.mono (replicate_touches _ _) rfl) (Touches.before (Touches.mono (updRegion_touches _ _ _) rfl) (Touches.mono (releaseExtents_touches _ _) rfl))) (Touches.refl _ _))

theorem tableSuccess_touches (opx : Nat) (s : State) : Touches [.lat, .pool, .out] s (tableSuccess opx s) := by
  unfold tableSuccess
  dsimp only
  exact (touches_ite (Touches.refl _ _) (touches_ite (Touches.before (Touches.mono (replicate_touches _ _) rfl) (Touches.mono (updRegion_touches _ _ _) rfl)) (Touches.before (Touches.mono (replicate_touches _ _) rfl) (Touches.mono (updRegion_touches _ _ _) rfl))))

theorem tableReply_touches (ref : Nat) (status : Nat) (s : State) : Touches [.rings, .regs, .fw, .lat, .pool, .out] s (tableReply ref status s) := by
  unfold tableReply
  dsimp only
  exact (by split; exact (Touches.refl _ _); exact (touches_ite (Touches.before (Touches.mono (answerTable_touches _ _ _ _ _) rfl) (Touches.before (Touches.mono (tableFailure_touches _ _) rfl) (upd_pool rfl (Touches.refl _ _)))) (touches_ite (Touches.before (Touches.mono (answerTable_touches _ _ _ _ _) rfl) (Touches.before (Touches.mono (tableSuccess_touches _ _) rfl) (upd_pool rfl (Touches.refl _ _)))) (upd_pool rfl (Touches.refl _ _)))))

theorem tableWait_touches (who : Nat) (opx : Nat) (tag : Nat) (left : Nat) (s : State) : Touches [.rings, .regs, .fw, .lat, .pool, .out] s (tableWait who opx tag left s) := by
  unfold tableWait
  dsimp only
  exact (Touches.before (touches_ite (Touches.mono (tableReply_touches _ _ _) rfl) (Touches.refl _ _)) (upd_pool rfl (Touches.refl _ _)))

theorem orderAll_touches (kind : Nat) (ms : List Nat) (who : Nat) (opx : Nat) (tag : Nat) (x : Nat) (s : State) : Touches [.rings, .regs, .fw, .lat, .pool, .out] s (orderAll kind ms who opx tag x s) := by
  unfold orderAll
  dsimp only
  exact (Touches.before (Touches.mono (tableWait_touches _ _ _ _ _) rfl) (touches_foldl (Touches.refl _ _) (fun _ _ => (Touches.mono (sendTable_touches _ _ _ _ _ _) rfl))))

theorem allocExtents_touches (region : Nat) (s : State) {t : State} (e : allocExtents region s = some t) : Touches [.pool] s t := by
  unfold allocExtents at e
  dsimp only at e
  split at e
  · cases e
    exact updRegion_touches _ _ _
  · cases e
theorem allocHere_touches (x : Nat) (s : State) {t : State} (e : allocHere x s = some t) : Touches [.pool] s t := by
  unfold allocHere at e
  split at e
  · split at e
    · exact Touches.after (allocExtents_touches _ _ e) rfl (updRegion_touches _ _ _)
    · cases e
  · exact allocExtents_touches _ _ e
theorem createRun_touches (who : Nat) (tag : Nat) (x : Nat) (s : State) : Touches [.rings, .regs, .fw, .lat, .pool, .out] s (createRun who tag x s) := by
  unfold createRun
  dsimp only
  exact (touches_ite (Touches.mono (answerTable_touches _ _ _ _ _) rfl) (touches_ite (by split; exact (Touches.mono (answerTable_touches _ _ _ _ _) rfl); exact (Touches.before (Touches.mono (orderAll_touches _ _ _ _ _ _ _) rfl) (Touches.mono (allocHere_touches _ _ (by assumption)) rfl))) (Touches.before (Touches.mono (orderAll_touches _ _ _ _ _ _ _) rfl) (Touches.mono (updRegion_touches _ _ _) rfl))))

theorem drawLine_touches (s : State) : Touches [.free] s (drawLine s).2 := by
  unfold drawLine
  dsimp only
  exact (upd_free rfl (Touches.refl _ _))

theorem queueCtl_touches (router : Nat) (line : Nat) (write : Bool) (data : LineData) (mask : LineMask) (o : Origin) (s : State) : Touches [.buf] s (queueCtl router line write data mask o s) := by
  unfold queueCtl
  dsimp only
  exact (upd_buf rfl (Touches.refl _ _))

theorem ctlArrive_touches (router : Nat) (line : Nat) (write : Bool) (data : LineData) (mask : LineMask) (o : Origin) (s : State) : Touches [.buf, .rings, .out, .free] s (ctlArrive router line write data mask o s) := by
  unfold ctlArrive
  dsimp only
  exact (by split; exact (Touches.before (Touches.mono (ctlAnswer_touches _ _ _ _ _ _) rfl) (Touches.mono (drawLine_touches _) rfl)); exact (Touches.mono (queueCtl_touches _ _ _ _ _ _ _) rfl))

theorem deadRouter_touches (n : Nat) (s : State) : Touches [.fmap, .rings, .regs, .logs, .counters, .out] s (deadRouter n s) := by
  unfold deadRouter
  dsimp only
  exact (touches_ite (Touches.before (Touches.mono (mpEvent_touches _ _ _ _ _) rfl) (upd_fmap rfl (Touches.refl _ _))) (Touches.refl _ _))

theorem deadenPcs_touches (pcs : List Nat) (s : State) : Touches [.fmap] s (deadenPcs pcs s) := by
  unfold deadenPcs
  dsimp only
  exact (upd_fmap rfl (Touches.refl _ _))

theorem declareLost_touches (m : Nat) (s : State) : Touches [.rings, .regs, .logs, .lat, .counters, .out] s (declareLost m s) := by
  unfold declareLost
  dsimp only
  exact (touches_ite (Touches.refl _ _) (Touches.before (touches_ite (Touches.mono (floodOwn_touches _ _ _) rfl) (Touches.refl _ _)) (Touches.before (Touches.mono (mpEvent_touches _ _ _ _ _) rfl) (upd_lat rfl (Touches.refl _ _)))))

theorem deleteHere_touches (region : Nat) (s : State) : Touches [.win, .pool, .out] s (deleteHere region s) := by
  unfold deleteHere
  exact (Touches.before (Touches.mono (bumpGen_touches _) rfl) (Touches.before (Touches.mono (aclInForce_touches _ _ _ _) rfl) (Touches.mono (updRegion_touches _ _ _) rfl)))

theorem deleteRun_touches (who : Nat) (tag : Nat) (x : Nat) (s : State) : Touches [.rings, .regs, .win, .fw, .lat, .pool, .out] s (deleteRun who tag x s) := by
  unfold deleteRun
  dsimp only
  exact (touches_ite (Touches.mono (answerTable_touches _ _ _ _ _) rfl) (Touches.before (Touches.mono (orderAll_touches _ _ _ _ _ _ _) rfl) (Touches.mono (deleteHere_touches _ _) rfl)))

theorem denial_touches (region : Nat) (s : State) : Touches [.ctl, .win, .counters] s (denial region s) := by
  unfold denial
  dsimp only
  exact (Touches.before (touches_ite (Touches.refl _ _) (Touches.before (Touches.mono (sendEvent_touches _ _) rfl) (upd_win rfl (Touches.refl _ _)))) (Touches.mono (countUp_touches _ _ _) rfl))

theorem flushEnds_touches (good : Bool) (f : DenseFlush) (s : State) : Touches [.rings, .regs, .fw, .pool, .out] s (flushEnds good f s) := by
  unfold flushEnds
  exact (by split; exact (Touches.mono (mciReply_touches _ _ _ _ _ _ _ _) rfl); exact (Touches.mono (updRegion_touches _ _ _) rfl))

theorem updDrive_touches (d : Nat) (f : Drive → Drive) (s : State) : Touches [.dense] s (updDrive d f s) := by
  unfold updDrive
  dsimp only
  exact (upd_dense rfl (Touches.refl _ _))

theorem sendDrive_touches (d : Nat) (cmd : Nat) (b : Nat) (data : Nat) (s : State) : Touches [.dense, .out] s (sendDrive d cmd b data s) := by
  unfold sendDrive
  exact (by split; exact (Touches.before (Touches.mono (emit_touches _ _) rfl) (Touches.mono (updDrive_touches _ _ _) rfl)); exact (Touches.mono (updDrive_touches _ _ _) rfl))

theorem flushOne_touches (f : DenseFlush) (s : State) : Touches [.hbm, .dense, .rings, .regs, .fw, .pool, .out] s (flushOne f s) := by
  unfold flushOne
  dsimp only
  exact (Touches.before (touches_ite (Touches.before (Touches.mono (flushEnds_touches _ _ _) rfl) (upd_dense rfl (Touches.refl _ _))) (Touches.refl _ _)) (Touches.before (touches_ite (touches_foldl (Touches.refl _ _) (fun _ _ => (Touches.mono (sendDrive_touches _ _ _ _ _) rfl))) (Touches.refl _ _)) (Touches.before (upd_dense rfl (Touches.refl _ _)) (touches_foldl (Touches.refl _ _) (fun _ _ => (by split; exact (touches_ite (Touches.mono (startWrite_touches _ _ _) rfl) (Touches.refl _ _)); exact (Touches.refl _ _)))))))

theorem flushGo_touches (s : State) : Touches [.hbm, .dense, .rings, .regs, .fw, .pool, .out] s (flushGo s) := by
  unfold flushGo
  exact (touches_foldl (Touches.refl _ _) (fun _ _ => (Touches.mono (flushOne_touches _ _) rfl)))

theorem denseGo_touches (sIn : State) : Touches [.ctl, .hbm, .dense, .rings, .regs, .fw, .pool, .counters, .out] sIn (denseGo sIn) := by
  unfold denseGo
  dsimp only
  exact (Touches.before (Touches.mono (attachGo_touches _ _) rfl) (Touches.before (Touches.mono (assignGo_touches _ _) rfl) (Touches.mono (flushGo_touches _) rfl)))

theorem gatherAcc_touches (a : PoolAcc) (pieces : List Nat) (s : State) : Touches [.hbm, .dense, .lat, .pool, .out] s (gatherAcc a pieces s) := by
  unfold gatherAcc
  dsimp only
  exact (touches_ite (Touches.mono (finishAcc_touches _ _ _ _ _) rfl) (Touches.mono (askPieces_touches _ _ _ _) rfl))

theorem gathered_touches (a : PoolAcc) (s : State) : Touches [.hbm, .dense, .lat, .pool, .out] s (gathered a s) := by
  unfold gathered
  dsimp only
  exact (touches_ite (Touches.before (Touches.mono (queueLocal_touches _ _ _) rfl) (Touches.mono (setAcc_touches _ _) rfl)) (touches_ite (Touches.before (Touches.mono (queueLocal_touches _ _ _) rfl) (Touches.mono (setAcc_touches _ _) rfl)) (Touches.mono (finishAcc_touches _ _ _ _ _) rfl)))

theorem pieceOf_touches (a : PoolAcc) (d : LineData) (poison : Bool) (s : State) : Touches [.hbm, .dense, .lat, .pool, .out] s (pieceOf a d poison s) := by
  unfold pieceOf
  dsimp only
  exact (touches_ite (touches_ite (Touches.mono (askPieces_touches _ _ _ _) rfl) (Touches.before (Touches.mono (gathered_touches _ _) rfl) (Touches.mono (setAcc_touches _ _) rfl))) (Touches.mono (setAcc_touches _ _) rfl))

theorem routeAcc_touches (a : PoolAcc) (s : State) : Touches [.hbm, .dense, .lat, .pool, .out] s (routeAcc a s) := by
  unfold routeAcc
  dsimp only
  exact (touches_ite (Touches.mono (finishAcc_touches _ _ _ _ _) rfl) (touches_ite (Touches.mono (setAcc_touches _ _) rfl) (touches_ite (touches_ite (Touches.mono (finishAcc_touches _ _ _ _ _) rfl) (touches_ite (Touches.mono (gatherAcc_touches _ _ _) rfl) (Touches.before (Touches.mono (sendAcc_touches _ _ _ _ _ _ _) rfl) (Touches.mono (setAcc_touches _ _) rfl)))) (touches_ite (Touches.before (Touches.mono (queueLocal_touches _ _ _) rfl) (Touches.mono (setAcc_touches _ _) rfl)) (Touches.before (Touches.mono (sendAcc_touches _ _ _ _ _ _ _) rfl) (Touches.mono (setAcc_touches _ _) rfl))))))

theorem unlockStripe_touches (region : Nat) (s : State) : Touches [.hbm, .dense, .lat, .pool, .out] s (unlockStripe region s) := by
  unfold unlockStripe
  dsimp only
  exact (touches_foldl (Touches.refl _ _) (fun _ _ => (touches_ite (Touches.refl _ _) (touches_ite (Touches.mono (routeAcc_touches _ _) rfl) (Touches.before (Touches.mono (queueLocal_touches _ _ _) rfl) (Touches.mono (setAcc_touches _ _) rfl))))))

theorem poolServe_touches {bs : List Block} {s0 : State} (id : Nat) (rd : State → Beat × State) (wr : LineData → Bool → State → State) (unc : Bool) (fail : Option Nat) (s : State) (hsub : sub [.hbm, .dense, .lat, .pool, .out] bs = true) (hsx : Touches bs s0 s) (hx_rd : ∀ v0, Touches bs v0 (rd v0).2) (hx_wr : ∀ v0 v1 v2, Touches bs v2 (wr v0 v1 v2)) :
    Touches bs s0 (poolServe id rd wr unc fail s) := by
  refine Touches.trans hsx ?_
  unfold poolServe
  dsimp only
  exact (by split; exact (Touches.refl _ _); exact (by split; exact (touches_ite (Touches.mono (pieceOf_touches _ _ _ _) (sub_trans rfl hsub)) (touches_ite (Touches.mono (finishAcc_touches _ _ _ _ _) (sub_trans rfl hsub)) (touches_ite (Touches.mono (gatherAcc_touches _ _ _) (sub_trans rfl hsub)) (Touches.mono (finishAcc_touches _ _ _ _ _) (sub_trans rfl hsub))))); exact (touches_ite (Touches.before (Touches.mono (pieceOf_touches _ _ _ _) (sub_trans rfl hsub)) (hx_rd _)) (touches_ite (Touches.before (Touches.mono (unlockStripe_touches _ _) (sub_trans rfl hsub)) (Touches.before (Touches.mono (finishAcc_touches _ _ _ _ _) (sub_trans rfl hsub)) (hx_wr _ _ _))) (touches_ite (Touches.before (Touches.mono (finishAcc_touches _ _ _ _ _) (sub_trans rfl hsub)) (Touches.before (hx_wr _ _ _) (hx_rd _))) (touches_ite (Touches.before (Touches.mono (finishAcc_touches _ _ _ _ _) (sub_trans rfl hsub)) (hx_rd _)) (touches_ite (Touches.before (Touches.mono (afterWrite_touches _ _ _) (sub_trans rfl hsub)) (Touches.before (hx_wr _ _ _) (touches_ite_snd (hx_rd _) (Touches.refl _ _)))) (Touches.before (touches_ite (Touches.mono (gatherAcc_touches _ _ _) (sub_trans rfl hsub)) (Touches.mono (finishAcc_touches _ _ _ _ _) (sub_trans rfl hsub))) (hx_rd _)))))))))

theorem serveLines_touches {bs : List Block} {s0 : State} (n : Nat) (f : Nat → State → State) (s : State) (_hsub : sub [] bs = true) (hsx : Touches bs s0 s) (hx_f : ∀ v0 v1, Touches bs v1 (f v0 v1)) :
    Touches bs s0 (serveLines n f s) := by
  refine Touches.trans hsx ?_
  unfold serveLines
  exact (touches_foldl (Touches.refl _ _) (fun _ _ => (hx_f _ _)))

theorem failReq_touches (q : DReq) (s : State) : Touches [.hbm, .dense, .rings, .lat, .pool, .out, .free] s (failReq q s) := by
  unfold failReq
  dsimp only
  exact (by split; exact (serveLines_touches _ _ _ rfl (Touches.refl _ _) (fun _ _ => (touches_ite (Touches.mono (stageWritten_touches _ _ _ _) rfl) (Touches.before (Touches.mono (stageRead_touches _ _ _ _ _ _ _) rfl) (Touches.mono (drawLine_touches _) rfl))))); exact (poolServe_touches _ _ _ _ _ _ rfl (Touches.refl _ _) (fun _ => (Touches.refl _ _)) (fun _ _ _ => (Touches.refl _ _))); exact (Touches.refl _ _))

theorem setMiss_touches (m : MissEntry) (s : State) : Touches [.dense] s (setMiss m s) := by
  unfold setMiss
  dsimp only
  exact (upd_dense rfl (Touches.refl _ _))

theorem driveCommand_touches (cmd : Nat) (b : Nat) (data : Nat) (s : State) : Touches [.dense, .out] s (driveCommand cmd b data s) := by
  unfold driveCommand
  exact (Touches.mono (sendDrive_touches _ _ _ _ _) rfl)

theorem readBlock_touches (m : MissEntry) (s : State) : Touches [.dense, .out] s (readBlock m s) := by
  unfold readBlock
  exact (Touches.before (Touches.mono (driveCommand_touches _ _ _ _) rfl) (Touches.mono (setMiss_touches _ _) rfl))

theorem fillLine_touches (m : MissEntry) (s : State) : Touches [.hbm, .dense, .out] s (fillLine m s) := by
  unfold fillLine
  dsimp only
  exact (by split; exact (Touches.before (touches_ite (Touches.before (Touches.mono (queueCache_touches _ _ _) rfl) (Touches.mono (setMiss_touches _ _) rfl)) (Touches.mono (readBlock_touches _ _) rfl)) (Touches.before (Touches.mono (updLine_touches _ _ _) rfl) (upd_dense rfl (Touches.refl _ _)))); exact (Touches.before (Touches.mono (readBlock_touches _ _) rfl) (Touches.before (Touches.mono (updLine_touches _ _ _) rfl) (upd_dense rfl (Touches.refl _ _)))))

theorem startMiss_touches (q : DReq) (k : Nat) (s : State) : Touches [.hbm, .dense, .out] s (startMiss q k s) := by
  unfold startMiss
  dsimp only
  exact (Touches.before (touches_ite (Touches.mono (startWrite_touches _ _ _) rfl) (Touches.mono (fillLine_touches _ _) rfl)) (upd_dense rfl (Touches.refl _ _)))

theorem useLine_touches (k : Nat) (s : State) : Touches [.dense] s (useLine k s) := by
  unfold useLine
  dsimp only
  exact (Touches.before (Touches.mono (updLine_touches _ _ _) rfl) (upd_dense rfl (Touches.refl _ _)))

theorem denseServe_touches (q : DReq) (s : State) : Touches [.hbm, .dense, .rings, .lat, .pool, .out, .free] s (denseServe q s) := by
  unfold denseServe
  dsimp only
  exact (by split; exact (Touches.mono (failReq_touches _ _) rfl); exact (Touches.before (Touches.mono (queueCache_touches _ _ _) rfl) (Touches.mono (useLine_touches _ _) rfl)); exact (Touches.mono (setMiss_touches _ _) rfl); exact (Touches.mono (startMiss_touches _ _ _) rfl); exact (upd_dense rfl (Touches.refl _ _)))

theorem denyFrames_touches (s : State) : Touches [.parts] s (denyFrames s) := by
  unfold denyFrames
  exact (Touches.mono (updParts_touches _ _) rfl)

theorem startAcc_touches (for_ : PoolFor) (region : Nat) (member : Nat) (off : Nat) (write : Bool) (d : LineData) (poison : Bool) (phase : Nat) (s : State) : Touches [.hbm, .dense, .lat, .pool, .out] s (startAcc for_ region member off write d poison phase s) := by
  unfold startAcc
  dsimp only
  exact (Touches.before (touches_ite (touches_ite (Touches.mono (setAcc_touches _ _) rfl) (Touches.mono (queueLocal_touches _ _ _) rfl)) (touches_ite (Touches.mono (queueLocal_touches _ _ _) rfl) (touches_ite (Touches.refl _ _) (touches_ite (Touches.mono (gatherAcc_touches _ _ _) rfl) (Touches.mono (routeAcc_touches _ _) rfl))))) (upd_pool rfl (Touches.refl _ _)))

theorem destLine_touches (id : Nat) (region : Nat) (o : Nat) (d : LineData) (s : State) : Touches [.hbm, .dense, .lat, .pool, .out] s (destLine id region o d s) := by
  unfold destLine
  dsimp only
  exact (Touches.before (Touches.mono (startAcc_touches _ _ _ _ _ _ _ _ _) rfl) (Touches.mono (updCmd_touches _ _ _) rfl))

theorem discardCxl_touches (s : State) : Touches [.pool] s (discardCxl s) := by
  unfold discardCxl
  dsimp only
  exact (upd_pool rfl (Touches.refl _ _))

theorem drainQueue_touches (endpoint : Nat) (left : Nat) (s : State) : Touches [.ctl, .counters] s (drainQueue endpoint left s) := by
  unfold drainQueue
  dsimp only
  exact (by split; exact (upd_ctl rfl (Touches.refl _ _)); exact (touches_ite (upd_ctl rfl (Touches.refl _ _)) (Touches.before (touches_ite (Touches.refl _ _) (Touches.mono (sendEvent_touches _ _) rfl)) (Touches.before (Touches.mono (sendEvent_touches _ _) rfl) (upd_ctl rfl (Touches.refl _ _))))))

theorem drawFree_touches (s : State) : Touches [.free] s (drawFree s).2 := by
  unfold drawFree
  dsimp only
  exact (upd_free rfl (Touches.refl _ _))

theorem driveEnds_touches (d : Nat) (c : DriveCmd) (s : State) : Touches [.dense, .out] s (driveEnds d c s) := by
  unfold driveEnds
  dsimp only
  exact (by split; exact (Touches.mono (updDrive_touches _ _ _) rfl); exact (Touches.before (Touches.mono (sendDrive_touches _ _ _ _ _) rfl) (Touches.before (Touches.mono (updDrive_touches _ _ _) rfl) (Touches.mono (updDrive_touches _ _ _) rfl))))

theorem dropJobs_touches (f : Nat × CacheJob → Bool) (s : State) : Touches [.hbm] s (dropJobs f s) := by
  unfold dropJobs
  exact (Touches.mono (updPcs_touches _ _ _) rfl)

theorem dropMiss_touches (b : Nat) (s : State) : Touches [.dense] s (dropMiss b s) := by
  unfold dropMiss
  dsimp only
  exact (upd_dense rfl (Touches.refl _ _))

theorem lostPart_touches (q : OutReq) (s : State) : Touches [.rings, .regs, .fw, .lat, .pool, .out] s (lostPart q s) := by
  unfold lostPart
  dsimp only
  exact (by split; exact (Touches.mono (updCmd_touches _ _ _) rfl); exact (Touches.mono (updCmd_touches _ _ _) rfl); exact (Touches.mono (tableReply_touches _ _ _) rfl); exact (Touches.refl _ _))

theorem dropRequests_touches (m : Nat) (s : State) : Touches [.rings, .regs, .fw, .lat, .pool, .out] s (dropRequests m s) := by
  unfold dropRequests
  dsimp only
  exact (Touches.before (touches_foldl (Touches.refl _ _) (fun _ _ => (Touches.mono (lostPart_touches _ _) rfl))) (upd_lat rfl (Touches.refl _ _)))

theorem stsAttention_touches (b : Nat) (s : State) : Touches [.rings, .regs, .out] s (stsAttention b s) := by
  unfold stsAttention
  dsimp only
  exact (Touches.before (touches_ite (Touches.mono (raiseVector_touches _ _ _) rfl) (Touches.refl _ _)) (upd_regs rfl (Touches.refl _ _)))

theorem notify_touches (cls : Nat) (reason : Nat) (unit : Nat) (s : State) : Touches [.rings, .regs, .out] s (notify cls reason unit s) := by
  unfold notify
  dsimp only
  exact (Touches.before (Touches.mono (stsAttention_touches _ _) rfl) (Touches.mono (emitAll_touches _ _) rfl))

theorem noteVet_touches (before s : State) : Touches [.pm] s (noteVet before s) := by
  unfold noteVet
  exact touches_ite (Touches.refl _ _) (upd_pm rfl (Touches.refl _ _))
theorem recheckVet_touches (s : State) : Touches [.rings, .regs, .logs, .fw, .pm, .lat, .counters, .out] s (recheckVet s) := by
  have h : ∀ v : Fw, Touches [.rings, .regs, .logs, .fw, .pm, .lat, .counters, .out] s (noteVet s { s with fw := v }) := fun v =>
    Touches.after (noteVet_touches _ _) rfl (upd_fw rfl (Touches.refl _ _))
  unfold recheckVet
  dsimp only
  refine touches_ite (h _) (touches_ite ?_ (Touches.after (notify_touches _ _ _ _) rfl (h _)))
  exact Touches.after (notify_touches _ _ _ _) rfl (Touches.after (mpEvent_touches _ _ _ _ _) rfl (upd_lat rfl (h _)))

theorem tileCombination_touches (s : State) : Touches [.rings, .regs, .logs, .fw, .pm, .lat, .counters, .out] s (tileCombination s) := by
  unfold tileCombination
  dsimp only
  exact (Touches.before (touches_ite (Touches.refl _ _) (Touches.mono (recheckVet_touches _) rfl)) (upd_fw rfl (Touches.refl _ _)))

theorem dropTile_touches (t : Nat) (reason : Nat) (s : State) : Touches [.fmap, .tiles, .rings, .regs, .logs, .fw, .pm, .lat, .counters, .out] s (dropTile t reason s) := by
  unfold dropTile
  dsimp only
  exact (Touches.before (Touches.mono (tileCombination_touches _) rfl) (Touches.before (upd_fmap rfl (Touches.refl _ _)) (Touches.mono (updTile_touches _ _ _) rfl)))

theorem dropWin_touches (w : StoredWin) (s : State) : Touches [.lat] s (dropWin w s) := by
  unfold dropWin
  dsimp only
  exact (upd_lat rfl (Touches.refl _ _))

theorem startTile_touches (t : Nat) (s : State) : Touches [.tiles] s (startTile t s) := by
  unfold startTile
  dsimp only
  exact (Touches.mono (updTile_touches _ _ _) rfl)

theorem endTest_touches (t : LaneTest) (s : State) : Touches [.buf, .hbm, .tiles, .lanes] s (endTest t s) := by
  unfold endTest
  dsimp only
  exact (Touches.before (touches_ite (Touches.mono (startTile_touches _ _) rfl) (Touches.refl _ _)) (Touches.before (touches_ite (Touches.mono (updStack_touches _ _ _) rfl) (Touches.refl _ _)) (upd_buf_lanes rfl (Touches.refl _ _))))

theorem sendWire_touches (port : Nat) (peer : Nat) (total : Nat) (stamp : BitVec 32) (last : Bool) (x5 : Nat) (x6 : State) : Touches [.comp, .lat] x6 (sendWire port peer total stamp last x5 x6) := by
  induction x5 generalizing x6 with
  | zero => exact Touches.refl _ _
  | succ n ih =>
    unfold sendWire
    dsimp only
    split
    · refine Touches.before (ih _) ?_
      split
      · exact Touches.mono (updComp_touches _ _ _ _) rfl
      · exact Touches.after (sendFlit_touches _ _ _ _) rfl (Touches.mono (updComp_touches _ _ _ _) rfl)
    · exact Touches.refl _ _

theorem handOver_touches (port : Nat) (r : CompRec) (s : State) : Touches [.comp, .lat] s (handOver port r s) := by
  unfold handOver
  dsimp only
  exact (by split; exact (Touches.refl _ _); exact (Touches.before (touches_ite (Touches.mono (updComp_touches _ _ _ _) rfl) (Touches.refl _ _)) (Touches.before (Touches.mono (sendWire_touches _ _ _ _ _ _ _) rfl) (Touches.mono (updComp_touches _ _ _ _) rfl))))

theorem enterBeat_touches (port : Nat) (at_ : Nat) (router : Nat) (x : Beat) (s : State) : Touches [.comp, .ctl, .lat, .counters] s (enterBeat port at_ router x s) := by
  unfold enterBeat
  dsimp only
  exact (by split; exact (Touches.refl _ _); exact (Touches.before (touches_ite (Touches.mono (handOver_touches _ _ _) rfl) (Touches.before (touches_ite (Touches.mono (closeBlock_touches _ _ _) rfl) (Touches.refl _ _)) (Touches.mono (updComp_touches _ _ _ _) rfl))) (Touches.mono (updComp_touches _ _ _ _) rfl)))

theorem enterRecovery_touches (s : State) : Touches [.boot, .rings, .regs, .logs, .counters, .out] s (enterRecovery s) := by
  unfold enterRecovery
  dsimp only
  exact (Touches.before (Touches.mono (mpEvent_touches _ _ _ _ _) rfl) (upd_boot rfl (Touches.refl _ _)))

theorem restPm_touches (s : State) : Touches [.pm] s (restPm s) := by
  unfold restPm
  dsimp only
  exact (upd_pm rfl (Touches.refl _ _))

theorem writeSummary_touches (s : State) : Touches [.logs] s (writeSummary s) := by
  unfold writeSummary
  dsimp only
  exact (upd_logs rfl (Touches.refl _ _))

theorem enterReset_touches (s : State) : Touches [.clk, .pins, .boot, .parts, .layout, .layoutPend, .slots, .buf, .comp, .ctl, .fmap, .hbm, .dense, .tiles, .rings, .regs, .logs, .win, .lanes, .fw, .pm, .lat, .pool, .counters, .out] s (enterReset s) := by
  unfold enterReset
  dsimp only
  exact (Touches.before (upd_boot rfl (Touches.refl _ _)) (Touches.before (Touches.mono (restPm_touches _) rfl) (Touches.before (Touches.mono (stopModule_touches _) rfl) (Touches.before (Touches.mono (closeBrake_touches _) rfl) (touches_ite (Touches.mono (writeSummary_touches _) rfl) (Touches.refl _ _))))))

theorem rerouteLost_touches (m : Nat) (region : Nat) (s : State) : Touches [.hbm, .dense, .lat, .pool, .out] s (rerouteLost m region s) := by
  unfold rerouteLost
  dsimp only
  exact (touches_foldl (upd_lat rfl (Touches.refl _ _)) (fun _ _ => (by split; exact (Touches.refl _ _); exact (touches_ite (Touches.mono (finishAcc_touches _ _ _ _ _) rfl) (touches_ite (Touches.mono (finishAcc_touches _ _ _ _ _) rfl) (touches_ite (Touches.mono (routeAcc_touches _ _) rfl) (Touches.mono (finishAcc_touches _ _ _ _ _) rfl)))))))

theorem entryHere_touches (src : Nat) (region : Nat) (x : Nat) (s : State) : Touches [.hbm, .dense, .lat, .pool, .out] s (entryHere src region x s) := by
  unfold entryHere
  dsimp only
  exact (touches_ite (Touches.before (Touches.mono (updRegion_touches _ _ _) rfl) (Touches.mono (releaseExtents_touches _ _) rfl)) (Touches.before (Touches.mono (unlockStripe_touches _ _) rfl) (by split; exact (Touches.before (touches_ite (Touches.refl _ _) (Touches.mono (rerouteLost_touches _ _ _) rfl)) (Touches.mono (updRegion_touches _ _ _) rfl)); exact (touches_ite (Touches.refl _ _) (Touches.mono (updRegion_touches _ _ _) rfl)))))

theorem eraseErrlog_touches (s : State) : Touches [.logs] s (eraseErrlog s) := by
  unfold eraseErrlog
  dsimp only
  exact (upd_logs rfl (Touches.refl _ _))

theorem mciDuplicate_touches (op : Nat) (q : MciReq) (s : State) : Touches [.rings, .regs, .out] s (mciDuplicate op q s) := by
  unfold mciDuplicate
  exact (Touches.mono (mciDeliver_touches _ _ _ _ _ _ _ _) rfl)

theorem mciStatus_touches (op : Nat) (q : MciReq) (status : Nat) (s : State) : Touches [.rings, .regs, .fw, .out] s (mciStatus op q status s) := by
  unfold mciStatus
  exact (Touches.mono (mciAnswer_touches _ _ _ _ _ _ _) rfl)

theorem mciRun_touches {bs : List Block} {s0 : State} (op : Nat) (lenOk : Bool) (paramOk : Bool) (q : MciReq) (act : State → State) (s : State) (hsub : sub [.rings, .regs, .fw, .out] bs = true) (hsx : Touches bs s0 s) (hx_act : ∀ v0, Touches bs v0 (act v0)) :
    Touches bs s0 (mciRun op lenOk paramOk q act s) := by
  refine Touches.trans hsx ?_
  unfold mciRun
  exact (touches_ite (Touches.refl _ _) (by split; exact (touches_ite (Touches.mono (mciDuplicate_touches _ _ _) (sub_trans rfl hsub)) (Touches.mono (mciStatus_touches _ _ _ _) (sub_trans rfl hsub))); exact (hx_act _)))

theorem mciFixed_touches {bs : List Block} {s0 : State} (op : Nat) (len : Nat) (fields : List (Nat × Nat)) (rangeOk : Bool) (q : MciReq) (act : State → State) (s : State) (hsub : sub [.rings, .regs, .fw, .out] bs = true) (hsx : Touches bs s0 s) (hx_act : ∀ v0, Touches bs v0 (act v0)) :
    Touches bs s0 (mciFixed op len fields rangeOk q act s) := by
  refine Touches.trans hsx ?_
  unfold mciFixed
  exact (mciRun_touches _ _ _ _ _ _ (sub_trans rfl hsub) (Touches.refl _ _) (fun _ => (hx_act _)))

theorem mciQuery_touches (op : Nat) (q : MciReq) (content : List Nat) (s : State) : Touches [.rings, .regs, .fw, .out] s (mciQuery op q content s) := by
  unfold mciQuery
  exact (Touches.mono (mciAnswer_touches _ _ _ _ _ _ _) rfl)

theorem errlogCommand_touches (q : MciReq) (s : State) : Touches [.rings, .regs, .logs, .fw, .out] s (errlogCommand q s) := by
  unfold errlogCommand
  dsimp only
  exact (mciFixed_touches _ _ _ _ _ _ _ rfl (Touches.refl _ _) (fun _ => (touches_ite (Touches.mono (mciStatus_touches _ _ _ _) rfl) (Touches.before (touches_ite (Touches.mono (eraseErrlog_touches _) rfl) (Touches.refl _ _)) (Touches.mono (mciQuery_touches _ _ _ _) rfl)))))

theorem raiseRequest_touches (reason : Nat) (unit : Nat) (s : State) : Touches [.rings, .regs, .logs, .counters, .out] s (raiseRequest reason unit s) := by
  unfold raiseRequest
  dsimp only
  exact (Touches.before (Touches.mono (notify_touches _ _ _ _) rfl) (Touches.before (Touches.mono (logEntry_touches _ _ _ _ _ _ _) rfl) (upd_logs rfl (Touches.refl _ _))))

theorem evaluateRequests_touches (s : State) : Touches [.rings, .regs, .logs, .counters, .out] s (evaluateRequests s) := by
  unfold evaluateRequests
  exact (touches_ite (touches_foldl (Touches.refl _ _) (fun _ _ => (touches_ite (Touches.refl _ _) (Touches.mono (raiseRequest_touches _ _ _) rfl)))) (Touches.refl _ _))

theorem evaluateFor_touches (pair : Nat × Nat) (c : Bool) (s : State) : Touches [.rings, .regs, .logs, .counters, .out] s (evaluateFor pair c s) := by
  unfold evaluateFor
  exact (touches_ite (Touches.mono (evaluateRequests_touches _) rfl) (Touches.refl _ _))

end Sys2Proof.Machine
end

