-- ==== Sys2Proof/Laws/Frames4.lean ====
section
/-! SUPPORT. What the shared operations leave alone, part 4: one lemma each, from excludeSensor to rebuildAtLine. -/

namespace Sys2Proof.Machine

theorem excludeSensor_touches (key : Nat) (st : Nat) (z : Sensor) (s : State) : Touches [.ctl, .pm, .counters] s (excludeSensor key st z s) := by
  unfold excludeSensor
  dsimp only
  exact (Touches.before (touches_ite (Touches.mono (sendEvent_touches _ _) rfl) (Touches.refl _ _)) (Touches.before (Touches.mono (sendEvent_touches _ _) rfl) (Touches.mono (setSensor_touches _ _ _) rfl)))

theorem extentsDone_touches (region : Nat) (s : State) : Touches [.lat, .out] s (extentsDone region s) := by
  unfold extentsDone
  dsimp only
  exact (touches_ite (Touches.refl _ _) (Touches.mono (sendTable_touches _ _ _ _ _ _) rfl))

theorem releasePins_touches (set : Nat) (x1 : Nat) (x2 : State) : Touches [.ctl, .dense, .counters] x2 (releasePins set x1 x2) := by
  induction x1 generalizing x2 with
  | zero => exact Touches.refl _ _
  | succ n ih =>
    unfold releasePins
    dsimp only
    split
    · exact Touches.refl _ _
    · split
      · exact Touches.before (ih _) (Touches.mono (updLine_touches _ _ _) rfl)
      · split
        · exact Touches.before (ih _) (Touches.after (updLine_touches _ _ _) rfl (failBlock_touches _ _))
        · exact Touches.refl _ _

theorem failDrive_touches (d : Nat) (s : State) : Touches [.ctl, .hbm, .dense, .rings, .regs, .fw, .lat, .pool, .counters, .out, .free] s (failDrive d s) := by
  unfold failDrive
  dsimp only
  exact (touches_ite (Touches.refl _ _) (Touches.before (Touches.mono (denseGo_touches _) rfl) (Touches.before (Touches.mono (updDrive_touches _ _ _) rfl) (Touches.before (upd_dense_pool rfl (Touches.refl _ _)) (Touches.before (touches_foldl (Touches.refl _ _) (fun _ _ => (Touches.before (touches_foldl (Touches.refl _ _) (fun _ _ => (Touches.mono (failReq_touches _ _) rfl))) (Touches.mono (dropMiss_touches _ _) rfl)))) (Touches.before (touches_foldl (Touches.refl _ _) (fun _ _ => (Touches.mono (releasePins_touches _ _ _) rfl))) (Touches.before (Touches.mono (dropJobs_touches _ _) rfl) (Touches.before (upd_dense rfl (Touches.refl _ _)) (Touches.before (touches_foldl (Touches.refl _ _) (fun _ _ => (Touches.mono (updLine_touches _ _ _) rfl))) (Touches.before (Touches.mono (sendEvent_touches _ _) rfl) (Touches.before (Touches.mono (updDrive_touches _ _ _) rfl) (upd_dense rfl (Touches.refl _ _)))))))))))))

theorem judgeLost_touches (ms : List Nat) (s : State) : Touches [.rings, .regs, .logs, .lat, .counters, .out] s (judgeLost ms s) := by
  unfold judgeLost
  exact (touches_foldl (Touches.refl _ _) (fun _ _ => (touches_ite (Touches.mono (declareLost_touches _ _) rfl) (Touches.refl _ _))))

theorem noteFailed_touches (m : Nat) (port : Nat) (s : State) : Touches [.rings, .regs, .logs, .lat, .counters, .out] s (noteFailed m port s) := by
  unfold noteFailed
  dsimp only
  exact (Touches.before (Touches.mono (judgeLost_touches _ _) rfl) (upd_lat rfl (Touches.refl _ _)))

theorem failPort_touches (port : Nat) (s : State) : Touches [.ctl, .rings, .regs, .logs, .lat, .counters, .out] s (failPort port s) := by
  unfold failPort
  dsimp only
  exact (Touches.before (Touches.mono (noteFailed_touches _ _ _) rfl) (Touches.before (Touches.mono (floodOwn_touches _ _ _) rfl) (Touches.before (Touches.mono (blockFault_touches _ _ _ _ _ _) rfl) (Touches.mono (updPort_touches _ _ _) rfl))))

theorem failTile_touches (t : Nat) (reason : Nat) (detail : Nat) (s : State) : Touches [.fmap, .tiles, .rings, .regs, .logs, .fw, .pm, .lat, .counters, .out] s (failTile t reason detail s) := by
  unfold failTile
  exact (Touches.before (Touches.mono (dropTile_touches _ _ _) rfl) (Touches.mono (mpEvent_touches _ _ _ _ _) rfl))

theorem failWin_touches (w : StoredWin) (s : State) : Touches [.lat, .counters] s (failWin w s) := by
  unfold failWin
  dsimp only
  exact (Touches.before (touches_ite (Touches.refl _ _) (Touches.mono (countUp_touches _ _ _) rfl)) (Touches.mono (putWin_touches _ _) rfl))

theorem fwSetState_touches (k : Nat) (st : Nat) (s : State) : Touches [.rings, .regs, .fw, .out] s (fwSetState k st s) := by
  unfold fwSetState
  dsimp only
  exact (Touches.before (touches_ite (Touches.refl _ _) (Touches.mono (notify_touches _ _ _ _) rfl)) (upd_fw rfl (Touches.refl _ _)))

theorem revertSlot_touches (k : Nat) (s : State) : Touches [.rings, .regs, .logs, .fw, .counters, .out] s (revertSlot k s) := by
  unfold revertSlot
  dsimp only
  exact (Touches.before (Touches.mono (mpEvent_touches _ _ _ _ _) rfl) (Touches.before (upd_fw rfl (Touches.refl _ _)) (Touches.before (Touches.mono (bootRecord_touches _ _ _ _) rfl) (Touches.mono (fwSetState_touches _ _ _) rfl))))

theorem failedBoot_touches (s : State) : Touches [.boot, .rings, .regs, .logs, .fw, .counters, .out] s (failedBoot s) := by
  unfold failedBoot
  dsimp only
  exact (touches_ite (Touches.mono (bootRecord_touches _ _ _ _) rfl) (touches_ite (Touches.mono (revertSlot_touches _ _) rfl) (Touches.before (Touches.mono (enterRecovery_touches _) rfl) (Touches.before (Touches.mono (fwSetState_touches _ _ _) rfl) (touches_ite (Touches.mono (fwSetState_touches _ _ _) rfl) (Touches.refl _ _))))))

theorem fieldWrite_touches (e : Nat) (s : State) : Touches [.rings, .regs, .logs, .lanes, .counters, .out] s (fieldWrite e s) := by
  unfold fieldWrite
  dsimp only
  exact (touches_ite (Touches.refl _ _) (touches_ite (upd_lanes rfl (Touches.refl _ _)) (touches_ite (Touches.refl _ _) (Touches.before (Touches.mono (mpEvent_touches _ _ _ _ _) rfl) (upd_lanes rfl (Touches.refl _ _))))))

theorem fieldWrites_touches (s : State) : Touches [.rings, .regs, .logs, .lanes, .counters, .out] s (fieldWrites s) := by
  unfold fieldWrites
  exact (touches_ite (Touches.refl _ _) (touches_foldl (Touches.refl _ _) (fun _ _ => (Touches.mono (fieldWrite_touches _ _) rfl))))

theorem runToLoop_touches (x0 : Nat) (x1 : Nat) (x2 : State) : Touches [.clk, .parts, .layout, .layoutPend, .slots, .buf, .comp, .ctl, .hbm, .tiles, .rings, .regs, .logs, .win, .lat, .counters, .out] x2 (runToLoop x0 x1 x2) := by
  induction x0 generalizing x2 with
  | zero => exact Touches.refl _ _
  | succ n ih =>
    unfold runToLoop
    exact touches_ite (Touches.after (advanceTo_touches _ _) rfl (settle_touches _))
      (Touches.before (ih _) (Touches.after (advanceTo_touches _ _) rfl (settle_touches _)))

theorem runTo_touches (target : Nat) (s : State) : Touches [.clk, .parts, .layout, .layoutPend, .slots, .buf, .comp, .ctl, .hbm, .tiles, .rings, .regs, .logs, .win, .lat, .counters, .out] s (runTo target s) := by
  unfold runTo
  exact (Touches.mono (runToLoop_touches _ _ _) rfl)

theorem fillRun_touches (s : State) : Touches [.clk, .parts, .layout, .layoutPend, .slots, .buf, .comp, .ctl, .hbm, .tiles, .rings, .regs, .logs, .win, .lat, .counters, .out] s (fillRun s) := by
  unfold fillRun
  exact (Touches.mono (runTo_touches _ _) rfl)

theorem noteLoad_touches (port : Nat) (isWin : Bool) (s : State) : Touches [.lat, .counters] s (noteLoad port isWin s) := by
  unfold noteLoad
  dsimp only
  exact (Touches.before (touches_ite (Touches.mono (countUp_touches _ _ _) rfl) (Touches.refl _ _)) (Touches.mono (updPort_touches _ _ _) rfl))

theorem wire_touches (port : Nat) (f : Flit) (seq : Nat) (s : State) : Touches [.lat, .counters, .out] s (wire port f seq s) := by
  unfold wire
  dsimp only
  exact (Touches.before (Touches.mono (emit_touches _ _) rfl) (Touches.before (Touches.mono (countUp_touches _ _ _) rfl) (Touches.mono (updPort_touches _ _ _) rfl)))

theorem fillSlot_touches (port : Nat) (s : State) : Touches [.lat, .counters, .out] s (fillSlot port s) := by
  unfold fillSlot
  dsimp only
  exact (by split; exact (touches_ite (Touches.before (Touches.mono (wire_touches _ _ _ _) rfl) (Touches.before (Touches.mono (noteLoad_touches _ _ _) rfl) (Touches.mono (updPort_touches _ _ _) rfl))) (Touches.refl _ _)); exact (touches_ite (Touches.refl _ _) (by split; exact (Touches.refl _ _); exact (Touches.before (Touches.mono (wire_touches _ _ _ _) rfl) (Touches.before (Touches.mono (noteLoad_touches _ _ _) rfl) (Touches.mono (updPort_touches _ _ _) rfl))))))

theorem poisonReq_touches (q : DReq) (s : State) : Touches [.hbm, .dense, .rings, .lat, .pool, .out, .free] s (poisonReq q s) := by
  unfold poisonReq
  dsimp only
  exact (touches_ite (Touches.mono (failReq_touches _ _) rfl) (by split; exact (serveLines_touches _ _ _ rfl (Touches.refl _ _) (fun _ _ => (Touches.before (Touches.mono (stageRead_touches _ _ _ _ _ _ _) rfl) (Touches.mono (drawLine_touches _) rfl)))); exact (poolServe_touches _ _ _ _ _ _ rfl (Touches.refl _ _) (fun _ => (Touches.refl _ _)) (fun _ _ _ => (Touches.refl _ _))); exact (Touches.refl _ _)))

theorem filled_touches (b : Nat) (data : Nat) (error : Bool) (s : State) : Touches [.hbm, .dense, .rings, .lat, .pool, .out, .free] s (filled b data error s) := by
  unfold filled
  exact (by split; exact (Touches.refl _ _); exact (touches_ite (Touches.before (touches_foldl (Touches.refl _ _) (fun _ _ => (Touches.mono (poisonReq_touches _ _) rfl))) (Touches.before (Touches.mono (updLine_touches _ _ _) rfl) (Touches.mono (dropMiss_touches _ _) rfl))) (Touches.before (Touches.mono (queueCache_touches _ _ _) rfl) (Touches.mono (setMiss_touches _ _) rfl))))

theorem floodOn_touches (port : Nat) (x : Nat) (s : State) : Touches [.lat, .out] s (floodOn port x s) := by
  unfold floodOn
  dsimp only
  exact (Touches.before (Touches.mono (sendAll_touches _ _ _) rfl) (upd_lat rfl (Touches.refl _ _)))

theorem flrOne_touches (fn : Nat) (s : State) : Touches [.parts, .rings, .regs] s (flrOne fn s) := by
  unfold flrOne
  dsimp only
  exact (Touches.before (Touches.mono (updParts_touches _ _) rfl) (upd_rings_regs rfl (Touches.refl _ _)))

theorem flrAll_touches (fns : List Nat) (s : State) : Touches [.parts, .rings, .regs] s (flrAll fns s) := by
  unfold flrAll
  exact (touches_foldl (Touches.refl _ _) (fun _ _ => (Touches.mono (flrOne_touches _ _) rfl)))

theorem flushAborted_touches (d : Nat) (s : State) : Touches [.dense, .rings, .regs, .fw, .pool, .out] s (flushAborted d s) := by
  unfold flushAborted
  dsimp only
  exact (by split; exact (Touches.refl _ _); exact (Touches.before (Touches.mono (flushEnds_touches _ _ _) rfl) (upd_dense rfl (Touches.refl _ _))))

theorem flushRequest_touches (fn : Nat) (ring : Nat) (s : State) : Touches [.rings] s (flushRequest fn ring s) := by
  unfold flushRequest
  exact (touches_ite (Touches.mono (updRing_touches _ _ _ _) rfl) (Touches.refl _ _))

theorem tokenFlush_touches (region : Nat) (t : Nat) (s : State) : Touches [.ctl, .hbm, .dense, .rings, .regs, .fw, .pool, .counters, .out] s (tokenFlush region t s) := by
  unfold tokenFlush
  dsimp only
  exact (Touches.before (Touches.mono (denseGo_touches _) rfl) (upd_dense rfl (Touches.refl _ _)))

theorem flushToken_touches (region : Nat) (s : State) : Touches [.ctl, .hbm, .dense, .rings, .regs, .fw, .lat, .pool, .counters, .out] s (flushToken region s).2 := by
  unfold flushToken
  dsimp only
  exact (touches_ite_snd (Touches.refl _ _) (Touches.before (touches_ite (touches_ite (Touches.mono (completeToken_touches _ _ _) rfl) (Touches.refl _ _)) (Touches.before (Touches.mono (tokenFlush_touches _ _ _) rfl) (Touches.mono (replicate_touches _ _) rfl))) (Touches.mono (updRegion_touches _ _ _) rfl)))

theorem flushWrote_touches (b : Nat) (s : State) : Touches [.dense] s (flushWrote b s) := by
  unfold flushWrote
  dsimp only
  exact (upd_dense rfl (Touches.refl _ _))

theorem takeInput_touches (k : Nat) (router : Nat) (inp : Nat) (outs : Nat) (bsel : Bool) (lag : Nat) (s : State) : Touches [.parts, .ctl, .counters] s (takeInput k router inp outs bsel lag s).2 := by
  unfold takeInput
  dsimp only
  exact (touches_ite_snd (Touches.before (Touches.mono (dataPathBreach_touches _ _ _) rfl) (Touches.mono (updPipe_touches _ _ _) rfl)) (Touches.refl _ _))

theorem foldOperand_touches (k : Nat) (router : Nat) (port : Nat) (outs : Nat) (bsel : Bool) (type : Nat) (s : State) : Touches [.parts, .buf, .ctl, .counters] s (foldOperand k router port outs bsel type s).2 := by
  unfold foldOperand
  dsimp only
  exact (touches_ite_snd (Touches.refl _ _) (Touches.before (touches_ite_snd (Touches.refl _ _) (Touches.before (Touches.mono (dataPathBreach_touches _ _ _) rfl) (Touches.mono (countIdleOp_touches _ _) rfl))) (Touches.mono (takeInput_touches _ _ _ _ _ _ _) rfl)))

theorem fuseCluster_touches (router : Nat) (s : State) : Touches [.fmap, .rings, .regs, .logs, .counters, .out] s (fuseCluster router s) := by
  unfold fuseCluster
  dsimp only
  exact (Touches.before (touches_ite (Touches.refl _ _) (Touches.mono (mpEvent_touches _ _ _ _ _) rfl)) (upd_fmap rfl (Touches.refl _ _)))

theorem fwActivate_touches (k : Nat) (s : State) : Touches [.rings, .regs, .fw, .out] s (fwActivate k s) := by
  unfold fwActivate
  dsimp only
  exact (Touches.before (Touches.mono (bootRecord_touches _ _ _ _) rfl) (Touches.before (Touches.mono (fwSetState_touches _ _ _) rfl) (touches_ite (Touches.refl _ _) (Touches.mono (fwSetState_touches _ _ _) rfl))))

theorem fwWrite_touches (q : MciReq) (k : Nat) (off : Nat) (len : Nat) (data : Nat) (last : Bool) (s : State) : Touches [.rings, .regs, .fw, .out] s (fwWrite q k off len data last s) := by
  unfold fwWrite
  dsimp only
  exact (touches_ite (Touches.mono (mciStatus_touches _ _ _ _) rfl) (touches_ite (Touches.mono (mciStatus_touches _ _ _ _) rfl) (touches_ite (Touches.mono (mciStatus_touches _ _ _ _) rfl) (Touches.before (Touches.mono (mciStatus_touches _ _ _ _) rfl) (Touches.before (Touches.mono (fwSetState_touches _ _ _) rfl) (upd_fw rfl (Touches.refl _ _)))))))

theorem gradient_touches (k : Nat) (router : Nat) (inp : Nat) (bsel : Bool) (s : State) : Touches [.parts, .ctl, .counters] s (gradient k router inp bsel s).2 := by
  unfold gradient
  dsimp only
  exact (touches_ite_snd (Touches.refl _ _) (Touches.mono (takeInput_touches _ _ _ _ _ _ _) rfl))

theorem hardRepair_touches (e : Nat × Nat) (s : State) : Touches [.hbm, .rings, .regs, .logs, .counters, .out] s (hardRepair e s) := by
  unfold hardRepair
  exact (Touches.before (Touches.mono (mpEvent_touches _ _ _ _ _) rfl) (Touches.mono (updPcs_touches _ _ _) rfl))

theorem hardRepairs_touches (s : State) : Touches [.hbm, .rings, .regs, .logs, .counters, .out] s (hardRepairs s) := by
  unfold hardRepairs
  exact (touches_ite (touches_foldl (Touches.refl _ _) (fun _ _ => (Touches.mono (hardRepair_touches _ _) rfl))) (Touches.refl _ _))

theorem hostRead_touches (pbr : Nat) (tag : Nat) (region : Option Nat) (off : Nat) (s : State) : Touches [.ctl, .hbm, .dense, .win, .lat, .pool, .counters, .out] s (hostRead pbr tag region off s) := by
  unfold hostRead
  dsimp only
  exact (by split; exact (Touches.mono (cxlAnswer_touches _ _ _ _ _ _) rfl); exact (touches_ite (Touches.before (Touches.mono (cxlAnswer_touches _ _ _ _ _ _) rfl) (Touches.mono (denial_touches _ _) rfl)) (touches_ite (Touches.mono (cxlAnswer_touches _ _ _ _ _ _) rfl) (Touches.mono (startAcc_touches _ _ _ _ _ _ _ _ _) rfl))))

theorem hostWrite_touches (pbr : Nat) (tag : Nat) (region : Option Nat) (off : Nat) (d : LineData) (poison : Bool) (s : State) : Touches [.ctl, .hbm, .dense, .win, .lat, .pool, .counters, .out] s (hostWrite pbr tag region off d poison s) := by
  unfold hostWrite
  dsimp only
  exact (by split; exact (Touches.mono (cxlAnswer_touches _ _ _ _ _ _) rfl); exact (touches_ite (Touches.before (Touches.mono (cxlAnswer_touches _ _ _ _ _ _) rfl) (Touches.mono (denial_touches _ _) rfl)) (touches_ite (Touches.mono (cxlAnswer_touches _ _ _ _ _ _) rfl) (Touches.mono (startAcc_touches _ _ _ _ _ _ _ _ _) rfl))))

theorem identDone_touches (t : Nat) (s : State) : Touches [.fmap, .tiles, .rings, .regs, .logs, .fw, .pm, .lat, .counters, .out] s (identDone t s) := by
  unfold identDone
  dsimp only
  exact (by split; exact (Touches.before (Touches.mono (failTile_touches _ _ _ _) rfl) (touches_ite (Touches.refl _ _) (Touches.mono (mpEvent_touches _ _ _ _ _) rfl))); exact (Touches.before (Touches.mono (updTile_touches _ _ _) rfl) (touches_ite (Touches.refl _ _) (Touches.mono (mpEvent_touches _ _ _ _ _) rfl))))

theorem passPs_touches (ps : Nat) (s : State) : Touches [.clk] s (passPs ps s) := by
  unfold passPs
  dsimp only
  exact (upd_clk rfl (Touches.refl _ _))

theorem passCrumb_touches (s : State) : Touches [.clk] s (passCrumb s) := by
  unfold passCrumb
  dsimp only
  exact (Touches.before (upd_clk rfl (Touches.refl _ _)) (Touches.mono (passPs_touches _ _) rfl))

theorem idle_touches (s : State) : Touches [.clk, .parts, .layout, .layoutPend, .slots, .buf, .comp, .ctl, .hbm, .tiles, .rings, .regs, .logs, .win, .lat, .counters, .out] s (idle s) := by
  unfold idle
  dsimp only
  exact (touches_ite (Touches.before (touches_ite (Touches.mono (passCrumb_touches _) rfl) (Touches.mono (advance_touches _ _) rfl)) (Touches.mono (settle_touches _) rfl)) (Touches.mono (passPs_touches _ _) rfl))

theorem informReturned_touches (m : Nat) (s : State) : Touches [.lat, .out] s (informReturned m s) := by
  unfold informReturned
  exact (touches_ite (Touches.refl _ _) (touches_foldl (Touches.refl _ _) (fun _ _ => (Touches.before (Touches.mono (sendTable_touches _ _ _ _ _ _) rfl) (Touches.mono (sendTable_touches _ _ _ _ _ _) rfl)))))

theorem trainGroup_touches (t : Nat) (whole : Bool) (c : CellTrain) (s : State) (role : Nat) : Touches [.ctl, .lanes, .counters] s (trainGroup t whole c s role) := by
  unfold trainGroup
  dsimp only
  exact (by split; exact (Touches.mono (calValid_touches _ _ _) rfl); exact (touches_ite (Touches.mono (noteInvalid_touches _ _ _) rfl) (Touches.mono (calInvalid_touches _ _ _) rfl)))

theorem trainCell_touches (t : Nat) (whole : Bool) (s : State) (c : CellTrain) : Touches [.ctl, .lanes, .counters] s (trainCell t whole s c) := by
  unfold trainCell
  dsimp only
  exact (Touches.before (touches_ite (upd_lanes rfl (Touches.refl _ _)) (Touches.refl _ _)) (touches_foldl (Touches.refl _ _) (fun _ _ => (Touches.mono (trainGroup_touches _ _ _ _ _) rfl))))

theorem judgeBonds_touches (t : Nat) (cells : List CellTrain) (s : State) : Touches [.ctl, .lanes, .counters] s (judgeBonds t cells s) := by
  unfold judgeBonds
  exact (touches_ite (Touches.before (touches_foldl (Touches.refl _ _) (fun _ _ => (Touches.mono (trainCell_touches _ _ _ _) rfl))) (Touches.mono (calEvent_touches _ _ _) rfl)) (touches_foldl (Touches.refl _ _) (fun _ _ => (Touches.mono (trainCell_touches _ _ _ _) rfl))))

theorem requalify_touches (now : Nat) (key : Nat) (old : Sensor) (z : Sensor) (raw : BitVec 16) (med : Option Int) (s : State) : Touches [.pm] s (requalify now key old z raw med s) := by
  unfold requalify
  dsimp only
  exact (touches_ite (Touches.mono (setSensor_touches _ _ _) rfl) (touches_ite (Touches.mono (setSensor_touches _ _ _) rfl) (Touches.mono (setSensor_touches _ _ _) rfl)))

theorem judgeSample_touches (key : Nat) (raw : BitVec 16) (s : State) : Touches [.ctl, .pm, .counters] s (judgeSample key raw s) := by
  unfold judgeSample
  dsimp only
  exact (touches_ite (Touches.mono (setSensor_touches _ _ _) rfl) (touches_ite (Touches.mono (requalify_touches _ _ _ _ _ _ _) rfl) (touches_ite (Touches.mono (setSensor_touches _ _ _) rfl) (Touches.mono (excludeSensor_touches _ _ _ _) rfl))))

theorem reroute_touches (node : Nat) (dir : Nat) (s : State) (p : CtlPkt) : Touches [.ctl] s (reroute node dir s p) := by
  unfold reroute
  dsimp only
  exact (upd_ctl rfl (Touches.refl _ _))

theorem killLink_touches (node : Nat) (dir : Nat) (s : State) : Touches [.ctl, .counters] s (killLink node dir s) := by
  unfold killLink
  dsimp only
  exact (Touches.before (touches_foldl (Touches.refl _ _) (fun _ _ => (Touches.mono (reroute_touches _ _ _ _) rfl))) (Touches.before (Touches.mono (blockFault_touches _ _ _ _ _ _) rfl) (upd_ctl rfl (Touches.refl _ _))))

theorem lanesAcked_touches (t : Nat) (s : State) : Touches [.tiles, .out] s (lanesAcked t s) := by
  unfold lanesAcked
  dsimp only
  exact (touches_ite (Touches.before (Touches.mono (sendLanes_touches _ _ _) rfl) (Touches.mono (updTile_touches _ _ _) rfl)) (Touches.mono (updTile_touches _ _ _) rfl))

theorem lapse_touches (s : State) : Touches [.rings, .regs, .logs, .lat, .counters, .out] s (lapse s) := by
  unfold lapse
  dsimp only
  exact (Touches.before (Touches.mono (joinGroup_touches _) rfl) (Touches.before (Touches.mono (countUp_touches _ _ _) rfl) (Touches.before (Touches.mono (mpEvent_touches _ _ _ _ _) rfl) (upd_lat rfl (Touches.refl _ _)))))

theorem touches_foldl_snd {α β : Type} {bs : List Block} {f : β × State → α → β × State} (l : List α) (x : β × State)
    (h : ∀ y a, Touches bs y.2 (f y a).2) : Touches bs x.2 (l.foldl f x).2 := by
  induction l generalizing x with
  | nil => exact Touches.refl _ _
  | cons a l ih => exact (h x a).trans (ih _)
theorem loadBlock_touches (k : Nat) (dead : Bool) (s : State) : Touches [.ctl, .hbm, .regs, .logs, .counters, .free] s (loadBlock k dead s).2 := by
  unfold loadBlock
  refine touches_foldl_snd _ _ fun y i => ?_
  dsimp only
  split
  · exact Touches.mono (drawLine_touches y.2) rfl
  · exact Touches.mono (hbmRead_touches _ y.2) rfl

theorem loadFails_touches (n : Nat) (status : Nat) (detail : Nat) (report : Nat) (answer : Nat) (s : State) : Touches [.slots, .rings, .regs, .fw, .out] s (loadFails n status detail report answer s) := by
  unfold loadFails
  dsimp only
  exact (Touches.before (Touches.mono (mciReply_touches _ _ _ _ _ _ _ _) rfl) (Touches.mono (setSlot_touches _ _ _) rfl))

theorem loseMember_touches (region : Nat) (m : Nat) (s : State) : Touches [.hbm, .dense, .rings, .regs, .logs, .lat, .pool, .counters, .out] s (loseMember region m s) := by
  unfold loseMember
  dsimp only
  exact (Touches.before (Touches.mono (unlockStripe_touches _ _) rfl) (Touches.before (Touches.mono (rerouteLost_touches _ _ _) rfl) (Touches.before (touches_ite (Touches.refl _ _) (Touches.mono (mpEvent_touches _ _ _ _ _) rfl)) (Touches.mono (updRegion_touches _ _ _) rfl))))

theorem queueCmd_touches (by_ : CmdBy) (c : Nat) (holder : Nat) (s : State) : Touches [.pool] s (queueCmd by_ c holder s) := by
  unfold queueCmd
  dsimp only
  exact (upd_pool rfl (Touches.refl _ _))

theorem mailCommand_touches (pbr : Nat) (slot : Nat) (line : Nat) (s : State) : Touches [.ctl, .win, .pool, .counters] s (mailCommand pbr slot line s) := by
  unfold mailCommand
  dsimp only
  exact (touches_ite (Touches.refl _ _) (touches_ite (upd_pool rfl (Touches.refl _ _)) (touches_ite (Touches.refl _ _) (by split; exact (Touches.before (Touches.mono (queueCmd_touches _ _ _ _) rfl) (Touches.before (Touches.mono (updMail_touches _ _ _ _) rfl) (Touches.mono (updMail_touches _ _ _ _) rfl))); exact (Touches.before (Touches.mono (updMail_touches _ _ _ _) rfl) (by split; exact (Touches.before (touches_ite (Touches.mono (denial_touches _ _) rfl) (Touches.refl _ _)) (Touches.mono (updMail_touches _ _ _ _) rfl)); exact (Touches.mono (updMail_touches _ _ _ _) rfl)))))))

theorem mbxCount_touches (s : State) : Touches [.regs] s (mbxCount s) := by
  unfold mbxCount
  dsimp only
  exact (upd_regs rfl (Touches.refl _ _))

theorem mciHold_touches (op : Nat) (q : MciReq) (s : State) : Touches [.win, .fw] s (mciHold op q s) := by
  unfold mciHold
  dsimp only
  exact (upd_win_fw rfl (Touches.refl _ _))

theorem mciReserved_touches (op : Nat) (q : MciReq) (s : State) : Touches [.rings, .regs, .fw, .out] s (mciReserved op q s) := by
  unfold mciReserved
  exact (touches_ite (Touches.refl _ _) (touches_ite (Touches.mono (mciDuplicate_touches _ _ _) rfl) (Touches.mono (mciStatus_touches _ _ _ _) rfl)))

theorem noteExcursions_touches (s : State) : Touches [.ctl, .rings, .regs, .pm, .counters, .out] s (noteExcursions s) := by
  unfold noteExcursions
  dsimp only
  exact (Touches.before (upd_pm rfl (Touches.refl _ _)) (touches_foldl (Touches.refl _ _) (fun _ _ => (Touches.before (Touches.mono (pwrAttention_touches _ _) rfl) (Touches.mono (sendEvent_touches _ _) rfl)))))

theorem measure_touches (m : PowerIn) (s : State) : Touches [.ctl, .rings, .regs, .logs, .pm, .counters, .out] s (measure m s) := by
  unfold measure
  dsimp only
  exact (Touches.before (touches_ite (Touches.mono (evaluateRequests_touches _) rfl) (Touches.refl _ _)) (Touches.before (Touches.mono (noteExcursions_touches _) rfl) (Touches.before (Touches.mono (countBy_touches _ _ _ _) rfl) (Touches.before (upd_pm rfl (Touches.refl _ _)) (touches_ite (Touches.mono (pwrAttention_touches _ _) rfl) (Touches.refl _ _))))))

theorem memWrite_touches (pbr : Nat) (tag : Nat) (region : Option Nat) (off : Nat) (data : LineData) (poison : Bool) (s : State) : Touches [.ctl, .hbm, .dense, .win, .lat, .pool, .counters, .out] s (memWrite pbr tag region off data poison s) := by
  unfold memWrite
  exact (Touches.before (Touches.mono (hostWrite_touches _ _ _ _ _ _ _) rfl) (touches_ite (Touches.mono (mailCommand_touches _ _ _ _) rfl) (Touches.refl _ _)))

theorem noteRetrained_touches (s : State) : Touches [.lanes] s (noteRetrained s) := by
  unfold noteRetrained
  dsimp only
  exact (upd_lanes rfl (Touches.refl _ _))

theorem mergeFaultMap_touches (s : State) : Touches [.parts, .slots, .comp, .fmap, .hbm, .tiles, .rings, .regs, .logs, .lanes, .lat, .counters, .out] s (mergeFaultMap s) := by
  unfold mergeFaultMap
  dsimp only
  exact (Touches.before (Touches.mono (evaluateRequests_touches _) rfl) (Touches.before (Touches.mono (notify_touches _ _ _ _) rfl) (Touches.before (Touches.mono (checkImages_touches _) rfl) (Touches.before (Touches.mono (noteRetrained_touches _) rfl) (Touches.before (upd_fmap rfl (Touches.refl _ _)) (Touches.before (touches_foldl (Touches.refl _ _) (fun _ _ => (Touches.mono (fuseCluster_touches _ _) rfl))) (Touches.before (Touches.mono (fieldWrites_touches _) rfl) (touches_foldl (Touches.refl _ _) (fun _ _ => (Touches.mono (consentTo_touches _ _) rfl))))))))))

theorem moveRows_touches (pc : Nat) (s : State) : Touches [.hbm] s (moveRows pc s) := by
  unfold moveRows
  exact (touches_ite (Touches.mono (updPc_touches _ _ _) rfl) (Touches.refl _ _))

theorem mpOnlyReset_touches (detail : Nat) (s : State) : Touches [.boot, .slots, .rings, .regs, .logs, .win, .fw, .counters, .out] s (mpOnlyReset detail s) := by
  unfold mpOnlyReset
  dsimp only
  exact (Touches.before (upd_win_fw rfl (Touches.refl _ _)) (Touches.before (Touches.mono (abortLoads_touches _) rfl) (Touches.before (touches_foldl (Touches.refl _ _) (fun _ _ => (Touches.mono (answerReset_touches _ _) rfl))) (Touches.before (Touches.mono (mpEvent_touches _ _ _ _ _) rfl) (upd_boot rfl (Touches.refl _ _))))))

theorem persistHeld_touches (s : State) : Touches [.logs] s (persistHeld s) := by
  unfold persistHeld
  dsimp only
  exact (Touches.before (touches_foldl (Touches.refl _ _) (fun _ _ => (Touches.mono (mpPersist_touches _ _ _) rfl))) (upd_logs rfl (Touches.refl _ _)))

theorem rejoinGroup_touches (s : State) : Touches [.lat, .out] s (rejoinGroup s) := by
  unfold rejoinGroup
  exact (touches_ite (Touches.mono (joinGroup_touches _) rfl) (Touches.refl _ _))

theorem runPackage_touches (p : Package) (s : State) : Touches [.fw] s (runPackage p s) := by
  unfold runPackage
  dsimp only
  exact (upd_fw rfl (Touches.refl _ _))

theorem startPm_touches (s : State) : Touches [.boot, .rings, .regs, .fw, .pm, .counters, .out] s (startPm s) := by
  unfold startPm
  dsimp only
  exact (Touches.before (touches_ite (Touches.mono (countBrake_touches _) rfl) (Touches.refl _ _)) (upd_boot_fw_pm rfl (Touches.refl _ _)))

theorem mpReady_touches (s : State) : Touches [.boot, .rings, .regs, .logs, .fw, .pm, .lat, .counters, .out] s (mpReady s) := by
  unfold mpReady
  dsimp only
  exact (Touches.before (Touches.mono (evaluateRequests_touches _) rfl) (Touches.before (Touches.mono (stsAttention_touches _ _) rfl) (Touches.before (Touches.mono (rejoinGroup_touches _) rfl) (Touches.before (Touches.mono (recheckVet_touches _) rfl) (Touches.before (Touches.mono (answerMailbox_touches _) rfl) (Touches.before (Touches.mono (persistHeld_touches _) rfl) (Touches.before (touches_ite (Touches.mono (startPm_touches _) rfl) (Touches.refl _ _)) (Touches.before (touches_foldl (Touches.refl _ _) (fun _ _ => (Touches.mono (runPackage_touches _ _) rfl))) (upd_boot_fw rfl (Touches.refl _ _))))))))))

theorem noteAbort_touches (drive : Nat) (s : State) : Touches [.ctl, .hbm, .dense, .rings, .regs, .fw, .lat, .pool, .counters, .out, .free] s (noteAbort drive s) := by
  unfold noteAbort
  dsimp only
  exact (Touches.before (touches_ite (Touches.mono (failDrive_touches _ _) rfl) (Touches.refl _ _)) (Touches.before (Touches.mono (sendEvent_touches _ _) rfl) (Touches.mono (updDrive_touches _ _ _) rfl)))

theorem noteCorrected_touches (h : FlitHdr) (s : State) : Touches [.counters] s (noteCorrected h s) := by
  unfold noteCorrected
  exact (touches_ite (Touches.refl _ _) (Touches.mono (countBy_touches _ _ _ _) rfl))

theorem noteCoverage_touches (unit : Nat) (s : State) : Touches [.pm] s (noteCoverage unit s) := by
  unfold noteCoverage
  dsimp only
  exact (upd_pm rfl (Touches.refl _ _))

theorem noteNarrow_touches (port : Nat) (before : Nat) (now : Nat) (s : State) : Touches [.ctl, .counters] s (noteNarrow port before now s) := by
  unfold noteNarrow
  exact (touches_ite (Touches.mono (blockFault_touches _ _ _ _ _ _) rfl) (Touches.refl _ _))

theorem notePartial_touches (late : Bool) (s : State) : Touches [.rings, .regs, .logs, .counters, .out] s (notePartial late s) := by
  unfold notePartial
  exact (touches_ite (Touches.before (Touches.mono (countUp_touches _ _ _) rfl) (Touches.mono (mpEvent_touches _ _ _ _ _) rfl)) (Touches.refl _ _))

theorem noteRsvd_touches (fn : Nat) (off : Nat) (v : BitVec 32) (s : State) : Touches [.regs] s (noteRsvd fn off v s) := by
  unfold noteRsvd
  dsimp only
  exact (upd_regs rfl (Touches.refl _ _))

theorem noteShort_touches (m : PowerIn) (s : State) : Touches [.ctl, .rings, .regs, .pm, .counters, .out] s (noteShort m s) := by
  unfold noteShort
  dsimp only
  exact (Touches.before (upd_pm rfl (Touches.refl _ _)) (Touches.before (touches_ite (Touches.before (Touches.mono (pwrAttention_touches _ _) rfl) (Touches.mono (sendEvent_touches _ _) rfl)) (Touches.refl _ _)) (touches_ite (Touches.before (Touches.mono (pwrAttention_touches _ _) rfl) (Touches.mono (sendEvent_touches _ _) rfl)) (Touches.refl _ _))))

theorem noteSlice_touches (p : FaultPkt) (s : State) : Touches [.logs] s (noteSlice p s) := by
  unfold noteSlice
  dsimp only
  exact (touches_ite (Touches.refl _ _) (upd_logs rfl (Touches.refl _ _)))

theorem noteUnclean_touches (s : State) : Touches [.boot, .rings, .regs, .logs, .counters, .out] s (noteUnclean s) := by
  unfold noteUnclean
  dsimp only
  exact (Touches.before (upd_boot rfl (Touches.refl _ _)) (touches_ite (Touches.refl _ _) (Touches.mono (mpEvent_touches _ _ _ _ _) rfl)))

theorem openWindow_touches (port : Nat) (recIdx : Nat) (r : LatRec) (s : State) : Touches [.comp, .ctl, .counters] s (openWindow port recIdx r s) := by
  unfold openWindow
  dsimp only
  exact (Touches.before (touches_ite (Touches.mono (noteDescFault_touches _ _) rfl) (Touches.refl _ _)) (Touches.mono (updComp_touches _ _ _ _) rfl))

theorem openDue_touches (k : Nat) (port : Nat) (offset : Nat) (s : State) : Touches [.comp, .ctl, .counters] s (openDue k port offset s) := by
  unfold openDue
  dsimp only
  exact (by split; exact (Touches.refl _ _); exact (by split; exact (Touches.refl _ _); exact (touches_ite (Touches.refl _ _) (Touches.mono (openWindow_touches _ _ _ _) rfl))))

theorem openBefore_touches (k : Nat) (port : Nat) (a : Arrival) (s : State) : Touches [.comp, .ctl, .counters] s (openBefore k port a s) := by
  unfold openBefore
  dsimp only
  exact (touches_ite (Touches.refl _ _) (openDue_touches _ _ _ _))

theorem ownSetting_touches (m : PowerIn) (s : State) : Touches [.pm] s (ownSetting m s) := by
  unfold ownSetting
  dsimp only
  exact (upd_pm rfl (Touches.refl _ _))

theorem partDone_touches (id : Nat) (status : Nat) (body : Nat) (s : State) : Touches [.pool] s (partDone id status body s) := by
  unfold partDone
  dsimp only
  exact (Touches.mono (updCmd_touches _ _ _) rfl)

theorem passOn_touches (h : FlitHdr) (type : Nat) (uop : Nat) (u : UnschIn) (s : State) : Touches [.lat] s (passOn h type uop u s) := by
  unfold passOn
  exact (by split; exact (Touches.refl _ _); exact (Touches.mono (sendFlit_touches _ _ _ _) rfl))

theorem poolReply_touches (id : Nat) (d : LineData) (poison : Bool) (status : Nat) (s : State) : Touches [.hbm, .dense, .lat, .pool, .out] s (poolReply id d poison status s) := by
  unfold poolReply
  exact (by split; exact (Touches.refl _ _); exact (touches_ite (Touches.mono (pieceOf_touches _ _ _ _) rfl) (Touches.mono (finishAcc_touches _ _ _ _ _) rfl)))

theorem rejectPool_touches (fn : Nat) (x : Nat) (status : Nat) (result : Nat) (s : State) : Touches [.rings, .out] s (rejectPool fn x status result s) := by
  unfold rejectPool
  exact (Touches.before (Touches.mono (postCompletion_touches _ _ _ _ _ _ _ _) rfl) (Touches.mono (updRing_touches _ _ _ _) rfl))

theorem poolStart_touches (fn : Nat) (x : Nat) (s : State) : Touches [.ctl, .rings, .win, .pool, .counters, .out] s (poolStart fn x s) := by
  unfold poolStart
  dsimp only
  exact (touches_ite (Touches.before (Touches.mono (rejectPool_touches _ _ _ _ _) rfl) (Touches.mono (violation_touches _ _ _) rfl)) (by split; exact (Touches.mono (rejectPool_touches _ _ _ _ _) rfl); exact (Touches.before (Touches.mono (queueCmd_touches _ _ _ _) rfl) (Touches.mono (consume_touches _ _ _ _) rfl))))

theorem poolSwitch_touches (ref : Nat) (s : State) : Touches [.lat, .pool, .out] s (poolSwitch ref s).2 := by
  unfold poolSwitch
  dsimp only
  exact (Touches.before (touches_foldl (Touches.refl _ _) (fun _ _ => (touches_foldl (Touches.refl _ _) (fun _ _ => (Touches.mono (sendTable_touches _ _ _ _ _ _) rfl))))) (Touches.before (touches_foldl (Touches.refl _ _) (fun _ _ => (Touches.mono (aclInForce_touches _ _ _ _) rfl))) (upd_pool rfl (Touches.refl _ _))))

theorem portReset_touches (port : Nat) (s : State) : Touches [.clk, .boot, .parts, .layout, .layoutPend, .slots, .buf, .comp, .ctl, .hbm, .tiles, .rings, .regs, .logs, .win, .lat, .pool, .counters, .out] s (portReset port s) := by
  unfold portReset
  dsimp only
  exact (touches_ite (Touches.before (Touches.mono (clearVfWindows_touches _) rfl) (Touches.before (Touches.mono (clearPortRws_touches _ _) rfl) (Touches.before (Touches.mono (flrAll_touches _ _) rfl) (upd_boot rfl (Touches.refl _ _))))) (Touches.before (touches_ite (Touches.mono (discardCxl_touches _) rfl) (Touches.refl _ _)) (Touches.before (Touches.mono (clearPortRws_touches _ _) rfl) (Touches.mono (flrAll_touches _ _) rfl))))

theorem presentHostBeat_touches (k : Nat) (recIdx : Nat) (beat : Nat) (h : HostRec) (r : Run) (s : State) : Touches [.parts] s (presentHostBeat k recIdx beat h r s) := by
  unfold presentHostBeat
  dsimp only
  exact (Touches.before (Touches.mono (updPipe_touches _ _ _) rfl) (Touches.mono (updRun_touches _ _ _) rfl))

theorem setWeight_touches (fn : Nat) (ring : Nat) (w : Nat) (s : State) : Touches [.rings] s (setWeight fn ring w s) := by
  unfold setWeight
  exact (Touches.mono (updRing_touches _ _ _ _) rfl)

theorem prioHigh_touches (fn : Nat) (v : Nat) (s : State) : Touches [.rings] s (prioHigh fn v s) := by
  unfold prioHigh
  exact (Touches.mono (setWeight_touches _ _ _ _) rfl)

theorem prioLow_touches (fn : Nat) (v : Nat) (s : State) : Touches [.rings] s (prioLow fn v s) := by
  unfold prioLow
  exact (Touches.before (Touches.mono (setWeight_touches _ _ _ _) rfl) (Touches.before (Touches.mono (setWeight_touches _ _ _ _) rfl) (Touches.before (Touches.mono (setWeight_touches _ _ _ _) rfl) (Touches.mono (updFn_touches _ _ _) rfl))))

theorem prioRewrite_touches (fn : Nat) (half : Nat) (v : Nat) (s : State) : Touches [.rings] s (prioRewrite fn half v s) := by
  unfold prioRewrite
  exact (by split; exact (touches_ite (Touches.mono (prioLow_touches _ _ _) rfl) (Touches.refl _ _)); exact (touches_ite (Touches.mono (prioHigh_touches _ _ _) rfl) (Touches.refl _ _)); exact (touches_ite (Touches.before (Touches.mono (prioHigh_touches _ _ _) rfl) (Touches.mono (prioLow_touches _ _ _) rfl)) (Touches.refl _ _)))

theorem queueDense_touches (q : DReq) (s : State) : Touches [.dense] s (queueDense q s) := by
  unfold queueDense
  dsimp only
  exact (upd_dense rfl (Touches.refl _ _))

theorem queuePc_touches (q : UReq) (s : State) : Touches [.hbm] s (queuePc q s) := by
  unfold queuePc
  exact (Touches.mono (updPc_touches _ _ _) rfl)

theorem raiseMinimums_touches (ps : List Package) (s : State) : Touches [.fw] s (raiseMinimums ps s) := by
  unfold raiseMinimums
  dsimp only
  exact (touches_foldl (Touches.refl _ _) (fun _ _ => (touches_ite (upd_fw rfl (Touches.refl _ _)) (upd_fw rfl (Touches.refl _ _)))))

theorem rampFalls_touches (s : State) : Touches [.pm] s (rampFalls s) := by
  unfold rampFalls
  dsimp only
  exact (touches_ite (upd_pm rfl (Touches.refl _ _)) (Touches.refl _ _))

theorem readAborted_touches (b : Nat) (s : State) : Touches [.hbm, .dense, .rings, .lat, .pool, .out, .free] s (readAborted b s) := by
  unfold readAborted
  exact (by split; exact (Touches.refl _ _); exact (Touches.before (touches_foldl (Touches.refl _ _) (fun _ _ => (Touches.mono (failReq_touches _ _) rfl))) (Touches.before (Touches.mono (updLine_touches _ _ _) rfl) (Touches.mono (dropMiss_touches _ _) rfl))))

theorem readInto_touches (k : Nat) (router : Nat) (line : Nat) (ctx : Bool) (byRead : Bool) (leader : Option MergeRead) (s : State) : Touches [.parts, .buf, .ctl, .regs, .counters] s (readInto k router line ctx byRead leader s) := by
  unfold readInto
  dsimp only
  exact (by split; exact (Touches.before (Touches.mono (updPart_touches _ _ _) rfl) (Touches.mono (countUp_touches _ _ _) rfl)); exact (Touches.before (Touches.mono (updPart_touches _ _ _) rfl) (Touches.mono (portRead_touches _ _ _ _ _ _) rfl)))

theorem readLong_touches (fn : Nat) (off : Nat) (s : State) : Touches [.rings] s (readLong fn off s).2 := by
  unfold readLong
  exact (by split; exact (Touches.refl _ _); exact (Touches.before (Touches.mono (countRead_touches _ _ _) rfl) (Touches.mono (countRead_touches _ _ _) rfl)))

theorem readLongs_touches (fn : Nat) (off : Nat) (x2 : Nat) (x3 : State) : Touches [.rings] x3 (readLongs fn off x2 x3).2 := by
  induction x2 generalizing off x3 with
  | zero => exact Touches.refl _ _
  | succ n ih =>
    have h1 := readLong_touches fn off x3
    rcases e : readLong fn off x3 with ⟨v, s1⟩
    have h2 := ih (off + 8) s1
    rcases e2 : readLongs fn (off + 8) n s1 with ⟨w, s2⟩
    rw [e] at h1
    rw [e2] at h2
    simp only [readLongs, e, e2]
    exact h1.trans h2

theorem readWord_touches (fn : Nat) (off : Nat) (s : State) : Touches [.rings, .regs] s (readWord fn off s).2 := by
  unfold readWord
  dsimp only
  exact (by split; exact (Touches.mono (countRead_touches _ _ _) rfl); exact (touches_ite_snd (upd_regs rfl (Touches.refl _ _)) (by split; exact (upd_regs rfl (Touches.refl _ _)); exact (Touches.refl _ _))))

theorem readReg_touches (fn : Nat) (off : Nat) (size : Nat) (s : State) : Touches [.rings, .regs] s (readReg fn off size s).2 := by
  unfold readReg
  exact (touches_ite_snd (Touches.refl _ _) (touches_ite_snd (Touches.refl _ _) (touches_ite_snd (Touches.mono (readWord_touches _ _ _) rfl) (Touches.mono (readLongs_touches _ _ _ _) rfl))))

theorem readThree_touches (line : Nat) (s : State) : Touches [.ctl, .hbm, .regs, .logs, .counters] s (readThree line s).2 := by
  unfold readThree
  dsimp only
  exact (Touches.before (Touches.mono (hbmRead_touches _ _) rfl) (Touches.before (Touches.mono (hbmRead_touches _ _) rfl) (Touches.mono (hbmRead_touches _ _) rfl)))

theorem reattach_touches (found : List DriveIn) (s : State) : Touches [.dense] s (reattach found s) := by
  unfold reattach
  dsimp only
  exact (touches_ite (Touches.refl _ _) (touches_ite (Touches.mono (attachDrives_touches _ _) rfl) (upd_dense rfl (Touches.refl _ _))))

theorem rebuildAtLine_touches (src : Nat) (region : Nat) (off : Nat) (s : State) : Touches [.hbm, .dense, .lat, .pool, .out] s (rebuildAtLine src region off s) := by
  unfold rebuildAtLine
  dsimp only
  exact (touches_ite (Touches.before (Touches.mono (unlockStripe_touches _ _) rfl) (Touches.mono (updRegion_touches _ _ _) rfl)) (Touches.refl _ _))

end Sys2Proof.Machine
end

