-- ==== Sys2Proof/Laws/Frames5.lean ====
section
/-! SUPPORT. What the shared operations leave alone, part 5: one lemma each, from recordPower to zeroTags. -/

namespace Sys2Proof.Machine

theorem recordPower_touches (s : State) : Touches [.rings, .regs, .logs, .counters, .out] s (recordPower s) := by
  unfold recordPower
  dsimp only
  exact (by split; exact (Touches.refl _ _); exact (Touches.before (touches_ite (Touches.refl _ _) (upd_logs rfl (Touches.refl _ _))) (Touches.before (Touches.mono (logExt_touches _ _ _ _ _ _ _ _) rfl) (upd_logs rfl (Touches.refl _ _)))))

theorem replaceRun_touches (who : Nat) (tag : Nat) (x : Nat) (s : State) : Touches [.rings, .regs, .fw, .lat, .pool, .out] s (replaceRun who tag x s) := by
  unfold replaceRun
  dsimp only
  exact (touches_ite (Touches.mono (answerTable_touches _ _ _ _ _) rfl) (touches_ite (Touches.mono (answerTable_touches _ _ _ _ _) rfl) (touches_ite (by split; exact (Touches.mono (answerTable_touches _ _ _ _ _) rfl); exact (Touches.before (Touches.mono (orderAll_touches _ _ _ _ _ _ _) rfl) (Touches.mono (allocHere_touches _ _ (by assumption)) rfl))) (Touches.mono (orderAll_touches _ _ _ _ _ _ _) rfl))))

theorem regionRun_touches (op : Nat) (who : Nat) (tag : Nat) (x : Nat) (s : State) : Touches [.rings, .regs, .win, .fw, .lat, .pool, .out] s (regionRun op who tag x s) := by
  unfold regionRun
  exact (by split; exact (touches_ite (Touches.mono (createRun_touches _ _ _ _) rfl) (Touches.mono (replaceRun_touches _ _ _ _) rfl)); exact (Touches.mono (deleteRun_touches _ _ _ _) rfl); exact (Touches.mono (accessRun_touches _ _ _ _) rfl))

theorem regionCommand_touches (op : Nat) (q : MciReq) (s : State) : Touches [.rings, .regs, .win, .fw, .lat, .pool, .out] s (regionCommand op q s) := by
  unfold regionCommand
  dsimp only
  exact (Touches.before (touches_ite (Touches.mono (regionRun_touches _ _ _ _ _) rfl) (Touches.before (Touches.mono (tableWait_touches _ _ _ _ _) rfl) (Touches.mono (sendTable_touches _ _ _ _ _ _) rfl))) (Touches.mono (mciHold_touches _ _ _) rfl))

theorem releaseMiss_touches (m : MissEntry) (s : State) : Touches [.hbm, .dense] s (releaseMiss m s) := by
  unfold releaseMiss
  exact (Touches.before (touches_foldl (Touches.refl _ _) (fun _ _ => (Touches.mono (queueCache_touches _ _ _) rfl))) (Touches.mono (dropMiss_touches _ _) rfl))

theorem releasePart_touches (k : Nat) (s : State) : Touches [.parts, .tiles, .out] s (releasePart k s) := by
  unfold releasePart
  exact (touches_ite (Touches.before (Touches.mono (updPart_touches _ _ _) rfl) (Touches.mono (quiesce_touches _ _) rfl)) (Touches.refl _ _))

theorem repairChannel_touches (stack : Nat) (s : State) (c : ChannelTrain) : Touches [.ctl, .fmap, .rings, .regs, .logs, .lanes, .counters, .out] s (repairChannel stack s c) := by
  unfold repairChannel
  dsimp only
  exact (Touches.before (touches_ite (Touches.refl _ _) (Touches.before (touches_foldl (Touches.refl _ _) (fun _ _ => (Touches.mono (mpEvent_touches _ _ _ _ _) rfl))) (Touches.before (Touches.mono (deadenPcs_touches _ _) rfl) (upd_lanes rfl (Touches.refl _ _))))) (Touches.mono (calValid_touches _ _ _) rfl))

theorem sendBoot_touches (t : Nat) (chunk : Nat) (s : State) : Touches [.fmap, .tiles, .rings, .regs, .logs, .fw, .pm, .lat, .counters, .out] s (sendBoot t chunk s) := by
  unfold sendBoot
  exact (by split; exact (Touches.mono (failTile_touches _ _ _ _) rfl); exact (Touches.mono (sendTile_touches _ _ _ _ _ _) rfl))

theorem repeatStep_touches (t : Nat) (s : State) : Touches [.fmap, .tiles, .rings, .regs, .logs, .fw, .pm, .lat, .counters, .out] s (repeatStep t s) := by
  unfold repeatStep
  dsimp only
  exact (by split; exact (Touches.before (Touches.mono (sendTile_touches _ _ _ _ _ _) rfl) (Touches.mono (updTile_touches _ _ _) rfl)); exact (Touches.before (Touches.mono (sendTile_touches _ _ _ _ _ _) rfl) (Touches.mono (updTile_touches _ _ _) rfl)); exact (Touches.mono (sendLanes_touches _ _ _) rfl); exact (Touches.mono (sendLanes_touches _ _ _) rfl); exact (Touches.mono (sendBoot_touches _ _ _) rfl); exact (Touches.mono (sendBoot_touches _ _ _) rfl); exact (Touches.mono (sendAck_touches _ _ _) rfl); exact (Touches.mono (sendTile_touches _ _ _ _ _ _) rfl); exact (Touches.refl _ _))

theorem replacementCommand_touches (q : MciReq) (s : State) : Touches [.rings, .regs, .logs, .fw, .counters, .out] s (replacementCommand q s) := by
  unfold replacementCommand
  dsimp only
  exact (mciFixed_touches _ _ _ _ _ _ _ rfl (Touches.refl _ _) (fun _ => (touches_ite (Touches.mono (mciStatus_touches _ _ _ _) rfl) (Touches.before (Touches.mono (mciAnswer_touches _ _ _ _ _ _ _) rfl) (touches_ite (Touches.before (Touches.mono (evaluateRequests_touches _) rfl) (Touches.mono (clearRequests_touches _ _ _) rfl)) (Touches.refl _ _))))))

theorem retrainPort_touches (port : Nat) (s : State) : Touches [.lat, .counters] s (retrainPort port s) := by
  unfold retrainPort
  exact (touches_ite (Touches.before (Touches.mono (countUp_touches _ _ _) rfl) (Touches.mono (updPort_touches _ _ _) rfl)) (Touches.refl _ _))

theorem replayFrom_touches (port : Nat) (e : BitVec 16) (s : State) : Touches [.lat, .counters] s (replayFrom port e s) := by
  unfold replayFrom
  dsimp only
  exact (touches_ite (Touches.refl _ _) (Touches.before (touches_ite (Touches.before (Touches.mono (retrainPort_touches _ _) rfl) (Touches.mono (updPort_touches _ _ _) rfl)) (Touches.refl _ _)) (Touches.before (Touches.mono (countUp_touches _ _ _) rfl) (Touches.mono (updPort_touches _ _ _) rfl))))

theorem reportLost_touches (s : State) : Touches [.ctl, .rings, .regs, .logs, .counters, .out] s (reportLost s) := by
  unfold reportLost
  dsimp only
  exact (touches_ite (Touches.refl _ _) (Touches.before (Touches.mono (mpEvent_touches _ _ _ _ _) rfl) (upd_ctl rfl (Touches.refl _ _))))

theorem reqCmd_touches (h : FlitHdr) (u : UnschIn) (s : State) : Touches [.lat, .pool] s (reqCmd h u s) := by
  unfold reqCmd
  exact (touches_ite (Touches.mono (sendRsp_touches _ _ _ _ _ _ _ _ _ _) rfl) (Touches.mono (queueCmd_touches _ _ _ _) rfl))

theorem serveLinesOf_touches {bs : List Block} {s0 : State} (h : FlitHdr) (uop : Nat) (u : UnschIn) (each : Nat → LineIn → State → State) (s : State) (hsub : sub [.lat, .pool] bs = true) (hsx : Touches bs s0 s) (hx_each : ∀ v0 v1 v2, Touches bs v2 (each v0 v1 v2)) :
    Touches bs s0 (serveLinesOf h uop u each s) := by
  refine Touches.trans hsx ?_
  unfold serveLinesOf
  dsimp only
  exact (touches_ite (Touches.before (Touches.mono (servedLine_touches _ _ _ _ _ _ _) (sub_trans rfl hsub)) (upd_pool (sub_trans rfl hsub) (Touches.refl _ _))) (Touches.before (touches_foldl (Touches.refl _ _) (fun _ _ => (hx_each _ _ _))) (upd_pool (sub_trans rfl hsub) (Touches.refl _ _))))

theorem withMember_touches {bs : List Block} {s0 : State} (h : FlitHdr) (uop : Nat) (u : UnschIn) (act : Region → Nat → State → State) (s : State) (hsub : sub [.lat] bs = true) (hsx : Touches bs s0 s) (hx_act : ∀ v0 v1 v2, Touches bs v2 (act v0 v1 v2)) :
    Touches bs s0 (withMember h uop u act s) := by
  refine Touches.trans hsx ?_
  unfold withMember
  dsimp only
  exact (by split; exact (Touches.mono (sendRsp_touches _ _ _ _ _ _ _ _ _ _) (sub_trans rfl hsub)); exact (touches_ite (Touches.mono (sendRsp_touches _ _ _ _ _ _ _ _ _ _) (sub_trans rfl hsub)) (touches_ite (Touches.mono (sendRsp_touches _ _ _ _ _ _ _ _ _ _) (sub_trans rfl hsub)) (hx_act _ _ _))))

theorem reqDelta_touches (h : FlitHdr) (u : UnschIn) (s : State) : Touches [.hbm, .dense, .lat, .pool, .out] s (reqDelta h u s) := by
  unfold reqDelta
  dsimp only
  exact (withMember_touches _ _ _ _ _ rfl (Touches.refl _ _) (fun _ _ _ => (serveLinesOf_touches _ _ _ _ _ rfl (Touches.refl _ _) (fun _ _ _ => (touches_ite (Touches.mono (servedLine_touches _ _ _ _ _ _ _) rfl) (Touches.mono (startAcc_touches _ _ _ _ _ _ _ _ _) rfl))))))

theorem reqRead_touches (h : FlitHdr) (u : UnschIn) (s : State) : Touches [.hbm, .dense, .lat, .pool, .out] s (reqRead h u s) := by
  unfold reqRead
  exact (withMember_touches _ _ _ _ _ rfl (Touches.refl _ _) (fun _ _ _ => (serveLinesOf_touches _ _ _ _ _ rfl (Touches.refl _ _) (fun _ _ _ => (Touches.mono (startAcc_touches _ _ _ _ _ _ _ _ _) rfl)))))

theorem reqRebuild_touches (h : FlitHdr) (u : UnschIn) (s : State) : Touches [.hbm, .dense, .lat, .pool, .out] s (reqRebuild h u s) := by
  unfold reqRebuild
  dsimp only
  exact (withMember_touches _ _ _ _ _ rfl (Touches.refl _ _) (fun _ _ _ => (Touches.before (serveLinesOf_touches _ _ _ _ _ rfl (Touches.refl _ _) (fun _ _ _ => (touches_ite (Touches.mono (servedLine_touches _ _ _ _ _ _ _) rfl) (Touches.mono (startAcc_touches _ _ _ _ _ _ _ _ _) rfl)))) (Touches.mono (rebuildAtLine_touches _ _ _ _) rfl))))

theorem takeLease_touches (region : Nat) (holder : Nat) (ms : Nat) (s : State) : Touches [.pool] s (takeLease region holder ms s).2 := by
  unfold takeLease
  dsimp only
  exact (by split; exact (touches_ite_snd (Touches.mono (updRegion_touches _ _ _) rfl) (Touches.refl _ _)); exact (touches_ite_snd (Touches.refl _ _) (Touches.mono (updRegion_touches _ _ _) rfl)))

theorem tokenRun_touches (c : Nat) (holder : Nat) (s : State) : Touches [.ctl, .hbm, .dense, .rings, .regs, .fw, .lat, .pool, .counters, .out] s (tokenRun c holder s).2 := by
  unfold tokenRun
  dsimp only
  exact (by split; exact (Touches.mono (flushToken_touches _ _) rfl); exact (Touches.refl _ _); exact (Touches.mono (takeLease_touches _ _ _ _) rfl); exact (by split; exact (touches_ite_snd (Touches.mono (updRegion_touches _ _ _) rfl) (Touches.refl _ _)); exact (Touches.refl _ _)))

theorem reqToken_touches (h : FlitHdr) (u : UnschIn) (s : State) : Touches [.ctl, .hbm, .dense, .rings, .regs, .fw, .lat, .pool, .counters, .out] s (reqToken h u s) := by
  unfold reqToken
  dsimp only
  exact (Touches.before (Touches.mono (sendRsp_touches _ _ _ _ _ _ _ _ _ _) rfl) (Touches.mono (tokenRun_touches _ _ _) rfl))

theorem reqWrite_touches (h : FlitHdr) (u : UnschIn) (s : State) : Touches [.hbm, .dense, .lat, .pool, .out] s (reqWrite h u s) := by
  unfold reqWrite
  dsimp only
  exact (withMember_touches _ _ _ _ _ rfl (Touches.refl _ _) (fun _ _ _ => (serveLinesOf_touches _ _ _ _ _ rfl (Touches.refl _ _) (fun _ _ _ => (touches_ite (Touches.mono (servedLine_touches _ _ _ _ _ _ _) rfl) (Touches.mono (startAcc_touches _ _ _ _ _ _ _ _ _) rfl))))))

theorem restoreRows_touches (pc : Nat) (s : State) : Touches [.hbm, .out] s (restoreRows pc s) := by
  unfold restoreRows
  dsimp only
  exact (touches_ite (Touches.refl _ _) (Touches.before (Touches.mono (emitAll_touches _ _) rfl) (Touches.mono (updPc_touches _ _ _) rfl)))

theorem ringDisable_touches (fn : Nat) (ring : Nat) (s : State) : Touches [.rings] s (ringDisable fn ring s) := by
  unfold ringDisable
  exact (touches_ite (Touches.refl _ _) (Touches.before (Touches.mono (settleFlush_touches _ _ _) rfl) (Touches.mono (updRing_touches _ _ _ _) rfl)))

theorem staleDoorbell_touches (fn : Nat) (ring : Nat) (s : State) : Touches [.ctl, .rings, .counters, .out] s (staleDoorbell fn ring s) := by
  unfold staleDoorbell
  dsimp only
  exact (Touches.before (touches_ite (Touches.refl _ _) (Touches.before (Touches.mono (sendEvent_touches _ _) rfl) (Touches.mono (updRing_touches _ _ _ _) rfl))) (Touches.before (Touches.mono (fnAttention_touches _ _ _) rfl) (Touches.mono (countUp_touches _ _ _) rfl)))

theorem wakeNamed_touches (s : State) : Touches [.parts, .hbm, .out] s (wakeNamed s) := by
  unfold wakeNamed
  exact (touches_foldl (Touches.refl _ _) (fun _ _ => (by split; exact (touches_ite (Touches.mono (startExit_touches _ _) rfl) (Touches.refl _ _)); exact (Touches.refl _ _))))

theorem ringDoorbell_touches (fn : Nat) (ring : Nat) (value : BitVec 32) (whole : Bool) (sIn : State) : Touches [.parts, .ctl, .hbm, .rings, .counters, .out] sIn (ringDoorbell fn ring value whole sIn) := by
  unfold ringDoorbell
  dsimp only
  exact (Touches.before (touches_ite (Touches.mono (badDoorbell_touches _ _ _) rfl) (touches_ite (Touches.mono (staleDoorbell_touches _ _ _) rfl) (touches_ite (Touches.refl _ _) (Touches.before (Touches.mono (wakeNamed_touches _) rfl) (Touches.mono (updRing_touches _ _ _ _) rfl))))) (Touches.mono (settleFlush_touches _ _ _) rfl))

theorem ringEnable_touches (fn : Nat) (ring : Nat) (s : State) : Touches [.rings] s (ringEnable fn ring s) := by
  unfold ringEnable
  dsimp only
  exact (touches_ite (Touches.refl _ _) (touches_ite (Touches.mono (updRing_touches _ _ _ _) rfl) (Touches.mono (updRing_touches _ _ _ _) rfl)))

theorem romSample_touches (sensor : Nat) (raw : BitVec 16) (s : State) : Touches [.ctl, .pm, .counters] s (romSample sensor raw s) := by
  unfold romSample
  dsimp only
  exact (touches_ite (Touches.mono (setSensor_touches _ _ _) rfl) (touches_ite (Touches.mono (excludeSensor_touches _ _ _ _) rfl) (Touches.mono (setSensor_touches _ _ _) rfl)))

theorem sendPart_touches (uop : Nat) (m : Nat) (id : Nat) (c : Nat) (holder : Nat) (kind : Nat) (s : State) : Touches [.lat, .pool, .out] s (sendPart uop m id c holder kind s) := by
  unfold sendPart
  exact (Touches.before (Touches.mono (updCmd_touches _ _ _) rfl) (Touches.mono (sendReq_touches _ _ _ _ _ _ _ _ _ _) rfl))

theorem runToken_touches (op : Nat) (id : Nat) (s : State) : Touches [.ctl, .hbm, .dense, .rings, .regs, .fw, .lat, .pool, .counters, .out] s (runToken op id s) := by
  unfold runToken
  dsimp only
  exact (by split; exact (Touches.refl _ _); exact (touches_ite (Touches.refl _ _) (touches_ite (Touches.before (Touches.mono (updCmd_touches _ _ _) rfl) (Touches.mono (tokenRun_touches _ _ _) rfl)) (Touches.before (Touches.mono (sendPart_touches _ _ _ _ _ _ _) rfl) (Touches.mono (updCmd_touches _ _ _) rfl)))))

theorem takeAck_touches (port : Nat) (a : BitVec 16) (s : State) : Touches [.lat, .counters] s (takeAck port a s) := by
  unfold takeAck
  dsimp only
  exact (touches_ite (Touches.mono (updPort_touches _ _ _) rfl) (Touches.mono (countUp_touches _ _ _) rfl))

theorem takeHeader_touches (h : FlitHdr) (s : State) : Touches [.lat, .counters] s (takeHeader h s) := by
  unfold takeHeader
  dsimp only
  exact (Touches.before (touches_ite (Touches.mono (takeAck_touches _ _ _) rfl) (Touches.refl _ _)) (Touches.mono (updPort_touches _ _ _) rfl))

theorem crcInjected_touches (h : FlitHdr) (s : State) {t : State} (e : crcInjected h s = some t) : Touches [.regs, .counters] s t := by
  unfold crcInjected at e
  split at e
  · cases e
    exact Touches.after (countUp_touches _ _ _) rfl (Touches.mono (injectDone_touches _) rfl)
  · cases e
theorem rxBare_touches {bs : List Block} {s0 : State} (h : FlitHdr) (act : State → State) (sIn : State) (hsub : sub [.regs, .lat, .counters] bs = true) (hsx : Touches bs s0 sIn) (hx_act : ∀ v0, Touches bs v0 (act v0)) :
    Touches bs s0 (rxBare h act sIn) := by
  refine Touches.trans hsx ?_
  unfold rxBare
  dsimp only
  exact (touches_ite (Touches.refl _ _) (by split; exact (Touches.after (crcInjected_touches _ _ (by assumption)) (sub_trans rfl hsub) (Touches.mono (noteCorrected_touches _ _) (sub_trans rfl hsub))); exact (Touches.before (hx_act _) (Touches.before (Touches.mono (takeHeader_touches _ _) (sub_trans rfl hsub)) (Touches.mono (noteCorrected_touches _ _) (sub_trans rfl hsub))))))

theorem wireBare_touches (port : Nat) (type : Nat) (s : State) : Touches [.lat, .counters, .out] s (wireBare port type s) := by
  unfold wireBare
  exact (Touches.mono (wire_touches _ _ _ _) rfl)

theorem rxFlit_touches {bs : List Block} {s0 : State} (h : FlitHdr) (act : State → State) (s : State) (hsub : sub [.regs, .lat, .counters, .out] bs = true) (hsx : Touches bs s0 s) (hx_act : ∀ v0, Touches bs v0 (act v0)) :
    Touches bs s0 (rxFlit h act s) := by
  refine Touches.trans hsx ?_
  unfold rxFlit
  exact (rxBare_touches _ _ _ (sub_trans rfl hsub) (Touches.refl _ _) (fun _ => (Touches.before (touches_ite (Touches.before (hx_act _) (Touches.mono (updPort_touches _ _ _) (sub_trans rfl hsub))) (touches_ite (Touches.before (Touches.mono (wireBare_touches _ _ _) (sub_trans rfl hsub)) (Touches.mono (updPort_touches _ _ _) (sub_trans rfl hsub))) (Touches.refl _ _))) (Touches.mono (updPort_touches _ _ _) (sub_trans rfl hsub)))))

theorem rxCtrl_touches {bs : List Block} {s0 : State} (h : Option FlitHdr) (port : Nat) (act : State → State) (s : State) (hsub : sub [.regs, .lat, .counters, .out] bs = true) (hsx : Touches bs s0 s) (hx_act : ∀ v0, Touches bs v0 (act v0)) :
    Touches bs s0 (rxCtrl h port act s) := by
  refine Touches.trans hsx ?_
  unfold rxCtrl
  exact (by split; exact (rxFlit_touches _ _ _ (sub_trans rfl hsub) (Touches.refl _ _) (fun _ => (hx_act _))); exact (touches_ite (hx_act _) (Touches.refl _ _)))

theorem sendDispatch_touches (router : Nat) (packet : Nat) (s : State) : Touches [.out] s (sendDispatch router packet s) := by
  unfold sendDispatch
  exact (Touches.mono (emit_touches _ _) rfl)

theorem serveHit_touches (q : DReq) (k : Nat) (dead : Bool) (s : State) : Touches [.ctl, .hbm, .dense, .rings, .regs, .logs, .lat, .pool, .counters, .out, .free] s (serveHit q k dead s) := by
  have hc : ∀ t, Touches [.ctl, .hbm, .dense, .rings, .regs, .logs, .lat, .pool, .counters, .out, .free] t (serveHit.cleanLost q k dead s t) := fun t => by
    unfold serveHit.cleanLost
    exact touches_ite (Touches.mono (updLine_touches _ _ _) rfl) (Touches.refl _ _)
  unfold serveHit
  split
  · split
    · refine serveLines_touches _ _ _ rfl (Touches.refl _ _) fun i t => touches_ite (Touches.mono (stageWritten_touches _ _ _ _) rfl) ?_
      exact Touches.after (stageWritten_touches _ _ _ _) rfl (Touches.mono (cachePut_touches _ _ _ _ _ _) rfl)
    · refine Touches.before (hc _) (serveLines_touches _ _ _ rfl (Touches.refl _ _) fun i t => touches_ite ?_ ?_)
      · exact Touches.after (stageRead_touches _ _ _ _ _ _ _) rfl (Touches.mono (drawLine_touches t) rfl)
      · exact Touches.after (stageRead_touches _ _ _ _ _ _ _) rfl (Touches.mono (cacheGet_touches q.block k (q.off + 64 * i) t) rfl)
  · refine Touches.before (hc _) (poolServe_touches _ _ _ _ _ _ rfl (Touches.refl _ _) ?_ ?_)
    · exact fun t => Touches.mono (cacheGet_touches q.block k q.off t) rfl
    · exact fun d p t => Touches.mono (cachePut_touches _ _ _ _ _ t) rfl
  · exact Touches.refl _ _

theorem storeBlock_touches (k : Nat) (data : Nat) (s : State) : Touches [.hbm] s (storeBlock k data s) := by
  unfold storeBlock
  exact (serveLines_touches _ _ _ rfl (Touches.refl _ _) (fun _ _ => (Touches.mono (hbmWrite_touches _ _ _ _) rfl)))

theorem serveCache_touches (k : Nat) (j : CacheJob) (dead : Bool) (s : State) : Touches [.ctl, .hbm, .dense, .rings, .regs, .logs, .lat, .pool, .counters, .out, .free] s (serveCache k j dead s) := by
  unfold serveCache
  dsimp only
  exact (by split; exact (touches_ite (Touches.mono (serveHit_touches _ _ _ _) rfl) (upd_dense rfl (Touches.refl _ _))); exact (by split; exact (Touches.refl _ _); exact (Touches.before (Touches.mono (releaseMiss_touches _ _) rfl) (Touches.before (Touches.mono (updLine_touches _ _ _) rfl) (touches_ite (Touches.refl _ _) (Touches.mono (storeBlock_touches _ _ _) rfl))))); exact (by split; exact (Touches.refl _ _); exact (by split; exact (touches_ite (Touches.before (Touches.mono (releaseMiss_touches _ _) rfl) (Touches.before (Touches.mono (serveHit_touches _ _ _ _) rfl) (Touches.mono (updLine_touches _ _ _) rfl))) (Touches.mono (readBlock_touches _ _) rfl)); exact (Touches.mono (readBlock_touches _ _) rfl))); exact (touches_ite (Touches.before (Touches.mono (driveCommand_touches _ _ _ _) rfl) (Touches.before (touches_ite (Touches.mono (failBlock_touches _ _) rfl) (Touches.refl _ _)) (Touches.mono (loadBlock_touches _ _ _) rfl))) (Touches.refl _ _)))

theorem serveReq_touches (pc : Nat) (q : UReq) (s : State) : Touches [.ctl, .hbm, .dense, .rings, .regs, .logs, .lat, .pool, .counters, .out, .free] s (serveReq pc q s) := by
  unfold serveReq
  dsimp only
  exact (by split; exact (touches_ite (touches_ite (Touches.mono (stageWritten_touches _ _ _ _) rfl) (Touches.before (Touches.mono (stageRead_touches _ _ _ _ _ _ _) rfl) (Touches.mono (drawLine_touches _) rfl))) (touches_ite (Touches.before (Touches.mono (stageWritten_touches _ _ _ _) rfl) (Touches.mono (hbmWrite_touches _ _ _ _) rfl)) (Touches.before (Touches.mono (stageRead_touches _ _ _ _ _ _ _) rfl) (Touches.mono (hbmRead_touches _ _) rfl)))); exact (poolServe_touches _ _ _ _ _ _ rfl (Touches.refl _ _) (fun _ => (Touches.mono (hbmRead_touches _ _) rfl)) (fun _ _ _ => (Touches.mono (hbmWrite_touches _ _ _ _) rfl))); exact (Touches.refl _ _))

theorem settleTrip_touches (s : State) : Touches [.pins, .boot] s (settleTrip s) := by
  unfold settleTrip
  dsimp only
  exact (touches_ite (Touches.before (Touches.mono (raiseRegulators_touches _) rfl) (upd_pins_boot rfl (Touches.refl _ _))) (Touches.refl _ _))

theorem settleAlert_touches (sIn : State) : Touches [.pins, .boot] sIn (settleAlert sIn) := by
  unfold settleAlert
  dsimp only
  exact (Touches.before (touches_ite (Touches.refl _ _) (upd_pins_boot rfl (Touches.refl _ _))) (Touches.mono (settleTrip_touches _) rfl))

theorem stageHole_touches (fn : Nat) (ticket : Nat) (s : State) : Touches [.rings] s (stageHole fn ticket s) := by
  unfold stageHole
  exact (Touches.mono (updStage_touches _ _ _ _) rfl)

theorem stageBufLine_touches (fn : Nat) (ticket : Nat) (x : Nat) (data : List (Option LineData)) (i : Nat) (s : State) : Touches [.buf, .rings, .out, .free] s (stageBufLine fn ticket x data i s) := by
  unfold stageBufLine
  dsimp only
  exact (touches_ite (Touches.mono (ctlArrive_touches _ _ _ _ _ _ _) rfl) (by split; exact (Touches.mono (ctlArrive_touches _ _ _ _ _ _ _) rfl); exact (Touches.mono (stageHole_touches _ _ _) rfl)))

theorem stageChunk_touches (fn : Nat) (ticket : Nat) (x : Nat) (data : List (Option LineData)) (off : Nat) (n : Nat) (s : State) : Touches [.dense, .rings] s (stageChunk fn ticket x data off n s) := by
  unfold stageChunk
  dsimp only
  exact (touches_ite (Touches.mono (queueDense_touches _ _) rfl) (touches_ite (Touches.mono (queueDense_touches _ _) rfl) (touches_foldl (Touches.refl _ _) (fun _ _ => (by split; exact (Touches.mono (queueDense_touches _ _) rfl); exact (Touches.mono (stageHole_touches _ _ _) rfl))))))

theorem stageDense_touches (fn : Nat) (ticket : Nat) (x : Nat) (data : List (Option LineData)) (x4 : Nat) (x5 : Nat) (x6 : State) : Touches [.dense, .rings] x6 (stageDense fn ticket x data x4 x5 x6) := by
  induction x4 generalizing x5 x6 with
  | zero => exact Touches.refl _ _
  | succ n ih =>
    unfold stageDense
    exact touches_ite (Touches.refl _ _) (Touches.before (ih _ _) (stageChunk_touches _ _ _ _ _ _ _))

theorem stageHbmLine_touches (fn : Nat) (ticket : Nat) (x : Nat) (data : List (Option LineData)) (i : Nat) (s : State) : Touches [.hbm, .rings] s (stageHbmLine fn ticket x data i s) := by
  unfold stageHbmLine
  dsimp only
  exact (touches_ite (Touches.mono (queuePc_touches _ _) rfl) (by split; exact (Touches.mono (queuePc_touches _ _) rfl); exact (Touches.mono (stageHole_touches _ _ _) rfl)))

theorem stageGo_touches (fn : Nat) (x : Nat) (data : List (Option LineData)) (s : State) : Touches [.buf, .hbm, .dense, .rings, .out, .free] s (stageGo fn x data s) := by
  unfold stageGo
  dsimp only
  exact (by split; exact (Touches.before (touches_foldl (Touches.refl _ _) (fun _ _ => (Touches.mono (stageBufLine_touches _ _ _ _ _ _) rfl))) (Touches.before (touches_ite (Touches.refl _ _) (Touches.mono (emit_touches _ _) rfl)) (Touches.mono (consumeLines_touches _ _ _ _ _) rfl))); exact (Touches.before (touches_foldl (Touches.refl _ _) (fun _ _ => (Touches.mono (stageHbmLine_touches _ _ _ _ _ _) rfl))) (Touches.before (touches_ite (Touches.refl _ _) (Touches.mono (emit_touches _ _) rfl)) (Touches.mono (consumeLines_touches _ _ _ _ _) rfl))); exact (Touches.before (Touches.mono (stageDense_touches _ _ _ _ _ _ _) rfl) (Touches.before (touches_ite (Touches.refl _ _) (Touches.mono (emit_touches _ _) rfl)) (Touches.mono (consumeLines_touches _ _ _ _ _) rfl))))

theorem stageStart_touches (fn : Nat) (x : Nat) (data : List (Option LineData)) (s : State) : Touches [.buf, .ctl, .hbm, .dense, .rings, .win, .counters, .out, .free] s (stageStart fn x data s) := by
  unfold stageStart
  exact (touches_ite (Touches.mono (rejectHead_touches _ _ _ _ _) rfl) (touches_ite (Touches.before (Touches.mono (rejectHead_touches _ _ _ _ _) rfl) (Touches.mono (violation_touches _ _ _) rfl)) (by split; exact (Touches.mono (rejectHead_touches _ _ _ _ _) rfl); exact (Touches.mono (stageGo_touches _ _ _ _) rfl))))

theorem trainPorts_touches (s : State) : Touches [.lat] s (trainPorts s) := by
  unfold trainPorts
  dsimp only
  exact (upd_lat rfl (Touches.refl _ _))

theorem stepDone_touches (k : Nat) (s : State) : Touches [.boot] s (stepDone k s) := by
  unfold stepDone
  dsimp only
  exact (upd_boot rfl (Touches.refl _ _))

theorem trainingStep_touches (s : State) : Touches [.boot] s (trainingStep s) := by
  unfold trainingStep
  exact (touches_ite (Touches.mono (stepDone_touches _ _) rfl) (Touches.refl _ _))

theorem startLattice_touches (s : State) : Touches [.boot, .lat] s (startLattice s) := by
  unfold startLattice
  exact (Touches.before (Touches.mono (trainingStep_touches _) rfl) (Touches.mono (trainPorts_touches _) rfl))

theorem startStitches_touches (s : State) : Touches [.lanes] s (startStitches s) := by
  unfold startStitches
  dsimp only
  exact (upd_lanes rfl (Touches.refl _ _))

theorem startTiles_touches (s : State) : Touches [.tiles] s (startTiles s) := by
  unfold startTiles
  exact (touches_ite (Touches.refl _ _) (touches_foldl (Touches.refl _ _) (fun _ _ => (Touches.mono (startTile_touches _ _) rfl))))

theorem startFirmware_touches (s : State) : Touches [.boot, .tiles, .rings, .regs, .logs, .lanes, .fw, .pm, .lat, .counters, .out] s (startFirmware s) := by
  unfold startFirmware
  dsimp only
  exact (Touches.before (Touches.mono (startTiles_touches _) rfl) (Touches.before (Touches.mono (startStitches_touches _) rfl) (Touches.before (Touches.mono (startLattice_touches _) rfl) (Touches.before (Touches.mono (stepDone_touches _ _) rfl) (Touches.before (Touches.mono (stepDone_touches _ _) rfl) (Touches.before (Touches.mono (persistHeld_touches _) rfl) (Touches.before (Touches.mono (startPm_touches _) rfl) (upd_boot_fw rfl (Touches.refl _ _)))))))))

theorem startLanes_touches (t : Nat) (s : State) : Touches [.tiles, .out] s (startLanes t s) := by
  unfold startLanes
  exact (Touches.before (Touches.mono (startTransfer_touches _ _ _) rfl) (Touches.mono (updTile_touches _ _ _) rfl))

theorem startLoad_touches (q : MciReq) (n : Nat) (s : State) : Touches [.slots, .win, .fw] s (startLoad q n s) := by
  unfold startLoad
  dsimp only
  exact (Touches.before (Touches.mono (mciHold_touches _ _ _) rfl) (Touches.mono (setSlot_touches _ _ _) rfl))

theorem startMerge_touches (s : State) : Touches [.boot, .parts, .slots, .comp, .fmap, .hbm, .tiles, .rings, .regs, .logs, .lanes, .fw, .pm, .lat, .counters, .out] s (startMerge s) := by
  unfold startMerge
  exact (Touches.before (Touches.mono (stepDone_touches _ _) rfl) (Touches.before (Touches.mono (noteUnclean_touches _) rfl) (Touches.before (Touches.mono (recordPower_touches _) rfl) (Touches.before (Touches.mono (recheckVet_touches _) rfl) (Touches.before (Touches.mono (mergeFaultMap_touches _) rfl) (Touches.before (Touches.mono (hardRepairs_touches _) rfl) (Touches.mono (stepDone_touches _ _) rfl)))))))

theorem stitchLink_touches (s : State) (r : LinkTrain) : Touches [.ctl, .lanes, .counters] s (stitchLink s r) := by
  unfold stitchLink
  dsimp only
  exact (touches_ite (Touches.refl _ _) (touches_ite (Touches.mono (calInvalid_touches _ _ _) rfl) (Touches.before (touches_ite (Touches.mono (killLink_touches _ _ _) rfl) (Touches.refl _ _)) (upd_lanes rfl (Touches.refl _ _)))))

theorem stitchPass_touches (from_ : Nat) (s : State) : Touches [.clk, .parts, .layout, .layoutPend, .slots, .buf, .comp, .ctl, .hbm, .tiles, .rings, .regs, .logs, .win, .lat, .counters, .out] s (stitchPass from_ s) := by
  unfold stitchPass
  exact (touches_ite (Touches.mono (runTo_touches _ _) rfl) (Touches.refl _ _))

theorem stitchResults_touches (rs : List StitchTrain) (s : State) : Touches [.ctl, .lanes, .counters] s (stitchResults rs s) := by
  unfold stitchResults
  exact (touches_foldl (Touches.refl _ _) (fun _ _ => (Touches.mono (calResult_touches _ _ _ _) rfl)))

theorem stopPoison_touches (id : Nat) (o : Nat) (s : State) : Touches [.pool] s (stopPoison id o s) := by
  unfold stopPoison
  exact (Touches.mono (updCmd_touches _ _ _) rfl)

theorem storeWin_touches (h : FlitHdr) (first : Nat) (total : Nat) (beats : List LineIn) (s : State) : Touches [.lat, .counters] s (storeWin h first total beats s) := by
  unfold storeWin
  dsimp only
  exact (touches_ite (Touches.mono (putWin_touches _ _) rfl) (touches_ite (Touches.mono (failWin_touches _ _) rfl) (touches_ite (Touches.mono (failWin_touches _ _) rfl) (Touches.mono (putWin_touches _ _) rfl))))

theorem tableHere_touches (src : Nat) (tag : Nat) (region : Nat) (x : Nat) (s : State) : Touches [.hbm, .dense, .rings, .regs, .win, .fw, .lat, .pool, .out] s (tableHere src tag region x s) := by
  unfold tableHere
  dsimp only
  exact (by split; exact (Touches.mono (regionRun_touches _ _ _ _ _) rfl); exact (by split; exact (Touches.mono (sendRsp_touches _ _ _ _ _ _ _ _ _ _) rfl); exact (Touches.before (Touches.mono (sendRsp_touches _ _ _ _ _ _ _ _ _ _) rfl) (Touches.mono (allocHere_touches _ _ (by assumption)) rfl))); exact (Touches.before (touches_ite (Touches.mono (extentsDone_touches _ _) rfl) (Touches.refl _ _)) (Touches.before (Touches.mono (sendRsp_touches _ _ _ _ _ _ _ _ _ _) rfl) (Touches.mono (deleteHere_touches _ _) rfl))); exact (Touches.before (Touches.mono (sendRsp_touches _ _ _ _ _ _ _ _ _ _) rfl) (Touches.mono (aclInForce_touches _ _ _ _) rfl)); exact (Touches.before (Touches.mono (sendRsp_touches _ _ _ _ _ _ _ _ _ _) rfl) (Touches.mono (entryHere_touches _ _ _ _) rfl)); exact (Touches.before (Touches.mono (sendRsp_touches _ _ _ _ _ _ _ _ _ _) rfl) (Touches.mono (updRegion_touches _ _ _) rfl)); exact (Touches.mono (sendRsp_touches _ _ _ _ _ _ _ _ _ _) rfl))

theorem takeBarriers_touches (node : Nat) (dir : Nat) (gone : List (BitVec 64)) (s : State) : Touches [.ctl] s (takeBarriers node dir gone s) := by
  unfold takeBarriers
  dsimp only
  exact (touches_ite (upd_ctl rfl (Touches.refl _ _)) (Touches.refl _ _))

theorem takeReq_touches {bs : List Block} {s0 : State} (h : FlitHdr) (uop : Nat) (u : UnschIn) (act : State → State) (s : State) (hsub : sub [.regs, .lat, .counters, .out] bs = true) (hsx : Touches bs s0 s) (hx_act : ∀ v0, Touches bs v0 (act v0)) :
    Touches bs s0 (takeReq h uop u act s) := by
  refine Touches.trans hsx ?_
  unfold takeReq
  exact (rxFlit_touches _ _ _ (sub_trans rfl hsub) (Touches.refl _ _) (fun _ => (touches_ite (Touches.mono (passOn_touches _ _ _ _ _) (sub_trans rfl hsub)) (by split; exact (by split; exact (Touches.refl _ _); exact (Touches.mono (sendFlit_touches _ _ _ _) (sub_trans rfl hsub))); exact (touches_ite (Touches.refl _ _) (hx_act _))))))

theorem takeRsp_touches (h : FlitHdr) (uop : Nat) (u : UnschIn) (s : State) : Touches [.hbm, .dense, .rings, .regs, .fw, .lat, .pool, .out] s (takeRsp h uop u s) := by
  unfold takeRsp
  dsimp only
  exact (by split; exact (Touches.refl _ _); exact (by split; exact (Touches.before (Touches.mono (poolReply_touches _ _ _ _ _) rfl) (Touches.before (Touches.mono (admitWaiting_touches _ _) rfl) (upd_lat rfl (Touches.refl _ _)))); exact (Touches.before (Touches.mono (partDone_touches _ _ _ _) rfl) (Touches.before (Touches.mono (admitWaiting_touches _ _) rfl) (upd_lat rfl (Touches.refl _ _)))); exact (Touches.before (Touches.mono (partDone_touches _ _ _ _) rfl) (Touches.before (Touches.mono (admitWaiting_touches _ _) rfl) (upd_lat rfl (Touches.refl _ _)))); exact (Touches.before (Touches.mono (tableReply_touches _ _ _) rfl) (Touches.before (Touches.mono (admitWaiting_touches _ _) rfl) (upd_lat rfl (Touches.refl _ _)))); exact (Touches.before (Touches.mono (admitWaiting_touches _ _) rfl) (upd_lat rfl (Touches.refl _ _)))))

theorem tileReady_touches (t : Nat) (s : State) : Touches [.fmap, .tiles, .rings, .regs, .logs, .fw, .pm, .lat, .counters, .out] s (tileReady t s) := by
  unfold tileReady
  dsimp only
  exact (Touches.before (Touches.mono (tileCombination_touches _) rfl) (by split; exact (Touches.before (Touches.mono (runPackage_touches _ _) rfl) (Touches.before (touches_ite (upd_fmap_pm rfl (Touches.refl _ _)) (upd_fmap rfl (Touches.refl _ _))) (Touches.mono (updTile_touches _ _ _) rfl))); exact (Touches.before (touches_ite (upd_fmap_pm rfl (Touches.refl _ _)) (upd_fmap rfl (Touches.refl _ _))) (Touches.mono (updTile_touches _ _ _) rfl))))

theorem toBoundary_touches (s : State) : Touches [.clk, .parts, .layout, .layoutPend, .slots, .buf, .comp, .ctl, .hbm, .tiles, .rings, .regs, .logs, .win, .lat, .counters, .out] s (toBoundary s) := by
  unfold toBoundary
  dsimp only
  exact (touches_ite (Touches.before (touches_ite (Touches.refl _ _) (Touches.mono (boundary_touches _) rfl)) (Touches.mono (advanceTo_touches _ _) rfl)) (Touches.mono (boundary_touches _) rfl))

theorem toCommit_touches (router : Nat) (tick : Nat) (s : State) : Touches [.clk, .parts, .layout, .layoutPend, .slots, .buf, .comp, .ctl, .hbm, .tiles, .rings, .regs, .logs, .win, .lat, .counters, .out, .free] s (toCommit router tick s) := by
  unfold toCommit
  dsimp only
  exact (Touches.before (upd_buf rfl (Touches.refl _ _)) (Touches.before (Touches.mono (runTo_touches _ _) rfl) (upd_free rfl (Touches.refl _ _))))

theorem toPartTick_touches (k : Nat) (at_ : Nat) (s : State) : Touches [.clk, .parts, .layout, .layoutPend, .slots, .buf, .comp, .ctl, .hbm, .tiles, .rings, .regs, .logs, .win, .lat, .counters, .out] s (toPartTick k at_ s) := by
  unfold toPartTick
  exact (Touches.mono (runTo_touches _ _) rfl)

theorem trainedTile_touches (t : Nat) (s : State) : Touches [.fmap, .tiles, .rings, .regs, .logs, .lanes, .fw, .pm, .lat, .counters, .out] s (trainedTile t s) := by
  unfold trainedTile
  dsimp only
  exact (Touches.before (touches_ite (touches_ite (Touches.mono (failTile_touches _ _ _ _) rfl) (Touches.mono (startLanes_touches _ _) rfl)) (Touches.before (Touches.mono (dropTile_touches _ _ _) rfl) (touches_ite (Touches.refl _ _) (Touches.mono (mpEvent_touches _ _ _ _ _) rfl)))) (touches_foldl (Touches.refl _ _) (fun _ _ => (Touches.mono (consentTo_touches _ _) rfl))))

theorem unusableFrame_touches (t : Nat) (s : State) : Touches [.ctl, .pm, .counters] s (unusableFrame t s) := by
  unfold unusableFrame
  dsimp only
  exact (touches_foldl (Touches.refl _ _) (fun _ _ => (touches_ite (Touches.mono (excludeSensor_touches _ _ _ _) rfl) (Touches.mono (setSensor_touches _ _ _) rfl))))

theorem usableFrame_touches (t : Nat) (readings : List (BitVec 16)) (s : State) : Touches [.ctl, .pm, .counters] s (usableFrame t readings s) := by
  unfold usableFrame
  dsimp only
  exact (touches_foldl (Touches.refl _ _) (fun _ _ => (Touches.before (Touches.mono (judgeSample_touches _ _ _) rfl) (Touches.mono (setSensor_touches _ _ _) rfl))))

theorem useEntry_touches (key : Nat) (counted : Bool) (k : Nat) (s : State) : Touches [.parts, .buf] s (useEntry key counted k s) := by
  unfold useEntry
  dsimp only
  exact (Touches.before (touches_ite (Touches.mono (updRun_touches _ _ _) rfl) (Touches.refl _ _)) (upd_buf rfl (Touches.refl _ _)))

theorem victimGone_touches (b : Nat) (s : State) : Touches [.hbm, .dense, .out] s (victimGone b s) := by
  unfold victimGone
  dsimp only
  exact (by split; exact (Touches.refl _ _); exact (by split; exact (Touches.refl _ _); exact (touches_ite (Touches.mono (startWrite_touches _ _ _) rfl) (Touches.mono (fillLine_touches _ _) rfl))))

theorem wakeStack_touches (pc : Nat) (s : State) : Touches [.parts, .hbm, .out] s (wakeStack pc s) := by
  unfold wakeStack
  dsimp only
  exact (Touches.before (touches_ite (Touches.before (Touches.mono (emit_touches _ _) rfl) (Touches.mono (updParts_touches _ _) rfl)) (Touches.refl _ _)) (Touches.mono (updStack_touches _ _ _) rfl))

theorem wakeTolerance_touches (s : State) : Touches [.parts, .hbm, .out] s (wakeTolerance s) := by
  unfold wakeTolerance
  exact (touches_foldl (Touches.refl _ _) (fun _ _ => (touches_ite (Touches.refl _ _) (Touches.mono (startExit_touches _ _) rfl))))

theorem withLost_touches {bs : List Block} {s0 : State} (f : State → State) (s : State) (hsub : sub [.rings, .regs, .fw, .lat, .pool, .out] bs = true) (hsx : Touches bs s0 s) (hx_f : ∀ v0, Touches bs v0 (f v0)) :
    Touches bs s0 (withLost f s) := by
  refine Touches.trans hsx ?_
  unfold withLost
  dsimp only
  exact (Touches.before (touches_foldl (Touches.refl _ _) (fun _ _ => (Touches.mono (dropRequests_touches _ _) (sub_trans rfl hsub)))) (hx_f _))

theorem writeAborted_touches (b : Nat) (sIn : State) : Touches [.hbm, .dense, .rings, .lat, .pool, .out, .free] sIn (writeAborted b sIn) := by
  unfold writeAborted
  dsimp only
  exact (by split; exact (upd_dense rfl (Touches.refl _ _)); exact (by split; exact (Touches.before (Touches.mono (updLine_touches _ _ _) rfl) (upd_dense rfl (Touches.refl _ _))); exact (Touches.before (touches_foldl (Touches.refl _ _) (fun _ _ => (Touches.mono (failReq_touches _ _) rfl))) (Touches.before (Touches.mono (dropMiss_touches _ _) rfl) (Touches.before (Touches.mono (updLine_touches _ _ _) rfl) (upd_dense rfl (Touches.refl _ _)))))))

theorem writeAck_touches (v : BitVec 64) (s : State) : Touches [.logs] s (writeAck v s) := by
  unfold writeAck
  dsimp only
  exact (touches_ite (Touches.refl _ _) (upd_logs rfl (Touches.refl _ _)))

theorem writeAckHalf_touches (hi : Bool) (v : BitVec 32) (s : State) : Touches [.logs] s (writeAckHalf hi v s) := by
  unfold writeAckHalf
  dsimp only
  exact (Touches.mono (writeAck_touches _ _) rfl)

theorem writeArm_touches (v : BitVec 32) (s : State) : Touches [.regs] s (writeArm v s) := by
  unfold writeArm
  dsimp only
  exact (upd_regs rfl (Touches.refl _ _))

theorem writeDbl_touches (fn : Nat) (off : Nat) (v : BitVec 32) (s : State) : Touches [.parts, .ctl, .hbm, .rings, .counters, .out] s (writeDbl fn off v s) := by
  unfold writeDbl
  exact (touches_ite (touches_ite (Touches.mono (ringDoorbell_touches _ _ _ _ _) rfl) (Touches.mono (cqDoorbell_touches _ _ _ _) rfl)) (touches_ite (Touches.mono (flushRequest_touches _ _ _) rfl) (Touches.refl _ _)))

theorem writeEnable_touches (fn : Nat) (ring : Nat) (on : Bool) (s : State) : Touches [.rings] s (writeEnable fn ring on s) := by
  unfold writeEnable
  exact (touches_ite (Touches.mono (ringEnable_touches _ _ _) rfl) (Touches.mono (ringDisable_touches _ _ _) rfl))

theorem writeEvtEn_touches (v : BitVec 32) (s : State) : Touches [.rings, .regs, .out] s (writeEvtEn v s) := by
  unfold writeEvtEn
  dsimp only
  exact (Touches.before (touches_ite (Touches.mono (raiseVector_touches _ _ _) rfl) (Touches.refl _ _)) (upd_regs rfl (Touches.refl _ _)))

theorem writeFattnEn_touches (fn : Nat) (v : BitVec 32) (s : State) : Touches [.rings, .out] s (writeFattnEn fn v s) := by
  unfold writeFattnEn
  dsimp only
  exact (Touches.before (touches_ite (Touches.mono (raiseVector_touches _ _ _) rfl) (Touches.refl _ _)) (Touches.mono (updFn_touches _ _ _) rfl))

theorem writeFrom_touches (rd : Ready) (router : Nat) (line : Nat) (lo : Nat) (n : Nat) (mask : LineMask) (s : State) : Touches [.parts, .buf, .ctl, .counters] s (writeFrom rd router line lo n mask s) := by
  unfold writeFrom
  dsimp only
  exact (Touches.before (touches_ite (Touches.before (Touches.mono (noteWrite_touches _ _ _ _ _ _ _) rfl) (Touches.mono (schedWrite_touches _ _ _ _ _) rfl)) (Touches.before (Touches.mono (noteWrite_touches _ _ _ _ _ _ _) rfl) (Touches.before (Touches.mono (dataPathBreach_touches _ _ _) rfl) (Touches.mono (countIdleOp_touches _ _) rfl)))) (Touches.mono (takeInput_touches _ _ _ _ _ _ _) rfl))

theorem writeInject_touches (v : BitVec 32) (s : State) : Touches [.regs] s (writeInject v s) := by
  unfold writeInject
  dsimp only
  exact (touches_ite (Touches.refl _ _) (upd_regs rfl (Touches.refl _ _)))

theorem writeMarks_touches (fn : Nat) (ring : Nat) (rest : Nat) (s : State) : Touches [.rings, .out] s (writeMarks fn ring rest s) := by
  unfold writeMarks
  dsimp only
  exact (touches_foldl (Touches.refl _ _) (fun _ _ => (Touches.before (Touches.mono (postCompletion_touches _ _ _ _ _ _ _ _) rfl) (Touches.mono (updRing_touches _ _ _ _) rfl))))

theorem writeMbx_touches (i : Nat) (v : BitVec 32) (s : State) : Touches [.regs] s (writeMbx i v s) := by
  unfold writeMbx
  dsimp only
  exact (upd_regs rfl (Touches.refl _ _))

theorem writeMsix_touches (fn : Nat) (off : Nat) (v : BitVec 32) (s : State) : Touches [.rings, .out] s (writeMsix fn off v s) := by
  unfold writeMsix
  dsimp only
  exact (touches_ite (Touches.refl _ _) (Touches.before (touches_ite (Touches.mono (emit_touches _ _) rfl) (Touches.refl _ _)) (upd_rings rfl (Touches.refl _ _))))

theorem writePacket_touches (p : FaultPkt) (s : State) : Touches [.rings, .regs, .logs, .counters, .out] s (writePacket p s) := by
  unfold writePacket
  dsimp only
  exact (Touches.before (touches_ite (Touches.mono (evaluateRequests_touches _) rfl) (Touches.refl _ _)) (Touches.before (Touches.mono (noteSlice_touches _ _) rfl) (Touches.mono (logEntry_touches _ _ _ _ _ _ _) rfl)))

theorem writePwrEn_touches (v : BitVec 32) (s : State) : Touches [.rings, .regs, .out] s (writePwrEn v s) := by
  unfold writePwrEn
  dsimp only
  exact (Touches.before (touches_ite (Touches.mono (raiseVector_touches _ _ _) rfl) (Touches.refl _ _)) (upd_regs rfl (Touches.refl _ _)))

theorem writeRingParam_touches (fn : Nat) (ring : Nat) (o : Nat) (v : BitVec 32) (s : State) : Touches [.rings, .regs] s (writeRingParam fn ring o v s) := by
  unfold writeRingParam
  dsimp only
  exact (by split; exact (Touches.before (Touches.mono (updRing_touches _ _ _ _) rfl) (Touches.mono (noteRsvd_touches _ _ _ _) rfl)); exact (Touches.mono (updRing_touches _ _ _ _) rfl); exact (Touches.before (Touches.mono (updRing_touches _ _ _ _) rfl) (Touches.mono (noteRsvd_touches _ _ _ _) rfl)); exact (Touches.mono (updRing_touches _ _ _ _) rfl); exact (Touches.before (Touches.mono (updRing_touches _ _ _ _) rfl) (Touches.mono (noteRsvd_touches _ _ _ _) rfl)); exact (Touches.before (Touches.mono (updRing_touches _ _ _ _) rfl) (Touches.mono (noteRsvd_touches _ _ _ _) rfl)); exact (Touches.refl _ _))

theorem writeRing_touches (fn : Nat) (ring : Nat) (o : Nat) (v : BitVec 32) (s : State) : Touches [.rings, .regs, .counters] s (writeRing fn ring o v s) := by
  unfold writeRing
  exact (touches_ite (touches_ite (Touches.refl _ _) (Touches.mono (writeRingParam_touches _ _ _ _ _) rfl)) (touches_ite (Touches.mono (writeEnable_touches _ _ _ _) rfl) (touches_ite (upd_counters rfl (Touches.refl _ _)) (touches_ite (upd_counters rfl (Touches.refl _ _)) (Touches.refl _ _)))))

theorem writeScratch_touches (hi : Bool) (v : BitVec 32) (s : State) : Touches [.regs] s (writeScratch hi v s) := by
  unfold writeScratch
  dsimp only
  exact (upd_regs rfl (Touches.refl _ _))

theorem writeStsEn_touches (v : BitVec 32) (s : State) : Touches [.rings, .regs, .out] s (writeStsEn v s) := by
  unfold writeStsEn
  dsimp only
  exact (Touches.before (touches_ite (Touches.mono (raiseVector_touches _ _ _) rfl) (Touches.refl _ _)) (upd_regs rfl (Touches.refl _ _)))

theorem writeWord_touches (fn : Nat) (off : Nat) (v : BitVec 32) (s : State) : Touches [.clk, .parts, .ctl, .hbm, .rings, .regs, .logs, .counters, .out] s (writeWord fn off v s) := by
  unfold writeWord
  dsimp only
  exact (touches_ite (Touches.mono (writeRing_touches _ _ _ _ _) rfl) (touches_ite (Touches.mono (writeDbl_touches _ _ _ _) rfl) (touches_ite (Touches.mono (updFn_touches _ _ _) rfl) (touches_ite (Touches.mono (writeFattnEn_touches _ _ _) rfl) (touches_ite (Touches.mono (writeMsix_touches _ _ _ _) rfl) (touches_ite (Touches.refl _ _) (touches_ite (touches_ite (Touches.refl _ _) (Touches.mono (writeMbx_touches _ _ _) rfl)) (touches_ite (Touches.mono (prioRewrite_touches _ _ _ _) rfl) (by split; exact (touches_ite (upd_regs rfl (Touches.refl _ _)) (Touches.refl _ _)); exact (upd_regs rfl (Touches.refl _ _)); exact (Touches.mono (writeStsEn_touches _ _) rfl); exact (touches_ite (Touches.mono (capture_touches _) rfl) (Touches.refl _ _)); exact (Touches.mono (writePwrEn_touches _ _) rfl); exact (Touches.mono (writeAckHalf_touches _ _ _) rfl); exact (Touches.mono (writeAckHalf_touches _ _ _) rfl); exact (Touches.mono (writeEvtEn_touches _ _) rfl); exact (upd_regs rfl (Touches.refl _ _)); exact (touches_ite (upd_regs rfl (Touches.refl _ _)) (Touches.refl _ _)); exact (Touches.mono (writeArm_touches _ _) rfl); exact (Touches.mono (writeScratch_touches _ _ _) rfl); exact (Touches.mono (writeScratch_touches _ _ _) rfl); exact (Touches.mono (writeInject_touches _ _) rfl); exact (Touches.refl _ _))))))))))

theorem writeWords_touches (fn : Nat) (off : Nat) (value : Nat) (x3 : Nat) (x4 : State) : Touches [.clk, .parts, .ctl, .hbm, .rings, .regs, .logs, .counters, .out] x4 (writeWords fn off value x3 x4) := by
  induction x3 generalizing off value x4 with
  | zero => exact Touches.refl _ _
  | succ n ih => exact Touches.before (ih _ _ _) (writeWord_touches _ _ _ _)

theorem writeReg_touches (fn : Nat) (off : Nat) (size : Nat) (value : Nat) (s : State) : Touches [.clk, .parts, .ctl, .hbm, .rings, .regs, .logs, .counters, .out] s (writeReg fn off size value s) := by
  unfold writeReg
  dsimp only
  exact (touches_ite (Touches.mono (badDoorbell_touches _ _ _) rfl) (touches_ite (Touches.refl _ _) (Touches.before (touches_ite (Touches.mono (writeAck_touches _ _) rfl) (touches_ite (Touches.mono (prioRewrite_touches _ _ _ _) rfl) (Touches.mono (writeWords_touches _ _ _ _ _) rfl))) (touches_ite (Touches.mono (mbxCount_touches _) rfl) (Touches.refl _ _)))))

theorem wroteLine_touches (b : Nat) (s : State) : Touches [.dense] s (wroteLine b s) := by
  unfold wroteLine
  exact (by split; exact (Touches.refl _ _); exact (Touches.mono (updLine_touches _ _ _) rfl))

theorem zeroBuffer_touches (s : State) : Touches [.buf] s (zeroBuffer s) := by
  unfold zeroBuffer
  dsimp only
  exact (upd_buf rfl (Touches.refl _ _))

theorem zeroDense_touches (g : Nat) (s : State) : Touches [.hbm, .dense, .out] s (zeroDense g s) := by
  unfold zeroDense
  dsimp only
  exact (Touches.before (Touches.mono (emitAll_touches _ _) rfl) (Touches.before (upd_dense rfl (Touches.refl _ _)) (Touches.mono (dropJobs_touches _ _) rfl)))

theorem zeroUnit_touches (u : Nat) (s : State) : Touches [.hbm] s (zeroUnit u s) := by
  unfold zeroUnit
  dsimp only
  exact (upd_hbm rfl (Touches.refl _ _))

theorem zeroKey_touches (key : Nat) (s : State) : Touches [.hbm, .dense, .out] s (zeroKey key s) := by
  unfold zeroKey
  exact (touches_ite (Touches.mono (zeroUnit_touches _ _) rfl) (Touches.mono (zeroDense_touches _ _) rfl))

theorem zeroTags_touches (stack : Nat) (s : State) : Touches [.hbm] s (zeroTags stack s) := by
  unfold zeroTags
  dsimp only
  exact (upd_hbm rfl (Touches.refl _ _))

end Sys2Proof.Machine
end

