-- ==== Sys2Proof/Laws/Frames6.lean ====
section
/-! SUPPORT. What the commands leave alone, part 6: one lemma each, from atEvent to execHbmAssign. -/

namespace Sys2Proof.Machine

theorem startTurn_touches (fn ring : Nat) (s : State) {x : Nat} {t : State} (e : startTurn fn ring s = some (x, t)) : Touches [.rings] s t := by
  unfold startTurn at e
  dsimp only at e
  split at e
  · cases h : consumable s fn ring with
    | none => rw [h] at e; cases e
    | some y =>
      rw [h] at e
      cases e
      exact swrr_touches _ _
  · cases e
theorem sourceLine_touches (region o : Nat) (fetched : List LineIn) (s : State) {a : LineData × Bool} {f : List LineIn} {t : State}
    (e : sourceLine region o fetched s = some (a, f, t)) : Touches [.ctl, .hbm, .regs, .logs, .counters] s t := by
  unfold sourceLine at e
  dsimp only at e
  split at e
  · cases e
    exact hbmRead_touches _ _
  · split at e <;> cases e
    exact Touches.refl _ _
theorem operandLines_touches (region : Nat) (l : List (Nat × Nat)) (f : List LineIn) (s : State) {a : List LineData × Option Nat}
    {g : List LineIn} {t : State} (e : operandLines region l f s = some (a, g, t)) : Touches [.ctl, .hbm, .regs, .logs, .counters] s t := by
  induction l generalizing f s a g t with
  | nil => cases e; exact Touches.refl _ _
  | cons x l ih =>
    obtain ⟨r, o⟩ := x
    unfold operandLines at e
    split at e
    · cases e
    · rename_i h
      split at e
      · cases e; exact sourceLine_touches _ _ _ _ h
      · split at e
        · cases e
        · rename_i k
          cases e
          exact Touches.before (ih _ _ k) (sourceLine_touches _ _ _ _ h)
theorem fillLines_touches (id c : Nat) (offs : List Nat) (f : List LineIn) (s : State) {t : State} (e : fillLines id c offs f s = some t) :
    Touches [.hbm, .dense, .lat, .pool, .out] s t := by
  cases e
  exact touches_foldl (Touches.refl _ _) (fun _ _ => destLine_touches _ _ _ _ _)
theorem copyLines_touches (id c : Nat) (offs : List Nat) (f : List LineIn) (s : State) {t : State} (e : copyLines id c offs f s = some t) :
    Touches [.ctl, .hbm, .dense, .regs, .logs, .lat, .pool, .counters, .out] s t := by
  induction offs generalizing f s with
  | nil => cases e; exact Touches.refl _ _
  | cons o l ih =>
    unfold copyLines at e
    split at e
    · cases e
    · rename_i h
      split at e
      · cases e
        exact Touches.after (stopPoison_touches _ _ _) rfl (Touches.mono (sourceLine_touches _ _ _ _ h) rfl)
      · exact Touches.before (ih _ _ e) (Touches.after (destLine_touches _ _ _ _ _) rfl (Touches.mono (sourceLine_touches _ _ _ _ h) rfl))
theorem compareLines_touches (id c : Nat) (offs : List Nat) (f : List LineIn) (s : State) {t : State}
    (e : compareLines id c offs f s = some t) : Touches [.ctl, .hbm, .regs, .logs, .pool, .counters] s t := by
  induction offs generalizing f s with
  | nil => cases e; exact Touches.refl _ _
  | cons o l ih =>
    unfold compareLines at e
    split at e
    · cases e
    · rename_i h
      have k1 := Touches.mono (cs := [.ctl, .hbm, .regs, .logs, .pool, .counters]) (sourceLine_touches _ _ _ _ h) rfl
      split at e
      · cases e
        exact Touches.after (stopPoison_touches _ _ _) rfl k1
      · split at e
        · cases e
        · rename_i h2
          have k2 := k1.trans (Touches.mono (sourceLine_touches _ _ _ _ h2) rfl)
          split at e
          · cases e
            exact Touches.after (stopPoison_touches _ _ _) rfl k2
          · split at e
            · exact k2.trans (ih _ _ e)
            · cases e
              exact Touches.after (updCmd_touches _ _ _) rfl k2
theorem reduceLines_touches (id c : Nat) (offs : List Nat) (f : List LineIn) (s : State) {t : State}
    (e : reduceLines id c offs f s = some t) : Touches [.ctl, .hbm, .dense, .regs, .logs, .lat, .pool, .counters, .out] s t := by
  induction offs generalizing f s with
  | nil => cases e; exact Touches.refl _ _
  | cons o l ih =>
    unfold reduceLines at e
    dsimp only at e
    split at e
    · cases e
    · rename_i h
      cases e
      exact Touches.after (stopPoison_touches _ _ _) rfl (Touches.mono (operandLines_touches _ _ _ _ h) rfl)
    · rename_i h
      exact Touches.before (ih _ _ e) (Touches.after (destLine_touches _ _ _ _ _) rfl (Touches.mono (operandLines_touches _ _ _ _ h) rfl))
theorem runData_touches {bs : List Block} (op id : Nat) (lines : Nat → List Nat → State → Option State) (s : State)
    (hsub : sub [.lat, .pool, .out] bs = true) (hl : ∀ c l v t, lines c l v = some t → Touches bs v t) :
    Touches bs s (runData op id lines s) := by
  unfold runData
  split
  · exact Touches.refl _ _
  · split
    · exact Touches.refl _ _
    · dsimp only
      have h : ∀ os : List Nat, ∀ c h' k u, Touches bs u (os.foldl (fun t m => sendPart 5 m id c h' k t) u) := fun os c h' k u =>
        touches_foldl (Touches.refl _ _) (fun _ _ => Touches.mono (sendPart_touches _ _ _ _ _ _ _) (sub_trans rfl hsub))
      split
      · exact (Touches.mono (updCmd_touches _ _ _) (sub_trans rfl hsub)).trans (h _ _ _ _ _)
      · cases e : lines _ _ _ with
        | none =>
          exact Touches.refl _ _
        | some t =>
          exact Touches.before (hl _ _ _ _ e) ((Touches.mono (updCmd_touches _ _ _) (sub_trans rfl hsub)).trans (h _ _ _ _ _))
theorem atEvent_touches {bs : List Block} (r : EvRef) (kind : Nat) (s : State) (act : Ready → State → State) (hsub : sub [.clk, .parts, .buf, .ctl, .tiles, .regs, .lat, .counters, .out] bs = true)
    (hx_act : ∀ v0 v1, Touches bs v1 (act v0 v1)) : Nexts bs s (atEvent r kind s act) := by
  unfold atEvent
  exact (by split; exact (nexts (Touches.refl _ _)); exact (nexts (Touches.before (hx_act _ _) (Touches.mono (advance_touches _ _) (sub_trans rfl hsub)))))

theorem execAckIdleTimer_touches (port : Nat) (s : State) :
    Nexts [.lat, .counters, .out] s (execAckIdleTimer port s) := by
  unfold execAckIdleTimer
  exact (nexts_ite (nexts (Touches.mono (wireBare_touches _ _ _) rfl)) (nexts (Touches.refl _ _)))

theorem execArrive_touches (h : Option FlitHdr) (port : Nat) (msg : Nat) (s : State) :
    Nexts [.regs, .lat, .counters, .out] s (execArrive h port msg s) := by
  unfold execArrive
  dsimp only
  exact (nexts (rxCtrl_touches _ _ _ _ rfl (Touches.refl _ _) (fun _ => (touches_ite (Touches.refl _ _) (by split; exact (Touches.refl _ _); exact (Touches.before (Touches.mono (arriveTry_touches _) rfl) (upd_lat rfl (Touches.refl _ _))))))))

theorem execAttentionEnableWrite_touches (fn : Nat) (block : Nat) (value : BitVec 32) (s : State) :
    Nexts [.rings, .regs, .out] s (execAttentionEnableWrite fn block value s) := by
  unfold execAttentionEnableWrite
  exact (by split; exact (nexts (barWrite_touches _ _ _ rfl (Touches.refl _ _) (fun _ => (Touches.mono (writeFattnEn_touches _ _ _) rfl)))); exact (nexts (barWrite_touches _ _ _ rfl (Touches.refl _ _) (fun _ => (Touches.mono (writeStsEn_touches _ _) rfl)))); exact (nexts (barWrite_touches _ _ _ rfl (Touches.refl _ _) (fun _ => (Touches.mono (writeEvtEn_touches _ _) rfl)))); exact (nexts (barWrite_touches _ _ _ rfl (Touches.refl _ _) (fun _ => (Touches.mono (writePwrEn_touches _ _) rfl)))); exact (nexts (Touches.refl _ _)))

theorem execAutonomousRefresh_touches (pc : Nat) (s : State) :
    Nexts [.hbm, .out] s (execAutonomousRefresh pc s) := by
  unfold execAutonomousRefresh
  exact (nexts_ite (nexts (Touches.before (Touches.mono (emit_touches _ _) rfl) (Touches.mono (updPc_touches _ _ _) rfl))) (nexts (Touches.refl _ _)))

theorem execBarrierHold_touches (s : State) :
    Nexts [.clk, .parts, .layout, .layoutPend, .slots, .buf, .comp, .ctl, .hbm, .tiles, .rings, .regs, .logs, .win, .lat, .counters, .out] s (execBarrierHold s) := by
  unfold execBarrierHold
  exact (nexts_ite (nexts (Touches.mono (arriveTry_touches _) rfl)) (nexts_ite (nexts (Touches.before (Touches.mono (arriveTry_touches _) rfl) (Touches.mono (runTo_touches _ _) rfl))) (nexts (Touches.refl _ _))))

theorem execBarrierLoneRelease_touches (s : State) :
    Nexts [.clk, .parts, .layout, .layoutPend, .slots, .buf, .comp, .ctl, .hbm, .tiles, .rings, .regs, .logs, .win, .lat, .counters, .out] s (execBarrierLoneRelease s) := by
  unfold execBarrierLoneRelease
  dsimp only
  exact (nexts_ite (nexts (Touches.before (Touches.mono (lapse_touches _) rfl) (Touches.before (Touches.mono (releaseTick_touches _ _ _ _) rfl) (upd_lat rfl (Touches.refl _ _))))) (nexts (Touches.refl _ _)))

theorem execBarrierPolicy_touches (q : MciReq) (s : State) :
    Nexts [.rings, .regs, .fw, .lat, .out] s (execBarrierPolicy q s) := by
  unfold execBarrierPolicy
  dsimp only
  exact (nexts (mciFixed_touches _ _ _ _ _ _ _ rfl (Touches.refl _ _) (fun _ => (touches_ite (Touches.before (upd_lat rfl (Touches.refl _ _)) (Touches.mono (mciStatus_touches _ _ _ _) rfl)) (by split; exact (Touches.mono (mciStatus_touches _ _ _ _) rfl); exact (Touches.before (Touches.mono (sendCtrl_touches _ _ _) rfl) (Touches.mono (mciStatus_touches _ _ _ _) rfl)))))))

theorem execBarrierTimeout_touches (s : State) :
    Nexts [.rings, .regs, .logs, .lat, .counters, .out] s (execBarrierTimeout s) := by
  unfold execBarrierTimeout
  exact (nexts_ite (nexts (Touches.before (Touches.mono (notePartial_touches _ _) rfl) (Touches.mono (releaseBarrier_touches _ _) rfl))) (nexts (Touches.refl _ _)))

theorem execBeatDiscard_touches (router : Nat) (port : Nat) (s : State) :
    Nexts [.parts, .buf, .ctl, .counters] s (execBeatDiscard router port s) := by
  unfold execBeatDiscard
  dsimp only
  exact (by split; exact (nexts (Touches.refl _ _)); exact (nexts_ite (nexts_ite (nexts (Touches.mono (updPipe_touches _ _ _) rfl)) (nexts (Touches.before (Touches.mono (dataPathBreach_touches _ _ _) rfl) (Touches.before (upd_buf rfl (Touches.refl _ _)) (Touches.mono (updPipe_touches _ _ _) rfl))))) (nexts (Touches.refl _ _))))

theorem execBindEffect_touches (k : Nat) (s : State) :
    Nexts [.clk, .parts, .layout, .layoutPend, .slots, .buf, .comp, .ctl, .hbm, .tiles, .rings, .regs, .logs, .win, .lat, .counters, .out] s (execBindEffect k s) := by
  unfold execBindEffect
  exact (nexts_ite (nexts (Touches.mono (toBoundary_touches _) rfl)) (nexts (Touches.refl _ _)))

theorem execBondTrainingDone_touches (t : Nat) (cells : List CellTrain) (s : State) :
    Nexts [.clk, .parts, .layout, .layoutPend, .slots, .buf, .comp, .ctl, .fmap, .hbm, .tiles, .rings, .regs, .logs, .win, .lanes, .fw, .pm, .lat, .counters, .out] s (execBondTrainingDone t cells s) := by
  unfold execBondTrainingDone
  dsimp only
  exact (nexts_ite (nexts (Touches.refl _ _)) (nexts (Touches.before (touches_ite (Touches.mono (trainedTile_touches _ _) rfl) (Touches.refl _ _)) (Touches.before (Touches.mono (judgeBonds_touches _ _ _) rfl) (Touches.before (Touches.mono (updTile_touches _ _ _) rfl) (touches_ite (Touches.mono (runTo_touches _ _) rfl) (Touches.refl _ _)))))))

theorem execBootDone_touches (t : Nat) (rx : List SvcClock) (s : State) :
    Nexts [.fmap, .tiles, .rings, .regs, .logs, .fw, .pm, .lat, .counters, .out] s (execBootDone t rx s) := by
  unfold execBootDone
  exact (by split; exact (nexts (Touches.refl _ _)); exact (nexts_ite (nexts (Touches.mono (ackAgain_touches _ _ _ _ _) rfl)) (by split; exact (nexts (Touches.before (Touches.mono (sendAck_touches _ _ _) rfl) (Touches.mono (updTile_touches _ _ _) rfl))); exact (nexts (Touches.before (Touches.mono (failTile_touches _ _ _ _) rfl) (Touches.mono (sendAck_touches _ _ _) rfl))); exact (nexts (Touches.before (Touches.mono (failTile_touches _ _ _ _) rfl) (Touches.mono (sendAck_touches _ _ _) rfl))); exact (nexts (Touches.mono (sendAck_touches _ _ _) rfl)))))

theorem execBranchRead_touches (part : Nat) (s : State) :
    Nexts [.clk, .parts, .buf, .ctl, .tiles, .regs, .lat, .counters, .out] s (execBranchRead part s) := by
  unfold execBranchRead
  exact (nexts_ite (nexts (Touches.refl _ _)) (by split; exact (nexts (Touches.refl _ _)); exact (nexts (Touches.before (Touches.mono (branchNow_touches _ _ _ _) rfl) (Touches.mono (advance_touches _ _) rfl)))))

theorem execBufferScrub_touches (q : MciReq) (s : State) :
    Nexts [.buf, .rings, .regs, .fw, .out] s (execBufferScrub q s) := by
  unfold execBufferScrub
  dsimp only
  exact (nexts (mciFixed_touches _ _ _ _ _ _ _ rfl (Touches.refl _ _) (fun _ => (Touches.before (Touches.mono (mciStatus_touches _ _ _ _) rfl) (upd_buf rfl (Touches.refl _ _))))))

theorem execCacheAccess_touches (s : State) :
    Nexts [.hbm, .dense, .rings, .lat, .pool, .out, .free] s (execCacheAccess s) := by
  unfold execCacheAccess
  dsimp only
  exact (by split; exact (nexts (Touches.refl _ _)); exact (nexts (Touches.before (Touches.mono (denseServe_touches _ _) rfl) (upd_dense rfl (Touches.refl _ _)))))

theorem execCacheCleaner_touches (s : State) :
    Nexts [.hbm, .dense] s (execCacheCleaner s) := by
  unfold execCacheCleaner
  dsimp only
  exact (nexts_ite (nexts (upd_dense rfl (Touches.refl _ _))) (by split; exact (nexts (Touches.before (Touches.mono (startWrite_touches _ _ _) rfl) (upd_dense rfl (Touches.refl _ _)))); exact (nexts (upd_dense rfl (Touches.refl _ _)))))

theorem execCapture_touches (s : State) :
    Nexts [.clk, .regs, .out] s (execCapture s) := by
  unfold execCapture
  exact (nexts (barWrite_touches _ _ _ rfl (Touches.refl _ _) (fun _ => (Touches.mono (capture_touches _) rfl))))

theorem execClockCorrelate_touches (q : MciReq) (s : State) :
    Nexts [.rings, .regs, .fw, .out] s (execClockCorrelate q s) := by
  unfold execClockCorrelate
  exact (nexts (mciFixed_touches _ _ _ _ _ _ _ rfl (Touches.refl _ _) (fun _ => (Touches.mono (mciAnswer_touches _ _ _ _ _ _ _) rfl))))

theorem execClockLoss_touches (s : State) :
    Nexts [.clk, .pins, .boot, .parts, .layout, .layoutPend, .slots, .buf, .comp, .ctl, .fmap, .hbm, .dense, .tiles, .rings, .regs, .logs, .win, .lanes, .fw, .lat, .pool, .counters, .out] s (execClockLoss s) := by
  unfold execClockLoss
  exact (nexts_ite (nexts (Touches.mono (clockLossNow_touches _ _) rfl)) (nexts (Touches.refl _ _)))

theorem execCompare_touches (id : Nat) (fetched : List LineIn) (s : State) :
    Nexts [.ctl, .hbm, .regs, .logs, .lat, .pool, .counters, .out] s (execCompare id fetched s) := by
  unfold execCompare
  exact nexts (runData_touches _ _ _ _ rfl fun _ _ _ _ e => Touches.mono (compareLines_touches _ _ _ _ _ e) rfl)

theorem execCompressedRecordHandover_touches (port : Nat) (s : State) :
    Nexts [.clk, .parts, .layout, .layoutPend, .slots, .buf, .comp, .ctl, .hbm, .tiles, .rings, .regs, .logs, .win, .lat, .counters, .out] s (execCompressedRecordHandover port s) := by
  unfold execCompressedRecordHandover
  dsimp only
  exact (by split; exact (nexts_ite (nexts (Touches.refl _ _)) (nexts_ite (nexts (Touches.mono (toPartTick_touches _ _ _) rfl)) (nexts (Touches.before (Touches.mono (handOver_touches _ _ _) rfl) (Touches.before (Touches.mono (updComp_touches _ _ _ _) rfl) (Touches.mono (toPartTick_touches _ _ _) rfl)))))); exact (nexts (Touches.refl _ _)))

theorem execConfigurationRequest_touches (port : Nat) (fn : Nat) (clearVf : Bool) (setVf : Bool) (s : State) :
    Nexts [.clk, .boot, .parts, .layout, .layoutPend, .slots, .buf, .comp, .ctl, .hbm, .tiles, .rings, .regs, .logs, .win, .lat, .counters, .out] s (execConfigurationRequest port fn clearVf setVf s) := by
  unfold execConfigurationRequest
  dsimp only
  exact (nexts_ite (nexts (Touches.refl _ _)) (nexts_ite (nexts (Touches.mono (emit_touches _ _) rfl)) (nexts_ite (nexts (Touches.mono (emit_touches _ _) rfl)) (nexts_ite (nexts (Touches.mono (emit_touches _ _) rfl)) (nexts_ite (nexts (Touches.before (Touches.mono (clearVfWindows_touches _) rfl) (Touches.before (Touches.mono (flrAll_touches _ _) rfl) (Touches.before (upd_boot rfl (Touches.refl _ _)) (Touches.mono (emit_touches _ _) rfl))))) (nexts_ite (nexts (Touches.before (upd_boot rfl (Touches.refl _ _)) (Touches.mono (emit_touches _ _) rfl))) (nexts (Touches.mono (emit_touches _ _) rfl))))))))

theorem execConsentTimeout_touches (bundle : Nat) (s : State) :
    Nexts [.ctl, .lanes, .counters] s (execConsentTimeout bundle s) := by
  unfold execConsentTimeout
  dsimp only
  exact (nexts_ite (nexts (Touches.before (Touches.mono (sendEvent_touches _ _) rfl) (upd_lanes rfl (Touches.refl _ _)))) (nexts (Touches.refl _ _)))

theorem execControlPortCommit_touches (router : Nat) (s : State) :
    Nexts [.clk, .parts, .layout, .layoutPend, .slots, .buf, .comp, .ctl, .hbm, .tiles, .rings, .regs, .logs, .win, .lat, .counters, .out, .free] s (execControlPortCommit router s) := by
  unfold execControlPortCommit
  dsimp only
  exact (by split; exact (nexts (Touches.refl _ _)); exact (nexts_ite (nexts (Touches.refl _ _)) (by split; exact (nexts (Touches.before (Touches.mono (ctlAnswer_touches _ _ _ _ _ _) rfl) (Touches.before (Touches.mono (drawLine_touches _) rfl) (upd_buf rfl (Touches.refl _ _))))); exact (nexts (Touches.before (Touches.mono (commitAccess_touches _ _) rfl) (Touches.before (Touches.mono (toCommit_touches _ _ _) rfl) (upd_buf rfl (Touches.refl _ _))))))))

theorem execControlWordParityError_touches (node : Nat) (dir : Nat) (resend : Bool) (sIn : State) :
    Nexts [.ctl, .regs, .counters, .out] sIn (execControlWordParityError node dir resend sIn) := by
  unfold execControlWordParityError
  dsimp only
  exact (nexts_ite (nexts (Touches.refl _ _)) (nexts_ite (nexts (Touches.before (Touches.mono (killLink_touches _ _ _) rfl) (touches_ite (Touches.mono (injectDone_touches _) rfl) (Touches.refl _ _)))) (nexts (Touches.before (Touches.mono (emit_touches _ _) rfl) (Touches.before (upd_ctl rfl (Touches.refl _ _)) (touches_ite (Touches.mono (injectDone_touches _) rfl) (Touches.refl _ _)))))))

theorem execCopy_touches (id : Nat) (fetched : List LineIn) (s : State) :
    Nexts [.ctl, .hbm, .dense, .regs, .logs, .lat, .pool, .counters, .out] s (execCopy id fetched s) := by
  unfold execCopy
  exact nexts (runData_touches _ _ _ _ rfl fun _ _ _ _ e => Touches.mono (copyLines_touches _ _ _ _ _ e) rfl)

theorem execCoreReferenceStop_touches (s : State) :
    Nexts [.clk, .pins, .boot, .parts, .layout, .layoutPend, .slots, .buf, .comp, .ctl, .fmap, .hbm, .dense, .tiles, .rings, .regs, .logs, .win, .lanes, .fw, .pm, .lat, .pool, .counters, .out] s (execCoreReferenceStop s) := by
  unfold execCoreReferenceStop
  dsimp only
  exact (nexts_ite (nexts (Touches.refl _ _)) (nexts (Touches.before (upd_boot_pm rfl (Touches.refl _ _)) (Touches.before (Touches.mono (writeSetting_touches _ _) rfl) (Touches.before (touches_ite (Touches.mono (clockLossNow_touches _ _) rfl) (Touches.refl _ _)) (upd_clk rfl (Touches.refl _ _)))))))

theorem execCoreReferenceValid_touches (s : State) :
    Nexts [.clk, .pins, .boot] s (execCoreReferenceValid s) := by
  unfold execCoreReferenceValid
  dsimp only
  exact (nexts_ite (nexts (Touches.refl _ _)) (nexts (Touches.before (Touches.mono (settleAlert_touches _) rfl) (upd_clk rfl (Touches.refl _ _)))))

theorem execCorrectedWriteback_touches (pc : Nat) (s : State) :
    Nexts [.parts, .hbm, .out] s (execCorrectedWriteback pc s) := by
  unfold execCorrectedWriteback
  dsimp only
  exact (by split; exact (nexts (Touches.refl _ _)); exact (nexts_ite (nexts (Touches.refl _ _)) (nexts (by split; exact (Touches.before (upd_hbm rfl (Touches.refl _ _)) (Touches.before (Touches.mono (updPc_touches _ _ _) rfl) (Touches.before (Touches.mono (moveRows_touches _ _) rfl) (Touches.mono (wakeStack_touches _ _) rfl)))); exact (Touches.before (upd_hbm rfl (Touches.refl _ _)) (Touches.before (Touches.mono (updPc_touches _ _ _) rfl) (Touches.before (Touches.mono (moveRows_touches _ _) rfl) (Touches.mono (wakeStack_touches _ _) rfl)))); exact (Touches.before (Touches.mono (updPc_touches _ _ _) rfl) (Touches.before (Touches.mono (moveRows_touches _ _) rfl) (Touches.mono (wakeStack_touches _ _) rfl)))))))

theorem execCounterClear_touches (q : MciReq) (s : State) :
    Nexts [.buf, .hbm, .rings, .regs, .logs, .fw, .counters, .out] s (execCounterClear q s) := by
  unfold execCounterClear
  dsimp only
  exact (nexts (mciFixed_touches _ _ _ _ _ _ _ rfl (Touches.refl _ _) (fun _ => (Touches.before (Touches.mono (mciStatus_touches _ _ _ _) rfl) (touches_ite (touches_foldl (Touches.refl _ _) (fun _ _ => (Touches.mono (clearCounter_touches _ _ _) rfl))) (Touches.mono (clearCounter_touches _ _ _) rfl))))))

theorem execCounterLowRead_touches (fn : Nat) (offset : Nat) (size : Nat) (s : State) :
    Nexts [.rings, .regs, .out] s (execCounterLowRead fn offset size s) := by
  unfold execCounterLowRead
  dsimp only
  exact (nexts_ite (nexts (Touches.mono (emit_touches _ _) rfl)) (nexts (Touches.before (Touches.mono (emit_touches _ _) rfl) (Touches.mono (readReg_touches _ _ _ _) rfl))))

theorem execCounterRead_touches (q : MciReq) (s : State) :
    Nexts [.ctl, .rings, .regs, .win, .fw, .counters, .out] s (execCounterRead q s) := by
  unfold execCounterRead
  dsimp only
  exact (nexts (mciFixed_touches _ _ _ _ _ _ _ rfl (Touches.refl _ _) (fun _ => (touches_ite (Touches.before (Touches.mono (mciStatus_touches _ _ _ _) rfl) (Touches.mono (violation_touches _ _ _) rfl)) (Touches.before (Touches.mono (mciAnswer_touches _ _ _ _ _ _ _) rfl) (touches_ite (Touches.mono (updRing_touches _ _ _ _) rfl) (Touches.refl _ _)))))))

theorem execCqHeadDoorbell_touches (fn : Nat) (ring : Nat) (value : BitVec 32) (s : State) :
    Nexts [.ctl, .rings, .counters, .out] s (execCqHeadDoorbell fn ring value s) := by
  unfold execCqHeadDoorbell
  exact (nexts (barWrite_touches _ _ _ rfl (Touches.refl _ _) (fun _ => (Touches.mono (cqDoorbell_touches _ _ _ _) rfl))))

theorem execCrumb_touches (s : State) :
    Nexts [.clk, .parts, .layout, .layoutPend, .slots, .buf, .comp, .ctl, .hbm, .tiles, .rings, .regs, .logs, .win, .lat, .counters, .out] s (execCrumb s) := by
  unfold execCrumb
  dsimp only
  exact (nexts_ite (nexts (Touches.before (touches_ite (Touches.mono (passCrumb_touches _) rfl) (Touches.refl _ _)) (Touches.before (touches_ite (Touches.refl _ _) (Touches.mono (fillRun_touches _) rfl)) (Touches.mono (fillRun_touches _) rfl)))) (nexts (Touches.refl _ _)))

theorem execCxlMemRead_touches (pbr : Nat) (tag : Nat) (region : Option Nat) (off : Nat) (s : State) :
    Nexts [.ctl, .hbm, .dense, .win, .lat, .pool, .counters, .out] s (execCxlMemRead pbr tag region off s) := by
  unfold execCxlMemRead
  exact (nexts (touches_ite (Touches.mono (hostRead_touches _ _ _ _ _) rfl) (Touches.refl _ _)))

theorem execCxlMemWrite_touches (pbr : Nat) (tag : Nat) (region : Option Nat) (off : Nat) (data : LineData) (poison : Bool) (s : State) :
    Nexts [.ctl, .hbm, .dense, .win, .lat, .pool, .counters, .out] s (execCxlMemWrite pbr tag region off data poison s) := by
  unfold execCxlMemWrite
  exact (nexts (touches_ite (Touches.mono (memWrite_touches _ _ _ _ _ _ _) rfl) (Touches.refl _ _)))

theorem execDbgInject_touches (value : BitVec 32) (s : State) :
    Nexts [.regs, .out] s (execDbgInject value s) := by
  unfold execDbgInject
  exact (nexts (barWrite_touches _ _ _ rfl (Touches.refl _ _) (fun _ => (Touches.mono (writeInject_touches _ _) rfl))))

theorem execDenseAttach_touches (q : MciReq) (found : List DriveIn) (s : State) :
    Nexts [.ctl, .hbm, .dense, .rings, .regs, .win, .fw, .pool, .counters, .out] s (execDenseAttach q found s) := by
  unfold execDenseAttach
  dsimp only
  exact (nexts (mciFixed_touches _ _ _ _ _ _ _ rfl (Touches.refl _ _) (fun _ => (touches_ite (Touches.mono (mciStatus_touches _ _ _ _) rfl) (Touches.before (Touches.mono (denseGo_touches _) rfl) (Touches.before (upd_dense rfl (Touches.refl _ _)) (Touches.mono (mciHold_touches _ _ _) rfl)))))))

theorem execDenseFlush_touches (q : MciReq) (s : State) :
    Nexts [.ctl, .hbm, .dense, .rings, .regs, .win, .fw, .pool, .counters, .out] s (execDenseFlush q s) := by
  unfold execDenseFlush
  dsimp only
  exact (nexts (mciFixed_touches _ _ _ _ _ _ _ rfl (Touches.refl _ _) (fun _ => (touches_ite (Touches.before (Touches.mono (mciStatus_touches _ _ _ _) rfl) (Touches.mono (violation_touches _ _ _) rfl)) (touches_ite (Touches.mono (mciStatus_touches _ _ _ _) rfl) (Touches.before (Touches.mono (denseGo_touches _) rfl) (Touches.before (upd_dense rfl (Touches.refl _ _)) (Touches.mono (mciHold_touches _ _ _) rfl))))))))

theorem execDenseQuery_touches (q : MciReq) (s : State) :
    Nexts [.rings, .regs, .fw, .out] s (execDenseQuery q s) := by
  unfold execDenseQuery
  exact (nexts (mciFixed_touches _ _ _ _ _ _ _ rfl (Touches.refl _ _) (fun _ => (Touches.mono (mciQuery_touches _ _ _ _) rfl))))

theorem execDenseRequestTimeout_touches (s : State) :
    Nexts [.ctl, .hbm, .dense, .rings, .regs, .fw, .lat, .pool, .counters, .out, .free] s (execDenseRequestTimeout s) := by
  unfold execDenseRequestTimeout
  dsimp only
  exact (by split; exact (nexts (Touches.refl _ _)); exact (nexts_ite (nexts (Touches.refl _ _)) (nexts (Touches.before (Touches.mono (denseGo_touches _) rfl) (Touches.before (Touches.mono (failReq_touches _ _) rfl) (Touches.before (Touches.mono (dropJobs_touches _ _) rfl) (upd_dense rfl (Touches.refl _ _))))))))

theorem execDescriptorBeat_touches (router : Nat) (s : State) :
    Nexts [.comp, .ctl, .lat, .counters] s (execDescriptorBeat router s) := by
  unfold execDescriptorBeat
  dsimp only
  exact (by split; exact (by split; exact (nexts (Touches.refl _ _)); exact (nexts_ite (nexts (Touches.refl _ _)) (nexts_ite (nexts (Touches.before (touches_ite (Touches.mono (enterBeat_touches _ _ _ _ _) rfl) (Touches.refl _ _)) (touches_ite (Touches.refl _ _) (Touches.mono (openDue_touches _ _ _ _) rfl)))) (nexts (Touches.before (touches_ite (Touches.refl _ _) (Touches.mono (updComp_touches _ _ _ _) rfl)) (touches_ite (Touches.refl _ _) (Touches.mono (openDue_touches _ _ _ _) rfl))))))); exact (nexts (Touches.refl _ _)))

theorem execDeviceReady_touches (found : List DriveIn) (s : State) :
    Nexts [.boot, .dense, .rings, .regs, .logs, .fw, .pm, .lat, .counters, .out] s (execDeviceReady found s) := by
  unfold execDeviceReady
  dsimp only
  exact (nexts_ite (nexts (Touches.before (touches_ite (Touches.mono (emit_touches _ _) rfl) (Touches.refl _ _)) (upd_boot rfl (Touches.refl _ _)))) (nexts_ite (nexts (Touches.refl _ _)) (nexts (Touches.before (Touches.mono (evaluateRequests_touches _) rfl) (Touches.before (Touches.mono (rejoinGroup_touches _) rfl) (Touches.before (Touches.mono (reattach_touches _ _) rfl) (Touches.before (Touches.mono (emitAll_touches _ _) rfl) (Touches.before (Touches.mono (stepDone_touches _ _) rfl) (Touches.before (Touches.mono (applyStored_touches _) rfl) (upd_boot_dense_fw rfl (Touches.refl _ _)))))))))))

theorem execDiscoveryAck_touches (t : Nat) (rx : List SvcClock) (s : State) :
    Nexts [.fmap, .tiles, .rings, .regs, .logs, .fw, .pm, .lat, .counters, .out] s (execDiscoveryAck t rx s) := by
  unfold execDiscoveryAck
  dsimp only
  exact (by split; exact (nexts (Touches.refl _ _)); exact (nexts_ite (nexts (touches_ite (Touches.mono (lanesAcked_touches _ _) rfl) (Touches.refl _ _))) (nexts_ite (nexts (Touches.refl _ _)) (by split; exact (nexts_ite (nexts (Touches.before (Touches.mono (sendBoot_touches _ _ _) rfl) (Touches.mono (updTile_touches _ _ _) rfl))) (nexts (Touches.mono (updTile_touches _ _ _) rfl))); exact (nexts (Touches.mono (tileReady_touches _ _) rfl)); exact (nexts (Touches.refl _ _))))))

theorem execDiscoveryTimeout_touches (t : Nat) (s : State) :
    Nexts [.fmap, .tiles, .rings, .regs, .logs, .lanes, .fw, .pm, .lat, .counters, .out] s (execDiscoveryTimeout t s) := by
  unfold execDiscoveryTimeout
  dsimp only
  exact (nexts_ite (nexts (Touches.refl _ _)) (nexts_ite (nexts (Touches.mono (trainedTile_touches _ _) rfl)) (nexts_ite (nexts (Touches.refl _ _)) (nexts_ite (nexts (Touches.before (Touches.mono (repeatStep_touches _ _) rfl) (Touches.mono (updTile_touches _ _ _) rfl))) (nexts (Touches.mono (failTile_touches _ _ _ _) rfl))))))

theorem execDispatch_touches (e : EvRef) (s : State) :
    Nexts [.clk, .parts, .buf, .ctl, .tiles, .regs, .lat, .counters, .out] s (execDispatch e s) := by
  unfold execDispatch
  dsimp only
  exact (atEvent_touches _ _ _ _ rfl (fun _ _ => (by split; exact (Touches.refl _ _); exact (Touches.before (Touches.mono (addDue_touches _ _ _) rfl) (Touches.mono (sendDispatch_touches _ _ _) rfl)))))

theorem execDispatchResultWrite_touches (router : Nat) (up : List GroupTick) (s : State) :
    Nexts [.clk, .parts, .buf, .ctl, .tiles, .regs, .lat, .counters, .out] s (execDispatchResultWrite router up s) := by
  unfold execDispatchResultWrite
  dsimp only
  exact (by split; exact (nexts (Touches.refl _ _)); exact (by split; exact (nexts (Touches.refl _ _)); exact (nexts_ite (nexts (Touches.refl _ _)) (nexts_ite (nexts (Touches.before (Touches.mono (noteWrite_touches _ _ _ _ _ _ _) rfl) (Touches.before (Touches.mono (socketStall_touches _ _ _) rfl) (Touches.before (Touches.mono (dropDue_touches _ _ _) rfl) (Touches.mono (advance_touches _ _) rfl))))) (nexts (Touches.before (Touches.mono (noteLine_touches _ _ _ _) rfl) (Touches.before (Touches.mono (schedWrite_touches _ _ _ _ _) rfl) (Touches.before (touches_ite (Touches.refl _ _) (Touches.mono (dataPathBreach_touches _ _ _) rfl)) (Touches.before (Touches.mono (dropDue_touches _ _ _) rfl) (Touches.mono (advance_touches _ _) rfl))))))))))

theorem execDriveCommandAbort_touches (drive : Nat) (cmd : Nat) (block : Nat) (s : State) :
    Nexts [.ctl, .hbm, .dense, .rings, .regs, .fw, .lat, .pool, .counters, .out, .free] s (execDriveCommandAbort drive cmd block s) := by
  unfold execDriveCommandAbort
  dsimp only
  exact (by split; exact (nexts (Touches.refl _ _)); exact (nexts (Touches.before (Touches.mono (denseGo_touches _) rfl) (Touches.before (Touches.mono (noteAbort_touches _ _) rfl) (by split; exact (Touches.before (Touches.mono (readAborted_touches _ _) rfl) (Touches.before (Touches.mono (driveEnds_touches _ _ _) rfl) (Touches.mono (emit_touches _ _) rfl))); exact (Touches.before (Touches.mono (writeAborted_touches _ _) rfl) (Touches.before (Touches.mono (driveEnds_touches _ _ _) rfl) (Touches.mono (emit_touches _ _) rfl))); exact (Touches.before (Touches.mono (flushAborted_touches _ _) rfl) (Touches.before (Touches.mono (driveEnds_touches _ _ _) rfl) (Touches.mono (emit_touches _ _) rfl))))))))

theorem execDriveCommandComplete_touches (drive : Nat) (cmd : Nat) (block : Nat) (data : Nat) (error : Bool) (s : State) :
    Nexts [.ctl, .hbm, .dense, .rings, .regs, .fw, .lat, .pool, .counters, .out, .free] s (execDriveCommandComplete drive cmd block data error s) := by
  unfold execDriveCommandComplete
  dsimp only
  exact (by split; exact (nexts (Touches.refl _ _)); exact (nexts (Touches.before (Touches.mono (denseGo_touches _) rfl) (by split; exact (Touches.before (Touches.mono (filled_touches _ _ _ _) rfl) (Touches.mono (driveEnds_touches _ _ _) rfl)); exact (Touches.before (Touches.mono (victimGone_touches _ _) rfl) (Touches.before (Touches.mono (wroteLine_touches _ _) rfl) (Touches.before (Touches.mono (flushWrote_touches _ _) rfl) (Touches.before (upd_dense rfl (Touches.refl _ _)) (Touches.mono (driveEnds_touches _ _ _) rfl))))); exact (Touches.before (upd_dense rfl (Touches.refl _ _)) (Touches.mono (driveEnds_touches _ _ _) rfl))))))

theorem execDriveFailed_touches (drive : Nat) (s : State) :
    Nexts [.ctl, .hbm, .dense, .rings, .regs, .fw, .lat, .pool, .counters, .out, .free] s (execDriveFailed drive s) := by
  unfold execDriveFailed
  exact (nexts_ite (nexts (Touches.mono (failDrive_touches _ _) rfl)) (nexts (Touches.refl _ _)))

theorem execDrivePresenceLoss_touches (drive : Nat) (s : State) :
    Nexts [.pins, .ctl, .hbm, .dense, .rings, .regs, .fw, .lat, .pool, .counters, .out, .free] s (execDrivePresenceLoss drive s) := by
  unfold execDrivePresenceLoss
  dsimp only
  exact (nexts_ite (nexts (Touches.refl _ _)) (nexts_ite (nexts (Touches.before (Touches.mono (failDrive_touches _ _) rfl) (upd_pins rfl (Touches.refl _ _)))) (nexts (upd_pins rfl (Touches.refl _ _)))))

theorem execDynamicAddressAssignment_touches (addr : BitVec 7) (s : State) :
    Nexts [.pins] s (execDynamicAddressAssignment addr s) := by
  unfold execDynamicAddressAssignment
  dsimp only
  exact (nexts_ite (nexts (upd_pins rfl (Touches.refl _ _))) (nexts (Touches.refl _ _)))

theorem execElasticOverflow_touches (buffer : Nat) (fill : Nat) (s : State) :
    Nexts [.clk, .lat, .counters] s (execElasticOverflow buffer fill s) := by
  unfold execElasticOverflow
  dsimp only
  exact (nexts_ite (nexts (Touches.refl _ _)) (nexts (by split; exact (Touches.before (touches_ite (Touches.mono (retrainPort_touches _ _) rfl) (Touches.refl _ _)) (upd_clk rfl (Touches.refl _ _))); exact (upd_clk rfl (Touches.refl _ _)))))

theorem execErrlogClear_touches (q : MciReq) (s : State) :
    Nexts [.rings, .regs, .logs, .fw, .out] s (execErrlogClear q s) := by
  unfold execErrlogClear
  exact (nexts (Touches.mono (errlogCommand_touches _ _) rfl))

theorem execErrlogRead_touches (q : MciReq) (s : State) :
    Nexts [.rings, .regs, .logs, .fw, .out] s (execErrlogRead q s) := by
  unfold execErrlogRead
  exact (nexts (Touches.mono (errlogCommand_touches _ _) rfl))

theorem execErrlogSummaryWrite_touches (s : State) :
    Nexts [.logs] s (execErrlogSummaryWrite s) := by
  unfold execErrlogSummaryWrite
  exact (nexts_ite (nexts (Touches.mono (writeSummary_touches _) rfl)) (nexts (Touches.refl _ _)))

theorem execEventLink_touches (e : EvRef) (noise : List LinkNoise) (s : State) :
    Nexts [.clk, .parts, .buf, .ctl, .tiles, .regs, .lat, .counters, .out] s (execEventLink e noise s) := by
  unfold execEventLink
  dsimp only
  exact (atEvent_touches _ _ _ _ rfl (fun _ _ => (Touches.before (Touches.mono (emitAll_touches _ _) rfl) (Touches.before (Touches.mono (updPipe_touches _ _ _) rfl) (Touches.mono (takeInput_touches _ _ _ _ _ _ _) rfl)))))

theorem execEventPacket_touches (p : Option PktIn) (s : State) :
    Nexts [.ctl, .rings, .regs, .logs, .counters, .out] s (execEventPacket p s) := by
  unfold execEventPacket
  dsimp only
  exact (by split; exact (nexts (Touches.refl _ _)); exact (nexts (Touches.before (Touches.mono (writePacket_touches _ _) rfl) (Touches.before (touches_ite (Touches.mono (drainQueue_touches _ _ _) rfl) (Touches.refl _ _)) (upd_ctl rfl (Touches.refl _ _))))))

theorem execEventRead_touches (q : MciReq) (s : State) :
    Nexts [.rings, .regs, .logs, .fw, .out] s (execEventRead q s) := by
  unfold execEventRead
  dsimp only
  exact (nexts (mciFixed_touches _ _ _ _ _ _ _ rfl (Touches.refl _ _) (fun _ => (Touches.before (Touches.mono (mciAnswer_touches _ _ _ _ _ _ _) rfl) (touches_ite (Touches.refl _ _) (upd_logs rfl (Touches.refl _ _)))))))

theorem execEvtAckWrite_touches (value : BitVec 64) (s : State) :
    Nexts [.logs, .out] s (execEvtAckWrite value s) := by
  unfold execEvtAckWrite
  exact (nexts (barWrite_touches _ _ _ rfl (Touches.refl _ _) (fun _ => (Touches.mono (writeAck_touches _ _) rfl))))

theorem execFaultMapMerge_touches (s : State) :
    Nexts [.boot, .parts, .slots, .comp, .fmap, .hbm, .tiles, .rings, .regs, .logs, .lanes, .fw, .pm, .lat, .counters, .out] s (execFaultMapMerge s) := by
  unfold execFaultMapMerge
  exact (nexts_ite (nexts (Touches.refl _ _)) (nexts_ite (nexts_ite (nexts (Touches.mono (startMerge_touches _) rfl)) (nexts (Touches.refl _ _))) (nexts (Touches.mono (mergeFaultMap_touches _) rfl))))

theorem execFaultMapQuery_touches (q : MciReq) (s : State) :
    Nexts [.rings, .regs, .fw, .out] s (execFaultMapQuery q s) := by
  unfold execFaultMapQuery
  dsimp only
  exact (nexts (mciFixed_touches _ _ _ _ _ _ _ rfl (Touches.refl _ _) (fun _ => (Touches.mono (mciAnswer_touches _ _ _ _ _ _ _) rfl))))

theorem execFaultPacket_touches (p : Option PktIn) (s : State) :
    Nexts [.ctl, .rings, .regs, .logs, .counters, .out] s (execFaultPacket p s) := by
  unfold execFaultPacket
  dsimp only
  exact (by split; exact (nexts (Touches.refl _ _)); exact (nexts (Touches.before (Touches.mono (reportLost_touches _) rfl) (Touches.before (Touches.mono (writePacket_touches _ _) rfl) (upd_ctl rfl (Touches.refl _ _))))))

theorem execFill_touches (id : Nat) (fetched : List LineIn) (s : State) :
    Nexts [.hbm, .dense, .lat, .pool, .out] s (execFill id fetched s) := by
  unfold execFill
  exact nexts (runData_touches _ _ _ _ rfl fun _ _ _ _ e => Touches.mono (fillLines_touches _ _ _ _ _ e) rfl)

theorem execFirstBarrierTimer_touches (s : State) :
    Nexts [.lat, .out] s (execFirstBarrierTimer s) := by
  unfold execFirstBarrierTimer
  dsimp only
  exact (nexts_ite (nexts (Touches.mono (releaseBarrier_touches _ _) rfl)) (nexts (Touches.refl _ _)))

theorem execFlitCrcFailure_touches (port : Nat) (uncorrectable : Bool) (s : State) :
    Nexts [.counters] s (execFlitCrcFailure port uncorrectable s) := by
  unfold execFlitCrcFailure
  dsimp only
  exact (nexts_ite (nexts (Touches.refl _ _)) (nexts (Touches.before (touches_ite (Touches.mono (countUp_touches _ _ _) rfl) (Touches.refl _ _)) (Touches.mono (countUp_touches _ _ _) rfl))))

theorem execFlitSlot_touches (port : Nat) (s : State) :
    Nexts [.lat, .counters, .out] s (execFlitSlot port s) := by
  unfold execFlitSlot
  exact (nexts_ite (nexts (Touches.mono (fillSlot_touches _ _) rfl)) (nexts (Touches.refl _ _)))

theorem execFlush_touches (id : Nat) (s : State) :
    Nexts [.ctl, .hbm, .dense, .rings, .regs, .fw, .lat, .pool, .counters, .out] s (execFlush id s) := by
  unfold execFlush
  exact (nexts (Touches.mono (runToken_touches _ _ _) rfl))

theorem execFlushEffect_touches (fn : Nat) (ring : Nat) (rest : Nat) (s : State) :
    Nexts [.rings, .out] s (execFlushEffect fn ring rest s) := by
  unfold execFlushEffect
  exact (nexts (Touches.before (Touches.mono (writeMarks_touches _ _ _ _) rfl) (Touches.mono (settleFlush_touches _ _ _) rfl)))

theorem execFlushRequest_touches (fn : Nat) (ring : Nat) (s : State) :
    Nexts [.rings, .out] s (execFlushRequest fn ring s) := by
  unfold execFlushRequest
  exact (nexts (barWrite_touches _ _ _ rfl (Touches.refl _ _) (fun _ => (Touches.mono (flushRequest_touches _ _ _) rfl))))

theorem execFlushTokenComplete_touches (region : Nat) (s : State) :
    Nexts [.lat, .pool, .out] s (execFlushTokenComplete region s) := by
  unfold execFlushTokenComplete
  exact (nexts (touches_ite (Touches.mono (completeToken_touches _ _ _) rfl) (Touches.refl _ _)))

theorem execFlushTokenTimeout_touches (region : Nat) (s : State) :
    Nexts [.lat, .pool, .out] s (execFlushTokenTimeout region s) := by
  unfold execFlushTokenTimeout
  exact (by split; exact (nexts (Touches.refl _ _)); exact (nexts (touches_ite (Touches.mono (completeToken_touches _ _ _) rfl) (Touches.refl _ _))))

theorem execFoldStep_touches (e : EvRef) (s : State) :
    Nexts [.clk, .parts, .buf, .ctl, .tiles, .regs, .lat, .counters, .out] s (execFoldStep e s) := by
  unfold execFoldStep
  dsimp only
  exact (atEvent_touches _ _ _ _ rfl (fun _ _ => (by split; exact (Touches.refl _ _); exact (by split; exact (Touches.refl _ _); exact (Touches.before (Touches.mono (addDue_touches _ _ _) rfl) (Touches.before (Touches.mono (foldOperand_touches _ _ _ _ _ _ _) rfl) (Touches.mono (foldOperand_touches _ _ _ _ _ _ _) rfl)))))))

theorem execFrameBoundary_touches (s : State) :
    Nexts [.clk, .parts, .layout, .layoutPend, .slots, .buf, .comp, .ctl, .hbm, .tiles, .rings, .regs, .logs, .win, .lat, .counters, .out] s (execFrameBoundary s) := by
  unfold execFrameBoundary
  exact (nexts_ite (nexts (Touches.mono (toBoundary_touches _) rfl)) (nexts (Touches.refl _ _)))

theorem execFrameBudgetExhausted_touches (part : Nat) (s : State) :
    Nexts [.clk, .parts, .layout, .layoutPend, .slots, .buf, .comp, .ctl, .hbm, .tiles, .rings, .regs, .logs, .win, .lat, .counters, .out] s (execFrameBudgetExhausted part s) := by
  unfold execFrameBudgetExhausted
  exact (nexts_ite (nexts (Touches.mono (toBoundary_touches _) rfl)) (nexts (Touches.refl _ _)))

theorem execFunctionLevelReset_touches (fn : Nat) (s : State) :
    Nexts [.boot, .parts, .rings, .regs] s (execFunctionLevelReset fn s) := by
  unfold execFunctionLevelReset
  dsimp only
  exact (nexts_ite (nexts (Touches.before (Touches.mono (flrAll_touches _ _) rfl) (upd_boot rfl (Touches.refl _ _)))) (nexts (Touches.mono (flrOne_touches _ _) rfl)))

theorem execFwActivate_touches (q : MciReq) (s : State) :
    Nexts [.boot, .slots, .rings, .regs, .logs, .win, .fw, .counters, .out] s (execFwActivate q s) := by
  unfold execFwActivate
  dsimp only
  exact (nexts (mciFixed_touches _ _ _ _ _ _ _ rfl (Touches.refl _ _) (fun _ => (touches_ite (Touches.mono (mciStatus_touches _ _ _ _) rfl) (Touches.before (touches_ite (Touches.refl _ _) (touches_ite (upd_boot rfl (Touches.refl _ _)) (Touches.before (Touches.mono (mpOnlyReset_touches _ _) rfl) (upd_fw rfl (Touches.refl _ _))))) (Touches.before (Touches.mono (mciStatus_touches _ _ _ _) rfl) (Touches.mono (fwActivate_touches _ _) rfl)))))))

theorem execFwCommit_touches (q : MciReq) (s : State) :
    Nexts [.rings, .regs, .fw, .out] s (execFwCommit q s) := by
  unfold execFwCommit
  dsimp only
  exact (nexts (mciFixed_touches _ _ _ _ _ _ _ rfl (Touches.refl _ _) (fun _ => (touches_ite (Touches.mono (mciStatus_touches _ _ _ _) rfl) (Touches.before (Touches.mono (mciStatus_touches _ _ _ _) rfl) (Touches.before (touches_ite (Touches.mono (raiseMinimums_touches _ _) rfl) (Touches.refl _ _)) (Touches.before (Touches.mono (bootRecord_touches _ _ _ _) rfl) (Touches.mono (fwSetState_touches _ _ _) rfl))))))))

theorem execFwInfo_touches (q : MciReq) (s : State) :
    Nexts [.rings, .regs, .fw, .out] s (execFwInfo q s) := by
  unfold execFwInfo
  exact (nexts (mciFixed_touches _ _ _ _ _ _ _ rfl (Touches.refl _ _) (fun _ => (Touches.mono (mciQuery_touches _ _ _ _) rfl))))

theorem execFwVerify_touches (q : MciReq) (s : State) :
    Nexts [.rings, .regs, .logs, .fw, .counters, .out] s (execFwVerify q s) := by
  unfold execFwVerify
  dsimp only
  exact (nexts (mciFixed_touches _ _ _ _ _ _ _ rfl (Touches.refl _ _) (fun _ => (touches_ite (Touches.mono (mciStatus_touches _ _ _ _) rfl) (by split; exact (Touches.before (Touches.mono (mciStatus_touches _ _ _ _) rfl) (Touches.mono (fwSetState_touches _ _ _) rfl)); exact (Touches.before (Touches.mono (mciAnswer_touches _ _ _ _ _ _ _) rfl) (Touches.before (Touches.mono (mpEvent_touches _ _ _ _ _) rfl) (Touches.mono (fwSetState_touches _ _ _) rfl))))))))

theorem execFwWrite_touches (q : MciReq) (data : Nat) (s : State) :
    Nexts [.rings, .regs, .fw, .out] s (execFwWrite q data s) := by
  unfold execFwWrite
  dsimp only
  exact (nexts (mciRun_touches _ _ _ _ _ _ rfl (Touches.refl _ _) (fun _ => (Touches.mono (fwWrite_touches _ _ _ _ _ _ _) rfl))))

theorem execGather_touches (e : EvRef) (s : State) :
    Nexts [.clk, .parts, .buf, .ctl, .tiles, .regs, .lat, .counters, .out] s (execGather e s) := by
  unfold execGather
  dsimp only
  exact (atEvent_touches _ _ _ _ rfl (fun _ _ => (by split; exact (Touches.refl _ _); exact (by split; exact (Touches.before (Touches.mono (readInto_touches _ _ _ _ _ _ _) rfl) (Touches.mono (useEntry_touches _ _ _ _) rfl)); exact (Touches.before (Touches.mono (updPart_touches _ _ _) rfl) (Touches.mono (useEntry_touches _ _ _ _) rfl))))))

theorem execHbmAssign_touches (q : MciReq) (s : State) :
    Nexts [.ctl, .hbm, .dense, .rings, .regs, .win, .fw, .pool, .counters, .out] s (execHbmAssign q s) := by
  unfold execHbmAssign
  dsimp only
  exact (nexts (mciFixed_touches _ _ _ _ _ _ _ rfl (Touches.refl _ _) (fun _ => (touches_ite (Touches.mono (mciStatus_touches _ _ _ _) rfl) (touches_ite (Touches.before (Touches.mono (denseGo_touches _) rfl) (Touches.before (upd_dense rfl (Touches.refl _ _)) (Touches.mono (mciHold_touches _ _ _) rfl))) (Touches.before (Touches.mono (mciStatus_touches _ _ _ _) rfl) (Touches.mono (assignRoles_touches _ _) rfl)))))))

end Sys2Proof.Machine
end

