-- ==== Sys2Proof/Laws/Frames7.lean ====
section
/-! SUPPORT. What the commands leave alone, part 7: one lemma each, from execHbmQuery to execPwrbrkDeassert. -/

namespace Sys2Proof.Machine

theorem execHbmQuery_touches (q : MciReq) (s : State) :
    Nexts [.rings, .regs, .fw, .out] s (execHbmQuery q s) := by
  unfold execHbmQuery
  exact (nexts (mciFixed_touches _ _ _ _ _ _ _ rfl (Touches.refl _ _) (fun _ => (Touches.mono (mciQuery_touches _ _ _ _) rfl))))

theorem execHbmSoftRepair_touches (pc : Nat) (row : Nat) (resource : Bool) (s : State) :
    Nexts [.ctl, .hbm, .counters] s (execHbmSoftRepair pc row resource s) := by
  unfold execHbmSoftRepair
  dsimp only
  exact (nexts_ite (nexts (Touches.refl _ _)) (nexts_ite (nexts (Touches.before (Touches.mono (sendEvent_touches _ _) rfl) (Touches.before (upd_hbm rfl (Touches.refl _ _)) (Touches.mono (updPc_touches _ _ _) rfl)))) (nexts (Touches.before (Touches.mono (sendEvent_touches _ _) rfl) (Touches.before (Touches.mono (sendEvent_touches _ _) rfl) (Touches.mono (updPc_touches _ _ _) rfl))))))

theorem execHbmTempSample_touches (stack : Nat) (raw : BitVec 16) (s : State) :
    Nexts [.parts, .ctl, .hbm, .pm, .counters] s (execHbmTempSample stack raw s) := by
  unfold execHbmTempSample
  dsimp only
  exact (nexts_ite (nexts (Touches.refl _ _)) (nexts (Touches.before (Touches.mono (denyFrames_touches _) rfl) (Touches.before (Touches.mono (updStack_touches _ _ _) rfl) (Touches.mono (judgeSample_touches _ _ _) rfl)))))

theorem execHbmTraining_touches (stack : Nat) (good : Bool) (channels : List ChannelTrain) (s : State) :
    Nexts [.boot, .ctl, .fmap, .hbm, .rings, .regs, .logs, .lanes, .counters, .out] s (execHbmTraining stack good channels s) := by
  unfold execHbmTraining
  dsimp only
  exact (nexts_ite (nexts (Touches.refl _ _)) (nexts (Touches.before (touches_ite (Touches.mono (stepDone_touches _ _) rfl) (Touches.refl _ _)) (Touches.before (Touches.mono (updPcs_touches _ _ _) rfl) (touches_ite (Touches.before (touches_foldl (Touches.refl _ _) (fun _ _ => (Touches.mono (repairChannel_touches _ _ _) rfl))) (Touches.before (Touches.mono (zeroTags_touches _ _) rfl) (Touches.mono (updStack_touches _ _ _) rfl))) (Touches.before (Touches.mono (mpEvent_touches _ _ _ _ _) rfl) (Touches.before (Touches.mono (deadenPcs_touches _ _) rfl) (Touches.mono (updStack_touches _ _ _) rfl))))))))

theorem execHelloRetry_touches (t : Nat) (s : State) :
    Nexts [.fmap, .tiles, .rings, .regs, .logs, .fw, .pm, .lat, .counters, .out] s (execHelloRetry t s) := by
  unfold execHelloRetry
  dsimp only
  exact (nexts_ite (nexts (Touches.refl _ _)) (nexts_ite (nexts (Touches.before (Touches.mono (sendTile_touches _ _ _ _ _ _) rfl) (Touches.mono (updTile_touches _ _ _) rfl))) (nexts_ite (nexts (Touches.refl _ _)) (nexts_ite (nexts (Touches.mono (failTile_touches _ _ _ _) rfl)) (nexts (Touches.before (Touches.mono (sendTile_touches _ _ _ _ _ _) rfl) (Touches.mono (updTile_touches _ _ _) rfl)))))))

theorem execHostReadData_touches (k : Nat) (frame : Nat) (recIdx : Nat) (beat : Nat) (data : LineData) (failed : Bool) (s : State) :
    Nexts [.parts] s (execHostReadData k frame recIdx beat data failed s) := by
  unfold execHostReadData
  exact (nexts (Touches.mono (updRun_touches _ _ _) rfl))

theorem execHostTransferBeat_touches (k : Nat) (recIdx : Nat) (beat : Nat) (s : State) :
    Nexts [.clk, .parts, .buf, .ctl, .tiles, .regs, .lat, .counters, .out] s (execHostTransferBeat k recIdx beat s) := by
  unfold execHostTransferBeat
  dsimp only
  exact (by split; exact (nexts (Touches.refl _ _)); exact (nexts_ite (nexts (Touches.before (Touches.mono (presentHostBeat_touches _ _ _ _ _ _) rfl) (Touches.mono (advance_touches _ _) rfl))) (nexts (Touches.before (Touches.mono (acceptHostBeat_touches _ _ _ _ _) rfl) (Touches.mono (advance_touches _ _) rfl)))))

theorem execIdent_touches (t : Nat) (rx : List SvcClock) (s : State) :
    Nexts [.fmap, .tiles, .rings, .regs, .logs, .fw, .pm, .lat, .counters, .out] s (execIdent t rx s) := by
  unfold execIdent
  dsimp only
  exact (by split; exact (nexts (Touches.refl _ _)); exact (nexts_ite (nexts (Touches.mono (ackAgain_touches _ _ _ _ _) rfl)) (nexts_ite (nexts (Touches.before (Touches.mono (identDone_touches _ _) rfl) (Touches.before (Touches.mono (sendAck_touches _ _ _) rfl) (Touches.mono (updTile_touches _ _ _) rfl)))) (nexts (Touches.before (Touches.mono (sendAck_touches _ _ _) rfl) (Touches.mono (updTile_touches _ _ _) rfl))))))

theorem execIdleExitComplete_touches (part_ : Nat) (s : State) :
    Nexts [.parts, .tiles] s (execIdleExitComplete part_ s) := by
  unfold execIdleExitComplete
  exact (nexts_ite (nexts (Touches.before (Touches.mono (setGate_touches _ _ _) rfl) (Touches.mono (updPart_touches _ _ _) rfl))) (nexts (Touches.refl _ _)))

theorem execIdleFlit_touches (h : FlitHdr) (s : State) :
    Nexts [.regs, .lat, .counters] s (execIdleFlit h s) := by
  unfold execIdleFlit
  exact (nexts (rxBare_touches _ _ _ rfl (Touches.refl _ _) (fun _ => (Touches.refl _ _))))

theorem execIdleStateEntry_touches (part_ : Nat) (s : State) :
    Nexts [.parts, .hbm, .tiles, .out] s (execIdleStateEntry part_ s) := by
  unfold execIdleStateEntry
  dsimp only
  exact (nexts_ite (nexts (Touches.refl _ _)) (by split; exact (nexts (Touches.refl _ _)); exact (nexts_ite (nexts (Touches.refl _ _)) (nexts (Touches.before (touches_ite (Touches.mono (setGate_touches _ _ _) rfl) (touches_ite (touches_foldl (Touches.refl _ _) (fun _ _ => (Touches.before (Touches.mono (emitAll_touches _ _) rfl) (Touches.mono (updStack_touches _ _ _) rfl)))) (Touches.refl _ _))) (Touches.mono (updPart_touches _ _ _) rfl))))))

theorem execImageBind_touches (q : MciReq) (s : State) :
    Nexts [.parts, .slots, .rings, .regs, .fw, .out] s (execImageBind q s) := by
  unfold execImageBind
  dsimp only
  exact (nexts (mciFixed_touches _ _ _ _ _ _ _ rfl (Touches.refl _ _) (fun _ => (touches_ite (Touches.mono (mciStatus_touches _ _ _ _) rfl) (touches_ite (Touches.mono (mciStatus_touches _ _ _ _) rfl) (touches_ite (Touches.mono (mciStatus_touches _ _ _ _) rfl) (Touches.before (Touches.mono (mciStatus_touches _ _ _ _) rfl) (Touches.before (Touches.mono (setSlot_touches _ _ _) rfl) (Touches.mono (updPart_touches _ _ _) rfl)))))))))

theorem execImageEvict_touches (q : MciReq) (s : State) :
    Nexts [.slots, .ctl, .rings, .regs, .win, .fw, .counters, .out] s (execImageEvict q s) := by
  unfold execImageEvict
  dsimp only
  exact (nexts (mciFixed_touches _ _ _ _ _ _ _ rfl (Touches.refl _ _) (fun _ => (touches_ite (Touches.before (Touches.mono (mciStatus_touches _ _ _ _) rfl) (Touches.mono (violation_touches _ _ _) rfl)) (by split; exact (Touches.mono (mciStatus_touches _ _ _ _) rfl); exact (Touches.before (Touches.mono (mciStatus_touches _ _ _ _) rfl) (Touches.mono (loadFails_touches _ _ _ _ _ _) rfl)); exact (Touches.before (Touches.mono (mciStatus_touches _ _ _ _) rfl) (Touches.mono (setSlot_touches _ _ _) rfl)); exact (Touches.before (Touches.mono (mciStatus_touches _ _ _ _) rfl) (Touches.mono (setSlot_touches _ _ _) rfl)); exact (Touches.mono (mciStatus_touches _ _ _ _) rfl); exact (Touches.mono (mciStatus_touches _ _ _ _) rfl); exact (Touches.mono (mciStatus_touches _ _ _ _) rfl))))))

theorem execImageLoad_touches (q : MciReq) (s : State) :
    Nexts [.slots, .ctl, .rings, .regs, .win, .fw, .counters, .out] s (execImageLoad q s) := by
  unfold execImageLoad
  dsimp only
  exact (nexts (mciFixed_touches _ _ _ _ _ _ _ rfl (Touches.refl _ _) (fun _ => (touches_ite (Touches.before (Touches.mono (mciAnswer_touches _ _ _ _ _ _ _) rfl) (Touches.mono (violation_touches _ _ _) rfl)) (touches_ite (Touches.mono (mciAnswer_touches _ _ _ _ _ _ _) rfl) (Touches.mono (startLoad_touches _ _ _) rfl))))))

theorem execImageLoadDone_touches (slot_ : Nat) (bytes : Nat) (len : Nat) (s : State) :
    Nexts [.slots, .ctl, .rings, .regs, .win, .fw, .counters, .out] s (execImageLoadDone slot_ bytes len s) := by
  unfold execImageLoadDone
  dsimp only
  exact (nexts_ite (nexts (Touches.refl _ _)) (by split; exact (by split; exact (nexts (Touches.before (Touches.mono (violation_touches _ _ _) rfl) (Touches.mono (loadFails_touches _ _ _ _ _ _) rfl))); exact (nexts (Touches.before (Touches.mono (mciReply_touches _ _ _ _ _ _ _ _) rfl) (Touches.mono (setSlot_touches _ _ _) rfl)))); exact (nexts (Touches.mono (loadFails_touches _ _ _ _ _ _) rfl))))

theorem execImagePolicy_touches (q : MciReq) (s : State) :
    Nexts [.rings, .regs, .fw, .out] s (execImagePolicy q s) := by
  unfold execImagePolicy
  dsimp only
  exact (nexts (mciFixed_touches _ _ _ _ _ _ _ rfl (Touches.refl _ _) (fun _ => (Touches.before (Touches.mono (mciStatus_touches _ _ _ _) rfl) (upd_fw rfl (Touches.refl _ _))))))

theorem execImageQuery_touches (q : MciReq) (s : State) :
    Nexts [.ctl, .rings, .regs, .win, .fw, .counters, .out] s (execImageQuery q s) := by
  unfold execImageQuery
  dsimp only
  exact (nexts (mciFixed_touches _ _ _ _ _ _ _ rfl (Touches.refl _ _) (fun _ => (touches_ite (Touches.before (Touches.mono (mciStatus_touches _ _ _ _) rfl) (Touches.mono (violation_touches _ _ _) rfl)) (Touches.mono (mciQuery_touches _ _ _ _) rfl)))))

theorem execImageUnbind_touches (q : MciReq) (s : State) :
    Nexts [.parts, .slots, .rings, .regs, .fw, .out] s (execImageUnbind q s) := by
  unfold execImageUnbind
  dsimp only
  exact (nexts (mciFixed_touches _ _ _ _ _ _ _ rfl (Touches.refl _ _) (fun _ => (by split; exact (Touches.mono (mciStatus_touches _ _ _ _) rfl); exact (Touches.before (Touches.mono (mciStatus_touches _ _ _ _) rfl) (Touches.before (Touches.mono (setSlot_touches _ _ _) rfl) (Touches.mono (updPart_touches _ _ _) rfl)))))))

theorem execIndexLoad_touches (e : EvRef) (s : State) :
    Nexts [.clk, .parts, .buf, .ctl, .tiles, .regs, .lat, .counters, .out] s (execIndexLoad e s) := by
  unfold execIndexLoad
  dsimp only
  exact (atEvent_touches _ _ _ _ rfl (fun _ _ => (by split; exact (Touches.refl _ _); exact (Touches.before (upd_buf rfl (Touches.refl _ _)) (Touches.mono (portRead_touches _ _ _ _ _ _) rfl)))))

theorem execInputOutOfRange_touches (unit : Nat) (s : State) :
    Nexts [.clk, .pins, .boot, .parts, .layout, .layoutPend, .slots, .buf, .comp, .ctl, .fmap, .hbm, .dense, .tiles, .rings, .regs, .logs, .win, .lanes, .fw, .pm, .lat, .pool, .counters, .out] s (execInputOutOfRange unit s) := by
  unfold execInputOutOfRange
  dsimp only
  exact (nexts_ite (nexts (Touches.refl _ _)) (nexts_ite (nexts (Touches.before (touches_ite (Touches.mono (dropRegulators_touches _) rfl) (Touches.mono (fatalRecord_touches _ _ _) rfl)) (Touches.before (Touches.mono (coldNext_touches _) rfl) (upd_pins rfl (Touches.refl _ _))))) (nexts (Touches.before (touches_ite (Touches.mono (dropRegulators_touches _) rfl) (Touches.refl _ _)) (Touches.before (upd_boot rfl (Touches.refl _ _)) (Touches.before (Touches.mono (coldNext_touches _) rfl) (Touches.before (Touches.mono (enterReset_touches _) rfl) (Touches.before (Touches.mono (fatalEvent_touches _ _ _) rfl) (Touches.before (Touches.mono (coldNext_touches _) rfl) (upd_pins rfl (Touches.refl _ _)))))))))))

theorem execInterruptTimer_touches (fn : Nat) (ring : Nat) (s : State) :
    Nexts [.clk, .rings, .out] s (execInterruptTimer fn ring s) := by
  unfold execInterruptTimer
  dsimp only
  exact (by split; exact (nexts (Touches.refl _ _)); exact (nexts (Touches.before (Touches.mono (ringInterrupt_touches _ _ _) rfl) (Touches.mono (passPs_touches _ _) rfl))))

theorem execJoin_touches (h : Option FlitHdr) (port : Nat) (msg : Nat) (s : State) :
    Nexts [.regs, .lat, .counters, .out] s (execJoin h port msg s) := by
  unfold execJoin
  dsimp only
  exact (nexts (rxCtrl_touches _ _ _ _ rfl (Touches.refl _ _) (fun _ => (touches_ite (Touches.refl _ _) (Touches.before (touches_ite (Touches.refl _ _) (Touches.before (upd_lat rfl (Touches.refl _ _)) (Touches.mono (informReturned_touches _ _) rfl))) (Touches.mono (floodOn_touches _ _ _) rfl))))))

theorem execKeyInstall_touches (q : MciReq) (s : State) :
    Nexts [.rings, .regs, .fw, .out] s (execKeyInstall q s) := by
  unfold execKeyInstall
  dsimp only
  exact (nexts (mciFixed_touches _ _ _ _ _ _ _ rfl (Touches.refl _ _) (fun _ => (touches_ite (touches_ite (Touches.mono (mciStatus_touches _ _ _ _) rfl) (Touches.before (Touches.mono (mciStatus_touches _ _ _ _) rfl) (upd_fw rfl (Touches.refl _ _)))) (touches_ite (Touches.mono (mciStatus_touches _ _ _ _) rfl) (Touches.before (Touches.mono (mciStatus_touches _ _ _ _) rfl) (upd_fw rfl (Touches.refl _ _))))))))

theorem execKeyList_touches (q : MciReq) (s : State) :
    Nexts [.rings, .regs, .fw, .out] s (execKeyList q s) := by
  unfold execKeyList
  dsimp only
  exact (nexts (mciFixed_touches _ _ _ _ _ _ _ rfl (Touches.refl _ _) (fun _ => (Touches.mono (mciQuery_touches _ _ _ _) rfl))))

theorem execKeyRemove_touches (q : MciReq) (s : State) :
    Nexts [.rings, .regs, .fw, .out] s (execKeyRemove q s) := by
  unfold execKeyRemove
  dsimp only
  exact (nexts (mciFixed_touches _ _ _ _ _ _ _ rfl (Touches.refl _ _) (fun _ => (Touches.before (Touches.mono (mciStatus_touches _ _ _ _) rfl) (upd_fw rfl (Touches.refl _ _))))))

theorem execLaneQuery_touches (q : MciReq) (s : State) :
    Nexts [.rings, .regs, .fw, .out] s (execLaneQuery q s) := by
  unfold execLaneQuery
  dsimp only
  exact (nexts (mciFixed_touches _ _ _ _ _ _ _ rfl (Touches.refl _ _) (fun _ => (Touches.mono (mciAnswer_touches _ _ _ _ _ _ _) rfl))))

theorem execLaneSleep_touches (port : Nat) (s : State) :
    Nexts [.lat] s (execLaneSleep port s) := by
  unfold execLaneSleep
  dsimp only
  exact (nexts_ite (nexts (Touches.mono (updPort_touches _ _ _) rfl)) (nexts (Touches.refl _ _)))

theorem execLaneTest_touches (q : MciReq) (s : State) :
    Nexts [.buf, .hbm, .tiles, .rings, .regs, .win, .lanes, .fw, .out] s (execLaneTest q s) := by
  unfold execLaneTest
  dsimp only
  exact (nexts (mciFixed_touches _ _ _ _ _ _ _ rfl (Touches.refl _ _) (fun _ => (touches_ite (Touches.mono (mciStatus_touches _ _ _ _) rfl) (Touches.before (Touches.mono (beginTest_touches _) rfl) (Touches.before (upd_lanes rfl (Touches.refl _ _)) (Touches.mono (mciHold_touches _ _ _) rfl)))))))

theorem execLaneTestComplete_touches (n : Nat) (cells : List CellTrain) (stitch : List StitchTrain) (hbm : List Nat) (s : State) :
    Nexts [.buf, .hbm, .tiles, .rings, .regs, .lanes, .fw, .out] s (execLaneTestComplete n cells stitch hbm s) := by
  unfold execLaneTestComplete
  dsimp only
  exact (by split; exact (nexts (Touches.refl _ _)); exact (nexts_ite (nexts (Touches.refl _ _)) (nexts (Touches.before (Touches.mono (mciReply_touches _ _ _ _ _ _ _ _) rfl) (Touches.mono (endTest_touches _ _) rfl)))))

theorem execLaneWake_touches (port : Nat) (s : State) :
    Nexts [.lat] s (execLaneWake port s) := by
  unfold execLaneWake
  exact (nexts_ite (nexts (Touches.mono (updPort_touches _ _ _) rfl)) (nexts (Touches.refl _ _)))

theorem execLatticeConfig_touches (q : MciReq) (s : State) :
    Nexts [.rings, .regs, .fw, .lat, .out] s (execLatticeConfig q s) := by
  unfold execLatticeConfig
  dsimp only
  exact (nexts (mciFixed_touches _ _ _ _ _ _ _ rfl (Touches.refl _ _) (fun _ => (touches_ite (Touches.mono (mciStatus_touches _ _ _ _) rfl) (Touches.before (Touches.mono (mciStatus_touches _ _ _ _) rfl) (Touches.before (Touches.mono (joinGroup_touches _) rfl) (Touches.before (Touches.mono (trainPorts_touches _) rfl) (upd_lat rfl (Touches.refl _ _)))))))))

theorem execLatticeQuery_touches (q : MciReq) (s : State) :
    Nexts [.rings, .regs, .fw, .out] s (execLatticeQuery q s) := by
  unfold execLatticeQuery
  exact (nexts (mciFixed_touches _ _ _ _ _ _ _ rfl (Touches.refl _ _) (fun _ => (Touches.mono (mciQuery_touches _ _ _ _) rfl))))

theorem execLatticeWindowEntry_touches (part_ : Nat) (recIdx : Nat) (beat : Nat) (s : State) :
    Nexts [.clk, .parts, .buf, .comp, .ctl, .tiles, .regs, .lat, .counters, .out] s (execLatticeWindowEntry part_ recIdx beat s) := by
  unfold execLatticeWindowEntry
  dsimp only
  exact (by split; exact (nexts (Touches.refl _ _)); exact (nexts_ite (nexts (Touches.refl _ _)) (nexts_ite (nexts (Touches.before (touches_ite (Touches.mono (enterBeat_touches _ _ _ _ _) rfl) (touches_ite (Touches.mono (enterBeat_touches _ _ _ _ _) rfl) (Touches.refl _ _))) (Touches.before (Touches.mono (openDue_touches _ _ _ _) rfl) (Touches.mono (advance_touches _ _) rfl)))) (nexts (Touches.before (Touches.mono (openDue_touches _ _ _ _) rfl) (Touches.mono (advance_touches _ _) rfl))))))

theorem execLatticeWindowPresent_touches (part_ : Nat) (recIdx : Nat) (beat : Nat) (s : State) :
    Nexts [.clk, .parts, .buf, .comp, .ctl, .tiles, .regs, .lat, .counters, .out] s (execLatticeWindowPresent part_ recIdx beat s) := by
  unfold execLatticeWindowPresent
  dsimp only
  exact (by split; exact (nexts (Touches.refl _ _)); exact (nexts_ite (nexts (Touches.refl _ _)) (nexts_ite (nexts (Touches.before (touches_ite (Touches.before (touches_ite (Touches.mono (noteDescFault_touches _ _) rfl) (Touches.refl _ _)) (Touches.mono (updComp_touches _ _ _ _) rfl)) (Touches.refl _ _)) (Touches.mono (advance_touches _ _) rfl))) (nexts_ite (nexts (by split; exact (Touches.before (Touches.mono (dropWin_touches _ _) rfl) (Touches.before (Touches.mono (updComp_touches _ _ _ _) rfl) (Touches.before (Touches.mono (updPipe_touches _ _ _) rfl) (Touches.before (touches_ite (Touches.before (touches_ite (Touches.mono (noteDescFault_touches _ _) rfl) (Touches.refl _ _)) (Touches.mono (updComp_touches _ _ _ _) rfl)) (Touches.refl _ _)) (Touches.mono (advance_touches _ _) rfl))))); exact (Touches.before (Touches.mono (updComp_touches _ _ _ _) rfl) (Touches.before (Touches.mono (updPipe_touches _ _ _) rfl) (Touches.before (touches_ite (Touches.before (touches_ite (Touches.mono (noteDescFault_touches _ _) rfl) (Touches.refl _ _)) (Touches.mono (updComp_touches _ _ _ _) rfl)) (Touches.refl _ _)) (Touches.mono (advance_touches _ _) rfl)))))) (nexts (Touches.before (Touches.mono (updPipe_touches _ _ _) rfl) (Touches.before (touches_ite (Touches.before (touches_ite (Touches.mono (noteDescFault_touches _ _) rfl) (Touches.refl _ _)) (Touches.mono (updComp_touches _ _ _ _) rfl)) (Touches.refl _ _)) (Touches.mono (advance_touches _ _) rfl))))))))

theorem execLease_touches (id : Nat) (s : State) :
    Nexts [.ctl, .hbm, .dense, .rings, .regs, .fw, .lat, .pool, .counters, .out] s (execLease id s) := by
  unfold execLease
  exact (nexts (Touches.mono (runToken_touches _ _ _) rfl))

theorem execLeaseExpiry_touches (region : Nat) (s : State) :
    Nexts [.pool] s (execLeaseExpiry region s) := by
  unfold execLeaseExpiry
  exact (by split; exact (nexts (Touches.refl _ _)); exact (nexts (touches_ite (Touches.mono (updRegion_touches _ _ _) rfl) (Touches.refl _ _))))

theorem execLinkFail_touches (h : Option FlitHdr) (port : Nat) (msg : Nat) (s : State) :
    Nexts [.rings, .regs, .logs, .fw, .lat, .pool, .counters, .out] s (execLinkFail h port msg s) := by
  unfold execLinkFail
  dsimp only
  exact (nexts (withLost_touches _ _ rfl (Touches.refl _ _) (fun _ => (rxCtrl_touches _ _ _ _ rfl (Touches.refl _ _) (fun _ => (touches_ite (Touches.refl _ _) (Touches.before (touches_ite (Touches.mono (noteRestored_touches _ _ _) rfl) (Touches.mono (noteFailed_touches _ _ _) rfl)) (Touches.mono (floodOn_touches _ _ _) rfl))))))))

theorem execLinkId_touches (port : Nat) (msg : Nat) (s : State) :
    Nexts [.boot, .ctl, .lat, .counters, .out] s (execLinkId port msg s) := by
  unfold execLinkId
  dsimp only
  exact (nexts_ite (nexts (Touches.refl _ _)) (nexts_ite (nexts (Touches.before (Touches.mono (trainingStep_touches _) rfl) (Touches.mono (bringUp_touches _ _ _) rfl))) (nexts (Touches.before (Touches.mono (trainingStep_touches _) rfl) (Touches.before (Touches.mono (blockFault_touches _ _ _ _ _ _) rfl) (Touches.mono (updPort_touches _ _ _) rfl))))))

theorem execLost_touches (h : Option FlitHdr) (port : Nat) (msg : Nat) (s : State) :
    Nexts [.rings, .regs, .logs, .fw, .lat, .pool, .counters, .out] s (execLost h port msg s) := by
  unfold execLost
  exact (nexts (withLost_touches _ _ rfl (Touches.refl _ _) (fun _ => (rxCtrl_touches _ _ _ _ rfl (Touches.refl _ _) (fun _ => (touches_ite (Touches.refl _ _) (Touches.before (Touches.mono (declareLost_touches _ _) rfl) (Touches.mono (floodOn_touches _ _ _) rfl))))))))

theorem execMainInputOn_touches (hbm : BitVec 8) (s : State) :
    Nexts [.pins, .boot] s (execMainInputOn hbm s) := by
  unfold execMainInputOn
  dsimp only
  exact (nexts_ite (nexts (Touches.refl _ _)) (nexts (Touches.before (Touches.mono (settleAlert_touches _) rfl) (Touches.before (Touches.mono (raiseRegulators_touches _) rfl) (upd_pins rfl (Touches.refl _ _))))))

theorem execMciInfo_touches (q : MciReq) (s : State) :
    Nexts [.rings, .regs, .fw, .out] s (execMciInfo q s) := by
  unfold execMciInfo
  exact (nexts (mciFixed_touches _ _ _ _ _ _ _ rfl (Touches.refl _ _) (fun _ => (Touches.mono (mciQuery_touches _ _ _ _) rfl))))

theorem execMctpControl_touches (medium : Nat) (cmd : Nat) (src : Nat) (eid : Nat) (s : State) :
    Nexts [.fw, .out] s (execMctpControl medium cmd src eid s) := by
  unfold execMctpControl
  dsimp only
  exact (nexts_ite (nexts (Touches.refl _ _)) (nexts (Touches.before (Touches.mono (emit_touches _ _) rfl) (touches_ite (upd_fw rfl (Touches.refl _ _)) (Touches.refl _ _)))))

theorem execMemberLoss_touches (region : Nat) (member : Nat) (s : State) :
    Nexts [.hbm, .dense, .rings, .regs, .logs, .lat, .pool, .counters, .out] s (execMemberLoss region member s) := by
  unfold execMemberLoss
  dsimp only
  exact (nexts_ite (nexts (Touches.before (touches_ite (Touches.mono (replicate_touches _ _) rfl) (Touches.refl _ _)) (Touches.before (touches_ite (Touches.mono (updRegion_touches _ _ _) rfl) (Touches.refl _ _)) (Touches.mono (loseMember_touches _ _ _) rfl)))) (nexts (Touches.refl _ _)))

theorem execModuleReset_touches (q : MciReq) (s : State) :
    Nexts [.clk, .pins, .boot, .parts, .layout, .layoutPend, .slots, .buf, .comp, .ctl, .fmap, .hbm, .dense, .tiles, .rings, .regs, .logs, .win, .lanes, .fw, .pm, .lat, .pool, .counters, .out] s (execModuleReset q s) := by
  unfold execModuleReset
  dsimp only
  exact (nexts (mciFixed_touches _ _ _ _ _ _ _ rfl (Touches.refl _ _) (fun _ => (Touches.before (Touches.mono (coldEntry_touches _) rfl) (Touches.before (upd_boot rfl (Touches.refl _ _)) (Touches.before (Touches.mono (enterReset_touches _) rfl) (Touches.mono (mciStatus_touches _ _ _ _) rfl)))))))

theorem execMpBoot_touches (cals : List CalIn) (s : State) :
    Nexts [.boot, .ctl, .tiles, .rings, .regs, .logs, .lanes, .fw, .pm, .lat, .counters, .out] s (execMpBoot cals s) := by
  unfold execMpBoot
  exact (nexts_ite (nexts (Touches.refl _ _)) (nexts_ite (nexts (Touches.mono (enterRecovery_touches _) rfl)) (by split; exact (nexts (Touches.before (Touches.mono (startFirmware_touches _) rfl) (touches_foldl (Touches.refl _ _) (fun _ _ => (Touches.mono (calibrate_touches _ _ _) rfl))))); exact (nexts (Touches.mono (failedBoot_touches _) rfl)))))

theorem execMpReady_touches (s : State) :
    Nexts [.boot, .rings, .regs, .logs, .fw, .pm, .lat, .counters, .out] s (execMpReady s) := by
  unfold execMpReady
  exact (nexts_ite (nexts (Touches.refl _ _)) (by split; exact (nexts (Touches.mono (mpReady_touches _) rfl)); exact (nexts (Touches.mono (failedBoot_touches _) rfl))))

theorem execMpReset_touches (q : MciReq) (s : State) :
    Nexts [.boot, .slots, .rings, .regs, .logs, .win, .fw, .counters, .out] s (execMpReset q s) := by
  unfold execMpReset
  exact (nexts (mciFixed_touches _ _ _ _ _ _ _ rfl (Touches.refl _ _) (fun _ => (Touches.before (Touches.mono (mpOnlyReset_touches _ _) rfl) (Touches.mono (mciStatus_touches _ _ _ _) rfl)))))

theorem execMpSramUncorrectable_touches (s : State) :
    Nexts [.boot, .slots, .rings, .regs, .logs, .win, .fw, .counters, .out] s (execMpSramUncorrectable s) := by
  unfold execMpSramUncorrectable
  exact (nexts_ite (nexts (Touches.mono (mpOnlyReset_touches _ _) rfl)) (nexts (Touches.refl _ _)))

theorem execMpWatchdog_touches (s : State) :
    Nexts [.boot, .slots, .rings, .regs, .logs, .win, .fw, .counters, .out] s (execMpWatchdog s) := by
  unfold execMpWatchdog
  exact (nexts_ite (nexts (Touches.mono (mpOnlyReset_touches _ _) rfl)) (nexts (Touches.refl _ _)))

theorem execNak_touches (h : FlitHdr) (s : State) :
    Nexts [.regs, .lat, .counters] s (execNak h s) := by
  unfold execNak
  exact (nexts (rxBare_touches _ _ _ rfl (Touches.refl _ _) (fun _ => (Touches.mono (replayFrom_touches _ _ _) rfl))))

theorem execNop_touches (fn : Nat) (ring : Nat) (s : State) :
    Nexts [.rings, .out] s (execNop fn ring s) := by
  unfold execNop
  split
  · exact nexts (Touches.refl _ _)
  · rename_i x s1 e
    have h : Touches [.rings, .out] s s1 := by
      split at e
      · cases k : consumable s fn ring with
        | none => rw [k] at e; cases e
        | some y => rw [k] at e; cases e; exact Touches.refl _ _
      · exact Touches.mono (startTurn_touches _ _ _ e) rfl
    refine nexts_ite (nexts (Touches.refl _ _)) ?_
    split
    · exact nexts (Touches.after (rejectHead_touches _ _ _ _ _) rfl h)
    · exact nexts (Touches.after (rejectHead_touches _ _ _ _ _) rfl h)

theorem execNotifySubscribe_touches (q : MciReq) (s : State) :
    Nexts [.rings, .regs, .fw, .out] s (execNotifySubscribe q s) := by
  unfold execNotifySubscribe
  dsimp only
  exact (nexts (mciFixed_touches _ _ _ _ _ _ _ rfl (Touches.refl _ _) (fun _ => (Touches.before (Touches.mono (mciStatus_touches _ _ _ _) rfl) (touches_ite (upd_fw rfl (Touches.refl _ _)) (Touches.refl _ _))))))

theorem execPacketAgeing_touches (node : Nat) (dir : Nat) (arrivals : List (BitVec 64)) (cycles : Nat) (s : State) :
    Nexts [.ctl, .out] s (execPacketAgeing node dir arrivals cycles s) := by
  unfold execPacketAgeing
  dsimp only
  exact (nexts_ite (nexts (Touches.refl _ _)) (nexts_ite (nexts (touches_foldl (Touches.refl _ _) (fun _ _ => (Touches.mono (reroute_touches _ _ _ _) rfl)))) (nexts (Touches.before (Touches.mono (emitAll_touches _ _) rfl) (Touches.before (Touches.mono (takeBarriers_touches _ _ _ _) rfl) (upd_ctl rfl (Touches.refl _ _)))))))

theorem execPartitionQuery_touches (q : MciReq) (s : State) :
    Nexts [.rings, .regs, .fw, .out] s (execPartitionQuery q s) := by
  unfold execPartitionQuery
  exact (nexts (mciFixed_touches _ _ _ _ _ _ _ rfl (Touches.refl _ _) (fun _ => (Touches.mono (mciQuery_touches _ _ _ _) rfl))))

theorem execPartitionRelease_touches (k : Nat) (s : State) :
    Nexts [.parts, .tiles, .out] s (execPartitionRelease k s) := by
  unfold execPartitionRelease
  exact (nexts_ite (nexts (Touches.mono (releasePart_touches _ _) rfl)) (nexts (Touches.refl _ _)))

theorem execPartitionReset_touches (q : MciReq) (s : State) :
    Nexts [.parts, .slots, .comp, .hbm, .tiles, .rings, .regs, .fw, .lat, .out] s (execPartitionReset q s) := by
  unfold execPartitionReset
  dsimp only
  exact (nexts (mciFixed_touches _ _ _ _ _ _ _ rfl (Touches.refl _ _) (fun _ => (touches_ite (Touches.mono (mciStatus_touches _ _ _ _) rfl) (Touches.before (touches_ite (Touches.mono (cancelBind_touches _ _) rfl) (touches_ite (Touches.mono (resetEffect_touches _ _) rfl) (Touches.mono (updPart_touches _ _ _) rfl))) (Touches.mono (mciStatus_touches _ _ _ _) rfl))))))

theorem execPartitionResetEffect_touches (k : Nat) (s : State) :
    Nexts [.clk, .parts, .layout, .layoutPend, .slots, .buf, .comp, .ctl, .hbm, .tiles, .rings, .regs, .logs, .win, .lat, .counters, .out] s (execPartitionResetEffect k s) := by
  unfold execPartitionResetEffect
  exact (nexts_ite (nexts (Touches.mono (toBoundary_touches _) rfl)) (nexts (Touches.refl _ _)))

theorem execPartitionSetLayout_touches (q : MciReq) (s : State) :
    Nexts [.layoutPend, .rings, .regs, .fw, .out] s (execPartitionSetLayout q s) := by
  unfold execPartitionSetLayout
  dsimp only
  exact (nexts (mciFixed_touches _ _ _ _ _ _ _ rfl (Touches.refl _ _) (fun _ => (touches_ite (Touches.mono (mciStatus_touches _ _ _ _) rfl) (Touches.before (Touches.mono (mciStatus_touches _ _ _ _) rfl) (upd_layoutPend rfl (Touches.refl _ _)))))))

theorem execPatrolScrub_touches (pc : Nat) (sev : Nat) (s : State) :
    Nexts [.ctl, .hbm, .regs, .logs, .counters] s (execPatrolScrub pc sev s) := by
  unfold execPatrolScrub
  dsimp only
  exact (nexts_ite (nexts (Touches.refl _ _)) (nexts (Touches.before (Touches.mono (updPc_touches _ _ _) rfl) (Touches.before (Touches.mono (hbmRead_touches _ _) rfl) (Touches.before (Touches.mono (hbmCount_touches _ _ _ _) rfl) (Touches.mono (moveRows_touches _ _) rfl))))))

theorem execPerst1Assert_touches (s : State) :
    Nexts [.clk, .pins, .boot, .parts, .layout, .layoutPend, .slots, .buf, .comp, .ctl, .hbm, .tiles, .rings, .regs, .logs, .win, .lat, .pool, .counters, .out] s (execPerst1Assert s) := by
  unfold execPerst1Assert
  dsimp only
  exact (nexts_ite (nexts (Touches.refl _ _)) (nexts (Touches.before (upd_pins_boot rfl (Touches.refl _ _)) (touches_ite (Touches.refl _ _) (Touches.mono (portReset_touches _ _) rfl)))))

theorem execPerst1Deassert_touches (s : State) :
    Nexts [.pins, .boot, .out] s (execPerst1Deassert s) := by
  unfold execPerst1Deassert
  dsimp only
  exact (nexts_ite (nexts (Touches.refl _ _)) (nexts_ite (nexts (upd_pins rfl (Touches.refl _ _))) (nexts (Touches.before (touches_ite (Touches.mono (emit_touches _ _) rfl) (Touches.refl _ _)) (upd_pins_boot rfl (Touches.refl _ _))))))

theorem execPerstAssert_touches (s : State) :
    Nexts [.clk, .pins, .boot, .parts, .layout, .layoutPend, .slots, .buf, .comp, .ctl, .fmap, .hbm, .dense, .tiles, .rings, .regs, .logs, .win, .lanes, .fw, .pm, .lat, .pool, .counters, .out] s (execPerstAssert s) := by
  unfold execPerstAssert
  dsimp only
  exact (nexts_ite (nexts (Touches.refl _ _)) (nexts (Touches.before (Touches.mono (settleAlert_touches _) rfl) (Touches.before (Touches.mono (coldEntry_touches _) rfl) (Touches.before (upd_pins rfl (Touches.refl _ _)) (Touches.mono (enterReset_touches _) rfl))))))

theorem execPerstDeassert_touches (straps : BitVec 5) (drives : BitVec 8) (s : State) :
    Nexts [.clk, .pins, .boot, .fmap, .hbm, .logs, .lanes, .fw, .pm, .lat, .pool, .counters] s (execPerstDeassert straps drives s) := by
  unfold execPerstDeassert
  dsimp only
  exact (nexts_ite (nexts (Touches.refl _ _)) (nexts (Touches.before (touches_ite (Touches.mono (beginStart_touches _) rfl) (Touches.refl _ _)) (upd_pins rfl (Touches.refl _ _)))))

theorem execPmControlPeriod_touches (m : PowerIn) (s : State) :
    Nexts [.clk, .parts, .ctl, .hbm, .rings, .regs, .logs, .pm, .lat, .counters, .out] s (execPmControlPeriod m s) := by
  unfold execPmControlPeriod
  dsimp only
  exact (nexts_ite (nexts (Touches.refl _ _)) (nexts (Touches.before (Touches.mono (wakeTolerance_touches _) rfl) (Touches.before (Touches.mono (applyOwn_touches _ _) rfl) (Touches.before (upd_pm rfl (Touches.refl _ _)) (Touches.before (Touches.mono (ownSetting_touches _ _) rfl) (Touches.before (Touches.mono (noteShort_touches _ _) rfl) (Touches.before (Touches.mono (rampFalls_touches _) rfl) (Touches.mono (measure_touches _ _) rfl)))))))))

theorem execPmThermalPeriod_touches (s : State) :
    Nexts [.pm] s (execPmThermalPeriod s) := by
  unfold execPmThermalPeriod
  dsimp only
  exact (nexts_ite (nexts (Touches.refl _ _)) (nexts (upd_pm rfl (Touches.refl _ _))))

theorem execPmWatchdog_touches (crcOk : Bool) (s : State) :
    Nexts [.clk, .boot, .ctl, .fw, .pm, .lat, .counters] s (execPmWatchdog crcOk s) := by
  unfold execPmWatchdog
  dsimp only
  exact (nexts_ite (nexts (Touches.refl _ _)) (nexts (Touches.before (upd_boot_fw_pm rfl (Touches.refl _ _)) (Touches.before (Touches.mono (blockFault_touches _ _ _ _ _ _) rfl) (Touches.before (Touches.mono (writeSetting_touches _ _) rfl) (touches_ite (Touches.before (Touches.mono (goAlone_touches _) rfl) (upd_pm rfl (Touches.refl _ _))) (Touches.refl _ _)))))))

theorem execPolicy_touches (h : Option FlitHdr) (port : Nat) (msg : Nat) (s : State) :
    Nexts [.regs, .lat, .counters, .out] s (execPolicy h port msg s) := by
  unfold execPolicy
  dsimp only
  exact (nexts (rxCtrl_touches _ _ _ _ rfl (Touches.refl _ _) (fun _ => (touches_ite (Touches.refl _ _) (touches_ite (upd_lat rfl (Touches.refl _ _)) (by split; exact (Touches.refl _ _); exact (Touches.mono (sendCtrl_touches _ _ _) rfl)))))))

theorem execPoolAccessSet_touches (q : MciReq) (s : State) :
    Nexts [.rings, .regs, .win, .fw, .lat, .pool, .out] s (execPoolAccessSet q s) := by
  unfold execPoolAccessSet
  dsimp only
  exact (nexts (mciRun_touches _ _ _ _ _ _ rfl (Touches.refl _ _) (fun _ => (Touches.before (Touches.mono (regionCommand_touches _ _ _) rfl) (touches_ite (Touches.refl _ _) (Touches.before (upd_pool rfl (Touches.refl _ _)) (Touches.mono (updRegion_touches _ _ _) rfl)))))))

theorem execPoolCommandEnd_touches (id : Nat) (s : State) :
    Nexts [.rings, .lat, .pool, .out] s (execPoolCommandEnd id s) := by
  unfold execPoolCommandEnd
  exact (by split; exact (nexts (Touches.refl _ _)); exact (nexts (touches_ite (Touches.mono (commandEnd_touches _ _) rfl) (Touches.refl _ _))))

theorem execPoolItem_touches (fn : Nat) (s : State) :
    Nexts [.ctl, .rings, .win, .pool, .counters, .out] s (execPoolItem fn s) := by
  unfold execPoolItem
  exact (by split; exact (nexts (Touches.refl _ _)); exact (nexts_ite (nexts (Touches.refl _ _)) (by split; exact (nexts (Touches.before (Touches.mono (rejectHead_touches _ _ _ _ _) rfl) (Touches.mono (startTurn_touches _ _ _ (by assumption)) rfl))); exact (nexts (Touches.before (Touches.mono (poolStart_touches _ _ _) rfl) (Touches.mono (startTurn_touches _ _ _ (by assumption)) rfl))))))

theorem execPoolMailboxCommand_touches (pbr : Nat) (slot : Nat) (line : BitVec 512) (s : State) :
    Nexts [.ctl, .win, .pool, .counters] s (execPoolMailboxCommand pbr slot line s) := by
  unfold execPoolMailboxCommand
  exact (nexts (touches_ite (Touches.mono (mailCommand_touches _ _ _ _) rfl) (Touches.refl _ _)))

theorem execPoolQuery_touches (q : MciReq) (s : State) :
    Nexts [.ctl, .rings, .regs, .win, .fw, .counters, .out] s (execPoolQuery q s) := by
  unfold execPoolQuery
  dsimp only
  exact (nexts (mciFixed_touches _ _ _ _ _ _ _ rfl (Touches.refl _ _) (fun _ => (touches_ite (Touches.mono (mciQuery_touches _ _ _ _) rfl) (touches_ite (Touches.mono (mciQuery_touches _ _ _ _) rfl) (Touches.before (Touches.mono (mciStatus_touches _ _ _ _) rfl) (Touches.mono (violation_touches _ _ _) rfl)))))))

theorem execPoolRegionCreate_touches (q : MciReq) (s : State) :
    Nexts [.rings, .regs, .win, .fw, .lat, .pool, .out] s (execPoolRegionCreate q s) := by
  unfold execPoolRegionCreate
  exact (nexts (mciFixed_touches _ _ _ _ _ _ _ rfl (Touches.refl _ _) (fun _ => (Touches.mono (regionCommand_touches _ _ _) rfl))))

theorem execPoolRegionDelete_touches (q : MciReq) (s : State) :
    Nexts [.rings, .regs, .win, .fw, .lat, .pool, .out] s (execPoolRegionDelete q s) := by
  unfold execPoolRegionDelete
  exact (nexts (mciFixed_touches _ _ _ _ _ _ _ rfl (Touches.refl _ _) (fun _ => (Touches.mono (regionCommand_touches _ _ _) rfl))))

theorem execPoolRegionReplace_touches (q : MciReq) (s : State) :
    Nexts [.rings, .regs, .win, .fw, .lat, .pool, .out] s (execPoolRegionReplace q s) := by
  unfold execPoolRegionReplace
  exact (nexts (mciFixed_touches _ _ _ _ _ _ _ rfl (Touches.refl _ _) (fun _ => (Touches.mono (regionCommand_touches _ _ _) rfl))))

theorem execPortReset_touches (port : Nat) (s : State) :
    Nexts [.clk, .boot, .parts, .layout, .layoutPend, .slots, .buf, .comp, .ctl, .hbm, .tiles, .rings, .regs, .logs, .win, .lat, .pool, .counters, .out] s (execPortReset port s) := by
  unfold execPortReset
  exact (nexts_ite (nexts (Touches.refl _ _)) (nexts (Touches.mono (portReset_touches _ _) rfl)))

theorem execPortRetrain_touches (port : Nat) (s : State) :
    Nexts [.lat, .counters] s (execPortRetrain port s) := by
  unfold execPortRetrain
  exact (nexts (Touches.mono (retrainPort_touches _ _) rfl))

theorem execPortTrainingDone_touches (port : Nat) (good : BitVec 8) (latency : Nat) (s : State) :
    Nexts [.boot, .ctl, .rings, .regs, .logs, .fw, .lat, .pool, .counters, .out] s (execPortTrainingDone port good latency s) := by
  unfold execPortTrainingDone
  dsimp only
  exact (nexts_ite (nexts_ite (nexts (Touches.before (Touches.mono (trainingStep_touches _) rfl) (withLost_touches _ _ rfl (Touches.refl _ _) (fun _ => (Touches.mono (failPort_touches _ _) rfl))))) (nexts (Touches.before (Touches.mono (emit_touches _ _) rfl) (Touches.before (Touches.mono (noteNarrow_touches _ _ _ _) rfl) (Touches.mono (updPort_touches _ _ _) rfl))))) (nexts_ite (nexts_ite (nexts (withLost_touches _ _ rfl (Touches.refl _ _) (fun _ => (Touches.mono (failPort_touches _ _) rfl)))) (nexts (Touches.before (Touches.mono (noteNarrow_touches _ _ _ _) rfl) (Touches.mono (updPort_touches _ _ _) rfl)))) (nexts (Touches.refl _ _))))

theorem execPowerCapSet_touches (q : MciReq) (s : State) :
    Nexts [.rings, .regs, .fw, .pm, .out] s (execPowerCapSet q s) := by
  unfold execPowerCapSet
  dsimp only
  exact (nexts (mciFixed_touches _ _ _ _ _ _ _ rfl (Touches.refl _ _) (fun _ => (Touches.before (Touches.mono (mciStatus_touches _ _ _ _) rfl) (upd_pm rfl (Touches.refl _ _))))))

theorem execPowerQuery_touches (q : MciReq) (s : State) :
    Nexts [.rings, .regs, .fw, .out] s (execPowerQuery q s) := by
  unfold execPowerQuery
  exact (nexts (mciFixed_touches _ _ _ _ _ _ _ rfl (Touches.refl _ _) (fun _ => (Touches.mono (mciAnswer_touches _ _ _ _ _ _ _) rfl))))

theorem execPrioWrite_touches (fn : Nat) (half : Nat) (value : BitVec 64) (s : State) :
    Nexts [.rings, .out] s (execPrioWrite fn half value s) := by
  unfold execPrioWrite
  exact (nexts_ite (nexts (Touches.refl _ _)) (nexts (barWrite_touches _ _ _ rfl (Touches.refl _ _) (fun _ => (Touches.mono (prioRewrite_touches _ _ _ _) rfl)))))

theorem execPrioritySet_touches (q : MciReq) (s : State) :
    Nexts [.rings, .regs, .fw, .out] s (execPrioritySet q s) := by
  unfold execPrioritySet
  dsimp only
  exact (nexts (mciFixed_touches _ _ _ _ _ _ _ rfl (Touches.refl _ _) (fun _ => (Touches.before (Touches.mono (mciStatus_touches _ _ _ _) rfl) (Touches.mono (prioRewrite_touches _ _ _ _) rfl)))))

theorem execPwrbrkAssert_touches (s : State) :
    Nexts [.clk, .pins, .rings, .regs, .pm, .lat, .counters, .out] s (execPwrbrkAssert s) := by
  unfold execPwrbrkAssert
  dsimp only
  exact (nexts_ite (nexts (Touches.refl _ _)) (nexts_ite (nexts (upd_pins rfl (Touches.refl _ _))) (nexts (Touches.before (Touches.mono (putSetting_touches _ _) rfl) (Touches.before (touches_ite (Touches.before (Touches.mono (goAlone_touches _) rfl) (upd_pm rfl (Touches.refl _ _))) (Touches.refl _ _)) (Touches.before (touches_ite (Touches.mono (countBrake_touches _) rfl) (Touches.refl _ _)) (upd_pins_pm rfl (Touches.refl _ _))))))))

theorem execPwrbrkDeassert_touches (s : State) :
    Nexts [.pins, .pm, .counters] s (execPwrbrkDeassert s) := by
  unfold execPwrbrkDeassert
  dsimp only
  exact (nexts_ite (nexts (Touches.refl _ _)) (nexts (Touches.before (upd_pins_pm rfl (Touches.refl _ _)) (Touches.mono (closeBrake_touches _) rfl))))

end Sys2Proof.Machine
end

