-- ==== Sys2Proof/Laws/Frames8.lean ====
section
/-! SUPPORT. What the commands leave alone, part 8: one lemma each, from execReadWindowCell to execMailboxGo. -/

namespace Sys2Proof.Machine

theorem execReadWindowCell_touches (pc : Nat) (cell : Nat) (sev : Nat) (s : State) :
    Nexts [.clk, .parts, .buf, .ctl, .hbm, .tiles, .regs, .logs, .lat, .counters, .out] s (execReadWindowCell pc cell sev s) := by
  unfold execReadWindowCell
  dsimp only
  exact (by split; exact (nexts (Touches.refl _ _)); exact (nexts_ite (nexts (Touches.refl _ _)) (nexts (Touches.before (Touches.mono (updPipe_touches _ _ _) rfl) (Touches.before (touches_ite_snd (Touches.mono (readThree_touches _ _) rfl) (Touches.refl _ _)) (Touches.before (Touches.mono (hbmCount_touches _ _ _ _) rfl) (Touches.before (Touches.mono (restoreRows_touches _ _) rfl) (Touches.mono (advance_touches _ _) rfl))))))))

theorem execRebuildStep_touches (region : Nat) (s : State) :
    Nexts [.hbm, .dense, .lat, .pool, .out] s (execRebuildStep region s) := by
  unfold execRebuildStep
  dsimp only
  split
  · exact nexts (Touches.refl _ _)
  · refine nexts_ite (nexts ?_) (nexts (Touches.refl _ _))
    split
    · exact Touches.after (askPieces_touches _ _ _ _) rfl (upd_pool rfl (Touches.refl _ _))
    · exact Touches.after (gatherAcc_touches _ _ _) rfl (upd_pool rfl (Touches.refl _ _))

theorem execReduce_touches (id : Nat) (fetched : List LineIn) (s : State) :
    Nexts [.ctl, .hbm, .dense, .regs, .logs, .lat, .pool, .counters, .out] s (execReduce id fetched s) := by
  unfold execReduce
  exact nexts (runData_touches _ _ _ _ rfl fun _ _ _ _ e => Touches.mono (reduceLines_touches _ _ _ _ _ e) rfl)

theorem execRefreshLane_touches (pc : Nat) (cell : Nat) (s : State) :
    Nexts [.clk, .parts, .buf, .ctl, .hbm, .tiles, .regs, .lat, .counters, .out] s (execRefreshLane pc cell s) := by
  unfold execRefreshLane
  dsimp only
  exact (by split; exact (nexts (Touches.refl _ _)); exact (nexts_ite (nexts (Touches.refl _ _)) (nexts_ite (nexts (Touches.before (Touches.mono (emitAll_touches _ _) rfl) (Touches.before (Touches.mono (updPc_touches _ _ _) rfl) (Touches.before (Touches.mono (restoreRows_touches _ _) rfl) (Touches.mono (advance_touches _ _) rfl))))) (nexts (Touches.before (Touches.mono (updPc_touches _ _ _) rfl) (Touches.before (Touches.mono (restoreRows_touches _ _) rfl) (Touches.mono (advance_touches _ _) rfl)))))))

theorem execRefreshTimer_touches (pc : Nat) (s : State) :
    Nexts [.parts, .ctl, .hbm, .counters, .out] s (execRefreshTimer pc s) := by
  unfold execRefreshTimer
  dsimp only
  exact (nexts_ite (nexts (Touches.refl _ _)) (nexts_ite (nexts (Touches.mono (updPc_touches _ _ _) rfl)) (by split; exact (nexts (Touches.before (Touches.mono (emitAll_touches _ _) rfl) (Touches.before (Touches.mono (blockFault_touches _ _ _ _ _ _) rfl) (Touches.mono (updPc_touches _ _ _) rfl)))); exact (nexts (Touches.before (Touches.mono (updPart_touches _ _ _) rfl) (Touches.before (Touches.mono (breach_touches _ _ _ _) rfl) (Touches.before (Touches.mono (emitAll_touches _ _) rfl) (Touches.before (Touches.mono (blockFault_touches _ _ _ _ _ _) rfl) (Touches.mono (updPc_touches _ _ _) rfl)))))))))

theorem execRegionDeleteComplete_touches (region : Nat) (s : State) :
    Nexts [.lat, .pool, .out] s (execRegionDeleteComplete region s) := by
  unfold execRegionDeleteComplete
  dsimp only
  exact (nexts_ite (nexts (Touches.before (Touches.mono (replicate_touches _ _) rfl) (Touches.mono (updRegion_touches _ _ _) rfl))) (nexts (Touches.refl _ _)))

theorem execRegisterWrite_touches (fn : Nat) (offset : Nat) (size : Nat) (value : Nat) (s : State) :
    Nexts [.clk, .parts, .ctl, .hbm, .rings, .regs, .logs, .counters, .out] s (execRegisterWrite fn offset size value s) := by
  unfold execRegisterWrite
  exact (nexts (barWrite_touches _ _ _ rfl (Touches.refl _ _) (fun _ => (Touches.mono (writeReg_touches _ _ _ _ _) rfl))))

theorem execRelease_touches (h : Option FlitHdr) (port : Nat) (msg : Nat) (s : State) :
    Nexts [.rings, .regs, .logs, .lat, .counters, .out] s (execRelease h port msg s) := by
  unfold execRelease
  dsimp only
  exact (nexts (rxCtrl_touches _ _ _ _ rfl (Touches.refl _ _) (fun _ => (touches_ite (Touches.refl _ _) (Touches.before (touches_ite (upd_lat rfl (Touches.refl _ _)) (touches_ite (Touches.mono (lapse_touches _) rfl) (Touches.refl _ _))) (Touches.before (Touches.mono (notePartial_touches _ _) rfl) (Touches.mono (sendRelease_touches _ _ _) rfl)))))))

theorem execReleaseDelayExpiry_touches (s : State) :
    Nexts [.clk, .parts, .layout, .layoutPend, .slots, .buf, .comp, .ctl, .hbm, .tiles, .rings, .regs, .logs, .win, .pm, .lat, .counters, .out] s (execReleaseDelayExpiry s) := by
  unfold execReleaseDelayExpiry
  exact (by split; exact (nexts (Touches.refl _ _)); exact (nexts_ite (nexts (Touches.mono (applyRelease_touches _ _) rfl)) (nexts (Touches.refl _ _))))

theorem execReplacementClear_touches (q : MciReq) (s : State) :
    Nexts [.rings, .regs, .logs, .fw, .counters, .out] s (execReplacementClear q s) := by
  unfold execReplacementClear
  exact (nexts (Touches.mono (replacementCommand_touches _ _) rfl))

theorem execReplacementQuery_touches (q : MciReq) (s : State) :
    Nexts [.rings, .regs, .logs, .fw, .counters, .out] s (execReplacementQuery q s) := by
  unfold execReplacementQuery
  exact (nexts (Touches.mono (replacementCommand_touches _ _) rfl))

theorem execReplayTimeout_touches (port : Nat) (s : State) :
    Nexts [.lat, .counters] s (execReplayTimeout port s) := by
  unfold execReplayTimeout
  dsimp only
  exact (nexts_ite (nexts (Touches.mono (replayFrom_touches _ _ _) rfl)) (nexts (Touches.refl _ _)))

theorem execResetHoldExpiry_touches (s : State) :
    Nexts [.clk, .pins, .boot, .fmap, .hbm, .logs, .lanes, .fw, .pm, .lat, .pool, .counters] s (execResetHoldExpiry s) := by
  unfold execResetHoldExpiry
  exact (nexts_ite (nexts (Touches.refl _ _)) (nexts (Touches.mono (beginStart_touches _) rfl)))

theorem execResidualReturn_touches (port : Nat) (s : State) :
    Nexts [.clk, .parts, .layout, .layoutPend, .slots, .buf, .comp, .ctl, .hbm, .tiles, .rings, .regs, .logs, .win, .lat, .counters, .out] s (execResidualReturn port s) := by
  unfold execResidualReturn
  dsimp only
  exact (by split; exact (nexts_ite (nexts (Touches.refl _ _)) (nexts_ite (nexts (Touches.mono (toPartTick_touches _ _ _) rfl)) (nexts (Touches.before (Touches.mono (updPipe_touches _ _ _) rfl) (Touches.before (Touches.mono (updComp_touches _ _ _ _) rfl) (Touches.mono (toPartTick_touches _ _ _) rfl)))))); exact (nexts (Touches.refl _ _)))

theorem execRetrainTimeout_touches (port : Nat) (s : State) :
    Nexts [.ctl, .rings, .regs, .logs, .fw, .lat, .pool, .counters, .out] s (execRetrainTimeout port s) := by
  unfold execRetrainTimeout
  exact (nexts_ite (nexts (withLost_touches _ _ rfl (Touches.refl _ _) (fun _ => (Touches.mono (failPort_touches _ _) rfl)))) (nexts (Touches.refl _ _)))

theorem execRingDisable_touches (fn : Nat) (ring : Nat) (rest : Nat) (s : State) :
    Nexts [.rings, .out] s (execRingDisable fn ring rest s) := by
  unfold execRingDisable
  exact (nexts_ite (nexts (Touches.refl _ _)) (nexts (barWrite_touches _ _ _ rfl (Touches.refl _ _) (fun _ => (Touches.before (Touches.mono (writeMarks_touches _ _ _ _) rfl) (Touches.mono (ringDisable_touches _ _ _) rfl))))))

theorem execRingDoorbell_touches (fn : Nat) (ring : Nat) (value : BitVec 32) (whole : Bool) (s : State) :
    Nexts [.parts, .ctl, .hbm, .rings, .counters, .out] s (execRingDoorbell fn ring value whole s) := by
  unfold execRingDoorbell
  exact (nexts (barWrite_touches _ _ _ rfl (Touches.refl _ _) (fun _ => (Touches.mono (ringDoorbell_touches _ _ _ _ _) rfl))))

theorem execRingEnable_touches (fn : Nat) (ring : Nat) (s : State) :
    Nexts [.rings, .out] s (execRingEnable fn ring s) := by
  unfold execRingEnable
  exact (nexts_ite (nexts (Touches.refl _ _)) (nexts (barWrite_touches _ _ _ rfl (Touches.refl _ _) (fun _ => (Touches.mono (ringEnable_touches _ _ _) rfl)))))

theorem execRingFetch_touches (fn : Nat) (ring : Nat) (units : List (BitVec 512)) (list : List BufIn) (s : State) :
    Nexts [.parts, .hbm, .rings, .out] s (execRingFetch fn ring units list s) := by
  unfold execRingFetch
  dsimp only
  exact (nexts_ite (nexts (Touches.refl _ _)) (nexts (Touches.before (Touches.mono (wakeNamed_touches _) rfl) (by split; exact (touches_ite (Touches.before (Touches.mono (updRing_touches _ _ _ _) rfl) (Touches.mono (emitAll_touches _ _) rfl)) (Touches.before (Touches.mono (updRing_touches _ _ _ _) rfl) (Touches.mono (emitAll_touches _ _) rfl))); exact (Touches.before (Touches.mono (updRing_touches _ _ _ _) rfl) (Touches.mono (emitAll_touches _ _) rfl))))))

theorem execRng_touches (e : EvRef) (s : State) :
    Nexts [.clk, .parts, .buf, .ctl, .tiles, .regs, .lat, .counters, .out] s (execRng e s) := by
  unfold execRng
  dsimp only
  exact (atEvent_touches _ _ _ _ rfl (fun _ _ => (by split; exact (Touches.refl _ _); exact (touches_ite (Touches.mono (addDue_touches _ _ _) rfl) (Touches.mono (updPipe_touches _ _ _) rfl)))))

theorem execRootPllLock_touches (s : State) :
    Nexts [.clk] s (execRootPllLock s) := by
  unfold execRootPllLock
  dsimp only
  exact (nexts_ite (nexts (Touches.refl _ _)) (nexts (upd_clk rfl (Touches.refl _ _))))

theorem execRowSwitchGap_touches (pc : Nat) (cell : Nat) (s : State) :
    Nexts [.clk, .parts, .buf, .ctl, .hbm, .tiles, .regs, .lat, .counters, .out] s (execRowSwitchGap pc cell s) := by
  unfold execRowSwitchGap
  dsimp only
  exact (by split; exact (nexts (Touches.refl _ _)); exact (nexts_ite (nexts (Touches.refl _ _)) (nexts (Touches.before (Touches.mono (emitAll_touches _ _) rfl) (Touches.before (Touches.mono (updPc_touches _ _ _) rfl) (Touches.before (Touches.mono (restoreRows_touches _ _) rfl) (Touches.mono (advance_touches _ _) rfl)))))))

theorem execRunComplete_touches (fn : Nat) (ring : Nat) (seq : BitVec 32) (s : State) :
    Nexts [.rings, .out] s (execRunComplete fn ring seq s) := by
  unfold execRunComplete
  dsimp only
  exact (by split; exact (nexts (Touches.refl _ _)); exact (by split; exact (nexts (Touches.refl _ _)); exact (nexts (Touches.mono (completeOutst_touches _ _ _ _ _) rfl))))

theorem execScatter_touches (e : EvRef) (s : State) :
    Nexts [.clk, .parts, .buf, .ctl, .tiles, .regs, .lat, .counters, .out] s (execScatter e s) := by
  unfold execScatter
  dsimp only
  exact (atEvent_touches _ _ _ _ rfl (fun _ _ => (by split; exact (Touches.refl _ _); exact (by split; exact (Touches.before (Touches.mono (writeFrom_touches _ _ _ _ _ _ _) rfl) (Touches.mono (useEntry_touches _ _ _ _) rfl)); exact (Touches.before (Touches.mono (noteWrite_touches _ _ _ _ _ _ _) rfl) (Touches.mono (useEntry_touches _ _ _ _) rfl))))))

theorem execScheduledRead_touches (e : EvRef) (s : State) :
    Nexts [.clk, .parts, .buf, .ctl, .tiles, .regs, .lat, .counters, .out] s (execScheduledRead e s) := by
  unfold execScheduledRead
  exact (atEvent_touches _ _ _ _ rfl (fun _ _ => (Touches.mono (readInto_touches _ _ _ _ _ _ _) rfl)))

theorem execScheduledWrite_touches (e : EvRef) (s : State) :
    Nexts [.clk, .parts, .buf, .ctl, .tiles, .regs, .lat, .counters, .out] s (execScheduledWrite e s) := by
  unfold execScheduledWrite
  exact (atEvent_touches _ _ _ _ rfl (fun _ _ => (Touches.mono (writeFrom_touches _ _ _ _ _ _ _) rfl)))

theorem execScrubVisit_touches (router : Nat) (s : State) :
    Nexts [.clk, .parts, .layout, .layoutPend, .slots, .buf, .comp, .ctl, .hbm, .tiles, .rings, .regs, .logs, .win, .lat, .counters, .out, .free] s (execScrubVisit router s) := by
  unfold execScrubVisit
  dsimp only
  exact (nexts_ite (nexts (Touches.refl _ _)) (nexts (Touches.before (upd_buf rfl (Touches.refl _ _)) (Touches.before (touches_ite (Touches.refl _ _) (Touches.mono (storeLine_touches _ _ _ _ _ _ _) rfl)) (Touches.before (Touches.mono (countErrors_touches _ _ _ _ _ _) rfl) (Touches.before (Touches.mono (injectLine_touches _ _ _) rfl) (Touches.mono (toCommit_touches _ _ _) rfl)))))))

theorem execSensorQuery_touches (q : MciReq) (s : State) :
    Nexts [.rings, .regs, .fw, .out] s (execSensorQuery q s) := by
  unfold execSensorQuery
  dsimp only
  exact (nexts (mciFixed_touches _ _ _ _ _ _ _ rfl (Touches.refl _ _) (fun _ => (Touches.mono (mciAnswer_touches _ _ _ _ _ _ _) rfl))))

theorem execSensorSample_touches (sensor : Nat) (raw : BitVec 16) (s : State) :
    Nexts [.pins, .boot, .ctl, .rings, .regs, .logs, .pm, .counters, .out] s (execSensorSample sensor raw s) := by
  unfold execSensorSample
  dsimp only
  exact (nexts_ite (nexts (Touches.refl _ _)) (nexts (Touches.before (Touches.mono (settleAlert_touches _) rfl) (Touches.before (touches_ite (Touches.before (Touches.mono (evaluateFor_touches _ _ _) rfl) (Touches.before (Touches.mono (noteCoverage_touches _ _) rfl) (Touches.mono (judgeSample_touches _ _ _) rfl))) (Touches.mono (romSample_touches _ _ _) rfl)) (Touches.before (Touches.mono (countHot_touches _ _ _) rfl) (touches_ite (Touches.mono (injectDone_touches _) rfl) (Touches.refl _ _)))))))

theorem execSliceRd_touches (header : BitVec 64) (words : List Nat) (s : State) :
    Nexts [.buf, .rings, .out, .free] s (execSliceRd header words s) := by
  unfold execSliceRd
  exact (nexts_ite (nexts (Touches.mono (ctlArrive_touches _ _ _ _ _ _ _) rfl)) (nexts (Touches.refl _ _)))

theorem execSliceWr_touches (header : BitVec 64) (words : List Nat) (s : State) :
    Nexts [.buf, .rings, .out, .free] s (execSliceWr header words s) := by
  unfold execSliceWr
  dsimp only
  exact (nexts_ite (nexts (Touches.mono (ctlArrive_touches _ _ _ _ _ _ _) rfl)) (nexts (Touches.refl _ _)))

theorem execSocketStatus_touches (router : Nat) (status : BitVec 4) (s : State) :
    Nexts [.parts, .ctl, .tiles, .counters] s (execSocketStatus router status s) := by
  unfold execSocketStatus
  dsimp only
  exact (nexts (Touches.before (touches_ite (Touches.mono (socketStall_touches _ _ _) rfl) (Touches.refl _ _)) (Touches.before (touches_ite (Touches.mono (socketStall_touches _ _ _) rfl) (Touches.refl _ _)) (touches_ite (Touches.mono (bondParity_touches _ _) rfl) (Touches.refl _ _)))))

theorem execSpares_touches (t : Nat) (rx : List SvcClock) (s : State) :
    Nexts [.tiles, .out] s (execSpares t rx s) := by
  unfold execSpares
  dsimp only
  exact (by split; exact (nexts (Touches.refl _ _)); exact (nexts_ite (nexts (Touches.mono (ackAgain_touches _ _ _ _ _) rfl)) (nexts_ite (nexts (Touches.before (Touches.mono (sendAck_touches _ _ _) rfl) (Touches.mono (updTile_touches _ _ _) rfl))) (nexts (Touches.before (Touches.mono (sendTile_touches _ _ _ _ _ _) rfl) (Touches.before (Touches.mono (updTile_touches _ _ _) rfl) (Touches.before (Touches.mono (sendAck_touches _ _ _) rfl) (Touches.mono (updTile_touches _ _ _) rfl))))))))

theorem execSpdmRequest_touches (transport : Nat) (src : Nat) (kind : Nat) (content : Nat) (s : State) :
    Nexts [.fw, .out] s (execSpdmRequest transport src kind content s) := by
  unfold execSpdmRequest
  dsimp only
  exact (nexts_ite (nexts (Touches.refl _ _)) (nexts (Touches.before (Touches.mono (emit_touches _ _) rfl) (upd_fw rfl (Touches.refl _ _)))))

theorem execStageComplete_touches (fn : Nat) (s : State) :
    Nexts [.buf, .hbm, .tiles, .rings, .lanes, .out] s (execStageComplete fn s) := by
  unfold execStageComplete
  dsimp only
  exact (by split; exact (nexts (Touches.refl _ _)); exact (nexts (Touches.before (Touches.mono (beginTest_touches _) rfl) (Touches.mono (completeOutst_touches _ _ _ _ _) rfl))))

theorem execStageStart_touches (fn : Nat) (data : List (Option LineData)) (s : State) :
    Nexts [.buf, .ctl, .hbm, .dense, .rings, .win, .counters, .out, .free] s (execStageStart fn data s) := by
  unfold execStageStart
  exact (by split; exact (nexts (Touches.refl _ _)); exact (nexts_ite (nexts (Touches.refl _ _)) (by split; exact (nexts (Touches.before (Touches.mono (rejectHead_touches _ _ _ _ _) rfl) (Touches.mono (startTurn_touches _ _ _ (by assumption)) rfl))); exact (nexts (Touches.before (Touches.mono (stageStart_touches _ _ _ _) rfl) (Touches.mono (startTurn_touches _ _ _ (by assumption)) rfl))))))

theorem execStandbyPowerOff_touches (s : State) :
    Nexts [.clk, .pins, .boot, .parts, .layout, .layoutPend, .slots, .buf, .comp, .ctl, .fmap, .hbm, .dense, .tiles, .rings, .regs, .logs, .win, .lanes, .fw, .pm, .lat, .pool, .counters, .out] s (execStandbyPowerOff s) := by
  unfold execStandbyPowerOff
  dsimp only
  exact (nexts_ite (nexts (Touches.refl _ _)) (nexts (Touches.before (upd_clk_pins_boot_buf_hbm_logs_lanes_pm rfl (Touches.refl _ _)) (Touches.before (Touches.mono (coldClear_touches _) rfl) (Touches.before (Touches.mono (restPm_touches _) rfl) (Touches.mono (stopModule_touches _) rfl))))))

theorem execStandbyPowerOn_touches (s : State) :
    Nexts [.clk, .pins, .boot, .pm] s (execStandbyPowerOn s) := by
  unfold execStandbyPowerOn
  dsimp only
  exact (nexts_ite (nexts (Touches.refl _ _)) (nexts (upd_clk_pins_boot_pm rfl (Touches.refl _ _))))

theorem execStatus_touches (id : Nat) (s : State) :
    Nexts [.ctl, .hbm, .dense, .rings, .regs, .fw, .lat, .pool, .counters, .out] s (execStatus id s) := by
  unfold execStatus
  exact (nexts (Touches.mono (runToken_touches _ _ _) rfl))

theorem execStitchRetrain_touches (results : List StitchTrain) (s : State) :
    Nexts [.clk, .parts, .layout, .layoutPend, .slots, .buf, .comp, .ctl, .fmap, .hbm, .tiles, .rings, .regs, .logs, .win, .lanes, .lat, .counters, .out] s (execStitchRetrain results s) := by
  unfold execStitchRetrain
  dsimp only
  exact (nexts_ite (nexts (Touches.refl _ _)) (nexts (Touches.before (touches_foldl (Touches.refl _ _) (fun _ _ => (touches_ite (Touches.mono (releasePart_touches _ _) rfl) (Touches.refl _ _)))) (Touches.before (Touches.mono (mergeFaultMap_touches _) rfl) (Touches.before (Touches.mono (stitchResults_touches _ _) rfl) (Touches.mono (stitchPass_touches _ _) rfl))))))

theorem execStitchTrainingDone_touches (results : List StitchTrain) (links : List LinkTrain) (dead : List Nat) (s : State) :
    Nexts [.clk, .boot, .parts, .layout, .layoutPend, .slots, .buf, .comp, .ctl, .fmap, .hbm, .tiles, .rings, .regs, .logs, .win, .lanes, .lat, .counters, .out] s (execStitchTrainingDone results links dead s) := by
  unfold execStitchTrainingDone
  dsimp only
  exact (nexts_ite (nexts (Touches.refl _ _)) (nexts (Touches.before (Touches.mono (stepDone_touches _ _) rfl) (Touches.before (touches_ite (Touches.mono (zeroBuffer_touches _) rfl) (Touches.refl _ _)) (Touches.before (touches_foldl (Touches.refl _ _) (fun _ _ => (Touches.mono (deadRouter_touches _ _) rfl))) (Touches.before (touches_foldl (Touches.refl _ _) (fun _ _ => (Touches.mono (stitchLink_touches _ _) rfl))) (Touches.before (Touches.mono (stitchResults_touches _ _) rfl) (Touches.mono (stitchPass_touches _ _) rfl))))))))

theorem execTelemetryInject_touches (endpoint : Nat) (left : Nat) (content : Nat) (event : Option PktIn) (s : State) :
    Nexts [.ctl, .counters, .out] s (execTelemetryInject endpoint left content event s) := by
  unfold execTelemetryInject
  dsimp only
  exact (by split; exact (nexts (Touches.before (Touches.mono (sendEvent_touches _ _) rfl) (Touches.mono (drainQueue_touches _ _ _) rfl))); exact (nexts_ite (nexts (Touches.before (Touches.mono (countUp_touches _ _ _) rfl) (Touches.mono (drainQueue_touches _ _ _) rfl))) (nexts (Touches.before (Touches.mono (emit_touches _ _) rfl) (Touches.before (upd_ctl rfl (Touches.refl _ _)) (Touches.mono (drainQueue_touches _ _ _) rfl))))))

theorem execThermalTrip_touches (sensor : Nat) (s : State) :
    Nexts [.clk, .pins, .boot, .parts, .layout, .layoutPend, .slots, .buf, .comp, .ctl, .fmap, .hbm, .dense, .tiles, .rings, .regs, .logs, .win, .lanes, .fw, .lat, .pool, .counters, .out] s (execThermalTrip sensor s) := by
  unfold execThermalTrip
  dsimp only
  exact (nexts_ite (nexts (Touches.refl _ _)) (nexts (Touches.before (upd_pins_boot rfl (Touches.refl _ _)) (Touches.before (Touches.mono (dropRegulators_touches _) rfl) (Touches.before (Touches.mono (fatalStop_touches _) rfl) (Touches.mono (fatalEvent_touches _ _ _) rfl))))))

theorem execThrottleBoundary_touches (s : State) :
    Nexts [.clk, .parts, .layout, .layoutPend, .slots, .buf, .comp, .ctl, .hbm, .tiles, .rings, .regs, .logs, .win, .lat, .counters, .out] s (execThrottleBoundary s) := by
  unfold execThrottleBoundary
  exact (nexts_ite (nexts (Touches.mono (runTo_touches _ _) rfl)) (nexts (Touches.refl _ _)))

theorem execTileError_touches (t : Nat) (rx : List SvcClock) (s : State) :
    Nexts [.tiles, .rings, .regs, .logs, .counters, .out] s (execTileError t rx s) := by
  unfold execTileError
  exact (by split; exact (nexts (Touches.refl _ _)); exact (nexts (Touches.before (Touches.mono (mpEvent_touches _ _ _ _ _) rfl) (Touches.mono (sendAck_touches _ _ _) rfl))))

theorem execTileOvercurrent_touches (tile : Nat) (s : State) :
    Nexts [.ctl, .pm, .counters] s (execTileOvercurrent tile s) := by
  unfold execTileOvercurrent
  dsimp only
  exact (nexts_ite (nexts (Touches.refl _ _)) (nexts (Touches.before (touches_ite (Touches.before (Touches.mono (blockFault_touches _ _ _ _ _ _) rfl) (upd_pm rfl (Touches.refl _ _))) (Touches.refl _ _)) (Touches.mono (countUp_touches _ _ _) rfl))))

theorem execTileRediscovery_touches (tile : Nat) (cell : Nat) (s : State) :
    Nexts [.clk, .fmap, .tiles, .rings, .regs, .logs, .lanes, .counters, .out] s (execTileRediscovery tile cell s) := by
  unfold execTileRediscovery
  dsimp only
  exact (by split; exact (nexts (Touches.refl _ _)); exact (nexts_ite (nexts (Touches.refl _ _)) (nexts (Touches.before (Touches.mono (startTile_touches _ _) rfl) (Touches.before (Touches.mono (passPs_touches _ _) rfl) (touches_ite (Touches.mono (fuseCluster_touches _ _) rfl) (upd_lanes rfl (Touches.refl _ _))))))))

theorem execTileSensorFrame_touches (t : Nat) (readings : List (BitVec 16)) (crc : BitVec 16) (s : State) :
    Nexts [.ctl, .tiles, .rings, .regs, .logs, .pm, .counters, .out] s (execTileSensorFrame t readings crc s) := by
  unfold execTileSensorFrame
  dsimp only
  exact (nexts_ite (nexts (Touches.refl _ _)) (nexts (Touches.before (touches_ite (Touches.refl _ _) (Touches.before (Touches.mono (evaluateFor_touches _ _ _) rfl) (Touches.before (Touches.mono (noteCoverage_touches _ _) rfl) (touches_ite (Touches.mono (usableFrame_touches _ _ _) rfl) (Touches.mono (unusableFrame_touches _ _) rfl))))) (Touches.mono (updTile_touches _ _ _) rfl))))

theorem execTileShutdown_touches (tile : Nat) (s : State) :
    Nexts [.ctl, .fmap, .tiles, .rings, .regs, .logs, .pm, .counters, .out] s (execTileShutdown tile s) := by
  unfold execTileShutdown
  dsimp only
  exact (nexts_ite (nexts (Touches.refl _ _)) (nexts (Touches.before (Touches.mono (evaluateRequests_touches _) rfl) (Touches.before (Touches.mono (blockFault_touches _ _ _ _ _ _) rfl) (Touches.before (upd_fmap_pm rfl (Touches.refl _ _)) (Touches.mono (updTile_touches _ _ _) rfl))))))

theorem execTrainingRetry_touches (port : Nat) (s : State) :
    Nexts [.rings, .regs, .logs, .lat, .counters, .out] s (execTrainingRetry port s) := by
  unfold execTrainingRetry
  dsimp only
  exact (nexts_ite (nexts (Touches.before (Touches.mono (evaluateFor_touches _ _ _) rfl) (Touches.mono (updPort_touches _ _ _) rfl))) (nexts (Touches.refl _ _)))

theorem execTreq_touches (h : Option FlitHdr) (port : Nat) (msg : Nat) (s : State) :
    Nexts [.regs, .pm, .lat, .counters, .out] s (execTreq h port msg s) := by
  unfold execTreq
  exact (nexts (rxCtrl_touches _ _ _ _ rfl (Touches.refl _ _) (fun _ => (touches_ite (Touches.refl _ _) (touches_ite (Touches.mono (takeRequest_touches _ _ _) rfl) (by split; exact (Touches.refl _ _); exact (Touches.mono (sendCtrl_touches _ _ _) rfl)))))))

theorem execTrialBootTimeout_touches (s : State) :
    Nexts [.boot, .rings, .regs, .logs, .fw, .counters, .out] s (execTrialBootTimeout s) := by
  unfold execTrialBootTimeout
  dsimp only
  exact (nexts_ite (nexts (Touches.refl _ _)) (nexts (Touches.before (Touches.mono (failedBoot_touches _) rfl) (touches_ite (upd_boot rfl (Touches.refl _ _)) (Touches.refl _ _)))))

theorem execTset_touches (h : Option FlitHdr) (port : Nat) (msg : Nat) (s : State) :
    Nexts [.clk, .regs, .pm, .lat, .counters, .out] s (execTset h port msg s) := by
  unfold execTset
  dsimp only
  exact (nexts (rxCtrl_touches _ _ _ _ rfl (Touches.refl _ _) (fun _ => (touches_ite (Touches.refl _ _) (Touches.before (touches_ite (upd_pm rfl (Touches.refl _ _)) (touches_ite (upd_pm_lat rfl (Touches.refl _ _)) (Touches.before (Touches.mono (writeSetting_touches _ _) rfl) (Touches.before (Touches.mono (countUp_touches _ _ _) rfl) (upd_pm_lat rfl (Touches.refl _ _)))))) (touches_foldl (Touches.refl _ _) (fun _ _ => (by split; exact (Touches.refl _ _); exact (Touches.mono (sendCtrl_touches _ _ _) rfl)))))))))

theorem execUnbindEffect_touches (k : Nat) (s : State) :
    Nexts [.clk, .parts, .layout, .layoutPend, .slots, .buf, .comp, .ctl, .hbm, .tiles, .rings, .regs, .logs, .win, .lat, .counters, .out] s (execUnbindEffect k s) := by
  unfold execUnbindEffect
  exact (nexts_ite (nexts (Touches.mono (toBoundary_touches _) rfl)) (nexts (Touches.refl _ _)))

theorem execUnitZeroFill_touches (unit : Nat) (s : State) :
    Nexts [.hbm, .dense, .lat, .pool, .out] s (execUnitZeroFill unit s) := by
  unfold execUnitZeroFill
  dsimp only
  exact (nexts_ite (nexts (Touches.before (Touches.mono (zeroKey_touches _ _) rfl) (upd_pool rfl (Touches.refl _ _)))) (by split; exact (nexts (Touches.refl _ _)); exact (nexts (Touches.before (touches_ite (Touches.mono (extentsDone_touches _ _) rfl) (Touches.refl _ _)) (Touches.before (Touches.mono (zeroKey_touches _ _) rfl) (Touches.mono (updRegion_touches _ _ _) rfl))))))

theorem execUnlease_touches (id : Nat) (s : State) :
    Nexts [.ctl, .hbm, .dense, .rings, .regs, .fw, .lat, .pool, .counters, .out] s (execUnlease id s) := by
  unfold execUnlease
  exact (nexts (Touches.mono (runToken_touches _ _ _) rfl))

theorem execUnreservedUpBeat_touches (router : Nat) (beat : BeatIn) (s : State) :
    Nexts [.parts, .ctl, .tiles, .counters] s (execUnreservedUpBeat router beat s) := by
  unfold execUnreservedUpBeat
  exact (nexts_ite (nexts (Touches.refl _ _)) (by split; exact (nexts_ite (nexts (Touches.refl _ _)) (nexts (Touches.mono (socketStall_touches _ _ _) rfl))); exact (nexts (Touches.mono (socketStall_touches _ _ _) rfl))))

theorem execUnscheduledAccess_touches (pc : Nat) (sev : Nat) (s : State) :
    Nexts [.parts, .ctl, .hbm, .dense, .rings, .regs, .logs, .fw, .lat, .pool, .counters, .out, .free] s (execUnscheduledAccess pc sev s) := by
  unfold execUnscheduledAccess
  dsimp only
  exact (nexts_ite (nexts (Touches.refl _ _)) (by split; exact (nexts (Touches.refl _ _)); exact (nexts (by split; exact (Touches.before (Touches.mono (serveReq_touches _ _ _) rfl) (Touches.before (Touches.mono (updPc_touches _ _ _) rfl) (Touches.before (Touches.mono (updPc_touches _ _ _) rfl) (touches_ite (Touches.refl _ _) (Touches.before (Touches.mono (hbmCount_touches _ _ _ _) rfl) (Touches.before (Touches.mono (moveRows_touches _ _) rfl) (Touches.mono (wakeStack_touches _ _) rfl))))))); exact (Touches.before (Touches.mono (denseGo_touches _) rfl) (Touches.before (Touches.mono (serveCache_touches _ _ _ _) rfl) (Touches.before (Touches.mono (updPc_touches _ _ _) rfl) (Touches.before (Touches.mono (updPc_touches _ _ _) rfl) (touches_ite (Touches.refl _ _) (Touches.before (Touches.mono (hbmCount_touches _ _ _ _) rfl) (Touches.before (Touches.mono (moveRows_touches _ _) rfl) (Touches.mono (wakeStack_touches _ _) rfl))))))))))))

theorem execUpdate_touches (e : EvRef) (s : State) :
    Nexts [.clk, .parts, .buf, .ctl, .tiles, .regs, .lat, .counters, .out] s (execUpdate e s) := by
  unfold execUpdate
  dsimp only
  exact (atEvent_touches _ _ _ _ rfl (fun _ _ => (by split; exact (Touches.refl _ _); exact (by split; exact (Touches.before (Touches.mono (dataPathBreach_touches _ _ _) rfl) (Touches.before (Touches.mono (countIdleOp_touches _ _) rfl) (Touches.of_snd (Touches.after (gradient_touches _ _ _ _ _) rfl (Touches.refl _ _)) (by assumption)))); exact (Touches.before (Touches.mono (addDue_touches _ _ _) rfl) (Touches.before (Touches.mono (portRead_touches _ _ _ _ _ _) rfl) (Touches.of_snd (Touches.after (gradient_touches _ _ _ _ _) rfl (Touches.refl _ _)) (by assumption))))))))

theorem execUreqCmd_touches (h : FlitHdr) (u : UnschIn) (s : State) :
    Nexts [.regs, .lat, .pool, .counters, .out] s (execUreqCmd h u s) := by
  unfold execUreqCmd
  exact (nexts (takeReq_touches _ _ _ _ _ rfl (Touches.refl _ _) (fun _ => (Touches.mono (reqCmd_touches _ _ _) rfl))))

theorem execUreqDelta_touches (h : FlitHdr) (u : UnschIn) (s : State) :
    Nexts [.hbm, .dense, .regs, .lat, .pool, .counters, .out] s (execUreqDelta h u s) := by
  unfold execUreqDelta
  exact (nexts (takeReq_touches _ _ _ _ _ rfl (Touches.refl _ _) (fun _ => (Touches.mono (reqDelta_touches _ _ _) rfl))))

theorem execUreqRead_touches (h : FlitHdr) (u : UnschIn) (s : State) :
    Nexts [.hbm, .dense, .regs, .lat, .pool, .counters, .out] s (execUreqRead h u s) := by
  unfold execUreqRead
  exact (nexts (takeReq_touches _ _ _ _ _ rfl (Touches.refl _ _) (fun _ => (Touches.mono (reqRead_touches _ _ _) rfl))))

theorem execUreqRebuild_touches (h : FlitHdr) (u : UnschIn) (s : State) :
    Nexts [.hbm, .dense, .regs, .lat, .pool, .counters, .out] s (execUreqRebuild h u s) := by
  unfold execUreqRebuild
  exact (nexts (takeReq_touches _ _ _ _ _ rfl (Touches.refl _ _) (fun _ => (Touches.mono (reqRebuild_touches _ _ _) rfl))))

theorem execUreqRepeat_touches (dst : Nat) (tag : Nat) (s : State) :
    Nexts [.lat] s (execUreqRepeat dst tag s) := by
  unfold execUreqRepeat
  dsimp only
  exact (by split; exact (nexts (Touches.refl _ _)); exact (nexts_ite (by split; exact (nexts (upd_lat rfl (Touches.refl _ _))); exact (nexts (Touches.before (Touches.mono (sendFlit_touches _ _ _ _) rfl) (upd_lat rfl (Touches.refl _ _))))) (nexts (Touches.refl _ _))))

theorem execUreqTable_touches (h : FlitHdr) (u : UnschIn) (s : State) :
    Nexts [.hbm, .dense, .rings, .regs, .win, .fw, .lat, .pool, .counters, .out] s (execUreqTable h u s) := by
  unfold execUreqTable
  exact (nexts (takeReq_touches _ _ _ _ _ rfl (Touches.refl _ _) (fun _ => (Touches.mono (tableHere_touches _ _ _ _ _) rfl))))

theorem execUreqToken_touches (h : FlitHdr) (u : UnschIn) (s : State) :
    Nexts [.ctl, .hbm, .dense, .rings, .regs, .fw, .lat, .pool, .counters, .out] s (execUreqToken h u s) := by
  unfold execUreqToken
  exact (nexts (takeReq_touches _ _ _ _ _ rfl (Touches.refl _ _) (fun _ => (Touches.mono (reqToken_touches _ _ _) rfl))))

theorem execUreqWrite_touches (h : FlitHdr) (u : UnschIn) (s : State) :
    Nexts [.hbm, .dense, .regs, .lat, .pool, .counters, .out] s (execUreqWrite h u s) := by
  unfold execUreqWrite
  exact (nexts (takeReq_touches _ _ _ _ _ rfl (Touches.refl _ _) (fun _ => (Touches.mono (reqWrite_touches _ _ _) rfl))))

theorem execUrsp_touches (h : FlitHdr) (uop : Nat) (u : UnschIn) (s : State) :
    Nexts [.hbm, .dense, .rings, .regs, .fw, .lat, .pool, .counters, .out] s (execUrsp h uop u s) := by
  unfold execUrsp
  exact (nexts (rxFlit_touches _ _ _ rfl (Touches.refl _ _) (fun _ => (touches_ite (Touches.mono (takeRsp_touches _ _ _ _) rfl) (Touches.mono (passOn_touches _ _ _ _ _) rfl)))))

theorem execVddtReached_touches (t : Nat) (s : State) :
    Nexts [.fmap, .tiles, .rings, .regs, .logs, .fw, .pm, .lat, .counters, .out] s (execVddtReached t s) := by
  unfold execVddtReached
  dsimp only
  exact (nexts_ite (nexts (Touches.refl _ _)) (nexts (Touches.before (touches_ite (Touches.mono (sendBoot_touches _ _ _) rfl) (Touches.refl _ _)) (Touches.mono (updTile_touches _ _ _) rfl))))

theorem execVetAccept_touches (q : MciReq) (s : State) :
    Nexts [.rings, .regs, .fw, .pm, .lat, .out] s (execVetAccept q s) := by
  have h : ∀ v t, Touches [.rings, .regs, .fw, .pm, .lat, .out] t (noteVet t { t with fw := v }) := fun v t =>
    Touches.after (noteVet_touches _ _) rfl (upd_fw rfl (Touches.refl _ _))
  unfold execVetAccept
  dsimp only
  refine nexts (mciFixed_touches _ _ _ _ _ _ _ rfl (Touches.refl _ _) fun t => ?_)
  refine touches_ite ?_ (Touches.mono (mciStatus_touches _ _ _ _) rfl)
  exact Touches.after (mciStatus_touches _ _ _ _) rfl (Touches.after (rejoinGroup_touches _) rfl (Touches.after (notify_touches _ _ _ _) rfl (h _ _)))

theorem execVetReport_touches (q : MciReq) (s : State) :
    Nexts [.rings, .regs, .fw, .out] s (execVetReport q s) := by
  unfold execVetReport
  exact (nexts (mciFixed_touches _ _ _ _ _ _ _ rfl (Touches.refl _ _) (fun _ => (Touches.mono (mciQuery_touches _ _ _ _) rfl))))

theorem execVetRevoke_touches (q : MciReq) (s : State) :
    Nexts [.rings, .regs, .logs, .fw, .pm, .lat, .counters, .out] s (execVetRevoke q s) := by
  unfold execVetRevoke
  dsimp only
  exact (nexts (mciFixed_touches _ _ _ _ _ _ _ rfl (Touches.refl _ _) (fun _ => (Touches.before (Touches.mono (mciStatus_touches _ _ _ _) rfl) (Touches.before (Touches.mono (recheckVet_touches _) rfl) (upd_fw rfl (Touches.refl _ _)))))))

theorem execWakeLatencySet_touches (q : MciReq) (s : State) :
    Nexts [.rings, .regs, .fw, .out] s (execWakeLatencySet q s) := by
  unfold execWakeLatencySet
  exact (nexts (mciFixed_touches _ _ _ _ _ _ _ rfl (Touches.refl _ _) (fun _ => (Touches.before (Touches.mono (mciStatus_touches _ _ _ _) rfl) (Touches.mono (updFn_touches _ _ _) rfl)))))

theorem execWin_touches (h : FlitHdr) (first : Nat) (total : Nat) (beats : List LineIn) (s : State) :
    Nexts [.regs, .lat, .counters, .out] s (execWin h first total beats s) := by
  unfold execWin
  exact (nexts (rxFlit_touches _ _ _ rfl (Touches.refl _ _) (fun _ => (touches_ite (Touches.mono (storeWin_touches _ _ _ _ _) rfl) (by split; exact (Touches.refl _ _); exact (Touches.mono (sendFlit_touches _ _ _ _) rfl))))))

theorem execWindowAgeOut_touches (port : Nat) (src : Nat) (stamp : BitVec 32) (s : State) :
    Nexts [.lat] s (execWindowAgeOut port src stamp s) := by
  unfold execWindowAgeOut
  dsimp only
  exact (nexts_ite (nexts (upd_lat rfl (Touches.refl _ _))) (nexts (Touches.refl _ _)))

theorem execWindowQuery_touches (q : MciReq) (s : State) :
    Nexts [.ctl, .rings, .regs, .win, .fw, .counters, .out] s (execWindowQuery q s) := by
  unfold execWindowQuery
  dsimp only
  exact (nexts (mciFixed_touches _ _ _ _ _ _ _ rfl (Touches.refl _ _) (fun _ => (touches_ite (Touches.before (Touches.mono (mciStatus_touches _ _ _ _) rfl) (Touches.mono (violation_touches _ _ _) rfl)) (Touches.mono (mciQuery_touches _ _ _ _) rfl)))))

theorem execWindowSwitch_touches (q : MciReq) (s : State) :
    Nexts [.clk, .parts, .layout, .layoutPend, .slots, .buf, .comp, .ctl, .hbm, .tiles, .rings, .regs, .logs, .win, .fw, .lat, .pool, .counters, .out] s (execWindowSwitch q s) := by
  unfold execWindowSwitch
  dsimp only
  exact (nexts (mciFixed_touches _ _ _ _ _ _ _ rfl (Touches.refl _ _) (fun _ => (Touches.before (Touches.mono (tableWait_touches _ _ _ _ _) rfl) (Touches.before (touches_ite_snd (Touches.mono (poolSwitch_touches _ _) rfl) (Touches.refl _ _)) (Touches.before (Touches.mono (switchFns_touches _ _) rfl) (Touches.mono (mciHold_touches _ _ _) rfl)))))))

theorem execWindowWrite_touches (q : MciReq) (s : State) :
    Nexts [.rings, .regs, .win, .fw, .out] s (execWindowWrite q s) := by
  unfold execWindowWrite
  dsimp only
  exact (nexts (mciRun_touches _ _ _ _ _ _ rfl (Touches.refl _ _) (fun _ => (Touches.before (Touches.mono (mciStatus_touches _ _ _ _) rfl) (upd_win rfl (Touches.refl _ _))))))

theorem execWriteWindowCell_touches (pc : Nat) (cell : Nat) (s : State) :
    Nexts [.clk, .parts, .buf, .ctl, .hbm, .tiles, .regs, .lat, .counters, .out] s (execWriteWindowCell pc cell s) := by
  unfold execWriteWindowCell
  dsimp only
  exact (by split; exact (nexts (Touches.refl _ _)); exact (nexts_ite (nexts (Touches.refl _ _)) (nexts_ite (nexts (Touches.before (Touches.mono (acceptBeat_touches _ _ _) rfl) (Touches.before (Touches.mono (acceptBeat_touches _ _ _) rfl) (Touches.before (Touches.mono (acceptBeat_touches _ _ _) rfl) (Touches.before (Touches.mono (restoreRows_touches _ _) rfl) (Touches.mono (advance_touches _ _) rfl)))))) (nexts (Touches.before (Touches.mono (restoreRows_touches _ _) rfl) (Touches.mono (advance_touches _ _) rfl))))))

theorem mciMessage_touches (op : Nat) (q : MciReq) (data : Nat) (found : List DriveIn) (s : State) :
    Nexts [.clk, .pins, .boot, .parts, .layout, .layoutPend, .slots, .buf, .comp, .ctl, .fmap, .hbm, .dense, .tiles, .rings, .regs, .logs, .win, .lanes, .fw, .pm, .lat, .pool, .counters, .out] s (mciMessage op q data found s) := by
  unfold mciMessage
  exact (by split; exact (Nexts.after (execMciInfo_touches _ _) rfl (Touches.refl _ _)); exact (Nexts.after (execMpReset_touches _ _) rfl (Touches.refl _ _)); exact (Nexts.after (execNotifySubscribe_touches _ _) rfl (Touches.refl _ _)); exact (Nexts.after (execClockCorrelate_touches _ _) rfl (Touches.refl _ _)); exact (Nexts.after (execFwInfo_touches _ _) rfl (Touches.refl _ _)); exact (Nexts.after (execFwWrite_touches _ _ _) rfl (Touches.refl _ _)); exact (Nexts.after (execFwVerify_touches _ _) rfl (Touches.refl _ _)); exact (Nexts.after (execFwActivate_touches _ _) rfl (Touches.refl _ _)); exact (Nexts.after (execFwCommit_touches _ _) rfl (Touches.refl _ _)); exact (Nexts.after (execKeyInstall_touches _ _) rfl (Touches.refl _ _)); exact (Nexts.after (execKeyRemove_touches _ _) rfl (Touches.refl _ _)); exact (Nexts.after (execKeyList_touches _ _) rfl (Touches.refl _ _)); exact (Nexts.after (execImagePolicy_touches _ _) rfl (Touches.refl _ _)); exact (Nexts.after (execVetReport_touches _ _) rfl (Touches.refl _ _)); exact (Nexts.after (execVetAccept_touches _ _) rfl (Touches.refl _ _)); exact (Nexts.after (execVetRevoke_touches _ _) rfl (Touches.refl _ _)); exact (Nexts.after (execImageLoad_touches _ _) rfl (Touches.refl _ _)); exact (Nexts.after (execImageBind_touches _ _) rfl (Touches.refl _ _)); exact (Nexts.after (execImageUnbind_touches _ _) rfl (Touches.refl _ _)); exact (Nexts.after (execImageEvict_touches _ _) rfl (Touches.refl _ _)); exact (Nexts.after (execImageQuery_touches _ _) rfl (Touches.refl _ _)); exact (Nexts.after (execPartitionSetLayout_touches _ _) rfl (Touches.refl _ _)); exact (Nexts.after (execPartitionQuery_touches _ _) rfl (Touches.refl _ _)); exact (Nexts.after (execPartitionReset_touches _ _) rfl (Touches.refl _ _)); exact (Nexts.after (execBufferScrub_touches _ _) rfl (Touches.refl _ _)); exact (Nexts.after (execLaneTest_touches _ _) rfl (Touches.refl _ _)); exact (Nexts.after (execLaneQuery_touches _ _) rfl (Touches.refl _ _)); exact (Nexts.after (execHbmAssign_touches _ _) rfl (Touches.refl _ _)); exact (Nexts.after (execHbmQuery_touches _ _) rfl (Touches.refl _ _)); exact (Nexts.after (execDenseAttach_touches _ _ _) rfl (Touches.refl _ _)); exact (Nexts.after (execDenseFlush_touches _ _) rfl (Touches.refl _ _)); exact (Nexts.after (execDenseQuery_touches _ _) rfl (Touches.refl _ _)); exact (Nexts.after (execPrioritySet_touches _ _) rfl (Touches.refl _ _)); exact (Nexts.after (execWindowWrite_touches _ _) rfl (Touches.refl _ _)); exact (Nexts.after (execWindowSwitch_touches _ _) rfl (Touches.refl _ _)); exact (Nexts.after (execWindowQuery_touches _ _) rfl (Touches.refl _ _)); exact (nexts_ite (Nexts.after (execPoolRegionReplace_touches _ _) rfl (Touches.refl _ _)) (Nexts.after (execPoolRegionCreate_touches _ _) rfl (Touches.refl _ _))); exact (Nexts.after (execPoolRegionDelete_touches _ _) rfl (Touches.refl _ _)); exact (Nexts.after (execPoolAccessSet_touches _ _) rfl (Touches.refl _ _)); exact (Nexts.after (execPoolQuery_touches _ _) rfl (Touches.refl _ _)); exact (Nexts.after (execLatticeConfig_touches _ _) rfl (Touches.refl _ _)); exact (Nexts.after (execLatticeQuery_touches _ _) rfl (Touches.refl _ _)); exact (Nexts.after (execBarrierPolicy_touches _ _) rfl (Touches.refl _ _)); exact (Nexts.after (execPowerCapSet_touches _ _) rfl (Touches.refl _ _)); exact (Nexts.after (execPowerQuery_touches _ _) rfl (Touches.refl _ _)); exact (Nexts.after (execWakeLatencySet_touches _ _) rfl (Touches.refl _ _)); exact (Nexts.after (execSensorQuery_touches _ _) rfl (Touches.refl _ _)); exact (Nexts.after (execEventRead_touches _ _) rfl (Touches.refl _ _)); exact (nexts_ite (Nexts.after (execErrlogClear_touches _ _) rfl (Touches.refl _ _)) (Nexts.after (execErrlogRead_touches _ _) rfl (Touches.refl _ _))); exact (Nexts.after (execCounterRead_touches _ _) rfl (Touches.refl _ _)); exact (Nexts.after (execCounterClear_touches _ _) rfl (Touches.refl _ _)); exact (Nexts.after (execFaultMapQuery_touches _ _) rfl (Touches.refl _ _)); exact (Nexts.after (execReplacementQuery_touches _ _) rfl (Touches.refl _ _)); exact (Nexts.after (execModuleReset_touches _ _) rfl (Touches.refl _ _)); exact (nexts (Touches.mono (mciReserved_touches _ _ _) rfl)))

theorem execMciItem_touches (fn : Nat) (data : Nat) (found : List DriveIn) (s : State) :
    Nexts [.clk, .pins, .boot, .parts, .layout, .layoutPend, .slots, .buf, .comp, .ctl, .fmap, .hbm, .dense, .tiles, .rings, .regs, .logs, .win, .lanes, .fw, .pm, .lat, .pool, .counters, .out] s (execMciItem fn data found s) := by
  unfold execMciItem
  dsimp only
  exact (by split; exact (nexts (Touches.refl _ _)); exact (nexts_ite (nexts (Touches.refl _ _)) (by split; exact (nexts (Touches.before (Touches.mono (rejectHead_touches _ _ _ _ _) rfl) (Touches.mono (startTurn_touches _ _ _ (by assumption)) rfl))); exact (Nexts.after (mciMessage_touches _ _ _ _ _) rfl (Touches.before (Touches.mono (consume_touches _ _ _ _) rfl) (Touches.mono (startTurn_touches _ _ _ (by assumption)) rfl))))))

theorem execMailboxGo_touches (found : List DriveIn) (s : State) :
    Nexts [.clk, .pins, .boot, .parts, .layout, .layoutPend, .slots, .buf, .comp, .ctl, .fmap, .hbm, .dense, .tiles, .rings, .regs, .logs, .win, .lanes, .fw, .pm, .lat, .pool, .counters, .out] s (execMailboxGo found s) := by
  unfold execMailboxGo
  dsimp only
  exact (nexts_ite (nexts (Touches.mono (emit_touches _ _) rfl)) (nexts_ite (nexts (Touches.refl _ _)) (nexts_ite (nexts (Touches.mono (mbxCount_touches _) rfl)) (Nexts.after (mciMessage_touches _ _ _ _ _) rfl (upd_regs rfl (Touches.refl _ _))))))

end Sys2Proof.Machine
end

