-- ==== Sys2Proof/Laws/Slices.lean ====
section
/-! SUPPORT. What a slice write changes: its own line, and the memory stays canonical. -/

namespace Sys2Proof.Machine

@[simp] theorem routerFault_buf (reason sev router : Nat) (detail : Option Nat) (s : State) :
    (routerFault reason sev router detail s).buf = s.buf :=
  routerFault_touches reason sev router detail s .buf (by decide)

/-- Counting a line's errors changes no byte of the buffer. -/
@[simp] theorem countErrors_mem (queue : Bool) (router line bad single : Nat) (s : State) :
    (countErrors queue router line bad single s).buf.mem = s.buf.mem := by
  unfold countErrors
  dsimp only
  simp only [apply_ite State.buf, apply_ite Buf.mem, routerFault_buf, countBy_keeps, ite_self]

/-- The record of a tick that is found for a line is that line's. -/
theorem tickLine_key {s : State} {router line : Nat} {e : TickLine} (h : tickLine s router line = some e) :
    e.key = sliceLine router line := by
  have := List.find?_some h
  simp only [Bool.and_eq_true, beq_iff_eq] at this
  exact this.1

/-- A slice write puts its whole line, as the tick's record of the line then has it. -/
theorem storeLine_mem (router line : Nat) (d : LineData) (mask : LineMask) (poison sched : Bool) (s : State) :
    ∃ v, (storeLine router line d mask poison sched s).buf.mem =
      Memory.setLine s.buf.mem (64 * sliceLine router line) v fullMask := by
  unfold storeLine mirrorWrite putTickLine
  dsimp only
  have key : ((tickLine s router line).getD ⟨sliceLine router line, s.clk.tick.toNat, lineData s router line,
      lineBad s router line, lineSingle s router line, [], []⟩).key = sliceLine router line := by
    cases h : tickLine s router line with
    | none => rfl
    | some e => exact tickLine_key h
  split <;> exact ⟨_, by simp only [countErrors_mem, key, fullMask]; rfl⟩

/-- A slice write changes no byte outside its line. -/
theorem storeLine_outside (router line : Nat) (d : LineData) (mask : LineMask) (poison sched : Bool) (s : State) {a : Nat}
    (h : a < sliceByte router line ∨ sliceByte router line + 64 ≤ a) :
    Memory.byte (storeLine router line d mask poison sched s).buf.mem a = Memory.byte s.buf.mem a := by
  obtain ⟨v, e⟩ := storeLine_mem router line d mask poison sched s
  rw [e]
  exact Memory.byte_setLine_outside _ _ (by unfold sliceLine; unfold sliceByte at h; omega)

theorem storeLine_wf (router line : Nat) (d : LineData) (mask : LineMask) (poison sched : Bool) (s : State)
    (h : Memory.wf s.buf.mem = true) : Memory.wf (storeLine router line d mask poison sched s).buf.mem = true := by
  obtain ⟨v, e⟩ := storeLine_mem router line d mask poison sched s
  rw [e]
  exact Memory.wf_setLine _ _ _ h

/-- A written HBM line, and only it, is put; the memory stays canonical. -/
theorem hbmWrite_mem (line : Nat) (d : LineData) (poison : Bool) (s : State) :
    (hbmWrite line d poison s).hbm.mem = Memory.setLine s.hbm.mem (64 * line) d fullMask := by
  simp only [hbmWrite, apply_ite State.hbm, apply_ite Hbm.mem, updPc, ite_self]

theorem hbmWrite_outside (line : Nat) (d : LineData) (poison : Bool) (s : State) {a : Nat}
    (h : a < 64 * line ∨ 64 * line + 64 ≤ a) :
    Memory.byte (hbmWrite line d poison s).hbm.mem a = Memory.byte s.hbm.mem a := by
  rw [hbmWrite_mem]
  exact Memory.byte_setLine_outside _ _ h

theorem hbmWrite_wf (line : Nat) (d : LineData) (poison : Bool) (s : State) (h : Memory.wf s.hbm.mem = true) :
    Memory.wf (hbmWrite line d poison s).hbm.mem = true := by
  rw [hbmWrite_mem]
  exact Memory.wf_setLine _ _ _ h

/-- A zero-filled unit leaves the HBM memory canonical. -/
theorem zeroUnit_wf (u : Nat) (s : State) (h : Memory.wf s.hbm.mem = true) : Memory.wf (zeroUnit u s).hbm.mem = true :=
  Memory.wf_filter _ h

end Sys2Proof.Machine
end

