-- ==== Sys2Proof/Tests/Slice0.lean ====
section
/-! SUPPORT. Tests: states that meet the hypotheses of each statement, ill-formed commands that the check refuses, and small
checks of single steps. -/

namespace Sys2Proof.Tests
open Sys2Proof Sys2Proof.Machine

set_option Elab.async false

/-- The unpowered part. -/
def wOff : State := State.reset
/-- Standby power and a valid reference. -/
def wStandby : State := { wOff with
  pins := { wOff.pins with standby := true }
  boot := { wOff.boot with pm := .bootRom, regs := 1 }
  clk := { wOff.clk with refValid := true, pSource := 1, setting := Pm.slow, stopped := true } }
/-- A trip is latched and the base die is still hot. -/
def wTripped : State := { wStandby with
  boot := { wStandby.boot with tripped := true }
  pm := { wStandby.pm with sensors := [(5, { Sensor.reset with raw := 1800 })] } }
/-- Main power too, PERST# asserted. -/
def wHeldNoPll : State := { wStandby with
  pins := { wStandby.pins with main := true, hbmIn := 0xFF }
  boot := { wStandby.boot with regs := 31 } }
/-- The root PLL is locked. -/
def wHeld : State := { wHeldNoPll with clk := { wHeldNoPll.clk with pll := true, pSource := 2 } }
/-- A module after step 9 of its start: the firmware runs. -/
def wReady : State := { wHeld with
  pins := { wHeld.pins with perst := false, perst1 := false }
  boot := { wHeld.boot with
    pm := .firmware, mp := .running, steps := 0x3FF, ready := true, nextCold := false, linkUp0 := true, linkUp1 := true
    vfEnable := true, coldStarts := 1 }
  clk := { wHeld.clk with stopped := false, setting := 0 } }
/-- A link is up before step 9. -/
def wLinked : State := { wReady with boot := { wReady.boot with ready := false } }
/-- PERST1# is asserted. -/
def wPerst1 : State := { wReady with pins := { wReady.pins with perst1 := true } }
/-- A start waits for a valid reference. -/
def wNoRef : State := { wReady with clk := { wReady.clk with refValid := false, pll := false } }
/-- The same with PERST# asserted. -/
def wHeldNoRef : State := { wHeld with clk := { wHeld.clk with refValid := false, pll := false } }
/-- Three hot samples of one base-die sensor. -/
def wHot : State := { wReady with pm := { wReady.pm with sensors := [(127, { Sensor.reset with hot := 3, raw := 1761 })] } }
/-- The internal hold of MODULE_RESET. -/
def wHold : State := { wReady with boot := { wReady.boot with hold := some 0, mp := .off, ready := false } }

/-- A request with parameters. -/
def wReq (who plen params : Nat) : MciReq := ⟨who, 1, 0, 7, plen, params⟩

/-! Scheduled events: partition 0 covers the die and executes the idle frame of an image with one event. -/

/-- A router inside, and one whose west link is sealed in wSealed. -/
def rEv : Nat := routerAt 40 40
def rSeal : Nat := routerAt 32 40
/-- A valid beat. -/
def wBeat : Beat := Beat.of 5 false
def goodBeat : BeatIn := ⟨wBeat.data, wBeat.par, false, true⟩
/-- The lanes of a full-width UP group that carry it. -/
def goodUp : List GroupTick := groupTicks [] false (wBeat.data.toNat + wBeat.par.toNat * 2 ^ 512 + 2 ^ 521)
def winRec : IndexWindow := ⟨1, 40, 9, 30, false⟩
def clsRec : OpClass := ⟨3, 9, bits 0 0 1 + 2 + 32 + 1024 * 4⟩
def stepRec : FoldStepRec := ⟨rEv, portN, portE⟩
def progRec : FoldProg := ⟨2, 0, false, [stepRec]⟩
def trainRec : TrainDesc := ⟨4, 1, 0, 77, 1, 20⟩
/-- The event of a kind, at tick offset 8. -/
def wEvent (kind inp out arg : Nat) : Event := ⟨8, kind, inp, out, 7, 0, 0, 0, 0, false, false, false, arg⟩
/-- An image whose idle frame holds one event. -/
def wImage (e : Event) : Image := { Image.empty with
  hdr := { Image.empty.hdr with rect := ⟨0, 0, 4, 4⟩ }
  patterns := [[⟨rEv, [e]⟩]]
  slices := [⟨rEv, 0, 0, [], 0, [winRec]⟩]
  folds := [progRec]
  tileReq := ⟨0, 0, [clsRec]⟩
  train := [trainRec] }
/-- Partition 0 executes the idle frame of an image at tick 8 of the frame. -/
def wPart (im : Image) (rc : Rect) (p : Part) : State := { wReady with
  clk := { wReady.clk with tick := 8, frameDone := true }
  layout := [(0, rc)], slots := [(0, { Slot.reset with state := .bound, image := im })]
  parts := [(0, { p with slot := some 0, ptick := 8 })] }
/-- With a list of arrivals. -/
def wArr (e : Event) (l : List Arrival) : State :=
  wPart (wImage e) ⟨0, 0, 4, 4⟩ { Part.reset with pipe := { Pipe.empty with arrivals := l } }
def rdOf (s : State) (e : EvRef) (k : Nat) : Ready :=
  (readyEvent s e k).getD ⟨0, Image.empty, 0, 0, ⟨0, 0, 0, 0⟩, wEvent 0 0 0 0, 0⟩
def eLink : EvRef := ⟨rEv, 0, 0⟩
def eRead : EvRef := eLink
def eIdx : EvRef := eLink
def eGat : EvRef := eLink
def eSca : EvRef := eLink
def eWrite : EvRef := eLink
def eDis : EvRef := eLink
def eFold : EvRef := eLink
def eRng : EvRef := eLink
def eUpd : EvRef := eLink
def wLink : State := wArr (wEvent kLink portN 2 0) [⟨rEv, portN, wBeat, 7⟩]
def wLinkBad : State := wArr (wEvent kLink portN 2 0) [⟨rEv, portN, { wBeat with par := 0xFF }, 7⟩]
def wStray : State := wArr (wEvent kRead 0 0 0) [⟨rEv, portN, wBeat, 8⟩]
def wSealed : State := wPart (wImage (wEvent kRead 0 0 0)) ⟨1, 0, 3, 4⟩
  { Part.reset with pipe := { Pipe.empty with arrivals := [⟨rSeal, portW, wBeat, 8⟩] } }
def wRead : State := wArr (wEvent kRead 0 0 0) []
def mLead : MergeRead := ⟨rEv, 7, false, 6, wBeat, true⟩
def wLead : State := wPart (wImage (wEvent kRead 0 0 0)) ⟨0, 0, 4, 4⟩
  { Part.reset with pipe := { Pipe.empty with reads := [mLead] } }
def wIdx : State := wArr (wEvent kIndexLoad 0 0 1) []
/-- The window holds the entries 3, then 12 (out of range). -/
def wIndexed (s : State) (next : Nat) : State :=
  { s with buf := { s.buf with index := [(windowKey rEv 1, ⟨BitVec.ofNat 512 (3 + 12 * 2 ^ 16), next⟩)] } }
def wRun : Run := newRun State.reset 1 0 0x10 0 0 []
def wGat : State := wIndexed (wArr (wEvent kGather 0 0 1) []) 0
def wImageRun (e : Event) : Image := { wImage e with
  variants := [⟨1, [⟨0, 0, false⟩], false, 8, 0⟩], hdr := { (wImage e).hdr with variants := 1, contexts := 1, budget := 9 } }
def wGatOut : State := wIndexed (wPart (wImageRun (wEvent kGather 0 0 1)) ⟨0, 0, 4, 4⟩ { Part.reset with run := some wRun }) 1
def wWrite : State := wArr (wEvent kWrite portE 0 0) [⟨rEv, portE, wBeat, 4⟩]
def wIdleWrite : State := wArr (wEvent kWrite portE 0 0) []
def wSca : State := wIndexed (wArr (wEvent kScatter portE 0 1) [⟨rEv, portE, wBeat, 4⟩]) 0
def wScaOut : State := wIndexed (wArr (wEvent kScatter portE 0 1) [⟨rEv, portE, wBeat, 4⟩]) 1
def wDis : State := wArr (wEvent kDispatch 0 0 3) []
def wRes : State := wPart (wImage (wEvent kDispatch 0 0 3)) ⟨0, 0, 4, 4⟩
  { Part.reset with pipe := { Pipe.empty with due := [⟨9, .dispWrite rEv 7⟩] } }
def wFold : State := wArr (wEvent kFold 0 2 2) [⟨rEv, portN, wBeat, 7⟩, ⟨rEv, portE, wBeat, 7⟩]
def wRng : State := wArr (wEvent kRng 0 16 4) []
def wUpd : State := wArr (wEvent kUpdate portFold 0 4) []
def wUpdI : State := wArr (wEvent kUpdate portN 0 4) []
def wUpdB : State := wArr (wEvent kUpdate portN 0 4) [⟨rEv, portN, wBeat, 7⟩]
def wRngF : State := wArr (wEvent kRng 0 128 4) []
def idleBeat : BeatIn := ⟨0, 0, false, false⟩

/-! Boundaries. -/
def wTick : State := { wReady with clk := { wReady.clk with tick := 100, frameDone := true } }
def wTickPend : State := { wTick with clk := { wTick.clk with pendSetting := some (1, 70) } }
def wCrumb : State := { wTick with clk := { wTick.clk with setting := mkSetting 2 5, crumb := 2 } }
def wFrame : State := { wTick with layoutPend := some [⟨0, 0, 2, 4⟩, ⟨2, 0, 2, 4⟩] }
def wBranchVar : Variant := ⟨1, [⟨0, 0, false⟩], true, 0, 2⟩
def wBranchImage : Image := { wImageRun (wEvent kRead 0 0 0) with variants := [wBranchVar] }
def wBranch : State := wPart wBranchImage ⟨0, 0, 4, 4⟩ { Part.reset with run := some wRun }
def wBudget : State :=
  wPart { wImageRun (wEvent kRead 0 0 0) with hdr := { (wImageRun (wEvent kRead 0 0 0)).hdr with budget := 1 } } ⟨0, 0, 4, 4⟩
    { Part.reset with run := some wRun }
def wBind : State := { wTick with
  slots := [(1, { Slot.reset with state := .binding, image := wImage (wEvent kRead 0 0 0) })]
  layout := [(0, ⟨0, 0, 4, 4⟩)], parts := [(0, { Part.reset with binding := some (1, 0), prep := true })] }
def wUnbind : State := wPart (wImageRun (wEvent kRead 0 0 0)) ⟨0, 0, 4, 4⟩ { Part.reset with run := some wRun, unbinding := some true }
def wReset : State := wPart (wImageRun (wEvent kRead 0 0 0)) ⟨0, 0, 4, 4⟩ { Part.reset with run := some wRun, resetPend := true }

/-! HBM. -/
/-- Records of pseudo-channel 3: a read at cell 2, a write at cell 4, a gap at cell 6, a lane at cell 8. -/
def wHbmImage : Image := { wImage (wEvent kRead 0 0 0) with
  hbm := [⟨3, [0], [⟨0, 2, 1, 3, false, 0, 0⟩, ⟨0, 4, 2, 3, false, 0, 0⟩, ⟨0, 6, 4, 0, false, 0, 2048⟩, ⟨0, 8, 3, 0, false, 31, 0⟩]⟩] }
def wHbm (p : Pc) (pipe : Pipe) : State :=
  let s := wPart wHbmImage ⟨0, 0, 4, 4⟩ { Part.reset with pipe := pipe }
  { s with hbm := { s.hbm with pc := [(3, p)], stack := [(0, { Stack.reset with trained := true })] } }
def wSched : State := wHbm { Pc.reset with sched := true } Pipe.empty
def wSchedFull : State := wHbm { Pc.reset with sched := true, debt := 8, openStripe := some 0 } Pipe.empty
def wLane : State := wHbm { Pc.reset with sched := true, openStripe := some 0 } Pipe.empty
def wLaneIdle : State := wHbm { Pc.reset with sched := true, debt := -8 } Pipe.empty
def wClosed : State := wHbm { Pc.reset with sched := true } Pipe.empty
def wCellWrite : State :=
  let r := rimRouter 0 3
  wHbm { Pc.reset with sched := true, openStripe := some 0 } { Pipe.empty with
    edge := [⟨r, portEdge, wBeat, 32⟩, ⟨r, portEdge, wBeat, 35⟩, ⟨r, portEdge, Beat.of 9 true, 38⟩] }
def cellOf (s : State) (pc cell kind : Nat) : CellReady :=
  (readyCell s pc cell kind).getD ⟨0, ⟨0, [], []⟩, ⟨0, 0, 0, 0, false, 0, 0⟩, 0, 0⟩
def wTrained : State := { wReady with hbm := { wReady.hbm with stack := [(0, { Stack.reset with trained := true })] } }
def wStarting : State := { wReady with
  boot := { wReady.boot with starting := true, steps := 2, ready := false, mp := .bootRom }
  hbm := { wReady.hbm with role := [(4, 3)] } }
def wReqWrite : UReq := ⟨3 * pcLines + 5, true, 77, true, .stage 1 9 0⟩
def wReqRead : UReq := ⟨3 * pcLines + 5, false, 0, false, .stage 1 9 64⟩
def wWithPc (p : Pc) : State := { wTrained with hbm := { wTrained.hbm with pc := [(3, p)] } }
def wQueued : State := wWithPc { Pc.reset with queue := [wReqWrite] }
def wQueuedRead : State := wWithPc { Pc.reset with queue := [wReqRead] }
def wQueuedDead : State := { wQueued with fmap := { wQueued.fmap with deadPcs := [3] } }
def wCorr : State :=
  let s := wWithPc { Pc.reset with writeback := [3 * pcLines + 5] }
  { s with hbm := { s.hbm with flag := [(3 * pcLines + 5, 1)] } }
def wCorrPoison : State := { wCorr with hbm := { wCorr.hbm with flag := [(3 * pcLines + 5, 5)] } }
def wFailing : State := wWithPc { Pc.reset with failing := [44] }

/-! Host transfers, compressor and windows. -/
def hostIn : HostRec := ⟨0, 8, 0, 20, 0, 1, 64⟩
def hostOut : HostRec := ⟨0, 8, 1, 20, 0, 1, 64⟩
/-- A run of context 0 with one buffer, and with or without held data of beat 0. -/
def wHostRun (held : Bool) : Run := { wRun with
  ctx := 0, bufs := [⟨4096, 128, true, true, false, false⟩], hostData := if held then [⟨0, 0, 0, 77, false⟩] else [] }
def wHost (h : HostRec) (r : Run) (edge : List Arrival) : State :=
  wPart { wImageRun (wEvent kRead 0 0 0) with host := [h] } ⟨0, 0, 4, 4⟩ { Part.reset with run := some r, pipe := { Pipe.empty with edge := edge } }
def wEdge (edge : List Arrival) (c : Comp) : State :=
  { wPart (wImage (wEvent kRead 0 0 0)) ⟨0, 0, 4, 4⟩ { Part.reset with pipe := { Pipe.empty with edge := edge } } with comp := [(0, c)] }
def wDesc : State := { wEdge [⟨routerAt 127 2, portEdge, Beat.of 0x40102 false, 8⟩] Comp.reset with comp := [] }
def wDescOpen : State := wEdge [⟨routerAt 127 2, portEdge, Beat.of 0x40102 false, 8⟩]
  { Comp.reset with window := some (0, 5, 6, 1), opened := some (0, 1) }
def wResid : State := wEdge [] { Comp.reset with residuals := [⟨10, routerAt 127 2, wBeat⟩, ⟨11, routerAt 127 3, wBeat⟩] }
def wRecord : State := wEdge [] { Comp.reset with window := some (0, 5, 6, 1), records := [⟨10, 0x1234, 36, false, false⟩], tail := 7, tailLen := 4 }
def wRecordLast : State := wEdge [] { Comp.reset with window := some (0, 5, 6, 1), records := [⟨10, 0x1234, 36, false, true⟩], tail := 7, tailLen := 4 }
def latOut : LatRec := ⟨0, 8, 0, 0, 5, 0, 2⟩
def latIn : LatRec := ⟨0, 8, 0, 1, 5, 1, 2⟩
def wLat (r : LatRec) (edge : List Arrival) : State :=
  wPart { wImage (wEvent kRead 0 0 0) with lattice := [r] } ⟨0, 0, 4, 4⟩ { Part.reset with pipe := { Pipe.empty with edge := edge } }
def wLatOpen : State := wLat latOut [⟨routerAt 127 2, portEdge, wBeat, 8⟩]
def wLatEntry : State := { wLat latOut [⟨routerAt 127 3, portEdge, wBeat, 8⟩] with
  comp := [(0, { Comp.reset with window := some (0, 5, 3, 0), opened := some (0, 0), entered := 1, wire := [(3, false)] })] }
def storedOne : StoredWin := ⟨0, 5, stampNow wReady - 1, 3, [(0, 7, false), (1, 8, true), (2, 9, false)], false, true, false⟩
def wLatIn : State := let s := wLat latIn []
  { s with lat := { s.lat with store := [storedOne] } }
def wLatMissing : State := wLat latIn []

/-! Rings. -/
def oneRing (fn ring : Nat) (r : Ring) : State := { wReady with rings := { wReady.rings with ring := [(ringKey fn ring, r)] } }
def ringRegs : RingRegs := { RingRegs.reset with enabled := true, sizeLog := 6, cqSizeLog := 6, vec := 0 }
def wRingIs : Ring := { Ring.reset with regs := ringRegs, tail := 1, epoch := 2 }
def wRing : State := oneRing 1 0 wRingIs
def nopItem : BitVec 512 := 1
def stageItem (dirSpace len : Nat) : BitVec 512 := BitVec.ofNat 512 (0x20 + dirSpace * 2 ^ 128 + len * 2 ^ 160)
def poolRead : Region := { Region.reset with state := 2, size := 1, members := [0] }
def poolItem (op : Nat) : BitVec 512 := BitVec.ofNat 512 (0x21 + op * 2 ^ 128)
def holding (x : BitVec 512) : Ring := { wRingIs with units := [x], fetch := 1 }
def wRingHeld : State := oneRing 1 0 (holding nopItem)
def wItem (ring : Nat) (x : BitVec 512) : State := oneRing 1 ring (holding x)
def wItem0 (x : BitVec 512) : State :=
  let s := oneRing 0 2 (holding x)
  { s with pool := { s.pool with region := [(0, poolRead)] } }
def turnOf (fn ring : Nat) (s : State) : State := ((startTurn fn ring s).getD (0, s)).2
def wRingFlush : State := oneRing 1 0 { holding nopItem with flushPend := true, stopPend := true }
def endedItem : Outst := ⟨2, 5, 9, false, 0x10, 0, 1, 3, none, false, 0, 0, none, some ⟨0, 0x77, 3, false, 9⟩⟩
def wRingEnded : State := oneRing 1 0 { wRingIs with outst := [endedItem] }
def wRingTimer : State :=
  let s := oneRing 1 0 { wRingIs with modSince := some 0, modSeen := 1 }
  { s with rings := { s.rings with vec := [(8, { Vector.reset with masked := false })] } }
def stagedItem : Outst := ⟨9, 5, 9, false, 0x20, 0, 1, 3, none, true, 64, 0, none, none⟩
def wStaged : State := oneRing 1 2 { wRingIs with outst := [stagedItem] }

def wRingOff : State := oneRing 1 0 { wRingIs with regs := { ringRegs with enabled := false } }
def wRingFull : State := oneRing 1 0 { wRingIs with cqw := 64 }

/-! Registers, messages, logs, windows. -/
def wAcked : State := { wReady with logs := { wReady.logs with ack := 5, next := 9 } }
def wArmed : State := { wReady with regs := { wReady.regs with dbgArm := true } }
def wLatched : State := { wReady with regs := { wReady.regs with latch := [(0x30020, 7)] } }
def wUnserved : State := wLinked
def wAttn : State := { wReady with
  regs := { wReady.regs with stsAttn := 2 }, rings := { wReady.rings with vec := [(5, { Vector.reset with masked := false })] } }
def wMbxBusy : State := { wReady with regs := { wReady.regs with mbxBusy := true } }
/-- A Service item with the header of an MCI_INFO message. -/
def mciItemInfo : BitVec 512 := BitVec.ofNat 512 (0x30 + 1 * 2 ^ 192 + (0x0001 + 2 ^ 16) * 2 ^ 256)
def wMciItem : State := oneRing 0 3 (holding mciItemInfo)
def wMbx (op : Nat) : State := { wReady with regs := { wReady.regs with mbxWindow := [(0, BitVec.ofNat 32 (op + 2 ^ 16))] } }
def mciItemNone : BitVec 512 := BitVec.ofNat 512 (0x30 + 1 * 2 ^ 192 + (0xFFFF + 2 ^ 16) * 2 ^ 256)
def wMciNone : State := oneRing 0 3 (holding mciItemNone)
def wMciBad : State := oneRing 0 3 (holding 0x30)
def wFaults (p : FaultPkt) : State := { wReady with ctl := { wReady.ctl with faultQ := [p] } }
def wEvents (p : FaultPkt) : State := { wReady with ctl := { wReady.ctl with eventQ := [p] } }
def wLogged : State := mpEvent 0x7005 5 1 2 (mpEvent 0x4009 4 7 0 wReady)
def wCounted : State := countBy 0x0101 5 9 wReady
def wRequested : State := { wReady with
  logs := { wReady.logs with requests := [⟨0x4001, 0, 1, 1, true⟩, ⟨0x8001, 3, 1, 2, true⟩] } }
def wShadow : State := { wReady with win := { wReady.win with shadow := [(1, { WinTable.empty with slots := 7 })] } }

/-! Images. -/
/-- A smallest image, assembled by hand from Tables 4.1 to 4.10: one pattern without an event, one variant of one frame, a
dependency on nothing, unsigned. Its 8-byte words that are not zero. -/
def imageWords : List (Nat × Nat) :=
  [(0, 0x800003334c5243), (1, 0x400001a80), (2, 0x77), (4, 0x4001010000), (5, 0x100000001), (7, 0x1000000000000), (16, 0xc000000001),
   (17, 0xb6c7c4dc00000008), (18, 0x10000000002), (20, 0x10000000003), (21, 0xf235776100000028), (22, 0x14000000008), (23, 0x404e659200001840), (24, 0x8), (32, 0x100000001), (33, 0x1000000020)]
def imageBytes : Nat := imageWords.foldl (fun n w => n + w.2 * 2 ^ (64 * w.1)) 0
def wLoading : State := { wReady with
  fw := { wReady.fw with allowUnsigned := true }
  slots := [(0, { Slot.reset with state := .loading, loadWho := 65, loadTag := 7, loadLen := 6784 })] }
def wValid : State := { wTick with
  slots := [(2, { Slot.reset with state := .valid, image := wImage (wEvent kRead 0 0 0) })]
  layout := [(0, ⟨0, 0, 4, 4⟩)] }
/-- A staging item touches unit 1 of stack 2 that a test is to take. -/
def wStagingTest : State := { wReady with rings := { wReady.rings with
  ring := [(ringKey 1 2, { Ring.reset with outst := [⟨9, 5, 9, false, 0x20, 2 ^ 128 * 2 + 64 * 2 ^ 160 + 2 * 2 ^ 256, 1, 3, none, false, 0, 1, none, none⟩] })] } }
def wAssignPool : State := { wReady with
  hbm := { wReady.hbm with role := [(5, 1)] }
  pool := { wReady.pool with region := [(0, { Region.reset with state := 2, extents := [5] })] } }
def wImageState : State := wPart (wImageRun (wEvent kRead 0 0 0)) ⟨0, 0, 4, 4⟩ { Part.reset with run := some wRun }
def wStalled : State :=
  let s := wPart (wImageRun (wEvent kRead 0 0 0)) ⟨0, 0, 4, 4⟩ { Part.reset with run := some { wRun with breach := some stTileFault } }
  { s with tiles := { s.tiles with stalls := [(rEv, 1, true)] } }
def testOf : LaneTest := ⟨65, 9, 2 * 4 + 20 * 2 ^ 32, true⟩
def wInTest : State := { wReady with
  lanes := { wReady.lanes with tests := [testOf] }, buf := { wReady.buf with inTest := [routerAt 70 5] } }

/-! Slices, control network, tiles, lanes. -/
def wCtlReq : CtlReq := ⟨rEv, 5, true, 0x1234, 0xFF, .ctl 3 6, 90⟩
def wCtlWrite : State := { wTick with buf := { wTick.buf with ctlQueue := [wCtlReq] } }
def wCtlRead : State := { wTick with buf := { wTick.buf with ctlQueue := [{ wCtlReq with write := false }] } }
def wResends : State := { wReady with ctl := { wReady.ctl with resends := [(21, 7)] } }
def wInjectFull : State := { wReady with ctl := { wReady.ctl with inject := [(5, 32)] } }
def wInjectHeld : State := { wReady with
  ctl := { wReady.ctl with inject := [(5, 32)], heldEvent := [(5, some ⟨0x7002, 0, 5, none, 5, 0⟩)] } }
def wOutput (l : Nat) (ps : List CtlPkt) : State := { wReady with ctl := { wReady.ctl with vc := [(l, ps)] } }
def wDeadLink : State := { wReady with ctl := { wReady.ctl with dead := [ctlLink 17 1] } }
def wQuiesced : State := wPart (wImage (wEvent kRead 0 0 0)) ⟨0, 0, 4, 4⟩ { Part.reset with quiesceAt := 1 }
def wTile (x : Tile) : State := { wReady with tiles := { wReady.tiles with tile := [(3, x)] } }
/-- A message as a tile sends it (Table 5.4, R222, R223). -/
def rxOf (full : Bool) (t sub seq chunk content n : Nat) : List SvcClock :=
  let ws := valueWords (mkHeader 4 1 (1 + cdiv n 4) 0x100 (controlNode (cornerRouter t)) (controlSub (cornerRouter t)) 0).toNat 2 ++
    (put sub 0 8 + put seq 8 8 + put chunk 16 16) :: valueWords content (cdiv n 4)
  let word (w : Nat) (first : Bool) : SvcClock :=
    BitVec.ofNat 78 (layLanes 1 (laneplaces (bundleKind (bondBundle 0 0 3)) [] false) (fullSignals w first * 2 ^ 35))
  if full then (ws.take 1).map (fun w => word w true) ++ (ws.drop 1).map fun w => word w false
  else (ws.flatMap fun w => basicWord w).map fun (c : SvcClock) => (c <<< 35 : SvcClock)
def wTrained0 (mp : Bool) : State := let s := wTile { Tile.reset with step := .train, trst := true, trainFrom := 1 }
  { s with clk := { s.clk with tick := 1048576 }, boot := { s.boot with mp := if mp then s.boot.mp else .off } }
def wTrainLost : State := let s := wTrained0 true
  { s with lanes := { s.lanes with assembly := (List.range 14).map fun i => laneEntry (svcBundle 3) i } }
def wBootable : State := wTile { Tile.reset with trst := true, full := true, step := .boot, bootChunks := 2 }
def wPerred : State := { wReady with tiles := { wReady.tiles with perrs := [(rEv, 0)] } }
def wStitching : State := let s := wStarting
  { s with clk := { s.clk with tick := 262200, frameDone := true }, boot := { s.boot with steps := s.boot.steps ||| 16 } }
def wHeldPart : State := wPart (wImage (wEvent kRead 0 0 0)) ⟨0, 0, 4, 4⟩ { Part.reset with held := true }
def wConsent : State := { wReady with
  lanes := { wReady.lanes with consent := [⟨5, 1, [5]⟩], volatile := [5] }
  fmap := { wReady.fmap with pendRouters := [9] } }
def wStrands : State := { wReady with
  boot := { wReady.boot with starting := true, ready := false, steps := 0x46 }
  pins := { wReady.pins with straps := 2 } }
def wStep8 : State := { wReady with boot := { wReady.boot with starting := true, ready := false, steps := 0x1FF } }
def wRecoveryStart : State := { wReady with boot := { wReady.boot with mp := .recovery, starting := true, ready := false } }

/-! Firmware and boots. -/
def wKeyed : State := { wReady with fw := { wReady.fw with imageKeys := [(3, some 5)] } }
def wFwSlots (a b : FwSlot) : State := { wReady with fw := { wReady.fw with slots := [(0, a), (1, b)] } }
def fwCommitted : FwSlot := { FwSlot.reset with state := 5 }
def wFw : State := wFwSlots fwCommitted ⟨1, [(1, 3)], 3⟩
def wFwRecovery : State := { wReady with boot := { wReady.boot with mp := .recovery } }
def wFwWritten : State := wFwSlots ⟨2, [(1, 3)], 3⟩ fwCommitted
def wFwVerified : State := wFwSlots fwCommitted ⟨3, [(1, 3)], 3⟩
def wFwTrial : State :=
  let s := wFwSlots ⟨4, [(1, 3)], 3⟩ fwCommitted
  { s with fw := { s.fw with trial := true } }
def wLinkedMode : State := { wReady with lat := { wReady.lat with policy := { wReady.lat.policy with linked := true }, standing := .good } }
def wBootRom : State := { wReady with boot := { wReady.boot with mp := .bootRom, starting := true, ready := false, steps := 7 } }
def wBootTrial : State := { wBootRom with fw := wFwTrial.fw }

/-! Dense tier: two drives of 3,200 blocks, one CACHE unit, block 2 in set 2. -/
def dReadReq : DReq := ⟨2, 0, 64, false, 0, .stage 1 9 0, 0⟩
def dWholeReq : DReq := ⟨2, 0, 4096, true, 0x1234, .stage 1 9 0, 0⟩
def dWriteReq : DReq := ⟨2, 64, 64, true, 0x1234, .stage 1 9 0, 0⟩
def wDense (held : List DReq) (lines : List (Nat × CacheLine)) : State := { wStaged with
  dense := { wStaged.dense with
    drive := [(0, ⟨true, 3200, 5, false, [], [], []⟩), (1, ⟨true, 3200, 6, false, [], [], []⟩)], attached := [(0, 5), (1, 6)]
    perDrive := 3200, units := 1, lines := lines, withheld := held } }
def wFailedDrive : State :=
  let s := wDense [] []
  { s with dense := { s.dense with drive := [(0, ⟨true, 3200, 5, true, [], [], []⟩)] } }
def wLate (s : State) : State := { s with clk := { s.clk with wallPs := 50000000000 } }
def wFlushing (bs ds : List Nat) : State :=
  let s := wDense [] []
  { s with
    dense := { s.dense with
      flushes := [⟨65, 7, bs.map fun b => (b, 0), ds, true, none⟩]
      drive := [(0, ⟨true, 3200, 5, false, [], [⟨2, 0, 0, 0⟩], []⟩), (1, ⟨true, 3200, 6, false, [], [], []⟩)] }
    fw := { s.fw with outstanding := [(65, 0x0307, 7)] } }
/-- A drive with commands outstanding, and entries of misses. -/
def wDrive (lines : List (Nat × CacheLine)) (io : List DriveCmd) (ms : List MissEntry) : State :=
  let s := wDense [] lines
  { s with dense := { s.dense with
    misses := ms
    drive := [(0, ⟨true, 3200, 5, false, [], io, []⟩), (1, ⟨true, 3200, 6, false, [], [], []⟩)] } }
/-- Work on a cache line waits at a pseudo-channel. -/
def wJob (pc : Nat) (j : Nat × CacheJob) (lines : List (Nat × CacheLine)) (ms : List MissEntry) : State :=
  let s := wDense [] lines
  { s with
    dense := { s.dense with misses := ms }
    hbm := { s.hbm with stack := [(0, { Stack.reset with trained := true })], pc := [(pc, { Pc.reset with cacheQ := [j] })] } }

/-! Pool: region 0 with an extent in unit 5, host 9 on its list; this module is number 0. -/
def pRegion : Region := { Region.reset with state := 2, size := 1, members := [0], extents := [5], acl := [⟨9, true, true⟩] }
def wWith (r : Region) (shape : Nat) : State := { wReady with
  pins := { wReady.pins with straps := 1 }
  hbm := { wReady.hbm with role := [(5, 1), (6, 1)] }
  lat := { wReady.lat with cfg := { wReady.lat.cfg with shape := shape } }
  pool := { wReady.pool with region := [(0, r)], boxes := [9], slots := [(74, ⟨3, false, 0⟩)], nextId := 10 } }
def wPool : State := wWith pRegion 0
def wPoolState (st : Nat) : State := wWith { pRegion with state := st } 0
def wPoolFree : State := { wPool with pool := { wPool.pool with region := [] } }
def wPoolPair : State := let s := wWith pRegion 2; { s with pool := { s.pool with region := [] } }
def wPoolLost : State := wWith { pRegion with state := 3, prot := 1, members := [1, 0], lost := some 0 } 3
def wPoolDeleting : State := wWith { pRegion with state := 6, extents := [] } 0
def wPoolGone : State :=
  let s := wWith { pRegion with prot := 1, members := [0, 1] } 2
  { s with lat := { s.lat with lost := [1] } }
def wPoolRebuild : State := wWith { pRegion with prot := 1, members := [0, 1], state := 4, lost := some 0, rate := 4 } 2
def wCmd (c : Nat) : PoolCmd := ⟨4, .mailbox 9 2 3 false, c, 9, 0, false, 0, 0, if pcOp c = 3 then 2 ^ 64 - 1 else 0, 0⟩
def wPoolCmd (c : PoolCmd) : State := { wPool with pool := { wPool.pool with cmds := [c] } }
def wPoison (line : Nat) (s : State) : State := { s with hbm := { s.hbm with flag := [(line, 3)] } }
def wByte (a : Nat) (v : Byte) (s : State) : State := { s with hbm := { s.hbm with mem := [(a, v)] } }
def wLeased (c : PoolCmd) (holder : Nat) : State :=
  { wPool with pool := { wPool.pool with cmds := [c], region := [(0, { pRegion with lease := some (holder, 10 ^ 12) })] } }
def wAway (c : PoolCmd) : State := let s := wWith { pRegion with members := [1] } 2; { s with pool := { s.pool with cmds := [c] } }
def wToken : State := wWith { pRegion with tokens := [⟨3, 0, false, false⟩], issued := 3 } 0
def wFl (port : Nat) : FlitHdr := ⟨port, 3, 0, 0, false, 0, 0, 1, 0, 1, 0, 0⟩
def wUn (nl : Nat) (lines : List LineIn) : UnschIn := ⟨5, 0, 128, 0, lines, nl, 0⟩
def wLinkUp (s : State) : State := { s with lat := { s.lat with port := [(2, { LPort.reset with state := 2, width := 8 })] } }
def wPoolLink : State := wLinkUp wPool
def wPoolParity : State := wLinkUp (wWith { pRegion with prot := 2, size := 8, members := [1, 2, 3, 4, 5, 6, 7, 8, 0] } 0)
def wPoolKept : State := { wPoolLink with lat := { wPoolLink.lat with kept := [(1, 5, ⟨4, 5, 0, 1, 0, 0, 0⟩, 0)] } }
def wPoolOut : State :=
  let s := wLinkUp (wPoolCmd { wCmd 1 with ran := true, left := 1 })
  { s with lat := { s.lat with outReqs := [⟨1, 5, ⟨0, 0, 0, 0, 0, 0, 0⟩, 3, 4, 0⟩] } }

/-! Links: module 0 of a PAIR, port 2; a group of two modules. -/
def wPorts (p : LPort) (shape : Nat) : State := { wReady with
  lat := { wReady.lat with port := [(2, p)], cfg := { wReady.lat.cfg with shape := shape } } }
def wPortState (st : Nat) : State := wPorts { LPort.reset with state := st, width := 4 } 0
def wFailedHour : State := let s := wPortState 4
  { s with clk := { s.clk with wallPs := 10 ^ 16 }, lat := { s.lat with port := s.lat.port.map fun e => (e.1, { e.2 with failedAt := 1 }) } }
def wPairTraining : State := wPorts { LPort.reset with state := 1, width := 8 } 2
def wPairUp : State := wPorts { LPort.reset with state := 2, width := 8 } 2
def wReadyLink : State := wPorts { LPort.reset with state := 2, width := 8 } 0
def wLaneQuiet : State :=
  let s := wPorts { LPort.reset with state := 2, width := 8, quiet := 300 } 0
  { s with pm := { s.pm with laneSleep := true } }
def aFlit : Flit := ⟨1, 0, 0, 0, 0, 0, 7⟩
def wUnackedAt (n : Nat) : State := wPorts { LPort.reset with
  state := 2, width := 8, txSeq := 8, unacked := [(4, aFlit), (5, aFlit), (6, aFlit), (7, aFlit)], spent := [(0, 3)], replays := n } 0
def wUnacked : State := wUnackedAt 0
def wInjected : State := { wUnacked with regs := { wUnacked.regs with dbgPending := true, dbgArm := true, dbgKind := 5, dbgUnit := 2 } }
def wQueuedFlit : State := wPorts { LPort.reset with state := 2, width := 8, ctrlQ := [aFlit] } 0
def wFlooded : State :=
  let s := wReadyLink
  { s with lat := { s.lat with floods := [(floodKey 7 0, 1)] } }
def wFloodedLost : State :=
  let s := wReadyLink
  { s with lat := { s.lat with floods := [(floodKey 8 0, 1)] } }
def wGroup : State :=
  let s := wPairUp
  { s with lat := { s.lat with
    cfg := { s.lat.cfg with group := 4 }, standing := .good, members := [1], locked := true } }
def wHeldGroup : State := { wGroup with clk := { wGroup.clk with tick := 1048575, held := true, frameDone := true } }
def wNearBarrier : State := { wGroup with clk := { wGroup.clk with tick := 1048570, frameDone := true } }

/-! Idle states. -/
def wIdle : State := { wReady with layout := [(0, ⟨0, 0, 4, 4⟩)], parts := [(0, { Part.reset with idleFrames := 16 })] }
def wIdleBound : State :=
  wPart (wImage (wEvent kRead 0 0 0)) ⟨0, 0, 4, 4⟩ { Part.reset with idleState := 1, idleFrames := 300 }
def wExiting : State := { wIdle with parts := [(0, { Part.reset with idleState := 1, exiting := true })] }

/-- The hypotheses of PowerInputs are met together. -/
theorem witness_PowerInputs :
    (∃ (s : State), (s.pins.standby = false)) ∧
    (∃ (s : State), (s.pins.standby = true) ∧ (s.boot.tripped = false)) ∧
    (∃ (s : State), (s.pins.standby = true) ∧ (s.boot.tripped = true) ∧ (baseCool s = false)) ∧
    (∃ (u : Nat) (s : State), (s.pins.standby = true) ∧ (u < 9) ∧ (inputInRange s.pins u = true) ∧ (s.pins.perst = false)) ∧
    (∃ (u : Nat) (s : State), (s.pins.standby = true) ∧ (0 < u) ∧ (u < 9) ∧ (inputInRange s.pins u = true) ∧ (s.pins.perst = true)) ∧
    (∃ (s : State), (s.pins.standby = true)) :=
  ⟨⟨wOff, by decide +kernel⟩,
   ⟨wStandby, by decide +kernel⟩,
   ⟨wTripped, by decide +kernel⟩,
   ⟨0, wReady, by decide +kernel⟩,
   ⟨8, wHeld, by decide +kernel⟩,
   ⟨wReady, by decide +kernel⟩⟩

/-- The hypotheses of ClocksStartAndStop are met together. -/
theorem witness_ClocksStartAndStop :
    (∃ (s : State), (s.clk.pll = false) ∧ (s.clk.refValid = true) ∧ (s.boot.regs = 31) ∧ (s.boot.tripped = false) ∧ (s.boot.clockLost = false)) ∧
    (∃ (s : State), (s.clk.pll = true)) ∧
    (∃ (s : State), (s.pins.standby = true) ∧ (s.clk.refValid = true) ∧ (s.clk.pll = true)) ∧
    (∃ (s : State), (s.pins.standby = true) ∧ (s.clk.refValid = true) ∧ (s.clk.pll = false)) ∧
    (∃ (s : State), (s.pins.standby = true) ∧ (s.clk.refValid = false) ∧ (s.pins.perst = false)) ∧
    (∃ (s : State), (s.pins.standby = true) ∧ (s.clk.refValid = false) ∧ (s.pins.perst = true)) :=
  ⟨⟨wHeldNoPll, by decide +kernel⟩,
   ⟨wReady, by decide +kernel⟩,
   ⟨wReady, by decide +kernel⟩,
   ⟨wStandby, by decide +kernel⟩,
   ⟨wNoRef, by decide +kernel⟩,
   ⟨wHeldNoRef, by decide +kernel⟩⟩

/-- The hypotheses of TripStops are met together. -/
theorem witness_TripStops :
    (∃ (i : Nat) (s : State), (i < 128) ∧ (s.boot.pm ≠ .off) ∧ (s.boot.tripped = false) ∧ (3 ≤ (sensorOf s i).hot)) :=
  ⟨127, wHot, by decide +kernel⟩

/-- The hypotheses of ResetEntered are met together. -/
theorem witness_ResetEntered :
    (∃ (s : State), (s.pins.standby = true) ∧ (s.pins.perst = false)) ∧
    (∃ (q : MciReq) (s : State), (mciServed s q.who = true) ∧ (mciRefusal s 0x0A01 (q.plen == 8) (reservedClear (mciParams q) [(0, 2)] && decide (bits (mciParams q) 0 2 ≤ 1)) q = none)) :=
  ⟨⟨wReady, by decide +kernel⟩,
   ⟨(wReq 65 8 0), wReady, by decide +kernel⟩⟩

/-- The hypotheses of StartBegins are met together. -/
theorem witness_StartBegins :
    (∃ (s : State), (s.pins.perst = true) ∧ (canStart s = true)) ∧
    (∃ (s : State), (s.pins.standby = true) ∧ (s.pins.perst = true) ∧ (canStart s = false)) ∧
    (∃ (s : State), (s.boot.hold.isSome = true) ∧ (s.pins.perst = false) ∧ (canStart s = true)) :=
  ⟨⟨wHeld, by decide +kernel⟩,
   ⟨wHeldNoPll, by decide +kernel⟩,
   ⟨wHold, by decide +kernel⟩⟩

/-- The hypotheses of PortsReset are met together. -/
theorem witness_PortsReset :
    (∃ (s : State), (s.clk.stopped = false) ∧ (s.HostWf) ∧ (s.clk.frameDone = true)) ∧
    (∃ (s : State), (s.clk.stopped = false) ∧ (s.HostWf) ∧ (s.clk.frameDone = false)) ∧
    (∃ (s : State), (s.clk.stopped = false) ∧ (s.HostWf)) ∧
    (∃ (s : State), (s.pins.standby = true) ∧ (s.pins.perst1 = false) ∧ (s.clk.stopped = false)) ∧
    (∃ (s : State), (s.pins.standby = true) ∧ (s.pins.perst1 = true) ∧ (s.pins.perst = false)) ∧
    (∃ (p : Nat) (s : State), ((if p = 0 then s.boot.linkUp0 else p == 1 && s.boot.linkUp1) = true) ∧ (s.boot.ready = false)) ∧
    (∃ (s : State), (s.boot.linkUp0 = true) ∧ (s.boot.ready = true) ∧ (s.boot.mp ≠ .recovery)) ∧
    (∃ (s : State), (s.boot.linkUp0 = true) ∧ (s.boot.ready = true) ∧ (s.HostWf) ∧ (s.clk.frameDone = true ∨ tickRuns s = false)) ∧
    (∃ (s : State), (s.boot.linkUp0 = true) ∧ (s.boot.ready = true) ∧ (s.HostWf) ∧ (s.clk.frameDone = false) ∧ (tickRuns s = true)) ∧
    (∃ (s : State), (mciServed s (whoMctp 1 0) = true)) :=
  ⟨⟨{ wReady with clk := { wReady.clk with frameDone := true } }, by decide +kernel⟩,
   ⟨wReady, by decide +kernel⟩,
   ⟨wReady, by decide +kernel⟩,
   ⟨wReady, by decide +kernel⟩,
   ⟨wPerst1, by decide +kernel⟩,
   ⟨0, wLinked, by decide +kernel⟩,
   ⟨wReady, by decide +kernel⟩,
   ⟨{ wReady with clk := { wReady.clk with frameDone := true } }, by decide +kernel⟩,
   ⟨wReady, by decide +kernel⟩,
   ⟨wReady, by decide +kernel⟩⟩

/-- The hypotheses of MeshLinks are met together. -/
theorem witness_MeshLinks :
    (∃ (e : EvRef) (rd : Ready) (s : State), (readyEvent s e kLink = some rd) ∧ ((advance rd.wait s).PlaneWf) ∧ (let b := (eventBeat (advance rd.wait s) rd e.router (linkLag e.router rd.ev)); b.valid = true ∧ b.parityOk = true)) ∧
    (∃ (e : EvRef) (rd : Ready) (s : State), (readyEvent s e kLink = some rd) ∧ ((advance rd.wait s).PlaneWf) ∧ (partOf (advance rd.wait s) e.router = some rd.part) ∧ (let b := (eventBeat (advance rd.wait s) rd e.router (linkLag e.router rd.ev)); b.valid = true ∧ b.parityOk = false) ∧ ((advance rd.wait s).ctl.faultQ.length < 256)) ∧
    (∃ (router : Nat) (port : Nat) (k : Nat) (s : State), (s.PlaneWf) ∧ (partOf s router = some k) ∧ ((inputBeat (part s k).pipe router port (part s k).ptick).valid = true) ∧ (inputNamed s k router port = false) ∧ (sealedInput (rect s k) router port = true)) ∧
    (∃ (router : Nat) (port : Nat) (k : Nat) (s : State), (s.PlaneWf) ∧ (partOf s router = some k) ∧ ((inputBeat (part s k).pipe router port (part s k).ptick).valid = true) ∧ (inputNamed s k router port = false) ∧ (sealedInput (rect s k) router port = false) ∧ (s.ctl.faultQ.length < 256)) :=
  ⟨⟨eLink, (rdOf wLink eLink kLink), wLink, by decide +kernel⟩,
   ⟨eLink, (rdOf wLinkBad eLink kLink), wLinkBad, by decide +kernel⟩,
   ⟨rSeal, portW, 0, wSealed, by decide +kernel⟩,
   ⟨rEv, portN, 0, wStray, by decide +kernel⟩⟩

/-- The hypotheses of SliceReads are met together. -/
theorem witness_SliceReads :
    (∃ (e : EvRef) (rd : Ready) (s : State), (readyEvent s e kRead = some rd) ∧ ((advance rd.wait s).PlaneWf) ∧ (leaderOf (part (advance rd.wait s) rd.part) e.router (rd.line e) rd.ev.ctx = none)) ∧
    (∃ (e : EvRef) (rd : Ready) (m : MergeRead) (s : State), (readyEvent s e kRead = some rd) ∧ ((advance rd.wait s).PlaneWf) ∧ (leaderOf (part (advance rd.wait s) rd.part) e.router (rd.line e) rd.ev.ctx = some m) ∧ (m.beat.valid = true) ∧ ((advance rd.wait s).HostWf)) ∧
    (∃ (e : EvRef) (rd : Ready) (w : IndexWindow) (s : State), (readyEvent s e kIndexLoad = some rd) ∧ ((advance rd.wait s).PlaneWf) ∧ (rd.image.window e.router rd.ev.arg = some w)) ∧
    (∃ (e : EvRef) (rd : Ready) (w : IndexWindow) (l : Nat) (s : State), (readyEvent s e kGather = some rd) ∧ ((advance rd.wait s).PlaneWf) ∧ (rd.image.window e.router rd.ev.arg = some w) ∧ (indexEntry rd.image e.router rd.ctx w (Tab.get IndexState.none (advance rd.wait s).buf.index (windowKey e.router w.id)) = .line l) ∧ (mergeOf (part (advance rd.wait s) rd.part) e.router l = none)) ∧
    (∃ (e : EvRef) (rd : Ready) (w : IndexWindow) (c : Bool) (r : Run) (s : State), (readyEvent s e kGather = some rd) ∧ ((advance rd.wait s).PlaneWf) ∧ (rd.image.window e.router rd.ev.arg = some w) ∧ (indexEntry rd.image e.router rd.ctx w (Tab.get IndexState.none (advance rd.wait s).buf.index (windowKey e.router w.id)) = .suppressed c) ∧ ((part (advance rd.wait s) rd.part).run = some r)) :=
  ⟨⟨eRead, (rdOf wRead eRead kRead), wRead, by decide +kernel⟩,
   ⟨eRead, (rdOf wLead eRead kRead), mLead, wLead, by decide +kernel⟩,
   ⟨eIdx, (rdOf wIdx eIdx kIndexLoad), winRec, wIdx, by decide +kernel⟩,
   ⟨eGat, (rdOf wGat eGat kGather), winRec, 43, wGat, by decide +kernel⟩,
   ⟨eGat, (rdOf wGatOut eGat kGather), winRec, true, wRun, wGatOut, by decide +kernel⟩⟩

/-- The hypotheses of SliceWrites are met together. -/
theorem witness_SliceWrites :
    (∃ (e : EvRef) (rd : Ready) (s : State), (readyEvent s e kWrite = some rd) ∧ ((advance rd.wait s).PlaneWf) ∧ ((advance rd.wait s).MemWf) ∧ ((advance rd.wait s).LinesHeld) ∧ ((writeBeat (advance rd.wait s) rd e.router 4).valid = true) ∧ ((writeBeat (advance rd.wait s) rd e.router 4).parityOk = true)) ∧
    (∃ (e : EvRef) (rd : Ready) (s : State), (readyEvent s e kWrite = some rd) ∧ ((advance rd.wait s).PlaneWf) ∧ (partOf (advance rd.wait s) e.router = some rd.part) ∧ ((writeBeat (advance rd.wait s) rd e.router 4).valid = false) ∧ ((advance rd.wait s).ctl.faultQ.length < 256)) ∧
    (∃ (e : EvRef) (rd : Ready) (w : IndexWindow) (l : Nat) (s : State), (readyEvent s e kScatter = some rd) ∧ ((advance rd.wait s).PlaneWf) ∧ (rd.image.window e.router rd.ev.arg = some w) ∧ ((advance rd.wait s).MemWf) ∧ ((advance rd.wait s).LinesHeld) ∧ (indexEntry rd.image e.router rd.ctx w (Tab.get IndexState.none (advance rd.wait s).buf.index (windowKey e.router w.id)) = .line l) ∧ ((writeBeat (advance rd.wait s) rd e.router 4).valid = true) ∧ ((writeBeat (advance rd.wait s) rd e.router 4).parityOk = true)) ∧
    (∃ (e : EvRef) (rd : Ready) (w : IndexWindow) (c : Bool) (s : State), (readyEvent s e kScatter = some rd) ∧ ((advance rd.wait s).PlaneWf) ∧ (rd.image.window e.router rd.ev.arg = some w) ∧ (indexEntry rd.image e.router rd.ctx w (Tab.get IndexState.none (advance rd.wait s).buf.index (windowKey e.router w.id)) = .suppressed c) ∧ ((advance rd.wait s).SliceWf)) :=
  ⟨⟨eWrite, (rdOf wWrite eWrite kWrite), wWrite, by decide +kernel⟩,
   ⟨eWrite, (rdOf wIdleWrite eWrite kWrite), wIdleWrite, by decide +kernel⟩,
   ⟨eSca, (rdOf wSca eSca kScatter), winRec, 43, wSca, by decide +kernel⟩,
   ⟨eSca, (rdOf wScaOut eSca kScatter), winRec, true, wScaOut, by decide +kernel⟩⟩

/-- The hypotheses of ComputeEvents are met together. -/
theorem witness_ComputeEvents :
    (∃ (e : EvRef) (rd : Ready) (c : OpClass) (s : State), (readyEvent s e kDispatch = some rd) ∧ ((advance rd.wait s).PlaneWf) ∧ (rd.image.opClass (bits rd.ev.arg 0 8) = some c)) ∧
    (∃ (router : Nat) (k : Nat) (at_ : Nat) (line : Nat) (up : List GroupTick) (s : State), (partOf s router = some k) ∧ (nextResult (part s k) router = some (at_, line)) ∧ (tickRuns s = true) ∧ (s.clk.frameDone = true) ∧ ((part s k).parked = false) ∧ (frameOffset s + (at_ - (part s k).ptick) < 4096) ∧ ((captured (dropDue k ⟨at_, .dispWrite router line⟩ (advance (at_ - (part s k).ptick) s)) router up).valid = true) ∧ ((captured (dropDue k ⟨at_, .dispWrite router line⟩ (advance (at_ - (part s k).ptick) s)) router up).parityOk = true) ∧ ((dropDue k ⟨at_, .dispWrite router line⟩ (advance (at_ - (part s k).ptick) s)).MemWf) ∧ ((dropDue k ⟨at_, .dispWrite router line⟩ (advance (at_ - (part s k).ptick) s)).LinesHeld) ∧ ((dropDue k ⟨at_, .dispWrite router line⟩ (advance (at_ - (part s k).ptick) s)).PlaneWf)) ∧
    (∃ (e : EvRef) (rd : Ready) (prog : FoldProg) (st : FoldStepRec) (s : State), (readyEvent s e kFold = some rd) ∧ ((advance rd.wait s).PlaneWf) ∧ (rd.image.foldProg rd.ev.arg = some prog) ∧ (rd.image.foldStep prog rd.pattern e.router e.index = some st) ∧ ((foldOperand rd.part e.router st.first rd.ev.out rd.ev.bsel prog.type (advance rd.wait s)).2 = advance rd.wait s) ∧ ((foldOperand rd.part e.router st.second rd.ev.out rd.ev.bsel prog.type (advance rd.wait s)).2 = advance rd.wait s)) ∧
    (∃ (e : EvRef) (rd : Ready) (d : TrainDesc) (s : State), (readyEvent s e kRng = some rd) ∧ ((advance rd.wait s).PlaneWf) ∧ (rd.image.trainDesc rd.ev.arg = some d) ∧ (bit1 rd.ev.out portSlice = true)) ∧
    (∃ (e : EvRef) (rd : Ready) (d : TrainDesc) (s : State), (readyEvent s e kUpdate = some rd) ∧ ((advance rd.wait s).PlaneWf) ∧ (rd.image.trainDesc rd.ev.arg = some d) ∧ (rd.ev.inp = portFold) ∧ ((schedRead e.router (rd.line e) (advance rd.wait s)).2 = advance rd.wait s)) ∧
    (∃ (router : Nat) (k : Nat) (at_ : Nat) (line : Nat) (up : List GroupTick) (s : State), (partOf s router = some k) ∧ (nextResult (part s k) router = some (at_, line)) ∧ (tickRuns s = true) ∧ (s.clk.frameDone = true) ∧ ((part s k).parked = false) ∧ (frameOffset s + (at_ - (part s k).ptick) < 4096) ∧ ((captured (dropDue k ⟨at_, .dispWrite router line⟩ (advance (at_ - (part s k).ptick) s)) router up).valid = false) ∧ ((dropDue k ⟨at_, .dispWrite router line⟩ (advance (at_ - (part s k).ptick) s)).tiles.perrs = []) ∧ ((dropDue k ⟨at_, .dispWrite router line⟩ (advance (at_ - (part s k).ptick) s)).PlaneWf) ∧ (partOf (dropDue k ⟨at_, .dispWrite router line⟩ (advance (at_ - (part s k).ptick) s)) router = some k)) ∧
    (∃ (e : EvRef) (rd : Ready) (d : TrainDesc) (s : State), (readyEvent s e kRng = some rd) ∧ ((advance rd.wait s).PlaneWf) ∧ (rd.image.trainDesc rd.ev.arg = some d) ∧ (bit1 rd.ev.out portSlice = false)) ∧
    (∃ (e : EvRef) (rd : Ready) (d : TrainDesc) (s : State), (readyEvent s e kUpdate = some rd) ∧ ((advance rd.wait s).PlaneWf) ∧ (rd.image.trainDesc rd.ev.arg = some d) ∧ (rd.ev.inp ≠ portFold) ∧ ((writeBeat (advance rd.wait s) rd e.router 1).valid = false) ∧ (partOf (advance rd.wait s) e.router = some rd.part)) ∧
    (∃ (e : EvRef) (rd : Ready) (d : TrainDesc) (s : State), (readyEvent s e kUpdate = some rd) ∧ ((advance rd.wait s).PlaneWf) ∧ (rd.image.trainDesc rd.ev.arg = some d) ∧ (rd.ev.inp ≠ portFold) ∧ ((writeBeat (advance rd.wait s) rd e.router 1).valid = true) ∧ ((writeBeat (advance rd.wait s) rd e.router 1).parityOk = true) ∧ ((schedRead e.router (rd.line e) (advance rd.wait s)).2 = advance rd.wait s)) :=
  ⟨⟨eDis, (rdOf wDis eDis kDispatch), clsRec, wDis, by decide +kernel⟩,
   ⟨rEv, 0, 9, 7, goodUp, wRes, by decide +kernel⟩,
   ⟨eFold, (rdOf wFold eFold kFold), progRec, stepRec, wFold, by decide +kernel⟩,
   ⟨eRng, (rdOf wRng eRng kRng), trainRec, wRng, by decide +kernel⟩,
   ⟨eUpd, (rdOf wUpd eUpd kUpdate), trainRec, wUpd, by decide +kernel⟩,
   ⟨rEv, 0, 9, 7, [], wRes, by decide +kernel⟩,
   ⟨eRng, (rdOf wRngF eRng kRng), trainRec, wRngF, by decide +kernel⟩,
   ⟨eUpd, (rdOf wUpdI eUpd kUpdate), trainRec, wUpdI, by decide +kernel⟩,
   ⟨eUpd, (rdOf wUpdB eUpd kUpdate), trainRec, wUpdB, by decide +kernel⟩⟩

/-- The hypotheses of TickAndFrameBoundaries are met together. -/
theorem witness_TickAndFrameBoundaries :
    (∃ (s : State), (tickRuns s = true) ∧ (s.clk.frameDone = true) ∧ (throttleBoundaryAfter s.clk.tick.toNat < nextBoundary s) ∧ (nextBoundary s < 2 ^ 64)) ∧
    (∃ (x : BitVec 9) (a : Nat) (s : State), (tickRuns s = true) ∧ (s.clk.frameDone = true) ∧ (throttleBoundaryAfter s.clk.tick.toNat < nextBoundary s) ∧ (nextBoundary s < 2 ^ 64) ∧ (s.clk.pendSetting = some (x, a)) ∧ (a ≤ s.clk.tick.toNat) ∧ (setValid x = true)) ∧
    (∃ (s : State), (tickRuns s = true) ∧ (s.clk.frameDone = true) ∧ (2 ≤ setK s.clk.setting) ∧ (s.clk.crumb < setK s.clk.setting) ∧ (s.clk.pendSetting = none) ∧ (s.clk.tick.toNat + (setK s.clk.setting - 1 - s.clk.crumb) < nextBoundary s) ∧ (nextBoundary s < 2 ^ 64)) ∧
    (∃ (s : State), (tickRuns s = true) ∧ (s.clk.frameDone = true) ∧ (barrierArmed s = false) ∧ (nextBoundary s < 2 ^ 64) ∧ (s.PlaneWf)) ∧
    (∃ (k : Nat) (im : Image) (v : Variant) (r : Run) (s : State), (tickRuns s = true) ∧ (s.clk.frameDone = true) ∧ (frameOffset s ≤ 3968) ∧ (branchDue s k = some (im, v)) ∧ ((part (advance (3968 - frameOffset s) s) k).run = some r)) ∧
    (∃ (k : Nat) (s : State), (k < 4) ∧ (tickRuns s = true) ∧ (s.clk.frameDone = true) ∧ (budgetFrame s k = true) ∧ ((part s k).suspended = []) ∧ (barrierArmed s = false) ∧ (nextBoundary s < 2 ^ 64)) :=
  ⟨⟨wTick, by decide +kernel⟩,
   ⟨1, 70, wTickPend, by decide +kernel⟩,
   ⟨wCrumb, by decide +kernel⟩,
   ⟨wFrame, by decide +kernel⟩,
   ⟨0, (wBranchImage), wBranchVar, wRun, wBranch, by decide +kernel⟩,
   ⟨0, wBudget, by decide +kernel⟩⟩

/-- The hypotheses of BoundaryEffects are met together. -/
theorem witness_BoundaryEffects :
    (∃ (k : Nat) (n : Nat) (a : Nat) (s : State), (k < 4) ∧ (tickRuns s = true) ∧ (s.clk.frameDone = true) ∧ (barrierArmed s = false) ∧ (nextBoundary s < 2 ^ 64) ∧ (s.PlaneWf) ∧ ((part s k).binding = some (n, a)) ∧ ((part s k).prep = true) ∧ ((part s k).slot = none) ∧ ((part s k).run = none) ∧ ((part s k).resetPend = false) ∧ ((part s k).unbinding = none) ∧ (∀ j, j < 4 → j ≠ k → (part s j).slot ≠ some n ∧ ((part s j).binding.map fun b => b.1) ≠ some n)) ∧
    (∃ (k : Nat) (n : Nat) (s : State), (k < 4) ∧ (tickRuns s = true) ∧ (s.clk.frameDone = true) ∧ (barrierArmed s = false) ∧ (nextBoundary s < 2 ^ 64) ∧ (s.PlaneWf) ∧ ((part s k).unbinding = some true) ∧ ((part s k).slot = some n) ∧ ((part s k).resetPend = false) ∧ (∀ j, j < 4 → j ≠ k → (part s j).slot ≠ some n ∧ ((part s j).binding.map fun b => b.1) ≠ some n)) ∧
    (∃ (k : Nat) (n : Nat) (s : State), (k < 4) ∧ (tickRuns s = true) ∧ (s.clk.frameDone = true) ∧ (barrierArmed s = false) ∧ (nextBoundary s < 2 ^ 64) ∧ (s.PlaneWf) ∧ ((part s k).resetPend = true) ∧ ((part s k).slot = some n) ∧ ((part s k).binding = none) ∧ (∀ j, j < 4 → j ≠ k → (part s j).slot ≠ some n ∧ ((part s j).binding.map fun b => b.1) ≠ some n)) :=
  ⟨⟨0, 1, 0, wBind, by decide +kernel⟩,
   ⟨0, 0, wUnbind, by decide +kernel⟩,
   ⟨0, 0, wReset, by decide +kernel⟩⟩

/-- The hypotheses of RefreshDebt are met together. -/
theorem witness_RefreshDebt :
    (∃ (pc : Nat) (s : State), ((pcOf s pc).sched = true) ∧ ((pcOf s pc).debt < 8)) ∧
    (∃ (pc : Nat) (k : Nat) (im : Image) (s : State), ((pcOf s pc).sched = true) ∧ (8 ≤ (pcOf s pc).debt) ∧ (pcPart s pc = some (k, im)) ∧ (s.ctl.faultQ.length < 256) ∧ (s.PlaneWf)) ∧
    (∃ (pc : Nat) (cell : Nat) (c : CellReady) (s : State), (readyCell s pc cell 3 = some c) ∧ (c.index = 0) ∧ (frameOffset s ≤ 8 * cell) ∧ (-8 < (pcOf (restoreRows pc (advance (8 * cell - frameOffset s) s)) pc).debt)) ∧
    (∃ (pc : Nat) (cell : Nat) (c : CellReady) (s : State), (readyCell s pc cell 3 = some c) ∧ (c.index = 0) ∧ (frameOffset s ≤ 8 * cell) ∧ ((pcOf (restoreRows pc (advance (8 * cell - frameOffset s) s)) pc).debt ≤ -8)) ∧
    (∃ (pc : Nat) (cell : Nat) (c : CellReady) (s : State), (readyCell s pc cell 4 = some c) ∧ (c.index = 0) ∧ (frameOffset s ≤ 8 * cell)) ∧
    (∃ (pc : Nat) (s : State), (pcServes s pc = true) ∧ ((pcOf s pc).auto = true) ∧ ((stackOf s (pc / 32)).selfRefresh = false)) :=
  ⟨⟨3, wSched, by decide +kernel⟩,
   ⟨3, 0, wHbmImage, wSchedFull, by decide +kernel⟩,
   ⟨3, 8, (cellOf wLane 3 8 3), wLane, by decide +kernel⟩,
   ⟨3, 8, (cellOf wLaneIdle 3 8 3), wLaneIdle, by decide +kernel⟩,
   ⟨3, 6, (cellOf wLane 3 6 4), wLane, by decide +kernel⟩,
   ⟨3, wTrained, by decide +kernel⟩⟩

/-- The hypotheses of WindowCells are met together. -/
theorem witness_WindowCells :
    (∃ (pc : Nat) (cell : Nat) (sev : Nat) (c : CellReady) (s : State), (readyCell s pc cell 1 = some c) ∧ (frameOffset s ≤ 8 * cell) ∧ ((pcOf (hbmCount pc 2 sev (restoreRows pc (advance (8 * cell - frameOffset s) s))) pc).openStripe = some (recStripeOf c.rec_ c.cell c.ctx)) ∧ ((hbmCount pc 2 sev (restoreRows pc (advance (8 * cell - frameOffset s) s))).PlaneWf)) ∧
    (∃ (pc : Nat) (cell : Nat) (sev : Nat) (c : CellReady) (s : State), (readyCell s pc cell 1 = some c) ∧ (frameOffset s ≤ 8 * cell) ∧ ((pcOf (hbmCount pc 2 sev (restoreRows pc (advance (8 * cell - frameOffset s) s))) pc).openStripe ≠ some (recStripeOf c.rec_ c.cell c.ctx)) ∧ ((hbmCount pc 2 sev (restoreRows pc (advance (8 * cell - frameOffset s) s))).PlaneWf)) ∧
    (∃ (pc : Nat) (cell : Nat) (c : CellReady) (s : State), (readyCell s pc cell 2 = some c) ∧ (frameOffset s ≤ 8 * cell + 15) ∧ ((pcOf (restoreRows pc (advance (8 * cell + 6 - frameOffset s) s)) pc).openStripe = some (recStripeOf c.rec_ c.cell c.ctx)) ∧ ((restoreRows pc (advance (8 * cell + 6 - frameOffset s) s)).MemWf) ∧ ((edgeBeatAt (part (restoreRows pc (advance (8 * cell + 6 - frameOffset s) s)) c.part).pipe (rimRouter (pc / 32) c.cell.rim) portEdge ((part (restoreRows pc (advance (8 * cell + 6 - frameOffset s) s)) c.part).ptick - (frameOffset (restoreRows pc (advance (8 * cell + 6 - frameOffset s) s)) - 8 * cell) + 0)).valid = true) ∧ ((edgeBeatAt (part (restoreRows pc (advance (8 * cell + 6 - frameOffset s) s)) c.part).pipe (rimRouter (pc / 32) c.cell.rim) portEdge ((part (restoreRows pc (advance (8 * cell + 6 - frameOffset s) s)) c.part).ptick - (frameOffset (restoreRows pc (advance (8 * cell + 6 - frameOffset s) s)) - 8 * cell) + 3)).valid = true) ∧ ((edgeBeatAt (part (restoreRows pc (advance (8 * cell + 6 - frameOffset s) s)) c.part).pipe (rimRouter (pc / 32) c.cell.rim) portEdge ((part (restoreRows pc (advance (8 * cell + 6 - frameOffset s) s)) c.part).ptick - (frameOffset (restoreRows pc (advance (8 * cell + 6 - frameOffset s) s)) - 8 * cell) + 6)).valid = true)) ∧
    (∃ (pc : Nat) (cell : Nat) (c : CellReady) (s : State), (readyCell s pc cell 2 = some c) ∧ (frameOffset s ≤ 8 * cell + 15) ∧ ((pcOf (restoreRows pc (advance (8 * cell + 6 - frameOffset s) s)) pc).openStripe = some (recStripeOf c.rec_ c.cell c.ctx)) ∧ ((edgeBeatAt (part (restoreRows pc (advance (8 * cell + 6 - frameOffset s) s)) c.part).pipe (rimRouter (pc / 32) c.cell.rim) portEdge ((part (restoreRows pc (advance (8 * cell + 6 - frameOffset s) s)) c.part).ptick - (frameOffset (restoreRows pc (advance (8 * cell + 6 - frameOffset s) s)) - 8 * cell) + 0)).valid = false) ∧ ((edgeBeatAt (part (restoreRows pc (advance (8 * cell + 6 - frameOffset s) s)) c.part).pipe (rimRouter (pc / 32) c.cell.rim) portEdge ((part (restoreRows pc (advance (8 * cell + 6 - frameOffset s) s)) c.part).ptick - (frameOffset (restoreRows pc (advance (8 * cell + 6 - frameOffset s) s)) - 8 * cell) + 3)).valid = false) ∧ ((edgeBeatAt (part (restoreRows pc (advance (8 * cell + 6 - frameOffset s) s)) c.part).pipe (rimRouter (pc / 32) c.cell.rim) portEdge ((part (restoreRows pc (advance (8 * cell + 6 - frameOffset s) s)) c.part).ptick - (frameOffset (restoreRows pc (advance (8 * cell + 6 - frameOffset s) s)) - 8 * cell) + 6)).valid = false)) ∧
    (∃ (pc : Nat) (cell : Nat) (c : CellReady) (s : State), (readyCell s pc cell 2 = some c) ∧ (frameOffset s ≤ 8 * cell + 15) ∧ ((pcOf (restoreRows pc (advance (8 * cell + 6 - frameOffset s) s)) pc).openStripe ≠ some (recStripeOf c.rec_ c.cell c.ctx))) :=
  ⟨⟨3, 2, 1, (cellOf wLane 3 2 1), wLane, by decide +kernel⟩,
   ⟨3, 2, 1, (cellOf wClosed 3 2 1), wClosed, by decide +kernel⟩,
   ⟨3, 4, (cellOf wCellWrite 3 4 2), wCellWrite, by decide +kernel⟩,
   ⟨3, 4, (cellOf wLane 3 4 2), wLane, by decide +kernel⟩,
   ⟨3, 4, (cellOf wClosed 3 4 2), wClosed, by decide +kernel⟩⟩

/-- The hypotheses of HbmControllers are met together. -/
theorem witness_HbmControllers :
    (∃ (k : Nat) (s : State), (s.boot.starting = true) ∧ (s.boot.steps.getLsbD 1 = true) ∧ (k < 8) ∧ ((stackOf s k).trained = false) ∧ ((stackOf s k).dead = false)) ∧
    (∃ (k : Nat) (s : State), (s.boot.starting = true) ∧ (s.boot.steps.getLsbD 1 = true) ∧ (k < 8) ∧ ((stackOf s k).trained = false) ∧ ((stackOf s k).dead = false)) ∧
    (∃ (k : Nat) (s : State), (s.boot.starting = true) ∧ (s.boot.steps.getLsbD 1 = true) ∧ (k < 8) ∧ ((stackOf s k).trained = false) ∧ ((stackOf s k).dead = false)) ∧
    (∃ (pc : Nat) (c : Nat) (q : UReq) (fn : Nat) (ticket : Nat) (off : Nat) (s : State), (s.MemWf) ∧ (s.UnitWf) ∧ (pcServes s pc = true) ∧ (cellPermitted s pc = true) ∧ ((pcOf s pc).writeback = []) ∧ (nextWork (pcOf s pc) = some (c, .inl q)) ∧ (q.origin = .stage fn ticket off) ∧ (pcDead s pc = false) ∧ (q.write = true)) ∧
    (∃ (pc : Nat) (c : Nat) (q : UReq) (fn : Nat) (ticket : Nat) (off : Nat) (s : State), (pcServes s pc = true) ∧ (cellPermitted s pc = true) ∧ ((pcOf s pc).writeback = []) ∧ (nextWork (pcOf s pc) = some (c, .inl q)) ∧ (q.origin = .stage fn ticket off) ∧ (pcDead s pc = false) ∧ (q.write = false)) ∧
    (∃ (pc : Nat) (c : Nat) (q : UReq) (fn : Nat) (ticket : Nat) (off : Nat) (s : State), (pc < 256) ∧ (nextWork (pcOf s pc) = some (c, .inl q)) ∧ (q.origin = .stage fn ticket off) ∧ (pcDead s pc = true) ∧ (q.write = true)) ∧
    (∃ (pc : Nat) (l : Nat) (rest : List Nat) (s : State), ((pcOf s pc).writeback = l :: rest) ∧ (pcServes s pc = true) ∧ (cellPermitted s pc = true) ∧ (Tab.get 0 s.hbm.flag l = 1) ∧ (s.UnitWf)) ∧
    (∃ (pc : Nat) (l : Nat) (rest : List Nat) (s : State), ((pcOf s pc).writeback = l :: rest) ∧ (pcServes s pc = true) ∧ (cellPermitted s pc = true) ∧ (Tab.get 0 s.hbm.flag l = 5) ∧ (s.UnitWf)) ∧
    (∃ (pc : Nat) (s : State), (s.UnitWf) ∧ ((pcOf s pc).patrol < pcLines) ∧ (pcServes s pc = true) ∧ (cellPermitted s pc = true) ∧ (pcDead s pc = false) ∧ ((pcOf s pc).queue = []) ∧ ((pcOf s pc).cacheQ = []) ∧ ((pcOf s pc).writeback = []) ∧ ((stackOf s (pc / 32)).selfRefresh = false)) ∧
    (∃ (pc : Nat) (row : Nat) (s : State), (s.UnitWf) ∧ (pcServes s pc = true) ∧ ((pcOf s pc).auto = true) ∧ ((pcOf s pc).failing.contains row = true)) ∧
    (∃ (pc : Nat) (row : Nat) (s : State), (s.UnitWf) ∧ (pcServes s pc = true) ∧ ((pcOf s pc).auto = true) ∧ ((pcOf s pc).failing.contains row = true)) ∧
    (∃ (k : Nat) (s : State), (s.UnitWf) ∧ (k < 8) ∧ ((stackOf s k).trained = true)) :=
  ⟨⟨7, wStarting, by decide +kernel⟩,
   ⟨7, wStarting, by decide +kernel⟩,
   ⟨0, wStarting, by decide +kernel⟩,
   ⟨3, 2, wReqWrite, 1, 9, 0, wQueued, by decide +kernel⟩,
   ⟨3, 2, wReqRead, 1, 9, 64, wQueuedRead, by decide +kernel⟩,
   ⟨3, 2, wReqWrite, 1, 9, 0, wQueuedDead, by decide +kernel⟩,
   ⟨3, (3 * pcLines + 5), [], wCorr, by decide +kernel⟩,
   ⟨3, (3 * pcLines + 5), [], wCorrPoison, by decide +kernel⟩,
   ⟨3, wTrained, by decide +kernel⟩,
   ⟨3, 44, wFailing, by decide +kernel⟩,
   ⟨3, 44, wFailing, by decide +kernel⟩,
   ⟨0, wTrained, by decide +kernel⟩⟩

/-- The hypotheses of HostTransfers are met together. -/
theorem witness_HostTransfers :
    (∃ (k : Nat) (i : Nat) (beat : Nat) (h : HostRec) (r : Run) (q : Run) (d : HostHold) (s : State), (hostRecord s k i beat = some (h, r)) ∧ (h.dir = 0) ∧ ((advance ((h.tick + beat) % 4096 - frameOffset s) s).PlaneWf) ∧ ((part (advance ((h.tick + beat) % 4096 - frameOffset s) s) k).run = some q) ∧ (r.hostData.find? (heldHere h r i beat) = some d) ∧ (d.failed = false)) ∧
    (∃ (k : Nat) (i : Nat) (beat : Nat) (h : HostRec) (r : Run) (q : Run) (s : State), (hostRecord s k i beat = some (h, r)) ∧ (h.dir = 0) ∧ (r.dropped = false) ∧ ((advance ((h.tick + beat) % 4096 - frameOffset s) s).PlaneWf) ∧ ((part (advance ((h.tick + beat) % 4096 - frameOffset s) s) k).run = some q) ∧ (r.hostData.find? (heldHere h r i beat) = none)) ∧
    (∃ (k : Nat) (i : Nat) (beat : Nat) (h : HostRec) (r : Run) (b : BufEntry) (s : State), (hostRecord s k i beat = some (h, r)) ∧ (h.dir ≠ 0) ∧ (r.dropped = false) ∧ (r.bufs[h.buf]? = some b) ∧ ((edgeBeatAt (part (advance ((h.tick + beat) % 4096 - frameOffset s) s) k).pipe (hostRim h) (hostPort h) (part (advance ((h.tick + beat) % 4096 - frameOffset s) s) k).ptick).valid = true)) ∧
    (∃ (k : Nat) (r : Run) (s : State), ((part s k).run = some r) ∧ (r.dropped = false)) :=
  ⟨⟨0, 0, 0, hostIn, (wHostRun true), (wHostRun true), ⟨0, 0, 0, 77, false⟩, (wHost hostIn (wHostRun true) []), by decide +kernel⟩,
   ⟨0, 0, 0, hostIn, (wHostRun false), (wHostRun false), (wHost hostIn (wHostRun false) []), by decide +kernel⟩,
   ⟨0, 0, 0, hostOut, (wHostRun false), ⟨4096, 128, true, true, false, false⟩, (wHost hostOut (wHostRun false) [⟨routerAt 0 20, portEdge, wBeat, 8⟩]), by decide +kernel⟩,
   ⟨0, (wHostRun true), (wHost hostIn (wHostRun true) []), by decide +kernel⟩⟩

/-- The hypotheses of CompressorCommands are met together. -/
theorem witness_CompressorCommands :
    (∃ (router : Nat) (k : Nat) (port : Nat) (a : Arrival) (s : State), (partOf s router = some k) ∧ (routerX router = 127) ∧ (eastPort (routerY router) = some port) ∧ (edgeNow (part s k).pipe (part s k).ptick router = some a) ∧ (tickRuns s = true) ∧ ((part s k).parked = false) ∧ (windowOpen (openBefore k port a s) port = false) ∧ (¬((compOf (openBefore k port a s) port 0).took.1 = a.at_ ∧ (compOf (openBefore k port a s) port 0).took.2.contains router = true)) ∧ ((openBefore k port a s).UnitWf)) ∧
    (∃ (router : Nat) (k : Nat) (port : Nat) (a : Arrival) (s : State), (partOf s router = some k) ∧ (routerX router = 127) ∧ (eastPort (routerY router) = some port) ∧ (edgeNow (part s k).pipe (part s k).ptick router = some a) ∧ (tickRuns s = true) ∧ ((part s k).parked = false) ∧ (windowOpen (openBefore k port a s) port = true) ∧ (notTaken (compOf (openBefore k port a s) port 0) a.at_ router = true) ∧ ((compOf (openBefore k port a s) port 0).entered + 1 < ((compOf (openBefore k port a s) port 0).window.map fun w => denseBeats (compOf (openBefore k port a s) port 0).desc w.2.2.1).getD 0) ∧ ((openBefore k port a s).UnitWf)) ∧
    (∃ (port : Nat) (k : Nat) (r : DenseBeat) (rest : List DenseBeat) (s : State), (partOf s (windowRouter port 0) = some k) ∧ ((compOf s port 0).residuals = r :: rest) ∧ (tickRuns s = true) ∧ ((part s k).parked = false) ∧ ((toPartTick k r.at_ s).clk.held = false) ∧ ((part (toPartTick k r.at_ s) k).parked = false) ∧ ((toPartTick k r.at_ s).UnitWf) ∧ ((toPartTick k r.at_ s).PlaneWf)) ∧
    (∃ (port : Nat) (k : Nat) (a : Nat) (b : Nat) (c : Nat) (w : BitVec 32) (r : CompRec) (rest : List CompRec) (s : State), (partOf s (windowRouter port 0) = some k) ∧ ((compOf s port 0).records = r :: rest) ∧ (tickRuns s = true) ∧ ((part s k).parked = false) ∧ ((toPartTick k r.at_ s).clk.held = false) ∧ ((part (toPartTick k r.at_ s) k).parked = false) ∧ ((compOf (toPartTick k r.at_ s) port 0).records = r :: rest) ∧ ((compOf (toPartTick k r.at_ s) port 0).window = some (a, b, c, w)) ∧ ((compOf (toPartTick k r.at_ s) port 0).fault = false) ∧ ((compOf (toPartTick k r.at_ s) port 0).wire.length < 3) ∧ (r.last = false) ∧ ((compOf (toPartTick k r.at_ s) port 0).tailLen + r.len < 64)) ∧
    (∃ (port : Nat) (k : Nat) (a : Nat) (b : Nat) (c : Nat) (w : BitVec 32) (r : CompRec) (rest : List CompRec) (s : State), (partOf s (windowRouter port 0) = some k) ∧ ((compOf s port 0).records = r :: rest) ∧ (tickRuns s = true) ∧ ((part s k).parked = false) ∧ ((toPartTick k r.at_ s).clk.held = false) ∧ ((part (toPartTick k r.at_ s) k).parked = false) ∧ ((compOf (toPartTick k r.at_ s) port 0).records = r :: rest) ∧ ((compOf (toPartTick k r.at_ s) port 0).window = some (a, b, c, w)) ∧ (r.last = true) ∧ ((toPartTick k r.at_ s).UnitWf)) :=
  ⟨⟨(routerAt 127 2), 0, 0, ⟨routerAt 127 2, portEdge, Beat.of 0x40102 false, 8⟩, wDesc, by decide +kernel⟩,
   ⟨(routerAt 127 2), 0, 0, ⟨routerAt 127 2, portEdge, Beat.of 0x40102 false, 8⟩, wDescOpen, by decide +kernel⟩,
   ⟨0, 0, ⟨10, routerAt 127 2, wBeat⟩, [⟨11, routerAt 127 3, wBeat⟩], wResid, by decide +kernel⟩,
   ⟨0, 0, 0, 5, 6, 1, ⟨10, 0x1234, 36, false, false⟩, [], wRecord, by decide +kernel⟩,
   ⟨0, 0, 0, 5, 6, 1, ⟨10, 0x1234, 36, false, true⟩, [], wRecordLast, by decide +kernel⟩⟩

/-- The hypotheses of LatticeWindows are met together. -/
theorem witness_LatticeWindows :
    (∃ (k : Nat) (i : Nat) (beat : Nat) (r : LatRec) (s : State), (latRecord s k i 0 = some r) ∧ (beatTick r beat < 4096) ∧ (frameOffset s ≤ beatTick r beat + 12) ∧ ((openDue k r.port (beatTick r beat) (advance (beatTick r beat - frameOffset s) s)) = openWindow r.port i r (advance (beatTick r beat - frameOffset s) s)) ∧ (1 < denseBeats ((compOf (advance (beatTick r beat - frameOffset s) s) r.port 0).next.getD (compOf (advance (beatTick r beat - frameOffset s) s) r.port 0).desc) (r.beatsM1 + 1)) ∧ ((advance (beatTick r beat - frameOffset s) s).UnitWf)) ∧
    (∃ (k : Nat) (i : Nat) (beat : Nat) (w : BitVec 32) (r : LatRec) (s : State), (latRecord s k i 0 = some r) ∧ (beatTick r beat < 4096) ∧ (frameOffset s ≤ beatTick r beat + 12) ∧ ((compOf (openDue k r.port (beatTick r beat) (advance (beatTick r beat - frameOffset s) s)) r.port 0).window = some (i, r.peer, r.beatsM1 + 1, w)) ∧ ((compOf (openDue k r.port (beatTick r beat) (advance (beatTick r beat - frameOffset s) s)) r.port 0).desc.passes = true) ∧ ((compOf (openDue k r.port (beatTick r beat) (advance (beatTick r beat - frameOffset s) s)) r.port 0).fault = false) ∧ ((compOf (openDue k r.port (beatTick r beat) (advance (beatTick r beat - frameOffset s) s)) r.port 0).tailLen = 0) ∧ ((compOf (openDue k r.port (beatTick r beat) (advance (beatTick r beat - frameOffset s) s)) r.port 0).tail = 0) ∧ ((compOf (openDue k r.port (beatTick r beat) (advance (beatTick r beat - frameOffset s) s)) r.port 0).tailPoison = false) ∧ ((compOf (openDue k r.port (beatTick r beat) (advance (beatTick r beat - frameOffset s) s)) r.port 0).wire.length < 2) ∧ ((compOf (openDue k r.port (beatTick r beat) (advance (beatTick r beat - frameOffset s) s)) r.port 0).entered < r.beatsM1) ∧ (notTaken (compOf (openDue k r.port (beatTick r beat) (advance (beatTick r beat - frameOffset s) s)) r.port 0) ((part (advance (beatTick r beat - frameOffset s) s) k).ptick - (frameOffset (advance (beatTick r beat - frameOffset s) s) - beatTick r beat)) (windowRouter r.port beat) = true) ∧ ((edgeBeatAt (part (advance (beatTick r beat - frameOffset s) s) k).pipe (windowRouter r.port beat) portEdge ((part (advance (beatTick r beat - frameOffset s) s) k).ptick - (frameOffset (advance (beatTick r beat - frameOffset s) s) - beatTick r beat))).valid = true) ∧ ((openDue k r.port (beatTick r beat) (advance (beatTick r beat - frameOffset s) s)).UnitWf)) ∧
    (∃ (k : Nat) (i : Nat) (beat : Nat) (r : LatRec) (s : State), (latRecord s k i 0 = some r) ∧ (4096 ≤ beatTick r beat ∨ beatTick r beat + 12 < frameOffset s)) ∧
    (∃ (k : Nat) (i : Nat) (beat : Nat) (r : LatRec) (v : StoredWin) (s : State), (latRecord s k i 1 = some r) ∧ (beatTick r beat < 4096) ∧ (frameOffset s ≤ beatTick r beat) ∧ (beat ≠ 0) ∧ (beat + 1 < denseBeats (compOf (advance (beatTick r beat - frameOffset s) s) r.port 1).desc (r.beatsM1 + 1)) ∧ ((compOf (advance (beatTick r beat - frameOffset s) s) r.port 1).fault = false) ∧ (incomingWin (advance (beatTick r beat - frameOffset s) s) r = some v) ∧ (v.late = false) ∧ (v.failed = false) ∧ ((advance (beatTick r beat - frameOffset s) s).PlaneWf)) ∧
    (∃ (k : Nat) (i : Nat) (beat : Nat) (r : LatRec) (s : State), (latRecord s k i 1 = some r) ∧ (beatTick r beat < 4096) ∧ (frameOffset s ≤ beatTick r beat) ∧ (beat ≠ 0) ∧ (beat + 1 < denseBeats (compOf (advance (beatTick r beat - frameOffset s) s) r.port 1).desc (r.beatsM1 + 1)) ∧ ((∀ v, incomingWin (advance (beatTick r beat - frameOffset s) s) r = some v → v.late = true ∨ v.failed = true))) ∧
    (∃ (k : Nat) (i : Nat) (beat : Nat) (r : LatRec) (v : StoredWin) (s : State), (latRecord s k i 1 = some r) ∧ (beatTick r beat < 4096) ∧ (frameOffset s ≤ beatTick r beat) ∧ (beat ≠ 0) ∧ (beat + 1 = denseBeats (compOf (advance (beatTick r beat - frameOffset s) s) r.port 1).desc (r.beatsM1 + 1)) ∧ (incomingWin (advance (beatTick r beat - frameOffset s) s) r = some v)) :=
  ⟨⟨0, 0, 0, latOut, wLatOpen, by decide +kernel⟩,
   ⟨0, 0, 1, 0, latOut, wLatEntry, by decide +kernel⟩,
   ⟨0, 0, 99999, latOut, wLatOpen, by decide +kernel⟩,
   ⟨0, 0, 1, latIn, storedOne, wLatIn, by decide +kernel⟩,
   ⟨0, 0, 1, latIn, wLatMissing, by decide +kernel⟩,
   ⟨0, 0, 2, latIn, storedOne, wLatIn, by decide +kernel⟩⟩

/-- The hypotheses of RingDoorbells are met together. -/
theorem witness_RingDoorbells :
    (∃ (fn : Nat) (ring : Nat) (v : BitVec 32) (s : State), (barServed s fn = true) ∧ (flrBusy s fn = false) ∧ ((ringOf (settleFlush fn ring s) fn ring).regs.enabled = true) ∧ (((v.truncate 24 : BitVec 24) - (ringOf (settleFlush fn ring s) fn ring).head).toNat ≤ (ringOf (settleFlush fn ring s) fn ring).size) ∧ (((v >>> 24).truncate 8 : BitVec 8) = (ringOf (settleFlush fn ring s) fn ring).epoch) ∧ ((ringOf (settleFlush fn ring s) fn ring).exposed < ((v.truncate 24 : BitVec 24) - (ringOf (settleFlush fn ring s) fn ring).head).toNat)) ∧
    (∃ (fn : Nat) (ring : Nat) (v : BitVec 32) (w : Bool) (s : State), (barServed s fn = true) ∧ (flrBusy s fn = false) ∧ (s.HostWf) ∧ ((ringOf (settleFlush fn ring s) fn ring).regs.enabled = false ∨ w = false ∨ (ringOf (settleFlush fn ring s) fn ring).size < ((v.truncate 24 : BitVec 24) - (ringOf (settleFlush fn ring s) fn ring).head).toNat)) ∧
    (∃ (fn : Nat) (ring : Nat) (v : BitVec 32) (s : State), (barServed s fn = true) ∧ (flrBusy s fn = false) ∧ (s.HostWf) ∧ ((ringOf s fn ring).regs.enabled = true) ∧ (((v.truncate 24 : BitVec 24) - (ringOf (settleFlush fn ring s) fn ring).head).toNat ≤ (ringOf (settleFlush fn ring s) fn ring).size) ∧ (((v >>> 24).truncate 8 : BitVec 8) ≠ (ringOf (settleFlush fn ring s) fn ring).epoch)) ∧
    (∃ (fn : Nat) (ring : Nat) (v : BitVec 32) (s : State), (barServed s fn = true) ∧ (flrBusy s fn = false) ∧ ((ringOf (settleFlush fn ring s) fn ring).regs.enabled = true) ∧ (((v.truncate 24 : BitVec 24) - (ringOf (settleFlush fn ring s) fn ring).head).toNat ≤ (ringOf (settleFlush fn ring s) fn ring).size) ∧ (((v >>> 24).truncate 8 : BitVec 8) = (ringOf (settleFlush fn ring s) fn ring).epoch) ∧ (((v.truncate 24 : BitVec 24) - (ringOf (settleFlush fn ring s) fn ring).head).toNat ≤ (ringOf (settleFlush fn ring s) fn ring).exposed)) ∧
    (∃ (fn : Nat) (s : State), (barServed s fn = false)) ∧
    (∃ (fn : Nat) (ring : Nat) (v : BitVec 32) (s : State), (barServed s fn = true) ∧ (flrBusy s fn = false) ∧ (s.HostWf) ∧ (((ringOf s fn ring).cqw - (v.truncate 24 : BitVec 24)).toNat ≤ (ringOf s fn ring).cqSize)) ∧
    (∃ (fn : Nat) (ring : Nat) (s : State), (barServed s fn = true) ∧ (flrBusy s fn = false) ∧ ((ringOf s fn ring).regs.enabled = true)) :=
  ⟨⟨1, 0, 0x02000003, wRing, by decide +kernel⟩,
   ⟨1, 0, 0x02000003, false, wRing, by decide +kernel⟩,
   ⟨1, 0, 0x03000003, wRing, by decide +kernel⟩,
   ⟨1, 0, 0x02000001, wRing, by decide +kernel⟩,
   ⟨1, wLinked, by decide +kernel⟩,
   ⟨1, 0, 0, wRing, by decide +kernel⟩,
   ⟨1, 0, wRing, by decide +kernel⟩⟩

/-- The hypotheses of RingEngine are met together. -/
theorem witness_RingEngine :
    (∃ (fn : Nat) (ring : Nat) (us : List (BitVec 512)) (s : State), ((ringOf s fn ring).regs.enabled = true) ∧ (us.length ≤ min (64 - (ringOf s fn ring).units.length) ((ringOf s fn ring).tail - (ringOf s fn ring).fetch).toNat)) ∧
    (∃ (fn : Nat) (ring : Nat) (s : State), (s.HostWf) ∧ ((ringOf s fn ring).flushPend = true) ∧ ((ringOf s fn ring).entryFree = true)) ∧
    (∃ (fn : Nat) (ring : Nat) (i : Nat) (s : State), (s.HostWf) ∧ (i < (ringOf (settleFlush fn ring s) fn ring).marks.length)) ∧
    (∃ (fn : Nat) (ring : Nat) (seq : BitVec 32) (o : Outst) (d : Done) (s : State), (s.HostWf) ∧ ((endedRuns (ringOf s fn ring)).find? (fun o => o.seq == seq && !((endedRuns (ringOf s fn ring)).any fun a => endsBefore a o)) = some o) ∧ (o.ended = some d)) ∧
    (∃ (fn : Nat) (ring : Nat) (t0 : Nat) (s : State), (s.HostWf) ∧ ((ringOf s fn ring).modSince = some t0) ∧ ((ringOf s fn ring).regs.vec ≠ 0xF) ∧ ((Tab.get Vector.reset s.rings.vec (8 * fn + (ringOf s fn ring).regs.vec)).masked = false)) :=
  ⟨⟨1, 0, [nopItem], wRing, by decide +kernel⟩,
   ⟨1, 0, wRingFlush, by decide +kernel⟩,
   ⟨1, 0, 0, wRingFlush, by decide +kernel⟩,
   ⟨1, 0, 5, endedItem, ⟨0, 0x77, 3, false, 9⟩, wRingEnded, by decide +kernel⟩,
   ⟨1, 0, 0, wRingTimer, by decide +kernel⟩⟩

/-- The hypotheses of ItemsConsumed are met together. -/
theorem witness_ItemsConsumed :
    (∃ (fn : Nat) (ring : Nat) (x : Nat) (s : State), (ring < 2) ∧ (consumable s fn ring = some x) ∧ (itOpcode x = 1) ∧ (s.HostWf)) ∧
    (∃ (fn : Nat) (ring : Nat) (x : Nat) (u : State) (s : State), (2 ≤ ring) ∧ (startTurn fn ring s = some (x, u)) ∧ (itOpcode x = 1)) ∧
    (∃ (fn : Nat) (ring : Nat) (x : Nat) (u : State) (s : State), (ring = 2) ∧ (startTurn fn 2 s = some (x, u)) ∧ (itOpcode x = 0x20) ∧ (badHead s fn 2 x = none) ∧ (stageRangeOk u x = false)) ∧
    (∃ (fn : Nat) (x : Nat) (u : State) (s : State), (startTurn fn 2 s = some (x, u)) ∧ (itOpcode x = 0x20) ∧ (badHead s fn 2 x = none) ∧ (stageRangeOk u x = true) ∧ (stageWindowOk u fn x = true) ∧ (stageRefusal u x = none) ∧ (stageSpace x = 1) ∧ (stageToHost x = true) ∧ (stageLen x = 64)) ∧
    (∃ (fn : Nat) (x : Nat) (u : State) (s : State), (startTurn fn 2 s = some (x, u)) ∧ (itOpcode x = 0x20) ∧ (badHead s fn 2 x = none) ∧ (stageRangeOk u x = true) ∧ (stageWindowOk u fn x = true) ∧ (stageRefusal u x = none) ∧ (stageSpace x = 1) ∧ (stageToHost x = false) ∧ (stageLen x = 64)) ∧
    (∃ (fn : Nat) (ring : Nat) (x : Nat) (u : State) (s : State), (ring = 2) ∧ (startTurn fn 2 s = some (x, u)) ∧ (itOpcode x = 0x20) ∧ (badHead s fn 2 x = none) ∧ (stageRangeOk u x = true) ∧ (stageWindowOk u fn x = false) ∧ (u.HostWf)) ∧
    (∃ (fn : Nat) (ring : Nat) (o : Outst) (s : State), (ring = 2) ∧ ((doneStages s fn).find? (fun o => !((doneStages s fn).any fun a => doneBefore a o)) = some o)) ∧
    (∃ (fn : Nat) (x : Nat) (u : State) (s : State), (startTurn fn 2 s = some (x, u)) ∧ (itOpcode x = 0x21) ∧ (badHead s fn 2 x = none) ∧ (pcWellFormed (bits x 128 384) = true) ∧ ((pcRights (bits x 128 384)).all (fun r => winPool u fn r.1 r.2) = true) ∧ (pcRefusal u (bits x 128 384) none = none)) :=
  ⟨⟨1, 0, nopItem.toNat, wRingHeld, by decide +kernel⟩,
   ⟨1, 2, nopItem.toNat, (turnOf 1 2 (wItem 2 nopItem)), (wItem 2 nopItem), by decide +kernel⟩,
   ⟨0, 2, (stageItem 2 65).toNat, (turnOf 0 2 (wItem0 (stageItem 2 65))), (wItem0 (stageItem 2 65)), by decide +kernel⟩,
   ⟨0, (stageItem 3 64).toNat, (turnOf 0 2 (wItem0 (stageItem 3 64))), (wItem0 (stageItem 3 64)), by decide +kernel⟩,
   ⟨0, (stageItem 2 64).toNat, (turnOf 0 2 (wItem0 (stageItem 2 64))), (wItem0 (stageItem 2 64)), by decide +kernel⟩,
   ⟨1, 2, (stageItem 2 64).toNat, (turnOf 1 2 (wItem 2 (stageItem 2 64))), (wItem 2 (stageItem 2 64)), by decide +kernel⟩,
   ⟨1, 2, stagedItem, wStaged, by decide +kernel⟩,
   ⟨0, (poolItem 6).toNat, (turnOf 0 2 (wItem0 (poolItem 6))), (wItem0 (poolItem 6)), by decide +kernel⟩⟩

/-- The hypotheses of RingSwitches are met together. -/
theorem witness_RingSwitches :
    (∃ (fn : Nat) (ring : Nat) (s : State), (ring < 4) ∧ (barServed s fn = true) ∧ (flrBusy s fn = false) ∧ (s.HostWf) ∧ ((ringOf s fn ring).regs.enabled = false) ∧ (enableOk s fn ring = true)) ∧
    (∃ (fn : Nat) (ring : Nat) (s : State), (ring < 4) ∧ (barServed s fn = true) ∧ (flrBusy s fn = false) ∧ ((ringOf s fn ring).regs.enabled = false) ∧ (enableOk s fn ring = false)) ∧
    (∃ (fn : Nat) (ring : Nat) (s : State), (ring < 4) ∧ (barServed s fn = true) ∧ (flrBusy s fn = false) ∧ (s.HostWf) ∧ ((ringOf s fn ring).regs.enabled = true) ∧ ((ringOf s fn ring).entryFree = true)) ∧
    (∃ (fn : Nat) (ring : Nat) (s : State), (ring < 4) ∧ (barServed s fn = true) ∧ (flrBusy s fn = false) ∧ ((ringOf s fn ring).regs.enabled = true) ∧ ((ringOf s fn ring).entryFree = false)) ∧
    (∃ (fn : Nat) (s : State), (fn ≠ 0) ∧ (fn ≤ 64) ∧ (s.HostWf)) ∧
    (∃ (s : State), (s.HostWf)) :=
  ⟨⟨1, 0, wRingOff, by decide +kernel⟩,
   ⟨1, 1, wRingOff, by decide +kernel⟩,
   ⟨1, 0, wRing, by decide +kernel⟩,
   ⟨1, 0, wRingFull, by decide +kernel⟩,
   ⟨1, wRing, by decide +kernel⟩,
   ⟨wRing, by decide +kernel⟩⟩

/-- The hypotheses of PriorityAndCapture are met together. -/
theorem witness_PriorityAndCapture :
    (∃ (fn : Nat) (v : BitVec 64) (s : State), (fn < 65) ∧ (barServed s 0 = true) ∧ (flrBusy s 0 = false) ∧ (s.HostWf) ∧ (reservedClear v.toNat [(0, 3), (8, 32)] = true)) ∧
    (∃ (fn : Nat) (v : BitVec 64) (s : State), (fn < 65) ∧ (barServed s 0 = true) ∧ (flrBusy s 0 = false) ∧ (reservedClear v.toNat [(0, 3), (8, 32)] = false)) ∧
    (∃ (fn : Nat) (v : BitVec 64) (s : State), (fn < 65) ∧ (barServed s 0 = true) ∧ (flrBusy s 0 = false) ∧ (s.HostWf) ∧ (reservedClear v.toNat [(0, 8)] = true)) ∧
    (∃ (s : State), (barServed s 0 = true) ∧ (flrBusy s 0 = false)) ∧
    (∃ (v : BitVec 64) (s : State), (barServed s 0 = true) ∧ (flrBusy s 0 = false) ∧ (s.logs.ack.toNat ≤ v.toNat)) ∧
    (∃ (v : BitVec 64) (s : State), (barServed s 0 = true) ∧ (flrBusy s 0 = false) ∧ (v.toNat < s.logs.ack.toNat)) ∧
    (∃ (v : BitVec 32) (s : State), (barServed s 0 = true) ∧ (flrBusy s 0 = false) ∧ (s.regs.dbgArm = true) ∧ (s.regs.dbgPending = false) ∧ (1 ≤ bits v.toNat 0 4) ∧ (bits v.toNat 0 4 ≤ 7)) ∧
    (∃ (v : BitVec 32) (s : State), (barServed s 0 = true) ∧ (flrBusy s 0 = false) ∧ (s.regs.dbgArm = false ∨ s.regs.dbgPending = true ∨ bits v.toNat 0 4 = 0 ∨ 8 ≤ bits v.toNat 0 4)) :=
  ⟨⟨1, 0x1403020105, wRing, by decide +kernel⟩,
   ⟨1, 0x10, wRing, by decide +kernel⟩,
   ⟨1, 9, wRing, by decide +kernel⟩,
   ⟨wReady, by decide +kernel⟩,
   ⟨9, wReady, by decide +kernel⟩,
   ⟨1, wAcked, by decide +kernel⟩,
   ⟨0x00050002, wArmed, by decide +kernel⟩,
   ⟨0x00050002, wReady, by decide +kernel⟩⟩

/-- The hypotheses of RegisterAccess are met together. -/
theorem witness_RegisterAccess :
    (∃ (fn : Nat) (off : Nat) (v : Nat) (s : State), (barServed s fn = true) ∧ (flrBusy s fn = false) ∧ (inBar fn off = true) ∧ (off % 8 = 0) ∧ (regLong s fn off = some v)) ∧
    (∃ (fn : Nat) (off : Nat) (v : Nat) (l : Nat × BitVec 32) (s : State), (barServed s fn = true) ∧ (flrBusy s fn = false) ∧ (inBar fn (off + 4) = true) ∧ (off % 8 = 0) ∧ (regLong s fn off = some v) ∧ (s.regs.latch.find? (fun (e : Nat × BitVec 32) => e.1 == regKey fn off) = some l)) ∧
    (∃ (fn : Nat) (off : Nat) (v : Nat) (s : State), (barServed s fn = true) ∧ (flrBusy s fn = false) ∧ (inBar fn off = true) ∧ (off % 8 = 0) ∧ (regLong s fn off = some v)) ∧
    (∃ (fn : Nat) (s : State), (barServed s fn = false)) ∧
    (∃ (fn : Nat) (s : State), (barServed s fn = false)) ∧
    (∃ (s : State), (barServed s 0 = true) ∧ (flrBusy s 0 = false)) ∧
    (∃ (fn : Nat) (s : State), (barServed s fn = true) ∧ (flrBusy s fn = false) ∧ (s.HostWf)) ∧
    (∃ (v : Nat) (s : State), (barServed s 0 = true) ∧ (flrBusy s 0 = false) ∧ (v < 2 ^ 64)) ∧
    (∃ (fn : Nat) (ring : Nat) (s : State), (barServed s fn = true) ∧ (flrBusy s fn = false) ∧ (ring < 4) ∧ (s.HostWf) ∧ ((ringOf s fn ring).regs.enabled = false)) ∧
    (∃ (fn : Nat) (ring : Nat) (s : State), (barServed s fn = true) ∧ (flrBusy s fn = false) ∧ (ring < 4) ∧ ((ringOf s fn ring).regs.enabled = true)) ∧
    (∃ (s : State), (barServed s 0 = true) ∧ (flrBusy s 0 = false)) ∧
    (∃ (s : State), (barServed s 0 = true) ∧ (flrBusy s 0 = false)) ∧
    (∃ (s : State), (barServed s 0 = true) ∧ (flrBusy s 0 = false)) ∧
    (∃ (fn : Nat) (s : State), (barServed s fn = true) ∧ (flrBusy s fn = false) ∧ (s.HostWf)) :=
  ⟨⟨0, 0x30020, 0, wReady, by decide +kernel⟩,
   ⟨0, 0x30020, 0, (0x30020, 7), wLatched, by decide +kernel⟩,
   ⟨0, 0x30020, 0, wReady, by decide +kernel⟩,
   ⟨0, wUnserved, by decide +kernel⟩,
   ⟨0, wUnserved, by decide +kernel⟩,
   ⟨wReady, by decide +kernel⟩,
   ⟨1, wReady, by decide +kernel⟩,
   ⟨5, wReady, by decide +kernel⟩,
   ⟨1, 0, wRingOff, by decide +kernel⟩,
   ⟨1, 0, wRing, by decide +kernel⟩,
   ⟨wAttn, by decide +kernel⟩,
   ⟨wReady, by decide +kernel⟩,
   ⟨wReady, by decide +kernel⟩,
   ⟨1, wReady, by decide +kernel⟩⟩

/-- The hypotheses of MessagesSubmitted are met together. -/
theorem witness_MessagesSubmitted :
    (∃ (s : State), (barServed s 0 = true) ∧ (flrBusy s 0 = false) ∧ (mbxClosed s = false)) ∧
    (∃ (s : State), (barServed s 0 = true) ∧ (flrBusy s 0 = false) ∧ (mbxClosed s = true)) ∧
    (∃ (fn : Nat) (x : Nat) (u : State) (s : State), (startTurn fn 3 s = some (x, u)) ∧ (itOpcode x = 0x30) ∧ (badHead s fn 3 x = none)) ∧
    (∃ (fn : Nat) (ring : Nat) (x : Nat) (st : Nat) (u : State) (s : State), (ring = 3) ∧ (startTurn fn 3 s = some (x, u)) ∧ (itOpcode x = 0x30) ∧ (badHead s fn 3 x = some st)) ∧
    (∃ (s : State), (barServed s 0 = true) ∧ (flrBusy s 0 = false) ∧ (mbxClosed s = false) ∧ (s.regs.mbxDrop = false) ∧ (bits (mbxBytes s) 0 16 = 1) ∧ (Serves 0x0001 ((messageReq whoMailbox (mbxBytes s) 4080).plen == 0) (reservedClear (mciParams (messageReq whoMailbox (mbxBytes s) 4080)) [] && true) (messageReq whoMailbox (mbxBytes s) 4080) { s with regs := { s.regs with mbxBusy := true } })) ∧
    (∃ (s : State), (barServed s 0 = true) ∧ (flrBusy s 0 = false) ∧ (mbxClosed s = false) ∧ (s.regs.mbxDrop = false) ∧ (bits (mbxBytes s) 0 16 = 0xFFFF) ∧ (mciServed s 65 = true) ∧ ((s.fw.outstanding.any fun o => o.1 == 65 && o.2.2 == (messageReq whoMailbox (mbxBytes s) 4080).tag) = false)) ∧
    (∃ (fn : Nat) (x : Nat) (o : Outst) (u : State) (s : State), (startTurn fn 3 s = some (x, u)) ∧ (itOpcode x = 0x30) ∧ (badHead s fn 3 x = none) ∧ (bits (itemMessage x) 0 16 = 1) ∧ (Serves 0x0001 ((messageReq fn (itemMessage x) 432).plen == 0) (reservedClear (mciParams (messageReq fn (itemMessage x) 432)) [] && true) (messageReq fn (itemMessage x) 432) (consume fn 3 x u)) ∧ (serviceItem (consume fn 3 x u) fn (messageReq fn (itemMessage x) 432).tag = some o) ∧ (fn ≤ 64) ∧ ((consume fn 3 x u).HostWf)) ∧
    (∃ (fn : Nat) (x : Nat) (u : State) (s : State), (startTurn fn 3 s = some (x, u)) ∧ (itOpcode x = 0x30) ∧ (badHead s fn 3 x = none) ∧ (bits (itemMessage x) 0 16 = 0xFFFF) ∧ (mciServed u fn = true) ∧ ((u.fw.outstanding.any fun o => o.1 == fn && o.2.2 == (messageReq fn (itemMessage x) 432).tag) = false) ∧ (fn ≤ 64)) :=
  ⟨⟨wReady, by decide +kernel⟩,
   ⟨wMbxBusy, by decide +kernel⟩,
   ⟨0, mciItemInfo.toNat, (turnOf 0 3 wMciItem), wMciItem, by decide +kernel⟩,
   ⟨0, 3, 0x30, 2, (turnOf 0 3 wMciBad), wMciBad, by decide +kernel⟩,
   ⟨(wMbx 1), by decide +kernel⟩,
   ⟨(wMbx 0xFFFF), by decide +kernel⟩,
   ⟨0, mciItemInfo.toNat, (outstOf (turnOf 0 3 wMciItem) mciItemInfo.toNat), (turnOf 0 3 wMciItem), wMciItem, by decide +kernel⟩,
   ⟨0, mciItemNone.toNat, (turnOf 0 3 wMciNone), wMciNone, by decide +kernel⟩⟩

/-- The hypotheses of LogWriter are met together. -/
theorem witness_LogWriter :
    (∃ (a : FaultPkt) (l : List FaultPkt) (s : State), (s.ctl.faultQ = a :: l) ∧ (s.ctl.faultsLost = 0) ∧ (replReasons.contains a.reason = false) ∧ (isLogged a.reason a.sev false = false)) ∧
    (∃ (a : FaultPkt) (l : List FaultPkt) (s : State), (s.ctl.faultQ = a :: l) ∧ (s.ctl.faultsLost = 0) ∧ (replReasons.contains a.reason = false) ∧ (isLogged a.reason a.sev false = true) ∧ (a.reason ≠ 0x1004) ∧ (mpRuns s = true) ∧ (s.logs.errors.any (fun e => !e.cont && e.reason == a.reason && e.unit == a.unit) = false) ∧ (s.logs.errors.length < 4096)) ∧
    (∃ (a : FaultPkt) (l : List FaultPkt) (s : State), (s.ctl.eventQ = a :: l) ∧ (replReasons.contains a.reason = false) ∧ (isLogged a.reason a.sev false = false)) ∧
    (∃ (s : State), (mpRuns s = true)) :=
  ⟨⟨⟨0x4009, 4, 5, none, 0, 0⟩, [], (wFaults ⟨0x4009, 4, 5, none, 0, 0⟩), by decide +kernel⟩,
   ⟨⟨0x4008, 5, 5, none, 0, 0⟩, [], (wFaults ⟨0x4008, 5, 5, none, 0, 0⟩), by decide +kernel⟩,
   ⟨⟨0x7001, 0, 5, none, 0, 0⟩, [], (wEvents ⟨0x7001, 0, 5, none, 0, 0⟩), by decide +kernel⟩,
   ⟨wReady, by decide +kernel⟩⟩

/-- The hypotheses of LogQueries are met together. -/
theorem witness_LogQueries :
    (∃ (q : MciReq) (s : State), (Serves 0x0901 (q.plen == 16) (reservedClear (mciParams q) [(0, 64), (64, 8), (72, 1)] && decide (1 ≤ bits (mciParams q) 64 8 ∧ bits (mciParams q) 64 8 ≤ 126)) q s) ∧ (bit1 (mciParams q) 72 = false)) ∧
    (∃ (q : MciReq) (s : State), (Serves 0x0902 (q.plen == 8) (reservedClear (mciParams q) [(0, 12), (16, 6), (31, 1)] && decide (1 ≤ bits (mciParams q) 16 6)) q s) ∧ (bit1 (mciParams q) 31 = false)) ∧
    (∃ (q : MciReq) (s : State), (Serves 0x0902 (q.plen == 8) (reservedClear (mciParams q) [(0, 12), (16, 6), (31, 1)] && decide (1 ≤ bits (mciParams q) 16 6)) q s) ∧ (bit1 (mciParams q) 31 = true) ∧ (isP q.who = true)) ∧
    (∃ (q : MciReq) (s : State), (Serves 0x0903 (q.plen == 8) (reservedClear (mciParams q) [(0, 16), (16, 16)] && (counterIds.contains (bits (mciParams q) 0 16) && decide (bits (mciParams q) 16 16 < counterInstances (bits (mciParams q) 0 16)))) q s) ∧ (counterFn (bits (mciParams q) 0 16) (bits (mciParams q) 16 16) = none)) ∧
    (∃ (q : MciReq) (s : State), (Serves 0x0904 (q.plen == 8) (reservedClear (mciParams q) [(0, 16), (16, 16)] && (counterIds.contains (bits (mciParams q) 0 16) && (counterKind (bits (mciParams q) 0 16)).2 && (bits (mciParams q) 16 16 == 0xFFFF || decide (bits (mciParams q) 16 16 < counterInstances (bits (mciParams q) 0 16))))) q s) ∧ (bits (mciParams q) 16 16 ≠ 0xFFFF) ∧ (bits (mciParams q) 0 16 ≠ 0x0705) ∧ (s.HostWf)) ∧
    (∃ (q : MciReq) (s : State), (Serves 0x0905 (q.plen == 8) (reservedClear (mciParams q) [(0, 32), (32, 16)] && decide (1 ≤ bits (mciParams q) 32 16 ∧ bits (mciParams q) 32 16 ≤ 4064 ∧ bits (mciParams q) 0 32 < 6240)) q s)) ∧
    (∃ (q : MciReq) (s : State), (Serves 0x0906 (q.plen == 8) (reservedClear (mciParams q) [(0, 1), (16, 16), (32, 32)] && true) q s) ∧ (bit1 (mciParams q) 0 = false)) ∧
    (∃ (q : MciReq) (s : State), (Serves 0x0906 (q.plen == 8) (reservedClear (mciParams q) [(0, 1), (16, 16), (32, 32)] && true) q s) ∧ (bit1 (mciParams q) 0 = true) ∧ (isMctp q.who = false) ∧ (mpRuns s = true) ∧ (replConditions s = [])) :=
  ⟨⟨(wReq 65 16 (2 ^ 64)), wLogged, by decide +kernel⟩,
   ⟨(wReq 65 8 (2 ^ 16)), wLogged, by decide +kernel⟩,
   ⟨(wReq 65 8 (2 ^ 31 + 2 ^ 16)), wLogged, by decide +kernel⟩,
   ⟨(wReq 65 8 0x0005_0101), wReady, by decide +kernel⟩,
   ⟨(wReq 65 8 0x00050101), wCounted, by decide +kernel⟩,
   ⟨(wReq 65 8 (6236 + 8 * 2 ^ 32)), wReady, by decide +kernel⟩,
   ⟨(wReq 65 8 0), wRequested, by decide +kernel⟩,
   ⟨(wReq 65 8 1), wRequested, by decide +kernel⟩⟩

/-- The hypotheses of WindowCommands are met together. -/
theorem witness_WindowCommands :
    (∃ (q : MciReq) (s : State), (Serves 0x0402 (wwLenOk (mciParams q) q.plen) (wwOk (mciParams q)) q s)) ∧
    (∃ (q : MciReq) (s : State), (Serves 0x0403 (q.plen == 16) (reservedClear (mciParams q) [(1, 65)] && true) q s) ∧ (bit1 (mciParams q) 65 = false)) ∧
    (∃ (q : MciReq) (s : State), (Serves 0x0403 (q.plen == 16) (reservedClear (mciParams q) [(1, 65)] && true) q s) ∧ (bit1 (mciParams q) 65 = false) ∧ (s.clk.frameDone = true) ∧ ((s.pool.tables.any fun e => tableRef e.1 e.2.2.1 == tableRef q.who q.tag) = false)) ∧
    (∃ (q : MciReq) (s : State), (Serves 0x0404 (q.plen == 8) (reservedClear (mciParams q) [(0, 7), (8, 1)] && decide (bits (mciParams q) 0 7 ≤ 64)) q s) ∧ (fnOfWho q.who = 0)) ∧
    (∃ (q : MciReq) (s : State), (Serves 0x0404 (q.plen == 8) (reservedClear (mciParams q) [(0, 7), (8, 1)] && decide (bits (mciParams q) 0 7 ≤ 64)) q s) ∧ (fnOfWho q.who ≠ 0) ∧ (bit1 (mciParams q) 8 = true ∨ winRing s (fnOfWho q.who) (bits (mciParams q) 0 7) = false) ∧ (s.HostWf)) ∧
    (∃ (q : MciReq) (s : State), (Serves 0x0401 (q.plen == 16) (reservedClear (mciParams q) [(0, 7), (64, 3), (72, 32)] && decide (bits (mciParams q) 0 7 ≤ 64)) q s) ∧ (s.HostWf)) :=
  ⟨⟨(wReq 65 20 (1 + 1 * 2 ^ 8 + (3 + 2 ^ 8 + 4 * 2 ^ 16 + 3 * 2 ^ 24) * 2 ^ 128)), wReady, by decide +kernel⟩,
   ⟨(wReq 65 16 2), wShadow, by decide +kernel⟩,
   ⟨(wReq 65 16 2), { wShadow with clk := { wShadow.clk with frameDone := true } }, by decide +kernel⟩,
   ⟨(wReq 65 8 1), wReady, by decide +kernel⟩,
   ⟨(wReq 1 8 2), wReady, by decide +kernel⟩,
   ⟨(wReq 65 16 (1 + 0x1403020105 * 2 ^ 64)), wRing, by decide +kernel⟩⟩

/-- The hypotheses of ImageLoading are met together. -/
theorem witness_ImageLoading :
    (∃ (q : MciReq) (s : State), (Serves 0x0201 (q.plen == 16) (reservedClear (mciParams q) [(0, 3), (32, 32), (64, 64)] && true) q s) ∧ (winSlot s (fnOfWho q.who) (bits (mciParams q) 0 3) 0 = true) ∧ ((slot s (bits (mciParams q) 0 3)).state = SlotState.empty) ∧ (s.PlaneWf)) ∧
    (∃ (q : MciReq) (s : State), (Serves 0x0201 (q.plen == 16) (reservedClear (mciParams q) [(0, 3), (32, 32), (64, 64)] && true) q s) ∧ (winSlot s (fnOfWho q.who) (bits (mciParams q) 0 3) 0 = true) ∧ ((slot s (bits (mciParams q) 0 3)).state ≠ SlotState.empty)) ∧
    (∃ (n : Nat) (bytes : Nat) (len : Nat) (s : State), ((slot s n).state = SlotState.loading) ∧ (mpRuns s = true) ∧ ((validateImage s n (slot s n).loadLen ⟨bytes % 2 ^ (8 * len), len⟩).1 = 0) ∧ (footprint s (slot s n).loader n (Raw.parse ⟨bytes % 2 ^ (8 * len), len⟩) (slot s n).loadHbm (slot s n).loadQuota = none) ∧ (s.PlaneWf)) ∧
    (∃ (n : Nat) (bytes : Nat) (len : Nat) (s : State), ((slot s n).state = SlotState.loading) ∧ (mpRuns s = true) ∧ ((validateImage s n (slot s n).loadLen ⟨bytes % 2 ^ (8 * len), len⟩).1 ≠ 0) ∧ (s.PlaneWf)) ∧
    (∃ (q : MciReq) (s : State), (Serves 0x0204 (q.plen == 8) (reservedClear (mciParams q) [(0, 3)] && true) q s) ∧ (winSlot s (fnOfWho q.who) (bits (mciParams q) 0 3) 0 = true) ∧ ((slot s (bits (mciParams q) 0 3)).state = SlotState.valid ∨ (slot s (bits (mciParams q) 0 3)).state = SlotState.invalid) ∧ (s.PlaneWf)) ∧
    (∃ (q : MciReq) (s : State), (Serves 0x0204 (q.plen == 8) (reservedClear (mciParams q) [(0, 3)] && true) q s) ∧ (winSlot s (fnOfWho q.who) (bits (mciParams q) 0 3) 0 = true) ∧ ((slot s (bits (mciParams q) 0 3)).state = SlotState.binding ∨ (slot s (bits (mciParams q) 0 3)).state = SlotState.bound ∨ (slot s (bits (mciParams q) 0 3)).state = SlotState.unbinding)) ∧
    (∃ (q : MciReq) (s : State), (Serves 0x0205 (q.plen == 8) (reservedClear (mciParams q) [(0, 3)] && true) q s) ∧ (winSlot s (fnOfWho q.who) (bits (mciParams q) 0 3) 2 = true)) :=
  ⟨⟨(wReq 65 16 (3 + 128 * 2 ^ 32)), wReady, by decide +kernel⟩,
   ⟨(wReq 65 16 1), wBind, by decide +kernel⟩,
   ⟨0, imageBytes, 6784, wLoading, by decide +kernel⟩,
   ⟨0, 5, 6784, wLoading, by decide +kernel⟩,
   ⟨(wReq 65 8 2), wValid, by decide +kernel⟩,
   ⟨(wReq 65 8 1), wBind, by decide +kernel⟩,
   ⟨(wReq 65 8 1), wBind, by decide +kernel⟩⟩

/-- The hypotheses of ImageBinding are met together. -/
theorem witness_ImageBinding :
    (∃ (q : MciReq) (s : State), (Serves 0x0202 (q.plen == 8) (reservedClear (mciParams q) [(0, 3), (8, 2)] && true) q s) ∧ ((slot s (bits (mciParams q) 0 3)).state = SlotState.valid) ∧ ((acceptedRect s (bits (mciParams q) 8 2)).cols ≠ 0) ∧ (partTaken s (bits (mciParams q) 8 2) = false) ∧ ((acceptedRect s (bits (mciParams q) 8 2)) = (slot s (bits (mciParams q) 0 3)).image.hdr.rect) ∧ (testInside s (acceptedRect s (bits (mciParams q) 8 2)) = false) ∧ ((slot s (bits (mciParams q) 0 3)).image.hdr.lattice = false) ∧ (s.PlaneWf)) ∧
    (∃ (q : MciReq) (s : State), (Serves 0x0202 (q.plen == 8) (reservedClear (mciParams q) [(0, 3), (8, 2)] && true) q s) ∧ ((slot s (bits (mciParams q) 0 3)).state ≠ SlotState.valid ∨ (acceptedRect s (bits (mciParams q) 8 2)).cols = 0 ∨ partTaken s (bits (mciParams q) 8 2) = true ∨ (acceptedRect s (bits (mciParams q) 8 2)) ≠ (slot s (bits (mciParams q) 0 3)).image.hdr.rect)) ∧
    (∃ (q : MciReq) (n : Nat) (s : State), (Serves 0x0203 (q.plen == 8) (reservedClear (mciParams q) [(8, 2), (16, 1)] && true) q s) ∧ ((part s (bits (mciParams q) 8 2)).slot = some n) ∧ (s.PlaneWf)) ∧
    (∃ (q : MciReq) (s : State), (Serves 0x0206 (q.plen == 16) (reservedClear (mciParams q) [(0, 128)] && layoutOk (mciParams q)) q s) ∧ (layoutBusy s (mciParams q) = false)) ∧
    (∃ (q : MciReq) (s : State), (Serves 0x0206 (q.plen == 16) (reservedClear (mciParams q) [(0, 128)] && layoutOk (mciParams q)) q s) ∧ (layoutBusy s (mciParams q) = true)) ∧
    (∃ (q : MciReq) (s : State), (Serves 0x0207 (q.plen == 0) (reservedClear (mciParams q) [] && true) q s)) ∧
    (∃ (q : MciReq) (n : Nat) (s : State), (Serves 0x0208 (q.plen == 8) (reservedClear (mciParams q) [(8, 2)] && true) q s) ∧ ((part s (bits (mciParams q) 8 2)).slot = some n) ∧ ((part s (bits (mciParams q) 8 2)).parked = false)) ∧
    (∃ (q : MciReq) (n : Nat) (a : Nat) (s : State), (Serves 0x0208 (q.plen == 8) (reservedClear (mciParams q) [(8, 2)] && true) q s) ∧ ((part s (bits (mciParams q) 8 2)).slot = none) ∧ ((part s (bits (mciParams q) 8 2)).binding = some (n, a)) ∧ (s.PlaneWf)) :=
  ⟨⟨(wReq 65 8 2), wValid, by decide +kernel⟩,
   ⟨(wReq 65 8 1), wReady, by decide +kernel⟩,
   ⟨(wReq 65 8 (2 ^ 16)), 0, (wImageState), by decide +kernel⟩,
   ⟨(wReq 65 16 0x0000000000000000000000000402000204020000), wReady, by decide +kernel⟩,
   ⟨(wReq 65 16 0), wBind, by decide +kernel⟩,
   ⟨(wReq 65 0 0), wBind, by decide +kernel⟩,
   ⟨(wReq 65 8 0), 0, wImageState, by decide +kernel⟩,
   ⟨(wReq 65 8 0), 1, 0, wBind, by decide +kernel⟩⟩

/-- The hypotheses of MemoryUnitCommands are met together. -/
theorem witness_MemoryUnitCommands :
    (∃ (q : MciReq) (s : State), (Serves 0x0301 (q.plen == 8) (reservedClear (mciParams q) [(0, 5)] && (decide (12 ≤ bits (mciParams q) 0 5) && decide (bits (mciParams q) 0 5 ≤ 20))) q s)) ∧
    (∃ (q : MciReq) (s : State), (Serves 0x0302 (q.plen == 8) (reservedClear (mciParams q) ([(0, 2), (16, 2), (18, 1), (32, 8)] ++ ltUnitFields (mciParams q)) && ltOk s.pins.testBoot (mciParams q)) q s) ∧ (ltBusy s (mciParams q) = false) ∧ (stagePending s ⟨q.who, q.tag, (mciParams q), false⟩ = false)) ∧
    (∃ (q : MciReq) (s : State), (Serves 0x0302 (q.plen == 8) (reservedClear (mciParams q) ([(0, 2), (16, 2), (18, 1), (32, 8)] ++ ltUnitFields (mciParams q)) && ltOk s.pins.testBoot (mciParams q)) q s) ∧ (ltBusy s (mciParams q) = false) ∧ (stagePending s ⟨q.who, q.tag, (mciParams q), false⟩ = true)) ∧
    (∃ (q : MciReq) (s : State), (Serves 0x0302 (q.plen == 8) (reservedClear (mciParams q) ([(0, 2), (16, 2), (18, 1), (32, 8)] ++ ltUnitFields (mciParams q)) && ltOk s.pins.testBoot (mciParams q)) q s) ∧ (ltBusy s (mciParams q) = true)) ∧
    (∃ (n : Nat) (x : LaneTest) (s : State), (s.lanes.tests[n]? = some x) ∧ (x.begun = true) ∧ ((s.fw.outstanding.any fun o => o.1 == x.who && o.2.2 == x.tag) = true)) ∧
    (∃ (n : Nat) (s : State), (s.lanes.tests[n]? = none)) ∧
    (∃ (q : MciReq) (s : State), (Serves 0x0303 (q.plen == 8) (reservedClear (mciParams q) ((0, 2) :: ltUnitFields (mciParams q)) && ltUnitOk (mciParams q)) q s)) ∧
    (∃ (q : MciReq) (s : State), (Serves 0x0304 (q.plen == 8) (reservedClear (mciParams q) [(0, 3), (8, 6), (16, 6), (24, 2)] && (decide (bits (mciParams q) 8 6 ≤ 35) && decide (1 ≤ bits (mciParams q) 16 6) && decide (bits (mciParams q) 8 6 + bits (mciParams q) 16 6 ≤ 36))) q s) ∧ (assignRefused s (mciParams q) = false) ∧ (bits (mciParams q) 24 2 ≠ 2) ∧ ((assignUnits (mciParams q)).any (fun u => roleOf s u == 2) = false) ∧ (Tab.wf 0 s.hbm.role = true)) ∧
    (∃ (q : MciReq) (s : State), (Serves 0x0304 (q.plen == 8) (reservedClear (mciParams q) [(0, 3), (8, 6), (16, 6), (24, 2)] && (decide (bits (mciParams q) 8 6 ≤ 35) && decide (1 ≤ bits (mciParams q) 16 6) && decide (bits (mciParams q) 8 6 + bits (mciParams q) 16 6 ≤ 36))) q s) ∧ (assignRefused s (mciParams q) = true)) ∧
    (∃ (q : MciReq) (s : State), (Serves 0x0304 (q.plen == 8) (reservedClear (mciParams q) [(0, 3), (8, 6), (16, 6), (24, 2)] && (decide (bits (mciParams q) 8 6 ≤ 35) && decide (1 ≤ bits (mciParams q) 16 6) && decide (bits (mciParams q) 8 6 + bits (mciParams q) 16 6 ≤ 36))) q s) ∧ (assignRefused s (mciParams q) = false) ∧ (bits (mciParams q) 24 2 = 2 ∨ (assignUnits (mciParams q)).any (fun u => roleOf s u == 2) = true) ∧ (s.dense.misses ≠ []) ∧ (s.dense.flushes = []) ∧ (s.dense.attaches = []) ∧ (s.dense.assigns = []) ∧ (dirtyLines s = [])) ∧
    (∃ (q : MciReq) (s : State), (Serves 0x0305 (q.plen == 0) (reservedClear (mciParams q) [] && true) q s)) :=
  ⟨⟨(wReq 65 8 20), wReady, by decide +kernel⟩,
   ⟨(wReq 65 8 (0 + 2 * 4 + 20 * 2 ^ 32)), wReady, by decide +kernel⟩,
   ⟨(wReq 65 8 (2 + 2 * 4 + 2 * 2 ^ 16)), wStagingTest, by decide +kernel⟩,
   ⟨(wReq 65 8 (0 + 2 * 4 + 20 * 2 ^ 32)), wInTest, by decide +kernel⟩,
   ⟨0, testOf, (let s := wInTest; { s with fw := { s.fw with outstanding := [(65, 0x0302, 9)] } }), by decide +kernel⟩,
   ⟨0, wReady, by decide +kernel⟩,
   ⟨(wReq 65 8 (1 + 5 * 2 ^ 8)), wReady, by decide +kernel⟩,
   ⟨(wReq 65 8 (1 + 4 * 2 ^ 8 + 2 * 2 ^ 16 + 3 * 2 ^ 24)), wReady, by decide +kernel⟩,
   ⟨(wReq 65 8 (0 + 5 * 2 ^ 8 + 1 * 2 ^ 16 + 3 * 2 ^ 24)), wAssignPool, by decide +kernel⟩,
   ⟨(wReq 65 8 (1 + 4 * 2 ^ 8 + 2 * 2 ^ 16 + 2 * 2 ^ 24)), (let s := wReady; { s with dense := { s.dense with misses := [⟨2, 32, 1, []⟩] } }), by decide +kernel⟩,
   ⟨(wReq 65 0 0), wReady, by decide +kernel⟩⟩

/-- The hypotheses of SliceAccess are met together. -/
theorem witness_SliceAccess :
    (∃ (h : BitVec 64) (ws : List Nat) (s : State), (sliceAccessOk h ws 5 1 = true) ∧ (ctlRefused s (pktRouter h) (ws.head?.getD 0) = none)) ∧
    (∃ (h : BitVec 64) (ws : List Nat) (st : Nat) (s : State), (sliceAccessOk h ws 5 1 = true) ∧ (ctlRefused s (pktRouter h) (ws.head?.getD 0) = some st)) ∧
    (∃ (h : BitVec 64) (ws : List Nat), (sliceAccessOk h ws 5 1 = false)) ∧
    (∃ (h : BitVec 64) (ws : List Nat) (s : State), (sliceAccessOk h ws 6 19 = true) ∧ (ctlRefused s (pktRouter h) (ws.head?.getD 0) = none)) ∧
    (∃ (h : BitVec 64) (ws : List Nat) (st : Nat) (s : State), (sliceAccessOk h ws 6 19 = true) ∧ (ctlRefused s (pktRouter h) (ws.head?.getD 0) = some st)) ∧
    (∃ (h : BitVec 64) (ws : List Nat), (sliceAccessOk h ws 6 19 = false)) ∧
    (∃ (q : CtlReq) (src : Nat) (tag : Nat) (router : Nat) (s : State), (s.buf.ctlQueue.find? (fun q => q.router == router && ctlInjected s q) = some q) ∧ (tickRuns s = true) ∧ (ctlRefused s router q.line = none) ∧ (q.write = true) ∧ (q.origin = .ctl src tag) ∧ (s.MemWf) ∧ (s.LinesHeld)) ∧
    (∃ (q : CtlReq) (src : Nat) (tag : Nat) (router : Nat) (s : State), (s.buf.ctlQueue.find? (fun q => q.router == router && ctlInjected s q) = some q) ∧ (tickRuns s = true) ∧ (ctlRefused s router q.line = none) ∧ (q.write = false) ∧ (q.origin = .ctl src tag) ∧ (s.regs.dbgPending = false)) ∧
    (∃ (router : Nat) (s : State), (tickRuns s = true) ∧ (s.fmap.live router = true) ∧ (s.buf.inTest.contains router = false) ∧ (s.MemWf) ∧ (s.LinesHeld) ∧ (Tab.wf 0 s.buf.scrubPos = true) ∧ (Tab.wf 0 s.buf.scrubLast = true)) :=
  ⟨⟨(mkHeader 5 2 1 (controlNode rEv) 0x100 (controlSub rEv) 3), [767], wReady, by decide +kernel⟩,
   ⟨(mkHeader 5 2 1 (controlNode rEv) 0x100 (controlSub rEv) 3), [768], 1, wReady, by decide +kernel⟩,
   ⟨(mkHeader 5 2 1 (controlNode rEv) 0x100 (controlSub rEv) 3), [], by decide +kernel⟩,
   ⟨(mkHeader 6 2 19 (controlNode rEv) 0x100 (controlSub rEv) 3), (5 :: List.replicate 18 1), wReady, by decide +kernel⟩,
   ⟨(mkHeader 6 2 19 (controlNode (routerAt 70 5)) 0x100 (controlSub (routerAt 70 5)) 3), (5 :: List.replicate 18 1), 4, wInTest, by decide +kernel⟩,
   ⟨(mkHeader 6 2 19 (controlNode rEv) 0x100 (controlSub rEv) 3), [5], by decide +kernel⟩,
   ⟨wCtlReq, 3, 6, rEv, wCtlWrite, by decide +kernel⟩,
   ⟨{ wCtlReq with write := false }, 3, 6, rEv, wCtlRead, by decide +kernel⟩,
   ⟨rEv, wTick, by decide +kernel⟩⟩

/-- The hypotheses of ControlNetwork are met together. -/
theorem witness_ControlNetwork :
    (∃ (node : Nat) (dir : Nat) (resend : Bool) (s : State), (injectHits s 6 node = false) ∧ ((controlNeighbour node dir).isSome = true) ∧ (s.ctl.dead.contains (ctlLink node dir) = false) ∧ (Tab.wf 0 s.ctl.resends = true) ∧ ((if resend then Tab.get 0 s.ctl.resends (ctlLink node dir) + 1 else 0) < 8)) ∧
    (∃ (node : Nat) (dir : Nat) (s : State), (injectHits s 6 node = false) ∧ ((controlNeighbour node dir).isSome = true) ∧ (s.ctl.dead.contains (ctlLink node dir) = false) ∧ (7 ≤ Tab.get 0 s.ctl.resends (ctlLink node dir)) ∧ (s.ctl.faultQ.length < 256) ∧ (Tab.wf [] s.ctl.vc = true) ∧ (∀ p ∈ Tab.get [] s.ctl.vc (ctlLink node dir), (((endpointNode (pktDest p.header)).bind fun d => alternativeDir ((ctlLink node dir) :: s.ctl.dead) node d).getD dir) ≠ dir) ∧ (dir < 4)) ∧
    (∃ (node : Nat) (dir : Nat) (s : State), ((controlNeighbour node dir).isNone = true ∨ s.ctl.dead.contains (ctlLink node dir) = true)) ∧
    (∃ (node : Nat) (dir : Nat) (s : State), ((controlNeighbour node dir).isSome = true) ∧ (s.ctl.dead.contains (ctlLink node dir) = false) ∧ (Tab.wf [] s.ctl.vc = true)) ∧
    (∃ (node : Nat) (dir : Nat) (a : CtlPkt) (b : CtlPkt) (s : State), ((controlNeighbour node dir).isSome = true) ∧ (s.ctl.dead.contains (ctlLink node dir) = false) ∧ (Tab.wf [] s.ctl.vc = true) ∧ (Tab.get [] s.ctl.vc (ctlLink node dir) = [a, b]) ∧ (pktPrio a.header ≠ pktPrio b.header) ∧ (b.served < a.served ∨ b.served = a.served ∧ a.waited < b.waited)) ∧
    (∃ (node : Nat) (dir : Nat) (k : Nat) (h : BitVec 64) (s : State), ((controlNeighbour node dir).isSome = true) ∧ (s.ctl.dead.contains (ctlLink node dir) = true) ∧ (packetOk h = true) ∧ (((endpointNode (pktDest h)).bind fun d => alternativeDir s.ctl.dead node d) = some k)) ∧
    (∃ (node : Nat) (dir : Nat), ((controlNeighbour node dir).isNone = true)) ∧
    (∃ (e : Nat) (left : Nat) (s : State), (Tab.get none s.ctl.heldEvent e = none) ∧ ((Tab.get 0 s.ctl.inject e - left) < 32) ∧ (Tab.wf 0 s.ctl.inject = true)) ∧
    (∃ (e : Nat) (left : Nat) (s : State), (Tab.get none s.ctl.heldEvent e = none) ∧ (32 ≤ (Tab.get 0 s.ctl.inject e - left)) ∧ (s.HostWf)) ∧
    (∃ (e : Nat) (left : Nat) (s : State), (Tab.get none s.ctl.heldEvent e = none) ∧ ((Tab.get 0 s.ctl.inject e - left) < 32) ∧ (Tab.wf 0 s.ctl.inject = true)) ∧
    (∃ (e : Nat) (left : Nat) (s : State), (Tab.get none s.ctl.heldEvent e = none) ∧ (32 ≤ (Tab.get 0 s.ctl.inject e - left)) ∧ (Tab.wf 0 s.ctl.inject = true) ∧ (Tab.wf none s.ctl.heldEvent = true)) ∧
    (∃ (e : Nat) (left : Nat) (s : State), ((Tab.get none s.ctl.heldEvent e).isSome = true) ∧ (32 ≤ (Tab.get 0 s.ctl.inject e - left)) ∧ (s.HostWf) ∧ (Tab.wf 0 s.ctl.eventsLost = true)) ∧
    (∃ (e : Nat) (left : Nat) (p : FaultPkt) (s : State), (Tab.get none s.ctl.heldEvent e = some p) ∧ (p.src = e) ∧ ((Tab.get 0 s.ctl.inject e - left) < 30) ∧ (Tab.wf 0 s.ctl.inject = true) ∧ (Tab.wf none s.ctl.heldEvent = true) ∧ (Tab.wf 0 s.ctl.eventsLost = true)) :=
  ⟨⟨5, 1, true, wReady, by decide +kernel⟩,
   ⟨5, 1, wResends, by decide +kernel⟩,
   ⟨5, 0, wReady, by decide +kernel⟩,
   ⟨5, 1, wReady, by decide +kernel⟩,
   ⟨5, 1, (⟨mkHeader 6 2 19 7 0x100 0 3, 9, 5⟩), (⟨mkHeader 8 3 4 0x100 5 0 3, 4, 2048⟩), (wOutput 21 [⟨mkHeader 6 2 19 7 0x100 0 3, 9, 5⟩, ⟨mkHeader 8 3 4 0x100 5 0 3, 4, 2048⟩]), by decide +kernel⟩,
   ⟨17, 1, 0, (mkHeader 5 2 1 19 0x100 0 3), wDeadLink, by decide +kernel⟩,
   ⟨5, 0, by decide +kernel⟩,
   ⟨5, 0, wReady, by decide +kernel⟩,
   ⟨5, 0, wInjectFull, by decide +kernel⟩,
   ⟨5, 0, wReady, by decide +kernel⟩,
   ⟨5, 0, wInjectFull, by decide +kernel⟩,
   ⟨5, 0, wInjectHeld, by decide +kernel⟩,
   ⟨5, 3, ⟨0x7002, 0, 5, none, 5, 0⟩, wInjectHeld, by decide +kernel⟩⟩

/-- The hypotheses of SocketFaults are met together. -/
theorem witness_SocketFaults :
    (∃ (router : Nat) (k : Nat) (s : State), (partOf s router = some k) ∧ (s.ctl.faultQ.length < 256) ∧ (s.tiles.perrs.any (fun e => e.1 == router && decide (s.clk.tick.toNat ≤ e.2 + 8)) = false) ∧ (s.PlaneWf)) ∧
    (∃ (router : Nat) (s : State), (s.tiles.perrs.any (fun e => e.1 == router && decide (s.clk.tick.toNat ≤ e.2 + 8)) = true)) ∧
    (∃ (router : Nat) (k : Nat) (s : State), (partOf s router = some k) ∧ (s.ctl.faultQ.length < 256) ∧ (s.PlaneWf)) ∧
    (∃ (router : Nat) (k : Nat) (s : State), (partOf s router = some k) ∧ (s.ctl.faultQ.length < 256) ∧ (recentStall s router = none) ∧ (s.PlaneWf)) ∧
    (∃ (router : Nat) (k : Nat) (at_ : Nat) (r : Run) (s : State), (partOf s router = some k) ∧ (s.ctl.faultQ.length < 256) ∧ (recentStall s router = some (router, at_, true)) ∧ ((part s k).run = some r) ∧ (r.breach = some stTileFault) ∧ (s.PlaneWf)) ∧
    (∃ (router : Nat) (k : Nat) (b : BeatIn) (s : State), (b.valid = true) ∧ (partOf s router = some k) ∧ (quiescing s (part s k) = true)) ∧
    (∃ (router : Nat) (k : Nat) (b : BeatIn) (s : State), (b.valid = true) ∧ (quiescing s (part s k) = false) ∧ (partOf s router = some k) ∧ (s.ctl.faultQ.length < 256) ∧ (s.tiles.perrs.any (fun e => e.1 == router && decide (s.clk.tick.toNat ≤ e.2 + 8)) = false) ∧ (s.PlaneWf)) ∧
    (∃ (n : Nat) (rx : List SvcClock) (d : Machine.Discovery) (s : State), (heard s n mError rx = some d)) ∧
    (∃ (n : Nat) (rx : List SvcClock) (s : State), (heard s n mError rx = none)) ∧
    (∃ (n : Nat) (s : State), ((tileAt s n).trst = true)) ∧
    (∃ (n : Nat) (s : State), ((tileAt s n).trst = false)) :=
  ⟨⟨rEv, 0, wImageState, by decide +kernel⟩,
   ⟨rEv, wPerred, by decide +kernel⟩,
   ⟨rEv, 0, wImageState, by decide +kernel⟩,
   ⟨rEv, 0, wImageState, by decide +kernel⟩,
   ⟨rEv, 0, 1, { wRun with breach := some stTileFault }, wStalled, by decide +kernel⟩,
   ⟨rEv, 0, goodBeat, wQuiesced, by decide +kernel⟩,
   ⟨rEv, 0, goodBeat, wImageState, by decide +kernel⟩,
   ⟨3, (rxOf false 3 mError 4 0 77 4), ⟨mError, 4, 0, 77, 4⟩, wReady, by decide +kernel⟩,
   ⟨3, [], wReady, by decide +kernel⟩,
   ⟨3, (wTile { Tile.reset with step := .ready, trst := true }), by decide +kernel⟩,
   ⟨3, wReady, by decide +kernel⟩⟩

/-- The hypotheses of Discovery are met together. -/
theorem witness_Discovery :
    (∃ (n : Nat) (s : State), (mpRuns s = true) ∧ ((tileAt s n).step = TileStep.power)) ∧
    (∃ (n : Nat) (s : State), (mpRuns s = true) ∧ ((tileAt s n).step = TileStep.hello) ∧ ((tileAt s n).hellos < 10)) ∧
    (∃ (n : Nat) (s : State), (mpRuns s = true) ∧ ((tileAt s n).step = TileStep.hello) ∧ (10 ≤ (tileAt s n).hellos)) ∧
    (∃ (s : State), (mpRuns s = false)) ∧
    (∃ (n : Nat) (rx : List SvcClock) (d : Machine.Discovery) (s : State), (heard s n mIdent rx = some d) ∧ (identExpected (tileAt s n) d = true)) ∧
    (∃ (n : Nat) (rx : List SvcClock) (d : Machine.Discovery) (s : State), (heard s n mIdent rx = some d) ∧ ((tileAt s n).step = TileStep.ident) ∧ (d.chunk < (tileAt s n).chunk)) ∧
    (∃ (n : Nat) (rx : List SvcClock) (s : State), (heard s n mIdent rx = none ∧ heard s n mAck rx = none ∧ heard s n mBootDone rx = none ∧ heard s n mSpares rx = none)) ∧
    (∃ (n : Nat) (cells : List CellTrain) (s : State), ((tileAt s n).step = TileStep.train) ∧ (tickRuns s = true) ∧ (mpRuns (judgeBonds n cells (updTile n (fun y => { y with step := .trained }) (if s.clk.tick.toNat < (tileAt s n).trainFrom + 1048575 then runTo ((tileAt s n).trainFrom + 1048575) s else s))) = true) ∧ (svcLost (((judgeBonds n cells (updTile n (fun y => { y with step := .trained }) (if s.clk.tick.toNat < (tileAt s n).trainFrom + 1048575 then runTo ((tileAt s n).trainFrom + 1048575) s else s))).lanes.consent.filter fun c => entKind c.bundle == 1 && entTile c.bundle == n).foldl (fun u c => consentTo c u) (judgeBonds n cells (updTile n (fun y => { y with step := .trained }) (if s.clk.tick.toNat < (tileAt s n).trainFrom + 1048575 then runTo ((tileAt s n).trainFrom + 1048575) s else s)))) n = false) ∧ ((tileMap (((judgeBonds n cells (updTile n (fun y => { y with step := .trained }) (if s.clk.tick.toNat < (tileAt s n).trainFrom + 1048575 then runTo ((tileAt s n).trainFrom + 1048575) s else s))).lanes.consent.filter fun c => entKind c.bundle == 1 && entTile c.bundle == n).foldl (fun u c => consentTo c u) (judgeBonds n cells (updTile n (fun y => { y with step := .trained }) (if s.clk.tick.toNat < (tileAt s n).trainFrom + 1048575 then runTo ((tileAt s n).trainFrom + 1048575) s else s)))).lanes n).length ≤ 8192)) ∧
    (∃ (n : Nat) (cells : List CellTrain) (s : State), ((tileAt s n).step = TileStep.train) ∧ (tickRuns s = true) ∧ (mpRuns (judgeBonds n cells (updTile n (fun y => { y with step := .trained }) (if s.clk.tick.toNat < (tileAt s n).trainFrom + 1048575 then runTo ((tileAt s n).trainFrom + 1048575) s else s))) = false)) ∧
    (∃ (n : Nat) (cells : List CellTrain) (s : State), ((tileAt s n).step = TileStep.train) ∧ (tickRuns s = true) ∧ (mpRuns (judgeBonds n cells (updTile n (fun y => { y with step := .trained }) (if s.clk.tick.toNat < (tileAt s n).trainFrom + 1048575 then runTo ((tileAt s n).trainFrom + 1048575) s else s))) = true) ∧ (svcLost (((judgeBonds n cells (updTile n (fun y => { y with step := .trained }) (if s.clk.tick.toNat < (tileAt s n).trainFrom + 1048575 then runTo ((tileAt s n).trainFrom + 1048575) s else s))).lanes.consent.filter fun c => entKind c.bundle == 1 && entTile c.bundle == n).foldl (fun u c => consentTo c u) (judgeBonds n cells (updTile n (fun y => { y with step := .trained }) (if s.clk.tick.toNat < (tileAt s n).trainFrom + 1048575 then runTo ((tileAt s n).trainFrom + 1048575) s else s)))) n = true)) ∧
    (∃ (n : Nat) (s : State), ((tileAt s n).step = TileStep.slew) ∧ (mpRuns s = true)) ∧
    (∃ (n : Nat) (rx : List SvcClock) (d : Machine.Discovery) (s : State), (heard s n mAck rx = some d) ∧ ((tileAt s n).laneChunks ≠ 0) ∧ (BitVec.ofNat 8 (bits d.content 0 8) = (tileAt s n).laneSeq) ∧ ((tileAt s n).chunk + 1 < (tileAt s n).laneChunks)) ∧
    (∃ (n : Nat) (rx : List SvcClock) (d : Machine.Discovery) (s : State), (heard s n mAck rx = some d) ∧ ((tileAt s n).laneChunks ≠ 0) ∧ (BitVec.ofNat 8 (bits d.content 0 8) = (tileAt s n).laneSeq) ∧ ((tileAt s n).laneChunks ≤ (tileAt s n).chunk + 1)) ∧
    (∃ (n : Nat) (rx : List SvcClock) (d : Machine.Discovery) (s : State), (heard s n mAck rx = some d) ∧ ((tileAt s n).laneChunks = 0) ∧ ((tileAt s n).step = TileStep.boot) ∧ (BitVec.ofNat 8 (bits d.content 0 8) = (tileAt s n).seqOut - 1) ∧ ((tileAt s n).bootChunks ≤ (tileAt s n).chunk + 1)) ∧
    (∃ (n : Nat) (rx : List SvcClock) (d : Machine.Discovery) (s : State), (heard s n mAck rx = some d) ∧ ((tileAt s n).laneChunks = 0) ∧ ((tileAt s n).step = TileStep.boot) ∧ (BitVec.ofNat 8 (bits d.content 0 8) = (tileAt s n).seqOut - 1) ∧ ((tileAt s n).chunk + 1 < (tileAt s n).bootChunks)) ∧
    (∃ (n : Nat) (rx : List SvcClock) (d : Machine.Discovery) (s : State), (heard s n mAck rx = some d) ∧ ((tileAt s n).laneChunks = 0) ∧ ((tileAt s n).step = TileStep.commit) ∧ (BitVec.ofNat 8 (bits d.content 0 8) = (tileAt s n).seqOut - 1)) ∧
    (∃ (n : Nat) (rx : List SvcClock) (d : Machine.Discovery) (s : State), (heard s n mBootDone rx = some d) ∧ ((tileAt s n).step = TileStep.bootDone) ∧ (bits d.content 0 32 = 0)) ∧
    (∃ (n : Nat) (rx : List SvcClock) (d : Machine.Discovery) (s : State), (heard s n mBootDone rx = some d) ∧ ((tileAt s n).step = TileStep.bootDone) ∧ (bits d.content 0 32 = 1 ∨ bits d.content 0 32 = 2)) ∧
    (∃ (n : Nat) (rx : List SvcClock) (d : Machine.Discovery) (s : State), (heard s n mSpares rx = some d) ∧ ((tileAt s n).step = TileStep.spares) ∧ (d.chunk = (tileAt s n).chunk) ∧ (d.chunk < 5)) ∧
    (∃ (n : Nat) (rx : List SvcClock) (d : Machine.Discovery) (s : State), (heard s n mSpares rx = some d) ∧ ((tileAt s n).step = TileStep.spares) ∧ ((tileAt s n).chunk = 5) ∧ (d.chunk = 5)) ∧
    (∃ (n : Nat) (s : State), (mpRuns s = true) ∧ (inDiscovery (tileAt s n) = true) ∧ (2 ≤ (tileAt s n).repeats)) ∧
    (∃ (n : Nat) (s : State), (mpRuns s = true) ∧ ((tileAt s n).step = TileStep.commit) ∧ ((tileAt s n).repeats < 2)) ∧
    (∃ (n : Nat) (cell : Nat) (k : Nat) (s : State), (partOf s (cellRouter n cell) = some k) ∧ (mpRuns s = true) ∧ ((part s k).held = true)) :=
  ⟨⟨3, (wTile { Tile.reset with step := .power, vddt := true }), by decide +kernel⟩,
   ⟨3, (wTile { Tile.reset with trst := true, step := .hello, hellos := 2 }), by decide +kernel⟩,
   ⟨3, (wTile { Tile.reset with trst := true, step := .hello, hellos := 10 }), by decide +kernel⟩,
   ⟨wOff, by decide +kernel⟩,
   ⟨3, (rxOf false 3 mIdent 5 0 0x1234 92), ⟨mIdent, 5, 0, 0x1234, 92⟩, (wTile { Tile.reset with trst := true, step := .hello, hellos := 2 }), by decide +kernel⟩,
   ⟨3, (rxOf false 3 mIdent 5 0 0x1234 92), ⟨mIdent, 5, 0, 0x1234, 92⟩, (wTile { Tile.reset with trst := true, step := .ident, chunk := 1 }), by decide +kernel⟩,
   ⟨3, [], wReady, by decide +kernel⟩,
   ⟨3, [], (wTrained0 true), by decide +kernel⟩,
   ⟨3, [], (wTrained0 false), by decide +kernel⟩,
   ⟨3, [], (wTrainLost), by decide +kernel⟩,
   ⟨3, (wTile { Tile.reset with trst := true, step := .slew }), by decide +kernel⟩,
   ⟨3, (rxOf false 3 mAck 5 0 9 4), ⟨mAck, 5, 0, 9, 4⟩, (wTile { Tile.reset with trst := true, step := .lanes, laneChunks := 2, laneSeq := 9, laneMap := List.replicate 24 0x101 }), by decide +kernel⟩,
   ⟨3, (rxOf false 3 mAck 5 0 9 4), ⟨mAck, 5, 0, 9, 4⟩, (wTile { Tile.reset with trst := true, step := .lanes, laneChunks := 1, laneSeq := 9 }), by decide +kernel⟩,
   ⟨3, (rxOf true 3 mAck 5 0 255 4), ⟨mAck, 5, 0, 255, 4⟩, (wTile { Tile.reset with trst := true, full := true, step := .boot, bootChunks := 1 }), by decide +kernel⟩,
   ⟨3, (rxOf true 3 mAck 5 0 255 4), ⟨mAck, 5, 0, 255, 4⟩, wBootable, by decide +kernel⟩,
   ⟨3, (rxOf true 3 mAck 5 0 255 4), ⟨mAck, 5, 0, 255, 4⟩, (wTile { Tile.reset with trst := true, full := true, step := .commit }), by decide +kernel⟩,
   ⟨3, (rxOf true 3 mBootDone 6 0 0 4), ⟨mBootDone, 6, 0, 0, 4⟩, (wTile { Tile.reset with trst := true, full := true, step := .bootDone }), by decide +kernel⟩,
   ⟨3, (rxOf true 3 mBootDone 6 0 2 4), ⟨mBootDone, 6, 0, 2, 4⟩, (wTile { Tile.reset with trst := true, full := true, step := .bootDone }), by decide +kernel⟩,
   ⟨3, (rxOf true 3 mSpares 7 0 5 92), ⟨mSpares, 7, 0, 5, 92⟩, (wTile { Tile.reset with trst := true, full := true, step := .spares }), by decide +kernel⟩,
   ⟨3, (rxOf true 3 mSpares 7 5 5 52), ⟨mSpares, 7, 5, 5, 52⟩, (wTile { Tile.reset with trst := true, full := true, step := .spares, chunk := 5 }), by decide +kernel⟩,
   ⟨3, (wTile { Tile.reset with trst := true, step := .boot, repeats := 2 }), by decide +kernel⟩,
   ⟨3, (wTile { Tile.reset with trst := true, step := .commit }), by decide +kernel⟩,
   ⟨5, 7, 0, wHeldPart, by decide +kernel⟩⟩

/-- The hypotheses of LanesAndMerges are met together. -/
theorem witness_LanesAndMerges :
    (∃ (s : State), (s.boot.starting = true) ∧ (s.boot.steps.getLsbD 6 = false) ∧ (s.boot.steps.getLsbD 4 = true) ∧ (tickRuns s = true)) ∧
    (∃ (b : Nat) (s : State), (s.lanes.consent.any (fun c => c.bundle == b) = true) ∧ (Tab.get none s.ctl.heldEvent 0x102 = none) ∧ (Tab.get 0 s.ctl.inject 0x102 < 32)) ∧
    (∃ (s : State), (mpRuns s = true) ∧ (s.boot.starting = false ∨ s.boot.steps.getLsbD 8 = true)) ∧
    (∃ (s : State), (mpRuns s = true) ∧ (s.boot.starting = true) ∧ (s.boot.steps.getLsbD 8 = false) ∧ (strandsOver s = true)) ∧
    (∃ (rs : List StitchTrain) (s : State), (mpRuns s = true) ∧ (tickRuns s = true) ∧ (rs.isEmpty = false) ∧ (rs.all (fun r => crossingIdle s r.column) = true)) ∧
    (∃ (k : Nat) (s : State), (mpRuns s = true) ∧ ((part s k).held = true)) ∧
    (∃ (s : State), (mpRuns s = true) ∧ (s.boot.starting = true) ∧ (s.boot.steps.getLsbD 8 = true) ∧ (s.boot.steps.getLsbD 5 = true)) ∧
    (∃ (s : State), (s.boot.mp = MpState.recovery) ∧ (s.boot.starting = true)) :=
  ⟨⟨wStitching, by decide +kernel⟩,
   ⟨5, wConsent, by decide +kernel⟩,
   ⟨wConsent, by decide +kernel⟩,
   ⟨wStrands, by decide +kernel⟩,
   ⟨[⟨4, 0, [], false⟩], wHeldPart, by decide +kernel⟩,
   ⟨0, wHeldPart, by decide +kernel⟩,
   ⟨wStep8, by decide +kernel⟩,
   ⟨wRecoveryStart, by decide +kernel⟩⟩

/-- The hypotheses of ManagementCommands are met together. -/
theorem witness_ManagementCommands :
    (∃ (q : MciReq) (s : State), (Serves 0x0001 (q.plen == 0) (reservedClear (mciParams q) [] && true) q s)) ∧
    (∃ (q : MciReq) (s : State), (Serves 0x0101 (q.plen == 0) (reservedClear (mciParams q) [] && true) q s)) ∧
    (∃ (q : MciReq) (s : State), (Serves 0x0112 (q.plen == 0) (reservedClear (mciParams q) [] && true) q s)) ∧
    (∃ (q : MciReq) (s : State), (Serves 0x0120 (q.plen == 0) (reservedClear (mciParams q) [] && true) q s)) ∧
    (∃ (q : MciReq) (s : State), (Serves 0x0003 (q.plen == 8) (reservedClear (mciParams q) [(0, 8)] && true) q s) ∧ (isMctp q.who = true)) ∧
    (∃ (q : MciReq) (s : State), (Serves 0x0003 (q.plen == 8) (reservedClear (mciParams q) [(0, 8)] && true) q s) ∧ (isMctp q.who = false)) ∧
    (∃ (q : MciReq) (s : State), (Serves 0x0004 (q.plen == 0) (reservedClear (mciParams q) [] && true) q s)) ∧
    (∃ (q : MciReq) (s : State), (Serves 0x0002 (q.plen == 0) (reservedClear (mciParams q) [] && true) q s) ∧ (s.PlaneWf)) ∧
    (∃ (q : MciReq) (s : State), (Serves 0x0110 (q.plen == 112) (reservedClear (mciParams q) ([(0, 1), (8, 4), (128, 768)] ++ if bit1 (mciParams q) 0 then [(16, 16)] else []) && keySlotOk (mciParams q)) q s) ∧ (bit1 (mciParams q) 0 = false) ∧ ((Tab.get none s.fw.imageKeys (bits (mciParams q) 8 4)).isSome = false) ∧ (Tab.wf none s.fw.imageKeys = true)) ∧
    (∃ (q : MciReq) (s : State), (Serves 0x0110 (q.plen == 112) (reservedClear (mciParams q) ([(0, 1), (8, 4), (128, 768)] ++ if bit1 (mciParams q) 0 then [(16, 16)] else []) && keySlotOk (mciParams q)) q s) ∧ (bit1 (mciParams q) 0 = true) ∧ ((Tab.get none s.fw.tileKeys (bits (mciParams q) 8 4)).isSome = false) ∧ (Tab.wf none s.fw.tileKeys = true)) ∧
    (∃ (q : MciReq) (s : State), (Serves 0x0110 (q.plen == 112) (reservedClear (mciParams q) ([(0, 1), (8, 4), (128, 768)] ++ if bit1 (mciParams q) 0 then [(16, 16)] else []) && keySlotOk (mciParams q)) q s) ∧ (if bit1 (mciParams q) 0 then (Tab.get none s.fw.tileKeys (bits (mciParams q) 8 4)).isSome = true else (Tab.get none s.fw.imageKeys (bits (mciParams q) 8 4)).isSome = true)) ∧
    (∃ (q : MciReq) (s : State), (Serves 0x0111 (q.plen == 8) (reservedClear (mciParams q) [(0, 1), (8, 4)] && keySlotOk (mciParams q)) q s) ∧ (Tab.wf none s.fw.imageKeys = true) ∧ (Tab.wf none s.fw.tileKeys = true)) ∧
    (∃ (q : MciReq) (s : State), (Serves 0x0113 (q.plen == 8) (reservedClear (mciParams q) [(0, 1)] && true) q s)) ∧
    (∃ (q : MciReq) (s : State), (Serves 0x0121 (q.plen == 64) (reservedClear (mciParams q) [(128, 384)] && true) q s) ∧ (s.fw.vet = 1)) ∧
    (∃ (q : MciReq) (s : State), (Serves 0x0121 (q.plen == 64) (reservedClear (mciParams q) [(128, 384)] && true) q s) ∧ (s.fw.vet ≠ 1)) ∧
    (∃ (q : MciReq) (s : State), (Serves 0x0122 (q.plen == 0) (reservedClear (mciParams q) [] && true) q s)) :=
  ⟨⟨(wReq 1 0 0), wReady, by decide +kernel⟩,
   ⟨(wReq 65 0 0), wReady, by decide +kernel⟩,
   ⟨(wReq 513 0 0), wReady, by decide +kernel⟩,
   ⟨(wReq 65 0 0), wReady, by decide +kernel⟩,
   ⟨(wReq 513 8 6), wReady, by decide +kernel⟩,
   ⟨(wReq 65 8 6), wReady, by decide +kernel⟩,
   ⟨(wReq 1 0 0), wTick, by decide +kernel⟩,
   ⟨(wReq 65 0 0), wLoading, by decide +kernel⟩,
   ⟨(wReq 65 112 (3 * 2 ^ 8 + 77 * 2 ^ 128)), wReady, by decide +kernel⟩,
   ⟨(wReq 65 112 (1 + 8 * 2 ^ 8 + 9 * 2 ^ 16 + 77 * 2 ^ 128)), wReady, by decide +kernel⟩,
   ⟨(wReq 65 112 (3 * 2 ^ 8 + 77 * 2 ^ 128)), wKeyed, by decide +kernel⟩,
   ⟨(wReq 65 8 (3 * 2 ^ 8)), wKeyed, by decide +kernel⟩,
   ⟨(wReq 65 8 1), wReady, by decide +kernel⟩,
   ⟨(wReq 65 64 0), { wReady with fw := { wReady.fw with vet := 1 } }, by decide +kernel⟩,
   ⟨(wReq 65 64 0), wReady, by decide +kernel⟩,
   ⟨(wReq 513 0 0), { wReady with fw := { wReady.fw with vet := 2 } }, by decide +kernel⟩⟩

/-- The hypotheses of FirmwareSlots are met together. -/
theorem witness_FirmwareSlots :
    (∃ (q : MciReq) (s : State), (Serves 0x0102 (q.plen == 24 + if bit1 (mciParams q) 1 then 0 else (bits (mciParams q) 64 32)) (reservedClear ((mciParams q) % 2 ^ 192) [(0, 3), (32, 32), (64, 32), (96, 64)] && (!bit1 (mciParams q) 1 || isRing q.who)) q s) ∧ (s.boot.mp = MpState.running) ∧ ((bits (mciParams q) 0 1) ≠ s.fw.active) ∧ ((fwSlot s s.fw.active).state = 5) ∧ ((bits (mciParams q) 32 32) + (bits (mciParams q) 64 32) ≤ 29360128) ∧ ((bits (mciParams q) 32 32) = 0) ∧ (Tab.wf FwSlot.reset s.fw.slots = true)) ∧
    (∃ (q : MciReq) (s : State), (Serves 0x0102 (q.plen == 24 + if bit1 (mciParams q) 1 then 0 else (bits (mciParams q) 64 32)) (reservedClear ((mciParams q) % 2 ^ 192) [(0, 3), (32, 32), (64, 32), (96, 64)] && (!bit1 (mciParams q) 1 || isRing q.who)) q s) ∧ (s.boot.mp = MpState.running) ∧ ((bits (mciParams q) 0 1) ≠ s.fw.active) ∧ ((fwSlot s s.fw.active).state = 5) ∧ ((bits (mciParams q) 32 32) + (bits (mciParams q) 64 32) ≤ 29360128) ∧ ((bits (mciParams q) 32 32) ≠ 0) ∧ ((fwSlot s (bits (mciParams q) 0 1)).state = 1) ∧ ((bits (mciParams q) 32 32) = (fwSlot s (bits (mciParams q) 0 1)).next) ∧ (Tab.wf FwSlot.reset s.fw.slots = true)) ∧
    (∃ (q : MciReq) (s : State), (Serves 0x0102 (q.plen == 24 + if bit1 (mciParams q) 1 then 0 else (bits (mciParams q) 64 32)) (reservedClear ((mciParams q) % 2 ^ 192) [(0, 3), (32, 32), (64, 32), (96, 64)] && (!bit1 (mciParams q) 1 || isRing q.who)) q s) ∧ (s.boot.mp = MpState.recovery) ∧ ((bits (mciParams q) 0 1) ≠ s.fw.active ∨ (fwSlot s (bits (mciParams q) 0 1)).state ∈ [0, 1, 2, 6]) ∧ ((bits (mciParams q) 32 32) + (bits (mciParams q) 64 32) ≤ 29360128) ∧ ((bits (mciParams q) 32 32) = 0) ∧ (Tab.wf FwSlot.reset s.fw.slots = true)) ∧
    (∃ (q : MciReq) (s : State), (Serves 0x0102 (q.plen == 24 + if bit1 (mciParams q) 1 then 0 else (bits (mciParams q) 64 32)) (reservedClear ((mciParams q) % 2 ^ 192) [(0, 3), (32, 32), (64, 32), (96, 64)] && (!bit1 (mciParams q) 1 || isRing q.who)) q s) ∧ (s.boot.mp = MpState.running) ∧ ((bits (mciParams q) 0 1) ≠ s.fw.active) ∧ ((fwSlot s s.fw.active).state = 5) ∧ (29360128 < (bits (mciParams q) 32 32) + (bits (mciParams q) 64 32))) ∧
    (∃ (q : MciReq) (s : State), (Serves 0x0102 (q.plen == 24 + if bit1 (mciParams q) 1 then 0 else (bits (mciParams q) 64 32)) (reservedClear ((mciParams q) % 2 ^ 192) [(0, 3), (32, 32), (64, 32), (96, 64)] && (!bit1 (mciParams q) 1 || isRing q.who)) q s) ∧ (s.boot.mp = MpState.running) ∧ ((bits (mciParams q) 0 1) ≠ s.fw.active) ∧ ((fwSlot s s.fw.active).state = 5) ∧ ((bits (mciParams q) 32 32) + (bits (mciParams q) 64 32) ≤ 29360128) ∧ ((bits (mciParams q) 32 32) ≠ 0) ∧ ((fwSlot s (bits (mciParams q) 0 1)).state ≠ 1 ∨ (bits (mciParams q) 32 32) ≠ (fwSlot s (bits (mciParams q) 0 1)).next)) ∧
    (∃ (q : MciReq) (s : State), (Serves 0x0102 (q.plen == 24 + if bit1 (mciParams q) 1 then 0 else (bits (mciParams q) 64 32)) (reservedClear ((mciParams q) % 2 ^ 192) [(0, 3), (32, 32), (64, 32), (96, 64)] && (!bit1 (mciParams q) 1 || isRing q.who)) q s) ∧ (s.boot.mp = MpState.running) ∧ ((bits (mciParams q) 0 1) = s.fw.active ∨ (fwSlot s s.fw.active).state ≠ 5)) ∧
    (∃ (q : MciReq) (s : State), (Serves 0x0102 (q.plen == 24 + if bit1 (mciParams q) 1 then 0 else (bits (mciParams q) 64 32)) (reservedClear ((mciParams q) % 2 ^ 192) [(0, 3), (32, 32), (64, 32), (96, 64)] && (!bit1 (mciParams q) 1 || isRing q.who)) q s) ∧ (s.boot.mp = MpState.recovery) ∧ ((bits (mciParams q) 0 1) = s.fw.active) ∧ ((fwSlot s (bits (mciParams q) 0 1)).state = 4 ∨ (fwSlot s (bits (mciParams q) 0 1)).state = 5)) ∧
    (∃ (q : MciReq) (s : State), (Serves 0x0103 (q.plen == 8) (reservedClear (mciParams q) [(0, 1)] && true) q s) ∧ ((fwSlot s (bits (mciParams q) 0 1)).state = 2) ∧ (Tab.wf FwSlot.reset s.fw.slots = true)) ∧
    (∃ (q : MciReq) (s : State), (Serves 0x0103 (q.plen == 8) (reservedClear (mciParams q) [(0, 1)] && true) q s) ∧ ((fwSlot s (bits (mciParams q) 0 1)).state ≠ 2)) ∧
    (∃ (q : MciReq) (s : State), (Serves 0x0104 (q.plen == 8) (reservedClear (mciParams q) [(0, 1), (8, 1)] && true) q s) ∧ ((fwSlot s (bits (mciParams q) 0 1)).state = 3) ∧ (bit1 (mciParams q) 8 = false) ∧ (Tab.wf FwSlot.reset s.fw.slots = true)) ∧
    (∃ (q : MciReq) (s : State), (Serves 0x0104 (q.plen == 8) (reservedClear (mciParams q) [(0, 1), (8, 1)] && true) q s) ∧ ((fwSlot s (bits (mciParams q) 0 1)).state = 3) ∧ (bit1 (mciParams q) 8 = true) ∧ (s.boot.mp = MpState.running) ∧ (Tab.wf FwSlot.reset s.fw.slots = true) ∧ (s.PlaneWf)) ∧
    (∃ (q : MciReq) (s : State), (Serves 0x0104 (q.plen == 8) (reservedClear (mciParams q) [(0, 1), (8, 1)] && true) q s) ∧ ((fwSlot s (bits (mciParams q) 0 1)).state = 3) ∧ (bit1 (mciParams q) 8 = true) ∧ (s.boot.mp = MpState.recovery) ∧ (Tab.wf FwSlot.reset s.fw.slots = true)) ∧
    (∃ (q : MciReq) (s : State), (Serves 0x0104 (q.plen == 8) (reservedClear (mciParams q) [(0, 1), (8, 1)] && true) q s) ∧ ((fwSlot s (bits (mciParams q) 0 1)).state ≠ 3)) ∧
    (∃ (q : MciReq) (s : State), (Serves 0x0105 (q.plen == 8) (reservedClear (mciParams q) [(0, 1)] && true) q s) ∧ (s.fw.trial = true) ∧ (s.fw.mpSlot = s.fw.active) ∧ (Tab.wf FwSlot.reset s.fw.slots = true) ∧ (Tab.wf 0 s.fw.minSvn = true) ∧ (Tab.wf 0 s.fw.tileSvn = true)) ∧
    (∃ (q : MciReq) (s : State), (Serves 0x0105 (q.plen == 8) (reservedClear (mciParams q) [(0, 1)] && true) q s) ∧ (s.fw.trial = false ∨ s.fw.mpSlot ≠ s.fw.active)) :=
  ⟨⟨(wReq 65 27 (1 + 0 + 0 * 2 ^ 32 + 3 * 2 ^ 64 + 0x112233 * 2 ^ 192)), wFw, by decide +kernel⟩,
   ⟨(wReq 65 27 (1 + 4 + 3 * 2 ^ 32 + 3 * 2 ^ 64 + 0x112233 * 2 ^ 192)), wFw, by decide +kernel⟩,
   ⟨(wReq 65 27 (0 + 4 + 0 * 2 ^ 32 + 3 * 2 ^ 64 + 0x112233 * 2 ^ 192)), wFwRecovery, by decide +kernel⟩,
   ⟨(wReq 65 27 (1 + 0 + 29360126 * 2 ^ 32 + 3 * 2 ^ 64 + 5 * 2 ^ 192)), wFw, by decide +kernel⟩,
   ⟨(wReq 65 27 (1 + 0 + 4 * 2 ^ 32 + 3 * 2 ^ 64 + 5 * 2 ^ 192)), wFw, by decide +kernel⟩,
   ⟨(wReq 65 27 (0 + 0 + 0 * 2 ^ 32 + 3 * 2 ^ 64 + 5 * 2 ^ 192)), wFw, by decide +kernel⟩,
   ⟨(wReq 65 27 (0 + 0 + 0 * 2 ^ 32 + 3 * 2 ^ 64 + 5 * 2 ^ 192)), { wFwRecovery with fw := wFw.fw }, by decide +kernel⟩,
   ⟨(wReq 65 8 0), wFwWritten, by decide +kernel⟩,
   ⟨(wReq 65 8 1), wFw, by decide +kernel⟩,
   ⟨(wReq 65 8 1), wFwVerified, by decide +kernel⟩,
   ⟨(wReq 65 8 257), wFwVerified, by decide +kernel⟩,
   ⟨(wReq 65 8 257), { wFwRecovery with fw := wFwVerified.fw }, by decide +kernel⟩,
   ⟨(wReq 65 8 1), wFw, by decide +kernel⟩,
   ⟨(wReq 65 8 1), wFwTrial, by decide +kernel⟩,
   ⟨(wReq 65 8 1), wFw, by decide +kernel⟩⟩

/-- The hypotheses of BootsAndRestarts are met together. -/
theorem witness_BootsAndRestarts :
    (∃ (s : State), (s.boot.mp = MpState.bootRom) ∧ (s.pins.perst = false) ∧ (s.clk.pll = true) ∧ (s.pins.recoveryStrap = true)) ∧
    (∃ (s : State), (s.boot.mp = MpState.bootRom) ∧ (s.pins.perst = false) ∧ (s.clk.pll = true) ∧ (s.pins.recoveryStrap = false)) ∧
    (∃ (s : State), (s.boot.mp = MpState.bootRom) ∧ (s.pins.perst = false) ∧ (s.clk.pll = true) ∧ (s.pins.recoveryStrap = false) ∧ ((bundleVerdict s s.fw.active).isSome = true) ∧ (s.fw.trial = true) ∧ (s.fw.failedBoots = 0)) ∧
    (∃ (s : State), (s.boot.mp = MpState.bootRom) ∧ (s.pins.perst = false) ∧ (s.clk.pll = true) ∧ (s.pins.recoveryStrap = false) ∧ ((bundleVerdict s s.fw.active).isSome = true) ∧ (s.fw.trial = true) ∧ (s.fw.failedBoots ≠ 0) ∧ ((fwSlot s (1 - s.fw.active)).state = 5) ∧ (Tab.wf FwSlot.reset s.fw.slots = true)) ∧
    (∃ (s : State), (s.boot.mp = MpState.bootRom) ∧ (s.pins.perst = false) ∧ (s.clk.pll = true) ∧ (s.pins.recoveryStrap = false) ∧ ((bundleVerdict s s.fw.active).isSome = true) ∧ (s.fw.trial = true → s.fw.failedBoots ≠ 0) ∧ ((fwSlot s (1 - s.fw.active)).state ≠ 5) ∧ (Tab.wf FwSlot.reset s.fw.slots = true)) ∧
    (∃ (s : State), (s.fw.trial = true) ∧ (s.boot.mp = MpState.running) ∧ (s.boot.starting = true) ∧ (s.fw.failedBoots = 0)) ∧
    (∃ (s : State), (s.fw.trial = true) ∧ (s.boot.mp = MpState.restarting) ∧ (s.fw.failedBoots ≠ 0) ∧ ((fwSlot s (1 - s.fw.active)).state = 5) ∧ (Tab.wf FwSlot.reset s.fw.slots = true)) ∧
    (∃ (s : State), (mpRuns s = true) ∧ (s.PlaneWf)) ∧
    (∃ (s : State), (mpRuns s = true) ∧ (s.PlaneWf)) ∧
    (∃ (s : State), (s.boot.mp = MpState.restarting)) ∧
    (∃ (s : State), (s.boot.mp = MpState.restarting) ∧ ((bundleVerdict s s.fw.useSlot).isSome = true) ∧ (s.fw.trial = false) ∧ ((fwSlot s (1 - s.fw.active)).state ≠ 5) ∧ (Tab.wf FwSlot.reset s.fw.slots = true)) ∧
    (∃ (s : State), (s.boot.pm = PmState.firmware) ∧ (linkedOn s = false) ∧ (s.ctl.faultQ.length < 256)) ∧
    (∃ (s : State), (s.boot.pm = PmState.firmware) ∧ (linkedOn s = true)) ∧
    (∃ (s : State), (s.boot.pm ≠ PmState.firmware)) ∧
    (∃ (medium : Nat) (s : State), (mctpOpen s medium = true) ∧ (Tab.wf 0 s.fw.eid = true)) ∧
    (∃ (medium : Nat) (cmd : Nat) (s : State), (mctpOpen s medium = true) ∧ (cmd ≠ 1)) ∧
    (∃ (transport : Nat) (s : State), (spdmOpen s transport = true) ∧ (Tab.wf 0 s.fw.spdm = true)) :=
  ⟨⟨{ wBootRom with pins := { wBootRom.pins with straps := 4 } }, by decide +kernel⟩,
   ⟨wBootRom, by decide +kernel⟩,
   ⟨wBootTrial, by decide +kernel⟩,
   ⟨{ wBootTrial with fw := { wBootTrial.fw with failedBoots := 1 } }, by decide +kernel⟩,
   ⟨wBootRom, by decide +kernel⟩,
   ⟨{ wStep8 with fw := { wStep8.fw with trial := true } }, by decide +kernel⟩,
   ⟨{ wBootTrial with boot := { wBootTrial.boot with mp := .restarting }, fw := { wBootTrial.fw with failedBoots := 1 } }, by decide +kernel⟩,
   ⟨wLoading, by decide +kernel⟩,
   ⟨wLoading, by decide +kernel⟩,
   ⟨{ wReady with boot := { wReady.boot with mp := .restarting } }, by decide +kernel⟩,
   ⟨{ wReady with boot := { wReady.boot with mp := .restarting } }, by decide +kernel⟩,
   ⟨wReady, by decide +kernel⟩,
   ⟨wLinkedMode, by decide +kernel⟩,
   ⟨wOff, by decide +kernel⟩,
   ⟨1, wReady, by decide +kernel⟩,
   ⟨1, 2, wReady, by decide +kernel⟩,
   ⟨0, wReady, by decide +kernel⟩⟩

/-- The hypotheses of CacheRequests are met together. -/
theorem witness_CacheRequests :
    (∃ (s : State), (denseReady s = none)) ∧
    (∃ (q : DReq) (k : Nat) (s : State), (denseReady s = some q) ∧ (denseStep s q = DenseStep.hit k) ∧ (s.UnitWf)) ∧
    (∃ (q : DReq) (m : MissEntry) (s : State), (denseReady s = some q) ∧ (denseStep s q = .joins m)) ∧
    (∃ (q : DReq) (k : Nat) (s : State), (denseReady s = some q) ∧ (denseStep s q = .miss k) ∧ ((cacheLine s k).state = 2) ∧ (s.UnitWf)) ∧
    (∃ (q : DReq) (k : Nat) (s : State), (denseReady s = some q) ∧ (denseStep s q = .miss k) ∧ ((cacheLine s k).state ≠ 2) ∧ (q.whole = false) ∧ ((freeQueue (driveOf s (driveAt s q.block))).isSome = true) ∧ (s.UnitWf)) ∧
    (∃ (q : DReq) (k : Nat) (s : State), (denseReady s = some q) ∧ (denseStep s q = .miss k) ∧ ((cacheLine s k).state ≠ 2) ∧ (q.whole = true) ∧ (s.UnitWf)) ∧
    (∃ (q : DReq) (fn : Nat) (ticket : Nat) (off : Nat) (s : State), (denseReady s = some q) ∧ (q.origin = .stage fn ticket off) ∧ (denseStep s q = .fails) ∧ (q.write = true)) ∧
    (∃ (pc : Nat) (c : Nat) (k : Nat) (fn : Nat) (ticket : Nat) (off : Nat) (q : DReq) (s : State), (pcServes s pc = true) ∧ (cellPermitted s pc = true) ∧ ((pcOf s pc).writeback = []) ∧ (pcDead s pc = false) ∧ (pc < 256) ∧ (nextWork (pcOf s pc) = some (c, .inr (k, CacheJob.hit q))) ∧ (q.origin = .stage fn ticket off) ∧ (q.write = true) ∧ (q.len = 64) ∧ (holdsBlock s k q.block = true) ∧ ((cacheLine s k).state ≠ 4) ∧ (s.MemWf) ∧ (s.UnitWf) ∧ (s.dense.flushes = []) ∧ (s.dense.assigns = []) ∧ (s.dense.attaches = [])) ∧
    (∃ (pc : Nat) (c : Nat) (k : Nat) (b : Nat) (data : Nat) (m : MissEntry) (s : State), (pcServes s pc = true) ∧ (cellPermitted s pc = true) ∧ ((pcOf s pc).writeback = []) ∧ (pcDead s pc = false) ∧ (pc < 256) ∧ (nextWork (pcOf s pc) = some (c, .inr (k, CacheJob.fill b data))) ∧ (s.dense.misses.find? (fun (e : MissEntry) => e.block == b && e.phase == 2) = some m) ∧ (m.way = k) ∧ (s.MemWf) ∧ (s.UnitWf) ∧ (s.dense.flushes = []) ∧ (s.dense.assigns = []) ∧ (s.dense.attaches = [])) ∧
    (∃ (q : DReq) (s : State), (oldestReq (s.dense.withheld ++ s.dense.misses.flatMap (fun m => m.waiters) ++ queuedHits s) = some q) ∧ (s.clk.wallPs < q.arrived + 40000000000)) ∧
    (∃ (q : DReq) (fn : Nat) (ticket : Nat) (off : Nat) (s : State), (oldestReq (s.dense.withheld ++ s.dense.misses.flatMap (fun m => m.waiters) ++ queuedHits s) = some q) ∧ (q.arrived + 40000000000 ≤ s.clk.wallPs) ∧ (q.origin = .stage fn ticket off)) ∧
    (∃ (s : State), (s.dense.cleaning = false) ∧ (2 * (linesIn s 2).length ≤ 16 * cacheSets s)) ∧
    (∃ (s : State), (s.dense.cleaning = true) ∧ (4 * (linesIn s 2).length < 16 * cacheSets s)) ∧
    (∃ (k : Nat) (l : List Nat) (s : State), (16 * cacheSets s < 2 * (linesIn s 2).length ∨ s.dense.cleaning = true ∧ 16 * cacheSets s ≤ 4 * (linesIn s 2).length) ∧ (dirtyLines s = k :: l) ∧ (s.UnitWf)) :=
  ⟨⟨wReady, by decide +kernel⟩,
   ⟨dWriteReq, 32, (wDense [dWriteReq] [(32, ⟨1, 0, 1, false, false⟩)]), by decide +kernel⟩,
   ⟨dReadReq, ⟨2, 32, 1, [dWriteReq]⟩, (let s := wDense [dReadReq] [(32, ⟨3, 0, 1, false, false⟩)]; { s with dense := { s.dense with misses := [⟨2, 32, 1, [dWriteReq]⟩] } }), by decide +kernel⟩,
   ⟨dReadReq, 32, (wDense [dReadReq] ((List.range 16).map fun w => (32 + w, ⟨2, 1, w, false, false⟩))), by decide +kernel⟩,
   ⟨dReadReq, 32, (wDense [dReadReq] []), by decide +kernel⟩,
   ⟨dWholeReq, 32, (wDense [dWholeReq] []), by decide +kernel⟩,
   ⟨dWriteReq, 1, 9, 0, { wDense [dWriteReq] [] with dense := { (wDense [dWriteReq] []).dense with units := 0 } }, by decide +kernel⟩,
   ⟨0, 1, 32, 1, 9, 0, dWriteReq, (wJob 0 (32, CacheJob.hit dWriteReq) [(32, ⟨1, 0, 1, false, false⟩)] []), by decide +kernel⟩,
   ⟨0, 1, 32, 2, 77, ⟨2, 32, 2, [dReadReq]⟩, (wJob 0 (32, CacheJob.fill 2 77) [(32, ⟨3, 0, 1, false, false⟩)] [⟨2, 32, 2, [dReadReq]⟩]), by decide +kernel⟩,
   ⟨dReadReq, (wDense [dReadReq] []), by decide +kernel⟩,
   ⟨dReadReq, 1, 9, 0, (wLate (wDense [dReadReq] [])), by decide +kernel⟩,
   ⟨(wDense [] []), by decide +kernel⟩,
   ⟨{ wDense [] [] with dense := { (wDense [] []).dense with cleaning := true } }, by decide +kernel⟩,
   ⟨32, [], (let s := wDense [] [(32, ⟨2, 0, 1, false, false⟩)]; { s with dense := { s.dense with units := 0, cleaning := true } }), by decide +kernel⟩⟩

/-- The hypotheses of DriveCommands are met together. -/
theorem witness_DriveCommands :
    (∃ (drive : Nat) (block : Nat) (c : DriveCmd) (m : MissEntry) (s : State), (outstanding s drive 0 block = some c) ∧ ((driveOf s drive).backlog = []) ∧ (s.dense.misses.find? (fun m => m.block == block && m.phase == 1) = some m) ∧ (s.UnitWf) ∧ (s.dense.flushes = []) ∧ (s.dense.assigns = []) ∧ (s.dense.attaches = [])) ∧
    (∃ (drive : Nat) (block : Nat) (c : DriveCmd) (n : DriveCmd) (l : List DriveCmd) (s : State), (outstanding s drive 0 block = some c) ∧ ((driveOf s drive).backlog = n :: l) ∧ (freeQueue { driveOf s drive with io := (driveOf s drive).io.erase c } = some 0) ∧ (s.dense.misses.find? (fun m => m.block == block && m.phase == 1) = none) ∧ (s.UnitWf) ∧ (s.dense.flushes = []) ∧ (s.dense.assigns = []) ∧ (s.dense.attaches = [])) ∧
    (∃ (drive : Nat) (block : Nat) (c : DriveCmd) (m : MissEntry) (s : State), (outstanding s drive 0 block = some c) ∧ ((driveOf s drive).backlog = []) ∧ (s.dense.misses.find? (fun m => m.block == block && m.phase == 1) = some m) ∧ (m.waiters.all stageReads = true) ∧ (s.UnitWf) ∧ (s.dense.flushes = []) ∧ (s.dense.assigns = []) ∧ (s.dense.attaches = [])) ∧
    (∃ (drive : Nat) (block : Nat) (w : Nat) (c : DriveCmd) (s : State), (outstanding s drive 1 block = some c) ∧ ((driveOf s drive).backlog = []) ∧ (wayOf s block = some w) ∧ ((cacheLine s (cacheKey (setOf s block) w)).state = 4) ∧ ((s.dense.misses.any fun m => m.way == (cacheKey (setOf s block) w) && m.phase == 0) = false) ∧ (s.UnitWf) ∧ (s.dense.flushes = []) ∧ (s.dense.assigns = []) ∧ (s.dense.attaches = [])) ∧
    (∃ (drive : Nat) (block : Nat) (w : Nat) (c : DriveCmd) (m : MissEntry) (q : DReq) (s : State), (outstanding s drive 1 block = some c) ∧ ((driveOf s drive).backlog = []) ∧ (wayOf s block = some w) ∧ ((cacheLine s (cacheKey (setOf s block) w)).state = 4) ∧ ((cacheLine s (cacheKey (setOf s block) w)).redirty = false) ∧ ((s.dense.misses.find? fun m => m.way == (cacheKey (setOf s block) w) && m.phase == 0) = some m) ∧ (m.waiters.head? = some q) ∧ (q.whole = false) ∧ (driveAt s m.block ≠ drive) ∧ ((freeQueue (driveOf s (driveAt s m.block))).isSome = true) ∧ (s.UnitWf) ∧ (s.dense.flushes = []) ∧ (s.dense.assigns = []) ∧ (s.dense.attaches = [])) ∧
    (∃ (drive : Nat) (block : Nat) (who : Nat) (tag : Nat) (c : DriveCmd) (s : State), (outstanding s drive 2 block = some c) ∧ ((driveOf s drive).backlog = []) ∧ (s.dense.flushes = [⟨who, tag, [], [drive], true, none⟩]) ∧ (s.dense.assigns = []) ∧ (s.dense.attaches = []) ∧ ((s.fw.outstanding.any fun o => o.1 == who && o.2.2 == tag) = true)) ∧
    (∃ (drive : Nat) (block : Nat) (w : Nat) (c : DriveCmd) (s : State), (outstanding s drive 1 block = some c) ∧ ((driveOf s drive).backlog = []) ∧ (wayOf s block = some w) ∧ ((cacheLine s (cacheKey (setOf s block) w)).state = 4) ∧ ((s.dense.misses.any fun m => m.way == (cacheKey (setOf s block) w) && m.phase == 0) = false) ∧ (s.UnitWf) ∧ (((driveOf s drive).aborts.filter fun a => decide (s.clk.refTime.toNat < a + 100000000)).length < 2) ∧ (Tab.get none s.ctl.heldEvent (denseEndpoint + drive / 4) = none) ∧ (Tab.get 0 s.ctl.inject (denseEndpoint + drive / 4) < 32) ∧ (s.dense.flushes = []) ∧ (s.dense.assigns = []) ∧ (s.dense.attaches = [])) ∧
    (∃ (drive : Nat) (block : Nat) (c : DriveCmd) (f : DenseFlush) (s : State), (outstanding s drive 2 block = some c) ∧ ((driveOf s drive).backlog = []) ∧ (s.dense.flushes = [f]) ∧ (f.sent = true) ∧ (f.drives.contains drive = true) ∧ (f.token = none) ∧ (s.dense.assigns = []) ∧ (s.dense.attaches = []) ∧ ((s.fw.outstanding.any fun o => o.1 == f.who && o.2.2 == f.tag) = true) ∧ (((driveOf s drive).aborts.filter fun a => decide (s.clk.refTime.toNat < a + 100000000)).length < 2)) ∧
    (∃ (drive : Nat) (cmd : Nat) (block : Nat) (s : State), (outstanding s drive cmd block = none)) ∧
    (∃ (drive : Nat) (s : State), ((s.dense.attached.any fun e => e.1 == drive) = true) ∧ ((driveOf s drive).failed = false) ∧ (Tab.wf Drive.reset s.dense.drive = true) ∧ (Tab.get none s.ctl.heldEvent (denseEndpoint + drive / 4) = none) ∧ (Tab.get 0 s.ctl.inject (denseEndpoint + drive / 4) < 32)) ∧
    (∃ (drive : Nat) (s : State), ((s.dense.attached.any fun e => e.1 == drive) = false)) ∧
    (∃ (drive : Nat) (s : State), (s.pins.dprsnt.getLsbD drive = true) ∧ (s.pins.dperst.getLsbD drive = true) ∧ ((s.dense.attached.any fun e => e.1 == drive) = false)) ∧
    (∃ (drive : Nat) (s : State), (s.pins.dprsnt.getLsbD drive = true) ∧ (s.pins.dperst.getLsbD drive = true) ∧ ((s.dense.attached.any fun e => e.1 == drive) = true) ∧ ((driveOf s drive).failed = false) ∧ (Tab.wf Drive.reset s.dense.drive = true) ∧ (Tab.get none s.ctl.heldEvent (denseEndpoint + drive / 4) = none) ∧ (Tab.get 0 s.ctl.inject (denseEndpoint + drive / 4) < 32)) ∧
    (∃ (q : MciReq) (found : List DriveIn) (s : State), (Serves 0x0306 (q.plen == 0) (reservedClear (mciParams q) [] && true) q s) ∧ (denseMapped s = false) ∧ (s.dense.misses = []) ∧ (linesIn s 4 = []) ∧ (cacheIdle s = true) ∧ ((usableFound s found).isEmpty = false) ∧ (s.dense.flushes = []) ∧ (s.dense.assigns = []) ∧ (s.dense.attaches = [])) ∧
    (∃ (q : MciReq) (found : List DriveIn) (s : State), (Serves 0x0306 (q.plen == 0) (reservedClear (mciParams q) [] && true) q s) ∧ (denseMapped s = false) ∧ (s.dense.misses = []) ∧ (linesIn s 4 = []) ∧ (cacheIdle s = true) ∧ ((usableFound s found).isEmpty = true) ∧ (s.dense.flushes = []) ∧ (s.dense.assigns = []) ∧ (s.dense.attaches = [])) ∧
    (∃ (q : MciReq) (s : State), (Serves 0x0306 (q.plen == 0) (reservedClear (mciParams q) [] && true) q s) ∧ (denseMapped s = false) ∧ (s.dense.misses ≠ []) ∧ (s.dense.flushes = []) ∧ (s.dense.assigns = []) ∧ (s.dense.attaches = [])) ∧
    (∃ (q : MciReq) (s : State), (Serves 0x0306 (q.plen == 0) (reservedClear (mciParams q) [] && true) q s) ∧ (denseMapped s = true)) ∧
    (∃ (q : MciReq) (s : State), (Serves 0x0307 (q.plen == 0) (reservedClear (mciParams q) [] && true) q s) ∧ (mayFlush s (fnOfWho q.who) = true) ∧ (s.dense.attached = [])) ∧
    (∃ (q : MciReq) (s : State), (Serves 0x0307 (q.plen == 0) (reservedClear (mciParams q) [] && true) q s) ∧ (mayFlush s (fnOfWho q.who) = true) ∧ (s.dense.attached ≠ []) ∧ (linesIn s 2 = []) ∧ (linesIn s 4 = []) ∧ ((s.dense.attached.any fun e => !(driveOf s e.1).failed) = true) ∧ ((s.dense.attached.all fun e => decide ((driveOf s e.1).io.length + s.dense.attached.length ≤ 64)) = true) ∧ (Tab.wf Drive.reset s.dense.drive = true) ∧ (s.dense.flushes = []) ∧ (s.dense.assigns = []) ∧ (s.dense.attaches = [])) ∧
    (∃ (q : MciReq) (s : State), (Serves 0x0307 (q.plen == 0) (reservedClear (mciParams q) [] && true) q s) ∧ (mayFlush s (fnOfWho q.who) = false) ∧ (s.HostWf)) ∧
    (∃ (q : MciReq) (s : State), (Serves 0x0308 (q.plen == 0) (reservedClear (mciParams q) [] && true) q s)) :=
  ⟨⟨0, 2, ⟨0, 2, 0, 0⟩, ⟨2, 32, 1, [dReadReq]⟩, (wDrive [(32, ⟨3, 0, 1, false, false⟩)] [⟨0, 2, 0, 0⟩] [⟨2, 32, 1, [dReadReq]⟩]), by decide +kernel⟩,
   ⟨0, 2, ⟨0, 2, 0, 0⟩, ⟨1, 4, 9, 0⟩, [], (let s := wDrive [] [⟨0, 2, 0, 0⟩] []; updDrive 0 (fun d => { d with backlog := [⟨1, 4, 9, 0⟩] }) s), by decide +kernel⟩,
   ⟨0, 2, ⟨0, 2, 0, 0⟩, ⟨2, 32, 1, [dReadReq]⟩, (wDrive [(32, ⟨3, 0, 1, false, false⟩)] [⟨0, 2, 0, 0⟩] [⟨2, 32, 1, [dReadReq]⟩]), by decide +kernel⟩,
   ⟨0, 2, 0, ⟨1, 2, 5, 0⟩, (wDrive [(32, ⟨4, 0, 1, false, true⟩)] [⟨1, 2, 5, 0⟩] []), by decide +kernel⟩,
   ⟨0, 2, 0, ⟨1, 2, 5, 0⟩, ⟨32, 32, 0, [dReadReq]⟩, dReadReq, (wDrive [(32, ⟨4, 0, 1, false, false⟩)] [⟨1, 2, 5, 0⟩] [⟨32, 32, 0, [dReadReq]⟩]), by decide +kernel⟩,
   ⟨0, 0, 65, 7, ⟨2, 0, 0, 0⟩, (wFlushing [] [0]), by decide +kernel⟩,
   ⟨0, 2, 0, ⟨1, 2, 5, 0⟩, (wDrive [(32, ⟨4, 0, 1, false, true⟩)] [⟨1, 2, 5, 0⟩] []), by decide +kernel⟩,
   ⟨0, 0, ⟨2, 0, 0, 0⟩, ⟨65, 7, [], [0, 1], true, none⟩, (wFlushing [] [0, 1]), by decide +kernel⟩,
   ⟨0, 0, 2, (wFailedDrive), by decide +kernel⟩,
   ⟨0, (wDense [] []), by decide +kernel⟩,
   ⟨5, (wDense [] []), by decide +kernel⟩,
   ⟨2, { wReady with pins := { wReady.pins with dprsnt := 4, dperst := 4, dref := 4 } }, by decide +kernel⟩,
   ⟨0, (let s := wDense [] []; { s with pins := { s.pins with dprsnt := 3, dperst := 3, dref := 3 } }), by decide +kernel⟩,
   ⟨(wReq 65 0 0), [⟨0, some 1000, 5⟩, ⟨1, none, 6⟩], { wReady with pins := { wReady.pins with dprsnt := 3 } }, by decide +kernel⟩,
   ⟨(wReq 65 0 0), [⟨1, none, 6⟩], { wReady with pins := { wReady.pins with dprsnt := 3 } }, by decide +kernel⟩,
   ⟨(wReq 65 0 0), (let s := wReady; { s with dense := { s.dense with misses := [⟨2, 32, 1, []⟩] } }), by decide +kernel⟩,
   ⟨(wReq 65 0 0), (wWith { pRegion with backing := 1 } 0), by decide +kernel⟩,
   ⟨(wReq 65 0 0), wReady, by decide +kernel⟩,
   ⟨(wReq 65 0 0), (wDense [] []), by decide +kernel⟩,
   ⟨(wReq 1 0 0), wReady, by decide +kernel⟩,
   ⟨(wReq 65 0 0), wReady, by decide +kernel⟩⟩

/-- The hypotheses of RegionCommands are met together. -/
theorem witness_RegionCommands :
    (∃ (q : MciReq) (s : State), (Serves 0x0501 (q.plen == 32) (reservedClear (mciParams q) (prFields (mciParams q)) && prRangeOk s (mciParams q)) q s) ∧ (prOp (mciParams q) = 0) ∧ (prMembers (mciParams q) = [self s]) ∧ ((regionOf s (prRegion (mciParams q))).state = 0) ∧ (((newRegion (mciParams q)).memberSize / giB) ≤ (freeExtents (updRegion (prRegion (mciParams q)) (fun _ => newRegion (mciParams q)) s) (prBacking (mciParams q))).length) ∧ (Tab.wf Region.reset s.pool.region = true)) ∧
    (∃ (q : MciReq) (s : State), (Serves 0x0501 (q.plen == 32) (reservedClear (mciParams q) (prFields (mciParams q)) && prRangeOk s (mciParams q)) q s) ∧ (prOp (mciParams q) = 0) ∧ (leastOf (prMembers (mciParams q)) = some (self s)) ∧ (1 < (prMembers (mciParams q)).length) ∧ ((regionOf s (prRegion (mciParams q))).state = 0) ∧ (((newRegion (mciParams q)).memberSize / giB) ≤ (freeExtents (updRegion (prRegion (mciParams q)) (fun _ => newRegion (mciParams q)) s) (prBacking (mciParams q))).length) ∧ (Tab.wf Region.reset s.pool.region = true)) ∧
    (∃ (q : MciReq) (s : State), (Serves 0x0501 (q.plen == 32) (reservedClear (mciParams q) (prFields (mciParams q)) && prRangeOk s (mciParams q)) q s) ∧ (prOp (mciParams q) = 0) ∧ (leastOf (prMembers (mciParams q)) = some (self s)) ∧ ((regionOf s (prRegion (mciParams q))).state ≠ 0)) ∧
    (∃ (q : MciReq) (s : State), (Serves 0x0501 (q.plen == 32) (reservedClear (mciParams q) (prFields (mciParams q)) && prRangeOk s (mciParams q)) q s) ∧ (prOp (mciParams q) = 0) ∧ (leastOf (prMembers (mciParams q)) = some (self s)) ∧ ((regionOf s (prRegion (mciParams q))).state = 0) ∧ ((freeExtents (updRegion (prRegion (mciParams q)) (fun _ => newRegion (mciParams q)) s) (prBacking (mciParams q))).length < ((newRegion (mciParams q)).memberSize / giB))) ∧
    (∃ (q : MciReq) (s : State), (Serves 0x0501 (q.plen == 32) (reservedClear (mciParams q) (prFields (mciParams q)) && prRangeOk s (mciParams q)) q s) ∧ (prOp (mciParams q) = 1) ∧ (regionCoord s (regionOf s (prRegion (mciParams q))) = self s) ∧ ((regionOf s (prRegion (mciParams q))).state = 3) ∧ ((regionOf s (prRegion (mciParams q))).lost = some (prIndex (mciParams q))) ∧ ((regionOf s (prRegion (mciParams q))).members.contains (prMember (mciParams q) 0) = false) ∧ (prMember (mciParams q) 0 ≠ self s)) ∧
    (∃ (q : MciReq) (s : State), (Serves 0x0501 (q.plen == 32) (reservedClear (mciParams q) (prFields (mciParams q)) && prRangeOk s (mciParams q)) q s) ∧ (prOp (mciParams q) = 1) ∧ (regionCoord s (regionOf s (prRegion (mciParams q))) = self s) ∧ ((regionOf s (prRegion (mciParams q))).state ≠ 3 ∨ (regionOf s (prRegion (mciParams q))).lost ≠ some (prIndex (mciParams q)))) ∧
    (∃ (q : MciReq) (s : State), (Serves 0x0502 (q.plen == 8) (reservedClear (mciParams q) [(0, 12)] && true) q s) ∧ (regionCoord s (regionOf s (prRegion (mciParams q))) = self s) ∧ (2 ≤ (regionOf s (prRegion (mciParams q))).state) ∧ (Tab.wf Region.reset s.pool.region = true)) ∧
    (∃ (q : MciReq) (s : State), (Serves 0x0502 (q.plen == 8) (reservedClear (mciParams q) [(0, 12)] && true) q s) ∧ (regionCoord s (regionOf s (prRegion (mciParams q))) = self s) ∧ ((regionOf s (prRegion (mciParams q))).state ≤ 1)) ∧
    (∃ (g : Nat) (s : State), ((regionOf s g).state = 6) ∧ (deletable s (g, regionOf s g) = true) ∧ ((regionOf s g).extents = []) ∧ (((regionOf s g).members.filter fun m => m != self s && moduleLive s m) = []) ∧ (regionCoord s (regionOf s g) = self s) ∧ (Tab.wf Region.reset s.pool.region = true)) ∧
    (∃ (q : MciReq) (s : State), (Serves 0x0503 (q.plen == 16 + 4 * bits (mciParams q) 16 6) (reservedClear (mciParams q) ([(0, 12), (12, 1), (16, 6)] ++ (rangeFrom 0 (bits (mciParams q) 16 6)).map fun i => (128 + 32 * i, 14)) && decide (bits (mciParams q) 16 6 ≤ 32) && ((aclOf (mciParams q)).1.map Access.pbr).eraseDups.length == ((aclOf (mciParams q)).1.map Access.pbr).length) q s) ∧ (regionCoord s (regionOf s (prRegion (mciParams q))) = self s) ∧ ((regionOf s (prRegion (mciParams q))).state ≠ 0) ∧ (Tab.wf Region.reset s.pool.region = true)) ∧
    (∃ (q : MciReq) (s : State), (Serves 0x0504 (q.plen == 8) (reservedClear (mciParams q) [(0, 12), (12, 1)] && true) q s) ∧ (bit1 (mciParams q) 12 = true)) ∧
    (∃ (q : MciReq) (s : State), (Serves 0x0504 (q.plen == 8) (reservedClear (mciParams q) [(0, 12), (12, 1)] && true) q s) ∧ (bit1 (mciParams q) 12 = false) ∧ (isMctp q.who = true ∨ winPool s (fnOfWho q.who) (bits (mciParams q) 0 12) false = true ∨ winPool s (fnOfWho q.who) (bits (mciParams q) 0 12) true = true)) ∧
    (∃ (q : MciReq) (s : State), (Serves 0x0504 (q.plen == 8) (reservedClear (mciParams q) [(0, 12), (12, 1)] && true) q s) ∧ (bit1 (mciParams q) 12 = false) ∧ (isMctp q.who = false) ∧ (winPool s (fnOfWho q.who) (bits (mciParams q) 0 12) false = false) ∧ (winPool s (fnOfWho q.who) (bits (mciParams q) 0 12) true = false)) ∧
    (∃ (g : Nat) (m : Nat) (s : State), ((regionOf s g).served = true) ∧ (m < (regionOf s g).members.length) ∧ (memberGone s (regionOf s g) m = true) ∧ (¬((regionOf s g).lost = some m ∧ (regionOf s g).state = 3)) ∧ (Tab.wf Region.reset s.pool.region = true)) ∧
    (∃ (g : Nat) (m : Nat) (s : State), ((regionOf s g).served = false ∨ memberGone s (regionOf s g) m = false)) ∧
    (∃ (g : Nat) (i : Nat) (s : State), ((regionOf s g).lost = some i) ∧ (rebuildDue s g (regionOf s g) i = true) ∧ (((piecesOf (regionOf s g) i true).any fun j => absent s (regionOf s g) j (regionOf s g).cursor) = false)) ∧
    (∃ (g : Nat) (s : State), ((regionOf s g).lost = none)) ∧
    (∃ (u : Nat) (s : State), (u < 4096) ∧ (s.pool.unzeroed.contains u = true)) :=
  ⟨⟨(wReq 65 32 (2 ^ 32)), wPoolFree, by decide +kernel⟩,
   ⟨(wReq 65 32 (2 ^ 14 + 2 ^ 32 + 2 ^ 80)), wPoolPair, by decide +kernel⟩,
   ⟨(wReq 65 32 (2 ^ 32)), wPool, by decide +kernel⟩,
   ⟨(wReq 65 32 (2 ^ 34)), wPoolFree, by decide +kernel⟩,
   ⟨(wReq 65 32 (2 ^ 12 + 2 * 2 ^ 64)), wPoolLost, by decide +kernel⟩,
   ⟨(wReq 65 32 (2 ^ 12 + 2 ^ 20)), wPool, by decide +kernel⟩,
   ⟨(wReq 65 8 0), wPool, by decide +kernel⟩,
   ⟨(wReq 65 8 7), wPool, by decide +kernel⟩,
   ⟨0, wPoolDeleting, by decide +kernel⟩,
   ⟨(wReq 65 20 (2 ^ 16 + 7 * 2 ^ 128)), wPool, by decide +kernel⟩,
   ⟨(wReq 513 8 (2 ^ 12)), wPool, by decide +kernel⟩,
   ⟨(wReq 513 8 0), wPool, by decide +kernel⟩,
   ⟨(wReq 1 8 0), wPool, by decide +kernel⟩,
   ⟨0, 1, wPoolGone, by decide +kernel⟩,
   ⟨0, 0, wPool, by decide +kernel⟩,
   ⟨0, 0, wPoolRebuild, by decide +kernel⟩,
   ⟨0, wPool, by decide +kernel⟩,
   ⟨7, { wPool with pool := { wPool.pool with unzeroed := [7, 9] } }, by decide +kernel⟩⟩

/-- The hypotheses of HostRequests are met together. -/
theorem witness_HostRequests :
    (∃ (s : State), (poolPortUp s = true)) ∧
    (∃ (pbr : Nat) (g : Nat) (s : State), (poolPortUp s = true) ∧ (hostDenied s pbr g false = true) ∧ (s.HostWf)) ∧
    (∃ (pbr : Nat) (g : Nat) (off : Nat) (s : State), (poolPortUp s = true) ∧ (hostDenied s pbr g false = false) ∧ (beyondRegion s g off = true)) ∧
    (∃ (pbr : Nat) (g : Nat) (off : Nat) (line : Nat) (s : State), (poolPortUp s = true) ∧ (hostDenied s pbr g false = false) ∧ (beyondRegion s g off = false) ∧ (HereAt g (off / 64 * 64) line s)) ∧
    (∃ (pbr : Nat) (g : Nat) (off : Nat) (s : State), (poolPortUp s = true) ∧ (hostDenied s pbr g false = false) ∧ (beyondRegion s g off = false) ∧ ((regionOf s g).goesOn = false)) ∧
    (∃ (off : Nat) (s : State), (poolPortUp s = true) ∧ (1024 ≤ off ∨ off % 128 ≠ 0)) ∧
    (∃ (off : Nat) (s : State), (poolPortUp s = true) ∧ (off < 1024) ∧ (off % 128 = 0)) ∧
    (∃ (pbr : Nat) (g : Nat) (s : State), (poolPortUp s = true) ∧ (hostDenied s pbr g true = true) ∧ (s.HostWf)) ∧
    (∃ (pbr : Nat) (g : Nat) (off : Nat) (s : State), (poolPortUp s = true) ∧ (hostDenied s pbr g true = false) ∧ ((regionOf s g).state = 5 ∨ beyondRegion s g off = true)) ∧
    (∃ (pbr : Nat) (g : Nat) (off : Nat) (line : Nat) (s : State), (poolPortUp s = true) ∧ (hostDenied s pbr g true = false) ∧ (beyondRegion s g off = false) ∧ (HereAt g (off / 64 * 64) line s) ∧ (NotRebuilt g (off / 64 * 64) s)) ∧
    (∃ (pbr : Nat) (s : State), (s.pool.boxes.contains pbr = false)) ∧
    (∃ (pbr : Nat) (slot : Nat) (line : BitVec 512) (s : State), (poolPortUp s = true) ∧ (slot < 8) ∧ (s.pool.boxes.contains pbr = true) ∧ ((bits line.toNat 384 8) = 0 ∨ (mailSlot s pbr slot).busy = true)) ∧
    (∃ (pbr : Nat) (slot : Nat) (line : BitVec 512) (s : State), (poolPortUp s = true) ∧ (slot < 8) ∧ (s.pool.boxes.contains pbr = true) ∧ ((bits line.toNat 384 8) ≠ 0) ∧ ((mailSlot s pbr slot).busy = false) ∧ ((mailSlot s pbr slot).seq = (bits line.toNat 384 8))) ∧
    (∃ (pbr : Nat) (slot : Nat) (st : Nat) (line : BitVec 512) (s : State), (poolPortUp s = true) ∧ (slot < 8) ∧ (s.pool.boxes.contains pbr = true) ∧ ((bits line.toNat 384 8) ≠ 0) ∧ ((mailSlot s pbr slot).busy = false) ∧ ((mailSlot s pbr slot).seq ≠ (bits line.toNat 384 8)) ∧ (bits line.toNat 393 119 = 0) ∧ (mailDenied s pbr (bits line.toNat 0 384) = none) ∧ (pcRefusal s (bits line.toNat 0 384) none = some st) ∧ (Tab.wf MailSlot.reset s.pool.slots = true)) ∧
    (∃ (pbr : Nat) (slot : Nat) (g : Nat) (line : BitVec 512) (s : State), (poolPortUp s = true) ∧ (slot < 8) ∧ (s.pool.boxes.contains pbr = true) ∧ ((bits line.toNat 384 8) ≠ 0) ∧ ((mailSlot s pbr slot).busy = false) ∧ ((mailSlot s pbr slot).seq ≠ (bits line.toNat 384 8)) ∧ (bits line.toNat 393 119 = 0) ∧ (pcWellFormed (bits line.toNat 0 384) = true) ∧ (mailDenied s pbr (bits line.toNat 0 384) = some g) ∧ (Tab.wf MailSlot.reset s.pool.slots = true) ∧ (s.HostWf)) ∧
    (∃ (pbr : Nat) (slot : Nat) (line : BitVec 512) (s : State), (poolPortUp s = true) ∧ (slot < 8) ∧ (s.pool.boxes.contains pbr = true) ∧ ((bits line.toNat 384 8) ≠ 0) ∧ ((mailSlot s pbr slot).busy = false) ∧ ((mailSlot s pbr slot).seq ≠ (bits line.toNat 384 8)) ∧ (bits line.toNat 393 119 = 0) ∧ (mailDenied s pbr (bits line.toNat 0 384) = none) ∧ (pcRefusal s (bits line.toNat 0 384) none = none) ∧ (Tab.wf MailSlot.reset s.pool.slots = true)) ∧
    (∃ (id : Nat) (x : PoolCmd) (s : State), (cmdOf s id = some x) ∧ (x.ran = false ∨ x.left ≠ 0)) ∧
    (∃ (id : Nat) (pbr : Nat) (slot : Nat) (seq : Nat) (fence : Bool) (x : PoolCmd) (s : State), (cmdOf s id = some x) ∧ (x.ran = true) ∧ (x.left = 0) ∧ (x.by_ = .mailbox pbr slot seq fence) ∧ ((listedIds s).contains pbr = true) ∧ (s.pool.boxes.contains pbr = true) ∧ (slot < 8) ∧ (Tab.wf MailSlot.reset s.pool.slots = true)) :=
  ⟨⟨wPool, by decide +kernel⟩,
   ⟨5, 0, wPool, by decide +kernel⟩,
   ⟨9, 0, (2 ^ 40), wPool, by decide +kernel⟩,
   ⟨9, 0, 130, (unitLine 0 5 128), wPool, by decide +kernel⟩,
   ⟨9, 0, 0, (wPoolState 5), by decide +kernel⟩,
   ⟨64, wPool, by decide +kernel⟩,
   ⟨256, wPool, by decide +kernel⟩,
   ⟨5, 0, wPool, by decide +kernel⟩,
   ⟨9, 0, 0, (wPoolState 5), by decide +kernel⟩,
   ⟨9, 0, 130, (unitLine 0 5 128), wPool, by decide +kernel⟩,
   ⟨5, wPool, by decide +kernel⟩,
   ⟨9, 0, 0, wPool, by decide +kernel⟩,
   ⟨9, 2, (3 * 2 ^ 384), wPool, by decide +kernel⟩,
   ⟨9, 1, 1, (1 * 2 ^ 384), wPool, by decide +kernel⟩,
   ⟨9, 1, 4, (BitVec.ofNat 512 (1 + 4 * 2 ^ 16 + 64 * 2 ^ 192 + 2 ^ 384)), wPool, by decide +kernel⟩,
   ⟨9, 1, (BitVec.ofNat 512 (1 + 64 * 2 ^ 192 + 2 ^ 384)), wPool, by decide +kernel⟩,
   ⟨4, (wCmd 1), (wPoolCmd (wCmd 1)), by decide +kernel⟩,
   ⟨4, 9, 2, 3, false, { wCmd 1 with ran := true }, (wPoolCmd { wCmd 1 with ran := true }), by decide +kernel⟩⟩

/-- The hypotheses of PoolCommands are met together. -/
theorem witness_PoolCommands :
    (∃ (id : Nat) (x : PoolCmd) (ld : Nat) (s : State), (cmdOf s id = some x) ∧ (x.ran = false) ∧ (fenceOk s x = true) ∧ (pcOp x.cmd = 1) ∧ (pcLen x.cmd = 64) ∧ (HereAt (pcDreg x.cmd) (pcDoff x.cmd) ld s) ∧ (NotRebuilt (pcDreg x.cmd) (pcDoff x.cmd) s)) ∧
    (∃ (id : Nat) (x : PoolCmd) (ld : Nat) (ls : Nat) (s : State), (cmdOf s id = some x) ∧ (x.ran = false) ∧ (fenceOk s x = true) ∧ (pcOp x.cmd = 2) ∧ (pcLen x.cmd = 64) ∧ (HereAt (pcDreg x.cmd) (pcDoff x.cmd) ld s) ∧ (NotRebuilt (pcDreg x.cmd) (pcDoff x.cmd) s) ∧ (HereAt (pcSreg x.cmd) (pcSoff x.cmd) ls s) ∧ ((hbmRead ls s).1.poison = false)) ∧
    (∃ (id : Nat) (x : PoolCmd) (ld : Nat) (ls : Nat) (s : State), (cmdOf s id = some x) ∧ (x.ran = false) ∧ (fenceOk s x = true) ∧ (pcOp x.cmd = 2) ∧ (pcLen x.cmd = 64) ∧ (HereAt (pcDreg x.cmd) (pcDoff x.cmd) ld s) ∧ (NotRebuilt (pcDreg x.cmd) (pcDoff x.cmd) s) ∧ (HereAt (pcSreg x.cmd) (pcSoff x.cmd) ls s) ∧ ((hbmRead ls s).1.poison = true) ∧ (x.status = 0)) ∧
    (∃ (id : Nat) (x : PoolCmd) (ld : Nat) (ls : Nat) (s : State), (cmdOf s id = some x) ∧ (x.ran = false) ∧ (fenceOk s x = true) ∧ (pcOp x.cmd = 3) ∧ (pcLen x.cmd = 64) ∧ (HereAt (pcDreg x.cmd) (pcDoff x.cmd) ld s) ∧ (NotRebuilt (pcDreg x.cmd) (pcDoff x.cmd) s) ∧ (HereAt (pcSreg x.cmd) (pcSoff x.cmd) ls s) ∧ ((hbmRead ls s).1.poison = false) ∧ ((hbmRead ld (hbmRead ls s).2).1.poison = false) ∧ (x.status = 0)) ∧
    (∃ (id : Nat) (x : PoolCmd) (ld : Nat) (ls : Nat) (s : State), (cmdOf s id = some x) ∧ (x.ran = false) ∧ (fenceOk s x = true) ∧ (pcOp x.cmd = 4) ∧ (pcLen x.cmd = 64) ∧ (HereAt (pcDreg x.cmd) (pcDoff x.cmd) ld s) ∧ (NotRebuilt (pcDreg x.cmd) (pcDoff x.cmd) s) ∧ (HereAt (pcSreg x.cmd) (pcSoff x.cmd) ls s) ∧ (pcSources x.cmd = 1) ∧ (pcAcc x.cmd = true) ∧ ((hbmRead ld s).1.poison = false) ∧ ((hbmRead ls (hbmRead ld s).2).1.poison = false)) ∧
    (∃ (id : Nat) (x : PoolCmd) (s : State), (cmdOf s id = some x) ∧ (x.ran = false) ∧ (fenceOk s x = true) ∧ (pcOp x.cmd = 5) ∧ (regionCoord s (regionOf s (pcDreg x.cmd)) = self s) ∧ (Tab.wf Region.reset s.pool.region = true) ∧ ((regionOf s (pcDreg x.cmd)).issued < 2 ^ 48 - 2)) ∧
    (∃ (id : Nat) (x : PoolCmd) (s : State), (cmdOf s id = some x) ∧ (x.ran = false) ∧ (fenceOk s x = true) ∧ (pcOp x.cmd = 6) ∧ (regionCoord s (regionOf s (pcDreg x.cmd)) = self s) ∧ (Tab.wf Region.reset s.pool.region = true)) ∧
    (∃ (id : Nat) (x : PoolCmd) (s : State), (cmdOf s id = some x) ∧ (x.ran = false) ∧ (fenceOk s x = true) ∧ (pcOp x.cmd = 7) ∧ (regionCoord s (regionOf s (pcDreg x.cmd)) = self s) ∧ (Tab.wf Region.reset s.pool.region = true) ∧ (leaseNow s (regionOf s (pcDreg x.cmd)) = none ∨ ((leaseNow s (regionOf s (pcDreg x.cmd))).map fun l => l.1) = some x.holder) ∧ ((regionOf s (pcDreg x.cmd)).leaseFrom ≤ s.clk.wallPs)) ∧
    (∃ (id : Nat) (x : PoolCmd) (h : Nat) (e : Nat) (s : State), (cmdOf s id = some x) ∧ (x.ran = false) ∧ (fenceOk s x = true) ∧ (pcOp x.cmd = 7) ∧ (regionCoord s (regionOf s (pcDreg x.cmd)) = self s) ∧ (Tab.wf Region.reset s.pool.region = true) ∧ (leaseNow s (regionOf s (pcDreg x.cmd)) = some (h, e)) ∧ (h ≠ x.holder)) ∧
    (∃ (id : Nat) (x : PoolCmd) (e : Nat) (s : State), (cmdOf s id = some x) ∧ (x.ran = false) ∧ (fenceOk s x = true) ∧ (pcOp x.cmd = 8) ∧ (regionCoord s (regionOf s (pcDreg x.cmd)) = self s) ∧ (Tab.wf Region.reset s.pool.region = true) ∧ (leaseNow s (regionOf s (pcDreg x.cmd)) = some (x.holder, e))) ∧
    (∃ (id : Nat) (x : PoolCmd) (s : State), (cmdOf s id = some x) ∧ (x.ran = false) ∧ (fenceOk s x = true) ∧ (pcOp x.cmd = 5) ∧ (regionCoord s (regionOf s (pcDreg x.cmd)) ≠ self s)) ∧
    (∃ (g : Nat) (k : Token) (l : List Token) (s : State), ((regionOf s g).tokens = k :: l) ∧ (regionDurable s g = true) ∧ (Tab.wf Region.reset s.pool.region = true)) ∧
    (∃ (g : Nat) (k : Token) (l : List Token) (s : State), ((regionOf s g).tokens = k :: l) ∧ (k.at_ + 10000000000000 ≤ s.clk.wallPs) ∧ (Tab.wf Region.reset s.pool.region = true)) ∧
    (∃ (g : Nat) (k : Token) (l : List Token) (s : State), ((regionOf s g).tokens = k :: l) ∧ (s.clk.wallPs < k.at_ + 10000000000000)) ∧
    (∃ (g : Nat) (h : Nat) (e : Nat) (s : State), ((regionOf s g).lease = some (h, e)) ∧ (e ≤ s.clk.wallPs) ∧ (Tab.wf Region.reset s.pool.region = true)) ∧
    (∃ (g : Nat) (h : Nat) (e : Nat) (s : State), ((regionOf s g).lease = some (h, e)) ∧ (s.clk.wallPs < e)) :=
  ⟨⟨4, (wCmd (1 + 64 * 2 ^ 192 + 0xABCD * 2 ^ 352)), (unitLine 0 5 0), (wPoolCmd (wCmd (1 + 64 * 2 ^ 192 + 0xABCD * 2 ^ 352))), by decide +kernel⟩,
   ⟨4, (wCmd (2 + 64 * 2 ^ 192 + 128 * 2 ^ 128)), (unitLine 0 5 0), (unitLine 0 5 128), (wPoolCmd (wCmd (2 + 64 * 2 ^ 192 + 128 * 2 ^ 128))), by decide +kernel⟩,
   ⟨4, (wCmd (2 + 64 * 2 ^ 192 + 128 * 2 ^ 128)), (unitLine 0 5 0), (unitLine 0 5 128), (wPoison (unitLine 0 5 128) (wPoolCmd (wCmd (2 + 64 * 2 ^ 192 + 128 * 2 ^ 128)))), by decide +kernel⟩,
   ⟨4, (wCmd (3 + 64 * 2 ^ 192 + 128 * 2 ^ 128)), (unitLine 0 5 0), (unitLine 0 5 128), (wByte (64 * unitLine 0 5 128 + 3) 9 (wPoolCmd (wCmd (3 + 64 * 2 ^ 192 + 128 * 2 ^ 128)))), by decide +kernel⟩,
   ⟨4, (wCmd (4 + 512 + 4096 + 64 * 2 ^ 192 + 128 * 2 ^ 128)), (unitLine 0 5 0), (unitLine 0 5 128), (wByte (64 * unitLine 0 5 128 + 3) 9 (wPoolCmd (wCmd (4 + 512 + 4096 + 64 * 2 ^ 192 + 128 * 2 ^ 128)))), by decide +kernel⟩,
   ⟨4, (wCmd 5), (wPoolCmd (wCmd 5)), by decide +kernel⟩,
   ⟨4, (wCmd (6 + 2 ^ 128)), (wPoolCmd (wCmd (6 + 2 ^ 128))), by decide +kernel⟩,
   ⟨4, (wCmd (7 + 5 * 2 ^ 352)), (wPoolCmd (wCmd (7 + 5 * 2 ^ 352))), by decide +kernel⟩,
   ⟨4, (wCmd (7 + 5 * 2 ^ 352)), 3, (10 ^ 12), (wLeased (wCmd (7 + 5 * 2 ^ 352)) 3), by decide +kernel⟩,
   ⟨4, (wCmd 8), (10 ^ 12), (wLeased (wCmd 8) 9), by decide +kernel⟩,
   ⟨4, (wCmd 5), (wAway (wCmd 5)), by decide +kernel⟩,
   ⟨0, ⟨3, 0, false, false⟩, [], wToken, by decide +kernel⟩,
   ⟨0, ⟨3, 0, false, false⟩, [], { wToken with clk := { wToken.clk with wallPs := 10 ^ 14 } }, by decide +kernel⟩,
   ⟨0, ⟨3, 0, false, false⟩, [], wToken, by decide +kernel⟩,
   ⟨0, 9, (10 ^ 12), (let s := wLeased (wCmd 8) 9; { s with clk := { s.clk with wallPs := 10 ^ 13 } }), by decide +kernel⟩,
   ⟨0, 9, (10 ^ 12), (wLeased (wCmd 8) 9), by decide +kernel⟩⟩

/-- The hypotheses of ModuleRequests are met together. -/
theorem witness_ModuleRequests :
    (∃ (h : FlitHdr) (u : UnschIn) (line : Nat) (s : State), (InOrder h s) ∧ (NewReq h u s) ∧ (HereAt u.region u.off line s) ∧ (u.off + 64 ≤ (regionOf s u.region).extents.length * giB) ∧ (u.nl = 1)) ∧
    (∃ (h : FlitHdr) (u : UnschIn) (s : State), (InOrder h s) ∧ (NewReq h u s) ∧ (myMember s (regionOf s u.region) = none)) ∧
    (∃ (h : FlitHdr) (u : UnschIn) (s : State), (InOrder h s) ∧ (h.dst = self s) ∧ ((s.lat.kept.any fun k => k.1 == h.src && k.2.1 == u.tag && !keptStale s u.tag k) = true)) ∧
    (∃ (h : FlitHdr) (u : UnschIn) (line : Nat) (l : LineIn) (s : State), (InOrder h s) ∧ (NewReq h u s) ∧ (HereAt u.region u.off line s) ∧ (u.off + 64 ≤ (regionOf s u.region).extents.length * giB) ∧ (u.nl = 1) ∧ (u.lines = [l]) ∧ (NotRebuilt u.region u.off s)) ∧
    (∃ (h : FlitHdr) (u : UnschIn) (line : Nat) (l : LineIn) (s : State), (InOrder h s) ∧ (NewReq h u s) ∧ ((regionOf s u.region).prot = 2) ∧ (myMember s (regionOf s u.region) = some 8) ∧ ((regionOf s u.region).missing = false) ∧ (absent s (regionOf s u.region) 8 u.off = false) ∧ (placeOf (regionOf s u.region) u.off = some (.hbm line)) ∧ (u.off + 64 ≤ (regionOf s u.region).extents.length * giB) ∧ (u.nl = 1) ∧ (u.lines = [l]) ∧ (NotRebuilt u.region u.off s)) ∧
    (∃ (h : FlitHdr) (u : UnschIn) (line : Nat) (m : Nat) (s : State), (InOrder h s) ∧ (NewReq h u s) ∧ (myMember s (regionOf s u.region) = some m) ∧ ((regionOf s u.region).missing = false) ∧ (placeOf (regionOf s u.region) u.off = some (.hbm line)) ∧ (u.off + 64 ≤ (regionOf s u.region).extents.length * giB) ∧ (u.nl = 1)) ∧
    (∃ (h : FlitHdr) (u : UnschIn) (s : State), (InOrder h s) ∧ (NewReq h u s) ∧ (s.pool.cmds.length < 512)) ∧
    (∃ (h : FlitHdr) (u : UnschIn) (s : State), (InOrder h s) ∧ (NewReq h u s) ∧ (512 ≤ s.pool.cmds.length)) ∧
    (∃ (h : FlitHdr) (u : UnschIn) (s : State), (InOrder h s) ∧ (NewReq h u s) ∧ (unschBody 6 u % 256 = 4) ∧ (Tab.wf Region.reset s.pool.region = true)) ∧
    (∃ (h : FlitHdr) (u : UnschIn) (s : State), (InOrder h s) ∧ (NewReq h u s) ∧ (pcOp (bits u.cmd 0 384) = 6)) ∧
    (∃ (h : FlitHdr) (u : UnschIn) (r : OutReq) (s : State), (InOrder h s) ∧ (h.dst = self s) ∧ (s.lat.outReqs.find? (fun r => r.dst == h.src && r.tag == u.tag) = some r) ∧ (r.kind = 3) ∧ (s.lat.waiting = [])) ∧
    (∃ (dst : Nat) (tag : Nat) (r : OutReq) (s : State), (s.lat.outReqs.find? (fun q => q.dst == dst && q.tag == tag) = some r) ∧ (s.clk.wallPs < r.at_ + 4 * deliveryPs s)) ∧
    (∃ (dst : Nat) (tag : Nat) (r : OutReq) (s : State), (s.lat.outReqs.find? (fun q => q.dst == dst && q.tag == tag) = some r) ∧ (r.at_ + 4 * deliveryPs s ≤ s.clk.wallPs)) :=
  ⟨⟨(wFl 2), (wUn 1 []), (unitLine 0 5 128), wPoolLink, by decide +kernel⟩,
   ⟨(wFl 2), { wUn 1 [] with region := 4 }, wPoolLink, by decide +kernel⟩,
   ⟨(wFl 2), (wUn 1 []), wPoolKept, by decide +kernel⟩,
   ⟨(wFl 2), (wUn 1 [⟨77, false⟩]), (unitLine 0 5 128), ⟨77, false⟩, wPoolLink, by decide +kernel⟩,
   ⟨(wFl 2), (wUn 1 [⟨77, false⟩]), (unitLine 0 5 128), ⟨77, false⟩, wPoolParity, by decide +kernel⟩,
   ⟨(wFl 2), (wUn 1 []), (unitLine 0 5 128), 8, wPoolParity, by decide +kernel⟩,
   ⟨(wFl 2), { wUn 0 [] with cmd := 3 }, wPoolLink, by decide +kernel⟩,
   ⟨(wFl 2), { wUn 0 [] with cmd := 3 }, { wPoolLink with pool := { wPoolLink.pool with cmds := List.replicate 512 (wCmd 1) } }, by decide +kernel⟩,
   ⟨(wFl 2), (wUn 1 [⟨4 + 2 ^ 80, false⟩]), wPoolLink, by decide +kernel⟩,
   ⟨(wFl 2), { wUn 0 [] with cmd := 6 + 2 ^ 128 }, wPoolLink, by decide +kernel⟩,
   ⟨(wFl 2), (wUn 0 []), ⟨1, 5, ⟨0, 0, 0, 0, 0, 0, 0⟩, 3, 4, 0⟩, wPoolOut, by decide +kernel⟩,
   ⟨1, 5, ⟨1, 5, ⟨0, 0, 0, 0, 0, 0, 0⟩, 3, 4, 0⟩, wPoolOut, by decide +kernel⟩,
   ⟨1, 5, ⟨1, 5, ⟨0, 0, 0, 0, 0, 0, 0⟩, 3, 4, 0⟩, { wPoolOut with clk := { wPoolOut.clk with wallPs := 10 ^ 9 } }, by decide +kernel⟩⟩

/-- The hypotheses of LinkStates are met together. -/
theorem witness_LinkStates :
    (∃ (port : Nat) (good : BitVec 8) (s : State), ((latPort s port).state = 1) ∧ (widthOf good ≠ 0) ∧ (Tab.wf LPort.reset s.lat.port = true)) ∧
    (∃ (port : Nat) (good : BitVec 8) (s : State), ((latPort s port).state = 1) ∧ (widthOf good = 0) ∧ (Tab.wf LPort.reset s.lat.port = true)) ∧
    (∃ (port : Nat) (good : BitVec 8) (s : State), ((latPort s port).state = 3) ∧ (widthOf good ≠ 0) ∧ (Tab.wf LPort.reset s.lat.port = true)) ∧
    (∃ (port : Nat) (msg : Nat) (s : State), ((latPort s port).state = 1) ∧ ((latPort s port).width ≠ 0) ∧ (linkIdOk s port msg = true) ∧ (Tab.wf LPort.reset s.lat.port = true)) ∧
    (∃ (port : Nat) (msg : Nat) (s : State), ((latPort s port).state = 1) ∧ ((latPort s port).width ≠ 0) ∧ (linkIdOk s port msg = false) ∧ (Tab.wf LPort.reset s.lat.port = true)) ∧
    (∃ (port : Nat) (s : State), ((latPort s port).state = 2) ∧ (Tab.wf LPort.reset s.lat.port = true)) ∧
    (∃ (port : Nat) (s : State), ((latPort s port).state ≠ 2)) ∧
    (∃ (b : Nat) (port : Nat) (fill : Nat) (s : State), (b < 44) ∧ (elasticPort b = some port) ∧ ((latPort s port).state = 2) ∧ (elasticFault b fill = true) ∧ (Tab.wf Elastic.reset s.clk.elastic = true) ∧ (s.UnitWf)) ∧
    (∃ (b : Nat) (fill : Nat) (s : State), (b < 44) ∧ (elasticPort b = none) ∧ (elasticFault b fill = true) ∧ (Tab.wf Elastic.reset s.clk.elastic = true)) ∧
    (∃ (b : Nat) (fill : Nat) (s : State), (b < 44) ∧ (elasticFault b fill = false) ∧ (Tab.wf Elastic.reset s.clk.elastic = true)) ∧
    (∃ (b : Nat), (44 ≤ b)) ∧
    (∃ (port : Nat) (s : State), ((latPort s port).state = 3) ∧ (Tab.wf LPort.reset s.lat.port = true)) ∧
    (∃ (port : Nat) (s : State), ((latPort s port).state = 4 ∨ (latPort s port).state = 5) ∧ ((failedHour s port && !isRequested s (0x8002, port)) = false ∨ mpRuns s = false) ∧ (Tab.wf LPort.reset s.lat.port = true)) ∧
    (∃ (port : Nat) (s : State), ((latPort s port).state = 4) ∧ (port < 12) ∧ (mpRuns s = true) ∧ (failedHour s port = true) ∧ (isRequested s (0x8002, port) = false) ∧ (Tab.wf LPort.reset s.lat.port = true)) ∧
    (∃ (port : Nat) (s : State), (portUp s port = true) ∧ ((latPort s port).asleep = false) ∧ (s.pm.laneSleep = true) ∧ (portBusy s port = false) ∧ (frameNumber s = (latPort s port).loadFrame) ∧ (256 ≤ (latPort s port).quiet) ∧ (Tab.wf LPort.reset s.lat.port = true)) ∧
    (∃ (s : State), (s.pm.laneSleep = false)) ∧
    (∃ (port : Nat) (s : State), ((latPort s port).asleep = true) ∧ (Tab.wf LPort.reset s.lat.port = true)) ∧
    (∃ (q : MciReq) (s : State), (Serves 0x0601 (q.plen == 32) (reservedClear (mciParams q) [(0, 10), (16, 16), (32, 2), (40, 4), (44, 3), (47, 3), (64, 12), (80, 8), (128, 96)] && latConfigOk (latConfigOf (mciParams q))) q s) ∧ (latConfigBusy s = false)) ∧
    (∃ (q : MciReq) (s : State), (Serves 0x0601 (q.plen == 32) (reservedClear (mciParams q) [(0, 10), (16, 16), (32, 2), (40, 4), (44, 3), (47, 3), (64, 12), (80, 8), (128, 96)] && latConfigOk (latConfigOf (mciParams q))) q s) ∧ (latConfigBusy s = true)) ∧
    (∃ (q : MciReq) (s : State), (Serves 0x0602 (q.plen == 0) (reservedClear (mciParams q) [] && true) q s)) :=
  ⟨⟨2, 0x0F, (wPortState 1), by decide +kernel⟩,
   ⟨2, 0x05, (wPortState 1), by decide +kernel⟩,
   ⟨2, 0xFF, (wPortState 3), by decide +kernel⟩,
   ⟨2, (2 ^ 8 + 2 * 2 ^ 48 + 2 * 2 ^ 52), wPairTraining, by decide +kernel⟩,
   ⟨2, (2 ^ 8 + 5 * 2 ^ 48 + 2 * 2 ^ 52), wPairTraining, by decide +kernel⟩,
   ⟨2, (wPortState 2), by decide +kernel⟩,
   ⟨2, (wPortState 3), by decide +kernel⟩,
   ⟨22, 2, 80, (wPortState 2), by decide +kernel⟩,
   ⟨3, 200, wReady, by decide +kernel⟩,
   ⟨3, 5, wReady, by decide +kernel⟩,
   ⟨44, by decide +kernel⟩,
   ⟨2, (wPortState 3), by decide +kernel⟩,
   ⟨2, (wPortState 5), by decide +kernel⟩,
   ⟨2, wFailedHour, by decide +kernel⟩,
   ⟨2, wLaneQuiet, by decide +kernel⟩,
   ⟨wReady, by decide +kernel⟩,
   ⟨2, (let s := wReady; { s with lat := { s.lat with port := [(2, { LPort.reset with asleep := true })] } }), by decide +kernel⟩,
   ⟨(wReq 65 32 (1 + 2 * 2 ^ 32 + 0xFF * 2 ^ 64)), wReady, by decide +kernel⟩,
   ⟨(wReq 65 32 0), wPool, by decide +kernel⟩,
   ⟨(wReq 65 0 0), wReady, by decide +kernel⟩⟩

/-- The hypotheses of LinkFlits are met together. -/
theorem witness_LinkFlits :
    (∃ (h : FlitHdr) (s : State), (portUp s h.port = true) ∧ (injectHits s 5 h.port = false) ∧ (h.ackv = true) ∧ ((h.ack - oldestSeqOf (latPort s h.port)).toNat < 8192) ∧ (Tab.wf LPort.reset s.lat.port = true)) ∧
    (∃ (h : FlitHdr) (s : State), (portUp s h.port = true) ∧ (injectHits s 5 h.port = false) ∧ (h.ackv = false) ∧ (Tab.wf LPort.reset s.lat.port = true)) ∧
    (∃ (h : FlitHdr) (s : State), (portUp s h.port = true) ∧ (injectHits s 5 h.port = true) ∧ (s.HostWf)) ∧
    (∃ (h : FlitHdr) (s : State), (portUp s h.port = false)) ∧
    (∃ (h : FlitHdr) (s : State), (portUp s h.port = true) ∧ (injectHits s 5 h.port = false) ∧ (h.ackv = true) ∧ ((h.ack - oldestSeqOf (latPort s h.port)).toNat < 8192) ∧ (((latPort s h.port).unacked[(h.ack - oldestSeqOf (latPort s h.port)).toNat + 1]?).map (fun e => e.1) = some (h.ack + 1)) ∧ (Tab.wf LPort.reset s.lat.port = true)) ∧
    (∃ (port : Nat) (s : State), (portUp s port = true) ∧ (Tab.wf LPort.reset s.lat.port = true)) ∧
    (∃ (port : Nat) (s : State), (portUp s port = true) ∧ ((latPort s port).unacked ≠ []) ∧ ((latPort s port).progress + 1000000 ≤ s.clk.wallPs) ∧ ((latPort s port).replays < 7) ∧ (Tab.wf LPort.reset s.lat.port = true)) ∧
    (∃ (port : Nat) (s : State), (portUp s port = true) ∧ ((latPort s port).unacked ≠ []) ∧ ((latPort s port).progress + 1000000 ≤ s.clk.wallPs) ∧ (7 ≤ (latPort s port).replays) ∧ (Tab.wf LPort.reset s.lat.port = true)) ∧
    (∃ (port : Nat) (s : State), ((latPort s port).unacked = [] ∨ s.clk.wallPs < (latPort s port).progress + 1000000)) ∧
    (∃ (port : Nat) (f : Flit) (s : State), (portUp s port = true) ∧ ((latPort s port).resend = []) ∧ (((latPort s port).txSeq - oldestSeqOf (latPort s port)).toNat < 8192) ∧ (slotFlit (latPort s port) = some f) ∧ (Tab.wf LPort.reset s.lat.port = true)) ∧
    (∃ (port : Nat) (s : State), (portUp s port = true) ∧ ((latPort s port).resend = []) ∧ (slotFlit (latPort s port) = none)) ∧
    (∃ (port : Nat) (s : State), (portUp s port = true) ∧ (s.HostWf)) ∧
    (∃ (h : FlitHdr) (beats : List LineIn) (s : State), (InOrder h s) ∧ (h.dst = self s) ∧ (storedWin s h.port h.src (BitVec.ofNat 32 h.xt) = none) ∧ (storeLoad s h.port + beats.length ≤ 32768) ∧ (Tab.wf LPort.reset s.lat.port = true)) ∧
    (∃ (h : FlitHdr) (s : State), (InOrder h s) ∧ (h.dst ≠ self s) ∧ (windowPort s h.dst h.port = none)) ∧
    (∃ (h : FlitHdr) (s : State), (portUp s h.port = true) ∧ (injectHits s 5 h.port = false) ∧ (32768 ≤ (h.seq - (latPort s h.port).expected).toNat) ∧ (Tab.wf LPort.reset s.lat.port = true)) ∧
    (∃ (stamp : BitVec 32) (s : State), (255 < (stampNow s - stamp).toNat) ∧ ((stampNow s - stamp).toNat < 2 ^ 31)) ∧
    (∃ (stamp : BitVec 32) (s : State), ((stampNow s - stamp).toNat ≤ 255)) :=
  ⟨⟨{ wFl 2 with ack := 5, ackv := true }, wUnacked, by decide +kernel⟩,
   ⟨(wFl 2), wUnacked, by decide +kernel⟩,
   ⟨(wFl 2), wInjected, by decide +kernel⟩,
   ⟨(wFl 5), wUnacked, by decide +kernel⟩,
   ⟨{ wFl 2 with ack := 5, ackv := true }, wUnacked, by decide +kernel⟩,
   ⟨2, wUnacked, by decide +kernel⟩,
   ⟨2, (wLate wUnacked), by decide +kernel⟩,
   ⟨2, (wLate (wUnackedAt 7)), by decide +kernel⟩,
   ⟨2, wUnacked, by decide +kernel⟩,
   ⟨2, ⟨1, 0, 0, 0, 0, 0, 7⟩, wQueuedFlit, by decide +kernel⟩,
   ⟨2, wUnacked, by decide +kernel⟩,
   ⟨2, wUnacked, by decide +kernel⟩,
   ⟨(wFl 2), [⟨7, false⟩, ⟨8, true⟩], wPoolLink, by decide +kernel⟩,
   ⟨{ wFl 2 with dst := 3 }, { wPoolLink with lat := { wPoolLink.lat with cfg := { wPoolLink.lat.cfg with shape := 1 } } }, by decide +kernel⟩,
   ⟨{ wFl 2 with seq := 0xFFFF }, wPoolLink, by decide +kernel⟩,
   ⟨(BitVec.ofNat 32 (2 ^ 32 - 300)), wLatIn, by decide +kernel⟩,
   ⟨0, wReady, by decide +kernel⟩⟩

/-- The hypotheses of FabricMessages are met together. -/
theorem witness_FabricMessages :
    (∃ (h : Option FlitHdr) (port : Nat) (msg : Nat) (s : State), (CtrlIn h port s) ∧ (floodNew s msg = true) ∧ (bit1 msg 46 = false)) ∧
    (∃ (h : Option FlitHdr) (port : Nat) (msg : Nat) (s : State), (CtrlIn h port s) ∧ (floodNew s msg = true) ∧ (bit1 msg 46 = true)) ∧
    (∃ (h : Option FlitHdr) (port : Nat) (msg : Nat) (s : State), (CtrlIn h port s) ∧ (floodNew s msg = false)) ∧
    (∃ (h : Option FlitHdr) (port : Nat) (msg : Nat) (s : State), (CtrlIn h port s) ∧ (floodNew s msg = false)) ∧
    (∃ (h : Option FlitHdr) (port : Nat) (msg : Nat) (s : State), (CtrlIn h port s) ∧ (floodNew s msg = true) ∧ (bits msg 32 10 ≠ self s) ∧ (s.lat.lost.contains (bits msg 32 10) = false)) ∧
    (∃ (h : Option FlitHdr) (port : Nat) (msg : Nat) (s : State), (CtrlIn h port s) ∧ (floodNew s msg = true) ∧ (bits msg 18 8 = s.lat.cfg.group) ∧ (s.lat.cfg.group ≠ 0)) ∧
    (∃ (h : Option FlitHdr) (port : Nat) (msg : Nat) (s : State), (CtrlIn h port s) ∧ (floodNew s msg = false)) ∧
    (∃ (h : Option FlitHdr) (port : Nat) (msg : Nat) (s : State), (CtrlIn h port s) ∧ (bits msg 18 8 = s.lat.cfg.group) ∧ (coordinator s = some (self s))) ∧
    (∃ (h : Option FlitHdr) (port : Nat) (msg : Nat) (s : State), (CtrlIn h port s) ∧ (bits msg 18 8 ≠ s.lat.cfg.group)) ∧
    (∃ (h : Option FlitHdr) (port : Nat) (msg : Nat) (s : State), (CtrlIn h port s) ∧ (linkedOn s = true) ∧ (bits msg 18 8 = s.lat.cfg.group) ∧ (coordinator s = some (self s)) ∧ (Tab.wf 0 s.lat.treqs = true)) ∧
    (∃ (h : Option FlitHdr) (port : Nat) (s : State), (CtrlIn h port s) ∧ (linkedOn s = false)) ∧
    (∃ (h : Option FlitHdr) (port : Nat) (msg : Nat) (s : State), (CtrlIn h port s) ∧ (linkedOn s = true) ∧ (bits msg 18 8 = s.lat.cfg.group) ∧ (s.pm.alone = false) ∧ (precedes32 (stampNow s) (BitVec.ofNat 32 (bits msg 64 32)) = true)) ∧
    (∃ (h : Option FlitHdr) (port : Nat) (msg : Nat) (s : State), (CtrlIn h port s) ∧ (linkedOn s = true) ∧ (bits msg 18 8 = s.lat.cfg.group) ∧ (s.pm.alone = false) ∧ (precedes32 (stampNow s) (BitVec.ofNat 32 (bits msg 64 32)) = false)) ∧
    (∃ (h : Option FlitHdr) (port : Nat) (s : State), (CtrlIn h port s) ∧ (linkedOn s = false)) :=
  ⟨⟨none, 2, (1 * 2 ^ 8 + 2 ^ 240), wPairUp, by decide +kernel⟩,
   ⟨none, 2, (1 * 2 ^ 8 + 2 ^ 46 + 2 ^ 240), wPairUp, by decide +kernel⟩,
   ⟨none, 2, 7, wFlooded, by decide +kernel⟩,
   ⟨none, 2, 8, wFloodedLost, by decide +kernel⟩,
   ⟨none, 2, (8 + 2 ^ 8 + 2 ^ 32 + 2 ^ 240), wPairUp, by decide +kernel⟩,
   ⟨none, 2, (6 + 2 ^ 8 + 4 * 2 ^ 18 + 2 ^ 240), wGroup, by decide +kernel⟩,
   ⟨none, 2, 7, wFlooded, by decide +kernel⟩,
   ⟨none, 2, (4 * 2 ^ 18 + 10 * 2 ^ 36), wGroup, by decide +kernel⟩,
   ⟨none, 2, 0, wGroup, by decide +kernel⟩,
   ⟨none, 2, (2 ^ 8 + 4 * 2 ^ 18 + 11 * 2 ^ 32), wGroup, by decide +kernel⟩,
   ⟨none, 2, wReadyLink, by decide +kernel⟩,
   ⟨none, 2, (4 * 2 ^ 18 + 11 * 2 ^ 32 + 9 * 2 ^ 64), wGroup, by decide +kernel⟩,
   ⟨none, 2, (4 * 2 ^ 18 + 11 * 2 ^ 32 + (2 ^ 32 - 5) * 2 ^ 64), wGroup, by decide +kernel⟩,
   ⟨none, 2, wReadyLink, by decide +kernel⟩⟩

/-- The hypotheses of BarrierCommands are met together. -/
theorem witness_BarrierCommands :
    (∃ (s : State), (tickRuns s = true) ∧ (barrierArmed s = true) ∧ (s.clk.frameDone = true) ∧ (nextBoundary s = nextSuper s)) ∧
    (∃ (s : State), (s.clk.held = false) ∧ (barrierArmed s = false)) ∧
    (∃ (s : State), (s.clk.held = true) ∧ (coordinator s ≠ some (self s)) ∧ (arriveReady s = false)) ∧
    (∃ (h : Option FlitHdr) (port : Nat) (msg : Nat) (m : Nat) (s : State), (CtrlIn h port s) ∧ (bits msg 18 8 = s.lat.cfg.group) ∧ (s.lat.standing ≠ .out) ∧ (s.lat.cfg.farOf (self s) port = some m)) ∧
    (∃ (h : Option FlitHdr) (port : Nat) (msg : Nat) (s : State), (CtrlIn h port s) ∧ (bits msg 18 8 ≠ s.lat.cfg.group ∨ s.lat.standing = .out)) ∧
    (∃ (h : Option FlitHdr) (port : Nat) (msg : Nat) (s : State), (CtrlIn h port s) ∧ (bits msg 18 8 = s.lat.cfg.group) ∧ (s.lat.standing ≠ .out) ∧ (s.clk.held = true) ∧ (bit1 msg 80 = false)) ∧
    (∃ (h : Option FlitHdr) (port : Nat) (msg : Nat) (s : State), (CtrlIn h port s) ∧ (bits msg 18 8 = s.lat.cfg.group) ∧ (s.lat.standing = .good) ∧ (s.clk.held = false) ∧ (bit1 msg 80 = true) ∧ (s.lat.cfg.group ≠ 0) ∧ (s.fw.vet ≠ 1)) ∧
    (∃ (r : Release) (s : State), (s.lat.release = some r) ∧ (s.clk.held = true) ∧ (s.clk.pll = true) ∧ (s.clk.stopped = false)) ∧
    (∃ (s : State), (s.lat.release = none)) ∧
    (∃ (s : State), (s.clk.held = true) ∧ (s.lat.arriveSent = true) ∧ (s.lat.release = none) ∧ (s.lat.standing = .good) ∧ (coordinator s = some (self s))) ∧
    (∃ (s : State), (s.clk.held = false)) ∧
    (∃ (s : State), (s.clk.held = true) ∧ (s.lat.release = none) ∧ (s.lat.cfg.group ≠ 0) ∧ (s.fw.vet ≠ 1) ∧ (s.clk.pll = true) ∧ (s.clk.stopped = false)) ∧
    (∃ (s : State), (s.clk.held = false)) ∧
    (∃ (s : State), (s.clk.held = true) ∧ (s.lat.standing = .joining) ∧ (s.lat.release = none) ∧ (((rangeFrom 0 12).filter fun p => (latPort s p).state != 0).all (portUp s) = true) ∧ ((s.lat.members ++ s.lat.joiners).all (fun m => decide (self s < m)) = true)) ∧
    (∃ (s : State), (s.lat.standing = .good)) ∧
    (∃ (q : MciReq) (s : State), (Serves 0x0603 (q.plen == 8) (reservedClear (mciParams q) [(0, 3), (3, 1), (4, 24), (28, 4), (32, 4)] && policyOk (policyOf (mciParams q))) q s) ∧ (coordinator s = some (self s))) :=
  ⟨⟨wNearBarrier, by decide +kernel⟩,
   ⟨wReady, by decide +kernel⟩,
   ⟨{ wHeldGroup with lat := { wHeldGroup.lat with standing := .joining, arriveSent := true } }, by decide +kernel⟩,
   ⟨none, 2, (4 * 2 ^ 18 + 2 ^ 80), 1, wGroup, by decide +kernel⟩,
   ⟨none, 2, 0, wGroup, by decide +kernel⟩,
   ⟨none, 2, (4 * 2 ^ 18 + 5 * 2 ^ 32), wHeldGroup, by decide +kernel⟩,
   ⟨none, 2, (4 * 2 ^ 18 + 5 * 2 ^ 32 + 2 ^ 80), wGroup, by decide +kernel⟩,
   ⟨⟨0, false, true, false, 0, 0, Policy.reset⟩, { wHeldGroup with lat := { wHeldGroup.lat with release := some ⟨0, false, true, false, 0, 0, Policy.reset⟩ } }, by decide +kernel⟩,
   ⟨wGroup, by decide +kernel⟩,
   ⟨{ wHeldGroup with lat := { wHeldGroup.lat with arriveSent := true } }, by decide +kernel⟩,
   ⟨wGroup, by decide +kernel⟩,
   ⟨wHeldGroup, by decide +kernel⟩,
   ⟨wGroup, by decide +kernel⟩,
   ⟨{ wHeldGroup with lat := { wHeldGroup.lat with standing := .joining, members := [], joiners := [1] } }, by decide +kernel⟩,
   ⟨wGroup, by decide +kernel⟩,
   ⟨(wReq 65 8 (8 + 16 * 100 + 3 * 2 ^ 32)), wReady, by decide +kernel⟩⟩

/-- The hypotheses of PowerControl are met together. -/
theorem witness_PowerControl :
    (∃ (s : State), (pmRuns s = true)) ∧
    (∃ (s : State), (pmRuns s = false)) ∧
    (∃ (s : State), (pmRuns s = true) ∧ (s.pm.braked = false)) ∧
    (∃ (s : State), (pmRuns s = true) ∧ (s.pm.braked = true)) ∧
    (∃ (s : State), (s.pins.pwrbrk = false) ∧ (s.boot.pm ≠ .off) ∧ (s.clk.stopped = false) ∧ (pmRuns s = true) ∧ (linkedOn s = false)) ∧
    (∃ (s : State), (s.pins.pwrbrk = false) ∧ (s.boot.pm ≠ .off) ∧ (s.clk.stopped = false) ∧ (pmRuns s = true) ∧ (linkedOn s = true)) ∧
    (∃ (s : State), (s.pins.pwrbrk = false) ∧ (s.boot.pm ≠ .off) ∧ (s.clk.stopped = false) ∧ (pmRuns s = false) ∧ (linkedOn s = false)) ∧
    (∃ (s : State), (s.pins.pwrbrk = false) ∧ (s.boot.pm ≠ .off) ∧ (s.clk.stopped = true)) ∧
    (∃ (s : State), (s.pins.pwrbrk = true)) ∧
    (∃ (s : State), (s.pins.pwrbrk = true) ∧ (s.pm.counted = true)) ∧
    (∃ (s : State), (s.pins.pwrbrk = true) ∧ (s.pm.counted = false)) ∧
    (∃ (n : Nat) (s : State), (n < 16) ∧ ((tileAt s n).vddt = true) ∧ (Tab.get 0 s.pm.overLast n = 0) ∧ (s.ctl.faultQ.length < 256) ∧ (s.HostWf)) ∧
    (∃ (n : Nat) (s : State), (n < 16) ∧ ((tileAt s n).vddt = true) ∧ (Tab.get 0 s.pm.overLast n ≠ 0) ∧ (s.clk.wallPs + 1 < Tab.get 0 s.pm.overLast n + 1000000000000) ∧ (s.HostWf)) ∧
    (∃ (n : Nat) (s : State), (n < 16) ∧ ((tileAt s n).vddt = true) ∧ (Tab.wf Tile.reset s.tiles.tile = true) ∧ (Tab.wf 2 s.fmap.pendCluster = true)) ∧
    (∃ (n : Nat) (s : State), ((tileAt s n).vddt = false)) :=
  ⟨⟨wReady, by decide +kernel⟩,
   ⟨wHeld, by decide +kernel⟩,
   ⟨wReady, by decide +kernel⟩,
   ⟨{ wReady with pm := { wReady.pm with braked := true } }, by decide +kernel⟩,
   ⟨wReady, by decide +kernel⟩,
   ⟨wGroup, by decide +kernel⟩,
   ⟨{ wReady with boot := { wReady.boot with pm := .bootRom } }, by decide +kernel⟩,
   ⟨{ wReady with clk := { wReady.clk with stopped := true } }, by decide +kernel⟩,
   ⟨{ wReady with pins := { wReady.pins with pwrbrk := true } }, by decide +kernel⟩,
   ⟨{ wReady with pins := { wReady.pins with pwrbrk := true }, pm := { wReady.pm with counted := true, braked := true, brakeStart := 10 }, clk := { wReady.clk with wallPs := 10 ^ 9 } }, by decide +kernel⟩,
   ⟨{ wReady with pins := { wReady.pins with pwrbrk := true } }, by decide +kernel⟩,
   ⟨3, (wTile { Tile.reset with vddt := true }), by decide +kernel⟩,
   ⟨3, (let s := wTile { Tile.reset with vddt := true }; { s with pm := { s.pm with overLast := [(3, 1)] } }), by decide +kernel⟩,
   ⟨3, (wTile { Tile.reset with vddt := true, trst := true, step := .ready }), by decide +kernel⟩,
   ⟨3, wReady, by decide +kernel⟩⟩

/-- The hypotheses of SensorsIdleAndQueries are met together. -/
theorem witness_SensorsIdleAndQueries :
    (∃ (n : Nat) (s : State), (n < 128) ∧ (s.boot.pm ≠ .off) ∧ (injectHits s 7 n = false) ∧ (Tab.wf Sensor.reset s.pm.sensors = true)) ∧
    (∃ (n : Nat) (s : State), (n < 128) ∧ (s.boot.pm ≠ .off) ∧ (injectHits s 7 n = true) ∧ (Tab.wf Sensor.reset s.pm.sensors = true)) ∧
    (∃ (s : State), (s.boot.pm = .off)) ∧
    (∃ (k : Nat) (n : Nat) (s : State), (k < 4) ∧ (pmRuns s = true) ∧ (nextIdle s k = some n) ∧ (exitFits s k n = true) ∧ (s.PlaneWf) ∧ (Tab.wf Stack.reset s.hbm.stack = true)) ∧
    (∃ (k : Nat) (s : State), (nextIdle s k = none)) ∧
    (∃ (k : Nat) (n : Nat) (s : State), (nextIdle s k = some n) ∧ (exitFits s k n = false)) ∧
    (∃ (k : Nat) (s : State), (exitOver s k = true) ∧ (s.PlaneWf)) ∧
    (∃ (k : Nat) (s : State), ((part s k).exiting = false)) ∧
    (∃ (q : MciReq) (s : State), (Serves 0x0801 (q.plen == 8) (reservedClear (mciParams q) [(0, 11), (16, 3)] && (decide (500 ≤ bits (mciParams q) 0 11) && decide (bits (mciParams q) 0 11 ≤ 1500))) q s)) ∧
    (∃ (q : MciReq) (s : State), (Serves 0x0802 (q.plen == 0) (reservedClear (mciParams q) [] && true) q s)) ∧
    (∃ (q : MciReq) (s : State), (Serves 0x0803 (q.plen == 8) (reservedClear (mciParams q) [(0, 32)] && true) q s) ∧ (s.HostWf)) ∧
    (∃ (q : MciReq) (s : State), (Serves 0x0804 (q.plen == 8) (reservedClear (mciParams q) [(0, 2), (4, 4)] && (bits (mciParams q) 0 2 != 3)) q s)) :=
  ⟨⟨5, wReady, by decide +kernel⟩,
   ⟨2, { wInjected with regs := { wInjected.regs with dbgKind := 7 } }, by decide +kernel⟩,
   ⟨wOff, by decide +kernel⟩,
   ⟨0, 1, wIdle, by decide +kernel⟩,
   ⟨0, wReady, by decide +kernel⟩,
   ⟨0, 2, wIdleBound, by decide +kernel⟩,
   ⟨0, wExiting, by decide +kernel⟩,
   ⟨0, wIdle, by decide +kernel⟩,
   ⟨(wReq 65 8 (700 + 2 ^ 16 + 2 ^ 17)), wReady, by decide +kernel⟩,
   ⟨(wReq 1 0 0), wReady, by decide +kernel⟩,
   ⟨(wReq 3 8 1000), wReady, by decide +kernel⟩,
   ⟨(wReq 65 8 (1 + 3 * 16)), wReady, by decide +kernel⟩⟩

/-- The range of RimRouters is met at both of its ends. -/
theorem witness_RimRouters :
    (0 < 128 ∧ edgeAttachment (routerAt 0 0) = some (hbmAttachment 0)) ∧
    (127 < 128 ∧ edgeAttachment (routerAt 127 127) = some (hbmAttachment 7)) := by decide +kernel

/-- The hypotheses of Perst1AndPerst are met together. -/
theorem witness_Perst1AndPerst :
    (∃ (s : State), (s.pins.standby = true) ∧ (s.pins.perst = true) ∧ (s.pins.perst1 = true)) ∧
    (∃ (s : State), (s.pins.standby = true) ∧ (s.pins.perst = false) ∧ (s.pins.perst1 = false)) :=
  ⟨⟨{ wHeld with pins := { wHeld.pins with perst1 := true } }, by decide +kernel⟩,
   ⟨wReady, by decide +kernel⟩⟩

/-- The hypotheses of WakeLatency are met together. -/
theorem witness_WakeLatency :
    (∃ (q : MciReq) (s : State), (mciServed s q.who = true) ∧ (mciRefusal s 0x0803 true true q = none) ∧ (q.plen = 8) ∧ (bits (mciParams q) 32 32 = 0) ∧ (s.HostWf)) ∧
    (∃ (q : MciReq) (s : State), (mciServed s q.who = true) ∧ (mciRefusal s 0x0803 true true q = none) ∧ (q.plen = 8) ∧ (bits (mciParams q) 32 32 ≠ 0)) ∧
    (∃ (fn : Nat) (s : State), (fn ≤ 64) ∧ (s.HostWf)) ∧
    (∃ (q : MciReq) (s : State), (mciServed s q.who = true) ∧ (mciRefusal s 0x0A01 true true q = none) ∧ (q.plen = 8) ∧ ((mciParams q) = 1)) ∧
    (∃ (s : State), (s.pins.standby = true) ∧ (s.pins.perst = false)) ∧
    (∃ (s : State), (s.pins.perst = true) ∧ (canStart s = true)) :=
  ⟨⟨(wReq 3 8 1000), wReady, by decide +kernel⟩,
   ⟨(wReq 3 8 (1000 + 2 ^ 40)), wReady, by decide +kernel⟩,
   ⟨3, wReady, by decide +kernel⟩,
   ⟨(wReq 65 8 1), wReady, by decide +kernel⟩,
   ⟨wReady, by decide +kernel⟩,
   ⟨wHeld, by decide +kernel⟩⟩

/-- A state with an empty queue, for StepRunsFront. -/
theorem witness_StepRunsFront : wReady.pending = [] := by decide +kernel

/-- A step that answers, in canonical memories, for StepKeepsMemory. -/
theorem witness_StepKeepsMemory : wReady.MemWf ∧ wReady.LinesHeld ∧ ∃ t, step { wReady with pending := [.perst1Assert] } = .next t :=
  ⟨by decide +kernel, by decide +kernel, _, rfl⟩

/-- A step that answers, in canonical tables, for StepKeepsTables. -/
theorem witness_StepKeepsTables : wReady.TabsWf ∧ ∃ t, step { wReady with pending := [.perst1Assert] } = .next t :=
  ⟨by constructor <;> decide +kernel, _, rfl⟩

/-- Commands outside every list, for OnlyTheseStore. -/
theorem witness_OnlyTheseStore :
    mayStoreBuffer .barrierTimeout = false ∧ mayStoreHbm .crumb = false ∧ mayChangeLines .crumb = false ∧
    maySwitchWindows .crumb = false ∧ maySwitchLayout .barrierTimeout = false ∧ ∃ t, exec .barrierTimeout wReady = .next t :=
  ⟨rfl, rfl, rfl, rfl, rfl, _, rfl⟩


/-! Ill-formed commands: a term for each check, which the check refuses. -/

def badDrive : DriveIn := ⟨8, none, 0⟩
def eFar : EvRef := ⟨16384, 0, 0⟩
def lFar : LineIn := ⟨0, false⟩
def badPkt : PktIn := ⟨65536, 0, 0, none, 0, 0⟩
def badCell : CellTrain := ⟨1024, [], false⟩
def badStitch : StitchTrain := ⟨128, 0, [], false⟩
def badLink : LinkTrain := ⟨256, 0, [], false⟩
def badChannel : ChannelTrain := ⟨16, [], true⟩
def badCal : CalIn := ⟨0, [], false, 0, 0, 0, false⟩
def badNoise : LinkNoise := ⟨7, 0⟩
def aSite : SiteObs := ⟨0, 0, 1, 0⟩
/-- Each check inside a part of an operand refuses a term of its own. -/
theorem test_ill_formed_parts :
    ([wReq 66 0 0, wReq 255 0 0, { wReq 0 0 0 with ver := 256 }, { wReq 0 0 0 with tag := 2 ^ 24 }, wReq 0 4081 0, wReq 0 1 256].map
        MciReq.wf ++
      [wFl 12, { wFl 0 with vc := 7 }, { wFl 0 with cvc := 7 }, { wFl 0 with crd := 64 }, { wFl 0 with src := 1024 },
        { wFl 0 with dst := 1024 }, { wFl 0 with hops := 16 }, { wFl 0 with xt := 2 ^ 32 }].map FlitHdr.wf ++
      [{ wUn 0 [] with tag := 2 ^ 24 }, { wUn 0 [] with region := 4096 }, { wUn 0 [] with off := 2 ^ 48 },
        { wUn 0 [] with status := 65536 }, { wUn 0 [] with nl := 4 }, wUn 0 [lFar]].map UnschIn.wf ++
      [badPkt, { badPkt with reason := 0, sev := 8 }].map PktIn.wf ++
      [badStitch, { badStitch with column := 0, dir := 2 }, { badStitch with column := 0, obs := [⟨272, 0⟩] }].map StitchTrain.wf ++
      [badLink, { badLink with node := 0, dir := 4 }, { badLink with node := 0, obs := [⟨38, 0⟩] }].map LinkTrain.wf ++
      [{ aSite with role := 4 }, { aSite with site := 282 }, { aSite with path := 0 }, { aSite with path := 6 }].map SiteObs.wf ++
      [badCal, { badCal with unit := 256 }].map CalIn.wf ++
      [badDrive.wf, badCell.wf, eFar.wf, badChannel.wf, badNoise.wf]).all (fun b => !b) = true := by decide

theorem test_ill_formed_0 :
    ([.inputOutOfRange 9,
      .thermalTrip 128,
      .deviceReady [badDrive],
      .portReset 2,
      .moduleReset (wReq 66 0 0),
      .refreshTimer 256,
      .refreshLane 256 0,
      .refreshLane 0 512,
      .readWindowCell 256 0 0,
      .readWindowCell 0 512 0,
      .writeWindowCell 256 0,
      .writeWindowCell 0 512,
      .rowSwitchGap 256 0,
      .rowSwitchGap 0 512,
      .eventLink ⟨16384, 0, 0⟩ [],
      .eventLink ⟨0, 0, 0⟩ [badNoise],
      .beatDiscard 16384 0,
      .beatDiscard 0 11,
      .scheduledRead ⟨16384, 0, 0⟩,
      .scheduledWrite ⟨16384, 0, 0⟩,
      .indexLoad ⟨16384, 0, 0⟩,
      .gather ⟨16384, 0, 0⟩,
      .scatter ⟨16384, 0, 0⟩,
      .dispatch ⟨16384, 0, 0⟩] : List Instr).all
      (fun i => !i.wf) = true := by decide

theorem test_ill_formed_1 :
    ([.dispatchResultWrite 16384 [],
      .foldStep ⟨16384, 0, 0⟩,
      .rng ⟨16384, 0, 0⟩,
      .update ⟨16384, 0, 0⟩,
      .branchRead 4,
      .frameBudgetExhausted 4,
      .hostTransferBeat 4 0 0,
      .hostReadData 4 0 0 0 0 false,
      .descriptorBeat 16384,
      .residualReturn 12,
      .compressedRecordHandover 12,
      .latticeWindowEntry 4 0 0,
      .latticeWindowPresent 4 0 0,
      .sliceRd 0 [2 ^ 32],
      .sliceWr 0 [2 ^ 32],
      .controlPortCommit 16384,
      .scrubVisit 16384,
      .controlWordParityError 256 0 false,
      .controlWordParityError 0 4 false,
      .packetAgeing 256 0 [] 0,
      .packetAgeing 0 4 [] 0,
      .packetAgeing 0 0 [] 4097,
      .telemetryInject 4096 0 0 none,
      .telemetryInject 0 0 0 (some badPkt)] : List Instr).all
      (fun i => !i.wf) = true := by decide

theorem test_ill_formed_2 :
    ([.faultPacket (some badPkt),
      .eventPacket (some badPkt),
      .socketStatus 16384 0,
      .unreservedUpBeat 16384 idleBeat,
      .helloRetry 16,
      .ident 16 [],
      .discoveryAck 16 [],
      .bootDone 16 [],
      .spares 16 [],
      .tileError 16 [],
      .discoveryTimeout 16,
      .tileSensorFrame 16 [] 0,
      .bondTrainingDone 16 [],
      .bondTrainingDone 0 [badCell],
      .stitchTrainingDone [badStitch] [] [],
      .stitchTrainingDone [] [badLink] [],
      .stitchRetrain [badStitch],
      .tileRediscovery 16 0,
      .tileRediscovery 0 1024,
      .partitionRelease 4,
      .hbmTraining 8 false [],
      .hbmTraining 0 false [badChannel],
      .autonomousRefresh 256,
      .unscheduledAccess 256 0] : List Instr).all
      (fun i => !i.wf) = true := by decide

theorem test_ill_formed_3 :
    ([.correctedWriteback 256,
      .patrolScrub 256 0,
      .hbmSoftRepair 256 0 false,
      .hbmSoftRepair 0 1179648 false,
      .hbmTempSample 8 0,
      .driveCommandComplete 8 0 0 0 false,
      .driveCommandAbort 8 0 0,
      .driveFailed 8,
      .drivePresenceLoss 8,
      .ringDoorbell 65 0 0 false,
      .ringDoorbell 0 4 0 false,
      .cqHeadDoorbell 65 0 0,
      .cqHeadDoorbell 0 4 0,
      .flushRequest 65 0,
      .flushRequest 0 4,
      .flushEffect 65 0 0,
      .flushEffect 0 4 0,
      .ringFetch 65 0 [] [],
      .ringFetch 0 4 [] [],
      .ringEnable 65 0,
      .ringEnable 0 4,
      .ringDisable 65 0 0,
      .ringDisable 0 4 0,
      .nop 65 0] : List Instr).all
      (fun i => !i.wf) = true := by decide

theorem test_ill_formed_4 :
    ([.nop 0 4,
      .stageStart 65 [],
      .stageComplete 65,
      .poolItem 65,
      .mciItem 65 0 [],
      .mciItem 0 0 [badDrive],
      .runComplete 65 0 0,
      .runComplete 0 4 0,
      .interruptTimer 65 0,
      .interruptTimer 0 4,
      .functionLevelReset 65,
      .prioWrite 65 0 0,
      .prioWrite 0 3 0,
      .mailboxGo [badDrive],
      .counterLowRead 65 0 0,
      .counterLowRead 0 (2 ^ 25) 0,
      .counterLowRead 0 0 65,
      .attentionEnableWrite 65 0 0,
      .attentionEnableWrite 0 4 0,
      .registerWrite 65 0 0 0,
      .registerWrite 0 (2 ^ 25) 0 0,
      .registerWrite 0 0 65 0,
      .mciInfo (wReq 66 0 0),
      .mpReset (wReq 66 0 0)] : List Instr).all
      (fun i => !i.wf) = true := by decide

theorem test_ill_formed_5 :
    ([.notifySubscribe (wReq 66 0 0),
      .clockCorrelate (wReq 66 0 0),
      .fwInfo (wReq 66 0 0),
      .fwWrite (wReq 66 0 0) 0,
      .fwVerify (wReq 66 0 0),
      .fwActivate (wReq 66 0 0),
      .fwCommit (wReq 66 0 0),
      .keyInstall (wReq 66 0 0),
      .keyRemove (wReq 66 0 0),
      .keyList (wReq 66 0 0),
      .imagePolicy (wReq 66 0 0),
      .vetReport (wReq 66 0 0),
      .vetAccept (wReq 66 0 0),
      .vetRevoke (wReq 66 0 0),
      .imageLoad (wReq 66 0 0),
      .imageLoadDone 8 0 0,
      .imageBind (wReq 66 0 0),
      .bindEffect 4,
      .imageUnbind (wReq 66 0 0),
      .unbindEffect 4,
      .imageEvict (wReq 66 0 0),
      .imageQuery (wReq 66 0 0),
      .partitionSetLayout (wReq 66 0 0),
      .partitionQuery (wReq 66 0 0)] : List Instr).all
      (fun i => !i.wf) = true := by decide

theorem test_ill_formed_6 :
    ([.partitionReset (wReq 66 0 0),
      .partitionResetEffect 4,
      .bufferScrub (wReq 66 0 0),
      .laneTest (wReq 66 0 0),
      .laneQuery (wReq 66 0 0),
      .hbmAssign (wReq 66 0 0),
      .hbmQuery (wReq 66 0 0),
      .denseAttach (wReq 66 0 0) [],
      .denseAttach (wReq 0 0 0) [badDrive],
      .denseFlush (wReq 66 0 0),
      .denseQuery (wReq 66 0 0),
      .prioritySet (wReq 66 0 0),
      .windowWrite (wReq 66 0 0),
      .windowSwitch (wReq 66 0 0),
      .windowQuery (wReq 66 0 0),
      .poolRegionCreate (wReq 66 0 0),
      .poolRegionReplace (wReq 66 0 0),
      .poolRegionDelete (wReq 66 0 0),
      .regionDeleteComplete 4096,
      .poolAccessSet (wReq 66 0 0),
      .poolQuery (wReq 66 0 0),
      .latticeConfig (wReq 66 0 0),
      .latticeQuery (wReq 66 0 0),
      .barrierPolicy (wReq 66 0 0)] : List Instr).all
      (fun i => !i.wf) = true := by decide

theorem test_ill_formed_7 :
    ([.powerCapSet (wReq 66 0 0),
      .powerQuery (wReq 66 0 0),
      .wakeLatencySet (wReq 66 0 0),
      .sensorQuery (wReq 66 0 0),
      .eventRead (wReq 66 0 0),
      .errlogRead (wReq 66 0 0),
      .errlogClear (wReq 66 0 0),
      .counterRead (wReq 66 0 0),
      .counterClear (wReq 66 0 0),
      .faultMapQuery (wReq 66 0 0),
      .replacementQuery (wReq 66 0 0),
      .replacementClear (wReq 66 0 0),
      .mctpControl 3 0 0 0,
      .mctpControl 0 0 256 0,
      .mctpControl 0 0 0 256,
      .spdmRequest 5 0 0 0,
      .spdmRequest 0 256 0 0,
      .spdmRequest 0 0 7 0,
      .mpBoot [badCal],
      .cxlMemRead 4096 0 none 0,
      .cxlMemRead 0 65536 none 0,
      .cxlMemRead 0 0 (some 4096) 0,
      .cxlMemWrite 4096 0 none 0 0 false,
      .cxlMemWrite 0 65536 none 0 0 false] : List Instr).all
      (fun i => !i.wf) = true := by decide

theorem test_ill_formed_8 :
    ([.cxlMemWrite 0 0 (some 4096) 0 0 false,
      .poolMailboxCommand 4096 0 0,
      .poolMailboxCommand 0 8 0,
      .flushTokenComplete 4096,
      .flushTokenTimeout 4096,
      .leaseExpiry 4096,
      .memberLoss 4096 0,
      .rebuildStep 4096,
      .unitZeroFill 8192,
      .portTrainingDone 12 0 0,
      .linkId 12 0,
      .portRetrain 12,
      .retrainTimeout 12,
      .trainingRetry 12,
      .idleFlit (wFl 12),
      .nak (wFl 12),
      .win (wFl 12) 0 0 [],
      .ureqRead (wFl 12) (wUn 0 []),
      .ureqRead (wFl 0) { wUn 0 [] with region := 4096 },
      .ureqWrite (wFl 12) (wUn 0 []),
      .ureqWrite (wFl 0) { wUn 0 [] with region := 4096 },
      .ureqDelta (wFl 12) (wUn 0 []),
      .ureqDelta (wFl 0) { wUn 0 [] with region := 4096 },
      .ureqRebuild (wFl 12) (wUn 0 [])] : List Instr).all
      (fun i => !i.wf) = true := by decide

theorem test_ill_formed_9 :
    ([.ureqRebuild (wFl 0) { wUn 0 [] with region := 4096 },
      .ureqCmd (wFl 12) (wUn 0 []),
      .ureqCmd (wFl 0) { wUn 0 [] with region := 4096 },
      .ureqTable (wFl 12) (wUn 0 []),
      .ureqTable (wFl 0) { wUn 0 [] with region := 4096 },
      .ureqToken (wFl 12) (wUn 0 []),
      .ureqToken (wFl 0) { wUn 0 [] with region := 4096 },
      .ursp (wFl 12) 0 (wUn 0 []),
      .ursp (wFl 0) 0 { wUn 0 [] with region := 4096 },
      .ureqRepeat 1024 0,
      .ureqRepeat 0 65536,
      .ackIdleTimer 12,
      .replayTimeout 12,
      .flitSlot 12,
      .arrive (some (wFl 12)) 0 0,
      .arrive none 12 0,
      .release (some (wFl 12)) 0 0,
      .release none 12 0,
      .treq (some (wFl 12)) 0 0,
      .treq none 12 0,
      .tset (some (wFl 12)) 0 0,
      .tset none 12 0,
      .join (some (wFl 12)) 0 0,
      .join none 12 0] : List Instr).all
      (fun i => !i.wf) = true := by decide

theorem test_ill_formed_10 :
    ([.linkFail (some (wFl 12)) 0 0,
      .linkFail none 12 0,
      .lost (some (wFl 12)) 0 0,
      .lost none 12 0,
      .policy (some (wFl 12)) 0 0,
      .policy none 12 0,
      .windowAgeOut 12 0 0,
      .laneSleep 12,
      .laneWake 12,
      .sensorSample 128 0,
      .tileOvercurrent 16,
      .tileShutdown 16,
      .idleStateEntry 4,
      .idleExitComplete 4,
      .elasticOverflow 44 0,
      .elasticOverflow 0 98,
      .flitCrcFailure 12 false,
      .configurationRequest 2 0 false false,
      .configurationRequest 0 65 false false,
      .laneTestComplete 0 [badCell] [] [],
      .laneTestComplete 0 [] [badStitch] [],
      .vddtReached 16] : List Instr).all
      (fun i => !i.wf) = true := by decide


/-! Small checks. Every expected value is one that the spec writes out, in a worked example or a table; the comment names it. -/

/-- Worked example of "The Mykin stack": router (70, 40), tile T12 turned by 3, cell (23, 6), control node (8, 5). -/
theorem test_location : routerAt 70 40 = 5190 ∧ tileOf 5190 = 6 ∧ tileOrientation 6 = 3 ∧ cellOfRouter 5190 = (23, 6) ∧
    controlNode 5190 = 16 * 5 + 8 ∧ tileCell 6 23 6 = 5190 := by decide
/-- The same example: pseudo-channel 7 of H5 and the two latencies. -/
theorem test_transfer : homeRim 167 = routerAt 39 127 ∧ hops (routerAt 39 127) 5190 = 118 ∧
    hopLatency (hops (routerAt 39 127) 5190) = 124 ∧ hopLatency (hops 5190 (routerAt 0 40)) = 76 := by decide
/-- Worked example of "Mesh and buffer": both views. -/
theorem test_buffer_views : bufLocate 0x40400000 = ⟨0, 4, 0⟩ ∧ bufLocate (0x40000000 + 0x400080) = ⟨2, 4, 0⟩ ∧
    bufLocate 0x18000 = ⟨2, 0, 0⟩ ∧ bufLocate 0x18100 = ⟨2, 4, 0⟩ := by decide
/-- Worked example of "Clocks, ticks and frames": the three settings against the floor d = 2, K = 9. -/
theorem test_floors : aboveFloor (mkSetting 1 4) (mkSetting 2 9) = true ∧ aboveFloor (mkSetting 2 2) (mkSetting 2 9) = false ∧
    aboveFloor (mkSetting 2 17) (mkSetting 2 9) = true ∧ aboveFloor (mkSetting 3 0) (mkSetting 2 9) = false := by decide
/-- Worked example of "Scope": 8,192 ticks at d = 2, K = 17 hold at most 512 Crumbs. -/
theorem test_crumbs : crumbsIn (mkSetting 2 17) 15 8192 = 512 ∧ periodPs (mkSetting 2 17) = 1250 := by decide
/-- Worked example of "Power and heat": the settings of Table 16.10. -/
theorem test_selection : [59904, 17294, 20480, 24576, 28672, 32768, 36864, 40960, 45056, 49152, 53248, 57344].map selectSetting =
    [mkSetting 1 11, mkSetting 2 2, mkSetting 3 16, mkSetting 2 4, mkSetting 2 8, mkSetting 1 2, mkSetting 1 2, mkSetting 1 2,
      mkSetting 1 3, mkSetting 1 4, mkSetting 1 5, mkSetting 1 8] := by decide +kernel
/-- The same example: 5.5 degrees above 95 lower q_th to 59,904; a sensor's neighbours have the median 92.0. -/
theorem test_thermal_rate : thermalRate 65536 1608 = 59904 ∧ median2 [1496, 1448, 1408, 1512] = some 2944 := by decide
/-- Table 15.2, the test vector of key 0 and counter 0. -/
theorem test_rng_vector : mkRng 0 0 = 0x91A1BC56E7E0759A7E1611403CDC289A#128 := by decide +kernel
/-- Worked example of "Training support": the counter of router 261. -/
theorem test_rng_counter : rngCounter 0 261 100 3 1 7 = 0x000000000000000700040000_0C190105#128 := by decide +kernel
/-- The same example: stochastic rounding of 1 + 2^-8 with two draws. -/
theorem test_stochastic : bf16Sr 0x3F808000#32 0x9A#8 = 0x3F81#16 ∧ bf16Sr 0x3F808000#32 0x28#8 = 0x3F80#16 := by decide +kernel
/-- The same example: one optimizer step at router 261 (parameter line of ETA 2^-4, WD +0, GSCALE 2^-10). -/
theorem test_update_step :
    updStep (7 + 0x3D800000 * 2 ^ 64 + 0x3A800000 * 2 ^ 128) 0x3F800000#32 0x3F800000#32 = 0x3F7FFC00#32 := by decide +kernel
/-- Worked example of "Sprinkle and Fold": 1 + 2^-8 is halfway and rounds to the even 0x3F80, three chained additions to 0x3F82. -/
theorem test_fold_rounding : bf16Rne (fpAdd 0x3F800000#32 0x3B800000#32) = 0x3F80#16 ∧
    bf16Rne (fpAdd (fpAdd (fpAdd 0x3F800000#32 0x3B800000#32) 0x3B800000#32) 0x3B800000#32) = 0x3F82#16 := by decide +kernel
def signBlock : List DenseBeat :=
  (rangeFrom 0 8).map fun i => ⟨i, 0, Beat.of (BitVec.ofNat 512 ((2 ^ 512 - 1) / (2 ^ 32 - 1) * 0xBE803F00)) false⟩
/-- The same example: the block of 0.5 and -0.25 has scale 0x3EC0_0000 and sign bytes 0xAA, in 36 bytes. -/
theorem test_sign_record : (blockSe 0 signBlock) = 0x3EC00000#32 ∧ blockRecord ⟨2, 0, false, 0, 1, false⟩ signBlock % 256 = 0xAA ∧
    residElem ⟨2, 0, false, 0, 1, false⟩ [] (some 0x3EC00000#32) signBlock 0 = 0x3E00#32 := by decide +kernel
/-- Table 7.16: the dispatch of class 0x21 at tick 1,000 reads lines 100 to 103 and writes lines 108 and 109. -/
theorem test_dispatch_ticks : dispatchDues 1000 5190 100 ⟨0x21, 40, 0x2044⟩ =
    [⟨1001, .dispRead 5190 100⟩, ⟨1002, .dispRead 5190 101⟩, ⟨1003, .dispRead 5190 102⟩, ⟨1004, .dispRead 5190 103⟩,
      ⟨1040, .dispWrite 5190 108⟩, ⟨1041, .dispWrite 5190 109⟩] := by decide
/-- Table 8.9: the same class at half width. -/
theorem test_half_width_ticks : dispatchHalfDues 1000 5190 100 ⟨0x21, 40, 0x2044⟩ =
    [⟨1001, .dispRead 5190 100⟩, ⟨1003, .dispRead 5190 101⟩, ⟨1005, .dispRead 5190 102⟩, ⟨1007, .dispRead 5190 103⟩,
      ⟨1045, .dispWrite 5190 108⟩, ⟨1047, .dispWrite 5190 109⟩] := by decide
/-- Worked example of "Lane repair": logical lane 130 on physical lane 136, 12 failures leave half width. -/
theorem test_stitch_lanes :
    physicalLane (bundleKind (stitchBundle 100 0)) [3, 17, 45, 46, 90, 120, 150, 151, 200, 233, 265, 270] true 130 = some 136 ∧
    widthCode (stitchBundle 100 0) 12 = 1 ∧ widthCode (stitchBundle 100 1) 4 = 2 ∧ widthCode (bondBundle 6 0 0) 23 = 1 := by decide +kernel
/-- Worked example of "Tile socket": the beacon codes BN, BE, BS, BW from the east group on mean orientation 3. -/
theorem test_beacons : beaconOrientation [3, 0, 1, 2] = some 3 ∧ tileOrigin 6 = (64, 32) ∧ tileCell 6 31 0 = routerAt 64 32 ∧
    tileCell 6 2 17 = routerAt 81 61 ∧ tileCell 6 20 10 = routerAt 74 43 := by decide
/-- Worked example of "HBM and dense tier": ADDR 0x0020_0100 is stripe 24,580 of unit 3. -/
theorem test_hbm_addr : addrStripe 0x200100 = 24580 ∧ addrLine 0x200100 = 0 ∧ unitOfStripe 24580 = 3 := by decide
def wEight : State := { wReady with dense := { wReady.dense with
  units := 4, attached := (rangeFrom 0 8).map fun d => (d, 0), perDrive := 262144 * 4 } }
/-- The same example: block 1,000,000 with four CACHE units and eight drives. -/
theorem test_dense_block : Machine.setOf wEight 1000000 = 18880 ∧ tagOf wEight 1000000 = 15 ∧ driveAt wEight 1000000 = 2 ∧
    lbaOf wEight 1000000 = 124992 := by decide +kernel
/-- Worked example of "Schedule contract": class 2 at the floor d = 2, K = 9 passes with four lanes, fails with three. -/
theorem test_refresh_lanes : debtFails (mkSetting 2 9) 2 [0, 1024, 2048, 3072] = none ∧
    (debtFails (mkSetting 2 9) 2 [0, 1024, 2048]).isSome = true := by decide +kernel
/-- Worked example of "Shared pool": offset 0x2_1000_5040 of a parity region of 16 GiB is local 0x4200_0040 of data member 5. -/
theorem test_pool_offset : ({ Region.reset with prot := 2, size := 16 } : Region).locate 0x210005040 = (5, 0x42000040) ∧
    ({ Region.reset with prot := 2, size := 16 } : Region).memberSize = 0x80000000 := by decide
/-- Worked example of "Register map": the CFG word 0x0002_0808. -/
theorem test_ring_cfg :
    ringWord (oneRing 0 1 { Ring.reset with regs := { RingRegs.reset with sizeLog := 8, cqSizeLog := 8, vec := 2 } }) 0 1 0x10
      = 0x00020808 := by decide +kernel
/-- Worked example of "Host rings": X's completion, word by word of Table 10.10. -/
theorem test_completion_entry :
    let e := completionEntry 0x100 stSuccess false false 0x002F (2 + 20 * 2 ^ 32) 0xA5 0x000041 3 4 24
    bits e 0 32 = 0x100 ∧ bits e 32 16 = 0 ∧ bits e 48 16 = 0x2F ∧ bits e 128 32 = 0xA5 ∧ bits e 160 32 = 0x03000041 ∧
    bits e 192 32 = 4 ∧ bits e 224 32 = 24 := by decide +kernel
/-- Worked example of "Package and pins": pool role with SA = 01 gives I3C address 0x59. -/
theorem test_straps : ({ Pins.reset with straps := 0b01001#5 } : Pins).i3cStatic = 0x59#7 ∧
    ({ Pins.reset with straps := 0b01001#5 } : Pins).poolRole = true := by decide
def torus : LatConfig := { LatConfig.unused with shape := 1, x := 8, y := 4, z := 4 }
/-- Worked example of "Lattice fabric": modules 51 and 53 of the torus of 8 x 4 x 4, diameter 8. -/
theorem test_torus : torus.at 3 2 1 = 51 ∧ torus.at 5 2 1 = 53 ∧ torus.hopCount 51 53 = 2 ∧ torus.diameter = 8 ∧
    torus.farOf 51 0 = some 52 ∧ torus.farPort 51 0 = 1 := by decide
/-- Modulo-2^16 order of the same example: 3 is newer than 65,530; a duplicate of flit 5 after 18 is not. -/
theorem test_seq_order : newer16 65530#16 3#16 = true ∧ newer16 18#16 5#16 = false := by decide
end Sys2Proof.Tests
end

section
/-! Which routers are the rim of an HBM stack (R20): the coordinates of a router number, the stack behind an EDGE port,
and the list of a stack's rim routers. -/

namespace Sys2Proof.Machine

/-! ### Coordinates of a router number (R12) -/

@[simp] theorem routerX_routerAt {x : Nat} (hx : x < 128) (y : Nat) : routerX (routerAt x y) = x := by
  unfold routerX routerAt
  omega

@[simp] theorem routerY_routerAt {x : Nat} (hx : x < 128) (y : Nat) : routerY (routerAt x y) = y := by
  unfold routerY routerAt
  omega

theorem routerAt_injective_left (y : Nat) : Function.Injective fun x => routerAt x y :=
  fun _ _ h => Nat.add_left_cancel h

theorem rangeFrom_eq_range' (a n : Nat) : rangeFrom a n = List.range' a n := by
  induction n generalizing a with
  | zero => rfl
  | succ n ih => rw [rangeFrom, ih, List.range'_succ]

/-! ### The sides of the grid that have no neighbour -/

theorem neighbour_portN_eq_none_iff (n : Nat) : neighbour n portN = none ↔ routerY n = 0 := by
  simp [neighbour, portN]

theorem neighbour_portS_eq_none_iff (n : Nat) : neighbour n portS = none ↔ 127 ≤ routerY n := by
  simp [neighbour, portS]

/-! ### The stack behind a router's EDGE port -/

theorem stackOfRim_eq_some_iff (n k : Nat) :
    stackOfRim n = some k ↔
      (routerY n = 0 ∧ routerX n / 32 = k) ∨ (routerY n = 127 ∧ 4 + routerX n / 32 = k) := by
  unfold stackOfRim
  split
  · next north => simp [north]
  · next north =>
    split
    · next south => simp [south]
    · next south => simp [north, south]

theorem eight_le_westAttachment (y : Nat) : 8 ≤ westAttachment y := by
  unfold westAttachment
  split_ifs <;> decide

/-- A west attachment or a Lattice port is numbered above every stack, so only a rim router of a stack answers one. -/
theorem edgeAttachment_eq_hbm_iff (n : Nat) {k : Nat} (hk : k < 8) :
    edgeAttachment n = some (hbmAttachment k) ↔ stackOfRim n = some k := by
  unfold edgeAttachment hbmAttachment
  cases stackOfRim n with
  | some j => rfl
  | none =>
    have west : westAttachment (routerY n) ≠ k := (hk.trans_le (eight_le_westAttachment _)).ne'
    have east (p : Nat) : latticeAttachment p ≠ k := by
      unfold latticeAttachment
      omega
    simp only [reduceCtorEq, iff_false]
    split_ifs
    · simpa using west
    · simp [east]
    · simp

/-! ### The rim routers of a stack -/

theorem stackOfRim_rimRouter {k c : Nat} (hk : k < 8) (hc : c < 32) : stackOfRim (rimRouter k c) = some k := by
  have hx : 32 * (k % 4) + c < 128 := by omega
  rw [stackOfRim_eq_some_iff, rimRouter, routerX_routerAt hx, routerY_routerAt hx]
  split_ifs with north
  · exact .inl ⟨rfl, by omega⟩
  · exact .inr ⟨rfl, by omega⟩

theorem rimRouter_injective (k : Nat) : Function.Injective (rimRouter k) :=
  (routerAt_injective_left _).comp (add_right_injective _)

theorem attachmentRouters_hbm {k : Nat} (hk : k < 8) :
    attachmentRouters (hbmAttachment k) = (List.range' 0 32).map (rimRouter k) := by
  rw [attachmentRouters, hbmAttachment, if_pos hk, rangeFrom_eq_range']

theorem edgeAttachment_of_mem_attachmentRouters {k r : Nat} (hk : k < 8)
    (hr : r ∈ attachmentRouters (hbmAttachment k)) : edgeAttachment r = some (hbmAttachment k) := by
  rw [attachmentRouters_hbm hk] at hr
  obtain ⟨c, hc, rfl⟩ := List.mem_map.mp hr
  have hc32 : c < 32 := by simpa using hc
  exact (edgeAttachment_eq_hbm_iff _ hk).mpr (stackOfRim_rimRouter hk hc32)

/-- Settles O52: the EDGE port of a router names a stack exactly when the router is on that stack's rim, which on row 0
and on row 127 is a division of the column by 32; and the list of a stack's rim is an injective map over 32 columns. -/
theorem rimRouters : Obligations.RimRouters := by
  unfold Obligations.RimRouters
  refine ⟨fun x y k hx _ hk => ?_, fun x hx => ⟨?_, ?_⟩, fun k hk => ⟨?_, ?_, ?_⟩⟩
  · rw [edgeAttachment_eq_hbm_iff _ hk, stackOfRim_eq_some_iff, routerX_routerAt hx, routerY_routerAt hx]
    omega
  · rw [neighbour_portN_eq_none_iff, routerY_routerAt hx]
  · rw [neighbour_portS_eq_none_iff, routerY_routerAt hx]
  · rw [attachmentRouters_hbm hk, List.length_map, List.length_range']
  · rw [attachmentRouters_hbm hk]
    exact List.Nodup.map (rimRouter_injective k) List.nodup_range'
  · exact fun r => edgeAttachment_of_mem_attachmentRouters hk

end Sys2Proof.Machine
end

section
/-! The core reference and the root PLL (R38 to R44, R652): what a loss of the clocks leaves of the module, and what the
alert and trip causes do when the reference returns. -/

namespace Sys2Proof.Machine

/-! ### The module after a fatal event (R566, R568) -/

/-- The module as a reset or a fatal event leaves it: nothing runs, the tick stands, and contents, roles, assembly data,
firmware slots and configuration stay (Table 17.4). -/
def ModuleStopped (s t : State) : Prop :=
  t.clk.stopped = true ∧ t.clk.tick = s.clk.tick ∧ t.clk.wallPs = s.clk.wallPs ∧ t.parts = [] ∧ t.slots = [] ∧ t.rings = Rings.reset ∧
  t.win = Windows.reset ∧ t.tiles = Tiles.reset ∧ t.boot.mp = MpState.off ∧ t.boot.ready = false ∧
  t.buf.mem = s.buf.mem ∧ t.hbm.mem = s.hbm.mem ∧ t.hbm.role = s.hbm.role ∧ t.lanes.assembly = s.lanes.assembly ∧
  t.lanes.field = s.lanes.field ∧ t.fw.slots = s.fw.slots ∧ t.lat.cfg = s.lat.cfg

theorem eq_with_pool_of_touches {s t : State} (h : Touches [.pool] s t) : t = { s with pool := t.pool } := by
  cases t
  rw [State.mk.injEq]
  exact ⟨h .clk (by decide), h .pins (by decide), h .boot (by decide), h .parts (by decide), h .layout (by decide),
    h .layoutPend (by decide), h .slots (by decide), h .buf (by decide), h .comp (by decide), h .ctl (by decide),
    h .fmap (by decide), h .hbm (by decide), h .dense (by decide), h .tiles (by decide), h .rings (by decide),
    h .regs (by decide), h .logs (by decide), h .win (by decide), h .lanes (by decide), h .fw (by decide),
    h .pm (by decide), h .lat (by decide), rfl, h .counters (by decide), h .out (by decide), h .free (by decide),
    h .pending (by decide)⟩

/-- Of the pool's part in a stop nothing is seen outside the pool. -/
theorem stopModule_eq (s : State) : ∃ p : Pool, stopModule s =
    let s1 := restMp (restLanes (restLattice { restDense (restHbm (clearPlane s)) with pool := p }))
    { s1 with
      clk := restClock s1.clk, pins := { s1.pins with dperst := 0, dref := 0 }
      counters := rwsCleared s1.counters, logs := { s1.logs with recentRuns := [], held := [] } } := by
  refine ⟨(restPool (restDense (restHbm (clearPlane s)))).pool, ?_⟩
  rw [← eq_with_pool_of_touches (restPool_touches _)]
  rfl

theorem fatalStop_moduleStopped (s : State) : ModuleStopped s (fatalStop s) := by
  obtain ⟨p, e⟩ := stopModule_eq s
  unfold ModuleStopped fatalStop
  rw [e]
  exact ⟨rfl, rfl, rfl, rfl, rfl, rfl, rfl, rfl, rfl, rfl, rfl, rfl, rfl, rfl, rfl, rfl, rfl⟩

theorem fatalStop_refValid (s : State) : (fatalStop s).clk.refValid = s.clk.refValid := by
  obtain ⟨p, e⟩ := stopModule_eq s
  simp only [fatalStop, e]
  rfl

theorem fatalStop_alert (s : State) : (fatalStop s).pins.alert = s.pins.alert := by
  obtain ⟨p, e⟩ := stopModule_eq s
  simp only [fatalStop, e]
  rfl

theorem fatalStop_power (s : State) : (fatalStop s).logs.power = s.logs.power := by
  obtain ⟨p, e⟩ := stopModule_eq s
  simp only [fatalStop, e]
  rfl

/-- A fatal event changes the pins and the logs alone, so what it stops is what stood before it. -/
theorem fatalStop_fatalEvent_moduleStopped (reason unit : Nat) (s : State) :
    ModuleStopped s (fatalStop (fatalEvent reason unit s)) := by
  have event := fatalEvent_touches reason unit s
  have h := fatalStop_moduleStopped (fatalEvent reason unit s)
  have clk : (fatalEvent reason unit s).clk = s.clk := event .clk (by decide)
  have buf : (fatalEvent reason unit s).buf = s.buf := event .buf (by decide)
  have hbm : (fatalEvent reason unit s).hbm = s.hbm := event .hbm (by decide)
  have lanes : (fatalEvent reason unit s).lanes = s.lanes := event .lanes (by decide)
  have fw : (fatalEvent reason unit s).fw = s.fw := event .fw (by decide)
  have lat : (fatalEvent reason unit s).lat = s.lat := event .lat (by decide)
  simpa only [ModuleStopped, clk, buf, hbm, lanes, fw, lat] using h

theorem fatalRecord_power_isSome (reason unit : Nat) (s : State) : (fatalRecord reason unit s).logs.power.isSome = true := by
  unfold fatalRecord
  split
  · next power => simp [power]
  · rfl

theorem clockLossNow_refValid (src : Nat) (s : State) : (clockLossNow src s).clk.refValid = s.clk.refValid :=
  (fatalStop_refValid (fatalEvent 0x1001 0 s)).trans
    (congrArg Clk.refValid (fatalEvent_touches 0x1001 0 s .clk (by decide)))

/-- The PLL is unlocked, and the fault is latched until a cold start (R41). -/
theorem clockLossNow_unlocked (src : Nat) (s : State) :
    (clockLossNow src s).clk.pll = false ∧ (clockLossNow src s).clk.pSource = src ∧
    (clockLossNow src s).boot.clockLost = true ∧ (clockLossNow src s).boot.nextCold = true :=
  ⟨rfl, rfl, rfl, rfl⟩

theorem clockLossNow_moduleStopped (src : Nat) (s : State) : ModuleStopped s (clockLossNow src s) :=
  fatalStop_fatalEvent_moduleStopped 0x1001 0 s

theorem clockLossNow_alert (src : Nat) (s : State) : (clockLossNow src s).pins.alert = true :=
  fatalStop_alert (fatalEvent 0x1001 0 s)

theorem clockLossNow_power (src : Nat) (s : State) : (clockLossNow src s).logs.power.isSome = true :=
  (congrArg Option.isSome (fatalStop_power (fatalEvent 0x1001 0 s))).trans (fatalRecord_power_isSome 0x1001 0 s)

/-! ### Causes of ALERT# with PERST# deasserted (R646) -/

theorem settleTrip_of_perst_deasserted {s : State} (h : s.pins.perst = false) : settleTrip s = s := by
  simp [settleTrip, h]

theorem settleAlert_of_perst_deasserted {s : State} (h : s.pins.perst = false) : settleAlert s = s := by
  simp [settleAlert, settleTrip_of_perst_deasserted h, h]

theorem raiseRegulators_perst (s : State) : (raiseRegulators s).pins.perst = s.pins.perst :=
  congrArg Pins.perst (raiseRegulators_touches s .pins (by decide))

theorem settleTrip_perst (s : State) : (settleTrip s).pins.perst = s.pins.perst := by
  unfold settleTrip
  split
  · exact raiseRegulators_perst _
  · rfl

/-- With PERST# asserted a clock-loss fault ends once the reference is valid. -/
theorem settleAlert_clockLost {s : State} (perst : s.pins.perst = true) (valid : s.clk.refValid = true) :
    (settleAlert s).boot.clockLost = false := by
  have clk : (settleTrip s).clk = s.clk := settleTrip_touches s .clk (by decide)
  simp [settleAlert, settleTrip_perst, perst, clk, valid]

/-! ### The reference goes and returns (R652) -/

/-- The reference is gone and the P domain runs from its fallback oscillator. -/
def referenceGone (s : State) : State :=
  { s with clk := { s.clk with refValid := false, refHalt := some s.clk.wallPs, pSource := 3 } }

/-- PM firmware halts, and the guard holds the slowest setting; s is the state in which the reference stopped. -/
def guardHolds (s u : State) : State :=
  let v := writeSetting Pm.slow u
  { v with
    boot := { v.boot with pm := if s.boot.pm = .firmware then .halted else s.boot.pm }
    pm := { v.pm with guard := s.boot.pm == .firmware || v.pm.guard, own := Pm.slow } }

/-- The reference is back, and the reference time goes on from where it stood. -/
def referenceBack (s : State) : State :=
  { s with clk := { s.clk with
    refValid := true, refStart := s.clk.refStart + s.clk.refHalt.elim 0 fun h => s.clk.wallPs - h, refHalt := none, pSource := 1 } }

theorem ModuleStopped.guardHolds {s t : State} (h : ModuleStopped s t) (u : State) : ModuleStopped s (guardHolds u t) := h

theorem guardHolds_keeps (s u : State) :
    (guardHolds s u).clk.refValid = u.clk.refValid ∧ (guardHolds s u).clk.pll = u.clk.pll ∧
    (guardHolds s u).clk.pSource = u.clk.pSource ∧ (guardHolds s u).pins.alert = u.pins.alert ∧
    (guardHolds s u).boot.clockLost = u.boot.clockLost ∧ (guardHolds s u).boot.nextCold = u.boot.nextCold :=
  ⟨rfl, rfl, rfl, rfl, rfl, rfl⟩

section
variable {s : State} (standby : s.pins.standby = true)
include standby

theorem execCoreReferenceStop_locked (valid : s.clk.refValid = true) (pll : s.clk.pll = true) :
    execCoreReferenceStop s = .next (guardHolds s (clockLossNow 3 (referenceGone s))) := by
  simp [execCoreReferenceStop, standby, valid, pll, guardHolds, referenceGone]

theorem execCoreReferenceStop_unlocked (valid : s.clk.refValid = true) (pll : s.clk.pll = false) :
    execCoreReferenceStop s = .next (guardHolds s (referenceGone s)) := by
  simp [execCoreReferenceStop, standby, valid, pll, guardHolds, referenceGone]

theorem execCoreReferenceValid_eq (valid : s.clk.refValid = false) :
    execCoreReferenceValid s = .next (settleAlert (referenceBack s)) := by
  simp [execCoreReferenceValid, standby, valid, referenceBack]

end

/-! ### The lock (R38, R44) -/

/-- The root PLL is locked: the P domain runs from it, and a cold start's timestamp starts from zero. -/
def pllLocked (s : State) : State :=
  { s with clk := { s.clk with
    pll := true, pSource := 2, stopped := true
    tick := if s.boot.nextCold then 0 else s.clk.tick
    frameDone := !s.boot.nextCold && s.clk.frameDone } }

theorem execRootPllLock_eq {s : State} (pll : s.clk.pll = false) (valid : s.clk.refValid = true) (regs : s.boot.regs = 31)
    (trip : s.boot.tripped = false) (lost : s.boot.clockLost = false) : execRootPllLock s = .next (pllLocked s) := by
  simp [execRootPllLock, pll, valid, regs, trip, lost, pllLocked]

/-- Settles O2: each clause is one branch of its command's meaning; what a lost clock leaves of the module is what every
fatal event leaves. -/
theorem clocksStartAndStop : Obligations.ClocksStartAndStop := by
  unfold Obligations.ClocksStartAndStop
  refine ⟨fun s pll valid regs trip lost => ?lock, fun s pll => ?loss, fun s standby valid pll => ?stopLocked,
    fun s standby valid pll => ?stopUnlocked, fun s standby valid perst => ?returns,
    fun s standby valid perst => ?returnsInReset⟩
  case lock =>
    exact ⟨pllLocked s, execRootPllLock_eq pll valid regs trip lost, ⟨rfl, rfl, rfl, rfl⟩, upd_clk rfl (Touches.refl _ _)⟩
  case loss =>
    obtain ⟨noPll, source, lost, cold⟩ := clockLossNow_unlocked 1 s
    exact ⟨clockLossNow 1 s, if_pos pll, ⟨noPll, source, clockLossNow_alert 1 s, lost, cold, clockLossNow_power 1 s,
      clockLossNow_moduleStopped 1 s⟩, (clockLossNow_touches 1 s).mono rfl⟩
  case stopLocked =>
    have stop : ModuleStopped s (clockLossNow 3 (referenceGone s)) := clockLossNow_moduleStopped 3 (referenceGone s)
    have gone : (clockLossNow 3 (referenceGone s)).clk.refValid = false := clockLossNow_refValid 3 (referenceGone s)
    have alert := clockLossNow_alert 3 (referenceGone s)
    obtain ⟨noPll, source, lost, cold⟩ := clockLossNow_unlocked 3 (referenceGone s)
    obtain ⟨k1, k2, k3, k4, k5, k6⟩ := guardHolds_keeps s (clockLossNow 3 (referenceGone s))
    exact ⟨_, execCoreReferenceStop_locked standby valid pll,
      ⟨k1.trans gone, k2.trans noPll, k3.trans source, k4.trans alert, k5.trans lost, k6.trans cold, stop.guardHolds s⟩,
      upd_boot_pm rfl ((writeSetting_touches _ _).after rfl ((clockLossNow_touches _ _).after rfl
        (upd_clk rfl (Touches.refl _ _))))⟩
  case stopUnlocked =>
    exact ⟨_, execCoreReferenceStop_unlocked standby valid pll, ⟨rfl, rfl⟩,
      upd_boot_pm rfl ((writeSetting_touches _ _).after rfl (upd_clk rfl (Touches.refl _ _)))⟩
  case returns =>
    have still : settleAlert (referenceBack s) = referenceBack s := settleAlert_of_perst_deasserted perst
    exact ⟨referenceBack s, (execCoreReferenceValid_eq standby valid).trans (congrArg _ still), ⟨rfl, rfl⟩,
      upd_clk rfl (Touches.refl _ _)⟩
  case returnsInReset =>
    have clk : (settleAlert (referenceBack s)).clk = (referenceBack s).clk := settleAlert_touches _ .clk (by decide)
    exact ⟨_, execCoreReferenceValid_eq standby valid,
      ⟨congrArg Clk.refValid clk, congrArg Clk.pSource clk, settleAlert_clockLost perst rfl⟩,
      (settleAlert_touches _).after rfl (upd_clk rfl (Touches.refl _ _))⟩

end Sys2Proof.Machine
end

section
/-! What every step keeps of the queue, of what was sent, and of wall time: each operation of the model goes onward. -/

namespace Sys2Proof.Machine

/-- From s to t the queue stands, everything sent stays sent, and wall time does not run back. -/
structure Onward (s t : State) : Prop where
  pending : t.pending = s.pending
  out : s.out <+: t.out
  wall : s.clk.wallPs ≤ t.clk.wallPs

/-- The outcome is a next state, and the way there goes onward. -/
def OnwardNext (s : State) (o : Host.Outcome State Fault Refusal) : Prop := ∃ t, o = .next t ∧ Onward s t

/-- The blocks that no frame below may name when it stands for an onward step: the clocks, what was sent, the queue. -/
def quiet (bs : List Block) : Bool := !bs.contains .clk && !bs.contains .out && !bs.contains .pending

section
variable {s t u x y : State} {bs : List Block} {α : Type}

theorem Onward.refl (s : State) : Onward s s := ⟨rfl, List.prefix_rfl, le_rfl⟩

/-- The later step first, as it is written in the model. -/
theorem Onward.after (later : Onward t u) (earlier : Onward s t) : Onward s u :=
  ⟨later.pending.trans earlier.pending, earlier.out.trans later.out, earlier.wall.trans later.wall⟩

theorem Onward.ite {c : Prop} [Decidable c] (h : Onward s x) (k : Onward s y) : Onward s (if c then x else y) := by
  split <;> assumption

theorem Onward.iteSnd {c : Prop} [Decidable c] {x y : α × State} (h : Onward s x.2) (k : Onward s y.2) :
    Onward s (if c then x else y).2 := by
  split <;> assumption

theorem Onward.ofSnd {p : α × State} {a : α} (h : Onward s p.2) (e : p = (a, t)) : Onward s t := by
  subst e
  exact h

theorem Onward.foldl {f : State → α → State} {l : List α} (step : ∀ t a, Onward t (f t a)) :
    Onward s (l.foldl f s) := by
  induction l generalizing s with
  | nil => exact .refl _
  | cons a l ih => exact .after ih (step s a)

/-- An update of a block that is none of the three. -/
theorem Onward.upd (h : Onward s x) (e : (t.pending, t.out, t.clk.wallPs) = (x.pending, x.out, x.clk.wallPs)) :
    Onward s t := by
  simp only [Prod.mk.injEq] at e
  obtain ⟨pending, out, wall⟩ := e
  exact ⟨pending.trans h.pending, out ▸ h.out, wall ▸ h.wall⟩

/-! The same with the blocks named, where the state that is updated is to be found from the goal. -/

theorem Onward.boot {v : Boot} (h : Onward s x) : Onward s { x with boot := v } := .upd h rfl

theorem Onward.buf {v : Buf} (h : Onward s x) : Onward s { x with buf := v } := .upd h rfl

theorem Onward.ctl {v : Ctl} (h : Onward s x) : Onward s { x with ctl := v } := .upd h rfl

theorem Onward.dense {v : Dense} (h : Onward s x) : Onward s { x with dense := v } := .upd h rfl

theorem Onward.fmap {v : FaultMap} (h : Onward s x) : Onward s { x with fmap := v } := .upd h rfl

theorem Onward.fw {v : Fw} (h : Onward s x) : Onward s { x with fw := v } := .upd h rfl

theorem Onward.hbm {v : Hbm} (h : Onward s x) : Onward s { x with hbm := v } := .upd h rfl

theorem Onward.lanes {v : Lanes} (h : Onward s x) : Onward s { x with lanes := v } := .upd h rfl

theorem Onward.lat {v : Lat} (h : Onward s x) : Onward s { x with lat := v } := .upd h rfl

theorem Onward.layout {v : Tab Rect} (h : Onward s x) : Onward s { x with layout := v } := .upd h rfl

theorem Onward.pins {v : Pins} (h : Onward s x) : Onward s { x with pins := v } := .upd h rfl

theorem Onward.logs {v : Logs} (h : Onward s x) : Onward s { x with logs := v } := .upd h rfl

theorem Onward.pm {v : Pm} (h : Onward s x) : Onward s { x with pm := v } := .upd h rfl

theorem Onward.pool {v : Pool} (h : Onward s x) : Onward s { x with pool := v } := .upd h rfl

theorem Onward.win {v : Windows} (h : Onward s x) : Onward s { x with win := v } := .upd h rfl

theorem Onward.boot_pm {v0 : Boot} {v1 : Pm} (h : Onward s x) : Onward s { x with boot := v0, pm := v1 } := .upd h rfl

theorem Onward.dense_pool {v0 : Dense} {v1 : Pool} (h : Onward s x) :
    Onward s { x with dense := v0, pool := v1 } :=
  .upd h rfl

theorem Onward.fmap_pm {v0 : FaultMap} {v1 : Pm} (h : Onward s x) :
    Onward s { x with fmap := v0, pm := v1 } :=
  .upd h rfl

theorem Onward.pm_lat {v0 : Pm} {v1 : Lat} (h : Onward s x) : Onward s { x with pm := v0, lat := v1 } := .upd h rfl

theorem Onward.pins_boot {v0 : Pins} {v1 : Boot} (h : Onward s x) :
    Onward s { x with pins := v0, boot := v1 } :=
  .upd h rfl

theorem Onward.win_fw {v0 : Windows} {v1 : Fw} (h : Onward s x) : Onward s { x with win := v0, fw := v1 } := .upd h rfl

theorem Onward.boot_fw_pm {v0 : Boot} {v1 : Fw} {v2 : Pm} (h : Onward s x) :
    Onward s { x with boot := v0, fw := v1, pm := v2 } :=
  .upd h rfl

theorem Onward.clk {c : Clk} (h : Onward s x) (wall : c.wallPs = x.clk.wallPs) : Onward s { x with clk := c } :=
  .upd h (by rw [wall])

theorem Onward.clk_boot {c : Clk} {v1 : Boot}
    (h : Onward s x) (wall : c.wallPs = x.clk.wallPs) : Onward s { x with clk := c, boot := v1 } :=
  .upd h (by rw [wall])

theorem Onward.clk_pins_logs_counters {c : Clk} {v1 : Pins} {v2 : Logs} {v3 : Tab (BitVec 64)}
    (h : Onward s x) (wall : c.wallPs = x.clk.wallPs) :
    Onward s { x with clk := c, pins := v1, logs := v2, counters := v3 } :=
  .upd h (by rw [wall])

theorem Onward.clk_pins_boot_hbm_lanes_pm {c : Clk} {v1 : Pins} {v2 : Boot} {v3 : Hbm} {v4 : Lanes} {v5 : Pm}
    (h : Onward s x) (wall : c.wallPs = x.clk.wallPs) :
    Onward s { x with clk := c, pins := v1, boot := v2, hbm := v3, lanes := v4, pm := v5 } :=
  .upd h (by rw [wall])

theorem Onward.clk_pins_boot_buf_hbm_logs_lanes_pm {c : Clk} {v1 : Pins} {v2 : Boot} {v3 : Buf} {v4 : Hbm} {v5 : Logs}
    {v6 : Lanes} {v7 : Pm} (h : Onward s x) (wall : c.wallPs = x.clk.wallPs) :
    Onward s { x with clk := c, pins := v1, boot := v2, buf := v3, hbm := v4, logs := v5, lanes := v6, pm := v7 } :=
  .upd h (by rw [wall])

/-- A frame that names none of the three blocks. -/
theorem Touches.onward (h : Touches bs s t) (q : quiet bs = true) : Onward s t := by
  simp only [quiet, Bool.and_eq_true, Bool.not_eq_true', List.contains_eq_mem, decide_eq_false_iff_not] at q
  obtain ⟨⟨clk, out⟩, pending⟩ := q
  exact .upd (.refl s) (by rw [h .pending pending, h .out out, h .clk clk])

variable {o p : Host.Outcome State Fault Refusal}

theorem OnwardNext.next (h : Onward s t) : OnwardNext s (.next t) := ⟨t, rfl, h⟩

theorem OnwardNext.ite {c : Prop} [Decidable c] (h : OnwardNext s o) (k : OnwardNext s p) :
    OnwardNext s (if c then o else p) := by
  split <;> assumption

theorem OnwardNext.after (later : OnwardNext t o) (earlier : Onward s t) : OnwardNext s o := by
  obtain ⟨u, e, h⟩ := later
  exact ⟨u, e, .after h earlier⟩

theorem Nexts.onward (h : Nexts bs s o) (q : quiet bs = true) : OnwardNext s o := by
  obtain ⟨t, e, frame⟩ := h
  exact ⟨t, e, frame.onward q⟩

end

variable {s : State}

/-! ### Operations -/

theorem emit_onward {o : Output} : Onward s (emit o s) :=
  ⟨rfl, List.prefix_append _ _, le_rfl⟩

theorem acceptHostBeat_onward {k beat : Nat} {h : HostRec} {r : Run} : Onward s (acceptHostBeat k beat h r s) := by
  unfold acceptHostBeat
  split
  · exact .refl _
  · exact .ite (.refl _) (.after emit_onward ((updRun_touches _ _ _).onward rfl))

theorem raiseVector_onward {fn v : Nat} : Onward s (raiseVector fn v s) := .ite (.upd (.refl _) rfl) emit_onward

theorem mailboxDone_onward {bytes : Nat} : Onward s (mailboxDone bytes s) :=
  .ite (.upd (.refl _) rfl) (.after raiseVector_onward (.upd (.refl _) rfl))

theorem ringInterrupt_onward {fn ring : Nat} : Onward s (ringInterrupt fn ring s) :=
  .after (.ite (.refl _) raiseVector_onward) ((updRing_touches _ _ _ _).onward rfl)

theorem moderate_onward {fn ring : Nat} {silent : Bool} : Onward s (moderate fn ring silent s) :=
  .ite (.refl _) (.ite ringInterrupt_onward ((updRing_touches _ _ _ _).onward rfl))

theorem postCompletion_onward {fn ring : Nat} {seq user : BitVec 32} {silent : Bool} {frame : Nat} {d : Done} :
    Onward s (postCompletion fn ring seq user silent frame d s) :=
  .after moderate_onward (.after ((updRing_touches _ _ _ _).onward rfl) emit_onward)

theorem completeOutst_onward {fn ring : Nat} {o : Outst} {d : Done} : Onward s (completeOutst fn ring o d s) :=
  .after postCompletion_onward ((updRing_touches _ _ _ _).onward rfl)

theorem serviceDone_onward {fn : Nat} {o : Outst} {status tag bytes : Nat} :
    Onward s (serviceDone fn o status tag bytes s) :=
  completeOutst_onward

theorem mciDeliver_onward {op : Nat} {q : MciReq} {status detail rlen params : Nat} {item : Option Outst} :
    Onward s (mciDeliver op q status detail rlen params item s) :=
  .ite (.after mailboxDone_onward emit_onward)
    (.ite
      (by
        split
        · exact emit_onward
        · exact .after serviceDone_onward (.after emit_onward emit_onward))
      emit_onward)

theorem mciAnswer_onward {op : Nat} {q : MciReq} {status detail rlen params : Nat} :
    Onward s (mciAnswer op q status detail rlen params s) :=
  .after mciDeliver_onward (.upd (.refl _) rfl)

theorem mciReply_onward {op who tag status detail rlen params : Nat} :
    Onward s (mciReply op who tag status detail rlen params s) :=
  .ite mciAnswer_onward (.refl _)

theorem answerTable_onward {who opx tag status : Nat} : Onward s (answerTable who opx tag status s) :=
  .ite ((sendRsp_touches _ _ _ _ _ _ _ _ _ _).onward rfl) (.ite mciReply_onward mciReply_onward)

theorem accessRun_onward {who tag x : Nat} : Onward s (accessRun who tag x s) :=
  .ite answerTable_onward (.after answerTable_onward ((updRegion_touches _ _ _).onward rfl))

theorem sendTile_onward {t sub chunk content n : Nat} : Onward s (sendTile t sub chunk content n s) :=
  .after emit_onward ((updTile_touches _ _ _).onward rfl)

theorem sendAck_onward {t seq : Nat} : Onward s (sendAck t seq s) := sendTile_onward

theorem ackAgain_onward {t chunk seq : Nat} {over_ : Bool} : Onward s (ackAgain t chunk seq over_ s) :=
  .ite sendAck_onward (.refl _)

theorem emitAll_onward {os : List Output} : Onward s (emitAll os s) :=
  ⟨rfl, List.prefix_append _ _, le_rfl⟩

theorem aclInForce_onward {region : Nat} {l : List Access} {mode : Nat} : Onward s (aclInForce region l mode s) :=
  .after ((updateBoxes_touches _).onward rfl)
    (.after (.ite emitAll_onward (.refl _)) ((updRegion_touches _ _ _).onward rfl))

theorem deliverFold_onward {k router inp outs : Nat} {acc : BitVec 1024} {type : Nat} {sr poison bsel : Bool} :
    Onward s (deliverFold k router inp outs acc type sr poison bsel s) :=
  .ite (.upd (.refl _) rfl) (.after emitAll_onward ((updPipe_touches _ _ _).onward rfl))

theorem sendOperand_onward {router : Nat} {b : Beat} : Onward s (sendOperand router b s) := emit_onward

theorem doWork_onward {k : Nat} {w : Work} : Onward s (doWork k w s) := by
  unfold doWork
  split
  · exact .after sendOperand_onward ((portRead_touches _ _ _ _ _ _).onward rfl)
  · exact .after ((noteWrite_touches _ _ _ _ _ _ _).onward rfl) ((socketStall_touches _ _ _).onward rfl)
  · exact .after ((noteLine_touches _ _ _ _).onward rfl) ((storeLine_touches _ _ _ _ _ _ _).onward rfl)
  · exact .after ((addDue_touches _ _ _).onward rfl) ((portRead_touches _ _ _ _ _ _).onward rfl)
  · exact .after ((noteLine_touches _ _ _ _).onward rfl) ((schedWrite_touches _ _ _ _ _).onward rfl)
  · exact deliverFold_onward

theorem applySetting_onward {x : BitVec 9} : Onward s (applySetting x s) :=
  .ite (.refl _) (.after ((updParts_touches _ _).onward rfl) (.upd (.refl _) rfl))

theorem rawTicks_onward {n : Nat} : Onward s (rawTicks n s) :=
  .after ((updParts_touches _ _).onward rfl) ⟨rfl, List.prefix_rfl, Nat.le_add_right _ _⟩

theorem passTo_onward {target : Nat} : Onward s (passTo target s) := by
  unfold passTo
  split
  · exact rawTicks_onward
  · exact .ite (.after rawTicks_onward (.after applySetting_onward (.clk rawTicks_onward rfl))) rawTicks_onward

theorem advanceLoop_onward {fuel target : Nat} : Onward s (advanceLoop fuel target s) := by
  induction fuel generalizing s with
  | zero => exact passTo_onward
  | succ fuel ih =>
    unfold advanceLoop
    split
    · exact .ite (.after ih (.after ((doBranch_touches _ _).onward rfl) passTo_onward)) passTo_onward
    · split
      · exact passTo_onward
      · exact .ite
          (.after ih (.after doWork_onward (.after ((dropDue_touches _ _ _).onward rfl) passTo_onward)))
          passTo_onward

theorem advanceFree_onward {target : Nat} : Onward s (advanceFree target s) := advanceLoop_onward

theorem holdTick_onward : Onward s (holdTick s) := .upd (.refl _) rfl

theorem advanceTo_onward {target : Nat} : Onward s (advanceTo target s) :=
  .ite (.refl _) (.ite (.after holdTick_onward advanceFree_onward) advanceFree_onward)

theorem advance_onward {n : Nat} : Onward s (advance n s) := advanceTo_onward

theorem cxlAnswer_onward {who tag : Nat} {write : Bool} {d : LineData} {poison : Bool} :
    Onward s (cxlAnswer who tag write d poison s) :=
  emit_onward

theorem sendReq_onward {dst uop region nl poison off body kind ref : Nat} :
    Onward s (sendReq dst uop region nl poison off body kind ref s) :=
  .after (.ite ((launchReq_touches _ _).onward rfl) (.lat (.refl _))) (.after emit_onward (.upd (.refl _) rfl))

theorem sendTable_onward {m region body kind ref : Nat} : Onward s (sendTable m region body kind ref s) :=
  sendReq_onward

theorem replicate_onward {region : Nat} : Onward s (replicate region s) := .foldl fun _ _ => sendTable_onward

theorem rebuilt_onward {r : Nat} : Onward s (rebuilt r s) :=
  .ite (.refl _)
    (.ite (.after replicate_onward ((updRegion_touches _ _ _).onward rfl)) ((updRegion_touches _ _ _).onward rfl))

theorem finishAcc_onward {a : PoolAcc} {d : LineData} {poison : Bool} {status : Nat} {sIn : State} :
    Onward sIn (finishAcc a d poison status sIn) := by
  unfold finishAcc
  split
  · exact .after cxlAnswer_onward (.after ((wakeReads_touches _ _).onward rfl) ((dropAcc_touches _ _).onward rfl))
  · exact .after ((servedLine_touches _ _ _ _ _ _ _).onward rfl)
      (.after ((wakeReads_touches _ _).onward rfl) ((dropAcc_touches _ _).onward rfl))
  · exact .after rebuilt_onward (.after ((wakeReads_touches _ _).onward rfl) ((dropAcc_touches _ _).onward rfl))
  · exact .after ((updCmd_touches _ _ _).onward rfl)
      (.after ((wakeReads_touches _ _).onward rfl) ((dropAcc_touches _ _).onward rfl))

theorem sendAcc_onward {m uop nl : Nat} {a : PoolAcc} {d : LineData} {poison : Bool} :
    Onward s (sendAcc m uop nl a d poison s) :=
  sendReq_onward

theorem afterWrite_onward {a : PoolAcc} {old : Beat} : Onward s (afterWrite a old s) :=
  .ite (.ite finishAcc_onward (.after sendAcc_onward ((setAcc_touches _ _).onward rfl)))
    (.ite (.ite finishAcc_onward (.after sendAcc_onward ((setAcc_touches _ _).onward rfl))) finishAcc_onward)

theorem answerMailbox_onward : Onward s (answerMailbox s) := .ite mailboxDone_onward (.refl _)

theorem answerReset_onward {fn : Nat} : Onward s (answerReset fn s) := .foldl fun _ _ => serviceDone_onward

theorem writeSetting_onward {x : BitVec 9} : Onward s (writeSetting x s) := .upd (.refl _) rfl

theorem putSetting_onward {x : BitVec 9} : Onward s (putSetting x s) := .ite (.refl _) writeSetting_onward

theorem sendCtrl_onward {port x : Nat} : Onward s (sendCtrl port x s) :=
  .ite (.after emit_onward ((sendFlit_touches _ _ _ _).onward rfl)) (.refl _)

theorem takeRequest_onward {m : Nat} {x : BitVec 9} : Onward s (takeRequest m x s) :=
  .ite (.upd (.refl _) rfl)
    (.after
      (.foldl fun _ _ => by
        split
        · exact .refl _
        · exact sendCtrl_onward)
      (.upd (.refl _) rfl))

theorem requestSetting_onward {x : BitVec 9} : Onward s (requestSetting x s) :=
  .ite (.after takeRequest_onward (.upd (.refl _) rfl))
    (by
      split
      · exact .upd (.refl _) rfl
      · exact .after sendCtrl_onward (.upd (.refl _) rfl))

theorem applyOwn_onward {m : PowerIn} : Onward s (applyOwn m s) := by
  unfold applyOwn
  dsimp only
  exact .ite (.after putSetting_onward (.upd (.refl _) rfl))
    (by
      split
      · exact .after (.ite putSetting_onward (.refl _)) (.pm (.ite requestSetting_onward (.refl _)))
      · exact .after putSetting_onward
          (.after ((goAlone_touches _).onward rfl) (.pm (.ite requestSetting_onward (.refl _)))))

theorem hbmUnprepare_onward {l : List Nat} : Onward s (hbmUnprepare l s) :=
  .after emitAll_onward ((updPcs_touches _ _ _).onward rfl)

theorem bindEffect_onward {k : Nat} : Onward s (bindEffect k s) := by
  unfold bindEffect
  split
  · exact .refl _
  · exact .after (.ite hbmUnprepare_onward ((hbmSchedule_touches _ _).onward rfl))
      (.after ((updPart_touches _ _ _).onward rfl)
        (.after ((loadMirrors_touches _ _ _).onward rfl)
          (.after ((resetComps_touches _ _).onward rfl) ((setSlot_touches _ _ _).onward rfl))))

theorem hbmPrepare_onward {l : List Nat} : Onward s (hbmPrepare l s) :=
  .after emitAll_onward ((updPcs_touches _ _ _).onward rfl)

theorem sendLanes_onward {t chunk : Nat} : Onward s (sendLanes t chunk s) :=
  .after sendTile_onward ((updTile_touches _ _ _).onward rfl)

theorem startTransfer_onward {t : Nat} {es : List Nat} : Onward s (startTransfer t es s) :=
  .after sendLanes_onward ((updTile_touches _ _ _).onward rfl)

theorem setHalves_onward {t : Nat} {halves : List Nat} : Onward s (setHalves t halves s) :=
  .ite (.refl _) startTransfer_onward

theorem lanesFor_onward {rc : Rect} {im : Option Image} : Onward s (lanesFor rc im s) :=
  .foldl fun _ _ => .ite (.refl _) setHalves_onward

theorem leaveRefresh_onward {ks : List Nat} : Onward s (leaveRefresh ks s) :=
  .foldl fun _ _ => .ite (.after emitAll_onward ((updStack_touches _ _ _).onward rfl)) (.refl _)

theorem startExit_onward {k : Nat} : Onward s (startExit k s) :=
  .ite (.refl _) (.after leaveRefresh_onward ((updPart_touches _ _ _).onward rfl))

theorem bindBoundary_onward {k : Nat} : Onward s (bindBoundary k s) := by
  unfold bindBoundary
  split
  · exact .refl _
  · exact .ite bindEffect_onward
      (.ite (.refl _)
        (.ite startExit_onward
          (.ite (.after lanesFor_onward (.after hbmPrepare_onward ((updPart_touches _ _ _).onward rfl))) (.refl _))))

theorem hbmPark_onward {l : List Nat} : Onward s (hbmPark l s) :=
  .after emitAll_onward ((updPcs_touches _ _ _).onward rfl)

theorem parkPart_onward {k : Nat} {im : Image} : Onward s (parkPart k im s) :=
  .after hbmPark_onward ((updPart_touches _ _ _).onward rfl)

theorem parkedBoundary_onward {k : Nat} {im : Image} : Onward s (parkedBoundary k im s) :=
  .ite (.after ((hbmSchedule_touches _ _).onward rfl) ((updPart_touches _ _ _).onward rfl))
    (.ite (.after hbmPrepare_onward ((updPart_touches _ _ _).onward rfl))
      (.after ((updPart_touches _ _ _).onward rfl) (.ite hbmUnprepare_onward (.refl _))))

theorem cancelBind_onward {k : Nat} : Onward s (cancelBind k s) := by
  unfold cancelBind
  split
  · exact .refl _
  · exact .after lanesFor_onward
      (.after ((hbmRelease_touches _ _).onward rfl)
        (.after ((updPart_touches _ _ _).onward rfl) ((setSlot_touches _ _ _).onward rfl)))

theorem detach_onward {k : Nat} : Onward s (detach k s) := by
  unfold detach
  split
  · exact .refl _
  · exact .after ((setPart_touches _ _ _).onward rfl)
      (.after lanesFor_onward
        (.after ((resetComps_touches _ _).onward rfl)
          (.after ((hbmRelease_touches _ _).onward rfl)
            (.after ((setSlot_touches _ _ _).onward rfl) (.upd (.refl _) rfl)))))

theorem quiesce_onward {k : Nat} : Onward s (quiesce k s) :=
  .after (.foldl fun _ _ => sendTile_onward) ((updPart_touches _ _ _).onward rfl)

theorem rejectHead_onward {fn ring x status : Nat} : Onward s (rejectHead fn ring x status s) :=
  .after postCompletion_onward ((updRing_touches _ _ _ _).onward rfl)

theorem rejectNaming_onward {sl : Nat} : Onward s (rejectNaming sl s) :=
  .foldl fun _ _ => by
    split
    · exact .ite rejectHead_onward (.refl _)
    · exact .refl _

theorem resetEffect_onward {k : Nat} : Onward s (resetEffect k s) := by
  unfold resetEffect
  dsimp only
  split
  · exact .after ((updPart_touches _ _ _).onward rfl) cancelBind_onward
  · exact .after detach_onward
      (.after quiesce_onward
        (.after rejectNaming_onward (.after ((endAllRuns_touches _ _ _).onward rfl) cancelBind_onward)))

theorem unbindEffect_onward {k : Nat} : Onward s (unbindEffect k s) := by
  unfold unbindEffect
  split
  · exact .after detach_onward
      (.after rejectNaming_onward (.ite (.after quiesce_onward ((endAllRuns_touches _ _ _).onward rfl)) (.refl _)))
  · exact .refl _

theorem boundaryPart_onward {k : Nat} : Onward s (boundaryPart k s) := by
  unfold boundaryPart
  extract_lets p0 s1 s2 p
  have ended : Onward s s2 := by
    refine .after ((updPart_touches _ _ _).onward rfl) ?_
    unfold s1
    split
    · exact .ite ((endFrame_touches _ _ _ _).onward rfl)
        (.ite (.after ((dropWork_touches _ _).onward rfl) ((clearRun_touches _ _).onward rfl)) (.refl _))
    · exact .refl _
  refine .ite (.after resetEffect_onward ended) (.ite (.after unbindEffect_onward ended) ?_)
  split
  · exact .after bindBoundary_onward ended
  · exact .after (.ite parkedBoundary_onward (.ite parkPart_onward (.refl _)))
      (.after ((updPart_touches _ _ _).onward rfl) ended)

theorem groupBoundary_onward : Onward s (groupBoundary s) := by
  unfold groupBoundary
  split
  · exact .refl _
  · exact .ite (.after applySetting_onward (.upd (.refl _) rfl)) (.refl _)

theorem issueReads_onward {k : Nat} : Onward s (issueReads k s) := by
  unfold issueReads
  dsimp only
  split
  · exact .ite (.refl _)
      (by
        split
        · exact .refl _
        · exact emitAll_onward)
  · exact .refl _

theorem reshape_onward {k : Nat} {rc : Rect} : Onward s (reshape k rc s) :=
  .ite (.refl _)
    (.after ((setGate_touches _ _ _).onward rfl)
      (.layout (.after leaveRefresh_onward ((updPart_touches _ _ _).onward rfl))))

theorem layoutBoundary_onward : Onward s (layoutBoundary s) := by
  unfold layoutBoundary
  split
  · exact .refl _
  · exact .after ((setGate_touches _ _ _).onward rfl) (.after (.foldl fun _ _ => reshape_onward) (.upd (.refl _) rfl))

theorem screenRing_onward {fr : Nat × Nat} : Onward s (screenRing s fr) := by
  unfold screenRing
  dsimp only
  split
  · exact .refl _
  · split
    · exact rejectHead_onward
    · exact .ite (.after rejectHead_onward ((violation_touches _ _ _).onward rfl))
        (.ite rejectHead_onward (.ite rejectHead_onward ((updRing_touches _ _ _ _).onward rfl)))

theorem boundary_onward : Onward s (boundary s) :=
  .after (.foldl fun _ _ => issueReads_onward)
    (.after (.foldl fun _ _ => (judgeWindows_touches _ _).onward rfl)
      (.after (.foldl fun _ _ => (countIdle_touches _ _).onward rfl)
        (.after (.foldl fun _ _ => (choose_touches _ _).onward rfl)
          (.after (.foldl fun _ _ => screenRing_onward)
            (.after (.foldl fun _ _ => boundaryPart_onward)
              (.after layoutBoundary_onward (.after groupBoundary_onward (.upd (.refl _) rfl))))))))

theorem releaseTick_onward {fsf : Nat} {setting : Option (BitVec 9)} {resume : Bool} :
    Onward s (releaseTick fsf setting resume s) :=
  .after ((keepWaiting_touches _).onward rfl)
    (.after boundary_onward
      (.after ((rejoinParts_touches _ _).onward rfl)
        (by
          split
          · exact .after advanceFree_onward (.after ((countBy_touches _ _ _ _).onward rfl) (.upd (.refl _) rfl))
          · exact .after applySetting_onward
              (.lat (.after advanceFree_onward (.after ((countBy_touches _ _ _ _).onward rfl) (.upd (.refl _) rfl)))))))

theorem applyRelease_onward {r : Release} : Onward s (applyRelease r s) :=
  .after releaseTick_onward (.after (.ite ((markLate_touches _).onward rfl) (.refl _)) (.upd (.refl _) rfl))

theorem sendRelease_onward {r : Release} {delay : Nat} : Onward s (sendRelease r delay s) :=
  .foldl fun _ _ => by
    split
    · exact .refl _
    · exact sendCtrl_onward

theorem releaseBarrier_onward {late : Bool} : Onward s (releaseBarrier late s) :=
  .after sendRelease_onward (.upd (.refl _) rfl)

theorem arriveTry_onward : Onward s (arriveTry s) :=
  .ite (.ite releaseBarrier_onward (.ite (.upd (.refl _) rfl) (.refl _)))
    (.ite
      (by
        split
        · exact .refl _
        · exact .after sendCtrl_onward (.upd (.refl _) rfl))
      (.refl _))

theorem askPieces_onward {phase : Nat} {pieces : List Nat} {a : PoolAcc} : Onward s (askPieces phase pieces a s) :=
  .after (.foldl fun _ _ => .ite ((queueLocal_touches _ _ _).onward rfl) sendAcc_onward)
    ((setAcc_touches _ _).onward rfl)

theorem assignGo_onward {fuel : Nat} : Onward s (assignGo fuel s) := by
  induction fuel generalizing s with
  | zero => exact .refl _
  | succ fuel ih =>
    unfold assignGo
    split
    · exact .refl _
    · have writes : Onward s ((dirtyLines s).foldl (fun t k => startWrite k 3 t) s) :=
        .foldl fun _ _ => (startWrite_touches _ _ _).onward rfl
      exact .ite (.refl _) (.ite (.after ih (.after (.ite mciReply_onward (.after mciReply_onward
        ((assignRoles_touches _ _).onward rfl))) (.dense writes))) writes)

theorem attachFound_onward {who tag : Nat} {found : List DriveIn} : Onward s (attachFound who tag found s) :=
  .after (.ite mciReply_onward (.after mciReply_onward (.dense ((attachDrives_touches _ _).onward rfl))))
    (.foldl fun _ _ => (sendEvent_touches _ _).onward rfl)

theorem attachGo_onward {fuel : Nat} : Onward s (attachGo fuel s) := by
  induction fuel generalizing s with
  | zero => exact .refl _
  | succ fuel ih =>
    unfold attachGo
    split
    · exact .refl _
    · exact .ite (.after ih (.after (.ite mciReply_onward attachFound_onward) (.upd (.refl _) rfl))) (.refl _)

theorem fnAttention_onward {fn b : Nat} : Onward s (fnAttention fn b s) :=
  .after (.ite raiseVector_onward (.refl _)) ((updFn_touches _ _ _).onward rfl)

theorem badDoorbell_onward {fn ring : Nat} : Onward s (badDoorbell fn ring s) :=
  .after (.ite (.refl _) (.after ((sendEvent_touches _ _).onward rfl) ((updRing_touches _ _ _ _).onward rfl)))
    (.after fnAttention_onward ((countUp_touches _ _ _).onward rfl))

theorem barWrite_onward {fn : Nat} {act : State → State} (act_onward : ∀ u, Onward u (act u)) :
    Onward s (barWrite fn act s) :=
  .ite emit_onward (.ite (.refl _) (act_onward _))

theorem coldClear_onward : Onward s (coldClear s) := .upd (.refl _) rfl

theorem beginStart_onward {sIn : State} : Onward sIn (beginStart sIn) :=
  .clk_pins_boot_hbm_lanes_pm (.ite coldClear_onward (.refl _)) rfl

theorem sendAll_onward {except : Option Nat} {x : Nat} : Onward s (sendAll except x s) :=
  .foldl fun _ _ => .ite (.refl _) sendCtrl_onward

theorem floodOwn_onward {msg body : Nat} : Onward s (floodOwn msg body s) := .after sendAll_onward (.upd (.refl _) rfl)

theorem joinGroup_onward : Onward s (joinGroup s) :=
  .ite (.upd (.refl _) rfl) (.ite (.refl _) (.after floodOwn_onward (.upd (.refl _) rfl)))

theorem bringUp_onward {port msg : Nat} : Onward s (bringUp port msg s) :=
  .after (.ite joinGroup_onward (.refl _))
    (.after (.ite (.after ((noteRestored_touches _ _ _).onward rfl) floodOwn_onward) (.refl _))
      ((updPort_touches _ _ _).onward rfl))

theorem capture_onward : Onward s (capture s) := .upd (.refl _) rfl

theorem evtAttention_onward {sev : Nat} : Onward s (evtAttention sev s) :=
  .ite (.after (.ite raiseVector_onward (.refl _)) (.upd (.refl _) rfl)) (.refl _)

theorem logExt_onward {reason sev unit detail src : Nat} {repl : Bool} {ext : Nat} :
    Onward s (logExt reason sev unit detail src repl ext s) :=
  .after (.ite ((mpPersist_touches _ _ _).onward rfl) (.refl _))
    (.after (.ite (.after (.ite ((countUp_touches _ _ _).onward rfl) (.refl _)) (.logs (.refl _))) (.refl _))
      (.after evtAttention_onward (.upd (.refl _) rfl)))

theorem logEntry_onward {reason sev unit detail src : Nat} {repl : Bool} :
    Onward s (logEntry reason sev unit detail src repl s) :=
  logExt_onward

theorem mpEvent_onward {reason sev unit detail : Nat} : Onward s (mpEvent reason sev unit detail s) := logEntry_onward

theorem invalidate_onward {n why : Nat} : Onward s (invalidate n why s) :=
  .after mpEvent_onward
    (.after ((setSlot_touches _ _ _).onward rfl)
      (.foldl fun _ _ =>
        .after (.ite (.after detach_onward (.after quiesce_onward ((endAllRuns_touches _ _ _).onward rfl))) (.refl _))
          (.ite cancelBind_onward (.refl _))))

theorem checkImage_onward {n : Nat} : Onward s (checkImage s n) :=
  .ite (.refl _)
    (.ite invalidate_onward
      (by
        split
        · exact .refl _
        · exact invalidate_onward))

theorem checkImages_onward : Onward s (checkImages s) := .foldl fun _ _ => checkImage_onward

theorem settle_onward : Onward s (settle s) := .ite (.refl _) boundary_onward

theorem switchFn_onward {gen : BitVec 64} {fn : Nat} : Onward s (switchFn gen s fn) :=
  .after fnAttention_onward (.after ((updFn_touches _ _ _).onward rfl) (.upd (.refl _) rfl))

theorem switchFns_onward {fns : List Nat} : Onward s (switchFns fns s) :=
  .after (.foldl fun _ _ => switchFn_onward) (.win settle_onward)

theorem clearVfWindows_onward : Onward s (clearVfWindows s) := .after switchFns_onward (.upd (.refl _) rfl)

theorem restHbm_onward : Onward s (restHbm s) := .after emitAll_onward (.upd (.refl _) rfl)

theorem stopModule_onward : Onward s (stopModule s) :=
  .clk_pins_logs_counters (.after ((restMp_touches _).onward rfl)
    (.after ((restLanes_touches _).onward rfl)
      (.after ((restLattice_touches _).onward rfl)
        (.after ((restPool_touches _).onward rfl)
          (.after ((restDense_touches _).onward rfl)
            (.after restHbm_onward ((clearPlane_touches _).onward rfl))))))) rfl

theorem fatalStop_onward : Onward s (fatalStop s) := .boot stopModule_onward

theorem clockLossNow_onward {src : Nat} : Onward s (clockLossNow src s) :=
  .clk_boot (.after fatalStop_onward ((fatalEvent_touches _ _ _).onward rfl)) rfl

theorem dropRegulators_onward : Onward s (dropRegulators s) := .upd (.refl _) rfl

theorem coldEntry_onward : Onward s (coldEntry s) :=
  .ite (.after ((raiseRegulators_touches _).onward rfl) dropRegulators_onward) (.refl _)

theorem commandEnd_onward {x : PoolCmd} {sIn : State} : Onward sIn (commandEnd x sIn) := by
  unfold commandEnd
  dsimp only
  split
  · exact .after ((updateBoxes_touches _).onward rfl)
      (.after ((updMail_touches _ _ _ _).onward rfl) (.upd (.refl _) rfl))
  · split
    · exact .upd (.refl _) rfl
    · exact .after completeOutst_onward (.upd (.refl _) rfl)
  · exact .after ((sendRsp_touches _ _ _ _ _ _ _ _ _ _).onward rfl) (.upd (.refl _) rfl)

theorem stageRead_onward {fn ticket off : Nat} {d : LineData} {poison : Bool} {fail : Option Nat} :
    Onward s (stageRead fn ticket off d poison fail s) := by
  unfold stageRead
  split
  · exact .refl _
  · exact .after emit_onward ((updStage_touches _ _ _ _).onward rfl)

theorem ctlAnswer_onward {o : Origin} {router status : Nat} {write : Bool} {d : LineData} :
    Onward s (ctlAnswer o router status write d s) := by
  unfold ctlAnswer
  split
  · exact emit_onward
  · exact .ite ((stageWritten_touches _ _ _ _).onward rfl) stageRead_onward
  · exact .refl _

theorem commitAccess_onward {q : CtlReq} {sIn : State} : Onward sIn (commitAccess q sIn) :=
  .after
    (.ite
      (.after ctlAnswer_onward
        (.after ((noteControl_touches _ _ _).onward rfl) ((storeLine_touches _ _ _ _ _ _ _).onward rfl)))
      (.after ctlAnswer_onward ((countErrors_touches _ _ _ _ _ _).onward rfl)))
    (.ite (.refl _) ((injectLine_touches _ _ _).onward rfl))

theorem completeToken_onward {region : Nat} {good : Bool} : Onward s (completeToken region good s) :=
  .after replicate_onward ((updRegion_touches _ _ _).onward rfl)

theorem consentTo_onward {c : Consent} : Onward s (consentTo c s) :=
  .after (.ite (.refl _) mpEvent_onward) (.upd (.refl _) rfl)

theorem pwrAttention_onward {b : Nat} : Onward s (pwrAttention b s) :=
  .after (.ite raiseVector_onward (.refl _)) (.upd (.refl _) rfl)

theorem countBrake_onward : Onward s (countBrake s) :=
  .after pwrAttention_onward (.after ((countUp_touches _ _ _).onward rfl) (.upd (.refl _) rfl))

theorem cqDoorbell_onward {fn ring : Nat} {value : BitVec 32} : Onward s (cqDoorbell fn ring value s) :=
  .ite badDoorbell_onward (.after ((settleFlush_touches _ _ _).onward rfl) ((updRing_touches _ _ _ _).onward rfl))

theorem tableFailure_onward {opx : Nat} : Onward s (tableFailure opx s) :=
  .ite
    (.after replicate_onward (.after ((updRegion_touches _ _ _).onward rfl) ((releaseExtents_touches _ _).onward rfl)))
    (.refl _)

theorem tableSuccess_onward {opx : Nat} : Onward s (tableSuccess opx s) :=
  .ite (.refl _)
    (.ite (.after replicate_onward ((updRegion_touches _ _ _).onward rfl))
      (.after replicate_onward ((updRegion_touches _ _ _).onward rfl)))

theorem tableReply_onward {ref status : Nat} : Onward s (tableReply ref status s) := by
  unfold tableReply
  split
  · exact .refl _
  · exact .ite (.after answerTable_onward (.after tableFailure_onward (.upd (.refl _) rfl)))
      (.ite (.after answerTable_onward (.after tableSuccess_onward (.upd (.refl _) rfl))) (.upd (.refl _) rfl))

theorem tableWait_onward {who opx tag left : Nat} : Onward s (tableWait who opx tag left s) :=
  .after (.ite tableReply_onward (.refl _)) (.upd (.refl _) rfl)

theorem orderAll_onward {kind : Nat} {ms : List Nat} {who opx tag x : Nat} :
    Onward s (orderAll kind ms who opx tag x s) :=
  .after tableWait_onward (.foldl fun _ _ => sendTable_onward)

theorem createRun_onward {who tag x : Nat} : Onward s (createRun who tag x s) :=
  .ite answerTable_onward
    (.ite
      (by
        split
        · exact answerTable_onward
        · exact .after orderAll_onward ((allocHere_touches _ _ (by assumption)).onward rfl))
      (.after orderAll_onward ((updRegion_touches _ _ _).onward rfl)))

theorem ctlArrive_onward {router line : Nat} {write : Bool} {data : LineData} {mask : LineMask} {o : Origin} :
    Onward s (ctlArrive router line write data mask o s) := by
  unfold ctlArrive
  split
  · exact .after ctlAnswer_onward ((drawLine_touches _).onward rfl)
  · exact (queueCtl_touches _ _ _ _ _ _ _).onward rfl

theorem deadRouter_onward {n : Nat} : Onward s (deadRouter n s) :=
  .ite (.after mpEvent_onward (.upd (.refl _) rfl)) (.refl _)

theorem declareLost_onward {m : Nat} : Onward s (declareLost m s) :=
  .ite (.refl _) (.after (.ite floodOwn_onward (.refl _)) (.after mpEvent_onward (.upd (.refl _) rfl)))

theorem deleteHere_onward {region : Nat} : Onward s (deleteHere region s) :=
  .after ((bumpGen_touches _).onward rfl) (.after aclInForce_onward ((updRegion_touches _ _ _).onward rfl))

theorem deleteRun_onward {who tag x : Nat} : Onward s (deleteRun who tag x s) :=
  .ite answerTable_onward (.after orderAll_onward deleteHere_onward)

theorem flushEnds_onward {good : Bool} {f : DenseFlush} : Onward s (flushEnds good f s) := by
  unfold flushEnds
  split
  · exact mciReply_onward
  · exact (updRegion_touches _ _ _).onward rfl

theorem sendDrive_onward {d cmd b data : Nat} : Onward s (sendDrive d cmd b data s) := by
  unfold sendDrive
  split
  · exact .after emit_onward ((updDrive_touches _ _ _).onward rfl)
  · exact (updDrive_touches _ _ _).onward rfl

theorem flushOne_onward {f : DenseFlush} : Onward s (flushOne f s) :=
  .after (.ite (.after flushEnds_onward (.dense (.refl _))) (.refl _))
    (.after (.ite (.foldl fun _ _ => sendDrive_onward) (.refl _))
      (.dense (.foldl fun _ _ => by
        split
        · exact .ite ((startWrite_touches _ _ _).onward rfl) (.refl _)
        · exact .refl _)))

theorem flushGo_onward : Onward s (flushGo s) := .foldl fun _ _ => flushOne_onward

theorem denseGo_onward {sIn : State} : Onward sIn (denseGo sIn) :=
  .after attachGo_onward (.after assignGo_onward flushGo_onward)

theorem gatherAcc_onward {a : PoolAcc} {pieces : List Nat} : Onward s (gatherAcc a pieces s) :=
  .ite finishAcc_onward askPieces_onward

theorem gathered_onward {a : PoolAcc} : Onward s (gathered a s) :=
  .ite (.after ((queueLocal_touches _ _ _).onward rfl) ((setAcc_touches _ _).onward rfl))
    (.ite (.after ((queueLocal_touches _ _ _).onward rfl) ((setAcc_touches _ _).onward rfl)) finishAcc_onward)

theorem pieceOf_onward {a : PoolAcc} {d : LineData} {poison : Bool} : Onward s (pieceOf a d poison s) :=
  .ite (.ite askPieces_onward (.after gathered_onward ((setAcc_touches _ _).onward rfl)))
    ((setAcc_touches _ _).onward rfl)

theorem routeAcc_onward {a : PoolAcc} : Onward s (routeAcc a s) :=
  .ite finishAcc_onward
    (.ite ((setAcc_touches _ _).onward rfl)
      (.ite (.ite finishAcc_onward (.ite gatherAcc_onward (.after sendAcc_onward ((setAcc_touches _ _).onward rfl))))
        (.ite (.after ((queueLocal_touches _ _ _).onward rfl) ((setAcc_touches _ _).onward rfl))
          (.after sendAcc_onward ((setAcc_touches _ _).onward rfl)))))

theorem unlockStripe_onward {region : Nat} : Onward s (unlockStripe region s) :=
  .foldl fun _ _ =>
    .ite (.refl _)
      (.ite routeAcc_onward (.after ((queueLocal_touches _ _ _).onward rfl) ((setAcc_touches _ _).onward rfl)))

theorem poolServe_onward {id : Nat} {rd : State → Beat × State} {wr : LineData → Bool → State → State}
    {unc : Bool} {fail : Option Nat} (rd_onward : ∀ u, Onward u (rd u).2) (wr_onward : ∀ a b u, Onward u (wr a b u)) :
    Onward s (poolServe id rd wr unc fail s) := by
  unfold poolServe
  split
  · exact .refl _
  · split
    · exact .ite pieceOf_onward (.ite finishAcc_onward (.ite gatherAcc_onward finishAcc_onward))
    · exact .ite (.after pieceOf_onward (rd_onward _))
        (.ite (.after unlockStripe_onward (.after finishAcc_onward (wr_onward _ _ _)))
          (.ite (.after finishAcc_onward (.after (wr_onward _ _ _) (rd_onward _)))
            (.ite (.after finishAcc_onward (rd_onward _))
              (.ite (.after afterWrite_onward (.after (wr_onward _ _ _) (.iteSnd (rd_onward _) (.refl _))))
                (.after (.ite gatherAcc_onward finishAcc_onward) (rd_onward _))))))

theorem serveLines_onward {n : Nat} {f : Nat → State → State} (f_onward : ∀ a u, Onward u (f a u)) :
    Onward s (serveLines n f s) :=
  .foldl fun _ _ => f_onward _ _

theorem failReq_onward {q : DReq} : Onward s (failReq q s) := by
  unfold failReq
  split
  · exact serveLines_onward fun _ _ =>
      .ite ((stageWritten_touches _ _ _ _).onward rfl) (.after stageRead_onward ((drawLine_touches _).onward rfl))
  · exact poolServe_onward (fun _ => .refl _) fun _ _ _ => .refl _
  · exact .refl _

theorem driveCommand_onward {cmd b data : Nat} : Onward s (driveCommand cmd b data s) := sendDrive_onward

theorem readBlock_onward {m : MissEntry} : Onward s (readBlock m s) :=
  .after driveCommand_onward ((setMiss_touches _ _).onward rfl)

theorem fillLine_onward {m : MissEntry} : Onward s (fillLine m s) := by
  unfold fillLine
  split
  · exact .after
      (.ite (.after ((queueCache_touches _ _ _).onward rfl) ((setMiss_touches _ _).onward rfl)) readBlock_onward)
      (.after ((updLine_touches _ _ _).onward rfl) (.upd (.refl _) rfl))
  · exact .after readBlock_onward (.after ((updLine_touches _ _ _).onward rfl) (.upd (.refl _) rfl))

theorem startMiss_onward {q : DReq} {k : Nat} : Onward s (startMiss q k s) :=
  .after (.ite ((startWrite_touches _ _ _).onward rfl) fillLine_onward) (.upd (.refl _) rfl)

theorem denseServe_onward {q : DReq} : Onward s (denseServe q s) := by
  unfold denseServe
  split
  · exact failReq_onward
  · exact .after ((queueCache_touches _ _ _).onward rfl) ((useLine_touches _ _).onward rfl)
  · exact (setMiss_touches _ _).onward rfl
  · exact startMiss_onward
  · exact .upd (.refl _) rfl

theorem startAcc_onward {for_ : PoolFor} {region member off : Nat} {write : Bool} {d : LineData} {poison : Bool}
    {phase : Nat} : Onward s (startAcc for_ region member off write d poison phase s) :=
  .after
    (.ite (.ite ((setAcc_touches _ _).onward rfl) ((queueLocal_touches _ _ _).onward rfl))
      (.ite ((queueLocal_touches _ _ _).onward rfl) (.ite (.refl _) (.ite gatherAcc_onward routeAcc_onward))))
    (.upd (.refl _) rfl)

theorem destLine_onward {id region o : Nat} {d : LineData} : Onward s (destLine id region o d s) := by
  unfold destLine
  exact .after startAcc_onward ((updCmd_touches _ _ _).onward rfl)

theorem driveEnds_onward {d : Nat} {c : DriveCmd} : Onward s (driveEnds d c s) := by
  unfold driveEnds
  dsimp only
  split
  · exact (updDrive_touches _ _ _).onward rfl
  · exact .after sendDrive_onward (.after ((updDrive_touches _ _ _).onward rfl) ((updDrive_touches _ _ _).onward rfl))

theorem lostPart_onward {q : OutReq} : Onward s (lostPart q s) := by
  unfold lostPart
  split
  · exact (updCmd_touches _ _ _).onward rfl
  · exact (updCmd_touches _ _ _).onward rfl
  · exact tableReply_onward
  · exact .refl _

theorem dropRequests_onward {m : Nat} : Onward s (dropRequests m s) :=
  .after (.foldl fun _ _ => lostPart_onward) (.upd (.refl _) rfl)

theorem stsAttention_onward {b : Nat} : Onward s (stsAttention b s) :=
  .after (.ite raiseVector_onward (.refl _)) (.upd (.refl _) rfl)

theorem notify_onward {cls reason unit : Nat} : Onward s (notify cls reason unit s) :=
  .after stsAttention_onward emitAll_onward

theorem recheckVet_onward : Onward s (recheckVet s) := by
  have noted (v : Fw) : Onward s (noteVet s { s with fw := v }) :=
    .after ((noteVet_touches _ _).onward rfl) (.upd (.refl _) rfl)
  unfold recheckVet
  dsimp only
  exact .ite (noted _) (.ite (.after notify_onward (.after mpEvent_onward (.lat (noted _))))
    (.after notify_onward (noted _)))

theorem tileCombination_onward : Onward s (tileCombination s) :=
  .after (.ite (.refl _) recheckVet_onward) (.upd (.refl _) rfl)

theorem dropTile_onward {t reason : Nat} : Onward s (dropTile t reason s) :=
  .after tileCombination_onward (.fmap ((updTile_touches _ _ _).onward rfl))

theorem enterRecovery_onward : Onward s (enterRecovery s) := .after mpEvent_onward (.upd (.refl _) rfl)

theorem enterReset_onward : Onward s (enterReset s) :=
  .boot (.after ((restPm_touches _).onward rfl)
    (.after stopModule_onward
      (.after ((closeBrake_touches _).onward rfl) (.ite ((writeSummary_touches _).onward rfl) (.refl _)))))

theorem rerouteLost_onward {m region : Nat} : Onward s (rerouteLost m region s) :=
  .after
    (.foldl fun _ _ => by
      split
      · exact .refl _
      · exact .ite finishAcc_onward (.ite finishAcc_onward (.ite routeAcc_onward finishAcc_onward)))
    (.upd (.refl _) rfl)

theorem entryHere_onward {src region x : Nat} : Onward s (entryHere src region x s) :=
  .ite (.after ((updRegion_touches _ _ _).onward rfl) ((releaseExtents_touches _ _).onward rfl))
    (.after unlockStripe_onward
      (by
        split
        · exact .after (.ite (.refl _) rerouteLost_onward) ((updRegion_touches _ _ _).onward rfl)
        · exact .ite (.refl _) ((updRegion_touches _ _ _).onward rfl)))

theorem mciDuplicate_onward {op : Nat} {q : MciReq} : Onward s (mciDuplicate op q s) := mciDeliver_onward

theorem mciStatus_onward {op : Nat} {q : MciReq} {status : Nat} : Onward s (mciStatus op q status s) := mciAnswer_onward

theorem mciRun_onward {op : Nat} {lenOk paramOk : Bool} {q : MciReq} {act : State → State}
    (act_onward : ∀ u, Onward u (act u)) : Onward s (mciRun op lenOk paramOk q act s) :=
  .ite (.refl _)
    (by
      split
      · exact .ite mciDuplicate_onward mciStatus_onward
      · exact act_onward _)

theorem mciFixed_onward {op len : Nat} {fields : List
    (Nat × Nat)} {rangeOk : Bool} {q : MciReq} {act : State → State} (act_onward : ∀ u, Onward u (act u)) :
    Onward s (mciFixed op len fields rangeOk q act s) :=
  mciRun_onward fun _ => act_onward _

theorem mciQuery_onward {op : Nat} {q : MciReq} {content : List Nat} : Onward s (mciQuery op q content s) :=
  mciAnswer_onward

theorem errlogCommand_onward {q : MciReq} : Onward s (errlogCommand q s) :=
  mciFixed_onward fun _ =>
    .ite mciStatus_onward (.after (.ite ((eraseErrlog_touches _).onward rfl) (.refl _)) mciQuery_onward)

theorem raiseRequest_onward {reason unit : Nat} : Onward s (raiseRequest reason unit s) :=
  .after notify_onward (.after logEntry_onward (.upd (.refl _) rfl))

theorem evaluateRequests_onward : Onward s (evaluateRequests s) :=
  .ite (.foldl fun _ _ => .ite (.refl _) raiseRequest_onward) (.refl _)

theorem evaluateFor_onward {pair : Nat × Nat} {c : Bool} : Onward s (evaluateFor pair c s) :=
  .ite evaluateRequests_onward (.refl _)

theorem extentsDone_onward {region : Nat} : Onward s (extentsDone region s) := .ite (.refl _) sendTable_onward

theorem failDrive_onward {d : Nat} : Onward s (failDrive d s) := by
  unfold failDrive
  dsimp only
  exact .ite (.refl _)
    (.after denseGo_onward
      (.after ((updDrive_touches _ _ _).onward rfl)
        (.dense_pool (.after
          (.foldl fun _ _ => .after (.foldl fun _ _ => failReq_onward) ((dropMiss_touches _ _).onward rfl))
          (.after (.foldl fun _ _ => (releasePins_touches _ _ _).onward rfl)
            (.after ((dropJobs_touches _ _).onward rfl)
              (.dense (.after (.foldl fun _ _ => (updLine_touches _ _ _).onward rfl)
                (.after ((sendEvent_touches _ _).onward rfl)
                  (.after ((updDrive_touches _ _ _).onward rfl) (.upd (.refl _) rfl)))))))))))

theorem judgeLost_onward {ms : List Nat} : Onward s (judgeLost ms s) :=
  .foldl fun _ _ => .ite declareLost_onward (.refl _)

theorem noteFailed_onward {m port : Nat} : Onward s (noteFailed m port s) :=
  .after judgeLost_onward (.upd (.refl _) rfl)

theorem failPort_onward {port : Nat} : Onward s (failPort port s) :=
  .after noteFailed_onward
    (.after floodOwn_onward (.after ((blockFault_touches _ _ _ _ _ _).onward rfl) ((updPort_touches _ _ _).onward rfl)))

theorem failTile_onward {t reason detail : Nat} : Onward s (failTile t reason detail s) :=
  .after dropTile_onward mpEvent_onward

theorem fwSetState_onward {k st : Nat} : Onward s (fwSetState k st s) :=
  .after (.ite (.refl _) notify_onward) (.upd (.refl _) rfl)

theorem revertSlot_onward {k : Nat} : Onward s (revertSlot k s) :=
  .after mpEvent_onward (.fw (.after ((bootRecord_touches _ _ _ _).onward rfl) fwSetState_onward))

theorem failedBoot_onward : Onward s (failedBoot s) :=
  .ite ((bootRecord_touches _ _ _ _).onward rfl)
    (.ite revertSlot_onward (.after enterRecovery_onward (.after fwSetState_onward (.ite fwSetState_onward (.refl _)))))

theorem fieldWrite_onward {e : Nat} : Onward s (fieldWrite e s) :=
  .ite (.refl _) (.ite (.upd (.refl _) rfl) (.ite (.refl _) (.after mpEvent_onward (.upd (.refl _) rfl))))

theorem fieldWrites_onward : Onward s (fieldWrites s) := .ite (.refl _) (.foldl fun _ _ => fieldWrite_onward)

theorem runToLoop_onward {fuel target : Nat} : Onward s (runToLoop fuel target s) := by
  induction fuel generalizing s with
  | zero => exact .refl _
  | succ fuel ih =>
    unfold runToLoop
    exact .ite (.after advanceTo_onward settle_onward) (.after ih (.after advanceTo_onward settle_onward))

theorem runTo_onward {target : Nat} : Onward s (runTo target s) := runToLoop_onward

theorem fillRun_onward : Onward s (fillRun s) := runTo_onward

theorem wire_onward {port : Nat} {f : Flit} {seq : Nat} : Onward s (wire port f seq s) :=
  .after emit_onward (.after ((countUp_touches _ _ _).onward rfl) ((updPort_touches _ _ _).onward rfl))

theorem fillSlot_onward {port : Nat} : Onward s (fillSlot port s) := by
  unfold fillSlot
  dsimp only
  split
  · exact .ite (.after wire_onward (.after ((noteLoad_touches _ _ _).onward rfl) ((updPort_touches _ _ _).onward rfl)))
      (.refl _)
  · exact .ite (.refl _)
      (by
        split
        · exact .refl _
        · exact .after wire_onward (.after ((noteLoad_touches _ _ _).onward rfl) ((updPort_touches _ _ _).onward rfl)))

theorem poisonReq_onward {q : DReq} : Onward s (poisonReq q s) :=
  .ite failReq_onward
    (by
      split
      · exact serveLines_onward fun _ _ => .after stageRead_onward ((drawLine_touches _).onward rfl)
      · exact poolServe_onward (fun _ => .refl _) fun _ _ _ => .refl _
      · exact .refl _)

theorem filled_onward {b data : Nat} {error : Bool} : Onward s (filled b data error s) := by
  unfold filled
  split
  · exact .refl _
  · exact .ite
      (.after (.foldl fun _ _ => poisonReq_onward)
        (.after ((updLine_touches _ _ _).onward rfl) ((dropMiss_touches _ _).onward rfl)))
      (.after ((queueCache_touches _ _ _).onward rfl) ((setMiss_touches _ _).onward rfl))

theorem floodOn_onward {port x : Nat} : Onward s (floodOn port x s) := .after sendAll_onward (.upd (.refl _) rfl)

theorem flushAborted_onward {d : Nat} : Onward s (flushAborted d s) := by
  unfold flushAborted
  split
  · exact .refl _
  · exact .after flushEnds_onward (.upd (.refl _) rfl)

theorem tokenFlush_onward {region t : Nat} : Onward s (tokenFlush region t s) :=
  .after denseGo_onward (.upd (.refl _) rfl)

theorem flushToken_onward {region : Nat} : Onward s (flushToken region s).2 :=
  .iteSnd (.refl _)
    (.after (.ite (.ite completeToken_onward (.refl _)) (.after tokenFlush_onward replicate_onward))
      ((updRegion_touches _ _ _).onward rfl))

theorem fuseCluster_onward {router : Nat} : Onward s (fuseCluster router s) :=
  .after (.ite (.refl _) mpEvent_onward) (.upd (.refl _) rfl)

theorem fwActivate_onward {k : Nat} : Onward s (fwActivate k s) :=
  .after ((bootRecord_touches _ _ _ _).onward rfl) (.after fwSetState_onward (.ite (.refl _) fwSetState_onward))

theorem fwWrite_onward {q : MciReq} {k off len data : Nat} {last : Bool} :
    Onward s (fwWrite q k off len data last s) :=
  .ite mciStatus_onward
    (.ite mciStatus_onward
      (.ite mciStatus_onward (.after mciStatus_onward (.after fwSetState_onward (.upd (.refl _) rfl)))))

theorem hardRepair_onward {e : Nat × Nat} : Onward s (hardRepair e s) :=
  .after mpEvent_onward ((updPcs_touches _ _ _).onward rfl)

theorem hardRepairs_onward : Onward s (hardRepairs s) := .ite (.foldl fun _ _ => hardRepair_onward) (.refl _)

theorem hostRead_onward {pbr tag : Nat} {region : Option Nat} {off : Nat} :
    Onward s (hostRead pbr tag region off s) := by
  unfold hostRead
  split
  · exact cxlAnswer_onward
  · exact .ite (.after cxlAnswer_onward ((denial_touches _ _).onward rfl)) (.ite cxlAnswer_onward startAcc_onward)

theorem hostWrite_onward {pbr tag : Nat} {region : Option Nat} {off : Nat} {d : LineData} {poison : Bool} :
    Onward s (hostWrite pbr tag region off d poison s) := by
  unfold hostWrite
  split
  · exact cxlAnswer_onward
  · exact .ite (.after cxlAnswer_onward ((denial_touches _ _).onward rfl)) (.ite cxlAnswer_onward startAcc_onward)

theorem identDone_onward {t : Nat} : Onward s (identDone t s) := by
  unfold identDone
  dsimp only
  split
  · exact .after failTile_onward (.ite (.refl _) mpEvent_onward)
  · exact .after ((updTile_touches _ _ _).onward rfl) (.ite (.refl _) mpEvent_onward)

theorem passPs_onward {ps : Nat} : Onward s (passPs ps s) :=
  ⟨rfl, List.prefix_rfl, Nat.le_add_right _ _⟩

theorem passCrumb_onward : Onward s (passCrumb s) := .clk passPs_onward rfl

theorem idle_onward : Onward s (idle s) :=
  .ite (.after (.ite passCrumb_onward advance_onward) settle_onward) passPs_onward

theorem informReturned_onward {m : Nat} : Onward s (informReturned m s) :=
  .ite (.refl _) (.foldl fun _ _ => .after sendTable_onward sendTable_onward)

theorem lanesAcked_onward {t : Nat} : Onward s (lanesAcked t s) :=
  .ite (.after sendLanes_onward ((updTile_touches _ _ _).onward rfl)) ((updTile_touches _ _ _).onward rfl)

theorem lapse_onward : Onward s (lapse s) :=
  .after joinGroup_onward
    (.after ((countUp_touches _ _ _).onward rfl) (.after mpEvent_onward (.upd (.refl _) rfl)))

theorem loadFails_onward {n status detail report answer : Nat} :
    Onward s (loadFails n status detail report answer s) :=
  .after mciReply_onward ((setSlot_touches _ _ _).onward rfl)

theorem loseMember_onward {region m : Nat} : Onward s (loseMember region m s) :=
  .after unlockStripe_onward
    (.after rerouteLost_onward (.after (.ite (.refl _) mpEvent_onward) ((updRegion_touches _ _ _).onward rfl)))

theorem mciReserved_onward {op : Nat} {q : MciReq} : Onward s (mciReserved op q s) :=
  .ite (.refl _) (.ite mciDuplicate_onward mciStatus_onward)

theorem noteExcursions_onward : Onward s (noteExcursions s) :=
  .pm (.foldl fun _ _ => .after pwrAttention_onward ((sendEvent_touches _ _).onward rfl))

theorem measure_onward {m : PowerIn} : Onward s (measure m s) :=
  .after (.ite evaluateRequests_onward (.refl _))
    (.after noteExcursions_onward
      (.after ((countBy_touches _ _ _ _).onward rfl) (.pm (.ite pwrAttention_onward (.refl _)))))

theorem memWrite_onward {pbr tag : Nat} {region : Option Nat} {off : Nat} {data : LineData} {poison : Bool} :
    Onward s (memWrite pbr tag region off data poison s) :=
  .after hostWrite_onward (.ite ((mailCommand_touches _ _ _ _).onward rfl) (.refl _))

theorem mergeFaultMap_onward : Onward s (mergeFaultMap s) :=
  .after evaluateRequests_onward
    (.after notify_onward
      (.after checkImages_onward
        (.after ((noteRetrained_touches _).onward rfl)
          (.fmap (.after (.foldl fun _ _ => fuseCluster_onward)
            (.after fieldWrites_onward (.foldl fun _ _ => consentTo_onward)))))))

theorem mpOnlyReset_onward {detail : Nat} : Onward s (mpOnlyReset detail s) :=
  .win_fw (.after ((abortLoads_touches _).onward rfl)
    (.after (.foldl fun _ _ => answerReset_onward) (.after mpEvent_onward (.upd (.refl _) rfl))))

theorem rejoinGroup_onward : Onward s (rejoinGroup s) := .ite joinGroup_onward (.refl _)

theorem startPm_onward : Onward s (startPm s) := .after (.ite countBrake_onward (.refl _)) (.upd (.refl _) rfl)

theorem mpReady_onward : Onward s (mpReady s) :=
  .after evaluateRequests_onward
    (.after stsAttention_onward
      (.after rejoinGroup_onward
        (.after recheckVet_onward
          (.after answerMailbox_onward
            (.after ((persistHeld_touches _).onward rfl)
              (.after (.ite startPm_onward (.refl _))
                (.after (.foldl fun _ _ => (runPackage_touches _ _).onward rfl) (.upd (.refl _) rfl))))))))

theorem noteAbort_onward {drive : Nat} : Onward s (noteAbort drive s) := by
  unfold noteAbort
  exact .after (.ite failDrive_onward (.refl _))
    (.after ((sendEvent_touches _ _).onward rfl) ((updDrive_touches _ _ _).onward rfl))

theorem notePartial_onward {late : Bool} : Onward s (notePartial late s) :=
  .ite (.after ((countUp_touches _ _ _).onward rfl) mpEvent_onward) (.refl _)

theorem noteShort_onward {m : PowerIn} : Onward s (noteShort m s) :=
  .pm (.after (.ite (.after pwrAttention_onward ((sendEvent_touches _ _).onward rfl)) (.refl _))
    (.ite (.after pwrAttention_onward ((sendEvent_touches _ _).onward rfl)) (.refl _)))

theorem noteUnclean_onward : Onward s (noteUnclean s) := .boot (.ite (.refl _) mpEvent_onward)

theorem poolReply_onward {id : Nat} {d : LineData} {poison : Bool} {status : Nat} :
    Onward s (poolReply id d poison status s) := by
  unfold poolReply
  split
  · exact .refl _
  · exact .ite pieceOf_onward finishAcc_onward

theorem rejectPool_onward {fn x status result : Nat} : Onward s (rejectPool fn x status result s) :=
  .after postCompletion_onward ((updRing_touches _ _ _ _).onward rfl)

theorem poolStart_onward {fn x : Nat} : Onward s (poolStart fn x s) :=
  .ite (.after rejectPool_onward ((violation_touches _ _ _).onward rfl))
    (by
      split
      · exact rejectPool_onward
      · exact .after ((queueCmd_touches _ _ _ _).onward rfl) ((consume_touches _ _ _ _).onward rfl))

theorem poolSwitch_onward {ref : Nat} : Onward s (poolSwitch ref s).2 :=
  .after (.foldl fun _ _ => .foldl fun _ _ => sendTable_onward)
    (.after (.foldl fun _ _ => aclInForce_onward) (.upd (.refl _) rfl))

theorem portReset_onward {port : Nat} : Onward s (portReset port s) :=
  .ite
    (.after clearVfWindows_onward
      (.after ((clearPortRws_touches _ _).onward rfl) (.after ((flrAll_touches _ _).onward rfl) (.upd (.refl _) rfl))))
    (.after (.ite ((discardCxl_touches _).onward rfl) (.refl _))
      (.after ((clearPortRws_touches _ _).onward rfl) ((flrAll_touches _ _).onward rfl)))

theorem readAborted_onward {b : Nat} : Onward s (readAborted b s) := by
  unfold readAborted
  split
  · exact .refl _
  · exact .after (.foldl fun _ _ => failReq_onward)
      (.after ((updLine_touches _ _ _).onward rfl) ((dropMiss_touches _ _).onward rfl))

theorem rebuildAtLine_onward {src region off : Nat} : Onward s (rebuildAtLine src region off s) :=
  .ite (.after unlockStripe_onward ((updRegion_touches _ _ _).onward rfl)) (.refl _)

theorem recordPower_onward : Onward s (recordPower s) := by
  unfold recordPower
  split
  · exact .refl _
  · exact .after (.ite (.refl _) (.logs (.refl _))) (.after logExt_onward (.upd (.refl _) rfl))

theorem replaceRun_onward {who tag x : Nat} : Onward s (replaceRun who tag x s) :=
  .ite answerTable_onward
    (.ite answerTable_onward
      (.ite
        (by
          split
          · exact answerTable_onward
          · exact .after orderAll_onward ((allocHere_touches _ _ (by assumption)).onward rfl))
        orderAll_onward))

theorem regionRun_onward {op who tag x : Nat} : Onward s (regionRun op who tag x s) := by
  unfold regionRun
  split
  · exact .ite createRun_onward replaceRun_onward
  · exact deleteRun_onward
  · exact accessRun_onward

theorem regionCommand_onward {op : Nat} {q : MciReq} : Onward s (regionCommand op q s) :=
  .after (.ite regionRun_onward (.after tableWait_onward sendTable_onward)) ((mciHold_touches _ _ _).onward rfl)

theorem releasePart_onward {k : Nat} : Onward s (releasePart k s) :=
  .ite (.after ((updPart_touches _ _ _).onward rfl) quiesce_onward) (.refl _)

theorem repairChannel_onward {stack : Nat} {c : ChannelTrain} : Onward s (repairChannel stack s c) :=
  .after
    (.ite (.refl _)
      (.after (.foldl fun _ _ => mpEvent_onward) (.after ((deadenPcs_touches _ _).onward rfl) (.lanes (.refl _)))))
    ((calValid_touches _ _ _).onward rfl)

theorem sendBoot_onward {t chunk : Nat} : Onward s (sendBoot t chunk s) := by
  unfold sendBoot
  split
  · exact failTile_onward
  · exact sendTile_onward

theorem repeatStep_onward {t : Nat} : Onward s (repeatStep t s) := by
  unfold repeatStep
  dsimp only
  split
  · exact .after sendTile_onward ((updTile_touches _ _ _).onward rfl)
  · exact .after sendTile_onward ((updTile_touches _ _ _).onward rfl)
  · exact sendLanes_onward
  · exact sendLanes_onward
  · exact sendBoot_onward
  · exact sendBoot_onward
  · exact sendAck_onward
  · exact sendTile_onward
  · exact .refl _

theorem replacementCommand_onward {q : MciReq} : Onward s (replacementCommand q s) :=
  mciFixed_onward fun _ =>
    .ite mciStatus_onward
      (.after mciAnswer_onward
        (.ite (.after evaluateRequests_onward ((clearRequests_touches _ _ _).onward rfl)) (.refl _)))

theorem reportLost_onward : Onward s (reportLost s) := .ite (.refl _) (.after mpEvent_onward (.upd (.refl _) rfl))

theorem serveLinesOf_onward {h : FlitHdr} {uop : Nat} {u : UnschIn} {each : Nat → LineIn → State → State}
    (each_onward : ∀ a b u, Onward u (each a b u)) : Onward s (serveLinesOf h uop u each s) :=
  .ite (.after ((servedLine_touches _ _ _ _ _ _ _).onward rfl) (.upd (.refl _) rfl))
    (.after (.foldl fun _ _ => each_onward _ _ _) (.upd (.refl _) rfl))

theorem withMember_onward {h : FlitHdr} {uop : Nat} {u : UnschIn} {act : Region → Nat → State → State}
    (act_onward : ∀ a b u, Onward u (act a b u)) : Onward s (withMember h uop u act s) := by
  unfold withMember
  dsimp only
  split
  · exact (sendRsp_touches _ _ _ _ _ _ _ _ _ _).onward rfl
  · exact .ite ((sendRsp_touches _ _ _ _ _ _ _ _ _ _).onward rfl)
      (.ite ((sendRsp_touches _ _ _ _ _ _ _ _ _ _).onward rfl) (act_onward _ _ _))

theorem reqDelta_onward {h : FlitHdr} {u : UnschIn} : Onward s (reqDelta h u s) :=
  withMember_onward fun _ _ _ =>
    serveLinesOf_onward fun _ _ _ => .ite ((servedLine_touches _ _ _ _ _ _ _).onward rfl) startAcc_onward

theorem reqRead_onward {h : FlitHdr} {u : UnschIn} : Onward s (reqRead h u s) :=
  withMember_onward fun _ _ _ => serveLinesOf_onward fun _ _ _ => startAcc_onward

theorem reqRebuild_onward {h : FlitHdr} {u : UnschIn} : Onward s (reqRebuild h u s) :=
  withMember_onward fun _ _ _ =>
    .after (serveLinesOf_onward fun _ _ _ => .ite ((servedLine_touches _ _ _ _ _ _ _).onward rfl) startAcc_onward)
      rebuildAtLine_onward

theorem tokenRun_onward {c holder : Nat} : Onward s (tokenRun c holder s).2 := by
  unfold tokenRun
  dsimp only
  split
  · exact flushToken_onward
  · exact .refl _
  · exact (takeLease_touches _ _ _ _).onward rfl
  · split
    · exact .iteSnd ((updRegion_touches _ _ _).onward rfl) (.refl _)
    · exact .refl _

theorem reqToken_onward {h : FlitHdr} {u : UnschIn} : Onward s (reqToken h u s) :=
  .after ((sendRsp_touches _ _ _ _ _ _ _ _ _ _).onward rfl) tokenRun_onward

theorem reqWrite_onward {h : FlitHdr} {u : UnschIn} : Onward s (reqWrite h u s) :=
  withMember_onward fun _ _ _ =>
    serveLinesOf_onward fun _ _ _ => .ite ((servedLine_touches _ _ _ _ _ _ _).onward rfl) startAcc_onward

theorem restoreRows_onward {pc : Nat} : Onward s (restoreRows pc s) :=
  .ite (.refl _) (.after emitAll_onward ((updPc_touches _ _ _).onward rfl))

theorem staleDoorbell_onward {fn ring : Nat} : Onward s (staleDoorbell fn ring s) :=
  .after (.ite (.refl _) (.after ((sendEvent_touches _ _).onward rfl) ((updRing_touches _ _ _ _).onward rfl)))
    (.after fnAttention_onward ((countUp_touches _ _ _).onward rfl))

theorem wakeNamed_onward : Onward s (wakeNamed s) :=
  .foldl fun _ _ => by
    split
    · exact .ite startExit_onward (.refl _)
    · exact .refl _

theorem ringDoorbell_onward {fn ring : Nat} {value : BitVec 32} {whole : Bool} {sIn : State} :
    Onward sIn (ringDoorbell fn ring value whole sIn) :=
  .after
    (.ite badDoorbell_onward
      (.ite staleDoorbell_onward (.ite (.refl _) (.after wakeNamed_onward ((updRing_touches _ _ _ _).onward rfl)))))
    ((settleFlush_touches _ _ _).onward rfl)

theorem sendPart_onward {uop m id c holder kind : Nat} : Onward s (sendPart uop m id c holder kind s) :=
  .after ((updCmd_touches _ _ _).onward rfl) sendReq_onward

theorem runToken_onward {op id : Nat} : Onward s (runToken op id s) := by
  unfold runToken
  split
  · exact .refl _
  · exact .ite (.refl _)
      (.ite (.after ((updCmd_touches _ _ _).onward rfl) tokenRun_onward)
        (.after sendPart_onward ((updCmd_touches _ _ _).onward rfl)))

theorem rxBare_onward {h : FlitHdr} {act : State → State} {sIn : State} (act_onward : ∀ u, Onward u (act u)) :
    Onward sIn (rxBare h act sIn) := by
  unfold rxBare
  dsimp only
  exact .ite (.refl _)
    (by
      split
      · exact .after ((crcInjected_touches _ _ (by assumption)).onward rfl) ((noteCorrected_touches _ _).onward rfl)
      · exact .after (act_onward _)
          (.after ((takeHeader_touches _ _).onward rfl) ((noteCorrected_touches _ _).onward rfl)))

theorem wireBare_onward {port type : Nat} : Onward s (wireBare port type s) := wire_onward

theorem rxFlit_onward {h : FlitHdr} {act : State → State} (act_onward : ∀ u, Onward u (act u)) :
    Onward s (rxFlit h act s) :=
  rxBare_onward fun _ =>
    .after
      (.ite (.after (act_onward _) ((updPort_touches _ _ _).onward rfl))
        (.ite (.after wireBare_onward ((updPort_touches _ _ _).onward rfl)) (.refl _)))
      ((updPort_touches _ _ _).onward rfl)

theorem rxCtrl_onward {h : Option FlitHdr} {port : Nat} {act : State → State} (act_onward : ∀ u, Onward u (act u)) :
    Onward s (rxCtrl h port act s) := by
  unfold rxCtrl
  split
  · exact rxFlit_onward fun _ => act_onward _
  · exact .ite (act_onward _) (.refl _)

theorem sendDispatch_onward {router packet : Nat} : Onward s (sendDispatch router packet s) := emit_onward

theorem serveHit_onward {q : DReq} {k : Nat} {dead : Bool} : Onward s (serveHit q k dead s) := by
  have clean (t : State) : Onward t (serveHit.cleanLost q k dead s t) := by
    unfold serveHit.cleanLost
    exact .ite ((updLine_touches _ _ _).onward rfl) (.refl _)
  unfold serveHit
  split
  · split
    · exact serveLines_onward fun _ _ => .ite ((stageWritten_touches _ _ _ _).onward rfl)
        (.after ((stageWritten_touches _ _ _ _).onward rfl) ((cachePut_touches _ _ _ _ _ _).onward rfl))
    · exact .after (clean _) (serveLines_onward fun i t => .ite
        (.after stageRead_onward ((drawLine_touches t).onward rfl))
        (.after stageRead_onward ((cacheGet_touches q.block k (q.off + 64 * i) t).onward rfl)))
  · exact .after (clean _) (poolServe_onward (fun t => ((cacheGet_touches _ _ _ t).onward rfl))
      fun _ _ t => ((cachePut_touches _ _ _ _ _ t).onward rfl))
  · exact .refl _

theorem serveCache_onward {k : Nat} {j : CacheJob} {dead : Bool} : Onward s (serveCache k j dead s) := by
  unfold serveCache
  dsimp only
  split
  · exact .ite serveHit_onward (.upd (.refl _) rfl)
  · split
    · exact .refl _
    · exact .after ((releaseMiss_touches _ _).onward rfl)
        (.after ((updLine_touches _ _ _).onward rfl) (.ite (.refl _) ((storeBlock_touches _ _ _).onward rfl)))
  · split
    · exact .refl _
    · split
      · exact .ite
          (.after ((releaseMiss_touches _ _).onward rfl) (.after serveHit_onward ((updLine_touches _ _ _).onward rfl)))
          readBlock_onward
      · exact readBlock_onward
  · exact .ite
      (.after driveCommand_onward
        (.after (.ite ((failBlock_touches _ _).onward rfl) (.refl _)) ((loadBlock_touches _ _ _).onward rfl)))
      (.refl _)

theorem serveReq_onward {pc : Nat} {q : UReq} : Onward s (serveReq pc q s) := by
  unfold serveReq
  split
  · exact .ite
      (.ite ((stageWritten_touches _ _ _ _).onward rfl) (.after stageRead_onward ((drawLine_touches _).onward rfl)))
      (.ite (.after ((stageWritten_touches _ _ _ _).onward rfl) ((hbmWrite_touches _ _ _ _).onward rfl))
        (.after stageRead_onward ((hbmRead_touches _ _).onward rfl)))
  · exact poolServe_onward
      (fun _ => (hbmRead_touches _ _).onward rfl)
      (fun _ _ _ => (hbmWrite_touches _ _ _ _).onward rfl)
  · exact .refl _

theorem stageBufLine_onward {fn ticket x : Nat} {data : List (Option LineData)} {i : Nat} :
    Onward s (stageBufLine fn ticket x data i s) :=
  .ite ctlArrive_onward
    (by
      split
      · exact ctlArrive_onward
      · exact (stageHole_touches _ _ _).onward rfl)

theorem stageGo_onward {fn x : Nat} {data : List (Option LineData)} : Onward s (stageGo fn x data s) := by
  unfold stageGo
  dsimp only
  split
  · exact .after (.foldl fun _ _ => stageBufLine_onward)
      (.after (.ite (.refl _) emit_onward) ((consumeLines_touches _ _ _ _ _).onward rfl))
  · exact .after (.foldl fun _ _ => (stageHbmLine_touches _ _ _ _ _ _).onward rfl)
      (.after (.ite (.refl _) emit_onward) ((consumeLines_touches _ _ _ _ _).onward rfl))
  · exact .after ((stageDense_touches _ _ _ _ _ _ _).onward rfl)
      (.after (.ite (.refl _) emit_onward) ((consumeLines_touches _ _ _ _ _).onward rfl))

theorem stageStart_onward {fn x : Nat} {data : List (Option LineData)} : Onward s (stageStart fn x data s) :=
  .ite rejectHead_onward
    (.ite (.after rejectHead_onward ((violation_touches _ _ _).onward rfl))
      (by
        split
        · exact rejectHead_onward
        · exact stageGo_onward))

theorem startFirmware_onward : Onward s (startFirmware s) :=
  .after ((startTiles_touches _).onward rfl)
    (.after ((startStitches_touches _).onward rfl)
      (.after ((startLattice_touches _).onward rfl)
        (.after ((stepDone_touches _ _).onward rfl)
          (.after ((stepDone_touches _ _).onward rfl)
            (.after ((persistHeld_touches _).onward rfl) (.after startPm_onward (.upd (.refl _) rfl)))))))

theorem startLanes_onward {t : Nat} : Onward s (startLanes t s) :=
  .after startTransfer_onward ((updTile_touches _ _ _).onward rfl)

theorem startMerge_onward : Onward s (startMerge s) :=
  .after ((stepDone_touches _ _).onward rfl)
    (.after noteUnclean_onward
      (.after recordPower_onward
        (.after recheckVet_onward
          (.after mergeFaultMap_onward (.after hardRepairs_onward ((stepDone_touches _ _).onward rfl))))))

theorem stitchPass_onward {from_ : Nat} : Onward s (stitchPass from_ s) := .ite runTo_onward (.refl _)

theorem tableHere_onward {src tag region x : Nat} : Onward s (tableHere src tag region x s) := by
  unfold tableHere
  dsimp only
  split
  · exact regionRun_onward
  · split
    · exact (sendRsp_touches _ _ _ _ _ _ _ _ _ _).onward rfl
    · exact .after ((sendRsp_touches _ _ _ _ _ _ _ _ _ _).onward rfl)
        ((allocHere_touches _ _ (by assumption)).onward rfl)
  · exact .after (.ite extentsDone_onward (.refl _))
      (.after ((sendRsp_touches _ _ _ _ _ _ _ _ _ _).onward rfl) deleteHere_onward)
  · exact .after ((sendRsp_touches _ _ _ _ _ _ _ _ _ _).onward rfl) aclInForce_onward
  · exact .after ((sendRsp_touches _ _ _ _ _ _ _ _ _ _).onward rfl) entryHere_onward
  · exact .after ((sendRsp_touches _ _ _ _ _ _ _ _ _ _).onward rfl) ((updRegion_touches _ _ _).onward rfl)
  · exact (sendRsp_touches _ _ _ _ _ _ _ _ _ _).onward rfl

theorem takeReq_onward {h : FlitHdr} {uop : Nat} {u : UnschIn} {act : State → State}
    (act_onward : ∀ u, Onward u (act u)) : Onward s (takeReq h uop u act s) :=
  rxFlit_onward fun _ =>
    .ite ((passOn_touches _ _ _ _ _).onward rfl)
      (by
        split
        · split
          · exact .refl _
          · exact (sendFlit_touches _ _ _ _).onward rfl
        · exact .ite (.refl _) (act_onward _))

theorem takeRsp_onward {h : FlitHdr} {uop : Nat} {u : UnschIn} : Onward s (takeRsp h uop u s) := by
  unfold takeRsp
  split
  · exact .refl _
  · split
    · exact .after poolReply_onward (.after ((admitWaiting_touches _ _).onward rfl) (.upd (.refl _) rfl))
    · exact .after ((partDone_touches _ _ _ _).onward rfl)
        (.after ((admitWaiting_touches _ _).onward rfl) (.upd (.refl _) rfl))
    · exact .after ((partDone_touches _ _ _ _).onward rfl)
        (.after ((admitWaiting_touches _ _).onward rfl) (.upd (.refl _) rfl))
    · exact .after tableReply_onward (.after ((admitWaiting_touches _ _).onward rfl) (.upd (.refl _) rfl))
    · exact .after ((admitWaiting_touches _ _).onward rfl) (.upd (.refl _) rfl)

theorem tileReady_onward {t : Nat} : Onward s (tileReady t s) := by
  unfold tileReady
  dsimp only
  exact .after tileCombination_onward
    (by
      split
      · exact .after ((runPackage_touches _ _).onward rfl)
          (.after (.ite (.fmap_pm (.refl _)) (.fmap (.refl _))) ((updTile_touches _ _ _).onward rfl))
      · exact .after (.ite (.fmap_pm (.refl _)) (.fmap (.refl _))) ((updTile_touches _ _ _).onward rfl))

theorem toBoundary_onward : Onward s (toBoundary s) :=
  .ite (.after (.ite (.refl _) boundary_onward) advanceTo_onward) boundary_onward

theorem toCommit_onward {router tick : Nat} : Onward s (toCommit router tick s) :=
  .buf (.after runTo_onward (.upd (.refl _) rfl))

theorem toPartTick_onward {k at_ : Nat} : Onward s (toPartTick k at_ s) := runTo_onward

theorem trainedTile_onward {t : Nat} : Onward s (trainedTile t s) :=
  .after (.ite (.ite failTile_onward startLanes_onward) (.after dropTile_onward (.ite (.refl _) mpEvent_onward)))
    (.foldl fun _ _ => consentTo_onward)

theorem victimGone_onward {b : Nat} : Onward s (victimGone b s) := by
  unfold victimGone
  dsimp only
  split
  · exact .refl _
  · split
    · exact .refl _
    · exact .ite ((startWrite_touches _ _ _).onward rfl) fillLine_onward

theorem wakeStack_onward {pc : Nat} : Onward s (wakeStack pc s) :=
  .after (.ite (.after emit_onward ((updParts_touches _ _).onward rfl)) (.refl _))
    ((updStack_touches _ _ _).onward rfl)

theorem wakeTolerance_onward : Onward s (wakeTolerance s) := .foldl fun _ _ => .ite (.refl _) startExit_onward

theorem withLost_onward {f : State → State} (f_onward : ∀ u, Onward u (f u)) : Onward s (withLost f s) :=
  .after (.foldl fun _ _ => dropRequests_onward) (f_onward _)

theorem writeAborted_onward {b : Nat} {sIn : State} : Onward sIn (writeAborted b sIn) := by
  unfold writeAborted
  dsimp only
  split
  · exact .upd (.refl _) rfl
  · split
    · exact .after ((updLine_touches _ _ _).onward rfl) (.upd (.refl _) rfl)
    · exact .after (.foldl fun _ _ => failReq_onward)
        (.after ((dropMiss_touches _ _).onward rfl) (.after ((updLine_touches _ _ _).onward rfl) (.upd (.refl _) rfl)))

theorem writeDbl_onward {fn off : Nat} {v : BitVec 32} : Onward s (writeDbl fn off v s) :=
  .ite (.ite ringDoorbell_onward cqDoorbell_onward) (.ite ((flushRequest_touches _ _ _).onward rfl) (.refl _))

theorem writeEvtEn_onward {v : BitVec 32} : Onward s (writeEvtEn v s) :=
  .after (.ite raiseVector_onward (.refl _)) (.upd (.refl _) rfl)

theorem writeFattnEn_onward {fn : Nat} {v : BitVec 32} : Onward s (writeFattnEn fn v s) :=
  .after (.ite raiseVector_onward (.refl _)) ((updFn_touches _ _ _).onward rfl)

theorem writeMarks_onward {fn ring rest : Nat} : Onward s (writeMarks fn ring rest s) :=
  .foldl fun _ _ => .after postCompletion_onward ((updRing_touches _ _ _ _).onward rfl)

theorem writeMsix_onward {fn off : Nat} {v : BitVec 32} : Onward s (writeMsix fn off v s) :=
  .ite (.refl _) (.after (.ite emit_onward (.refl _)) (.upd (.refl _) rfl))

theorem writePacket_onward {p : FaultPkt} : Onward s (writePacket p s) :=
  .after (.ite evaluateRequests_onward (.refl _)) (.after ((noteSlice_touches _ _).onward rfl) logEntry_onward)

theorem writePwrEn_onward {v : BitVec 32} : Onward s (writePwrEn v s) :=
  .after (.ite raiseVector_onward (.refl _)) (.upd (.refl _) rfl)

theorem writeStsEn_onward {v : BitVec 32} : Onward s (writeStsEn v s) :=
  .after (.ite raiseVector_onward (.refl _)) (.upd (.refl _) rfl)

theorem writeWord_onward {fn off : Nat} {v : BitVec 32} : Onward s (writeWord fn off v s) :=
  .ite ((writeRing_touches _ _ _ _ _).onward rfl)
    (.ite writeDbl_onward
      (.ite ((updFn_touches _ _ _).onward rfl)
        (.ite writeFattnEn_onward
          (.ite writeMsix_onward
            (.ite (.refl _)
              (.ite (.ite (.refl _) ((writeMbx_touches _ _ _).onward rfl))
                (.ite ((prioRewrite_touches _ _ _ _).onward rfl)
                  (by
                    split
                    · exact .ite (.upd (.refl _) rfl) (.refl _)
                    · exact .upd (.refl _) rfl
                    · exact writeStsEn_onward
                    · exact .ite capture_onward (.refl _)
                    · exact writePwrEn_onward
                    · exact (writeAckHalf_touches _ _ _).onward rfl
                    · exact (writeAckHalf_touches _ _ _).onward rfl
                    · exact writeEvtEn_onward
                    · exact .upd (.refl _) rfl
                    · exact .ite (.upd (.refl _) rfl) (.refl _)
                    · exact (writeArm_touches _ _).onward rfl
                    · exact (writeScratch_touches _ _ _).onward rfl
                    · exact (writeScratch_touches _ _ _).onward rfl
                    · exact (writeInject_touches _ _).onward rfl
                    · exact .refl _))))))))

theorem writeWords_onward {fn off value n : Nat} : Onward s (writeWords fn off value n s) := by
  induction n generalizing off value s with
  | zero => exact .refl _
  | succ n ih => exact .after ih writeWord_onward

theorem writeReg_onward {fn off size value : Nat} : Onward s (writeReg fn off size value s) :=
  .ite badDoorbell_onward
    (.ite (.refl _)
      (.after
        (.ite ((writeAck_touches _ _).onward rfl) (.ite ((prioRewrite_touches _ _ _ _).onward rfl) writeWords_onward))
        (.ite ((mbxCount_touches _).onward rfl) (.refl _))))

theorem zeroDense_onward {g : Nat} : Onward s (zeroDense g s) :=
  .after emitAll_onward (.dense ((dropJobs_touches _ _).onward rfl))

theorem zeroKey_onward {key : Nat} : Onward s (zeroKey key s) :=
  .ite ((zeroUnit_touches _ _).onward rfl) zeroDense_onward

theorem fillLines_onward {id c : Nat} {offs : List Nat} {f : List LineIn} {t : State}
    (e : fillLines id c offs f s = some t) : Onward s t := by
  cases e
  exact .foldl fun _ _ => destLine_onward

theorem copyLines_onward {id c : Nat} {offs : List Nat} {f : List LineIn} {t : State}
    (e : copyLines id c offs f s = some t) : Onward s t := by
  induction offs generalizing f s with
  | nil =>
    cases e
    exact .refl _
  | cons o offs ih =>
    unfold copyLines at e
    split at e
    · cases e
    · next source =>
      split at e
      · cases e
        exact .after ((stopPoison_touches _ _ _).onward rfl) ((sourceLine_touches _ _ _ _ source).onward rfl)
      · exact .after (ih e) (.after destLine_onward ((sourceLine_touches _ _ _ _ source).onward rfl))

theorem reduceLines_onward {id c : Nat} {offs : List Nat} {f : List LineIn} {t : State}
    (e : reduceLines id c offs f s = some t) : Onward s t := by
  induction offs generalizing f s with
  | nil =>
    cases e
    exact .refl _
  | cons o offs ih =>
    unfold reduceLines at e
    dsimp only at e
    split at e
    · cases e
    · next operands =>
      cases e
      exact .after ((stopPoison_touches _ _ _).onward rfl) ((operandLines_touches _ _ _ _ operands).onward rfl)
    · next operands =>
      exact .after (ih e) (.after destLine_onward ((operandLines_touches _ _ _ _ operands).onward rfl))

theorem runData_onward {op id : Nat} {lines : Nat → List Nat → State → Option State}
    (lines_onward : ∀ c l u t, lines c l u = some t → Onward u t) : Onward s (runData op id lines s) := by
  unfold runData
  split
  · exact .refl _
  · split
    · exact .refl _
    · dsimp only
      have sent (ms : List Nat) (c holder : Nat) :
          Onward s (ms.foldl (fun t m => sendPart 5 m id c holder 3 t)
            (updCmd id (fun c => { c with ran := true }) s)) :=
        .after (.foldl fun _ _ => sendPart_onward) ((updCmd_touches _ _ _).onward rfl)
      split
      · exact sent _ _ _
      · cases e : lines _ _ _ with
        | none => exact .refl _
        | some t => exact .after (lines_onward _ _ _ _ e) (sent _ _ _)

theorem atEvent_onward {r : EvRef} {kind : Nat} {act : Ready → State → State} (act_onward : ∀ a u, Onward u (act a u)) :
    OnwardNext s (atEvent r kind s act) := by
  unfold atEvent
  split
  · exact .next (.refl _)
  · exact .next (.after (act_onward _ _) advance_onward)

/-! ### Commands -/

theorem execAckIdleTimer_onward {port : Nat} : OnwardNext s (execAckIdleTimer port s) :=
  .ite (.next wireBare_onward) (.next (.refl _))

theorem execArrive_onward {h : Option FlitHdr} {port msg : Nat} : OnwardNext s (execArrive h port msg s) :=
  .next (rxCtrl_onward fun _ =>
    .ite (.refl _)
      (by
        split
        · exact .refl _
        · exact .after arriveTry_onward (.upd (.refl _) rfl)))

theorem execAttentionEnableWrite_onward {fn block : Nat} {value : BitVec 32} :
    OnwardNext s (execAttentionEnableWrite fn block value s) := by
  unfold execAttentionEnableWrite
  split
  · exact .next (barWrite_onward fun _ => writeFattnEn_onward)
  · exact .next (barWrite_onward fun _ => writeStsEn_onward)
  · exact .next (barWrite_onward fun _ => writeEvtEn_onward)
  · exact .next (barWrite_onward fun _ => writePwrEn_onward)
  · exact .next (.refl _)

theorem execAutonomousRefresh_onward {pc : Nat} : OnwardNext s (execAutonomousRefresh pc s) :=
  .ite (.next (.after emit_onward ((updPc_touches _ _ _).onward rfl))) (.next (.refl _))

theorem execBarrierHold_onward : OnwardNext s (execBarrierHold s) :=
  .ite (.next arriveTry_onward) (.ite (.next (.after arriveTry_onward runTo_onward)) (.next (.refl _)))

theorem execBarrierLoneRelease_onward : OnwardNext s (execBarrierLoneRelease s) :=
  .ite (.next (.after lapse_onward (.after releaseTick_onward (.upd (.refl _) rfl)))) (.next (.refl _))

theorem execBarrierPolicy_onward {q : MciReq} : OnwardNext s (execBarrierPolicy q s) :=
  .next (mciFixed_onward fun _ =>
    .ite (.lat mciStatus_onward)
      (by
        split
        · exact mciStatus_onward
        · exact .after sendCtrl_onward mciStatus_onward))

theorem execBarrierTimeout_onward : OnwardNext s (execBarrierTimeout s) :=
  .ite (.next (.after notePartial_onward releaseBarrier_onward)) (.next (.refl _))

theorem execBindEffect_onward {k : Nat} : OnwardNext s (execBindEffect k s) :=
  .ite (.next toBoundary_onward) (.next (.refl _))

theorem execBondTrainingDone_onward {t : Nat} {cells : List CellTrain} :
    OnwardNext s (execBondTrainingDone t cells s) :=
  .ite (.next (.refl _))
    (.next (.after (.ite trainedTile_onward (.refl _))
      (.after ((judgeBonds_touches _ _ _).onward rfl)
        (.after ((updTile_touches _ _ _).onward rfl) (.ite runTo_onward (.refl _))))))

theorem execBootDone_onward {t : Nat} {rx : List SvcClock} : OnwardNext s (execBootDone t rx s) := by
  unfold execBootDone
  split
  · exact .next (.refl _)
  · exact .ite (.next ackAgain_onward)
      (by
        split
        · exact .next (.after sendAck_onward ((updTile_touches _ _ _).onward rfl))
        · exact .next (.after failTile_onward sendAck_onward)
        · exact .next (.after failTile_onward sendAck_onward)
        · exact .next sendAck_onward)

theorem execBranchRead_onward {part : Nat} : OnwardNext s (execBranchRead part s) :=
  .ite (.next (.refl _))
    (by
      split
      · exact .next (.refl _)
      · exact .next (.after ((branchNow_touches _ _ _ _).onward rfl) advance_onward))

theorem execBufferScrub_onward {q : MciReq} : OnwardNext s (execBufferScrub q s) :=
  .next (mciFixed_onward fun _ => .after mciStatus_onward (.upd (.refl _) rfl))

theorem execCacheAccess_onward : OnwardNext s (execCacheAccess s) := by
  unfold execCacheAccess
  split
  · exact .next (.refl _)
  · exact .next (.after denseServe_onward (.upd (.refl _) rfl))

theorem execCapture_onward : OnwardNext s (execCapture s) := .next (barWrite_onward fun _ => capture_onward)

theorem execClockCorrelate_onward {q : MciReq} : OnwardNext s (execClockCorrelate q s) :=
  .next (mciFixed_onward fun _ => mciAnswer_onward)

theorem execClockLoss_onward : OnwardNext s (execClockLoss s) := .ite (.next clockLossNow_onward) (.next (.refl _))

theorem execCompare_onward {id : Nat} {fetched : List LineIn} : OnwardNext s (execCompare id fetched s) := by
  unfold execCompare
  exact .next (runData_onward fun _ _ _ _ e => ((compareLines_touches _ _ _ _ _ e).onward rfl))

theorem execCompressedRecordHandover_onward {port : Nat} : OnwardNext s (execCompressedRecordHandover port s) := by
  unfold execCompressedRecordHandover
  split
  · exact .ite (.next (.refl _))
      (.ite (.next toPartTick_onward)
        (.next (.after ((handOver_touches _ _ _).onward rfl)
          (.after ((updComp_touches _ _ _ _).onward rfl) toPartTick_onward))))
  · exact .next (.refl _)

theorem execConfigurationRequest_onward {port fn : Nat} {clearVf setVf : Bool} :
    OnwardNext s (execConfigurationRequest port fn clearVf setVf s) :=
  .ite (.next (.refl _))
    (.ite (.next emit_onward)
      (.ite (.next emit_onward)
        (.ite (.next emit_onward)
          (.ite (.next (.after clearVfWindows_onward (.after ((flrAll_touches _ _).onward rfl) (.boot emit_onward))))
            (.ite (.next (.boot emit_onward)) (.next emit_onward))))))

theorem execControlPortCommit_onward {router : Nat} : OnwardNext s (execControlPortCommit router s) := by
  unfold execControlPortCommit
  dsimp only
  split
  · exact .next (.refl _)
  · exact .ite (.next (.refl _))
      (by
        split
        · exact .next (.after ctlAnswer_onward (.after ((drawLine_touches _).onward rfl) (.upd (.refl _) rfl)))
        · exact .next (.after commitAccess_onward (.after toCommit_onward (.upd (.refl _) rfl))))

theorem execControlWordParityError_onward {node dir : Nat} {resend : Bool} {sIn : State} :
    OnwardNext sIn (execControlWordParityError node dir resend sIn) :=
  .ite (.next (.refl _))
    (.ite (.next (.after ((killLink_touches _ _ _).onward rfl) (.ite ((injectDone_touches _).onward rfl) (.refl _))))
      (.next (.after emit_onward (.ctl (.ite ((injectDone_touches _).onward rfl) (.refl _))))))

theorem execCopy_onward {id : Nat} {fetched : List LineIn} : OnwardNext s (execCopy id fetched s) := by
  unfold execCopy
  exact .next (runData_onward fun _ _ _ _ e => copyLines_onward e)

theorem execCoreReferenceStop_onward : OnwardNext s (execCoreReferenceStop s) :=
  .ite (.next (.refl _))
    (.next (.boot_pm (.after writeSetting_onward (.after (.ite clockLossNow_onward (.refl _)) (.upd (.refl _) rfl)))))

theorem execCoreReferenceValid_onward : OnwardNext s (execCoreReferenceValid s) :=
  .ite (.next (.refl _)) (.next (.after ((settleAlert_touches _).onward rfl) (.upd (.refl _) rfl)))

theorem execCorrectedWriteback_onward {pc : Nat} : OnwardNext s (execCorrectedWriteback pc s) := by
  unfold execCorrectedWriteback
  split
  · exact .next (.refl _)
  · exact .ite (.next (.refl _))
      (.next (by
        split
        · exact .hbm (.after ((updPc_touches _ _ _).onward rfl)
            (.after ((moveRows_touches _ _).onward rfl) wakeStack_onward))
        · exact .hbm (.after ((updPc_touches _ _ _).onward rfl)
            (.after ((moveRows_touches _ _).onward rfl) wakeStack_onward))
        · exact .after ((updPc_touches _ _ _).onward rfl)
            (.after ((moveRows_touches _ _).onward rfl) wakeStack_onward)))

theorem execCounterClear_onward {q : MciReq} : OnwardNext s (execCounterClear q s) :=
  .next (mciFixed_onward fun _ =>
    .after mciStatus_onward
      (.ite (.foldl fun _ _ => (clearCounter_touches _ _ _).onward rfl) ((clearCounter_touches _ _ _).onward rfl)))

theorem execCounterLowRead_onward {fn offset size : Nat} : OnwardNext s (execCounterLowRead fn offset size s) :=
  .ite (.next emit_onward) (.next (.after emit_onward ((readReg_touches _ _ _ _).onward rfl)))

theorem execCounterRead_onward {q : MciReq} : OnwardNext s (execCounterRead q s) :=
  .next (mciFixed_onward fun _ =>
    .ite (.after mciStatus_onward ((violation_touches _ _ _).onward rfl))
      (.after mciAnswer_onward (.ite ((updRing_touches _ _ _ _).onward rfl) (.refl _))))

theorem execCqHeadDoorbell_onward {fn ring : Nat} {value : BitVec 32} :
    OnwardNext s (execCqHeadDoorbell fn ring value s) :=
  .next (barWrite_onward fun _ => cqDoorbell_onward)

theorem execCrumb_onward : OnwardNext s (execCrumb s) :=
  .ite (.next (.after (.ite passCrumb_onward (.refl _)) (.after (.ite (.refl _) fillRun_onward) fillRun_onward)))
    (.next (.refl _))

theorem execCxlMemRead_onward {pbr tag : Nat} {region : Option Nat} {off : Nat} :
    OnwardNext s (execCxlMemRead pbr tag region off s) :=
  .next (.ite hostRead_onward (.refl _))

theorem execCxlMemWrite_onward {pbr tag : Nat} {region : Option Nat} {off : Nat} {data : LineData} {poison : Bool} :
    OnwardNext s (execCxlMemWrite pbr tag region off data poison s) :=
  .next (.ite memWrite_onward (.refl _))

theorem execDbgInject_onward {value : BitVec 32} : OnwardNext s (execDbgInject value s) :=
  .next (barWrite_onward fun _ => (writeInject_touches _ _).onward rfl)

theorem execDenseAttach_onward {q : MciReq} {found : List DriveIn} : OnwardNext s (execDenseAttach q found s) :=
  .next (mciFixed_onward fun _ =>
    .ite mciStatus_onward (.after denseGo_onward (.dense ((mciHold_touches _ _ _).onward rfl))))

theorem execDenseFlush_onward {q : MciReq} : OnwardNext s (execDenseFlush q s) :=
  .next (mciFixed_onward fun _ =>
    .ite (.after mciStatus_onward ((violation_touches _ _ _).onward rfl))
      (.ite mciStatus_onward (.after denseGo_onward (.dense ((mciHold_touches _ _ _).onward rfl)))))

theorem execDenseQuery_onward {q : MciReq} : OnwardNext s (execDenseQuery q s) :=
  .next (mciFixed_onward fun _ => mciQuery_onward)

theorem execDenseRequestTimeout_onward : OnwardNext s (execDenseRequestTimeout s) := by
  unfold execDenseRequestTimeout
  split
  · exact .next (.refl _)
  · exact .ite (.next (.refl _))
      (.next (.after denseGo_onward
        (.after failReq_onward (.after ((dropJobs_touches _ _).onward rfl) (.upd (.refl _) rfl)))))

theorem execDeviceReady_onward {found : List DriveIn} : OnwardNext s (execDeviceReady found s) :=
  .ite (.next (.after (.ite emit_onward (.refl _)) (.upd (.refl _) rfl)))
    (.ite (.next (.refl _))
      (.next (.after evaluateRequests_onward
        (.after rejoinGroup_onward
          (.after ((reattach_touches _ _).onward rfl)
            (.after emitAll_onward
              (.after ((stepDone_touches _ _).onward rfl)
                (.after ((applyStored_touches _).onward rfl) (.upd (.refl _) rfl)))))))))

theorem execDiscoveryAck_onward {t : Nat} {rx : List SvcClock} : OnwardNext s (execDiscoveryAck t rx s) := by
  unfold execDiscoveryAck
  split
  · exact .next (.refl _)
  · exact .ite (.next (.ite lanesAcked_onward (.refl _)))
      (.ite (.next (.refl _))
        (by
          split
          · exact .ite (.next (.after sendBoot_onward ((updTile_touches _ _ _).onward rfl)))
              (.next ((updTile_touches _ _ _).onward rfl))
          · exact .next tileReady_onward
          · exact .next (.refl _)))

theorem execDiscoveryTimeout_onward {t : Nat} : OnwardNext s (execDiscoveryTimeout t s) :=
  .ite (.next (.refl _))
    (.ite (.next trainedTile_onward)
      (.ite (.next (.refl _))
        (.ite (.next (.after repeatStep_onward ((updTile_touches _ _ _).onward rfl))) (.next failTile_onward))))

theorem execDispatch_onward {e : EvRef} : OnwardNext s (execDispatch e s) :=
  atEvent_onward fun _ _ => by
    split
    · exact .refl _
    · exact .after ((addDue_touches _ _ _).onward rfl) sendDispatch_onward

theorem execDispatchResultWrite_onward {router : Nat} {up : List GroupTick} :
    OnwardNext s (execDispatchResultWrite router up s) := by
  unfold execDispatchResultWrite
  dsimp only
  split
  · exact .next (.refl _)
  · split
    · exact .next (.refl _)
    · exact .ite (.next (.refl _))
        (.ite
          (.next (.after ((noteWrite_touches _ _ _ _ _ _ _).onward rfl)
            (.after ((socketStall_touches _ _ _).onward rfl)
              (.after ((dropDue_touches _ _ _).onward rfl) advance_onward))))
          (.next (.after ((noteLine_touches _ _ _ _).onward rfl)
            (.after ((schedWrite_touches _ _ _ _ _).onward rfl)
              (.after (.ite (.refl _) ((dataPathBreach_touches _ _ _).onward rfl))
                (.after ((dropDue_touches _ _ _).onward rfl) advance_onward))))))

theorem execDriveCommandAbort_onward {drive cmd block : Nat} :
    OnwardNext s (execDriveCommandAbort drive cmd block s) := by
  unfold execDriveCommandAbort
  split
  · exact .next (.refl _)
  · exact .next (.after denseGo_onward
      (.after noteAbort_onward
        (by
          split
          · exact .after readAborted_onward (.after driveEnds_onward emit_onward)
          · exact .after writeAborted_onward (.after driveEnds_onward emit_onward)
          · exact .after flushAborted_onward (.after driveEnds_onward emit_onward))))

theorem execDriveCommandComplete_onward {drive cmd block data : Nat} {error : Bool} :
    OnwardNext s (execDriveCommandComplete drive cmd block data error s) := by
  unfold execDriveCommandComplete
  split
  · exact .next (.refl _)
  · exact .next (.after denseGo_onward
      (by
        split
        · exact .after filled_onward driveEnds_onward
        · exact .after victimGone_onward
            (.after ((wroteLine_touches _ _).onward rfl)
              (.after ((flushWrote_touches _ _).onward rfl) (.dense driveEnds_onward)))
        · exact .dense driveEnds_onward))

theorem execDriveFailed_onward {drive : Nat} : OnwardNext s (execDriveFailed drive s) := by
  unfold execDriveFailed
  exact .ite (.next failDrive_onward) (.next (.refl _))

theorem execDrivePresenceLoss_onward {drive : Nat} : OnwardNext s (execDrivePresenceLoss drive s) := by
  unfold execDrivePresenceLoss
  exact .ite (.next (.refl _))
    (.ite (.next (.after failDrive_onward (.upd (.refl _) rfl))) (.next (.upd (.refl _) rfl)))

theorem execElasticOverflow_onward {buffer fill : Nat} : OnwardNext s (execElasticOverflow buffer fill s) :=
  .ite (.next (.refl _))
    (.next (by
      split
      · exact .after (.ite ((retrainPort_touches _ _).onward rfl) (.refl _)) (.upd (.refl _) rfl)
      · exact .upd (.refl _) rfl))

theorem execErrlogClear_onward {q : MciReq} : OnwardNext s (execErrlogClear q s) := .next errlogCommand_onward

theorem execErrlogRead_onward {q : MciReq} : OnwardNext s (execErrlogRead q s) := .next errlogCommand_onward

theorem execEventLink_onward {e : EvRef} {noise : List LinkNoise} : OnwardNext s (execEventLink e noise s) :=
  atEvent_onward fun _ _ =>
    .after emitAll_onward (.after ((updPipe_touches _ _ _).onward rfl) ((takeInput_touches _ _ _ _ _ _ _).onward rfl))

theorem execEventPacket_onward {p : Option PktIn} : OnwardNext s (execEventPacket p s) := by
  unfold execEventPacket
  split
  · exact .next (.refl _)
  · exact .next (.after writePacket_onward
      (.after (.ite ((drainQueue_touches _ _ _).onward rfl) (.refl _)) (.upd (.refl _) rfl)))

theorem execEventRead_onward {q : MciReq} : OnwardNext s (execEventRead q s) :=
  .next (mciFixed_onward fun _ => .after mciAnswer_onward (.ite (.refl _) (.upd (.refl _) rfl)))

theorem execEvtAckWrite_onward {value : BitVec 64} : OnwardNext s (execEvtAckWrite value s) :=
  .next (barWrite_onward fun _ => (writeAck_touches _ _).onward rfl)

theorem execFaultMapMerge_onward : OnwardNext s (execFaultMapMerge s) :=
  .ite (.next (.refl _)) (.ite (.ite (.next startMerge_onward) (.next (.refl _))) (.next mergeFaultMap_onward))

theorem execFaultMapQuery_onward {q : MciReq} : OnwardNext s (execFaultMapQuery q s) :=
  .next (mciFixed_onward fun _ => mciAnswer_onward)

theorem execFaultPacket_onward {p : Option PktIn} : OnwardNext s (execFaultPacket p s) := by
  unfold execFaultPacket
  split
  · exact .next (.refl _)
  · exact .next (.after reportLost_onward (.after writePacket_onward (.upd (.refl _) rfl)))

theorem execFill_onward {id : Nat} {fetched : List LineIn} : OnwardNext s (execFill id fetched s) := by
  unfold execFill
  exact .next (runData_onward fun _ _ _ _ e => fillLines_onward e)

theorem execFirstBarrierTimer_onward : OnwardNext s (execFirstBarrierTimer s) :=
  .ite (.next releaseBarrier_onward) (.next (.refl _))

theorem execFlitSlot_onward {port : Nat} : OnwardNext s (execFlitSlot port s) :=
  .ite (.next fillSlot_onward) (.next (.refl _))

theorem execFlush_onward {id : Nat} : OnwardNext s (execFlush id s) := .next runToken_onward

theorem execFlushEffect_onward {fn ring rest : Nat} : OnwardNext s (execFlushEffect fn ring rest s) :=
  .next (.after writeMarks_onward ((settleFlush_touches _ _ _).onward rfl))

theorem execFlushRequest_onward {fn ring : Nat} : OnwardNext s (execFlushRequest fn ring s) :=
  .next (barWrite_onward fun _ => (flushRequest_touches _ _ _).onward rfl)

theorem execFlushTokenComplete_onward {region : Nat} : OnwardNext s (execFlushTokenComplete region s) :=
  .next (.ite completeToken_onward (.refl _))

theorem execFlushTokenTimeout_onward {region : Nat} : OnwardNext s (execFlushTokenTimeout region s) := by
  unfold execFlushTokenTimeout
  split
  · exact .next (.refl _)
  · exact .next (.ite completeToken_onward (.refl _))

theorem execFoldStep_onward {e : EvRef} : OnwardNext s (execFoldStep e s) :=
  atEvent_onward fun _ _ => by
    split
    · exact .refl _
    · split
      · exact .refl _
      · exact .after ((addDue_touches _ _ _).onward rfl)
          (.after ((foldOperand_touches _ _ _ _ _ _ _).onward rfl) ((foldOperand_touches _ _ _ _ _ _ _).onward rfl))

theorem execFrameBoundary_onward : OnwardNext s (execFrameBoundary s) :=
  .ite (.next toBoundary_onward) (.next (.refl _))

theorem execFrameBudgetExhausted_onward {part : Nat} : OnwardNext s (execFrameBudgetExhausted part s) :=
  .ite (.next toBoundary_onward) (.next (.refl _))

theorem execFwActivate_onward {q : MciReq} : OnwardNext s (execFwActivate q s) :=
  .next (mciFixed_onward fun _ =>
    .ite mciStatus_onward
      (.after (.ite (.refl _) (.ite (.boot (.refl _)) (.after mpOnlyReset_onward (.fw (.refl _)))))
        (.after mciStatus_onward fwActivate_onward)))

theorem execFwCommit_onward {q : MciReq} : OnwardNext s (execFwCommit q s) :=
  .next (mciFixed_onward fun _ =>
    .ite mciStatus_onward
      (.after mciStatus_onward
        (.after (.ite ((raiseMinimums_touches _ _).onward rfl) (.refl _))
          (.after ((bootRecord_touches _ _ _ _).onward rfl) fwSetState_onward))))

theorem execFwInfo_onward {q : MciReq} : OnwardNext s (execFwInfo q s) :=
  .next (mciFixed_onward fun _ => mciQuery_onward)

theorem execFwVerify_onward {q : MciReq} : OnwardNext s (execFwVerify q s) :=
  .next (mciFixed_onward fun _ =>
    .ite mciStatus_onward
      (by
        split
        · exact .after mciStatus_onward fwSetState_onward
        · exact .after mciAnswer_onward (.after mpEvent_onward fwSetState_onward)))

theorem execFwWrite_onward {q : MciReq} {data : Nat} : OnwardNext s (execFwWrite q data s) :=
  .next (mciRun_onward fun _ => fwWrite_onward)

theorem execGather_onward {e : EvRef} : OnwardNext s (execGather e s) := by
  unfold execGather
  dsimp only
  exact atEvent_onward fun _ _ => by
    split
    · exact .refl _
    · split
      · exact .after ((readInto_touches _ _ _ _ _ _ _).onward rfl) ((useEntry_touches _ _ _ _).onward rfl)
      · exact .after ((updPart_touches _ _ _).onward rfl) ((useEntry_touches _ _ _ _).onward rfl)

theorem execHbmAssign_onward {q : MciReq} : OnwardNext s (execHbmAssign q s) :=
  .next (mciFixed_onward fun _ =>
    .ite mciStatus_onward
      (.ite (.after denseGo_onward (.dense ((mciHold_touches _ _ _).onward rfl)))
        (.after mciStatus_onward ((assignRoles_touches _ _).onward rfl))))

theorem execHbmQuery_onward {q : MciReq} : OnwardNext s (execHbmQuery q s) :=
  .next (mciFixed_onward fun _ => mciQuery_onward)

theorem execHbmTraining_onward {stack : Nat} {good : Bool} {channels : List ChannelTrain} :
    OnwardNext s (execHbmTraining stack good channels s) :=
  .ite (.next (.refl _))
    (.next (.after (.ite ((stepDone_touches _ _).onward rfl) (.refl _))
      (.after ((updPcs_touches _ _ _).onward rfl)
        (.ite
          (.after (.foldl fun _ _ => repairChannel_onward)
            (.after ((zeroTags_touches _ _).onward rfl) ((updStack_touches _ _ _).onward rfl)))
          (.after mpEvent_onward
            (.after ((deadenPcs_touches _ _).onward rfl) ((updStack_touches _ _ _).onward rfl)))))))

theorem execHelloRetry_onward {t : Nat} : OnwardNext s (execHelloRetry t s) :=
  .ite (.next (.refl _))
    (.ite (.next (.after sendTile_onward ((updTile_touches _ _ _).onward rfl)))
      (.ite (.next (.refl _))
        (.ite (.next failTile_onward) (.next (.after sendTile_onward ((updTile_touches _ _ _).onward rfl))))))

theorem execHostTransferBeat_onward {k recIdx beat : Nat} : OnwardNext s (execHostTransferBeat k recIdx beat s) := by
  unfold execHostTransferBeat
  split
  · exact .next (.refl _)
  · exact .ite (.next (.after ((presentHostBeat_touches _ _ _ _ _ _).onward rfl) advance_onward))
      (.next (.after acceptHostBeat_onward advance_onward))

theorem execIdent_onward {t : Nat} {rx : List SvcClock} : OnwardNext s (execIdent t rx s) := by
  unfold execIdent
  split
  · exact .next (.refl _)
  · exact .ite (.next ackAgain_onward)
      (.ite (.next (.after identDone_onward (.after sendAck_onward ((updTile_touches _ _ _).onward rfl))))
        (.next (.after sendAck_onward ((updTile_touches _ _ _).onward rfl))))

theorem execIdleStateEntry_onward {part_ : Nat} : OnwardNext s (execIdleStateEntry part_ s) :=
  .ite (.next (.refl _))
    (by
      split
      · exact .next (.refl _)
      · exact .ite (.next (.refl _))
          (.next (.after
            (.ite ((setGate_touches _ _ _).onward rfl)
              (.ite (.foldl fun _ _ => .after emitAll_onward ((updStack_touches _ _ _).onward rfl)) (.refl _)))
            ((updPart_touches _ _ _).onward rfl))))

theorem execImageBind_onward {q : MciReq} : OnwardNext s (execImageBind q s) :=
  .next (mciFixed_onward fun _ =>
    .ite mciStatus_onward
      (.ite mciStatus_onward
        (.ite mciStatus_onward
          (.after mciStatus_onward
            (.after ((setSlot_touches _ _ _).onward rfl) ((updPart_touches _ _ _).onward rfl))))))

theorem execImageEvict_onward {q : MciReq} : OnwardNext s (execImageEvict q s) :=
  .next (mciFixed_onward fun _ =>
    .ite (.after mciStatus_onward ((violation_touches _ _ _).onward rfl))
      (by
        split
        · exact mciStatus_onward
        · exact .after mciStatus_onward loadFails_onward
        · exact .after mciStatus_onward ((setSlot_touches _ _ _).onward rfl)
        · exact .after mciStatus_onward ((setSlot_touches _ _ _).onward rfl)
        · exact mciStatus_onward
        · exact mciStatus_onward
        · exact mciStatus_onward))

theorem execImageLoad_onward {q : MciReq} : OnwardNext s (execImageLoad q s) :=
  .next (mciFixed_onward fun _ =>
    .ite (.after mciAnswer_onward ((violation_touches _ _ _).onward rfl))
      (.ite mciAnswer_onward ((startLoad_touches _ _ _).onward rfl)))

theorem execImageLoadDone_onward {slot_ bytes len : Nat} : OnwardNext s (execImageLoadDone slot_ bytes len s) := by
  unfold execImageLoadDone
  dsimp only
  exact .ite (.next (.refl _))
    (by
      split
      · split
        · exact .next (.after ((violation_touches _ _ _).onward rfl) loadFails_onward)
        · exact .next (.after mciReply_onward ((setSlot_touches _ _ _).onward rfl))
      · exact .next loadFails_onward)

theorem execImagePolicy_onward {q : MciReq} : OnwardNext s (execImagePolicy q s) :=
  .next (mciFixed_onward fun _ => .after mciStatus_onward (.upd (.refl _) rfl))

theorem execImageQuery_onward {q : MciReq} : OnwardNext s (execImageQuery q s) :=
  .next (mciFixed_onward fun _ =>
    .ite (.after mciStatus_onward ((violation_touches _ _ _).onward rfl)) mciQuery_onward)

theorem execImageUnbind_onward {q : MciReq} : OnwardNext s (execImageUnbind q s) :=
  .next (mciFixed_onward fun _ => by
    split
    · exact mciStatus_onward
    · exact .after mciStatus_onward (.after ((setSlot_touches _ _ _).onward rfl) ((updPart_touches _ _ _).onward rfl)))

theorem execIndexLoad_onward {e : EvRef} : OnwardNext s (execIndexLoad e s) :=
  atEvent_onward fun _ _ => by
    split
    · exact .refl _
    · exact .buf ((portRead_touches _ _ _ _ _ _).onward rfl)

theorem execInputOutOfRange_onward {unit : Nat} : OnwardNext s (execInputOutOfRange unit s) :=
  .ite (.next (.refl _))
    (.ite
      (.next (.after (.ite dropRegulators_onward ((fatalRecord_touches _ _ _).onward rfl))
        (.after ((coldNext_touches _).onward rfl) (.upd (.refl _) rfl))))
      (.next (.after (.ite dropRegulators_onward (.refl _))
        (.boot (.after ((coldNext_touches _).onward rfl)
          (.after enterReset_onward
            (.after ((fatalEvent_touches _ _ _).onward rfl)
              (.after ((coldNext_touches _).onward rfl) (.upd (.refl _) rfl)))))))))

theorem execInterruptTimer_onward {fn ring : Nat} : OnwardNext s (execInterruptTimer fn ring s) := by
  unfold execInterruptTimer
  dsimp only
  split
  · exact .next (.refl _)
  · exact .next (.after ringInterrupt_onward passPs_onward)

theorem execJoin_onward {h : Option FlitHdr} {port msg : Nat} : OnwardNext s (execJoin h port msg s) :=
  .next (rxCtrl_onward fun _ =>
    .ite (.refl _) (.after (.ite (.refl _) (.lat informReturned_onward)) floodOn_onward))

theorem execKeyInstall_onward {q : MciReq} : OnwardNext s (execKeyInstall q s) :=
  .next (mciFixed_onward fun _ =>
    .ite (.ite mciStatus_onward (.after mciStatus_onward (.upd (.refl _) rfl)))
      (.ite mciStatus_onward (.after mciStatus_onward (.upd (.refl _) rfl))))

theorem execKeyList_onward {q : MciReq} : OnwardNext s (execKeyList q s) :=
  .next (mciFixed_onward fun _ => mciQuery_onward)

theorem execKeyRemove_onward {q : MciReq} : OnwardNext s (execKeyRemove q s) :=
  .next (mciFixed_onward fun _ => .after mciStatus_onward (.upd (.refl _) rfl))

theorem execLaneQuery_onward {q : MciReq} : OnwardNext s (execLaneQuery q s) :=
  .next (mciFixed_onward fun _ => mciAnswer_onward)

theorem execLaneTest_onward {q : MciReq} : OnwardNext s (execLaneTest q s) :=
  .next (mciFixed_onward fun _ =>
    .ite mciStatus_onward (.after ((beginTest_touches _).onward rfl) (.lanes ((mciHold_touches _ _ _).onward rfl))))

theorem execLaneTestComplete_onward {n : Nat} {cells : List CellTrain} {stitch : List StitchTrain} {hbm : List Nat} :
    OnwardNext s (execLaneTestComplete n cells stitch hbm s) := by
  unfold execLaneTestComplete
  split
  · exact .next (.refl _)
  · exact .ite (.next (.refl _)) (.next (.after mciReply_onward ((endTest_touches _ _).onward rfl)))

theorem execLatticeConfig_onward {q : MciReq} : OnwardNext s (execLatticeConfig q s) :=
  .next (mciFixed_onward fun _ =>
    .ite mciStatus_onward
      (.after mciStatus_onward
        (.after joinGroup_onward (.after ((trainPorts_touches _).onward rfl) (.upd (.refl _) rfl)))))

theorem execLatticeQuery_onward {q : MciReq} : OnwardNext s (execLatticeQuery q s) :=
  .next (mciFixed_onward fun _ => mciQuery_onward)

theorem execLatticeWindowEntry_onward {part_ recIdx beat : Nat} :
    OnwardNext s (execLatticeWindowEntry part_ recIdx beat s) := by
  unfold execLatticeWindowEntry
  split
  · exact .next (.refl _)
  · exact .ite (.next (.refl _))
      (.ite
        (.next (.after
          (.ite ((enterBeat_touches _ _ _ _ _).onward rfl) (.ite ((enterBeat_touches _ _ _ _ _).onward rfl) (.refl _)))
          (.after ((openDue_touches _ _ _ _).onward rfl) advance_onward)))
        (.next (.after ((openDue_touches _ _ _ _).onward rfl) advance_onward)))

theorem execLatticeWindowPresent_onward {part_ recIdx beat : Nat} :
    OnwardNext s (execLatticeWindowPresent part_ recIdx beat s) := by
  unfold execLatticeWindowPresent
  split
  · exact .next (.refl _)
  · extract_lets t s1 wire c0 d u s2 c n w b p s3 s4
    have described : Onward s s2 := by
      unfold s2
      exact .after
        (.ite (.after (.ite ((noteDescFault_touches _ _).onward rfl) (.refl _)) ((updComp_touches _ _ _ _).onward rfl))
          (.refl _))
        advance_onward
    have presented : Onward s s3 := .after ((updPipe_touches _ _ _).onward rfl) described
    have cleared : Onward s s4 := .after ((updComp_touches _ _ _ _).onward rfl) presented
    refine .ite (.next (.refl _)) (.ite (.next described) (.ite (.next ?_) (.next presented)))
    clear_value w
    cases w with
    | none => exact cleared
    | some v => exact .after ((dropWin_touches _ _).onward rfl) cleared

theorem execLease_onward {id : Nat} : OnwardNext s (execLease id s) := .next runToken_onward

theorem execLinkFail_onward {h : Option FlitHdr} {port msg : Nat} : OnwardNext s (execLinkFail h port msg s) :=
  .next (withLost_onward fun _ =>
    rxCtrl_onward fun _ =>
      .ite (.refl _) (.after (.ite ((noteRestored_touches _ _ _).onward rfl) noteFailed_onward) floodOn_onward))

theorem execLinkId_onward {port msg : Nat} : OnwardNext s (execLinkId port msg s) :=
  .ite (.next (.refl _))
    (.ite (.next (.after ((trainingStep_touches _).onward rfl) bringUp_onward))
      (.next (.after ((trainingStep_touches _).onward rfl)
        (.after ((blockFault_touches _ _ _ _ _ _).onward rfl) ((updPort_touches _ _ _).onward rfl)))))

theorem execLost_onward {h : Option FlitHdr} {port msg : Nat} : OnwardNext s (execLost h port msg s) :=
  .next (withLost_onward fun _ =>
    rxCtrl_onward fun _ => .ite (.refl _) (.after declareLost_onward floodOn_onward))

theorem execMciInfo_onward {q : MciReq} : OnwardNext s (execMciInfo q s) :=
  .next (mciFixed_onward fun _ => mciQuery_onward)

theorem execMctpControl_onward {medium cmd src eid : Nat} : OnwardNext s (execMctpControl medium cmd src eid s) :=
  .ite (.next (.refl _)) (.next (.after emit_onward (.ite (.upd (.refl _) rfl) (.refl _))))

theorem execMemberLoss_onward {region member : Nat} : OnwardNext s (execMemberLoss region member s) :=
  .ite
    (.next (.after (.ite replicate_onward (.refl _))
      (.after (.ite ((updRegion_touches _ _ _).onward rfl) (.refl _)) loseMember_onward)))
    (.next (.refl _))

theorem execModuleReset_onward {q : MciReq} : OnwardNext s (execModuleReset q s) :=
  .next (mciFixed_onward fun _ =>
    .after coldEntry_onward (.boot (.after enterReset_onward mciStatus_onward)))

theorem execMpBoot_onward {cals : List CalIn} : OnwardNext s (execMpBoot cals s) :=
  .ite (.next (.refl _))
    (.ite (.next enterRecovery_onward)
      (by
        split
        · exact .next (.after startFirmware_onward (.foldl fun _ _ => (calibrate_touches _ _ _).onward rfl))
        · exact .next failedBoot_onward))

theorem execMpReady_onward : OnwardNext s (execMpReady s) :=
  .ite (.next (.refl _))
    (by
      split
      · exact .next mpReady_onward
      · exact .next failedBoot_onward)

theorem execMpReset_onward {q : MciReq} : OnwardNext s (execMpReset q s) :=
  .next (mciFixed_onward fun _ => .after mpOnlyReset_onward mciStatus_onward)

theorem execMpSramUncorrectable_onward : OnwardNext s (execMpSramUncorrectable s) :=
  .ite (.next mpOnlyReset_onward) (.next (.refl _))

theorem execMpWatchdog_onward : OnwardNext s (execMpWatchdog s) := .ite (.next mpOnlyReset_onward) (.next (.refl _))

theorem execNop_onward {fn ring : Nat} : OnwardNext s (execNop fn ring s) := by
  unfold execNop
  split
  · exact .next (.refl _)
  · next x t e =>
    have turn : Onward s t := by
      split at e
      · cases k : consumable s fn ring with
        | none =>
          rw [k] at e
          cases e
        | some y =>
          rw [k] at e
          cases e
          exact .refl _
      · exact ((startTurn_touches _ _ _ e).onward rfl)
    refine .ite (.next (.refl _)) ?_
    split <;> exact .next (.after rejectHead_onward turn)

theorem execNotifySubscribe_onward {q : MciReq} : OnwardNext s (execNotifySubscribe q s) :=
  .next (mciFixed_onward fun _ => .after mciStatus_onward (.ite (.upd (.refl _) rfl) (.refl _)))

theorem execPacketAgeing_onward {node dir : Nat} {arrivals : List (BitVec 64)} {cycles : Nat} :
    OnwardNext s (execPacketAgeing node dir arrivals cycles s) :=
  .ite (.next (.refl _))
    (.ite (.next (.foldl fun _ _ => (reroute_touches _ _ _ _).onward rfl))
      (.next (.after emitAll_onward (.after ((takeBarriers_touches _ _ _ _).onward rfl) (.upd (.refl _) rfl)))))

theorem execPartitionQuery_onward {q : MciReq} : OnwardNext s (execPartitionQuery q s) :=
  .next (mciFixed_onward fun _ => mciQuery_onward)

theorem execPartitionRelease_onward {k : Nat} : OnwardNext s (execPartitionRelease k s) :=
  .ite (.next releasePart_onward) (.next (.refl _))

theorem execPartitionReset_onward {q : MciReq} : OnwardNext s (execPartitionReset q s) :=
  .next (mciFixed_onward fun _ =>
    .ite mciStatus_onward
      (.after (.ite cancelBind_onward (.ite resetEffect_onward ((updPart_touches _ _ _).onward rfl))) mciStatus_onward))

theorem execPartitionResetEffect_onward {k : Nat} : OnwardNext s (execPartitionResetEffect k s) :=
  .ite (.next toBoundary_onward) (.next (.refl _))

theorem execPartitionSetLayout_onward {q : MciReq} : OnwardNext s (execPartitionSetLayout q s) :=
  .next (mciFixed_onward fun _ => .ite mciStatus_onward (.after mciStatus_onward (.upd (.refl _) rfl)))

theorem execPerst1Assert_onward : OnwardNext s (execPerst1Assert s) :=
  .ite (.next (.refl _)) (.next (.pins_boot (.ite (.refl _) portReset_onward)))

theorem execPerst1Deassert_onward : OnwardNext s (execPerst1Deassert s) :=
  .ite (.next (.refl _))
    (.ite (.next (.upd (.refl _) rfl)) (.next (.after (.ite emit_onward (.refl _)) (.upd (.refl _) rfl))))

theorem execPerstAssert_onward : OnwardNext s (execPerstAssert s) :=
  .ite (.next (.refl _))
    (.next (.after ((settleAlert_touches _).onward rfl) (.after coldEntry_onward (.pins enterReset_onward))))

theorem execPerstDeassert_onward {straps : BitVec 5} {drives : BitVec 8} :
    OnwardNext s (execPerstDeassert straps drives s) :=
  .ite (.next (.refl _)) (.next (.after (.ite beginStart_onward (.refl _)) (.upd (.refl _) rfl)))

theorem execPmControlPeriod_onward {m : PowerIn} : OnwardNext s (execPmControlPeriod m s) :=
  .ite (.next (.refl _))
    (.next (.after wakeTolerance_onward
      (.after applyOwn_onward
        (.pm (.after ((ownSetting_touches _ _).onward rfl)
          (.after noteShort_onward (.after ((rampFalls_touches _).onward rfl) measure_onward)))))))

theorem execPmWatchdog_onward {crcOk : Bool} : OnwardNext s (execPmWatchdog crcOk s) :=
  .ite (.next (.refl _))
    (.next (.boot_fw_pm (.after ((blockFault_touches _ _ _ _ _ _).onward rfl)
      (.after writeSetting_onward (.ite (.after ((goAlone_touches _).onward rfl) (.upd (.refl _) rfl)) (.refl _))))))

theorem execPolicy_onward {h : Option FlitHdr} {port msg : Nat} : OnwardNext s (execPolicy h port msg s) :=
  .next (rxCtrl_onward fun _ =>
    .ite (.refl _)
      (.ite (.upd (.refl _) rfl)
        (by
          split
          · exact .refl _
          · exact sendCtrl_onward)))

theorem execPoolAccessSet_onward {q : MciReq} : OnwardNext s (execPoolAccessSet q s) :=
  .next (mciRun_onward fun _ =>
    .after regionCommand_onward (.ite (.refl _) (.pool ((updRegion_touches _ _ _).onward rfl))))

theorem execPoolCommandEnd_onward {id : Nat} : OnwardNext s (execPoolCommandEnd id s) := by
  unfold execPoolCommandEnd
  split
  · exact .next (.refl _)
  · exact .next (.ite commandEnd_onward (.refl _))

theorem execPoolItem_onward {fn : Nat} : OnwardNext s (execPoolItem fn s) := by
  unfold execPoolItem
  split
  · exact .next (.refl _)
  · exact .ite (.next (.refl _))
      (by
        split
        · exact .next (.after rejectHead_onward ((startTurn_touches _ _ _ (by assumption)).onward rfl))
        · exact .next (.after poolStart_onward ((startTurn_touches _ _ _ (by assumption)).onward rfl)))

theorem execPoolQuery_onward {q : MciReq} : OnwardNext s (execPoolQuery q s) :=
  .next (mciFixed_onward fun _ =>
    .ite mciQuery_onward (.ite mciQuery_onward (.after mciStatus_onward ((violation_touches _ _ _).onward rfl))))

theorem execPoolRegionCreate_onward {q : MciReq} : OnwardNext s (execPoolRegionCreate q s) :=
  .next (mciFixed_onward fun _ => regionCommand_onward)

theorem execPoolRegionDelete_onward {q : MciReq} : OnwardNext s (execPoolRegionDelete q s) :=
  .next (mciFixed_onward fun _ => regionCommand_onward)

theorem execPoolRegionReplace_onward {q : MciReq} : OnwardNext s (execPoolRegionReplace q s) :=
  .next (mciFixed_onward fun _ => regionCommand_onward)

theorem execPortReset_onward {port : Nat} : OnwardNext s (execPortReset port s) :=
  .ite (.next (.refl _)) (.next portReset_onward)

theorem execPortTrainingDone_onward {port : Nat} {good : BitVec 8} {latency : Nat} :
    OnwardNext s (execPortTrainingDone port good latency s) :=
  .ite
    (.ite (.next (.after ((trainingStep_touches _).onward rfl) (withLost_onward fun _ => failPort_onward)))
      (.next (.after emit_onward
        (.after ((noteNarrow_touches _ _ _ _).onward rfl) ((updPort_touches _ _ _).onward rfl)))))
    (.ite
      (.ite (.next (withLost_onward fun _ => failPort_onward))
        (.next (.after ((noteNarrow_touches _ _ _ _).onward rfl) ((updPort_touches _ _ _).onward rfl))))
      (.next (.refl _)))

theorem execPowerCapSet_onward {q : MciReq} : OnwardNext s (execPowerCapSet q s) :=
  .next (mciFixed_onward fun _ => .after mciStatus_onward (.upd (.refl _) rfl))

theorem execPowerQuery_onward {q : MciReq} : OnwardNext s (execPowerQuery q s) :=
  .next (mciFixed_onward fun _ => mciAnswer_onward)

theorem execPrioWrite_onward {fn half : Nat} {value : BitVec 64} : OnwardNext s (execPrioWrite fn half value s) :=
  .ite (.next (.refl _)) (.next (barWrite_onward fun _ => (prioRewrite_touches _ _ _ _).onward rfl))

theorem execPrioritySet_onward {q : MciReq} : OnwardNext s (execPrioritySet q s) :=
  .next (mciFixed_onward fun _ => .after mciStatus_onward ((prioRewrite_touches _ _ _ _).onward rfl))

theorem execPwrbrkAssert_onward : OnwardNext s (execPwrbrkAssert s) :=
  .ite (.next (.refl _))
    (.ite (.next (.upd (.refl _) rfl))
      (.next (.after putSetting_onward
        (.after (.ite (.after ((goAlone_touches _).onward rfl) (.pm (.refl _))) (.refl _))
          (.after (.ite countBrake_onward (.refl _)) (.upd (.refl _) rfl))))))

theorem execReadWindowCell_onward {pc cell sev : Nat} : OnwardNext s (execReadWindowCell pc cell sev s) := by
  unfold execReadWindowCell
  split
  · exact .next (.refl _)
  · exact .ite (.next (.refl _))
      (.next (.after ((updPipe_touches _ _ _).onward rfl)
        (.after (.iteSnd ((readThree_touches _ _).onward rfl) (.refl _))
          (.after ((hbmCount_touches _ _ _ _).onward rfl) (.after restoreRows_onward advance_onward)))))

theorem execRebuildStep_onward {region : Nat} : OnwardNext s (execRebuildStep region s) := by
  unfold execRebuildStep
  dsimp only
  split
  · exact .next (.refl _)
  · refine .ite (.next ?_) (.next (.refl _))
    split
    · exact .after askPieces_onward (.upd (.refl _) rfl)
    · exact .after gatherAcc_onward (.upd (.refl _) rfl)

theorem execReduce_onward {id : Nat} {fetched : List LineIn} : OnwardNext s (execReduce id fetched s) := by
  unfold execReduce
  exact .next (runData_onward fun _ _ _ _ e => reduceLines_onward e)

theorem execRefreshLane_onward {pc cell : Nat} : OnwardNext s (execRefreshLane pc cell s) := by
  unfold execRefreshLane
  split
  · exact .next (.refl _)
  · exact .ite (.next (.refl _))
      (.ite
        (.next (.after emitAll_onward
          (.after ((updPc_touches _ _ _).onward rfl) (.after restoreRows_onward advance_onward))))
        (.next (.after ((updPc_touches _ _ _).onward rfl) (.after restoreRows_onward advance_onward))))

theorem execRefreshTimer_onward {pc : Nat} : OnwardNext s (execRefreshTimer pc s) :=
  .ite (.next (.refl _))
    (.ite (.next ((updPc_touches _ _ _).onward rfl))
      (by
        split
        · exact .next (.after emitAll_onward
            (.after ((blockFault_touches _ _ _ _ _ _).onward rfl) ((updPc_touches _ _ _).onward rfl)))
        · exact .next (.after ((updPart_touches _ _ _).onward rfl)
            (.after ((breach_touches _ _ _ _).onward rfl)
              (.after emitAll_onward
                (.after ((blockFault_touches _ _ _ _ _ _).onward rfl) ((updPc_touches _ _ _).onward rfl)))))))

theorem execRegionDeleteComplete_onward {region : Nat} : OnwardNext s (execRegionDeleteComplete region s) :=
  .ite (.next (.after replicate_onward ((updRegion_touches _ _ _).onward rfl))) (.next (.refl _))

theorem execRegisterWrite_onward {fn offset size value : Nat} :
    OnwardNext s (execRegisterWrite fn offset size value s) :=
  .next (barWrite_onward fun _ => writeReg_onward)

theorem execRelease_onward {h : Option FlitHdr} {port msg : Nat} : OnwardNext s (execRelease h port msg s) :=
  .next (rxCtrl_onward fun _ =>
    .ite (.refl _)
      (.after (.ite (.lat (.refl _)) (.ite lapse_onward (.refl _))) (.after notePartial_onward sendRelease_onward)))

theorem execReleaseDelayExpiry_onward : OnwardNext s (execReleaseDelayExpiry s) := by
  unfold execReleaseDelayExpiry
  split
  · exact .next (.refl _)
  · exact .ite (.next applyRelease_onward) (.next (.refl _))

theorem execReplacementClear_onward {q : MciReq} : OnwardNext s (execReplacementClear q s) :=
  .next replacementCommand_onward

theorem execReplacementQuery_onward {q : MciReq} : OnwardNext s (execReplacementQuery q s) :=
  .next replacementCommand_onward

theorem execResetHoldExpiry_onward : OnwardNext s (execResetHoldExpiry s) :=
  .ite (.next (.refl _)) (.next beginStart_onward)

theorem execResidualReturn_onward {port : Nat} : OnwardNext s (execResidualReturn port s) := by
  unfold execResidualReturn
  split
  · exact .ite (.next (.refl _))
      (.ite (.next toPartTick_onward)
        (.next (.after ((updPipe_touches _ _ _).onward rfl)
          (.after ((updComp_touches _ _ _ _).onward rfl) toPartTick_onward))))
  · exact .next (.refl _)

theorem execRetrainTimeout_onward {port : Nat} : OnwardNext s (execRetrainTimeout port s) :=
  .ite (.next (withLost_onward fun _ => failPort_onward)) (.next (.refl _))

theorem execRingDisable_onward {fn ring rest : Nat} : OnwardNext s (execRingDisable fn ring rest s) :=
  .ite (.next (.refl _))
    (.next (barWrite_onward fun _ => .after writeMarks_onward ((ringDisable_touches _ _ _).onward rfl)))

theorem execRingDoorbell_onward {fn ring : Nat} {value : BitVec 32} {whole : Bool} :
    OnwardNext s (execRingDoorbell fn ring value whole s) :=
  .next (barWrite_onward fun _ => ringDoorbell_onward)

theorem execRingEnable_onward {fn ring : Nat} : OnwardNext s (execRingEnable fn ring s) :=
  .ite (.next (.refl _)) (.next (barWrite_onward fun _ => (ringEnable_touches _ _ _).onward rfl))

theorem execRingFetch_onward {fn ring : Nat} {units : List (BitVec 512)} {list : List BufIn} :
    OnwardNext s (execRingFetch fn ring units list s) :=
  .ite (.next (.refl _))
    (.next (.after wakeNamed_onward
      (by
        split
        · exact .ite (.after ((updRing_touches _ _ _ _).onward rfl) emitAll_onward)
            (.after ((updRing_touches _ _ _ _).onward rfl) emitAll_onward)
        · exact .after ((updRing_touches _ _ _ _).onward rfl) emitAll_onward)))

theorem execRng_onward {e : EvRef} : OnwardNext s (execRng e s) :=
  atEvent_onward fun _ _ => by
    split
    · exact .refl _
    · exact .ite ((addDue_touches _ _ _).onward rfl) ((updPipe_touches _ _ _).onward rfl)

theorem execRootPllLock_onward : OnwardNext s (execRootPllLock s) := .ite (.next (.refl _)) (.next (.upd (.refl _) rfl))

theorem execRowSwitchGap_onward {pc cell : Nat} : OnwardNext s (execRowSwitchGap pc cell s) := by
  unfold execRowSwitchGap
  split
  · exact .next (.refl _)
  · exact .ite (.next (.refl _))
      (.next (.after emitAll_onward
        (.after ((updPc_touches _ _ _).onward rfl) (.after restoreRows_onward advance_onward))))

theorem execRunComplete_onward {fn ring : Nat} {seq : BitVec 32} : OnwardNext s (execRunComplete fn ring seq s) := by
  unfold execRunComplete
  dsimp only
  split
  · exact .next (.refl _)
  · split
    · exact .next (.refl _)
    · exact .next completeOutst_onward

theorem execScatter_onward {e : EvRef} : OnwardNext s (execScatter e s) := by
  unfold execScatter
  dsimp only
  exact atEvent_onward fun _ _ => by
    split
    · exact .refl _
    · split
      · exact .after ((writeFrom_touches _ _ _ _ _ _ _).onward rfl) ((useEntry_touches _ _ _ _).onward rfl)
      · exact .after ((noteWrite_touches _ _ _ _ _ _ _).onward rfl) ((useEntry_touches _ _ _ _).onward rfl)

theorem execScheduledRead_onward {e : EvRef} : OnwardNext s (execScheduledRead e s) :=
  atEvent_onward fun _ _ => (readInto_touches _ _ _ _ _ _ _).onward rfl

theorem execScheduledWrite_onward {e : EvRef} : OnwardNext s (execScheduledWrite e s) :=
  atEvent_onward fun _ _ => (writeFrom_touches _ _ _ _ _ _ _).onward rfl

theorem execScrubVisit_onward {router : Nat} : OnwardNext s (execScrubVisit router s) :=
  .ite (.next (.refl _))
    (.next (.buf (.after (.ite (.refl _) ((storeLine_touches _ _ _ _ _ _ _).onward rfl))
      (.after ((countErrors_touches _ _ _ _ _ _).onward rfl)
        (.after ((injectLine_touches _ _ _).onward rfl) toCommit_onward)))))

theorem execSensorQuery_onward {q : MciReq} : OnwardNext s (execSensorQuery q s) :=
  .next (mciFixed_onward fun _ => mciAnswer_onward)

theorem execSensorSample_onward {sensor : Nat} {raw : BitVec 16} : OnwardNext s (execSensorSample sensor raw s) :=
  .ite (.next (.refl _))
    (.next (.after ((settleAlert_touches _).onward rfl)
      (.after
        (.ite
          (.after evaluateFor_onward
            (.after ((noteCoverage_touches _ _).onward rfl) ((judgeSample_touches _ _ _).onward rfl)))
          ((romSample_touches _ _ _).onward rfl))
        (.after ((countHot_touches _ _ _).onward rfl) (.ite ((injectDone_touches _).onward rfl) (.refl _))))))

theorem execSliceRd_onward {header : BitVec 64} {words : List Nat} : OnwardNext s (execSliceRd header words s) :=
  .ite (.next ctlArrive_onward) (.next (.refl _))

theorem execSliceWr_onward {header : BitVec 64} {words : List Nat} : OnwardNext s (execSliceWr header words s) :=
  .ite (.next ctlArrive_onward) (.next (.refl _))

theorem execSpares_onward {t : Nat} {rx : List SvcClock} : OnwardNext s (execSpares t rx s) := by
  unfold execSpares
  split
  · exact .next (.refl _)
  · exact .ite (.next ackAgain_onward)
      (.ite (.next (.after sendAck_onward ((updTile_touches _ _ _).onward rfl)))
        (.next (.after sendTile_onward
          (.after ((updTile_touches _ _ _).onward rfl) (.after sendAck_onward ((updTile_touches _ _ _).onward rfl))))))

theorem execSpdmRequest_onward {transport src kind content : Nat} :
    OnwardNext s (execSpdmRequest transport src kind content s) :=
  .ite (.next (.refl _)) (.next (.after emit_onward (.upd (.refl _) rfl)))

theorem execStageComplete_onward {fn : Nat} : OnwardNext s (execStageComplete fn s) := by
  unfold execStageComplete
  dsimp only
  split
  · exact .next (.refl _)
  · exact .next (.after ((beginTest_touches _).onward rfl) completeOutst_onward)

theorem execStageStart_onward {fn : Nat} {data : List (Option LineData)} : OnwardNext s (execStageStart fn data s) := by
  unfold execStageStart
  split
  · exact .next (.refl _)
  · exact .ite (.next (.refl _))
      (by
        split
        · exact .next (.after rejectHead_onward ((startTurn_touches _ _ _ (by assumption)).onward rfl))
        · exact .next (.after stageStart_onward ((startTurn_touches _ _ _ (by assumption)).onward rfl)))

theorem execStandbyPowerOff_onward : OnwardNext s (execStandbyPowerOff s) := by
  have wall : (restPm (stopModule s)).clk.wallPs = s.clk.wallPs := by
    obtain ⟨p, e⟩ := stopModule_eq s
    rw [restPm_touches (stopModule s) .clk (by decide), e]
    rfl
  unfold execStandbyPowerOff
  dsimp only
  exact .ite (.next (.refl _)) (.next (.clk_pins_boot_buf_hbm_logs_lanes_pm
    (.after coldClear_onward (.after ((restPm_touches _).onward rfl) stopModule_onward)) wall.symm))

theorem execStandbyPowerOn_onward : OnwardNext s (execStandbyPowerOn s) :=
  .ite (.next (.refl _)) (.next (.upd (.refl _) rfl))

theorem execStatus_onward {id : Nat} : OnwardNext s (execStatus id s) := .next runToken_onward

theorem execStitchRetrain_onward {results : List StitchTrain} : OnwardNext s (execStitchRetrain results s) :=
  .ite (.next (.refl _))
    (.next (.after (.foldl fun _ _ => .ite releasePart_onward (.refl _))
      (.after mergeFaultMap_onward (.after ((stitchResults_touches _ _).onward rfl) stitchPass_onward))))

theorem execStitchTrainingDone_onward {results : List StitchTrain} {links : List LinkTrain} {dead : List Nat} :
    OnwardNext s (execStitchTrainingDone results links dead s) :=
  .ite (.next (.refl _))
    (.next (.after ((stepDone_touches _ _).onward rfl)
      (.after (.ite ((zeroBuffer_touches _).onward rfl) (.refl _))
        (.after (.foldl fun _ _ => deadRouter_onward)
          (.after (.foldl fun _ _ => (stitchLink_touches _ _).onward rfl)
            (.after ((stitchResults_touches _ _).onward rfl) stitchPass_onward))))))

theorem execTelemetryInject_onward {endpoint left content : Nat} {event : Option PktIn} :
    OnwardNext s (execTelemetryInject endpoint left content event s) := by
  unfold execTelemetryInject
  split
  · exact .next (.after ((sendEvent_touches _ _).onward rfl) ((drainQueue_touches _ _ _).onward rfl))
  · exact .ite (.next (.after ((countUp_touches _ _ _).onward rfl) ((drainQueue_touches _ _ _).onward rfl)))
      (.next (.after emit_onward (.ctl ((drainQueue_touches _ _ _).onward rfl))))

theorem execThermalTrip_onward {sensor : Nat} : OnwardNext s (execThermalTrip sensor s) :=
  .ite (.next (.refl _))
    (.next (.pins_boot
      (.after dropRegulators_onward (.after fatalStop_onward ((fatalEvent_touches _ _ _).onward rfl)))))

theorem execThrottleBoundary_onward : OnwardNext s (execThrottleBoundary s) :=
  .ite (.next runTo_onward) (.next (.refl _))

theorem execTileError_onward {t : Nat} {rx : List SvcClock} : OnwardNext s (execTileError t rx s) := by
  unfold execTileError
  split
  · exact .next (.refl _)
  · exact .next (.after mpEvent_onward sendAck_onward)

theorem execTileRediscovery_onward {tile cell : Nat} : OnwardNext s (execTileRediscovery tile cell s) := by
  unfold execTileRediscovery
  dsimp only
  split
  · exact .next (.refl _)
  · exact .ite (.next (.refl _))
      (.next (.after ((startTile_touches _ _).onward rfl)
        (.after passPs_onward (.ite fuseCluster_onward (.upd (.refl _) rfl)))))

theorem execTileSensorFrame_onward {t : Nat} {readings : List (BitVec 16)} {crc : BitVec 16} :
    OnwardNext s (execTileSensorFrame t readings crc s) :=
  .ite (.next (.refl _))
    (.next (.after
      (.ite (.refl _)
        (.after evaluateFor_onward
          (.after ((noteCoverage_touches _ _).onward rfl)
            (.ite ((usableFrame_touches _ _ _).onward rfl) ((unusableFrame_touches _ _).onward rfl)))))
      ((updTile_touches _ _ _).onward rfl)))

theorem execTileShutdown_onward {tile : Nat} : OnwardNext s (execTileShutdown tile s) :=
  .ite (.next (.refl _))
    (.next (.after evaluateRequests_onward
      (.after ((blockFault_touches _ _ _ _ _ _).onward rfl) (.fmap_pm ((updTile_touches _ _ _).onward rfl)))))

theorem execTrainingRetry_onward {port : Nat} : OnwardNext s (execTrainingRetry port s) :=
  .ite (.next (.after evaluateFor_onward ((updPort_touches _ _ _).onward rfl))) (.next (.refl _))

theorem execTreq_onward {h : Option FlitHdr} {port msg : Nat} : OnwardNext s (execTreq h port msg s) :=
  .next (rxCtrl_onward fun _ =>
    .ite (.refl _)
      (.ite takeRequest_onward
        (by
          split
          · exact .refl _
          · exact sendCtrl_onward)))

theorem execTrialBootTimeout_onward : OnwardNext s (execTrialBootTimeout s) :=
  .ite (.next (.refl _)) (.next (.after failedBoot_onward (.ite (.upd (.refl _) rfl) (.refl _))))

theorem execTset_onward {h : Option FlitHdr} {port msg : Nat} : OnwardNext s (execTset h port msg s) := by
  unfold execTset
  dsimp only
  exact .next (rxCtrl_onward fun _ =>
    .ite (.refl _)
      (.after
        (.ite (.pm (.refl _))
          (.ite (.pm_lat (.refl _))
            (.after writeSetting_onward (.after ((countUp_touches _ _ _).onward rfl) (.pm_lat (.refl _))))))
        (.foldl fun _ _ => by
          split
          · exact .refl _
          · exact sendCtrl_onward)))

theorem execUnbindEffect_onward {k : Nat} : OnwardNext s (execUnbindEffect k s) :=
  .ite (.next toBoundary_onward) (.next (.refl _))

theorem execUnitZeroFill_onward {unit : Nat} : OnwardNext s (execUnitZeroFill unit s) := by
  unfold execUnitZeroFill
  dsimp only
  exact .ite (.next (.after zeroKey_onward (.upd (.refl _) rfl)))
    (by
      split
      · exact .next (.refl _)
      · exact .next (.after (.ite extentsDone_onward (.refl _))
          (.after zeroKey_onward ((updRegion_touches _ _ _).onward rfl))))

theorem execUnlease_onward {id : Nat} : OnwardNext s (execUnlease id s) := .next runToken_onward

theorem execUnscheduledAccess_onward {pc sev : Nat} : OnwardNext s (execUnscheduledAccess pc sev s) := by
  unfold execUnscheduledAccess
  extract_lets p dead
  refine .ite (.next (.refl _)) ?_
  split
  · exact .next (.refl _)
  · extract_lets s1
    have counted : Onward s s1 := .after ((updPc_touches _ _ _).onward rfl)
      (.ite (.refl _)
        (.after ((hbmCount_touches _ _ _ _).onward rfl) (.after ((moveRows_touches _ _).onward rfl) wakeStack_onward)))
    refine .next ?_
    split
    · exact .after serveReq_onward (.after ((updPc_touches _ _ _).onward rfl) counted)
    · exact .after denseGo_onward (.after serveCache_onward (.after ((updPc_touches _ _ _).onward rfl) counted))

theorem execUpdate_onward {e : EvRef} : OnwardNext s (execUpdate e s) :=
  atEvent_onward fun _ _ => by
    split
    · exact .refl _
    · split
      · exact .after ((dataPathBreach_touches _ _ _).onward rfl)
          (.after ((countIdleOp_touches _ _).onward rfl)
            (.ofSnd ((gradient_touches _ _ _ _ _).onward rfl) (by assumption)))
      · exact .after ((addDue_touches _ _ _).onward rfl)
          (.after ((portRead_touches _ _ _ _ _ _).onward rfl)
            (.ofSnd ((gradient_touches _ _ _ _ _).onward rfl) (by assumption)))

theorem execUreqCmd_onward {h : FlitHdr} {u : UnschIn} : OnwardNext s (execUreqCmd h u s) :=
  .next (takeReq_onward fun _ => (reqCmd_touches _ _ _).onward rfl)

theorem execUreqDelta_onward {h : FlitHdr} {u : UnschIn} : OnwardNext s (execUreqDelta h u s) :=
  .next (takeReq_onward fun _ => reqDelta_onward)

theorem execUreqRead_onward {h : FlitHdr} {u : UnschIn} : OnwardNext s (execUreqRead h u s) :=
  .next (takeReq_onward fun _ => reqRead_onward)

theorem execUreqRebuild_onward {h : FlitHdr} {u : UnschIn} : OnwardNext s (execUreqRebuild h u s) :=
  .next (takeReq_onward fun _ => reqRebuild_onward)

theorem execUreqTable_onward {h : FlitHdr} {u : UnschIn} : OnwardNext s (execUreqTable h u s) :=
  .next (takeReq_onward fun _ => tableHere_onward)

theorem execUreqToken_onward {h : FlitHdr} {u : UnschIn} : OnwardNext s (execUreqToken h u s) :=
  .next (takeReq_onward fun _ => reqToken_onward)

theorem execUreqWrite_onward {h : FlitHdr} {u : UnschIn} : OnwardNext s (execUreqWrite h u s) :=
  .next (takeReq_onward fun _ => reqWrite_onward)

theorem execUrsp_onward {h : FlitHdr} {uop : Nat} {u : UnschIn} : OnwardNext s (execUrsp h uop u s) :=
  .next (rxFlit_onward fun _ => .ite takeRsp_onward ((passOn_touches _ _ _ _ _).onward rfl))

theorem execVddtReached_onward {t : Nat} : OnwardNext s (execVddtReached t s) :=
  .ite (.next (.refl _)) (.next (.after (.ite sendBoot_onward (.refl _)) ((updTile_touches _ _ _).onward rfl)))

theorem execVetAccept_onward {q : MciReq} : OnwardNext s (execVetAccept q s) := by
  have noted (v : Fw) (t : State) : Onward t (noteVet t { t with fw := v }) :=
    .after ((noteVet_touches _ _).onward rfl) (.upd (.refl _) rfl)
  unfold execVetAccept
  dsimp only
  exact .next (mciFixed_onward fun t => .ite
    (.after mciStatus_onward (.after rejoinGroup_onward (.after notify_onward (noted _ t)))) mciStatus_onward)

theorem execVetReport_onward {q : MciReq} : OnwardNext s (execVetReport q s) :=
  .next (mciFixed_onward fun _ => mciQuery_onward)

theorem execVetRevoke_onward {q : MciReq} : OnwardNext s (execVetRevoke q s) :=
  .next (mciFixed_onward fun _ => .after mciStatus_onward (.after recheckVet_onward (.upd (.refl _) rfl)))

theorem execWakeLatencySet_onward {q : MciReq} : OnwardNext s (execWakeLatencySet q s) :=
  .next (mciFixed_onward fun _ => .after mciStatus_onward ((updFn_touches _ _ _).onward rfl))

theorem execWin_onward {h : FlitHdr} {first total : Nat} {beats : List LineIn} :
    OnwardNext s (execWin h first total beats s) :=
  .next (rxFlit_onward fun _ =>
    .ite ((storeWin_touches _ _ _ _ _).onward rfl)
      (by
        split
        · exact .refl _
        · exact (sendFlit_touches _ _ _ _).onward rfl))

theorem execWindowQuery_onward {q : MciReq} : OnwardNext s (execWindowQuery q s) :=
  .next (mciFixed_onward fun _ =>
    .ite (.after mciStatus_onward ((violation_touches _ _ _).onward rfl)) mciQuery_onward)

theorem execWindowSwitch_onward {q : MciReq} : OnwardNext s (execWindowSwitch q s) :=
  .next (mciFixed_onward fun _ =>
    .after tableWait_onward
      (.after (.iteSnd poolSwitch_onward (.refl _)) (.after switchFns_onward ((mciHold_touches _ _ _).onward rfl))))

theorem execWindowWrite_onward {q : MciReq} : OnwardNext s (execWindowWrite q s) :=
  .next (mciRun_onward fun _ => .after mciStatus_onward (.upd (.refl _) rfl))

theorem execWriteWindowCell_onward {pc cell : Nat} : OnwardNext s (execWriteWindowCell pc cell s) := by
  unfold execWriteWindowCell
  split
  · exact .next (.refl _)
  · exact .ite (.next (.refl _))
      (.ite
        (.next (.after ((acceptBeat_touches _ _ _).onward rfl)
          (.after ((acceptBeat_touches _ _ _).onward rfl)
            (.after ((acceptBeat_touches _ _ _).onward rfl) (.after restoreRows_onward advance_onward)))))
        (.next (.after restoreRows_onward advance_onward)))

theorem mciMessage_onward {op : Nat} {q : MciReq} {data : Nat} {found : List DriveIn} :
    OnwardNext s (mciMessage op q data found s) := by
  unfold mciMessage
  split
  · exact execMciInfo_onward
  · exact execMpReset_onward
  · exact execNotifySubscribe_onward
  · exact execClockCorrelate_onward
  · exact execFwInfo_onward
  · exact execFwWrite_onward
  · exact execFwVerify_onward
  · exact execFwActivate_onward
  · exact execFwCommit_onward
  · exact execKeyInstall_onward
  · exact execKeyRemove_onward
  · exact execKeyList_onward
  · exact execImagePolicy_onward
  · exact execVetReport_onward
  · exact execVetAccept_onward
  · exact execVetRevoke_onward
  · exact execImageLoad_onward
  · exact execImageBind_onward
  · exact execImageUnbind_onward
  · exact execImageEvict_onward
  · exact execImageQuery_onward
  · exact execPartitionSetLayout_onward
  · exact execPartitionQuery_onward
  · exact execPartitionReset_onward
  · exact execBufferScrub_onward
  · exact execLaneTest_onward
  · exact execLaneQuery_onward
  · exact execHbmAssign_onward
  · exact execHbmQuery_onward
  · exact execDenseAttach_onward
  · exact execDenseFlush_onward
  · exact execDenseQuery_onward
  · exact execPrioritySet_onward
  · exact execWindowWrite_onward
  · exact execWindowSwitch_onward
  · exact execWindowQuery_onward
  · exact .ite execPoolRegionReplace_onward execPoolRegionCreate_onward
  · exact execPoolRegionDelete_onward
  · exact execPoolAccessSet_onward
  · exact execPoolQuery_onward
  · exact execLatticeConfig_onward
  · exact execLatticeQuery_onward
  · exact execBarrierPolicy_onward
  · exact execPowerCapSet_onward
  · exact execPowerQuery_onward
  · exact execWakeLatencySet_onward
  · exact execSensorQuery_onward
  · exact execEventRead_onward
  · exact .ite execErrlogClear_onward execErrlogRead_onward
  · exact execCounterRead_onward
  · exact execCounterClear_onward
  · exact execFaultMapQuery_onward
  · exact execReplacementQuery_onward
  · exact execModuleReset_onward
  · exact .next mciReserved_onward

theorem execMciItem_onward {fn data : Nat} {found : List DriveIn} : OnwardNext s (execMciItem fn data found s) := by
  unfold execMciItem
  split
  · exact .next (.refl _)
  · exact .ite (.next (.refl _))
      (by
        split
        · exact .next (.after rejectHead_onward ((startTurn_touches _ _ _ (by assumption)).onward rfl))
        · exact .after mciMessage_onward
            (.after ((consume_touches _ _ _ _).onward rfl) ((startTurn_touches _ _ _ (by assumption)).onward rfl)))

theorem execMailboxGo_onward {found : List DriveIn} : OnwardNext s (execMailboxGo found s) :=
  .ite (.next emit_onward)
    (.ite (.next (.refl _))
      (.ite (.next ((mbxCount_touches _).onward rfl)) (.after mciMessage_onward (.upd (.refl _) rfl))))

/-! ### The step -/

/-- Every command answers a next state, and goes onward there. -/
theorem exec_onward (i : Instr) (s : State) : OnwardNext s (exec i s) := by
  cases i with
  | standbyPowerOn => exact execStandbyPowerOn_onward
  | mainInputOn => exact (execMainInputOn_touches _ s).onward rfl
  | inputOutOfRange => exact execInputOutOfRange_onward
  | coreReferenceStop => exact execCoreReferenceStop_onward
  | rootPllLock => exact execRootPllLock_onward
  | clockLoss => exact execClockLoss_onward
  | thermalTrip => exact execThermalTrip_onward
  | perstAssert => exact execPerstAssert_onward
  | perstDeassert => exact execPerstDeassert_onward
  | deviceReady => exact execDeviceReady_onward
  | perst1Assert => exact execPerst1Assert_onward
  | perst1Deassert => exact execPerst1Deassert_onward
  | portReset => exact execPortReset_onward
  | moduleReset => exact execModuleReset_onward
  | resetHoldExpiry => exact execResetHoldExpiry_onward
  | throttleBoundary => exact execThrottleBoundary_onward
  | crumb => exact execCrumb_onward
  | frameBoundary => exact execFrameBoundary_onward
  | barrierHold => exact execBarrierHold_onward
  | refreshTimer => exact execRefreshTimer_onward
  | refreshLane => exact execRefreshLane_onward
  | readWindowCell => exact execReadWindowCell_onward
  | writeWindowCell => exact execWriteWindowCell_onward
  | rowSwitchGap => exact execRowSwitchGap_onward
  | eventLink => exact execEventLink_onward
  | beatDiscard => exact (execBeatDiscard_touches _ _ s).onward rfl
  | scheduledRead => exact execScheduledRead_onward
  | scheduledWrite => exact execScheduledWrite_onward
  | indexLoad => exact execIndexLoad_onward
  | gather => exact execGather_onward
  | scatter => exact execScatter_onward
  | dispatch => exact execDispatch_onward
  | dispatchResultWrite => exact execDispatchResultWrite_onward
  | foldStep => exact execFoldStep_onward
  | rng => exact execRng_onward
  | update => exact execUpdate_onward
  | branchRead => exact execBranchRead_onward
  | frameBudgetExhausted => exact execFrameBudgetExhausted_onward
  | hostTransferBeat => exact execHostTransferBeat_onward
  | hostReadData => exact (execHostReadData_touches _ _ _ _ _ _ s).onward rfl
  | descriptorBeat => exact (execDescriptorBeat_touches _ s).onward rfl
  | residualReturn => exact execResidualReturn_onward
  | compressedRecordHandover => exact execCompressedRecordHandover_onward
  | latticeWindowEntry => exact execLatticeWindowEntry_onward
  | latticeWindowPresent => exact execLatticeWindowPresent_onward
  | sliceRd => exact execSliceRd_onward
  | sliceWr => exact execSliceWr_onward
  | controlPortCommit => exact execControlPortCommit_onward
  | scrubVisit => exact execScrubVisit_onward
  | controlWordParityError => exact execControlWordParityError_onward
  | packetAgeing => exact execPacketAgeing_onward
  | telemetryInject => exact execTelemetryInject_onward
  | faultPacket => exact execFaultPacket_onward
  | eventPacket => exact execEventPacket_onward
  | socketStatus => exact (execSocketStatus_touches _ _ s).onward rfl
  | unreservedUpBeat => exact (execUnreservedUpBeat_touches _ _ s).onward rfl
  | helloRetry => exact execHelloRetry_onward
  | ident => exact execIdent_onward
  | discoveryAck => exact execDiscoveryAck_onward
  | bootDone => exact execBootDone_onward
  | spares => exact execSpares_onward
  | tileError => exact execTileError_onward
  | discoveryTimeout => exact execDiscoveryTimeout_onward
  | tileSensorFrame => exact execTileSensorFrame_onward
  | bondTrainingDone => exact execBondTrainingDone_onward
  | stitchTrainingDone => exact execStitchTrainingDone_onward
  | consentTimeout => exact (execConsentTimeout_touches _ s).onward rfl
  | stitchRetrain => exact execStitchRetrain_onward
  | tileRediscovery => exact execTileRediscovery_onward
  | faultMapMerge => exact execFaultMapMerge_onward
  | partitionRelease => exact execPartitionRelease_onward
  | hbmTraining => exact execHbmTraining_onward
  | autonomousRefresh => exact execAutonomousRefresh_onward
  | unscheduledAccess => exact execUnscheduledAccess_onward
  | correctedWriteback => exact execCorrectedWriteback_onward
  | patrolScrub => exact (execPatrolScrub_touches _ _ s).onward rfl
  | hbmSoftRepair => exact (execHbmSoftRepair_touches _ _ _ s).onward rfl
  | hbmTempSample => exact (execHbmTempSample_touches _ _ s).onward rfl
  | cacheAccess => exact execCacheAccess_onward
  | driveCommandComplete => exact execDriveCommandComplete_onward
  | driveCommandAbort => exact execDriveCommandAbort_onward
  | denseRequestTimeout => exact execDenseRequestTimeout_onward
  | cacheCleaner => exact (execCacheCleaner_touches s).onward rfl
  | driveFailed => exact execDriveFailed_onward
  | drivePresenceLoss => exact execDrivePresenceLoss_onward
  | ringDoorbell => exact execRingDoorbell_onward
  | cqHeadDoorbell => exact execCqHeadDoorbell_onward
  | flushRequest => exact execFlushRequest_onward
  | flushEffect => exact execFlushEffect_onward
  | ringFetch => exact execRingFetch_onward
  | ringEnable => exact execRingEnable_onward
  | ringDisable => exact execRingDisable_onward
  | nop => exact execNop_onward
  | stageStart => exact execStageStart_onward
  | stageComplete => exact execStageComplete_onward
  | poolItem => exact execPoolItem_onward
  | mciItem => exact execMciItem_onward
  | runComplete => exact execRunComplete_onward
  | interruptTimer => exact execInterruptTimer_onward
  | functionLevelReset => exact (execFunctionLevelReset_touches _ s).onward rfl
  | prioWrite => exact execPrioWrite_onward
  | mailboxGo => exact execMailboxGo_onward
  | capture => exact execCapture_onward
  | counterLowRead => exact execCounterLowRead_onward
  | evtAckWrite => exact execEvtAckWrite_onward
  | attentionEnableWrite => exact execAttentionEnableWrite_onward
  | dbgInject => exact execDbgInject_onward
  | registerWrite => exact execRegisterWrite_onward
  | mciInfo => exact execMciInfo_onward
  | mpReset => exact execMpReset_onward
  | notifySubscribe => exact execNotifySubscribe_onward
  | clockCorrelate => exact execClockCorrelate_onward
  | fwInfo => exact execFwInfo_onward
  | fwWrite => exact execFwWrite_onward
  | fwVerify => exact execFwVerify_onward
  | fwActivate => exact execFwActivate_onward
  | fwCommit => exact execFwCommit_onward
  | keyInstall => exact execKeyInstall_onward
  | keyRemove => exact execKeyRemove_onward
  | keyList => exact execKeyList_onward
  | imagePolicy => exact execImagePolicy_onward
  | vetReport => exact execVetReport_onward
  | vetAccept => exact execVetAccept_onward
  | vetRevoke => exact execVetRevoke_onward
  | imageLoad => exact execImageLoad_onward
  | imageLoadDone => exact execImageLoadDone_onward
  | imageBind => exact execImageBind_onward
  | bindEffect => exact execBindEffect_onward
  | imageUnbind => exact execImageUnbind_onward
  | unbindEffect => exact execUnbindEffect_onward
  | imageEvict => exact execImageEvict_onward
  | imageQuery => exact execImageQuery_onward
  | partitionSetLayout => exact execPartitionSetLayout_onward
  | partitionQuery => exact execPartitionQuery_onward
  | partitionReset => exact execPartitionReset_onward
  | partitionResetEffect => exact execPartitionResetEffect_onward
  | bufferScrub => exact execBufferScrub_onward
  | laneTest => exact execLaneTest_onward
  | laneQuery => exact execLaneQuery_onward
  | hbmAssign => exact execHbmAssign_onward
  | hbmQuery => exact execHbmQuery_onward
  | denseAttach => exact execDenseAttach_onward
  | denseFlush => exact execDenseFlush_onward
  | denseQuery => exact execDenseQuery_onward
  | prioritySet => exact execPrioritySet_onward
  | windowWrite => exact execWindowWrite_onward
  | windowSwitch => exact execWindowSwitch_onward
  | windowQuery => exact execWindowQuery_onward
  | poolRegionCreate => exact execPoolRegionCreate_onward
  | poolRegionReplace => exact execPoolRegionReplace_onward
  | poolRegionDelete => exact execPoolRegionDelete_onward
  | regionDeleteComplete => exact execRegionDeleteComplete_onward
  | poolAccessSet => exact execPoolAccessSet_onward
  | poolQuery => exact execPoolQuery_onward
  | latticeConfig => exact execLatticeConfig_onward
  | latticeQuery => exact execLatticeQuery_onward
  | barrierPolicy => exact execBarrierPolicy_onward
  | powerCapSet => exact execPowerCapSet_onward
  | powerQuery => exact execPowerQuery_onward
  | wakeLatencySet => exact execWakeLatencySet_onward
  | sensorQuery => exact execSensorQuery_onward
  | eventRead => exact execEventRead_onward
  | errlogRead => exact execErrlogRead_onward
  | errlogClear => exact execErrlogClear_onward
  | counterRead => exact execCounterRead_onward
  | counterClear => exact execCounterClear_onward
  | faultMapQuery => exact execFaultMapQuery_onward
  | replacementQuery => exact execReplacementQuery_onward
  | replacementClear => exact execReplacementClear_onward
  | mctpControl => exact execMctpControl_onward
  | spdmRequest => exact execSpdmRequest_onward
  | mpWatchdog => exact execMpWatchdog_onward
  | mpReady => exact execMpReady_onward
  | pmWatchdog => exact execPmWatchdog_onward
  | mpBoot => exact execMpBoot_onward
  | trialBootTimeout => exact execTrialBootTimeout_onward
  | cxlMemRead => exact execCxlMemRead_onward
  | cxlMemWrite => exact execCxlMemWrite_onward
  | poolMailboxCommand => exact (execPoolMailboxCommand_touches _ _ _ s).onward rfl
  | fill => exact execFill_onward
  | copy => exact execCopy_onward
  | compare => exact execCompare_onward
  | reduce => exact execReduce_onward
  | flush => exact execFlush_onward
  | status => exact execStatus_onward
  | lease => exact execLease_onward
  | unlease => exact execUnlease_onward
  | poolCommandEnd => exact execPoolCommandEnd_onward
  | flushTokenComplete => exact execFlushTokenComplete_onward
  | flushTokenTimeout => exact execFlushTokenTimeout_onward
  | leaseExpiry => exact (execLeaseExpiry_touches _ s).onward rfl
  | memberLoss => exact execMemberLoss_onward
  | rebuildStep => exact execRebuildStep_onward
  | unitZeroFill => exact execUnitZeroFill_onward
  | portTrainingDone => exact execPortTrainingDone_onward
  | linkId => exact execLinkId_onward
  | portRetrain => exact (execPortRetrain_touches _ s).onward rfl
  | retrainTimeout => exact execRetrainTimeout_onward
  | trainingRetry => exact execTrainingRetry_onward
  | idleFlit => exact (execIdleFlit_touches _ s).onward rfl
  | nak => exact (execNak_touches _ s).onward rfl
  | win => exact execWin_onward
  | ureqRead => exact execUreqRead_onward
  | ureqWrite => exact execUreqWrite_onward
  | ureqDelta => exact execUreqDelta_onward
  | ureqRebuild => exact execUreqRebuild_onward
  | ureqCmd => exact execUreqCmd_onward
  | ureqTable => exact execUreqTable_onward
  | ureqToken => exact execUreqToken_onward
  | ursp => exact execUrsp_onward
  | ureqRepeat => exact (execUreqRepeat_touches _ _ s).onward rfl
  | ackIdleTimer => exact execAckIdleTimer_onward
  | replayTimeout => exact (execReplayTimeout_touches _ s).onward rfl
  | flitSlot => exact execFlitSlot_onward
  | arrive => exact execArrive_onward
  | release => exact execRelease_onward
  | releaseDelayExpiry => exact execReleaseDelayExpiry_onward
  | barrierTimeout => exact execBarrierTimeout_onward
  | barrierLoneRelease => exact execBarrierLoneRelease_onward
  | treq => exact execTreq_onward
  | tset => exact execTset_onward
  | join => exact execJoin_onward
  | firstBarrierTimer => exact execFirstBarrierTimer_onward
  | linkFail => exact execLinkFail_onward
  | lost => exact execLost_onward
  | policy => exact execPolicy_onward
  | windowAgeOut => exact (execWindowAgeOut_touches _ _ _ s).onward rfl
  | laneSleep => exact (execLaneSleep_touches _ s).onward rfl
  | laneWake => exact (execLaneWake_touches _ s).onward rfl
  | pmControlPeriod => exact execPmControlPeriod_onward
  | pmThermalPeriod => exact (execPmThermalPeriod_touches s).onward rfl
  | sensorSample => exact execSensorSample_onward
  | pwrbrkAssert => exact execPwrbrkAssert_onward
  | pwrbrkDeassert => exact (execPwrbrkDeassert_touches s).onward rfl
  | tileOvercurrent => exact (execTileOvercurrent_touches _ s).onward rfl
  | tileShutdown => exact execTileShutdown_onward
  | idleStateEntry => exact execIdleStateEntry_onward
  | idleExitComplete => exact (execIdleExitComplete_touches _ s).onward rfl
  | elasticOverflow => exact execElasticOverflow_onward
  | errlogSummaryWrite => exact (execErrlogSummaryWrite_touches s).onward rfl
  | coreReferenceValid => exact execCoreReferenceValid_onward
  | standbyPowerOff => exact execStandbyPowerOff_onward
  | mpSramUncorrectable => exact execMpSramUncorrectable_onward
  | flitCrcFailure => exact (execFlitCrcFailure_touches _ _ s).onward rfl
  | configurationRequest => exact execConfigurationRequest_onward
  | laneTestComplete => exact execLaneTestComplete_onward
  | vddtReached => exact execVddtReached_onward
  | dynamicAddressAssignment => exact (execDynamicAddressAssignment_touches _ s).onward rfl

/-- Settles O59: the front command runs on the state with the queue's rest and goes onward; with no command waiting the
clocks go on. -/
theorem stepAnswers : Obligations.StepAnswers := by
  intro s
  unfold step
  cases queue : s.pending with
  | nil => exact ⟨idle s, rfl, idle_onward.pending.trans queue, idle_onward.out, idle_onward.wall⟩
  | cons c rest =>
    obtain ⟨t, run, pending, out, wall⟩ := exec_onward c { s with pending := rest }
    exact ⟨t, run, pending, out, wall⟩

end Sys2Proof.Machine
end

section
/-! BRANCH_READ where an error injection is armed. The injection goes into the line that the branch
word is read from; where the line was written in that very tick it goes into the tick's record, and the line in memory
is stored again from the record. A state whose record and memory disagree thus has its memory changed by the read. -/

namespace Sys2Proof.Machine
open Sys2Proof.Tests

/-- The branch line as a record of tick 3,968 has it: byte 0 is 1. -/
def spoiledRecord : TickLine :=
  ⟨sliceLine wBranchImage.hdr.brRouter wBranchImage.hdr.brLine, 3968, 1, 0, 0, [], []⟩

/-- A branch read is due in partition 0 at tick 3,968 and a single-bit injection is armed for its slice; memory is
empty, against the record of the branch line, so LinesHeld fails. -/
def spoiledBranch : State := { wBranch with
  clk := { wBranch.clk with tick := 3968 }
  regs := { wBranch.regs with
    dbgKind := 1, dbgUnit := BitVec.ofNat 32 wBranchImage.hdr.brRouter, dbgPending := true }
  buf := { wBranch.buf with tickLines := [spoiledRecord] } }

theorem spoiledBranch_ticks :
    tickRuns spoiledBranch = true ∧ spoiledBranch.clk.frameDone = true ∧ frameOffset spoiledBranch = 3968 := by
  decide +kernel

theorem spoiledBranch_due : branchDue spoiledBranch 0 = some (wBranchImage, wBranchVar) := by
  decide +kernel

theorem spoiledBranch_run : (part (advance 0 spoiledBranch) 0).run = some wRun := by
  decide +kernel

/-- Byte 0 of the buffer as the read finds it. -/
theorem spoiledBranch_byte_found : Memory.byte (advance 0 spoiledBranch).buf.mem 0 = 0 := by
  decide +kernel

/-- Byte 0 of the buffer as the read leaves it. -/
theorem spoiledBranch_byte_left :
    Memory.byte (branchNow 0 wBranchImage wBranchVar (advance 0 spoiledBranch)).buf.mem 0 = 1 := by
  decide +kernel

theorem spoiledBranch_exec :
    exec (.branchRead 0) spoiledBranch = .next (branchNow 0 wBranchImage wBranchVar (advance 0 spoiledBranch)) := by
  obtain ⟨runs, done, offset⟩ := spoiledBranch_ticks
  change execBranchRead 0 spoiledBranch = _
  simp [execBranchRead, runs, done, offset, spoiledBranch_due]

/-- Refutes O11: BRANCH_READ's clause says that the buffer's bytes stay, without LinesHeld. In `spoiledBranch` the armed
injection stores the branch line again from the tick's record, and byte 0 goes from 0 to 1. -/
theorem not_tickAndFrameBoundaries : ¬ Obligations.TickAndFrameBoundaries := by
  intro h
  obtain ⟨-, -, -, -, branch, -⟩ := h
  obtain ⟨runs, done, offset⟩ := spoiledBranch_ticks
  have run : (part (advance (3968 - frameOffset spoiledBranch) spoiledBranch) 0).run = some wRun := by
    rw [offset]
    exact spoiledBranch_run
  obtain ⟨t, step, ⟨-, mem, -⟩, -⟩ := branch 0 _ _ _ _ runs done offset.le spoiledBranch_due run
  rw [spoiledBranch_exec, Host.Outcome.next.injEq] at step
  have same := congrArg (Memory.byte · 0) mem
  simp only [← step, offset, Nat.sub_self, spoiledBranch_byte_left, spoiledBranch_byte_found] at same
  exact absurd same (by decide)

end Sys2Proof.Machine
end

section
/-! Host transfers of a run (R109, R146, R321): what a change of one partition's run and pipelines leaves of the plane, and
what a beat of a transfer record does in each direction. -/

namespace Sys2Proof.Machine

/-! ### A key that holds a value -/

/-- Also in a table that is not canonical, a key reads as its new value, if that is not what an unlisted key reads as. -/
theorem Tab.get_set_of_ne_default {α : Type} [DecidableEq α] {d v : α} (ne : v ≠ d) (m : Tab α) (i : Nat) :
    Tab.get d (Tab.set d m i v) i = v := by
  induction m with
  | nil => simp [Tab.set, Tab.get, ne]
  | cons e m ih =>
    obtain ⟨k, w⟩ := e
    unfold Tab.set
    simp only [if_neg ne]
    split
    · simp [Tab.get]
    · split
      · simp [Tab.get]
      · next above other => rw [Tab.get_cons, if_neg (Ne.symm other), ih]

/-! ### One partition changes -/

theorem OnlyPart.trans {k : Nat} {s t u : State} (h : OnlyPart k s t) (g : OnlyPart k t u) : OnlyPart k s u :=
  fun j ne => (g j ne).trans (h j ne)

/-- A state with the same partitions. -/
theorem OnlyPart.of_parts {k : Nat} {s t : State} (h : t.parts = s.parts) : OnlyPart k s t := by
  intro j _
  unfold part
  rw [h]

theorem onlyPart_updPart (k : Nat) (f : Part → Part) (s : State) : OnlyPart k s (updPart k f s) :=
  fun _ ne => part_updPart_ne k f s ne

@[simp] theorem part_emit (o : Output) (s : State) (k : Nat) : part (emit o s) k = part s k := rfl

theorem part_updRun (k : Nat) (f : Run → Run) (s : State) (h : Tab.wf Part.reset s.parts = true) :
    part (updRun k f s) k = { part s k with run := (part s k).run.map f } :=
  part_updPart k _ s h

theorem updRun_wf (k : Nat) (f : Run → Run) (s : State) (h : Tab.wf Part.reset s.parts = true) :
    Tab.wf Part.reset (updRun k f s).parts = true :=
  updPart_wf k _ s h

theorem part_updPipe (k : Nat) (f : Pipe → Pipe) (s : State) (h : Tab.wf Part.reset s.parts = true) :
    part (updPipe k f s) k = { part s k with pipe := f (part s k).pipe } :=
  part_updPart k _ s h

/-- A partition that executes a run is listed, so its run changes in any table. -/
theorem part_updRun_of_run {k : Nat} {s : State} {r : Run} (f : Run → Run) (run : (part s k).run = some r) :
    part (updRun k f s) k = { part s k with run := some (f r) } := by
  have e : updRun k f s = setPart k { part s k with run := some (f r) } s := by
    simp [updRun, updPart, run]
  rw [e]
  exact Tab.get_set_of_ne_default (by simp [Part.reset]) _ _

theorem arrive_arrivals {b : Beat} (valid : b.valid = true) (router reg at_ : Nat) (p : Pipe) :
    (arrive router reg b at_ p).arrivals = ⟨router, reg, b, at_⟩ :: p.arrivals := by
  simp [arrive, valid]

/-! ### The beats of a transfer record -/

section
variable {k i beat : Nat} {h : HostRec} {r q : Run} {s u : State}

theorem exec_hostTransferBeat_in (found : hostRecord s k i beat = some (h, r)) (inward : h.dir = 0) :
    exec (.hostTransferBeat k i beat) s =
      .next (presentHostBeat k i beat h r (advance ((h.tick + beat) % 4096 - frameOffset s) s)) := by
  change execHostTransferBeat k i beat s = _
  simp [execHostTransferBeat, found, inward]

theorem exec_hostTransferBeat_out (found : hostRecord s k i beat = some (h, r)) (outward : h.dir ≠ 0) :
    exec (.hostTransferBeat k i beat) s =
      .next (acceptHostBeat k beat h r (advance ((h.tick + beat) % 4096 - frameOffset s) s)) := by
  change execHostTransferBeat k i beat s = _
  simp [execHostTransferBeat, found, outward]

theorem presentHostBeat_onlyPart (k i beat : Nat) (h : HostRec) (r : Run) (u : State) :
    OnlyPart k u (presentHostBeat k i beat h r u) :=
  (onlyPart_updPart k _ u).trans (onlyPart_updPart k _ _)

/-- The held data is presented and leaves the hold buffer; the run is no later than it was. -/
theorem part_presentHostBeat_held {d : HostHold} (wf : Tab.wf Part.reset u.parts = true) (run : (part u k).run = some q)
    (held : r.hostData.find? (heldHere h r i beat) = some d) (whole : d.failed = false) :
    part (presentHostBeat k i beat h r u) k = { part u k with
      run := some { q with hostData := q.hostData.filter fun x => !(heldHere h r i beat x) }
      pipe := arrive (hostRim h) (hostPort h) (Beat.of d.data false) ((part u k).ptick + 2) (part u k).pipe } := by
  unfold presentHostBeat
  dsimp only
  rw [part_updPipe _ _ _ (updRun_wf _ _ _ wf), part_updRun _ _ _ wf]
  simp [held, whole, run]

/-- Without held data 64 zero bytes are presented, and a run that is not dropped is late. -/
theorem part_presentHostBeat_missing (wf : Tab.wf Part.reset u.parts = true) (run : (part u k).run = some q)
    (missing : r.hostData.find? (heldHere h r i beat) = none) (kept : r.dropped = false) :
    part (presentHostBeat k i beat h r u) k = { part u k with
      run := some { q with hostData := q.hostData.filter fun x => !(heldHere h r i beat x), hostLate := true }
      pipe := arrive (hostRim h) (hostPort h) (Beat.of 0 false) ((part u k).ptick + 2) (part u k).pipe } := by
  unfold presentHostBeat
  dsimp only
  rw [part_updPipe _ _ _ (updRun_wf _ _ _ wf), part_updRun _ _ _ wf]
  simp [missing, kept, run]

theorem acceptHostBeat_onlyPart (k beat : Nat) (h : HostRec) (r : Run) (u : State) :
    OnlyPart k u (acceptHostBeat k beat h r u) := by
  unfold acceptHostBeat
  dsimp only
  split
  · exact .of_parts rfl
  · split
    · exact .of_parts rfl
    · exact (onlyPart_updPart k _ u).trans fun j _ => part_emit _ _ j

/-- A valid beat that the rim router delivered goes to the run's buffer. -/
theorem acceptHostBeat_valid {b : BufEntry} (buffer : r.bufs[h.buf]? = some b) (kept : r.dropped = false)
    (valid : (edgeBeatAt (part u k).pipe (hostRim h) (hostPort h) (part u k).ptick).valid = true) :
    acceptHostBeat k beat h r u =
      let x := edgeBeatAt (part u k).pipe (hostRim h) (hostPort h) (part u k).ptick
      emit (.hostWrite r.fn (b.addr + h.offset + 64 * beat) 64 x.data.toNat x.poison b.ns b.rlx)
        (updRun k (fun q => { q with poisoned := q.poisoned || x.poison }) u) := by
  simp [acceptHostBeat, buffer, valid, kept]

end

/-- Settles O16: each clause reads partition k after one change of its run, and of its pipelines where a beat is
presented. -/
theorem hostTransfers : Obligations.HostTransfers := by
  refine ⟨?held, ?missing, ?output, ?read⟩
  case held =>
    intro k i beat h r q d s found inward plane run held whole
    have after := part_presentHostBeat_held (beat := beat) plane.1 run held whole
    refine ⟨_, exec_hostTransferBeat_in found inward, ⟨?_, ?_, presentHostBeat_onlyPart _ _ _ _ _ _⟩,
      presentHostBeat_touches _ _ _ _ _ _⟩
    · rw [after]
      exact arrive_arrivals rfl ..
    · rw [after]
  case missing =>
    intro k i beat h r q s found inward kept plane run missing
    have after := part_presentHostBeat_missing (beat := beat) plane.1 run missing kept
    refine ⟨_, exec_hostTransferBeat_in found inward, ⟨?_, ?_, presentHostBeat_onlyPart _ _ _ _ _ _⟩,
      presentHostBeat_touches _ _ _ _ _ _⟩
    · rw [after]
      exact arrive_arrivals rfl ..
    · rw [after]
      exact ⟨_, rfl, rfl, rfl⟩
  case output =>
    intro k i beat h r b s found outward kept buffer valid
    refine ⟨_, exec_hostTransferBeat_out found outward, ⟨?_, ?_⟩, acceptHostBeat_touches _ _ _ _ _⟩
    · rw [acceptHostBeat_valid buffer kept valid]
      rfl
    · exact acceptHostBeat_onlyPart _ _ _ _ _
  case read =>
    intro k f i beat d e r s run kept
    refine ⟨_, rfl, ⟨?_, ?_, onlyPart_updPart k _ s⟩, updRun_touches _ _ _⟩
    · rw [part_updRun_of_run _ run]
      simp [kept]
    · rw [part_updRun_of_run _ run]

end Sys2Proof.Machine
end

section
/-! Writes of a slice line (R80, R94, R95, R143): the bytes of a line that was put into memory, the line that a write through
the scheduled port leaves, and what a write event does with a good and with an idle beat. -/

namespace Sys2Proof.Machine

/-! ### Bytes of a line -/

theorem two_pow_eight_mul (i : Nat) : 2 ^ (8 * i) = 256 ^ i := Nat.pow_mul 2 8 i

theorem lineByte_eq (d : LineData) (i : Nat) : lineByte d i = BitVec.ofNat 8 (d.toNat / 256 ^ i) := by
  apply BitVec.eq_of_toNat_eq
  simp [lineByte, bits, Nat.shiftRight_eq_div_pow, two_pow_eight_mul]

theorem toNat_ofNat_of_lt {w x : Nat} (fits : x < 2 ^ w) : (BitVec.ofNat w x).toNat = x := by
  rw [BitVec.toNat_ofNat, Nat.mod_eq_of_lt fits]

/-- A line has 64 bytes. -/
theorem two_pow_lineBits : 2 ^ (8 * 64) = 2 ^ 512 := congrArg (2 ^ ·) rfl

theorem packElems_lt (w : Nat) (f : Nat → BitVec w) (n : Nat) : packElems w f n < 2 ^ (w * n) := by
  induction n with
  | zero => simp [packElems]
  | succ n ih =>
    have top : (f n).toNat + 1 ≤ 2 ^ w := (f n).isLt
    calc packElems w f n + (f n).toNat * 2 ^ (w * n)
        < ((f n).toNat + 1) * 2 ^ (w * n) := by rw [Nat.succ_mul]; omega
      _ ≤ 2 ^ w * 2 ^ (w * n) := Nat.mul_le_mul_right _ top
      _ = 2 ^ (w * (n + 1)) := by rw [← Nat.pow_add, Nat.mul_succ, Nat.add_comm]

/-- Each element stands at its place. -/
theorem packElems_elem (w : Nat) (f : Nat → BitVec w) {n i : Nat} (lt : i < n) :
    BitVec.ofNat w (packElems w f n / 2 ^ (w * i)) = f i := by
  induction n with
  | zero => omega
  | succ n ih =>
    rw [packElems]
    rcases Nat.lt_succ_iff_lt_or_eq.mp lt with below | rfl
    · obtain ⟨m, rfl⟩ : ∃ m, n = i + 1 + m := ⟨n - (i + 1), by omega⟩
      have split : (f (i + 1 + m)).toNat * 2 ^ (w * (i + 1 + m)) =
          2 ^ (w * i) * (2 ^ w * ((f (i + 1 + m)).toNat * 2 ^ (w * m))) := by
        rw [Nat.mul_add, Nat.mul_add, Nat.pow_add, Nat.pow_add, Nat.mul_one]
        ring
      rw [split, Nat.add_mul_div_left _ _ (Nat.two_pow_pos _), ← ih below]
      apply BitVec.eq_of_toNat_eq
      simp
    · rw [Nat.add_mul_div_right _ _ (Nat.two_pow_pos _), Nat.div_eq_of_lt (packElems_lt w f i)]
      simp

/-- Byte i of a line made of 64 bytes. -/
theorem lineByte_lineOf (f : Nat → Byte) {i : Nat} (lt : i < 64) : lineByte (lineOf 8 64 f) i = f i := by
  have fits : packElems 8 f 64 < 2 ^ 512 := two_pow_lineBits ▸ packElems_lt 8 f 64
  rw [lineByte_eq, lineOf, toNat_ofNat_of_lt fits, ← two_pow_eight_mul]
  exact packElems_elem 8 f lt

theorem lineElem_eq_lineByte (d : LineData) (i : Nat) : (lineElem 8 d i : Byte) = lineByte d i := by
  rw [lineByte_eq, lineElem, Nat.shiftRight_eq_div_pow, two_pow_eight_mul]

/-- A merged line takes the bytes of the mask from the new line. -/
theorem lineByte_mergeLine (old new : LineData) (mask : LineMask) {i : Nat} (lt : i < 64) :
    lineByte (mergeLine old new mask) i = if mask.getLsbD i then lineByte new i else lineByte old i := by
  rw [mergeLine, lineByte_lineOf _ lt, lineElem_eq_lineByte, lineElem_eq_lineByte]

/-! ### Lines in memory -/

theorem Memory.readN_lt (m : Memory) (a n : Nat) : Memory.readN m a n < 2 ^ (8 * n) := by
  induction n generalizing a with
  | zero => simp [Memory.readN]
  | succ n ih =>
    have low := (Memory.byte m a).isLt
    have high := ih (a + 1)
    rw [Memory.readN, Nat.mul_succ, Nat.pow_add]
    omega

theorem Memory.readN_byte (m : Memory) (a : Nat) {n i : Nat} (lt : i < n) :
    BitVec.ofNat 8 (Memory.readN m a n / 256 ^ i) = Memory.byte m (a + i) := by
  induction n generalizing a i with
  | zero => omega
  | succ n ih =>
    rw [Memory.readN]
    cases i with
    | zero =>
      have low := (Memory.byte m a).isLt
      apply BitVec.eq_of_toNat_eq
      simp only [Nat.pow_zero, Nat.div_one, Nat.add_zero, BitVec.toNat_ofNat]
      omega
    | succ i =>
      have shift : ((Memory.byte m a).toNat + 256 * Memory.readN m (a + 1) n) / 256 = Memory.readN m (a + 1) n := by
        have low := (Memory.byte m a).isLt
        omega
      rw [Nat.pow_succ', ← Nat.div_div_eq_div_mul, shift, ih (a + 1) (by omega)]
      congr 1
      omega

/-- Byte i of the line at an address. -/
theorem lineByte_line (m : Memory) (a : Nat) {i : Nat} (lt : i < 64) :
    lineByte (Memory.line m a) i = Memory.byte m (a + i) := by
  have fits : Memory.readN m a 64 < 2 ^ 512 := two_pow_lineBits ▸ Memory.readN_lt m a 64
  rw [lineByte_eq, Memory.line, toNat_ofNat_of_lt fits]
  exact Memory.readN_byte m a lt

/-- A line that is put whole holds its bytes. -/
theorem Memory.byte_setLine_full {m : Memory} (a : Nat) (d : LineData) {i : Nat} (wf : Memory.wf m = true) (lt : i < 64) :
    Memory.byte (Memory.setLine m a d fullMask) (a + i) = lineByte d i := by
  have covered : fullMask.toNat / 2 ^ i % 2 = 1 := by
    have bit : fullMask.toNat.testBit i = true := by
      rw [BitVec.testBit_toNat, fullMask, BitVec.getLsbD_allOnes]
      exact decide_eq_true lt
    simpa [Nat.testBit_eq_decide_div_mod_eq] using bit
  rw [Memory.setLine, Memory.byte_writeN _ _ _ _ _ wf lt, if_pos covered, lineByte_eq]

/-! ### The line that a scheduled write leaves -/

/-- One more write through the scheduled port comes after the others of its tick. -/
theorem TickLine.after_append (e : TickLine) (w : LineWrite) :
    ({ e with sched := e.sched ++ [w] } : TickLine).after = w.apply e.after := by
  simp [TickLine.after, List.foldl_append, ← List.append_assoc]

theorem sliceByte_eq (router line : Nat) : sliceByte router line = 64 * sliceLine router line := by
  unfold sliceByte sliceLine
  omega

/-- Where the tick's records agree with memory, the write merges its bytes into the line as memory holds it. -/
theorem storeLine_mem_merged (router line : Nat) (d : LineData) (mask : LineMask) (poison : Bool) {s : State}
    (held : s.LinesHeld) :
    (storeLine router line d mask poison true s).buf.mem =
      Memory.setLine s.buf.mem (sliceByte router line) (mergeLine (lineData s router line) d mask) fullMask := by
  unfold storeLine mirrorWrite putTickLine
  dsimp only
  simp only [if_true, countErrors_mem, TickLine.after_append, LineWrite.apply, sliceByte_eq]
  cases found : tickLine s router line with
  | none =>
    simp only [Option.getD_none, TickLine.after, lineData, sliceByte_eq]
    rfl
  | some e =>
    have recorded : e ∈ s.buf.tickLines := List.mem_of_find?_eq_some found
    have line_held := held e recorded
    rw [tickLine_key found] at line_held
    simp only [Option.getD_some, tickLine_key found, ← line_held, lineData, sliceByte_eq]
    rfl

/-- The masked bytes of the line are those of the data, and the others stay. -/
theorem storeLine_bufLine (router line : Nat) (d : LineData) (mask : LineMask) (poison : Bool) {s : State}
    (wf : Memory.wf s.buf.mem = true) (held : s.LinesHeld) :
    BufLine (sliceByte router line) d mask s (storeLine router line d mask poison true s) := by
  intro i lt
  rw [storeLine_mem_merged _ _ _ _ _ held, Memory.byte_setLine_full _ _ wf lt, lineByte_mergeLine _ _ _ lt, lineData,
    lineByte_line _ _ lt]

theorem storeLine_bufOutside (router line : Nat) (d : LineData) (mask : LineMask) (poison sched : Bool) (s : State) :
    BufOutside (sliceByte router line) 64 s (storeLine router line d mask poison sched s) :=
  fun _ outside => storeLine_outside router line d mask poison sched s outside

/-- What is said of the buffer's bytes holds of every state with the same bytes. -/
theorem BufLine.of_mem {lo : Nat} {d : LineData} {mask : LineMask} {s t u : State} (h : BufLine lo d mask s t)
    (same : u.buf.mem = t.buf.mem) : BufLine lo d mask s u := by
  unfold BufLine
  rw [same]
  exact h

theorem BufOutside.of_mem {lo n : Nat} {s t u : State} (h : BufOutside lo n s t) (same : u.buf.mem = t.buf.mem) :
    BufOutside lo n s u := by
  unfold BufOutside
  rw [same]
  exact h

/-- Without bad or corrected words nothing is counted. -/
@[simp] theorem countErrors_none (queue : Bool) (router line : Nat) (s : State) :
    countErrors queue router line 0 0 s = s := by
  unfold countErrors
  have fresh : popcount (wordMask fun w => bit1 0 w && !bit1 (Tab.get 0 s.buf.counted (sliceLine router line)) w) 8 = 0 := by
    simp [bit1, wordMask, popcount]
  simp [fresh]

/-- A write of all 64 bytes reads no word, so no count rises. -/
theorem storeLine_full_touches (router line : Nat) (d : LineData) (poison : Bool) (s : State) :
    Touches [.buf] s (storeLine router line d fullMask poison true s) := by
  have whole : partWords fullMask.toNat = 0 := by decide
  unfold storeLine
  simp only [whole, Nat.and_zero, countErrors_none]
  exact (putTickLine_touches _ _).trans (mirrorWrite_touches _ _ _)

/-! ### Write events -/

section
variable {e : EvRef} {rd : Ready} {s u : State} {router line lo n : Nat} {mask : LineMask}

/-- An event that is ready acts on the state of its tick. -/
theorem atEvent_ready {kind : Nat} (ready : readyEvent s e kind = some rd) (act : Ready → State → State) :
    atEvent e kind s act = .next (act rd (advance rd.wait s)) := by
  simp only [atEvent, ready]

/-- An idle beat, or one whose parity holds, is taken as it stands and changes nothing. -/
theorem takeInput_writeBeat (h : (writeBeat u rd router 4).valid = false ∨ (writeBeat u rd router 4).parityOk = true) :
    takeInput rd.part router rd.ev.inp 0 rd.ev.bsel 4 u = (writeBeat u rd router 4, u) := by
  have sound : ((writeBeat u rd router 4).valid && !(writeBeat u rd router 4).parityOk) = false := by
    rcases h with h | h <;> simp [h]
  unfold writeBeat at sound ⊢
  simp only [takeInput, sound]
  rfl

theorem writeFrom_valid (valid : (writeBeat u rd router 4).valid = true) (parity : (writeBeat u rd router 4).parityOk = true) :
    writeFrom rd router line lo n mask u =
      noteWrite rd.part router lo n (some line) false (schedWrite router line (writeBeat u rd router 4) mask u) := by
  simp [writeFrom, takeInput_writeBeat (.inr parity), valid]

theorem writeFrom_idle (idle : (writeBeat u rd router 4).valid = false) :
    writeFrom rd router line lo n mask u =
      noteWrite rd.part router lo n none false (dataPathBreach 0x4009 router (countIdleOp router u)) := by
  simp [writeFrom, takeInput_writeBeat (.inl idle), idle]

theorem noteWrite_onlyPart (k router lo n : Nat) (hit : Option Nat) (control : Bool) (u : State) :
    OnlyPart k u (noteWrite k router lo n hit control u) :=
  onlyPart_updPart k _ u

theorem noteWrite_mem (k router lo n : Nat) (hit : Option Nat) (control : Bool) (u : State) :
    (noteWrite k router lo n hit control u).buf.mem = u.buf.mem := rfl

theorem noteWrite_holdPend (k router lo n : Nat) (hit : Option Nat) (control : Bool) (u : State)
    (wf : Tab.wf Part.reset u.parts = true) :
    (part (noteWrite k router lo n hit control u) k).holdPend = (part u k).holdPend := by
  rw [noteWrite, part_updPart _ _ _ wf]

/-- A slice write changes no partition. -/
theorem schedWrite_onlyPart (k router line : Nat) (b : Beat) (mask : LineMask) (u : State) :
    OnlyPart k u (schedWrite router line b mask u) :=
  .of_parts (schedWrite_touches router line b mask u .parts (by decide))

/-- A good beat is stored under the mask, and nothing else of the buffer or of the other partitions changes. -/
theorem writeFrom_stores (wf : u.MemWf) (held : u.LinesHeld) (valid : (writeBeat u rd router 4).valid = true)
    (parity : (writeBeat u rd router 4).parityOk = true) :
    BufLine (sliceByte router line) (writeBeat u rd router 4).data mask u (writeFrom rd router line lo n mask u) ∧
      BufOutside (sliceByte router line) 64 u (writeFrom rd router line lo n mask u) ∧
      OnlyPart rd.part u (writeFrom rd router line lo n mask u) := by
  rw [writeFrom_valid valid parity]
  exact ⟨(storeLine_bufLine router line _ mask _ wf.1 held).of_mem (noteWrite_mem ..),
    (storeLine_bufOutside router line _ mask _ _ u).of_mem (noteWrite_mem ..),
    (schedWrite_onlyPart _ _ _ _ _ _).trans (noteWrite_onlyPart _ _ _ _ _ _ _)⟩

/-- A write of the whole line touches neither counters nor the control network. -/
theorem writeFrom_full_touches (valid : (writeBeat u rd router 4).valid = true)
    (parity : (writeBeat u rd router 4).parityOk = true) :
    Touches [.parts, .buf] u (writeFrom rd router line lo n fullMask u) := by
  rw [writeFrom_valid valid parity]
  exact ((storeLine_full_touches _ _ _ _ _).mono rfl).trans ((noteWrite_touches _ _ _ _ _ _ _).mono rfl)

/-- With room in the MP's queue a breach sends its packet and marks the run and the hold of the router's partition. -/
theorem dataPathBreach_room {reason k : Nat} (own : partOf u router = some k) (room : u.ctl.faultQ.length < 256) :
    dataPathBreach reason router u = breach k stDataPath true { u with ctl := { u.ctl with
      faultQ := u.ctl.faultQ ++ [⟨reason, 4, router, none, controlNode router, controlSub router⟩] } } := by
  simp only [dataPathBreach, own, routerFault, sendFault, room, if_true]

theorem breach_holdPend (k status : Nat) (u : State) (wf : Tab.wf Part.reset u.parts = true) :
    (part (breach k status true u) k).holdPend = true := by
  rw [breach, part_updPart _ _ _ wf]
  exact Bool.or_true _

theorem breach_onlyPart (k status : Nat) (hold : Bool) (u : State) : OnlyPart k u (breach k status hold u) :=
  onlyPart_updPart k _ u

theorem breach_wf (k status : Nat) (hold : Bool) (u : State) (wf : Tab.wf Part.reset u.parts = true) :
    Tab.wf Part.reset (breach k status hold u).parts = true :=
  updPart_wf k _ u wf

/-! ### Index entries of a window (R94) -/

/-- An entry that is used without a count changes its window's index alone. -/
theorem useEntry_uncounted (key k : Nat) (u : State) :
    useEntry key false k u = { u with buf := { u.buf with
      index := Tab.upd IndexState.none u.buf.index key fun st => { st with next := min 32 (st.next + 1) } } } := rfl

theorem useEntry_onlyPart (key : Nat) (counted : Bool) (k : Nat) (u : State) : OnlyPart k u (useEntry key counted k u) := by
  unfold useEntry
  dsimp only
  split
  · exact OnlyPart.trans (.of_parts rfl) (onlyPart_updPart k _ _)
  · exact .of_parts rfl

/-- Every use moves the window to its next entry and leaves the rest of the buffer. -/
theorem useEntry_buf (key : Nat) (counted : Bool) (k : Nat) (u : State) :
    (useEntry key counted k u).buf = { u.buf with
      index := Tab.upd IndexState.none u.buf.index key fun st => { st with next := min 32 (st.next + 1) } } := by
  cases counted <;> rfl

/-- The beat of a scatter is stored as that of a write: the use of its entry changes neither memory nor pipelines. -/
theorem writeFrom_useEntry_stores {key : Nat} (wf : u.MemWf) (held : u.LinesHeld)
    (valid : (writeBeat u rd router 4).valid = true) (parity : (writeBeat u rd router 4).parityOk = true) :
    BufLine (sliceByte router line) (writeBeat u rd router 4).data mask u
        (writeFrom rd router line lo n mask (useEntry key false rd.part u)) ∧
      BufOutside (sliceByte router line) 64 u (writeFrom rd router line lo n mask (useEntry key false rd.part u)) ∧
      OnlyPart rd.part u (writeFrom rd router line lo n mask (useEntry key false rd.part u)) := by
  rw [useEntry_uncounted]
  exact writeFrom_stores (u := { u with buf := { u.buf with index := _ } }) wf held valid parity

theorem exec_scatter_line {w : IndexWindow} {l : Nat} (ready : readyEvent s e kScatter = some rd)
    (window : rd.image.window e.router rd.ev.arg = some w)
    (entry : indexEntry rd.image e.router rd.ctx w
      (Tab.get IndexState.none (advance rd.wait s).buf.index (windowKey e.router w.id)) = .line l) :
    exec (.scatter e) s = .next (writeFrom rd e.router l (w.base + if w.ctx then rd.image.ctxBase e.router rd.ctx else 0)
      (w.sizeM1 + 1) fullMask (useEntry (windowKey e.router w.id) false rd.part (advance rd.wait s))) := by
  change execScatter e s = _
  rw [execScatter, atEvent_ready ready]
  simp only [window, entry]

theorem exec_scatter_suppressed {w : IndexWindow} {c : Bool} (ready : readyEvent s e kScatter = some rd)
    (window : rd.image.window e.router rd.ev.arg = some w)
    (entry : indexEntry rd.image e.router rd.ctx w
      (Tab.get IndexState.none (advance rd.wait s).buf.index (windowKey e.router w.id)) = .suppressed c) :
    exec (.scatter e) s = .next (noteWrite rd.part e.router
      (w.base + if w.ctx then rd.image.ctxBase e.router rd.ctx else 0) (w.sizeM1 + 1) none false
      (useEntry (windowKey e.router w.id) c rd.part (advance rd.wait s))) := by
  change execScatter e s = _
  rw [execScatter, atEvent_ready ready]
  simp only [window, entry]

/-- A suppressed scatter stores nothing and uses up its entry. -/
theorem noteWrite_useEntry_stores_nothing (key : Nat) {k : Nat} {c : Bool} (slices : u.SliceWf) :
    let t := noteWrite k router lo n none false (useEntry key c k u)
    t.buf.mem = u.buf.mem ∧ t.buf.bad = u.buf.bad ∧
      (Tab.get IndexState.none t.buf.index key).next = min 32 ((Tab.get IndexState.none u.buf.index key).next + 1) ∧
      OnlyPart k u t := by
  obtain ⟨-, -, -, index, -⟩ := slices
  have buf : (noteWrite k router lo n none false (useEntry key c k u)).buf = (useEntry key c k u).buf := rfl
  dsimp only
  rw [buf, useEntry_buf, Tab.get_upd _ _ index]
  exact ⟨rfl, rfl, rfl, (useEntry_onlyPart _ _ _ _).trans (noteWrite_onlyPart _ _ _ _ _ _ _)⟩

/-- An idle beat stores nothing: the router counts it, and the partition's run and hold take the breach. -/
theorem writeFrom_idle_breach (plane : u.PlaneWf) (own : partOf u router = some rd.part)
    (idle : (writeBeat u rd router 4).valid = false) (room : u.ctl.faultQ.length < 256) :
    let t := writeFrom rd router line lo n mask u
    (t.buf.mem = u.buf.mem ∧ t.buf.bad = u.buf.bad ∧ (part t rd.part).holdPend = true ∧
      t.ctl.faultQ = u.ctl.faultQ ++ [⟨0x4009, 4, router, none, controlNode router, controlSub router⟩] ∧
      OnlyPart rd.part u t) ∧ Touches [.parts, .buf, .ctl] u t := by
  have counted : dataPathBreach 0x4009 router (countIdleOp router u) = _ := dataPathBreach_room own room
  dsimp only
  rw [writeFrom_idle idle, counted]
  refine ⟨⟨rfl, rfl, ?_, rfl, ?_⟩, ?_⟩
  · exact (noteWrite_holdPend _ _ _ _ _ _ _ (breach_wf _ _ _ _ plane.1)).trans (breach_holdPend _ _ _ plane.1)
  · exact (OnlyPart.of_parts rfl).trans ((breach_onlyPart _ _ _ _).trans (noteWrite_onlyPart _ _ _ _ _ _ _))
  · exact (((countIdleOp_touches router u).mono rfl).trans (upd_ctl rfl (.refl _ _))).trans
      (((breach_touches _ _ _ _).mono rfl).trans ((noteWrite_touches _ _ _ _ _ _ _).mono rfl))

end

/-- Settles O9: a good beat is stored under its mask, at the line that the event or its index entry names; an idle beat
or a suppressed entry stores nothing. -/
theorem sliceWrites : Obligations.SliceWrites := by
  refine ⟨?stored, ?idle, ?scattered, ?suppressed⟩
  case stored =>
    intro e rd s ready plane wf held valid parity
    exact ⟨_, atEvent_ready ready _, writeFrom_stores wf held valid parity, writeFrom_touches _ _ _ _ _ _ _⟩
  case idle =>
    intro e rd s ready plane own idle room
    exact ⟨_, atEvent_ready ready _, writeFrom_idle_breach plane own idle room⟩
  case scattered =>
    intro e rd w l s ready plane window wf held entry valid parity
    refine ⟨_, exec_scatter_line ready window entry, writeFrom_useEntry_stores wf held valid parity, ?_⟩
    exact ((useEntry_touches _ _ _ _).mono rfl).trans (writeFrom_full_touches valid parity)
  case suppressed =>
    intro e rd w c s ready plane window entry slices
    refine ⟨_, exec_scatter_suppressed ready window entry, noteWrite_useEntry_stores_nothing _ slices, ?_⟩
    exact ((useEntry_touches _ _ _ _).mono rfl).trans ((noteWrite_touches _ _ _ _ _ _ _).mono rfl)

end Sys2Proof.Machine
end

section
/-! SCHEDULED_READ where an error injection is armed (Table 19.13), and AUTONOMOUS_REFRESH on a table of pseudo-channels that
lists a key twice: two states that the premises of their statements admit. The first lacks LinesHeld, the second UnitWf. -/

namespace Sys2Proof.Machine
open Sys2Proof.Tests

/-! ### A read that stores the line again from the tick's record -/

/-- The line of the read as a record of tick 8 has it: byte 0 is 1. -/
def spoiledReadRecord : TickLine := ⟨sliceLine rEv 7, 8, 1, 0, 0, [], []⟩

/-- A scheduled read of line 7 is ready at tick 8 and a single-bit injection is armed for its slice; memory is empty,
against the record of the line, so LinesHeld fails. -/
def spoiledRead : State := { wRead with
  regs := { wRead.regs with dbgKind := 1, dbgUnit := BitVec.ofNat 32 rEv, dbgPending := true }
  buf := { wRead.buf with tickLines := [spoiledReadRecord] } }

/-- The read as it is ready. -/
def spoiledReady : Ready := rdOf spoiledRead eRead kRead

theorem spoiledRead_ready : readyEvent spoiledRead eRead kRead = some spoiledReady := by
  decide +kernel

theorem spoiledRead_premises : (advance spoiledReady.wait spoiledRead).PlaneWf ∧
    leaderOf (part (advance spoiledReady.wait spoiledRead) spoiledReady.part) eRead.router (spoiledReady.line eRead)
      spoiledReady.ev.ctx = none := by
  decide +kernel

/-- First byte of the line. -/
def spoiledReadByte : Nat := sliceByte rEv 7

/-- The byte as the read finds it. -/
theorem spoiledRead_byte_found :
    Memory.byte (advance spoiledReady.wait spoiledRead).buf.mem spoiledReadByte = 0 := by
  decide +kernel

/-- The byte as the read leaves it. -/
theorem spoiledRead_byte_left :
    Memory.byte (readInto spoiledReady.part eRead.router (spoiledReady.line eRead) spoiledReady.ev.ctx true none
      (advance spoiledReady.wait spoiledRead)).buf.mem spoiledReadByte = 1 := by
  decide +kernel

/-- Refutes O8: SCHEDULED_READ's clause says that the buffer's bytes stay, without LinesHeld. In `spoiledRead` the armed
injection stores the line again from the tick's record, and its first byte goes from 0 to 1. -/
theorem not_sliceReads : ¬ Obligations.SliceReads := by
  intro h
  obtain ⟨read, -⟩ := h
  obtain ⟨plane, leaderless⟩ := spoiledRead_premises
  obtain ⟨t, step, ⟨-, mem, -⟩, -⟩ := read _ _ _ spoiledRead_ready plane leaderless
  have run := atEvent_ready spoiledRead_ready fun rd u =>
    readInto rd.part eRead.router (rd.line eRead) rd.ev.ctx true
      (leaderOf (part u rd.part) eRead.router (rd.line eRead) rd.ev.ctx) u
  rw [leaderless] at run
  obtain rfl := Host.Outcome.next.inj (run.symm.trans step)
  have same := congrArg (Memory.byte · spoiledReadByte) mem
  simp only [spoiledRead_byte_left, spoiledRead_byte_found] at same
  exact absurd same (by decide)

/-! ### A debt that the refresh repays where the pseudo-channel is listed twice -/

/-- A pseudo-channel in autonomous mode that owes one refresh. -/
def owingPc : Pc := { Pc.reset with debt := 1 }

/-- Pseudo-channel 3 is listed twice, so UnitWf fails. -/
def doubledPc : State := { wTrained with hbm := { wTrained.hbm with pc := [(3, owingPc), (3, owingPc)] } }

theorem doubledPc_premises : pcServes doubledPc 3 = true ∧ (pcOf doubledPc 3).auto = true ∧
    (stackOf doubledPc (3 / 32)).selfRefresh = false := by
  decide +kernel

/-- The repaid pseudo-channel is at its reset value, so its entry goes and the second one shows. -/
theorem doubledPc_debt_left :
    (pcOf (updPc 3 (fun p => { p with debt := owed (p.debt - 1) }) doubledPc) 3).debt = 1 := by
  decide +kernel

theorem doubledPc_exec : exec (.autonomousRefresh 3) doubledPc =
    .next (emit (.dram 3 1 0) (updPc 3 (fun p => { p with debt := owed (p.debt - 1) }) doubledPc)) := by
  obtain ⟨serves, auto, awake⟩ := doubledPc_premises
  change execAutonomousRefresh 3 doubledPc = _
  simp [execAutonomousRefresh, serves, auto, awake]

/-- Refutes O13: AUTONOMOUS_REFRESH's clause says that the debt falls by one, without UnitWf. In `doubledPc` the repaid
entry leaves the table, and pseudo-channel 3 reads as the second entry, whose debt is 1 still. -/
theorem not_refreshDebt : ¬ Obligations.RefreshDebt := by
  intro h
  obtain ⟨-, -, -, -, -, refresh⟩ := h
  obtain ⟨serves, auto, awake⟩ := doubledPc_premises
  obtain ⟨t, step, ⟨repaid, -⟩, -⟩ := refresh 3 doubledPc serves auto awake
  obtain rfl := Host.Outcome.next.inj (doubledPc_exec.symm.trans step)
  have debt := congrArg Pc.debt repaid
  have left : (pcOf (emit (.dram 3 1 0) (updPc 3 (fun p => { p with debt := owed (p.debt - 1) }) doubledPc)) 3).debt = 1 :=
    doubledPc_debt_left
  rw [left] at debt
  exact absurd debt (by decide)

end Sys2Proof.Machine
end

section
/-! Answers of management commands (R354 to R359): what a served request with fixed fields does, what its answer sends, and what
an answer leaves of the image slots. -/

namespace Sys2Proof.Machine

section
variable {op len status detail rlen params j n : Nat} {bs : List Block} {q : MciReq} {s t u : State} {v : Slot}

theorem mciFixed_of_serves {fields : List (Nat × Nat)} {rangeOk : Bool}
    (serves : Serves op (q.plen == len) (reservedClear (mciParams q) fields && rangeOk) q s) (act : State → State) :
    mciFixed op len fields rangeOk q act s = act s := by
  obtain ⟨served, accepted⟩ := serves
  simp [mciFixed, mciRun, served, accepted]

/-- What was sent after s before a state that goes onward. -/
theorem Sent.of_onward {o : Output} (later : Onward u t) (h : u.out = s.out ++ [o]) : Sent o s t := by
  obtain ⟨l, e⟩ := later.out
  simp [Sent, ← e, h]

/-- The response is the first output of a delivery. -/
theorem mciDeliver_sent (item : Option Outst) :
    Sent (.mciResponse q.who op q.tag status detail rlen params) s (mciDeliver op q status detail rlen params item s) := by
  refine Sent.of_onward (u := emit (.mciResponse q.who op q.tag status detail rlen params) s) ?_ rfl
  unfold mciDeliver
  refine .ite mailboxDone_onward (.ite ?_ (.refl _))
  split
  · exact .refl _
  · exact .after serviceDone_onward emit_onward

theorem mciAnswer_answered : Answered op q status detail rlen params s (mciAnswer op q status detail rlen params s) :=
  mciDeliver_sent (s := { s with fw := { s.fw with
    outstanding := s.fw.outstanding.filter fun o => !(o.1 == q.who && o.2.2 == q.tag) } }) _

theorem mciStatus_answered : Answered op q status 0 0 0 s (mciStatus op q status s) := mciAnswer_answered

/-- Of the firmware an answer changes the list of outstanding requests alone. -/
theorem mciAnswer_fw : (mciAnswer op q status detail rlen params s).fw =
    { s.fw with outstanding := (mciAnswer op q status detail rlen params s).fw.outstanding } := by
  have fw : (mciAnswer op q status detail rlen params s).fw = { s.fw with
      outstanding := s.fw.outstanding.filter fun o => !(o.1 == q.who && o.2.2 == q.tag) } :=
    mciDeliver_touches _ _ _ _ _ _ _ _ .fw (by decide)
  rw [fw]

theorem Touches.slot_eq (h : Touches bs s t) (keeps : Block.slots ∉ bs) (j : Nat) : slot t j = slot s j := by
  have slots : t.slots = s.slots := h .slots keeps
  rw [slot, slots, slot]

/-- A write of slot n, and after it only changes elsewhere. -/
theorem Touches.slot_setSlot (h : Touches bs (setSlot n v s) t) (keeps : Block.slots ∉ bs)
    (wf : Tab.wf Slot.reset s.slots = true) : slot t n = v ∧ ∀ j, j < 8 → j ≠ n → slot t j = slot s j :=
  ⟨(h.slot_eq keeps n).trans (Machine.slot_setSlot n v s wf),
    fun j _ ne => (h.slot_eq keeps j).trans (slot_setSlot_ne n v s ne)⟩

end

end Sys2Proof.Machine
end

section
/-! Loading, evicting and querying images (R125, R127, R128, R394): the state that each command reaches, branch by branch. -/

namespace Sys2Proof.Machine

/-! ### IMAGE_LOAD -/

section
variable {q : MciReq} {s : State}
  (serves : Serves 0x0201 (q.plen == 16) (reservedClear (mciParams q) [(0, 3), (32, 32), (64, 64)] && true) q s)
  (right : winSlot s (fnOfWho q.who) (bits (mciParams q) 0 3) 0 = true)
include serves right

theorem exec_imageLoad_empty (empty : (slot s (bits (mciParams q) 0 3)).state = SlotState.empty) :
    exec (.imageLoad q) s = .next (startLoad q (bits (mciParams q) 0 3) s) := by
  change execImageLoad q s = _
  simp [execImageLoad, mciFixed_of_serves serves, right, empty]

theorem exec_imageLoad_taken (taken : (slot s (bits (mciParams q) 0 3)).state ≠ SlotState.empty) :
    exec (.imageLoad q) s = .next (mciAnswer 0x0201 q mRejected 0x1A 16 reportSlot s) := by
  change execImageLoad q s = _
  simp [execImageLoad, mciFixed_of_serves serves, right, taken]

end

section
variable {q : MciReq} {s : State} {n : Nat}

/-- The slot as a load that begins leaves it, with the loader's rights of that moment (R128, R394). -/
def loadingSlot (q : MciReq) (n : Nat) (s : State) : Slot :=
  { Slot.reset with
    state := .loading, report := (slot s n).report, loader := fnOfWho q.who, gen := s.win.gen, loadWho := q.who, loadTag := q.tag
    loadLen := bits (mciParams q) 32 32, loadHbm := tabValues (winTable s (fnOfWho q.who)).hbm
    loadQuota := (winTable s (fnOfWho q.who)).quota }

theorem startLoad_slots (wf : Tab.wf Slot.reset s.slots = true) :
    slot (startLoad q n s) n = loadingSlot q n s ∧ ∀ j, j < 8 → j ≠ n → slot (startLoad q n s) j = slot s j :=
  Touches.slot_setSlot (mciHold_touches 0x0201 q _) (by decide) wf

end

/-! ### IMAGE_LOAD_DONE -/

section
variable {n bytes len : Nat} {s : State}

/-- The bytes that a transfer brought. -/
def transferred (bytes len : Nat) : Raw := ⟨bytes % 2 ^ (8 * len), len⟩

theorem exec_imageLoadDone_valid (loading : (slot s n).state = SlotState.loading) (runs : mpRuns s = true)
    (passed : (validateImage s n (slot s n).loadLen (transferred bytes len)).1 = 0)
    (fits : footprint s (slot s n).loader n (transferred bytes len).parse (slot s n).loadHbm (slot s n).loadQuota = none) :
    exec (.imageLoadDone n bytes len) s = .next (mciReply 0x0201 (slot s n).loadWho (slot s n).loadTag mSuccess 0 16
      reportAccepted (setSlot n { slot s n with state := .valid, image := (transferred bytes len).parse, report := reportAccepted } s)) := by
  change execImageLoadDone n bytes len s = _
  unfold transferred at *
  cases verdict : validateImage s n (slot s n).loadLen ⟨bytes % 2 ^ (8 * len), len⟩ with
  | mk code place =>
    rw [verdict] at passed
    obtain rfl : code = 0 := passed
    simp [execImageLoadDone, loading, runs, verdict, fits]

theorem exec_imageLoadDone_rejected (loading : (slot s n).state = SlotState.loading) (runs : mpRuns s = true)
    (failed : (validateImage s n (slot s n).loadLen (transferred bytes len)).1 ≠ 0) :
    exec (.imageLoadDone n bytes len) s =
      let verdict := validateImage s n (slot s n).loadLen (transferred bytes len)
      let report := reportOf verdict.1 verdict.2
      .next (loadFails n mRejected verdict.1 report report s) := by
  change execImageLoadDone n bytes len s = _
  unfold transferred at *
  cases verdict : validateImage s n (slot s n).loadLen ⟨bytes % 2 ^ (8 * len), len⟩ with
  | mk code place =>
    rw [verdict] at failed
    cases code with
    | zero => exact absurd rfl failed
    | succ _ => simp [execImageLoadDone, loading, runs, verdict]

theorem loadFails_slots (status detail report answer : Nat) (wf : Tab.wf Slot.reset s.slots = true) :
    slot (loadFails n status detail report answer s) n = { Slot.reset with report := report } ∧
      ∀ j, j < 8 → j ≠ n → slot (loadFails n status detail report answer s) j = slot s j :=
  Touches.slot_setSlot (mciReply_touches 0x0201 _ _ _ _ _ _ _) (by decide) wf

end

/-! ### IMAGE_EVICT and IMAGE_QUERY -/

section
variable {q : MciReq} {s : State}

section
variable (serves : Serves 0x0204 (q.plen == 8) (reservedClear (mciParams q) [(0, 3)] && true) q s)
  (right : winSlot s (fnOfWho q.who) (bits (mciParams q) 0 3) 0 = true)
include serves right

theorem exec_imageEvict_resident
    (resident : (slot s (bits (mciParams q) 0 3)).state = SlotState.valid ∨
      (slot s (bits (mciParams q) 0 3)).state = SlotState.invalid) :
    exec (.imageEvict q) s = .next (mciStatus 0x0204 q mSuccess
      (setSlot (bits (mciParams q) 0 3) { Slot.reset with report := (slot s (bits (mciParams q) 0 3)).report } s)) := by
  change execImageEvict q s = _
  obtain state | state := resident <;> simp [execImageEvict, mciFixed_of_serves serves, right, state]

theorem exec_imageEvict_bound
    (bound : (slot s (bits (mciParams q) 0 3)).state = SlotState.binding ∨
      (slot s (bits (mciParams q) 0 3)).state = SlotState.bound ∨
      (slot s (bits (mciParams q) 0 3)).state = SlotState.unbinding) :
    exec (.imageEvict q) s = .next (mciStatus 0x0204 q mBusy s) := by
  change execImageEvict q s = _
  obtain state | state | state := bound <;> simp [execImageEvict, mciFixed_of_serves serves, right, state]

end

/-- What IMAGE_QUERY tells of a slot (R127). -/
def slotContent (v : Slot) : List Nat :=
  let h := v.image.hdr
  [v.state.code, h.buildId % 2 ^ 64, h.buildId / 2 ^ 64, h.rect.col0, h.rect.row0, h.rect.cols, h.rect.rows, h.contexts,
   v.report % 2 ^ 64, v.report / 2 ^ 64]

theorem exec_imageQuery (serves : Serves 0x0205 (q.plen == 8) (reservedClear (mciParams q) [(0, 3)] && true) q s)
    (right : winSlot s (fnOfWho q.who) (bits (mciParams q) 0 3) 2 = true) :
    exec (.imageQuery q) s = .next (mciQuery 0x0205 q (slotContent (slot s (bits (mciParams q) 0 3))) s) := by
  change execImageQuery q s = _
  simp [execImageQuery, mciFixed_of_serves serves, right, slotContent]

end

/-- Settles O29: each clause is one branch of its command; a branch that writes the named slot changes nothing of the slots
after that. -/
theorem imageLoading : Obligations.ImageLoading := by
  refine ⟨?load, ?taken, ?valid, ?rejected, ?evict, ?bound, ?query⟩
  case load =>
    intro q s serves right empty plane
    obtain ⟨-, wf, -⟩ := plane
    obtain ⟨named, others⟩ := startLoad_slots (q := q) (n := bits (mciParams q) 0 3) wf
    refine ⟨_, exec_imageLoad_empty serves right empty, ?_, (startLoad_touches _ _ _).mono rfl⟩
    dsimp only
    rw [named]
    exact ⟨rfl, rfl, rfl, rfl, others, rfl, rfl⟩
  case taken =>
    intro q s serves right taken
    exact ⟨_, exec_imageLoad_taken serves right taken, mciAnswer_answered, mciAnswer_touches _ _ _ _ _ _ _⟩
  case valid =>
    intro n bytes len s loading runs passed fits plane
    obtain ⟨-, wf, -⟩ := plane
    have answer := mciReply_touches 0x0201 (slot s n).loadWho (slot s n).loadTag mSuccess 0 16 reportAccepted
      (setSlot n { slot s n with state := .valid, image := (transferred bytes len).parse, report := reportAccepted } s)
    exact ⟨_, exec_imageLoadDone_valid loading runs passed fits, answer.slot_setSlot (by decide) wf,
      answer.after rfl ((setSlot_touches _ _ _).mono rfl)⟩
  case rejected =>
    intro n bytes len s loading runs failed plane
    obtain ⟨-, wf, -⟩ := plane
    exact ⟨_, exec_imageLoadDone_rejected loading runs failed, loadFails_slots _ _ _ _ wf,
      (loadFails_touches _ _ _ _ _ _).mono rfl⟩
  case evict =>
    intro q s serves right resident plane
    obtain ⟨-, wf, -⟩ := plane
    have answer := mciStatus_touches 0x0204 q mSuccess
      (setSlot (bits (mciParams q) 0 3) { Slot.reset with report := (slot s (bits (mciParams q) 0 3)).report } s)
    obtain ⟨named, others⟩ := answer.slot_setSlot (by decide) wf
    exact ⟨_, exec_imageEvict_resident serves right resident, ⟨named, others, mciStatus_answered (s := setSlot _ _ s)⟩,
      answer.after rfl ((setSlot_touches _ _ _).mono rfl)⟩
  case bound =>
    intro q s serves right bound
    exact ⟨_, exec_imageEvict_bound serves right bound, mciStatus_answered, mciStatus_touches _ _ _ _⟩
  case query =>
    intro q s serves right
    exact ⟨_, exec_imageQuery serves right, ⟨mciAnswer_answered, mciAnswer_fw⟩, mciQuery_touches _ _ _ _⟩

end Sys2Proof.Machine
end

section
/-! PARTITION_RESET of a partition that is in the preparation frame of a bind (R130, R580): the pseudo-channels that the frame
prepared go back to autonomous refresh, so the memory controllers change too. -/

namespace Sys2Proof.Machine
open Sys2Proof.Tests

theorem exec_partitionReset_binding {q : MciReq} {n a : Nat} {s : State}
    (serves : Serves 0x0208 (q.plen == 8) (reservedClear (mciParams q) [(8, 2)] && true) q s)
    (unbound : (part s (bits (mciParams q) 8 2)).slot = none)
    (binding : (part s (bits (mciParams q) 8 2)).binding = some (n, a)) :
    exec (.partitionReset q) s = .next (cancelBind (bits (mciParams q) 8 2) (mciStatus 0x0208 q mSuccess s)) := by
  have parts : part (mciStatus 0x0208 q mSuccess s) (bits (mciParams q) 8 2) = part s (bits (mciParams q) 8 2) :=
    congrArg (Tab.get Part.reset · _) (mciStatus_touches 0x0208 q mSuccess s .parts (by decide))
  change execPartitionReset q s = _
  simp [execPartitionReset, mciFixed_of_serves serves, partTaken, unbound, binding, parts]

/-- Slot 1 is BINDING to partition 0, and its image uses pseudo-channel 3. -/
def bindAccepted : State := { wBind with
  slots := [(1, { Slot.reset with
    state := .binding, image := { wImage (wEvent kRead 0 0 0) with dep := ⟨0, 0, 0, 2 ^ 3⟩ } })]
  parts := [(0, { Part.reset with binding := some (1, 0) })] }

/-- The boundary after it: partition 0 is in the preparation frame of the bind. -/
def bindPreparing : State := bindBoundary 0 bindAccepted

/-- PARTITION_RESET of partition 0. -/
def resetRequest : MciReq := wReq 65 8 0

theorem bindPreparing_premises :
    Serves 0x0208 (resetRequest.plen == 8) (reservedClear (mciParams resetRequest) [(8, 2)] && true) resetRequest
      bindPreparing ∧
    (part bindPreparing (bits (mciParams resetRequest) 8 2)).slot = none ∧
    (part bindPreparing (bits (mciParams resetRequest) 8 2)).binding = some (1, 0) ∧ bindPreparing.PlaneWf := by
  decide +kernel

theorem bindPreparing_prep : (pcOf bindPreparing 3).prep = true := by
  decide +kernel

theorem cancelBind_bindPreparing_prep :
    (pcOf (cancelBind (bits (mciParams resetRequest) 8 2)
      (mciStatus 0x0208 resetRequest mSuccess bindPreparing)) 3).prep = false := by
  decide +kernel

/-- Refutes O30: the last clause names no block of the memory controllers as changed. In `bindPreparing` the reset cancels a bind
in its preparation frame, and pseudo-channel 3 leaves that frame for autonomous refresh. -/
theorem not_imageBinding : ¬ Obligations.ImageBinding := by
  intro h
  obtain ⟨-, -, -, -, -, -, -, cancels⟩ := h
  obtain ⟨serves, unbound, binding, plane⟩ := bindPreparing_premises
  obtain ⟨t, step, -, frame⟩ := cancels resetRequest 1 0 bindPreparing serves unbound binding plane
  obtain rfl := Host.Outcome.next.inj ((exec_partitionReset_binding serves unbound binding).symm.trans step)
  have same := congrArg (fun h : Hbm => (Tab.get Pc.reset h.pc 3).prep) (frame .hbm (by decide))
  exact absurd (cancelBind_bindPreparing_prep.symm.trans (same.trans bindPreparing_prep)) (by decide)

end Sys2Proof.Machine
end

section
/-! What a change of the state stores: the bytes of the two memories, the lines of the dense tier's cache, the window
tables and the layout in force. A change stays within the contents that are named for it, keeps the memories canonical
(R151, R152, R273), and keeps what the tick has recorded of slice lines in agreement with them (R150, R168). -/

namespace Sys2Proof.Machine

/-- The contents whose changes a command is listed for. -/
inductive Content
  | buffer
  | hbm
  | lines
  | windows
  | layout

/-- The content stands as it was. -/
def Content.same (c : Content) (s t : State) : Prop := match c with
  | .buffer => t.buf.mem = s.buf.mem
  | .hbm => t.hbm.mem = s.hbm.mem
  | .lines => t.dense.lines = s.dense.lines
  | .windows => t.win.inForce = s.win.inForce
  | .layout => t.layout = s.layout

/-- From s to t only contents that `may` allows change; the memories stay canonical, and what the tick keeps of slice
lines goes on agreeing with them. -/
structure Within (may : Content → Bool) (s t : State) : Prop where
  same : ∀ c, may c = false → c.same s t
  mem : s.MemWf → t.MemWf
  held : s.MemWf → s.LinesHeld → t.LinesHeld

/-- The outcome is a next state, and the way there stays within what `may` allows. -/
def WithinNext (may : Content → Bool) (s : State) (o : Host.Outcome State Fault Refusal) : Prop :=
  ∃ t, o = .next t ∧ Within may s t

/-- All that `Within` speaks of. -/
def State.contents (s : State) : Memory × List TickLine × Memory × Tab CacheLine × Tab WinTable × Tab Rect :=
  (s.buf.mem, s.buf.tickLines, s.hbm.mem, s.dense.lines, s.win.inForce, s.layout)

/-- A frame that names no block with contents. -/
def still (bs : List Block) : Bool := [Block.buf, .hbm, .dense, .win, .layout].all fun b => !bs.contains b

section
variable {may : Content → Bool} {s t u x y : State} {bs : List Block} {α : Type}

theorem Content.sameTrans (c : Content) (h : c.same s t) (k : c.same t u) : c.same s u := by
  cases c <;> exact Eq.trans k h

theorem Within.refl (s : State) : Within may s s :=
  ⟨fun c _ => by cases c <;> rfl, id, fun _ => id⟩

/-- The later step first, as it is written in the model. -/
theorem Within.after (later : Within may t u) (earlier : Within may s t) : Within may s u :=
  ⟨fun c no => c.sameTrans (earlier.same c no) (later.same c no), fun wf => later.mem (earlier.mem wf),
    fun wf held => later.held (earlier.mem wf) (earlier.held wf held)⟩

theorem Within.ite {c : Prop} [Decidable c] (h : Within may s x) (k : Within may s y) :
    Within may s (if c then x else y) := by
  split <;> assumption

theorem Within.iteSnd {c : Prop} [Decidable c] {x y : α × State} (h : Within may s x.2) (k : Within may s y.2) :
    Within may s (if c then x else y).2 := by
  split <;> assumption

theorem Within.ofSnd {p : α × State} {v : α} (h : Within may s p.2) (e : p = (v, t)) : Within may s t := by
  subst e
  exact h

theorem Within.foldl {f : State → α → State} {l : List α} (step : ∀ t v, Within may t (f t v)) :
    Within may s (l.foldl f s) := by
  induction l generalizing s with
  | nil => exact .refl _
  | cons v l ih => exact .after ih (step s v)

theorem Within.foldlSnd {β : Type} {f : β × State → α → β × State} {l : List α}
    (step : ∀ p v, Within may p.2 (f p v).2) {p : β × State} : Within may p.2 (l.foldl f p).2 := by
  induction l generalizing p with
  | nil => exact .refl _
  | cons v l ih => exact .after ih (step p v)

/-- A change of the state that leaves all contents. -/
theorem Within.ofContents (e : t.contents = s.contents) : Within may s t := by
  simp only [State.contents, Prod.mk.injEq] at e
  obtain ⟨mem, tick, hbm, lines, windows, layout⟩ := e
  refine ⟨fun c _ => ?_, fun wf => ?_, fun _ held => ?_⟩
  · cases c <;> assumption
  · rwa [State.MemWf, mem, hbm]
  · rwa [State.LinesHeld, mem, tick]

theorem Within.upd (h : Within may s x) (e : t.contents = x.contents) : Within may s t := .after (.ofContents e) h

/-- A frame that names no block with contents. -/
theorem Touches.within (h : Touches bs s t) (q : still bs = true) : Within may s t := by
  simp only [still, List.all_cons, List.all_nil, Bool.and_true, Bool.and_eq_true, Bool.not_eq_true',
    List.contains_eq_mem, decide_eq_false_iff_not] at q
  obtain ⟨buf, hbm, dense, win, layout⟩ := q
  refine .ofContents ?_
  rw [State.contents, h .buf buf, h .hbm hbm, h .dense dense, h .win win, h .layout layout, State.contents]

variable {o p : Host.Outcome State Fault Refusal}

theorem WithinNext.next (h : Within may s t) : WithinNext may s (.next t) := ⟨t, rfl, h⟩

theorem WithinNext.ite {c : Prop} [Decidable c] (h : WithinNext may s o) (k : WithinNext may s p) :
    WithinNext may s (if c then o else p) := by
  split <;> assumption

theorem WithinNext.after (later : WithinNext may t o) (earlier : Within may s t) : WithinNext may s o := by
  obtain ⟨u, e, h⟩ := later
  exact ⟨u, e, .after h earlier⟩

theorem Nexts.within (h : Nexts bs s o) (q : still bs = true) : WithinNext may s o := by
  obtain ⟨t, e, frame⟩ := h
  exact ⟨t, e, frame.within q⟩

/-! ### The contents that may change -/

/-- A frame that names of the blocks with contents the buffer alone. -/
theorem Touches.withinBuffer (h : Touches [.buf] s t) (mayBuffer : may .buffer = true)
    (wf : Memory.wf s.buf.mem = true → Memory.wf t.buf.mem = true)
    (held : Memory.wf s.buf.mem = true → s.LinesHeld → t.LinesHeld) : Within may s t := by
  have hbm : t.hbm = s.hbm := h .hbm (by decide)
  refine ⟨fun c no => ?_, fun ⟨b, m⟩ => ⟨wf b, hbm ▸ m⟩, fun ⟨b, _⟩ => held b⟩
  cases c with
  | buffer => exact absurd (mayBuffer.symm.trans no) (by decide)
  | hbm => exact congrArg Hbm.mem hbm
  | lines => exact congrArg Dense.lines (h .dense (by decide))
  | windows => exact congrArg Windows.inForce (h .win (by decide))
  | layout => exact h .layout (by decide)

/-- A frame that names of the blocks with contents HBM alone. -/
theorem Touches.withinHbm (h : Touches bs s t) (q : still (bs.erase .hbm) = true) (mayHbm : may .hbm = true)
    (wf : Memory.wf s.hbm.mem = true → Memory.wf t.hbm.mem = true) : Within may s t := by
  have kept {b : Block} (other : b ≠ .hbm) (no : b ∉ bs.erase .hbm) : b.same s t :=
    h b fun yes => no ((List.mem_erase_of_ne other).mpr yes)
  simp only [still, List.all_cons, List.all_nil, Bool.and_true, Bool.and_eq_true, Bool.not_eq_true',
    List.contains_eq_mem, decide_eq_false_iff_not] at q
  obtain ⟨noBuf, -, noDense, noWin, noLayout⟩ := q
  have buf : t.buf = s.buf := kept (by decide) noBuf
  refine ⟨fun c no => ?_, fun ⟨b, m⟩ => ⟨buf ▸ b, wf m⟩, fun _ held => ?_⟩
  · cases c with
    | buffer => exact congrArg Buf.mem buf
    | hbm => exact absurd (mayHbm.symm.trans no) (by decide)
    | lines => exact congrArg Dense.lines (kept (by decide) noDense)
    | windows => exact congrArg Windows.inForce (kept (by decide) noWin)
    | layout => exact kept (by decide) noLayout
  · rwa [State.LinesHeld, buf]

/-- A change of the cache's lines, the window tables or the layout concerns no memory. -/
theorem Within.ofTable {c : Content} (mayC : may c = true)
    (e : (t.buf.mem, t.buf.tickLines, t.hbm.mem) = (s.buf.mem, s.buf.tickLines, s.hbm.mem))
    (others : ∀ d, d ≠ c → d.same s t) : Within may s t := by
  simp only [Prod.mk.injEq] at e
  obtain ⟨buf, tick, hbm⟩ := e
  refine ⟨fun d no => others d ?_, fun wf => ?_, fun _ held => ?_⟩
  · rintro rfl
    exact absurd (mayC.symm.trans no) (by decide)
  · rwa [State.MemWf, buf, hbm]
  · rwa [State.LinesHeld, buf, tick]

theorem Within.putDense {v : Dense} (mayLines : may .lines = true) (h : Within may s x) :
    Within may s { x with dense := v } :=
  .after (t := x) (.ofTable mayLines rfl fun d other => by
    cases d with
    | lines => exact absurd rfl other
    | _ => rfl) h

theorem Within.putWin {v : Windows} (mayWindows : may .windows = true) (h : Within may s x) :
    Within may s { x with win := v } :=
  .after (t := x) (.ofTable mayWindows rfl fun d other => by
    cases d with
    | windows => exact absurd rfl other
    | _ => rfl) h

theorem Within.putLayout {v : Tab Rect} (mayLayout : may .layout = true) (h : Within may s x) :
    Within may s { x with layout := v } :=
  .after (t := x) (.ofTable mayLayout rfl fun d other => by
    cases d with
    | layout => exact absurd rfl other
    | _ => rfl) h

/-! The same with the blocks named, where the state that is updated is to be found from the goal. -/

theorem Within.boot {v : Boot} (h : Within may s x) : Within may s { x with boot := v } := .upd h rfl

theorem Within.fmap {v : FaultMap} (h : Within may s x) : Within may s { x with fmap := v } := .upd h rfl

theorem Within.fw {v : Fw} (h : Within may s x) : Within may s { x with fw := v } := .upd h rfl

theorem Within.lanes {v : Lanes} (h : Within may s x) : Within may s { x with lanes := v } := .upd h rfl

theorem Within.lat {v : Lat} (h : Within may s x) : Within may s { x with lat := v } := .upd h rfl

theorem Within.pins {v : Pins} (h : Within may s x) : Within may s { x with pins := v } := .upd h rfl

theorem Within.pm {v : Pm} (h : Within may s x) : Within may s { x with pm := v } := .upd h rfl

theorem Within.pool {v : Pool} (h : Within may s x) : Within may s { x with pool := v } := .upd h rfl

theorem Within.clk_boot {c : Clk} {v1 : Boot} (h : Within may s x) :
    Within may s { x with clk := c, boot := v1 } :=
  .upd h rfl

theorem Within.boot_pm {v0 : Boot} {v1 : Pm} (h : Within may s x) :
    Within may s { x with boot := v0, pm := v1 } :=
  .upd h rfl

theorem Within.pins_boot {v0 : Pins} {v1 : Boot} (h : Within may s x) :
    Within may s { x with pins := v0, boot := v1 } :=
  .upd h rfl

theorem Within.clk_pins_logs_counters {c : Clk} {v1 : Pins} {v2 : Logs} {v3 : Tab (BitVec 64)} (h : Within may s x) :
    Within may s { x with clk := c, pins := v1, logs := v2, counters := v3 } :=
  .upd h rfl

theorem Within.buf {v : Buf} (h : Within may s x) (e : (v.mem, v.tickLines) = (x.buf.mem, x.buf.tickLines)) :
    Within may s { x with buf := v } := by
  simp only [Prod.mk.injEq] at e
  exact .upd h (by simp only [State.contents, e])

theorem Within.hbm {v : Hbm} (h : Within may s x) (e : v.mem = x.hbm.mem) : Within may s { x with hbm := v } :=
  .upd h (by simp only [State.contents, e])

theorem Within.dense {v : Dense} (h : Within may s x) (e : v.lines = x.dense.lines) :
    Within may s { x with dense := v } :=
  .upd h (by simp only [State.contents, e])

theorem Within.win {v : Windows} (h : Within may s x) (e : v.inForce = x.win.inForce) :
    Within may s { x with win := v } :=
  .upd h (by simp only [State.contents, e])

theorem Within.dense_pool {v0 : Dense} {v1 : Pool} (h : Within may s x) (e : v0.lines = x.dense.lines) :
    Within may s { x with dense := v0, pool := v1 } :=
  .upd h (by simp only [State.contents, e])

theorem Within.hbm_pool {v0 : Hbm} {v1 : Pool} (h : Within may s x) (e : v0.mem = x.hbm.mem) :
    Within may s { x with hbm := v0, pool := v1 } :=
  .upd h (by simp only [State.contents, e])

theorem Within.win_fw {v0 : Windows} {v1 : Fw} (h : Within may s x) (e : v0.inForce = x.win.inForce) :
    Within may s { x with win := v0, fw := v1 } :=
  .upd h (by simp only [State.contents, e])

theorem Within.clk_pins_boot_hbm_lanes_pm {v0 : Clk} {v1 : Pins} {v2 : Boot} {v3 : Hbm} {v4 : Lanes} {v5 : Pm}
    (h : Within may s x) (e : v3.mem = x.hbm.mem) :
    Within may s { x with clk := v0, pins := v1, boot := v2, hbm := v3, lanes := v4, pm := v5 } :=
  .upd h (by simp only [State.contents, e])

end

/-! ### Lines of the memory after a line is put -/

theorem Memory.readN_congr {m m' : Memory} {a n : Nat}
    (h : ∀ i, i < n → Memory.byte m (a + i) = Memory.byte m' (a + i)) :
    Memory.readN m a n = Memory.readN m' a n := by
  induction n generalizing a with
  | zero => rfl
  | succ n ih =>
    have rest : Memory.readN m (a + 1) n = Memory.readN m' (a + 1) n := ih fun i lt => by
      simpa only [Nat.add_right_comm, Nat.add_assoc] using h (i + 1) (by omega)
    have first : Memory.byte m a = Memory.byte m' a := h 0 (by omega)
    rw [Memory.readN, Memory.readN, first, rest]

/-- Bytes that are those of a number read as the number. -/
theorem Memory.readN_eq_mod {m : Memory} {a v n : Nat}
    (h : ∀ i, i < n → Memory.byte m (a + i) = BitVec.ofNat 8 (v / 256 ^ i)) : Memory.readN m a n = v % 256 ^ n := by
  induction n generalizing a v with
  | zero => simp [Memory.readN, Nat.mod_one]
  | succ n ih =>
    have rest : Memory.readN m (a + 1) n = v / 256 % 256 ^ n := ih fun i lt => by
      rw [Nat.div_div_eq_div_mul, ← Nat.pow_succ', ← h (i + 1) (by omega)]
      congr 1
      omega
    have first : Memory.byte m a = BitVec.ofNat 8 v := by simpa using h 0 (by omega)
    rw [Memory.readN, first, rest, BitVec.toNat_ofNat, Nat.pow_succ' (m := 256)]
    exact Nat.mod_mul.symm

theorem Memory.line_setLine_full {m : Memory} (a : Nat) (d : LineData) (wf : Memory.wf m = true) :
    Memory.line (Memory.setLine m a d fullMask) a = d := by
  have read : Memory.readN (Memory.setLine m a d fullMask) a 64 = d.toNat % 256 ^ 64 :=
    Memory.readN_eq_mod fun i lt => (Memory.byte_setLine_full a d wf lt).trans (lineByte_eq d i)
  rw [Memory.line, read, ← two_pow_eight_mul, two_pow_lineBits, Nat.mod_eq_of_lt d.isLt, BitVec.ofNat_toNat,
    BitVec.setWidth_eq]

theorem Memory.line_setLine_outside {m : Memory} {a b : Nat} (d : LineData) (mask : LineMask)
    (apart : b + 64 ≤ a ∨ a + 64 ≤ b) : Memory.line (Memory.setLine m a d mask) b = Memory.line m b :=
  congrArg (BitVec.ofNat 512) (Memory.readN_congr fun _ _ => Memory.byte_setLine_outside d mask (by omega))

theorem putTickLine_mem (e : TickLine) (s : State) :
    (putTickLine e s).buf.mem = Memory.setLine s.buf.mem (64 * e.key) e.after.1 fullMask := by
  unfold putTickLine
  dsimp only [fullMask]

theorem mem_putTickLine_tickLines {e x : TickLine} {s : State} (mem : x ∈ (putTickLine e s).buf.tickLines) :
    x = e ∨ x ∈ s.buf.tickLines ∧ x.key ≠ e.key := by
  rcases List.mem_cons.mp mem with rfl | old
  · exact .inl rfl
  · obtain ⟨old, _, other⟩ : x ∈ s.buf.tickLines ∧ x.at_ = e.at_ ∧ x.key ≠ e.key := by simpa using old
    exact .inr ⟨old, other⟩

end Sys2Proof.Machine
end

section
/-! Operations of the model that change none of these contents, though they change blocks that hold them. -/

namespace Sys2Proof.Machine

variable {may : Content → Bool} {s : State}

theorem updPc_within {n : Nat} {f : Pc → Pc} : Within may s (updPc n f s) := .upd (.refl _) rfl

theorem countErrors_within {queue : Bool} {router line bad single : Nat} :
    Within may s (countErrors queue router line bad single s) :=
  .after
    (.ite (.refl _)
      (.after (.ite ((routerFault_touches _ _ _ _ _).within rfl) (.refl _))
        (.after (.ite (.refl _) ((routerFault_touches _ _ _ _ _).within rfl))
          (.after ((countBy_touches _ _ _ _).within rfl) (.upd (.refl _) rfl)))))
    (.ite (.refl _)
      (.after (.ite ((routerFault_touches _ _ _ _ _).within rfl) (.refl _))
        (.after ((countBy_touches _ _ _ _).within rfl) (.upd (.refl _) rfl))))

theorem deliverFold_within {k router inp outs : Nat} {acc : BitVec 1024} {type : Nat} {sr poison bsel : Bool} :
    Within may s (deliverFold k router inp outs acc type sr poison bsel s) :=
  .ite (.upd (.refl _) rfl) (.after ((emitAll_touches _ _).within rfl) ((updPipe_touches _ _ _).within rfl))

theorem mirrorWrite_within {key mask : Nat} : Within may s (mirrorWrite key mask s) := .upd (.refl _) rfl

theorem queueLocal_within {a : PoolAcc} {write : Bool} : Within may s (queueLocal a write s) := by
  unfold queueLocal
  dsimp only
  split
  · exact updPc_within
  · exact .upd (.refl _) rfl
  · exact .refl _

theorem wakeReads_within {a : PoolAcc} : Within may s (wakeReads a s) :=
  .ite (.refl _) (.foldl (fun _ _ => .after queueLocal_within ((setAcc_touches _ _).within rfl)))

theorem finishAcc_within {a : PoolAcc} {d : LineData} {poison : Bool} {status : Nat} {sIn : State} :
    Within may sIn (finishAcc a d poison status sIn) := by
  unfold finishAcc
  split
  · exact .after ((cxlAnswer_touches _ _ _ _ _ _).within rfl)
      (.after wakeReads_within ((dropAcc_touches _ _).within rfl))
  · exact .after ((servedLine_touches _ _ _ _ _ _ _).within rfl)
      (.after wakeReads_within ((dropAcc_touches _ _).within rfl))
  · exact .after ((rebuilt_touches _ _).within rfl) (.after wakeReads_within ((dropAcc_touches _ _).within rfl))
  · exact .after ((updCmd_touches _ _ _).within rfl) (.after wakeReads_within ((dropAcc_touches _ _).within rfl))

theorem afterWrite_within {a : PoolAcc} {old : Beat} : Within may s (afterWrite a old s) :=
  .ite (.ite finishAcc_within (.after ((sendAcc_touches _ _ _ _ _ _ _).within rfl) ((setAcc_touches _ _).within rfl)))
    (.ite
      (.ite finishAcc_within (.after ((sendAcc_touches _ _ _ _ _ _ _).within rfl) ((setAcc_touches _ _).within rfl)))
      finishAcc_within)

theorem updPcs_within {l : List Nat} {f : Nat → Pc → Pc} : Within may s (updPcs l f s) := .upd (.refl _) rfl

theorem hbmSchedule_within {l : List Nat} : Within may s (hbmSchedule l s) := updPcs_within

theorem hbmUnprepare_within {l : List Nat} : Within may s (hbmUnprepare l s) :=
  .after ((emitAll_touches _ _).within rfl) updPcs_within

theorem loadMirrors_within {rc : Rect} {lines : List (Nat × Nat)} : Within may s (loadMirrors rc lines s) :=
  .upd (.refl _) rfl

theorem bindEffect_within {k : Nat} : Within may s (bindEffect k s) := by
  unfold bindEffect
  split
  · exact .refl _
  · exact .after (.ite hbmUnprepare_within hbmSchedule_within)
      (.after ((updPart_touches _ _ _).within rfl)
        (.after loadMirrors_within
          (.after ((resetComps_touches _ _).within rfl) ((setSlot_touches _ _ _).within rfl))))

theorem hbmPrepare_within {l : List Nat} : Within may s (hbmPrepare l s) :=
  .after ((emitAll_touches _ _).within rfl) updPcs_within

theorem updStack_within {k : Nat} {f : Stack → Stack} : Within may s (updStack k f s) := .upd (.refl _) rfl

theorem leaveRefresh_within {ks : List Nat} : Within may s (leaveRefresh ks s) :=
  .foldl fun _ _ => .ite (.after ((emitAll_touches _ _).within rfl) updStack_within) (.refl _)

theorem startExit_within {k : Nat} : Within may s (startExit k s) :=
  .ite (.refl _) (.after leaveRefresh_within ((updPart_touches _ _ _).within rfl))

theorem bindBoundary_within {k : Nat} : Within may s (bindBoundary k s) := by
  unfold bindBoundary
  split
  · exact .refl _
  · exact .ite bindEffect_within
      (.ite (.refl _)
        (.ite startExit_within
          (.ite
            (.after ((lanesFor_touches _ _ _).within rfl)
              (.after hbmPrepare_within ((updPart_touches _ _ _).within rfl)))
            (.refl _))))

theorem hbmPark_within {l : List Nat} : Within may s (hbmPark l s) :=
  .after ((emitAll_touches _ _).within rfl) updPcs_within

theorem parkPart_within {k : Nat} {im : Image} : Within may s (parkPart k im s) :=
  .after hbmPark_within ((updPart_touches _ _ _).within rfl)

theorem parkedBoundary_within {k : Nat} {im : Image} : Within may s (parkedBoundary k im s) :=
  .ite (.after hbmSchedule_within ((updPart_touches _ _ _).within rfl))
    (.ite (.after hbmPrepare_within ((updPart_touches _ _ _).within rfl))
      (.after ((updPart_touches _ _ _).within rfl) (.ite hbmUnprepare_within (.refl _))))

theorem hbmRelease_within {l : List Nat} : Within may s (hbmRelease l s) := updPcs_within

theorem cancelBind_within {k : Nat} : Within may s (cancelBind k s) := by
  unfold cancelBind
  split
  · exact .refl _
  · exact .after ((lanesFor_touches _ _ _).within rfl)
      (.after hbmRelease_within (.after ((updPart_touches _ _ _).within rfl) ((setSlot_touches _ _ _).within rfl)))

theorem detach_within {k : Nat} : Within may s (detach k s) := by
  unfold detach
  split
  · exact .refl _
  · exact .after ((setPart_touches _ _ _).within rfl)
      (.after ((lanesFor_touches _ _ _).within rfl)
        (.after ((resetComps_touches _ _).within rfl)
          (.after hbmRelease_within (.after ((setSlot_touches _ _ _).within rfl) (.upd (.refl _) rfl)))))

theorem resetEffect_within {k : Nat} : Within may s (resetEffect k s) := by
  unfold resetEffect
  dsimp only
  split
  · exact .after ((updPart_touches _ _ _).within rfl) cancelBind_within
  · exact .after detach_within
      (.after ((quiesce_touches _ _).within rfl)
        (.after ((rejectNaming_touches _ _).within rfl)
          (.after ((endAllRuns_touches _ _ _).within rfl) cancelBind_within)))

theorem unbindEffect_within {k : Nat} : Within may s (unbindEffect k s) := by
  unfold unbindEffect
  split
  · exact .after detach_within
      (.after ((rejectNaming_touches _ _).within rfl)
        (.ite (.after ((quiesce_touches _ _).within rfl) ((endAllRuns_touches _ _ _).within rfl)) (.refl _)))
  · exact .refl _

theorem violation_within {fn cls : Nat} : Within may s (violation fn cls s) :=
  .ite (.refl _)
    (.after (.ite (.refl _) (.after ((sendEvent_touches _ _).within rfl) (.upd (.refl _) rfl)))
      ((countUp_touches _ _ _).within rfl))

theorem screenRing_within {fr : Nat × Nat} : Within may s (screenRing s fr) := by
  unfold screenRing
  dsimp only
  split
  · exact .refl _
  · split
    · exact (rejectHead_touches _ _ _ _ _).within rfl
    · exact .ite (.after ((rejectHead_touches _ _ _ _ _).within rfl) violation_within)
        (.ite ((rejectHead_touches _ _ _ _ _).within rfl)
          (.ite ((rejectHead_touches _ _ _ _ _).within rfl) ((updRing_touches _ _ _ _).within rfl)))

theorem askPieces_within {phase : Nat} {pieces : List Nat} {a : PoolAcc} :
    Within may s (askPieces phase pieces a s) :=
  .after (.foldl fun _ _ => .ite queueLocal_within ((sendAcc_touches _ _ _ _ _ _ _).within rfl))
    ((setAcc_touches _ _).within rfl)

theorem failBlock_within {b : Nat} : Within may s (failBlock b s) :=
  .ite (.refl _)
    (.ite
      (.ite
        (.after ((sendEvent_touches _ _).within rfl)
          (.dense (.dense ((sendEvent_touches _ _).within rfl) rfl) rfl))
        (.dense ((sendEvent_touches _ _).within rfl) rfl))
      ((sendEvent_touches _ _).within rfl))

theorem queueCache_within {k : Nat} {j : CacheJob} : Within may s (queueCache k j s) := updPc_within

theorem barWrite_within {fn : Nat} {act : State → State} (act_within : ∀ u, Within may u (act u)) :
    Within may s (barWrite fn act s) := .ite ((emit_touches _ _).within rfl) (.ite (.refl _) (act_within _))

theorem startTest_within {t : LaneTest} : Within may s (startTest t s) :=
  .after (.ite updStack_within (.refl _)) (.after ((tileInTest_touches _ _).within rfl) (.upd (.refl _) rfl))

theorem beginTest_within : Within may s (beginTest s) :=
  .after (.foldl (fun _ _ => startTest_within)) (.upd (.refl _) rfl)

theorem bumpGen_within : Within may s (bumpGen s) := .upd (.refl _) rfl

theorem injectHbm_within {line : Nat} : Within may s (injectHbm line s) :=
  .ite (.after ((injectDone_touches _).within rfl) (.upd (.refl _) rfl))
    (.ite (.after ((injectDone_touches _).within rfl) (.upd (.refl _) rfl)) (.refl _))

theorem noteRowError_within {pc line : Nat} {unc : Bool} : Within may s (noteRowError pc line unc s) := updPc_within

theorem hbmRead_within {line : Nat} : Within may s (hbmRead line s).2 := by
  unfold hbmRead
  dsimp only
  split
  · exact injectHbm_within
  · exact .after updPc_within
      (.after noteRowError_within (.after ((hbmCount_touches _ _ _ _).within rfl) injectHbm_within))
  · exact .after updPc_within
      (.after noteRowError_within (.after ((hbmCount_touches _ _ _ _).within rfl) injectHbm_within))
  · exact .after (.ite (.refl _) (.after ((blockFault_touches _ _ _ _ _ _).within rfl) updPc_within))
      (.after ((noteStack_touches _ _).within rfl)
        (.after noteRowError_within (.after ((hbmCount_touches _ _ _ _).within rfl) injectHbm_within)))
  · exact injectHbm_within

theorem cacheGet_within {b k off : Nat} : Within may s (cacheGet b k off s).2 := hbmRead_within

theorem healLine_within {b i : Nat} : Within may s (healLine b i s) :=
  .ite (.refl _) (.ite (.upd (.refl _) rfl) (.upd (.refl _) rfl))

theorem invalidate_within {n why : Nat} : Within may s (invalidate n why s) :=
  .after ((mpEvent_touches _ _ _ _ _).within rfl)
    (.after ((setSlot_touches _ _ _).within rfl)
      (.foldl fun _ _ =>
        .after
          (.ite
            (.after detach_within (.after ((quiesce_touches _ _).within rfl) ((endAllRuns_touches _ _ _).within rfl)))
            (.refl _))
          (.ite cancelBind_within (.refl _))))

theorem checkImage_within {n : Nat} : Within may s (checkImage s n) :=
  .ite (.refl _)
    (.ite invalidate_within
      (by
        split
        · exact .refl _
        · exact invalidate_within))

theorem checkImages_within : Within may s (checkImages s) := .foldl fun _ _ => checkImage_within

theorem clearCounter_within {id idx : Nat} : Within may s (clearCounter id idx s) :=
  .ite (.upd (.refl _) rfl) (.ite (.upd (.refl _) rfl) (.after (.ite updPc_within (.refl _)) (.upd (.refl _) rfl)))

theorem restHbm_within : Within may s (restHbm s) := .after ((emitAll_touches _ _).within rfl) (.upd (.refl _) rfl)

theorem countIdleOp_within {router : Nat} : Within may s (countIdleOp router s) := .upd (.refl _) rfl

theorem queueCtl_within {router line : Nat} {write : Bool} {data : LineData} {mask : LineMask} {o : Origin} :
    Within may s (queueCtl router line write data mask o s) := .upd (.refl _) rfl

theorem ctlArrive_within {router line : Nat} {write : Bool} {data : LineData} {mask : LineMask} {o : Origin} :
    Within may s (ctlArrive router line write data mask o s) := by
  unfold ctlArrive
  split
  · exact .after ((ctlAnswer_touches _ _ _ _ _ _).within rfl) ((drawLine_touches _).within rfl)
  · exact queueCtl_within

theorem deleteHere_within {region : Nat} : Within may s (deleteHere region s) :=
  .after bumpGen_within (.after ((aclInForce_touches _ _ _ _).within rfl) ((updRegion_touches _ _ _).within rfl))

theorem deleteRun_within {who tag x : Nat} : Within may s (deleteRun who tag x s) :=
  .ite ((answerTable_touches _ _ _ _ _).within rfl)
    (.after ((orderAll_touches _ _ _ _ _ _ _).within rfl) deleteHere_within)

theorem denial_within {region : Nat} : Within may s (denial region s) :=
  .after (.ite (.refl _) (.after ((sendEvent_touches _ _).within rfl) (.upd (.refl _) rfl)))
    ((countUp_touches _ _ _).within rfl)

theorem updDrive_within {d : Nat} {f : Drive → Drive} : Within may s (updDrive d f s) := .upd (.refl _) rfl

theorem sendDrive_within {d cmd b data : Nat} : Within may s (sendDrive d cmd b data s) := by
  unfold sendDrive
  split
  · exact .after ((emit_touches _ _).within rfl) updDrive_within
  · exact updDrive_within

theorem gatherAcc_within {a : PoolAcc} {pieces : List Nat} : Within may s (gatherAcc a pieces s) :=
  .ite finishAcc_within askPieces_within

theorem gathered_within {a : PoolAcc} : Within may s (gathered a s) :=
  .ite (.after queueLocal_within ((setAcc_touches _ _).within rfl))
    (.ite (.after queueLocal_within ((setAcc_touches _ _).within rfl)) finishAcc_within)

theorem pieceOf_within {a : PoolAcc} {d : LineData} {poison : Bool} : Within may s (pieceOf a d poison s) :=
  .ite (.ite askPieces_within (.after gathered_within ((setAcc_touches _ _).within rfl)))
    ((setAcc_touches _ _).within rfl)

theorem routeAcc_within {a : PoolAcc} : Within may s (routeAcc a s) :=
  .ite finishAcc_within
    (.ite ((setAcc_touches _ _).within rfl)
      (.ite
        (.ite finishAcc_within
          (.ite gatherAcc_within
            (.after ((sendAcc_touches _ _ _ _ _ _ _).within rfl) ((setAcc_touches _ _).within rfl))))
        (.ite (.after queueLocal_within ((setAcc_touches _ _).within rfl))
          (.after ((sendAcc_touches _ _ _ _ _ _ _).within rfl) ((setAcc_touches _ _).within rfl)))))

theorem unlockStripe_within {region : Nat} : Within may s (unlockStripe region s) :=
  .foldl fun _ _ => .ite (.refl _) (.ite routeAcc_within (.after queueLocal_within ((setAcc_touches _ _).within rfl)))

theorem poolServe_within {id : Nat} {rd : State → Beat × State} {wr : LineData → Bool → State → State} {unc : Bool}
    {fail : Option Nat} (rd_within : ∀ u, Within may u (rd u).2) (wr_within : ∀ a b u, Within may u (wr a b u)) :
    Within may s (poolServe id rd wr unc fail s) := by
  unfold poolServe
  split
  · exact .refl _
  · split
    · exact .ite pieceOf_within (.ite finishAcc_within (.ite gatherAcc_within finishAcc_within))
    · exact .ite (.after pieceOf_within (rd_within _))
        (.ite (.after unlockStripe_within (.after finishAcc_within (wr_within _ _ _)))
          (.ite (.after finishAcc_within (.after (wr_within _ _ _) (rd_within _)))
            (.ite (.after finishAcc_within (rd_within _))
              (.ite (.after afterWrite_within (.after (wr_within _ _ _) (.iteSnd (rd_within _) (.refl _))))
                (.after (.ite gatherAcc_within finishAcc_within) (rd_within _))))))

theorem serveLines_within {n : Nat} {f : Nat → State → State} (f_within : ∀ a u, Within may u (f a u)) :
    Within may s (serveLines n f s) := .foldl fun _ _ => f_within _ _

theorem failReq_within {q : DReq} : Within may s (failReq q s) := by
  unfold failReq
  split
  · exact serveLines_within fun _ _ =>
      .ite ((stageWritten_touches _ _ _ _).within rfl)
        (.after ((stageRead_touches _ _ _ _ _ _ _).within rfl) ((drawLine_touches _).within rfl))
  · exact poolServe_within (fun _ => .refl _) fun _ _ _ => .refl _
  · exact .refl _

theorem setMiss_within {m : MissEntry} : Within may s (setMiss m s) := .upd (.refl _) rfl

theorem driveCommand_within {cmd b data : Nat} : Within may s (driveCommand cmd b data s) := sendDrive_within

theorem readBlock_within {m : MissEntry} : Within may s (readBlock m s) := .after driveCommand_within setMiss_within

theorem startAcc_within {for_ : PoolFor} {region member off : Nat} {write : Bool} {d : LineData} {poison : Bool}
    {phase : Nat} :
    Within may s (startAcc for_ region member off write d poison phase s) :=
  .after
    (.ite (.ite ((setAcc_touches _ _).within rfl) queueLocal_within)
      (.ite queueLocal_within (.ite (.refl _) (.ite gatherAcc_within routeAcc_within))))
    (.upd (.refl _) rfl)

theorem destLine_within {id region o : Nat} {d : LineData} : Within may s (destLine id region o d s) := by
  unfold destLine
  exact .after startAcc_within ((updCmd_touches _ _ _).within rfl)

theorem driveEnds_within {d : Nat} {c : DriveCmd} : Within may s (driveEnds d c s) := by
  unfold driveEnds
  dsimp only
  split
  · exact updDrive_within
  · exact .after sendDrive_within (.after updDrive_within updDrive_within)

theorem dropJobs_within {f : Nat × CacheJob → Bool} : Within may s (dropJobs f s) := updPcs_within

theorem dropMiss_within {b : Nat} : Within may s (dropMiss b s) := .upd (.refl _) rfl

theorem endTest_within {t : LaneTest} : Within may s (endTest t s) :=
  .after (.ite ((startTile_touches _ _).within rfl) (.refl _))
    (.after (.ite updStack_within (.refl _)) (.upd (.refl _) rfl))

theorem rerouteLost_within {m region : Nat} : Within may s (rerouteLost m region s) :=
  .after
    (.foldl fun _ _ => by
      split
      · exact .refl _
      · exact .ite finishAcc_within (.ite finishAcc_within (.ite routeAcc_within finishAcc_within)))
    (.upd (.refl _) rfl)

theorem entryHere_within {src region x : Nat} : Within may s (entryHere src region x s) :=
  .ite (.after ((updRegion_touches _ _ _).within rfl) ((releaseExtents_touches _ _).within rfl))
    (.after unlockStripe_within
      (by
        split
        · exact .after (.ite (.refl _) rerouteLost_within) ((updRegion_touches _ _ _).within rfl)
        · exact .ite (.refl _) ((updRegion_touches _ _ _).within rfl)))

theorem mciRun_within {op : Nat} {lenOk paramOk : Bool} {q : MciReq} {act : State → State}
    (act_within : ∀ u, Within may u (act u)) :
    Within may s (mciRun op lenOk paramOk q act s) :=
  .ite (.refl _)
    (by
      split
      · exact .ite ((mciDuplicate_touches _ _ _).within rfl) ((mciStatus_touches _ _ _ _).within rfl)
      · exact act_within _)

theorem mciFixed_within {op len : Nat} {fields : List (Nat × Nat)} {rangeOk : Bool} {q : MciReq}
    {act : State → State} (act_within : ∀ u, Within may u (act u)) :
    Within may s (mciFixed op len fields rangeOk q act s) := mciRun_within fun _ => act_within _

theorem poisonReq_within {q : DReq} : Within may s (poisonReq q s) :=
  .ite failReq_within
    (by
      split
      · exact serveLines_within fun _ _ =>
          .after ((stageRead_touches _ _ _ _ _ _ _).within rfl) ((drawLine_touches _).within rfl)
      · exact poolServe_within (fun _ => .refl _) fun _ _ _ => .refl _
      · exact .refl _)

theorem flushAborted_within {d : Nat} : Within may s (flushAborted d s) := by
  unfold flushAborted
  split
  · exact .refl _
  · exact .after ((flushEnds_touches _ _ _).within rfl) (.upd (.refl _) rfl)

theorem flushWrote_within {b : Nat} : Within may s (flushWrote b s) := .upd (.refl _) rfl

theorem foldOperand_within {k router port outs : Nat} {bsel : Bool} {type : Nat} :
    Within may s (foldOperand k router port outs bsel type s).2 :=
  .iteSnd (.refl _)
    (.after (.iteSnd (.refl _) (.after ((dataPathBreach_touches _ _ _).within rfl) countIdleOp_within))
      ((takeInput_touches _ _ _ _ _ _ _).within rfl))

theorem hardRepair_within {e : Nat × Nat} : Within may s (hardRepair e s) :=
  .after ((mpEvent_touches _ _ _ _ _).within rfl) updPcs_within

theorem hardRepairs_within : Within may s (hardRepairs s) := .ite (.foldl fun _ _ => hardRepair_within) (.refl _)

theorem hostRead_within {pbr tag : Nat} {region : Option Nat} {off : Nat} :
    Within may s (hostRead pbr tag region off s) := by
  unfold hostRead
  split
  · exact (cxlAnswer_touches _ _ _ _ _ _).within rfl
  · exact .ite (.after ((cxlAnswer_touches _ _ _ _ _ _).within rfl) denial_within)
      (.ite ((cxlAnswer_touches _ _ _ _ _ _).within rfl) startAcc_within)

theorem hostWrite_within {pbr tag : Nat} {region : Option Nat} {off : Nat} {d : LineData} {poison : Bool} :
    Within may s (hostWrite pbr tag region off d poison s) := by
  unfold hostWrite
  split
  · exact (cxlAnswer_touches _ _ _ _ _ _).within rfl
  · exact .ite (.after ((cxlAnswer_touches _ _ _ _ _ _).within rfl) denial_within)
      (.ite ((cxlAnswer_touches _ _ _ _ _ _).within rfl) startAcc_within)

theorem loadBlock_within {k : Nat} {dead : Bool} : Within may s (loadBlock k dead s).2 := by
  unfold loadBlock
  refine Within.foldlSnd (p := (0, s)) fun p i => ?_
  dsimp only
  split
  · exact (drawLine_touches p.2).within rfl
  · exact hbmRead_within

theorem loseMember_within {region m : Nat} : Within may s (loseMember region m s) :=
  .after unlockStripe_within
    (.after rerouteLost_within
      (.after (.ite (.refl _) ((mpEvent_touches _ _ _ _ _).within rfl)) ((updRegion_touches _ _ _).within rfl)))

theorem mailCommand_within {pbr slot line : Nat} : Within may s (mailCommand pbr slot line s) := by
  unfold mailCommand
  dsimp only
  refine .ite (.refl _) (.ite (.upd (.refl _) rfl) (.ite (.refl _) ?_))
  split
  · exact .after ((queueCmd_touches _ _ _ _).within rfl)
      (.after ((updMail_touches _ _ _ _).within rfl) ((updMail_touches _ _ _ _).within rfl))
  · refine .after ((updMail_touches _ _ _ _).within rfl) ?_
    split
    · exact .after (.ite denial_within (.refl _)) ((updMail_touches _ _ _ _).within rfl)
    · exact (updMail_touches _ _ _ _).within rfl

theorem mciHold_within {op : Nat} {q : MciReq} : Within may s (mciHold op q s) := .upd (.refl _) rfl

theorem memWrite_within {pbr tag : Nat} {region : Option Nat} {off : Nat} {data : LineData} {poison : Bool} :
    Within may s (memWrite pbr tag region off data poison s) :=
  .after hostWrite_within (.ite mailCommand_within (.refl _))

theorem mergeFaultMap_within : Within may s (mergeFaultMap s) :=
  .after ((evaluateRequests_touches _).within rfl)
    (.after ((notify_touches _ _ _ _).within rfl)
      (.after checkImages_within
        (.after ((noteRetrained_touches _).within rfl)
          (.fmap
            (.after (.foldl fun _ _ => (fuseCluster_touches _ _).within rfl)
              (.after ((fieldWrites_touches _).within rfl)
                (.foldl fun _ _ => (consentTo_touches _ _).within rfl)))))))

theorem moveRows_within {pc : Nat} : Within may s (moveRows pc s) := .ite updPc_within (.refl _)

theorem mpOnlyReset_within {detail : Nat} : Within may s (mpOnlyReset detail s) :=
  .win_fw (.after ((abortLoads_touches _).within rfl)
    (.after (.foldl fun _ _ => (answerReset_touches _ _).within rfl)
      (.after ((mpEvent_touches _ _ _ _ _).within rfl) (.boot (.refl _))))) (by dsimp only)

theorem poolReply_within {id : Nat} {d : LineData} {poison : Bool} {status : Nat} :
    Within may s (poolReply id d poison status s) := by
  unfold poolReply
  split
  · exact .refl _
  · exact .ite pieceOf_within finishAcc_within

theorem poolStart_within {fn x : Nat} : Within may s (poolStart fn x s) :=
  .ite (.after ((rejectPool_touches _ _ _ _ _).within rfl) violation_within)
    (by
      split
      · exact (rejectPool_touches _ _ _ _ _).within rfl
      · exact .after ((queueCmd_touches _ _ _ _).within rfl) ((consume_touches _ _ _ _).within rfl))

theorem queueDense_within {q : DReq} : Within may s (queueDense q s) := .upd (.refl _) rfl

theorem queuePc_within {q : UReq} : Within may s (queuePc q s) := updPc_within

theorem readThree_within {line : Nat} : Within may s (readThree line s).2 :=
  .after hbmRead_within (.after hbmRead_within hbmRead_within)

theorem rebuildAtLine_within {src region off : Nat} : Within may s (rebuildAtLine src region off s) :=
  .ite (.after unlockStripe_within ((updRegion_touches _ _ _).within rfl)) (.refl _)

theorem regionRun_within {op who tag x : Nat} : Within may s (regionRun op who tag x s) := by
  unfold regionRun
  split
  · exact .ite ((createRun_touches _ _ _ _).within rfl) ((replaceRun_touches _ _ _ _).within rfl)
  · exact deleteRun_within
  · exact (accessRun_touches _ _ _ _).within rfl

theorem regionCommand_within {op : Nat} {q : MciReq} : Within may s (regionCommand op q s) :=
  .after
    (.ite regionRun_within
      (.after ((tableWait_touches _ _ _ _ _).within rfl) ((sendTable_touches _ _ _ _ _ _).within rfl)))
    mciHold_within

theorem releaseMiss_within {m : MissEntry} : Within may s (releaseMiss m s) :=
  .after (.foldl (fun _ _ => queueCache_within)) dropMiss_within

theorem serveLinesOf_within {h : FlitHdr} {uop : Nat} {u : UnschIn} {each : Nat → LineIn → State → State}
    (each_within : ∀ a b u, Within may u (each a b u)) :
    Within may s (serveLinesOf h uop u each s) :=
  .ite (.after ((servedLine_touches _ _ _ _ _ _ _).within rfl) (.upd (.refl _) rfl))
    (.after (.foldl fun _ _ => each_within _ _ _) (.upd (.refl _) rfl))

theorem withMember_within {h : FlitHdr} {uop : Nat} {u : UnschIn} {act : Region → Nat → State → State}
    (act_within : ∀ a b u, Within may u (act a b u)) :
    Within may s (withMember h uop u act s) := by
  unfold withMember
  dsimp only
  split
  · exact (sendRsp_touches _ _ _ _ _ _ _ _ _ _).within rfl
  · exact .ite ((sendRsp_touches _ _ _ _ _ _ _ _ _ _).within rfl)
      (.ite ((sendRsp_touches _ _ _ _ _ _ _ _ _ _).within rfl) (act_within _ _ _))

theorem reqDelta_within {h : FlitHdr} {u : UnschIn} : Within may s (reqDelta h u s) :=
  withMember_within fun _ _ _ =>
    serveLinesOf_within fun _ _ _ => .ite ((servedLine_touches _ _ _ _ _ _ _).within rfl) startAcc_within

theorem reqRead_within {h : FlitHdr} {u : UnschIn} : Within may s (reqRead h u s) :=
  withMember_within fun _ _ _ => serveLinesOf_within fun _ _ _ => startAcc_within

theorem reqRebuild_within {h : FlitHdr} {u : UnschIn} : Within may s (reqRebuild h u s) :=
  withMember_within fun _ _ _ =>
    .after (serveLinesOf_within fun _ _ _ => .ite ((servedLine_touches _ _ _ _ _ _ _).within rfl) startAcc_within)
      rebuildAtLine_within

theorem reqWrite_within {h : FlitHdr} {u : UnschIn} : Within may s (reqWrite h u s) :=
  withMember_within fun _ _ _ =>
    serveLinesOf_within fun _ _ _ => .ite ((servedLine_touches _ _ _ _ _ _ _).within rfl) startAcc_within

theorem restoreRows_within {pc : Nat} : Within may s (restoreRows pc s) :=
  .ite (.refl _) (.after ((emitAll_touches _ _).within rfl) updPc_within)

theorem wakeNamed_within : Within may s (wakeNamed s) :=
  .foldl fun _ _ => by
    split
    · exact .ite startExit_within (.refl _)
    · exact .refl _

theorem ringDoorbell_within {fn ring : Nat} {value : BitVec 32} {whole : Bool} {sIn : State} :
    Within may sIn (ringDoorbell fn ring value whole sIn) :=
  .after
    (.ite ((badDoorbell_touches _ _ _).within rfl)
      (.ite ((staleDoorbell_touches _ _ _).within rfl)
        (.ite (.refl _) (.after wakeNamed_within ((updRing_touches _ _ _ _).within rfl)))))
    ((settleFlush_touches _ _ _).within rfl)

theorem rxBare_within {h : FlitHdr} {act : State → State} {sIn : State} (act_within : ∀ u, Within may u (act u)) :
    Within may sIn (rxBare h act sIn) := by
  unfold rxBare
  dsimp only
  exact .ite (.refl _)
    (by
      split
      · exact .after ((crcInjected_touches _ _ (by assumption)).within rfl) ((noteCorrected_touches _ _).within rfl)
      · exact .after (act_within _)
          (.after ((takeHeader_touches _ _).within rfl) ((noteCorrected_touches _ _).within rfl))
          )

theorem rxFlit_within {h : FlitHdr} {act : State → State} (act_within : ∀ u, Within may u (act u)) :
    Within may s (rxFlit h act s) :=
  rxBare_within fun _ =>
    .after
      (.ite (.after (act_within _) ((updPort_touches _ _ _).within rfl))
        (.ite (.after ((wireBare_touches _ _ _).within rfl) ((updPort_touches _ _ _).within rfl)) (.refl _)))
      ((updPort_touches _ _ _).within rfl)

theorem stageBufLine_within {fn ticket x : Nat} {data : List (Option LineData)} {i : Nat} :
    Within may s (stageBufLine fn ticket x data i s) :=
  .ite ctlArrive_within
    (by
      split
      · exact ctlArrive_within
      · exact (stageHole_touches _ _ _).within rfl)

theorem stageChunk_within {fn ticket x : Nat} {data : List (Option LineData)} {off n : Nat} :
    Within may s (stageChunk fn ticket x data off n s) :=
  .ite
    queueDense_within
    (.ite
      queueDense_within
      (.foldl
        (fun _ _ =>
          by
            split
            · exact queueDense_within
            · exact (stageHole_touches _ _ _).within rfl)))

theorem stageDense_within {fn ticket x : Nat} {data : List (Option LineData)} {n off : Nat} :
    Within may s (stageDense fn ticket x data n off s) := by
  induction n generalizing off s with
  | zero => exact .refl _
  | succ n ih =>
    unfold stageDense
    exact .ite (.refl _) (.after ih stageChunk_within)

theorem stageHbmLine_within {fn ticket x : Nat} {data : List (Option LineData)} {i : Nat} :
    Within may s (stageHbmLine fn ticket x data i s) :=
  .ite
    queuePc_within
    (by
      split
      · exact queuePc_within
      · exact (stageHole_touches _ _ _).within rfl)

theorem stageGo_within {fn x : Nat} {data : List (Option LineData)} : Within may s (stageGo fn x data s) := by
  unfold stageGo
  dsimp only
  split
  · exact .after (.foldl fun _ _ => stageBufLine_within)
      (.after (.ite (.refl _) ((emit_touches _ _).within rfl)) ((consumeLines_touches _ _ _ _ _).within rfl))
  · exact .after (.foldl fun _ _ => stageHbmLine_within)
      (.after (.ite (.refl _) ((emit_touches _ _).within rfl)) ((consumeLines_touches _ _ _ _ _).within rfl))
  · exact .after stageDense_within
      (.after (.ite (.refl _) ((emit_touches _ _).within rfl)) ((consumeLines_touches _ _ _ _ _).within rfl))

theorem stageStart_within {fn x : Nat} {data : List (Option LineData)} : Within may s (stageStart fn x data s) :=
  .ite ((rejectHead_touches _ _ _ _ _).within rfl)
    (.ite (.after ((rejectHead_touches _ _ _ _ _).within rfl) violation_within)
      (by
        split
        · exact (rejectHead_touches _ _ _ _ _).within rfl
        · exact stageGo_within))

theorem startLoad_within {q : MciReq} {n : Nat} : Within may s (startLoad q n s) :=
  .after mciHold_within ((setSlot_touches _ _ _).within rfl)

theorem startMerge_within : Within may s (startMerge s) :=
  .after ((stepDone_touches _ _).within rfl)
    (.after ((noteUnclean_touches _).within rfl)
      (.after ((recordPower_touches _).within rfl)
        (.after ((recheckVet_touches _).within rfl)
          (.after mergeFaultMap_within (.after hardRepairs_within ((stepDone_touches _ _).within rfl))))))

theorem tableHere_within {src tag region x : Nat} : Within may s (tableHere src tag region x s) := by
  unfold tableHere
  dsimp only
  split
  · exact regionRun_within
  · split
    · exact (sendRsp_touches _ _ _ _ _ _ _ _ _ _).within rfl
    · exact .after ((sendRsp_touches _ _ _ _ _ _ _ _ _ _).within rfl)
        ((allocHere_touches _ _ (by assumption)).within rfl)
  · exact .after (.ite ((extentsDone_touches _ _).within rfl) (.refl _))
      (.after ((sendRsp_touches _ _ _ _ _ _ _ _ _ _).within rfl) deleteHere_within)
  · exact .after ((sendRsp_touches _ _ _ _ _ _ _ _ _ _).within rfl) ((aclInForce_touches _ _ _ _).within rfl)
  · exact .after ((sendRsp_touches _ _ _ _ _ _ _ _ _ _).within rfl) entryHere_within
  · exact .after ((sendRsp_touches _ _ _ _ _ _ _ _ _ _).within rfl) ((updRegion_touches _ _ _).within rfl)
  · exact (sendRsp_touches _ _ _ _ _ _ _ _ _ _).within rfl

theorem takeReq_within {h : FlitHdr} {uop : Nat} {u : UnschIn} {act : State → State} (act_within : ∀ u, Within may u
    (act u)) :
    Within may s (takeReq h uop u act s) :=
  rxFlit_within fun _ =>
    .ite ((passOn_touches _ _ _ _ _).within rfl)
      (by
        split
        · split
          · exact .refl _
          · exact (sendFlit_touches _ _ _ _).within rfl
        · exact .ite (.refl _) (act_within _))

theorem takeRsp_within {h : FlitHdr} {uop : Nat} {u : UnschIn} : Within may s (takeRsp h uop u s) := by
  unfold takeRsp
  split
  · exact .refl _
  · split
    · exact .after poolReply_within (.after ((admitWaiting_touches _ _).within rfl) (.upd (.refl _) rfl))
    · exact .after ((partDone_touches _ _ _ _).within rfl)
        (.after ((admitWaiting_touches _ _).within rfl) (.upd (.refl _) rfl))
    · exact .after ((partDone_touches _ _ _ _).within rfl)
        (.after ((admitWaiting_touches _ _).within rfl) (.upd (.refl _) rfl))
    · exact .after ((tableReply_touches _ _ _).within rfl)
        (.after ((admitWaiting_touches _ _).within rfl) (.upd (.refl _) rfl))
    · exact .after ((admitWaiting_touches _ _).within rfl) (.upd (.refl _) rfl)

theorem useEntry_within {key : Nat} {counted : Bool} {k : Nat} : Within may s (useEntry key counted k s) :=
  .after (.ite ((updRun_touches _ _ _).within rfl) (.refl _)) (.upd (.refl _) rfl)

theorem wakeStack_within {pc : Nat} : Within may s (wakeStack pc s) :=
  .after (.ite (.after ((emit_touches _ _).within rfl) ((updParts_touches _ _).within rfl)) (.refl _)) updStack_within

theorem wakeTolerance_within : Within may s (wakeTolerance s) := .foldl fun _ _ => .ite (.refl _) startExit_within

theorem writeDbl_within {fn off : Nat} {v : BitVec 32} : Within may s (writeDbl fn off v s) :=
  .ite (.ite ringDoorbell_within ((cqDoorbell_touches _ _ _ _).within rfl))
    (.ite ((flushRequest_touches _ _ _).within rfl) (.refl _))

theorem writeWord_within {fn off : Nat} {v : BitVec 32} : Within may s (writeWord fn off v s) :=
  .ite ((writeRing_touches _ _ _ _ _).within rfl)
    (.ite writeDbl_within
      (.ite ((updFn_touches _ _ _).within rfl)
        (.ite ((writeFattnEn_touches _ _ _).within rfl)
          (.ite ((writeMsix_touches _ _ _ _).within rfl)
            (.ite (.refl _)
              (.ite (.ite (.refl _) ((writeMbx_touches _ _ _).within rfl))
                (.ite ((prioRewrite_touches _ _ _ _).within rfl)
                  (by
                    split
                    · exact .ite (.upd (.refl _) rfl) (.refl _)
                    · exact .upd (.refl _) rfl
                    · exact (writeStsEn_touches _ _).within rfl
                    · exact .ite ((capture_touches _).within rfl) (.refl _)
                    · exact (writePwrEn_touches _ _).within rfl
                    · exact (writeAckHalf_touches _ _ _).within rfl
                    · exact (writeAckHalf_touches _ _ _).within rfl
                    · exact (writeEvtEn_touches _ _).within rfl
                    · exact .upd (.refl _) rfl
                    · exact .ite (.upd (.refl _) rfl) (.refl _)
                    · exact (writeArm_touches _ _).within rfl
                    · exact (writeScratch_touches _ _ _).within rfl
                    · exact (writeScratch_touches _ _ _).within rfl
                    · exact (writeInject_touches _ _).within rfl
                    · exact .refl _))))))))

theorem writeWords_within {fn off value n : Nat} : Within may s (writeWords fn off value n s) := by
  induction n generalizing off value s with
  | zero => exact .refl _
  | succ n ih => exact .after ih writeWord_within

theorem writeReg_within {fn off size value : Nat} : Within may s (writeReg fn off size value s) :=
  .ite ((badDoorbell_touches _ _ _).within rfl)
    (.ite (.refl _)
      (.after
        (.ite ((writeAck_touches _ _).within rfl) (.ite ((prioRewrite_touches _ _ _ _).within rfl) writeWords_within))
        (.ite ((mbxCount_touches _).within rfl) (.refl _))))

theorem zeroTags_within {stack : Nat} : Within may s (zeroTags stack s) := .upd (.refl _) rfl

theorem sourceLine_within {region o : Nat} {fetched f : List LineIn} {d : LineData × Bool} {t : State}
    (e : sourceLine region o fetched s = some (d, f, t)) : Within may s t := by
  unfold sourceLine at e
  dsimp only at e
  split at e
  · cases e
    exact hbmRead_within
  · split at e <;> cases e
    exact .refl _

theorem operandLines_within {region : Nat} {l : List (Nat × Nat)} {f g : List LineIn} {d : List LineData × Option Nat}
    {t : State} (e : operandLines region l f s = some (d, g, t)) : Within may s t := by
  induction l generalizing f s d g t with
  | nil =>
    cases e
    exact .refl _
  | cons x l ih =>
    obtain ⟨r, o⟩ := x
    unfold operandLines at e
    split at e
    · cases e
    · next source =>
      split at e
      · cases e
        exact sourceLine_within source
      · split at e
        · cases e
        · next later =>
          cases e
          exact .after (ih later) (sourceLine_within source)

theorem fillLines_within {id c : Nat} {offs : List Nat} {f : List LineIn} {t : State}
    (e : fillLines id c offs f s = some t) :
    Within may s t := by
  cases e
  exact .foldl fun _ _ => destLine_within

theorem copyLines_within {id c : Nat} {offs : List Nat} {f : List LineIn} {t : State}
    (e : copyLines id c offs f s = some t) :
    Within may s t := by
  induction offs generalizing f s with
  | nil =>
    cases e
    exact .refl _
  | cons o offs ih =>
    unfold copyLines at e
    split at e
    · cases e
    · next source =>
      split at e
      · cases e
        exact .after ((stopPoison_touches _ _ _).within rfl) ((sourceLine_within source))
      · exact .after (ih e) (.after destLine_within ((sourceLine_within source)))

theorem compareLines_within {id c : Nat} {offs : List Nat} {f : List LineIn} {t : State}
    (e : compareLines id c offs f s = some t) : Within may s t := by
  induction offs generalizing f s with
  | nil =>
    cases e
    exact .refl _
  | cons o offs ih =>
    unfold compareLines at e
    split at e
    · cases e
    · next first =>
      split at e
      · cases e
        exact .after ((stopPoison_touches _ _ _).within rfl) (sourceLine_within first)
      · split at e
        · cases e
        · next second =>
          have read := Within.after (may := may) (sourceLine_within second) (sourceLine_within first)
          split at e
          · cases e
            exact .after ((stopPoison_touches _ _ _).within rfl) read
          · split at e
            · exact .after (ih e) read
            · cases e
              exact .after ((updCmd_touches _ _ _).within rfl) read

theorem reduceLines_within {id c : Nat} {offs : List Nat} {f : List LineIn} {t : State}
    (e : reduceLines id c offs f s = some t) :
    Within may s t := by
  induction offs generalizing f s with
  | nil =>
    cases e
    exact .refl _
  | cons o offs ih =>
    unfold reduceLines at e
    dsimp only at e
    split at e
    · cases e
    · next operands =>
      cases e
      exact .after ((stopPoison_touches _ _ _).within rfl) ((operandLines_within operands))
    · next operands =>
      exact .after (ih e) (.after destLine_within ((operandLines_within operands)))

theorem runData_within {op id : Nat} {lines : Nat → List Nat → State → Option State}
    (lines_within : ∀ c l u t, lines c l u = some t → Within may u t) :
    Within may s (runData op id lines s) := by
  unfold runData
  split
  · exact .refl _
  · split
    · exact .refl _
    · dsimp only
      have sent (ms : List Nat) (c holder : Nat) :
          Within may s (ms.foldl (fun t m => sendPart 5 m id c holder 3 t)
            (updCmd id (fun c => { c with ran := true }) s)) :=
        .after (.foldl fun _ _ => (sendPart_touches _ _ _ _ _ _ _).within rfl) ((updCmd_touches _ _ _).within rfl)
      split
      · exact sent _ _ _
      · cases e : lines _ _ _ with
        | none => exact .refl _
        | some t => exact .after (lines_within _ _ _ _ e) (sent _ _ _)

theorem execAutonomousRefresh_within {pc : Nat} : WithinNext may s (execAutonomousRefresh pc s) :=
  .ite (.next (.after ((emit_touches _ _).within rfl) updPc_within)) (.next (.refl _))

theorem execBeatDiscard_within {router port : Nat} : WithinNext may s (execBeatDiscard router port s) := by
  unfold execBeatDiscard
  dsimp only
  split
  · exact .next (.refl _)
  · exact .ite
      (.ite (.next ((updPipe_touches _ _ _).within rfl))
        (.next (.after ((dataPathBreach_touches _ _ _).within rfl) (.buf ((updPipe_touches _ _ _).within rfl) rfl))))
      (.next (.refl _))

theorem execBufferScrub_within {q : MciReq} : WithinNext may s (execBufferScrub q s) :=
  .next (mciFixed_within fun _ => .after ((mciStatus_touches _ _ _ _).within rfl) (.upd (.refl _) rfl))

theorem execCompare_within {id : Nat} {fetched : List LineIn} : WithinNext may s (execCompare id fetched s) := by
  unfold execCompare
  exact .next (runData_within fun _ _ _ _ e => ((compareLines_within e)))

theorem execCopy_within {id : Nat} {fetched : List LineIn} : WithinNext may s (execCopy id fetched s) := by
  unfold execCopy
  exact .next (runData_within fun _ _ _ _ e => copyLines_within e)

theorem execCorrectedWriteback_within {pc : Nat} : WithinNext may s (execCorrectedWriteback pc s) := by
  unfold execCorrectedWriteback
  split
  · exact .next (.refl _)
  · exact .ite (.next (.refl _))
      (.next (by
        split
        · exact .hbm (.after updPc_within (.after moveRows_within wakeStack_within)) rfl
        · exact .hbm (.after updPc_within (.after moveRows_within wakeStack_within)) rfl
        · exact .after updPc_within (.after moveRows_within wakeStack_within) ) )

theorem execCounterClear_within {q : MciReq} : WithinNext may s (execCounterClear q s) :=
  .next
    (mciFixed_within fun _ =>
      .after ((mciStatus_touches _ _ _ _).within rfl)
        (.ite (.foldl fun _ _ => clearCounter_within) clearCounter_within))

theorem execCounterRead_within {q : MciReq} : WithinNext may s (execCounterRead q s) :=
  .next
    (mciFixed_within fun _ =>
      .ite (.after ((mciStatus_touches _ _ _ _).within rfl) violation_within)
        (.after ((mciAnswer_touches _ _ _ _ _ _ _).within rfl)
          (.ite ((updRing_touches _ _ _ _).within rfl) (.refl _))))

theorem execCxlMemRead_within {pbr tag : Nat} {region : Option Nat} {off : Nat} :
    WithinNext may s (execCxlMemRead pbr tag region off s) := .next (.ite hostRead_within (.refl _))

theorem execCxlMemWrite_within {pbr tag : Nat} {region : Option Nat} {off : Nat} {data : LineData} {poison : Bool} :
    WithinNext may s (execCxlMemWrite pbr tag region off data poison s) := .next (.ite memWrite_within (.refl _))

theorem execFaultMapMerge_within : WithinNext may s (execFaultMapMerge s) :=
  .ite (.next (.refl _)) (.ite (.ite (.next startMerge_within) (.next (.refl _))) (.next mergeFaultMap_within))

theorem execFill_within {id : Nat} {fetched : List LineIn} : WithinNext may s (execFill id fetched s) := by
  unfold execFill
  exact .next (runData_within fun _ _ _ _ e => fillLines_within e)

theorem execFwActivate_within {q : MciReq} : WithinNext may s (execFwActivate q s) :=
  .next
    (mciFixed_within fun _ =>
      .ite ((mciStatus_touches _ _ _ _).within rfl)
        (.after (.ite (.refl _) (.ite (.boot (.refl _)) (.after mpOnlyReset_within (.fw (.refl _)))))
          (.after ((mciStatus_touches _ _ _ _).within rfl) ((fwActivate_touches _ _).within rfl))))

theorem execHbmSoftRepair_within {pc row : Nat} {resource : Bool} :
    WithinNext may s (execHbmSoftRepair pc row resource s) :=
  .ite (.next (.refl _))
    (.ite (.next (.after ((sendEvent_touches _ _).within rfl) (.hbm updPc_within rfl)))
      (.next
        (.after ((sendEvent_touches _ _).within rfl) (.after ((sendEvent_touches _ _).within rfl) updPc_within))))

theorem execHbmTempSample_within {stack : Nat} {raw : BitVec 16} : WithinNext may s (execHbmTempSample stack raw s) :=
  .ite (.next (.refl _))
    (.next
      (.after ((denyFrames_touches _).within rfl) (.after updStack_within ((judgeSample_touches _ _ _).within rfl))))

theorem execHbmTraining_within {stack : Nat} {good : Bool} {channels : List ChannelTrain} :
    WithinNext may s (execHbmTraining stack good channels s) :=
  .ite (.next (.refl _))
    (.next
      (.after (.ite ((stepDone_touches _ _).within rfl) (.refl _))
        (.after updPcs_within
          (.ite
            (.after (.foldl fun _ _ => (repairChannel_touches _ _ _).within rfl)
              (.after zeroTags_within updStack_within))
            (.after ((mpEvent_touches _ _ _ _ _).within rfl)
              (.after ((deadenPcs_touches _ _).within rfl) updStack_within))))))

theorem execIdleStateEntry_within {part_ : Nat} : WithinNext may s (execIdleStateEntry part_ s) :=
  .ite (.next (.refl _))
    (by
      split
      · exact .next (.refl _)
      · exact .ite (.next (.refl _))
          (.next (.after
            (.ite ((setGate_touches _ _ _).within rfl)
              (.ite (.foldl fun _ _ => .after ((emitAll_touches _ _).within rfl) updStack_within) (.refl _)))
            ((updPart_touches _ _ _).within rfl))))

theorem execImageEvict_within {q : MciReq} : WithinNext may s (execImageEvict q s) :=
  .next (mciFixed_within fun _ =>
    .ite (.after ((mciStatus_touches _ _ _ _).within rfl) violation_within)
      (by
        split
        · exact (mciStatus_touches _ _ _ _).within rfl
        · exact .after ((mciStatus_touches _ _ _ _).within rfl) ((loadFails_touches _ _ _ _ _ _).within rfl)
        · exact .after ((mciStatus_touches _ _ _ _).within rfl) ((setSlot_touches _ _ _).within rfl)
        · exact .after ((mciStatus_touches _ _ _ _).within rfl) ((setSlot_touches _ _ _).within rfl)
        · exact (mciStatus_touches _ _ _ _).within rfl
        · exact (mciStatus_touches _ _ _ _).within rfl
        · exact (mciStatus_touches _ _ _ _).within rfl))

theorem execImageLoad_within {q : MciReq} : WithinNext may s (execImageLoad q s) :=
  .next
    (mciFixed_within fun _ =>
      .ite (.after ((mciAnswer_touches _ _ _ _ _ _ _).within rfl) violation_within)
        (.ite ((mciAnswer_touches _ _ _ _ _ _ _).within rfl) startLoad_within))

theorem execImageLoadDone_within {slot_ bytes len : Nat} : WithinNext may s (execImageLoadDone slot_ bytes len s) := by
  unfold execImageLoadDone
  dsimp only
  exact .ite (.next (.refl _))
    (by
      split
      · split
        · exact .next (.after violation_within ((loadFails_touches _ _ _ _ _ _).within rfl))
        · exact .next (.after ((mciReply_touches _ _ _ _ _ _ _ _).within rfl) ((setSlot_touches _ _ _).within rfl))
      · exact .next ((loadFails_touches _ _ _ _ _ _).within rfl) )

theorem execImageQuery_within {q : MciReq} : WithinNext may s (execImageQuery q s) :=
  .next
    (mciFixed_within fun _ =>
      .ite (.after ((mciStatus_touches _ _ _ _).within rfl) violation_within) ((mciQuery_touches _ _ _ _).within rfl))

theorem execLaneTest_within {q : MciReq} : WithinNext may s (execLaneTest q s) :=
  .next
    (mciFixed_within fun _ =>
      .ite ((mciStatus_touches _ _ _ _).within rfl) (.after beginTest_within (.lanes mciHold_within)))

theorem execLaneTestComplete_within {n : Nat} {cells : List CellTrain} {stitch : List StitchTrain} {hbm : List Nat} :
    WithinNext may s (execLaneTestComplete n cells stitch hbm s) := by
  unfold execLaneTestComplete
  split
  · exact .next (.refl _)
  · exact .ite (.next (.refl _)) (.next (.after ((mciReply_touches _ _ _ _ _ _ _ _).within rfl) endTest_within))

theorem execMemberLoss_within {region member : Nat} : WithinNext may s (execMemberLoss region member s) :=
  .ite
    (.next
      (.after (.ite ((replicate_touches _ _).within rfl) (.refl _))
        (.after (.ite ((updRegion_touches _ _ _).within rfl) (.refl _)) loseMember_within)))
    (.next (.refl _))

theorem execMpReset_within {q : MciReq} : WithinNext may s (execMpReset q s) :=
  .next (mciFixed_within fun _ => .after mpOnlyReset_within ((mciStatus_touches _ _ _ _).within rfl))

theorem execMpSramUncorrectable_within : WithinNext may s (execMpSramUncorrectable s) :=
  .ite (.next mpOnlyReset_within) (.next (.refl _))

theorem execMpWatchdog_within : WithinNext may s (execMpWatchdog s) :=
  .ite (.next mpOnlyReset_within) (.next (.refl _))

theorem execPartitionReset_within {q : MciReq} : WithinNext may s (execPartitionReset q s) :=
  .next
    (mciFixed_within fun _ =>
      .ite ((mciStatus_touches _ _ _ _).within rfl)
        (.after (.ite cancelBind_within (.ite resetEffect_within ((updPart_touches _ _ _).within rfl)))
          ((mciStatus_touches _ _ _ _).within rfl)))

theorem execPatrolScrub_within {pc sev : Nat} : WithinNext may s (execPatrolScrub pc sev s) :=
  .ite (.next (.refl _))
    (.next
      (.after updPc_within (.after hbmRead_within (.after ((hbmCount_touches _ _ _ _).within rfl) moveRows_within))))

theorem execPmControlPeriod_within {m : PowerIn} : WithinNext may s (execPmControlPeriod m s) :=
  .ite (.next (.refl _))
    (.next
      (.after wakeTolerance_within
        (.after ((applyOwn_touches _ _).within rfl)
          (.pm
            (.after ((ownSetting_touches _ _).within rfl)
              (.after ((noteShort_touches _ _).within rfl)
                (.after ((rampFalls_touches _).within rfl) ((measure_touches _ _).within rfl))))))))

theorem execPoolAccessSet_within {q : MciReq} : WithinNext may s (execPoolAccessSet q s) :=
  .next
    (mciRun_within fun _ =>
      .after regionCommand_within (.ite (.refl _) (.pool ((updRegion_touches _ _ _).within rfl))))

theorem execPoolItem_within {fn : Nat} : WithinNext may s (execPoolItem fn s) := by
  unfold execPoolItem
  split
  · exact .next (.refl _)
  · exact .ite (.next (.refl _))
      (by
        split
        · exact .next (.after ((rejectHead_touches _ _ _ _ _).within rfl)
            ((startTurn_touches _ _ _ (by assumption)).within rfl))
        · exact .next (.after poolStart_within ((startTurn_touches _ _ _ (by assumption)).within rfl)))

theorem execPoolMailboxCommand_within {pbr slot : Nat} {line : BitVec 512} :
    WithinNext may s (execPoolMailboxCommand pbr slot line s) := .next (.ite mailCommand_within (.refl _))

theorem execPoolQuery_within {q : MciReq} : WithinNext may s (execPoolQuery q s) :=
  .next
    (mciFixed_within fun _ =>
      .ite ((mciQuery_touches _ _ _ _).within rfl)
        (.ite ((mciQuery_touches _ _ _ _).within rfl)
          (.after ((mciStatus_touches _ _ _ _).within rfl) violation_within)))

theorem execPoolRegionCreate_within {q : MciReq} : WithinNext may s (execPoolRegionCreate q s) :=
  .next (mciFixed_within fun _ => regionCommand_within)

theorem execPoolRegionDelete_within {q : MciReq} : WithinNext may s (execPoolRegionDelete q s) :=
  .next (mciFixed_within fun _ => regionCommand_within)

theorem execPoolRegionReplace_within {q : MciReq} : WithinNext may s (execPoolRegionReplace q s) :=
  .next (mciFixed_within fun _ => regionCommand_within)

theorem execRebuildStep_within {region : Nat} : WithinNext may s (execRebuildStep region s) := by
  unfold execRebuildStep
  dsimp only
  split
  · exact .next (.refl _)
  · refine .ite (.next ?_) (.next (.refl _))
    split
    · exact .after askPieces_within (.upd (.refl _) rfl)
    · exact .after gatherAcc_within (.upd (.refl _) rfl)

theorem execReduce_within {id : Nat} {fetched : List LineIn} : WithinNext may s (execReduce id fetched s) := by
  unfold execReduce
  exact .next (runData_within fun _ _ _ _ e => reduceLines_within e)

theorem execRefreshTimer_within {pc : Nat} : WithinNext may s (execRefreshTimer pc s) :=
  .ite (.next (.refl _))
    (.ite (.next updPc_within)
      (by
        split
        · exact .next (.after ((emitAll_touches _ _).within rfl)
            (.after ((blockFault_touches _ _ _ _ _ _).within rfl) updPc_within))
        · exact .next (.after ((updPart_touches _ _ _).within rfl)
            (.after ((breach_touches _ _ _ _).within rfl)
              (.after ((emitAll_touches _ _).within rfl)
                (.after ((blockFault_touches _ _ _ _ _ _).within rfl) updPc_within))))))

theorem execRegisterWrite_within {fn offset size value : Nat} :
    WithinNext may s (execRegisterWrite fn offset size value s) := .next (barWrite_within fun _ => writeReg_within)

theorem execRingDoorbell_within {fn ring : Nat} {value : BitVec 32} {whole : Bool} :
    WithinNext may s (execRingDoorbell fn ring value whole s) := .next (barWrite_within fun _ => ringDoorbell_within)

theorem execRingFetch_within {fn ring : Nat} {units : List (BitVec 512)} {list : List BufIn} :
    WithinNext may s (execRingFetch fn ring units list s) :=
  .ite (.next (.refl _))
    (.next (.after wakeNamed_within
      (by
        split
        · exact .ite (.after ((updRing_touches _ _ _ _).within rfl) ((emitAll_touches _ _).within rfl))
            (.after ((updRing_touches _ _ _ _).within rfl) ((emitAll_touches _ _).within rfl))
        · exact .after ((updRing_touches _ _ _ _).within rfl) ((emitAll_touches _ _).within rfl))))

theorem execSliceRd_within {header : BitVec 64} {words : List Nat} : WithinNext may s (execSliceRd header words s) :=
  .ite (.next ctlArrive_within) (.next (.refl _))

theorem execSliceWr_within {header : BitVec 64} {words : List Nat} : WithinNext may s (execSliceWr header words s) :=
  .ite (.next ctlArrive_within) (.next (.refl _))

theorem execStageComplete_within {fn : Nat} : WithinNext may s (execStageComplete fn s) := by
  unfold execStageComplete
  dsimp only
  split
  · exact .next (.refl _)
  · exact .next (.after beginTest_within ((completeOutst_touches _ _ _ _ _).within rfl))

theorem execStageStart_within {fn : Nat} {data : List (Option LineData)} :
    WithinNext may s (execStageStart fn data s) := by
  unfold execStageStart
  split
  · exact .next (.refl _)
  · exact .ite (.next (.refl _))
      (by
        split
        · exact .next (.after ((rejectHead_touches _ _ _ _ _).within rfl)
            ((startTurn_touches _ _ _ (by assumption)).within rfl))
        · exact .next (.after stageStart_within ((startTurn_touches _ _ _ (by assumption)).within rfl)))

theorem execUreqDelta_within {h : FlitHdr} {u : UnschIn} : WithinNext may s (execUreqDelta h u s) :=
  .next (takeReq_within fun _ => reqDelta_within)

theorem execUreqRead_within {h : FlitHdr} {u : UnschIn} : WithinNext may s (execUreqRead h u s) :=
  .next (takeReq_within fun _ => reqRead_within)

theorem execUreqRebuild_within {h : FlitHdr} {u : UnschIn} : WithinNext may s (execUreqRebuild h u s) :=
  .next (takeReq_within fun _ => reqRebuild_within)

theorem execUreqTable_within {h : FlitHdr} {u : UnschIn} : WithinNext may s (execUreqTable h u s) :=
  .next (takeReq_within fun _ => tableHere_within)

theorem execUreqWrite_within {h : FlitHdr} {u : UnschIn} : WithinNext may s (execUreqWrite h u s) :=
  .next (takeReq_within fun _ => reqWrite_within)

theorem execUrsp_within {h : FlitHdr} {uop : Nat} {u : UnschIn} : WithinNext may s (execUrsp h uop u s) :=
  .next (rxFlit_within fun _ => .ite takeRsp_within ((passOn_touches _ _ _ _ _).within rfl))

theorem execWindowQuery_within {q : MciReq} : WithinNext may s (execWindowQuery q s) :=
  .next
    (mciFixed_within fun _ =>
      .ite (.after ((mciStatus_touches _ _ _ _).within rfl) violation_within) ((mciQuery_touches _ _ _ _).within rfl))

theorem execWindowWrite_within {q : MciReq} : WithinNext may s (execWindowWrite q s) :=
  .next (mciRun_within fun _ => .after ((mciStatus_touches _ _ _ _).within rfl) (.upd (.refl _) rfl))

end Sys2Proof.Machine
end

section
/-! Operations of the model that may change contents, by the contents that they may change; then the commands, and what
every step keeps. -/

namespace Sys2Proof.Machine

variable {may : Content → Bool} {s : State}

section
/-! ### The buffer may change -/

variable (mayBuffer : may .buffer = true)
include mayBuffer

/-- A record of the tick takes the place of the line's earlier one, and its line is put into the memory; the lines of
the other records lie elsewhere. -/
theorem putTickLine_within {e : TickLine} : Within may s (putTickLine e s) := by
  refine (putTickLine_touches e s).withinBuffer mayBuffer (fun wf => ?_) fun wf held x mem => ?_
  · rw [putTickLine_mem]
    exact Memory.wf_setLine _ _ _ wf
  · rw [putTickLine_mem]
    obtain rfl | ⟨old, other⟩ := mem_putTickLine_tickLines mem
    · exact Memory.line_setLine_full _ _ wf
    · exact (Memory.line_setLine_outside _ _ (by omega)).trans (held x old)

theorem spoilWord_within {router line : Nat} {double : Bool} : Within may s (spoilWord router line double s) := by
  unfold spoilWord
  dsimp only
  split
  · exact .ite (.upd (.refl _) rfl) (.upd (.refl _) rfl)
  · exact putTickLine_within mayBuffer

theorem injectLine_within {router line : Nat} : Within may s (injectLine router line s) :=
  .ite (.after ((injectDone_touches _).within rfl) (spoilWord_within mayBuffer))
    (.ite (.after ((injectDone_touches _).within rfl) (spoilWord_within mayBuffer)) (.refl _))

theorem schedRead_within {router line : Nat} : Within may s (schedRead router line s).2 :=
  .after countErrors_within (injectLine_within mayBuffer)

theorem portRead_within {k router line : Nat} {ctx byRead : Bool} :
    Within may s (portRead k router line ctx byRead s).2 := by
  unfold portRead
  dsimp only
  exact .after ((updPart_touches _ _ _).within rfl) (schedRead_within mayBuffer)

theorem branchNow_within {k : Nat} {im : Image} {v : Variant} : Within may s (branchNow k im v s) :=
  .after ((updRun_touches _ _ _).within rfl) (portRead_within mayBuffer)

theorem doBranch_within {k : Nat} : Within may s (doBranch k s) := by
  unfold doBranch
  split
  · exact branchNow_within mayBuffer
  · exact .refl _

theorem storeLine_within {router line : Nat} {d : LineData} {mask : LineMask} {poison sched : Bool} :
    Within may s (storeLine router line d mask poison sched s) :=
  .after mirrorWrite_within (.after (putTickLine_within mayBuffer) countErrors_within)

theorem schedWrite_within {router line : Nat} {b : Beat} {mask : LineMask} :
    Within may s (schedWrite router line b mask s) := storeLine_within mayBuffer

theorem doWork_within {k : Nat} {w : Work} : Within may s (doWork k w s) := by
  unfold doWork
  split
  · exact .after ((sendOperand_touches _ _ _).within rfl) (portRead_within mayBuffer)
  · exact .after ((noteWrite_touches _ _ _ _ _ _ _).within rfl) ((socketStall_touches _ _ _).within rfl)
  · exact .after ((noteLine_touches _ _ _ _).within rfl) (storeLine_within mayBuffer)
  · exact .after ((addDue_touches _ _ _).within rfl) (portRead_within mayBuffer)
  · exact .after ((noteLine_touches _ _ _ _).within rfl) (schedWrite_within mayBuffer)
  · exact deliverFold_within

theorem advanceLoop_within {fuel target : Nat} : Within may s (advanceLoop fuel target s) := by
  induction fuel generalizing s with
  | zero => exact (passTo_touches _ _).within rfl
  | succ fuel ih =>
    unfold advanceLoop
    split
    · exact .ite (.after ih (.after (doBranch_within mayBuffer) ((passTo_touches _ _).within rfl)))
        ((passTo_touches _ _).within rfl)
    · split
      · exact (passTo_touches _ _).within rfl
      · exact .ite
          (.after ih
            (.after (doWork_within mayBuffer)
              (.after ((dropDue_touches _ _ _).within rfl) ((passTo_touches _ _).within rfl))))
          ((passTo_touches _ _).within rfl)

theorem advanceFree_within {target : Nat} : Within may s (advanceFree target s) := advanceLoop_within mayBuffer

theorem advanceTo_within {target : Nat} : Within may s (advanceTo target s) :=
  .ite (.refl _)
    (.ite (.after ((holdTick_touches _).within rfl) (advanceFree_within mayBuffer)) (advanceFree_within mayBuffer))

theorem advance_within {n : Nat} : Within may s (advance n s) := advanceTo_within mayBuffer

theorem endFrame_within {k : Nat} {im : Image} {r : Run} : Within may s (endFrame k im r s) := by
  unfold endFrame
  dsimp only
  split
  · exact .after ((dropWork_touches _ _).within rfl)
      (.after ((clearRun_touches _ _).within rfl) ((endRun_touches _ _ _).within rfl))
  · split
    · exact .ite (.after ((clearRun_touches _ _).within rfl) ((endRun_touches _ _ _).within rfl))
        ((nextFrame_touches _ _ _ _ _).within rfl)
    · exact .ite
        (.ite
          (.after ((clearRun_touches _ _).within rfl) ((endRun_touches _ _ _).within rfl))
          ((startVariant_touches _ _ _ _ _ _).within rfl))
        (by
          split
          · exact .ite (branchNow_within mayBuffer) (.refl _)
          · split
            · exact .after ((clearRun_touches _ _).within rfl)
                (.after ((endRun_touches _ _ _).within rfl) (.ite (branchNow_within mayBuffer) (.refl _)))
            · exact .after ((startVariant_touches _ _ _ _ _ _).within rfl)
                (.ite (branchNow_within mayBuffer) (.refl _))
            · exact .after ((clearRun_touches _ _).within rfl)
                (.after ((endRun_touches _ _ _).within rfl) (.ite (branchNow_within mayBuffer) (.refl _)))
                )

theorem boundaryPart_within {k : Nat} : Within may s (boundaryPart k s) := by
  unfold boundaryPart
  extract_lets p0 s1 s2 p
  have ended : Within may s s2 := by
    refine .after ((updPart_touches _ _ _).within rfl) ?_
    unfold s1
    split
    · exact .ite (endFrame_within mayBuffer)
        (.ite (.after ((dropWork_touches _ _).within rfl) ((clearRun_touches _ _).within rfl)) (.refl _))
    · exact .refl _
  refine .ite (.after resetEffect_within ended) (.ite (.after unbindEffect_within ended) ?_)
  split
  · exact .after bindBoundary_within ended
  · exact .after (.ite parkedBoundary_within (.ite parkPart_within (.refl _)))
      (.after ((updPart_touches _ _ _).within rfl) ended)

theorem commitAccess_within {q : CtlReq} {sIn : State} : Within may sIn (commitAccess q sIn) :=
  .after
    (.ite
      (.after ((ctlAnswer_touches _ _ _ _ _ _).within rfl)
        (.after ((noteControl_touches _ _ _).within rfl) (storeLine_within mayBuffer)))
      (.after ((ctlAnswer_touches _ _ _ _ _ _).within rfl) countErrors_within))
    (.ite (.refl _) (injectLine_within mayBuffer))

theorem readInto_within {k router line : Nat} {ctx byRead : Bool} {leader : Option MergeRead} :
    Within may s (readInto k router line ctx byRead leader s) := by
  unfold readInto
  dsimp only
  split
  · exact .after ((updPart_touches _ _ _).within rfl) ((countUp_touches _ _ _).within rfl)
  · exact .after ((updPart_touches _ _ _).within rfl) (portRead_within mayBuffer)

theorem writeFrom_within {rd : Ready} {router line lo n : Nat} {mask : LineMask} :
    Within may s (writeFrom rd router line lo n mask s) :=
  .after
    (.ite (.after ((noteWrite_touches _ _ _ _ _ _ _).within rfl) (schedWrite_within mayBuffer))
      (.after ((noteWrite_touches _ _ _ _ _ _ _).within rfl)
        (.after ((dataPathBreach_touches _ _ _).within rfl) countIdleOp_within)))
    ((takeInput_touches _ _ _ _ _ _ _).within rfl)

theorem zeroBuffer_within : Within may s (zeroBuffer s) :=
  (zeroBuffer_touches s).withinBuffer mayBuffer (fun _ => rfl) fun _ _ _ mem => absurd mem List.not_mem_nil

theorem atEvent_within {r : EvRef} {kind : Nat} {act : Ready → State → State}
    (act_within : ∀ rd u, Within may u (act rd u)) :
    WithinNext may s (atEvent r kind s act) := by
  unfold atEvent
  split
  · exact .next (.refl _)
  · exact .next (.after (act_within _ _) (advance_within mayBuffer))

theorem execBranchRead_within {part : Nat} : WithinNext may s (execBranchRead part s) :=
  .ite (.next (.refl _))
    (by
      split
      · exact .next (.refl _)
      · exact .next (.after (branchNow_within mayBuffer) (advance_within mayBuffer)))

theorem execDispatch_within {e : EvRef} : WithinNext may s (execDispatch e s) :=
  atEvent_within mayBuffer fun _ _ => by
    split
    · exact .refl _
    · exact .after ((addDue_touches _ _ _).within rfl) ((sendDispatch_touches _ _ _).within rfl)

theorem execDispatchResultWrite_within {router : Nat} {up : List GroupTick} :
    WithinNext may s (execDispatchResultWrite router up s) := by
  unfold execDispatchResultWrite
  dsimp only
  split
  · exact .next (.refl _)
  · split
    · exact .next (.refl _)
    · exact .ite (.next (.refl _))
        (.ite
          (.next
            (.after ((noteWrite_touches _ _ _ _ _ _ _).within rfl)
              (.after ((socketStall_touches _ _ _).within rfl)
                (.after ((dropDue_touches _ _ _).within rfl) (advance_within mayBuffer)))))
          (.next
            (.after ((noteLine_touches _ _ _ _).within rfl)
              (.after (schedWrite_within mayBuffer)
                (.after (.ite (.refl _) ((dataPathBreach_touches _ _ _).within rfl))
                  (.after ((dropDue_touches _ _ _).within rfl) (advance_within mayBuffer)))))))

theorem execEventLink_within {e : EvRef} {noise : List LinkNoise} : WithinNext may s (execEventLink e noise s) :=
  atEvent_within mayBuffer fun _ _ =>
    .after ((emitAll_touches _ _).within rfl)
      (.after ((updPipe_touches _ _ _).within rfl) ((takeInput_touches _ _ _ _ _ _ _).within rfl))

theorem execFoldStep_within {e : EvRef} : WithinNext may s (execFoldStep e s) :=
  atEvent_within mayBuffer fun _ _ => by
    split
    · exact .refl _
    · split
      · exact .refl _
      · exact .after ((addDue_touches _ _ _).within rfl)
          (.after foldOperand_within foldOperand_within)

theorem execGather_within {e : EvRef} : WithinNext may s (execGather e s) := by
  unfold execGather
  dsimp only
  exact atEvent_within mayBuffer fun _ _ => by
    split
    · exact .refl _
    · split
      · exact .after (readInto_within mayBuffer) useEntry_within
      · exact .after ((updPart_touches _ _ _).within rfl) useEntry_within

theorem execHostTransferBeat_within {k recIdx beat : Nat} :
    WithinNext may s (execHostTransferBeat k recIdx beat s) := by
  unfold execHostTransferBeat
  split
  · exact .next (.refl _)
  · exact .ite (.next (.after ((presentHostBeat_touches _ _ _ _ _ _).within rfl) (advance_within mayBuffer)))
      (.next (.after ((acceptHostBeat_touches _ _ _ _ _).within rfl) (advance_within mayBuffer)))

theorem execIndexLoad_within {e : EvRef} : WithinNext may s (execIndexLoad e s) :=
  atEvent_within mayBuffer fun _ _ => by
    split
    · exact .refl _
    · exact .buf (portRead_within mayBuffer) rfl

theorem execLatticeWindowEntry_within {part_ recIdx beat : Nat} :
    WithinNext may s (execLatticeWindowEntry part_ recIdx beat s) := by
  unfold execLatticeWindowEntry
  split
  · exact .next (.refl _)
  · exact .ite (.next (.refl _))
      (.ite
        (.next
          (.after
            (.ite ((enterBeat_touches _ _ _ _ _).within rfl)
              (.ite ((enterBeat_touches _ _ _ _ _).within rfl) (.refl _)))
            (.after ((openDue_touches _ _ _ _).within rfl) (advance_within mayBuffer))))
        (.next (.after ((openDue_touches _ _ _ _).within rfl) (advance_within mayBuffer))))

theorem execLatticeWindowPresent_within {part_ recIdx beat : Nat} :
    WithinNext may s (execLatticeWindowPresent part_ recIdx beat s) := by
  unfold execLatticeWindowPresent
  split
  · exact .next (.refl _)
  · extract_lets t s1 wire c0 d u s2 c n w b p s3 s4
    have described : Within may s s2 := by
      unfold s2
      exact .after
        (.ite
          (.after (.ite ((noteDescFault_touches _ _).within rfl) (.refl _)) ((updComp_touches _ _ _ _).within rfl))
          (.refl _))
        (advance_within mayBuffer)
    have presented : Within may s s3 := .after ((updPipe_touches _ _ _).within rfl) described
    have cleared : Within may s s4 := .after ((updComp_touches _ _ _ _).within rfl) presented
    refine .ite (.next (.refl _)) (.ite (.next described) (.ite (.next ?_) (.next presented)))
    clear_value w
    cases w with
    | none => exact cleared
    | some v => exact .after ((dropWin_touches _ _).within rfl) cleared

theorem execReadWindowCell_within {pc cell sev : Nat} : WithinNext may s (execReadWindowCell pc cell sev s) := by
  unfold execReadWindowCell
  split
  · exact .next (.refl _)
  · exact .ite (.next (.refl _))
      (.next
        (.after ((updPipe_touches _ _ _).within rfl)
          (.after (.iteSnd readThree_within (.refl _))
            (.after ((hbmCount_touches _ _ _ _).within rfl) (.after restoreRows_within (advance_within mayBuffer))))))

theorem execRefreshLane_within {pc cell : Nat} : WithinNext may s (execRefreshLane pc cell s) := by
  unfold execRefreshLane
  split
  · exact .next (.refl _)
  · exact .ite (.next (.refl _))
      (.ite
        (.next
          (.after ((emitAll_touches _ _).within rfl)
            (.after updPc_within (.after restoreRows_within (advance_within mayBuffer)))))
        (.next (.after updPc_within (.after restoreRows_within (advance_within mayBuffer)))))

theorem execRng_within {e : EvRef} : WithinNext may s (execRng e s) :=
  atEvent_within mayBuffer fun _ _ => by
    split
    · exact .refl _
    · exact .ite ((addDue_touches _ _ _).within rfl) ((updPipe_touches _ _ _).within rfl)

theorem execRowSwitchGap_within {pc cell : Nat} : WithinNext may s (execRowSwitchGap pc cell s) := by
  unfold execRowSwitchGap
  split
  · exact .next (.refl _)
  · exact .ite (.next (.refl _))
      (.next
        (.after ((emitAll_touches _ _).within rfl)
          (.after updPc_within (.after restoreRows_within (advance_within mayBuffer)))))

theorem execScatter_within {e : EvRef} : WithinNext may s (execScatter e s) := by
  unfold execScatter
  dsimp only
  exact atEvent_within mayBuffer fun _ _ => by
    split
    · exact .refl _
    · split
      · exact .after (writeFrom_within mayBuffer) useEntry_within
      · exact .after ((noteWrite_touches _ _ _ _ _ _ _).within rfl) useEntry_within

theorem execScheduledRead_within {e : EvRef} : WithinNext may s (execScheduledRead e s) :=
  atEvent_within mayBuffer fun _ _ => readInto_within mayBuffer

theorem execScheduledWrite_within {e : EvRef} : WithinNext may s (execScheduledWrite e s) :=
  atEvent_within mayBuffer fun _ _ => writeFrom_within mayBuffer

theorem execUpdate_within {e : EvRef} : WithinNext may s (execUpdate e s) :=
  atEvent_within mayBuffer fun _ _ => by
    split
    · exact .refl _
    · split
      · exact .after ((dataPathBreach_touches _ _ _).within rfl)
          (.after countIdleOp_within
            (.ofSnd ((gradient_touches _ _ _ _ _).within rfl) (by assumption)))
      · exact .after ((addDue_touches _ _ _).within rfl)
          (.after (portRead_within mayBuffer)
            (.ofSnd ((gradient_touches _ _ _ _ _).within rfl) (by assumption)))

end

section
/-! ### HBM may change -/

variable (mayHbm : may .hbm = true)
include mayHbm

theorem hbmWrite_within {line : Nat} {d : LineData} {poison : Bool} : Within may s (hbmWrite line d poison s) :=
  (hbmWrite_touches line d poison s).withinHbm rfl mayHbm (hbmWrite_wf line d poison s)

theorem acceptBeat_within {line : Nat} {b : Beat} : Within may s (acceptBeat line b s) :=
  .ite (hbmWrite_within mayHbm) (.refl _)

theorem coldClear_within : Within may s (coldClear s) := (coldClear_touches s).withinHbm rfl mayHbm fun _ => rfl

theorem beginStart_within {sIn : State} : Within may sIn (beginStart sIn) :=
  .clk_pins_boot_hbm_lanes_pm (.ite (coldClear_within mayHbm) (.refl _)) rfl

theorem storeBlock_within {k data : Nat} : Within may s (storeBlock k data s) :=
  serveLines_within fun _ _ => hbmWrite_within mayHbm

theorem serveReq_within {pc : Nat} {q : UReq} : Within may s (serveReq pc q s) := by
  unfold serveReq
  split
  · exact .ite
      (.ite ((stageWritten_touches _ _ _ _).within rfl)
        (.after ((stageRead_touches _ _ _ _ _ _ _).within rfl) ((drawLine_touches _).within rfl)))
      (.ite (.after ((stageWritten_touches _ _ _ _).within rfl) (hbmWrite_within mayHbm))
        (.after ((stageRead_touches _ _ _ _ _ _ _).within rfl) hbmRead_within))
  · exact poolServe_within (fun _ => hbmRead_within) (fun _ _ _ => hbmWrite_within mayHbm)
  · exact .refl _

theorem zeroUnit_within {u : Nat} : Within may s (zeroUnit u s) :=
  (zeroUnit_touches u s).withinHbm rfl mayHbm (zeroUnit_wf u s)

theorem execPerstDeassert_within {straps : BitVec 5} {drives : BitVec 8} :
    WithinNext may s (execPerstDeassert straps drives s) :=
  .ite (.next (.refl _)) (.next (.after (.ite (beginStart_within mayHbm) (.refl _)) (.upd (.refl _) rfl)))

theorem execResetHoldExpiry_within : WithinNext may s (execResetHoldExpiry s) :=
  .ite (.next (.refl _)) (.next (beginStart_within mayHbm))

end

section
/-! ### The layout may change -/

variable (mayLayout : may .layout = true)
include mayLayout

theorem reshape_within {k : Nat} {rc : Rect} : Within may s (reshape k rc s) :=
  .ite (.refl _)
    (.after ((setGate_touches _ _ _).within rfl)
      (.putLayout mayLayout (.after leaveRefresh_within ((updPart_touches _ _ _).within rfl))))

theorem layoutBoundary_within : Within may s (layoutBoundary s) := by
  unfold layoutBoundary
  split
  · exact .refl _
  · exact .after ((setGate_touches _ _ _).within rfl)
      (.after (.foldl fun _ _ => reshape_within mayLayout) (.upd (.refl _) rfl))

end

section
/-! ### The cache's lines may change -/

variable (mayLines : may .lines = true)
include mayLines

theorem assignRoles_within {p : Nat} : Within may s (assignRoles p s) :=
  have failed : Within may s (if (bits p 24 2 == 2 || (assignUnits p).any fun u => roleOf s u == 2) = true then
      (linesIn s 2).foldl (fun t k => failBlock (blockOf t k) t) s else s) :=
    .ite (.foldl fun _ _ => failBlock_within) (.refl _)
  .ite (.putDense mayLines (.hbm_pool failed rfl)) (.hbm_pool failed rfl)

theorem updLine_within {k : Nat} {f : CacheLine → CacheLine} : Within may s (updLine k f s) :=
  .putDense mayLines (.refl _)

theorem startWrite_within {k reason : Nat} : Within may s (startWrite k reason s) :=
  .after queueCache_within (.after (updLine_within mayLines) (.upd (.refl _) rfl))

theorem assignGo_within {fuel : Nat} : Within may s (assignGo fuel s) := by
  induction fuel generalizing s with
  | zero => exact .refl _
  | succ fuel ih =>
    unfold assignGo
    split
    · exact .refl _
    · have writes : Within may s ((dirtyLines s).foldl (fun t k => startWrite k 3 t) s) :=
        .foldl fun _ _ => startWrite_within mayLines
      exact .ite (.refl _)
        (.ite
          (.after ih
            (.after
              (.ite ((mciReply_touches _ _ _ _ _ _ _ _).within rfl)
                (.after ((mciReply_touches _ _ _ _ _ _ _ _).within rfl) (assignRoles_within mayLines)))
              (.dense writes rfl)))
          writes)

theorem attachDrives_within {l : List (Nat × Nat × Nat)} : Within may s (attachDrives l s) :=
  .putDense mayLines (.refl _)

theorem attachFound_within {who tag : Nat} {found : List DriveIn} : Within may s (attachFound who tag found s) :=
  .after
    (.ite ((mciReply_touches _ _ _ _ _ _ _ _).within rfl)
      (.after ((mciReply_touches _ _ _ _ _ _ _ _).within rfl) (.dense (attachDrives_within mayLines) rfl)))
    (.foldl fun _ _ => (sendEvent_touches _ _).within rfl)

theorem attachGo_within {fuel : Nat} : Within may s (attachGo fuel s) := by
  induction fuel generalizing s with
  | zero => exact .refl _
  | succ fuel ih =>
    unfold attachGo
    split
    · exact .refl _
    · exact .ite
        (.after ih
          (.after (.ite ((mciReply_touches _ _ _ _ _ _ _ _).within rfl) (attachFound_within mayLines))
            (.upd (.refl _) rfl)))
        (.refl _)

theorem restDense_within : Within may s (restDense s) := .putDense mayLines (.refl _)

theorem flushOne_within {f : DenseFlush} : Within may s (flushOne f s) :=
  .after (.ite (.after ((flushEnds_touches _ _ _).within rfl) (.dense (.refl _) rfl)) (.refl _))
    (.after (.ite (.foldl fun _ _ => sendDrive_within) (.refl _))
      (.dense (.foldl fun _ _ => by
        split
        · exact .ite (startWrite_within mayLines) (.refl _)
        · exact .refl _) rfl))

theorem flushGo_within : Within may s (flushGo s) := .foldl fun _ _ => flushOne_within mayLines

theorem denseGo_within {sIn : State} : Within may sIn (denseGo sIn) :=
  .after (attachGo_within mayLines) (.after (assignGo_within mayLines) (flushGo_within mayLines))

theorem fillLine_within {m : MissEntry} : Within may s (fillLine m s) := by
  unfold fillLine
  split
  · exact .after (.ite (.after queueCache_within setMiss_within) readBlock_within)
      (.after (updLine_within mayLines) (.upd (.refl _) rfl))
  · exact .after readBlock_within (.after (updLine_within mayLines) (.upd (.refl _) rfl))

theorem startMiss_within {q : DReq} {k : Nat} : Within may s (startMiss q k s) :=
  .after (.ite (startWrite_within mayLines) (fillLine_within mayLines)) (.upd (.refl _) rfl)

theorem useLine_within {k : Nat} : Within may s (useLine k s) := .after (updLine_within mayLines) (.upd (.refl _) rfl)

theorem denseServe_within {q : DReq} : Within may s (denseServe q s) := by
  unfold denseServe
  split
  · exact failReq_within
  · exact .after queueCache_within (useLine_within mayLines)
  · exact setMiss_within
  · exact startMiss_within mayLines
  · exact .upd (.refl _) rfl

theorem releasePins_within {set n : Nat} : Within may s (releasePins set n s) := by
  induction n generalizing s with
  | zero => exact .refl _
  | succ n ih =>
    unfold releasePins
    dsimp only
    split
    · exact .refl _
    · split
      · exact .after ih (updLine_within mayLines)
      · split
        · exact .after ih (.after (updLine_within mayLines) failBlock_within)
        · exact .refl _

theorem failDrive_within {d : Nat} : Within may s (failDrive d s) := by
  unfold failDrive
  dsimp only
  exact .ite (.refl _)
    (.after (denseGo_within mayLines)
      (.after updDrive_within
        (.dense_pool
          (.after (.foldl fun _ _ => .after (.foldl fun _ _ => failReq_within) dropMiss_within)
            (.after (.foldl fun _ _ => releasePins_within mayLines)
              (.after dropJobs_within
                (.dense
                  (.after (.foldl fun _ _ => updLine_within mayLines)
                    (.after ((sendEvent_touches _ _).within rfl) (.after updDrive_within (.upd (.refl _) rfl))))
                  rfl))))
          rfl)))

theorem filled_within {b data : Nat} {error : Bool} : Within may s (filled b data error s) := by
  unfold filled
  split
  · exact .refl _
  · exact .ite (.after (.foldl fun _ _ => poisonReq_within) (.after (updLine_within mayLines) dropMiss_within))
      (.after queueCache_within setMiss_within)

theorem tokenFlush_within {region t : Nat} : Within may s (tokenFlush region t s) :=
  .after (denseGo_within mayLines) (.upd (.refl _) rfl)

theorem flushToken_within {region : Nat} : Within may s (flushToken region s).2 :=
  .iteSnd (.refl _)
    (.after
      (.ite (.ite ((completeToken_touches _ _ _).within rfl) (.refl _))
        (.after (tokenFlush_within mayLines) ((replicate_touches _ _).within rfl)))
      ((updRegion_touches _ _ _).within rfl))

theorem noteAbort_within {drive : Nat} : Within may s (noteAbort drive s) := by
  unfold noteAbort
  exact .after (.ite (failDrive_within mayLines) (.refl _))
    (.after ((sendEvent_touches _ _).within rfl) updDrive_within)

theorem readAborted_within {b : Nat} : Within may s (readAborted b s) := by
  unfold readAborted
  split
  · exact .refl _
  · exact .after (.foldl fun _ _ => failReq_within) (.after (updLine_within mayLines) dropMiss_within)

theorem reattach_within {found : List DriveIn} : Within may s (reattach found s) :=
  .ite (.refl _) (.ite (attachDrives_within mayLines) (.upd (.refl _) rfl))

theorem tokenRun_within {c holder : Nat} : Within may s (tokenRun c holder s).2 := by
  unfold tokenRun
  dsimp only
  split
  · exact flushToken_within mayLines
  · exact .refl _
  · exact (takeLease_touches _ _ _ _).within rfl
  · split
    · exact .iteSnd ((updRegion_touches _ _ _).within rfl) (.refl _)
    · exact .refl _

theorem reqToken_within {h : FlitHdr} {u : UnschIn} : Within may s (reqToken h u s) :=
  .after ((sendRsp_touches _ _ _ _ _ _ _ _ _ _).within rfl) (tokenRun_within mayLines)

theorem runToken_within {op id : Nat} : Within may s (runToken op id s) := by
  unfold runToken
  split
  · exact .refl _
  · exact .ite (.refl _)
      (.ite (.after ((updCmd_touches _ _ _).within rfl) (tokenRun_within mayLines))
        (.after ((sendPart_touches _ _ _ _ _ _ _).within rfl) ((updCmd_touches _ _ _).within rfl)))

theorem victimGone_within {b : Nat} : Within may s (victimGone b s) := by
  unfold victimGone
  dsimp only
  split
  · exact .refl _
  · split
    · exact .refl _
    · exact .ite (startWrite_within mayLines) (fillLine_within mayLines)

theorem writeAborted_within {b : Nat} {sIn : State} : Within may sIn (writeAborted b sIn) := by
  unfold writeAborted
  dsimp only
  split
  · exact .upd (.refl _) rfl
  · split
    · exact .after (updLine_within mayLines) (.upd (.refl _) rfl)
    · exact .after (.foldl fun _ _ => failReq_within)
        (.after dropMiss_within (.after (updLine_within mayLines) (.upd (.refl _) rfl)))

theorem wroteLine_within {b : Nat} : Within may s (wroteLine b s) := by
  unfold wroteLine
  split
  · exact .refl _
  · exact updLine_within mayLines

theorem zeroDense_within {g : Nat} : Within may s (zeroDense g s) :=
  .after ((emitAll_touches _ _).within rfl) (.putDense mayLines dropJobs_within)

theorem execCacheAccess_within : WithinNext may s (execCacheAccess s) := by
  unfold execCacheAccess
  split
  · exact .next (.refl _)
  · exact .next (.after (denseServe_within mayLines) (.upd (.refl _) rfl))

theorem execCacheCleaner_within : WithinNext may s (execCacheCleaner s) :=
  .ite
    (.next (.upd (.refl _) rfl))
    (by
      split
      · exact .next (.after (startWrite_within mayLines) (.upd (.refl _) rfl))
      · exact .next (.upd (.refl _) rfl))

theorem execDenseAttach_within {q : MciReq} {found : List DriveIn} : WithinNext may s (execDenseAttach q found s) :=
  .next
    (mciFixed_within fun _ =>
      .ite ((mciStatus_touches _ _ _ _).within rfl) (.after (denseGo_within mayLines) (.dense mciHold_within rfl)))

theorem execDenseFlush_within {q : MciReq} : WithinNext may s (execDenseFlush q s) :=
  .next
    (mciFixed_within fun _ =>
      .ite (.after ((mciStatus_touches _ _ _ _).within rfl) violation_within)
        (.ite ((mciStatus_touches _ _ _ _).within rfl)
          (.after (denseGo_within mayLines) (.dense mciHold_within rfl))))

theorem execDenseRequestTimeout_within : WithinNext may s (execDenseRequestTimeout s) := by
  unfold execDenseRequestTimeout
  split
  · exact .next (.refl _)
  · exact .ite (.next (.refl _))
      (.next (.after (denseGo_within mayLines) (.after failReq_within (.after dropJobs_within (.upd (.refl _) rfl)))))

theorem execDeviceReady_within {found : List DriveIn} : WithinNext may s (execDeviceReady found s) :=
  .ite (.next (.after (.ite ((emit_touches _ _).within rfl) (.refl _)) (.upd (.refl _) rfl)))
    (.ite (.next (.refl _))
      (.next
        (.after ((evaluateRequests_touches _).within rfl)
          (.after ((rejoinGroup_touches _).within rfl)
            (.after (reattach_within mayLines)
              (.after ((emitAll_touches _ _).within rfl)
                (.after ((stepDone_touches _ _).within rfl)
                  (.after ((applyStored_touches _).within rfl) (.upd (.refl _) rfl)))))))))

theorem execDriveCommandAbort_within {drive cmd block : Nat} :
    WithinNext may s (execDriveCommandAbort drive cmd block s) := by
  unfold execDriveCommandAbort
  split
  · exact .next (.refl _)
  · exact .next (.after (denseGo_within mayLines)
      (.after (noteAbort_within mayLines)
        (by
          split
          · exact .after (readAborted_within mayLines) (.after driveEnds_within ((emit_touches _ _).within rfl))
          · exact .after (writeAborted_within mayLines) (.after driveEnds_within ((emit_touches _ _).within rfl))
          · exact .after flushAborted_within (.after driveEnds_within ((emit_touches _ _).within rfl)) ) ) )

theorem execDriveCommandComplete_within {drive cmd block data : Nat} {error : Bool} :
    WithinNext may s (execDriveCommandComplete drive cmd block data error s) := by
  unfold execDriveCommandComplete
  split
  · exact .next (.refl _)
  · exact .next (.after (denseGo_within mayLines)
      (by
        split
        · exact .after (filled_within mayLines) driveEnds_within
        · exact .after (victimGone_within mayLines)
            (.after (wroteLine_within mayLines) (.after flushWrote_within (.dense driveEnds_within rfl)))
        · exact .dense driveEnds_within rfl ) )

theorem execDriveFailed_within {drive : Nat} : WithinNext may s (execDriveFailed drive s) := by
  unfold execDriveFailed
  exact .ite (.next (failDrive_within mayLines)) (.next (.refl _))

theorem execDrivePresenceLoss_within {drive : Nat} : WithinNext may s (execDrivePresenceLoss drive s) := by
  unfold execDrivePresenceLoss
  exact .ite (.next (.refl _))
    (.ite (.next (.after (failDrive_within mayLines) (.upd (.refl _) rfl))) (.next (.upd (.refl _) rfl)))

theorem execFlush_within {id : Nat} : WithinNext may s (execFlush id s) := .next (runToken_within mayLines)

theorem execHbmAssign_within {q : MciReq} : WithinNext may s (execHbmAssign q s) :=
  .next
    (mciFixed_within fun _ =>
      .ite ((mciStatus_touches _ _ _ _).within rfl)
        (.ite (.after (denseGo_within mayLines) (.dense mciHold_within rfl))
          (.after ((mciStatus_touches _ _ _ _).within rfl) (assignRoles_within mayLines))))

theorem execLease_within {id : Nat} : WithinNext may s (execLease id s) := .next (runToken_within mayLines)

theorem execStatus_within {id : Nat} : WithinNext may s (execStatus id s) := .next (runToken_within mayLines)

theorem execUnlease_within {id : Nat} : WithinNext may s (execUnlease id s) := .next (runToken_within mayLines)

theorem execUreqToken_within {h : FlitHdr} {u : UnschIn} : WithinNext may s (execUreqToken h u s) :=
  .next (takeReq_within fun _ => reqToken_within mayLines)

end

section
/-! ### The window tables may change -/

variable (mayWindows : may .windows = true)
include mayWindows

theorem switchFn_within {gen : BitVec 64} {fn : Nat} : Within may s (switchFn gen s fn) :=
  .after ((fnAttention_touches _ _ _).within rfl)
    (.after ((updFn_touches _ _ _).within rfl) (.putWin mayWindows (.refl _)))

end

section
/-! ### The buffer and HBM may change -/

variable (mayBuffer : may .buffer = true) (mayHbm : may .hbm = true)
include mayBuffer mayHbm

theorem execWriteWindowCell_within {pc cell : Nat} : WithinNext may s (execWriteWindowCell pc cell s) := by
  unfold execWriteWindowCell
  split
  · exact .next (.refl _)
  · exact .ite (.next (.refl _))
      (.ite
        (.next
          (.after (acceptBeat_within mayHbm)
            (.after (acceptBeat_within mayHbm)
              (.after (acceptBeat_within mayHbm) (.after restoreRows_within (advance_within mayBuffer))))))
        (.next (.after restoreRows_within (advance_within mayBuffer))))

end

section
/-! ### The buffer and the layout may change -/

variable (mayBuffer : may .buffer = true) (mayLayout : may .layout = true)
include mayBuffer mayLayout

theorem boundary_within : Within may s (boundary s) :=
  .after (.foldl fun _ _ => (issueReads_touches _ _).within rfl)
    (.after (.foldl fun _ _ => (judgeWindows_touches _ _).within rfl)
      (.after (.foldl fun _ _ => (countIdle_touches _ _).within rfl)
        (.after (.foldl fun _ _ => (choose_touches _ _).within rfl)
          (.after (.foldl fun _ _ => screenRing_within)
            (.after (.foldl fun _ _ => boundaryPart_within mayBuffer)
              (.after (layoutBoundary_within mayLayout)
                (.after ((groupBoundary_touches _).within rfl) (.upd (.refl _) rfl))))))))

theorem releaseTick_within {fsf : Nat} {setting : Option (BitVec 9)} {resume : Bool} :
    Within may s (releaseTick fsf setting resume s) :=
  .after ((keepWaiting_touches _).within rfl)
    (.after (boundary_within mayBuffer mayLayout)
      (.after ((rejoinParts_touches _ _).within rfl)
        (by
          split
          · exact .after (advanceFree_within mayBuffer)
              (.after ((countBy_touches _ _ _ _).within rfl) (.upd (.refl _) rfl))
          · exact .after ((applySetting_touches _ _).within rfl)
              (.lat (.after (advanceFree_within mayBuffer)
                (.after ((countBy_touches _ _ _ _).within rfl) (.upd (.refl _) rfl)))))))

theorem applyRelease_within {r : Release} : Within may s (applyRelease r s) :=
  .after (releaseTick_within mayBuffer mayLayout)
    (.after (.ite ((markLate_touches _).within rfl) (.refl _)) (.upd (.refl _) rfl))

theorem settle_within : Within may s (settle s) := .ite (.refl _) (boundary_within mayBuffer mayLayout)

theorem runToLoop_within {fuel target : Nat} : Within may s (runToLoop fuel target s) := by
  induction fuel generalizing s with
  | zero => exact .refl _
  | succ fuel ih =>
    unfold runToLoop
    exact .ite (.after (advanceTo_within mayBuffer) (settle_within mayBuffer mayLayout))
      (.after ih (.after (advanceTo_within mayBuffer) (settle_within mayBuffer mayLayout)))

theorem runTo_within {target : Nat} : Within may s (runTo target s) := runToLoop_within mayBuffer mayLayout

theorem fillRun_within : Within may s (fillRun s) := runTo_within mayBuffer mayLayout

theorem idle_within : Within may s (idle s) :=
  .ite
    (.after (.ite ((passCrumb_touches _).within rfl) (advance_within mayBuffer)) (settle_within mayBuffer mayLayout))
    ((passPs_touches _ _).within rfl)

theorem stitchPass_within {from_ : Nat} : Within may s (stitchPass from_ s) :=
  .ite (runTo_within mayBuffer mayLayout) (.refl _)

theorem toBoundary_within : Within may s (toBoundary s) :=
  .ite (.after (.ite (.refl _) (boundary_within mayBuffer mayLayout)) (advanceTo_within mayBuffer))
    (boundary_within mayBuffer mayLayout)

theorem toCommit_within {router tick : Nat} : Within may s (toCommit router tick s) :=
  .buf (.after (runTo_within mayBuffer mayLayout) (.upd (.refl _) rfl)) rfl

theorem toPartTick_within {k at_ : Nat} : Within may s (toPartTick k at_ s) := runTo_within mayBuffer mayLayout

theorem execBarrierHold_within : WithinNext may s (execBarrierHold s) :=
  .ite (.next ((arriveTry_touches _).within rfl))
    (.ite (.next (.after ((arriveTry_touches _).within rfl) (runTo_within mayBuffer mayLayout))) (.next (.refl _)))

theorem execBarrierLoneRelease_within : WithinNext may s (execBarrierLoneRelease s) :=
  .ite
    (.next
      (.after ((lapse_touches _).within rfl) (.after (releaseTick_within mayBuffer mayLayout) (.upd (.refl _) rfl))))
    (.next (.refl _))

theorem execBindEffect_within {k : Nat} : WithinNext may s (execBindEffect k s) :=
  .ite (.next (toBoundary_within mayBuffer mayLayout)) (.next (.refl _))

theorem execBondTrainingDone_within {t : Nat} {cells : List CellTrain} :
    WithinNext may s (execBondTrainingDone t cells s) :=
  .ite (.next (.refl _))
    (.next
      (.after (.ite ((trainedTile_touches _ _).within rfl) (.refl _))
        (.after ((judgeBonds_touches _ _ _).within rfl)
          (.after ((updTile_touches _ _ _).within rfl) (.ite (runTo_within mayBuffer mayLayout) (.refl _))))))

theorem execCompressedRecordHandover_within {port : Nat} : WithinNext may s (execCompressedRecordHandover port s) := by
  unfold execCompressedRecordHandover
  split
  · exact .ite (.next (.refl _))
      (.ite (.next (toPartTick_within mayBuffer mayLayout))
        (.next
          (.after ((handOver_touches _ _ _).within rfl)
            (.after ((updComp_touches _ _ _ _).within rfl) (toPartTick_within mayBuffer mayLayout)))))
  · exact .next (.refl _)

theorem execControlPortCommit_within {router : Nat} : WithinNext may s (execControlPortCommit router s) := by
  unfold execControlPortCommit
  dsimp only
  split
  · exact .next (.refl _)
  · exact .ite (.next (.refl _))
      (by
        split
        · exact .next
            (.after ((ctlAnswer_touches _ _ _ _ _ _).within rfl)
              (.after ((drawLine_touches _).within rfl) (.upd (.refl _) rfl)))
        · exact .next
            (.after (commitAccess_within mayBuffer)
              (.after (toCommit_within mayBuffer mayLayout) (.upd (.refl _) rfl)))
            )

theorem execCrumb_within : WithinNext may s (execCrumb s) :=
  .ite
    (.next
      (.after (.ite ((passCrumb_touches _).within rfl) (.refl _))
        (.after (.ite (.refl _) (fillRun_within mayBuffer mayLayout)) (fillRun_within mayBuffer mayLayout))))
    (.next (.refl _))

theorem execFrameBoundary_within : WithinNext may s (execFrameBoundary s) :=
  .ite (.next (toBoundary_within mayBuffer mayLayout)) (.next (.refl _))

theorem execFrameBudgetExhausted_within {part : Nat} : WithinNext may s (execFrameBudgetExhausted part s) :=
  .ite (.next (toBoundary_within mayBuffer mayLayout)) (.next (.refl _))

theorem execPartitionResetEffect_within {k : Nat} : WithinNext may s (execPartitionResetEffect k s) :=
  .ite (.next (toBoundary_within mayBuffer mayLayout)) (.next (.refl _))

theorem execReleaseDelayExpiry_within : WithinNext may s (execReleaseDelayExpiry s) := by
  unfold execReleaseDelayExpiry
  split
  · exact .next (.refl _)
  · exact .ite (.next (applyRelease_within mayBuffer mayLayout)) (.next (.refl _))

theorem execResidualReturn_within {port : Nat} : WithinNext may s (execResidualReturn port s) := by
  unfold execResidualReturn
  split
  · exact .ite (.next (.refl _))
      (.ite (.next (toPartTick_within mayBuffer mayLayout))
        (.next
          (.after ((updPipe_touches _ _ _).within rfl)
            (.after ((updComp_touches _ _ _ _).within rfl) (toPartTick_within mayBuffer mayLayout)))))
  · exact .next (.refl _)

theorem execScrubVisit_within {router : Nat} : WithinNext may s (execScrubVisit router s) :=
  .ite (.next (.refl _))
    (.next
      (.buf
        (.after (.ite (.refl _) (storeLine_within mayBuffer))
          (.after countErrors_within (.after (injectLine_within mayBuffer) (toCommit_within mayBuffer mayLayout))))
        rfl))

theorem execStitchRetrain_within {results : List StitchTrain} : WithinNext may s (execStitchRetrain results s) :=
  .ite (.next (.refl _))
    (.next
      (.after (.foldl fun _ _ => .ite ((releasePart_touches _ _).within rfl) (.refl _))
        (.after mergeFaultMap_within
          (.after ((stitchResults_touches _ _).within rfl) (stitchPass_within mayBuffer mayLayout)))))

theorem execStitchTrainingDone_within {results : List StitchTrain} {links : List LinkTrain} {dead : List Nat} :
    WithinNext may s (execStitchTrainingDone results links dead s) :=
  .ite (.next (.refl _))
    (.next
      (.after ((stepDone_touches _ _).within rfl)
        (.after (.ite (zeroBuffer_within mayBuffer) (.refl _))
          (.after (.foldl fun _ _ => (deadRouter_touches _ _).within rfl)
            (.after (.foldl fun _ _ => (stitchLink_touches _ _).within rfl)
              (.after ((stitchResults_touches _ _).within rfl) (stitchPass_within mayBuffer mayLayout)))))))

theorem execThrottleBoundary_within : WithinNext may s (execThrottleBoundary s) :=
  .ite (.next (runTo_within mayBuffer mayLayout)) (.next (.refl _))

theorem execUnbindEffect_within {k : Nat} : WithinNext may s (execUnbindEffect k s) :=
  .ite (.next (toBoundary_within mayBuffer mayLayout)) (.next (.refl _))

end

section
/-! ### HBM and the cache's lines may change -/

variable (mayHbm : may .hbm = true) (mayLines : may .lines = true)
include mayHbm mayLines

theorem cachePut_within {b k off : Nat} {d : LineData} {poison : Bool} : Within may s (cachePut b k off d poison s) :=
  .after healLine_within (.after (hbmWrite_within mayHbm) (updLine_within mayLines))

theorem serveHit_within {q : DReq} {k : Nat} {dead : Bool} : Within may s (serveHit q k dead s) := by
  have clean (t : State) : Within may t (serveHit.cleanLost q k dead s t) := by
    unfold serveHit.cleanLost
    exact .ite (updLine_within mayLines) (.refl _)
  unfold serveHit
  split
  · split
    · exact serveLines_within fun _ _ =>
        .ite ((stageWritten_touches _ _ _ _).within rfl)
          (.after ((stageWritten_touches _ _ _ _).within rfl) (cachePut_within mayHbm mayLines))
    · exact .after (clean _)
        (serveLines_within fun i t =>
          .ite (.after ((stageRead_touches _ _ _ _ _ _ _).within rfl) ((drawLine_touches t).within rfl))
            (.after ((stageRead_touches _ _ _ _ _ _ _).within rfl) (cacheGet_within (b := q.block))))
  · exact .after (clean _) (poolServe_within (fun t => cacheGet_within) fun _ _ t => cachePut_within mayHbm mayLines)
  · exact .refl _

theorem serveCache_within {k : Nat} {j : CacheJob} {dead : Bool} : Within may s (serveCache k j dead s) := by
  unfold serveCache
  dsimp only
  split
  · exact .ite (serveHit_within mayHbm mayLines) (.upd (.refl _) rfl)
  · split
    · exact .refl _
    · exact .after releaseMiss_within (.after (updLine_within mayLines) (.ite (.refl _) (storeBlock_within mayHbm)))
  · split
    · exact .refl _
    · split
      · exact .ite (.after releaseMiss_within (.after (serveHit_within mayHbm mayLines) (updLine_within mayLines)))
          readBlock_within
      · exact readBlock_within
  · exact .ite (.after driveCommand_within (.after (.ite failBlock_within (.refl _)) loadBlock_within)) (.refl _)

theorem zeroKey_within {key : Nat} : Within may s (zeroKey key s) :=
  .ite (zeroUnit_within mayHbm) (zeroDense_within mayLines)

theorem execUnitZeroFill_within {unit : Nat} : WithinNext may s (execUnitZeroFill unit s) := by
  unfold execUnitZeroFill
  dsimp only
  exact .ite (.next (.after (zeroKey_within mayHbm mayLines) (.upd (.refl _) rfl)))
    (by
      split
      · exact .next (.refl _)
      · exact .next
          (.after (.ite ((extentsDone_touches _ _).within rfl) (.refl _))
            (.after (zeroKey_within mayHbm mayLines) ((updRegion_touches _ _ _).within rfl)))
          )

theorem execUnscheduledAccess_within {pc sev : Nat} : WithinNext may s (execUnscheduledAccess pc sev s) := by
  unfold execUnscheduledAccess
  extract_lets p dead
  refine .ite (.next (.refl _)) ?_
  split
  · exact .next (.refl _)
  · extract_lets s1
    have counted : Within may s s1 := .after updPc_within
      (.ite (.refl _)
        (.after ((hbmCount_touches _ _ _ _).within rfl) (.after moveRows_within wakeStack_within)))
    refine .next ?_
    split
    · exact .after (serveReq_within mayHbm) (.after updPc_within counted)
    · exact .after (denseGo_within mayLines)
        (.after (serveCache_within mayHbm mayLines) (.after updPc_within counted))

end

section
/-! ### The window tables and the layout may change -/

variable (mayWindows : may .windows = true) (mayLayout : may .layout = true)
include mayWindows mayLayout

/-- The tick's records go with the plane, and the buffer's bytes stay. -/
theorem clearPlane_within : Within may s (clearPlane s) where
  same c no := by
    cases c with
    | windows => exact absurd (mayWindows.symm.trans no) (by decide)
    | layout => exact absurd (mayLayout.symm.trans no) (by decide)
    | _ => rfl
  mem wf := wf
  held _ _ _ mem := absurd mem List.not_mem_nil

end

section
/-! ### The buffer, the window tables and the layout may change -/

variable (mayBuffer : may .buffer = true) (mayWindows : may .windows = true) (mayLayout : may .layout = true)
include mayBuffer mayWindows mayLayout

theorem switchFns_within {fns : List Nat} : Within may s (switchFns fns s) :=
  .after (.foldl fun _ _ => switchFn_within mayWindows) (.win (settle_within mayBuffer mayLayout) rfl)

theorem clearVfWindows_within : Within may s (clearVfWindows s) :=
  .after (switchFns_within mayBuffer mayWindows mayLayout) (.win (.refl _) rfl)

theorem portReset_within {port : Nat} : Within may s (portReset port s) :=
  .ite
    (.after (clearVfWindows_within mayBuffer mayWindows mayLayout)
      (.after ((clearPortRws_touches _ _).within rfl)
        (.after ((flrAll_touches _ _).within rfl) (.upd (.refl _) rfl))))
    (.after (.ite ((discardCxl_touches _).within rfl) (.refl _))
      (.after ((clearPortRws_touches _ _).within rfl) ((flrAll_touches _ _).within rfl)))

theorem execConfigurationRequest_within {port fn : Nat} {clearVf setVf : Bool} :
    WithinNext may s (execConfigurationRequest port fn clearVf setVf s) :=
  .ite (.next (.refl _))
    (.ite (.next ((emit_touches _ _).within rfl))
      (.ite (.next ((emit_touches _ _).within rfl))
        (.ite (.next ((emit_touches _ _).within rfl))
          (.ite
            (.next
              (.after (clearVfWindows_within mayBuffer mayWindows mayLayout)
                (.after ((flrAll_touches _ _).within rfl) (.boot ((emit_touches _ _).within rfl)))))
            (.ite (.next (.boot ((emit_touches _ _).within rfl))) (.next ((emit_touches _ _).within rfl)))))))

theorem execPerst1Assert_within : WithinNext may s (execPerst1Assert s) :=
  .ite (.next (.refl _)) (.next (.pins_boot (.ite (.refl _) (portReset_within mayBuffer mayWindows mayLayout))))

theorem execPortReset_within {port : Nat} : WithinNext may s (execPortReset port s) :=
  .ite (.next (.refl _)) (.next (portReset_within mayBuffer mayWindows mayLayout))

theorem execWindowSwitch_within {q : MciReq} : WithinNext may s (execWindowSwitch q s) :=
  .next
    (mciFixed_within fun _ =>
      .after ((tableWait_touches _ _ _ _ _).within rfl)
        (.after (.iteSnd ((poolSwitch_touches _ _).within rfl) (.refl _))
          (.after (switchFns_within mayBuffer mayWindows mayLayout) mciHold_within)))

end

section
/-! ### The cache's lines, the window tables and the layout may change -/

variable (mayLines : may .lines = true) (mayWindows : may .windows = true) (mayLayout : may .layout = true)
include mayLines mayWindows mayLayout

theorem stopModule_within : Within may s (stopModule s) :=
  .clk_pins_logs_counters
    (.after ((restMp_touches _).within rfl)
      (.after ((restLanes_touches _).within rfl)
        (.after ((restLattice_touches _).within rfl)
          (.after ((restPool_touches _).within rfl)
            (.after (restDense_within mayLines) (.after restHbm_within (clearPlane_within mayWindows mayLayout)))))))

theorem fatalStop_within : Within may s (fatalStop s) := .boot (stopModule_within mayLines mayWindows mayLayout)

theorem clockLossNow_within {src : Nat} : Within may s (clockLossNow src s) :=
  .clk_boot (.after (fatalStop_within mayLines mayWindows mayLayout) ((fatalEvent_touches _ _ _).within rfl))

theorem enterReset_within : Within may s (enterReset s) :=
  .boot
    (.after ((restPm_touches _).within rfl)
      (.after (stopModule_within mayLines mayWindows mayLayout)
        (.after ((closeBrake_touches _).within rfl) (.ite ((writeSummary_touches _).within rfl) (.refl _)))))

theorem execClockLoss_within : WithinNext may s (execClockLoss s) :=
  .ite (.next (clockLossNow_within mayLines mayWindows mayLayout)) (.next (.refl _))

theorem execCoreReferenceStop_within : WithinNext may s (execCoreReferenceStop s) :=
  .ite (.next (.refl _))
    (.next
      (.boot_pm
        (.after ((writeSetting_touches _ _).within rfl)
          (.after (.ite (clockLossNow_within mayLines mayWindows mayLayout) (.refl _)) (.upd (.refl _) rfl)))))

theorem execInputOutOfRange_within {unit : Nat} : WithinNext may s (execInputOutOfRange unit s) :=
  .ite (.next (.refl _))
    (.ite
      (.next
        (.after (.ite ((dropRegulators_touches _).within rfl) ((fatalRecord_touches _ _ _).within rfl))
          (.after ((coldNext_touches _).within rfl) (.upd (.refl _) rfl))))
      (.next
        (.after (.ite ((dropRegulators_touches _).within rfl) (.refl _))
          (.boot
            (.after ((coldNext_touches _).within rfl)
              (.after (enterReset_within mayLines mayWindows mayLayout)
                (.after ((fatalEvent_touches _ _ _).within rfl)
                  (.after ((coldNext_touches _).within rfl) (.upd (.refl _) rfl)))))))))

theorem execModuleReset_within {q : MciReq} : WithinNext may s (execModuleReset q s) :=
  .next
    (mciFixed_within fun _ =>
      .after ((coldEntry_touches _).within rfl)
        (.boot (.after (enterReset_within mayLines mayWindows mayLayout) ((mciStatus_touches _ _ _ _).within rfl))))

theorem execPerstAssert_within : WithinNext may s (execPerstAssert s) :=
  .ite (.next (.refl _))
    (.next
      (.after ((settleAlert_touches _).within rfl)
        (.after ((coldEntry_touches _).within rfl) (.pins (enterReset_within mayLines mayWindows mayLayout)))))

theorem execThermalTrip_within {sensor : Nat} : WithinNext may s (execThermalTrip sensor s) :=
  .ite (.next (.refl _))
    (.next
      (.pins_boot
        (.after ((dropRegulators_touches _).within rfl)
          (.after (fatalStop_within mayLines mayWindows mayLayout) ((fatalEvent_touches _ _ _).within rfl)))))

end

section
/-! ### The buffer, the cache's lines, the window tables and the layout may change -/

variable (mayBuffer : may .buffer = true) (mayLines : may .lines = true) (mayWindows : may .windows = true)
  (mayLayout : may .layout = true)
include mayBuffer mayLines mayWindows mayLayout

theorem mciMessage_within {op : Nat} {q : MciReq} {data : Nat} {found : List DriveIn} :
    WithinNext may s (mciMessage op q data found s) := by
  unfold mciMessage
  split
  · exact (execMciInfo_touches _ _).within rfl
  · exact execMpReset_within
  · exact (execNotifySubscribe_touches _ _).within rfl
  · exact (execClockCorrelate_touches _ _).within rfl
  · exact (execFwInfo_touches _ _).within rfl
  · exact (execFwWrite_touches _ _ _).within rfl
  · exact (execFwVerify_touches _ _).within rfl
  · exact execFwActivate_within
  · exact (execFwCommit_touches _ _).within rfl
  · exact (execKeyInstall_touches _ _).within rfl
  · exact (execKeyRemove_touches _ _).within rfl
  · exact (execKeyList_touches _ _).within rfl
  · exact (execImagePolicy_touches _ _).within rfl
  · exact (execVetReport_touches _ _).within rfl
  · exact (execVetAccept_touches _ _).within rfl
  · exact (execVetRevoke_touches _ _).within rfl
  · exact execImageLoad_within
  · exact (execImageBind_touches _ _).within rfl
  · exact (execImageUnbind_touches _ _).within rfl
  · exact execImageEvict_within
  · exact execImageQuery_within
  · exact (execPartitionSetLayout_touches _ _).within rfl
  · exact (execPartitionQuery_touches _ _).within rfl
  · exact execPartitionReset_within
  · exact execBufferScrub_within
  · exact execLaneTest_within
  · exact (execLaneQuery_touches _ _).within rfl
  · exact execHbmAssign_within mayLines
  · exact (execHbmQuery_touches _ _).within rfl
  · exact execDenseAttach_within mayLines
  · exact execDenseFlush_within mayLines
  · exact (execDenseQuery_touches _ _).within rfl
  · exact (execPrioritySet_touches _ _).within rfl
  · exact execWindowWrite_within
  · exact execWindowSwitch_within mayBuffer mayWindows mayLayout
  · exact execWindowQuery_within
  · exact .ite execPoolRegionReplace_within execPoolRegionCreate_within
  · exact execPoolRegionDelete_within
  · exact execPoolAccessSet_within
  · exact execPoolQuery_within
  · exact (execLatticeConfig_touches _ _).within rfl
  · exact (execLatticeQuery_touches _ _).within rfl
  · exact (execBarrierPolicy_touches _ _).within rfl
  · exact (execPowerCapSet_touches _ _).within rfl
  · exact (execPowerQuery_touches _ _).within rfl
  · exact (execWakeLatencySet_touches _ _).within rfl
  · exact (execSensorQuery_touches _ _).within rfl
  · exact (execEventRead_touches _ _).within rfl
  · exact .ite ((execErrlogClear_touches _ _).within rfl) ((execErrlogRead_touches _ _).within rfl)
  · exact execCounterRead_within
  · exact execCounterClear_within
  · exact (execFaultMapQuery_touches _ _).within rfl
  · exact (execReplacementQuery_touches _ _).within rfl
  · exact execModuleReset_within mayLines mayWindows mayLayout
  · exact .next ((mciReserved_touches _ _ _).within rfl)

theorem execMciItem_within {fn data : Nat} {found : List DriveIn} : WithinNext may s (execMciItem fn data found s) := by
  unfold execMciItem
  split
  · exact .next (.refl _)
  · exact .ite (.next (.refl _))
      (by
        split
        · exact .next (.after ((rejectHead_touches _ _ _ _ _).within rfl)
            ((startTurn_touches _ _ _ (by assumption)).within rfl))
        · exact .after (mciMessage_within mayBuffer mayLines mayWindows mayLayout)
            (.after ((consume_touches _ _ _ _).within rfl) ((startTurn_touches _ _ _ (by assumption)).within rfl)))

theorem execMailboxGo_within {found : List DriveIn} : WithinNext may s (execMailboxGo found s) :=
  .ite (.next ((emit_touches _ _).within rfl))
    (.ite (.next (.refl _))
      (.ite (.next ((mbxCount_touches _).within rfl))
        (.after (mciMessage_within mayBuffer mayLines mayWindows mayLayout) (.upd (.refl _) rfl))))

end

section
/-! ### The buffer, HBM, the cache's lines, the window tables and the layout may change -/

variable (mayBuffer : may .buffer = true) (mayHbm : may .hbm = true) (mayLines : may .lines = true)
  (mayWindows : may .windows = true) (mayLayout : may .layout = true)
include mayBuffer mayHbm mayLines mayWindows mayLayout

/-- The buffer's bytes and the tick's records go together. -/
theorem execStandbyPowerOff_within : WithinNext may s (execStandbyPowerOff s) := by
  refine .ite (.next (.refl _)) (.next (.after (t := coldClear (restPm (stopModule s))) ?_
    (.after (coldClear_within mayHbm)
      (.after ((restPm_touches _).within rfl) (stopModule_within mayLines mayWindows mayLayout)))))
  exact .after (t := zeroBuffer _) (.upd (.refl _) rfl) (zeroBuffer_within mayBuffer)

end

/-- What a command is listed for. -/
def mayChange (i : Instr) : Content → Bool
  | .buffer => mayStoreBuffer i
  | .hbm => mayStoreHbm i
  | .lines => mayChangeLines i
  | .windows => maySwitchWindows i
  | .layout => maySwitchLayout i

theorem exec_within (i : Instr) (s : State) : WithinNext (mayChange i) s (exec i s) := by
  cases i with
  | standbyPowerOn => exact (execStandbyPowerOn_touches s).within rfl
  | mainInputOn => exact (execMainInputOn_touches _ s).within rfl
  | inputOutOfRange => exact execInputOutOfRange_within rfl rfl rfl
  | coreReferenceStop => exact execCoreReferenceStop_within rfl rfl rfl
  | rootPllLock => exact (execRootPllLock_touches s).within rfl
  | clockLoss => exact execClockLoss_within rfl rfl rfl
  | thermalTrip => exact execThermalTrip_within rfl rfl rfl
  | perstAssert => exact execPerstAssert_within rfl rfl rfl
  | perstDeassert => exact execPerstDeassert_within rfl
  | deviceReady => exact execDeviceReady_within rfl
  | perst1Assert => exact execPerst1Assert_within rfl rfl rfl
  | perst1Deassert => exact (execPerst1Deassert_touches s).within rfl
  | portReset => exact execPortReset_within rfl rfl rfl
  | moduleReset => exact execModuleReset_within rfl rfl rfl
  | resetHoldExpiry => exact execResetHoldExpiry_within rfl
  | throttleBoundary => exact execThrottleBoundary_within rfl rfl
  | crumb => exact execCrumb_within rfl rfl
  | frameBoundary => exact execFrameBoundary_within rfl rfl
  | barrierHold => exact execBarrierHold_within rfl rfl
  | refreshTimer => exact execRefreshTimer_within
  | refreshLane => exact execRefreshLane_within rfl
  | readWindowCell => exact execReadWindowCell_within rfl
  | writeWindowCell => exact execWriteWindowCell_within rfl rfl
  | rowSwitchGap => exact execRowSwitchGap_within rfl
  | eventLink => exact execEventLink_within rfl
  | beatDiscard => exact execBeatDiscard_within
  | scheduledRead => exact execScheduledRead_within rfl
  | scheduledWrite => exact execScheduledWrite_within rfl
  | indexLoad => exact execIndexLoad_within rfl
  | gather => exact execGather_within rfl
  | scatter => exact execScatter_within rfl
  | dispatch => exact execDispatch_within rfl
  | dispatchResultWrite => exact execDispatchResultWrite_within rfl
  | foldStep => exact execFoldStep_within rfl
  | rng => exact execRng_within rfl
  | update => exact execUpdate_within rfl
  | branchRead => exact execBranchRead_within rfl
  | frameBudgetExhausted => exact execFrameBudgetExhausted_within rfl rfl
  | hostTransferBeat => exact execHostTransferBeat_within rfl
  | hostReadData => exact (execHostReadData_touches _ _ _ _ _ _ s).within rfl
  | descriptorBeat => exact (execDescriptorBeat_touches _ s).within rfl
  | residualReturn => exact execResidualReturn_within rfl rfl
  | compressedRecordHandover => exact execCompressedRecordHandover_within rfl rfl
  | latticeWindowEntry => exact execLatticeWindowEntry_within rfl
  | latticeWindowPresent => exact execLatticeWindowPresent_within rfl
  | sliceRd => exact execSliceRd_within
  | sliceWr => exact execSliceWr_within
  | controlPortCommit => exact execControlPortCommit_within rfl rfl
  | scrubVisit => exact execScrubVisit_within rfl rfl
  | controlWordParityError => exact (execControlWordParityError_touches _ _ _ s).within rfl
  | packetAgeing => exact (execPacketAgeing_touches _ _ _ _ s).within rfl
  | telemetryInject => exact (execTelemetryInject_touches _ _ _ _ s).within rfl
  | faultPacket => exact (execFaultPacket_touches _ s).within rfl
  | eventPacket => exact (execEventPacket_touches _ s).within rfl
  | socketStatus => exact (execSocketStatus_touches _ _ s).within rfl
  | unreservedUpBeat => exact (execUnreservedUpBeat_touches _ _ s).within rfl
  | helloRetry => exact (execHelloRetry_touches _ s).within rfl
  | ident => exact (execIdent_touches _ _ s).within rfl
  | discoveryAck => exact (execDiscoveryAck_touches _ _ s).within rfl
  | bootDone => exact (execBootDone_touches _ _ s).within rfl
  | spares => exact (execSpares_touches _ _ s).within rfl
  | tileError => exact (execTileError_touches _ _ s).within rfl
  | discoveryTimeout => exact (execDiscoveryTimeout_touches _ s).within rfl
  | tileSensorFrame => exact (execTileSensorFrame_touches _ _ _ s).within rfl
  | bondTrainingDone => exact execBondTrainingDone_within rfl rfl
  | stitchTrainingDone => exact execStitchTrainingDone_within rfl rfl
  | consentTimeout => exact (execConsentTimeout_touches _ s).within rfl
  | stitchRetrain => exact execStitchRetrain_within rfl rfl
  | tileRediscovery => exact (execTileRediscovery_touches _ _ s).within rfl
  | faultMapMerge => exact execFaultMapMerge_within
  | partitionRelease => exact (execPartitionRelease_touches _ s).within rfl
  | hbmTraining => exact execHbmTraining_within
  | autonomousRefresh => exact execAutonomousRefresh_within
  | unscheduledAccess => exact execUnscheduledAccess_within rfl rfl
  | correctedWriteback => exact execCorrectedWriteback_within
  | patrolScrub => exact execPatrolScrub_within
  | hbmSoftRepair => exact execHbmSoftRepair_within
  | hbmTempSample => exact execHbmTempSample_within
  | cacheAccess => exact execCacheAccess_within rfl
  | driveCommandComplete => exact execDriveCommandComplete_within rfl
  | driveCommandAbort => exact execDriveCommandAbort_within rfl
  | denseRequestTimeout => exact execDenseRequestTimeout_within rfl
  | cacheCleaner => exact execCacheCleaner_within rfl
  | driveFailed => exact execDriveFailed_within rfl
  | drivePresenceLoss => exact execDrivePresenceLoss_within rfl
  | ringDoorbell => exact execRingDoorbell_within
  | cqHeadDoorbell => exact (execCqHeadDoorbell_touches _ _ _ s).within rfl
  | flushRequest => exact (execFlushRequest_touches _ _ s).within rfl
  | flushEffect => exact (execFlushEffect_touches _ _ _ s).within rfl
  | ringFetch => exact execRingFetch_within
  | ringEnable => exact (execRingEnable_touches _ _ s).within rfl
  | ringDisable => exact (execRingDisable_touches _ _ _ s).within rfl
  | nop => exact (execNop_touches _ _ s).within rfl
  | stageStart => exact execStageStart_within
  | stageComplete => exact execStageComplete_within
  | poolItem => exact execPoolItem_within
  | mciItem => exact execMciItem_within rfl rfl rfl rfl
  | runComplete => exact (execRunComplete_touches _ _ _ s).within rfl
  | interruptTimer => exact (execInterruptTimer_touches _ _ s).within rfl
  | functionLevelReset => exact (execFunctionLevelReset_touches _ s).within rfl
  | prioWrite => exact (execPrioWrite_touches _ _ _ s).within rfl
  | mailboxGo => exact execMailboxGo_within rfl rfl rfl rfl
  | capture => exact (execCapture_touches s).within rfl
  | counterLowRead => exact (execCounterLowRead_touches _ _ _ s).within rfl
  | evtAckWrite => exact (execEvtAckWrite_touches _ s).within rfl
  | attentionEnableWrite => exact (execAttentionEnableWrite_touches _ _ _ s).within rfl
  | dbgInject => exact (execDbgInject_touches _ s).within rfl
  | registerWrite => exact execRegisterWrite_within
  | mciInfo => exact (execMciInfo_touches _ s).within rfl
  | mpReset => exact execMpReset_within
  | notifySubscribe => exact (execNotifySubscribe_touches _ s).within rfl
  | clockCorrelate => exact (execClockCorrelate_touches _ s).within rfl
  | fwInfo => exact (execFwInfo_touches _ s).within rfl
  | fwWrite => exact (execFwWrite_touches _ _ s).within rfl
  | fwVerify => exact (execFwVerify_touches _ s).within rfl
  | fwActivate => exact execFwActivate_within
  | fwCommit => exact (execFwCommit_touches _ s).within rfl
  | keyInstall => exact (execKeyInstall_touches _ s).within rfl
  | keyRemove => exact (execKeyRemove_touches _ s).within rfl
  | keyList => exact (execKeyList_touches _ s).within rfl
  | imagePolicy => exact (execImagePolicy_touches _ s).within rfl
  | vetReport => exact (execVetReport_touches _ s).within rfl
  | vetAccept => exact (execVetAccept_touches _ s).within rfl
  | vetRevoke => exact (execVetRevoke_touches _ s).within rfl
  | imageLoad => exact execImageLoad_within
  | imageLoadDone => exact execImageLoadDone_within
  | imageBind => exact (execImageBind_touches _ s).within rfl
  | bindEffect => exact execBindEffect_within rfl rfl
  | imageUnbind => exact (execImageUnbind_touches _ s).within rfl
  | unbindEffect => exact execUnbindEffect_within rfl rfl
  | imageEvict => exact execImageEvict_within
  | imageQuery => exact execImageQuery_within
  | partitionSetLayout => exact (execPartitionSetLayout_touches _ s).within rfl
  | partitionQuery => exact (execPartitionQuery_touches _ s).within rfl
  | partitionReset => exact execPartitionReset_within
  | partitionResetEffect => exact execPartitionResetEffect_within rfl rfl
  | bufferScrub => exact execBufferScrub_within
  | laneTest => exact execLaneTest_within
  | laneQuery => exact (execLaneQuery_touches _ s).within rfl
  | hbmAssign => exact execHbmAssign_within rfl
  | hbmQuery => exact (execHbmQuery_touches _ s).within rfl
  | denseAttach => exact execDenseAttach_within rfl
  | denseFlush => exact execDenseFlush_within rfl
  | denseQuery => exact (execDenseQuery_touches _ s).within rfl
  | prioritySet => exact (execPrioritySet_touches _ s).within rfl
  | windowWrite => exact execWindowWrite_within
  | windowSwitch => exact execWindowSwitch_within rfl rfl rfl
  | windowQuery => exact execWindowQuery_within
  | poolRegionCreate => exact execPoolRegionCreate_within
  | poolRegionReplace => exact execPoolRegionReplace_within
  | poolRegionDelete => exact execPoolRegionDelete_within
  | regionDeleteComplete => exact (execRegionDeleteComplete_touches _ s).within rfl
  | poolAccessSet => exact execPoolAccessSet_within
  | poolQuery => exact execPoolQuery_within
  | latticeConfig => exact (execLatticeConfig_touches _ s).within rfl
  | latticeQuery => exact (execLatticeQuery_touches _ s).within rfl
  | barrierPolicy => exact (execBarrierPolicy_touches _ s).within rfl
  | powerCapSet => exact (execPowerCapSet_touches _ s).within rfl
  | powerQuery => exact (execPowerQuery_touches _ s).within rfl
  | wakeLatencySet => exact (execWakeLatencySet_touches _ s).within rfl
  | sensorQuery => exact (execSensorQuery_touches _ s).within rfl
  | eventRead => exact (execEventRead_touches _ s).within rfl
  | errlogRead => exact (execErrlogRead_touches _ s).within rfl
  | errlogClear => exact (execErrlogClear_touches _ s).within rfl
  | counterRead => exact execCounterRead_within
  | counterClear => exact execCounterClear_within
  | faultMapQuery => exact (execFaultMapQuery_touches _ s).within rfl
  | replacementQuery => exact (execReplacementQuery_touches _ s).within rfl
  | replacementClear => exact (execReplacementClear_touches _ s).within rfl
  | mctpControl => exact (execMctpControl_touches _ _ _ _ s).within rfl
  | spdmRequest => exact (execSpdmRequest_touches _ _ _ _ s).within rfl
  | mpWatchdog => exact execMpWatchdog_within
  | mpReady => exact (execMpReady_touches s).within rfl
  | pmWatchdog => exact (execPmWatchdog_touches _ s).within rfl
  | mpBoot => exact (execMpBoot_touches _ s).within rfl
  | trialBootTimeout => exact (execTrialBootTimeout_touches s).within rfl
  | cxlMemRead => exact execCxlMemRead_within
  | cxlMemWrite => exact execCxlMemWrite_within
  | poolMailboxCommand => exact execPoolMailboxCommand_within
  | fill => exact execFill_within
  | copy => exact execCopy_within
  | compare => exact execCompare_within
  | reduce => exact execReduce_within
  | flush => exact execFlush_within rfl
  | status => exact execStatus_within rfl
  | lease => exact execLease_within rfl
  | unlease => exact execUnlease_within rfl
  | poolCommandEnd => exact (execPoolCommandEnd_touches _ s).within rfl
  | flushTokenComplete => exact (execFlushTokenComplete_touches _ s).within rfl
  | flushTokenTimeout => exact (execFlushTokenTimeout_touches _ s).within rfl
  | leaseExpiry => exact (execLeaseExpiry_touches _ s).within rfl
  | memberLoss => exact execMemberLoss_within
  | rebuildStep => exact execRebuildStep_within
  | unitZeroFill => exact execUnitZeroFill_within rfl rfl
  | portTrainingDone => exact (execPortTrainingDone_touches _ _ _ s).within rfl
  | linkId => exact (execLinkId_touches _ _ s).within rfl
  | portRetrain => exact (execPortRetrain_touches _ s).within rfl
  | retrainTimeout => exact (execRetrainTimeout_touches _ s).within rfl
  | trainingRetry => exact (execTrainingRetry_touches _ s).within rfl
  | idleFlit => exact (execIdleFlit_touches _ s).within rfl
  | nak => exact (execNak_touches _ s).within rfl
  | win => exact (execWin_touches _ _ _ _ s).within rfl
  | ureqRead => exact execUreqRead_within
  | ureqWrite => exact execUreqWrite_within
  | ureqDelta => exact execUreqDelta_within
  | ureqRebuild => exact execUreqRebuild_within
  | ureqCmd => exact (execUreqCmd_touches _ _ s).within rfl
  | ureqTable => exact execUreqTable_within
  | ureqToken => exact execUreqToken_within rfl
  | ursp => exact execUrsp_within
  | ureqRepeat => exact (execUreqRepeat_touches _ _ s).within rfl
  | ackIdleTimer => exact (execAckIdleTimer_touches _ s).within rfl
  | replayTimeout => exact (execReplayTimeout_touches _ s).within rfl
  | flitSlot => exact (execFlitSlot_touches _ s).within rfl
  | arrive => exact (execArrive_touches _ _ _ s).within rfl
  | release => exact (execRelease_touches _ _ _ s).within rfl
  | releaseDelayExpiry => exact execReleaseDelayExpiry_within rfl rfl
  | barrierTimeout => exact (execBarrierTimeout_touches s).within rfl
  | barrierLoneRelease => exact execBarrierLoneRelease_within rfl rfl
  | treq => exact (execTreq_touches _ _ _ s).within rfl
  | tset => exact (execTset_touches _ _ _ s).within rfl
  | join => exact (execJoin_touches _ _ _ s).within rfl
  | firstBarrierTimer => exact (execFirstBarrierTimer_touches s).within rfl
  | linkFail => exact (execLinkFail_touches _ _ _ s).within rfl
  | lost => exact (execLost_touches _ _ _ s).within rfl
  | policy => exact (execPolicy_touches _ _ _ s).within rfl
  | windowAgeOut => exact (execWindowAgeOut_touches _ _ _ s).within rfl
  | laneSleep => exact (execLaneSleep_touches _ s).within rfl
  | laneWake => exact (execLaneWake_touches _ s).within rfl
  | pmControlPeriod => exact execPmControlPeriod_within
  | pmThermalPeriod => exact (execPmThermalPeriod_touches s).within rfl
  | sensorSample => exact (execSensorSample_touches _ _ s).within rfl
  | pwrbrkAssert => exact (execPwrbrkAssert_touches s).within rfl
  | pwrbrkDeassert => exact (execPwrbrkDeassert_touches s).within rfl
  | tileOvercurrent => exact (execTileOvercurrent_touches _ s).within rfl
  | tileShutdown => exact (execTileShutdown_touches _ s).within rfl
  | idleStateEntry => exact execIdleStateEntry_within
  | idleExitComplete => exact (execIdleExitComplete_touches _ s).within rfl
  | elasticOverflow => exact (execElasticOverflow_touches _ _ s).within rfl
  | errlogSummaryWrite => exact (execErrlogSummaryWrite_touches s).within rfl
  | coreReferenceValid => exact (execCoreReferenceValid_touches s).within rfl
  | standbyPowerOff => exact execStandbyPowerOff_within rfl rfl rfl rfl rfl
  | mpSramUncorrectable => exact execMpSramUncorrectable_within
  | flitCrcFailure => exact (execFlitCrcFailure_touches _ _ s).within rfl
  | configurationRequest => exact execConfigurationRequest_within rfl rfl rfl
  | laneTestComplete => exact execLaneTestComplete_within
  | vddtReached => exact (execVddtReached_touches _ s).within rfl
  | dynamicAddressAssignment => exact (execDynamicAddressAssignment_touches _ s).within rfl

theorem exec_next_within {i : Instr} {s t : State} (run : exec i s = .next t) : Within (mayChange i) s t := by
  obtain ⟨u, next, within⟩ := exec_within i s
  cases run.symm.trans next
  exact within

/-- Settles O57: every operation stays within its contents, and so do the front command and the idle step. -/
theorem stepKeepsMemory : Obligations.StepKeepsMemory := by
  intro s t run wf
  unfold step at run
  cases queue : s.pending with
  | nil =>
    rw [queue] at run
    cases run
    have kept : Within (fun _ => true) s (idle s) := idle_within rfl rfl
    exact ⟨kept.mem wf, kept.held wf⟩
  | cons c rest =>
    rw [queue] at run
    have kept := exec_next_within run
    exact ⟨kept.mem wf, kept.held wf⟩

/-- Settles O60: a content that a command is not listed for is outside what the command may change. -/
theorem onlyTheseStore : Obligations.OnlyTheseStore := by
  intro c s t run
  have kept := exec_next_within run
  exact ⟨kept.same .buffer, kept.same .hbm, kept.same .lines, kept.same .windows, kept.same .layout⟩

end Sys2Proof.Machine
end

section
/-! Beats on the mesh's links (R143, R145, R146, R171): what a LINK event sends, what a parity mismatch leaves, and what
drops a beat that no event takes. -/

namespace Sys2Proof.Machine

/-! ### The beat at an input -/

theorem updPipe_wf (k : Nat) (f : Pipe → Pipe) (u : State) (wf : Tab.wf Part.reset u.parts = true) :
    Tab.wf Part.reset (updPipe k f u).parts = true :=
  updPart_wf k _ u wf

theorem updPipe_onlyPart (k : Nat) (f : Pipe → Pipe) (u : State) : OnlyPart k u (updPipe k f u) :=
  onlyPart_updPart k _ u

section
variable {rd : Ready} {u : State} {router lag : Nat}

/-- A beat whose parity holds is taken as it stands and changes nothing. -/
theorem takeInput_eventBeat (parity : (eventBeat u rd router lag).parityOk = true) :
    takeInput rd.part router rd.ev.inp rd.ev.out rd.ev.bsel lag u = (eventBeat u rd router lag, u) := by
  have sound : ((eventBeat u rd router lag).valid && !(eventBeat u rd router lag).parityOk) = false := by simp [parity]
  unfold eventBeat at sound ⊢
  simp only [takeInput, sound]
  rfl

/-- The pipelines with the beat that an event takes corrected in its register. -/
def correctedPipe (router reg at_ : Nat) (p : Pipe) : Pipe :=
  { p with arrivals := p.arrivals.map fun a =>
      if a.router == router && a.port == reg && a.at_ == at_ then { a with beat := checkedBeat a.beat } else a }

/-- The state with the beat of a LINK event corrected. -/
def corrected (rd : Ready) (router lag : Nat) (u : State) : State :=
  updPipe rd.part (correctedPipe router (inputReg router rd.ev.inp rd.ev.out rd.ev.bsel) ((part u rd.part).ptick - lag)) u

/-- A beat whose parity does not hold goes on poisoned, after its correction and the breach. -/
theorem takeInput_eventBeat_mismatch (valid : (eventBeat u rd router lag).valid = true)
    (parity : (eventBeat u rd router lag).parityOk = false) :
    takeInput rd.part router rd.ev.inp rd.ev.out rd.ev.bsel lag u =
      (Beat.of (eventBeat u rd router lag).data true, dataPathBreach 0x4003 router (corrected rd router lag u)) := by
  unfold eventBeat at valid parity ⊢
  simp only [takeInput, checkedBeat, valid, parity]
  rfl

end

/-! ### What a LINK event sends -/

/-- A beat leaves on every output that the event names, and to the attachment of an edge port. -/
def sendLink (rd : Ready) (router : Nat) (noise : List LinkNoise) (b : Beat) (u : State) : State :=
  emitAll (edgeOutputs router rd.ev.out b)
    (updPipe rd.part (sendPorts rd.rect router rd.ev.inp rd.ev.out rd.ev.bsel (noisyBeat noise b) (part u rd.part).ptick) u)

theorem exec_eventLink {e : EvRef} {rd : Ready} {noise : List LinkNoise} {s u : State} {b : Beat}
    (ready : readyEvent s e kLink = some rd)
    (taken : takeInput rd.part e.router rd.ev.inp rd.ev.out rd.ev.bsel (linkLag e.router rd.ev) (advance rd.wait s) =
      (b, u)) :
    exec (.eventLink e noise) s = .next (sendLink rd e.router noise b u) := by
  change execEventLink e noise s = _
  rw [execEventLink, atEvent_ready ready]
  simp only [taken]
  rfl

section
variable {rd : Ready} {router : Nat} {noise : List LinkNoise} {b : Beat} {u : State}

theorem part_sendLink (wf : Tab.wf Part.reset u.parts = true) :
    part (sendLink rd router noise b u) rd.part = { part u rd.part with
      pipe := sendPorts rd.rect router rd.ev.inp rd.ev.out rd.ev.bsel (noisyBeat noise b) (part u rd.part).ptick
        (part u rd.part).pipe } :=
  part_updPipe _ _ _ wf

theorem sendLink_out : (sendLink rd router noise b u).out = u.out ++ edgeOutputs router rd.ev.out b := rfl

theorem sendLink_onlyPart : OnlyPart rd.part u (sendLink rd router noise b u) :=
  updPipe_onlyPart _ _ u

theorem sendLink_touches : Touches [.parts, .out] u (sendLink rd router noise b u) :=
  ((updPipe_touches _ _ _).mono rfl).trans ((emitAll_touches _ _).mono rfl)

end

/-! ### A breach with room for its packet -/

theorem breach_pipe (k status : Nat) (hold : Bool) (u : State) (wf : Tab.wf Part.reset u.parts = true) :
    (part (breach k status hold u) k).pipe = (part u k).pipe ∧
      (part (breach k status hold u) k).ptick = (part u k).ptick := by
  rw [breach, part_updPart _ _ _ wf]
  exact ⟨rfl, rfl⟩

section
variable {router k : Nat} (reason : Nat) {u : State} (own : partOf u router = some k) (room : u.ctl.faultQ.length < 256)
include own room

theorem dataPathBreach_room_touches : Touches [.parts, .ctl] u (dataPathBreach reason router u) := by
  rw [dataPathBreach_room own room]
  exact (upd_ctl rfl (.refl _ _)).trans ((breach_touches _ _ _ _).mono rfl)

theorem dataPathBreach_room_onlyPart : OnlyPart k u (dataPathBreach reason router u) := by
  rw [dataPathBreach_room own room]
  exact .trans (.of_parts rfl) (breach_onlyPart _ _ _ _)

theorem dataPathBreach_room_faultQ : (dataPathBreach reason router u).ctl.faultQ =
    u.ctl.faultQ ++ [⟨reason, 4, router, none, controlNode router, controlSub router⟩] := by
  rw [dataPathBreach_room own room]
  rfl

variable (wf : Tab.wf Part.reset u.parts = true)
include wf

theorem dataPathBreach_room_wf : Tab.wf Part.reset (dataPathBreach reason router u).parts = true := by
  rw [dataPathBreach_room own room]
  exact breach_wf _ _ _ _ wf

/-- The partition is to be held, and its pipelines and its tick stay. -/
theorem part_dataPathBreach_room : (part (dataPathBreach reason router u) k).holdPend = true ∧
    (part (dataPathBreach reason router u) k).pipe = (part u k).pipe ∧
    (part (dataPathBreach reason router u) k).ptick = (part u k).ptick := by
  rw [dataPathBreach_room own room]
  exact ⟨breach_holdPend _ _ _ wf, breach_pipe _ _ _ _ wf⟩

end

/-! ### Beats that no event takes -/

/-- The pipelines without the beat that arrived at an input at a tick. -/
def dropBeat (router port at_ : Nat) (p : Pipe) : Pipe :=
  { p with arrivals := p.arrivals.filter fun a => !(a.router == router && a.port == port && a.at_ == at_) }

theorem inputBeat_dropBeat (router port at_ : Nat) (p : Pipe) :
    inputBeat (dropBeat router port at_ p) router port at_ = Beat.idle := by
  have none : (dropBeat router port at_ p).arrivals.find?
      (fun a => a.router == router && a.port == port && a.at_ == at_) = none :=
    List.find?_eq_none.mpr fun a kept => by
      have other := (List.mem_filter.mp kept).2
      simpa only [Bool.not_eq_true', ← Bool.not_eq_true] using other
  simp only [inputBeat, none]

/-- The state after a discard that is counted. -/
def discarded (router port k : Nat) (s : State) : State :=
  updPipe k (dropBeat router port (part s k).ptick)
    { s with buf := { s.buf with discards := Tab.upd 0 s.buf.discards router fun n => n + 1 } }

section
variable {router port k : Nat} {s : State}

theorem discarded_touches : Touches [.parts, .buf] s (discarded router port k s) :=
  (upd_buf rfl (.refl _ _)).trans ((updPipe_touches _ _ _).mono rfl)

theorem discarded_onlyPart : OnlyPart k s (discarded router port k s) :=
  .trans (.of_parts rfl) (updPipe_onlyPart _ _ _)

theorem part_discarded (wf : Tab.wf Part.reset s.parts = true) : part (discarded router port k s) k =
    { part s k with pipe := dropBeat router port (part s k).ptick (part s k).pipe } :=
  part_updPipe _ _ _ wf

variable (own : partOf s router = some k)
  (arrived : (inputBeat (part s k).pipe router port (part s k).ptick).valid = true)
  (unnamed : inputNamed s k router port = false)
include own arrived unnamed

theorem exec_beatDiscard_sealed (sealing : sealedInput (rect s k) router port = true) :
    exec (.beatDiscard router port) s = .next (updPipe k (dropBeat router port (part s k).ptick) s) := by
  change execBeatDiscard router port s = _
  simp only [execBeatDiscard, own, arrived, unnamed, sealing, Bool.not_false, Bool.and_self, if_true]
  rfl

theorem exec_beatDiscard_unsealed (open_ : sealedInput (rect s k) router port = false) :
    exec (.beatDiscard router port) s = .next (dataPathBreach 0x4004 router (discarded router port k s)) := by
  change execBeatDiscard router port s = _
  simp only [execBeatDiscard, own, arrived, unnamed, open_, Bool.not_false, Bool.and_self, if_true]
  rfl

end

/-- Settles O7: a LINK event sends the beat that it takes, a mismatch after its breach; a discard drops the beat of the
present tick, and unless the link is sealed counts it and breaches. -/
theorem meshLinks : Obligations.MeshLinks := by
  unfold Obligations.MeshLinks
  refine ⟨fun e rd noise s ready plane ⟨_, parity⟩ => ?good,
    fun e rd noise s ready plane own ⟨valid, parity⟩ room => ?poisoned,
    fun router port k s plane own arrived unnamed sealing => ?dropped,
    fun router port k s plane own arrived unnamed open_ room => ?breached⟩
  case good =>
    exact ⟨_, exec_eventLink ready (takeInput_eventBeat parity),
      ⟨⟨sendLink_out, congrArg Part.pipe (part_sendLink plane.1)⟩, sendLink_onlyPart⟩, sendLink_touches⟩
  case poisoned =>
    have own : partOf (corrected rd e.router (linkLag e.router rd.ev) (advance rd.wait s)) e.router = some rd.part := own
    have wf : Tab.wf Part.reset (corrected rd e.router (linkLag e.router rd.ev) (advance rd.wait s)).parts = true :=
      updPipe_wf _ _ _ plane.1
    have breached := dataPathBreach_room_touches 0x4003 own room
    refine ⟨_, exec_eventLink ready (takeInput_eventBeat_mismatch valid parity),
      ⟨?_, dataPathBreach_room_faultQ 0x4003 own room, ?_, ?_⟩, ?_⟩
    · rw [part_sendLink (dataPathBreach_room_wf 0x4003 own room wf)]
      exact (part_dataPathBreach_room 0x4003 own room wf).1
    · rw [sendLink_out]
      exact congrArg (· ++ _) (breached .out (by decide))
    · exact (updPipe_onlyPart _ _ _).trans ((dataPathBreach_room_onlyPart 0x4003 own room).trans sendLink_onlyPart)
    · exact ((updPipe_touches _ _ _).mono rfl).trans ((breached.mono rfl).trans (sendLink_touches.mono rfl))
  case dropped =>
    refine ⟨_, exec_beatDiscard_sealed own arrived unnamed sealing, ⟨?_, ?_, updPipe_onlyPart _ _ _⟩,
      updPipe_touches _ _ _⟩
    · rw [part_updPipe _ _ _ plane.1, inputBeat_dropBeat]
      rfl
    · rw [part_updPipe _ _ _ plane.1]
  case breached =>
    have own' : partOf (discarded router port k s) router = some k := own
    have wf : Tab.wf Part.reset (discarded router port k s).parts = true := updPipe_wf _ _ _ plane.1
    have frame := dataPathBreach_room_touches 0x4004 own' room
    have buf : (dataPathBreach 0x4004 router (discarded router port k s)).buf = (discarded router port k s).buf :=
      frame .buf (by decide)
    have mem : (dataPathBreach 0x4004 router (discarded router port k s)).buf.mem = s.buf.mem := by
      rw [buf]
      rfl
    obtain ⟨holdPend, pipe, ptick⟩ := part_dataPathBreach_room 0x4004 own' room wf
    refine ⟨_, exec_beatDiscard_unsealed own arrived unnamed open_, ⟨fun discards => ?_, mem, ?_, holdPend,
      dataPathBreach_room_faultQ 0x4004 own' room,
      discarded_onlyPart.trans (dataPathBreach_room_onlyPart 0x4004 own' room)⟩,
      (discarded_touches.mono rfl).trans (frame.mono rfl)⟩
    · rw [buf]
      exact Tab.get_upd _ _ discards
    · rw [pipe, ptick, part_discarded plane.1, inputBeat_dropBeat]
      rfl

end Sys2Proof.Machine
end

section
/-! LANE_TEST_COMPLETE on a table of stacks that lists a key twice (R169): a state that the premises of the statement allow,
since the clause lacks UnitWf. -/

namespace Sys2Proof.Machine
open Sys2Proof.Tests

/-- A lane test of stack 0 that has begun. -/
def stackTest : LaneTest := ⟨65, 9, 2, true⟩

/-- A stack that is out of service for its test alone. -/
def stackInTest : Stack := { Stack.reset with inTest := true }

/-- The test of stack 0 runs and its request is outstanding; stack 0 is listed twice, so UnitWf fails. -/
def doubledStack : State := { wReady with
  lanes := { wReady.lanes with tests := [stackTest] }
  hbm := { wReady.hbm with stack := [(0, stackInTest), (0, stackInTest)] }
  fw := { wReady.fw with outstanding := [(65, 0x0302, 9)] } }

/-- The end of a begun test is answered from the state that it leaves. -/
theorem exec_laneTestComplete {n : Nat} {cells : List CellTrain} {stitch : List StitchTrain} {hbm : List Nat} {x : LaneTest}
    {s : State} (listed : s.lanes.tests[n]? = some x) (begun : x.begun = true) :
    ∃ rlen params, exec (.laneTestComplete n cells stitch hbm) s =
      .next (mciReply 0x0302 x.who x.tag mSuccess 0 rlen params (endTest x s)) := by
  change ∃ _ _, execLaneTestComplete n cells stitch hbm s = _
  simp only [execLaneTestComplete, listed, begun, Bool.not_true, Bool.false_eq_true, if_false]
  exact ⟨_, _, rfl⟩

/-- The stack's own entry is at its reset value again, so it goes, and stack 0 reads as the second entry. -/
theorem doubledStack_endTest : (stackOf (endTest stackTest doubledStack) 0).inTest = true := by
  decide +kernel

/-- Refutes O31: LANE_TEST_COMPLETE's clause says that the stack returns to service, without UnitWf. In `doubledStack` the
returned entry leaves the table, and stack 0 reads as the second entry, which is still in test. -/
theorem not_memoryUnitCommands : ¬ Obligations.MemoryUnitCommands := by
  intro h
  obtain ⟨-, -, -, -, complete, -⟩ := h
  obtain ⟨t, step, ⟨-, -, -, returned, -⟩, -⟩ := complete 0 [] [] [] stackTest doubledStack rfl rfl rfl
  obtain ⟨rlen, params, step'⟩ := exec_laneTestComplete (n := 0) (cells := []) (stitch := []) (hbm := [])
    (x := stackTest) (s := doubledStack) rfl rfl
  obtain rfl := Host.Outcome.next.inj (step'.symm.trans step)
  have hbm : (mciReply 0x0302 65 9 mSuccess 0 rlen params (endTest stackTest doubledStack)).hbm =
      (endTest stackTest doubledStack).hbm := mciReply_touches _ _ _ _ _ _ _ _ .hbm (by decide)
  have service := returned (by decide)
  have left : (stackOf (mciReply 0x0302 65 9 mSuccess 0 rlen params (endTest stackTest doubledStack)) 0).inTest = true := by
    rw [stackOf, hbm]
    exact doubledStack_endTest
  exact absurd (left.symm.trans service) (by decide)

end Sys2Proof.Machine
end

section
/-! SCRUB_VISIT on a line that its control port has written in the same tick (R150, R163, R168): a state that the
premises of the statement allow, though the port leaves 3 ticks between two accesses. -/

namespace Sys2Proof.Machine
open Sys2Proof.Tests

/-! ### A visit that corrects its line -/

/-- The tick on which the access of a scrubber's visit commits. -/
def visitTick (router : Nat) (s : State) : Nat :=
  commitTick s router (max (Tab.get 0 s.buf.scrubLast router + scrubInterval s) s.clk.tick.toNat)

/-- A line written back as it stood before the tick, in its words with a single-bit error. -/
def writeBack (router line : Nat) (u : State) : State :=
  storeLine router line (lineBefore u router line).1 (maskOfWords (singleBefore u router line)) false false
    (countErrors true router line (lineBefore u router line).2 (singleBefore u router line) u)

theorem exec_scrubVisit_writeBack {router line : Nat} {queued : Bool} {s u : State} (runs : tickRuns s = true)
    (live : s.fmap.live router = true) (tested : s.buf.inTest.contains router = false)
    (commit : toCommit router (visitTick router s) s = u) (next : scrubLine u router = (line, queued))
    (unarmed : u.regs.dbgPending = false) (single : singleBefore u router line ≠ 0) :
    ∃ t, exec (.scrubVisit router) s = .next t ∧ t.buf.mem = (writeBack router line u).buf.mem := by
  have kept : injectLine router line u = u := by simp [injectLine, injectHits, unarmed]
  change ∃ t, execScrubVisit router s = _ ∧ _
  rw [execScrubVisit, if_neg (by
    simp only [runs, live, tested, Bool.not_true, Bool.or_self, Bool.false_eq_true, not_false_eq_true])]
  extract_lets due s0
  have reached : s0 = u := commit
  rw [reached, next]
  dsimp only
  rw [kept, if_neg single]
  refine ⟨_, rfl, ?_⟩
  simp only [writeBack]

/-! ### The line that the control port wrote in the tick of the visit -/

/-- Line 0 of slice 0 in tick `at_`: byte 0 was 1 with a single-bit error in its word, and the control port has
written 0 over the whole line. -/
def overwrittenRecord (at_ : Nat) : TickLine := ⟨sliceLine 0 0, at_, 1, 0, 1, [⟨0, fullMask, false⟩], []⟩

/-- Ticks run, a scrubber's visit is due, and the buffer is empty, as the record of tick `at_` leaves line 0. -/
def overwritten (at_ : Nat) : State := { wTick with
  clk := { wTick.clk with tick := 131072 }
  buf := { wTick.buf with tickLines := [overwrittenRecord at_] } }

theorem overwritten_premises (at_ : Nat) :
    tickRuns (overwritten at_) = true ∧ (overwritten at_).fmap.live 0 = true ∧
      (overwritten at_).buf.inTest.contains 0 = false ∧ (overwritten at_).MemWf ∧
      Tab.wf 0 (overwritten at_).buf.scrubPos = true ∧ Tab.wf 0 (overwritten at_).buf.scrubLast = true := by
  have live : wTick.fmap.live 0 = true := by decide +kernel
  have wf : wTick.MemWf := by decide +kernel
  exact ⟨rfl, live, rfl, wf, rfl, rfl⟩

theorem overwritten_linesHeld (at_ : Nat) : (overwritten at_).LinesHeld := by
  have held : Memory.line wTick.buf.mem (64 * sliceLine 0 0) = (overwrittenRecord 0).after.1 := by decide +kernel
  intro e listed
  obtain rfl := List.mem_singleton.mp listed
  exact held

/-- The ticks that the port of slice 0 takes, a free value. -/
def visitDelay : Nat := Config.commitDelay wTick.free % 9

theorem visitDelay_lt : visitDelay < 9 := Nat.mod_lt _ (by decide)

/-- The visit is due on the present tick, and the port is free. -/
theorem visitTick_overwritten (at_ : Nat) : visitTick 0 (overwritten at_) = 131072 + visitDelay := by
  have due : portFree (overwritten 0) 0 (max (Tab.get 0 (overwritten 0).buf.scrubLast 0 + scrubInterval (overwritten 0))
      (overwritten 0).clk.tick.toNat) = 131072 := by decide +kernel
  exact congrArg (· + visitDelay) due

/-- The state on its way at the access, which commits `wait` ticks after the present one. -/
def visited (wait : Nat) : State := toCommit 0 (131072 + wait) (overwritten (131072 + wait))

/-- The visit reads line 0, no injection is armed, and a word is to be corrected. -/
theorem visited_spoiled : ∀ wait < 9, scrubLine (visited wait) 0 = (0, false) ∧
    (visited wait).regs.dbgPending = false ∧ singleBefore (visited wait) 0 0 ≠ 0 := by
  decide +kernel

/-- Byte 0 of the line as the visit finds it and as it leaves it. -/
theorem visited_byte : ∀ wait < 9, Memory.byte (visited wait).buf.mem 0 = 0 ∧
    Memory.byte (writeBack 0 0 (visited wait)).buf.mem 0 = 1 := by
  decide +kernel

/-- Refutes O32: SCRUB_VISIT's clause says that no byte changes, of a line too that the control port wrote in the tick of
the visit. In `overwritten` the visit writes the line of the tick before back over that write, and byte 0 goes from 0 to 1. -/
theorem not_sliceAccess : ¬ Obligations.SliceAccess := by
  intro h
  obtain ⟨-, -, -, -, -, -, -, -, visit⟩ := h
  obtain ⟨runs, live, tested, wf, pos, last⟩ := overwritten_premises (131072 + visitDelay)
  obtain ⟨next, unarmed, single⟩ := visited_spoiled visitDelay visitDelay_lt
  obtain ⟨found, left⟩ := visited_byte visitDelay visitDelay_lt
  have commit : toCommit 0 (visitTick 0 (overwritten (131072 + visitDelay))) (overwritten (131072 + visitDelay)) =
      visited visitDelay := congrArg (toCommit 0 · _) (visitTick_overwritten _)
  obtain ⟨t, step, ⟨kept, -⟩, -⟩ := visit 0 _ runs live tested wf (overwritten_linesHeld _) pos last
  obtain ⟨t', step', mem⟩ := exec_scrubVisit_writeBack runs live tested commit next unarmed single
  obtain rfl := Host.Outcome.next.inj (step'.symm.trans step)
  rw [← visitTick, commit] at kept
  have same := kept 0 (.inr (Nat.le_refl 0))
  rw [mem, left, found] at same
  exact absurd same (by decide)

end Sys2Proof.Machine
end

section
/-! The compressor of a Lattice port (R191 to R195, R201): what a change of one direction leaves of the others, what the
entry of a dense beat and the handover of a record leave of the outgoing direction, and the commands that bring them. -/

namespace Sys2Proof.Machine

/-! ### One direction changes -/

theorem updComp_wf (port dir : Nat) (f : Comp → Comp) (s : State) (wf : Tab.wf Comp.reset s.comp = true) :
    Tab.wf Comp.reset (updComp port dir f s).comp = true :=
  Tab.wf_upd _ f wf

theorem compOf_updComp (port dir : Nat) (f : Comp → Comp) (s : State) (wf : Tab.wf Comp.reset s.comp = true) :
    compOf (updComp port dir f s) port dir = f (compOf s port dir) :=
  Tab.get_upd _ f wf

theorem compOf_updComp_ne (port : Nat) {dir other : Nat} (f : Comp → Comp) (s : State) (ne : other ≠ dir) :
    compOf (updComp port dir f s) port other = compOf s port other :=
  Tab.get_upd_ne f (by omega)

/-- A direction with an open window is listed, so its change is read back from any table. -/
theorem compOf_updComp_of_window {port dir : Nat} {f : Comp → Comp} {s : State}
    (open_ : (f (compOf s port dir)).window ≠ none) :
    compOf (updComp port dir f s) port dir = f (compOf s port dir) :=
  Tab.get_set_of_ne_default (fun reset => open_ (congrArg Comp.window reset)) _ _

theorem compOf_of_comp {s t : State} (h : t.comp = s.comp) (port dir : Nat) : compOf t port dir = compOf s port dir := by
  rw [compOf, h, compOf]

/-- DIR of a descriptor names one of the two directions. -/
theorem bits_one_lt_two (x lo : Nat) : bits x lo 1 < 2 := Nat.mod_lt _ (by decide)

/-! ### What is kept of a port's outgoing direction -/

/-- From s to t the incoming direction of a port stays, and of its outgoing direction what `keep` reads. -/
structure KeepsOutgoing {α : Type} (keep : Comp → α) (port : Nat) (s t : State) : Prop where
  wf : Tab.wf Comp.reset s.comp = true → Tab.wf Comp.reset t.comp = true
  outgoing : Tab.wf Comp.reset s.comp = true → keep (compOf t port 0) = keep (compOf s port 0)
  incoming : compOf t port 1 = compOf s port 1

section
variable {α : Type} {keep : Comp → α} {port : Nat} {s t u : State}

theorem KeepsOutgoing.of_comp (h : t.comp = s.comp) : KeepsOutgoing keep port s t where
  wf canonical := h ▸ canonical
  outgoing _ := by rw [compOf_of_comp h]
  incoming := compOf_of_comp h _ _

theorem KeepsOutgoing.trans (h : KeepsOutgoing keep port s t) (g : KeepsOutgoing keep port t u) :
    KeepsOutgoing keep port s u where
  wf canonical := g.wf (h.wf canonical)
  outgoing canonical := (g.outgoing (h.wf canonical)).trans (h.outgoing canonical)
  incoming := g.incoming.trans h.incoming

theorem KeepsOutgoing.after_comp (g : u.comp = t.comp) (h : KeepsOutgoing keep port s t) : KeepsOutgoing keep port s u :=
  h.trans (.of_comp g)

theorem KeepsOutgoing.updComp {f : Comp → Comp} (blind : ∀ c, keep (f c) = keep c) (s : State) :
    KeepsOutgoing keep port s (updComp port 0 f s) where
  wf canonical := updComp_wf _ _ _ _ canonical
  outgoing canonical := by rw [compOf_updComp _ _ _ _ canonical, blind]
  incoming := compOf_updComp_ne _ _ _ Nat.one_ne_zero

end

/-- A reading of a direction that the transmit path does not change: wire beats and the beat in progress are no part of it. -/
def BesidesTransmit {α : Type} (keep : Comp → α) : Prop :=
  ∀ c wire first tail tailLen poison,
    keep { c with wire := wire, first := first, tail := tail, tailLen := tailLen, tailPoison := poison } = keep c

/-- The window of a direction, how far it has come, and the descriptor of the next one. -/
def Comp.course (c : Comp) : Option (Nat × Nat × Nat × BitVec 32) × Nat × Option CompDesc := (c.window, c.entered, c.next)

theorem Comp.course_besidesTransmit : BesidesTransmit Comp.course := fun _ _ _ _ _ _ => rfl

theorem Comp.records_besidesTransmit : BesidesTransmit Comp.records := fun _ _ _ _ _ _ => rfl

/-! ### The transmit path (R195, R197, R462) -/

/-- What a piece of a window of `total` wire beats makes of the direction, before its flits leave. -/
def takePiece (total : Nat) (r : CompRec) (c : Comp) : Comp :=
  if !c.fault then addBytes r.bytes r.len r.poison r.last c
  else if r.last then { c with
    wire := c.wire ++ List.replicate (total - c.first - c.wire.length) (0, true), tail := 0, tailLen := 0 }
  else c

/-- A record whose bytes do not fill the wire beat in progress. -/
def joinTail (r : CompRec) (c : Comp) : Comp :=
  { c with
    tail := c.tail + r.bytes % 2 ^ (8 * r.len) * 2 ^ (8 * c.tailLen), tailLen := c.tailLen + r.len
    tailPoison := c.tailPoison || r.poison }

theorem takePiece_short {total : Nat} {r : CompRec} {c : Comp} (sound : c.fault = false) (more : r.last = false)
    (short : c.tailLen + r.len < 64) : takePiece total r c = joinTail r c := by
  have rest : packWire (r.len / 64 + 2) false r.poison (joinTail r c) = joinTail r c := by
    rw [packWire, if_neg]
    rintro (full | ⟨last, -⟩)
    · exact absurd full (Nat.not_le.mpr short)
    · exact absurd last Bool.false_ne_true
  simp only [takePiece, sound, more, Bool.not_false, if_true]
  exact rest

section
variable {α : Type} {keep : Comp → α} (blind : BesidesTransmit keep)
include blind

theorem packWire_keep (n : Nat) (last poison : Bool) (c : Comp) : keep (packWire n last poison c) = keep c := by
  induction n generalizing c with
  | zero => rfl
  | succ n ih =>
    unfold packWire
    split
    · exact (ih _).trans (blind c _ _ _ _ _)
    · rfl

theorem takePiece_keep (total : Nat) (r : CompRec) (c : Comp) : keep (takePiece total r c) = keep c := by
  unfold takePiece
  split
  · exact (packWire_keep blind _ _ _ _).trans (blind c _ _ _ _ _)
  · split
    · exact blind c _ _ _ _ _
    · rfl

theorem sendWire_keepsOutgoing (port peer total : Nat) (stamp : BitVec 32) (last : Bool) (n : Nat) (s : State) :
    KeepsOutgoing keep port s (sendWire port peer total stamp last n s) := by
  induction n generalizing s with
  | zero => exact .of_comp rfl
  | succ n ih =>
    unfold sendWire
    dsimp only
    split
    · refine .trans ?_ (ih _)
      split
      · exact .updComp (fun c => by exact blind c _ _ _ _ _) s
      · exact .after_comp (sendFlit_touches _ _ _ _ .comp (by decide))
          (.updComp (fun c => by exact blind c _ _ _ _ _) s)
    · exact .of_comp rfl

end

theorem sendWire_few {port peer total : Nat} {stamp : BitVec 32} {n : Nat} {s : State}
    (few : (compOf s port 0).wire.length < 3) : sendWire port peer total stamp false (n + 1) s = s := by
  unfold sendWire
  exact if_neg (by simpa using few)

/-- A window's piece is taken and whole flits leave. -/
def sendPiece (port peer total : Nat) (stamp : BitVec 32) (r : CompRec) (s : State) : State :=
  sendWire port peer total stamp r.last (total + 1) (updComp port 0 (takePiece total r) s)

theorem sendPiece_keepsOutgoing {α : Type} {keep : Comp → α} (blind : BesidesTransmit keep) (port peer total : Nat)
    (stamp : BitVec 32) (r : CompRec) (s : State) : KeepsOutgoing keep port s (sendPiece port peer total stamp r s) :=
  (KeepsOutgoing.updComp (takePiece_keep blind total r) s).trans (sendWire_keepsOutgoing blind _ _ _ _ _ _ _)

section
variable {port i peer total : Nat} {stamp : BitVec 32} {r : CompRec} {s : State}

theorem handOver_more (open_ : (compOf s port 0).window = some (i, peer, total, stamp)) (more : r.last = false) :
    handOver port r s = sendPiece port peer total stamp r s := by
  rw [handOver, open_]
  exact if_neg (by simp [more])

theorem handOver_keepsOutgoing {α : Type} {keep : Comp → α} (blind : BesidesTransmit keep)
    (open_ : (compOf s port 0).window = some (i, peer, total, stamp)) (more : r.last = false) :
    KeepsOutgoing keep port s (handOver port r s) := by
  rw [handOver_more open_ more]
  exact sendPiece_keepsOutgoing blind _ _ _ _ _ _

theorem handOver_last (open_ : (compOf s port 0).window = some (i, peer, total, stamp)) (last : r.last = true) :
    handOver port r s = updComp port 0 endWindow (sendPiece port peer total stamp r s) := by
  rw [handOver, open_]
  exact if_pos last

/-- A record that neither ends its window nor fills a wire beat sends nothing; its bytes join the beat in progress. -/
theorem compOf_handOver_short (open_ : (compOf s port 0).window = some (i, peer, total, stamp)) (more : r.last = false)
    (sound : (compOf s port 0).fault = false) (few : (compOf s port 0).wire.length < 3)
    (short : (compOf s port 0).tailLen + r.len < 64) :
    compOf (handOver port r s) port 0 = joinTail r (compOf s port 0) := by
  have joined : takePiece total r (compOf s port 0) = joinTail r (compOf s port 0) := takePiece_short sound more short
  have taken : compOf (updComp port 0 (takePiece total r) s) port 0 = joinTail r (compOf s port 0) := by
    rw [compOf_updComp_of_window, joined]
    simp [joined, joinTail, open_]
  rw [handOver_more open_ more, sendPiece, more, sendWire_few (by rw [taken]; exact few), taken]

/-- The window's last record ends it. -/
theorem compOf_handOver_last (wf : Tab.wf Comp.reset s.comp = true)
    (open_ : (compOf s port 0).window = some (i, peer, total, stamp)) (last : r.last = true) :
    compOf (handOver port r s) port 0 = endWindow (compOf (sendPiece port peer total stamp r s) port 0) := by
  rw [handOver_last open_ last]
  exact compOf_updComp _ _ _ _ ((sendPiece_keepsOutgoing Comp.course_besidesTransmit _ _ _ _ _ _).wf wf)

end

/-! ### Dense beats enter (R191, R192, R201) -/

theorem closeBlock_keepsOutgoing (port : Nat) (last : Bool) (s : State) :
    KeepsOutgoing Comp.course port s (closeBlock port last s) := by
  unfold closeBlock
  dsimp only
  split
  · refine .trans (.of_comp ?noted) (.updComp (fun _ => by rfl) _)
    exact touches_ite (bs := [.ctl, .counters])
      ((touches_ite (noteDescFault_touches _ _) (.refl _ _)).trans ((countUp_touches _ _ _).mono rfl))
      (touches_ite (noteDescFault_touches _ _) (.refl _ _)) .comp (by decide)
  · exact .of_comp rfl

/-- A dense beat is counted for its tick. -/
def countEntry (at_ router : Nat) (c : Comp) : Comp :=
  { c with entered := c.entered + 1, took := (at_, router :: if c.took.1 = at_ then c.took.2 else []) }

/-- A beat that is not the window's last leaves the window as the count of its entry leaves it. -/
theorem enterBeat_keepsOutgoing {port at_ router i peer total : Nat} {stamp : BitVec 32} {x : Beat} {s : State}
    (open_ : (compOf s port 0).window = some (i, peer, total, stamp))
    (more : (compOf s port 0).entered + 1 < denseBeats (compOf s port 0).desc total) :
    KeepsOutgoing Comp.course port (updComp port 0 (countEntry at_ router) s) (enterBeat port at_ router x s) := by
  have notLast : ((compOf s port 0).entered + 1 == denseBeats (compOf s port 0).desc total) = false :=
    beq_false_of_ne (Nat.ne_of_lt more)
  have counted : (compOf (updComp port 0 (countEntry at_ router) s) port 0).window = some (i, peer, total, stamp) := by
    rw [compOf_updComp_of_window] <;> simp [countEntry, open_]
  simp only [enterBeat, open_, notLast]
  split
  case isTrue =>
    exact handOver_keepsOutgoing Comp.course_besidesTransmit counted (by rfl)
  case isFalse =>
    have joined (y : DenseBeat) : KeepsOutgoing Comp.course port (updComp port 0 (countEntry at_ router) s)
        (updComp port 0 (fun c => { c with block := c.block ++ [y] }) (updComp port 0 (countEntry at_ router) s)) :=
      .updComp (fun _ => by rfl) _
    split
    · exact (joined _).trans (closeBlock_keepsOutgoing _ _ _)
    · exact joined _

/-- The outgoing direction after a beat that is not the window's last: one more has entered, the rest of the course and
the incoming direction stay. -/
theorem enterBeat_course {port at_ router i peer total : Nat} {stamp : BitVec 32} {x : Beat} {s : State}
    (wf : Tab.wf Comp.reset s.comp = true) (open_ : (compOf s port 0).window = some (i, peer, total, stamp))
    (more : (compOf s port 0).entered + 1 < denseBeats (compOf s port 0).desc total) :
    (compOf (enterBeat port at_ router x s) port 0).course =
      ((compOf s port 0).window, (compOf s port 0).entered + 1, (compOf s port 0).next) ∧
    compOf (enterBeat port at_ router x s) port 1 = compOf s port 1 := by
  obtain ⟨-, outgoing, incoming⟩ := enterBeat_keepsOutgoing (at_ := at_) (router := router) (x := x) open_ more
  refine ⟨?_, incoming.trans (compOf_updComp_ne _ _ _ Nat.one_ne_zero)⟩
  rw [outgoing (updComp_wf _ _ _ _ wf), compOf_updComp _ _ _ _ wf]
  rfl

/-! ### The commands -/

section
variable {router k port : Nat} {a : Arrival} {s : State} (own : partOf s router = some k) (rim : routerX router = 127)
  (served : eastPort (routerY router) = some port) (arrived : edgeNow (part s k).pipe (part s k).ptick router = some a)
  (runs : tickRuns s = true) (awake : (part s k).parked = false)
include own rim served arrived runs awake

/-- While no window is open, a beat that has not entered configures a direction. -/
theorem exec_descriptorBeat_closed (closed : windowOpen (openBefore k port a s) port = false)
    (fresh : ¬((compOf (openBefore k port a s) port 0).took.1 = a.at_ ∧
      (compOf (openBefore k port a s) port 0).took.2.contains router = true)) :
    exec (.descriptorBeat router) s = .next (updComp port (bits a.beat.data.toNat 3 1)
      (fun c => { c with next := some (descOf a.beat.data.toNat) }) (openBefore k port a s)) := by
  change execDescriptorBeat router s = _
  simp only [execDescriptorBeat, own, rim, served, arrived, runs, awake, closed, fresh, if_true, if_false,
    Bool.not_true, Bool.or_self, Bool.false_eq_true]

/-- While a window is open, a beat that has not entered is one of its dense beats. -/
theorem exec_descriptorBeat_open (open_ : windowOpen (openBefore k port a s) port = true)
    (fresh : notTaken (compOf (openBefore k port a s) port 0) a.at_ router = true) :
    exec (.descriptorBeat router) s = .next (enterBeat port a.at_ router a.beat (openBefore k port a s)) := by
  change execDescriptorBeat router s = _
  simp only [execDescriptorBeat, own, rim, served, arrived, runs, awake, open_, fresh, if_true, if_false,
    Bool.not_true, Bool.or_self, Bool.false_eq_true]

end

/-- The residuals due at a partition tick are presented. -/
def presentResiduals (port k at_ : Nat) (u : State) : State :=
  updPipe k (fun p => ((compOf u port 0).residuals.filter fun x => x.at_ == at_).foldl
      (fun q x => arrive x.router portEdge x.beat (x.at_ + 2) q) p)
    (updComp port 0 (fun c => { c with residuals := c.residuals.filter fun x => x.at_ != at_ }) u)

section
variable {port k at_ : Nat} {u : State}

theorem compOf_presentResiduals (wf : Tab.wf Comp.reset u.comp = true) :
    compOf (presentResiduals port k at_ u) port 0 = { compOf u port 0 with
      residuals := (compOf u port 0).residuals.filter fun x => x.at_ != at_ } :=
  (compOf_of_comp (updPipe_touches _ _ _ .comp (by decide)) _ _).trans (compOf_updComp _ _ _ _ wf)

theorem part_presentResiduals (wf : Tab.wf Part.reset u.parts = true) :
    part (presentResiduals port k at_ u) k = { part u k with
      pipe := ((compOf u port 0).residuals.filter fun x => x.at_ == at_).foldl
        (fun q x => arrive x.router portEdge x.beat (x.at_ + 2) q) (part u k).pipe } :=
  part_updPipe _ _ _ wf

theorem presentResiduals_onlyPart : OnlyPart k u (presentResiduals port k at_ u) :=
  .trans (.of_parts rfl) (updPipe_onlyPart _ _ _)

theorem presentResiduals_touches : Touches [.comp, .parts] u (presentResiduals port k at_ u) :=
  ((updComp_touches _ _ _ _).mono rfl).trans ((updPipe_touches _ _ _).mono rfl)

end

/-- The oldest record leaves the queue and goes to the transmit path. -/
def handOverOldest (port : Nat) (r : CompRec) (u : State) : State :=
  handOver port r (updComp port 0 (fun c => { c with records := c.records.drop 1 }) u)

theorem handOverOldest_touches (port : Nat) (r : CompRec) (u : State) :
    Touches [.comp, .ctl, .lat, .counters] u (handOverOldest port r u) :=
  ((updComp_touches _ _ _ _).mono rfl).trans ((handOver_touches _ _ _).mono rfl)

section
variable {port k : Nat} {s : State} (own : partOf s (windowRouter port 0) = some k) (runs : tickRuns s = true)
  (awake : (part s k).parked = false)
include own runs awake

theorem exec_residualReturn {r : DenseBeat} {rest : List DenseBeat} (due : (compOf s port 0).residuals = r :: rest)
    (free : (toPartTick k r.at_ s).clk.held = false) (stillAwake : (part (toPartTick k r.at_ s) k).parked = false) :
    exec (.residualReturn port) s = .next (presentResiduals port k r.at_ (toPartTick k r.at_ s)) := by
  change execResidualReturn port s = _
  simp only [execResidualReturn, own, due, runs, awake, free, stillAwake, Bool.not_true, Bool.or_self,
    Bool.false_eq_true, if_false]
  rfl

theorem exec_compressedRecordHandover {r : CompRec} {rest : List CompRec} (due : (compOf s port 0).records = r :: rest)
    (free : (toPartTick k r.at_ s).clk.held = false) (stillAwake : (part (toPartTick k r.at_ s) k).parked = false)
    (still : (compOf (toPartTick k r.at_ s) port 0).records = r :: rest) :
    exec (.compressedRecordHandover port) s = .next (handOverOldest port r (toPartTick k r.at_ s)) := by
  change execCompressedRecordHandover port s = _
  simp only [execCompressedRecordHandover, own, due, runs, awake, free, stillAwake, still, List.head?_cons, bne_self_eq_false,
    Bool.not_true, Bool.or_self, Bool.false_eq_true, if_false]
  rfl

end

section
variable {port i peer total : Nat} {stamp : BitVec 32} {r : CompRec} {rest : List CompRec} {u : State}
  (queued : (compOf u port 0).records = r :: rest)
  (open_ : (compOf u port 0).window = some (i, peer, total, stamp))
include queued open_

theorem compOf_dropOldest : compOf (updComp port 0 (fun c => { c with records := c.records.drop 1 }) u) port 0 =
    { compOf u port 0 with records := rest } := by
  rw [compOf_updComp_of_window] <;> simp [queued, open_]

/-- A record that neither ends its window nor fills a wire beat leaves the queue, and its bytes join the beat in progress. -/
theorem compOf_handOverOldest_short (sound : (compOf u port 0).fault = false) (few : (compOf u port 0).wire.length < 3)
    (more : r.last = false) (short : (compOf u port 0).tailLen + r.len < 64) :
    compOf (handOverOldest port r u) port 0 = joinTail r { compOf u port 0 with records := rest } := by
  have dropped := compOf_dropOldest queued open_
  rw [handOverOldest, compOf_handOver_short (by rw [dropped]; exact open_) more (by rw [dropped]; exact sound)
    (by rw [dropped]; exact few) (by rw [dropped]; exact short), dropped]

/-- The last record of a window leaves the queue, and the window ends. -/
theorem compOf_handOverOldest_last (wf : Tab.wf Comp.reset u.comp = true) (last : r.last = true) :
    (compOf (handOverOldest port r u) port 0).window = none ∧ (compOf (handOverOldest port r u) port 0).records = rest ∧
      (compOf (handOverOldest port r u) port 0).wire = [] ∧ (compOf (handOverOldest port r u) port 0).fault = false := by
  have dropped := compOf_dropOldest queued open_
  have canonical := updComp_wf port 0 (fun c => { c with records := c.records.drop 1 }) u wf
  rw [handOverOldest, compOf_handOver_last canonical (by rw [dropped]; exact open_) last]
  refine ⟨rfl, ?_, rfl, rfl⟩
  refine ((sendPiece_keepsOutgoing Comp.records_besidesTransmit _ _ _ _ _ _).outgoing canonical).trans ?_
  rw [dropped]

end

/-- Settles O17: a descriptor changes one direction, a dense beat enters the open window, residuals join the rim routers'
beats, and the oldest record joins the beat in progress or ends the window. -/
theorem compressorCommands : Obligations.CompressorCommands := by
  unfold Obligations.CompressorCommands
  refine ⟨fun router k port a s own rim served arrived runs awake closed fresh unit => ?descriptor,
    fun router k port a s own rim served arrived runs awake open_ fresh more unit => ?entry,
    fun port k r rest s own due runs awake free stillAwake unit plane => ?residuals,
    fun port k i peer total stamp r rest s own due runs awake free stillAwake still open_ sound few more short => ?record,
    fun port k i peer total stamp r rest s own due runs awake free stillAwake still open_ last unit => ?last⟩
  case descriptor =>
    obtain ⟨-, -, -, -, -, -, wf, -⟩ := unit
    have dir := bits_one_lt_two a.beat.data.toNat 3
    exact ⟨_, exec_descriptorBeat_closed own rim served arrived runs awake closed fresh,
      ⟨compOf_updComp _ _ _ _ wf, compOf_updComp_ne _ _ _ (by omega)⟩, updComp_touches _ _ _ _⟩
  case entry =>
    obtain ⟨-, -, -, -, -, -, wf, -⟩ := unit
    obtain ⟨⟨i, peer, total, stamp⟩, window⟩ : ∃ w, (compOf (openBefore k port a s) port 0).window = some w :=
      Option.ne_none_iff_exists'.mp fun none => by simp [none] at more
    rw [window] at more
    obtain ⟨course, incoming⟩ := enterBeat_course (at_ := a.at_) (router := router) (x := a.beat) wf window more
    simp only [Comp.course, Prod.mk.injEq] at course
    obtain ⟨kept, entered, next⟩ := course
    exact ⟨_, exec_descriptorBeat_open own rim served arrived runs awake open_ fresh, ⟨entered, kept, next, incoming⟩,
      enterBeat_touches _ _ _ _ _⟩
  case residuals =>
    obtain ⟨-, -, -, -, -, -, wf, -⟩ := unit
    exact ⟨_, exec_residualReturn own runs awake due free stillAwake,
      ⟨congrArg Comp.residuals (compOf_presentResiduals wf), congrArg Part.pipe (part_presentResiduals plane.1),
        presentResiduals_onlyPart⟩, presentResiduals_touches⟩
  case record =>
    exact ⟨_, exec_compressedRecordHandover own runs awake due free stillAwake still,
      compOf_handOverOldest_short still open_ sound few more short, handOverOldest_touches _ _ _⟩
  case last =>
    obtain ⟨-, -, -, -, -, -, wf, -⟩ := unit
    exact ⟨_, exec_compressedRecordHandover own runs awake due free stillAwake still,
      compOf_handOverOldest_last still open_ wf last, handOverOldest_touches _ _ _⟩

end Sys2Proof.Machine
end

section
/-! Breaches that a cell of a tile raises (R112, R218, R234): the packet that reports each, and what its partition's run and
hold take from it. -/

namespace Sys2Proof.Machine

section
variable {reason status router k : Nat} {s u : State}

/-- The breach of a cell was reported to the MP, and partition k takes it: it is to be held, and its run keeps the first status. -/
def CellBreach (reason status router k : Nat) (s t : State) : Prop :=
  t.ctl.faultQ = s.ctl.faultQ ++ [⟨reason, 4, router, none, controlNode router, controlSub router⟩] ∧
    (part t k).holdPend = true ∧
    (∀ r, (part s k).run = some r → (part t k).run = some { r with breach := some (r.breach.getD status) }) ∧ OnlyPart k s t

/-- A FAULT packet of the cell, and the breach of the partition that its router lies in. -/
def reportBreach (reason status router k : Nat) (s : State) : State :=
  breach k status true (routerFault reason 4 router none s)

theorem dataPathBreach_eq (own : partOf u router = some k) :
    dataPathBreach reason router u = reportBreach reason stDataPath router k u := by
  simp only [dataPathBreach, routerFault, own, reportBreach]

theorem routerFault_room (room : u.ctl.faultQ.length < 256) : routerFault reason 4 router none u = { u with ctl := { u.ctl with
    faultQ := u.ctl.faultQ ++ [⟨reason, 4, router, none, controlNode router, controlSub router⟩] } } :=
  if_pos room

theorem routerFault_parts : (routerFault reason 4 router none u).parts = u.parts :=
  routerFault_touches _ _ _ _ _ .parts (by decide)

theorem part_reportBreach (wf : Tab.wf Part.reset u.parts = true) : part (reportBreach reason status router k u) k =
    { part u k with
      holdPend := true
      run := (part u k).run.map fun r => { r with breach := some (r.breach.getD status) } } := by
  have same : part (routerFault reason 4 router none u) k = part u k := by rw [part, routerFault_parts, part]
  rw [reportBreach, breach, part_updPart _ _ _ (by rw [routerFault_parts]; exact wf), same, Bool.or_true]

theorem reportBreach_wf (wf : Tab.wf Part.reset u.parts = true) :
    Tab.wf Part.reset (reportBreach reason status router k u).parts = true :=
  breach_wf _ _ _ _ (by rw [routerFault_parts]; exact wf)

theorem reportBreach_onlyPart : OnlyPart k u (reportBreach reason status router k u) :=
  .trans (.of_parts routerFault_parts) (breach_onlyPart _ _ _ _)

theorem reportBreach_touches : Touches [.parts, .ctl, .counters] u (reportBreach reason status router k u) :=
  ((routerFault_touches _ _ _ _ _).mono rfl).trans ((breach_touches _ _ _ _).mono rfl)

theorem reportBreach_room_touches (room : u.ctl.faultQ.length < 256) :
    Touches [.parts, .ctl] u (reportBreach reason status router k u) := by
  rw [reportBreach, routerFault_room room]
  exact (upd_ctl rfl (.refl _ _)).trans ((breach_touches _ _ _ _).mono rfl)

theorem reportBreach_faultQ (room : u.ctl.faultQ.length < 256) : (reportBreach reason status router k u).ctl.faultQ =
    u.ctl.faultQ ++ [⟨reason, 4, router, none, controlNode router, controlSub router⟩] := by
  rw [reportBreach, routerFault_room room]
  rfl

theorem reportBreach_cellBreach (room : u.ctl.faultQ.length < 256) (wf : Tab.wf Part.reset u.parts = true) :
    CellBreach reason status router k u (reportBreach reason status router k u) := by
  have taken := part_reportBreach (reason := reason) (status := status) (router := router) (k := k) wf
  refine ⟨reportBreach_faultQ room, congrArg Part.holdPend taken, fun r run => ?_, reportBreach_onlyPart⟩
  rw [taken, run]
  rfl

end

/-! ### Stalls and tile errors (R218) -/

section
variable {router k : Nat} {s : State}

/-- A stall is remembered for 8 ticks, with whether it is the first breach of its partition's run. -/
def rememberStall (router : Nat) (s : State) : State :=
  let first : Bool := match partOf s router with
    | some k => ((part s k).run.map fun r => r.breach.isNone) == some true
    | none => false
  { s with tiles := { s.tiles with stalls :=
      (router, s.clk.tick.toNat, first) :: s.tiles.stalls.filter fun e => decide (s.clk.tick.toNat ≤ e.2.1 + 8) } }

theorem rememberStall_touches : Touches [.tiles] s (rememberStall router s) :=
  upd_tiles rfl (.refl _ _)

/-- A bond parity breach of the cell lies within 8 ticks, so its stall is one cause with it. -/
theorem socketStall_masked
    (masked : s.tiles.perrs.any (fun e => e.1 == router && decide (s.clk.tick.toNat ≤ e.2 + 8)) = true) :
    socketStall router false s = rememberStall router s := by
  simp only [socketStall, masked, Bool.not_false, Bool.and_self, if_true]
  rfl

theorem socketStall_reported (own : partOf s router = some k)
    (unmasked : s.tiles.perrs.any (fun e => e.1 == router && decide (s.clk.tick.toNat ≤ e.2 + 8)) = false) :
    socketStall router false s = reportBreach 0x300B stTileFault router k (rememberStall router s) := by
  simp only [socketStall, unmasked, own, Bool.and_false, Bool.false_eq_true, if_false]
  simp only [reportBreach, rememberStall, own]

theorem socketStall_tileError (own : partOf s router = some k) :
    socketStall router true s = reportBreach 0x300C stTileFault router k s := by
  simp only [socketStall, own, Bool.not_true, Bool.false_and, Bool.false_eq_true, if_true, if_false]
  rfl

end

end Sys2Proof.Machine
end

section
/-! Dispatch, result, Fold, generator and update events (R182, R184, R187, R214, R216, R503, R504, R507): the work that each
puts into its partition's pipelines at its tick. -/

namespace Sys2Proof.Machine

/-! ### Work put into the pipelines -/

section
variable {k router line lag : Nat} {u : State} {rd : Ready}

theorem due_addDue (ds : List Due) (wf : Tab.wf Part.reset u.parts = true) :
    (part (addDue k ds u) k).pipe.due = (part u k).pipe.due ++ ds := by
  rw [addDue, part_updPipe _ _ _ wf]

theorem addDue_onlyPart (ds : List Due) : OnlyPart k u (addDue k ds u) :=
  updPipe_onlyPart _ _ _

/-! ### Beats and lines that an event takes -/

/-- An idle beat, or one whose parity holds, is taken as it stands and changes nothing. -/
theorem takeInput_sound (sound : (writeBeat u rd router lag).valid = false ∨ (writeBeat u rd router lag).parityOk = true) :
    takeInput rd.part router rd.ev.inp 0 rd.ev.bsel lag u = (writeBeat u rd router lag, u) := by
  have unflagged : ((writeBeat u rd router lag).valid && !(writeBeat u rd router lag).parityOk) = false := by
    rcases sound with h | h <;> simp [h]
  unfold writeBeat at unflagged ⊢
  simp only [takeInput, unflagged]
  rfl

theorem checkedBeat_of_parity {b : Beat} (parity : b.parityOk = true) : checkedBeat b = b := by
  simp [checkedBeat, parity]

/-- A whole line stored through the scheduled port and noted for the merge rules. -/
theorem noteLine_stores {b : Beat} (wf : u.MemWf) (held : u.LinesHeld) :
    let t := noteLine k router line (schedWrite router line b fullMask u)
    BufLine (sliceByte router line) b.data fullMask u t ∧ BufOutside (sliceByte router line) 64 u t ∧ OnlyPart k u t :=
  ⟨(storeLine_bufLine router line _ fullMask _ wf.1 held).of_mem (noteWrite_mem ..),
    (storeLine_bufOutside router line _ fullMask _ _ u).of_mem (noteWrite_mem ..),
    (schedWrite_onlyPart _ _ _ _ _ _).trans (noteWrite_onlyPart _ _ _ _ _ _ _)⟩

theorem noteLine_schedWrite_touches {b : Beat} :
    Touches [.parts, .buf] u (noteLine k router line (schedWrite router line b fullMask u)) :=
  ((storeLine_full_touches _ _ _ _ _).mono rfl).trans ((noteWrite_touches _ _ _ _ _ _ _).mono rfl)

/-- The merge stage of a partition holds a read of the present tick. -/
def holdRead (k router line : Nat) (b : Beat) (u : State) : State :=
  updPart k (fun p => { p with pipe := { p.pipe with reads := ⟨router, line, false, p.ptick, b, false⟩ :: p.pipe.reads } }) u

/-- A read of a line without errors, and without an injection, leaves the slice as it is. -/
theorem portRead_of_still (still : (schedRead router line u).2 = u) :
    portRead k router line false false u = ((schedRead router line u).1, holdRead k router line (schedRead router line u).1 u) := by
  have read : schedRead router line u = ((schedRead router line u).1, u) := Prod.ext rfl still
  rw [portRead, read]
  rfl

theorem holdRead_wf {b : Beat} (wf : Tab.wf Part.reset u.parts = true) :
    Tab.wf Part.reset (holdRead k router line b u).parts = true :=
  updPart_wf _ _ _ wf

theorem due_addDue_holdRead {b : Beat} (ds : List Due) (wf : Tab.wf Part.reset u.parts = true) :
    (part (addDue k ds (holdRead k router line b u)) k).pipe.due = (part u k).pipe.due ++ ds := by
  rw [due_addDue ds (holdRead_wf wf), holdRead, part_updPart _ _ _ wf]

end

/-! ### DISPATCH and its result writes -/

section
variable {e : EvRef} {rd : Ready} {s : State}

theorem exec_dispatch {c : OpClass} (ready : readyEvent s e kDispatch = some rd)
    (cls : rd.image.opClass (bits rd.ev.arg 0 8) = some c) :
    exec (.dispatch e) s = .next (addDue rd.part
      (duesFor rd.image (part (advance rd.wait s) rd.part).ptick e.router (rd.line e) c)
      (sendDispatch e.router (dispatchPacket c.cls (rd.line e) rd.ctx e.occ) (advance rd.wait s))) := by
  change execDispatch e s = _
  rw [execDispatch, atEvent_ready ready]
  simp only [cls]

end

section
variable {router k at_ line : Nat} {up : List GroupTick} {s : State}

/-- The state at the tick of a reserved result write, the reservation taken up. -/
def atResult (k router at_ line : Nat) (s : State) : State :=
  dropDue k ⟨at_, .dispWrite router line⟩ (advance (at_ - (part s k).ptick) s)

variable (own : partOf s router = some k) (next : nextResult (part s k) router = some (at_, line))
  (runs : tickRuns s = true) (done : s.clk.frameDone = true) (awake : (part s k).parked = false)
  (inFrame : frameOffset s + (at_ - (part s k).ptick) < 4096)
include own next runs done awake inFrame

theorem exec_dispatchResultWrite_good (valid : (captured (atResult k router at_ line s) router up).valid = true)
    (parity : (captured (atResult k router at_ line s) router up).parityOk = true) :
    exec (.dispatchResultWrite router up) s = .next (noteLine k router line (schedWrite router line
      (captured (atResult k router at_ line s) router up) fullMask (atResult k router at_ line s))) := by
  change execDispatchResultWrite router up s = _
  unfold atResult at valid parity ⊢
  simp only [execDispatchResultWrite, own, next, runs, done, awake, Nat.not_le.mpr inFrame, valid, parity,
    checkedBeat_of_parity parity, Bool.not_true, decide_false, Bool.or_self, Bool.false_eq_true, if_true, if_false]

theorem exec_dispatchResultWrite_idle (idle : (captured (atResult k router at_ line s) router up).valid = false) :
    exec (.dispatchResultWrite router up) s =
      .next (noteWrite k router line 1 none false (socketStall router false (atResult k router at_ line s))) := by
  change execDispatchResultWrite router up s = _
  unfold atResult at idle ⊢
  simp only [execDispatchResultWrite, own, next, runs, done, awake, Nat.not_le.mpr inFrame, idle,
    Bool.not_true, Bool.not_false, decide_false, Bool.or_self, Bool.false_eq_true, if_true, if_false]

end

/-- A result without a beat is a stall of its cell: the partition is to be held. -/
theorem idleResult_holds {router k line : Nat} {u : State} (own : partOf u router = some k) (quiet : u.tiles.perrs = [])
    (plane : u.PlaneWf) :
    let t := noteWrite k router line 1 none false (socketStall router false u)
    ((part t k).holdPend = true ∧ OnlyPart k u t) ∧ Touches [.parts, .tiles, .ctl, .counters] u t := by
  have unmasked : u.tiles.perrs.any (fun e => e.1 == router && decide (u.clk.tick.toNat ≤ e.2 + 8)) = false := by
    rw [quiet]
    rfl
  have wf : Tab.wf Part.reset (rememberStall router u).parts = true := plane.1
  dsimp only
  rw [socketStall_reported own unmasked]
  refine ⟨⟨?_, ?_⟩, (rememberStall_touches.mono rfl).trans
    ((reportBreach_touches.mono rfl).trans ((noteWrite_touches _ _ _ _ _ _ _).mono rfl))⟩
  · rw [noteWrite_holdPend _ _ _ _ _ _ _ (reportBreach_wf wf), part_reportBreach wf]
  · have taken : OnlyPart k u (reportBreach 0x300B stTileFault router k (rememberStall router u)) :=
      .trans (.of_parts rfl) reportBreach_onlyPart
    exact taken.trans (noteWrite_onlyPart _ _ _ _ _ _ _)

/-! ### FOLD_STEP, RNG and UPDATE -/

section
variable {e : EvRef} {rd : Ready} {s : State}

theorem exec_foldStep {prog : FoldProg} {st : FoldStepRec} (ready : readyEvent s e kFold = some rd)
    (program : rd.image.foldProg rd.ev.arg = some prog)
    (step : rd.image.foldStep prog rd.pattern e.router e.index = some st)
    (first : (foldOperand rd.part e.router st.first rd.ev.out rd.ev.bsel prog.type (advance rd.wait s)).2 = advance rd.wait s)
    (second : (foldOperand rd.part e.router st.second rd.ev.out rd.ev.bsel prog.type (advance rd.wait s)).2 =
      advance rd.wait s) :
    let u := advance rd.wait s
    let a := (foldOperand rd.part e.router st.first rd.ev.out rd.ev.bsel prog.type u).1
    let b := (foldOperand rd.part e.router st.second rd.ev.out rd.ev.bsel prog.type u).1
    exec (.foldStep e) s = .next (addDue rd.part [⟨(part u rd.part).ptick + 2, .foldOut e.router rd.ev.inp rd.ev.out
      (foldCombine prog.type a.1 b.1) prog.type prog.sr (a.2 || b.2) rd.ev.bsel⟩] u) := by
  change execFoldStep e s = _
  rw [execFoldStep, atEvent_ready ready]
  simp only [program, step, first, second]

theorem exec_rng {d : TrainDesc} (ready : readyEvent s e kRng = some rd) (desc : rd.image.trainDesc rd.ev.arg = some d) :
    let u := advance rd.wait s
    let p := part u rd.part
    let x := paramLine u e.router d.paramLine
    let out := mkRng (BitVec.ofNat 64 d.key) (rngCounter d.ctrBase e.router (rd.ev.offset e.occ) (runFrameOf p) rd.ctx (prmStep x.1))
    exec (.rng e) s = .next (if bit1 rd.ev.out portSlice
      then addDue rd.part [⟨p.ptick + 3, .rngWrite e.router (rd.line e) (rd.ev.offset e.occ % 4) out x.2⟩] u
      else updPipe rd.part (fun q => { q with foldBits := ⟨e.router, p.ptick, out, x.2⟩ :: q.foldBits }) u) := by
  change execRng e s = _
  rw [execRng, atEvent_ready ready]
  simp only [desc]

/-- The first part of an update step: the gradient is captured, and the rest falls due from the next tick on (R507). -/
def updateJob (e : EvRef) (rd : Ready) (d : TrainDesc) (g : BitVec 1024 × Bool) (u : State) : Due :=
  let x := paramLine u e.router d.paramLine
  let b := (schedRead e.router (rd.line e) u).1
  ⟨(part u rd.part).ptick + 1, .updRead ⟨e.router, rd.line e, d, rd.ev.offset e.occ, runFrameOf (part u rd.part), rd.ctx,
    g.1, g.2, x.1, x.2, b.data, b.poison, 0, false⟩⟩

theorem exec_update {d : TrainDesc} {g : BitVec 1024 × Bool} (ready : readyEvent s e kUpdate = some rd)
    (desc : rd.image.trainDesc rd.ev.arg = some d)
    (taken : gradient rd.part e.router rd.ev.inp rd.ev.bsel (advance rd.wait s) = (some g, advance rd.wait s))
    (still : (schedRead e.router (rd.line e) (advance rd.wait s)).2 = advance rd.wait s) :
    exec (.update e) s = .next (addDue rd.part [updateJob e rd d g (advance rd.wait s)]
      (holdRead rd.part e.router (rd.line e) (schedRead e.router (rd.line e) (advance rd.wait s)).1 (advance rd.wait s))) := by
  obtain ⟨grad, poison⟩ := g
  change execUpdate e s = _
  rw [execUpdate, atEvent_ready ready]
  simp only [desc, taken, portRead_of_still still]
  rfl

theorem exec_update_idle {d : TrainDesc} (ready : readyEvent s e kUpdate = some rd)
    (desc : rd.image.trainDesc rd.ev.arg = some d)
    (taken : gradient rd.part e.router rd.ev.inp rd.ev.bsel (advance rd.wait s) = (none, advance rd.wait s)) :
    exec (.update e) s = .next (dataPathBreach 0x4009 e.router (countIdleOp e.router (advance rd.wait s))) := by
  change execUpdate e s = _
  rw [execUpdate, atEvent_ready ready]
  simp only [desc, taken]

/-- An update step without its gradient is a breach: it stores nothing, puts no work into the pipelines, and has the partition
held (R143). -/
theorem idleGradient_holds {router k : Nat} {u : State} (own : partOf u router = some k) (plane : u.PlaneWf) :
    let t := dataPathBreach 0x4009 router (countIdleOp router u)
    (t.buf.mem = u.buf.mem ∧ (part t k).holdPend = true ∧ (part t k).pipe.due = (part u k).pipe.due ∧ OnlyPart k u t) ∧
      Touches [.parts, .buf, .ctl, .counters] u t := by
  have own' : partOf (countIdleOp router u) router = some k := own
  have taken := part_reportBreach (reason := 0x4009) (status := stDataPath) (router := router) (k := k)
    (u := countIdleOp router u) plane.1
  have frame := reportBreach_touches (reason := 0x4009) (status := stDataPath) (router := router) (k := k)
    (u := countIdleOp router u)
  dsimp only
  rw [dataPathBreach_eq own', taken, frame .buf (by decide)]
  exact ⟨⟨rfl, rfl, rfl, .trans (.of_parts rfl) reportBreach_onlyPart⟩,
    ((countIdleOp_touches _ _).mono rfl).trans (frame.mono rfl)⟩

/-- What an update step with its gradient leaves: its next part due, and the read of its first line held for merges. -/
theorem update_queued {d : TrainDesc} {g : BitVec 1024 × Bool} {u : State} (plane : u.PlaneWf) :
    let t := addDue rd.part [updateJob e rd d g u] (holdRead rd.part e.router (rd.line e) (schedRead e.router (rd.line e) u).1 u)
    ((part t rd.part).pipe.due = (part u rd.part).pipe.due ++ [updateJob e rd d g u] ∧ OnlyPart rd.part u t) ∧
      Touches [.parts] u t :=
  ⟨⟨due_addDue_holdRead _ plane.1, .trans (onlyPart_updPart _ _ _) (addDue_onlyPart _)⟩,
    (updPart_touches _ _ _).trans (addDue_touches _ _ _)⟩

end

section
variable {router : Nat} {rd : Ready} {u : State}

theorem gradient_accumulator (fold : rd.ev.inp = portFold) : gradient rd.part router rd.ev.inp rd.ev.bsel u =
    (some ((Tab.get FoldAcc.zero u.buf.acc router).value, (Tab.get FoldAcc.zero u.buf.acc router).poison), u) := by
  simp only [gradient, fold, if_true]

theorem gradient_beat (port : rd.ev.inp ≠ portFold) (valid : (writeBeat u rd router 1).valid = true)
    (parity : (writeBeat u rd router 1).parityOk = true) : gradient rd.part router rd.ev.inp rd.ev.bsel u =
      (some (gradOfBeat (writeBeat u rd router 1).data, (writeBeat u rd router 1).poison), u) := by
  simp only [gradient, port, if_false, takeInput_sound (.inr parity), valid, if_true]

theorem gradient_idle (port : rd.ev.inp ≠ portFold) (idle : (writeBeat u rd router 1).valid = false) :
    gradient rd.part router rd.ev.inp rd.ev.bsel u = (none, u) := by
  simp only [gradient, port, if_false, takeInput_sound (.inl idle), idle, Bool.false_eq_true]

end

/-- Settles O10: each event at its tick puts the next part of its work into the pipelines of its partition alone; an idle
result or gradient writes nothing and has the partition held. -/
theorem computeEvents : Obligations.ComputeEvents := by
  unfold Obligations.ComputeEvents
  refine ⟨fun e rd c s ready plane cls => ?dispatched,
    fun router k at_ line up s own next runs done awake inFrame valid parity wf held _ => ?written,
    fun e rd prog st s ready plane program step first second => ?folded,
    fun e rd d s ready plane desc slice => ?drawnForSlice,
    fun e rd d s ready plane desc fold still => ?updated,
    fun router k at_ line up s own next runs done awake inFrame idle quiet plane own' => ?stalled,
    fun e rd d s ready plane desc adder => ?drawnForFold,
    fun e rd d s ready plane desc port idle own => ?idled,
    fun e rd d s ready plane desc port valid parity still => ?updatedFromBeat⟩
  case dispatched =>
    exact ⟨_, exec_dispatch ready cls, ⟨due_addDue _ plane.1, rfl, .trans (.of_parts rfl) (addDue_onlyPart _)⟩,
      ((sendDispatch_touches _ _ _).mono rfl).trans ((addDue_touches _ _ _).mono rfl)⟩
  case written =>
    exact ⟨_, exec_dispatchResultWrite_good own next runs done awake inFrame valid parity, noteLine_stores wf held,
      noteLine_schedWrite_touches⟩
  case folded =>
    exact ⟨_, exec_foldStep ready program step first second, ⟨due_addDue _ plane.1, addDue_onlyPart _⟩,
      addDue_touches _ _ _⟩
  case drawnForSlice =>
    exact ⟨_, (exec_rng ready desc).trans (congrArg _ (if_pos slice)), ⟨due_addDue _ plane.1, addDue_onlyPart _⟩,
      addDue_touches _ _ _⟩
  case updated =>
    exact ⟨_, exec_update ready desc (gradient_accumulator fold) still, update_queued plane⟩
  case stalled =>
    exact ⟨_, exec_dispatchResultWrite_idle own next runs done awake inFrame idle, idleResult_holds own' quiet plane⟩
  case drawnForFold =>
    refine ⟨_, (exec_rng ready desc).trans (congrArg _ (if_neg (by rw [adder]; decide))), ⟨?_, updPipe_onlyPart _ _ _⟩,
      updPipe_touches _ _ _⟩
    rw [part_updPipe _ _ _ plane.1]
  case idled =>
    exact ⟨_, exec_update_idle ready desc (gradient_idle port idle), idleGradient_holds own plane⟩
  case updatedFromBeat =>
    exact ⟨_, exec_update ready desc (gradient_beat port valid parity) still, update_queued plane⟩

end Sys2Proof.Machine
end

section
/-! Messages to a tile (R221 to R223) and its failure (R227): what a message, and a change of the tile before it, leave of the
tile and send. -/

namespace Sys2Proof.Machine

/-! ### A tile that is in use -/

/-- The tile is in use, so its entry in the table is no default. -/
def Tile.InUse (x : Tile) : Prop := x.step ≠ .off ∨ x.trst = true ∨ x.full = true ∨ x.laneChunks ≠ 0

theorem Tile.inUse_of_step {x : Tile} {st : TileStep} (step : x.step = st) (ne : st ≠ .off) : x.InUse :=
  .inl (step ▸ ne)

theorem Tile.inUse_of_trst {x : Tile} (trst : x.trst = true) : x.InUse := .inr (.inl trst)

theorem Tile.inUse_of_full {x : Tile} (full : x.full = true) : x.InUse := .inr (.inr (.inl full))

/-- A transfer of the tile's lane map is under way. -/
theorem Tile.inUse_of_transfer {x : Tile} (transfer : x.laneChunks ≠ 0) : x.InUse := .inr (.inr (.inr transfer))

theorem Tile.InUse.ne_reset {x : Tile} (use : x.InUse) : x ≠ Tile.reset := by
  rintro rfl
  simp [Tile.InUse, Tile.reset] at use

section
variable {n sub chunk content bytes seq reason detail : Nat} {bs : List Block} {f : Tile → Tile} {s t : State}

theorem tileAt_updTile_inUse (use : (f (tileAt s n)).InUse) : tileAt (updTile n f s) n = f (tileAt s n) :=
  Tab.get_set_of_ne_default use.ne_reset _ _

theorem Touches.tileAt_eq (h : Touches bs s t) (keeps : Block.tiles ∉ bs) : tileAt t n = tileAt s n := by
  have tiles : t.tiles = s.tiles := h .tiles keeps
  rw [tileAt, tiles, tileAt]

/-! ### Messages -/

/-- The tile with the SEQ of its next message. -/
def Tile.sent (x : Tile) : Tile := { x with seqOut := x.seqOut + 1 }

theorem sendTile_out : (sendTile n sub chunk content bytes s).out = s.out ++ [tileOutput s n sub chunk content bytes] := rfl

theorem tileAt_sendTile (use : (tileAt s n).InUse) :
    tileAt (sendTile n sub chunk content bytes s) n = (tileAt s n).sent :=
  tileAt_updTile_inUse (f := Tile.sent) use

/-- The next message goes out to both tiles in the same way: by the next SEQ, the mode of the port, and the lane map. -/
structure Tile.SameWire (x y : Tile) : Prop where
  seqOut : y.seqOut = x.seqOut
  full : y.full = x.full
  laneMap : y.laneMap = x.laneMap

theorem tileOutput_congr (wire : (tileAt s n).SameWire (tileAt t n)) :
    tileOutput t n sub chunk content bytes = tileOutput s n sub chunk content bytes := by
  simp only [tileOutput, svcFailed, wire.seqOut, wire.full, wire.laneMap]

/-- A message that follows a change of the tile, which leaves how the message goes out. -/
theorem sendTile_updTile (use : (f (tileAt s n)).InUse)
    (wire : (tileAt s n).SameWire (f (tileAt s n))) :
    tileAt (sendTile n sub chunk content bytes (updTile n f s)) n = (f (tileAt s n)).sent ∧
      (sendTile n sub chunk content bytes (updTile n f s)).out = s.out ++ [tileOutput s n sub chunk content bytes] := by
  have changed := tileAt_updTile_inUse use
  refine ⟨(tileAt_sendTile (changed ▸ use)).trans (congrArg Tile.sent changed), ?_⟩
  rw [sendTile_out, tileOutput_congr (s := s) (by rw [changed]; exact wire)]
  rfl

theorem sendTile_updTile_touches : Touches [.tiles, .out] s (sendTile n sub chunk content bytes (updTile n f s)) :=
  ((updTile_touches _ _ _).mono rfl).trans (sendTile_touches _ _ _ _ _ _)

/-- A message that follows such a change is sent in every state that goes onward. -/
theorem sendTile_updTile_sent (use : (f (tileAt s n)).InUse)
    (wire : (tileAt s n).SameWire (f (tileAt s n)))
    (later : Onward (sendTile n sub chunk content bytes (updTile n f s)) t) :
    Sent (tileOutput s n sub chunk content bytes) s t :=
  .of_onward later (sendTile_updTile use wire).2

theorem sendAck_sent (later : Onward (sendAck n seq s) t) : Sent (tileOutput s n mAck 0 seq 4) s t :=
  .of_onward later sendTile_out

/-! ### Failure (R227) -/

/-- The tile failed discovery: it is in reset without VDDT, with its reason. -/
def TileFailed (n reason : Nat) (t : State) : Prop :=
  (tileAt t n).step = TileStep.failed ∧ (tileAt t n).trst = false ∧ (tileAt t n).vddt = false ∧
    (tileAt t n).failReason = reason

/-- Besides the tile, its failure changes the map that the next merge takes over, and what the running combination of firmware
decides. -/
theorem dropTile_keeps_tile : tileAt (dropTile n reason s) n = tileAt (updTile n (fun x => { x with
    step := .failed, trst := false, vddt := false, vddtReached := false, failReason := reason }) s) n := by
  unfold dropTile
  exact ((tileCombination_touches _).tileAt_eq (by decide)).trans
    (Touches.tileAt_eq (upd_fmap (bs := [.fmap]) rfl (.refl _ _)) (by decide))

theorem dropTile_failed : TileFailed n reason (dropTile n reason s) := by
  rw [TileFailed, dropTile_keeps_tile, tileAt_updTile_inUse (Tile.inUse_of_step (st := .failed) rfl (by decide))]
  exact ⟨rfl, rfl, rfl, rfl⟩

theorem failTile_failed : TileFailed n reason (failTile n reason detail s) := dropTile_failed

end

/-! ### The boot image of a tile (R228) -/

section
variable {s t : State} (fw : t.fw = s.fw)
include fw

theorem packageStatus_of_fw : packageStatus t = packageStatus s := by
  unfold packageStatus svnMinimum
  rw [fw]

theorem fwSlot_of_fw : fwSlot t = fwSlot s := by
  unfold fwSlot
  rw [fw]

theorem tileBootPackage_of_fw (vendor : Nat) : tileBootPackage t vendor = tileBootPackage s vendor := by
  unfold tileBootPackage bundlePackages
  rw [fwSlot_of_fw fw, fw]

/-- The firmware and the identity record decide the boot image. -/
theorem bootImage_of_fw {x y : Tile} (ident : y.ident = x.ident) : bootImage t y = bootImage s x := by
  unfold bootImage Tile.vendor Tile.bootIf
  rw [ident, tileBootPackage_of_fw fw, fwSlot_of_fw fw, packageStatus_of_fw fw, fw]

end

end Sys2Proof.Machine
end

section
/-! Socket status, unreserved beats, tile errors and sensor frames (R218, R223, R232, R234, R239): the state that each command
reaches, branch by branch. -/

namespace Sys2Proof.Machine

/-! ### Socket status (R218) -/

section
variable {router k : Nat} {s : State}

theorem exec_socketStatus_stall : exec (.socketStatus router 1) s = .next (socketStall router false s) := rfl

theorem exec_socketStatus_parity : exec (.socketStatus router 2) s = .next (bondParity router s) := rfl

theorem exec_socketStatus_tileError : exec (.socketStatus router 4) s = .next (socketStall router true s) := rfl

theorem stall_touches (room : s.ctl.faultQ.length < 256) :
    Touches [.parts, .ctl, .tiles] s (reportBreach 0x300B stTileFault router k (rememberStall router s)) :=
  (rememberStall_touches.mono rfl).trans ((reportBreach_room_touches (u := rememberStall router s) room).mono rfl)

/-- A bond parity breach is remembered for 8 ticks. -/
def rememberParity (router : Nat) (s : State) : State :=
  { s with tiles := { s.tiles with perrs :=
      (router, s.clk.tick.toNat) :: s.tiles.perrs.filter fun e => decide (s.clk.tick.toNat ≤ e.2 + 8) } }

theorem rememberParity_touches : Touches [.tiles] s (rememberParity router s) :=
  upd_tiles rfl (.refl _ _)

theorem bondParity_eq : bondParity router s = dataPathBreach 0x300D router (withdrawStall router (rememberParity router s)) := rfl

theorem bondParity_alone (own : partOf s router = some k) (alone : recentStall s router = none) :
    bondParity router s = reportBreach 0x300D stDataPath router k (rememberParity router s) := by
  have alone' : recentStall (rememberParity router s) router = none := alone
  have own' : partOf (rememberParity router s) router = some k := own
  rw [bondParity_eq, withdrawStall, alone', dataPathBreach_eq own']

/-- The stall of a cell is forgotten and its report, if it still waits, is taken back. -/
def takeBackStall (router : Nat) (e : Nat × Nat × Bool) (s : State) : State :=
  { s with
    ctl := { s.ctl with faultQ := s.ctl.faultQ.eraseP fun p => p.reason == 0x300B && p.unit == router }
    tiles := { s.tiles with stalls := s.tiles.stalls.erase e } }

/-- The run's breach was the stall's, so it becomes that of the data path. -/
def withdrawn (router k : Nat) (e : Nat × Nat × Bool) (s : State) : State :=
  updRun k (fun r => { r with breach := if e.2.2 && r.breach == some stTileFault then some stDataPath else r.breach })
    (takeBackStall router e s)

theorem withdrawn_touches {e : Nat × Nat × Bool} : Touches [.parts, .ctl, .tiles] s (withdrawn router k e s) :=
  (upd_ctl_tiles rfl (.refl _ _)).trans ((updRun_touches _ _ _).mono rfl)

theorem bondParity_withdrawing {e : Nat × Nat × Bool} (own : partOf s router = some k)
    (recent : recentStall s router = some e) :
    bondParity router s = reportBreach 0x300D stDataPath router k (withdrawn router k e (rememberParity router s)) := by
  have recent' : recentStall (rememberParity router s) router = some e := recent
  have own' : partOf (takeBackStall router e (rememberParity router s)) router = some k := own
  have own'' : partOf (withdrawn router k e (rememberParity router s)) router = some k := own
  unfold takeBackStall at own'
  rw [← dataPathBreach_eq own'', bondParity_eq, withdrawStall, recent']
  simp only [own']
  rfl

/-- A stall that raised the run's breach and the parity breach after it are reported as the parity breach alone. -/
theorem bondParity_withdraws_stall {at_ : Nat} {r : Run} (own : partOf s router = some k) (room : s.ctl.faultQ.length < 256)
    (recent : recentStall s router = some (router, at_, true)) (run : (part s k).run = some r)
    (stalled : r.breach = some stTileFault) (plane : s.PlaneWf) :
    let t := bondParity router s
    (t.ctl.faultQ = s.ctl.faultQ.eraseP (fun (p : FaultPkt) => p.reason == 0x300B && p.unit == router) ++
        [⟨0x300D, 4, router, none, controlNode router, controlSub router⟩] ∧
      (part t k).run = some { r with breach := some stDataPath } ∧ (part t k).holdPend = true ∧ OnlyPart k s t) ∧
      Touches [.parts, .ctl, .tiles] s t := by
  have wf : Tab.wf Part.reset (withdrawn router k (router, at_, true) (rememberParity router s)).parts = true :=
    updRun_wf _ _ _ plane.1
  have room' : (withdrawn router k (router, at_, true) (rememberParity router s)).ctl.faultQ.length < 256 :=
    lt_of_le_of_lt List.length_eraseP_le room
  have before : (part (withdrawn router k (router, at_, true) (rememberParity router s)) k).run =
      some { r with breach := some stDataPath } := by
    rw [withdrawn, part_updRun _ _ (takeBackStall router _ (rememberParity router s)) plane.1]
    change (part s k).run.map _ = _
    simp [run, stalled]
  have first : OnlyPart k s (withdrawn router k (router, at_, true) (rememberParity router s)) :=
    .trans (.of_parts rfl) (onlyPart_updPart _ _ _)
  dsimp only
  rw [bondParity_withdrawing own recent]
  obtain ⟨queued, held, taken, only⟩ := reportBreach_cellBreach (reason := 0x300D) (status := stDataPath) (router := router)
    (k := k) room' wf
  exact ⟨⟨queued, taken _ before, held, first.trans only⟩,
    ((rememberParity_touches.mono rfl).trans withdrawn_touches).trans ((reportBreach_room_touches room').mono rfl)⟩

end

/-! ### Unreserved beats (R234) -/

section
variable {router k : Nat} {b : BeatIn} {s : State}
  (valid : b.valid = true) (own : partOf s router = some k)
include valid own

theorem exec_unreservedUpBeat_discarded (bound : quiescing s (part s k) = true) :
    exec (.unreservedUpBeat router b) s = .next s := by
  change execUnreservedUpBeat router b s = _
  simp only [execUnreservedUpBeat, valid, own, bound, Bool.not_true, Bool.false_eq_true, if_true, if_false]

theorem exec_unreservedUpBeat_stall (late : quiescing s (part s k) = false) :
    exec (.unreservedUpBeat router b) s = .next (socketStall router false s) := by
  change execUnreservedUpBeat router b s = _
  simp only [execUnreservedUpBeat, valid, own, late, Bool.not_true, Bool.false_eq_true, if_false]

end

/-! ### Tile errors (R223) -/

/-- An event below class 4 that the persistent log does not take is one entry of the event log. -/
theorem mpEvent_logs {reason sev unit detail : Nat} {s : State} (low : sev < 4) (unlogged : isLogged reason sev false = false) :
    (mpEvent reason sev unit detail s).logs =
      appendEntry ⟨s.logs.next, s.clk.tick, reason, sev, false, 0x100, unit, detail, false⟩ s.logs := by
  simp only [mpEvent, logEntry, logExt, unlogged, Nat.not_le.mpr low, Bool.false_eq_true, if_false]
  exact evtAttention_touches _ _ .logs (by decide)

section
variable {n : Nat} {rx : List SvcClock} {d : Discovery} {s : State}

theorem exec_tileError_heard (message : heard s n mError rx = some d) :
    exec (.tileError n rx) s = .next (mpEvent 0x300F 0 n (bits d.content 0 32) (sendAck n d.seq s)) := by
  change execTileError n rx s = _
  simp only [execTileError, message]

theorem exec_tileError_lost (lost : heard s n mError rx = none) : exec (.tileError n rx) s = .next s := by
  change execTileError n rx s = _
  simp only [execTileError, lost]

theorem tileError_logs : (mpEvent 0x300F 0 n (bits d.content 0 32) (sendAck n d.seq s)).logs =
    appendEntry ⟨s.logs.next, s.clk.tick, 0x300F, 0, false, 0x100, n, bits d.content 0 32, false⟩ s.logs :=
  mpEvent_logs (by decide) (by decide)

end

/-! ### Sensor frames (R232, R239) -/

section
variable {n : Nat} {l : List (BitVec 16)} {crc : BitVec 16} {good : Bool} {s : State}

/-- The CRC of a frame holds, and none of its readings is invalid. -/
def frameUsable (l : List (BitVec 16)) (crc : BitVec 16) : Bool :=
  l.length == 8 && frameCrc Config.crc16Init l == crc && !(l.contains 0x8000)

/-- The tile keeps the frame. -/
def keepFrame (n : Nat) (l : List (BitVec 16)) (crc : BitVec 16) (s : State) : State :=
  updTile n (fun y => { y with readings := l, usable := frameUsable l crc }) s

/-- The sensors of a tile are judged by its frame, and their coverage. -/
def judgeFrame (n : Nat) (l : List (BitVec 16)) (good : Bool) (s : State) : State :=
  let s2 := noteCoverage (n + 1) (if good then usableFrame n l s else unusableFrame n s)
  evaluateFor (0xA003, n + 1) (coverageLow s2 (n + 1)) s2

theorem judgeFrame_touches :
    Touches [.ctl, .rings, .regs, .logs, .pm, .counters, .out] s (judgeFrame n l good s) :=
  have judged : Touches [.ctl, .pm, .counters] s (if good then usableFrame n l s else unusableFrame n s) :=
    touches_ite (usableFrame_touches _ _ _) (unusableFrame_touches _ _)
  (judged.mono rfl).trans (((noteCoverage_touches _ _).mono rfl).trans ((evaluateFor_touches _ _ _).mono rfl))

theorem exec_tileSensorFrame_up (up : (tileAt s n).trst = true) : exec (.tileSensorFrame n l crc) s =
    .next (if !pmRuns s then keepFrame n l crc s else judgeFrame n l (frameUsable l crc) (keepFrame n l crc s)) := by
  change execTileSensorFrame n l crc s = _
  simp only [execTileSensorFrame, up, Bool.not_true, Bool.false_eq_true, if_false]
  rfl

theorem exec_tileSensorFrame_down (down : (tileAt s n).trst = false) : exec (.tileSensorFrame n l crc) s = .next s := by
  change execTileSensorFrame n l crc s = _
  simp only [execTileSensorFrame, down, Bool.not_false, if_true]

theorem judged_keepFrame_touches : Touches [.ctl, .rings, .regs, .logs, .pm, .counters, .out] (keepFrame n l crc s)
    (if !pmRuns s then keepFrame n l crc s else judgeFrame n l (frameUsable l crc) (keepFrame n l crc s)) :=
  touches_ite (.refl _ _) judgeFrame_touches

end

/-- Settles O34: a stall, a tile error and a parity breach each report their cell and have its partition held, a parity breach
also in place of the stall before it; a tile error is logged, and a frame is kept with whether it is usable. -/
theorem socketFaults : Obligations.SocketFaults := by
  unfold Obligations.SocketFaults
  refine ⟨fun router s => ⟨s, rfl, rfl, .refl _ _⟩,
    fun router k s own room unmasked plane => ?stall,
    fun router s masked => ?masked,
    fun router k s own room plane => ?tileError,
    fun router k s own room alone plane => ?parity,
    fun router k at_ r s own room recent run stalled plane => ?withdrawing,
    fun router k b s valid own bound => ⟨s, exec_unreservedUpBeat_discarded valid own bound, rfl, .refl _ _⟩,
    fun router k b s valid late own room unmasked plane => ?unreserved,
    fun n rx d s message => ?message,
    fun n rx s lost => ⟨s, exec_tileError_lost lost, rfl, .refl _ _⟩,
    fun n l crc s up => ?frame,
    fun n l crc s down => ⟨s, exec_tileSensorFrame_down down, rfl, .refl _ _⟩⟩
  case stall =>
    exact ⟨_, exec_socketStatus_stall.trans (congrArg _ (socketStall_reported own unmasked)),
      reportBreach_cellBreach (u := rememberStall router s) room plane.1, stall_touches room⟩
  case masked =>
    exact ⟨_, exec_socketStatus_stall.trans (congrArg _ (socketStall_masked masked)), ⟨rfl, rfl⟩, rememberStall_touches⟩
  case tileError =>
    exact ⟨_, exec_socketStatus_tileError.trans (congrArg _ (socketStall_tileError own)),
      reportBreach_cellBreach room plane.1, (reportBreach_room_touches room).mono rfl⟩
  case parity =>
    exact ⟨_, exec_socketStatus_parity.trans (congrArg _ (bondParity_alone own alone)),
      reportBreach_cellBreach (u := rememberParity router s) room plane.1,
      (rememberParity_touches.mono rfl).trans
        ((reportBreach_room_touches (u := rememberParity router s) room).mono rfl)⟩
  case withdrawing =>
    exact ⟨_, exec_socketStatus_parity, bondParity_withdraws_stall own room recent run stalled plane⟩
  case unreserved =>
    exact ⟨_, (exec_unreservedUpBeat_stall valid own late).trans (congrArg _ (socketStall_reported own unmasked)),
      reportBreach_cellBreach (u := rememberStall router s) room plane.1, stall_touches room⟩
  case message =>
    have run := exec_tileError_heard message
    refine ⟨_, run, ⟨?_, ?_, sendAck_sent mpEvent_onward, ?_⟩,
      ((sendAck_touches _ _ _).mono rfl).trans ((mpEvent_touches _ _ _ _ _).mono rfl)⟩
    all_goals
      rw [tileError_logs]
      rfl
  case frame =>
    refine ⟨_, exec_tileSensorFrame_up up, ?_, ((updTile_touches _ _ _).mono rfl).trans (judged_keepFrame_touches.mono rfl)⟩
    exact (judged_keepFrame_touches.tileAt_eq (by decide)).trans (tileAt_updTile_inUse (Tile.inUse_of_trst up))

end Sys2Proof.Machine
end

section
/-! Steps of tile discovery (R221 to R228, R248, R249, R260, R560): the state that each message, expired bound and power step
reaches, branch by branch. -/

namespace Sys2Proof.Machine

theorem chunkBits : 8 * chunkBytes = 736 := rfl

/-! ### HELLO (R226) -/

section
variable {n : Nat} {s : State} (runs : mpRuns s = true)

theorem exec_helloRetry_away (away : mpRuns s = false) : exec (.helloRetry n) s = .next s := by
  change execHelloRetry n s = _
  simp only [execHelloRetry, away, Bool.not_false, if_true]

include runs

theorem exec_helloRetry_power (power : (tileAt s n).step = TileStep.power) : exec (.helloRetry n) s =
    .next (sendTile n mHello 0 0 0 (updTile n (fun y => { y with step := .hello, trst := true, hellos := 1 }) s)) := by
  change execHelloRetry n s = _
  simp only [execHelloRetry, runs, power, Bool.not_true, Bool.false_eq_true, if_true, if_false]

theorem exec_helloRetry_again (hello : (tileAt s n).step = TileStep.hello) (few : (tileAt s n).hellos < 10) :
    exec (.helloRetry n) s = .next (sendTile n mHello 0 0 0 (updTile n (fun y => { y with hellos := y.hellos + 1 }) s)) := by
  change execHelloRetry n s = _
  simp [execHelloRetry, runs, hello, few]

theorem exec_helloRetry_last (hello : (tileAt s n).step = TileStep.hello) (many : 10 ≤ (tileAt s n).hellos) :
    exec (.helloRetry n) s = .next (failTile n 0x3001 0 s) := by
  change execHelloRetry n s = _
  simp [execHelloRetry, runs, hello, many]

end

/-! ### IDENT (R224, R226, R227) -/

section
variable {n : Nat} {rx : List SvcClock} {d : Discovery} {s u : State} {x : Tile}

/-- The tile with one more chunk of its identity record. -/
def takeIdent (d : Discovery) (x : Tile) : Tile :=
  { x with
    step := .ident, chunk := d.chunk + 1, seqIn := BitVec.ofNat 8 d.seq
    ident := x.ident + (d.content % 2 ^ 736) * 2 ^ (736 * d.chunk) }

/-- The length of the identity record as its first chunks tell it: the fixed part at least, until the class count is read. -/
def identDue (d : Discovery) (x : Tile) : Nat := if d.chunk = 0 then max (identLength x) 64 else identLength x

theorem identFault_of_fw (fw : u.fw = s.fw) : identFault u n x = identFault s n x := by
  unfold identFault
  rw [bootImage_of_fw fw rfl]

theorem identDone_refused {r : Nat} (fault : identFault s n (tileAt s n) = some r) : TileFailed n r (identDone n s) := by
  simp only [identDone, fault]
  exact failTile_failed

theorem identDone_trains (sound : identFault s n (tileAt s n) = none) : (tileAt (identDone n s) n).step = TileStep.train := by
  simp only [identDone, sound]
  rw [tileAt_updTile_inUse (Tile.inUse_of_step (st := .train) rfl (by decide))]

/-- The chunk is acknowledged, and the record is judged once it is whole. -/
def identTaken (n : Nat) (d : Discovery) (s : State) : State :=
  let u := sendAck n d.seq (updTile n (takeIdent d) s)
  if identDue d (tileAt u n) ≤ chunkBytes * (d.chunk + 1) then identDone n u else u

theorem exec_ident_expected (message : heard s n mIdent rx = some d) (expected : identExpected (tileAt s n) d = true) :
    exec (.ident n rx) s = .next (identTaken n d s) := by
  change execIdent n rx s = _
  simp only [execIdent, message, expected, Bool.not_true, Bool.false_eq_true, if_false]
  rw [chunkBits]
  exact (apply_ite Host.Outcome.next ..).symm

theorem identTaken_sent : Sent (tileOutput s n mAck 0 d.seq 4) s (identTaken n d s) := by
  refine sendTile_updTile_sent (f := takeIdent d) (Tile.inUse_of_step (st := .ident) rfl (by decide)) ⟨rfl, rfl, rfl⟩ ?_
  exact .ite identDone_onward (.refl _)

/-- A whole record puts the tile into training or, with a fault, into reset; before, the tile waits for the next chunk. -/
theorem identTaken_outcome :
    let t := identTaken n d s
    let y := (takeIdent d (tileAt s n)).sent
    if identDue d y ≤ chunkBytes * (d.chunk + 1) then
      (tileAt t n).step = (if (identFault s n y).isSome then TileStep.failed else .train) ∧
        ((identFault s n y).isSome → (tileAt t n).failReason = (identFault s n y).getD 0)
    else tileAt t n = y := by
  have taken : tileAt (sendAck n d.seq (updTile n (takeIdent d) s)) n = (takeIdent d (tileAt s n)).sent :=
    (sendTile_updTile (Tile.inUse_of_step (st := .ident) rfl (by decide)) ⟨rfl, rfl, rfl⟩).1
  have judged : identFault (sendAck n d.seq (updTile n (takeIdent d) s)) n (takeIdent d (tileAt s n)).sent =
      identFault s n (takeIdent d (tileAt s n)).sent := identFault_of_fw rfl
  unfold identTaken
  dsimp only
  rw [taken]
  split
  · rw [← judged, ← taken]
    cases fault : identFault (sendAck n d.seq (updTile n (takeIdent d) s)) n
        (tileAt (sendAck n d.seq (updTile n (takeIdent d) s)) n) with
    | none => exact ⟨identDone_trains fault, nofun⟩
    | some r =>
      obtain ⟨step, -, -, reason⟩ := identDone_refused fault
      exact ⟨step, fun _ => reason⟩
  · exact taken

theorem exec_ident_again (message : heard s n mIdent rx = some d) (step : (tileAt s n).step = TileStep.ident)
    (before : d.chunk < (tileAt s n).chunk) : exec (.ident n rx) s = .next (sendAck n d.seq s) := by
  change execIdent n rx s = _
  simp [execIdent, message, identExpected, step, before, before.ne, ackAgain, Tile.talks]

end

/-! ### Training (R249, R256, R269) -/

section
variable {n : Nat} {cells : List CellTrain} {s u : State}

/-- The consents that wait for bonds of a tile. -/
def bondConsents (n : Nat) (s : State) : List Consent :=
  s.lanes.consent.filter fun c => entKind c.bundle == 1 && entTile c.bundle == n

/-- The MP consents to every width change of a tile's bonds. -/
def consentBonds (n : Nat) (s : State) : State := (bondConsents n s).foldl (fun u c => consentTo c u) s

/-- The training sequence has ended, and the sites are judged. -/
def bondsJudged (n : Nat) (cells : List CellTrain) (s : State) : State :=
  judgeBonds n cells (updTile n (fun y => { y with step := .trained })
    (if s.clk.tick.toNat < (tileAt s n).trainFrom + 1048575 then runTo ((tileAt s n).trainFrom + 1048575) s else s))

theorem exec_bondTrainingDone (train : (tileAt s n).step = TileStep.train) (runs : tickRuns s = true) :
    exec (.bondTrainingDone n cells) s = .next (if mpRuns (bondsJudged n cells s)
      then trainedTile n (bondsJudged n cells s) else bondsJudged n cells s) := by
  change execBondTrainingDone n cells s = _
  simp only [execBondTrainingDone, train, runs, ne_eq, not_true_eq_false, Bool.not_true, Bool.false_eq_true, or_self, if_false]
  rfl

theorem bondsJudged_step : (tileAt (bondsJudged n cells s) n).step = TileStep.trained := by
  rw [bondsJudged, (judgeBonds_touches _ _ _).tileAt_eq (by decide),
    tileAt_updTile_inUse (Tile.inUse_of_step (st := .trained) rfl (by decide))]

theorem consentTo_consent (c : Consent) : (consentTo c u).lanes.consent = u.lanes.consent.filter fun d => d.bundle != c.bundle := by
  unfold consentTo
  dsimp only
  split
  · rfl
  · rw [mpEvent_touches _ _ _ _ _ .lanes (by decide)]

/-- Once consented to, the width changes of a bundle wait no more. -/
theorem mem_consent_foldl {l : List Consent} {c : Consent}
    (waits : c ∈ (l.foldl (fun u c => consentTo c u) u).lanes.consent) :
    c ∈ u.lanes.consent ∧ ∀ e ∈ l, c.bundle ≠ e.bundle := by
  induction l generalizing u with
  | nil => exact ⟨waits, nofun⟩
  | cons e l ih =>
    obtain ⟨mem, others⟩ := ih waits
    rw [consentTo_consent, List.mem_filter] at mem
    obtain ⟨mem, other⟩ := mem
    exact ⟨mem, List.forall_mem_cons.mpr ⟨bne_iff_ne.mp other, others⟩⟩

theorem consentBonds_consent {c : Consent} (waits : c ∈ (consentBonds n u).lanes.consent) :
    ¬(entKind c.bundle = 1 ∧ entTile c.bundle = n) := by
  rintro ⟨kind, tile⟩
  obtain ⟨mem, others⟩ := mem_consent_foldl waits
  exact others c (List.mem_filter.mpr ⟨mem, by simp [kind, tile]⟩) rfl

theorem trainedTile_delivers (working : svcLost (consentBonds n u) n = false)
    (fits : (tileMap (consentBonds n u).lanes n).length ≤ 8192) : trainedTile n u = startLanes n (consentBonds n u) := by
  unfold consentBonds bondConsents at working fits ⊢
  simp only [trainedTile, working, Nat.not_lt.mpr fits, Bool.not_false, if_true, if_false]

theorem trainedTile_failed (lost : svcLost (consentBonds n u) n = true) : TileFailed n 0x2004 (trainedTile n u) := by
  unfold consentBonds bondConsents at lost
  simp only [trainedTile, lost, Bool.not_true, Bool.false_eq_true, if_false]
  exact dropTile_failed

end

/-! ### LANES (R222, R248) -/

section
variable {n chunk : Nat} {s : State}

/-- The entries of one chunk of a tile's map. -/
def lanesChunk (x : Tile) (chunk : Nat) : List Nat := ((x.laneMap ++ [0]).drop (23 * chunk)).take 23

theorem sendLanes_sent (use : (tileAt s n).InUse) :
    tileAt (sendLanes n chunk s) n = ({ tileAt s n with laneSeq := (tileAt s n).seqOut } : Tile).sent ∧
      (sendLanes n chunk s).out = s.out ++ [tileOutput s n mLanes chunk (wordsValue (lanesChunk (tileAt s n) chunk))
        (4 * (lanesChunk (tileAt s n) chunk).length)] :=
  sendTile_updTile (f := fun y => { y with laneSeq := y.seqOut }) use ⟨rfl, rfl, rfl⟩

theorem startLanes_tile : tileAt (startLanes n s) n = ({ tileAt s n with
    step := .lanes, laneMap := tileMap s.lanes n, chunk := 0, repeats := 0, laneChunks := (tileMap s.lanes n).length / 23 + 1
    laneSeq := (tileAt s n).seqOut } : Tile).sent := by
  have step := tileAt_updTile_inUse (n := n) (f := fun y => { y with step := .lanes }) (s := s)
    (Tile.inUse_of_step (st := .lanes) rfl (by decide))
  have map := tileAt_updTile_inUse (n := n)
    (f := fun y => { y with
      laneMap := tileMap s.lanes n, chunk := 0, repeats := 0, laneChunks := mapChunks (tileMap s.lanes n) })
    (s := updTile n (fun y => { y with step := .lanes }) s) (Tile.inUse_of_transfer (Nat.succ_ne_zero _))
  rw [startLanes, startTransfer, (sendLanes_sent (by rw [map]; exact Tile.inUse_of_transfer (Nat.succ_ne_zero _))).1, map, step]
  rfl

end

/-! ### DISCOVERY_ACK (R223, R226) -/

section
variable {n : Nat} {rx : List SvcClock} {d : Discovery} {s : State} (message : heard s n mAck rx = some d)
include message

section
variable (transfer : (tileAt s n).laneChunks ≠ 0) (seq : BitVec.ofNat 8 (bits d.content 0 8) = (tileAt s n).laneSeq)
include transfer seq

theorem exec_discoveryAck_chunk (more : (tileAt s n).chunk + 1 < (tileAt s n).laneChunks) :
    exec (.discoveryAck n rx) s = .next (sendLanes n ((tileAt s n).chunk + 1)
      (updTile n (fun y => { y with chunk := y.chunk + 1, repeats := 0 }) s)) := by
  change execDiscoveryAck n rx s = _
  simp only [execDiscoveryAck, message, transfer, seq, ne_eq, not_false_eq_true, if_true, lanesAcked, more]

theorem exec_discoveryAck_map (whole : (tileAt s n).laneChunks ≤ (tileAt s n).chunk + 1) :
    exec (.discoveryAck n rx) s = .next (updTile n (fun y => { y with
      step := if (tileAt s n).step = .lanes then .slew else (tileAt s n).step
      full := true, chunk := 0, laneChunks := 0, repeats := 0 }) s) := by
  change execDiscoveryAck n rx s = _
  simp only [execDiscoveryAck, message, transfer, seq, ne_eq, not_false_eq_true, if_true, lanesAcked, Nat.not_lt.mpr whole,
    if_false, beq_iff_eq]

end

section
variable (idle : (tileAt s n).laneChunks = 0) (seq : BitVec.ofNat 8 (bits d.content 0 8) = (tileAt s n).seqOut - 1)
include idle seq

theorem exec_discoveryAck_bootDone (boot : (tileAt s n).step = TileStep.boot)
    (whole : (tileAt s n).bootChunks ≤ (tileAt s n).chunk + 1) : exec (.discoveryAck n rx) s =
      .next (updTile n (fun y => { y with step := .bootDone, chunk := 0, repeats := 0 }) s) := by
  change execDiscoveryAck n rx s = _
  simp only [execDiscoveryAck, message, idle, seq, boot, ne_eq, not_true_eq_false, if_false, Nat.not_lt.mpr whole]

theorem exec_discoveryAck_boot (boot : (tileAt s n).step = TileStep.boot)
    (more : (tileAt s n).chunk + 1 < (tileAt s n).bootChunks) : exec (.discoveryAck n rx) s =
      .next (sendBoot n ((tileAt s n).chunk + 1) (updTile n (fun y => { y with chunk := y.chunk + 1, repeats := 0 }) s)) := by
  change execDiscoveryAck n rx s = _
  simp only [execDiscoveryAck, message, idle, seq, boot, ne_eq, not_true_eq_false, if_false, more, if_true]

theorem exec_discoveryAck_commit (commit : (tileAt s n).step = TileStep.commit) :
    exec (.discoveryAck n rx) s = .next (tileReady n s) := by
  change execDiscoveryAck n rx s = _
  simp only [execDiscoveryAck, message, idle, seq, commit, ne_eq, not_true_eq_false, if_false]

end

end

/-! ### BOOT and BOOT_DONE (R223, R227, R228, R560) -/

section
variable {n chunk : Nat} {f : Tile → Tile} {s : State}

/-- A chunk of the tile's boot image goes out after a change of the tile that keeps its identity; a tile whose vendor has no
valid image fails. -/
theorem sendBoot_outcome (use : (f (tileAt s n)).InUse) (ident : (f (tileAt s n)).ident = (tileAt s n).ident)
    (wire : (tileAt s n).SameWire (f (tileAt s n))) :
    let t := sendBoot n chunk (updTile n f s)
    if (bootImage s (tileAt s n)).isSome
    then tileAt t n = (f (tileAt s n)).sent ∧ t.out.length = s.out.length + 1 ∧ Touches [.tiles, .out] s t
    else TileFailed n 0x300A t := by
  have same : bootImage (updTile n f s) (tileAt (updTile n f s) n) = bootImage s (tileAt s n) :=
    bootImage_of_fw (updTile_touches n f s .fw (by decide)) (by rw [tileAt_updTile_inUse use, ident])
  dsimp only
  rw [sendBoot, same]
  cases bootImage s (tileAt s n) with
  | none => exact failTile_failed
  | some p =>
    obtain ⟨tile, out⟩ := sendTile_updTile (sub := mBoot) (chunk := chunk) use wire
    exact ⟨tile, (congrArg List.length out).trans List.length_append, sendTile_updTile_touches⟩

/-- The tile at VDDT_MV, with the chunks of its boot image to come. -/
def vddtStands (n : Nat) (s : State) (x : Tile) : Tile :=
  { x with
    step := .boot, vddtReached := true, chunk := 0, repeats := 0
    bootChunks := match bootImage s (tileAt s n) with
      | none => 0
      | some p => cdiv p.payload chunkBytes }

theorem exec_vddtReached (slew : (tileAt s n).step = TileStep.slew) (runs : mpRuns s = true) :
    exec (.vddtReached n) s = .next (sendBoot n 0 (updTile n (vddtStands n s) s)) := by
  change execVddtReached n s = _
  simp only [execVddtReached, slew, runs, ne_eq, not_true_eq_false, if_false, if_true]
  rfl

variable {rx : List SvcClock} {d : Discovery} (message : heard s n mBootDone rx = some d)
  (step : (tileAt s n).step = TileStep.bootDone)
include message step

theorem exec_bootDone_accepted (code : bits d.content 0 32 = 0) : exec (.bootDone n rx) s =
    .next (sendAck n d.seq (updTile n (fun y => { y with
      step := .spares, chunk := 0, repeats := 0, spares := 0, seqIn := BitVec.ofNat 8 d.seq }) s)) := by
  change execBootDone n rx s = _
  simp only [execBootDone, message, step, code, ne_eq, not_true_eq_false, if_false]

theorem exec_bootDone_refused (code : bits d.content 0 32 = 1 ∨ bits d.content 0 32 = 2) : exec (.bootDone n rx) s =
    .next (failTile n (0x3007 + bits d.content 0 32) 0 (sendAck n d.seq s)) := by
  change execBootDone n rx s = _
  rcases code with code | code <;>
    simp only [execBootDone, message, step, code, ne_eq, not_true_eq_false, if_false]

end

/-! ### SPARES and COMMIT (R225 to R227) -/

section
variable {n : Nat} {s : State}

/-- The tile with one more chunk of its spare state, of which so many bits count. -/
def takeSpares (d : Discovery) (bits : Nat) (x : Tile) : Tile :=
  { x with
    chunk := d.chunk + 1, seqIn := BitVec.ofNat 8 d.seq
    spares := x.spares + (d.content % 2 ^ bits) * 2 ^ (736 * d.chunk) }

section
variable {rx : List SvcClock} {d : Discovery} (message : heard s n mSpares rx = some d)
  (step : (tileAt s n).step = TileStep.spares) (next : d.chunk = (tileAt s n).chunk)
include message step next

theorem exec_spares_chunk (early : d.chunk < 5) :
    exec (.spares n rx) s = .next (sendAck n d.seq (updTile n (takeSpares d 736) s)) := by
  have more : d.chunk + 1 < 6 := by omega
  change execSpares n rx s = _
  simp only [execSpares, message, step, ← next, ne_eq, not_true_eq_false, or_self, if_false, early.ne, more, if_true]
  rw [chunkBits]
  rfl

theorem exec_spares_last (last : d.chunk = 5) : exec (.spares n rx) s =
    .next (sendTile n mCommit 0 0 0 (updTile n (fun y => { y with step := .commit, repeats := 0 })
      (sendAck n d.seq (updTile n (takeSpares d (8 * 52)) s)))) := by
  have whole : ¬d.chunk + 1 < 6 := by omega
  have bytes : (if d.chunk = 5 then 52 else chunkBytes) = 52 := if_pos last
  change execSpares n rx s = _
  simp only [execSpares, message, step, ← next, ne_eq, not_true_eq_false, or_self, if_false, whole, bytes]
  rw [chunkBits]
  rfl

end

/-- In every table, the keys of a list read as the value that they were given, if an unlisted key does not. -/
theorem Tab.get_updAll_const {α : Type} [DecidableEq α] {d v : α} (ne : v ≠ d) {m : Tab α} {l : List Nat} {i : Nat}
    (mem : i ∈ l) : Tab.get d (Tab.updAll d m l fun _ _ => v) i = v := by
  induction l generalizing m with
  | nil => cases mem
  | cons j l ih =>
    by_cases later : i ∈ l
    · exact ih later
    · obtain rfl : i = j := (List.mem_cons.mp mem).resolve_right later
      exact (Tab.get_updAll_ne l _ later).trans (Tab.get_set_of_ne_default ne m i)

/-- The tile is committed and its fused cells enter the next merge; what follows is the firmware's. -/
def committed (n : Nat) (s : State) : State :=
  let outside := match partOf s (cornerRouter n) with
    | none => true
    | some k => (part s k).idleState != 0
  let s1 := updTile n (fun y => { y with step := .ready, chunk := 0, repeats := 0, gated := outside }) s
  { s1 with fmap := { s1.fmap with
    pendCluster := Tab.updAll 2 s1.fmap.pendCluster (fusedCells n (tileAt s n)) fun _ _ => 0 } }

theorem tileReady_after_committed :
    Touches [.rings, .regs, .logs, .fw, .pm, .lat, .counters, .out] (committed n s) (tileReady n s) := by
  unfold tileReady
  dsimp only
  refine Touches.trans ?_ (tileCombination_touches _)
  have pm : Touches [.pm] (committed n s) (if s.boot.starting
      then { committed n s with pm := { s.pm with shut := s.pm.shut.filter fun k => k != n } } else committed n s) :=
    touches_ite (upd_pm rfl (.refl _ _)) (.refl _ _)
  split
  · exact (pm.mono rfl).trans ((runPackage_touches _ _).mono rfl)
  · exact pm.mono rfl

theorem tileReady_step : (tileAt (tileReady n s) n).step = TileStep.ready := by
  rw [tileReady_after_committed.tileAt_eq (by decide)]
  exact congrArg Tile.step (tileAt_updTile_inUse (Tile.inUse_of_step (st := .ready) rfl (by decide)))

theorem tileReady_fuses {c : Nat} (fused : c ∈ fusedCells n (tileAt s n)) :
    Tab.get 2 (tileReady n s).fmap.pendCluster c = 0 := by
  rw [tileReady_after_committed .fmap (by decide)]
  exact Tab.get_updAll_const (by decide) fused

end

/-! ### Expired bounds, and discovery in service (R227, R260) -/

section
variable {n : Nat} {s : State} (runs : mpRuns s = true)
include runs

theorem exec_discoveryTimeout_failed (busy : inDiscovery (tileAt s n) = true) (repeated : 2 ≤ (tileAt s n).repeats) :
    exec (.discoveryTimeout n) s =
      .next (failTile n 0x3002 (if (tileAt s n).step == .ready then 3 else (tileAt s n).step.row) s) := by
  have step : (tileAt s n).step ≠ .trained := fun trained => by simp [inDiscovery, trained] at busy
  change execDiscoveryTimeout n s = _
  simp only [execDiscoveryTimeout, runs, busy, step, Nat.not_lt.mpr repeated, Bool.not_true, Bool.false_eq_true, if_false]

theorem exec_discoveryTimeout_commit (commit : (tileAt s n).step = TileStep.commit) (few : (tileAt s n).repeats < 2) :
    exec (.discoveryTimeout n) s =
      .next (sendTile n mCommit 0 0 0 (updTile n (fun y => { y with repeats := y.repeats + 1 }) s)) := by
  have again := tileAt_updTile_inUse (n := n) (f := fun y => { y with repeats := y.repeats + 1 })
    (Tile.inUse_of_step commit (by decide))
  change execDiscoveryTimeout n s = _
  simp [execDiscoveryTimeout, runs, commit, few, inDiscovery, repeatStep, again]

end

section
variable {n cell k : Nat} {s : State}

/-- A cell that breaches again although a retraining left its width is fused; another one is noted with its width. -/
def blameCell (router : Nat) (s : State) : State :=
  if s.lanes.retrained.contains router then fuseCluster router s
  else { s with lanes := { s.lanes with
    retraining := (router, s.fmap.clusterCode router) :: s.lanes.retraining.filter fun e => e.1 != router } }

theorem blameCell_touches (router : Nat) : Touches [.fmap, .rings, .regs, .logs, .lanes, .counters, .out] s (blameCell router s) :=
  touches_ite ((fuseCluster_touches _ _).mono rfl) (upd_lanes rfl (.refl _ _))

theorem exec_tileRediscovery (own : partOf s (cellRouter n cell) = some k) (runs : mpRuns s = true)
    (held : (part s k).held = true) : exec (.tileRediscovery n cell) s =
      .next (startTile n (passPs 10000000 (blameCell (cellRouter n cell) s))) := by
  change execTileRediscovery n cell s = _
  simp only [execTileRediscovery, own, runs, held, Bool.not_true, Bool.or_self, Bool.false_eq_true, if_false]
  rfl

theorem startTile_tile : tileAt (startTile n s) n =
    { Tile.reset with step := .power, vddt := true, readings := (tileAt s n).readings } :=
  tileAt_updTile_inUse (Tile.inUse_of_step (st := .power) rfl (by decide))

theorem fuseCluster_pendCluster (router : Nat) :
    (fuseCluster router s).fmap.pendCluster = Tab.set 2 s.fmap.pendCluster router 0 := by
  unfold fuseCluster
  dsimp only
  split
  · rfl
  · rw [mpEvent_touches _ _ _ _ _ .fmap (by decide)]

theorem blameCell_again {router : Nat} (again : s.lanes.retrained.contains router = true) :
    Tab.get 2 (blameCell router s).fmap.pendCluster router = 0 := by
  rw [blameCell, if_pos again, fuseCluster_pendCluster]
  exact Tab.get_set_of_ne_default (by decide) _ _

theorem blameCell_first {router : Nat} (first : s.lanes.retrained.contains router = false) :
    (blameCell router s).lanes.retraining.head? = some (router, s.fmap.clusterCode router) := by
  rw [blameCell, if_neg (by rw [first]; decide)]
  rfl

end

end Sys2Proof.Machine
end

section
/-! The obligation about tile discovery, from the lemmas about its steps. -/

namespace Sys2Proof.Machine

/-- A command whose outcome and frame are known does what its next state shows. -/
theorem Does.of_next {c : Instr} {s t : State} {bs : List Block} {p : State → Prop} (run : exec c s = .next t)
    (frame : Nexts bs s (exec c s)) (holds : p t) : Does c s bs p := by
  obtain ⟨u, next, touches⟩ := frame
  obtain rfl : u = t := Host.Outcome.next.inj (next.symm.trans run)
  exact ⟨u, run, holds, touches⟩

section
variable {n : Nat} {s : State}

/-- A chunk of the tile's map that follows the one acknowledged. -/
theorem nextChunk_sent (transfer : (tileAt s n).laneChunks ≠ 0) :
    let t := sendLanes n ((tileAt s n).chunk + 1) (updTile n (fun y => { y with chunk := y.chunk + 1, repeats := 0 }) s)
    let es := lanesChunk (tileAt s n) ((tileAt s n).chunk + 1)
    (tileAt t n).chunk = (tileAt s n).chunk + 1 ∧ (tileAt t n).step = (tileAt s n).step ∧
      (tileAt t n).laneSeq = (tileAt s n).seqOut ∧
      t.out = s.out ++ [tileOutput s n mLanes ((tileAt s n).chunk + 1) (wordsValue es) (4 * es.length)] := by
  have moved := tileAt_updTile_inUse (n := n) (f := fun y => { y with chunk := y.chunk + 1, repeats := 0 }) (s := s)
    (Tile.inUse_of_transfer transfer)
  obtain ⟨tile, out⟩ := sendLanes_sent (n := n) (chunk := (tileAt s n).chunk + 1)
    (s := updTile n (fun y => { y with chunk := y.chunk + 1, repeats := 0 }) s) (by rw [moved]; exact Tile.inUse_of_transfer transfer)
  rw [moved] at tile out
  dsimp only
  rw [tile, out, tileOutput_congr (s := s) (by rw [moved]; exact ⟨rfl, rfl, rfl⟩)]
  exact ⟨rfl, rfl, rfl, rfl⟩

/-- After the last chunk of the spare state, its acknowledgement and COMMIT go out. -/
theorem lastSpares_sent {d : Discovery} (step : (tileAt s n).step = TileStep.spares) :
    let t := sendTile n mCommit 0 0 0 (updTile n (fun y => { y with step := .commit, repeats := 0 })
      (sendAck n d.seq (updTile n (takeSpares d (8 * 52)) s)))
    (tileAt t n).step = TileStep.commit ∧ (tileAt t n).seqOut = (tileAt s n).seqOut + 2 ∧
      Sent (tileOutput s n mAck 0 d.seq 4) s t ∧ t.out.length = s.out.length + 2 := by
  have use : (takeSpares d (8 * 52) (tileAt s n)).InUse := Tile.inUse_of_step step (by decide)
  obtain ⟨acked, ackOut⟩ := sendTile_updTile (sub := mAck) (chunk := 0) (content := d.seq) (bytes := 4) use ⟨rfl, rfl, rfl⟩
  obtain ⟨tile, out⟩ := sendTile_updTile (n := n) (sub := mCommit) (chunk := 0) (content := 0) (bytes := 0)
    (f := fun y => { y with step := .commit, repeats := 0 }) (s := sendAck n d.seq (updTile n (takeSpares d (8 * 52)) s))
    (Tile.inUse_of_step (st := .commit) rfl (by decide)) ⟨rfl, rfl, rfl⟩
  have twice : (tileAt s n).seqOut + 1 + 1 = (tileAt s n).seqOut + 2 := BitVec.add_assoc _ _ _
  refine ⟨?_, ?_, ?_, ?_⟩
  · rw [tile]
    rfl
  · rw [tile, ← twice]
    exact congrArg (fun x : Tile => x.seqOut + 1) acked
  · exact sendTile_updTile_sent use ⟨rfl, rfl, rfl⟩ (.after sendTile_onward ((updTile_touches _ _ _).onward rfl))
  · rw [out, List.length_append]
    exact congrArg (fun l : List Output => l.length + 1) ackOut |>.trans (by rw [List.length_append]; rfl)

end

/-- Settles O35: every step of discovery changes its tile, and sends, as the message or bound that ends it asks; a tile that
fails one is put in reset without VDDT, with its reason. -/
theorem discovery : Obligations.Discovery := by
  unfold Obligations.Discovery
  refine ⟨fun n s runs power => ?firstHello, fun n s runs hello few => ?hello, fun n s runs hello many => ?lastHello,
    fun n s away => ⟨s, exec_helloRetry_away away, rfl, .refl _ _⟩,
    fun n rx d s message expected => ?ident, fun n rx d s message step before => ?identAgain,
    fun n rx s ⟨ident, ack, bootDone, spares⟩ => ?lost,
    fun n cells s train ticks runs working fits => ?trained, fun n cells s train ticks away => ?trainedAway,
    fun n cells s train ticks runs lost => ?trainedLost,
    fun n s slew runs => ?power,
    fun n rx d s message transfer seq more => ?lanesChunk, fun n rx d s message transfer seq whole => ?lanesDone,
    fun n rx d s message idle boot seq whole => ?booted, fun n rx d s message idle boot seq more => ?bootChunk,
    fun n rx d s message idle commit seq => ?ready,
    fun n rx d s message step code => ?bootAccepted, fun n rx d s message step code => ?bootRefused,
    fun n rx d s message step next early => ?spares, fun n rx d s message step fifth last => ?lastSpares,
    fun n s runs busy repeated => ?expired, fun n s runs commit few => ?commitAgain,
    fun n cell k s own runs held => ?again⟩
  case firstHello =>
    exact ⟨_, exec_helloRetry_power runs power,
      sendTile_updTile (Tile.inUse_of_step (st := .hello) rfl (by decide)) ⟨rfl, rfl, rfl⟩, sendTile_updTile_touches⟩
  case hello =>
    exact ⟨_, exec_helloRetry_again runs hello few,
      sendTile_updTile (Tile.inUse_of_step (st := .hello) hello (by decide)) ⟨rfl, rfl, rfl⟩, sendTile_updTile_touches⟩
  case lastHello =>
    exact ⟨_, exec_helloRetry_last runs hello many, failTile_failed, failTile_touches _ _ _ _⟩
  case ident =>
    exact .of_next (exec_ident_expected message expected) (execIdent_touches _ _ _) ⟨identTaken_sent, identTaken_outcome⟩
  case identAgain =>
    exact ⟨_, exec_ident_again message step before,
      ⟨tileAt_sendTile (Tile.inUse_of_step step (by decide)), sendTile_out⟩, sendAck_touches _ _ _⟩
  case lost =>
    refine ⟨?_, ?_, ?_, ?_⟩
    · change execIdent n rx s = _
      simp only [execIdent, ident]
    · change execDiscoveryAck n rx s = _
      simp only [execDiscoveryAck, ack]
    · change execBootDone n rx s = _
      simp only [execBootDone, bootDone]
    · change execSpares n rx s = _
      simp only [execSpares, spares]
  case trained =>
    have runs : mpRuns (bondsJudged n cells s) = true := runs
    have run := (exec_bondTrainingDone (cells := cells) train ticks).trans (congrArg _ ((if_pos runs).trans
      (trainedTile_delivers working fits)))
    have lanes : (startLanes n (consentBonds n (bondsJudged n cells s))).lanes = (consentBonds n (bondsJudged n cells s)).lanes :=
      startLanes_touches _ _ .lanes (by decide)
    refine .of_next run (execBondTrainingDone_touches _ _ _) ?_
    rw [startLanes_tile, lanes]
    exact ⟨rfl, rfl, rfl, rfl, fun c => consentBonds_consent⟩
  case trainedAway =>
    have away : ¬mpRuns (bondsJudged n cells s) = true := ne_true_of_eq_false away
    exact .of_next ((exec_bondTrainingDone train ticks).trans (congrArg _ (if_neg away))) (execBondTrainingDone_touches _ _ _)
      bondsJudged_step
  case trainedLost =>
    have runs : mpRuns (bondsJudged n cells s) = true := runs
    exact .of_next ((exec_bondTrainingDone train ticks).trans (congrArg _ (if_pos runs))) (execBondTrainingDone_touches _ _ _)
      (trainedTile_failed lost)
  case power =>
    have outcome := sendBoot_outcome (n := n) (chunk := 0) (f := vddtStands n s) (s := s)
      (Tile.inUse_of_step (st := .boot) rfl (by decide)) rfl ⟨rfl, rfl, rfl⟩
    refine .of_next (exec_vddtReached slew runs) (execVddtReached_touches _ _) ?_
    dsimp only at outcome ⊢
    split at outcome
    · next image =>
      obtain ⟨tile, -, -⟩ := outcome
      rw [if_pos image, tile]
      exact ⟨rfl, rfl, rfl, rfl⟩
    · next image =>
      rw [if_neg image]
      exact outcome
  case lanesChunk =>
    exact ⟨_, exec_discoveryAck_chunk message transfer seq more, nextChunk_sent transfer,
      ((updTile_touches _ _ _).mono rfl).trans (sendLanes_touches _ _ _)⟩
  case lanesDone =>
    exact ⟨_, exec_discoveryAck_map message transfer seq whole, tileAt_updTile_inUse (Tile.inUse_of_full rfl),
      updTile_touches _ _ _⟩
  case booted =>
    exact ⟨_, exec_discoveryAck_bootDone message idle seq boot whole,
      tileAt_updTile_inUse (Tile.inUse_of_step (st := .bootDone) rfl (by decide)), updTile_touches _ _ _⟩
  case bootChunk =>
    exact .of_next (exec_discoveryAck_boot message idle seq boot more) (execDiscoveryAck_touches _ _ _)
      (sendBoot_outcome (Tile.inUse_of_step (st := .boot) boot (by decide)) rfl ⟨rfl, rfl, rfl⟩)
  case ready =>
    exact ⟨_, exec_discoveryAck_commit message idle seq commit, ⟨tileReady_step, fun c => tileReady_fuses⟩,
      tileReady_touches _ _⟩
  case bootAccepted =>
    exact ⟨_, exec_bootDone_accepted message step code,
      sendTile_updTile (Tile.inUse_of_step (st := .spares) rfl (by decide)) ⟨rfl, rfl, rfl⟩, sendTile_updTile_touches⟩
  case bootRefused =>
    obtain ⟨failed, trst, vddt, reason⟩ : TileFailed n (0x3007 + bits d.content 0 32)
      (failTile n (0x3007 + bits d.content 0 32) 0 (sendAck n d.seq s)) := failTile_failed
    exact ⟨_, exec_bootDone_refused message step code, ⟨failed, trst, vddt, reason, sendAck_sent failTile_onward⟩,
      ((sendAck_touches _ _ _).mono rfl).trans (failTile_touches _ _ _ _)⟩
  case spares =>
    exact ⟨_, exec_spares_chunk message step next early,
      sendTile_updTile (f := takeSpares d 736) (Tile.inUse_of_step (st := .spares) step (by decide)) ⟨rfl, rfl, rfl⟩,
      sendTile_updTile_touches⟩
  case lastSpares =>
    exact ⟨_, exec_spares_last message step (last.trans fifth.symm) last, lastSpares_sent step,
      sendTile_updTile_touches.trans sendTile_updTile_touches⟩
  case expired =>
    exact ⟨_, exec_discoveryTimeout_failed runs busy repeated, failTile_failed, (failTile_touches _ _ _ _).mono rfl⟩
  case commitAgain =>
    exact ⟨_, exec_discoveryTimeout_commit runs commit few,
      sendTile_updTile (Tile.inUse_of_step (st := .commit) commit (by decide)) ⟨rfl, rfl, rfl⟩, sendTile_updTile_touches⟩
  case again =>
    have blamed := blameCell_touches (s := s) (cellRouter n cell)
    have clk : (blameCell (cellRouter n cell) s).clk = s.clk := blamed .clk (by decide)
    have tick : (blameCell (cellRouter n cell) s).clk.tick = s.clk.tick := congrArg Clk.tick clk
    refine .of_next (exec_tileRediscovery own runs held) (execTileRediscovery_touches _ _ _) ⟨?_, ?_, ?_, ?_, ?_⟩
    · rw [startTile_tile, (passPs_touches _ _).tileAt_eq (by decide), blamed.tileAt_eq (by decide)]
    · exact congrArg (fun c : Clk => c.wallPs + 10000000) clk
    · exact tick
    · exact fun again _ => blameCell_again again
    · exact blameCell_first

end Sys2Proof.Machine
end

section
/-! Fault-map merges (R108, R253, R254, R256) and step 8 of a start (Table 17.2): what a merge takes over, and what step 8
leaves of the boot state and of the P-domain record. -/

namespace Sys2Proof.Machine

/-! ### Before the map is merged -/

section
variable {s : State}

/-- The MP has consented to every width change that waited. -/
def consented (s : State) : State := s.lanes.consent.foldl (fun t c => consentTo c t) s

/-- The state whose findings a merge takes over: the field bank is written, and clusters invalid twice are fused. -/
def beforeMerge (s : State) : State :=
  (invalidTwice (fieldWrites (consented s)).lanes).foldl (fun t r => fuseCluster r t) (fieldWrites (consented s))

theorem consented_consent : (consented s).lanes.consent = [] := by
  refine List.eq_nil_iff_forall_not_mem.mpr fun c waits => ?_
  obtain ⟨mem, others⟩ := mem_consent_foldl waits
  exact others c mem rfl

theorem fieldWrite_consent (e : Nat) : (fieldWrite e s).lanes.consent = s.lanes.consent := by
  unfold fieldWrite
  split_ifs
  · rfl
  · rfl
  · rfl
  · rw [mpEvent_touches _ _ _ _ _ .lanes (by decide)]

theorem fieldWrites_consent : (fieldWrites s).lanes.consent = s.lanes.consent := by
  unfold fieldWrites
  split
  · rfl
  · exact List.foldlRecOn (motive := fun t : State => t.lanes.consent = s.lanes.consent) _ _ rfl
      fun t same e _ => (fieldWrite_consent e).trans same

theorem beforeMerge_consent : (beforeMerge s).lanes.consent = [] := by
  have lanes : (beforeMerge s).lanes = (fieldWrites (consented s)).lanes :=
    touches_foldl (.refl _ _) (fun t r => fuseCluster_touches r t) .lanes (by decide)
  rw [lanes, fieldWrites_consent, consented_consent]

theorem fuseCluster_fmap (router : Nat) :
    (fuseCluster router s).fmap = { s.fmap with pendCluster := (fuseCluster router s).fmap.pendCluster } := by
  unfold fuseCluster
  dsimp only
  split
  · rfl
  · rw [mpEvent_touches _ _ _ _ _ .fmap (by decide)]

/-- Before the merge the map changes in the clusters found fused alone. -/
theorem beforeMerge_fmap : (beforeMerge s).fmap = { s.fmap with pendCluster := (beforeMerge s).fmap.pendCluster } := by
  have consents : (consented s).fmap = s.fmap :=
    touches_foldl (.refl _ _) (fun t c => consentTo_touches c t) .fmap (by decide)
  have writes : (fieldWrites (consented s)).fmap = s.fmap := (fieldWrites_touches _ .fmap (by decide)).trans consents
  refine List.foldlRecOn (motive := fun t : State => t.fmap = { s.fmap with pendCluster := t.fmap.pendCluster })
    _ _ (by rw [writes]) fun t same r _ => ?_
  rw [fuseCluster_fmap, same]

/-! ### What a merge does -/

/-- The map is merged, and the retrainings that it takes in are noted. -/
def mapMerged (s : State) : State := noteRetrained { beforeMerge s with fmap := mergedMap (beforeMerge s) }

theorem mergeFaultMap_touches_merged :
    Touches [.parts, .slots, .comp, .hbm, .tiles, .rings, .regs, .logs, .lat, .counters, .out] (mapMerged s) (mergeFaultMap s) :=
  (checkImages_touches _).trans (((notify_touches _ _ _ _).mono rfl).trans ((evaluateRequests_touches _).mono rfl))

theorem mergeFaultMap_fmap : (mergeFaultMap s).fmap = mergedMap (beforeMerge s) :=
  mergeFaultMap_touches_merged .fmap (by decide)

theorem mergeFaultMap_merges : (mergeFaultMap s).fmap.merges = s.fmap.merges + 1 := by
  rw [mergeFaultMap_fmap, mergedMap, beforeMerge_fmap]

theorem mergeFaultMap_deadRouters :
    (mergeFaultMap s).fmap.deadRouters = (s.fmap.deadRouters ++ s.fmap.pendRouters).eraseDups := by
  rw [mergeFaultMap_fmap, mergedMap, beforeMerge_fmap]

theorem mergeFaultMap_deadPcs : (mergeFaultMap s).fmap.deadPcs = (s.fmap.deadPcs ++ s.fmap.pendPcs).eraseDups := by
  rw [mergeFaultMap_fmap, mergedMap, beforeMerge_fmap]

/-- No finding is left pending. -/
theorem mergeFaultMap_pending : (mergeFaultMap s).fmap.pendRouters = [] ∧ (mergeFaultMap s).fmap.pendPcs = [] ∧
    (mergeFaultMap s).fmap.pendCluster = [] ∧ (mergeFaultMap s).fmap.pendStitch = [] := by
  rw [mergeFaultMap_fmap]
  exact ⟨rfl, rfl, rfl, rfl⟩

theorem mergeFaultMap_consent : (mergeFaultMap s).lanes.consent = [] := by
  rw [mergeFaultMap_touches_merged .lanes (by decide)]
  exact beforeMerge_consent

theorem mergeFaultMap_hbmMem : (mergeFaultMap s).hbm.mem = s.hbm.mem :=
  (mergeFaultMap_within (may := fun _ => false)).same .hbm rfl

theorem mergeFaultMap_boot : (mergeFaultMap s).boot = s.boot := mergeFaultMap_touches s .boot (by decide)

theorem exec_faultMapMerge_service (runs : mpRuns s = true)
    (past : s.boot.starting = false ∨ s.boot.steps.getLsbD 8 = true) :
    exec .faultMapMerge s = .next (mergeFaultMap s) := by
  have inService : (s.boot.starting && !s.boot.steps.getLsbD 8) = false := by
    rcases past with ready | merged
    · rw [ready, Bool.false_and]
    · rw [merged, Bool.not_true, Bool.and_false]
  change execFaultMapMerge s = _
  simp only [execFaultMapMerge, runs, inService, Bool.not_true, Bool.false_eq_true, if_false]

theorem exec_faultMapMerge_start (runs : mpRuns s = true) (starting : s.boot.starting = true)
    (due : s.boot.steps.getLsbD 8 = false) (strands : strandsOver s = true) :
    exec .faultMapMerge s = .next (startMerge s) := by
  change execFaultMapMerge s = _
  simp only [execFaultMapMerge, runs, starting, due, strands, Bool.not_true, Bool.not_false, Bool.and_self, Bool.false_eq_true,
    if_false, if_true]

/-! ### The P-domain record (R596) -/

theorem flashCopy_power (e : LogEntry) (now : Nat) (l : Logs) : (flashCopy e now l).1.power = l.power := by
  unfold flashCopy
  dsimp only
  split <;> rfl

theorem persist_power (reason unit sev detail ext : Nat) (boot : BitVec 32) (ref : BitVec 64) (l : Logs) :
    (persist reason unit sev detail ext boot ref l).1.power = l.power := by
  unfold persist
  split_ifs <;> rfl

theorem mpPersist_power (e : LogEntry) (ext : Nat) : (mpPersist e ext s).logs.power = s.logs.power := by
  unfold mpPersist
  dsimp only
  generalize (if e.reason = 0x1004 then excursionUnit s else e.unit) = unit
  split
  · split
    · exact persist_power ..
    · exact persist_power ..
  · split
    · rfl
    · rfl

/-- An event leaves the P-domain record as it is. -/
theorem logExt_power (reason sev unit detail src : Nat) (repl : Bool) (ext : Nat) :
    (logExt reason sev unit detail src repl ext s).logs.power = s.logs.power := by
  have entered (e : LogEntry) : (evtAttention sev { s with logs := appendEntry e s.logs }).logs.power = s.logs.power :=
    by rw [evtAttention_touches _ _ .logs (by decide)]; rfl
  unfold logExt
  dsimp only
  split_ifs
  all_goals simp only [mpPersist_power, countUp_keeps, flashCopy_power, entered]

theorem recordPower_power : (recordPower s).logs.power = none := by
  unfold recordPower
  split
  · assumption
  · dsimp only
    split <;> exact logExt_power ..

theorem noteUnclean_power : (noteUnclean s).logs.power = s.logs.power := by
  unfold noteUnclean
  dsimp only
  split
  · rfl
  · exact logExt_power ..

/-! ### Step 8 (Table 17.2) -/

theorem startMerge_touches_merged : Touches [.boot, .rings, .regs, .logs, .fw, .pm, .lat, .counters, .out]
    (mergeFaultMap (hardRepairs (stepDone 7 s))) (startMerge s) :=
  ((recheckVet_touches _).mono rfl).trans (((recordPower_touches _).mono rfl).trans
    (((noteUnclean_touches _).mono rfl).trans ((stepDone_touches _ _).mono rfl)))

theorem startMerge_fmap : (startMerge s).fmap = (mergeFaultMap (hardRepairs (stepDone 7 s))).fmap :=
  startMerge_touches_merged .fmap (by decide)

theorem startMerge_merges : (startMerge s).fmap.merges = s.fmap.merges + 1 := by
  rw [startMerge_fmap, mergeFaultMap_merges, hardRepairs_touches _ .fmap (by decide)]
  rfl

theorem startMerge_power : (startMerge s).logs.power = none := by
  rw [startMerge, stepDone_touches _ _ .logs (by decide), noteUnclean_power, recordPower_power]

theorem noteUnclean_boot : (noteUnclean s).boot = { s.boot with orderly := false } := by
  have event : (if s.boot.orderly then s else mpEvent 0x100B 0 0 0 s).boot = s.boot :=
    touches_ite (.refl _ _) (mpEvent_touches _ _ _ _ _) .boot (by decide)
  exact congrArg (fun b : Boot => { b with orderly := false }) event

theorem startMerge_boot : (startMerge s).boot =
    { s.boot with steps := s.boot.steps ||| BitVec.twoPow 10 7 ||| BitVec.twoPow 10 8, orderly := false } := by
  have before : (recordPower (recheckVet (mergeFaultMap (hardRepairs (stepDone 7 s))))).boot = (stepDone 7 s).boot :=
    calc (recordPower (recheckVet (mergeFaultMap (hardRepairs (stepDone 7 s))))).boot
      _ = (recheckVet (mergeFaultMap (hardRepairs (stepDone 7 s)))).boot := recordPower_touches _ .boot (by decide)
      _ = (mergeFaultMap (hardRepairs (stepDone 7 s))).boot := recheckVet_touches _ .boot (by decide)
      _ = (hardRepairs (stepDone 7 s)).boot := mergeFaultMap_boot
      _ = (stepDone 7 s).boot := hardRepairs_touches _ .boot (by decide)
  rw [startMerge, stepDone, noteUnclean_boot, before]
  rfl

end

end Sys2Proof.Machine
end

section
/-! QUIESCE to the tiles of a partition (R234), and the release of a held partition (R112, R259). -/

namespace Sys2Proof.Machine

section
variable {k j : Nat} {s t : State}

theorem Rect.tiles_nodup (r : Rect) : r.tiles.Nodup := by
  rw [Rect.tiles, rangeFrom_eq_range']
  exact List.Nodup.filter _ List.nodup_range'

/-- One message to each tile of a list without repeats: none changes how another goes out. -/
theorem sendTile_foldl_out {l : List Nat} (distinct : l.Nodup) (sub chunk content bytes : Nat) :
    (l.foldl (fun u n => sendTile n sub chunk content bytes u) s).out =
      s.out ++ l.map fun n => tileOutput s n sub chunk content bytes := by
  induction l generalizing s with
  | nil => exact (List.append_nil _).symm
  | cons n l ih =>
    obtain ⟨fresh, distinct⟩ := List.nodup_cons.mp distinct
    have others : ∀ m ∈ l, tileOutput (sendTile n sub chunk content bytes s) m sub chunk content bytes =
        tileOutput s m sub chunk content bytes := fun m mem => by
      have same : tileAt (sendTile n sub chunk content bytes s) m = tileAt s m :=
        tileAt_updTile_ne _ _ s (ne_of_mem_of_not_mem mem fresh)
      exact tileOutput_congr (same ▸ ⟨rfl, rfl, rfl⟩)
    rw [List.foldl_cons, ih distinct, sendTile_out, List.map_congr_left others, List.append_assoc]
    rfl

theorem quiesce_out : (quiesce k s).out =
    s.out ++ ((rect s k).tiles.filter fun n => (tileAt s n).trst).map fun n => tileOutput s n mQuiesce 0 0 0 :=
  sendTile_foldl_out ((rect s k).tiles_nodup.filter _) ..

theorem Part.ne_reset_of_quiesceAt {p : Part} {w : Nat} (sent : p.quiesceAt = w + 1) : p ≠ Part.reset := by
  rintro rfl
  cases sent

theorem quiesce_parts : (quiesce k s).parts = (updPart k (fun p => { p with quiesceAt := s.clk.wallPs + 1 }) s).parts :=
  touches_foldl (.refl _ _) (fun u n => sendTile_touches n mQuiesce 0 0 0 u) .parts (by decide)

theorem part_quiesce : part (quiesce k s) k = { part s k with quiesceAt := s.clk.wallPs + 1 } := by
  rw [part, quiesce_parts]
  exact Tab.get_set_of_ne_default (Part.ne_reset_of_quiesceAt rfl) _ _

theorem quiesce_onlyPart : OnlyPart k s (quiesce k s) := by
  exact (onlyPart_updPart k _ s).trans (.of_parts quiesce_parts)

theorem releasePart_of_held (held : (part s k).held = true) :
    releasePart k s = updPart k (fun p => { p with held := false }) (quiesce k s) := if_pos held

theorem part_releasePart (held : (part s k).held = true) :
    part (releasePart k s) k = { part s k with held := false, quiesceAt := s.clk.wallPs + 1 } := by
  rw [releasePart_of_held held, updPart, part_quiesce]
  exact Tab.get_set_of_ne_default (Part.ne_reset_of_quiesceAt rfl) _ _

theorem releasePart_onlyPart : OnlyPart k s (releasePart k s) := by
  unfold releasePart
  split
  · exact quiesce_onlyPart.trans (onlyPart_updPart _ _ _)
  · exact fun _ _ => rfl

theorem releasePart_out (held : (part s k).held = true) : (releasePart k s).out =
    s.out ++ ((rect s k).tiles.filter fun n => (tileAt s n).trst).map fun n => tileOutput s n mQuiesce 0 0 0 := by
  rw [releasePart_of_held held]
  exact quiesce_out

theorem exec_partitionRelease (runs : mpRuns s = true) : exec (.partitionRelease k) s = .next (releasePart k s) := by
  change execPartitionRelease k s = _
  exact if_pos runs

/-! ### Partitions whose images stay valid are released -/

/-- The partition has no image, or is not held. -/
def Freed (t : State) (k : Nat) : Prop := ((part t k).slot.isNone || !(part t k).held) = true

/-- The partition is released if it has an image. -/
def releaseBound (t : State) (k : Nat) : State := if (part t k).slot.isSome then releasePart k t else t

theorem releaseBound_freed : Freed (releaseBound t k) k := by
  unfold releaseBound
  split
  · by_cases held : (part t k).held = true
    · simp [Freed, part_releasePart held]
    · simp [Freed, releasePart, held]
  · next unbound =>
    simp only [Freed, Option.not_isSome_iff_eq_none.mp (by simpa using unbound), Option.isNone_none, Bool.true_or]

theorem releaseBound_onlyPart : OnlyPart k t (releaseBound t k) := by
  unfold releaseBound
  split
  · exact releasePart_onlyPart
  · exact fun _ _ => rfl

/-- A release keeps every partition free that is. -/
theorem Freed.releaseBound (freed : Freed t j) (k : Nat) : Freed (releaseBound t k) j := by
  by_cases same : j = k
  · exact same ▸ releaseBound_freed
  · rwa [Freed, releaseBound_onlyPart j same]

theorem freed_foldl_releaseBound {ks : List Nat} (mem : j ∈ ks) : Freed (ks.foldl releaseBound t) j := by
  induction ks generalizing t with
  | nil => cases mem
  | cons k ks ih =>
    rcases List.mem_cons.mp mem with rfl | later
    · exact List.foldlRecOn (motive := fun u => Freed u j) ks _ releaseBound_freed
        fun u freed i _ => freed.releaseBound i
    · exact ih later

end

end Sys2Proof.Machine
end

section
/-! Stitch training and retraining (R251, R259), the consent that the MP does not give (R253), and step 9 of a start (R561,
R563): the state that each command reaches. -/

namespace Sys2Proof.Machine

/-! ### The mesh self-test (Table 17.2 step 6) -/

section
variable {n m : Nat} {s : State}

theorem deadRouter_fmap (n : Nat) : (deadRouter n s).fmap = if s.fmap.live n && !s.fmap.pendRouters.contains n
    then { s.fmap with pendRouters := n :: s.fmap.pendRouters } else s.fmap := by
  unfold deadRouter
  split
  · rw [mpEvent_touches _ _ _ _ _ .fmap (by decide)]
  · rfl

theorem deadRouter_deadRouters (n : Nat) : (deadRouter n s).fmap.deadRouters = s.fmap.deadRouters := by
  rw [deadRouter_fmap]
  split <;> rfl

theorem deadRouter_live (n m : Nat) : (deadRouter n s).fmap.live m = s.fmap.live m := by
  rw [FaultMap.live, deadRouter_deadRouters, FaultMap.live]

theorem deadRouter_pending (live : s.fmap.live n = true) : n ∈ (deadRouter n s).fmap.pendRouters := by
  rw [deadRouter_fmap]
  split
  · exact List.mem_cons_self
  · next known => simpa [live] using known

theorem deadRouter_keeps_pending (pending : m ∈ s.fmap.pendRouters) (n : Nat) : m ∈ (deadRouter n s).fmap.pendRouters := by
  rw [deadRouter_fmap]
  split
  · exact List.mem_cons_of_mem _ pending
  · exact pending

/-- The routers that the self-test found dead. -/
def deadFound (ds : List Nat) (s : State) : State := ds.foldl (fun t n => deadRouter n t) s

theorem deadFound_touches (ds : List Nat) :
    Touches [.fmap, .rings, .regs, .logs, .counters, .out] s (deadFound ds s) :=
  touches_foldl (.refl _ _) fun t n => deadRouter_touches n t

theorem deadFound_deadRouters (ds : List Nat) : (deadFound ds s).fmap.deadRouters = s.fmap.deadRouters :=
  List.foldlRecOn (motive := fun t : State => t.fmap.deadRouters = s.fmap.deadRouters) ds _ rfl
    fun _ same n _ => (deadRouter_deadRouters n).trans same

theorem deadFound_pending {ds : List Nat} (mem : n ∈ ds) (live : s.fmap.live n = true) :
    n ∈ (deadFound ds s).fmap.pendRouters := by
  induction ds generalizing s with
  | nil => cases mem
  | cons d ds ih =>
    rcases List.mem_cons.mp mem with rfl | later
    · exact List.foldlRecOn (motive := fun t : State => n ∈ t.fmap.pendRouters) ds _ (deadRouter_pending live)
        fun t pending i _ => deadRouter_keeps_pending pending i
    · exact ih later ((deadRouter_live d n).trans live)

end

/-! ### Stitch training (R251) -/

section
variable {rs : List StitchTrain} {ls : List LinkTrain} {ds : List Nat} {s : State}

/-- The training's ticks have passed, and the crossings and control links are judged. -/
def stitchesJudged (rs : List StitchTrain) (ls : List LinkTrain) (s : State) : State :=
  ls.foldl stitchLink (stitchResults rs (stitchPass s.lanes.stitchFrom s))

/-- Every slice is zero after a cold start (Table 17.2 step 6). -/
def zeroedIfCold (cold : Bool) (s : State) : State := if cold then zeroBuffer s else s

/-- Step 6 is complete. -/
def stitchesTrained (rs : List StitchTrain) (ls : List LinkTrain) (ds : List Nat) (s : State) : State :=
  stepDone 6 (zeroedIfCold s.boot.cold (deadFound ds (stitchesJudged rs ls s)))

theorem stitchesJudged_touches : Touches [.ctl, .lanes, .counters] (stitchPass s.lanes.stitchFrom s) (stitchesJudged rs ls s) :=
  touches_foldl (stitchResults_touches rs _) stitchLink_touches

theorem zeroedIfCold_touches (cold : Bool) : Touches [.buf] s (zeroedIfCold cold s) :=
  touches_ite (zeroBuffer_touches s) (.refl _ _)

theorem exec_stitchTrainingDone (starting : s.boot.starting = true) (due : s.boot.steps.getLsbD 6 = false)
    (loaded : s.boot.steps.getLsbD 4 = true) (ticks : tickRuns s = true) :
    exec (.stitchTrainingDone rs ls ds) s = .next (stitchesTrained rs ls ds s) := by
  change execStitchTrainingDone rs ls ds s = _
  simp only [execStitchTrainingDone, starting, due, loaded, ticks, Bool.not_true, Bool.or_self, Bool.false_eq_true, if_false]
  rfl

theorem stitchesTrained_boot : (stitchesTrained rs ls ds s).boot =
    { s.boot with steps := s.boot.steps ||| BitVec.twoPow 10 6 } := by
  have boot : (zeroedIfCold s.boot.cold (deadFound ds (stitchesJudged rs ls s))).boot = s.boot :=
    calc (zeroedIfCold s.boot.cold (deadFound ds (stitchesJudged rs ls s))).boot
      _ = (deadFound ds (stitchesJudged rs ls s)).boot := zeroedIfCold_touches _ .boot (by decide)
      _ = (stitchesJudged rs ls s).boot := deadFound_touches ds .boot (by decide)
      _ = (stitchPass s.lanes.stitchFrom s).boot := stitchesJudged_touches .boot (by decide)
      _ = s.boot := stitchPass_touches _ _ .boot (by decide)
  rw [stitchesTrained, stepDone, boot]

theorem stitchesTrained_fmap :
    (stitchesTrained rs ls ds s).fmap = (deadFound ds (stitchesJudged rs ls s)).fmap :=
  zeroedIfCold_touches _ .fmap (by decide)

theorem stitchesTrained_pending {n : Nat} (mem : n ∈ ds) (live : (stitchPass s.lanes.stitchFrom s).fmap.live n = true) :
    (stitchesTrained rs ls ds s).fmap.pendRouters.contains n = true := by
  rw [stitchesTrained_fmap, List.contains_iff_mem]
  refine deadFound_pending mem ?_
  rwa [stitchesJudged_touches .fmap (by decide)]

theorem stitchesTrained_deadRouters : (stitchesTrained rs ls ds s).fmap.deadRouters =
    (stitchPass s.lanes.stitchFrom s).fmap.deadRouters := by
  rw [stitchesTrained_fmap, deadFound_deadRouters, stitchesJudged_touches .fmap (by decide)]

theorem stitchesTrained_cold (cold : s.boot.cold = true) :
    (stitchesTrained rs ls ds s).buf.mem = [] ∧ (stitchesTrained rs ls ds s).buf.bad = [] := by
  rw [stitchesTrained, cold]
  exact ⟨rfl, rfl⟩

theorem stitchesTrained_warm (warm : s.boot.cold = false) :
    (stitchesTrained rs ls ds s).buf = (stitchPass s.lanes.stitchFrom s).buf := by
  rw [stitchesTrained, warm]
  exact (deadFound_touches ds .buf (by decide)).trans (stitchesJudged_touches .buf (by decide))

/-! ### Retraining in service (R259) -/

/-- The crossings are retrained and the result is merged. -/
def retrainMerged (rs : List StitchTrain) (s : State) : State :=
  mergeFaultMap (stitchResults rs (stitchPass s.clk.tick.toNat s))

/-- The partitions that the crossings lie in. -/
def crossedParts (rs : List StitchTrain) (s : State) : List Nat := rs.filterMap fun r => crossingPart s r.column

theorem exec_stitchRetrain (runs : mpRuns s = true) (ticks : tickRuns s = true) (nonempty : rs.isEmpty = false)
    (idle : rs.all (fun r => crossingIdle s r.column) = true) : exec (.stitchRetrain rs) s =
      .next ((crossedParts rs s).eraseDups.foldl releaseBound (retrainMerged rs s)) := by
  change execStitchRetrain rs s = _
  simp only [execStitchRetrain, runs, ticks, nonempty, idle, Bool.not_true, Bool.or_self, Bool.false_eq_true, if_false]
  rfl

theorem retrainMerged_merges : (retrainMerged rs s).fmap.merges = s.fmap.merges + 1 := by
  rw [retrainMerged, mergeFaultMap_merges, stitchResults_touches _ _ .fmap (by decide),
    stitchPass_touches _ _ .fmap (by decide)]

theorem releaseBound_touches (t : State) (k : Nat) : Touches [.parts, .tiles, .out] t (releaseBound t k) :=
  touches_ite (releasePart_touches k t) (.refl _ _)

theorem retrain_outcome : let t := (crossedParts rs s).eraseDups.foldl releaseBound (retrainMerged rs s)
    t.fmap.merges = s.fmap.merges + 1 ∧
      (crossedParts rs s).all (fun k => (part t k).slot.isNone || !(part t k).held) = true := by
  dsimp only
  refine ⟨?_, List.all_eq_true.mpr fun k mem => freed_foldl_releaseBound (List.mem_eraseDups.mpr mem)⟩
  rw [touches_foldl (.refl _ _) releaseBound_touches .fmap (by decide), retrainMerged_merges]

/-! ### The consent that the MP does not give (R253) -/

/-- The bundle keeps its fused map, and waits for no consent. -/
def consentRefused (b : Nat) (s : State) : State := { s with lanes := { s.lanes with
  consent := s.lanes.consent.filter fun c => c.bundle != b
  volatile := s.lanes.volatile.filter fun e => entBundle e != b } }

theorem exec_consentTimeout {b : Nat} (waits : s.lanes.consent.any (fun c => c.bundle == b) = true) :
    exec (.consentTimeout b) s = .next (sendEvent ⟨0x2006, 0, b, none, calEndpoint, 0⟩ (consentRefused b s)) := by
  change execConsentTimeout b s = _
  exact if_pos waits

/-- An endpoint that holds no packet back, and whose queue has room, has its packet queued (R162). -/
theorem sendEvent_room {p : FaultPkt} (unheld : Tab.get none s.ctl.heldEvent p.src = none)
    (room : Tab.get 0 s.ctl.inject p.src < 32) : sendEvent p s = { s with ctl := { s.ctl with
      eventQ := s.ctl.eventQ ++ [p], inject := Tab.set 0 s.ctl.inject p.src (Tab.get 0 s.ctl.inject p.src + 1) } } := by
  simp only [sendEvent, unheld, Nat.not_le.mpr room, Option.isSome_none, Bool.false_eq_true, if_false]

end

/-! ### Step 9 (R561, R563) -/

section
variable {found : List DriveIn} {s t u : State}

/-- Readiness goes out on every link that is up. -/
def readinessOutputs (s : State) : List Output :=
  (if s.boot.linkUp0 then [.readiness 0] else []) ++ if s.boot.linkUp1 then [.readiness 1] else []

/-- Step 9 is complete, before the drives are attached again and the group is joined. -/
def readied (s : State) : State :=
  stepDone 9 (applyStored { s with
    boot := { s.boot with ready := true, starting := false }
    fw := { s.fw with failedBoots := 0 }
    dense := { s.dense with units := cacheUnits s } })

/-- After readiness is announced, drives are attached again, the group is joined, and waiting requests are evaluated. -/
def rejoined (found : List DriveIn) (s : State) : State := evaluateRequests (rejoinGroup (reattach found s))

theorem rejoined_touches : Touches [.dense, .rings, .regs, .logs, .lat, .counters, .out] s (rejoined found s) :=
  ((reattach_touches _ _).mono rfl).trans (((rejoinGroup_touches _).mono rfl).trans ((evaluateRequests_touches _).mono rfl))

theorem rejoined_onward : Onward s (rejoined found s) :=
  .after evaluateRequests_onward (.after rejoinGroup_onward ((reattach_touches _ _).onward rfl))

theorem exec_deviceReady_start (runs : mpRuns s = true) (starting : s.boot.starting = true)
    (merged : s.boot.steps.getLsbD 8 = true) (lattice : s.boot.steps.getLsbD 5 = true) :
    exec (.deviceReady found) s = .next (rejoined found (emitAll (readinessOutputs s) (readied s))) := by
  have running : s.boot.mp ≠ .recovery := fun recovery => by simp [mpRuns, recovery] at runs
  change execDeviceReady found s = _
  simp only [execDeviceReady, running, runs, starting, merged, lattice, false_and, Bool.not_true, Bool.or_self,
    Bool.false_eq_true, if_false]
  rfl

theorem exec_deviceReady_recovery (recovery : s.boot.mp = .recovery) (starting : s.boot.starting = true) :
    exec (.deviceReady found) s = .next (emitAll (if s.boot.linkUp0 then [.readiness 0] else [])
      { s with boot := { s.boot with ready := true, starting := false } }) := by
  change execDeviceReady found s = _
  simp only [execDeviceReady, recovery, starting, and_self, if_true]
  split
  · rfl
  · rw [emitAll, List.append_nil]

theorem readied_boot : (readied s).boot =
    { s.boot with ready := true, starting := false, steps := s.boot.steps ||| BitVec.twoPow 10 9 } := by
  rw [readied, stepDone, applyStored_touches _ .boot (by decide)]

theorem readied_fw : (readied s).fw = { s.fw with failedBoots := 0 } :=
  applyStored_touches _ .fw (by decide)

theorem readied_out : (readied s).out = s.out := applyStored_touches _ .out (by decide)

/-- What is emitted is sent in every state that goes onward. -/
theorem Sent.of_emitAll {o : Output} {os : List Output} (mem : o ∈ os) (out : u.out = s.out)
    (later : Onward (emitAll os u) t) : Sent o s t := by
  obtain ⟨l, e⟩ := later.out
  rw [emitAll_out, out] at e
  simp [Sent, ← e, mem]

theorem ready_outcome : let t := rejoined found (emitAll (readinessOutputs s) (readied s))
    t.boot = { s.boot with ready := true, starting := false, steps := s.boot.steps ||| BitVec.twoPow 10 9 } ∧
      t.fw.failedBoots = 0 ∧ (s.boot.linkUp0 = true → Sent (.readiness 0) s t) ∧
      (s.boot.linkUp1 = true → Sent (.readiness 1) s t) := by
  dsimp only
  refine ⟨?_, ?_, fun up => ?_, fun up => ?_⟩
  · rw [rejoined_touches .boot (by decide)]
    exact readied_boot
  · rw [rejoined_touches .fw (by decide)]
    exact congrArg Fw.failedBoots readied_fw
  · exact .of_emitAll (by simp [readinessOutputs, up]) readied_out rejoined_onward
  · exact .of_emitAll (by simp [readinessOutputs, up]) readied_out rejoined_onward

end

/-- Settles O36: training and step 9 complete their steps, a merge takes over what was found and leaves nothing pending, a
bundle without consent keeps its fused map, and a held partition is released with QUIESCE to its tiles. -/
theorem lanesAndMerges : Obligations.LanesAndMerges := by
  unfold Obligations.LanesAndMerges
  refine ⟨fun rs ls ds s starting due loaded ticks => ?trained, fun b s waits unheld room => ?refused,
    fun s runs past => ?merged, fun s runs starting due strands => ?step8,
    fun rs s runs ticks nonempty idle => ?retrained, fun k s runs held => ?released,
    fun found s runs starting merged lattice => ?ready, fun found s recovery starting => ?recovery⟩
  case trained =>
    refine .of_next (exec_stitchTrainingDone starting due loaded ticks) (execStitchTrainingDone_touches ..)
      ⟨stitchesTrained_boot, stitchesTrained_cold, fun warm => ?_, fun n => stitchesTrained_pending,
        stitchesTrained_deadRouters⟩
    rw [stitchesTrained_warm warm]
    exact ⟨rfl, rfl⟩
  case refused =>
    exact ⟨_, (exec_consentTimeout waits).trans (congrArg _ (sendEvent_room unheld room)), ⟨rfl, rfl⟩,
      upd_ctl rfl (upd_lanes rfl (.refl _ _))⟩
  case merged =>
    obtain ⟨routers, pcs, cluster, stitch⟩ := mergeFaultMap_pending (s := s)
    exact .of_next (exec_faultMapMerge_service runs past) (execFaultMapMerge_touches s)
      ⟨mergeFaultMap_merges, mergeFaultMap_deadRouters, mergeFaultMap_deadPcs, routers, pcs, cluster, stitch,
        mergeFaultMap_consent, mergeFaultMap_hbmMem, mergeFaultMap_boot⟩
  case step8 =>
    refine .of_next (exec_faultMapMerge_start runs starting due strands) (execFaultMapMerge_touches s)
      ⟨startMerge_merges, ?steps, ?unready, ?taken, startMerge_power⟩
    case steps => rw [startMerge_boot]
    case unready => rw [startMerge_boot]
    case taken =>
      rw [startMerge_fmap]
      exact mergeFaultMap_pending.1
  case retrained =>
    exact .of_next (exec_stitchRetrain runs ticks nonempty idle) (execStitchRetrain_touches rs s) retrain_outcome
  case released =>
    exact .of_next (exec_partitionRelease runs) (execPartitionRelease_touches k s)
      ⟨part_releasePart held, releasePart_onlyPart, releasePart_out held⟩
  case ready =>
    exact .of_next (exec_deviceReady_start runs starting merged lattice) (execDeviceReady_touches found s) ready_outcome
  case recovery =>
    exact ⟨_, exec_deviceReady_recovery recovery starting, ⟨rfl, rfl⟩,
      (upd_boot rfl (.refl _ _)).trans ((emitAll_touches _ _).mono rfl)⟩

end Sys2Proof.Machine
end

section
/-! HBM_SOFT_REPAIR where the stack's controller has a full injection queue (R162, R282): the EVENT of the repair is held back, a
state that the premises of the statement admit. -/

namespace Sys2Proof.Machine
open Sys2Proof.Tests

/-- An endpoint whose injection queue is full holds the EVENT back: none is queued (R162). -/
theorem sendEvent_full {p : FaultPkt} {s : State} (unheld : Tab.get none s.ctl.heldEvent p.src = none)
    (full : 32 ≤ Tab.get 0 s.ctl.inject p.src) : (sendEvent p s).ctl.eventQ = s.ctl.eventQ := by
  simp [sendEvent, unheld, full]

/-- Row 44 of pseudo-channel 3 waits for its repair, and 32 EVENT packets stand in the queue of stack 0's controller. -/
def crowdedController : State := { wFailing with ctl := { wFailing.ctl with inject := [(hbmEndpoint 3, 32)] } }

theorem crowdedController_premises : crowdedController.UnitWf ∧ pcServes crowdedController 3 = true ∧
    (pcOf crowdedController 3).auto = true ∧ (pcOf crowdedController 3).failing.contains 44 = true := by
  decide +kernel

/-- The repair ends with its EVENT. -/
theorem exec_hbmSoftRepair_repaired {pc row : Nat} {s : State} (serves : pcServes s pc = true) (auto : (pcOf s pc).auto = true)
    (failing : (pcOf s pc).failing.contains row = true) :
    ∃ u, exec (.hbmSoftRepair pc row true) s =
      .next (sendEvent ⟨0x5003, 1, pc, some (row / 4), hbmEndpoint pc, 0⟩ u) ∧ u.ctl = s.ctl := by
  change ∃ u, execHbmSoftRepair pc row true s = _ ∧ _
  simp only [execHbmSoftRepair, serves, auto, failing, Bool.not_true, Bool.or_self, Bool.false_eq_true, if_false, if_true]
  exact ⟨_, rfl, rfl⟩

/-- Refutes O15: HBM_SOFT_REPAIR's clause says that the packet of the repair enters the queue of EVENT packets, whatever waits
before it. In `crowdedController` the controller's injection queue is full, and the packet is held back. -/
theorem not_hbmControllers : ¬ Obligations.HbmControllers := by
  intro h
  obtain ⟨-, -, -, -, -, -, -, -, -, repair, -⟩ := h
  obtain ⟨wf, serves, auto, failing⟩ := crowdedController_premises
  obtain ⟨t, step, ⟨-, -, -, -, queued, -⟩, -⟩ := repair 3 44 crowdedController wf serves auto failing
  obtain ⟨u, step', ctl⟩ := exec_hbmSoftRepair_repaired serves auto failing
  obtain rfl := Host.Outcome.next.inj (step'.symm.trans step)
  rw [sendEvent_full (by rw [ctl]; rfl) (by rw [ctl]; decide), ctl] at queued
  simp at queued

end Sys2Proof.Machine
end

section
/-! DRIVE_COMMAND_ABORT where the dense-tier block holds an EVENT back (R162, R298): the abort's EVENT is lost and counted, a
state that the premises of the statement admit. -/

namespace Sys2Proof.Machine
open Sys2Proof.Tests

/-- The EVENT of an earlier abort on drive 0. -/
def heldAbort : FaultPkt := ⟨0x6002, 3, 0, none, denseEndpoint, 0⟩

/-- A DENSE_FLUSH waits for the NVMe Flushes of drives 0 and 1, and the north dense-tier block holds an EVENT back. -/
def mutedFlush : State :=
  { wFlushing [] [0, 1] with ctl := { wReady.ctl with heldEvent := [(denseEndpoint, some heldAbort)] } }

/-- The NVMe Flush outstanding on drive 0. -/
def flushCmd : DriveCmd := ⟨2, 0, 0, 0⟩

theorem mutedFlush_premises : outstanding mutedFlush 0 2 0 = some flushCmd ∧ (driveOf mutedFlush 0).backlog = [] ∧
    mutedFlush.dense.assigns = [] ∧ mutedFlush.dense.attaches = [] ∧
    (mutedFlush.fw.outstanding.any fun o => o.1 == 65 && o.2.2 == 7) = true ∧
    ((driveOf mutedFlush 0).aborts.filter fun a => decide (mutedFlush.clk.refTime.toNat < a + 100000000)).length < 2 := by
  decide +kernel

/-- The state that the abort of an NVMe Flush leaves. -/
def flushAbortDone (drive : Nat) (c : DriveCmd) (s : State) : State :=
  denseGo (noteAbort drive (flushAborted drive (driveEnds drive c (emit (.driveCmd drive 3 0 0) s))))

theorem exec_driveCommandAbort_flush {drive block : Nat} {c : DriveCmd} {s : State}
    (running : outstanding s drive 2 block = some c) :
    exec (.driveCommandAbort drive 2 block) s = .next (flushAbortDone drive c s) := by
  change execDriveCommandAbort drive 2 block s = _
  simp only [execDriveCommandAbort, running]
  rfl

theorem flushAbortDone_mutedFlush_lost :
    counter (flushAbortDone 0 flushCmd mutedFlush) 0x0702 denseEndpoint = 1 := by
  decide +kernel

theorem mutedFlush_lost : counter mutedFlush 0x0702 denseEndpoint = 0 := by
  decide +kernel

/-- Refutes O41: the clause about the abort of an NVMe Flush names no counter as changed, whatever the dense-tier block holds
back. In `mutedFlush` the abort's EVENT comes behind a held one, and the count of lost EVENT packets goes from 0 to 1. -/
theorem not_driveCommands : ¬ Obligations.DriveCommands := by
  intro h
  obtain ⟨-, -, -, -, -, -, -, abort, -⟩ := h
  obtain ⟨running, empty, assigns, attaches, waits, recent⟩ := mutedFlush_premises
  obtain ⟨t, step, -, frame⟩ := abort 0 0 flushCmd ⟨65, 7, [], [0, 1], true, none⟩ mutedFlush running empty rfl rfl rfl rfl
    assigns attaches waits recent
  obtain rfl := Host.Outcome.next.inj ((exec_driveCommandAbort_flush running).symm.trans step)
  have same := congrArg (Tab.get 0 · (counterKey 0x0702 denseEndpoint)) (frame .counters (by decide))
  exact absurd (flushAbortDone_mutedFlush_lost.symm.trans (same.trans mutedFlush_lost)) (by decide)

end Sys2Proof.Machine
end

section
/-! Lines of HBM (R273, R274, R279): the bytes of a line that was written, and of consecutive lines written in turn. -/

namespace Sys2Proof.Machine

section
variable {lo n line : Nat} {d : LineData} {s t u : State}

theorem HbmOutside.refl (lo n : Nat) (s : State) : HbmOutside lo n s s := fun _ _ => rfl

theorem HbmOutside.trans (h : HbmOutside lo n s t) (g : HbmOutside lo n t u) : HbmOutside lo n s u :=
  fun a out => (g a out).trans (h a out)

/-- A wider range leaves fewer bytes to speak of. -/
theorem HbmOutside.mono {lo' n' : Nat} (h : HbmOutside lo n s t) (low : lo' ≤ lo) (high : lo + n ≤ lo' + n') :
    HbmOutside lo' n' s t :=
  fun a _ => h a (by omega)

/-- A state with the same contents of HBM. -/
theorem HbmOutside.of_mem (h : t.hbm.mem = s.hbm.mem) : HbmOutside lo n s t := by
  intro a _
  rw [h]

theorem HbmLineIs.of_mem (held : HbmLineIs line d s) (h : t.hbm.mem = s.hbm.mem) : HbmLineIs line d t := by
  intro i lt
  rw [h]
  exact held i lt

/-- A line that lies outside of what changes. -/
theorem HbmLineIs.of_outside (held : HbmLineIs line d s) (h : HbmOutside lo n s t)
    (out : 64 * line + 64 ≤ lo ∨ lo + n ≤ 64 * line) : HbmLineIs line d t :=
  fun i lt => (h _ (by omega)).trans (held i lt)

theorem hbmWrite_hbmOutside (line : Nat) (d : LineData) (poison : Bool) (s : State) :
    HbmOutside (64 * line) 64 s (hbmWrite line d poison s) :=
  fun _ out => hbmWrite_outside line d poison s out

theorem hbmWrite_hbmLineIs (line : Nat) (d : LineData) (poison : Bool) (wf : Memory.wf s.hbm.mem = true) :
    HbmLineIs line d (hbmWrite line d poison s) := by
  intro i lt
  rw [hbmWrite_mem]
  exact Memory.byte_setLine_full _ _ wf lt

/-! ### Consecutive lines -/

theorem serveLines_succ (n : Nat) (f : Nat → State → State) (s : State) :
    serveLines (n + 1) f s = f n (serveLines n f s) := by
  simp [serveLines, rangeFrom_eq_range', List.range'_1_concat]

/-- Lines line to line + n − 1 are written in ascending order. -/
def writeLines (line : Nat) (data : Nat → LineData) (poison : Nat → Bool) (n : Nat) (s : State) : State :=
  serveLines n (fun i t => hbmWrite (line + i) (data i) (poison i) t) s

variable {data : Nat → LineData} {poison : Nat → Bool}

theorem writeLines_succ (n : Nat) : writeLines line data poison (n + 1) s =
    hbmWrite (line + n) (data n) (poison n) (writeLines line data poison n s) :=
  serveLines_succ n _ s

theorem writeLines_wf (wf : Memory.wf s.hbm.mem = true) (n : Nat) :
    Memory.wf (writeLines line data poison n s).hbm.mem = true := by
  induction n with
  | zero => exact wf
  | succ n ih => exact writeLines_succ n ▸ hbmWrite_wf _ _ _ _ ih

theorem writeLines_outside (n : Nat) : HbmOutside (64 * line) (64 * n) s (writeLines line data poison n s) := by
  induction n with
  | zero => exact .refl _ _ _
  | succ n ih =>
    rw [writeLines_succ]
    exact (ih.mono (Nat.le_refl _) (by omega)).trans
      ((hbmWrite_hbmOutside _ _ _ _).mono (by omega) (by omega))

theorem writeLines_line (wf : Memory.wf s.hbm.mem = true) {n i : Nat} (lt : i < n) :
    HbmLineIs (line + i) (data i) (writeLines line data poison n s) := by
  induction n with
  | zero => omega
  | succ n ih =>
    rw [writeLines_succ]
    rcases Nat.lt_succ_iff_lt_or_eq.mp lt with below | rfl
    · exact (ih below).of_outside (hbmWrite_hbmOutside _ _ _ _) (.inl (by omega))
    · exact hbmWrite_hbmLineIs _ _ _ (writeLines_wf wf i)

end

end Sys2Proof.Machine
end

section
/-! Window cells of HBM (R278, R279, R301): what READ_WINDOW_CELL presents, and what WRITE_WINDOW_CELL writes. -/

namespace Sys2Proof.Machine

section
variable {pc cell sev : Nat} {c : CellReady} {s u : State}

/-! ### READ_WINDOW_CELL -/

/-- The state in which a read cell begins: its tick has come, the rows stand as the image assumes, and the severity reports are
counted. -/
abbrev readCellStart (pc cell sev : Nat) (s : State) : State :=
  hbmCount pc 2 sev (restoreRows pc (advance (8 * cell - frameOffset s) s))

/-- The stripe of a cell. -/
abbrev CellReady.stripe (c : CellReady) : Nat := recStripeOf c.rec_ c.cell c.ctx
/-- The first line of a cell. -/
abbrev CellReady.line (c : CellReady) (pc : Nat) : Nat := hbmLine pc c.stripe (addrLine c.cell.addr + 3 * c.index)
/-- The rim router of a cell. -/
abbrev CellReady.rim (c : CellReady) (pc : Nat) : Nat := rimRouter (pc / 32) c.cell.rim

/-- Beats are presented into the rim router of a read cell that began in the state u. -/
def presentCell (pc : Nat) (c : CellReady) (u : State) (bs : List Beat) (t : State) : State :=
  updPipe c.part (fun q => { q with arrivals := readCellBeats (c.rim pc) (part u c.part).ptick bs ++ q.arrivals }) t

theorem exec_readWindowCell_open (ready : readyCell s pc cell 1 = some c) (due : frameOffset s ≤ 8 * cell)
    (opened : (pcOf (readCellStart pc cell sev s) pc).openStripe = some c.stripe) :
    exec (.readWindowCell pc cell sev) s = .next (presentCell pc c (readCellStart pc cell sev s)
      (readThree (c.line pc) (readCellStart pc cell sev s)).1 (readThree (c.line pc) (readCellStart pc cell sev s)).2) := by
  change execReadWindowCell pc cell sev s = _
  simp only [execReadWindowCell, ready, Nat.not_lt.mpr due, opened, if_false, if_true]
  rfl

theorem exec_readWindowCell_closed (ready : readyCell s pc cell 1 = some c) (due : frameOffset s ≤ 8 * cell)
    (closed : (pcOf (readCellStart pc cell sev s) pc).openStripe ≠ some c.stripe) :
    exec (.readWindowCell pc cell sev) s = .next (presentCell pc c (readCellStart pc cell sev s)
      [Beat.of 0 true, Beat.of 0 true, Beat.of 0 true] (readCellStart pc cell sev s)) := by
  change execReadWindowCell pc cell sev s = _
  simp only [execReadWindowCell, ready, Nat.not_lt.mpr due, closed, if_false]
  rfl

variable {bs : List Beat} {t : State}

theorem presentCell_arrivals (parts : t.parts = u.parts) (wf : Tab.wf Part.reset u.parts = true) :
    (part (presentCell pc c u bs t) c.part).pipe.arrivals =
      readCellBeats (c.rim pc) (part u c.part).ptick bs ++ (part u c.part).pipe.arrivals := by
  rw [presentCell, part_updPipe _ _ _ (parts ▸ wf)]
  simp only [part, parts]

theorem presentCell_onlyPart (parts : t.parts = u.parts) : OnlyPart c.part u (presentCell pc c u bs t) :=
  (OnlyPart.of_parts parts).trans (onlyPart_updPart _ _ _)

theorem presentCell_touches : Touches [.parts] t (presentCell pc c u bs t) := updPipe_touches _ _ _

theorem presentCell_mem (mem : t.hbm.mem = u.hbm.mem) : (presentCell pc c u bs t).hbm.mem = u.hbm.mem := mem

theorem readThree_mem (line : Nat) (s : State) : (readThree line s).2.hbm.mem = s.hbm.mem :=
  (readThree_within (may := fun _ => false)).same .hbm rfl

/-! ### WRITE_WINDOW_CELL -/

/-- The state at the last beat of a write cell, or now where that has passed. -/
abbrev writeCellEnd (pc cell : Nat) (s : State) : State := restoreRows pc (advance (8 * cell + 6 - frameOffset s) s)

/-- The beat that the rim router's edge port delivered to a write cell at T + lag. -/
abbrev writeCellBeat (pc cell : Nat) (c : CellReady) (u : State) (lag : Nat) : Beat :=
  edgeBeatAt (part u c.part).pipe (c.rim pc) portEdge ((part u c.part).ptick - (frameOffset u - 8 * cell) + lag)

/-- The beats of T, T + 3 and T + 6 go to consecutive lines. -/
def writeCell (line : Nat) (beat : Nat → Beat) (u : State) : State :=
  acceptBeat (line + 2) (beat 6) (acceptBeat (line + 1) (beat 3) (acceptBeat line (beat 0) u))

theorem exec_writeWindowCell_open (ready : readyCell s pc cell 2 = some c) (due : frameOffset s ≤ 8 * cell + 15)
    (opened : (pcOf (writeCellEnd pc cell s) pc).openStripe = some c.stripe) :
    exec (.writeWindowCell pc cell) s =
      .next (writeCell (c.line pc) (writeCellBeat pc cell c (writeCellEnd pc cell s)) (writeCellEnd pc cell s)) := by
  change execWriteWindowCell pc cell s = _
  simp only [execWriteWindowCell, ready, Nat.not_lt.mpr due, opened, if_false, if_true]
  rfl

theorem exec_writeWindowCell_closed (ready : readyCell s pc cell 2 = some c) (due : frameOffset s ≤ 8 * cell + 15)
    (closed : (pcOf (writeCellEnd pc cell s) pc).openStripe ≠ some c.stripe) :
    exec (.writeWindowCell pc cell) s = .next (writeCellEnd pc cell s) := by
  change execWriteWindowCell pc cell s = _
  simp only [execWriteWindowCell, ready, Nat.not_lt.mpr due, closed, if_false]

theorem acceptBeat_valid {line : Nat} {b : Beat} (valid : b.valid = true) :
    acceptBeat line b s = hbmWrite line b.data b.poison s := if_pos valid

theorem acceptBeat_idle {line : Nat} {b : Beat} (idle : b.valid = false) : acceptBeat line b s = s := by
  simp [acceptBeat, idle]

/-- Three valid beats are written to three consecutive lines. -/
theorem writeCell_valid {line : Nat} {beat : Nat → Beat} (first : (beat 0).valid = true) (second : (beat 3).valid = true)
    (third : (beat 6).valid = true) : writeCell line beat u =
      writeLines line (fun i => (beat (3 * i)).data) (fun i => (beat (3 * i)).poison) 3 u := by
  rw [writeCell, acceptBeat_valid first, acceptBeat_valid second, acceptBeat_valid third, writeLines_succ, writeLines_succ,
    writeLines_succ]
  rfl

theorem writeCell_touches {line : Nat} {beat : Nat → Beat} : Touches [.hbm] u (writeCell line beat u) :=
  ((acceptBeat_touches _ _ _).trans (acceptBeat_touches _ _ _)).trans (acceptBeat_touches _ _ _)

/-- Three idle beats are written nowhere. -/
theorem writeCell_idle {line : Nat} {beat : Nat → Beat} (first : (beat 0).valid = false) (second : (beat 3).valid = false)
    (third : (beat 6).valid = false) : writeCell line beat u = u := by
  rw [writeCell, acceptBeat_idle first, acceptBeat_idle second, acceptBeat_idle third]

/-- What a write cell with three valid beats leaves of HBM. -/
theorem writeCell_contents {line : Nat} {beat : Nat → Beat} (wf : u.MemWf) (first : (beat 0).valid = true)
    (second : (beat 3).valid = true) (third : (beat 6).valid = true) :
    HbmLineIs line (beat 0).data (writeCell line beat u) ∧ HbmLineIs (line + 1) (beat 3).data (writeCell line beat u) ∧
      HbmLineIs (line + 2) (beat 6).data (writeCell line beat u) ∧ HbmOutside (64 * line) 192 u (writeCell line beat u) := by
  rw [writeCell_valid first second third]
  exact ⟨writeLines_line wf.2 (i := 0) (by decide), writeLines_line wf.2 (i := 1) (by decide),
    writeLines_line wf.2 (i := 2) (by decide), writeLines_outside 3⟩

end

/-- Settles O14: a read cell presents what its three reads, or the closed stripe, give; a write cell writes its three beats to
three consecutive lines. -/
theorem windowCells : Obligations.WindowCells := by
  unfold Obligations.WindowCells
  refine ⟨fun pc cell sev c s ready due opened plane => ?read, fun pc cell sev c s ready due closed plane => ?poison,
    fun pc cell c s ready due opened mem first second third => ?write,
    fun pc cell c s ready due opened first second third => ?idle, fun pc cell c s ready due closed => ?dropped⟩
  case read =>
    have frame := readThree_touches (c.line pc) (readCellStart pc cell sev s)
    have parts := frame .parts (by decide)
    exact ⟨_, exec_readWindowCell_open ready due opened,
      ⟨presentCell_arrivals parts plane.1, presentCell_mem (readThree_mem _ _), presentCell_onlyPart parts⟩,
      (frame.mono rfl).trans (presentCell_touches.mono rfl)⟩
  case poison =>
    exact ⟨_, exec_readWindowCell_closed ready due closed,
      ⟨presentCell_arrivals rfl plane.1, presentCell_onlyPart rfl⟩, presentCell_touches⟩
  case write =>
    have contents := writeCell_contents (line := c.line pc) (beat := writeCellBeat pc cell c (writeCellEnd pc cell s)) mem
      first second third
    exact ⟨_, exec_writeWindowCell_open ready due opened, contents, writeCell_touches⟩
  case idle =>
    exact ⟨_, (exec_writeWindowCell_open ready due opened).trans (congrArg _ (writeCell_idle first second third)), rfl,
      .refl _ _⟩
  case dropped =>
    exact ⟨_, exec_writeWindowCell_closed ready due closed, rfl, .refl _ _⟩

end Sys2Proof.Machine
end

section
/-! The dense tier's cache at rest and at work (R287, R293, R295): where a line lies, what a change of one line or pseudo-channel
leaves of the others, and what work put on a line, a write-back, and a read of a block leave. -/

namespace Sys2Proof.Machine

theorem State.UnitWf.channels {s : State} (wf : s.UnitWf) : Tab.wf Pc.reset s.hbm.pc = true := by
  obtain ⟨channels, -⟩ := wf
  exact channels

theorem State.UnitWf.lines {s : State} (wf : s.UnitWf) : Tab.wf CacheLine.reset s.dense.lines = true := by
  obtain ⟨-, -, -, -, -, -, -, lines, -⟩ := wf
  exact lines

/-! ### Frames of one line and one pseudo-channel -/

section
variable {k n i : Nat} {s t u : State}

theorem OnlyPc.trans (h : OnlyPc n s t) (g : OnlyPc n t u) : OnlyPc n s u := fun j ne => (g j ne).trans (h j ne)

/-- A state with the same pseudo-channels. -/
theorem OnlyPc.of_hbm (h : t.hbm = s.hbm) : OnlyPc n s t := by
  intro j _
  rw [pcOf, h, pcOf]

theorem onlyPc_updPc (n : Nat) (f : Pc → Pc) (s : State) : OnlyPc n s (updPc n f s) := fun _ ne => pcOf_updPc_ne n f s ne

theorem OnlyLine.trans (h : OnlyLine k s t) (g : OnlyLine k t u) : OnlyLine k s u := fun j ne => (g j ne).trans (h j ne)

theorem cacheLine_of_lines (h : t.dense.lines = s.dense.lines) (k : Nat) : cacheLine t k = cacheLine s k := by
  rw [cacheLine, h, cacheLine]

/-- A state with the same cache lines. -/
theorem OnlyLine.of_lines (h : t.dense.lines = s.dense.lines) : OnlyLine k s t := fun j _ => cacheLine_of_lines h j

theorem onlyLine_updLine (k : Nat) (f : CacheLine → CacheLine) (s : State) : OnlyLine k s (updLine k f s) :=
  fun _ ne => cacheLine_updLine_ne k f s ne

/-! ### Where a line lies -/

/-- The units' roles decide where cache lines lie. -/
theorem lineHome_congr (role : t.hbm.role = s.hbm.role) (k i : Nat) : lineHome t k i = lineHome s k i := by
  simp only [lineHome, roleOf, role]

/-- The 64 lines of HBM of a cache line follow each other. -/
theorem lineHome_add (s : State) (k : Nat) (lt : i < 64) : lineHome s k i = lineHome s k 0 + i := by
  have page (a : Nat) : (4096 * a + 64 * i) / 4096 = a ∧ (4096 * a + 64 * i) / 131072 = a / 32 ∧
      (4096 * a + 64 * i) % 4096 / 64 = i := by omega
  have start (a : Nat) : (4096 * a + 64 * 0) / 4096 = a ∧ (4096 * a + 64 * 0) / 131072 = a / 32 ∧
      (4096 * a + 64 * 0) % 4096 / 64 = 0 := by omega
  simp only [lineHome, unitLine, hbmLine, page, start, Nat.add_zero]

/-- A block's place in a line depends on the lines and the number of units. -/
theorem blockOf_congr (lines : t.dense.lines = s.dense.lines) (units : t.dense.units = s.dense.units) (k : Nat) :
    blockOf t k = blockOf s k := by
  rw [blockOf, cacheLine_of_lines lines, cacheSets, units, blockOf, cacheSets]

/-! ### Work on a line -/

/-- The pseudo-channel of a cache line. -/
abbrev lineChannel (s : State) (k : Nat) : Nat := lineHome s k 0 / pcLines

/-- From s to t, work on line k has joined the queue of its pseudo-channel, and nothing else of HBM's controllers and contents has
changed. -/
def Waits (k : Nat) (j : CacheJob) (s t : State) : Prop :=
  (pcOf t (lineChannel s k)).cacheQ = (pcOf s (lineChannel s k)).cacheQ ++ [(k, j)] ∧ OnlyPc (lineChannel s k) s t ∧
    t.hbm.mem = s.hbm.mem

theorem queueCache_waits {j : CacheJob} (hbm : u.hbm = s.hbm) (wf : s.UnitWf) : Waits k j s (queueCache k j u) := by
  have channel : lineChannel u k = lineChannel s k := congrArg (· / pcLines) (lineHome_congr (congrArg Hbm.role hbm) k 0)
  have found : pcOf u (lineChannel s k) = pcOf s (lineChannel s k) := by rw [pcOf, hbm, pcOf]
  have wf' : Tab.wf Pc.reset u.hbm.pc = true := hbm ▸ wf.channels
  rw [Waits, queueCache]
  change (pcOf (updPc (lineChannel u k) _ u) _).cacheQ = _ ∧ OnlyPc _ s (updPc (lineChannel u k) _ u) ∧ _
  rw [channel]
  refine ⟨?_, (OnlyPc.of_hbm hbm).trans (onlyPc_updPc _ _ _), ?_⟩
  · rw [pcOf_updPc _ _ _ wf', found]
  · change u.hbm.mem = s.hbm.mem
    rw [hbm]

/-! ### Write-backs -/

/-- From s to t the write-back of line k has begun. -/
def WriteBegun (k : Nat) (s t : State) : Prop :=
  Waits k (.evict (blockOf s k)) s t ∧ OnlyLine k s t ∧ cacheLine t k = { cacheLine s k with state := 4, redirty := false }

theorem startWrite_begun {reason : Nat} (hbm : u.hbm = s.hbm) (lines : u.dense.lines = s.dense.lines)
    (units : u.dense.units = s.dense.units) (wf : s.UnitWf) : WriteBegun k s (startWrite k reason u) := by
  have block : blockOf u k = blockOf s k := blockOf_congr lines units k
  refine ⟨?_, (OnlyLine.of_lines lines).trans (onlyLine_updLine k _ _), ?_⟩
  · rw [startWrite, block]
    exact queueCache_waits hbm wf
  · exact (cacheLine_updLine k _ _ (lines ▸ wf.lines)).trans (by rw [← cacheLine_of_lines lines]; rfl)

theorem startWrite_writing {reason : Nat} (lines : u.dense.lines = s.dense.lines) (units : u.dense.units = s.dense.units) :
    (startWrite k reason u).dense.writing = u.dense.writing ++ [(blockOf s k, reason)] := by
  rw [← blockOf_congr lines units]
  rfl

/-! ### Commands to drives -/

theorem sendDrive_dense (d cmd b data : Nat) (s : State) :
    ∃ v, (sendDrive d cmd b data s).dense = { s.dense with drive := v } := by
  unfold sendDrive
  split
  · exact ⟨_, rfl⟩
  · exact ⟨_, rfl⟩

theorem sendDrive_out {d cmd b data : Nat} (room : (freeQueue (driveOf s d)).isSome = true) :
    (sendDrive d cmd b data s).out = s.out ++ [.driveCmd d cmd (if cmd = 2 then 0 else lbaOf s b) data] := by
  obtain ⟨queue, found⟩ := Option.isSome_iff_exists.mp room
  rw [sendDrive, found]
  rfl

/-! ### Misses -/

/-- The entry of a block that has none but the last. -/
theorem map_setMiss_append {l : List MissEntry} {m e : MissEntry} (fresh : l.find? (fun x => x.block == m.block) = none)
    (same : e.block = m.block) :
    (l ++ [e]).map (fun x => if x.block == m.block then m else x) = l ++ [m] := by
  rw [List.find?_eq_none] at fresh
  rw [List.map_append]
  congr 1
  · exact (List.map_congr_left fun x mem => if_neg (fresh x mem)).trans (List.map_id' l)
  · simp [same]

/-- The line of a miss, which waits for its block. -/
def fillingLine (m : MissEntry) (s : State) : State :=
  updLine m.way (fun _ => { CacheLine.reset with state := 3, tag := tagOf s m.block, used := s.dense.stamp + 1 })
    { s with dense := { s.dense with stamp := s.dense.stamp + 1 } }

variable {m : MissEntry} {q : DReq}

theorem fillLine_of_read (head : m.waiters.head? = some q) (part : q.whole = false) :
    fillLine m s = readBlock m (fillingLine m s) := by
  simp only [fillLine, head, part]
  rfl

theorem fillLine_of_take (head : m.waiters.head? = some q) (whole : q.whole = true) :
    fillLine m s = queueCache m.way (.take m.block) (setMiss { m with phase := 3 } (fillingLine m s)) := by
  simp only [fillLine, head, whole]
  rfl

theorem cacheLine_fillingLine (wf : Tab.wf CacheLine.reset s.dense.lines = true) : cacheLine (fillingLine m s) m.way =
    { CacheLine.reset with state := 3, tag := tagOf s m.block, used := s.dense.stamp + 1 } :=
  cacheLine_updLine m.way _ _ wf

theorem fillingLine_onlyLine : OnlyLine m.way s (fillingLine m s) := onlyLine_updLine m.way _ _

theorem readBlock_dense (m : MissEntry) (s : State) :
    ∃ v, (readBlock m s).dense = { (setMiss { m with phase := 1 } s).dense with drive := v } :=
  sendDrive_dense ..

theorem readBlock_out (room : (freeQueue (driveOf s (driveAt s m.block))).isSome = true) :
    (readBlock m s).out = s.out ++ [.driveCmd (driveAt s m.block) 0 (lbaOf s m.block) 0] :=
  sendDrive_out (s := setMiss { m with phase := 1 } s) room

end

end Sys2Proof.Machine
end

section
/-! CACHE_ACCESS and CACHE_CLEANER (R287, R293, R295, R297): what the oldest request that can proceed leaves of the cache, by what
it meets there, and when a DIRTY line is written back. -/

namespace Sys2Proof.Machine

section
variable {k fn ticket off : Nat} {q : DReq} {m : MissEntry} {s u : State}

/-! ### The oldest request -/

/-- A request is no longer withheld. -/
def unheldReq (q : DReq) (s : State) : State := { s with dense := { s.dense with withheld := s.dense.withheld.erase q } }

theorem exec_cacheAccess_none (idle : denseReady s = none) : exec .cacheAccess s = .next s := by
  change execCacheAccess s = _
  rw [execCacheAccess, idle]

theorem exec_cacheAccess (ready : denseReady s = some q) : exec .cacheAccess s = .next (denseServe q (unheldReq q s)) := by
  change execCacheAccess s = _
  rw [execCacheAccess, ready]
  rfl

theorem oldestLine_unheldReq (q : DReq) (s : State) (l : List Nat) : oldestLine (unheldReq q s) l = oldestLine s l := by
  induction l with
  | nil => rfl
  | cons k l ih =>
    rw [oldestLine, oldestLine, ih]
    rfl

/-- What a request meets does not depend on the withheld ones. -/
theorem denseStep_unheldReq (q r : DReq) (s : State) : denseStep (unheldReq q s) r = denseStep s r := by
  simp only [denseStep, victimOf, oldestLine_unheldReq]
  rfl

theorem denseServe_unheldReq_hit (met : denseStep s q = .hit k) :
    denseServe q (unheldReq q s) = queueCache k (.hit q) (useLine k (unheldReq q s)) := by
  rw [denseServe, denseStep_unheldReq, met]

theorem denseServe_unheldReq_joins (met : denseStep s q = .joins m) :
    denseServe q (unheldReq q s) = setMiss { m with waiters := m.waiters ++ [q] } (unheldReq q s) := by
  rw [denseServe, denseStep_unheldReq, met]

theorem denseServe_unheldReq_fails (met : denseStep s q = .fails) : denseServe q (unheldReq q s) = failReq q (unheldReq q s) := by
  rw [denseServe, denseStep_unheldReq, met]

/-- The entry of a miss as it is allocated. -/
abbrev newMiss (q : DReq) (k : Nat) : MissEntry := ⟨q.block, k, 0, [q]⟩

/-- A request is taken and an entry allocated for it. -/
def allocMiss (q : DReq) (k : Nat) (s : State) : State :=
  { unheldReq q s with dense := { (unheldReq q s).dense with misses := s.dense.misses ++ [newMiss q k] } }

theorem denseServe_unheldReq_dirty (met : denseStep s q = .miss k) (dirty : (cacheLine s k).state = 2) :
    denseServe q (unheldReq q s) = startWrite k 0 (allocMiss q k s) := by
  rw [denseServe, denseStep_unheldReq, met]
  exact if_pos dirty

theorem denseServe_unheldReq_clean (met : denseStep s q = .miss k) (clean : (cacheLine s k).state ≠ 2) :
    denseServe q (unheldReq q s) = fillLine (newMiss q k) (allocMiss q k s) := by
  rw [denseServe, denseStep_unheldReq, met]
  exact if_neg clean

/-- A block that a request misses has no entry. -/
theorem find_miss_of_denseStep (met : denseStep s q = .miss k) :
    s.dense.misses.find? (fun m => m.block == q.block) = none := by
  rw [denseStep] at met
  split at met
  · cases met
  · split at met
    · cases met
    · split at met
      · split at met <;> cases met
      · assumption

/-! ### Hits -/

theorem cacheLine_useLine (wf : s.UnitWf) : cacheLine (useLine k s) k = { cacheLine s k with used := s.dense.stamp + 1 } :=
  cacheLine_updLine k _ _ wf.lines

theorem useLine_onlyLine : OnlyLine k s (useLine k s) := onlyLine_updLine k _ _

/-! ### Misses -/

theorem setMiss_allocMiss (fresh : s.dense.misses.find? (fun m => m.block == q.block) = none) (phase : Nat) :
    (setMiss { newMiss q k with phase := phase } (fillingLine (newMiss q k) (allocMiss q k s))).dense.misses =
      s.dense.misses ++ [⟨q.block, k, phase, [q]⟩] :=
  map_setMiss_append (m := ⟨q.block, k, phase, [q]⟩) fresh rfl

theorem fillingLine_allocMiss (wf : s.UnitWf) : cacheLine (fillingLine (newMiss q k) (allocMiss q k s)) k =
    { CacheLine.reset with tag := tagOf s q.block, used := s.dense.stamp + 1, state := 3 } :=
  cacheLine_fillingLine (m := newMiss q k) (s := allocMiss q k s) wf.lines

theorem fillingLine_allocMiss_onlyLine : OnlyLine k s (fillingLine (newMiss q k) (allocMiss q k s)) :=
  fillingLine_onlyLine (m := newMiss q k) (s := allocMiss q k s)

theorem fillingLine_touches (m : MissEntry) (s : State) : Touches [.dense] s (fillingLine m s) :=
  (updLine_touches _ _ _).before (upd_dense rfl (.refl _ _))

theorem allocMiss_touches (q : DReq) (k : Nat) (s : State) : Touches [.dense] s (allocMiss q k s) :=
  upd_dense (x := unheldReq q s) rfl (upd_dense rfl (.refl _ _))

/-! ### Failures -/

/-- A failed staging write touches no more than its item. -/
theorem failReq_stage_write_touches (origin : q.origin = .stage fn ticket off) (write : q.write = true) :
    Touches [.rings] s (failReq q s) := by
  simp only [failReq, origin, write, if_true]
  exact touches_foldl (.refl _ _) fun t _ => stageWritten_touches _ _ _ t

/-! ### The cleaner -/

/-- DIRTY lines are above half of all, or not yet below a quarter since. -/
abbrev CleanerRuns (s : State) : Prop :=
  16 * cacheSets s < 2 * (linesIn s 2).length ∨ s.dense.cleaning = true ∧ 16 * cacheSets s ≤ 4 * (linesIn s 2).length

/-- The cleaner's run is noted. -/
def setCleaning (on : Bool) (s : State) : State := { s with dense := { s.dense with cleaning := on } }

/-- Whether the cleaner runs on. -/
theorem cleaner_on_iff : (if s.dense.cleaning then decide (16 * cacheSets s ≤ 4 * (linesIn s 2).length)
    else decide (16 * cacheSets s < 2 * (linesIn s 2).length)) = decide (CleanerRuns s) := by
  by_cases cleaning : s.dense.cleaning = true
  · simp only [CleanerRuns, cleaning, if_true, true_and, decide_eq_decide]
    omega
  · simp [CleanerRuns, cleaning]

theorem exec_cacheCleaner_off (off : ¬CleanerRuns s) : exec .cacheCleaner s = .next (setCleaning false s) := by
  change execCacheCleaner s = _
  unfold execCacheCleaner
  dsimp only
  rw [cleaner_on_iff, decide_eq_false off]
  rfl

theorem exec_cacheCleaner_on {l : List Nat} (on : CleanerRuns s) (dirty : dirtyLines s = k :: l) :
    exec .cacheCleaner s = .next (startWrite k 1 (setCleaning true s)) := by
  have dirty' : dirtyLines (setCleaning true s) = k :: l := dirty
  rw [setCleaning] at dirty'
  change execCacheCleaner s = _
  unfold execCacheCleaner
  dsimp only
  rw [cleaner_on_iff, decide_eq_true on, dirty']
  rfl

theorem setCleaning_same (same : s.dense.cleaning = false) : setCleaning false s = s := by
  rw [setCleaning, ← same]

end

end Sys2Proof.Machine
end

section
/-! UNSCHEDULED_ACCESS on cache lines (R287, R295): a served write stores its bytes and leaves its line DIRTY, a fill stores the
block and leaves its line CLEAN. -/

namespace Sys2Proof.Machine

section
variable {pc sev c k n fn ticket off : Nat} {j : CacheJob} {q : DReq} {m : MissEntry} {s t u v : State}

/-! ### Nothing waits for the cache -/

/-- No flush, role change or attachment waits for the cache. -/
structure CacheFree (s : State) : Prop where
  flushes : s.dense.flushes = []
  assigns : s.dense.assigns = []
  attaches : s.dense.attaches = []

theorem CacheFree.of_dense (free : CacheFree s) (dense : t.dense = s.dense) : CacheFree t where
  flushes := (congrArg Dense.flushes dense).trans free.flushes
  assigns := (congrArg Dense.assigns dense).trans free.assigns
  attaches := (congrArg Dense.attaches dense).trans free.attaches

theorem denseGo_of_free (free : CacheFree s) : denseGo s = s := by
  obtain ⟨flushes, assigns, attaches⟩ := free
  simp only [denseGo, flushGo, flushes, List.foldl_nil, assigns, attaches, List.length_nil, assignGo, attachGo]

/-! ### Up to the work itself -/

/-- The state in which a live pseudo-channel does work of class c: its stack is awake, and the class is noted. -/
def accessStart (pc sev c : Nat) (s : State) : State :=
  updPc pc (fun x => { x with lastClass := c }) (hbmCount pc 2 sev (moveRows pc (wakeStack pc s)))

/-- The work has left the queue of cache accesses. -/
def cacheWorkTaken (pc sev c : Nat) (s : State) : State :=
  updPc pc (fun x => { x with cacheQ := x.cacheQ.drop 1 }) (accessStart pc sev c s)

theorem exec_unscheduledAccess_cache (serves : pcServes s pc = true) (permitted : cellPermitted s pc = true)
    (corrected : (pcOf s pc).writeback = []) (live : pcDead s pc = false) (range : pc < 256)
    (next : nextWork (pcOf s pc) = some (c, .inr (k, j))) :
    exec (.unscheduledAccess pc sev) s = .next (denseGo (serveCache k j false (cacheWorkTaken pc sev c s))) := by
  change execUnscheduledAccess pc sev s = _
  simp only [execUnscheduledAccess, serves, permitted, corrected, live, Nat.not_le.mpr range, next, Bool.not_false,
    Bool.not_true, List.isEmpty_nil, Bool.or_self, Bool.and_false, decide_false, Bool.false_eq_true, if_false]
  rfl

theorem wakeStack_role (pc : Nat) (s : State) : (wakeStack pc s).hbm.role = s.hbm.role := by
  unfold wakeStack
  dsimp only
  split
  · rw [emit_touches _ _ .hbm (by decide), updParts_touches _ _ .hbm (by decide)]
    rfl
  · rfl

theorem moveRows_role (pc : Nat) (s : State) : (moveRows pc s).hbm.role = s.hbm.role := by
  unfold moveRows
  split
  · rfl
  · rfl

/-- What the way to the work leaves: the dense tier, the units' roles, and the contents of HBM. -/
structure SameStore (s t : State) : Prop where
  dense : t.dense = s.dense
  role : t.hbm.role = s.hbm.role
  mem : t.hbm.mem = s.hbm.mem

section
variable (same : SameStore s t)
include same

theorem SameStore.home (k i : Nat) : lineHome t k i = lineHome s k i := lineHome_congr same.role k i

theorem SameStore.lines : t.dense.lines = s.dense.lines := congrArg Dense.lines same.dense

theorem SameStore.line (k : Nat) : cacheLine t k = cacheLine s k := cacheLine_of_lines same.lines k

theorem SameStore.holds (k b : Nat) : holdsBlock t k b = holdsBlock s k b := by
  simp only [holdsBlock, same.line, blockOf_congr same.lines (congrArg Dense.units same.dense)]

theorem SameStore.free (free : CacheFree s) : CacheFree t := free.of_dense same.dense

theorem SameStore.memWf (mem : s.MemWf) : Memory.wf t.hbm.mem = true := same.mem ▸ mem.2

theorem SameStore.linesWf (wf : s.UnitWf) : Tab.wf CacheLine.reset t.dense.lines = true := same.lines ▸ wf.lines

end

theorem cacheWorkTaken_sameStore (pc sev c : Nat) (s : State) : SameStore s (cacheWorkTaken pc sev c s) where
  dense := calc (cacheWorkTaken pc sev c s).dense
    _ = (hbmCount pc 2 sev (moveRows pc (wakeStack pc s))).dense := rfl
    _ = (moveRows pc (wakeStack pc s)).dense := hbmCount_touches _ _ _ _ .dense (by decide)
    _ = (wakeStack pc s).dense := moveRows_touches _ _ .dense (by decide)
    _ = s.dense := wakeStack_touches _ _ .dense (by decide)
  role := calc (cacheWorkTaken pc sev c s).hbm.role
    _ = (hbmCount pc 2 sev (moveRows pc (wakeStack pc s))).hbm.role := rfl
    _ = (moveRows pc (wakeStack pc s)).hbm.role := congrArg Hbm.role (hbmCount_touches _ _ _ _ .hbm (by decide))
    _ = (wakeStack pc s).hbm.role := moveRows_role _ _
    _ = s.hbm.role := wakeStack_role _ _
  mem := calc (cacheWorkTaken pc sev c s).hbm.mem
    _ = (hbmCount pc 2 sev (moveRows pc (wakeStack pc s))).hbm.mem := rfl
    _ = (moveRows pc (wakeStack pc s)).hbm.mem := congrArg Hbm.mem (hbmCount_touches _ _ _ _ .hbm (by decide))
    _ = (wakeStack pc s).hbm.mem := (moveRows_within (may := fun _ => false)).same .hbm rfl
    _ = s.hbm.mem := (wakeStack_within (may := fun _ => false)).same .hbm rfl

/-! ### A write of one line -/

theorem healLine_dense (b i : Nat) (s : State) :
    ∃ failed healing, (healLine b i s).dense = { s.dense with failedBlocks := failed, healing := healing } := by
  unfold healLine
  dsimp only
  split
  · exact ⟨_, _, rfl⟩
  · split
    · exact ⟨_, _, rfl⟩
    · exact ⟨_, _, rfl⟩

theorem cachePut_hbm (b k off : Nat) (d : LineData) (poison : Bool) (s : State) :
    (cachePut b k off d poison s).hbm = (hbmWrite (lineHome s k (off / 64)) d poison (updLine k (dirtied s k) s)).hbm :=
  healLine_touches _ _ _ .hbm (by decide)

theorem cachePut_dense (b k off : Nat) (d : LineData) (poison : Bool) (s : State) : ∃ failed healing,
    (cachePut b k off d poison s).dense =
      { (updLine k (dirtied s k) s).dense with failedBlocks := failed, healing := healing } := by
  have write := hbmWrite_touches (lineHome s k (off / 64)) d poison (updLine k (dirtied s k) s) .dense (by decide)
  obtain ⟨failed, healing, same⟩ :=
    healLine_dense b (off / 64) (hbmWrite (lineHome s k (off / 64)) d poison (updLine k (dirtied s k) s))
  exact ⟨failed, healing, same.trans (by rw [write])⟩

theorem dirtied_of_ne_writing {l : CacheLine} (held : l.state ≠ 4) : dirtied s k l = { l with state := 2 } := if_pos held

/-- A staging write of one line on a line that serves: its bytes are put, and its item goes on. -/
theorem serveCache_write_line (origin : q.origin = .stage fn ticket off) (write : q.write = true) (one : q.len = 64)
    (held : holdsBlock s k q.block = true) : serveCache k (.hit q) false s =
      stageWritten fn ticket none (cachePut q.block k q.off (reqLine q 0) false s) := by
  simp only [serveCache, held, serveHit, origin, write, one, if_true]
  rfl

/-- What such a write leaves of the line and of HBM. -/
theorem serveCache_write_line_effect (origin : q.origin = .stage fn ticket off) (write : q.write = true) (one : q.len = 64)
    (held : holdsBlock s k q.block = true) (settled : (cacheLine s k).state ≠ 4) (mem : Memory.wf s.hbm.mem = true)
    (wf : Tab.wf CacheLine.reset s.dense.lines = true) (free : CacheFree s) :
    let t := serveCache k (.hit q) false s
    CacheFree t ∧ HbmLineIs (lineHome s k (q.off / 64)) (reqLine q 0) t ∧ HbmOutside (64 * lineHome s k (q.off / 64)) 64 s t ∧
      OnlyLine k s t ∧ cacheLine t k = { cacheLine s k with state := 2 } := by
  dsimp only
  rw [serveCache_write_line origin write one held]
  have stage := stageWritten_touches fn ticket none (cachePut q.block k q.off (reqLine q 0) false s)
  have hbm := (stage .hbm (by decide)).trans (cachePut_hbm q.block k q.off (reqLine q 0) false s)
  obtain ⟨failed, healing, put⟩ := cachePut_dense q.block k q.off (reqLine q 0) false s
  have dense := (stage .dense (by decide)).trans put
  have lines := congrArg Dense.lines dense
  obtain ⟨flushes, assigns, attaches⟩ := free
  refine ⟨⟨?_, ?_, ?_⟩, ?_, ?_, ?_, ?_⟩
  · rw [dense]
    exact flushes
  · rw [dense]
    exact assigns
  · rw [dense]
    exact attaches
  · exact (hbmWrite_hbmLineIs (s := updLine k (dirtied s k) s) _ _ _ mem).of_mem (congrArg Hbm.mem hbm)
  · exact (hbmWrite_hbmOutside _ _ _ (updLine k (dirtied s k) s)).trans (.of_mem (congrArg Hbm.mem hbm))
  · exact (onlyLine_updLine k _ s).trans (.of_lines lines)
  · rw [cacheLine_of_lines (s := updLine k (dirtied s k) s) lines, cacheLine_updLine _ _ _ wf, dirtied_of_ne_writing settled]

/-! ### A fill -/

theorem serveLines_congr {f g : Nat → State → State} (same : ∀ i < n, ∀ t, f i t = g i t) (s : State) :
    serveLines n f s = serveLines n g s := by
  induction n with
  | zero => rfl
  | succ n ih =>
    rw [serveLines_succ, serveLines_succ, ih fun i lt => same i (Nat.lt_succ_of_lt lt)]
    exact same n (Nat.lt_succ_self n) _

/-- A block is stored in 64 consecutive lines of HBM. -/
theorem storeBlock_eq (k data : Nat) (s : State) : storeBlock k data s =
    writeLines (lineHome s k 0) (fun i => BitVec.ofNat 512 (data / 2 ^ (512 * i))) (fun _ => false) 64 s :=
  serveLines_congr (fun i lt t => by rw [lineHome_add s k lt]) s

theorem queueCache_foldl_touches (k : Nat) (l : List DReq) (s : State) :
    Touches [.hbm] s (l.foldl (fun t q => queueCache k (.hit q) t) s) :=
  touches_foldl (.refl _ _) fun t _ => queueCache_touches _ _ t

theorem releaseMiss_dense (m : MissEntry) (s : State) : (releaseMiss m s).dense = (dropMiss m.block s).dense :=
  queueCache_foldl_touches _ _ _ .dense (by decide)

theorem releaseMiss_mem (m : MissEntry) (s : State) : (releaseMiss m s).hbm.mem = s.hbm.mem :=
  (releaseMiss_within (may := fun _ => false)).same .hbm rfl

/-- A line is CLEAN and its waiters go on. -/
def lineFilled (k : Nat) (m : MissEntry) (s : State) : State := releaseMiss m (updLine k (fun l => { l with state := 1 }) s)

theorem lineFilled_dense (k : Nat) (m : MissEntry) (s : State) : (lineFilled k m s).dense =
    (dropMiss m.block (updLine k (fun l => { l with state := 1 }) s)).dense :=
  releaseMiss_dense m _

theorem lineFilled_mem (k : Nat) (m : MissEntry) (s : State) : (lineFilled k m s).hbm.mem = s.hbm.mem :=
  releaseMiss_mem m _

/-- Only the line, and the entry of the block, change in the dense tier. -/
theorem lineFilled_effect (wf : Tab.wf CacheLine.reset s.dense.lines = true) (free : CacheFree s) :
    CacheFree (lineFilled k m s) ∧ OnlyLine k s (lineFilled k m s) ∧
      cacheLine (lineFilled k m s) k = { cacheLine s k with state := 1 } ∧
      (lineFilled k m s).dense.misses = s.dense.misses.filter (fun (e : MissEntry) => e.block != m.block) := by
  have dense := lineFilled_dense k m s
  have lines : (lineFilled k m s).dense.lines = (updLine k (fun l => { l with state := 1 }) s).dense.lines := by
    rw [dense]
    rfl
  obtain ⟨flushes, assigns, attaches⟩ := free
  refine ⟨⟨?_, ?_, ?_⟩, ?_, ?_, ?_⟩
  · rw [dense]
    exact flushes
  · rw [dense]
    exact assigns
  · rw [dense]
    exact attaches
  · exact (onlyLine_updLine k _ s).trans (.of_lines lines)
  · rw [cacheLine_of_lines lines, cacheLine_updLine _ _ _ wf]
  · rw [dense]
    rfl

theorem serveCache_fill {b data : Nat}
    (found : s.dense.misses.find? (fun (e : MissEntry) => e.block == b && e.phase == 2) = some m) :
    serveCache k (.fill b data) false s = lineFilled k m (storeBlock k data s) := by
  simp only [serveCache, found]
  rfl

/-- What a stored block leaves of HBM. -/
theorem storeBlock_contents {data : Nat} (mem : Memory.wf s.hbm.mem = true) :
    (∀ i, i < 64 → HbmLineIs (lineHome s k 0 + i) (BitVec.ofNat 512 (data / 2 ^ (512 * i))) (storeBlock k data s)) ∧
      HbmOutside (64 * lineHome s k 0) 4096 s (storeBlock k data s) := by
  rw [storeBlock_eq]
  exact ⟨fun i lt => writeLines_line mem lt, writeLines_outside 64⟩

/-- What a fill leaves of the line, of HBM and of the entries. -/
theorem serveCache_fill_effect {b data : Nat}
    (found : s.dense.misses.find? (fun (e : MissEntry) => e.block == b && e.phase == 2) = some m)
    (mem : Memory.wf s.hbm.mem = true) (wf : Tab.wf CacheLine.reset s.dense.lines = true) (free : CacheFree s) :
    let t := serveCache k (.fill b data) false s
    CacheFree t ∧ (∀ i, i < 64 → HbmLineIs (lineHome s k 0 + i) (BitVec.ofNat 512 (data / 2 ^ (512 * i))) t) ∧
      HbmOutside (64 * lineHome s k 0) 4096 s t ∧ OnlyLine k s t ∧ cacheLine t k = { cacheLine s k with state := 1 } ∧
      t.dense.misses = s.dense.misses.filter (fun (e : MissEntry) => e.block != m.block) := by
  dsimp only
  rw [serveCache_fill found]
  have dense : (storeBlock k data s).dense = s.dense := storeBlock_touches _ _ _ .dense (by decide)
  obtain ⟨block, outside⟩ := storeBlock_contents (k := k) (data := data) mem
  have same := lineFilled_mem k m (storeBlock k data s)
  obtain ⟨free', only, line, misses⟩ := lineFilled_effect (k := k) (m := m) (s := storeBlock k data s) (by rw [dense]; exact wf)
    (free.of_dense dense)
  rw [cacheLine_of_lines (congrArg Dense.lines dense)] at line
  rw [dense] at misses
  exact ⟨free', fun i lt => (block i lt).of_mem same, outside.trans (.of_mem same),
    (OnlyLine.of_lines (congrArg Dense.lines dense)).trans only, line, misses⟩

end

end Sys2Proof.Machine
end

section
/-! DENSE_REQUEST_TIMEOUT (R296), and what the work that a finished command lets go on leaves of the requests and their entries:
flushes, role changes and attachments change neither. -/

namespace Sys2Proof.Machine

/-- The withheld requests, and the entries with their waiters, stand as they were. -/
structure SameReqs (s t : State) : Prop where
  withheld : t.dense.withheld = s.dense.withheld
  misses : t.dense.misses = s.dense.misses

section
variable {s t u x y : State} {bs : List Block} {α : Type}

theorem SameReqs.refl (s : State) : SameReqs s s := ⟨rfl, rfl⟩

/-- The later step first, as it is written in the model. -/
theorem SameReqs.after (later : SameReqs t u) (earlier : SameReqs s t) : SameReqs s u :=
  ⟨later.withheld.trans earlier.withheld, later.misses.trans earlier.misses⟩

theorem SameReqs.ite {c : Prop} [Decidable c] (h : SameReqs s x) (k : SameReqs s y) : SameReqs s (if c then x else y) := by
  split <;> assumption

theorem SameReqs.foldl {f : State → α → State} {l : List α} (step : ∀ t v, SameReqs t (f t v)) :
    SameReqs s (l.foldl f s) := by
  induction l generalizing s with
  | nil => exact .refl _
  | cons v l ih => exact .after ih (step s v)

/-- A further change that concerns neither. -/
theorem SameReqs.upd (h : SameReqs s x) (withheld : t.dense.withheld = x.dense.withheld)
    (misses : t.dense.misses = x.dense.misses) : SameReqs s t :=
  .after ⟨withheld, misses⟩ h

theorem SameReqs.dense {v : Dense} (h : SameReqs s x) (withheld : v.withheld = x.dense.withheld)
    (misses : v.misses = x.dense.misses) : SameReqs s { x with dense := v } :=
  .upd h withheld misses

/-- A frame that does not name the dense tier. -/
theorem Touches.sameReqs (h : Touches bs s t) (q : bs.contains .dense = false) : SameReqs s t := by
  have dense := h .dense (by simpa using q)
  exact ⟨congrArg Dense.withheld dense, congrArg Dense.misses dense⟩

/-! ### Operations of the dense tier -/

theorem startWrite_sameReqs (k reason : Nat) (s : State) : SameReqs s (startWrite k reason s) := ⟨rfl, rfl⟩

theorem sendDrive_sameReqs (d cmd b data : Nat) (s : State) : SameReqs s (sendDrive d cmd b data s) := by
  obtain ⟨v, dense⟩ := sendDrive_dense d cmd b data s
  exact ⟨by rw [dense], by rw [dense]⟩

theorem failBlock_sameReqs (b : Nat) (s : State) : SameReqs s (failBlock b s) := by
  have event (p : FaultPkt) (t : State) : SameReqs t (sendEvent p t) := (sendEvent_touches p t).sameReqs rfl
  unfold failBlock
  dsimp only
  split
  · exact .refl _
  · split
    · split
      · exact .after (event _ _) (.upd (event _ s) rfl rfl)
      · exact .upd (event _ s) rfl rfl
    · exact event _ s

theorem mciReply_sameReqs (op who tag status detail rlen params : Nat) (s : State) :
    SameReqs s (mciReply op who tag status detail rlen params s) :=
  (mciReply_touches _ _ _ _ _ _ _ _).sameReqs rfl

theorem assignRoles_sameReqs (p : Nat) (s : State) : SameReqs s (assignRoles p s) := by
  have listed : SameReqs s ((linesIn s 2).foldl (fun t k => failBlock (blockOf t k) t) s) :=
    .foldl fun t k => failBlock_sameReqs (blockOf t k) t
  unfold assignRoles
  dsimp only
  split
  · exact .after (t := (linesIn s 2).foldl (fun t k => failBlock (blockOf t k) t) s) ⟨rfl, rfl⟩ listed
  · exact ⟨rfl, rfl⟩

theorem assignGo_sameReqs (fuel : Nat) (s : State) : SameReqs s (assignGo fuel s) := by
  induction fuel generalizing s with
  | zero => exact .refl _
  | succ fuel ih =>
    unfold assignGo
    split
    · exact .refl _
    · next who tag p rest waiting =>
      have writes : SameReqs s ((dirtyLines s).foldl (fun t k => startWrite k 3 t) s) :=
        .foldl fun t k => startWrite_sameReqs k 3 t
      exact .ite (.refl _)
        (.ite
          (.after (ih _)
            (.after
              (.ite (mciReply_sameReqs _ _ _ _ _ _ _ _)
                (.after (mciReply_sameReqs _ _ _ _ _ _ _ _) (assignRoles_sameReqs _ _)))
              (.dense writes rfl rfl)))
          writes)

theorem attachFound_sameReqs (who tag : Nat) (found : List DriveIn) (s : State) : SameReqs s (attachFound who tag found s) := by
  have reported : SameReqs s ((found.filter fun x => x.capacity.isNone && s.pins.dprsnt.getLsbD x.drive).foldl
      (fun t x => sendEvent ⟨0x6004, 0, x.drive, none, denseEndpoint + x.drive / 4, 0⟩ t) s) :=
    .foldl fun t x => (sendEvent_touches _ t).sameReqs rfl
  exact .after (.ite (mciReply_sameReqs ..) (.after (mciReply_sameReqs ..) ⟨rfl, rfl⟩)) reported

theorem attachGo_sameReqs (fuel : Nat) (s : State) : SameReqs s (attachGo fuel s) := by
  induction fuel generalizing s with
  | zero => exact .refl _
  | succ fuel ih =>
    unfold attachGo
    split
    · exact .refl _
    · exact .ite (.after (ih _) (.after (.ite (mciReply_sameReqs ..) (attachFound_sameReqs ..)) ⟨rfl, rfl⟩)) (.refl _)

/-- A flush writes lines back, sends the drives' Flush commands, and answers. -/
theorem flushOne_sameReqs (f : DenseFlush) (s : State) : SameReqs s (flushOne f s) :=
  .after (.ite (.after ((flushEnds_touches _ _ _).sameReqs rfl) (.dense (.refl _) rfl rfl)) (.refl _))
    (.after (.ite (.foldl fun t d => sendDrive_sameReqs d 2 0 0 t) (.refl _))
      (.dense (.foldl fun t _ => by
        split
        · exact .ite (startWrite_sameReqs _ 2 t) (.refl _)
        · exact .refl _) rfl rfl))

theorem denseGo_sameReqs (s : State) : SameReqs s (denseGo s) :=
  .after (attachGo_sameReqs _ _) (.after (assignGo_sameReqs _ _) (.foldl fun t f => flushOne_sameReqs f t))

end

/-! ### DENSE_REQUEST_TIMEOUT -/

section
variable {fn ticket off : Nat} {q : DReq} {s : State}

/-- All requests at the dense tier. -/
abbrev denseRequests (s : State) : List DReq :=
  s.dense.withheld ++ s.dense.misses.flatMap (fun m => m.waiters) ++ queuedHits s

theorem exec_denseRequestTimeout_early (oldest : oldestReq (denseRequests s) = some q)
    (early : s.clk.wallPs < q.arrived + 40000000000) : exec .denseRequestTimeout s = .next s := by
  change execDenseRequestTimeout s = _
  simp only [execDenseRequestTimeout, oldest, early, if_true]

/-- A request is taken out of the withheld ones and out of the waiters of every entry. -/
def dropReq (q : DReq) (s : State) : State := { s with dense := { s.dense with
  withheld := s.dense.withheld.erase q
  misses := s.dense.misses.map fun m => { m with waiters := m.waiters.erase q } } }

/-- The request that has timed out ends. -/
def reqTimedOut (q : DReq) (s : State) : State := denseGo (failReq q (dropJobs (fun j => j.2 == .hit q) (dropReq q s)))

theorem exec_denseRequestTimeout_late (oldest : oldestReq (denseRequests s) = some q)
    (late : q.arrived + 40000000000 ≤ s.clk.wallPs) : exec .denseRequestTimeout s = .next (reqTimedOut q s) := by
  change execDenseRequestTimeout s = _
  simp only [execDenseRequestTimeout, oldest, Nat.not_lt.mpr late, if_false]
  rfl

/-- A failed staging request touches no more than its item, host memory and the free values. -/
theorem failReq_stage_touches (origin : q.origin = .stage fn ticket off) : Touches [.rings, .out, .free] s (failReq q s) := by
  simp only [failReq, origin]
  refine touches_foldl (.refl _ _) fun t i => touches_ite ((stageWritten_touches _ _ _ _).mono rfl) ?_
  exact ((stageRead_touches _ _ _ _ _ _ _).mono rfl).before ((drawLine_touches t).mono rfl)

theorem reqTimedOut_sameReqs (origin : q.origin = .stage fn ticket off) : SameReqs (dropReq q s) (reqTimedOut q s) :=
  .after (denseGo_sameReqs _) (.after ((failReq_stage_touches origin).sameReqs rfl) ((dropJobs_touches _ _).sameReqs rfl))

/-- The cache's lines alone may change. -/
def onlyLines : Content → Bool
  | .lines => true
  | _ => false

theorem reqTimedOut_mem (q : DReq) (s : State) : (reqTimedOut q s).hbm.mem = s.hbm.mem :=
  calc (reqTimedOut q s).hbm.mem
    _ = (failReq q (dropJobs (fun j => j.2 == .hit q) (dropReq q s))).hbm.mem :=
      (denseGo_within (may := onlyLines) rfl).same .hbm rfl
    _ = (dropJobs (fun j => j.2 == .hit q) (dropReq q s)).hbm.mem := (failReq_within (may := onlyLines)).same .hbm rfl
    _ = (dropReq q s).hbm.mem := (dropJobs_within (may := onlyLines)).same .hbm rfl

end

end Sys2Proof.Machine
end

section
/-! The obligation about requests at the dense-tier cache, from the lemmas about what they meet there. -/

namespace Sys2Proof.Machine

/-- Settles O40: a request goes on as its judgement says, a served write and a fill store their bytes and change their one line, a
late request leaves the requests and entries, and the cleaner begins one write-back. -/
theorem cacheRequests : Obligations.CacheRequests := by
  unfold Obligations.CacheRequests
  refine ⟨fun s empty => ?none, fun q k s ready met wf => ?hit, fun q m s ready met => ?joins,
    fun q k s ready met dirty wf => ?dirty, fun q k s ready met clean part room wf => ?read,
    fun q k s ready met clean whole wf => ?take, fun q fn ticket off s ready origin met write => ?fails,
    fun pc sev c k fn ticket off q s serves permitted corrected live range next origin write one held settled mem wf
      flushes assigns attaches => ?write,
    fun pc sev c k b data m s serves permitted corrected live range next found way mem wf flushes assigns attaches => ?fill,
    fun q s oldest early => ?early, fun q fn ticket off s oldest late origin => ?late, fun s still below => ?idle,
    fun s cleaning quarter => ?ends, fun k l s on dirty wf => ?cleans⟩
  case none => exact ⟨s, exec_cacheAccess_none empty, rfl, .refl _ _⟩
  case hit =>
    obtain ⟨queued, channel, mem⟩ := queueCache_waits (s := s) (k := k) (j := .hit q) (u := useLine k (unheldReq q s)) rfl wf
    have run := (exec_cacheAccess ready).trans (congrArg _ (denseServe_unheldReq_hit met))
    exact ⟨_, run, ⟨queued, channel, mem, useLine_onlyLine (s := unheldReq q s), cacheLine_useLine (s := unheldReq q s) wf, rfl⟩,
      ((queueCache_touches _ _ _).mono rfl).before (((useLine_touches _ _).mono rfl).before (upd_dense rfl (.refl _ _)))⟩
  case joins =>
    have run := (exec_cacheAccess ready).trans (congrArg _ (denseServe_unheldReq_joins met))
    exact ⟨_, run, rfl, (setMiss_touches _ _).before (upd_dense rfl (.refl _ _))⟩
  case dirty =>
    have run := (exec_cacheAccess ready).trans (congrArg _ (denseServe_unheldReq_dirty met dirty))
    obtain ⟨⟨queued, channel, mem⟩, only, line⟩ :=
      startWrite_begun (k := k) (reason := 0) (u := allocMiss q k s) rfl rfl rfl wf
    exact ⟨_, run, ⟨queued, channel, mem, rfl, startWrite_writing (u := allocMiss q k s) rfl rfl, only, line⟩,
      ((startWrite_touches _ _ _).mono rfl).before ((allocMiss_touches _ _ _).mono rfl)⟩
  case read =>
    have run := (exec_cacheAccess ready).trans (congrArg _ (denseServe_unheldReq_clean met clean))
    rw [fillLine_of_read (q := q) rfl part] at run
    obtain ⟨v, dense⟩ := readBlock_dense (newMiss q k) (fillingLine (newMiss q k) (allocMiss q k s))
    have lines := congrArg Dense.lines dense
    refine ⟨_, run, ⟨?_, ?_, ?_, ?_⟩, ((readBlock_touches _ _).mono rfl).before
      (((fillingLine_touches _ _).mono rfl).before ((allocMiss_touches _ _ _).mono rfl))⟩
    · exact readBlock_out (s := fillingLine (newMiss q k) (allocMiss q k s)) room
    · rw [dense]
      exact setMiss_allocMiss (find_miss_of_denseStep met) 1
    · exact fillingLine_allocMiss_onlyLine.trans (.of_lines lines)
    · exact (cacheLine_of_lines (s := fillingLine (newMiss q k) (allocMiss q k s)) lines k).trans (fillingLine_allocMiss wf)
  case take =>
    have run := (exec_cacheAccess ready).trans (congrArg _ (denseServe_unheldReq_clean met clean))
    rw [fillLine_of_take (q := q) rfl whole] at run
    obtain ⟨queued, channel, mem⟩ := queueCache_waits (s := s) (k := k) (j := .take q.block)
      (u := setMiss { newMiss q k with phase := 3 } (fillingLine (newMiss q k) (allocMiss q k s))) rfl wf
    have misses := setMiss_allocMiss (k := k) (find_miss_of_denseStep met) 3
    refine ⟨_, run, ⟨queued, channel, mem, misses, ?_, ?_⟩, ((queueCache_touches _ _ _).mono rfl).before
      (((setMiss_touches _ _).mono rfl).before
        (((fillingLine_touches _ _).mono rfl).before ((allocMiss_touches _ _ _).mono rfl)))⟩
    · exact (fillingLine_allocMiss_onlyLine (q := q)).trans (.of_lines rfl)
    · exact (cacheLine_of_lines (s := fillingLine (newMiss q k) (allocMiss q k s)) rfl k).trans (fillingLine_allocMiss wf)
  case fails =>
    have run := (exec_cacheAccess ready).trans (congrArg _ (denseServe_unheldReq_fails met))
    have frame := failReq_stage_write_touches (s := unheldReq q s) origin write
    exact ⟨_, run, frame .dense (by decide), (frame.mono rfl).before (upd_dense rfl (.refl _ _))⟩
  case write =>
    have same := cacheWorkTaken_sameStore pc sev c s
    obtain ⟨free, data, outside, only, line⟩ := serveCache_write_line_effect (s := cacheWorkTaken pc sev c s) origin write one
      ((same.holds k _).trans held) (same.line k ▸ settled) (same.memWf mem) (same.linesWf wf)
      (same.free ⟨flushes, assigns, attaches⟩)
    rw [same.home] at data outside
    rw [same.line] at line
    have run := exec_unscheduledAccess_cache (sev := sev) serves permitted corrected live range next
    rw [denseGo_of_free free] at run
    exact .of_next run (execUnscheduledAccess_touches pc sev s)
      ⟨data, (HbmOutside.of_mem same.mem).trans outside, (OnlyLine.of_lines same.lines).trans only, line⟩
  case fill =>
    subst way
    have same := cacheWorkTaken_sameStore pc sev c s
    obtain ⟨free, data, outside, only, line, misses⟩ := serveCache_fill_effect (s := cacheWorkTaken pc sev c s) (k := m.way)
      (same.dense ▸ found) (same.memWf mem) (same.linesWf wf) (same.free ⟨flushes, assigns, attaches⟩)
    rw [same.home] at data outside
    rw [same.line] at line
    rw [same.dense] at misses
    have run := exec_unscheduledAccess_cache (sev := sev) serves permitted corrected live range next
    rw [denseGo_of_free free] at run
    exact .of_next run (execUnscheduledAccess_touches pc sev s)
      ⟨data, (HbmOutside.of_mem same.mem).trans outside, (OnlyLine.of_lines same.lines).trans only, line, misses⟩
  case early => exact ⟨s, exec_denseRequestTimeout_early oldest early, rfl, .refl _ _⟩
  case late =>
    have kept := reqTimedOut_sameReqs (s := s) origin
    exact .of_next (exec_denseRequestTimeout_late oldest late) (execDenseRequestTimeout_touches s)
      ⟨kept.withheld, kept.misses, reqTimedOut_mem q s⟩
  case idle =>
    have off : ¬CleanerRuns s := by
      rintro (half | ⟨running, -⟩)
      · omega
      · exact absurd (still.symm.trans running) (by decide)
    exact ⟨s, (exec_cacheCleaner_off off).trans (congrArg _ (setCleaning_same still)), rfl, .refl _ _⟩
  case ends =>
    have off : ¬CleanerRuns s := by
      rintro (half | ⟨-, more⟩)
      · omega
      · omega
    exact ⟨_, exec_cacheCleaner_off off, rfl, upd_dense rfl (.refl _ _)⟩
  case cleans =>
    obtain ⟨⟨queued, channel, mem⟩, only, line⟩ :=
      startWrite_begun (k := k) (reason := 1) (u := setCleaning true s) rfl rfl rfl wf
    exact ⟨_, exec_cacheCleaner_on on dirty, ⟨rfl, startWrite_writing (u := setCleaning true s) rfl rfl, only, line, queued,
      channel, mem⟩, ((startWrite_touches _ _ _).mono rfl).before (upd_dense rfl (.refl _ _))⟩

end Sys2Proof.Machine
end

section
/-! Writes to a function's BAR0 that are served (R613), and one ring of the table: what an update of it leaves. -/

namespace Sys2Proof.Machine

section
variable {fn ring r : Nat} {bs : List Block} {f : Ring → Ring} {act : State → State} {s t : State}

/-! ### Writes to BAR0 -/

/-- A write that is served, with no function-level reset in progress, takes effect. -/
theorem barWrite_of_served (served : barServed s fn = true) (idle : flrBusy s fn = false) : barWrite fn act s = act s := by
  simp [barWrite, served, idle]

/-! ### One ring -/

theorem updRing_wf (wf : Tab.wf Ring.reset s.rings.ring = true) : Tab.wf Ring.reset (updRing fn ring f s).rings.ring = true :=
  Tab.wf_upd _ _ wf

theorem Touches.ringOf_eq (h : Touches bs s t) (keeps : Block.rings ∉ bs) (fn ring : Nat) : ringOf t fn ring = ringOf s fn ring := by
  have rings : t.rings = s.rings := h .rings keeps
  rw [ringOf, rings, ringOf]

/-- Of the four rings of a function an update changes the one it names. -/
theorem ringOf_updRing_lt (wf : Tab.wf Ring.reset s.rings.ring = true) (lt : r < 4) (named : ring < 4) :
    ringOf (updRing fn ring f s) fn r = if r = ring then f (ringOf s fn r) else ringOf s fn r := by
  split
  next same => rw [same, ringOf_updRing _ _ _ _ wf]
  next other => exact ringOf_updRing_ne _ _ _ _ fun e => other (ringKey_inj lt named e).2

end

end Sys2Proof.Machine
end

section
/-! The ring engine (R315, R329, R334 to R340): what a completion and its moderation leave of the rings, what the FLUSH_DONEs of
the flushes that took effect leave and send, and what a fetch brings in. -/

namespace Sys2Proof.Machine

section
variable {fn ring v : Nat} {o : Output} {r : Ring} {f : Ring → Ring} {s t u : State}

/-! ### What is sent along the way -/

/-- What is sent on the way to a state that goes onward. -/
theorem Sent.onward (sent : Sent o s t) (later : Onward t u) : Sent o s u := by
  obtain ⟨l, e⟩ := later.out
  rw [Sent, ← e, List.drop_append]
  exact List.mem_append_left _ sent

/-- What is sent after a step that goes onward. -/
theorem Sent.of_later (earlier : Onward s t) (sent : Sent o t u) : Sent o s u :=
  List.drop_subset_drop_left _ earlier.out.length_le sent

/-! ### One ring changes -/

theorem OnlyRing.refl (fn ring : Nat) (s : State) : OnlyRing fn ring s s := fun _ _ => rfl

theorem OnlyRing.trans (h : OnlyRing fn ring s t) (g : OnlyRing fn ring t u) : OnlyRing fn ring s u :=
  fun k ne => (g k ne).trans (h k ne)

/-- A state with the same table of rings. -/
theorem OnlyRing.of_table (h : t.rings.ring = s.rings.ring) : OnlyRing fn ring s t := fun k _ => by rw [h]

theorem onlyRing_updRing : OnlyRing fn ring s (updRing fn ring f s) := fun _ ne => Tab.get_upd_ne _ ne

/-- A ring with another state of its moderation. -/
def Ring.moderated (seen : Nat) (since : Option Nat) (r : Ring) : Ring := { r with modSeen := seen, modSince := since }

/-- A ring whose next completion entry is written. -/
def Ring.posted (r : Ring) : Ring := { r with cqw := r.cqw + 1, writes := r.writes + 1 }

/-- A ring without an item that it held. -/
def Ring.without (ticket : Nat) (r : Ring) : Ring := { r with outst := r.outst.filter fun a => a.ticket != ticket }

/-- From s to t the ring becomes r but for its moderation, no other ring changes, and the table of rings stays canonical. -/
structure RingLeft (fn ring : Nat) (r : Ring) (s t : State) : Prop where
  reads : ∃ seen since, ringOf t fn ring = r.moderated seen since
  only : OnlyRing fn ring s t
  wf : Tab.wf Ring.reset t.rings.ring = true

theorem RingLeft.refl (wf : Tab.wf Ring.reset s.rings.ring = true) : RingLeft fn ring (ringOf s fn ring) s s :=
  ⟨⟨_, _, rfl⟩, .refl _ _ _, wf⟩

/-- An update of the ring before the way. -/
theorem RingLeft.of_updRing (left : RingLeft fn ring r (updRing fn ring f s) t) : RingLeft fn ring r s t :=
  ⟨left.reads, onlyRing_updRing.trans left.only, left.wf⟩

/-! ### Completions and their moderation (R334, R340) -/

/-- A vector is raised by its message or its pending bit, and no ring changes. -/
theorem raiseVector_table : (raiseVector fn v s).rings.ring = s.rings.ring := by
  rw [raiseVector]
  split <;> rfl

theorem ringInterrupt_table : (ringInterrupt fn ring s).rings.ring =
    (updRing fn ring (·.moderated 0 none) s).rings.ring := by
  rw [ringInterrupt]
  split
  · rfl
  · exact raiseVector_table

theorem ringOf_ringInterrupt (wf : Tab.wf Ring.reset s.rings.ring = true) :
    ringOf (ringInterrupt fn ring s) fn ring = (ringOf s fn ring).moderated 0 none := by
  rw [ringOf, ringInterrupt_table]
  exact ringOf_updRing _ _ _ _ wf

theorem ringInterrupt_onlyRing : OnlyRing fn ring s (ringInterrupt fn ring s) :=
  onlyRing_updRing.trans (.of_table ringInterrupt_table)

/-- Moderation counts the completion, or interrupts and begins again. -/
theorem moderate_left (silent : Bool) (wf : Tab.wf Ring.reset s.rings.ring = true) :
    RingLeft fn ring (ringOf s fn ring) s (moderate fn ring silent s) := by
  rw [moderate]
  split
  · exact .refl wf
  split
  · exact ⟨⟨_, _, ringOf_ringInterrupt wf⟩, ringInterrupt_onlyRing, ringInterrupt_table ▸ updRing_wf wf⟩
  · exact ⟨⟨_, _, ringOf_updRing _ _ _ _ wf⟩, onlyRing_updRing, updRing_wf wf⟩

section
variable {seq user : BitVec 32} {silent : Bool} {frame : Nat} {d : Done}

/-- A completion takes the next entry of the completion ring. -/
theorem postCompletion_left (wf : Tab.wf Ring.reset s.rings.ring = true) :
    RingLeft fn ring (ringOf s fn ring).posted s (postCompletion fn ring seq user silent frame d s) := by
  have posted : ringOf (updRing fn ring Ring.posted (emit (ringEntry fn ring (ringOf s fn ring) seq user frame d) s)) fn ring =
      (ringOf s fn ring).posted := ringOf_updRing _ _ _ _ wf
  obtain ⟨reads, only, wf'⟩ := moderate_left (fn := fn) (ring := ring) silent (updRing_wf (fn := fn) (ring := ring)
    (f := Ring.posted) (s := emit (ringEntry fn ring (ringOf s fn ring) seq user frame d) s) wf)
  rw [posted] at reads
  exact ⟨reads, onlyRing_updRing.trans only, wf'⟩

theorem postCompletion_sent :
    Sent (ringEntry fn ring (ringOf s fn ring) seq user frame d) s (postCompletion fn ring seq user silent frame d s) :=
  .of_onward (u := emit (ringEntry fn ring (ringOf s fn ring) seq user frame d) s)
    (.after moderate_onward ((updRing_touches _ _ _ _).onward rfl)) rfl

/-- A completed item leaves its ring. -/
theorem completeOutst_left {o : Outst} (wf : Tab.wf Ring.reset s.rings.ring = true) :
    RingLeft fn ring ((ringOf s fn ring).without o.ticket).posted s (completeOutst fn ring o d s) := by
  have left := postCompletion_left (fn := fn) (ring := ring) (seq := o.seq) (user := o.user) (silent := o.silent)
    (frame := o.frame) (d := d) (updRing_wf (fn := fn) (ring := ring) (f := Ring.without o.ticket) wf)
  rw [ringOf_updRing _ _ _ _ wf] at left
  exact left.of_updRing

theorem completeOutst_sent {o : Outst} (wf : Tab.wf Ring.reset s.rings.ring = true) :
    Sent (ringEntry fn ring (ringOf s fn ring) o.seq o.user o.frame d) s (completeOutst fn ring o d s) := by
  have sent := postCompletion_sent (fn := fn) (ring := ring) (seq := o.seq) (user := o.user) (silent := o.silent)
    (frame := o.frame) (d := d) (s := updRing fn ring (Ring.without o.ticket) s)
  rw [ringOf_updRing _ _ _ _ wf] at sent
  exact .of_later ((updRing_touches _ _ _ _).onward rfl) sent

end

/-! ### FLUSH_DONEs (R329) -/

/-- What the FLUSH_DONE of a flush says: `rest` items among the exposed units that the engine did not hold. -/
def Mark.done (rest now : Nat) (m : Mark) : Done :=
  ⟨stFlushDone, 0, (m.count + if m.more then rest else 0) % 2 ^ 32, false, now⟩

/-- A ring without its oldest flush, whose front counts the items that the engine did not hold. -/
def Ring.unmarked (rest : Nat) (m : Mark) (r : Ring) : Ring :=
  { r with
    marks := r.marks.drop 1
    front := if r.front = m.front then r.front + BitVec.ofNat 32 (if m.more then rest else 0) else r.front }

/-- A ring whose n oldest FLUSH_DONEs are written. -/
def Ring.flushesDone (n : Nat) (front : BitVec 32) (r : Ring) : Ring :=
  { r with marks := r.marks.drop n, front := front, cqw := r.cqw + BitVec.ofNat 24 n, writes := r.writes + n }

/-- The FLUSH_DONE of the oldest flush is written. -/
def writeMark (fn ring rest : Nat) (s : State) (m : Mark) : State :=
  postCompletion fn ring m.seq 0 false (frameNumber s) (m.done rest (frameNumber s)) (updRing fn ring (·.unmarked rest m) s)

theorem writeMarks_eq_foldl (rest : Nat) :
    writeMarks fn ring rest s = (ringOf s fn ring).marks.foldl (writeMark fn ring rest) s := rfl

section
variable {rest : Nat} {m : Mark}

theorem writeMark_left (wf : Tab.wf Ring.reset s.rings.ring = true) :
    RingLeft fn ring ((ringOf s fn ring).unmarked rest m).posted s (writeMark fn ring rest s m) := by
  have left := postCompletion_left (fn := fn) (ring := ring) (seq := m.seq) (user := 0) (silent := false)
    (frame := frameNumber s) (d := m.done rest (frameNumber s)) (updRing_wf (fn := fn) (ring := ring) (f := (·.unmarked rest m)) wf)
  rw [ringOf_updRing _ _ _ _ wf] at left
  exact left.of_updRing

theorem writeMark_onward : Onward s (writeMark fn ring rest s m) :=
  .after postCompletion_onward ((updRing_touches _ _ _ _).onward rfl)

theorem writeMark_sent (wf : Tab.wf Ring.reset s.rings.ring = true) :
    Sent (ringEntry fn ring (ringOf s fn ring) m.seq 0 (frameNumber s) (m.done rest (frameNumber s))) s
      (writeMark fn ring rest s m) := by
  have sent := postCompletion_sent (fn := fn) (ring := ring) (seq := m.seq) (user := 0) (silent := false)
    (frame := frameNumber s) (d := m.done rest (frameNumber s)) (s := updRing fn ring (·.unmarked rest m) s)
  rw [ringOf_updRing _ _ _ _ wf] at sent
  exact .of_later ((updRing_touches _ _ _ _).onward rfl) sent

theorem frameNumber_writeMark : frameNumber (writeMark fn ring rest s m) = frameNumber s := by
  have clk : (writeMark fn ring rest s m).clk = s.clk := (postCompletion_touches _ _ _ _ _ _ _ _) .clk (by decide)
  rw [frameNumber, clk, frameNumber]

/-- Each FLUSH_DONE takes one entry; of the ring only its front and its flushes change besides. -/
theorem foldl_writeMark_left (ms : List Mark) (wf : Tab.wf Ring.reset s.rings.ring = true) :
    ∃ front, RingLeft fn ring ((ringOf s fn ring).flushesDone ms.length front) s (ms.foldl (writeMark fn ring rest) s) := by
  induction ms generalizing s with
  | nil =>
    have same : (ringOf s fn ring).flushesDone 0 (ringOf s fn ring).front = ringOf s fn ring := by simp [Ring.flushesDone]
    exact ⟨(ringOf s fn ring).front, by simpa only [List.length_nil, List.foldl_nil, same] using RingLeft.refl wf⟩
  | cons m ms ih =>
    obtain ⟨⟨_, _, reads⟩, only, wf1⟩ := writeMark_left (fn := fn) (ring := ring) (rest := rest) (m := m) wf
    obtain ⟨front, ⟨seen, since, reads'⟩, only', wf2⟩ := ih wf1
    refine ⟨front, ⟨seen, since, reads'.trans ?_⟩, only.trans only', wf2⟩
    rw [reads]
    have places : (ringOf s fn ring).writes + 1 + ms.length = (ringOf s fn ring).writes + (ms.length + 1) := by omega
    simp [Ring.flushesDone, Ring.moderated, Ring.posted, Ring.unmarked, BitVec.ofNat_add, BitVec.add_assoc, BitVec.add_comm,
      places]

/-- The FLUSH_DONEs go out in the order of their flushes, each in its entry. -/
theorem foldl_writeMark_sent (ms : List Mark) (i : Nat) (m : Mark) (listed : ms[i]? = some m)
    (wf : Tab.wf Ring.reset s.rings.ring = true) :
    Sent (ringEntry fn ring { ringOf s fn ring with writes := (ringOf s fn ring).writes + i } m.seq 0 (frameNumber s)
      (m.done rest (frameNumber s))) s (ms.foldl (writeMark fn ring rest) s) := by
  induction ms generalizing s i with
  | nil => simp at listed
  | cons a ms ih =>
    cases i with
    | zero =>
      obtain rfl : a = m := by simpa using listed
      exact (writeMark_sent wf).onward (.foldl fun _ _ => writeMark_onward)
    | succ i =>
      obtain ⟨⟨_, _, reads⟩, -, wf1⟩ := writeMark_left (fn := fn) (ring := ring) (rest := rest) (m := a) wf
      have sent := ih i (by simpa using listed) wf1
      rw [reads, frameNumber_writeMark] at sent
      rw [List.foldl_cons, Nat.add_comm i 1, ← Nat.add_assoc]
      exact .of_later writeMark_onward sent

/-- All FLUSH_DONEs that are due are written. -/
theorem writeMarks_left (wf : Tab.wf Ring.reset s.rings.ring = true) :
    ∃ front, RingLeft fn ring ((ringOf s fn ring).flushesDone (ringOf s fn ring).marks.length front) s
      (writeMarks fn ring rest s) :=
  foldl_writeMark_left _ wf

theorem writeMarks_sent {i : Nat} (listed : (ringOf s fn ring).marks[i]? = some m)
    (wf : Tab.wf Ring.reset s.rings.ring = true) :
    Sent (ringEntry fn ring { ringOf s fn ring with writes := (ringOf s fn ring).writes + i } m.seq 0 (frameNumber s)
      (m.done rest (frameNumber s))) s (writeMarks fn ring rest s) :=
  foldl_writeMark_sent _ i m listed wf

end

/-! ### Flushes that take effect (R312, R329) -/

/-- A ring whose requested flush takes effect: a ring that is being disabled stops. -/
def Ring.settled (r : Ring) : Ring :=
  { r.flush with stopPend := false, regs := { r.regs with enabled := r.regs.enabled && !r.stopPend } }

theorem settleFlush_of_due (due : (ringOf s fn ring).flushPend = true) (free : (ringOf s fn ring).entryFree = true) :
    settleFlush fn ring s = updRing fn ring Ring.settled s := by
  simp only [settleFlush, due, free, Bool.and_self, if_true]
  rfl

theorem settleFlush_onlyRing : OnlyRing fn ring s (settleFlush fn ring s) := by
  rw [settleFlush]
  split
  · exact onlyRing_updRing
  · exact .refl _ _ _

theorem settleFlush_wf (wf : Tab.wf Ring.reset s.rings.ring = true) :
    Tab.wf Ring.reset (settleFlush fn ring s).rings.ring = true := by
  rw [settleFlush]
  split
  · exact updRing_wf wf
  · exact wf

theorem frameNumber_settleFlush : frameNumber (settleFlush fn ring s) = frameNumber s := by
  have clk : (settleFlush fn ring s).clk = s.clk := settleFlush_touches _ _ _ .clk (by decide)
  rw [frameNumber, clk, frameNumber]

/-! ### Fetches (R310, R315) -/

/-- The list that the engine asks for has entries (R319). -/
theorem runNbuf_of_wantsList {n : Nat} {c c' : BitVec 24} {units : List (BitVec 512)} {lists : List HeldList} {x : BitVec 512}
    (wants : wantsList n c units lists = some (c', x)) : runNbuf x.toNat ≠ 0 := by
  induction n generalizing c units with
  | zero => simp [wantsList] at wants
  | succ n ih =>
    cases units with
    | nil => simp [wantsList] at wants
    | cons y units =>
      rw [wantsList] at wants
      split at wants
      next asks =>
        obtain ⟨-, -, entries, -⟩ := asks
        obtain ⟨-, rfl⟩ := Prod.mk.inj (Option.some.inj wants)
        exact entries
      · exact ih wants

/-- A ring that has fetched units, all of which it may hold. -/
def Ring.fetched (us : List (BitVec 512)) (now : Nat) (r : Ring) : Ring :=
  { r with units := r.units ++ us, heldAt := r.heldAt ++ us.map fun _ => now, fetch := r.fetch + BitVec.ofNat 24 us.length }

/-- The units of a fetch are read and held. -/
def fetchUnits (fn ring : Nat) (us : List (BitVec 512)) (s : State) : State :=
  updRing fn ring (fun _ => (ringOf s fn ring).fetched us s.clk.tick.toNat)
    (emitAll (unitReads fn (ringOf s fn ring) (ringOf s fn ring).fetch.toNat us.length) s)

theorem onlyRing_fetchUnits {us : List (BitVec 512)} : OnlyRing fn ring s (fetchUnits fn ring us s) :=
  fun _ ne => Tab.get_upd_ne _ ne

/-- A fetch that brings no list. -/
theorem exec_ringFetch {us : List (BitVec 512)} (enabled : (ringOf s fn ring).regs.enabled = true)
    (room : us.length ≤ min (64 - (ringOf s fn ring).units.length) ((ringOf s fn ring).tail - (ringOf s fn ring).fetch).toNat) :
    exec (.ringFetch fn ring us []) s = .next (wakeNamed (fetchUnits fn ring us s)) := by
  change execRingFetch fn ring us [] s = _
  simp only [execRingFetch, enabled, Bool.not_true, Bool.false_eq_true, if_false, List.take_of_length_le room]
  split
  next wants =>
    rw [if_neg fun empty => runNbuf_of_wantsList wants empty.symm]
    rfl
  · rfl

/-! ### Interrupts by time (R340) -/

/-- The due interrupt goes out as the message of a vector that is not masked. -/
theorem ringInterrupt_unmasked (vec : (ringOf s fn ring).regs.vec ≠ 0xF)
    (unmasked : (Tab.get Vector.reset s.rings.vec (8 * fn + (ringOf s fn ring).regs.vec)).masked = false) :
    ringInterrupt fn ring s = emit (.msix fn (ringOf s fn ring).regs.vec) (updRing fn ring (·.moderated 0 none) s) := by
  rw [ringInterrupt]
  simp only [if_neg vec]
  rw [raiseVector, if_neg]
  · rfl
  · change ¬(Tab.get Vector.reset s.rings.vec _).masked = true
    rw [unmasked]
    exact Bool.false_ne_true

theorem exec_interruptTimer {t0 : Nat} (since : (ringOf s fn ring).modSince = some t0) :
    exec (.interruptTimer fn ring) s = .next (ringInterrupt fn ring
      (passPs ((t0 + 100 * (ringOf s fn ring).regs.modTime) * 10000 - s.clk.refPs) s)) := by
  change execInterruptTimer fn ring s = _
  simp only [execInterruptTimer, since]

end

end Sys2Proof.Machine
end

section
/-! The state before any input is powered (R124, R331, R343, R399, R530): its memories and tables are canonical. -/

namespace Sys2Proof.Machine

/-- Both memories are empty. -/
theorem reset_memWf : State.reset.MemWf := ⟨rfl, rfl⟩

/-- No tick has touched a line. -/
theorem reset_linesHeld : State.reset.LinesHeld := fun _ touched => absurd touched List.not_mem_nil

theorem reset_tabsWf : State.reset.TabsWf := by
  constructor <;> decide

/-- Every function is in class 4, tolerates no wake latency, and has an empty window table (R331, R399, R539). -/
theorem reset_fn (f : Nat) : (fnOf State.reset f).cls = 4 ∧ (fnOf State.reset f).wake = 0 ∧
    winTable State.reset f = WinTable.empty := ⟨rfl, rfl, rfl⟩

/-- Every ring is disabled, with EPOCH 0 and weight 16 (R331, R343). -/
theorem reset_ring (f r : Nat) : (ringOf State.reset f r).regs.enabled = false ∧ (ringOf State.reset f r).epoch = 0 ∧
    (ringOf State.reset f r).weight = 16 := ⟨rfl, rfl, rfl⟩

/-- Settles O56: a lookup in a table at reset answers the value of an unlisted key. -/
theorem resetState : Obligations.ResetState :=
  ⟨rfl, rfl, reset_memWf, reset_linesHeld, reset_tabsWf, reset_fn, reset_ring, fun _ => rfl, rfl, rfl, rfl, rfl, rfl, rfl, rfl, rfl⟩

end Sys2Proof.Machine
end

section
/-! PF0's registers: PRIO (R331, R620), CAPTURE (R46, R622), EVT_ACK (R625) and the injection registers (R626). -/

namespace Sys2Proof.Machine

/-! ### Classes and weights -/

/-- A ring with a weight rewritten: a weight of 0 clears the counter of its round robin (R331). -/
def Ring.weighted (w : Nat) (r : Ring) : Ring := { r with weight := w, swrr := if w = 0 then 0 else r.swrr }

theorem bits_mod_word {x lo w : Nat} (low : lo + w ≤ 32) : bits (x % 2 ^ 32) lo w = bits x lo w := by
  simp only [bits, Nat.shiftRight_eq_div_pow]
  rw [← pow_mul_pow_sub 2 (by omega : lo ≤ 32), Nat.mod_mul_right_div_self,
    Nat.mod_mod_of_dvd _ (pow_dvd_pow 2 (by omega))]

theorem bits_div_word (x lo w : Nat) : bits (x / 2 ^ 32) lo w = bits x (32 + lo) w := by
  simp only [bits, Nat.shiftRight_eq_div_pow, Nat.div_div_eq_div_mul, Nat.pow_add]

section
variable {fn ring r half k v w : Nat} {s : State}

theorem ringOf_setWeight (wf : Tab.wf Ring.reset s.rings.ring = true) (lt : r < 4) (named : ring < 4) :
    ringOf (setWeight fn ring w s) fn r = if r = ring then (ringOf s fn r).weighted w else ringOf s fn r :=
  ringOf_updRing_lt wf lt named

theorem setWeight_wf (wf : Tab.wf Ring.reset s.rings.ring = true) :
    Tab.wf Ring.reset (setWeight fn ring w s).rings.ring = true := updRing_wf wf

theorem prioLow_wf (wf : Tab.wf Ring.reset s.rings.ring = true) : Tab.wf Ring.reset (prioLow fn v s).rings.ring = true :=
  setWeight_wf (setWeight_wf (setWeight_wf wf))

/-- The low half of PRIO rewrites the weights of rings 0 to 2. -/
theorem ringOf_prioLow (wf : Tab.wf Ring.reset s.rings.ring = true) (lt : r < 4) :
    ringOf (prioLow fn v s) fn r = if r < 3 then (ringOf s fn r).weighted (bits v (8 + 8 * r) 8) else ringOf s fn r := by
  have wf2 := setWeight_wf (fn := fn) (ring := 2) (w := bits v 24 8) (s := updFn fn (fun f => { f with cls := bits v 0 3 }) s) wf
  have wf1 := setWeight_wf (fn := fn) (ring := 1) (w := bits v 16 8) wf2
  rw [prioLow, ringOf_setWeight wf1 lt (by decide), ringOf_setWeight wf2 lt (by decide),
    ringOf_setWeight (s := updFn fn _ s) wf lt (by decide)]
  have kept : ringOf (updFn fn (fun f => { f with cls := bits v 0 3 }) s) fn r = ringOf s fn r := rfl
  rw [kept]
  interval_cases r <;> rfl

theorem ringOf_prioHigh (wf : Tab.wf Ring.reset s.rings.ring = true) (lt : r < 4) :
    ringOf (prioHigh fn v s) fn r = if r = 3 then (ringOf s fn r).weighted (bits v 0 8) else ringOf s fn r :=
  ringOf_setWeight wf lt (by decide)

/-- A whole write of PRIO rewrites the weights of all four rings. -/
theorem ringOf_prioWhole (wf : Tab.wf Ring.reset s.rings.ring = true) (lt : r < 4) :
    ringOf (prioHigh fn (v / 2 ^ 32) (prioLow fn (v % 2 ^ 32) s)) fn r = (ringOf s fn r).weighted (bits v (8 + 8 * r) 8) := by
  rw [ringOf_prioHigh (prioLow_wf wf) lt, ringOf_prioLow wf lt]
  by_cases top : r = 3
  · subst top
    rw [if_pos rfl, if_neg (by decide), bits_div_word]
  · rw [if_neg top, if_pos (by omega), bits_mod_word (by omega)]

theorem fnOf_setWeight : fnOf (setWeight fn ring w s) k = fnOf s k := rfl

theorem cls_prioLow (wf : Tab.wf Fn.reset s.rings.fn = true) : (fnOf (prioLow fn v s) fn).cls = bits v 0 3 := by
  rw [prioLow, fnOf_setWeight, fnOf_setWeight, fnOf_setWeight, fnOf_updFn _ _ _ wf]

theorem exec_prioWrite {v : BitVec 64} (lt : fn < 65) (served : barServed s 0 = true) (idle : flrBusy s 0 = false) :
    exec (.prioWrite fn half v) s = .next (prioRewrite fn half v.toNat s) := by
  change execPrioWrite fn half v s = _
  rw [execPrioWrite, if_neg (by omega), barWrite_of_served served idle]

end

/-! ### Capture, acknowledgement, injection -/

section
variable {s : State}

theorem exec_capture (served : barServed s 0 = true) (idle : flrBusy s 0 = false) : exec .capture s = .next (capture s) :=
  congrArg Host.Outcome.next (barWrite_of_served served idle)

theorem exec_evtAckWrite {v : BitVec 64} (served : barServed s 0 = true) (idle : flrBusy s 0 = false) :
    exec (.evtAckWrite v) s = .next (writeAck v s) :=
  congrArg Host.Outcome.next (barWrite_of_served served idle)

theorem exec_dbgInject {v : BitVec 32} (served : barServed s 0 = true) (idle : flrBusy s 0 = false) :
    exec (.dbgInject v) s = .next (writeInject v s) :=
  congrArg Host.Outcome.next (barWrite_of_served served idle)

/-- EVT_ACK rises to the value written, but not beyond NEXT, and no entry goes. -/
theorem writeAck_rises {v : BitVec 64} (newer : s.logs.ack.toNat ≤ v.toNat) :
    (writeAck v s).logs.ack.toNat = min v.toNat s.logs.next.toNat ∧ (writeAck v s).logs.next = s.logs.next ∧
      (writeAck v s).logs.entries.length = s.logs.entries.length := by
  have fits : min v.toNat s.logs.next.toNat < 2 ^ 64 := lt_of_le_of_lt (min_le_left _ _) v.isLt
  rw [writeAck, if_neg (by omega)]
  exact ⟨Nat.mod_eq_of_lt fits, rfl, List.length_map _⟩

theorem writeAck_older {v : BitVec 64} (older : v.toNat < s.logs.ack.toNat) : writeAck v s = s := if_pos older

theorem writeInject_arms {v : BitVec 32} (armed : s.regs.dbgArm = true) (free : s.regs.dbgPending = false)
    (low : 1 ≤ bits v.toNat 0 4) (high : bits v.toNat 0 4 ≤ 7) :
    writeInject v s = { s with regs := { s.regs with
      dbgKind := bits v.toNat 0 4, dbgUnit := BitVec.ofNat 32 (bits v.toNat 16 16), dbgPending := true } } := by
  have kind : (bits v.toNat 0 4 == 0) = false := beq_eq_false_iff_ne.mpr (by omega)
  have listed : decide (8 ≤ bits v.toNat 0 4) = false := decide_eq_false (by omega)
  simp only [writeInject, armed, free, kind, listed, Bool.not_true, Bool.or_self, Bool.false_eq_true, if_false]

theorem writeInject_ignored {v : BitVec 32}
    (ignored : s.regs.dbgArm = false ∨ s.regs.dbgPending = true ∨ bits v.toNat 0 4 = 0 ∨ 8 ≤ bits v.toNat 0 4) :
    writeInject v s = s := by
  refine if_pos ?_
  simpa [or_assoc] using ignored

end

/-- Settles O23, by the writes of PRIO, CAPTURE, EVT_ACK and the injection registers that are served. -/
theorem priorityAndCapture : Obligations.PriorityAndCapture := by
  refine ⟨?whole, ?reserved, ?high, ?capture, ?ack, ?older, ?inject, ?ignored⟩
  case whole =>
    rintro fn v s lt served idle ⟨wf, fnWf, -, -⟩ clear
    have run : prioRewrite fn 0 v.toNat s = prioHigh fn (v.toNat / 2 ^ 32) (prioLow fn (v.toNat % 2 ^ 32) s) := if_pos clear
    refine ⟨_, exec_prioWrite lt served idle, ?_, prioRewrite_touches _ _ _ _⟩
    rw [run]
    refine ⟨?_, fun r hr => ?_, fun r hr => ?_⟩
    · exact (cls_prioLow fnWf).trans (bits_mod_word (by decide))
    · rw [ringOf_prioWhole wf hr]
      exact ⟨rfl, fun zero => if_pos zero⟩
    · rw [ringOf_prioWhole wf hr]
      exact ⟨rfl, rfl⟩
  case reserved =>
    intro fn v s lt served idle set
    have run : prioRewrite fn 0 v.toNat s = s := if_neg (by rw [set]; decide)
    exact ⟨s, (exec_prioWrite lt served idle).trans (congrArg _ run), rfl, .refl _ _⟩
  case high =>
    rintro fn v s lt served idle ⟨wf, -, -, -⟩ clear
    have run : prioRewrite fn 2 v.toNat s = prioHigh fn v.toNat s := if_pos clear
    refine ⟨_, exec_prioWrite lt served idle, ?_, prioRewrite_touches _ _ _ _⟩
    rw [run]
    refine ⟨?_, rfl, fun r hr => ?_⟩
    · rw [ringOf_prioHigh wf (by decide)]
      rfl
    · rw [ringOf_prioHigh wf (by omega), if_neg (by omega)]
  case capture =>
    intro s served idle
    exact ⟨_, exec_capture served idle, ⟨rfl, rfl, rfl, rfl⟩, capture_touches s⟩
  case ack =>
    intro v s served idle newer
    exact ⟨_, exec_evtAckWrite served idle, writeAck_rises newer, writeAck_touches v s⟩
  case older =>
    intro v s served idle older
    exact ⟨s, (exec_evtAckWrite served idle).trans (congrArg _ (writeAck_older older)), rfl, .refl _ _⟩
  case inject =>
    intro v s served idle armed free low high
    refine ⟨_, exec_dbgInject served idle, ?_, writeInject_touches v s⟩
    rw [writeInject_arms armed free low high]
    exact ⟨rfl, rfl, Nat.mod_eq_of_lt (lt_trans (Nat.mod_lt _ (by decide)) (by decide)), rfl⟩
  case ignored =>
    intro v s served idle ignored
    exact ⟨s, (exec_dbgInject served idle).trans (congrArg _ (writeInject_ignored ignored)), rfl, .refl _ _⟩

end Sys2Proof.Machine
end

section
/-! The obligation about the ring engine, from the lemmas about its operations. -/

namespace Sys2Proof.Machine

section
variable {fn ring rest : Nat} {f : Ring → Ring} {s : State}

/-- An enabled ring is listed, so it changes in any table. -/
theorem ringOf_updRing_of_enabled (enabled : (f (ringOf s fn ring)).regs.enabled = true) :
    ringOf (updRing fn ring f s) fn ring = f (ringOf s fn ring) :=
  Tab.get_set_of_ne_default (fun reset => by
    have off : (f (ringOf s fn ring)).regs.enabled = false := congrArg (·.regs.enabled) reset
    exact absurd (enabled.symm.trans off) (by decide)) _ _

/-- The flush that takes effect leaves its FLUSH_DONE behind those that were due. -/
theorem settled_marks (r : Ring) : ∃ front, r.settled.marks[r.marks.length]? =
    some ⟨r.lastSeq, (heldSeqs r.units.length r.units).length, r.fetch != r.tail, front⟩ := by
  obtain ⟨front, marks⟩ : ∃ front, r.settled.marks =
      r.marks ++ [⟨r.lastSeq, (heldSeqs r.units.length r.units).length, r.fetch != r.tail, front⟩] := ⟨_, rfl⟩
  exact ⟨front, by rw [marks]; exact List.getElem?_concat_length⟩

/-- The items that the engine did not hold count where it had not fetched all. -/
theorem Mark.done_of_fetch {seq front : BitVec 32} {count now : Nat} {fetch tail : BitVec 24} :
    Mark.done rest now ⟨seq, count, fetch != tail, front⟩ =
      ⟨stFlushDone, 0, (count + if fetch = tail then 0 else rest) % 2 ^ 32, false, now⟩ := by
  by_cases all : fetch = tail <;> simp [Mark.done, all]

theorem exec_runComplete {seq : BitVec 32} {o : Outst} {d : Done}
    (first : (endedRuns (ringOf s fn ring)).find? (fun o => o.seq == seq &&
      !((endedRuns (ringOf s fn ring)).any fun a => endsBefore a o)) = some o)
    (ended : o.ended = some d) : exec (.runComplete fn ring seq) s = .next (completeOutst fn ring o d s) := by
  change execRunComplete fn ring seq s = _
  simp only [execRunComplete, first, ended]

end

/-- Settles O20, by what a fetch, the FLUSH_DONEs, a completion and an interrupt leave of their ring and send. -/
theorem ringEngine : Obligations.RingEngine := by
  refine ⟨?fetch, ?flush, ?marks, ?complete, ?timer⟩
  case fetch =>
    intro fn ring us s enabled room
    refine .of_next (exec_ringFetch enabled room) (execRingFetch_touches _ _ _ _ _) ?_
    have reads : ringOf (wakeNamed (fetchUnits fn ring us s)) fn ring = (ringOf s fn ring).fetched us s.clk.tick.toNat :=
      ((wakeNamed_touches _).ringOf_eq (by decide) fn ring).trans (ringOf_updRing_of_enabled enabled)
    have only : OnlyRing fn ring s (wakeNamed (fetchUnits fn ring us s)) :=
      onlyRing_fetchUnits.trans (.of_table (congrArg Rings.ring (wakeNamed_touches _ .rings (by decide))))
    rw [reads]
    exact ⟨rfl, rfl, rfl, fun o listed => .of_emitAll listed rfl (.after wakeNamed_onward ((updRing_touches _ _ _ _).onward rfl)),
      only⟩
  case flush =>
    rintro fn ring rest s ⟨wf, -, -, -⟩ due free
    refine .of_next rfl (execFlushEffect_touches _ _ _ _) ?_
    have settled : ringOf (settleFlush fn ring s) fn ring = (ringOf s fn ring).settled := by
      rw [settleFlush_of_due due free]
      exact ringOf_updRing _ _ _ _ wf
    obtain ⟨front, ⟨seen, since, reads⟩, only, -⟩ := writeMarks_left (rest := rest) (settleFlush_wf (fn := fn) (ring := ring) wf)
    obtain ⟨_, listed⟩ := settled_marks (ringOf s fn ring)
    have sent := writeMarks_sent (rest := rest) (settled ▸ listed) (settleFlush_wf wf)
    rw [settled] at reads sent
    rw [frameNumber_settleFlush] at sent
    rw [reads]
    rw [Mark.done_of_fetch] at sent
    exact ⟨rfl, rfl, rfl, rfl, rfl, rfl, rfl, settleFlush_onlyRing.trans only,
      .of_later ((settleFlush_touches fn ring s).onward rfl) sent⟩
  case marks =>
    rintro fn ring rest i s ⟨wf, -, -, -⟩ lt
    refine .of_next rfl (execFlushEffect_touches _ _ _ _) ?_
    obtain ⟨front, ⟨seen, since, reads⟩, only, -⟩ := writeMarks_left (rest := rest) (settleFlush_wf (fn := fn) (ring := ring) wf)
    have sent := writeMarks_sent (rest := rest) (List.getElem?_eq_getElem lt) (settleFlush_wf wf)
    rw [frameNumber_settleFlush] at sent
    rw [reads]
    refine ⟨?_, List.drop_length, rfl, settleFlush_onlyRing.trans only⟩
    rw [List.getD_eq_getElem _ _ lt]
    exact .of_later ((settleFlush_touches fn ring s).onward rfl) sent
  case complete =>
    rintro fn ring seq o d s ⟨wf, -, -, -⟩ first ended
    refine .of_next (exec_runComplete first ended) (execRunComplete_touches _ _ _ _) ?_
    obtain ⟨⟨seen, since, reads⟩, only, -⟩ := completeOutst_left (fn := fn) (ring := ring) (o := o) (d := d) wf
    rw [reads]
    exact ⟨rfl, rfl, only, completeOutst_sent wf⟩
  case timer =>
    rintro fn ring t0 s ⟨wf, -, -, -⟩ since vec unmasked
    refine .of_next (exec_interruptTimer since) (execInterruptTimer_touches _ _ _) ?_
    rw [ringInterrupt_unmasked (s := passPs _ s) vec unmasked]
    have reads := ringOf_updRing fn ring (·.moderated 0 none)
      (passPs ((t0 + 100 * (ringOf s fn ring).regs.modTime) * 10000 - s.clk.refPs) s) wf
    exact ⟨rfl, congrArg Ring.modSince reads, congrArg Ring.modSeen reads, onlyRing_updRing, rfl⟩

end Sys2Proof.Machine
end

section
/-! RING_DOORBELL where a disable waits for a flush that can take effect (R312, R313, R330). -/

namespace Sys2Proof.Machine
open Sys2Proof.Tests

/-- In `wRingFlush` a disable of ring 0 of function 1 waits, and an entry is free for its flush. -/
theorem wRingFlush_premises : barServed wRingFlush 1 = true ∧ flrBusy wRingFlush 1 = false ∧ wRingFlush.HostWf ∧
    (ringOf wRingFlush 1 0).regs.enabled = true ∧
    (((1 : BitVec 32).truncate 24 : BitVec 24) - (ringOf (settleFlush 1 0 wRingFlush) 1 0).head).toNat ≤
      (ringOf (settleFlush 1 0 wRingFlush) 1 0).size ∧
    (((1 : BitVec 32) >>> 24).truncate 8 : BitVec 8) ≠ (ringOf (settleFlush 1 0 wRingFlush) 1 0).epoch := by
  decide +kernel

/-- The doorbell finds the ring stopped, so it counts as bad and not as stale. -/
theorem wRingFlush_not_stale :
    counter (barWrite 1 (ringDoorbell 1 0 1 true) wRingFlush) 0x0302 (ringKey 1 0) = 0 := by
  decide +kernel

/-- Refutes O19: the clause about a doorbell of another EPOCH asks that the ring is enabled before a flush that is due, and not
after it. In `wRingFlush` the flush stops the ring: the doorbell is a bad one, and the count of stale ones stays 0. -/
theorem not_ringDoorbells : ¬ Obligations.RingDoorbells := by
  intro h
  obtain ⟨-, -, stale, -⟩ := h
  obtain ⟨served, idle, wf, enabled, room, epoch⟩ := wRingFlush_premises
  obtain ⟨t, step, ⟨counted, -⟩, -⟩ := stale 1 0 1 wRingFlush served idle wf enabled room epoch
  obtain rfl : barWrite 1 (ringDoorbell 1 0 1 true) wRingFlush = t := Host.Outcome.next.inj step
  have before : counter wRingFlush 0x0302 (ringKey 1 0) = 0 := rfl
  rw [wRingFlush_not_stale, before] at counted
  exact absurd counted (by decide)

end Sys2Proof.Machine
end

section
/-! STAGE_COMPLETE on a table of rings that lists a key twice (R323): a state that the premises of the statement allow, since the
clause lacks HostWf. -/

namespace Sys2Proof.Machine
open Sys2Proof.Tests

/-- A ring that is at its reset value but for a STAGE item whose every line has ended. -/
def stagedAlone : Ring := { Ring.reset with outst := [stagedItem] }

/-- The Bulk ring of function 1 is listed twice, so HostWf fails. -/
def doubledBulk : State :=
  { wReady with rings := { wReady.rings with ring := [(ringKey 1 2, stagedAlone), (ringKey 1 2, stagedAlone)] } }

theorem doubledBulk_done :
    (doneStages doubledBulk 1).find? (fun o => !((doneStages doubledBulk 1).any fun a => doneBefore a o)) = some stagedItem := by
  decide +kernel

/-- Without the item the ring is at its reset value, so its entry goes, and the ring reads as the second entry. -/
theorem doubledBulk_item_left :
    ((ringOf (beginTest (completeOutst 1 2 stagedItem (stageDone stagedItem (frameNumber doubledBulk)) doubledBulk)) 1 2).outst.find?
      fun a => a.ticket == stagedItem.ticket).isSome = true := by
  decide +kernel

/-- The STAGE item that ended first completes. -/
theorem exec_stageComplete {fn : Nat} {o : Outst} {s : State}
    (first : (doneStages s fn).find? (fun o => !((doneStages s fn).any fun a => doneBefore a o)) = some o) :
    exec (.stageComplete fn) s = .next (beginTest (completeOutst fn 2 o (stageDone o (frameNumber s)) s)) := by
  change execStageComplete fn s = _
  rw [execStageComplete, first]

/-- Refutes O21: STAGE_COMPLETE's clause says that the completed item is gone from its ring, without HostWf. In `doubledBulk` the
ring's entry leaves the table, and the ring reads as the second entry, which holds the item still. -/
theorem not_itemsConsumed : ¬ Obligations.ItemsConsumed := by
  intro h
  obtain ⟨-, -, -, -, -, -, complete, -⟩ := h
  obtain ⟨t, step, ⟨gone, -⟩, -⟩ := complete 1 2 stagedItem doubledBulk rfl doubledBulk_done
  obtain rfl := Host.Outcome.next.inj ((exec_stageComplete doubledBulk_done).symm.trans step)
  have left := doubledBulk_item_left
  rw [gone] at left
  exact absurd left (by decide)

end Sys2Proof.Machine
end

section
/-! RING_DISABLE of a ring whose completion ring is full while a FLUSH_DONE is still to be written (R312, R329). -/

namespace Sys2Proof.Machine
open Sys2Proof.Tests

/-- A flush of ring 0 of function 1 has taken effect, and its FLUSH_DONE takes the last entry of the completion ring. -/
def markedRing : State := oneRing 1 0 { wRingIs with cqw := 63, marks := [⟨4, 1, false, 5⟩] }

theorem markedRing_premises : barServed markedRing 1 = true ∧ flrBusy markedRing 1 = false ∧
    (ringOf markedRing 1 0).regs.enabled = true ∧ (ringOf markedRing 1 0).entryFree = false := by
  decide +kernel

/-- The disable writes the FLUSH_DONE that was due. -/
theorem markedRing_written :
    (ringOf (barWrite 1 (fun t => writeMarks 1 0 0 (ringDisable 1 0 t)) markedRing) 1 0).marks = [] := by
  decide +kernel

/-- Refutes O22: the clause about a disable with no free entry says that the ring changes in its two flags alone. In `markedRing`
the FLUSH_DONE of an earlier flush is due, and RING_DISABLE writes it. -/
theorem not_ringSwitches : ¬ Obligations.RingSwitches := by
  intro h
  obtain ⟨-, -, -, full, -⟩ := h
  obtain ⟨served, idle, enabled, taken⟩ := markedRing_premises
  obtain ⟨t, step, ⟨waits, -⟩, -⟩ := full 1 0 0 markedRing (by decide) served idle enabled taken
  obtain rfl : barWrite 1 (fun t => writeMarks 1 0 0 (ringDisable 1 0 t)) markedRing = t := Host.Outcome.next.inj step
  have marks := congrArg Ring.marks waits
  rw [markedRing_written] at marks
  exact absurd marks (by decide)

end Sys2Proof.Machine
end

section
/-! Entries that the MP writes (R591, R593, R605): while it does not execute its firmware the event log takes one entry, and while
it does nothing joins the persistent writes that are held. -/

namespace Sys2Proof.Machine

section
variable {reason sev unit detail src ext : Nat} {repl : Bool} {e : LogEntry} {s : State}

/-- The entry of an event. -/
def eventEntry (reason sev unit detail src : Nat) (repl : Bool) (s : State) : LogEntry :=
  ⟨s.logs.next, s.clk.tick, reason, sev, repl, src, unit, detail, false⟩

/-- The state after the entry is in the event log, with the EVT block's attention and the flash copy. -/
def eventNoted (e : LogEntry) (s : State) : State :=
  let s1 := evtAttention e.sev { s with logs := appendEntry e s.logs }
  if 4 ≤ e.sev then
    let (l, excess) := flashCopy e s1.clk.refTime.toNat s1.logs
    let t := { s1 with logs := l }
    if excess then countUp 0x0706 0 t else t
  else s1

/-- The persistent log comes after the event log. -/
theorem logExt_eq : logExt reason sev unit detail src repl ext s =
    if isLogged reason sev repl then
      mpPersist (eventEntry reason sev unit detail src repl s) ext (eventNoted (eventEntry reason sev unit detail src repl s) s)
    else eventNoted (eventEntry reason sev unit detail src repl s) s := rfl

/-- A flash copy leaves the event log and the held writes. -/
theorem flashCopy_kept (now : Nat) (l : Logs) :
    (flashCopy e now l).1.entries = l.entries ∧ (flashCopy e now l).1.held = l.held := by
  unfold flashCopy
  dsimp only
  split <;> exact ⟨rfl, rfl⟩

theorem eventNoted_touches : Touches [.rings, .regs, .logs, .counters, .out] s (eventNoted e s) := by
  unfold eventNoted
  have entered : Touches [.rings, .regs, .logs, .counters, .out] s (evtAttention e.sev { s with logs := appendEntry e s.logs }) :=
    (evtAttention_touches _ _).after rfl (upd_logs rfl (.refl _ _))
  exact touches_ite (touches_ite ((countUp_touches _ _ _).after rfl (upd_logs rfl entered)) (upd_logs rfl entered)) entered

theorem eventNoted_entries : (eventNoted e s).logs.entries = (e :: s.logs.entries).take 65536 := by
  have entered : (evtAttention e.sev { s with logs := appendEntry e s.logs }).logs = appendEntry e s.logs :=
    evtAttention_touches _ _ .logs (by decide)
  unfold eventNoted
  dsimp only
  split
  · obtain ⟨entries, -⟩ := flashCopy_kept (e := e)
      (evtAttention e.sev { s with logs := appendEntry e s.logs }).clk.refTime.toNat (appendEntry e s.logs)
    rw [entered]
    split <;> exact entries
  · rw [entered]
    rfl

theorem Touches.mpRuns_eq {bs : List Block} {t : State} (h : Touches bs s t) (keeps : Block.boot ∉ bs) : mpRuns t = mpRuns s := by
  have boot : t.boot = s.boot := h .boot keeps
  rw [mpRuns, boot, mpRuns]

theorem mpPersist_entries (away : mpRuns s = false) : (mpPersist e ext s).logs.entries = s.logs.entries := by
  simp only [mpPersist, away, Bool.false_eq_true, if_false]
  split <;> rfl

/-- A persistent write leaves the writes that are held. -/
theorem persist_held (boot : BitVec 32) (ref : BitVec 64) (l : Logs) :
    (persist reason unit sev detail ext boot ref l).1.held = l.held := by
  unfold persist
  split_ifs <;> rfl

theorem mpPersist_held (runs : mpRuns s = true) : (mpPersist e ext s).logs.held = s.logs.held := by
  unfold mpPersist
  dsimp only
  generalize (if e.reason = 0x1004 then excursionUnit s else e.unit) = unit
  rw [if_pos runs]
  split <;> exact persist_held ..

/-- An event takes the newest place of the event log while the MP does not execute its firmware. -/
theorem logExt_entries (away : mpRuns s = false) : (logExt reason sev unit detail src repl ext s).logs.entries =
    (eventEntry reason sev unit detail src repl s :: s.logs.entries).take 65536 := by
  rw [logExt_eq]
  split
  · rw [mpPersist_entries ((eventNoted_touches.mpRuns_eq (by decide)).trans away)]
    exact eventNoted_entries
  · exact eventNoted_entries

end

end Sys2Proof.Machine
end

section
/-! MP-only resets (R352, R371, R380, R584): what a restart of the MP leaves of the state. -/

namespace Sys2Proof.Machine

section
variable {detail k : Nat} {s t u : State}

/-- The event is entered, the accepted Service items are answered and the loads are cancelled, with the MP away. -/
def restartBegun (detail : Nat) (s : State) : State :=
  abortLoads ((rangeFrom 0 65).foldl (fun t f => answerReset f t)
    (mpEvent 0x100A 6 0 detail { s with boot := { s.boot with mp := .restarting } }))

theorem mpOnlyReset_eq : mpOnlyReset detail s = { restartBegun detail s with
    fw := { (restartBegun detail s).fw with restart := detail + 1, outstanding := [], spdm := [] }
    win := { (restartBegun detail s).win with shadow := (restartBegun detail s).win.inForce } } := rfl

/-- After the event the answers touch the rings, and the cancelled loads the slots. -/
theorem restartBegun_touches_event : Touches [.slots, .rings, .out]
    (mpEvent 0x100A 6 0 detail { s with boot := { s.boot with mp := .restarting } }) (restartBegun detail s) :=
  (abortLoads_touches _).after rfl (touches_foldl (.refl _ _) fun _ _ => (answerReset_touches _ _).mono rfl)

theorem restartBegun_touches : Touches [.slots, .rings, .regs, .logs, .counters, .out]
    { s with boot := { s.boot with mp := .restarting } } (restartBegun detail s) :=
  restartBegun_touches_event.after rfl ((mpEvent_touches _ _ _ _ _).mono rfl)

theorem mpOnlyReset_boot : (mpOnlyReset detail s).boot = { s.boot with mp := .restarting } := by
  rw [mpOnlyReset_eq, restartBegun_touches .boot (by decide)]

theorem mpOnlyReset_fw : (mpOnlyReset detail s).fw = { s.fw with restart := detail + 1, outstanding := [], spdm := [] } := by
  rw [mpOnlyReset_eq, restartBegun_touches .fw (by decide)]

theorem mpOnlyReset_win : (mpOnlyReset detail s).win = { s.win with shadow := s.win.inForce } := by
  rw [mpOnlyReset_eq, restartBegun_touches .win (by decide)]

theorem mpOnlyReset_entries : (mpOnlyReset detail s).logs.entries =
    ((⟨s.logs.next, s.clk.tick, 0x100A, 6, false, 0x100, 0, detail, false⟩ : LogEntry) :: s.logs.entries).take 65536 := by
  rw [mpOnlyReset_eq, restartBegun_touches_event .logs (by decide)]
  exact logExt_entries rfl

/-- A slot whose load is cancelled keeps the report alone. -/
theorem slot_abortLoads (lt : k < 8) (wf : Tab.wf Slot.reset s.slots = true) : slot (abortLoads s) k =
    if (slot s k).state = SlotState.loading then { Slot.reset with report := reportAborted } else slot s k :=
  Tab.get_updAll _ _ wf (by decide) (by rw [rangeFrom_eq_range']; simpa using lt)

theorem slot_restartBegun (lt : k < 8) (wf : Tab.wf Slot.reset s.slots = true) : slot (restartBegun detail s) k =
    if (slot s k).state = SlotState.loading then { Slot.reset with report := reportAborted } else slot s k := by
  have answered : Touches [.boot, .rings, .regs, .logs, .counters, .out] s ((rangeFrom 0 65).foldl (fun t f => answerReset f t)
      (mpEvent 0x100A 6 0 detail { s with boot := { s.boot with mp := .restarting } })) :=
    touches_foldl ((mpEvent_touches _ _ _ _ _).after rfl (upd_boot rfl (.refl _ _))) fun _ _ => (answerReset_touches _ _).mono rfl
  have slots := answered .slots (by decide)
  rw [restartBegun, slot_abortLoads lt (slots.symm ▸ wf), answered.slot_eq (by decide)]

theorem slot_mpOnlyReset (lt : k < 8) (wf : Tab.wf Slot.reset s.slots = true) : slot (mpOnlyReset detail s) k =
    if (slot s k).state = SlotState.loading then { Slot.reset with report := reportAborted } else slot s k := by
  have slots : slot (mpOnlyReset detail s) k = slot (restartBegun detail s) k := by rw [mpOnlyReset_eq, slot, slot]
  rw [slots, slot_restartBegun lt wf]

/-- A restart after an answer, from the state before the answer. -/
theorem mpOnlyReset_outcome (answered : Touches [.rings, .regs, .fw, .out] s u) (wf : Tab.wf Slot.reset s.slots = true) :
    let t := mpOnlyReset detail u
    t.boot = { s.boot with mp := .restarting } ∧ t.fw.restart = detail + 1 ∧ t.fw.outstanding = [] ∧ t.fw.spdm = [] ∧
      t.win.shadow = s.win.inForce ∧ t.win.inForce = s.win.inForce ∧
      t.logs.entries = ((⟨s.logs.next, s.clk.tick, 0x100A, 6, false, 0x100, 0, detail, false⟩ : LogEntry) ::
        s.logs.entries).take 65536 ∧
      ∀ k, k < 8 → slot t k =
        if (slot s k).state = SlotState.loading then { Slot.reset with report := reportAborted } else slot s k := by
  have slots : u.slots = s.slots := answered .slots (by decide)
  dsimp only
  rw [mpOnlyReset_boot, mpOnlyReset_fw, mpOnlyReset_win, mpOnlyReset_entries, answered .boot (by decide),
    answered .win (by decide), answered .logs (by decide), answered .clk (by decide)]
  refine ⟨rfl, rfl, rfl, rfl, rfl, rfl, rfl, fun k lt => ?_⟩
  rw [slot_mpOnlyReset lt (slots ▸ wf), answered.slot_eq (by decide)]

end

end Sys2Proof.Machine
end

section
/-! Firmware slots (R365, R367, R369, R370): a slot's state and the boot record, what an answer leaves of them, and the state that
each firmware command reaches, branch by branch. -/

namespace Sys2Proof.Machine

section
variable {op status detail rlen params k j st failed : Nat} {trial : Bool} {f : FwSlot} {q : MciReq} {s t : State}

/-! ### Slots and the boot record -/

theorem fwSlot_of_slots (slots : t.fw.slots = s.fw.slots) (j : Nat) : fwSlot t j = fwSlot s j := by
  rw [fwSlot, slots, fwSlot]

theorem Touches.fwSlot_eq {bs : List Block} (h : Touches bs s t) (keeps : Block.fw ∉ bs) (j : Nat) : fwSlot t j = fwSlot s j :=
  fwSlot_of_slots (congrArg Fw.slots (h .fw keeps)) j

/-- A firmware slot is rewritten. -/
def putFwSlot (k : Nat) (f : FwSlot) (s : State) : State :=
  { s with fw := { s.fw with slots := Tab.set FwSlot.reset s.fw.slots k f } }

theorem fwSlot_putFwSlot (wf : Tab.wf FwSlot.reset s.fw.slots = true) :
    fwSlot (putFwSlot k f s) j = if j = k then f else fwSlot s j := by
  split
  next same =>
    rw [same]
    exact Tab.get_set _ _ wf
  next other => exact Tab.get_set_ne _ other

/-- A slot in another state. -/
def FwSlot.inState (st : Nat) (f : FwSlot) : FwSlot := { f with state := st }

/-- The notice of the change leaves the slots. -/
theorem fwSetState_touches_put :
    Touches [.rings, .regs, .out] (putFwSlot k ((fwSlot s k).inState st) s) (fwSetState k st s) :=
  touches_ite (.refl _ _) (notify_touches _ _ _ _)

theorem fwSetState_fw : (fwSetState k st s).fw =
    { s.fw with slots := Tab.set FwSlot.reset s.fw.slots k ((fwSlot s k).inState st) } :=
  fwSetState_touches_put .fw (by decide)

theorem fwSlot_fwSetState (wf : Tab.wf FwSlot.reset s.fw.slots = true) :
    fwSlot (fwSetState k st s) j = if j = k then (fwSlot s k).inState st else fwSlot s j :=
  (fwSetState_touches_put.fwSlot_eq (by decide) j).trans (fwSlot_putFwSlot wf)

theorem fwSetState_wf (wf : Tab.wf FwSlot.reset s.fw.slots = true) :
    Tab.wf FwSlot.reset (fwSetState k st s).fw.slots = true := by
  rw [fwSetState_fw]
  exact Tab.wf_set _ _ wf

theorem fwSlot_bootRecord : fwSlot (bootRecord k trial failed s) j = fwSlot s j := rfl

/-- An answer leaves the firmware slots. -/
theorem fwSlot_mciAnswer : fwSlot (mciAnswer op q status detail rlen params s) j = fwSlot s j :=
  fwSlot_of_slots (by rw [mciAnswer_fw]) j

theorem mciStatus_fw : (mciStatus op q status s).fw =
    { s.fw with outstanding := (mciStatus op q status s).fw.outstanding } := mciAnswer_fw

theorem fwSlot_mciStatus : fwSlot (mciStatus op q status s) j = fwSlot s j := fwSlot_mciAnswer

/-- An answer after operations that go onward. -/
theorem answered_after (earlier : Onward s t) :
    Answered op q status detail rlen params s (mciAnswer op q status detail rlen params t) :=
  .of_later earlier mciAnswer_answered

/-! ### FW_WRITE -/

/-- The requests of FW_WRITE that reach its execution. -/
abbrev ServesFwWrite (q : MciReq) (s : State) : Prop :=
  Serves 0x0102 (q.plen == 24 + if bit1 (mciParams q) 1 then 0 else bits (mciParams q) 64 32)
    (reservedClear (mciParams q % 2 ^ 192) [(0, 3), (32, 32), (64, 32), (96, 64)] && (!bit1 (mciParams q) 1 || isRing q.who)) q s

/-- The bytes of FW_WRITE: from the buffer list, or inline. -/
def fwWriteData (q : MciReq) (data : Nat) : Nat :=
  if bit1 (mciParams q) 1 then data % 2 ^ (8 * bits (mciParams q) 64 32) else mciParams q / 2 ^ 192

theorem exec_fwWrite {data : Nat} (serves : ServesFwWrite q s) : exec (.fwWrite q data) s =
    .next (fwWrite q (bits (mciParams q) 0 1) (bits (mciParams q) 32 32) (bits (mciParams q) 64 32) (fwWriteData q data)
      (bit1 (mciParams q) 2) s) := by
  obtain ⟨served, accepted⟩ := serves
  change execFwWrite q data s = _
  simp only [execFwWrite, mciRun, served, accepted, fwWriteData, Bool.not_true, Bool.false_eq_true, if_false]

section
variable {off len data : Nat} {last : Bool}

/-- A slot that has taken a write: WRITTEN after the last one, WRITING before. -/
def FwSlot.taken (off len data : Nat) (last : Bool) (f : FwSlot) : FwSlot :=
  { f.write off data len with state := if last then 2 else 1, next := off + len }

/-- The bytes are written over what the slot held, and the request is answered. -/
def fwStored (q : MciReq) (k off len data : Nat) (last : Bool) (f : FwSlot) (s : State) : State :=
  mciStatus 0x0102 q mSuccess (fwSetState k (if last then 2 else 1)
    (putFwSlot k { f.write off data len with state := (fwSlot s k).state, next := off + len } s))

theorem fwSlot_fwStored (wf : Tab.wf FwSlot.reset s.fw.slots = true) :
    fwSlot (fwStored q k off len data last f s) j = if j = k then f.taken off len data last else fwSlot s j := by
  rw [fwStored, fwSlot_mciStatus, fwSlot_fwSetState (Tab.wf_set _ _ wf), fwSlot_putFwSlot wf, fwSlot_putFwSlot wf]
  split
  · rw [if_pos rfl]
    rfl
  · rfl

theorem fwStored_answered : Answered 0x0102 q 0 0 0 0 s (fwStored q k off len data last f s) :=
  answered_after (.after fwSetState_onward (.fw (.refl _)))

theorem fwWrite_refused (refused : fwWritable s k = false) :
    fwWrite q k off len data last s = mciStatus 0x0102 q mBusy s := by
  rw [fwWrite, refused]
  rfl

theorem fwWrite_beyond (writable : fwWritable s k = true) (beyond : fwSlotSize < off + len) :
    fwWrite q k off len data last s = mciStatus 0x0102 q mResource s := by
  rw [fwWrite, writable, if_pos beyond]
  rfl

/-- A write within the slot is judged by its place in the sequence. -/
theorem fwWrite_of_writable (writable : fwWritable s k = true) (fits : off + len ≤ fwSlotSize) :
    fwWrite q k off len data last s =
      if off ≠ 0 ∧ ((fwSlot s k).state ≠ 1 ∨ off ≠ (fwSlot s k).next) then mciStatus 0x0102 q mBadParam s
      else fwStored q k off len data last (if off = 0 then FwSlot.reset else fwSlot s k) s := by
  simp only [fwWrite, writable, if_neg (Nat.not_lt.mpr fits), Bool.not_true, Bool.false_eq_true, if_false]
  rfl

theorem fwWrite_outOfSequence (writable : fwWritable s k = true) (fits : off + len ≤ fwSlotSize) (later : off ≠ 0)
    (astray : (fwSlot s k).state ≠ 1 ∨ off ≠ (fwSlot s k).next) :
    fwWrite q k off len data last s = mciStatus 0x0102 q mBadParam s := by
  rw [fwWrite_of_writable writable fits, if_pos ⟨later, astray⟩]

/-- The first write erases the slot. -/
theorem fwWrite_first (writable : fwWritable s k = true) (fits : off + len ≤ fwSlotSize) (first : off = 0) :
    fwWrite q k off len data last s = fwStored q k off len data last FwSlot.reset s := by
  rw [fwWrite_of_writable writable fits, if_neg (fun later => later.1 first), if_pos first]

theorem fwWrite_next (writable : fwWritable s k = true) (fits : off + len ≤ fwSlotSize) (later : off ≠ 0)
    (writing : (fwSlot s k).state = 1) (next : off = (fwSlot s k).next) :
    fwWrite q k off len data last s = fwStored q k off len data last (fwSlot s k) s := by
  rw [fwWrite_of_writable writable fits, if_neg (fun astray => astray.2.elim (· writing) (· next)), if_neg later]

/-- While firmware runs, the slot that is not active may be written beside a COMMITTED one. -/
theorem fwWritable_running (running : s.boot.mp = .running) (other : k ≠ s.fw.active)
    (committed : (fwSlot s s.fw.active).state = 5) : fwWritable s k = true := by
  simp [fwWritable, running, other, committed]

theorem not_fwWritable_running (running : s.boot.mp = .running) (bars : k = s.fw.active ∨ (fwSlot s s.fw.active).state ≠ 5) :
    fwWritable s k = false := by
  obtain active | trial := bars
  · simp [fwWritable, running, active]
  · simp [fwWritable, running, trial]

/-- In recovery mode any slot without working firmware may be written. -/
theorem fwWritable_recovery (recovery : s.boot.mp = .recovery)
    (free : k ≠ s.fw.active ∨ (fwSlot s k).state ∈ [0, 1, 2, 6]) : fwWritable s k = true := by
  have listed : k ≠ s.fw.active ∨ [0, 1, 2, 6].contains (fwSlot s k).state = true := free.imp_right List.contains_iff_mem.mpr
  simpa only [fwWritable, recovery, beq_self_eq_true, if_true, Bool.or_eq_true, bne_iff_ne] using listed

theorem not_fwWritable_recovery (recovery : s.boot.mp = .recovery) (active : k = s.fw.active)
    (works : (fwSlot s k).state = 4 ∨ (fwSlot s k).state = 5) : fwWritable s k = false := by
  subst active
  obtain state | state := works <;> simp [fwWritable, recovery, state]

end

/-! ### FW_VERIFY -/

section
variable (serves : Serves 0x0103 (q.plen == 8) (reservedClear (mciParams q) [(0, 1)] && true) q s)
include serves

theorem exec_fwVerify_busy (unwritten : (fwSlot s (bits (mciParams q) 0 1)).state ≠ 2) :
    exec (.fwVerify q) s = .next (mciStatus 0x0103 q mBusy s) := by
  change execFwVerify q s = _
  simp only [execFwVerify, mciFixed_of_serves serves, if_pos unwritten]

theorem exec_fwVerify_compatible (written : (fwSlot s (bits (mciParams q) 0 1)).state = 2)
    (verdict : bundleVerdict s (bits (mciParams q) 0 1) = none) :
    exec (.fwVerify q) s = .next (mciStatus 0x0103 q mSuccess (fwSetState (bits (mciParams q) 0 1) 3 s)) := by
  change execFwVerify q s = _
  simp only [execFwVerify, mciFixed_of_serves serves, written, ne_eq, not_true, if_false, verdict]

theorem exec_fwVerify_failed {i : Nat} (written : (fwSlot s (bits (mciParams q) 0 1)).state = 2)
    (verdict : bundleVerdict s (bits (mciParams q) 0 1) = some (i, st)) :
    exec (.fwVerify q) s = .next (mciAnswer 0x0103 q st i 0 0
      (mpEvent 0x9004 0 0 i (fwSetState (bits (mciParams q) 0 1) 6 s))) := by
  change execFwVerify q s = _
  simp only [execFwVerify, mciFixed_of_serves serves, written, ne_eq, not_true, if_false, verdict]

end

/-! ### FW_ACTIVATE -/

/-- The state of the slot that an activation leaves: outside recovery mode it is the COMMITTED fallback. -/
def fallbackState (s : State) (k : Nat) : Nat := if s.boot.mp = .recovery then (fwSlot s k).state else 5

/-- The other slot becomes the fallback, unless the MP is in recovery mode. -/
def fallbackKept (k : Nat) (s : State) : State := if s.boot.mp == .recovery then s else fwSetState (1 - k) 5 s

theorem fwActivate_eq : fwActivate k s = bootRecord k true 0 (fwSetState k 4 (fallbackKept k s)) := rfl

theorem fallbackKept_wf (wf : Tab.wf FwSlot.reset s.fw.slots = true) :
    Tab.wf FwSlot.reset (fallbackKept k s).fw.slots = true := by
  rw [fallbackKept]
  split
  · exact wf
  · exact fwSetState_wf wf

theorem fwSlot_fallbackKept (wf : Tab.wf FwSlot.reset s.fw.slots = true) : fwSlot (fallbackKept k s) j =
    if j = 1 - k then (fwSlot s j).inState (fallbackState s j) else fwSlot s j := by
  rw [fallbackKept, fallbackState]
  by_cases recovery : s.boot.mp = .recovery
  · simp [recovery, FwSlot.inState]
  · rw [if_neg (by simpa using recovery), fwSlot_fwSetState wf, if_neg recovery]
    split
    next same => rw [same]
    next => rfl

/-- Of the firmware an activation changes slots and boot record. -/
theorem fwActivate_fw : (fwActivate k s).fw = { s.fw with
    slots := (fwActivate k s).fw.slots, active := k, trial := true, failedBoots := 0, bootSeq := s.fw.bootSeq + 1
    recordCopy := 1 - s.fw.recordCopy, otherCopy := some ⟨s.fw.bootSeq, s.fw.active, s.fw.trial, s.fw.failedBoots⟩ } := by
  have kept : (fallbackKept k s).fw = { s.fw with slots := (fallbackKept k s).fw.slots } := by
    rw [fallbackKept]
    split
    · rfl
    · rw [fwSetState_fw]
  rw [fwActivate_eq, bootRecord, fwSetState_fw, kept]

theorem fwSlot_fwActivate (wf : Tab.wf FwSlot.reset s.fw.slots = true) (low : k < 2) :
    fwSlot (fwActivate k s) k = (fwSlot s k).inState 4 ∧
      fwSlot (fwActivate k s) (1 - k) = (fwSlot s (1 - k)).inState (fallbackState s (1 - k)) := by
  rw [fwActivate_eq, fwSlot_bootRecord, fwSlot_bootRecord, fwSlot_fwSetState (fallbackKept_wf wf),
    fwSlot_fwSetState (fallbackKept_wf wf), fwSlot_fallbackKept wf, fwSlot_fallbackKept wf, if_pos rfl,
    if_neg (by omega : ¬k = 1 - k), if_neg (by omega : ¬1 - k = k), if_pos rfl]
  exact ⟨rfl, rfl⟩

/-- The slot is activated and the request answered. -/
def fwActivated (q : MciReq) (k : Nat) (s : State) : State := mciStatus 0x0104 q mSuccess (fwActivate k s)

theorem fwActivated_touches : Touches [.rings, .regs, .fw, .out] s (fwActivated q k s) :=
  (mciStatus_touches _ _ _ _).before (fwActivate_touches _ _)

theorem fwActivated_answered : Answered 0x0104 q 0 0 0 0 s (fwActivated q k s) := answered_after fwActivate_onward

theorem fwActivated_fw : (fwActivated q k s).fw =
    { (fwActivate k s).fw with outstanding := (fwActivated q k s).fw.outstanding } := mciStatus_fw

/-- The MP is to run the activated slot at once. -/
def fwSwitched (q : MciReq) (k : Nat) (s : State) : State :=
  { fwActivated q k s with fw := { (fwActivated q k s).fw with useSlot := k } }

theorem fwSwitched_touches : Touches [.rings, .regs, .fw, .out] s (fwSwitched q k s) := upd_fw rfl fwActivated_touches

theorem fwSlot_fwSwitched : fwSlot (fwSwitched q k s) j = fwSlot (fwActivate k s) j :=
  fwSlot_of_slots (by rw [fwSwitched, fwActivated_fw]) j

/-- A restart leaves the firmware slots. -/
theorem fwSlot_mpOnlyReset {cause : Nat} : fwSlot (mpOnlyReset cause s) j = fwSlot s j :=
  fwSlot_of_slots (by rw [mpOnlyReset_fw]) j

section
variable (serves : Serves 0x0104 (q.plen == 8) (reservedClear (mciParams q) [(0, 1), (8, 1)] && true) q s)
include serves

theorem exec_fwActivate_busy (unverified : (fwSlot s (bits (mciParams q) 0 1)).state ≠ 3) :
    exec (.fwActivate q) s = .next (mciStatus 0x0104 q mBusy s) := by
  change execFwActivate q s = _
  simp only [execFwActivate, mciFixed_of_serves serves, if_pos unverified]

theorem exec_fwActivate_later (verified : (fwSlot s (bits (mciParams q) 0 1)).state = 3) (later : bit1 (mciParams q) 8 = false) :
    exec (.fwActivate q) s = .next (fwActivated q (bits (mciParams q) 0 1) s) := by
  change execFwActivate q s = _
  simp only [execFwActivate, mciFixed_of_serves serves, verified, later, ne_eq, not_true, Bool.not_false, if_false, if_true]
  rfl

/-- With WHEN = 1 the running MP resets into the slot. -/
theorem exec_fwActivate_running (verified : (fwSlot s (bits (mciParams q) 0 1)).state = 3) (now : bit1 (mciParams q) 8 = true)
    (running : s.boot.mp = .running) :
    exec (.fwActivate q) s = .next (mpOnlyReset 2 (fwSwitched q (bits (mciParams q) 0 1) s)) := by
  have away : (s.boot.mp == .recovery) = false := by rw [running]; rfl
  change execFwActivate q s = _
  simp only [execFwActivate, mciFixed_of_serves serves, verified, now, away, ne_eq, not_true, Bool.not_true, Bool.false_eq_true,
    if_false]
  rfl

theorem exec_fwActivate_recovery (verified : (fwSlot s (bits (mciParams q) 0 1)).state = 3) (now : bit1 (mciParams q) 8 = true)
    (recovery : s.boot.mp = .recovery) :
    exec (.fwActivate q) s = .next { fwActivated q (bits (mciParams q) 0 1) s with
      boot := { s.boot with mp := .bootRom, ready := false, starting := true } } := by
  have inRecovery : (s.boot.mp == .recovery) = true := by rw [recovery]; rfl
  rw [← fwActivated_touches (q := q) (k := bits (mciParams q) 0 1) (s := s) .boot (by decide)]
  change execFwActivate q s = _
  simp only [execFwActivate, mciFixed_of_serves serves, verified, now, inRecovery, ne_eq, not_true, Bool.not_true,
    Bool.false_eq_true, if_false, if_true]
  rfl

end

end

end Sys2Proof.Machine
end

section
/-! FW_COMMIT (R367, R369): the bytes decide a slot's packages, and RAISE lifts the SVN minimum of each. -/

namespace Sys2Proof.Machine

section
variable {k : Nat} {f g : FwSlot} {p r : Package} {q : MciReq} {s t : State}

/-! ### The packages of a slot -/

theorem FwSlot.bytes_of_data (data : f.data = g.data) (a n : Nat) : f.bytes a n = g.bytes a n := by
  induction n generalizing a with
  | zero => rfl
  | succ n ih => rw [FwSlot.bytes, FwSlot.bytes, FwSlot.byte, FwSlot.byte, data, ih]

theorem FwSlot.directory_of_data (data : f.data = g.data) : f.directory = g.directory := by
  simp only [FwSlot.directory, FwSlot.bytes_of_data data]

theorem FwSlot.package_of_data (data : f.data = g.data) : f.package = g.package := by
  funext d
  simp only [FwSlot.package, FwSlot.bytes_of_data data]

theorem bundlePackages_of_data (data : (fwSlot t k).data = (fwSlot s k).data) : bundlePackages t k = bundlePackages s k := by
  simp only [bundlePackages, FwSlot.directory_of_data data, FwSlot.package_of_data data]

/-! ### SVN minimums -/

/-- The tables of SVN minimums are canonical. -/
def SvnWf (s : State) : Prop := Tab.wf 0 s.fw.minSvn = true ∧ Tab.wf 0 s.fw.tileSvn = true

/-- The minimum of a package's kind rises to its SVN. -/
def raiseMinimum (s : State) (p : Package) : State :=
  if p.kind = 4 then { s with fw := { s.fw with tileSvn := Tab.upd 0 s.fw.tileSvn p.key fun m => max m p.svn } }
  else { s with fw := { s.fw with minSvn := Tab.upd 0 s.fw.minSvn p.kind fun m => max m p.svn } }

theorem raiseMinimums_eq_foldl (ps : List Package) (s : State) : raiseMinimums ps s = ps.foldl raiseMinimum s := rfl

theorem raiseMinimum_wf (wf : SvnWf s) : SvnWf (raiseMinimum s p) := by
  obtain ⟨kinds, tiles⟩ := wf
  rw [raiseMinimum]
  split
  · exact ⟨kinds, Tab.wf_upd p.key (max · p.svn) tiles⟩
  · exact ⟨Tab.wf_upd p.kind (max · p.svn) kinds, tiles⟩

/-- Of the firmware a raise changes the minimums. -/
theorem raiseMinimum_fw : (raiseMinimum s p).fw =
    { s.fw with minSvn := (raiseMinimum s p).fw.minSvn, tileSvn := (raiseMinimum s p).fw.tileSvn } := by
  rw [raiseMinimum]
  split <;> rfl

theorem le_get_upd_max {m : Tab Nat} (wf : Tab.wf 0 m = true) (i j v : Nat) :
    Tab.get 0 m j ≤ Tab.get 0 (Tab.upd 0 m i (max · v)) j := by
  by_cases same : j = i
  · rw [same, Tab.get_upd _ _ wf]
    exact le_max_left _ _
  · rw [Tab.get_upd_ne _ same]

theorem le_svnMinimum_raiseMinimum (wf : SvnWf s) : p.svn ≤ svnMinimum (raiseMinimum s p) p := by
  obtain ⟨kinds, tiles⟩ := wf
  rw [svnMinimum, raiseMinimum]
  split
  · rw [Tab.get_upd _ _ tiles]
    exact le_max_right _ _
  · rw [Tab.get_upd _ _ kinds]
    exact le_max_right _ _

/-- No minimum falls. -/
theorem svnMinimum_le_raiseMinimum (wf : SvnWf s) : svnMinimum s r ≤ svnMinimum (raiseMinimum s p) r := by
  obtain ⟨kinds, tiles⟩ := wf
  rw [svnMinimum, svnMinimum, raiseMinimum]
  by_cases tile : p.kind = 4
  · rw [if_pos tile]
    split
    · exact le_get_upd_max tiles _ _ _
    · exact le_rfl
  · rw [if_neg tile]
    split
    · exact le_rfl
    · exact le_get_upd_max kinds _ _ _

theorem svnMinimum_le_foldl (ps : List Package) (wf : SvnWf s) : svnMinimum s r ≤ svnMinimum (ps.foldl raiseMinimum s) r := by
  induction ps generalizing s with
  | nil => exact le_rfl
  | cons p ps ih => exact (svnMinimum_le_raiseMinimum wf).trans (ih (raiseMinimum_wf wf))

theorem svn_le_raiseMinimums (ps : List Package) (wf : SvnWf s) : ∀ p ∈ ps, p.svn ≤ svnMinimum (raiseMinimums ps s) p := by
  rw [raiseMinimums_eq_foldl]
  induction ps generalizing s with
  | nil => exact List.forall_mem_nil _
  | cons a ps ih =>
    exact List.forall_mem_cons.mpr
      ⟨(le_svnMinimum_raiseMinimum wf).trans (svnMinimum_le_foldl ps (raiseMinimum_wf wf)), ih (raiseMinimum_wf wf)⟩

theorem raiseMinimums_fw (ps : List Package) : (raiseMinimums ps s).fw =
    { s.fw with minSvn := (raiseMinimums ps s).fw.minSvn, tileSvn := (raiseMinimums ps s).fw.tileSvn } := by
  rw [raiseMinimums_eq_foldl]
  induction ps generalizing s with
  | nil => rfl
  | cons p ps ih => rw [List.foldl_cons, ih, raiseMinimum_fw]

theorem svnMinimum_mciStatus {op status : Nat} : svnMinimum (mciStatus op q status s) p = svnMinimum s p := by
  rw [svnMinimum, mciStatus_fw, svnMinimum]

/-! ### FW_COMMIT -/

/-- The active slot is COMMITTED and the boot record says so. -/
def fwCommitted (s : State) : State := bootRecord s.fw.active false 0 (fwSetState s.fw.active 5 s)

/-- The minimums follow where RAISE asks for it. -/
def minimumsRaised (raise : Bool) (k : Nat) (s : State) : State := if raise then raiseMinimums (bundlePackages s k) s else s

theorem fwCommitted_fw : (fwCommitted s).fw = { s.fw with
    slots := Tab.set FwSlot.reset s.fw.slots s.fw.active ((fwSlot s s.fw.active).inState 5)
    trial := false, failedBoots := 0, bootSeq := s.fw.bootSeq + 1
    recordCopy := 1 - s.fw.recordCopy, otherCopy := some ⟨s.fw.bootSeq, s.fw.active, s.fw.trial, s.fw.failedBoots⟩ } := by
  rw [fwCommitted, bootRecord, fwSetState_fw]

theorem fwSlot_fwCommitted (wf : Tab.wf FwSlot.reset s.fw.slots = true) :
    fwSlot (fwCommitted s) s.fw.active = (fwSlot s s.fw.active).inState 5 := by
  rw [fwCommitted, fwSlot_bootRecord, fwSlot_fwSetState wf, if_pos rfl]

theorem minimumsRaised_fw {raise : Bool} : (minimumsRaised raise k s).fw = { s.fw with
    minSvn := (minimumsRaised raise k s).fw.minSvn, tileSvn := (minimumsRaised raise k s).fw.tileSvn } := by
  rw [minimumsRaised]
  split
  · exact raiseMinimums_fw _
  · rfl

theorem minimumsRaised_onward {raise : Bool} : Onward s (minimumsRaised raise k s) :=
  .ite ((raiseMinimums_touches _ _).onward rfl) (.refl _)

theorem fwCommitted_onward : Onward s (fwCommitted s) :=
  .after ((bootRecord_touches _ _ _ _).onward rfl) fwSetState_onward

section
variable (serves : Serves 0x0105 (q.plen == 8) (reservedClear (mciParams q) [(0, 1)] && true) q s)
include serves

theorem exec_fwCommit_busy (settled : s.fw.trial = false ∨ s.fw.mpSlot ≠ s.fw.active) :
    exec (.fwCommit q) s = .next (mciStatus 0x0105 q mBusy s) := by
  have busy : (!s.fw.trial || s.fw.mpSlot != s.fw.active) = true := by simpa using settled
  change execFwCommit q s = _
  simp only [execFwCommit, mciFixed_of_serves serves, busy, if_true]

theorem exec_fwCommit_trial (trial : s.fw.trial = true) (runs : s.fw.mpSlot = s.fw.active) :
    exec (.fwCommit q) s = .next (mciStatus 0x0105 q mSuccess
      (minimumsRaised (bit1 (mciParams q) 0) s.fw.active (fwCommitted s))) := by
  have idle : (!s.fw.trial || s.fw.mpSlot != s.fw.active) = false := by simp [trial, runs]
  change execFwCommit q s = _
  simp only [execFwCommit, mciFixed_of_serves serves, idle, Bool.false_eq_true, if_false]
  rfl

end

end

/-- What FW_COMMIT leaves of the slots, the boot record and the SVN minimums. -/
theorem fwCommit_outcome {q : MciReq} {raise : Bool} {s : State} (slots : Tab.wf FwSlot.reset s.fw.slots = true) (svn : SvnWf s) :
    let t := mciStatus 0x0105 q mSuccess (minimumsRaised raise s.fw.active (fwCommitted s))
    t.fw.trial = false ∧ t.fw.active = s.fw.active ∧ (fwSlot t s.fw.active).state = 5 ∧
      (raise = false → t.fw.minSvn = s.fw.minSvn ∧ t.fw.tileSvn = s.fw.tileSvn) ∧
      (raise = true → ∀ p ∈ bundlePackages s s.fw.active, p.svn ≤ svnMinimum t p) ∧ Answered 0x0105 q 0 0 0 0 s t := by
  have committed := fwSlot_fwCommitted slots
  have wf : SvnWf (fwCommitted s) := by
    rw [SvnWf, fwCommitted_fw]
    exact svn
  dsimp only
  refine ⟨?trial, ?active, ?state, ?kept, ?raised, answered_after (.after minimumsRaised_onward fwCommitted_onward)⟩
  case trial => rw [mciStatus_fw, minimumsRaised_fw, fwCommitted_fw]
  case active => rw [mciStatus_fw, minimumsRaised_fw, fwCommitted_fw]
  case state =>
    rw [fwSlot_mciStatus, fwSlot_of_slots (s := fwCommitted s) (by rw [minimumsRaised_fw]), committed]
    rfl
  case kept =>
    rintro rfl
    rw [mciStatus_fw, minimumsRaised, if_neg (by decide), fwCommitted_fw]
    exact ⟨rfl, rfl⟩
  case raised =>
    rintro rfl p listed
    rw [svnMinimum_mciStatus, minimumsRaised, if_pos rfl]
    have same : bundlePackages (fwCommitted s) s.fw.active = bundlePackages s s.fw.active :=
      bundlePackages_of_data ((congrArg FwSlot.data committed).trans rfl)
    exact svn_le_raiseMinimums _ wf p (same ▸ listed)

/-- Settles O38: each clause is one branch of its command, whose state says which slot it rewrites. -/
theorem firmwareSlots : Obligations.FirmwareSlots := by
  refine ⟨?first, ?next, ?recovery, ?beyond, ?astray, ?refused, ?working, ?verify, ?unwritten, ?later, ?now, ?reboot,
    ?unverified, ?commit, ?settled⟩
  case first =>
    intro q data s serves running other committed fits first wf
    exact .of_next ((exec_fwWrite serves).trans
      (congrArg _ (fwWrite_first (fwWritable_running running other committed) fits first))) (execFwWrite_touches _ _ _)
      ⟨fun j _ => fwSlot_fwStored wf, fwStored_answered⟩
  case next =>
    intro q data s serves running other committed fits later writing next wf
    exact .of_next ((exec_fwWrite serves).trans
      (congrArg _ (fwWrite_next (fwWritable_running running other committed) fits later writing next))) (execFwWrite_touches _ _ _)
      ⟨fun j _ => fwSlot_fwStored wf, fwStored_answered⟩
  case recovery =>
    intro q data s serves recovery free fits first wf
    exact .of_next ((exec_fwWrite serves).trans
      (congrArg _ (fwWrite_first (fwWritable_recovery recovery free) fits first))) (execFwWrite_touches _ _ _)
      ⟨fun j _ => fwSlot_fwStored wf, fwStored_answered⟩
  case beyond =>
    intro q data s serves running other committed beyond
    refine .of_next ((exec_fwWrite serves).trans
      (congrArg _ (fwWrite_beyond (fwWritable_running running other committed) beyond))) (execFwWrite_touches _ _ _)
      ⟨?_, mciStatus_answered⟩
    rw [mciStatus_fw]
  case astray =>
    intro q data s serves running other committed fits later astray
    refine .of_next ((exec_fwWrite serves).trans
      (congrArg _ (fwWrite_outOfSequence (fwWritable_running running other committed) fits later astray)))
      (execFwWrite_touches _ _ _) ⟨?_, mciStatus_answered⟩
    rw [mciStatus_fw]
  case refused =>
    intro q data s serves running bars
    refine .of_next ((exec_fwWrite serves).trans (congrArg _ (fwWrite_refused (not_fwWritable_running running bars))))
      (execFwWrite_touches _ _ _) ⟨?_, mciStatus_answered⟩
    rw [mciStatus_fw]
  case working =>
    intro q data s serves recovery active works
    refine .of_next ((exec_fwWrite serves).trans
      (congrArg _ (fwWrite_refused (not_fwWritable_recovery recovery active works)))) (execFwWrite_touches _ _ _)
      ⟨?_, mciStatus_answered⟩
    rw [mciStatus_fw]
  case verify =>
    intro q s serves written wf
    cases verdict : bundleVerdict s (bits (mciParams q) 0 1) with
    | none =>
      refine ⟨_, exec_fwVerify_compatible serves written verdict, ?_,
        (mciStatus_touches _ _ _ _).after rfl ((fwSetState_touches _ _ _).mono rfl)⟩
      simp only [Option.isNone_none, if_true]
      rw [fwSlot_mciStatus, fwSlot_fwSetState wf, if_pos rfl]
      have logs : (mciStatus 0x0103 q mSuccess (fwSetState (bits (mciParams q) 0 1) 3 s)).logs = s.logs :=
        (mciStatus_touches _ _ _ _).before (fwSetState_touches _ _ _) .logs (by decide)
      exact ⟨rfl, answered_after fwSetState_onward, logs⟩
    | some failure =>
      obtain ⟨i, st⟩ := failure
      refine ⟨_, exec_fwVerify_failed serves written verdict, ?_, (mciAnswer_touches _ _ _ _ _ _ _).after rfl
        ((mpEvent_touches _ _ _ _ _).after rfl ((fwSetState_touches _ _ _).mono rfl))⟩
      simp only [Option.isNone_some, Bool.false_eq_true, if_false, Option.getD_some]
      rw [fwSlot_mciAnswer, (mpEvent_touches _ _ _ _ _).fwSlot_eq (by decide), fwSlot_fwSetState wf, if_pos rfl]
      exact ⟨rfl, answered_after (.after mpEvent_onward fwSetState_onward)⟩
  case unwritten =>
    intro q s serves unwritten
    refine ⟨_, exec_fwVerify_busy serves unwritten, ⟨?_, mciStatus_answered⟩, mciStatus_touches _ _ _ _⟩
    rw [mciStatus_fw]
  case later =>
    intro q s serves verified later wf
    obtain ⟨activated, fallback⟩ := fwSlot_fwActivate wf (bits_one_lt_two (mciParams q) 0)
    refine ⟨_, exec_fwActivate_later serves verified later, ?_, fwActivated_touches⟩
    dsimp only
    rw [fwActivated, fwSlot_mciStatus, fwSlot_mciStatus, activated, fallback, mciStatus_fw, fwActivate_fw]
    exact ⟨rfl, rfl, rfl, rfl, rfl, rfl, rfl, fwActivated_answered⟩
  case now =>
    rintro q s serves verified now running wf ⟨-, plane, -⟩
    obtain ⟨activated, fallback⟩ := fwSlot_fwActivate wf (bits_one_lt_two (mciParams q) 0)
    have restarted := mpOnlyReset_outcome (detail := 2) (fwSwitched_touches (q := q) (k := bits (mciParams q) 0 1)) plane
    refine .of_next (exec_fwActivate_running serves verified now running) (execFwActivate_touches _ _) ?_
    dsimp only
    rw [fwSlot_mpOnlyReset, fwSlot_mpOnlyReset, fwSlot_fwSwitched, fwSlot_fwSwitched, activated, fallback, fallbackState,
      if_neg (by rw [running]; decide)]
    refine ⟨?active, ?trial, rfl, rfl, fwActivated_answered.onward (.after mpOnlyReset_onward (.fw (.refl _))), ?inUse, restarted⟩
    case active => rw [mpOnlyReset_fw, fwSwitched, fwActivated_fw, fwActivate_fw]
    case trial => rw [mpOnlyReset_fw, fwSwitched, fwActivated_fw, fwActivate_fw]
    case inUse => rw [mpOnlyReset_fw, fwSwitched]
  case reboot =>
    intro q s serves verified now recovery wf
    obtain ⟨activated, fallback⟩ := fwSlot_fwActivate wf (bits_one_lt_two (mciParams q) 0)
    refine ⟨_, exec_fwActivate_recovery serves verified now recovery, ?_, upd_boot rfl (fwActivated_touches.mono rfl)⟩
    have slots (j : Nat) : fwSlot (fwActivated q (bits (mciParams q) 0 1) s) j = fwSlot (fwActivate (bits (mciParams q) 0 1) s) j :=
      fwSlot_mciStatus
    dsimp only
    refine ⟨rfl, ?active, ?trial, ?activated, ?other⟩
    case active => rw [fwActivated_fw, fwActivate_fw]
    case trial => rw [fwActivated_fw, fwActivate_fw]
    case activated => exact congrArg FwSlot.state ((slots _).trans activated)
    case other => exact (congrArg FwSlot.state ((slots _).trans fallback)).trans (if_pos recovery)
  case unverified =>
    intro q s serves unverified
    refine ⟨_, exec_fwActivate_busy serves unverified, ?_, mciStatus_touches _ _ _ _⟩
    refine ⟨?_, ?_, ?_, mciStatus_answered⟩ <;> rw [mciStatus_fw]
  case commit =>
    intro q s serves trial runs slots kinds tiles
    exact .of_next (exec_fwCommit_trial serves trial runs) (execFwCommit_touches _ _) (fwCommit_outcome slots ⟨kinds, tiles⟩)
  case settled =>
    intro q s serves settled
    refine .of_next (exec_fwCommit_busy serves settled) (execFwCommit_touches _ _) ?_
    refine ⟨?_, ?_, ?_, mciStatus_answered⟩ <;> rw [mciStatus_fw]

end Sys2Proof.Machine
end

section
/-! Boots (R353, R365, R368, R370, Table 17.2): what the boot ROM leaves of the boot record and the slots after a failed attempt,
and what runs after a good one. -/

namespace Sys2Proof.Machine

section
variable {k : Nat} {s t : State} {cals : List CalIn}

/-! ### Failed boots -/

/-- A first failure of a TRIAL slot is counted in the boot record. -/
theorem bootRecord_retried (trial : s.fw.trial = true) : (bootRecord s.fw.active true 1 s).fw = { s.fw with
    failedBoots := 1, bootSeq := s.fw.bootSeq + 1, recordCopy := 1 - s.fw.recordCopy
    otherCopy := some ⟨s.fw.bootSeq, s.fw.active, s.fw.trial, s.fw.failedBoots⟩ } := by
  rw [bootRecord, ← trial]

/-- The boot record names the other slot, and the slot that it leaves is FAILED. -/
def reverted (k : Nat) (s : State) : State :=
  let u := bootRecord (1 - k) false 0 (fwSetState k 6 s)
  { u with fw := { u.fw with useSlot := 1 - k } }

theorem revertSlot_eq : revertSlot k s = mpEvent 0x9002 6 0 0 (reverted k s) := rfl

theorem reverted_touches : Touches [.rings, .regs, .fw, .out] s (reverted k s) :=
  upd_fw rfl ((bootRecord_touches _ _ _ _).after rfl (fwSetState_touches _ _ _))

theorem revertSlot_fw : (revertSlot k s).fw = { s.fw with
    slots := Tab.set FwSlot.reset s.fw.slots k ((fwSlot s k).inState 6), active := 1 - k, trial := false, failedBoots := 0
    bootSeq := s.fw.bootSeq + 1, recordCopy := 1 - s.fw.recordCopy
    otherCopy := some ⟨s.fw.bootSeq, s.fw.active, s.fw.trial, s.fw.failedBoots⟩, useSlot := 1 - k } := by
  rw [revertSlot_eq, mpEvent_touches _ _ _ _ _ .fw (by decide), reverted, bootRecord, fwSetState_fw]

theorem fwSlot_revertSlot {j : Nat} (wf : Tab.wf FwSlot.reset s.fw.slots = true) :
    fwSlot (revertSlot k s) j = if j = k then (fwSlot s k).inState 6 else fwSlot s j :=
  (fwSlot_of_slots (s := fwSetState k 6 s) (by rw [revertSlot_fw, fwSetState_fw]) j).trans (fwSlot_fwSetState wf)

theorem revertSlot_entries (away : mpRuns s = false) : (revertSlot k s).logs.entries =
    ((⟨s.logs.next, s.clk.tick, 0x9002, 6, false, 0x100, 0, 0, false⟩ : LogEntry) :: s.logs.entries).take 65536 := by
  have entered := logExt_entries (reason := 0x9002) (sev := 6) (unit := 0) (detail := 0) (src := 0x100) (repl := false) (ext := 0)
    ((reverted_touches (k := k).mpRuns_eq (by decide)).trans away)
  rw [eventEntry, reverted_touches .logs (by decide), reverted_touches .clk (by decide)] at entered
  exact entered

/-- What a return to a COMMITTED slot leaves of the boot record and the two slots. -/
theorem revertSlot_outcome (wf : Tab.wf FwSlot.reset s.fw.slots = true) (committed : (fwSlot s (1 - k)).state = 5) :
    let t := revertSlot k s
    t.fw.active = 1 - k ∧ t.fw.useSlot = 1 - k ∧ t.fw.trial = false ∧ t.fw.failedBoots = 0 ∧
      (k ≤ 1 → (fwSlot t k).state = 6 ∧ (fwSlot t (1 - k)).state = 5) := by
  dsimp only
  rw [revertSlot_fw, fwSlot_revertSlot wf, fwSlot_revertSlot wf, if_pos rfl]
  refine ⟨rfl, rfl, rfl, rfl, fun low => ⟨rfl, ?_⟩⟩
  rw [if_neg (by omega)]
  exact committed

theorem enterRecovery_boot : (enterRecovery s).boot = { s.boot with mp := .recovery } :=
  mpEvent_touches _ _ _ _ _ .boot (by decide)

theorem enterRecovery_fw : (enterRecovery s).fw = s.fw := enterRecovery_touches _ .fw (by decide)

theorem enterRecovery_entries : (enterRecovery s).logs.entries =
    ((⟨s.logs.next, s.clk.tick, 0x9003, 6, false, 0x100, 0, 0, false⟩ : LogEntry) :: s.logs.entries).take 65536 :=
  logExt_entries rfl

theorem failedBoot_counts (trial : s.fw.trial = true) (first : s.fw.failedBoots = 0) :
    failedBoot s = bootRecord s.fw.active true 1 s := by
  simp only [failedBoot, trial, first, beq_self_eq_true, Bool.and_self, if_true]

theorem failedBoot_reverts (trial : s.fw.trial = true) (again : s.fw.failedBoots ≠ 0)
    (committed : (fwSlot s (1 - s.fw.active)).state = 5) : failedBoot s = revertSlot s.fw.active s := by
  simp [failedBoot, trial, again, committed]

/-- With no COMMITTED slot beside it, a slot that may not be tried again is FAILED, and recovery mode begins. -/
theorem failedBoot_recovers (retried : s.fw.trial = true → s.fw.failedBoots ≠ 0)
    (bare : (fwSlot s (1 - s.fw.active)).state ≠ 5) :
    failedBoot s = enterRecovery (fwSetState s.fw.active 6 s) := by
  have spent : (s.fw.trial && s.fw.failedBoots == 0) = false := by simpa using retried
  have alone : ((fwSlot s (1 - s.fw.active)).state == 5) = false := by simpa using bare
  simp only [failedBoot, spent, alone, Bool.false_and, Bool.false_eq_true, if_false]

/-- What recovery mode leaves after a failed boot. -/
theorem failedBoot_recovers_outcome (retried : s.fw.trial = true → s.fw.failedBoots ≠ 0)
    (bare : (fwSlot s (1 - s.fw.active)).state ≠ 5) (wf : Tab.wf FwSlot.reset s.fw.slots = true) :
    let t := failedBoot s
    t.boot = { s.boot with mp := .recovery } ∧ (∀ j, fwSlot t j =
        if j = s.fw.active then (fwSlot s s.fw.active).inState 6 else fwSlot s j) ∧ t.fw.active = s.fw.active ∧
      t.logs.entries = ((⟨s.logs.next, s.clk.tick, 0x9003, 6, false, 0x100, 0, 0, false⟩ : LogEntry) ::
        s.logs.entries).take 65536 := by
  have failed := fwSetState_touches s.fw.active 6 s
  dsimp only
  rw [failedBoot_recovers retried bare, enterRecovery_boot, enterRecovery_entries, enterRecovery_fw, failed .boot (by decide),
    failed .logs (by decide), failed .clk (by decide)]
  exact ⟨rfl, fun j => (fwSlot_of_slots (congrArg Fw.slots enterRecovery_fw) j).trans (fwSlot_fwSetState wf),
    by rw [fwSetState_fw], rfl⟩

/-! ### MP_BOOT and TRIAL_BOOT_TIMEOUT -/

section
variable (rom : s.boot.mp = .bootRom) (released : s.pins.perst = false) (locked : s.clk.pll = true)
include rom released locked

theorem exec_mpBoot_strapped (strap : s.pins.recoveryStrap = true) : exec (.mpBoot cals) s = .next (enterRecovery s) := by
  change execMpBoot cals s = _
  simp [execMpBoot, rom, released, locked, strap]

/-- The boot ROM judges the active slot. -/
theorem exec_mpBoot_judged (strap : s.pins.recoveryStrap = false) : exec (.mpBoot cals) s =
    .next (if (bundleVerdict s s.fw.active).isNone then startFirmware (cals.foldl (calibrate cals) s) else failedBoot s) := by
  change execMpBoot cals s = _
  simp only [execMpBoot, rom, released, locked, strap, ne_eq, not_true, Bool.not_true, Bool.false_eq_true, or_self, if_false]
  cases bundleVerdict s s.fw.active <;> rfl

theorem exec_mpBoot_failed (strap : s.pins.recoveryStrap = false) (verdict : (bundleVerdict s s.fw.active).isSome = true) :
    exec (.mpBoot cals) s = .next (failedBoot s) := by
  have bad : ¬(bundleVerdict s s.fw.active).isNone = true := by
    rw [Option.isNone_iff_eq_none, ← ne_eq, ← Option.isSome_iff_ne_none]
    exact verdict
  rw [exec_mpBoot_judged rom released locked strap, if_neg bad]

end

/-- A running attempt goes back to the boot ROM. -/
def attemptEnded (s : State) : State :=
  { s with boot := { s.boot with mp := .bootRom, steps := s.boot.steps &&& 0x3E7#10 } }

theorem exec_trialBootTimeout_running (trial : s.fw.trial = true) (running : s.boot.mp = .running) (starting : s.boot.starting = true) :
    exec .trialBootTimeout s = .next (failedBoot (attemptEnded s)) := by
  change execTrialBootTimeout s = _
  rw [execTrialBootTimeout, if_neg (by simp [trial, starting]), if_pos running]
  rfl

theorem exec_trialBootTimeout_restarting (trial : s.fw.trial = true) (restarting : s.boot.mp = .restarting) :
    exec .trialBootTimeout s = .next (failedBoot s) := by
  change execTrialBootTimeout s = _
  simp [execTrialBootTimeout, trial, restarting]

/-! ### Good boots -/

theorem countBrake_guard : (countBrake s).pm.guard = s.pm.guard := by
  rw [countBrake, pwrAttention_touches _ _ .pm (by decide)]
  rfl

/-- The PM runs its payload, and an assertion that it finds has not been counted yet. -/
def payloadRuns (s : State) : State :=
  { s with
    boot := { s.boot with pm := .firmware }
    fw := { s.fw with pmRetained := true }
    pm := { s.pm with guard := false, qRamp := if s.boot.cold then 8192 else s.pm.qRamp } }

theorem startPm_touches_runs : Touches [.rings, .regs, .pm, .counters, .out] (payloadRuns s) (startPm s) :=
  touches_ite (countBrake_touches _) (.refl _ _)

theorem startPm_boot : (startPm s).boot = { s.boot with pm := .firmware } := startPm_touches_runs .boot (by decide)

theorem startPm_fw : (startPm s).fw = { s.fw with pmRetained := true } := startPm_touches_runs .fw (by decide)

theorem startPm_guard : (startPm s).pm.guard = false := by
  have runs : startPm s = if (payloadRuns s).pm.braked && !(payloadRuns s).pm.counted then countBrake (payloadRuns s)
    else payloadRuns s := rfl
  rw [runs]
  split
  · exact countBrake_guard
  · rfl

theorem foldl_mpPersist_held (es : List LogEntry) (runs : mpRuns s = true) :
    (es.foldl (fun t e => mpPersist e 0 t) s).logs.held = s.logs.held := by
  induction es generalizing s with
  | nil => rfl
  | cons e es ih =>
    exact (ih (((mpPersist_touches e 0 s).mpRuns_eq (by decide)).trans runs)).trans (mpPersist_held runs)

/-- While the MP executes its firmware every held write is made. -/
theorem persistHeld_held (runs : mpRuns s = true) : (persistHeld s).logs.held = [] :=
  foldl_mpPersist_held _ runs

/-- The boot ROM starts the firmware of the active slot. -/
def firmwareLoaded (s : State) : State :=
  { s with
    boot := { s.boot with mp := .running, starting := true }
    fw := { s.fw with
      mpSlot := s.fw.active, useSlot := s.fw.active
      running := ((bundlePackages s s.fw.active).filter fun p => p.kind != 4).foldl (fun l p => insertPackage p l) [] } }

/-- Steps 3 and 4 are complete. -/
def processorsRun (s : State) : State := stepDone 4 (stepDone 3 (persistHeld (startPm (firmwareLoaded s))))

theorem startFirmware_eq : startFirmware s = startTiles (startStitches (startLattice (processorsRun s))) := rfl

theorem startFirmware_touches_run : Touches [.boot, .tiles, .lanes, .lat] (processorsRun s) (startFirmware s) := by
  rw [startFirmware_eq]
  exact (startTiles_touches _).after rfl ((startStitches_touches _).after rfl ((startLattice_touches _).mono rfl))

theorem processorsRun_boot : (processorsRun s).boot = { s.boot with
    mp := .running, starting := true, pm := .firmware
    steps := s.boot.steps ||| BitVec.twoPow 10 3 ||| BitVec.twoPow 10 4 } := by
  rw [processorsRun, stepDone, stepDone, persistHeld_touches _ .boot (by decide), startPm_boot]
  rfl

theorem processorsRun_fw : (processorsRun s).fw = { (firmwareLoaded s).fw with pmRetained := true } :=
  (persistHeld_touches _ .fw (by decide)).trans startPm_fw

theorem processorsRun_guard : (processorsRun s).pm.guard = false := by
  have pm : (processorsRun s).pm = (startPm (firmwareLoaded s)).pm := persistHeld_touches _ .pm (by decide)
  rw [pm, startPm_guard]

theorem processorsRun_held : (processorsRun s).logs.held = [] :=
  persistHeld_held (by rw [mpRuns, startPm_boot]; rfl)

/-- The Lattice's training may complete step 5. -/
theorem startLattice_boot : (startLattice s).boot = s.boot ∨
    (startLattice s).boot = { s.boot with steps := s.boot.steps ||| BitVec.twoPow 10 5 } := by
  have trained : (trainPorts s).boot = s.boot := trainPorts_touches _ .boot (by decide)
  rw [startLattice, trainingStep]
  split
  · rw [stepDone, trained]
    exact .inr rfl
  · exact .inl trained

/-- After a good boot the MP and the PM run the active slot's firmware. -/
theorem startFirmware_outcome : let t := startFirmware s
    t.boot.mp = .running ∧ t.boot.pm = .firmware ∧ t.boot.steps.getLsbD 3 = true ∧ t.boot.steps.getLsbD 4 = true ∧
      t.boot.ready = s.boot.ready ∧ t.fw.mpSlot = s.fw.active ∧ t.fw.useSlot = s.fw.active ∧ t.fw.active = s.fw.active ∧
      t.fw.pmRetained = true ∧ t.pm.guard = false ∧ t.logs.held = [] := by
  have begun : (startFirmware s).boot = (startLattice (processorsRun s)).boot := by
    rw [startFirmware_eq, startTiles_touches _ .boot (by decide), startStitches_touches _ .boot (by decide)]
  have rest := startFirmware_touches_run (s := s)
  dsimp only
  rw [rest .fw (by decide), rest .pm (by decide), rest .logs (by decide), processorsRun_fw, processorsRun_guard,
    processorsRun_held, begun]
  obtain boot | boot := startLattice_boot (s := processorsRun s)
  all_goals
    rw [boot, processorsRun_boot]
    exact ⟨rfl, rfl, by simp, by simp, rfl, rfl, rfl, rfl, rfl, rfl, rfl⟩

/-- The calibrations before it leave the boot and the firmware as they are. -/
theorem calibrated_touches : Touches [.ctl, .pm, .counters] s (cals.foldl (calibrate cals) s) :=
  touches_foldl (.refl _ _) fun _ _ => calibrate_touches _ _ _

end

end Sys2Proof.Machine
end

section
/-! The end of a restart of the MP (R353, R371, R380, R605): what the operations along the way leave of the mailbox's BUSY, the held
writes and the status bits, and the firmware that runs then. -/

namespace Sys2Proof.Machine

section
variable {bs : List Block} {b reason sev unit detail src ext : Nat} {repl : Bool} {s t u : State}

/-! ### Status that no event takes back -/

/-- From s to t the start-up state and the mailbox's BUSY stay, no bit of STS_ATTN is cleared, and while the MP executes its
firmware no write is held. -/
structure Notes (s t : State) : Prop where
  boot : t.boot = s.boot
  busy : t.regs.mbxBusy = s.regs.mbxBusy
  attn : ∀ i, s.regs.stsAttn.getLsbD i = true → t.regs.stsAttn.getLsbD i = true
  held : mpRuns s = true → t.logs.held = s.logs.held

theorem Notes.refl (s : State) : Notes s s := ⟨rfl, rfl, fun _ => id, fun _ => rfl⟩

theorem Notes.runs (h : Notes s t) (runs : mpRuns s = true) : mpRuns t = true := by
  rw [mpRuns, h.boot]
  exact runs

/-- The later step first, as it is written in the model. -/
theorem Notes.after (later : Notes t u) (earlier : Notes s t) : Notes s u where
  boot := later.boot.trans earlier.boot
  busy := later.busy.trans earlier.busy
  attn i set := later.attn i (earlier.attn i set)
  held runs := (later.held (earlier.runs runs)).trans (earlier.held runs)

theorem Notes.ite {c : Prop} [Decidable c] (h : Notes s t) (k : Notes s u) : Notes s (if c then t else u) := by
  split <;> assumption

theorem Notes.foldl {α : Type} {f : State → α → State} {l : List α} (step : ∀ t a, Notes t (f t a)) : Notes s (l.foldl f s) := by
  induction l generalizing s with
  | nil => exact .refl _
  | cons a l ih => exact .after ih (step s a)

/-- A frame that names none of the three blocks. -/
theorem Touches.notes (h : Touches bs s t) (quiet : (bs.contains .boot || bs.contains .regs || bs.contains .logs) = false) :
    Notes s t := by
  simp only [Bool.or_eq_false_iff, List.contains_eq_mem, decide_eq_false_iff_not] at quiet
  obtain ⟨⟨boot, regs⟩, logs⟩ := quiet
  have sameRegs : t.regs = s.regs := h .regs regs
  have sameLogs : t.logs = s.logs := h .logs logs
  exact ⟨h .boot boot, by rw [sameRegs], fun i set => by rw [sameRegs]; exact set, fun _ => by rw [sameLogs]⟩

/-- The bit itself is set. -/
theorem stsAttention_set (lt : b < 32) : (stsAttention b s).regs.stsAttn.getLsbD b = true := by
  have bit (u : State) (regs : u.regs = { s.regs with stsAttn := s.regs.stsAttn ||| BitVec.twoPow 32 b }) :
      u.regs.stsAttn.getLsbD b = true := by
    rw [regs]
    simp [lt]
  rw [stsAttention]
  split
  · exact bit _ (raiseVector_touches _ _ _ .regs (by decide))
  · exact bit _ rfl

theorem stsAttention_notes : Notes s (stsAttention b s) := by
  have set : Notes s { s with regs := { s.regs with stsAttn := s.regs.stsAttn ||| BitVec.twoPow 32 b } } :=
    ⟨rfl, rfl, fun i set => by simp [set], fun _ => rfl⟩
  exact .ite (.after ((raiseVector_touches _ _ _).notes rfl) set) set

theorem notify_notes {cls : Nat} : Notes s (notify cls reason unit s) :=
  .after stsAttention_notes ((emitAll_touches _ _).notes rfl)

theorem evtAttention_notes : Notes s (evtAttention sev s) := by
  have set : Notes s { s with regs := { s.regs with evtNew := true } } := ⟨rfl, rfl, fun _ => id, fun _ => rfl⟩
  exact .ite (.ite (.after ((raiseVector_touches _ _ _).notes rfl) set) set) (.refl _)

/-- An update of the logs that leaves the held writes. -/
theorem Notes.logs {l : Logs} (h : Notes s t) (held : l.held = t.logs.held) : Notes s { t with logs := l } :=
  ⟨h.boot, h.busy, h.attn, fun runs => held.trans (h.held runs)⟩

theorem eventNoted_notes {e : LogEntry} : Notes s (eventNoted e s) := by
  have entered : Notes s (evtAttention e.sev { s with logs := appendEntry e s.logs }) :=
    .after evtAttention_notes (.logs (.refl s) rfl)
  have copied := entered.logs (flashCopy_kept (e := e)
    (evtAttention e.sev { s with logs := appendEntry e s.logs }).clk.refTime.toNat _).2
  exact .ite (.ite (.after ((countUp_touches _ _ _).notes rfl) copied) copied) entered

theorem mpPersist_notes {e : LogEntry} : Notes s (mpPersist e ext s) where
  boot := mpPersist_touches _ _ _ .boot (by decide)
  busy := congrArg Regs.mbxBusy (mpPersist_touches e ext s .regs (by decide))
  attn i set := by
    rw [mpPersist_touches e ext s .regs (by decide)]
    exact set
  held := mpPersist_held

theorem logExt_notes : Notes s (logExt reason sev unit detail src repl ext s) := by
  rw [logExt_eq]
  exact .ite (.after mpPersist_notes eventNoted_notes) eventNoted_notes

theorem raiseRequest_notes : Notes s (raiseRequest reason unit s) :=
  .after notify_notes (.after logExt_notes (.logs (.refl s) rfl))

theorem evaluateRequests_notes : Notes s (evaluateRequests s) :=
  .ite (.foldl fun _ _ => .ite (.refl _) raiseRequest_notes) (.refl _)

theorem mpEvent_notes : Notes s (mpEvent reason sev unit detail s) := logExt_notes

theorem Notes.lat {v : Lat} (h : Notes s t) : Notes s { t with lat := v } := ⟨h.boot, h.busy, h.attn, h.held⟩

theorem Notes.fw {v : Fw} (h : Notes s t) : Notes s { t with fw := v } := ⟨h.boot, h.busy, h.attn, h.held⟩

/-- The acceptance record that the check leaves (R376). -/
def acceptKept (s : State) : Option (BitVec 384) :=
  if s.fw.accept = some (combinationDigest s.fw.running) then s.fw.accept else none

/-- The vetting state that the check finds (Table 11.9). -/
def vetFound (s : State) : Nat := if (failingPairs s.fw.running).isEmpty then 0 else if (acceptKept s).isSome then 2 else 1

/-- Record and state are as the check finds them, and a change is noted for the cap. -/
def vetNoted (s : State) : State := noteVet s { s with fw := { s.fw with accept := acceptKept s, vet := vetFound s } }

theorem recheckVet_eq : recheckVet s =
    if vetFound s = s.fw.vet then vetNoted s
    else if vetFound s = 1 then notify 2 0x9001 0 (mpEvent 0x9001 0 0 0 { vetNoted s with
      lat := { (vetNoted s).lat with standing := if s.lat.standing = .joining then .out else s.lat.standing } })
    else notify 2 0x9001 0 (vetNoted s) := rfl

theorem recheckVet_notes : Notes s (recheckVet s) := by
  have noted : Notes s (vetNoted s) := .after ((noteVet_touches _ _).notes rfl) (.fw (.refl s))
  rw [recheckVet_eq]
  exact .ite noted (.ite (.after notify_notes (.after mpEvent_notes (.lat noted))) (.after notify_notes noted))

theorem recheckVet_fw : (recheckVet s).fw = { s.fw with accept := acceptKept s, vet := vetFound s } := by
  have noted : (vetNoted s).fw = { s.fw with accept := acceptKept s, vet := vetFound s } := noteVet_touches _ _ .fw (by decide)
  rw [recheckVet_eq]
  split
  · exact noted
  split
  · exact (notify_touches _ _ _ _ .fw (by decide)).trans ((mpEvent_touches _ _ _ _ _ .fw (by decide)).trans noted)
  · exact (notify_touches _ _ _ _ .fw (by decide)).trans noted

/-! ### The mailbox -/

/-- A response in the mailbox window sets DONE. -/
theorem mailboxDone_regs {bytes : Nat} (kept : s.regs.mbxDrop = false) : (mailboxDone bytes s).regs =
    { s.regs with mbxWindow := windowOf bytes 1024, mbxBusy := false, mbxDone := true } := by
  rw [mailboxDone, if_neg (by rw [kept]; exact Bool.false_ne_true), raiseVector_touches _ _ _ .regs (by decide)]

theorem mailboxDone_busy {bytes : Nat} : (mailboxDone bytes s).regs.mbxBusy = false := by
  cases drop : s.regs.mbxDrop with
  | false => rw [mailboxDone_regs drop]
  | true => rw [mailboxDone, if_pos drop]

theorem answerMailbox_busy : (answerMailbox s).regs.mbxBusy = false := by
  rw [answerMailbox]
  split
  next => exact mailboxDone_busy
  next idle => exact Bool.eq_false_iff.mpr idle

/-! ### MP_READY -/

/-- The MP runs the firmware of the slot in use. -/
def firmwareTaken (s : State) : State :=
  ((bundlePackages s s.fw.useSlot).filter fun p => p.kind == 1).foldl (fun t p => runPackage p t) { s with
    boot := { s.boot with mp := .running }
    fw := { s.fw with mpSlot := s.fw.useSlot, restart := 0, failedBoots := 0 } }

/-- A PM without its payload receives it. -/
def payloadDelivered (s : State) : State := if s.boot.pm = .restarting then startPm s else s

/-- Held writes are made, and the mailbox is answered. -/
def arrearsSettled (s : State) : State := answerMailbox (persistHeld (payloadDelivered (firmwareTaken s)))

theorem mpReady_eq : mpReady s = evaluateRequests (stsAttention 4 (rejoinGroup (recheckVet (arrearsSettled s)))) := rfl

theorem foldl_runPackage_fw (ps : List Package) : (ps.foldl (fun t p => runPackage p t) s).fw =
    { s.fw with running := (ps.foldl (fun t p => runPackage p t) s).fw.running } := by
  induction ps generalizing s with
  | nil => rfl
  | cons p ps ih =>
    rw [List.foldl_cons, ih]
    rfl

theorem firmwareTaken_fw : (firmwareTaken s).fw = { s.fw with
    mpSlot := s.fw.useSlot, restart := 0, failedBoots := 0, running := (firmwareTaken s).fw.running } := by
  rw [firmwareTaken, foldl_runPackage_fw]

theorem firmwareTaken_boot : (firmwareTaken s).boot = { s.boot with mp := .running } :=
  touches_foldl (bs := [.fw]) (.refl _ _) (fun _ _ => runPackage_touches _ _) .boot (by decide)

theorem payloadDelivered_boot : (payloadDelivered s).boot =
    { s.boot with pm := if s.boot.pm = .restarting then .firmware else s.boot.pm } := by
  rw [payloadDelivered]
  split
  · exact startPm_boot
  · rfl

theorem payloadDelivered_fw : (payloadDelivered s).fw = { s.fw with pmRetained := (payloadDelivered s).fw.pmRetained } := by
  rw [payloadDelivered]
  split
  · rw [startPm_fw]
  · rfl

theorem arrearsSettled_touches : Touches [.rings, .regs, .logs, .out] (payloadDelivered (firmwareTaken s)) (arrearsSettled s) :=
  (answerMailbox_touches _).after rfl ((persistHeld_touches _).mono rfl)

theorem arrearsSettled_boot : (arrearsSettled s).boot =
    { s.boot with mp := .running, pm := if s.boot.pm = .restarting then .firmware else s.boot.pm } := by
  rw [arrearsSettled_touches .boot (by decide), payloadDelivered_boot, firmwareTaken_boot]

theorem arrearsSettled_fw : (arrearsSettled s).fw = { s.fw with
    mpSlot := s.fw.useSlot, restart := 0, failedBoots := 0, running := (arrearsSettled s).fw.running
    pmRetained := (arrearsSettled s).fw.pmRetained } := by
  rw [arrearsSettled_touches .fw (by decide), payloadDelivered_fw, firmwareTaken_fw]

theorem arrearsSettled_held : (arrearsSettled s).logs.held = [] := by
  rw [arrearsSettled, answerMailbox_touches _ .logs (by decide)]
  exact persistHeld_held (by rw [mpRuns, payloadDelivered_boot, firmwareTaken_boot]; rfl)

theorem arrearsSettled_busy : (arrearsSettled s).regs.mbxBusy = false := by
  rw [arrearsSettled]
  exact answerMailbox_busy

theorem mpReady_fw : (mpReady s).fw = (recheckVet (arrearsSettled s)).fw := by
  rw [mpReady_eq, evaluateRequests_touches _ .fw (by decide), stsAttention_touches _ _ .fw (by decide),
    rejoinGroup_touches _ .fw (by decide)]

/-- After a restart the MP runs the slot in use, and nothing waits for it. -/
theorem mpReady_outcome : let t := mpReady s
    t.boot.mp = .running ∧ t.fw.restart = 0 ∧ t.fw.failedBoots = 0 ∧ t.fw.mpSlot = s.fw.useSlot ∧ t.fw.active = s.fw.active ∧
      t.regs.stsAttn.getLsbD 4 = true ∧ t.regs.mbxBusy = false ∧ t.logs.held = [] ∧
      (s.boot.pm ≠ .restarting → t.boot.pm = s.boot.pm) ∧ (s.boot.pm = .restarting → t.boot.pm = .firmware) := by
  have told : Notes (arrearsSettled s) (stsAttention 4 (rejoinGroup (recheckVet (arrearsSettled s)))) :=
    .after stsAttention_notes (.after ((rejoinGroup_touches _).notes rfl) recheckVet_notes)
  have last : Notes (stsAttention 4 (rejoinGroup (recheckVet (arrearsSettled s)))) (mpReady s) := evaluateRequests_notes
  have all := last.after told
  have runs : mpRuns (arrearsSettled s) = true := by rw [mpRuns, arrearsSettled_boot]; rfl
  dsimp only
  rw [all.boot, all.busy, all.held runs, arrearsSettled_boot, arrearsSettled_held,
    arrearsSettled_busy, mpReady_fw, recheckVet_fw, arrearsSettled_fw]
  exact ⟨rfl, rfl, rfl, rfl, rfl, last.attn 4 (stsAttention_set (by decide)), rfl, rfl,
    fun away => if_neg away, fun restarting => if_pos restarting⟩

theorem exec_mpReady_judged (restarting : s.boot.mp = .restarting) : exec .mpReady s =
    .next (if (bundleVerdict s s.fw.useSlot).isNone then mpReady s else failedBoot s) := by
  change execMpReady s = _
  rw [execMpReady, if_neg (by rw [restarting]; decide)]
  cases bundleVerdict s s.fw.useSlot <;> rfl

end

end Sys2Proof.Machine
end

section
/-! PM_WATCHDOG (R353, R538), MCTP control (R362) and SPDM (R373); then the obligation about boots and restarts. -/

namespace Sys2Proof.Machine

section
variable {crc : Bool} {medium cmd src eid transport kind content : Nat} {s : State}

/-! ### PM_WATCHDOG -/

/-- The PM restarts from its payload, or waits for it under the guard. -/
def pmRestarted (crc : Bool) (s : State) : State :=
  { s with
    boot := { s.boot with pm := if crc then .firmware else .restarting }
    fw := { s.fw with pmRetained := crc }
    pm := { s.pm with guard := !crc, own := Pm.slow } }

/-- The guard's setting is written and the fault reported. -/
def guardWrites (s : State) : State := blockFault 0x1009 6 0 none 0x101 (writeSetting Pm.slow s)

/-- In linked mode the guard's setting is applied alone. -/
def guardAlone (s : State) : State := goAlone { s with pm := { s.pm with cause := some Pm.slow } }

theorem exec_pmWatchdog_local (firmware : s.boot.pm = .firmware) (unlinked : linkedOn s = false) :
    exec (.pmWatchdog crc) s = .next (pmRestarted crc (guardWrites s)) := by
  change execPmWatchdog crc s = _
  simp only [execPmWatchdog, execPmWatchdog.pmFirmware, firmware, unlinked, beq_self_eq_true, Bool.not_true, Bool.false_eq_true,
    if_false]
  rfl

theorem exec_pmWatchdog_linked (firmware : s.boot.pm = .firmware) (linked : linkedOn s = true) :
    exec (.pmWatchdog crc) s = .next (pmRestarted crc (guardWrites (guardAlone s))) := by
  change execPmWatchdog crc s = _
  simp only [execPmWatchdog, execPmWatchdog.pmFirmware, firmware, linked, beq_self_eq_true, Bool.not_true, Bool.false_eq_true,
    if_false, if_true]
  rfl

theorem exec_pmWatchdog_away (away : s.boot.pm ≠ .firmware) : exec (.pmWatchdog crc) s = .next s := by
  change execPmWatchdog crc s = _
  rw [execPmWatchdog, if_pos (by simpa [execPmWatchdog.pmFirmware] using away)]

/-- The MP endpoint has room for the report. -/
theorem guardWrites_room (room : s.ctl.faultQ.length < 256) : guardWrites s =
    { writeSetting Pm.slow s with ctl := { s.ctl with faultQ := s.ctl.faultQ ++ [⟨0x1009, 6, 0, none, 0x101, 0⟩] } } := by
  rw [guardWrites, blockFault, sendFault]
  exact if_pos room

theorem guardWrites_clk : (guardWrites s).clk = { s.clk with pendSetting := some (Pm.slow, s.clk.tick.toNat) } :=
  blockFault_touches _ _ _ _ _ _ .clk (by decide)

theorem guardWrites_touches : Touches [.clk, .ctl, .counters] s (guardWrites s) :=
  (blockFault_touches _ _ _ _ _ _).after rfl ((writeSetting_touches _ _).mono rfl)

theorem guardAlone_touches : Touches [.pm, .lat] s (guardAlone s) := (goAlone_touches _).before (upd_pm rfl (.refl _ _))

/-! ### MCTP control and SPDM -/

theorem exec_mctpControl_assigned (served : mctpOpen s medium = true) (wf : Tab.wf 0 s.fw.eid = true) :
    exec (.mctpControl medium 1 src eid) s = .next (emit (.mctpAnswer medium src (Config.mctpAnswer 1 (eid % 256)))
      { s with fw := { s.fw with eid := Tab.set 0 s.fw.eid medium (eid % 256) } }) := by
  change execMctpControl medium 1 src eid s = _
  simp only [execMctpControl, served, Bool.not_true, Bool.false_eq_true, if_false, if_true, Tab.get_set _ _ wf]

theorem exec_mctpControl_answered (served : mctpOpen s medium = true) (other : cmd ≠ 1) :
    exec (.mctpControl medium cmd src eid) s =
      .next (emit (.mctpAnswer medium src (Config.mctpAnswer cmd (Tab.get 0 s.fw.eid medium))) s) := by
  change execMctpControl medium cmd src eid s = _
  simp only [execMctpControl, served, Bool.not_true, Bool.false_eq_true, if_false, if_neg other]

theorem exec_spdmRequest (served : spdmOpen s transport = true) :
    exec (.spdmRequest transport src kind content) s = .next (emit
      (.spdmAnswer transport src (Config.spdmAnswer [kind, content, Tab.get 0 s.fw.spdm transport] (measurements s)))
      { s with fw := { s.fw with
        spdm := Tab.set 0 s.fw.spdm transport (spdmNext (Tab.get 0 s.fw.spdm transport) kind) } }) := by
  change execSpdmRequest transport src kind content s = _
  simp only [execSpdmRequest, served, Bool.not_true, Bool.false_eq_true, if_false]

end

/-- Settles O39: a boot attempt is judged by its bundle's verdict, a restart begins and ends by what it leaves of each block, and
each request of MCTP and SPDM is answered once. -/
theorem bootsAndRestarts : Obligations.BootsAndRestarts := by
  refine ⟨?strapped, ?boot, ?counts, ?reverts, ?recovers, ?timeout, ?restartReverts, ?watchdog, ?sram, ?ready, ?readyFails,
    ?pmLocal, ?pmLinked, ?pmAway, ?assigned, ?answered, ?spdm⟩
  case strapped =>
    intro cals s rom released locked strap
    exact ⟨_, exec_mpBoot_strapped rom released locked strap, ⟨enterRecovery_boot, enterRecovery_fw, enterRecovery_entries⟩,
      enterRecovery_touches s⟩
  case boot =>
    intro cals s rom released locked strap
    refine .of_next (exec_mpBoot_judged rom released locked strap) (execMpBoot_touches _ _) fun good => ?_
    have outcome := startFirmware_outcome (s := cals.foldl (calibrate cals) s)
    rw [calibrated_touches .boot (by decide), calibrated_touches .fw (by decide)] at outcome
    rw [if_pos good]
    exact outcome
  case counts =>
    intro cals s rom released locked strap verdict trial first
    refine ⟨_, (exec_mpBoot_failed rom released locked strap verdict).trans (congrArg _ (failedBoot_counts trial first)),
      bootRecord_retried trial, bootRecord_touches _ _ _ _⟩
  case reverts =>
    intro cals s rom released locked strap verdict trial again committed wf
    obtain ⟨active, inUse, cleared, none, slots⟩ := revertSlot_outcome wf committed
    exact ⟨_, (exec_mpBoot_failed rom released locked strap verdict).trans
      (congrArg _ (failedBoot_reverts trial again committed)),
      ⟨active, inUse, cleared, none, slots, revertSlot_entries (by rw [mpRuns, rom]; rfl)⟩, revertSlot_touches _ _⟩
  case recovers =>
    intro cals s rom released locked strap verdict trial again bare wf
    obtain ⟨boot, slots, active, entries⟩ := failedBoot_recovers_outcome (fun _ => again) bare wf
    refine ⟨_, exec_mpBoot_failed rom released locked strap verdict, ⟨boot, ?_, fun low => ?_, active, entries⟩,
      failedBoot_touches s⟩
    · rw [slots, if_pos rfl]
      rfl
    · rw [slots, if_neg (by omega)]
  case timeout =>
    intro s trial running starting first
    exact ⟨_, (exec_trialBootTimeout_running trial running starting).trans
      (congrArg _ (failedBoot_counts (s := attemptEnded s) trial first)),
      ⟨bootRecord_retried (s := attemptEnded s) trial, rfl⟩, (bootRecord_touches _ _ _ _).after rfl (upd_boot rfl (.refl _ _))⟩
  case restartReverts =>
    intro s trial restarting again committed wf
    obtain ⟨active, inUse, cleared, none, slots⟩ := revertSlot_outcome wf committed
    refine ⟨_, (exec_trialBootTimeout_restarting trial restarting).trans
      (congrArg _ (failedBoot_reverts trial again committed)), ⟨active, inUse, cleared, none, slots, ?_⟩, revertSlot_touches _ _⟩
    rw [revertSlot_touches _ _ .boot (by decide)]
    exact restarting
  case watchdog =>
    rintro s runs ⟨-, slots, -⟩
    exact ⟨_, if_pos runs, mpOnlyReset_outcome (.refl _ s) slots, mpOnlyReset_touches _ _⟩
  case sram =>
    rintro s runs ⟨-, slots, -⟩
    exact ⟨_, if_pos runs, mpOnlyReset_outcome (.refl _ s) slots, mpOnlyReset_touches _ _⟩
  case ready =>
    intro s restarting
    refine .of_next (exec_mpReady_judged restarting) (execMpReady_touches s) fun good => ?_
    rw [if_pos good]
    exact mpReady_outcome
  case readyFails =>
    intro s restarting verdict trial bare wf
    obtain ⟨boot, slots, -, entries⟩ := failedBoot_recovers_outcome (fun set => absurd (trial.symm.trans set) (by decide)) bare wf
    have bad : ¬(bundleVerdict s s.fw.useSlot).isNone = true := by simpa [Option.isSome_iff_ne_none] using verdict
    refine ⟨_, (exec_mpReady_judged restarting).trans (congrArg _ (if_neg bad)), ⟨boot, ?_, entries⟩, failedBoot_touches s⟩
    rw [slots, if_pos rfl]
    rfl
  case pmLocal =>
    intro crc s firmware unlinked room
    rw [Does, exec_pmWatchdog_local firmware unlinked, guardWrites_room room]
    exact ⟨_, rfl, ⟨rfl, rfl, rfl, rfl, rfl⟩, upd_boot_fw_pm rfl (upd_ctl rfl ((writeSetting_touches _ _).mono rfl))⟩
  case pmLinked =>
    intro crc s firmware linked
    refine .of_next (exec_pmWatchdog_linked firmware linked) (execPmWatchdog_touches _ _) ?_
    have way : Touches [.clk, .ctl, .counters, .pm, .lat] s (guardWrites (guardAlone s)) :=
      guardWrites_touches.after rfl (guardAlone_touches.mono rfl)
    have clk : (guardAlone s).clk = s.clk := guardAlone_touches .clk (by decide)
    dsimp only [pmRestarted]
    rw [guardWrites_clk, clk, way .boot (by decide), way .fw (by decide)]
    exact ⟨rfl, rfl, rfl, rfl, rfl⟩
  case pmAway =>
    intro crc s away
    exact ⟨s, exec_pmWatchdog_away away, rfl, .refl _ _⟩
  case assigned =>
    intro medium src eid s served wf
    exact ⟨_, exec_mctpControl_assigned served wf, ⟨rfl, rfl⟩, (emit_touches _ _).after rfl (upd_fw rfl (.refl _ _))⟩
  case answered =>
    intro medium cmd src eid s served other
    exact ⟨_, exec_mctpControl_answered served other, rfl, emit_touches _ _⟩
  case spdm =>
    intro transport src kind content s served wf
    refine ⟨_, exec_spdmRequest served, ⟨fun j _ => ?_, rfl⟩, (emit_touches _ _).after rfl (upd_fw rfl (.refl _ _))⟩
    split
    next same =>
      rw [same]
      exact Tab.get_set _ _ wf
    next other => exact Tab.get_set_ne _ other

end Sys2Proof.Machine
end

section
/-! Messages of the mailbox and of Service items (R325, R354, R359 to R361, R621): the message goes to the command that its opcode
names, and its answer to the mailbox window or to the item's response buffer. -/

namespace Sys2Proof.Machine

section
variable {fn ring x op status detail rlen params data : Nat} {bs : List Block} {found : List DriveIn} {f : Ring → Ring} {o : Outst}
  {q : MciReq} {s t u : State}

/-! ### Submission -/

/-- The mailbox is BUSY. -/
def mailboxTaken (s : State) : State := { s with regs := { s.regs with mbxBusy := true } }

theorem exec_mailboxGo_submitted (served : barServed s 0 = true) (idle : flrBusy s 0 = false) (free : mbxClosed s = false) :
    exec (.mailboxGo found) s =
      mciMessage (bits (mbxBytes s) 0 16) (messageReq whoMailbox (mbxBytes s) 4080) 0 found (mailboxTaken s) := by
  change execMailboxGo found s = _
  simp only [execMailboxGo, served, idle, free, Bool.not_true, Bool.false_eq_true, if_false]
  rfl

theorem exec_mailboxGo_ignored (served : barServed s 0 = true) (idle : flrBusy s 0 = false) (shut : mbxClosed s = true) :
    exec (.mailboxGo found) s = .next (mbxCount s) := by
  change execMailboxGo found s = _
  simp only [execMailboxGo, served, idle, shut, Bool.not_true, Bool.false_eq_true, if_false, if_true]

section
variable (turn : startTurn fn 3 s = some (x, u)) (mci : itOpcode x = 0x30)
include turn mci

theorem exec_mciItem_accepted (good : badHead s fn 3 x = none) : exec (.mciItem fn data found) s =
    mciMessage (bits (itemMessage x) 0 16) (messageReq fn (itemMessage x) 432) data found (consume fn 3 x u) := by
  change execMciItem fn data found s = _
  simp only [execMciItem, turn, mci, good]
  rfl

theorem exec_mciItem_rejected {st : Nat} (bad : badHead s fn 3 x = some st) :
    exec (.mciItem fn data found) s = .next (rejectHead fn 3 x st u) := by
  change execMciItem fn data found s = _
  simp only [execMciItem, turn, mci, bad]
  rfl

end

/-- The state in which an item's message is run differs from the one before its turn in the rings. -/
theorem consumed_touches (turn : startTurn fn 3 s = some (x, u)) : Touches [.rings] s (consume fn 3 x u) :=
  (consume_touches _ _ _ _).before (startTurn_touches _ _ _ turn)

/-! ### A ring with an expected SEQ is listed, so it changes in any table -/

theorem ringOf_updRing_of_expects (expects : (f (ringOf s fn ring)).expSeq ≠ none) :
    ringOf (updRing fn ring f s) fn ring = f (ringOf s fn ring) :=
  Tab.get_set_of_ne_default (fun reset => expects (congrArg Ring.expSeq reset)) _ _

theorem ringOf_moderate_of_expects {silent : Bool} (expects : (ringOf s fn ring).expSeq ≠ none) :
    ∃ seen since, ringOf (moderate fn ring silent s) fn ring = (ringOf s fn ring).moderated seen since := by
  rw [moderate]
  split
  · exact ⟨_, _, rfl⟩
  split
  · rw [ringOf, ringInterrupt_table]
    exact ⟨_, _, ringOf_updRing_of_expects expects⟩
  · exact ⟨_, _, ringOf_updRing_of_expects expects⟩

theorem ringOf_postCompletion_of_expects {seq user : BitVec 32} {silent : Bool} {frame : Nat} {d : Done}
    (expects : (ringOf s fn ring).expSeq ≠ none) : ∃ seen since,
    ringOf (postCompletion fn ring seq user silent frame d s) fn ring = (ringOf s fn ring).posted.moderated seen since := by
  have posted : ringOf (updRing fn ring Ring.posted (emit (ringEntry fn ring (ringOf s fn ring) seq user frame d) s)) fn ring =
      (ringOf s fn ring).posted := ringOf_updRing_of_expects expects
  obtain ⟨seen, since, reads⟩ := ringOf_moderate_of_expects (silent := silent)
    (s := updRing fn ring Ring.posted (emit (ringEntry fn ring (ringOf s fn ring) seq user frame d) s)) (by rw [posted]; exact expects)
  exact ⟨seen, since, reads.trans (by rw [posted])⟩

/-- After its oldest item was taken a ring expects the SEQ that follows. -/
theorem takeHead_expects {r : Ring} {a : Option Outst} : (takeHead s x a r).expSeq ≠ none := Option.some_ne_none _

theorem ringOf_consume : ringOf (consume fn ring x s) fn ring =
    takeHead s x (some { outstOf s x with left := 0 }) (ringOf s fn ring) :=
  ringOf_updRing_of_expects (f := takeHead s x (some { outstOf s x with left := 0 })) takeHead_expects

/-- A rejected item is consumed, and its completion says why. -/
theorem rejectHead_outcome {st : Nat} : (ringOf (rejectHead fn ring x st s) fn ring).lastSeq = itSeq x ∧
    Sent (ringEntry fn ring (takeHead s x none (ringOf s fn ring)) (itSeq x) (itUser x) (frameNumber s)
      ⟨st, 0, 0, false, frameNumber s⟩) s (rejectHead fn ring x st s) := by
  have taken : ringOf (updRing fn ring (takeHead s x none) s) fn ring = takeHead s x none (ringOf s fn ring) :=
    ringOf_updRing_of_expects takeHead_expects
  constructor
  · obtain ⟨seen, since, reads⟩ := ringOf_postCompletion_of_expects (fn := fn) (ring := ring) (seq := itSeq x) (user := itUser x)
      (silent := itSilent x) (frame := frameNumber s) (d := ⟨st, 0, 0, false, frameNumber s⟩)
      (s := updRing fn ring (takeHead s x none) s) (by rw [taken]; exact takeHead_expects)
    rw [rejectHead, reads, taken]
    rfl
  · have sent := postCompletion_sent (fn := fn) (ring := ring) (seq := itSeq x) (user := itUser x) (silent := itSilent x)
      (frame := frameNumber s) (d := ⟨st, 0, 0, false, frameNumber s⟩) (s := updRing fn ring (takeHead s x none) s)
    rw [taken] at sent
    exact .of_later ((updRing_touches _ _ _ _).onward rfl) sent

/-! ### MCI_INFO and reserved opcodes -/

/-- What MCI_INFO tells: mode, vetting state, injection, and the running packages (R363, R626). -/
def infoContent (s : State) : List Nat :=
  [if s.boot.mp == .recovery then 1 else 0, s.fw.vet, if s.regs.dbgArm then 1 else 0] ++ s.fw.running.flatMap packageContent

/-- The length of that content in the answer. -/
def infoLength (s : State) : Nat := Config.queryLength 0x0001 (infoContent s) % 4081

theorem Touches.infoContent_eq (h : Touches bs s t)
    (keeps : (bs.contains .boot || bs.contains .fw || bs.contains .regs) = false) : infoContent t = infoContent s := by
  simp only [Bool.or_eq_false_iff, List.contains_eq_mem, decide_eq_false_iff_not] at keeps
  obtain ⟨⟨boot, fw⟩, regs⟩ := keeps
  have sameBoot : t.boot = s.boot := h .boot boot
  have sameFw : t.fw = s.fw := h .fw fw
  have sameRegs : t.regs = s.regs := h .regs regs
  rw [infoContent, sameBoot, sameFw, sameRegs, infoContent]

theorem mciMessage_info (info : op = 1)
    (serves : Serves 0x0001 (q.plen == 0) (reservedClear (mciParams q) [] && true) q s) :
    mciMessage op q data found s = .next (mciAnswer 0x0001 q 0 0 (infoLength s) (Config.queryLayout 0x0001 (infoContent s)) s) := by
  rw [info]
  change execMciInfo q s = _
  rw [execMciInfo, mciFixed_of_serves serves]
  rfl

theorem mciMessage_reserved (reserved : op = 0xFFFF) (served : mciServed s q.who = true)
    (fresh : (s.fw.outstanding.any fun o => o.1 == q.who && o.2.2 == q.tag) = false) :
    mciMessage op q data found s = .next (mciStatus 0xFFFF q mBadOpcode s) := by
  rw [reserved]
  change Host.Outcome.next (mciReserved 0xFFFF q s) = _
  simp only [mciReserved, served, fresh, Bool.not_true, Bool.false_eq_true, if_false]

/-! ### Answers -/

theorem mciDeliver_mailbox {item : Option Outst} (mailbox : q.who = whoMailbox) :
    mciDeliver op q status detail rlen params item s = mailboxDone (responseBytes op q.tag status detail rlen params 4096)
      (emit (.mciResponse q.who op q.tag status detail rlen params) s) := if_pos mailbox

/-- The write of the response buffer goes out after the response. -/
def responseWritten (op : Nat) (q : MciReq) (status detail rlen params : Nat) (o : Outst) (s : State) : State :=
  emit (.hostWrite q.who (mciResp o.item) (min (64 * mciRespUnits o.item) (16 + rlen))
      (responseBytes op q.tag status detail rlen params (64 * mciRespUnits o.item)) false false false)
    (emit (.mciResponse q.who op q.tag status detail rlen params) s)

theorem mciDeliver_service (ring : q.who ≤ 64) : mciDeliver op q status detail rlen params (some o) s =
    serviceDone q.who o status q.tag (min (64 * mciRespUnits o.item) (16 + rlen))
      (responseWritten op q status detail rlen params o s) :=
  (if_neg fun mailbox => absurd (mailbox ▸ ring) (by decide)).trans (if_pos ring)

/-- The request is outstanding no more. -/
def requestDone (q : MciReq) (s : State) : State :=
  { s with fw := { s.fw with outstanding := s.fw.outstanding.filter fun o => !(o.1 == q.who && o.2.2 == q.tag) } }

theorem mciAnswer_eq : mciAnswer op q status detail rlen params s =
    mciDeliver op q status detail rlen params (serviceItem s q.who q.tag) (requestDone q s) := rfl

/-- The answer to the mailbox stands in its window. -/
theorem mciAnswer_mailbox (mailbox : q.who = whoMailbox) (kept : s.regs.mbxDrop = false) :
    (mciAnswer op q status detail rlen params s).regs = { s.regs with
      mbxBusy := false, mbxDone := true, mbxWindow := windowOf (responseBytes op q.tag status detail rlen params 4096) 1024 } := by
  rw [mciAnswer_eq, mciDeliver_mailbox mailbox]
  exact mailboxDone_regs kept

/-- The message of the mailbox is answered there. -/
theorem mailbox_answered (mailbox : q.who = whoMailbox) (kept : s.regs.mbxDrop = false) :
    let t := mciAnswer op q status detail rlen params (mailboxTaken s)
    Answered op q status detail rlen params s t ∧ t.regs = { s.regs with
      mbxBusy := false, mbxDone := true, mbxWindow := windowOf (responseBytes op q.tag status detail rlen params 4096) 1024 } :=
  ⟨answered_after (.upd (.refl s) rfl), (mciAnswer_mailbox (s := mailboxTaken s) mailbox kept).trans rfl⟩

theorem mailbox_answered_touches :
    Touches [.rings, .regs, .fw, .out] s (mciAnswer op q status detail rlen params (mailboxTaken s)) :=
  (mciAnswer_touches _ _ _ _ _ _ _).before (upd_regs rfl (.refl _ _))

/-- An answered Service item has its response in host memory, and leaves its ring with one completion. -/
theorem mciAnswer_service_outcome (who : q.who = fn) (ring : fn ≤ 64) (item : serviceItem s fn q.tag = some o)
    (wf : Tab.wf Ring.reset s.rings.ring = true) : let t := mciAnswer op q status detail rlen params s
    Sent (.hostWrite fn (mciResp o.item) (min (64 * mciRespUnits o.item) (16 + rlen))
      (responseBytes op q.tag status detail rlen params (64 * mciRespUnits o.item)) false false false) s t ∧
    ∃ seen since, ringOf t fn 3 = ((ringOf s fn 3).without o.ticket).posted.moderated seen since := by
  subst who
  obtain ⟨reads, -, -⟩ := completeOutst_left (fn := q.who) (ring := 3) (o := o)
    (d := ⟨stSuccess, status, put q.tag 0 24 + put (min (64 * mciRespUnits o.item) (16 + rlen)) 32 32, false, frameNumber s⟩)
    (s := responseWritten op q status detail rlen params o (requestDone q s)) wf
  dsimp only
  rw [mciAnswer_eq, item, mciDeliver_service ring]
  exact ⟨.of_later (t := emit (.mciResponse q.who op q.tag status detail rlen params) (requestDone q s))
    (.after emit_onward (.fw (.refl s))) (.of_onward serviceDone_onward rfl), reads⟩

end

/-- Settles O25: a message goes to the command of its opcode with the mailbox BUSY or the item consumed, an answer of MCI_INFO or
of a reserved opcode leaves by the transport of its request. -/
theorem messagesSubmitted : Obligations.MessagesSubmitted := by
  refine ⟨?mailbox, ?ignored, ?item, ?rejected, ?mailboxInfo, ?mailboxReserved, ?itemInfo, ?itemReserved⟩
  case mailbox =>
    intro found s served idle free
    obtain ⟨t, next, onward⟩ := mciMessage_onward (op := bits (mbxBytes s) 0 16) (q := messageReq whoMailbox (mbxBytes s) 4080)
      (data := 0) (found := found) (s := mailboxTaken s)
    exact ⟨t, (exec_mailboxGo_submitted served idle free).trans next, next, onward.pending⟩
  case ignored =>
    intro found s served idle shut
    exact ⟨_, exec_mailboxGo_ignored served idle shut, rfl, mbxCount_touches s⟩
  case item =>
    intro fn x data found u s turn mci good
    obtain ⟨t, next, onward⟩ := mciMessage_onward (op := bits (itemMessage x) 0 16) (q := messageReq fn (itemMessage x) 432)
      (data := data) (found := found) (s := consume fn 3 x u)
    exact ⟨t, (exec_mciItem_accepted turn mci good).trans next, next,
      onward.pending.trans (consumed_touches turn .pending (by decide))⟩
  case rejected =>
    intro fn ring x data st found u s _ turn mci bad
    exact ⟨_, exec_mciItem_rejected turn mci bad, rejectHead_outcome, rejectHead_touches _ _ _ _ _⟩
  case mailboxInfo =>
    intro found s served idle free kept info serves
    have run := (exec_mailboxGo_submitted (found := found) served idle free).trans (mciMessage_info (s := mailboxTaken s) info serves)
    have content : infoContent (mailboxTaken s) = infoContent s := rfl
    rw [infoLength, content] at run
    exact ⟨_, run, mailbox_answered rfl kept, mailbox_answered_touches⟩
  case mailboxReserved =>
    intro found s served idle free kept reserved open_ fresh
    have run := (exec_mailboxGo_submitted (found := found) served idle free).trans
      (mciMessage_reserved (s := mailboxTaken s) reserved open_ fresh)
    exact ⟨_, run, mailbox_answered rfl kept, mailbox_answered_touches⟩
  case itemInfo =>
    rintro fn x data found o u s turn mci good info serves item ring ⟨wf, -⟩
    have run := (exec_mciItem_accepted (data := data) (found := found) turn mci good).trans (mciMessage_info info serves)
    have content : infoContent (consume fn 3 x u) = infoContent s := (consumed_touches turn).infoContent_eq rfl
    have length : infoLength (consume fn 3 x u) = infoLength s := by rw [infoLength, content, infoLength]
    rw [length, content] at run
    have taken := (consume_touches fn 3 x u).onward rfl
    obtain ⟨sent, seen, since, reads⟩ := mciAnswer_service_outcome (fn := fn) (op := 0x0001) (status := 0) (detail := 0)
      (rlen := infoLength s) (params := Config.queryLayout 0x0001 (infoContent s)) (q := messageReq fn (itemMessage x) 432)
      (s := consume fn 3 x u) rfl ring item wf
    refine ⟨_, run, ?_, (mciAnswer_touches _ _ _ _ _ _ _).before ((consume_touches _ _ _ _).mono rfl)⟩
    dsimp only
    rw [reads]
    refine ⟨answered_after taken, .of_later taken sent, ?head, rfl, ?writes⟩
    case head => rw [ringOf_consume]; rfl
    case writes => rw [ringOf_consume]; rfl
  case itemReserved =>
    intro fn x data found u s turn mci good reserved served fresh ring
    have consumed := consume_touches fn 3 x u
    have fw : (consume fn 3 x u).fw = u.fw := consumed .fw (by decide)
    have run := (exec_mciItem_accepted (data := data) (found := found) turn mci good).trans
      (mciMessage_reserved (s := consume fn 3 x u) reserved served fresh)
    exact ⟨_, run, answered_after (consumed.onward rfl), (mciStatus_touches _ _ _ _).before (consumed.mono rfl)⟩

end Sys2Proof.Machine
end

section
/-! Every step keeps the tables of the state canonical: each operation of the model keeps them. -/

namespace Sys2Proof.Machine

/-- Where the tables of s are canonical, those of t are. -/
def KeepsTabs (s t : State) : Prop := s.TabsWf → t.TabsWf

/-- The outcome is a next state, and the way there keeps the tables canonical. -/
def KeepsTabsNext (s : State) (o : Host.Outcome State Fault Refusal) : Prop := ∃ t, o = .next t ∧ KeepsTabs s t

/-- A frame that names no block with a table. -/
def tableFree (bs : List Block) : Bool :=
  bs.all fun b => [Block.clk, .pins, .boot, .layoutPend, .logs, .out, .free, .pending].contains b

section
variable {s t u x y : State} {bs : List Block} {α : Type}

theorem KeepsTabs.refl (s : State) : KeepsTabs s s := id

/-- The later step first, as it is written in the model. -/
theorem KeepsTabs.after (later : KeepsTabs t u) (earlier : KeepsTabs s t) : KeepsTabs s u := later ∘ earlier

theorem KeepsTabs.ite {c : Prop} [Decidable c] (h : KeepsTabs s x) (k : KeepsTabs s y) :
    KeepsTabs s (if c then x else y) := by
  split <;> assumption

theorem KeepsTabs.iteSnd {c : Prop} [Decidable c] {x y : α × State} (h : KeepsTabs s x.2) (k : KeepsTabs s y.2) :
    KeepsTabs s (if c then x else y).2 := by
  split <;> assumption

theorem KeepsTabs.ofSnd {p : α × State} {v : α} (h : KeepsTabs s p.2) (e : p = (v, t)) : KeepsTabs s t := by
  subst e
  exact h

theorem KeepsTabs.foldl {f : State → α → State} {l : List α} (step : ∀ t v, KeepsTabs t (f t v)) :
    KeepsTabs s (l.foldl f s) := by
  induction l generalizing s with
  | nil => exact .refl _
  | cons v l ih => exact .after ih (step s v)

theorem KeepsTabs.foldlSnd {β : Type} {f : β × State → α → β × State} {l : List α}
    (step : ∀ p v, KeepsTabs p.2 (f p v).2) {p : β × State} : KeepsTabs p.2 (l.foldl f p).2 := by
  induction l generalizing p with
  | nil => exact .refl _
  | cons v l ih => exact .after ih (step p v)

/-- A frame that names no block with a table. -/
theorem Touches.tabs (h : Touches bs s t) (free : tableFree bs = true) : KeepsTabs s t := by
  have kept (b : Block) (no : tableFree [b] = false) : b.same s t := h b fun yes => by
    have := List.all_eq_true.mp free b yes
    simp_all [tableFree]
  intro wf
  have parts : t.parts = s.parts := kept .parts rfl
  have layout : t.layout = s.layout := kept .layout rfl
  have slots : t.slots = s.slots := kept .slots rfl
  have buf : t.buf = s.buf := kept .buf rfl
  have comp : t.comp = s.comp := kept .comp rfl
  have ctl : t.ctl = s.ctl := kept .ctl rfl
  have fmap : t.fmap = s.fmap := kept .fmap rfl
  have hbm : t.hbm = s.hbm := kept .hbm rfl
  have dense : t.dense = s.dense := kept .dense rfl
  have tiles : t.tiles = s.tiles := kept .tiles rfl
  have rings : t.rings = s.rings := kept .rings rfl
  have regs : t.regs = s.regs := kept .regs rfl
  have win : t.win = s.win := kept .win rfl
  have lanes : t.lanes = s.lanes := kept .lanes rfl
  have fw : t.fw = s.fw := kept .fw rfl
  have pm : t.pm = s.pm := kept .pm rfl
  have lat : t.lat = s.lat := kept .lat rfl
  have pool : t.pool = s.pool := kept .pool rfl
  have counters : t.counters = s.counters := kept .counters rfl
  have e : t = { s with
      clk := t.clk, pins := t.pins, boot := t.boot, layoutPend := t.layoutPend, logs := t.logs, out := t.out
      free := t.free, pending := t.pending } := by
    cases t
    subst parts layout slots buf comp ctl fmap hbm dense tiles rings regs win lanes fw pm lat pool counters
    rfl
  rw [e]
  exact { wf with }

/-! An update of blocks that hold no table, and one of blocks that do, where the state that is updated is to be found
from the goal. -/

theorem KeepsTabs.clk {v : Clk} (h : KeepsTabs s x) : KeepsTabs s { x with clk := v } := fun wf => { h wf with }

theorem KeepsTabs.pins {v : Pins} (h : KeepsTabs s x) : KeepsTabs s { x with pins := v } := fun wf => { h wf with }

theorem KeepsTabs.boot {v : Boot} (h : KeepsTabs s x) : KeepsTabs s { x with boot := v } := fun wf => { h wf with }

theorem KeepsTabs.layoutPend
    {v : Option (List Rect)}
    (h : KeepsTabs s x) :
    KeepsTabs s { x with layoutPend := v } := fun wf => { h wf with }

theorem KeepsTabs.logs {v : Logs} (h : KeepsTabs s x) : KeepsTabs s { x with logs := v } := fun wf => { h wf with }

theorem KeepsTabs.free {v : Nat} (h : KeepsTabs s x) : KeepsTabs s { x with free := v } := fun wf => { h wf with }

theorem KeepsTabs.clk_boot
    {v0 : Clk} {v1 : Boot}
    (h : KeepsTabs s x) :
    KeepsTabs s { x with clk := v0, boot := v1 } := fun wf => { h wf with }

theorem KeepsTabs.pins_boot
    {v0 : Pins} {v1 : Boot}
    (h : KeepsTabs s x) :
    KeepsTabs s { x with pins := v0, boot := v1 } := fun wf => { h wf with }

theorem KeepsTabs.parts
    {v : Tab Part}
    (h : KeepsTabs s x) (k : x.TabsWf → State.TabsWf { x with parts := v }) :
    KeepsTabs s { x with parts := v } := k ∘ h

theorem KeepsTabs.layout
    {v : Tab Rect}
    (h : KeepsTabs s x) (k : x.TabsWf → State.TabsWf { x with layout := v }) :
    KeepsTabs s { x with layout := v } := k ∘ h

theorem KeepsTabs.slots
    {v : Tab Slot}
    (h : KeepsTabs s x) (k : x.TabsWf → State.TabsWf { x with slots := v }) :
    KeepsTabs s { x with slots := v } := k ∘ h

theorem KeepsTabs.buf
    {v : Buf}
    (h : KeepsTabs s x) (k : x.TabsWf → State.TabsWf { x with buf := v }) :
    KeepsTabs s { x with buf := v } := k ∘ h

theorem KeepsTabs.comp
    {v : Tab Comp}
    (h : KeepsTabs s x) (k : x.TabsWf → State.TabsWf { x with comp := v }) :
    KeepsTabs s { x with comp := v } := k ∘ h

theorem KeepsTabs.ctl
    {v : Ctl}
    (h : KeepsTabs s x) (k : x.TabsWf → State.TabsWf { x with ctl := v }) :
    KeepsTabs s { x with ctl := v } := k ∘ h

theorem KeepsTabs.fmap
    {v : FaultMap}
    (h : KeepsTabs s x) (k : x.TabsWf → State.TabsWf { x with fmap := v }) :
    KeepsTabs s { x with fmap := v } := k ∘ h

theorem KeepsTabs.hbm
    {v : Hbm}
    (h : KeepsTabs s x) (k : x.TabsWf → State.TabsWf { x with hbm := v }) :
    KeepsTabs s { x with hbm := v } := k ∘ h

theorem KeepsTabs.dense
    {v : Dense}
    (h : KeepsTabs s x) (k : x.TabsWf → State.TabsWf { x with dense := v }) :
    KeepsTabs s { x with dense := v } := k ∘ h

theorem KeepsTabs.tiles
    {v : Tiles}
    (h : KeepsTabs s x) (k : x.TabsWf → State.TabsWf { x with tiles := v }) :
    KeepsTabs s { x with tiles := v } := k ∘ h

theorem KeepsTabs.rings
    {v : Rings}
    (h : KeepsTabs s x) (k : x.TabsWf → State.TabsWf { x with rings := v }) :
    KeepsTabs s { x with rings := v } := k ∘ h

theorem KeepsTabs.regs
    {v : Regs}
    (h : KeepsTabs s x) (k : x.TabsWf → State.TabsWf { x with regs := v }) :
    KeepsTabs s { x with regs := v } := k ∘ h

theorem KeepsTabs.win
    {v : Windows}
    (h : KeepsTabs s x) (k : x.TabsWf → State.TabsWf { x with win := v }) :
    KeepsTabs s { x with win := v } := k ∘ h

theorem KeepsTabs.lanes
    {v : Lanes}
    (h : KeepsTabs s x) (k : x.TabsWf → State.TabsWf { x with lanes := v }) :
    KeepsTabs s { x with lanes := v } := k ∘ h

theorem KeepsTabs.fw
    {v : Fw}
    (h : KeepsTabs s x) (k : x.TabsWf → State.TabsWf { x with fw := v }) :
    KeepsTabs s { x with fw := v } := k ∘ h

theorem KeepsTabs.pm
    {v : Pm}
    (h : KeepsTabs s x) (k : x.TabsWf → State.TabsWf { x with pm := v }) :
    KeepsTabs s { x with pm := v } := k ∘ h

theorem KeepsTabs.lat
    {v : Lat}
    (h : KeepsTabs s x) (k : x.TabsWf → State.TabsWf { x with lat := v }) :
    KeepsTabs s { x with lat := v } := k ∘ h

theorem KeepsTabs.pool
    {v : Pool}
    (h : KeepsTabs s x) (k : x.TabsWf → State.TabsWf { x with pool := v }) :
    KeepsTabs s { x with pool := v } := k ∘ h

theorem KeepsTabs.counters
    {v : Tab (BitVec 64)}
    (h : KeepsTabs s x) (k : x.TabsWf → State.TabsWf { x with counters := v }) :
    KeepsTabs s { x with counters := v } := k ∘ h

theorem KeepsTabs.clk_lat
    {v0 : Clk} {v1 : Lat}
    (h : KeepsTabs s x) (k : x.TabsWf → State.TabsWf { x with clk := v0, lat := v1 }) :
    KeepsTabs s { x with clk := v0, lat := v1 } := k ∘ h

theorem KeepsTabs.clk_regs
    {v0 : Clk} {v1 : Regs}
    (h : KeepsTabs s x) (k : x.TabsWf → State.TabsWf { x with clk := v0, regs := v1 }) :
    KeepsTabs s { x with clk := v0, regs := v1 } := k ∘ h

theorem KeepsTabs.pins_fw
    {v0 : Pins} {v1 : Fw}
    (h : KeepsTabs s x) (k : x.TabsWf → State.TabsWf { x with pins := v0, fw := v1 }) :
    KeepsTabs s { x with pins := v0, fw := v1 } := k ∘ h

theorem KeepsTabs.pins_pm
    {v0 : Pins} {v1 : Pm}
    (h : KeepsTabs s x) (k : x.TabsWf → State.TabsWf { x with pins := v0, pm := v1 }) :
    KeepsTabs s { x with pins := v0, pm := v1 } := k ∘ h

theorem KeepsTabs.boot_fw
    {v0 : Boot} {v1 : Fw}
    (h : KeepsTabs s x) (k : x.TabsWf → State.TabsWf { x with boot := v0, fw := v1 }) :
    KeepsTabs s { x with boot := v0, fw := v1 } := k ∘ h

theorem KeepsTabs.boot_pm
    {v0 : Boot} {v1 : Pm}
    (h : KeepsTabs s x) (k : x.TabsWf → State.TabsWf { x with boot := v0, pm := v1 }) :
    KeepsTabs s { x with boot := v0, pm := v1 } := k ∘ h

theorem KeepsTabs.buf_counters
    {v0 : Buf} {v1 : Tab (BitVec 64)}
    (h : KeepsTabs s x) (k : x.TabsWf → State.TabsWf { x with buf := v0, counters := v1 }) :
    KeepsTabs s { x with buf := v0, counters := v1 } := k ∘ h

theorem KeepsTabs.buf_lanes
    {v0 : Buf} {v1 : Lanes}
    (h : KeepsTabs s x) (k : x.TabsWf → State.TabsWf { x with buf := v0, lanes := v1 }) :
    KeepsTabs s { x with buf := v0, lanes := v1 } := k ∘ h

theorem KeepsTabs.ctl_tiles
    {v0 : Ctl} {v1 : Tiles}
    (h : KeepsTabs s x) (k : x.TabsWf → State.TabsWf { x with ctl := v0, tiles := v1 }) :
    KeepsTabs s { x with ctl := v0, tiles := v1 } := k ∘ h

theorem KeepsTabs.fmap_lanes
    {v0 : FaultMap} {v1 : Lanes}
    (h : KeepsTabs s x) (k : x.TabsWf → State.TabsWf { x with fmap := v0, lanes := v1 }) :
    KeepsTabs s { x with fmap := v0, lanes := v1 } := k ∘ h

theorem KeepsTabs.fmap_pm
    {v0 : FaultMap} {v1 : Pm}
    (h : KeepsTabs s x) (k : x.TabsWf → State.TabsWf { x with fmap := v0, pm := v1 }) :
    KeepsTabs s { x with fmap := v0, pm := v1 } := k ∘ h

theorem KeepsTabs.hbm_pool
    {v0 : Hbm} {v1 : Pool}
    (h : KeepsTabs s x) (k : x.TabsWf → State.TabsWf { x with hbm := v0, pool := v1 }) :
    KeepsTabs s { x with hbm := v0, pool := v1 } := k ∘ h

theorem KeepsTabs.rings_pool
    {v0 : Rings} {v1 : Pool}
    (h : KeepsTabs s x) (k : x.TabsWf → State.TabsWf { x with rings := v0, pool := v1 }) :
    KeepsTabs s { x with rings := v0, pool := v1 } := k ∘ h

theorem KeepsTabs.rings_regs
    {v0 : Rings} {v1 : Regs}
    (h : KeepsTabs s x) (k : x.TabsWf → State.TabsWf { x with rings := v0, regs := v1 }) :
    KeepsTabs s { x with rings := v0, regs := v1 } := k ∘ h

theorem KeepsTabs.win_fw
    {v0 : Windows} {v1 : Fw}
    (h : KeepsTabs s x) (k : x.TabsWf → State.TabsWf { x with win := v0, fw := v1 }) :
    KeepsTabs s { x with win := v0, fw := v1 } := k ∘ h

theorem KeepsTabs.pm_lat
    {v0 : Pm} {v1 : Lat}
    (h : KeepsTabs s x) (k : x.TabsWf → State.TabsWf { x with pm := v0, lat := v1 }) :
    KeepsTabs s { x with pm := v0, lat := v1 } := k ∘ h

theorem KeepsTabs.boot_fw_pm
    {v0 : Boot} {v1 : Fw} {v2 : Pm}
    (h : KeepsTabs s x) (k : x.TabsWf → State.TabsWf { x with boot := v0, fw := v1, pm := v2 }) :
    KeepsTabs s { x with boot := v0, fw := v1, pm := v2 } := k ∘ h

theorem KeepsTabs.boot_dense_fw
    {v0 : Boot} {v1 : Dense} {v2 : Fw}
    (h : KeepsTabs s x) (k : x.TabsWf → State.TabsWf { x with boot := v0, dense := v1, fw := v2 }) :
    KeepsTabs s { x with boot := v0, dense := v1, fw := v2 } := k ∘ h

theorem KeepsTabs.hbm_dense_pool
    {v0 : Hbm} {v1 : Dense} {v2 : Pool}
    (h : KeepsTabs s x) (k : x.TabsWf → State.TabsWf { x with hbm := v0, dense := v1, pool := v2 }) :
    KeepsTabs s { x with hbm := v0, dense := v1, pool := v2 } := k ∘ h

theorem KeepsTabs.clk_pins_logs_counters
    {v0 : Clk} {v1 : Pins} {v2 : Logs} {v3 : Tab (BitVec 64)}
    (h : KeepsTabs s x) (k : x.TabsWf → State.TabsWf { x with clk := v0, pins := v1, logs := v2, counters := v3 }) :
    KeepsTabs s { x with clk := v0, pins := v1, logs := v2, counters := v3 } := k ∘ h

theorem KeepsTabs.clk_pins_boot_pm
    {v0 : Clk} {v1 : Pins} {v2 : Boot} {v3 : Pm}
    (h : KeepsTabs s x) (k : x.TabsWf → State.TabsWf { x with clk := v0, pins := v1, boot := v2, pm := v3 }) :
    KeepsTabs s { x with clk := v0, pins := v1, boot := v2, pm := v3 } := k ∘ h

theorem KeepsTabs.clk_pins_boot_hbm_lanes_pm
    {v0 : Clk} {v1 : Pins} {v2 : Boot} {v3 : Hbm} {v4 : Lanes} {v5 : Pm}
    (h : KeepsTabs s x)
    (k : x.TabsWf → State.TabsWf { x with clk := v0, pins := v1, boot := v2, hbm := v3, lanes := v4, pm := v5 }) :
    KeepsTabs s { x with clk := v0, pins := v1, boot := v2, hbm := v3, lanes := v4, pm := v5 } := k ∘ h

theorem KeepsTabs.clk_pins_boot_buf_hbm_logs_lanes_pm
    {v0 : Clk} {v1 : Pins} {v2 : Boot} {v3 : Buf} {v4 : Hbm} {v5 : Logs} {v6 : Lanes} {v7 : Pm}
    (h : KeepsTabs s x)
    (k : x.TabsWf → State.TabsWf { x with clk := v0, pins := v1, boot := v2, buf := v3, hbm := v4, logs := v5, lanes := v6, pm := v7 }) :
    KeepsTabs s { x with clk := v0, pins := v1, boot := v2, buf := v3, hbm := v4, logs := v5, lanes := v6, pm := v7 } := k ∘ h

theorem KeepsTabs.clk_boot_fmap_hbm_logs_lanes_fw_pm_lat_pool_counters
    {v0 : Clk} {v1 : Boot} {v2 : FaultMap} {v3 : Hbm} {v4 : Logs} {v5 : Lanes} {v6 : Fw} {v7 : Pm} {v8 : Lat} {v9 : Pool} {v10 : Tab (BitVec 64)}
    (h : KeepsTabs s x)
    (k : x.TabsWf → State.TabsWf { x with clk := v0, boot := v1, fmap := v2, hbm := v3, logs := v4, lanes := v5, fw := v6, pm := v7, lat := v8, pool := v9, counters := v10 }) :
    KeepsTabs s { x with clk := v0, boot := v1, fmap := v2, hbm := v3, logs := v4, lanes := v5, fw := v6, pm := v7, lat := v8, pool := v9, counters := v10 } := k ∘ h

theorem KeepsTabs.parts_layout_layoutPend_slots_buf_comp_ctl_tiles_rings_regs_win
    {v0 : Tab Part} {v1 : Tab Rect} {v2 : Option (List Rect)} {v3 : Tab Slot} {v4 : Buf} {v5 : Tab Comp} {v6 : Ctl} {v7 : Tiles} {v8 : Rings} {v9 : Regs} {v10 : Windows}
    (h : KeepsTabs s x)
    (k : x.TabsWf → State.TabsWf { x with parts := v0, layout := v1, layoutPend := v2, slots := v3, buf := v4, comp := v5, ctl := v6, tiles := v7, rings := v8, regs := v9, win := v10 }) :
    KeepsTabs s { x with parts := v0, layout := v1, layoutPend := v2, slots := v3, buf := v4, comp := v5, ctl := v6, tiles := v7, rings := v8, regs := v9, win := v10 } := k ∘ h

variable {o p : Host.Outcome State Fault Refusal}

theorem KeepsTabsNext.next (h : KeepsTabs s t) : KeepsTabsNext s (.next t) := ⟨t, rfl, h⟩

theorem KeepsTabsNext.ite {c : Prop} [Decidable c] (h : KeepsTabsNext s o) (k : KeepsTabsNext s p) :
    KeepsTabsNext s (if c then o else p) := by
  split <;> assumption

theorem KeepsTabsNext.after (later : KeepsTabsNext t o) (earlier : KeepsTabs s t) : KeepsTabsNext s o := by
  obtain ⟨u, e, h⟩ := later
  exact ⟨u, e, .after h earlier⟩

theorem Nexts.tabs (h : Nexts bs s o) (free : tableFree bs = true) : KeepsTabsNext s o := by
  obtain ⟨t, e, frame⟩ := h
  exact ⟨t, e, frame.tabs free⟩

end

variable {s : State}

/-! ### The tables of the blocks that hold several -/

namespace State.TabsWf

variable (wf : s.TabsWf)
include wf

theorem ring : Tab.wf Ring.reset s.rings.ring = true := wf.host.1

theorem fn : Tab.wf Fn.reset s.rings.fn = true := wf.host.2.1

theorem vec : Tab.wf Vector.reset s.rings.vec = true := wf.host.2.2.1

theorem counters : Tab.wf 0 s.counters = true := wf.host.2.2.2

theorem parts : Tab.wf Part.reset s.parts = true := wf.plane.1

theorem slots : Tab.wf Slot.reset s.slots = true := wf.plane.2.1

theorem tile : Tab.wf Tile.reset s.tiles.tile = true := wf.plane.2.2.1

theorem layout : Tab.wf ⟨0, 0, 0, 0⟩ s.layout = true := wf.plane.2.2.2

theorem pc : Tab.wf Pc.reset s.hbm.pc = true := wf.unit.1

theorem stack : Tab.wf Stack.reset s.hbm.stack = true := wf.unit.2.1

theorem sensors : Tab.wf Sensor.reset s.pm.sensors = true := wf.unit.2.2.1

theorem port : Tab.wf LPort.reset s.lat.port = true := wf.unit.2.2.2.1

theorem region : Tab.wf Region.reset s.pool.region = true := wf.unit.2.2.2.2.1

theorem flag : Tab.wf 0 s.hbm.flag = true := wf.unit.2.2.2.2.2.1

theorem comp : Tab.wf Comp.reset s.comp = true := wf.unit.2.2.2.2.2.2.1

theorem lines : Tab.wf CacheLine.reset s.dense.lines = true := wf.unit.2.2.2.2.2.2.2.1

theorem drive : Tab.wf Drive.reset s.dense.drive = true := wf.unit.2.2.2.2.2.2.2.2

theorem bad : Tab.wf 0 s.buf.bad = true := wf.slice.1

theorem single : Tab.wf 0 s.buf.single = true := wf.slice.2.1

theorem counted : Tab.wf 0 s.buf.counted = true := wf.slice.2.2.1

theorem index : Tab.wf IndexState.none s.buf.index = true := wf.slice.2.2.2.1

theorem acc : Tab.wf FoldAcc.zero s.buf.acc = true := wf.slice.2.2.2.2

end State.TabsWf

/-! ### Tables that are built anew -/

/-- A fold whose step keeps a table canonical. -/
theorem wf_foldl {β γ : Type} [DecidableEq β] {d : β} {f : Tab β → γ → Tab β} {l : List γ} {m : Tab β}
    (step : ∀ m c, Tab.wf d m = true → Tab.wf d (f m c) = true) (wf : Tab.wf d m = true) :
    Tab.wf d (l.foldl f m) = true := by
  induction l generalizing m with
  | nil => exact wf
  | cons c l ih => exact ih (step m c wf)

theorem wf_ite {β : Type} [DecidableEq β] {d : β} {m n : Tab β} {c : Prop} [Decidable c] (h : Tab.wf d m = true)
    (k : Tab.wf d n = true) : Tab.wf d (if c then m else n) = true := by
  split <;> assumption

theorem wf_mergedClusters (wf : Tab.wf 2 s.fmap.cluster = true) : Tab.wf 2 (mergedClusters s) = true :=
  wf_foldl (fun _ _ => Tab.wf_upd _ _) (wf_foldl (fun _ _ => Tab.wf_upd _ _) wf)

theorem wf_mergedStitches (wf : Tab.wf 2 s.fmap.stitch = true) : Tab.wf 2 (mergedStitches s) = true :=
  wf_foldl (fun _ _ => Tab.wf_upd _ _) (wf_foldl (fun _ _ => Tab.wf_upd _ _) wf)

theorem wf_coldSensors {m : Tab Sensor} (wf : Tab.wf Sensor.reset m = true) :
    Tab.wf Sensor.reset (coldSensors m) = true :=
  Tab.wf_updAll _ _ (Tab.wf_filter _ wf)

/-- Words of a number from word i on, each but the zeros under its own index. -/
theorem wfFrom_windowOf_range (x i n : Nat) :
    Tab.wfFrom 0 i ((rangeFrom i n).filterMap fun j =>
      let w := BitVec.ofNat 32 (bits x (32 * j) 32)
      if w = 0 then none else some (j, w)) = true := by
  induction n generalizing i with
  | zero => rfl
  | succ n ih =>
    rw [rangeFrom, List.filterMap_cons]
    by_cases zero : BitVec.ofNat 32 (bits x (32 * i) 32) = 0
    · simpa only [zero, if_true] using Tab.wfFrom_mono (ih (i + 1)) (Nat.le_succ i)
    · simpa only [zero, if_false] using Tab.wfFrom_cons.mpr ⟨le_rfl, zero, ih (i + 1)⟩

theorem wf_windowOf (x n : Nat) : Tab.wf 0 (windowOf x n) = true := wfFrom_windowOf_range x 0 n

/-- The slots of a table under the same keys, each with a value that is no reset value. -/
theorem wfFrom_map {β : Type} [DecidableEq β] {d v : β} {lo : Nat} {m : Tab β} (ne : v ≠ d)
    (wf : Tab.wfFrom d lo m = true) : Tab.wfFrom d lo (m.map fun e => (e.1, v)) = true := by
  induction m generalizing lo with
  | nil => rfl
  | cons e m ih =>
    obtain ⟨k, w⟩ := e
    rw [Tab.wfFrom_cons] at wf
    obtain ⟨le, -, rest⟩ := wf
    exact Tab.wfFrom_cons.mpr ⟨le, ne, ih rest⟩

theorem wf_attachedDrives {l : List (Nat × Nat × Nat)} {ds : List Nat} {m : Tab Drive} (wf : Tab.wf Drive.reset m = true) :
    Tab.wf Drive.reset (ds.foldl (fun (m : Tab Drive) d => match l.find? fun e => e.1 == d with
      | some e => Tab.set Drive.reset m d { Drive.reset with usable := true, capacity := e.2.1, identity := e.2.2 }
      | none => Tab.set Drive.reset m d Drive.reset) m) = true :=
  wf_foldl (fun m d wf => by split <;> exact Tab.wf_set _ _ wf) wf

/-! ### Operations -/

theorem abortLoads_tabs : KeepsTabs s (abortLoads s) := .slots (.refl _) fun wf => { wf with
    plane := ⟨wf.parts, Tab.wf_updAll _ _ wf.slots, wf.tile, wf.layout⟩ }

theorem updPc_tabs {n : Nat} {f : Pc → Pc} : KeepsTabs s (updPc n f s) := .hbm (.refl _) fun wf => { wf with
    unit := ⟨Tab.wf_set _ _ wf.pc, wf.stack, wf.sensors, wf.port, wf.region, wf.flag, wf.comp, wf.lines, wf.drive⟩ }

theorem hbmWrite_tabs {line : Nat} {d : LineData} {poison : Bool} : KeepsTabs s (hbmWrite line d poison s) := by
  unfold hbmWrite
  dsimp only
  generalize Memory.setLine _ _ _ _ = mem
  exact .after (.ite updPc_tabs (.refl _)) (.hbm (.refl _) fun wf => { wf with
    unit := ⟨wf.pc, wf.stack, wf.sensors, wf.port, wf.region, Tab.wf_set _ _ wf.flag, wf.comp, wf.lines, wf.drive⟩ })

theorem acceptBeat_tabs {line : Nat} {b : Beat} : KeepsTabs s (acceptBeat line b s) := .ite hbmWrite_tabs (.refl _)

theorem setPart_tabs {k : Nat} {p : Part} : KeepsTabs s (setPart k p s) := .parts (.refl _) fun wf => { wf with
    plane := ⟨Tab.wf_set _ _ wf.parts, wf.slots, wf.tile, wf.layout⟩ }

theorem updPart_tabs {k : Nat} {f : Part → Part} : KeepsTabs s (updPart k f s) := setPart_tabs

theorem updRun_tabs {k : Nat} {f : Run → Run} : KeepsTabs s (updRun k f s) := updPart_tabs

theorem acceptHostBeat_tabs {k beat : Nat} {h : HostRec} {r : Run} : KeepsTabs s (acceptHostBeat k beat h r s) := by
  unfold acceptHostBeat
  split
  · exact .refl _
  · exact .ite (.refl _) (.after ((emit_touches _ _).tabs rfl) updRun_tabs)

theorem raiseVector_tabs {fn v : Nat} : KeepsTabs s (raiseVector fn v s) :=
  .ite (.rings (.refl _) fun wf => { wf with
      host := ⟨wf.ring, wf.fn, Tab.wf_set _ _ wf.vec, wf.counters⟩ }) ((emit_touches _ _).tabs rfl)

theorem mailboxDone_tabs {bytes : Nat} : KeepsTabs s (mailboxDone bytes s) :=
  .ite (.regs (.refl _) fun wf => { wf with
      }) (.after raiseVector_tabs (.regs (.refl _) fun wf => { wf with mbxWindow := wf_windowOf _ _ }))

theorem updRing_tabs {fn r : Nat} {f : Ring → Ring} : KeepsTabs s (updRing fn r f s) :=
  .rings (.refl _) fun wf => { wf with host := ⟨Tab.wf_set _ _ wf.ring, wf.fn, wf.vec, wf.counters⟩ }

theorem ringInterrupt_tabs {fn ring : Nat} : KeepsTabs s (ringInterrupt fn ring s) :=
  .after (.ite (.refl _) raiseVector_tabs) updRing_tabs

theorem moderate_tabs {fn ring : Nat} {silent : Bool} : KeepsTabs s (moderate fn ring silent s) :=
  .ite (.refl _) (.ite ringInterrupt_tabs updRing_tabs)

theorem postCompletion_tabs {fn ring : Nat} {seq user : BitVec 32} {silent : Bool} {frame : Nat} {d : Done} :
    KeepsTabs s (postCompletion fn ring seq user silent frame d s) :=
  .after moderate_tabs (.after updRing_tabs ((emit_touches _ _).tabs rfl))

theorem completeOutst_tabs {fn ring : Nat} {o : Outst} {d : Done} : KeepsTabs s (completeOutst fn ring o d s) :=
  .after postCompletion_tabs updRing_tabs

theorem serviceDone_tabs {fn : Nat} {o : Outst} {status tag bytes : Nat} :
    KeepsTabs s (serviceDone fn o status tag bytes s) :=
  completeOutst_tabs

theorem mciDeliver_tabs {op : Nat} {q : MciReq} {status detail rlen params : Nat} {item : Option Outst} :
    KeepsTabs s (mciDeliver op q status detail rlen params item s) :=
  .ite (.after mailboxDone_tabs ((emit_touches _ _).tabs rfl))
    (.ite
       (by
          split
          · exact (emit_touches _ _).tabs rfl
          · exact .after serviceDone_tabs (.after ((emit_touches _ _).tabs rfl) ((emit_touches _ _).tabs rfl)))
       ((emit_touches _ _).tabs rfl))

theorem mciAnswer_tabs {op : Nat} {q : MciReq} {status detail rlen params : Nat} :
    KeepsTabs s (mciAnswer op q status detail rlen params s) :=
  .after mciDeliver_tabs (.fw (.refl _) fun wf => { wf with })

theorem mciReply_tabs {op who tag status detail rlen params : Nat} :
    KeepsTabs s (mciReply op who tag status detail rlen params s) :=
  .ite mciAnswer_tabs (.refl _)

theorem updPort_tabs {p : Nat} {f : LPort → LPort} : KeepsTabs s (updPort p f s) :=
  .lat (.refl _) fun wf => { wf with
      unit := ⟨wf.pc, wf.stack, wf.sensors, Tab.wf_set _ _ wf.port, wf.region, wf.flag, wf.comp, wf.lines, wf.drive⟩ }

theorem queueFlit_tabs {p : Nat} {f : Flit} : KeepsTabs s (queueFlit p f s) := updPort_tabs

theorem sendFlit_tabs {out : Nat} {inPort : Option Nat} {f : Flit} : KeepsTabs s (sendFlit out inPort f s) :=
  queueFlit_tabs

theorem sendRsp_tabs {dst uop tag region nl poison off status body : Nat} :
    KeepsTabs s (sendRsp dst uop tag region nl poison off status body s) := by
  unfold sendRsp
  dsimp only
  split
  · exact .lat (.refl _) fun wf => { wf with }
  · exact .after sendFlit_tabs (.lat (.refl _) fun wf => { wf with })

theorem answerTable_tabs {who opx tag status : Nat} : KeepsTabs s (answerTable who opx tag status s) :=
  .ite sendRsp_tabs (.ite mciReply_tabs mciReply_tabs)

theorem updRegion_tabs {r : Nat} {f : Region → Region} : KeepsTabs s (updRegion r f s) :=
  .pool (.refl _) fun wf => { wf with
      unit := ⟨wf.pc, wf.stack, wf.sensors, wf.port, Tab.wf_set _ _ wf.region, wf.flag, wf.comp, wf.lines, wf.drive⟩ }

theorem accessRun_tabs {who tag x : Nat} : KeepsTabs s (accessRun who tag x s) :=
  .ite answerTable_tabs (.after answerTable_tabs updRegion_tabs)

theorem updTile_tabs {t : Nat} {f : Tile → Tile} : KeepsTabs s (updTile t f s) :=
  .tiles (.refl _) fun wf => { wf with plane := ⟨wf.parts, wf.slots, Tab.wf_set _ _ wf.tile, wf.layout⟩ }

theorem sendTile_tabs {t sub chunk content n : Nat} : KeepsTabs s (sendTile t sub chunk content n s) :=
  .after ((emit_touches _ _).tabs rfl) updTile_tabs

theorem sendAck_tabs {t seq : Nat} : KeepsTabs s (sendAck t seq s) := sendTile_tabs

theorem ackAgain_tabs {t chunk seq : Nat} {over_ : Bool} : KeepsTabs s (ackAgain t chunk seq over_ s) :=
  .ite sendAck_tabs (.refl _)

theorem updateBoxes_tabs : KeepsTabs s (updateBoxes s) := .pool (.refl _) fun wf => { wf with
    mail := Tab.wf_filter _ wf.mail }

theorem aclInForce_tabs {region : Nat} {l : List Access} {mode : Nat} : KeepsTabs s (aclInForce region l mode s) :=
  .after updateBoxes_tabs (.after (.ite ((emitAll_touches _ _).tabs rfl) (.refl _)) updRegion_tabs)

theorem updPipe_tabs {k : Nat} {f : Pipe → Pipe} : KeepsTabs s (updPipe k f s) := updPart_tabs

theorem addDue_tabs {k : Nat} {ds : List Due} : KeepsTabs s (addDue k ds s) := updPipe_tabs

theorem consumeLines_tabs {fn ring x lines : Nat} : KeepsTabs s (consumeLines fn ring x lines s) :=
  .after (.rings (.refl _) fun wf => { wf with }) updRing_tabs

theorem consume_tabs {fn ring x : Nat} : KeepsTabs s (consume fn ring x s) := consumeLines_tabs

theorem admitRun_tabs {k n fn ring : Nat} {im : Image} : KeepsTabs s (admitRun k n fn ring im s) := by
  unfold admitRun
  split
  · exact .after updPart_tabs (.after (.logs (.refl _)) consume_tabs)
  · exact .refl _

theorem launchReq_tabs {r : OutReq} : KeepsTabs s (launchReq r s) := by
  unfold launchReq
  dsimp only
  split
  · exact .lat (.refl _) fun wf => { wf with }
  · exact .after sendFlit_tabs (.lat (.refl _) fun wf => { wf with })

theorem admitWaiting_tabs {dst : Nat} : KeepsTabs s (admitWaiting dst s) := by
  unfold admitWaiting
  split
  · exact .refl _
  · exact .ite (.after launchReq_tabs (.lat (.refl _) fun wf => { wf with })) (.refl _)

theorem countBy_tabs {id idx n : Nat} : KeepsTabs s (countBy id idx n s) := .counters (.refl _) fun wf => { wf with
    host := ⟨wf.ring, wf.fn, wf.vec, Tab.wf_set _ _ wf.counters⟩ }

theorem countUp_tabs {id idx : Nat} : KeepsTabs s (countUp id idx s) := countBy_tabs

theorem sendFault_tabs {p : FaultPkt} : KeepsTabs s (sendFault p s) :=
  .ite (.ctl (.refl _) fun wf => { wf with }) (.after countUp_tabs (.ctl (.refl _) fun wf => { wf with }))

theorem routerFault_tabs {reason sev router : Nat} {detail : Option Nat} :
    KeepsTabs s (routerFault reason sev router detail s) :=
  sendFault_tabs

theorem countErrors_tabs {queue : Bool} {router line bad single : Nat} :
    KeepsTabs s (countErrors queue router line bad single s) :=
  .after
    (.ite (.refl _)
       (.after (.ite routerFault_tabs (.refl _))
          (.after (.ite (.refl _) routerFault_tabs) (.after countBy_tabs (.buf (.refl _) fun wf => { wf with
              slice := ⟨wf.bad, wf.single, Tab.wf_set _ _ wf.counted, wf.index, wf.acc⟩ })))))
    (.ite (.refl _)
       (.after (.ite routerFault_tabs (.refl _)) (.after countBy_tabs (.buf (.refl _) fun wf => { wf with }))))

theorem injectDone_tabs : KeepsTabs s (injectDone s) := .regs (.refl _) fun wf => { wf with }

theorem putTickLine_tabs {e : TickLine} : KeepsTabs s (putTickLine e s) := by
  unfold putTickLine
  dsimp only
  generalize Memory.setLine _ _ _ _ = mem
  exact .buf (.refl _) fun wf => { wf with
    slice := ⟨Tab.wf_set _ _ wf.bad, Tab.wf_set _ _ wf.single, Tab.wf_set _ _ wf.counted, wf.index, wf.acc⟩ }

theorem spoilWord_tabs {router line : Nat} {double : Bool} : KeepsTabs s (spoilWord router line double s) := by
  unfold spoilWord
  split
  · exact .ite (.buf (.refl _) fun wf => { wf with
      slice := ⟨Tab.wf_set _ _ wf.bad, wf.single, wf.counted, wf.index,
        wf.acc⟩ }) (.buf (.refl _) fun wf => { wf with slice := ⟨wf.bad, Tab.wf_set _ _ wf.single, wf.counted,
        wf.index, wf.acc⟩ })
  · exact putTickLine_tabs

theorem injectLine_tabs {router line : Nat} : KeepsTabs s (injectLine router line s) :=
  .ite (.after injectDone_tabs spoilWord_tabs) (.ite (.after injectDone_tabs spoilWord_tabs) (.refl _))

theorem schedRead_tabs {router line : Nat} : KeepsTabs s (schedRead router line s).2 :=
  .after countErrors_tabs injectLine_tabs

theorem portRead_tabs {k router line : Nat} {ctx byRead : Bool} :
    KeepsTabs s (portRead k router line ctx byRead s).2 := by
  unfold portRead
  dsimp only
  exact .after updPart_tabs schedRead_tabs

theorem branchNow_tabs {k : Nat} {im : Image} {v : Variant} : KeepsTabs s (branchNow k im v s) :=
  .after updRun_tabs portRead_tabs

theorem doBranch_tabs {k : Nat} : KeepsTabs s (doBranch k s) := by
  unfold doBranch
  split
  · exact branchNow_tabs
  · exact .refl _

theorem deliverFold_tabs {k router inp outs : Nat} {acc : BitVec 1024} {type : Nat} {sr poison bsel : Bool} :
    KeepsTabs s (deliverFold k router inp outs acc type sr poison bsel s) :=
  .ite (.buf (.refl _) fun wf => { wf with
      slice := ⟨wf.bad, wf.single, wf.counted, wf.index,
        Tab.wf_set _ _ wf.acc⟩ }) (.after ((emitAll_touches _ _).tabs rfl) updPipe_tabs)

theorem noteWrite_tabs {k router lo n : Nat} {hit : Option Nat} {control : Bool} :
    KeepsTabs s (noteWrite k router lo n hit control s) :=
  updPart_tabs

theorem noteLine_tabs {k router line : Nat} : KeepsTabs s (noteLine k router line s) := noteWrite_tabs

theorem mirrorWrite_tabs {key mask : Nat} : KeepsTabs s (mirrorWrite key mask s) :=
  .buf (.refl _) fun wf => { wf with }

theorem storeLine_tabs {router line : Nat} {d : LineData} {mask : LineMask} {poison sched : Bool} :
    KeepsTabs s (storeLine router line d mask poison sched s) :=
  .after mirrorWrite_tabs (.after putTickLine_tabs countErrors_tabs)

theorem schedWrite_tabs {router line : Nat} {b : Beat} {mask : LineMask} :
    KeepsTabs s (schedWrite router line b mask s) :=
  storeLine_tabs

theorem breach_tabs {k status : Nat} {hold : Bool} : KeepsTabs s (breach k status hold s) := updPart_tabs

theorem socketStall_tabs {router : Nat} {terr : Bool} : KeepsTabs s (socketStall router terr s) :=
  .ite (.ite (.refl _) (.tiles (.refl _) fun wf => { wf with }))
    (by
       split
       · exact .after breach_tabs (.after routerFault_tabs (.ite (.refl _) (.tiles (.refl _) fun wf => { wf with })))
       · exact .after routerFault_tabs (.ite (.refl _) (.tiles (.refl _) fun wf => { wf with })))

theorem doWork_tabs {k : Nat} {w : Work} : KeepsTabs s (doWork k w s) := by
  unfold doWork
  split
  · exact .after ((sendOperand_touches _ _ _).tabs rfl) portRead_tabs
  · exact .after noteWrite_tabs socketStall_tabs
  · exact .after noteLine_tabs storeLine_tabs
  · exact .after addDue_tabs portRead_tabs
  · exact .after noteLine_tabs schedWrite_tabs
  · exact deliverFold_tabs

theorem dropDue_tabs {k : Nat} {d : Due} : KeepsTabs s (dropDue k d s) := updPipe_tabs

theorem updParts_tabs {f : Nat → Part → Part} : KeepsTabs s (updParts f s) := .parts (.refl _) fun wf => { wf with
    plane := ⟨Tab.wf_updAll _ _ wf.parts, wf.slots, wf.tile, wf.layout⟩ }

theorem applySetting_tabs {x : BitVec 9} : KeepsTabs s (applySetting x s) :=
  .ite (.refl _) (.after updParts_tabs (.clk (.refl _)))

theorem rawTicks_tabs {n : Nat} : KeepsTabs s (rawTicks n s) := .after updParts_tabs (.clk (.refl _))

theorem passTo_tabs {target : Nat} : KeepsTabs s (passTo target s) := by
  unfold passTo
  split
  · exact rawTicks_tabs
  · exact .ite (.after rawTicks_tabs (.after applySetting_tabs (.after (.clk (.refl _)) rawTicks_tabs))) rawTicks_tabs

theorem advanceLoop_tabs {fuel target : Nat} : KeepsTabs s (advanceLoop fuel target s) := by
  induction fuel generalizing s with
  | zero => exact passTo_tabs
  | succ fuel ih =>
    unfold advanceLoop
    split
    · exact .ite (.after ih (.after doBranch_tabs passTo_tabs)) passTo_tabs
    · split
      · exact passTo_tabs
      · exact .ite (.after ih (.after doWork_tabs (.after dropDue_tabs passTo_tabs))) passTo_tabs

theorem advanceFree_tabs {target : Nat} : KeepsTabs s (advanceFree target s) := advanceLoop_tabs

theorem holdTick_tabs : KeepsTabs s (holdTick s) := .clk_lat (.refl _) fun wf => { wf with }

theorem advanceTo_tabs {target : Nat} : KeepsTabs s (advanceTo target s) :=
  .ite (.refl _) (.ite (.after holdTick_tabs advanceFree_tabs) advanceFree_tabs)

theorem advance_tabs {n : Nat} : KeepsTabs s (advance n s) := advanceTo_tabs

theorem dropAcc_tabs {id : Nat} : KeepsTabs s (dropAcc id s) := .pool (.refl _) fun wf => { wf with }

theorem sendReq_tabs {dst uop region nl poison off body kind ref : Nat} :
    KeepsTabs s (sendReq dst uop region nl poison off body kind ref s) :=
  .after (.ite launchReq_tabs (.lat (.refl _) fun wf => { wf with }))
    (.after ((emit_touches _ _).tabs rfl) (.lat (.refl _) fun wf => { wf with }))

theorem sendTable_tabs {m region body kind ref : Nat} : KeepsTabs s (sendTable m region body kind ref s) :=
  sendReq_tabs

theorem replicate_tabs {region : Nat} : KeepsTabs s (replicate region s) := .foldl fun _ _ => sendTable_tabs

theorem rebuilt_tabs {r : Nat} : KeepsTabs s (rebuilt r s) :=
  .ite (.refl _) (.ite (.after replicate_tabs updRegion_tabs) updRegion_tabs)

theorem servedLine_tabs {src tag i : Nat} {data : LineData} {poison : Bool} {status : Nat} :
    KeepsTabs s (servedLine src tag i data poison status s) := by
  unfold servedLine
  split
  · exact .refl _
  · exact .ite (.pool (.refl _) fun wf => { wf with }) (.after sendRsp_tabs (.pool (.refl _) fun wf => { wf with }))

theorem updCmd_tabs {id : Nat} {f : PoolCmd → PoolCmd} : KeepsTabs s (updCmd id f s) :=
  .pool (.refl _) fun wf => { wf with }

theorem queueLocal_tabs {a : PoolAcc} {write : Bool} : KeepsTabs s (queueLocal a write s) := by
  unfold queueLocal
  split
  · exact updPc_tabs
  · exact .dense (.refl _) fun wf => { wf with }
  · exact .refl _

theorem setAcc_tabs {a : PoolAcc} : KeepsTabs s (setAcc a s) := .pool (.refl _) fun wf => { wf with }

theorem wakeReads_tabs {a : PoolAcc} : KeepsTabs s (wakeReads a s) :=
  .ite (.refl _) (.foldl fun _ _ => .after queueLocal_tabs setAcc_tabs)

theorem finishAcc_tabs {a : PoolAcc} {d : LineData} {poison : Bool} {status : Nat} {sIn : State} :
    KeepsTabs sIn (finishAcc a d poison status sIn) := by
  unfold finishAcc
  split
  · exact .after ((cxlAnswer_touches _ _ _ _ _ _).tabs rfl) (.after wakeReads_tabs dropAcc_tabs)
  · exact .after servedLine_tabs (.after wakeReads_tabs dropAcc_tabs)
  · exact .after rebuilt_tabs (.after wakeReads_tabs dropAcc_tabs)
  · exact .after updCmd_tabs (.after wakeReads_tabs dropAcc_tabs)

theorem sendAcc_tabs {m uop nl : Nat} {a : PoolAcc} {d : LineData} {poison : Bool} :
    KeepsTabs s (sendAcc m uop nl a d poison s) :=
  sendReq_tabs

theorem afterWrite_tabs {a : PoolAcc} {old : Beat} : KeepsTabs s (afterWrite a old s) :=
  .ite (.ite finishAcc_tabs (.after sendAcc_tabs setAcc_tabs))
    (.ite (.ite finishAcc_tabs (.after sendAcc_tabs setAcc_tabs)) finishAcc_tabs)

theorem answerMailbox_tabs : KeepsTabs s (answerMailbox s) := .ite mailboxDone_tabs (.refl _)

theorem answerReset_tabs {fn : Nat} : KeepsTabs s (answerReset fn s) := .foldl fun _ _ => serviceDone_tabs

theorem goAlone_tabs : KeepsTabs s (goAlone s) := .pm_lat (.refl _) fun wf => { wf with }

theorem sendCtrl_tabs {port x : Nat} : KeepsTabs s (sendCtrl port x s) :=
  .ite (.after ((emit_touches _ _).tabs rfl) sendFlit_tabs) (.refl _)

theorem takeRequest_tabs {m : Nat} {x : BitVec 9} : KeepsTabs s (takeRequest m x s) := by
  unfold takeRequest
  dsimp only
  exact .ite (.lat (.refl _) fun wf => { wf with treqs := Tab.wf_set _ _ wf.treqs })
    (.after
       (.foldl fun _ _ => by
          split
          · exact .refl _
          · exact sendCtrl_tabs)
       (.pm_lat (.refl _) fun wf => { wf with treqs := Tab.wf_set _ _ wf.treqs }))

theorem requestSetting_tabs {x : BitVec 9} : KeepsTabs s (requestSetting x s) :=
  .ite (.after takeRequest_tabs (.pm (.refl _) fun wf => { wf with }))
    (by
       split
       · exact .pm (.refl _) fun wf => { wf with }
       · exact .after sendCtrl_tabs (.pm (.refl _) fun wf => { wf with }))

theorem applyOwn_tabs {m : PowerIn} : KeepsTabs s (applyOwn m s) := by
  unfold applyOwn
  dsimp only
  exact .ite (.after ((putSetting_touches _ _).tabs rfl) (.pm (.refl _) fun wf => { wf with }))
    (by
       split
       · exact .after (.ite ((putSetting_touches _ _).tabs rfl) (.refl _))
           (.after (.pm (.refl _) fun wf => { wf with }) (.ite requestSetting_tabs (.refl _)))
       · exact .after ((putSetting_touches _ _).tabs rfl)
           (.after goAlone_tabs (.after (.pm (.refl _) fun wf => { wf with }) (.ite requestSetting_tabs (.refl _)))))

theorem putWin_tabs {w : StoredWin} : KeepsTabs s (putWin w s) := .lat (.refl _) fun wf => { wf with }

theorem markLate_tabs : KeepsTabs s (markLate s) := .foldl fun _ _ => .ite (.refl _) putWin_tabs

theorem updPcs_tabs {l : List Nat} {f : Nat → Pc → Pc} : KeepsTabs s (updPcs l f s) :=
  .hbm (.refl _) fun wf => { wf with
      unit := ⟨Tab.wf_updAll _ _ wf.pc, wf.stack, wf.sensors, wf.port, wf.region, wf.flag, wf.comp, wf.lines,
        wf.drive⟩ }

theorem hbmSchedule_tabs {l : List Nat} : KeepsTabs s (hbmSchedule l s) := updPcs_tabs

theorem hbmUnprepare_tabs {l : List Nat} : KeepsTabs s (hbmUnprepare l s) :=
  .after ((emitAll_touches _ _).tabs rfl) updPcs_tabs

theorem loadMirrors_tabs {rc : Rect} {lines : List (Nat × Nat)} : KeepsTabs s (loadMirrors rc lines s) :=
  .buf (.refl _) fun wf => { wf with }

theorem resetComps_tabs {rc : Rect} : KeepsTabs s (resetComps rc s) := .comp (.refl _) fun wf => { wf with
    unit := ⟨wf.pc, wf.stack, wf.sensors, wf.port, wf.region, wf.flag, Tab.wf_updAll _ _ wf.comp, wf.lines,
      wf.drive⟩ }

theorem setSlot_tabs {k : Nat} {v : Slot} : KeepsTabs s (setSlot k v s) := .slots (.refl _) fun wf => { wf with
    plane := ⟨wf.parts, Tab.wf_set _ _ wf.slots, wf.tile, wf.layout⟩ }

theorem bindEffect_tabs {k : Nat} : KeepsTabs s (bindEffect k s) := by
  unfold bindEffect
  split
  · exact .refl _
  · exact .after (.ite hbmUnprepare_tabs hbmSchedule_tabs)
      (.after updPart_tabs (.after loadMirrors_tabs (.after resetComps_tabs setSlot_tabs)))

theorem hbmPrepare_tabs {l : List Nat} : KeepsTabs s (hbmPrepare l s) :=
  .after ((emitAll_touches _ _).tabs rfl) updPcs_tabs

theorem sendLanes_tabs {t chunk : Nat} : KeepsTabs s (sendLanes t chunk s) := .after sendTile_tabs updTile_tabs

theorem startTransfer_tabs {t : Nat} {es : List Nat} : KeepsTabs s (startTransfer t es s) :=
  .after sendLanes_tabs updTile_tabs

theorem setHalves_tabs {t : Nat} {halves : List Nat} : KeepsTabs s (setHalves t halves s) :=
  .ite (.refl _) startTransfer_tabs

theorem lanesFor_tabs {rc : Rect} {im : Option Image} : KeepsTabs s (lanesFor rc im s) :=
  .foldl fun _ _ => .ite (.refl _) setHalves_tabs

theorem updStack_tabs {k : Nat} {f : Stack → Stack} : KeepsTabs s (updStack k f s) :=
  .hbm (.refl _) fun wf => { wf with
      unit := ⟨wf.pc, Tab.wf_set _ _ wf.stack, wf.sensors, wf.port, wf.region, wf.flag, wf.comp, wf.lines, wf.drive⟩ }

theorem leaveRefresh_tabs {ks : List Nat} : KeepsTabs s (leaveRefresh ks s) :=
  .foldl fun _ _ => .ite (.after ((emitAll_touches _ _).tabs rfl) updStack_tabs) (.refl _)

theorem startExit_tabs {k : Nat} : KeepsTabs s (startExit k s) :=
  .ite (.refl _) (.after leaveRefresh_tabs updPart_tabs)

theorem bindBoundary_tabs {k : Nat} : KeepsTabs s (bindBoundary k s) := by
  unfold bindBoundary
  split
  · exact .refl _
  · exact .ite bindEffect_tabs
      (.ite (.refl _)
         (.ite startExit_tabs (.ite (.after lanesFor_tabs (.after hbmPrepare_tabs updPart_tabs)) (.refl _))))

theorem clearRun_tabs {k : Nat} : KeepsTabs s (clearRun k s) := updPart_tabs

theorem dropWork_tabs {k : Nat} : KeepsTabs s (dropWork k s) := updPipe_tabs

theorem endOutst_tabs {fn ring ticket : Nat} {d : Done} : KeepsTabs s (endOutst fn ring ticket d s) := updRing_tabs

theorem endRun_tabs {r : Run} {status : Nat} : KeepsTabs s (endRun r status s) := .ite (.refl _) endOutst_tabs

theorem nextFrame_tabs {k variant frame : Nat} {yields : Bool} :
    KeepsTabs s (nextFrame k variant frame yields s) := by
  unfold nextFrame
  exact updPart_tabs

theorem startVariant_tabs {k : Nat} {im : Image} {r : Run} {n : Nat} {yields : Bool} :
    KeepsTabs s (startVariant k im r n yields s) :=
  .ite (.after clearRun_tabs endRun_tabs) nextFrame_tabs

theorem endFrame_tabs {k : Nat} {im : Image} {r : Run} : KeepsTabs s (endFrame k im r s) := by
  unfold endFrame
  dsimp only
  split
  · exact .after dropWork_tabs (.after clearRun_tabs endRun_tabs)
  · split
    · exact .ite (.after clearRun_tabs endRun_tabs) nextFrame_tabs
    · exact .ite (.ite (.after clearRun_tabs endRun_tabs) startVariant_tabs)
        (by
           split
           · exact .ite branchNow_tabs (.refl _)
           · split
             · exact .after clearRun_tabs (.after endRun_tabs (.ite branchNow_tabs (.refl _)))
             · exact .after startVariant_tabs (.ite branchNow_tabs (.refl _))
             · exact .after clearRun_tabs (.after endRun_tabs (.ite branchNow_tabs (.refl _))))

theorem hbmPark_tabs {l : List Nat} : KeepsTabs s (hbmPark l s) := .after ((emitAll_touches _ _).tabs rfl) updPcs_tabs

theorem parkPart_tabs {k : Nat} {im : Image} : KeepsTabs s (parkPart k im s) := .after hbmPark_tabs updPart_tabs

theorem parkedBoundary_tabs {k : Nat} {im : Image} : KeepsTabs s (parkedBoundary k im s) :=
  .ite (.after hbmSchedule_tabs updPart_tabs)
    (.ite (.after hbmPrepare_tabs updPart_tabs) (.after updPart_tabs (.ite hbmUnprepare_tabs (.refl _))))

theorem hbmRelease_tabs {l : List Nat} : KeepsTabs s (hbmRelease l s) := updPcs_tabs

theorem cancelBind_tabs {k : Nat} : KeepsTabs s (cancelBind k s) := by
  unfold cancelBind
  split
  · exact .refl _
  · exact .after lanesFor_tabs (.after hbmRelease_tabs (.after updPart_tabs setSlot_tabs))

theorem detach_tabs {k : Nat} : KeepsTabs s (detach k s) := by
  unfold detach
  split
  · exact .refl _
  · exact .after setPart_tabs
      (.after lanesFor_tabs
         (.after resetComps_tabs
            (.after hbmRelease_tabs (.after setSlot_tabs (.lat (.refl _) fun wf => { wf with })))))

theorem endAllRuns_tabs {k status : Nat} : KeepsTabs s (endAllRuns k status s) := by
  unfold endAllRuns
  exact .after updPart_tabs (.foldl fun _ _ => endRun_tabs)

theorem quiesce_tabs {k : Nat} : KeepsTabs s (quiesce k s) := .after (.foldl fun _ _ => sendTile_tabs) updPart_tabs

theorem rejectHead_tabs {fn ring x status : Nat} : KeepsTabs s (rejectHead fn ring x status s) :=
  .after postCompletion_tabs updRing_tabs

theorem rejectNaming_tabs {sl : Nat} : KeepsTabs s (rejectNaming sl s) :=
  .foldl fun _ _ => by
    split
    · exact .ite rejectHead_tabs (.refl _)
    · exact .refl _

theorem resetEffect_tabs {k : Nat} : KeepsTabs s (resetEffect k s) := by
  unfold resetEffect
  dsimp only
  split
  · exact .after updPart_tabs cancelBind_tabs
  · exact .after detach_tabs (.after quiesce_tabs (.after rejectNaming_tabs (.after endAllRuns_tabs cancelBind_tabs)))

theorem unbindEffect_tabs {k : Nat} : KeepsTabs s (unbindEffect k s) := by
  unfold unbindEffect
  split
  · exact .after detach_tabs (.after rejectNaming_tabs (.ite (.after quiesce_tabs endAllRuns_tabs) (.refl _)))
  · exact .refl _

theorem boundaryPart_tabs {k : Nat} : KeepsTabs s (boundaryPart k s) := by
  unfold boundaryPart
  dsimp only
  exact .ite
    (.after resetEffect_tabs
       (.after updPart_tabs
          (by
             split
             · exact .ite endFrame_tabs (.ite (.after dropWork_tabs clearRun_tabs) (.refl _))
             · exact .refl _)))
    (.ite
       (.after unbindEffect_tabs
          (.after updPart_tabs
             (by
                split
                · exact .ite endFrame_tabs (.ite (.after dropWork_tabs clearRun_tabs) (.refl _))
                · exact .refl _)))
       (by
          split
          · exact .after bindBoundary_tabs
              (.after updPart_tabs
                 (by
                    split
                    · exact .ite endFrame_tabs (.ite (.after dropWork_tabs clearRun_tabs) (.refl _))
                    · exact .refl _))
          · exact .after (.ite parkedBoundary_tabs (.ite parkPart_tabs (.refl _)))
              (.after updPart_tabs
                 (.after updPart_tabs
                    (by
                       split
                       · exact .ite endFrame_tabs (.ite (.after dropWork_tabs clearRun_tabs) (.refl _))
                       · exact .refl _)))))

theorem swrr_tabs {ties : List (Nat × Nat)} : KeepsTabs s (swrr ties s).2 := by
  unfold swrr
  dsimp only
  split
  · exact .foldl fun _ _ => updRing_tabs
  · exact .after updRing_tabs (.foldl fun _ _ => updRing_tabs)

theorem choose_tabs {k : Nat} : KeepsTabs s (choose k s) := by
  unfold choose
  dsimp only
  split
  · exact .refl _
  · exact .ite updPart_tabs
      (by
         split
         · exact .refl _
         · split
           · exact updPart_tabs
           · split
             · exact .refl _
             · exact updPart_tabs
           · split
             · exact .after admitRun_tabs (.ofSnd swrr_tabs (by assumption))
             · exact .ofSnd swrr_tabs (by assumption))

theorem countIdle_tabs {k : Nat} : KeepsTabs s (countIdle k s) := updPart_tabs

theorem groupBoundary_tabs : KeepsTabs s (groupBoundary s) := by
  unfold groupBoundary
  split
  · exact .refl _
  · exact .ite (.after applySetting_tabs (.lat (.refl _) fun wf => { wf with })) (.refl _)

theorem sendEvent_tabs {p : FaultPkt} : KeepsTabs s (sendEvent p s) :=
  .ite (.after countUp_tabs (.ctl (.refl _) fun wf => { wf with eventsLost := Tab.wf_set _ _ wf.eventsLost }))
    (.ite (.ctl (.refl _) fun wf => { wf with
        heldEvent := Tab.wf_set _ _ wf.heldEvent }) (.ctl (.refl _) fun wf => { wf with inject := Tab.wf_set _ _ wf.inject }))

theorem judgeWindow_tabs {k : Nat} {r : LatRec} : KeepsTabs s (judgeWindow k s r) :=
  .ite (.lat (.refl _) fun wf => { wf with })
    (by
       split
       · exact .after breach_tabs
           (.after countUp_tabs (.after (.lat (.refl _) fun wf => { wf with }) (.ite countUp_tabs (.refl _))))
       · exact .after (.ite (.refl _) (.after sendEvent_tabs updRun_tabs))
           (.after breach_tabs
              (.after countUp_tabs (.after (.lat (.refl _) fun wf => { wf with }) (.ite countUp_tabs (.refl _))))))

theorem judgeWindows_tabs {k : Nat} : KeepsTabs s (judgeWindows k s) :=
  .ite (.refl _)
    (by
       split
       · exact .refl _
       · split
         · exact .refl _
         · exact .foldl fun _ _ => judgeWindow_tabs)

theorem setGate_tabs {ts : List Nat} {on : Bool} : KeepsTabs s (setGate ts on s) :=
  .tiles (.refl _) fun wf => { wf with plane := ⟨wf.parts, wf.slots, Tab.wf_updAll _ _ wf.tile, wf.layout⟩ }

theorem reshape_tabs {k : Nat} {rc : Rect} : KeepsTabs s (reshape k rc s) :=
  .ite (.refl _)
    (.after setGate_tabs (.after (.layout (.refl _) fun wf => { wf with
        plane := ⟨wf.parts, wf.slots, wf.tile, Tab.wf_set _ _ wf.layout⟩ }) (.after leaveRefresh_tabs updPart_tabs)))

theorem layoutBoundary_tabs : KeepsTabs s (layoutBoundary s) := by
  unfold layoutBoundary
  split
  · exact .refl _
  · exact .after setGate_tabs (.after (.foldl fun _ _ => reshape_tabs) (.layoutPend (.refl _)))

theorem violation_tabs {fn cls : Nat} : KeepsTabs s (violation fn cls s) :=
  .ite (.refl _)
    (.after (.ite (.refl _) (.after sendEvent_tabs (.win (.refl _) fun wf => { wf with
        noted := Tab.wf_set _ _ wf.noted }))) countUp_tabs)

theorem screenRing_tabs {fr : Nat × Nat} : KeepsTabs s (screenRing s fr) := by
  unfold screenRing
  dsimp only
  split
  · exact .refl _
  · split
    · exact rejectHead_tabs
    · exact .ite (.after rejectHead_tabs violation_tabs) (.ite rejectHead_tabs (.ite rejectHead_tabs updRing_tabs))

theorem boundary_tabs : KeepsTabs s (boundary s) :=
  .after (.foldl fun _ _ => (issueReads_touches _ _).tabs rfl)
    (.after (.foldl fun _ _ => judgeWindows_tabs)
       (.after (.foldl fun _ _ => countIdle_tabs)
          (.after (.foldl fun _ _ => choose_tabs)
             (.after (.foldl fun _ _ => screenRing_tabs)
                (.after (.foldl fun _ _ => boundaryPart_tabs)
                   (.after layoutBoundary_tabs (.after groupBoundary_tabs (.clk (.refl _)))))))))

theorem keepWaiting_tabs : KeepsTabs s (keepWaiting s) := updParts_tabs

theorem rejoinParts_tabs {ok : Bool} : KeepsTabs s (rejoinParts ok s) := updParts_tabs

theorem releaseTick_tabs {fsf : Nat} {setting : Option (BitVec 9)} {resume : Bool} :
    KeepsTabs s (releaseTick fsf setting resume s) := by
  have released {off : Nat} : KeepsTabs s { s with
      clk := { s.clk with held := false }, lat := { s.lat with fsfOff := off } } := fun wf => { wf with }
  unfold releaseTick
  refine .after keepWaiting_tabs (.after boundary_tabs (.after rejoinParts_tabs ?_))
  split
  · exact .after advanceFree_tabs (.after countBy_tabs released)
  · exact .after applySetting_tabs
      (.lat (.after advanceFree_tabs (.after countBy_tabs released)) fun wf => { wf with })

theorem applyRelease_tabs {r : Release} : KeepsTabs s (applyRelease r s) :=
  .after releaseTick_tabs (.after (.ite markLate_tabs (.refl _)) (.pm_lat (.refl _) fun wf => { wf with }))

theorem applyStored_tabs : KeepsTabs s (applyStored s) := .ite (.pm (.refl _) fun wf => { wf with }) (.refl _)

theorem sendRelease_tabs {r : Release} {delay : Nat} : KeepsTabs s (sendRelease r delay s) :=
  .foldl fun _ _ => by
    split
    · exact .refl _
    · exact sendCtrl_tabs

theorem releaseBarrier_tabs {late : Bool} : KeepsTabs s (releaseBarrier late s) :=
  .after sendRelease_tabs (.lat (.refl _) fun wf => { wf with })

theorem arriveTry_tabs : KeepsTabs s (arriveTry s) :=
  .ite (.ite releaseBarrier_tabs (.ite (.lat (.refl _) fun wf => { wf with }) (.refl _)))
    (.ite
       (by
          split
          · exact .refl _
          · exact .after sendCtrl_tabs (.lat (.refl _) fun wf => { wf with }))
       (.refl _))

theorem askPieces_tabs {phase : Nat} {pieces : List Nat} {a : PoolAcc} :
    KeepsTabs s (askPieces phase pieces a s) :=
  .after (.foldl fun _ _ => .ite queueLocal_tabs sendAcc_tabs) setAcc_tabs

theorem failBlock_tabs {b : Nat} : KeepsTabs s (failBlock b s) := by
  unfold failBlock
  dsimp only
  exact .ite (.refl _)
    (.after
       (.ite
          (.ite (.after sendEvent_tabs (.dense (.refl _) fun wf => { wf with }))
             (.dense (.refl _) fun wf => { wf with }))
          (.refl _))
       sendEvent_tabs)

theorem assignRoles_tabs {p : Nat} : KeepsTabs s (assignRoles p s) := by
  unfold assignRoles
  dsimp only
  exact .after (.ite (.hbm_dense_pool (.refl _) fun wf => { wf with
      unit := ⟨wf.pc, wf.stack, wf.sensors, wf.port, wf.region, wf.flag, wf.comp, Tab.wf_nil _, wf.drive⟩,
      role := Tab.wf_updAll _ _ wf.role }) (.hbm_pool (.refl _) fun wf => { wf with role := Tab.wf_updAll _ _ wf.role }))
    (.ite (.foldl fun _ _ => failBlock_tabs) (.refl _))

theorem queueCache_tabs {k : Nat} {j : CacheJob} : KeepsTabs s (queueCache k j s) := updPc_tabs

theorem updLine_tabs {k : Nat} {f : CacheLine → CacheLine} : KeepsTabs s (updLine k f s) :=
  .dense (.refl _) fun wf => { wf with
      unit := ⟨wf.pc, wf.stack, wf.sensors, wf.port, wf.region, wf.flag, wf.comp, Tab.wf_set _ _ wf.lines, wf.drive⟩ }

theorem startWrite_tabs {k reason : Nat} : KeepsTabs s (startWrite k reason s) :=
  .after queueCache_tabs (.after updLine_tabs (.dense (.refl _) fun wf => { wf with }))

theorem assignGo_tabs {fuel : Nat} : KeepsTabs s (assignGo fuel s) := by
  induction fuel generalizing s with
  | zero => exact .refl _
  | succ fuel ih =>
    unfold assignGo
    split
    · exact .refl _
    · dsimp only
      exact .ite (.refl _) (.ite
        (.after ih (.after (.ite mciReply_tabs (.after mciReply_tabs assignRoles_tabs))
          (.dense (.foldl fun _ _ => startWrite_tabs) fun wf => { wf with })))
        (.foldl fun _ _ => startWrite_tabs))

theorem attachDrives_tabs {l : List (Nat × Nat × Nat)} : KeepsTabs s (attachDrives l s) :=
  .dense (.refl _) fun wf => { wf with
      unit := ⟨wf.pc, wf.stack, wf.sensors, wf.port, wf.region, wf.flag, wf.comp, Tab.wf_nil _,
        wf_attachedDrives wf.drive⟩,
      healing := Tab.wf_nil _ }

theorem attachFound_tabs {who tag : Nat} {found : List DriveIn} : KeepsTabs s (attachFound who tag found s) :=
  .after
    (.ite mciReply_tabs (.after mciReply_tabs (.after (.dense (.refl _) fun wf => { wf with }) attachDrives_tabs)))
    (.foldl fun _ _ => sendEvent_tabs)

theorem attachGo_tabs {fuel : Nat} : KeepsTabs s (attachGo fuel s) := by
  induction fuel generalizing s with
  | zero => exact .refl _
  | succ fuel ih =>
    unfold attachGo
    split
    · exact .refl _
    · dsimp only
      exact .ite (.after ih (.after (.ite mciReply_tabs attachFound_tabs) (.dense (.refl _) fun wf => { wf with })))
        (.refl _)

theorem updFn_tabs {fn : Nat} {f : Fn → Fn} : KeepsTabs s (updFn fn f s) := .rings (.refl _) fun wf => { wf with
    host := ⟨wf.ring, Tab.wf_set _ _ wf.fn, wf.vec, wf.counters⟩ }

theorem fnAttention_tabs {fn b : Nat} : KeepsTabs s (fnAttention fn b s) :=
  .after (.ite raiseVector_tabs (.refl _)) updFn_tabs

theorem badDoorbell_tabs {fn ring : Nat} : KeepsTabs s (badDoorbell fn ring s) :=
  .after (.ite (.refl _) (.after sendEvent_tabs updRing_tabs)) (.after fnAttention_tabs countUp_tabs)

theorem barWrite_tabs {fn : Nat} {act : State → State} (kept : ∀ {t}, KeepsTabs t (act t)) :
    KeepsTabs s (barWrite fn act s) := by
  unfold barWrite
  exact .ite ((emit_touches _ _).tabs rfl) (.ite (.refl _) kept)

theorem coldClear_tabs : KeepsTabs s (coldClear s) :=
  .clk_boot_fmap_hbm_logs_lanes_fw_pm_lat_pool_counters (.refl _) fun wf => { wf with
      host := ⟨wf.ring, wf.fn, wf.vec, Tab.wf_nil _⟩,
      unit := ⟨Tab.wf_updAll _ _ wf.pc, wf.stack, wf_coldSensors wf.sensors, wf.port, wf.region, Tab.wf_nil _, wf.comp,
        wf.lines, wf.drive⟩,
      cluster := Tab.wf_nil _, stitch := Tab.wf_nil _, pendCluster := Tab.wf_nil _, pendStitch := Tab.wf_nil _ }

theorem beginStart_tabs {sIn : State} : KeepsTabs sIn (beginStart sIn) :=
  .after (.clk_pins_boot_hbm_lanes_pm (.refl _) fun wf => { wf with
      unit := ⟨wf.pc, Tab.wf_updAll _ _ wf.stack, wf.sensors, wf.port, wf.region, wf.flag, wf.comp, wf.lines,
        wf.drive⟩ }) (.ite coldClear_tabs (.refl _))

theorem tileInTest_tabs {p : Nat} : KeepsTabs s (tileInTest p s) := .ite updTile_tabs (.refl _)

theorem startTest_tabs {t : LaneTest} : KeepsTabs s (startTest t s) :=
  .after (.ite updStack_tabs (.refl _)) (.after tileInTest_tabs (.buf (.refl _) fun wf => { wf with }))

theorem beginTest_tabs : KeepsTabs s (beginTest s) :=
  .after (.foldl fun _ _ => startTest_tabs) (.lanes (.refl _) fun wf => { wf with })

theorem blockFault_tabs {reason sev unit : Nat} {detail : Option Nat} {src : Nat} :
    KeepsTabs s (blockFault reason sev unit detail src s) :=
  sendFault_tabs

theorem dataPathBreach_tabs {reason router : Nat} : KeepsTabs s (dataPathBreach reason router s) := by
  unfold dataPathBreach
  split
  · exact .after breach_tabs routerFault_tabs
  · exact routerFault_tabs

theorem withdrawStall_tabs {router : Nat} : KeepsTabs s (withdrawStall router s) := by
  unfold withdrawStall
  dsimp only
  split
  · exact .refl _
  · split
    · exact .after updRun_tabs (.ctl_tiles (.refl _) fun wf => { wf with })
    · exact .ctl_tiles (.refl _) fun wf => { wf with }

theorem bondParity_tabs {router : Nat} : KeepsTabs s (bondParity router s) :=
  .after dataPathBreach_tabs (.after withdrawStall_tabs (.tiles (.refl _) fun wf => { wf with }))

theorem bootRecord_tabs {active : Nat} {trial : Bool} {failed : Nat} :
    KeepsTabs s (bootRecord active trial failed s) :=
  .fw (.refl _) fun wf => { wf with }

theorem sendAll_tabs {except : Option Nat} {x : Nat} : KeepsTabs s (sendAll except x s) :=
  .foldl fun _ _ => .ite (.refl _) sendCtrl_tabs

theorem floodOwn_tabs {msg body : Nat} : KeepsTabs s (floodOwn msg body s) :=
  .after sendAll_tabs (.lat (.refl _) fun wf => { wf with ownFlood := Tab.wf_set _ _ wf.ownFlood })

theorem joinGroup_tabs : KeepsTabs s (joinGroup s) :=
  .ite (.lat (.refl _) fun wf => { wf with })
    (.ite (.refl _) (.after floodOwn_tabs (.lat (.refl _) fun wf => { wf with })))

theorem noteRestored_tabs {m port : Nat} : KeepsTabs s (noteRestored m port s) := .lat (.refl _) fun wf => { wf with }

theorem bringUp_tabs {port msg : Nat} : KeepsTabs s (bringUp port msg s) :=
  .after (.ite joinGroup_tabs (.refl _))
    (.after (.ite (.after noteRestored_tabs floodOwn_tabs) (.refl _)) updPort_tabs)

theorem bumpGen_tabs : KeepsTabs s (bumpGen s) := .win (.refl _) fun wf => { wf with }

theorem hbmCount_tabs {pc which n : Nat} : KeepsTabs s (hbmCount pc which n s) :=
  .after (.ite blockFault_tabs (.refl _)) (.ite (.refl _) countBy_tabs)

theorem injectHbm_tabs {line : Nat} : KeepsTabs s (injectHbm line s) :=
  .ite (.after injectDone_tabs (.hbm (.refl _) fun wf => { wf with
      unit := ⟨wf.pc, wf.stack, wf.sensors, wf.port, wf.region, Tab.wf_set _ _ wf.flag, wf.comp, wf.lines,
        wf.drive⟩ }))
    (.ite (.after injectDone_tabs (.hbm (.refl _) fun wf => { wf with
        unit := ⟨wf.pc, wf.stack, wf.sensors, wf.port, wf.region, Tab.wf_set _ _ wf.flag, wf.comp, wf.lines,
          wf.drive⟩ })) (.refl _))

theorem noteRowError_tabs {pc line : Nat} {unc : Bool} : KeepsTabs s (noteRowError pc line unc s) := updPc_tabs

theorem hbmRead_tabs {line : Nat} {sIn : State} : KeepsTabs sIn (hbmRead line sIn).2 := by
  unfold hbmRead
  dsimp only
  split
  · exact injectHbm_tabs
  · exact .after updPc_tabs (.after noteRowError_tabs (.after hbmCount_tabs injectHbm_tabs))
  · exact .after updPc_tabs (.after noteRowError_tabs (.after hbmCount_tabs injectHbm_tabs))
  · exact .after (.ite (.refl _) (.after blockFault_tabs updPc_tabs))
      (.after ((noteStack_touches _ _).tabs rfl) (.after noteRowError_tabs (.after hbmCount_tabs injectHbm_tabs)))
  · exact injectHbm_tabs

theorem cacheGet_tabs {b k off : Nat} : KeepsTabs s (cacheGet b k off s).2 := hbmRead_tabs

theorem healLine_tabs {b i : Nat} : KeepsTabs s (healLine b i s) :=
  .ite (.refl _) (.ite (.dense (.refl _) fun wf => { wf with
      healing := Tab.wf_set _ _ wf.healing }) (.dense (.refl _) fun wf => { wf with healing := Tab.wf_set _ _ wf.healing }))

theorem cachePut_tabs {b k off : Nat} {d : LineData} {poison : Bool} : KeepsTabs s (cachePut b k off d poison s) :=
  .after healLine_tabs (.after hbmWrite_tabs updLine_tabs)

theorem calEvent_tabs {unit status : Nat} : KeepsTabs s (calEvent unit status s) := sendEvent_tabs

theorem noteInvalid_tabs {bundle status : Nat} : KeepsTabs s (noteInvalid bundle status s) :=
  .lanes (.refl _) fun wf => { wf with laneStatus := Tab.wf_set _ _ wf.laneStatus }

theorem calInvalid_tabs {bundle status : Nat} : KeepsTabs s (calInvalid bundle status s) :=
  .after calEvent_tabs noteInvalid_tabs

theorem steerEvents_tabs {es : List Nat} : KeepsTabs s (steerEvents es s) := .foldl fun _ _ => sendEvent_tabs

theorem calValid_tabs {bundle : Nat} {failed : List Nat} : KeepsTabs s (calValid bundle failed s) :=
  .ite (.lanes (.refl _) fun wf => { wf with laneStatus := Tab.wf_set _ _ wf.laneStatus })
    (.ite (.after steerEvents_tabs (.lanes (.refl _) fun wf => { wf with
        laneStatus := Tab.wf_set _ _ wf.laneStatus }))
       (.lanes (.refl _) fun wf => { wf with laneStatus := Tab.wf_set _ _ wf.laneStatus }))

theorem calResult_tabs {bundle status : Nat} {failed : List Nat} :
    KeepsTabs s (calResult bundle status failed s) :=
  .ite calValid_tabs calInvalid_tabs

theorem setSensor_tabs {key : Nat} {z : Sensor} : KeepsTabs s (setSensor key z s) :=
  .pm (.refl _) fun wf => { wf with
      unit := ⟨wf.pc, wf.stack, Tab.wf_set _ _ wf.sensors, wf.port, wf.region, wf.flag, wf.comp, wf.lines, wf.drive⟩ }

theorem calibrate_tabs {cals : List CalIn} {c : CalIn} : KeepsTabs s (calibrate cals s c) :=
  .after (.ite (.refl _) calEvent_tabs)
    (.after (.ite (.ite setSensor_tabs (.ite setSensor_tabs (.refl _))) (.refl _))
       (.pm (.refl _) fun wf => { wf with
           sensorCal := Tab.wf_set _ _ wf.sensorCal, trims := wf_ite wf.trims (Tab.wf_set _ _ wf.trims) }))

theorem capture_tabs : KeepsTabs s (capture s) := .clk_regs (.refl _) fun wf => { wf with }

theorem evtAttention_tabs {sev : Nat} : KeepsTabs s (evtAttention sev s) :=
  .ite (.after (.ite raiseVector_tabs (.refl _)) (.regs (.refl _) fun wf => { wf with })) (.refl _)

theorem logExt_tabs {reason sev unit detail src : Nat} {repl : Bool} {ext : Nat} :
    KeepsTabs s (logExt reason sev unit detail src repl ext s) :=
  .after (.ite ((mpPersist_touches _ _ _).tabs rfl) (.refl _))
    (.after (.ite (.after (.ite countUp_tabs (.refl _)) (.logs (.refl _))) (.refl _))
       (.after evtAttention_tabs (.logs (.refl _))))

theorem logEntry_tabs {reason sev unit detail src : Nat} {repl : Bool} :
    KeepsTabs s (logEntry reason sev unit detail src repl s) :=
  logExt_tabs

theorem mpEvent_tabs {reason sev unit detail : Nat} : KeepsTabs s (mpEvent reason sev unit detail s) := logEntry_tabs

theorem invalidate_tabs {n why : Nat} : KeepsTabs s (invalidate n why s) :=
  .after mpEvent_tabs
    (.after setSlot_tabs
       (.foldl fun _ _ =>
          .after (.ite (.after detach_tabs (.after quiesce_tabs endAllRuns_tabs)) (.refl _))
            (.ite cancelBind_tabs (.refl _))))

theorem checkImage_tabs {n : Nat} : KeepsTabs s (checkImage s n) :=
  .ite (.refl _)
    (.ite invalidate_tabs
       (by
          split
          · exact .refl _
          · exact invalidate_tabs))

theorem checkImages_tabs : KeepsTabs s (checkImages s) := .foldl fun _ _ => checkImage_tabs

theorem clearCounter_tabs {id idx : Nat} : KeepsTabs s (clearCounter id idx s) := by
  unfold clearCounter
  dsimp only
  exact .ite (.logs (.refl _))
    (.ite (.buf_counters (.refl _) fun wf => { wf with host := ⟨wf.ring, wf.fn, wf.vec, Tab.wf_set _ _ wf.counters⟩ })
       (.after (.ite updPc_tabs (.refl _)) (.counters (.refl _) fun wf => { wf with
           host := ⟨wf.ring, wf.fn, wf.vec, Tab.wf_set _ _ wf.counters⟩ })))

theorem clearPlane_tabs : KeepsTabs s (clearPlane s) :=
  .parts_layout_layoutPend_slots_buf_comp_ctl_tiles_rings_regs_win (.refl _) fun wf => { wf with
      host := ⟨Tab.wf_nil _, Tab.wf_nil _, Tab.wf_nil _, wf.counters⟩,
      plane := ⟨Tab.wf_nil _, Tab.wf_nil _, Tab.wf_nil _, Tab.wf_nil _⟩,
      unit := ⟨wf.pc, wf.stack, wf.sensors, wf.port, wf.region, wf.flag, Tab.wf_nil _, wf.lines, wf.drive⟩,
      slice := ⟨wf.bad, wf.single, wf.counted, Tab.wf_nil _, Tab.wf_nil _⟩, rsvd := Tab.wf_nil _,
      mbxWindow := Tab.wf_nil _, ctlLast := Tab.wf_nil _, scrubPos := Tab.wf_nil _, scrubLast := Tab.wf_nil _,
      inject := Tab.wf_nil _, heldEvent := Tab.wf_nil _, eventsLost := Tab.wf_nil _, resends := Tab.wf_nil _,
      inForce := Tab.wf_nil _, shadow := Tab.wf_nil _, noted := Tab.wf_nil _, idleOps := Tab.wf_nil _,
      discards := Tab.wf_nil _, channels := Tab.wf_nil _ }

theorem clearPortRws_tabs {fns : List Nat} : KeepsTabs s (clearPortRws fns s) :=
  .counters (.refl _) fun wf => { wf with host := ⟨wf.ring, wf.fn, wf.vec, Tab.wf_updAll _ _ wf.counters⟩ }

theorem settle_tabs : KeepsTabs s (settle s) := .ite (.refl _) boundary_tabs

theorem switchFn_tabs {gen : BitVec 64} {fn : Nat} : KeepsTabs s (switchFn gen s fn) :=
  .after fnAttention_tabs (.after updFn_tabs (.win (.refl _) fun wf => { wf with
      inForce := Tab.wf_set _ _ wf.inForce }))

theorem switchFns_tabs {fns : List Nat} : KeepsTabs s (switchFns fns s) :=
  .after (.foldl fun _ _ => switchFn_tabs) (.after (.win (.refl _) fun wf => { wf with }) settle_tabs)

theorem clearVfWindows_tabs : KeepsTabs s (clearVfWindows s) := by
  unfold clearVfWindows
  generalize rangeFrom 1 63 = vfs
  exact .after switchFns_tabs (.win (.refl _) fun wf => { wf with shadow := Tab.wf_updAll _ _ wf.shadow })

theorem restDense_tabs : KeepsTabs s (restDense s) := .dense (.refl _) fun wf => { wf with
    unit := ⟨wf.pc, wf.stack, wf.sensors, wf.port, wf.region, wf.flag, wf.comp, Tab.wf_nil _, Tab.wf_nil _⟩,
    healing := Tab.wf_nil _ }

theorem restHbm_tabs : KeepsTabs s (restHbm s) :=
  .after ((emitAll_touches _ _).tabs rfl) (.hbm (.refl _) fun wf => { wf with
      unit := ⟨Tab.wf_updAll _ _ wf.pc, Tab.wf_updAll _ _ (Tab.wf_nil _), wf.sensors, wf.port, wf.region, wf.flag,
        wf.comp, wf.lines, wf.drive⟩ })

theorem restLanes_tabs : KeepsTabs s (restLanes s) := .fmap_lanes (.refl _) fun wf => { wf with
    laneStatus := Tab.wf_nil _, cluster := Tab.wf_nil _, stitch := Tab.wf_nil _, pendCluster := Tab.wf_nil _,
    pendStitch := Tab.wf_nil _ }

theorem restLattice_tabs : KeepsTabs s (restLattice s) := .lat (.refl _) fun wf => { wf with
    unit := ⟨wf.pc, wf.stack, wf.sensors, Tab.wf_nil _, wf.region, wf.flag, wf.comp, wf.lines, wf.drive⟩,
    treqs := Tab.wf_nil _, floods := Tab.wf_nil _, ownFlood := Tab.wf_nil _ }

theorem restMp_tabs : KeepsTabs s (restMp s) := .pins_fw (.refl _) fun wf => { wf with
    eid := Tab.wf_nil _, spdm := Tab.wf_nil _ }

theorem releaseExtents_tabs {region : Nat} : KeepsTabs s (releaseExtents region s) :=
  .after updRegion_tabs (.pool (.refl _) fun wf => { wf with })

theorem leaveRegion_tabs {e : Nat × Region} : KeepsTabs s (leaveRegion e s) :=
  .ite (.refl _) (.after releaseExtents_tabs (.foldl fun _ _ => updRegion_tabs))

theorem restPool_tabs : KeepsTabs s (restPool s) :=
  .after (.pool (.refl _) fun wf => { wf with
      unit := ⟨wf.pc, wf.stack, wf.sensors, wf.port, Tab.wf_updAll _ _ wf.region, wf.flag, wf.comp, wf.lines,
        wf.drive⟩,
      mail := Tab.wf_nil _ }) (.foldl fun _ _ => leaveRegion_tabs)

theorem stopModule_tabs : KeepsTabs s (stopModule s) :=
  .after (.clk_pins_logs_counters (.refl _) fun wf => { wf with
      host := ⟨wf.ring, wf.fn, wf.vec, Tab.wf_filter _ wf.counters⟩ })
    (.after restMp_tabs
       (.after restLanes_tabs
          (.after restLattice_tabs
             (.after restPool_tabs (.after restDense_tabs (.after restHbm_tabs clearPlane_tabs))))))

theorem fatalStop_tabs : KeepsTabs s (fatalStop s) := .after (.boot (.refl _)) stopModule_tabs

theorem clockLossNow_tabs {src : Nat} : KeepsTabs s (clockLossNow src s) :=
  .after (.clk_boot (.refl _)) (.after fatalStop_tabs ((fatalEvent_touches _ _ _).tabs rfl))

theorem noteDescFault_tabs {port : Nat} : KeepsTabs s (noteDescFault port s) := .after blockFault_tabs countUp_tabs

theorem updComp_tabs {port dir : Nat} {f : Comp → Comp} : KeepsTabs s (updComp port dir f s) :=
  .comp (.refl _) fun wf => { wf with
      unit := ⟨wf.pc, wf.stack, wf.sensors, wf.port, wf.region, wf.flag, Tab.wf_set _ _ wf.comp, wf.lines, wf.drive⟩ }

theorem closeBlock_tabs {port : Nat} {last : Bool} : KeepsTabs s (closeBlock port last s) := by
  unfold closeBlock
  dsimp only
  split
  · exact .after updComp_tabs (.after (.ite countUp_tabs (.refl _)) (.ite noteDescFault_tabs (.refl _)))
  · exact .refl _

theorem closeBrake_tabs : KeepsTabs s (closeBrake s) :=
  .ite (.refl _) (.after countBy_tabs (.pm (.refl _) fun wf => { wf with }))

theorem updMail_tabs {pbr slot : Nat} {f : MailSlot → MailSlot} : KeepsTabs s (updMail pbr slot f s) :=
  .pool (.refl _) fun wf => { wf with mail := Tab.wf_set _ _ wf.mail }

theorem commandEnd_tabs {x : PoolCmd} {sIn : State} : KeepsTabs sIn (commandEnd x sIn) := by
  unfold commandEnd
  dsimp only
  split
  · exact .after updateBoxes_tabs (.after updMail_tabs (.pool (.refl _) fun wf => { wf with }))
  · split
    · exact .rings_pool (.refl _) fun wf => { wf with }
    · exact .after completeOutst_tabs (.pool (.refl _) fun wf => { wf with })
  · exact .after sendRsp_tabs (.pool (.refl _) fun wf => { wf with })

theorem updStage_tabs {fn ticket : Nat} {f : Outst → Outst} : KeepsTabs s (updStage fn ticket f s) :=
  .after (.ite (.refl _) (.rings (.refl _) fun wf => { wf with })) updRing_tabs

theorem stageRead_tabs {fn ticket off : Nat} {d : LineData} {poison : Bool} {fail : Option Nat} :
    KeepsTabs s (stageRead fn ticket off d poison fail s) := by
  unfold stageRead
  split
  · exact .refl _
  · exact .after ((emit_touches _ _).tabs rfl) updStage_tabs

theorem stageWritten_tabs {fn ticket : Nat} {fail : Option Nat} : KeepsTabs s (stageWritten fn ticket fail s) :=
  updStage_tabs

theorem ctlAnswer_tabs {o : Origin} {router status : Nat} {write : Bool} {d : LineData} :
    KeepsTabs s (ctlAnswer o router status write d s) := by
  unfold ctlAnswer
  split
  · exact (emit_touches _ _).tabs rfl
  · exact .ite stageWritten_tabs stageRead_tabs
  · exact .refl _

theorem noteControl_tabs {router line : Nat} : KeepsTabs s (noteControl router line s) := by
  unfold noteControl
  split
  · exact .refl _
  · exact noteWrite_tabs

theorem commitAccess_tabs {q : CtlReq} {sIn : State} : KeepsTabs sIn (commitAccess q sIn) :=
  .after
    (.ite (.after ctlAnswer_tabs (.after noteControl_tabs storeLine_tabs)) (.after ctlAnswer_tabs countErrors_tabs))
    (.ite (.refl _) injectLine_tabs)

theorem completeToken_tabs {region : Nat} {good : Bool} : KeepsTabs s (completeToken region good s) :=
  .after replicate_tabs updRegion_tabs

theorem consentTo_tabs {c : Consent} : KeepsTabs s (consentTo c s) :=
  .after (.ite (.refl _) mpEvent_tabs) (.lanes (.refl _) fun wf => { wf with })

theorem pwrAttention_tabs {b : Nat} : KeepsTabs s (pwrAttention b s) :=
  .after (.ite raiseVector_tabs (.refl _)) (.regs (.refl _) fun wf => { wf with })

theorem countBrake_tabs : KeepsTabs s (countBrake s) :=
  .after pwrAttention_tabs (.after countUp_tabs (.pm (.refl _) fun wf => { wf with }))

theorem countHot_tabs {sensor : Nat} {raw : BitVec 16} : KeepsTabs s (countHot sensor raw s) := setSensor_tabs

theorem countIdleOp_tabs {router : Nat} : KeepsTabs s (countIdleOp router s) := .buf (.refl _) fun wf => { wf with
    idleOps := Tab.wf_set _ _ wf.idleOps }

theorem countRead_tabs {fn off : Nat} : KeepsTabs s (countRead fn off s) :=
  .ite (.refl _) (.ite updRing_tabs (.ite updRing_tabs (.refl _)))

theorem settleFlush_tabs {fn ring : Nat} : KeepsTabs s (settleFlush fn ring s) := .ite updRing_tabs (.refl _)

theorem cqDoorbell_tabs {fn ring : Nat} {value : BitVec 32} : KeepsTabs s (cqDoorbell fn ring value s) :=
  .ite badDoorbell_tabs (.after settleFlush_tabs updRing_tabs)

theorem tableFailure_tabs {opx : Nat} : KeepsTabs s (tableFailure opx s) :=
  .ite (.after replicate_tabs (.after updRegion_tabs releaseExtents_tabs)) (.refl _)

theorem tableSuccess_tabs {opx : Nat} : KeepsTabs s (tableSuccess opx s) :=
  .ite (.refl _) (.ite (.after replicate_tabs updRegion_tabs) (.after replicate_tabs updRegion_tabs))

theorem tableReply_tabs {ref status : Nat} : KeepsTabs s (tableReply ref status s) := by
  unfold tableReply
  split
  · exact .refl _
  · exact .ite (.after answerTable_tabs (.after tableFailure_tabs (.pool (.refl _) fun wf => { wf with })))
      (.ite (.after answerTable_tabs (.after tableSuccess_tabs (.pool (.refl _) fun wf => { wf with })))
         (.pool (.refl _) fun wf => { wf with }))

theorem tableWait_tabs {who opx tag left : Nat} : KeepsTabs s (tableWait who opx tag left s) :=
  .after (.ite tableReply_tabs (.refl _)) (.pool (.refl _) fun wf => { wf with })

theorem orderAll_tabs {kind : Nat} {ms : List Nat} {who opx tag x : Nat} :
    KeepsTabs s (orderAll kind ms who opx tag x s) :=
  .after tableWait_tabs (.foldl fun _ _ => sendTable_tabs)

theorem allocExtents_tabs {region : Nat} {t : State} (e : allocExtents region s = some t) : KeepsTabs s t := by
  unfold allocExtents at e
  dsimp only at e
  split at e <;> cases e
  exact updRegion_tabs

theorem allocHere_tabs {x : Nat} {t : State} (e : allocHere x s = some t) : KeepsTabs s t := by
  unfold allocHere at e
  split at e
  · split at e
    · exact .after (allocExtents_tabs e) updRegion_tabs
    · cases e
  · exact allocExtents_tabs e

theorem createRun_tabs {who tag x : Nat} : KeepsTabs s (createRun who tag x s) :=
  .ite answerTable_tabs
    (.ite
       (by
          split
          · exact answerTable_tabs
          · exact .after orderAll_tabs (allocHere_tabs (by assumption)))
       (.after orderAll_tabs updRegion_tabs))

theorem queueCtl_tabs {router line : Nat} {write : Bool} {data : LineData} {mask : LineMask} {o : Origin} :
    KeepsTabs s (queueCtl router line write data mask o s) :=
  .buf (.refl _) fun wf => { wf with }

theorem ctlArrive_tabs {router line : Nat} {write : Bool} {data : LineData} {mask : LineMask} {o : Origin} :
    KeepsTabs s (ctlArrive router line write data mask o s) := by
  unfold ctlArrive
  split
  · exact .after ctlAnswer_tabs ((drawLine_touches _).tabs rfl)
  · exact queueCtl_tabs

theorem deadRouter_tabs {n : Nat} : KeepsTabs s (deadRouter n s) :=
  .ite (.after mpEvent_tabs (.fmap (.refl _) fun wf => { wf with })) (.refl _)

theorem deadenPcs_tabs {pcs : List Nat} : KeepsTabs s (deadenPcs pcs s) := .fmap (.refl _) fun wf => { wf with }

theorem declareLost_tabs {m : Nat} : KeepsTabs s (declareLost m s) :=
  .ite (.refl _)
    (.after (.ite floodOwn_tabs (.refl _)) (.after mpEvent_tabs (.lat (.refl _) fun wf => { wf with
        treqs := Tab.wf_set _ _ wf.treqs, floods := Tab.wf_filter _ wf.floods })))

theorem deleteHere_tabs {region : Nat} : KeepsTabs s (deleteHere region s) :=
  .after bumpGen_tabs (.after aclInForce_tabs updRegion_tabs)

theorem deleteRun_tabs {who tag x : Nat} : KeepsTabs s (deleteRun who tag x s) :=
  .ite answerTable_tabs (.after orderAll_tabs deleteHere_tabs)

theorem denial_tabs {region : Nat} : KeepsTabs s (denial region s) :=
  .after (.ite (.refl _) (.after sendEvent_tabs (.win (.refl _) fun wf => { wf with
      noted := Tab.wf_set _ _ wf.noted }))) countUp_tabs

theorem flushEnds_tabs {good : Bool} {f : DenseFlush} : KeepsTabs s (flushEnds good f s) := by
  unfold flushEnds
  split
  · exact mciReply_tabs
  · exact updRegion_tabs

theorem updDrive_tabs {d : Nat} {f : Drive → Drive} : KeepsTabs s (updDrive d f s) :=
  .dense (.refl _) fun wf => { wf with
      unit := ⟨wf.pc, wf.stack, wf.sensors, wf.port, wf.region, wf.flag, wf.comp, wf.lines, Tab.wf_set _ _ wf.drive⟩ }

theorem sendDrive_tabs {d cmd b data : Nat} : KeepsTabs s (sendDrive d cmd b data s) := by
  unfold sendDrive
  split
  · exact .after ((emit_touches _ _).tabs rfl) updDrive_tabs
  · exact updDrive_tabs

theorem flushOne_tabs {f : DenseFlush} : KeepsTabs s (flushOne f s) :=
  .after (.ite (.after flushEnds_tabs (.dense (.refl _) fun wf => { wf with })) (.refl _))
    (.after (.ite (.foldl fun _ _ => sendDrive_tabs) (.refl _))
       (.after (.dense (.refl _) fun wf => { wf with })
          (.foldl fun _ _ => by
             split
             · exact .ite startWrite_tabs (.refl _)
             · exact .refl _)))

theorem flushGo_tabs : KeepsTabs s (flushGo s) := .foldl fun _ _ => flushOne_tabs

theorem denseGo_tabs {sIn : State} : KeepsTabs sIn (denseGo sIn) :=
  .after attachGo_tabs (.after assignGo_tabs flushGo_tabs)

theorem gatherAcc_tabs {a : PoolAcc} {pieces : List Nat} : KeepsTabs s (gatherAcc a pieces s) :=
  .ite finishAcc_tabs askPieces_tabs

theorem gathered_tabs {a : PoolAcc} : KeepsTabs s (gathered a s) :=
  .ite (.after queueLocal_tabs setAcc_tabs) (.ite (.after queueLocal_tabs setAcc_tabs) finishAcc_tabs)

theorem pieceOf_tabs {a : PoolAcc} {d : LineData} {poison : Bool} : KeepsTabs s (pieceOf a d poison s) :=
  .ite (.ite askPieces_tabs (.after gathered_tabs setAcc_tabs)) setAcc_tabs

theorem routeAcc_tabs {a : PoolAcc} : KeepsTabs s (routeAcc a s) :=
  .ite finishAcc_tabs
    (.ite setAcc_tabs
       (.ite (.ite finishAcc_tabs (.ite gatherAcc_tabs (.after sendAcc_tabs setAcc_tabs)))
          (.ite (.after queueLocal_tabs setAcc_tabs) (.after sendAcc_tabs setAcc_tabs))))

theorem unlockStripe_tabs {region : Nat} : KeepsTabs s (unlockStripe region s) :=
  .foldl fun _ _ => .ite (.refl _) (.ite routeAcc_tabs (.after queueLocal_tabs setAcc_tabs))

theorem poolServe_tabs {id : Nat} {rd : State → Beat × State} {wr : LineData → Bool → State → State} {unc : Bool}
    {fail : Option Nat} (read : ∀ {t}, KeepsTabs t (rd t).2) (written : ∀ {d p t}, KeepsTabs t (wr d p t)) :
    KeepsTabs s (poolServe id rd wr unc fail s) := by
  unfold poolServe
  dsimp only
  split
  · exact .refl _
  · split
    · exact .ite pieceOf_tabs (.ite finishAcc_tabs (.ite gatherAcc_tabs finishAcc_tabs))
    · exact .ite (.after pieceOf_tabs read)
        (.ite (.after unlockStripe_tabs (.after finishAcc_tabs written))
           (.ite (.after finishAcc_tabs (.after written read))
              (.ite (.after finishAcc_tabs read)
                 (.ite (.after afterWrite_tabs (.after written (.iteSnd read (.refl _))))
                    (.after (.ite gatherAcc_tabs finishAcc_tabs) read)))))

theorem serveLines_tabs {n : Nat} {f : Nat → State → State} (kept : ∀ {i t}, KeepsTabs t (f i t)) :
    KeepsTabs s (serveLines n f s) := by
  unfold serveLines
  exact .foldl fun _ _ => kept

theorem failReq_tabs {q : DReq} : KeepsTabs s (failReq q s) := by
  unfold failReq
  split
  · exact serveLines_tabs (.ite stageWritten_tabs (.after stageRead_tabs ((drawLine_touches _).tabs rfl)))
  · exact poolServe_tabs (.refl _) (.refl _)
  · exact .refl _

theorem setMiss_tabs {m : MissEntry} : KeepsTabs s (setMiss m s) := .dense (.refl _) fun wf => { wf with }

theorem driveCommand_tabs {cmd b data : Nat} : KeepsTabs s (driveCommand cmd b data s) := sendDrive_tabs

theorem readBlock_tabs {m : MissEntry} : KeepsTabs s (readBlock m s) := .after driveCommand_tabs setMiss_tabs

theorem fillLine_tabs {m : MissEntry} : KeepsTabs s (fillLine m s) := by
  unfold fillLine
  split
  · exact .after (.ite (.after queueCache_tabs setMiss_tabs) readBlock_tabs)
      (.after updLine_tabs (.dense (.refl _) fun wf => { wf with }))
  · exact .after readBlock_tabs (.after updLine_tabs (.dense (.refl _) fun wf => { wf with }))

theorem startMiss_tabs {q : DReq} {k : Nat} : KeepsTabs s (startMiss q k s) :=
  .after (.ite startWrite_tabs fillLine_tabs) (.dense (.refl _) fun wf => { wf with })

theorem useLine_tabs {k : Nat} : KeepsTabs s (useLine k s) :=
  .after updLine_tabs (.dense (.refl _) fun wf => { wf with })

theorem denseServe_tabs {q : DReq} : KeepsTabs s (denseServe q s) := by
  unfold denseServe
  split
  · exact failReq_tabs
  · exact .after queueCache_tabs useLine_tabs
  · exact setMiss_tabs
  · exact startMiss_tabs
  · exact .dense (.refl _) fun wf => { wf with }

theorem denyFrames_tabs : KeepsTabs s (denyFrames s) := updParts_tabs

theorem startAcc_tabs {for_ : PoolFor} {region member off : Nat} {write : Bool} {d : LineData} {poison : Bool} {phase : Nat} :
    KeepsTabs s (startAcc for_ region member off write d poison phase s) :=
  .after
    (.ite (.ite setAcc_tabs queueLocal_tabs)
       (.ite queueLocal_tabs (.ite (.refl _) (.ite gatherAcc_tabs routeAcc_tabs))))
    (.pool (.refl _) fun wf => { wf with })

theorem destLine_tabs {id region o : Nat} {d : LineData} : KeepsTabs s (destLine id region o d s) := by
  unfold destLine
  exact .after startAcc_tabs updCmd_tabs

theorem discardCxl_tabs : KeepsTabs s (discardCxl s) := .pool (.refl _) fun wf => { wf with
    mail := wfFrom_map (by decide) (Tab.wf_filter _ wf.mail) }

theorem drainQueue_tabs {endpoint left : Nat} : KeepsTabs s (drainQueue endpoint left s) := by
  unfold drainQueue
  dsimp only
  split
  · exact .ctl (.refl _) fun wf => { wf with inject := Tab.wf_set _ _ wf.inject }
  · exact .ite (.ctl (.refl _) fun wf => { wf with inject := Tab.wf_set _ _ wf.inject })
      (.after (.ite (.refl _) sendEvent_tabs) (.after sendEvent_tabs (.ctl (.refl _) fun wf => { wf with
          heldEvent := Tab.wf_set _ _ wf.heldEvent, eventsLost := Tab.wf_set _ _ wf.eventsLost,
          inject := Tab.wf_set _ _ wf.inject })))

theorem driveEnds_tabs {d : Nat} {c : DriveCmd} : KeepsTabs s (driveEnds d c s) := by
  unfold driveEnds
  dsimp only
  split
  · exact updDrive_tabs
  · exact .after sendDrive_tabs (.after updDrive_tabs updDrive_tabs)

theorem dropJobs_tabs {f : Nat × CacheJob → Bool} : KeepsTabs s (dropJobs f s) := updPcs_tabs

theorem dropMiss_tabs {b : Nat} : KeepsTabs s (dropMiss b s) := .dense (.refl _) fun wf => { wf with }

theorem lostPart_tabs {q : OutReq} : KeepsTabs s (lostPart q s) := by
  unfold lostPart
  split
  · exact updCmd_tabs
  · exact updCmd_tabs
  · exact tableReply_tabs
  · exact .refl _

theorem dropRequests_tabs {m : Nat} : KeepsTabs s (dropRequests m s) :=
  .after (.foldl fun _ _ => lostPart_tabs) (.lat (.refl _) fun wf => { wf with })

theorem stsAttention_tabs {b : Nat} : KeepsTabs s (stsAttention b s) :=
  .after (.ite raiseVector_tabs (.refl _)) (.regs (.refl _) fun wf => { wf with })

theorem notify_tabs {cls reason unit : Nat} : KeepsTabs s (notify cls reason unit s) :=
  .after stsAttention_tabs ((emitAll_touches _ _).tabs rfl)

theorem noteVet_tabs {before : State} : KeepsTabs s (noteVet before s) :=
  .ite (.refl _) (.pm (.refl _) fun wf => { wf with })

theorem recheckVet_tabs : KeepsTabs s (recheckVet s) := by
  have vet (v : Fw) (k : s.TabsWf → State.TabsWf { s with fw := v }) : KeepsTabs s (noteVet s { s with fw := v }) :=
    .after noteVet_tabs (.fw (.refl _) k)
  unfold recheckVet
  dsimp only
  exact .ite (vet _ fun wf => { wf with }) (.ite
    (.after notify_tabs (.after mpEvent_tabs (.lat (vet _ fun wf => { wf with }) fun wf => { wf with })))
    (.after notify_tabs (vet _ fun wf => { wf with })))

theorem tileCombination_tabs : KeepsTabs s (tileCombination s) :=
  .after (.ite (.refl _) recheckVet_tabs) (.fw (.refl _) fun wf => { wf with })

theorem dropTile_tabs {t reason : Nat} : KeepsTabs s (dropTile t reason s) := by
  unfold dropTile
  generalize (rangeFrom 0 1024).map _ = cells
  exact .after tileCombination_tabs
    (.after (.fmap (.refl _) fun wf => { wf with pendCluster := Tab.wf_updAll _ _ wf.pendCluster }) updTile_tabs)

theorem dropWin_tabs {w : StoredWin} : KeepsTabs s (dropWin w s) := .lat (.refl _) fun wf => { wf with }

theorem startTile_tabs {t : Nat} : KeepsTabs s (startTile t s) := updTile_tabs

theorem endTest_tabs {t : LaneTest} : KeepsTabs s (endTest t s) :=
  .after (.ite startTile_tabs (.refl _))
    (.after (.ite updStack_tabs (.refl _)) (.buf_lanes (.refl _) fun wf => { wf with }))

theorem sendWire_tabs {port peer total : Nat} {stamp : BitVec 32} {last : Bool} {fuel : Nat} :
    KeepsTabs s (sendWire port peer total stamp last fuel s) := by
  induction fuel generalizing s with
  | zero => exact .refl _
  | succ fuel ih =>
    unfold sendWire
    dsimp only
    split
    · refine .after ih ?_
      split
      · exact updComp_tabs
      · exact .after sendFlit_tabs updComp_tabs
    · exact .refl _

theorem handOver_tabs {port : Nat} {r : CompRec} : KeepsTabs s (handOver port r s) := by
  unfold handOver
  split
  · exact .refl _
  · exact .after (.ite updComp_tabs (.refl _)) (.after sendWire_tabs updComp_tabs)

theorem enterBeat_tabs {port at_ router : Nat} {x : Beat} : KeepsTabs s (enterBeat port at_ router x s) := by
  unfold enterBeat
  dsimp only
  split
  · exact .refl _
  · exact .after (.ite handOver_tabs (.after (.ite closeBlock_tabs (.refl _)) updComp_tabs)) updComp_tabs

theorem enterRecovery_tabs : KeepsTabs s (enterRecovery s) := .after mpEvent_tabs (.boot (.refl _))

theorem restPm_tabs : KeepsTabs s (restPm s) := .pm (.refl _) fun wf => { wf with
    unit := ⟨wf.pc, wf.stack, Tab.wf_updAll _ _ wf.sensors, wf.port, wf.region, wf.flag, wf.comp, wf.lines, wf.drive⟩,
    overLast := Tab.wf_nil _, lowSince := Tab.wf_nil _, sensorCal := Tab.wf_nil _, trims := Tab.wf_nil _ }

theorem enterReset_tabs : KeepsTabs s (enterReset s) :=
  .after (.boot (.refl _))
    (.after restPm_tabs
       (.after stopModule_tabs (.after closeBrake_tabs (.ite ((writeSummary_touches _).tabs rfl) (.refl _)))))

theorem rerouteLost_tabs {m region : Nat} : KeepsTabs s (rerouteLost m region s) :=
  .after
    (.foldl fun _ _ => by
       split
       · exact .refl _
       · exact .ite finishAcc_tabs (.ite finishAcc_tabs (.ite routeAcc_tabs finishAcc_tabs)))
    (.lat (.refl _) fun wf => { wf with })

theorem entryHere_tabs {src region x : Nat} : KeepsTabs s (entryHere src region x s) :=
  .ite (.after updRegion_tabs releaseExtents_tabs)
    (.after unlockStripe_tabs
       (by
          split
          · exact .after (.ite (.refl _) rerouteLost_tabs) updRegion_tabs
          · exact .ite (.refl _) updRegion_tabs))

theorem mciDuplicate_tabs {op : Nat} {q : MciReq} : KeepsTabs s (mciDuplicate op q s) := mciDeliver_tabs

theorem mciStatus_tabs {op : Nat} {q : MciReq} {status : Nat} : KeepsTabs s (mciStatus op q status s) :=
  mciAnswer_tabs

theorem mciRun_tabs {op : Nat} {lenOk paramOk : Bool} {q : MciReq} {act : State → State}
    (kept : ∀ {t}, KeepsTabs t (act t)) : KeepsTabs s (mciRun op lenOk paramOk q act s) := by
  unfold mciRun
  refine .ite (.refl _) ?_
  split
  · exact .ite mciDuplicate_tabs mciStatus_tabs
  · exact kept

theorem mciFixed_tabs {op len : Nat} {fields : List (Nat × Nat)} {rangeOk : Bool} {q : MciReq} {act : State → State}
    (kept : ∀ {t}, KeepsTabs t (act t)) : KeepsTabs s (mciFixed op len fields rangeOk q act s) :=
  mciRun_tabs kept

theorem mciQuery_tabs {op : Nat} {q : MciReq} {content : List Nat} : KeepsTabs s (mciQuery op q content s) :=
  mciAnswer_tabs

theorem errlogCommand_tabs {q : MciReq} : KeepsTabs s (errlogCommand q s) :=
  mciFixed_tabs (.ite mciStatus_tabs (.after (.ite ((eraseErrlog_touches _).tabs rfl) (.refl _)) mciQuery_tabs))

theorem raiseRequest_tabs {reason unit : Nat} : KeepsTabs s (raiseRequest reason unit s) :=
  .after notify_tabs (.after logEntry_tabs (.logs (.refl _)))

theorem evaluateRequests_tabs : KeepsTabs s (evaluateRequests s) :=
  .ite (.foldl fun _ _ => .ite (.refl _) raiseRequest_tabs) (.refl _)

theorem evaluateFor_tabs {pair : Nat × Nat} {c : Bool} : KeepsTabs s (evaluateFor pair c s) :=
  .ite evaluateRequests_tabs (.refl _)

theorem excludeSensor_tabs {key st : Nat} {z : Sensor} : KeepsTabs s (excludeSensor key st z s) :=
  .after (.ite sendEvent_tabs (.refl _)) (.after sendEvent_tabs setSensor_tabs)

theorem extentsDone_tabs {region : Nat} : KeepsTabs s (extentsDone region s) := .ite (.refl _) sendTable_tabs

theorem releasePins_tabs {set fuel : Nat} : KeepsTabs s (releasePins set fuel s) := by
  induction fuel generalizing s with
  | zero => exact .refl _
  | succ fuel ih =>
    unfold releasePins
    dsimp only
    split
    · exact .refl _
    · split
      · exact .after ih updLine_tabs
      · split
        · exact .after ih (.after updLine_tabs failBlock_tabs)
        · exact .refl _

theorem failDrive_tabs {d : Nat} : KeepsTabs s (failDrive d s) := by
  have marked {t : State} {rs : List Nat} {mark : Region → Region} : KeepsTabs t { t with pool := { t.pool with
      region := Tab.updAll Region.reset t.pool.region rs fun _ r => mark r } } := fun wf => { wf with
    unit := ⟨wf.pc, wf.stack, wf.sensors, wf.port, Tab.wf_updAll _ _ wf.region, wf.flag, wf.comp, wf.lines, wf.drive⟩ }
  have rest {t : State} {fs : List DenseFlush} : KeepsTabs t { t with dense := { t.dense with flushes := fs } } :=
    fun wf => { wf with }
  unfold failDrive
  exact .ite (.refl _) (.after denseGo_tabs (.after updDrive_tabs (.after rest (.after marked
    (.after (.foldl fun _ _ => .after (.foldl fun _ _ => failReq_tabs) dropMiss_tabs)
      (.after (.foldl fun _ _ => releasePins_tabs)
        (.after dropJobs_tabs
          (.dense (.after (.foldl fun _ _ => updLine_tabs)
            (.after sendEvent_tabs (.after updDrive_tabs (.dense (.refl _) fun wf => { wf with }))))
            fun wf => { wf with }))))))))

theorem judgeLost_tabs {ms : List Nat} : KeepsTabs s (judgeLost ms s) :=
  .foldl fun _ _ => .ite declareLost_tabs (.refl _)

theorem noteFailed_tabs {m port : Nat} : KeepsTabs s (noteFailed m port s) :=
  .after judgeLost_tabs (.lat (.refl _) fun wf => { wf with })

theorem failPort_tabs {port : Nat} : KeepsTabs s (failPort port s) :=
  .after noteFailed_tabs (.after floodOwn_tabs (.after blockFault_tabs updPort_tabs))

theorem failTile_tabs {t reason detail : Nat} : KeepsTabs s (failTile t reason detail s) :=
  .after dropTile_tabs mpEvent_tabs

theorem failWin_tabs {w : StoredWin} : KeepsTabs s (failWin w s) := .after (.ite (.refl _) countUp_tabs) putWin_tabs

theorem fwSetState_tabs {k st : Nat} : KeepsTabs s (fwSetState k st s) :=
  .after (.ite (.refl _) notify_tabs) (.fw (.refl _) fun wf => { wf with fwSlots := Tab.wf_set _ _ wf.fwSlots })

theorem revertSlot_tabs {k : Nat} : KeepsTabs s (revertSlot k s) :=
  .after mpEvent_tabs (.after (.fw (.refl _) fun wf => { wf with }) (.after bootRecord_tabs fwSetState_tabs))

theorem failedBoot_tabs : KeepsTabs s (failedBoot s) :=
  .ite bootRecord_tabs
    (.ite revertSlot_tabs (.after enterRecovery_tabs (.after fwSetState_tabs (.ite fwSetState_tabs (.refl _)))))

theorem fieldWrite_tabs {e : Nat} : KeepsTabs s (fieldWrite e s) :=
  .ite (.refl _)
    (.ite (.lanes (.refl _) fun wf => { wf with })
       (.ite (.refl _) (.after mpEvent_tabs (.lanes (.refl _) fun wf => { wf with }))))

theorem fieldWrites_tabs : KeepsTabs s (fieldWrites s) := .ite (.refl _) (.foldl fun _ _ => fieldWrite_tabs)

theorem runToLoop_tabs {fuel target : Nat} : KeepsTabs s (runToLoop fuel target s) := by
  induction fuel generalizing s with
  | zero => exact .refl _
  | succ fuel ih =>
    unfold runToLoop
    exact .ite (.after advanceTo_tabs settle_tabs) (.after ih (.after advanceTo_tabs settle_tabs))

theorem runTo_tabs {target : Nat} : KeepsTabs s (runTo target s) := runToLoop_tabs

theorem fillRun_tabs : KeepsTabs s (fillRun s) := runTo_tabs

theorem noteLoad_tabs {port : Nat} {isWin : Bool} : KeepsTabs s (noteLoad port isWin s) :=
  .after (.ite countUp_tabs (.refl _)) updPort_tabs

theorem wire_tabs {port : Nat} {f : Flit} {seq : Nat} : KeepsTabs s (wire port f seq s) :=
  .after ((emit_touches _ _).tabs rfl) (.after countUp_tabs updPort_tabs)

theorem fillSlot_tabs {port : Nat} : KeepsTabs s (fillSlot port s) := by
  unfold fillSlot
  dsimp only
  split
  · exact .ite (.after wire_tabs (.after noteLoad_tabs updPort_tabs)) (.refl _)
  · exact .ite (.refl _)
      (by
         split
         · exact .refl _
         · exact .after wire_tabs (.after noteLoad_tabs updPort_tabs))

theorem poisonReq_tabs {q : DReq} : KeepsTabs s (poisonReq q s) :=
  .ite failReq_tabs
    (by
       split
       · exact serveLines_tabs (.after stageRead_tabs ((drawLine_touches _).tabs rfl))
       · exact poolServe_tabs (.refl _) (.refl _)
       · exact .refl _)

theorem filled_tabs {b data : Nat} {error : Bool} : KeepsTabs s (filled b data error s) := by
  unfold filled
  split
  · exact .refl _
  · exact .ite (.after (.foldl fun _ _ => poisonReq_tabs) (.after updLine_tabs dropMiss_tabs))
      (.after queueCache_tabs setMiss_tabs)

theorem floodOn_tabs {port x : Nat} : KeepsTabs s (floodOn port x s) :=
  .after sendAll_tabs (.lat (.refl _) fun wf => { wf with floods := Tab.wf_set _ _ wf.floods })

theorem flrOne_tabs {fn : Nat} : KeepsTabs s (flrOne fn s) :=
  .after updParts_tabs (.rings_regs (.refl _) fun wf => { wf with
      host := ⟨Tab.wf_updAll _ _ wf.ring, Tab.wf_set _ _ wf.fn, Tab.wf_updAll _ _ wf.vec, wf.counters⟩,
      rsvd := Tab.wf_filter _ (by split <;> exact wf.rsvd),
      mbxWindow := by unfold dropLatches; split; exacts [Tab.wf_nil _, wf.mbxWindow] })

theorem flrAll_tabs {fns : List Nat} : KeepsTabs s (flrAll fns s) := .foldl fun _ _ => flrOne_tabs

theorem flushAborted_tabs {d : Nat} : KeepsTabs s (flushAborted d s) := by
  unfold flushAborted
  split
  · exact .refl _
  · exact .after flushEnds_tabs (.dense (.refl _) fun wf => { wf with })

theorem flushRequest_tabs {fn ring : Nat} : KeepsTabs s (flushRequest fn ring s) := .ite updRing_tabs (.refl _)

theorem tokenFlush_tabs {region t : Nat} : KeepsTabs s (tokenFlush region t s) :=
  .after denseGo_tabs (.dense (.refl _) fun wf => { wf with })

theorem flushToken_tabs {region : Nat} : KeepsTabs s (flushToken region s).2 :=
  .iteSnd (.refl _)
    (.after (.ite (.ite completeToken_tabs (.refl _)) (.after tokenFlush_tabs replicate_tabs)) updRegion_tabs)

theorem flushWrote_tabs {b : Nat} : KeepsTabs s (flushWrote b s) := .dense (.refl _) fun wf => { wf with }

theorem takeInput_tabs {k router inp outs : Nat} {bsel : Bool} {lag : Nat} :
    KeepsTabs s (takeInput k router inp outs bsel lag s).2 :=
  .iteSnd (.after dataPathBreach_tabs updPipe_tabs) (.refl _)

theorem foldOperand_tabs {k router port outs : Nat} {bsel : Bool} {type : Nat} :
    KeepsTabs s (foldOperand k router port outs bsel type s).2 :=
  .iteSnd (.refl _) (.after (.iteSnd (.refl _) (.after dataPathBreach_tabs countIdleOp_tabs)) takeInput_tabs)

theorem fuseCluster_tabs {router : Nat} : KeepsTabs s (fuseCluster router s) :=
  .after (.ite (.refl _) mpEvent_tabs) (.fmap (.refl _) fun wf => { wf with
      pendCluster := Tab.wf_set _ _ wf.pendCluster })

theorem fwActivate_tabs {k : Nat} : KeepsTabs s (fwActivate k s) :=
  .after bootRecord_tabs (.after fwSetState_tabs (.ite (.refl _) fwSetState_tabs))

theorem fwWrite_tabs {q : MciReq} {k off len data : Nat} {last : Bool} :
    KeepsTabs s (fwWrite q k off len data last s) :=
  .ite mciStatus_tabs
    (.ite mciStatus_tabs
       (.ite mciStatus_tabs (.after mciStatus_tabs (.after fwSetState_tabs (.fw (.refl _) fun wf => { wf with
           fwSlots := Tab.wf_set _ _ wf.fwSlots })))))

theorem gradient_tabs {k router inp : Nat} {bsel : Bool} : KeepsTabs s (gradient k router inp bsel s).2 :=
  .iteSnd (.refl _) takeInput_tabs

theorem hardRepair_tabs {e : Nat × Nat} : KeepsTabs s (hardRepair e s) := .after mpEvent_tabs updPcs_tabs

theorem hardRepairs_tabs : KeepsTabs s (hardRepairs s) := .ite (.foldl fun _ _ => hardRepair_tabs) (.refl _)

theorem hostRead_tabs {pbr tag : Nat} {region : Option Nat} {off : Nat} :
    KeepsTabs s (hostRead pbr tag region off s) := by
  unfold hostRead
  split
  · exact (cxlAnswer_touches _ _ _ _ _ _).tabs rfl
  · exact .ite (.after ((cxlAnswer_touches _ _ _ _ _ _).tabs rfl) denial_tabs)
      (.ite ((cxlAnswer_touches _ _ _ _ _ _).tabs rfl) startAcc_tabs)

theorem hostWrite_tabs {pbr tag : Nat} {region : Option Nat} {off : Nat} {d : LineData} {poison : Bool} :
    KeepsTabs s (hostWrite pbr tag region off d poison s) := by
  unfold hostWrite
  split
  · exact (cxlAnswer_touches _ _ _ _ _ _).tabs rfl
  · exact .ite (.after ((cxlAnswer_touches _ _ _ _ _ _).tabs rfl) denial_tabs)
      (.ite ((cxlAnswer_touches _ _ _ _ _ _).tabs rfl) startAcc_tabs)

theorem identDone_tabs {t : Nat} : KeepsTabs s (identDone t s) := by
  unfold identDone
  dsimp only
  split
  · exact .after failTile_tabs (.ite (.refl _) mpEvent_tabs)
  · exact .after updTile_tabs (.ite (.refl _) mpEvent_tabs)

theorem idle_tabs : KeepsTabs s (idle s) :=
  .ite (.after (.ite ((passCrumb_touches _).tabs rfl) advance_tabs) settle_tabs) ((passPs_touches _ _).tabs rfl)

theorem informReturned_tabs {m : Nat} : KeepsTabs s (informReturned m s) :=
  .ite (.refl _) (.foldl fun _ _ => .after sendTable_tabs sendTable_tabs)

theorem trainGroup_tabs {t : Nat} {whole : Bool} {c : CellTrain} {role : Nat} :
    KeepsTabs s (trainGroup t whole c s role) := by
  unfold trainGroup
  split
  · exact calValid_tabs
  · exact .ite noteInvalid_tabs calInvalid_tabs

theorem trainCell_tabs {t : Nat} {whole : Bool} {c : CellTrain} : KeepsTabs s (trainCell t whole s c) :=
  .after (.ite (.lanes (.refl _) fun wf => { wf with }) (.refl _)) (.foldl fun _ _ => trainGroup_tabs)

theorem judgeBonds_tabs {t : Nat} {cells : List CellTrain} : KeepsTabs s (judgeBonds t cells s) :=
  .ite (.after (.foldl fun _ _ => trainCell_tabs) calEvent_tabs) (.foldl fun _ _ => trainCell_tabs)

theorem requalify_tabs {now key : Nat} {old z : Sensor} {raw : BitVec 16} {med : Option Int} :
    KeepsTabs s (requalify now key old z raw med s) :=
  .ite setSensor_tabs (.ite setSensor_tabs setSensor_tabs)

theorem judgeSample_tabs {key : Nat} {raw : BitVec 16} : KeepsTabs s (judgeSample key raw s) :=
  .ite setSensor_tabs (.ite requalify_tabs (.ite setSensor_tabs excludeSensor_tabs))

theorem reroute_tabs {node dir : Nat} {p : CtlPkt} : KeepsTabs s (reroute node dir s p) :=
  .ctl (.refl _) fun wf => { wf with channels := Tab.wf_set _ _ wf.channels }

theorem killLink_tabs {node dir : Nat} : KeepsTabs s (killLink node dir s) :=
  .after (.foldl fun _ _ => reroute_tabs) (.after blockFault_tabs (.ctl (.refl _) fun wf => { wf with
      resends := Tab.wf_set _ _ wf.resends, channels := Tab.wf_set _ _ wf.channels }))

theorem lanesAcked_tabs {t : Nat} : KeepsTabs s (lanesAcked t s) :=
  .ite (.after sendLanes_tabs updTile_tabs) updTile_tabs

theorem lapse_tabs : KeepsTabs s (lapse s) :=
  .after joinGroup_tabs (.after countUp_tabs (.after mpEvent_tabs (.lat (.refl _) fun wf => { wf with })))

theorem loadBlock_tabs {k : Nat} {dead : Bool} : KeepsTabs s (loadBlock k dead s).2 := by
  unfold loadBlock
  refine KeepsTabs.foldlSnd (p := ((0, false), s)) fun p _ => ?_
  dsimp only
  split
  · exact (drawLine_touches p.2).tabs rfl
  · exact hbmRead_tabs

theorem loadFails_tabs {n status detail report answer : Nat} :
    KeepsTabs s (loadFails n status detail report answer s) :=
  .after mciReply_tabs setSlot_tabs

theorem loseMember_tabs {region m : Nat} : KeepsTabs s (loseMember region m s) :=
  .after unlockStripe_tabs (.after rerouteLost_tabs (.after (.ite (.refl _) mpEvent_tabs) updRegion_tabs))

theorem queueCmd_tabs {by_ : CmdBy} {c holder : Nat} : KeepsTabs s (queueCmd by_ c holder s) :=
  .pool (.refl _) fun wf => { wf with }

theorem mailCommand_tabs {pbr slot line : Nat} : KeepsTabs s (mailCommand pbr slot line s) := by
  unfold mailCommand
  dsimp only
  exact .ite (.refl _)
    (.ite (.pool (.refl _) fun wf => { wf with })
       (.ite (.refl _)
          (by
             split
             · exact .after queueCmd_tabs (.after updMail_tabs updMail_tabs)
             · exact .after updMail_tabs
                 (by
                    split
                    · exact .after (.ite denial_tabs (.refl _)) updMail_tabs
                    · exact updMail_tabs))))

theorem mbxCount_tabs : KeepsTabs s (mbxCount s) := .regs (.refl _) fun wf => { wf with }

theorem mciHold_tabs {op : Nat} {q : MciReq} : KeepsTabs s (mciHold op q s) := .win_fw (.refl _) fun wf => { wf with }

theorem mciReserved_tabs {op : Nat} {q : MciReq} : KeepsTabs s (mciReserved op q s) :=
  .ite (.refl _) (.ite mciDuplicate_tabs mciStatus_tabs)

theorem noteExcursions_tabs : KeepsTabs s (noteExcursions s) :=
  .after (.pm (.refl _) fun wf => { wf with }) (.foldl fun _ _ => .after pwrAttention_tabs sendEvent_tabs)

theorem measure_tabs {m : PowerIn} : KeepsTabs s (measure m s) :=
  .after (.ite evaluateRequests_tabs (.refl _))
    (.after noteExcursions_tabs
       (.after countBy_tabs (.after (.pm (.refl _) fun wf => { wf with }) (.ite pwrAttention_tabs (.refl _)))))

theorem memWrite_tabs {pbr tag : Nat} {region : Option Nat} {off : Nat} {data : LineData} {poison : Bool} :
    KeepsTabs s (memWrite pbr tag region off data poison s) :=
  .after hostWrite_tabs (.ite mailCommand_tabs (.refl _))

theorem noteRetrained_tabs : KeepsTabs s (noteRetrained s) := .lanes (.refl _) fun wf => { wf with }

theorem mergeFaultMap_tabs : KeepsTabs s (mergeFaultMap s) :=
  .after evaluateRequests_tabs
    (.after notify_tabs
       (.after checkImages_tabs
          (.after noteRetrained_tabs
             (.after (.fmap (.refl _) fun wf => { wf with
                 cluster := wf_mergedClusters wf.cluster, stitch := wf_mergedStitches wf.stitch,
                 pendCluster := Tab.wf_nil _, pendStitch := Tab.wf_nil _ })
                (.after (.foldl fun _ _ => fuseCluster_tabs)
                   (.after fieldWrites_tabs (.foldl fun _ _ => consentTo_tabs)))))))

theorem moveRows_tabs {pc : Nat} : KeepsTabs s (moveRows pc s) := .ite updPc_tabs (.refl _)

theorem mpOnlyReset_tabs {detail : Nat} : KeepsTabs s (mpOnlyReset detail s) := by
  have restarted {t : State} : KeepsTabs t { t with
      fw := { t.fw with restart := detail + 1, outstanding := [], spdm := [] }
      win := { t.win with shadow := t.win.inForce } } := fun wf => { wf with spdm := Tab.wf_nil _, shadow := wf.inForce }
  unfold mpOnlyReset
  exact .after restarted
    (.after abortLoads_tabs (.after (.foldl fun _ _ => answerReset_tabs) (.after mpEvent_tabs (.boot (.refl _)))))

theorem rejoinGroup_tabs : KeepsTabs s (rejoinGroup s) := .ite joinGroup_tabs (.refl _)

theorem runPackage_tabs {p : Package} : KeepsTabs s (runPackage p s) := .fw (.refl _) fun wf => { wf with }

theorem startPm_tabs : KeepsTabs s (startPm s) :=
  .after (.ite countBrake_tabs (.refl _)) (.boot_fw_pm (.refl _) fun wf => { wf with })

theorem mpReady_tabs : KeepsTabs s (mpReady s) :=
  .after evaluateRequests_tabs
    (.after stsAttention_tabs
       (.after rejoinGroup_tabs
          (.after recheckVet_tabs
             (.after answerMailbox_tabs
                (.after ((persistHeld_touches _).tabs rfl)
                   (.after (.ite startPm_tabs (.refl _))
                      (.after (.foldl fun _ _ => runPackage_tabs) (.boot_fw (.refl _) fun wf => { wf with }))))))))

theorem noteAbort_tabs {drive : Nat} : KeepsTabs s (noteAbort drive s) :=
  .after (.ite failDrive_tabs (.refl _)) (.after sendEvent_tabs updDrive_tabs)

theorem noteCorrected_tabs {h : FlitHdr} : KeepsTabs s (noteCorrected h s) := .ite (.refl _) countBy_tabs

theorem noteCoverage_tabs {unit : Nat} : KeepsTabs s (noteCoverage unit s) := .pm (.refl _) fun wf => { wf with
    lowSince := Tab.wf_set _ _ wf.lowSince }

theorem noteNarrow_tabs {port before now : Nat} : KeepsTabs s (noteNarrow port before now s) :=
  .ite blockFault_tabs (.refl _)

theorem notePartial_tabs {late : Bool} : KeepsTabs s (notePartial late s) :=
  .ite (.after countUp_tabs mpEvent_tabs) (.refl _)

theorem noteRsvd_tabs {fn off : Nat} {v : BitVec 32} : KeepsTabs s (noteRsvd fn off v s) :=
  .regs (.refl _) fun wf => { wf with rsvd := Tab.wf_set _ _ wf.rsvd }

theorem noteShort_tabs {m : PowerIn} : KeepsTabs s (noteShort m s) :=
  .after (.pm (.refl _) fun wf => { wf with })
    (.after (.ite (.after pwrAttention_tabs sendEvent_tabs) (.refl _))
       (.ite (.after pwrAttention_tabs sendEvent_tabs) (.refl _)))

theorem noteUnclean_tabs : KeepsTabs s (noteUnclean s) := .after (.boot (.refl _)) (.ite (.refl _) mpEvent_tabs)

theorem openWindow_tabs {port recIdx : Nat} {r : LatRec} : KeepsTabs s (openWindow port recIdx r s) :=
  .after (.ite noteDescFault_tabs (.refl _)) updComp_tabs

theorem openDue_tabs {k port offset : Nat} : KeepsTabs s (openDue k port offset s) := by
  unfold openDue
  dsimp only
  split
  · exact .refl _
  · split
    · exact .refl _
    · exact .ite (.refl _) openWindow_tabs

theorem openBefore_tabs {k port : Nat} {a : Arrival} : KeepsTabs s (openBefore k port a s) :=
  .ite (.refl _) openDue_tabs

theorem ownSetting_tabs {m : PowerIn} : KeepsTabs s (ownSetting m s) := by
  unfold ownSetting
  dsimp only
  exact .pm (.refl _) fun wf => { wf with }

theorem partDone_tabs {id status body : Nat} : KeepsTabs s (partDone id status body s) := updCmd_tabs

theorem passOn_tabs {h : FlitHdr} {type uop : Nat} {u : UnschIn} : KeepsTabs s (passOn h type uop u s) := by
  unfold passOn
  split
  · exact .refl _
  · exact sendFlit_tabs

theorem poolReply_tabs {id : Nat} {d : LineData} {poison : Bool} {status : Nat} :
    KeepsTabs s (poolReply id d poison status s) := by
  unfold poolReply
  split
  · exact .refl _
  · exact .ite pieceOf_tabs finishAcc_tabs

theorem rejectPool_tabs {fn x status result : Nat} : KeepsTabs s (rejectPool fn x status result s) :=
  .after postCompletion_tabs updRing_tabs

theorem poolStart_tabs {fn x : Nat} : KeepsTabs s (poolStart fn x s) :=
  .ite (.after rejectPool_tabs violation_tabs)
    (by
       split
       · exact rejectPool_tabs
       · exact .after queueCmd_tabs consume_tabs)

theorem poolSwitch_tabs {ref : Nat} : KeepsTabs s (poolSwitch ref s).2 :=
  .after (.foldl fun _ _ => .foldl fun _ _ => sendTable_tabs)
    (.after (.foldl fun _ _ => aclInForce_tabs) (.pool (.refl _) fun wf => { wf with }))

theorem portReset_tabs {port : Nat} : KeepsTabs s (portReset port s) :=
  .ite (.after clearVfWindows_tabs (.after clearPortRws_tabs (.after flrAll_tabs (.boot (.refl _)))))
    (.after (.ite discardCxl_tabs (.refl _)) (.after clearPortRws_tabs flrAll_tabs))

theorem presentHostBeat_tabs {k recIdx beat : Nat} {h : HostRec} {r : Run} :
    KeepsTabs s (presentHostBeat k recIdx beat h r s) :=
  .after updPipe_tabs updRun_tabs

theorem setWeight_tabs {fn ring w : Nat} : KeepsTabs s (setWeight fn ring w s) := updRing_tabs

theorem prioHigh_tabs {fn v : Nat} : KeepsTabs s (prioHigh fn v s) := setWeight_tabs

theorem prioLow_tabs {fn v : Nat} : KeepsTabs s (prioLow fn v s) :=
  .after setWeight_tabs (.after setWeight_tabs (.after setWeight_tabs updFn_tabs))

theorem prioRewrite_tabs {fn half v : Nat} : KeepsTabs s (prioRewrite fn half v s) := by
  unfold prioRewrite
  split
  · exact .ite prioLow_tabs (.refl _)
  · exact .ite prioHigh_tabs (.refl _)
  · exact .ite (.after prioHigh_tabs prioLow_tabs) (.refl _)

theorem queueDense_tabs {q : DReq} : KeepsTabs s (queueDense q s) := .dense (.refl _) fun wf => { wf with }

theorem queuePc_tabs {q : UReq} : KeepsTabs s (queuePc q s) := updPc_tabs

theorem raiseMinimums_tabs {ps : List Package} : KeepsTabs s (raiseMinimums ps s) :=
  .foldl fun _ _ => .ite (.fw (.refl _) fun wf => { wf with
      tileSvn := Tab.wf_set _ _ wf.tileSvn }) (.fw (.refl _) fun wf => { wf with minSvn := Tab.wf_set _ _ wf.minSvn })

theorem rampFalls_tabs : KeepsTabs s (rampFalls s) := .ite (.pm (.refl _) fun wf => { wf with }) (.refl _)

theorem readAborted_tabs {b : Nat} : KeepsTabs s (readAborted b s) := by
  unfold readAborted
  split
  · exact .refl _
  · exact .after (.foldl fun _ _ => failReq_tabs) (.after updLine_tabs dropMiss_tabs)

theorem readInto_tabs {k router line : Nat} {ctx byRead : Bool} {leader : Option MergeRead} :
    KeepsTabs s (readInto k router line ctx byRead leader s) := by
  unfold readInto
  split
  · exact .after updPart_tabs countUp_tabs
  · exact .after updPart_tabs portRead_tabs

theorem readLong_tabs {fn off : Nat} : KeepsTabs s (readLong fn off s).2 := by
  unfold readLong
  split
  · exact .refl _
  · exact .after countRead_tabs countRead_tabs

theorem readLongs_tabs {fn off n : Nat} : KeepsTabs s (readLongs fn off n s).2 := by
  induction n generalizing off s with
  | zero => exact .refl _
  | succ n ih =>
    have first : KeepsTabs s (readLong fn off s).2 := readLong_tabs
    rcases one : readLong fn off s with ⟨v, t⟩
    have rest : KeepsTabs t (readLongs fn (off + 8) n t).2 := ih
    rcases others : readLongs fn (off + 8) n t with ⟨w, u⟩
    rw [one] at first
    rw [others] at rest
    simp only [readLongs, one, others]
    exact .after rest first

theorem readWord_tabs {fn off : Nat} : KeepsTabs s (readWord fn off s).2 := by
  unfold readWord
  dsimp only
  split
  · exact countRead_tabs
  · exact .iteSnd (.regs (.refl _) fun wf => { wf with })
      (by
         split
         · exact .regs (.refl _) fun wf => { wf with }
         · exact .refl _)

theorem readReg_tabs {fn off size : Nat} : KeepsTabs s (readReg fn off size s).2 :=
  .iteSnd (.refl _) (.iteSnd (.refl _) (.iteSnd readWord_tabs readLongs_tabs))

theorem readThree_tabs {line : Nat} : KeepsTabs s (readThree line s).2 :=
  .after hbmRead_tabs (.after hbmRead_tabs hbmRead_tabs)

theorem reattach_tabs {found : List DriveIn} : KeepsTabs s (reattach found s) :=
  .ite (.refl _) (.ite attachDrives_tabs (.dense (.refl _) fun wf => { wf with }))

theorem rebuildAtLine_tabs {src region off : Nat} : KeepsTabs s (rebuildAtLine src region off s) :=
  .ite (.after unlockStripe_tabs updRegion_tabs) (.refl _)

theorem recordPower_tabs : KeepsTabs s (recordPower s) := by
  unfold recordPower
  split
  · exact .refl _
  · exact .after (.ite (.refl _) (.logs (.refl _))) (.after logExt_tabs (.logs (.refl _)))

theorem replaceRun_tabs {who tag x : Nat} : KeepsTabs s (replaceRun who tag x s) :=
  .ite answerTable_tabs
    (.ite answerTable_tabs
       (.ite
          (by
             split
             · exact answerTable_tabs
             · exact .after orderAll_tabs (allocHere_tabs (by assumption)))
          orderAll_tabs))

theorem regionRun_tabs {op who tag x : Nat} : KeepsTabs s (regionRun op who tag x s) := by
  unfold regionRun
  split
  · exact .ite createRun_tabs replaceRun_tabs
  · exact deleteRun_tabs
  · exact accessRun_tabs

theorem regionCommand_tabs {op : Nat} {q : MciReq} : KeepsTabs s (regionCommand op q s) :=
  .after (.ite regionRun_tabs (.after tableWait_tabs sendTable_tabs)) mciHold_tabs

theorem releaseMiss_tabs {m : MissEntry} : KeepsTabs s (releaseMiss m s) :=
  .after (.foldl fun _ _ => queueCache_tabs) dropMiss_tabs

theorem releasePart_tabs {k : Nat} : KeepsTabs s (releasePart k s) :=
  .ite (.after updPart_tabs quiesce_tabs) (.refl _)

theorem repairChannel_tabs {stack : Nat} {c : ChannelTrain} : KeepsTabs s (repairChannel stack s c) :=
  .after
    (.ite (.refl _)
       (.after (.foldl fun _ _ => mpEvent_tabs) (.after deadenPcs_tabs (.lanes (.refl _) fun wf => { wf with }))))
    calValid_tabs

theorem sendBoot_tabs {t chunk : Nat} : KeepsTabs s (sendBoot t chunk s) := by
  unfold sendBoot
  split
  · exact failTile_tabs
  · exact sendTile_tabs

theorem repeatStep_tabs {t : Nat} : KeepsTabs s (repeatStep t s) := by
  unfold repeatStep
  dsimp only
  split
  · exact .after sendTile_tabs updTile_tabs
  · exact .after sendTile_tabs updTile_tabs
  · exact sendLanes_tabs
  · exact sendLanes_tabs
  · exact sendBoot_tabs
  · exact sendBoot_tabs
  · exact sendAck_tabs
  · exact sendTile_tabs
  · exact .refl _

theorem replacementCommand_tabs {q : MciReq} : KeepsTabs s (replacementCommand q s) :=
  mciFixed_tabs
    (.ite mciStatus_tabs
       (.after mciAnswer_tabs
          (.ite (.after evaluateRequests_tabs ((clearRequests_touches _ _ _).tabs rfl)) (.refl _))))

theorem retrainPort_tabs {port : Nat} : KeepsTabs s (retrainPort port s) :=
  .ite (.after countUp_tabs updPort_tabs) (.refl _)

theorem replayFrom_tabs {port : Nat} {e : BitVec 16} : KeepsTabs s (replayFrom port e s) :=
  .ite (.refl _) (.after (.ite (.after retrainPort_tabs updPort_tabs) (.refl _)) (.after countUp_tabs updPort_tabs))

theorem reportLost_tabs : KeepsTabs s (reportLost s) :=
  .ite (.refl _) (.after mpEvent_tabs (.ctl (.refl _) fun wf => { wf with }))

theorem reqCmd_tabs {h : FlitHdr} {u : UnschIn} : KeepsTabs s (reqCmd h u s) := .ite sendRsp_tabs queueCmd_tabs

theorem serveLinesOf_tabs {h : FlitHdr} {uop : Nat} {u : UnschIn} {each : Nat → LineIn → State → State}
    (kept : ∀ {i l t}, KeepsTabs t (each i l t)) : KeepsTabs s (serveLinesOf h uop u each s) := by
  unfold serveLinesOf
  dsimp only
  exact .ite (.after servedLine_tabs (.pool (.refl _) fun wf => { wf with }))
    (.after (.foldl fun _ _ => kept) (.pool (.refl _) fun wf => { wf with }))

theorem withMember_tabs {h : FlitHdr} {uop : Nat} {u : UnschIn} {act : Region → Nat → State → State}
    (kept : ∀ {r m t}, KeepsTabs t (act r m t)) : KeepsTabs s (withMember h uop u act s) := by
  unfold withMember
  dsimp only
  split
  · exact sendRsp_tabs
  · exact .ite sendRsp_tabs (.ite sendRsp_tabs kept)

theorem reqDelta_tabs {h : FlitHdr} {u : UnschIn} : KeepsTabs s (reqDelta h u s) :=
  withMember_tabs (serveLinesOf_tabs (.ite servedLine_tabs startAcc_tabs))

theorem reqRead_tabs {h : FlitHdr} {u : UnschIn} : KeepsTabs s (reqRead h u s) :=
  withMember_tabs (serveLinesOf_tabs startAcc_tabs)

theorem reqRebuild_tabs {h : FlitHdr} {u : UnschIn} : KeepsTabs s (reqRebuild h u s) :=
  withMember_tabs (.after (serveLinesOf_tabs (.ite servedLine_tabs startAcc_tabs)) rebuildAtLine_tabs)

theorem takeLease_tabs {region holder ms : Nat} : KeepsTabs s (takeLease region holder ms s).2 := by
  unfold takeLease
  dsimp only
  split
  · exact .iteSnd updRegion_tabs (.refl _)
  · exact .iteSnd (.refl _) updRegion_tabs

theorem tokenRun_tabs {c holder : Nat} : KeepsTabs s (tokenRun c holder s).2 := by
  unfold tokenRun
  dsimp only
  split
  · exact flushToken_tabs
  · exact .refl _
  · exact takeLease_tabs
  · split
    · exact .iteSnd updRegion_tabs (.refl _)
    · exact .refl _

theorem reqToken_tabs {h : FlitHdr} {u : UnschIn} : KeepsTabs s (reqToken h u s) := .after sendRsp_tabs tokenRun_tabs

theorem reqWrite_tabs {h : FlitHdr} {u : UnschIn} : KeepsTabs s (reqWrite h u s) :=
  withMember_tabs (serveLinesOf_tabs (.ite servedLine_tabs startAcc_tabs))

theorem restoreRows_tabs {pc : Nat} : KeepsTabs s (restoreRows pc s) :=
  .ite (.refl _) (.after ((emitAll_touches _ _).tabs rfl) updPc_tabs)

theorem ringDisable_tabs {fn ring : Nat} : KeepsTabs s (ringDisable fn ring s) :=
  .ite (.refl _) (.after settleFlush_tabs updRing_tabs)

theorem staleDoorbell_tabs {fn ring : Nat} : KeepsTabs s (staleDoorbell fn ring s) :=
  .after (.ite (.refl _) (.after sendEvent_tabs updRing_tabs)) (.after fnAttention_tabs countUp_tabs)

theorem wakeNamed_tabs : KeepsTabs s (wakeNamed s) :=
  .foldl fun _ _ => by
    split
    · exact .ite startExit_tabs (.refl _)
    · exact .refl _

theorem ringDoorbell_tabs {fn ring : Nat} {value : BitVec 32} {whole : Bool} {sIn : State} :
    KeepsTabs sIn (ringDoorbell fn ring value whole sIn) :=
  .after (.ite badDoorbell_tabs (.ite staleDoorbell_tabs (.ite (.refl _) (.after wakeNamed_tabs updRing_tabs))))
    settleFlush_tabs

theorem ringEnable_tabs {fn ring : Nat} : KeepsTabs s (ringEnable fn ring s) :=
  .ite (.refl _) (.ite updRing_tabs updRing_tabs)

theorem romSample_tabs {sensor : Nat} {raw : BitVec 16} : KeepsTabs s (romSample sensor raw s) :=
  .ite setSensor_tabs (.ite excludeSensor_tabs setSensor_tabs)

theorem sendPart_tabs {uop m id c holder kind : Nat} : KeepsTabs s (sendPart uop m id c holder kind s) :=
  .after updCmd_tabs sendReq_tabs

theorem runToken_tabs {op id : Nat} : KeepsTabs s (runToken op id s) := by
  unfold runToken
  split
  · exact .refl _
  · exact .ite (.refl _) (.ite (.after updCmd_tabs tokenRun_tabs) (.after sendPart_tabs updCmd_tabs))

theorem takeAck_tabs {port : Nat} {a : BitVec 16} : KeepsTabs s (takeAck port a s) := .ite updPort_tabs countUp_tabs

theorem takeHeader_tabs {h : FlitHdr} : KeepsTabs s (takeHeader h s) :=
  .after (.ite takeAck_tabs (.refl _)) updPort_tabs

theorem crcInjected_tabs {h : FlitHdr} {t : State} (e : crcInjected h s = some t) : KeepsTabs s t := by
  unfold crcInjected at e
  split at e <;> cases e
  exact .after countUp_tabs injectDone_tabs

theorem rxBare_tabs {h : FlitHdr} {act : State → State} (kept : ∀ {t}, KeepsTabs t (act t)) :
    KeepsTabs s (rxBare h act s) := by
  unfold rxBare
  dsimp only
  refine .ite (.refl _) ?_
  split
  · exact .after (crcInjected_tabs (by assumption)) noteCorrected_tabs
  · exact .after kept (.after takeHeader_tabs noteCorrected_tabs)

theorem wireBare_tabs {port type : Nat} : KeepsTabs s (wireBare port type s) := wire_tabs

theorem rxFlit_tabs {h : FlitHdr} {act : State → State} (kept : ∀ {t}, KeepsTabs t (act t)) :
    KeepsTabs s (rxFlit h act s) := by
  unfold rxFlit
  exact rxBare_tabs (.after
    (.ite (.after kept updPort_tabs) (.ite (.after wireBare_tabs updPort_tabs) (.refl _)))
    updPort_tabs)

theorem rxCtrl_tabs {h : Option FlitHdr} {port : Nat} {act : State → State} (kept : ∀ {t}, KeepsTabs t (act t)) :
    KeepsTabs s (rxCtrl h port act s) := by
  unfold rxCtrl
  split
  · exact rxFlit_tabs kept
  · exact .ite kept (.refl _)

theorem serveHit_tabs {q : DReq} {k : Nat} {dead : Bool} : KeepsTabs s (serveHit q k dead s) := by
  have cleaned {t : State} : KeepsTabs t (serveHit.cleanLost q k dead s t) := by
    unfold serveHit.cleanLost
    exact .ite updLine_tabs (.refl _)
  unfold serveHit
  split
  · split
    · exact serveLines_tabs (.ite stageWritten_tabs (.after stageWritten_tabs cachePut_tabs))
    · exact .after cleaned (serveLines_tabs (.ite
        (.after stageRead_tabs ((drawLine_touches _).tabs rfl)) (.after stageRead_tabs (cacheGet_tabs (b := q.block)))))
  · exact .after cleaned (poolServe_tabs cacheGet_tabs cachePut_tabs)
  · exact .refl _

theorem storeBlock_tabs {k data : Nat} : KeepsTabs s (storeBlock k data s) := serveLines_tabs hbmWrite_tabs

theorem serveCache_tabs {k : Nat} {j : CacheJob} {dead : Bool} : KeepsTabs s (serveCache k j dead s) := by
  unfold serveCache
  dsimp only
  split
  · exact .ite serveHit_tabs (.dense (.refl _) fun wf => { wf with })
  · split
    · exact .refl _
    · exact .after releaseMiss_tabs (.after updLine_tabs (.ite (.refl _) storeBlock_tabs))
  · split
    · exact .refl _
    · split
      · exact .ite (.after releaseMiss_tabs (.after serveHit_tabs updLine_tabs)) readBlock_tabs
      · exact readBlock_tabs
  · exact .ite (.after driveCommand_tabs (.after (.ite failBlock_tabs (.refl _)) loadBlock_tabs)) (.refl _)

theorem serveReq_tabs {pc : Nat} {q : UReq} : KeepsTabs s (serveReq pc q s) := by
  unfold serveReq
  split
  · exact .ite (.ite stageWritten_tabs (.after stageRead_tabs ((drawLine_touches _).tabs rfl)))
      (.ite (.after stageWritten_tabs hbmWrite_tabs) (.after stageRead_tabs hbmRead_tabs))
  · exact poolServe_tabs hbmRead_tabs hbmWrite_tabs
  · exact .refl _

theorem stageHole_tabs {fn ticket : Nat} : KeepsTabs s (stageHole fn ticket s) := updStage_tabs

theorem stageBufLine_tabs {fn ticket x : Nat} {data : List (Option LineData)} {i : Nat} :
    KeepsTabs s (stageBufLine fn ticket x data i s) :=
  .ite ctlArrive_tabs
    (by
       split
       · exact ctlArrive_tabs
       · exact stageHole_tabs)

theorem stageChunk_tabs {fn ticket x : Nat} {data : List (Option LineData)} {off n : Nat} :
    KeepsTabs s (stageChunk fn ticket x data off n s) :=
  .ite queueDense_tabs
    (.ite queueDense_tabs
       (.foldl fun _ _ => by
          split
          · exact queueDense_tabs
          · exact stageHole_tabs))

theorem stageDense_tabs {fn ticket x : Nat} {data : List (Option LineData)} {fuel n : Nat} :
    KeepsTabs s (stageDense fn ticket x data fuel n s) := by
  induction fuel generalizing n s with
  | zero => exact .refl _
  | succ fuel ih =>
    unfold stageDense
    exact .ite (.refl _) (.after ih stageChunk_tabs)

theorem stageHbmLine_tabs {fn ticket x : Nat} {data : List (Option LineData)} {i : Nat} :
    KeepsTabs s (stageHbmLine fn ticket x data i s) :=
  .ite queuePc_tabs
    (by
       split
       · exact queuePc_tabs
       · exact stageHole_tabs)

theorem stageGo_tabs {fn x : Nat} {data : List (Option LineData)} : KeepsTabs s (stageGo fn x data s) := by
  unfold stageGo
  dsimp only
  split
  · exact .after (.foldl fun _ _ => stageBufLine_tabs)
      (.after (.ite (.refl _) ((emit_touches _ _).tabs rfl)) consumeLines_tabs)
  · exact .after (.foldl fun _ _ => stageHbmLine_tabs)
      (.after (.ite (.refl _) ((emit_touches _ _).tabs rfl)) consumeLines_tabs)
  · exact .after stageDense_tabs (.after (.ite (.refl _) ((emit_touches _ _).tabs rfl)) consumeLines_tabs)

theorem stageStart_tabs {fn x : Nat} {data : List (Option LineData)} : KeepsTabs s (stageStart fn x data s) :=
  .ite rejectHead_tabs
    (.ite (.after rejectHead_tabs violation_tabs)
       (by
          split
          · exact rejectHead_tabs
          · exact stageGo_tabs))

theorem trainPorts_tabs : KeepsTabs s (trainPorts s) := .lat (.refl _) fun wf => { wf with
    unit := ⟨wf.pc, wf.stack, wf.sensors, Tab.wf_updAll _ _ wf.port, wf.region, wf.flag, wf.comp, wf.lines,
      wf.drive⟩ }

theorem startLattice_tabs : KeepsTabs s (startLattice s) := .after ((trainingStep_touches _).tabs rfl) trainPorts_tabs

theorem startStitches_tabs : KeepsTabs s (startStitches s) := .lanes (.refl _) fun wf => { wf with }

theorem startTiles_tabs : KeepsTabs s (startTiles s) := .ite (.refl _) (.foldl fun _ _ => startTile_tabs)

theorem startFirmware_tabs : KeepsTabs s (startFirmware s) :=
  .after startTiles_tabs
    (.after startStitches_tabs
       (.after startLattice_tabs
          (.after ((stepDone_touches _ _).tabs rfl)
             (.after ((stepDone_touches _ _).tabs rfl)
                (.after ((persistHeld_touches _).tabs rfl)
                   (.after startPm_tabs (.boot_fw (.refl _) fun wf => { wf with })))))))

theorem startLanes_tabs {t : Nat} : KeepsTabs s (startLanes t s) := .after startTransfer_tabs updTile_tabs

theorem startLoad_tabs {q : MciReq} {n : Nat} : KeepsTabs s (startLoad q n s) := .after mciHold_tabs setSlot_tabs

theorem startMerge_tabs : KeepsTabs s (startMerge s) :=
  .after ((stepDone_touches _ _).tabs rfl)
    (.after noteUnclean_tabs
       (.after recordPower_tabs
          (.after recheckVet_tabs
             (.after mergeFaultMap_tabs (.after hardRepairs_tabs ((stepDone_touches _ _).tabs rfl))))))

theorem stitchLink_tabs {r : LinkTrain} : KeepsTabs s (stitchLink s r) :=
  .ite (.refl _)
    (.ite calInvalid_tabs (.after (.ite killLink_tabs (.refl _)) (.lanes (.refl _) fun wf => { wf with
        laneStatus := Tab.wf_set _ _ wf.laneStatus })))

theorem stitchPass_tabs {from_ : Nat} : KeepsTabs s (stitchPass from_ s) := .ite runTo_tabs (.refl _)

theorem stitchResults_tabs {rs : List StitchTrain} : KeepsTabs s (stitchResults rs s) :=
  .foldl fun _ _ => calResult_tabs

theorem stopPoison_tabs {id o : Nat} : KeepsTabs s (stopPoison id o s) := updCmd_tabs

theorem storeWin_tabs {h : FlitHdr} {first total : Nat} {beats : List LineIn} :
    KeepsTabs s (storeWin h first total beats s) :=
  .ite putWin_tabs (.ite failWin_tabs (.ite failWin_tabs putWin_tabs))

theorem tableHere_tabs {src tag region x : Nat} : KeepsTabs s (tableHere src tag region x s) := by
  unfold tableHere
  dsimp only
  split
  · exact regionRun_tabs
  · split
    · exact sendRsp_tabs
    · exact .after sendRsp_tabs (allocHere_tabs (by assumption))
  · exact .after (.ite extentsDone_tabs (.refl _)) (.after sendRsp_tabs deleteHere_tabs)
  · exact .after sendRsp_tabs aclInForce_tabs
  · exact .after sendRsp_tabs entryHere_tabs
  · exact .after sendRsp_tabs updRegion_tabs
  · exact sendRsp_tabs

theorem takeBarriers_tabs {node dir : Nat} {gone : List (BitVec 64)} :
    KeepsTabs s (takeBarriers node dir gone s) :=
  .ite (.ctl (.refl _) fun wf => { wf with }) (.refl _)

theorem takeReq_tabs {h : FlitHdr} {uop : Nat} {u : UnschIn} {act : State → State} (kept : ∀ {t}, KeepsTabs t (act t)) :
    KeepsTabs s (takeReq h uop u act s) := by
  unfold takeReq
  refine rxFlit_tabs (.ite passOn_tabs ?_)
  split
  · split
    · exact .refl _
    · exact sendFlit_tabs
  · exact .ite (.refl _) kept

theorem takeRsp_tabs {h : FlitHdr} {uop : Nat} {u : UnschIn} : KeepsTabs s (takeRsp h uop u s) := by
  unfold takeRsp
  split
  · exact .refl _
  · split
    · exact .after poolReply_tabs (.after admitWaiting_tabs (.lat (.refl _) fun wf => { wf with }))
    · exact .after partDone_tabs (.after admitWaiting_tabs (.lat (.refl _) fun wf => { wf with }))
    · exact .after partDone_tabs (.after admitWaiting_tabs (.lat (.refl _) fun wf => { wf with }))
    · exact .after tableReply_tabs (.after admitWaiting_tabs (.lat (.refl _) fun wf => { wf with }))
    · exact .after admitWaiting_tabs (.lat (.refl _) fun wf => { wf with })

theorem tileReady_tabs {t : Nat} : KeepsTabs s (tileReady t s) := by
  unfold tileReady
  dsimp only
  exact .after tileCombination_tabs
    (by
       split
       · exact .after runPackage_tabs
           (.after (.ite (.fmap_pm (.refl _) fun wf => { wf with
               pendCluster := Tab.wf_updAll _ _ wf.pendCluster }) (.fmap (.refl _) fun wf => { wf with pendCluster := Tab.wf_updAll _ _ wf.pendCluster }))
              updTile_tabs)
       · exact .after (.ite (.fmap_pm (.refl _) fun wf => { wf with
           pendCluster := Tab.wf_updAll _ _ wf.pendCluster }) (.fmap (.refl _) fun wf => { wf with pendCluster := Tab.wf_updAll _ _ wf.pendCluster }))
           updTile_tabs)

theorem toBoundary_tabs : KeepsTabs s (toBoundary s) :=
  .ite (.after (.ite (.refl _) boundary_tabs) advanceTo_tabs) boundary_tabs

theorem toCommit_tabs {router tick : Nat} : KeepsTabs s (toCommit router tick s) :=
  .after (.buf (.refl _) fun wf => { wf with
      ctlLast := Tab.wf_set _ _ wf.ctlLast }) (.after runTo_tabs (.free (.refl _)))

theorem toPartTick_tabs {k at_ : Nat} : KeepsTabs s (toPartTick k at_ s) := runTo_tabs

theorem trainedTile_tabs {t : Nat} : KeepsTabs s (trainedTile t s) :=
  .after (.ite (.ite failTile_tabs startLanes_tabs) (.after dropTile_tabs (.ite (.refl _) mpEvent_tabs)))
    (.foldl fun _ _ => consentTo_tabs)

theorem unusableFrame_tabs {t : Nat} : KeepsTabs s (unusableFrame t s) :=
  .foldl fun _ _ => .ite excludeSensor_tabs setSensor_tabs

theorem usableFrame_tabs {t : Nat} {readings : List (BitVec 16)} : KeepsTabs s (usableFrame t readings s) :=
  .foldl fun _ _ => .after judgeSample_tabs setSensor_tabs

theorem useEntry_tabs {key : Nat} {counted : Bool} {k : Nat} : KeepsTabs s (useEntry key counted k s) :=
  .after (.ite updRun_tabs (.refl _)) (.buf (.refl _) fun wf => { wf with
      slice := ⟨wf.bad, wf.single, wf.counted, Tab.wf_set _ _ wf.index, wf.acc⟩ })

theorem victimGone_tabs {b : Nat} : KeepsTabs s (victimGone b s) := by
  unfold victimGone
  dsimp only
  split
  · exact .refl _
  · split
    · exact .refl _
    · exact .ite startWrite_tabs fillLine_tabs

theorem wakeStack_tabs {pc : Nat} : KeepsTabs s (wakeStack pc s) :=
  .after (.ite (.after ((emit_touches _ _).tabs rfl) updParts_tabs) (.refl _)) updStack_tabs

theorem wakeTolerance_tabs : KeepsTabs s (wakeTolerance s) := .foldl fun _ _ => .ite (.refl _) startExit_tabs

theorem withLost_tabs {f : State → State} (kept : ∀ {t}, KeepsTabs t (f t)) : KeepsTabs s (withLost f s) := by
  unfold withLost
  dsimp only
  exact .after (.foldl fun _ _ => dropRequests_tabs) kept

theorem writeAborted_tabs {b : Nat} {sIn : State} : KeepsTabs sIn (writeAborted b sIn) := by
  unfold writeAborted
  dsimp only
  split
  · exact .dense (.refl _) fun wf => { wf with }
  · split
    · exact .after updLine_tabs (.dense (.refl _) fun wf => { wf with })
    · exact .after (.foldl fun _ _ => failReq_tabs)
        (.after dropMiss_tabs (.after updLine_tabs (.dense (.refl _) fun wf => { wf with })))

theorem writeArm_tabs {v : BitVec 32} : KeepsTabs s (writeArm v s) := .regs (.refl _) fun wf => { wf with }

theorem writeDbl_tabs {fn off : Nat} {v : BitVec 32} : KeepsTabs s (writeDbl fn off v s) :=
  .ite (.ite ringDoorbell_tabs cqDoorbell_tabs) (.ite flushRequest_tabs (.refl _))

theorem writeEnable_tabs {fn ring : Nat} {on : Bool} : KeepsTabs s (writeEnable fn ring on s) :=
  .ite ringEnable_tabs ringDisable_tabs

theorem writeEvtEn_tabs {v : BitVec 32} : KeepsTabs s (writeEvtEn v s) :=
  .after (.ite raiseVector_tabs (.refl _)) (.regs (.refl _) fun wf => { wf with })

theorem writeFattnEn_tabs {fn : Nat} {v : BitVec 32} : KeepsTabs s (writeFattnEn fn v s) :=
  .after (.ite raiseVector_tabs (.refl _)) updFn_tabs

theorem writeFrom_tabs {rd : Ready} {router line lo n : Nat} {mask : LineMask} :
    KeepsTabs s (writeFrom rd router line lo n mask s) :=
  .after
    (.ite (.after noteWrite_tabs schedWrite_tabs)
       (.after noteWrite_tabs (.after dataPathBreach_tabs countIdleOp_tabs)))
    takeInput_tabs

theorem writeInject_tabs {v : BitVec 32} : KeepsTabs s (writeInject v s) :=
  .ite (.refl _) (.regs (.refl _) fun wf => { wf with })

theorem writeMarks_tabs {fn ring rest : Nat} : KeepsTabs s (writeMarks fn ring rest s) :=
  .foldl fun _ _ => .after postCompletion_tabs updRing_tabs

theorem writeMbx_tabs {i : Nat} {v : BitVec 32} : KeepsTabs s (writeMbx i v s) :=
  .regs (.refl _) fun wf => { wf with mbxWindow := Tab.wf_set _ _ wf.mbxWindow }

theorem writeMsix_tabs {fn off : Nat} {v : BitVec 32} : KeepsTabs s (writeMsix fn off v s) :=
  .ite (.refl _) (.after (.ite ((emit_touches _ _).tabs rfl) (.refl _)) (.rings (.refl _) fun wf => { wf with
      host := ⟨wf.ring, wf.fn, Tab.wf_set _ _ wf.vec, wf.counters⟩ }))

theorem writePacket_tabs {p : FaultPkt} : KeepsTabs s (writePacket p s) :=
  .after (.ite evaluateRequests_tabs (.refl _)) (.after ((noteSlice_touches _ _).tabs rfl) logEntry_tabs)

theorem writePwrEn_tabs {v : BitVec 32} : KeepsTabs s (writePwrEn v s) :=
  .after (.ite raiseVector_tabs (.refl _)) (.regs (.refl _) fun wf => { wf with })

theorem writeRingParam_tabs {fn ring o : Nat} {v : BitVec 32} : KeepsTabs s (writeRingParam fn ring o v s) := by
  unfold writeRingParam
  split
  · exact .after updRing_tabs noteRsvd_tabs
  · exact updRing_tabs
  · exact .after updRing_tabs noteRsvd_tabs
  · exact updRing_tabs
  · exact .after updRing_tabs noteRsvd_tabs
  · exact .after updRing_tabs noteRsvd_tabs
  · exact .refl _

theorem writeRing_tabs {fn ring o : Nat} {v : BitVec 32} : KeepsTabs s (writeRing fn ring o v s) :=
  .ite (.ite (.refl _) writeRingParam_tabs)
    (.ite writeEnable_tabs
       (.ite (.counters (.refl _) fun wf => { wf with host := ⟨wf.ring, wf.fn, wf.vec, Tab.wf_set _ _ wf.counters⟩ })
          (.ite (.counters (.refl _) fun wf => { wf with
              host := ⟨wf.ring, wf.fn, wf.vec, Tab.wf_set _ _ wf.counters⟩ }) (.refl _))))

theorem writeScratch_tabs {hi : Bool} {v : BitVec 32} : KeepsTabs s (writeScratch hi v s) :=
  .regs (.refl _) fun wf => { wf with }

theorem writeStsEn_tabs {v : BitVec 32} : KeepsTabs s (writeStsEn v s) :=
  .after (.ite raiseVector_tabs (.refl _)) (.regs (.refl _) fun wf => { wf with })

theorem writeWord_tabs {fn off : Nat} {v : BitVec 32} : KeepsTabs s (writeWord fn off v s) :=
  .ite writeRing_tabs
    (.ite writeDbl_tabs
       (.ite updFn_tabs
          (.ite writeFattnEn_tabs
             (.ite writeMsix_tabs
                (.ite (.refl _)
                   (.ite (.ite (.refl _) writeMbx_tabs)
                      (.ite prioRewrite_tabs
                         (by
                            split
                            · exact .ite (.regs (.refl _) fun wf => { wf with }) (.refl _)
                            · exact .regs (.refl _) fun wf => { wf with }
                            · exact writeStsEn_tabs
                            · exact .ite capture_tabs (.refl _)
                            · exact writePwrEn_tabs
                            · exact (writeAckHalf_touches _ _ _).tabs rfl
                            · exact (writeAckHalf_touches _ _ _).tabs rfl
                            · exact writeEvtEn_tabs
                            · exact .regs (.refl _) fun wf => { wf with }
                            · exact .ite (.regs (.refl _) fun wf => { wf with }) (.refl _)
                            · exact writeArm_tabs
                            · exact writeScratch_tabs
                            · exact writeScratch_tabs
                            · exact writeInject_tabs
                            · exact .refl _))))))))

theorem writeWords_tabs {fn off value n : Nat} : KeepsTabs s (writeWords fn off value n s) := by
  induction n generalizing off value s with
  | zero => exact .refl _
  | succ n ih => exact .after ih writeWord_tabs

theorem writeReg_tabs {fn off size value : Nat} : KeepsTabs s (writeReg fn off size value s) :=
  .ite badDoorbell_tabs
    (.ite (.refl _)
       (.after (.ite ((writeAck_touches _ _).tabs rfl) (.ite prioRewrite_tabs writeWords_tabs))
          (.ite mbxCount_tabs (.refl _))))

theorem wroteLine_tabs {b : Nat} : KeepsTabs s (wroteLine b s) := by
  unfold wroteLine
  split
  · exact .refl _
  · exact updLine_tabs

theorem zeroBuffer_tabs : KeepsTabs s (zeroBuffer s) := .buf (.refl _) fun wf => { wf with
    slice := ⟨Tab.wf_nil _, Tab.wf_nil _, Tab.wf_nil _, wf.index, wf.acc⟩ }

theorem zeroDense_tabs {g : Nat} : KeepsTabs s (zeroDense g s) := by
  unfold zeroDense
  dsimp only
  exact .after ((emitAll_touches _ _).tabs rfl) fun wf =>
    have dropped := dropJobs_tabs wf
    { dropped with
      unit := ⟨dropped.pc, dropped.stack, dropped.sensors, dropped.port, dropped.region, dropped.flag, dropped.comp,
        Tab.wf_filter _ wf.lines, dropped.drive⟩
      healing := Tab.wf_filter _ wf.healing }

theorem zeroUnit_tabs {u : Nat} : KeepsTabs s (zeroUnit u s) := .hbm (.refl _) fun wf => { wf with
    unit := ⟨wf.pc, wf.stack, wf.sensors, wf.port, wf.region, Tab.wf_filter _ wf.flag, wf.comp, wf.lines, wf.drive⟩ }

theorem zeroKey_tabs {key : Nat} : KeepsTabs s (zeroKey key s) := .ite zeroUnit_tabs zeroDense_tabs

theorem zeroTags_tabs {stack : Nat} : KeepsTabs s (zeroTags stack s) := .hbm (.refl _) fun wf => { wf with
    unit := ⟨wf.pc, wf.stack, wf.sensors, wf.port, wf.region, Tab.wf_filter _ wf.flag, wf.comp, wf.lines, wf.drive⟩ }

theorem startTurn_tabs {fn ring x : Nat} {t : State} (e : startTurn fn ring s = some (x, t)) : KeepsTabs s t := by
  unfold startTurn at e
  dsimp only at e
  split at e
  · cases front : consumable s fn ring <;> rw [front] at e <;> cases e
    exact swrr_tabs
  · cases e

theorem sourceLine_tabs {region o : Nat} {fetched f : List LineIn} {a : LineData × Bool} {t : State}
    (e : sourceLine region o fetched s = some (a, f, t)) : KeepsTabs s t := by
  unfold sourceLine at e
  dsimp only at e
  split at e
  · cases e
    exact hbmRead_tabs
  · split at e <;> cases e
    exact .refl _

theorem operandLines_tabs {region : Nat} {l : List (Nat × Nat)} {f g : List LineIn} {a : List LineData × Option Nat}
    {t : State} (e : operandLines region l f s = some (a, g, t)) : KeepsTabs s t := by
  induction l generalizing f s a g t with
  | nil => cases e; exact .refl _
  | cons x l ih =>
    obtain ⟨r, o⟩ := x
    unfold operandLines at e
    split at e
    · cases e
    · rename_i first
      split at e
      · cases e
        exact sourceLine_tabs first
      · split at e
        · cases e
        · rename_i rest
          cases e
          exact .after (ih rest) (sourceLine_tabs first)

theorem fillLines_tabs {id c : Nat} {offs : List Nat} {f : List LineIn} {t : State}
    (e : fillLines id c offs f s = some t) : KeepsTabs s t := by
  cases e
  exact .foldl fun _ _ => destLine_tabs

theorem copyLines_tabs {id c : Nat} {offs : List Nat} {f : List LineIn} {t : State}
    (e : copyLines id c offs f s = some t) : KeepsTabs s t := by
  induction offs generalizing f s with
  | nil => cases e; exact .refl _
  | cons o l ih =>
    unfold copyLines at e
    split at e
    · cases e
    · rename_i source
      split at e
      · cases e
        exact .after stopPoison_tabs (sourceLine_tabs source)
      · exact .after (ih e) (.after destLine_tabs (sourceLine_tabs source))

theorem compareLines_tabs {id c : Nat} {offs : List Nat} {f : List LineIn} {t : State}
    (e : compareLines id c offs f s = some t) : KeepsTabs s t := by
  induction offs generalizing f s with
  | nil => cases e; exact .refl _
  | cons o l ih =>
    unfold compareLines at e
    split at e
    · cases e
    · rename_i source
      split at e
      · cases e
        exact .after stopPoison_tabs (sourceLine_tabs source)
      · split at e
        · cases e
        · rename_i dest
          split at e
          · cases e
            exact .after stopPoison_tabs (.after (sourceLine_tabs dest) (sourceLine_tabs source))
          · split at e
            · exact .after (ih e) (.after (sourceLine_tabs dest) (sourceLine_tabs source))
            · cases e
              exact .after updCmd_tabs (.after (sourceLine_tabs dest) (sourceLine_tabs source))

theorem reduceLines_tabs {id c : Nat} {offs : List Nat} {f : List LineIn} {t : State}
    (e : reduceLines id c offs f s = some t) : KeepsTabs s t := by
  induction offs generalizing f s with
  | nil => cases e; exact .refl _
  | cons o l ih =>
    unfold reduceLines at e
    dsimp only at e
    split at e
    · cases e
    · rename_i operands
      cases e
      exact .after stopPoison_tabs (operandLines_tabs operands)
    · rename_i operands
      exact .after (ih e) (.after destLine_tabs (operandLines_tabs operands))

theorem runData_tabs {op id : Nat} {lines : Nat → List Nat → State → Option State}
    (kept : ∀ {c l v t}, lines c l v = some t → KeepsTabs v t) : KeepsTabs s (runData op id lines s) := by
  unfold runData
  split
  · exact .refl _
  · split
    · exact .refl _
    · dsimp only
      split
      · exact .after (.foldl fun _ _ => sendPart_tabs) updCmd_tabs
      · cases done : lines _ _ _ with
        | none => exact .refl _
        | some t => exact .after (kept done) (.after (.foldl fun _ _ => sendPart_tabs) updCmd_tabs)

theorem atEvent_tabs {r : EvRef} {kind : Nat} {act : Ready → State → State} (kept : ∀ {rd t}, KeepsTabs t (act rd t)) :
    KeepsTabsNext s (atEvent r kind s act) := by
  unfold atEvent
  split
  · exact .next (.refl _)
  · exact .next (.after kept advance_tabs)

theorem execAckIdleTimer_tabs {port : Nat} : KeepsTabsNext s (execAckIdleTimer port s) :=
  .ite (.next wireBare_tabs) (.next (.refl _))

theorem execArrive_tabs {h : Option FlitHdr} {port msg : Nat} : KeepsTabsNext s (execArrive h port msg s) :=
  .next
    (rxCtrl_tabs
       (.ite (.refl _)
          (by
             split
             · exact .refl _
             · exact .after arriveTry_tabs (.lat (.refl _) fun wf => { wf with }))))

theorem execAttentionEnableWrite_tabs {fn block : Nat} {value : BitVec 32} :
    KeepsTabsNext s (execAttentionEnableWrite fn block value s) := by
  unfold execAttentionEnableWrite
  split
  · exact .next (barWrite_tabs writeFattnEn_tabs)
  · exact .next (barWrite_tabs writeStsEn_tabs)
  · exact .next (barWrite_tabs writeEvtEn_tabs)
  · exact .next (barWrite_tabs writePwrEn_tabs)
  · exact .next (.refl _)

theorem execAutonomousRefresh_tabs {pc : Nat} : KeepsTabsNext s (execAutonomousRefresh pc s) :=
  .ite (.next (.after ((emit_touches _ _).tabs rfl) updPc_tabs)) (.next (.refl _))

theorem execBarrierHold_tabs : KeepsTabsNext s (execBarrierHold s) :=
  .ite (.next arriveTry_tabs) (.ite (.next (.after arriveTry_tabs runTo_tabs)) (.next (.refl _)))

theorem execBarrierLoneRelease_tabs : KeepsTabsNext s (execBarrierLoneRelease s) :=
  .ite (.next (.after lapse_tabs (.after releaseTick_tabs (.lat (.refl _) fun wf => { wf with }))))
    (.next (.refl _))

theorem execBarrierPolicy_tabs {q : MciReq} : KeepsTabsNext s (execBarrierPolicy q s) :=
  .next
    (mciFixed_tabs
       (.ite (.after (.lat (.refl _) fun wf => { wf with }) mciStatus_tabs)
          (by
             split
             · exact mciStatus_tabs
             · exact .after sendCtrl_tabs mciStatus_tabs)))

theorem execBarrierTimeout_tabs : KeepsTabsNext s (execBarrierTimeout s) :=
  .ite (.next (.after notePartial_tabs releaseBarrier_tabs)) (.next (.refl _))

theorem execBeatDiscard_tabs {router port : Nat} : KeepsTabsNext s (execBeatDiscard router port s) := by
  unfold execBeatDiscard
  split
  · exact .next (.refl _)
  · exact .ite
      (.ite (.next updPipe_tabs)
         (.next (.after dataPathBreach_tabs (.after (.buf (.refl _) fun wf => { wf with
             discards := Tab.wf_set _ _ wf.discards }) updPipe_tabs))))
      (.next (.refl _))

theorem execBindEffect_tabs {k : Nat} : KeepsTabsNext s (execBindEffect k s) :=
  .ite (.next toBoundary_tabs) (.next (.refl _))

theorem execBondTrainingDone_tabs {t : Nat} {cells : List CellTrain} :
    KeepsTabsNext s (execBondTrainingDone t cells s) :=
  .ite (.next (.refl _))
    (.next
       (.after (.ite trainedTile_tabs (.refl _))
          (.after judgeBonds_tabs (.after updTile_tabs (.ite runTo_tabs (.refl _))))))

theorem execBootDone_tabs {t : Nat} {rx : List SvcClock} : KeepsTabsNext s (execBootDone t rx s) := by
  unfold execBootDone
  split
  · exact .next (.refl _)
  · exact .ite (.next ackAgain_tabs)
      (by
         split
         · exact .next (.after sendAck_tabs updTile_tabs)
         · exact .next (.after failTile_tabs sendAck_tabs)
         · exact .next (.after failTile_tabs sendAck_tabs)
         · exact .next sendAck_tabs)

theorem execBranchRead_tabs {part : Nat} : KeepsTabsNext s (execBranchRead part s) :=
  .ite (.next (.refl _))
    (by
       split
       · exact .next (.refl _)
       · exact .next (.after branchNow_tabs advance_tabs))

theorem execBufferScrub_tabs {q : MciReq} : KeepsTabsNext s (execBufferScrub q s) :=
  .next (mciFixed_tabs (.after mciStatus_tabs (.buf (.refl _) fun wf => { wf with })))

theorem execCacheAccess_tabs : KeepsTabsNext s (execCacheAccess s) := by
  unfold execCacheAccess
  split
  · exact .next (.refl _)
  · exact .next (.after denseServe_tabs (.dense (.refl _) fun wf => { wf with }))

theorem execCacheCleaner_tabs : KeepsTabsNext s (execCacheCleaner s) :=
  .ite (.next (.dense (.refl _) fun wf => { wf with }))
    (by
       split
       · exact .next (.after startWrite_tabs (.dense (.refl _) fun wf => { wf with }))
       · exact .next (.dense (.refl _) fun wf => { wf with }))

theorem execCapture_tabs : KeepsTabsNext s (execCapture s) := .next (barWrite_tabs capture_tabs)

theorem execClockCorrelate_tabs {q : MciReq} : KeepsTabsNext s (execClockCorrelate q s) :=
  .next (mciFixed_tabs mciAnswer_tabs)

theorem execClockLoss_tabs : KeepsTabsNext s (execClockLoss s) := .ite (.next clockLossNow_tabs) (.next (.refl _))

theorem execCompare_tabs {id : Nat} {fetched : List LineIn} : KeepsTabsNext s (execCompare id fetched s) :=
  .next (runData_tabs fun e => compareLines_tabs e)

theorem execCompressedRecordHandover_tabs {port : Nat} : KeepsTabsNext s (execCompressedRecordHandover port s) := by
  unfold execCompressedRecordHandover
  split
  · exact .ite (.next (.refl _))
      (.ite (.next toPartTick_tabs) (.next (.after handOver_tabs (.after updComp_tabs toPartTick_tabs))))
  · exact .next (.refl _)

theorem execConfigurationRequest_tabs {port fn : Nat} {clearVf setVf : Bool} :
    KeepsTabsNext s (execConfigurationRequest port fn clearVf setVf s) :=
  .ite (.next (.refl _))
    (.ite (.next ((emit_touches _ _).tabs rfl))
       (.ite (.next ((emit_touches _ _).tabs rfl))
          (.ite (.next ((emit_touches _ _).tabs rfl))
             (.ite
                (.next
                   (.after clearVfWindows_tabs
                      (.after flrAll_tabs (.after (.boot (.refl _)) ((emit_touches _ _).tabs rfl)))))
                (.ite (.next (.after (.boot (.refl _)) ((emit_touches _ _).tabs rfl)))
                   (.next ((emit_touches _ _).tabs rfl)))))))

theorem execConsentTimeout_tabs {bundle : Nat} : KeepsTabsNext s (execConsentTimeout bundle s) :=
  .ite (.next (.after sendEvent_tabs (.lanes (.refl _) fun wf => { wf with }))) (.next (.refl _))

theorem execControlPortCommit_tabs {router : Nat} : KeepsTabsNext s (execControlPortCommit router s) := by
  unfold execControlPortCommit
  dsimp only
  split
  · exact .next (.refl _)
  · exact .ite (.next (.refl _))
      (by
         split
         · exact .next
             (.after ctlAnswer_tabs (.after ((drawLine_touches _).tabs rfl) (.buf (.refl _) fun wf => { wf with })))
         · exact .next (.after commitAccess_tabs (.after toCommit_tabs (.buf (.refl _) fun wf => { wf with }))))

theorem execControlWordParityError_tabs {node dir : Nat} {resend : Bool} {sIn : State} :
    KeepsTabsNext sIn (execControlWordParityError node dir resend sIn) :=
  .ite (.next (.refl _))
    (.ite (.next (.after killLink_tabs (.ite injectDone_tabs (.refl _))))
       (.next
          (.after ((emit_touches _ _).tabs rfl)
             (.after (.ctl (.refl _) fun wf => { wf with
                 resends := Tab.wf_set _ _ wf.resends }) (.ite injectDone_tabs (.refl _))))))

theorem execCopy_tabs {id : Nat} {fetched : List LineIn} : KeepsTabsNext s (execCopy id fetched s) :=
  .next (runData_tabs fun e => copyLines_tabs e)

theorem execCoreReferenceStop_tabs : KeepsTabsNext s (execCoreReferenceStop s) :=
  .ite (.next (.refl _))
    (.next
       (.after (.boot_pm (.refl _) fun wf => { wf with })
          (.after ((writeSetting_touches _ _).tabs rfl)
             (.after (.ite clockLossNow_tabs (.refl _)) (.clk (.refl _))))))

theorem execCorrectedWriteback_tabs {pc : Nat} : KeepsTabsNext s (execCorrectedWriteback pc s) := by
  unfold execCorrectedWriteback
  split
  · exact .next (.refl _)
  · exact .ite (.next (.refl _))
      (.next
         (by
            split
            · exact .after (.hbm (.refl _) fun wf => { wf with
                unit := ⟨wf.pc, wf.stack, wf.sensors, wf.port, wf.region, Tab.wf_set _ _ wf.flag, wf.comp, wf.lines,
                  wf.drive⟩ })
                (.after updPc_tabs (.after moveRows_tabs wakeStack_tabs))
            · exact .after (.hbm (.refl _) fun wf => { wf with
                unit := ⟨wf.pc, wf.stack, wf.sensors, wf.port, wf.region, Tab.wf_set _ _ wf.flag, wf.comp, wf.lines,
                  wf.drive⟩ })
                (.after updPc_tabs (.after moveRows_tabs wakeStack_tabs))
            · exact .after updPc_tabs (.after moveRows_tabs wakeStack_tabs)))

theorem execCounterClear_tabs {q : MciReq} : KeepsTabsNext s (execCounterClear q s) :=
  .next (mciFixed_tabs (.after mciStatus_tabs (.ite (.foldl fun _ _ => clearCounter_tabs) clearCounter_tabs)))

theorem execCounterLowRead_tabs {fn offset size : Nat} : KeepsTabsNext s (execCounterLowRead fn offset size s) :=
  .ite (.next ((emit_touches _ _).tabs rfl)) (.next (.after ((emit_touches _ _).tabs rfl) readReg_tabs))

theorem execCounterRead_tabs {q : MciReq} : KeepsTabsNext s (execCounterRead q s) :=
  .next
    (mciFixed_tabs
       (.ite (.after mciStatus_tabs violation_tabs) (.after mciAnswer_tabs (.ite updRing_tabs (.refl _)))))

theorem execCqHeadDoorbell_tabs {fn ring : Nat} {value : BitVec 32} :
    KeepsTabsNext s (execCqHeadDoorbell fn ring value s) :=
  .next (barWrite_tabs cqDoorbell_tabs)

theorem execCrumb_tabs : KeepsTabsNext s (execCrumb s) :=
  .ite
    (.next
       (.after (.ite ((passCrumb_touches _).tabs rfl) (.refl _))
          (.after (.ite (.refl _) fillRun_tabs) fillRun_tabs)))
    (.next (.refl _))

theorem execCxlMemRead_tabs {pbr tag : Nat} {region : Option Nat} {off : Nat} :
    KeepsTabsNext s (execCxlMemRead pbr tag region off s) :=
  .next (.ite hostRead_tabs (.refl _))

theorem execCxlMemWrite_tabs {pbr tag : Nat} {region : Option Nat} {off : Nat} {data : LineData} {poison : Bool} :
    KeepsTabsNext s (execCxlMemWrite pbr tag region off data poison s) :=
  .next (.ite memWrite_tabs (.refl _))

theorem execDbgInject_tabs {value : BitVec 32} : KeepsTabsNext s (execDbgInject value s) :=
  .next (barWrite_tabs writeInject_tabs)

theorem execDenseAttach_tabs {q : MciReq} {found : List DriveIn} : KeepsTabsNext s (execDenseAttach q found s) :=
  .next
    (mciFixed_tabs
       (.ite mciStatus_tabs (.after denseGo_tabs (.after (.dense (.refl _) fun wf => { wf with }) mciHold_tabs))))

theorem execDenseFlush_tabs {q : MciReq} : KeepsTabsNext s (execDenseFlush q s) :=
  .next
    (mciFixed_tabs
       (.ite (.after mciStatus_tabs violation_tabs)
          (.ite mciStatus_tabs
             (.after denseGo_tabs (.after (.dense (.refl _) fun wf => { wf with }) mciHold_tabs)))))

theorem execDenseQuery_tabs {q : MciReq} : KeepsTabsNext s (execDenseQuery q s) := .next (mciFixed_tabs mciQuery_tabs)

theorem execDenseRequestTimeout_tabs : KeepsTabsNext s (execDenseRequestTimeout s) := by
  unfold execDenseRequestTimeout
  split
  · exact .next (.refl _)
  · exact .ite (.next (.refl _))
      (.next
         (.after denseGo_tabs
            (.after failReq_tabs (.after dropJobs_tabs (.dense (.refl _) fun wf => { wf with })))))

theorem execDescriptorBeat_tabs {router : Nat} : KeepsTabsNext s (execDescriptorBeat router s) := by
  unfold execDescriptorBeat
  dsimp only
  split
  · split
    · exact .next (.refl _)
    · exact .ite (.next (.refl _))
        (.ite (.next (.after (.ite enterBeat_tabs (.refl _)) (.ite (.refl _) openDue_tabs)))
           (.next (.after (.ite (.refl _) updComp_tabs) (.ite (.refl _) openDue_tabs))))
  · exact .next (.refl _)

theorem execDeviceReady_tabs {found : List DriveIn} : KeepsTabsNext s (execDeviceReady found s) := by
  unfold execDeviceReady
  dsimp only
  exact .ite (.next (.after (.ite ((emit_touches _ _).tabs rfl) (.refl _)) (.boot (.refl _))))
    (.ite (.next (.refl _))
       (.next
          (.after evaluateRequests_tabs
             (.after rejoinGroup_tabs
                (.after reattach_tabs
                   (.after ((emitAll_touches _ _).tabs rfl)
                      (.after ((stepDone_touches _ _).tabs rfl)
                         (.after applyStored_tabs (.boot_dense_fw (.refl _) fun wf => { wf with })))))))))

theorem execDiscoveryAck_tabs {t : Nat} {rx : List SvcClock} : KeepsTabsNext s (execDiscoveryAck t rx s) := by
  unfold execDiscoveryAck
  split
  · exact .next (.refl _)
  · exact .ite (.next (.ite lanesAcked_tabs (.refl _)))
      (.ite (.next (.refl _))
         (by
            split
            · exact .ite (.next (.after sendBoot_tabs updTile_tabs)) (.next updTile_tabs)
            · exact .next tileReady_tabs
            · exact .next (.refl _)))

theorem execDiscoveryTimeout_tabs {t : Nat} : KeepsTabsNext s (execDiscoveryTimeout t s) :=
  .ite (.next (.refl _))
    (.ite (.next trainedTile_tabs)
       (.ite (.next (.refl _)) (.ite (.next (.after repeatStep_tabs updTile_tabs)) (.next failTile_tabs))))

theorem execDispatch_tabs {e : EvRef} : KeepsTabsNext s (execDispatch e s) :=
  atEvent_tabs @fun _ _ => by
    split
    · exact .refl _
    · exact .after addDue_tabs ((sendDispatch_touches _ _ _).tabs rfl)

theorem execDispatchResultWrite_tabs {router : Nat} {up : List GroupTick} :
    KeepsTabsNext s (execDispatchResultWrite router up s) := by
  unfold execDispatchResultWrite
  dsimp only
  split
  · exact .next (.refl _)
  · split
    · exact .next (.refl _)
    · exact .ite (.next (.refl _))
        (.ite (.next (.after noteWrite_tabs (.after socketStall_tabs (.after dropDue_tabs advance_tabs))))
           (.next
              (.after noteLine_tabs
                 (.after schedWrite_tabs
                    (.after (.ite (.refl _) dataPathBreach_tabs) (.after dropDue_tabs advance_tabs))))))

theorem execDriveCommandAbort_tabs {drive cmd block : Nat} :
    KeepsTabsNext s (execDriveCommandAbort drive cmd block s) := by
  unfold execDriveCommandAbort
  split
  · exact .next (.refl _)
  · exact .next
      (.after denseGo_tabs
         (.after noteAbort_tabs
            (by
               split
               · exact .after readAborted_tabs (.after driveEnds_tabs ((emit_touches _ _).tabs rfl))
               · exact .after writeAborted_tabs (.after driveEnds_tabs ((emit_touches _ _).tabs rfl))
               · exact .after flushAborted_tabs (.after driveEnds_tabs ((emit_touches _ _).tabs rfl)))))

theorem execDriveCommandComplete_tabs {drive cmd block data : Nat} {error : Bool} :
    KeepsTabsNext s (execDriveCommandComplete drive cmd block data error s) := by
  unfold execDriveCommandComplete
  split
  · exact .next (.refl _)
  · exact .next
      (.after denseGo_tabs
         (by
            split
            · exact .after filled_tabs driveEnds_tabs
            · exact .after victimGone_tabs
                (.after wroteLine_tabs
                   (.after flushWrote_tabs (.after (.dense (.refl _) fun wf => { wf with }) driveEnds_tabs)))
            · exact .after (.dense (.refl _) fun wf => { wf with }) driveEnds_tabs))

theorem execDriveFailed_tabs {drive : Nat} : KeepsTabsNext s (execDriveFailed drive s) :=
  .ite (.next failDrive_tabs) (.next (.refl _))

theorem execDrivePresenceLoss_tabs {drive : Nat} : KeepsTabsNext s (execDrivePresenceLoss drive s) :=
  .ite (.next (.refl _)) (.ite (.next (.after failDrive_tabs (.pins (.refl _)))) (.next (.pins (.refl _))))

theorem execElasticOverflow_tabs {buffer fill : Nat} : KeepsTabsNext s (execElasticOverflow buffer fill s) :=
  .ite (.next (.refl _))
    (.next
       (by
          split
          · exact .after (.ite retrainPort_tabs (.refl _)) (.clk (.refl _))
          · exact .clk (.refl _)))

theorem execErrlogClear_tabs {q : MciReq} : KeepsTabsNext s (execErrlogClear q s) := .next errlogCommand_tabs

theorem execErrlogRead_tabs {q : MciReq} : KeepsTabsNext s (execErrlogRead q s) := .next errlogCommand_tabs

theorem execEventLink_tabs {e : EvRef} {noise : List LinkNoise} : KeepsTabsNext s (execEventLink e noise s) :=
  atEvent_tabs (.after ((emitAll_touches _ _).tabs rfl) (.after updPipe_tabs takeInput_tabs))

theorem execEventPacket_tabs {p : Option PktIn} : KeepsTabsNext s (execEventPacket p s) := by
  unfold execEventPacket
  split
  · exact .next (.refl _)
  · exact .next (.after writePacket_tabs (.after (.ite drainQueue_tabs (.refl _)) (.ctl (.refl _) fun wf => { wf with })))

theorem execEventRead_tabs {q : MciReq} : KeepsTabsNext s (execEventRead q s) :=
  .next (mciFixed_tabs (.after mciAnswer_tabs (.ite (.refl _) (.logs (.refl _)))))

theorem execFaultMapMerge_tabs : KeepsTabsNext s (execFaultMapMerge s) :=
  .ite (.next (.refl _)) (.ite (.ite (.next startMerge_tabs) (.next (.refl _))) (.next mergeFaultMap_tabs))

theorem execFaultMapQuery_tabs {q : MciReq} : KeepsTabsNext s (execFaultMapQuery q s) :=
  .next (mciFixed_tabs mciAnswer_tabs)

theorem execFaultPacket_tabs {p : Option PktIn} : KeepsTabsNext s (execFaultPacket p s) := by
  unfold execFaultPacket
  split
  · exact .next (.refl _)
  · exact .next (.after reportLost_tabs (.after writePacket_tabs (.ctl (.refl _) fun wf => { wf with })))

theorem execFill_tabs {id : Nat} {fetched : List LineIn} : KeepsTabsNext s (execFill id fetched s) :=
  .next (runData_tabs fun e => fillLines_tabs e)

theorem execFirstBarrierTimer_tabs : KeepsTabsNext s (execFirstBarrierTimer s) :=
  .ite (.next releaseBarrier_tabs) (.next (.refl _))

theorem execFlitCrcFailure_tabs {port : Nat} {uncorrectable : Bool} :
    KeepsTabsNext s (execFlitCrcFailure port uncorrectable s) :=
  .ite (.next (.refl _)) (.next (.after (.ite countUp_tabs (.refl _)) countUp_tabs))

theorem execFlitSlot_tabs {port : Nat} : KeepsTabsNext s (execFlitSlot port s) :=
  .ite (.next fillSlot_tabs) (.next (.refl _))

theorem execFlush_tabs {id : Nat} : KeepsTabsNext s (execFlush id s) := .next runToken_tabs

theorem execFlushEffect_tabs {fn ring rest : Nat} : KeepsTabsNext s (execFlushEffect fn ring rest s) :=
  .next (.after writeMarks_tabs settleFlush_tabs)

theorem execFlushRequest_tabs {fn ring : Nat} : KeepsTabsNext s (execFlushRequest fn ring s) :=
  .next (barWrite_tabs flushRequest_tabs)

theorem execFlushTokenComplete_tabs {region : Nat} : KeepsTabsNext s (execFlushTokenComplete region s) :=
  .next (.ite completeToken_tabs (.refl _))

theorem execFlushTokenTimeout_tabs {region : Nat} : KeepsTabsNext s (execFlushTokenTimeout region s) := by
  unfold execFlushTokenTimeout
  split
  · exact .next (.refl _)
  · exact .next (.ite completeToken_tabs (.refl _))

theorem execFoldStep_tabs {e : EvRef} : KeepsTabsNext s (execFoldStep e s) :=
  atEvent_tabs @fun _ _ => by
    split
    · exact .refl _
    · split
      · exact .refl _
      · exact .after addDue_tabs (.after foldOperand_tabs foldOperand_tabs)

theorem execFrameBoundary_tabs : KeepsTabsNext s (execFrameBoundary s) :=
  .ite (.next toBoundary_tabs) (.next (.refl _))

theorem execFrameBudgetExhausted_tabs {part : Nat} : KeepsTabsNext s (execFrameBudgetExhausted part s) :=
  .ite (.next toBoundary_tabs) (.next (.refl _))

theorem execFunctionLevelReset_tabs {fn : Nat} : KeepsTabsNext s (execFunctionLevelReset fn s) :=
  .ite (.next (.after flrAll_tabs (.boot (.refl _)))) (.next flrOne_tabs)

theorem execFwActivate_tabs {q : MciReq} : KeepsTabsNext s (execFwActivate q s) :=
  .next
    (mciFixed_tabs
       (.ite mciStatus_tabs
          (.after
             (.ite (.refl _)
                (.ite (.boot (.refl _)) (.after mpOnlyReset_tabs (.fw (.refl _) fun wf => { wf with }))))
             (.after mciStatus_tabs fwActivate_tabs))))

theorem execFwCommit_tabs {q : MciReq} : KeepsTabsNext s (execFwCommit q s) :=
  .next
    (mciFixed_tabs
       (.ite mciStatus_tabs
          (.after mciStatus_tabs
             (.after (.ite raiseMinimums_tabs (.refl _)) (.after bootRecord_tabs fwSetState_tabs)))))

theorem execFwInfo_tabs {q : MciReq} : KeepsTabsNext s (execFwInfo q s) := .next (mciFixed_tabs mciQuery_tabs)

theorem execFwVerify_tabs {q : MciReq} : KeepsTabsNext s (execFwVerify q s) :=
  .next
    (mciFixed_tabs
       (.ite mciStatus_tabs
          (by
             split
             · exact .after mciStatus_tabs fwSetState_tabs
             · exact .after mciAnswer_tabs (.after mpEvent_tabs fwSetState_tabs))))

theorem execFwWrite_tabs {q : MciReq} {data : Nat} : KeepsTabsNext s (execFwWrite q data s) :=
  .next (mciRun_tabs fwWrite_tabs)

theorem execGather_tabs {e : EvRef} : KeepsTabsNext s (execGather e s) := by
  unfold execGather
  dsimp only
  exact atEvent_tabs @fun _ _ => by
    split
    · exact .refl _
    · split
      · exact .after readInto_tabs useEntry_tabs
      · exact .after updPart_tabs useEntry_tabs

theorem execHbmAssign_tabs {q : MciReq} : KeepsTabsNext s (execHbmAssign q s) :=
  .next
    (mciFixed_tabs
       (.ite mciStatus_tabs
          (.ite (.after denseGo_tabs (.after (.dense (.refl _) fun wf => { wf with }) mciHold_tabs))
             (.after mciStatus_tabs assignRoles_tabs))))

theorem execHbmQuery_tabs {q : MciReq} : KeepsTabsNext s (execHbmQuery q s) := .next (mciFixed_tabs mciQuery_tabs)

theorem execHbmSoftRepair_tabs {pc row : Nat} {resource : Bool} :
    KeepsTabsNext s (execHbmSoftRepair pc row resource s) := by
  unfold execHbmSoftRepair
  generalize rowLines pc row = lines
  exact .ite (.next (.refl _)) (.ite
    (.next (.after sendEvent_tabs (.after (.hbm (.refl _) fun wf => { wf with
      unit := ⟨wf.pc, wf.stack, wf.sensors, wf.port, wf.region, Tab.wf_updAll _ _ wf.flag, wf.comp, wf.lines,
        wf.drive⟩ }) updPc_tabs)))
    (.next (.after sendEvent_tabs (.after sendEvent_tabs updPc_tabs))))

theorem execHbmTempSample_tabs {stack : Nat} {raw : BitVec 16} : KeepsTabsNext s (execHbmTempSample stack raw s) :=
  .ite (.next (.refl _)) (.next (.after denyFrames_tabs (.after updStack_tabs judgeSample_tabs)))

theorem execHbmTraining_tabs {stack : Nat} {good : Bool} {channels : List ChannelTrain} :
    KeepsTabsNext s (execHbmTraining stack good channels s) :=
  .ite (.next (.refl _))
    (.next
       (.after (.ite ((stepDone_touches _ _).tabs rfl) (.refl _))
          (.after updPcs_tabs
             (.ite (.after (.foldl fun _ _ => repairChannel_tabs) (.after zeroTags_tabs updStack_tabs))
                (.after mpEvent_tabs (.after deadenPcs_tabs updStack_tabs))))))

theorem execHelloRetry_tabs {t : Nat} : KeepsTabsNext s (execHelloRetry t s) :=
  .ite (.next (.refl _))
    (.ite (.next (.after sendTile_tabs updTile_tabs))
       (.ite (.next (.refl _)) (.ite (.next failTile_tabs) (.next (.after sendTile_tabs updTile_tabs)))))

theorem execHostReadData_tabs {k frame recIdx beat : Nat} {data : LineData} {failed : Bool} :
    KeepsTabsNext s (execHostReadData k frame recIdx beat data failed s) :=
  .next updRun_tabs

theorem execHostTransferBeat_tabs {k recIdx beat : Nat} : KeepsTabsNext s (execHostTransferBeat k recIdx beat s) := by
  unfold execHostTransferBeat
  split
  · exact .next (.refl _)
  · exact .ite (.next (.after presentHostBeat_tabs advance_tabs)) (.next (.after acceptHostBeat_tabs advance_tabs))

theorem execIdent_tabs {t : Nat} {rx : List SvcClock} : KeepsTabsNext s (execIdent t rx s) := by
  unfold execIdent
  split
  · exact .next (.refl _)
  · exact .ite (.next ackAgain_tabs)
      (.ite (.next (.after identDone_tabs (.after sendAck_tabs updTile_tabs)))
         (.next (.after sendAck_tabs updTile_tabs)))

theorem execIdleExitComplete_tabs {part_ : Nat} : KeepsTabsNext s (execIdleExitComplete part_ s) :=
  .ite (.next (.after setGate_tabs updPart_tabs)) (.next (.refl _))

theorem execIdleFlit_tabs {h : FlitHdr} : KeepsTabsNext s (execIdleFlit h s) := .next (rxBare_tabs (.refl _))

theorem execIdleStateEntry_tabs {part_ : Nat} : KeepsTabsNext s (execIdleStateEntry part_ s) :=
  .ite (.next (.refl _))
    (by
       split
       · exact .next (.refl _)
       · exact .ite (.next (.refl _))
           (.next
              (.after
                 (.ite setGate_tabs
                    (.ite (.foldl fun _ _ => .after ((emitAll_touches _ _).tabs rfl) updStack_tabs) (.refl _)))
                 updPart_tabs)))

theorem execImageBind_tabs {q : MciReq} : KeepsTabsNext s (execImageBind q s) :=
  .next
    (mciFixed_tabs
       (.ite mciStatus_tabs
          (.ite mciStatus_tabs (.ite mciStatus_tabs (.after mciStatus_tabs (.after setSlot_tabs updPart_tabs))))))

theorem execImageEvict_tabs {q : MciReq} : KeepsTabsNext s (execImageEvict q s) :=
  .next
    (mciFixed_tabs
       (.ite (.after mciStatus_tabs violation_tabs)
          (by
             split
             · exact mciStatus_tabs
             · exact .after mciStatus_tabs loadFails_tabs
             · exact .after mciStatus_tabs setSlot_tabs
             · exact .after mciStatus_tabs setSlot_tabs
             · exact mciStatus_tabs
             · exact mciStatus_tabs
             · exact mciStatus_tabs)))

theorem execImageLoad_tabs {q : MciReq} : KeepsTabsNext s (execImageLoad q s) :=
  .next (mciFixed_tabs (.ite (.after mciAnswer_tabs violation_tabs) (.ite mciAnswer_tabs startLoad_tabs)))

theorem execImageLoadDone_tabs {slot_ bytes len : Nat} : KeepsTabsNext s (execImageLoadDone slot_ bytes len s) := by
  unfold execImageLoadDone
  dsimp only
  exact .ite (.next (.refl _))
    (by
       split
       · split
         · exact .next (.after violation_tabs loadFails_tabs)
         · exact .next (.after mciReply_tabs setSlot_tabs)
       · exact .next loadFails_tabs)

theorem execImagePolicy_tabs {q : MciReq} : KeepsTabsNext s (execImagePolicy q s) :=
  .next (mciFixed_tabs (.after mciStatus_tabs (.fw (.refl _) fun wf => { wf with })))

theorem execImageQuery_tabs {q : MciReq} : KeepsTabsNext s (execImageQuery q s) :=
  .next (mciFixed_tabs (.ite (.after mciStatus_tabs violation_tabs) mciQuery_tabs))

theorem execImageUnbind_tabs {q : MciReq} : KeepsTabsNext s (execImageUnbind q s) :=
  .next
    (mciFixed_tabs @fun _ => by
       split
       · exact mciStatus_tabs
       · exact .after mciStatus_tabs (.after setSlot_tabs updPart_tabs))

theorem execIndexLoad_tabs {e : EvRef} : KeepsTabsNext s (execIndexLoad e s) :=
  atEvent_tabs @fun _ _ => by
    split
    · exact .refl _
    · exact .after (.buf (.refl _) fun wf => { wf with
        slice := ⟨wf.bad, wf.single, wf.counted, Tab.wf_set _ _ wf.index, wf.acc⟩ }) portRead_tabs

theorem execInputOutOfRange_tabs {unit : Nat} : KeepsTabsNext s (execInputOutOfRange unit s) :=
  .ite (.next (.refl _))
    (.ite
       (.next
          (.after (.ite ((dropRegulators_touches _).tabs rfl) ((fatalRecord_touches _ _ _).tabs rfl))
             (.after ((coldNext_touches _).tabs rfl) (.pins (.refl _)))))
       (.next
          (.after (.ite ((dropRegulators_touches _).tabs rfl) (.refl _))
             (.after (.boot (.refl _))
                (.after ((coldNext_touches _).tabs rfl)
                   (.after enterReset_tabs
                      (.after ((fatalEvent_touches _ _ _).tabs rfl)
                         (.after ((coldNext_touches _).tabs rfl) (.pins (.refl _))))))))))

theorem execInterruptTimer_tabs {fn ring : Nat} : KeepsTabsNext s (execInterruptTimer fn ring s) := by
  unfold execInterruptTimer
  dsimp only
  split
  · exact .next (.refl _)
  · exact .next (.after ringInterrupt_tabs ((passPs_touches _ _).tabs rfl))

theorem execJoin_tabs {h : Option FlitHdr} {port msg : Nat} : KeepsTabsNext s (execJoin h port msg s) := by
  unfold execJoin
  dsimp only
  refine .next (rxCtrl_tabs @fun t => .ite (.refl _) (.ite floodOn_tabs fun wf => ?_))
  have flooded := floodOn_tabs (port := port) (x := msg) wf
  have informed := informReturned_tabs (m := bits msg 8 10) flooded
  exact { informed with treqs := Tab.wf_set _ _ flooded.treqs }

theorem execKeyInstall_tabs {q : MciReq} : KeepsTabsNext s (execKeyInstall q s) :=
  .next
    (mciFixed_tabs
       (.ite (.ite mciStatus_tabs (.after mciStatus_tabs (.fw (.refl _) fun wf => { wf with
           tileKeys := Tab.wf_set _ _ wf.tileKeys })))
          (.ite mciStatus_tabs (.after mciStatus_tabs (.fw (.refl _) fun wf => { wf with
              imageKeys := Tab.wf_set _ _ wf.imageKeys })))))

theorem execKeyList_tabs {q : MciReq} : KeepsTabsNext s (execKeyList q s) := .next (mciFixed_tabs mciQuery_tabs)

theorem execKeyRemove_tabs {q : MciReq} : KeepsTabsNext s (execKeyRemove q s) := by
  unfold execKeyRemove
  dsimp only
  refine .next (mciFixed_tabs (.after mciStatus_tabs ?_))
  split
  · exact .fw (.refl _) fun wf => { wf with tileKeys := Tab.wf_set _ _ wf.tileKeys }
  · exact .fw (.refl _) fun wf => { wf with imageKeys := Tab.wf_set _ _ wf.imageKeys }

theorem execLaneQuery_tabs {q : MciReq} : KeepsTabsNext s (execLaneQuery q s) := .next (mciFixed_tabs mciAnswer_tabs)

theorem execLaneSleep_tabs {port : Nat} : KeepsTabsNext s (execLaneSleep port s) :=
  .ite (.next updPort_tabs) (.next (.refl _))

theorem execLaneTest_tabs {q : MciReq} : KeepsTabsNext s (execLaneTest q s) :=
  .next
    (mciFixed_tabs
       (.ite mciStatus_tabs (.after beginTest_tabs (.after (.lanes (.refl _) fun wf => { wf with }) mciHold_tabs))))

theorem execLaneTestComplete_tabs {n : Nat} {cells : List CellTrain} {stitch : List StitchTrain} {hbm : List Nat} :
    KeepsTabsNext s (execLaneTestComplete n cells stitch hbm s) := by
  unfold execLaneTestComplete
  split
  · exact .next (.refl _)
  · exact .ite (.next (.refl _)) (.next (.after mciReply_tabs endTest_tabs))

theorem execLaneWake_tabs {port : Nat} : KeepsTabsNext s (execLaneWake port s) :=
  .ite (.next updPort_tabs) (.next (.refl _))

theorem execLatticeConfig_tabs {q : MciReq} : KeepsTabsNext s (execLatticeConfig q s) :=
  .next
    (mciFixed_tabs
       (.ite mciStatus_tabs
          (.after mciStatus_tabs
             (.after joinGroup_tabs (.after trainPorts_tabs (.lat (.refl _) fun wf => { wf with
                 unit := ⟨wf.pc, wf.stack, wf.sensors, Tab.wf_nil _, wf.region, wf.flag, wf.comp, wf.lines, wf.drive⟩,
                 treqs := Tab.wf_nil _, floods := Tab.wf_nil _, ownFlood := Tab.wf_nil _ }))))))

theorem execLatticeQuery_tabs {q : MciReq} : KeepsTabsNext s (execLatticeQuery q s) :=
  .next (mciFixed_tabs mciQuery_tabs)

theorem execLatticeWindowEntry_tabs {part_ recIdx beat : Nat} :
    KeepsTabsNext s (execLatticeWindowEntry part_ recIdx beat s) := by
  unfold execLatticeWindowEntry
  split
  · exact .next (.refl _)
  · exact .ite (.next (.refl _))
      (.ite
         (.next (.after (.ite enterBeat_tabs (.ite enterBeat_tabs (.refl _))) (.after openDue_tabs advance_tabs)))
         (.next (.after openDue_tabs advance_tabs)))

theorem execLatticeWindowPresent_tabs {part_ recIdx beat : Nat} :
    KeepsTabsNext s (execLatticeWindowPresent part_ recIdx beat s) := by
  unfold execLatticeWindowPresent
  split
  · exact .next (.refl _)
  · exact .ite (.next (.refl _))
      (.ite
         (.next (.after (.ite (.after (.ite noteDescFault_tabs (.refl _)) updComp_tabs) (.refl _)) advance_tabs))
         (.ite
            (.next
               (by
                  split
                  · exact .after dropWin_tabs
                      (.after updComp_tabs
                         (.after updPipe_tabs
                            (.after (.ite (.after (.ite noteDescFault_tabs (.refl _)) updComp_tabs) (.refl _))
                               advance_tabs)))
                  · exact .after updComp_tabs
                      (.after updPipe_tabs
                         (.after (.ite (.after (.ite noteDescFault_tabs (.refl _)) updComp_tabs) (.refl _))
                            advance_tabs))))
            (.next
               (.after updPipe_tabs
                  (.after (.ite (.after (.ite noteDescFault_tabs (.refl _)) updComp_tabs) (.refl _))
                     advance_tabs)))))

theorem execLease_tabs {id : Nat} : KeepsTabsNext s (execLease id s) := .next runToken_tabs

theorem execLeaseExpiry_tabs {region : Nat} : KeepsTabsNext s (execLeaseExpiry region s) := by
  unfold execLeaseExpiry
  split
  · exact .next (.refl _)
  · exact .next (.ite updRegion_tabs (.refl _))

theorem execLinkFail_tabs {h : Option FlitHdr} {port msg : Nat} : KeepsTabsNext s (execLinkFail h port msg s) :=
  .next
    (withLost_tabs (rxCtrl_tabs (.ite (.refl _) (.after (.ite noteRestored_tabs noteFailed_tabs) floodOn_tabs))))

theorem execLinkId_tabs {port msg : Nat} : KeepsTabsNext s (execLinkId port msg s) :=
  .ite (.next (.refl _))
    (.ite (.next (.after ((trainingStep_touches _).tabs rfl) bringUp_tabs))
       (.next (.after ((trainingStep_touches _).tabs rfl) (.after blockFault_tabs updPort_tabs))))

theorem execLost_tabs {h : Option FlitHdr} {port msg : Nat} : KeepsTabsNext s (execLost h port msg s) :=
  .next (withLost_tabs (rxCtrl_tabs (.ite (.refl _) (.after declareLost_tabs floodOn_tabs))))

theorem execMciInfo_tabs {q : MciReq} : KeepsTabsNext s (execMciInfo q s) := .next (mciFixed_tabs mciQuery_tabs)

theorem execMctpControl_tabs {medium cmd src eid : Nat} : KeepsTabsNext s (execMctpControl medium cmd src eid s) :=
  .ite (.next (.refl _))
    (.next (.after ((emit_touches _ _).tabs rfl) (.ite (.fw (.refl _) fun wf => { wf with
        eid := Tab.wf_set _ _ wf.eid }) (.refl _))))

theorem execMemberLoss_tabs {region member : Nat} : KeepsTabsNext s (execMemberLoss region member s) :=
  .ite (.next (.after (.ite replicate_tabs (.refl _)) (.after (.ite updRegion_tabs (.refl _)) loseMember_tabs)))
    (.next (.refl _))

theorem execModuleReset_tabs {q : MciReq} : KeepsTabsNext s (execModuleReset q s) :=
  .next
    (mciFixed_tabs
       (.after ((coldEntry_touches _).tabs rfl) (.after (.boot (.refl _)) (.after enterReset_tabs mciStatus_tabs))))

theorem execMpBoot_tabs {cals : List CalIn} : KeepsTabsNext s (execMpBoot cals s) :=
  .ite (.next (.refl _))
    (.ite (.next enterRecovery_tabs)
       (by
          split
          · exact .next (.after startFirmware_tabs (.foldl fun _ _ => calibrate_tabs))
          · exact .next failedBoot_tabs))

theorem execMpReady_tabs : KeepsTabsNext s (execMpReady s) :=
  .ite (.next (.refl _))
    (by
       split
       · exact .next mpReady_tabs
       · exact .next failedBoot_tabs)

theorem execMpReset_tabs {q : MciReq} : KeepsTabsNext s (execMpReset q s) :=
  .next (mciFixed_tabs (.after mpOnlyReset_tabs mciStatus_tabs))

theorem execMpSramUncorrectable_tabs : KeepsTabsNext s (execMpSramUncorrectable s) :=
  .ite (.next mpOnlyReset_tabs) (.next (.refl _))

theorem execMpWatchdog_tabs : KeepsTabsNext s (execMpWatchdog s) := .ite (.next mpOnlyReset_tabs) (.next (.refl _))

theorem execNak_tabs {h : FlitHdr} : KeepsTabsNext s (execNak h s) := .next (rxBare_tabs replayFrom_tabs)

theorem execNop_tabs {fn ring : Nat} : KeepsTabsNext s (execNop fn ring s) := by
  unfold execNop
  split
  · exact .next (.refl _)
  · rename_i x t e
    have turn : KeepsTabs s t := by
      split at e
      · cases front : consumable s fn ring <;> rw [front] at e <;> cases e
        exact .refl _
      · exact startTurn_tabs e
    refine .ite (.next (.refl _)) ?_
    split
    · exact .next (.after rejectHead_tabs turn)
    · exact .next (.after rejectHead_tabs turn)

theorem execNotifySubscribe_tabs {q : MciReq} : KeepsTabsNext s (execNotifySubscribe q s) :=
  .next (mciFixed_tabs (.after mciStatus_tabs (.ite (.fw (.refl _) fun wf => { wf with }) (.refl _))))

theorem execPacketAgeing_tabs {node dir : Nat} {arrivals : List (BitVec 64)} {cycles : Nat} :
    KeepsTabsNext s (execPacketAgeing node dir arrivals cycles s) :=
  .ite (.next (.refl _))
    (.ite (.next (.foldl fun _ _ => reroute_tabs))
       (.next
          (.after ((emitAll_touches _ _).tabs rfl)
             (.after takeBarriers_tabs (.ctl (.refl _) fun wf => { wf with
                 channels := Tab.wf_set _ _ wf.channels })))))

theorem execPartitionQuery_tabs {q : MciReq} : KeepsTabsNext s (execPartitionQuery q s) :=
  .next (mciFixed_tabs mciQuery_tabs)

theorem execPartitionRelease_tabs {k : Nat} : KeepsTabsNext s (execPartitionRelease k s) :=
  .ite (.next releasePart_tabs) (.next (.refl _))

theorem execPartitionReset_tabs {q : MciReq} : KeepsTabsNext s (execPartitionReset q s) :=
  .next
    (mciFixed_tabs
       (.ite mciStatus_tabs (.after (.ite cancelBind_tabs (.ite resetEffect_tabs updPart_tabs)) mciStatus_tabs)))

theorem execPartitionResetEffect_tabs {k : Nat} : KeepsTabsNext s (execPartitionResetEffect k s) :=
  .ite (.next toBoundary_tabs) (.next (.refl _))

theorem execPartitionSetLayout_tabs {q : MciReq} : KeepsTabsNext s (execPartitionSetLayout q s) :=
  .next (mciFixed_tabs (.ite mciStatus_tabs (.after mciStatus_tabs (.layoutPend (.refl _)))))

theorem execPatrolScrub_tabs {pc sev : Nat} : KeepsTabsNext s (execPatrolScrub pc sev s) :=
  .ite (.next (.refl _)) (.next (.after updPc_tabs (.after hbmRead_tabs (.after hbmCount_tabs moveRows_tabs))))

theorem execPerst1Assert_tabs : KeepsTabsNext s (execPerst1Assert s) :=
  .ite (.next (.refl _)) (.next (.after (.pins_boot (.refl _)) (.ite (.refl _) portReset_tabs)))

theorem execPerstAssert_tabs : KeepsTabsNext s (execPerstAssert s) :=
  .ite (.next (.refl _))
    (.next
       (.after ((settleAlert_touches _).tabs rfl)
          (.after ((coldEntry_touches _).tabs rfl) (.after (.pins (.refl _)) enterReset_tabs))))

theorem execPerstDeassert_tabs {straps : BitVec 5} {drives : BitVec 8} :
    KeepsTabsNext s (execPerstDeassert straps drives s) :=
  .ite (.next (.refl _)) (.next (.after (.ite beginStart_tabs (.refl _)) (.pins (.refl _))))

theorem execPmControlPeriod_tabs {m : PowerIn} : KeepsTabsNext s (execPmControlPeriod m s) :=
  .ite (.next (.refl _))
    (.next
       (.after wakeTolerance_tabs
          (.after applyOwn_tabs
             (.after (.pm (.refl _) fun wf => { wf with })
                (.after ownSetting_tabs (.after noteShort_tabs (.after rampFalls_tabs measure_tabs)))))))

theorem execPmThermalPeriod_tabs : KeepsTabsNext s (execPmThermalPeriod s) :=
  .ite (.next (.refl _)) (.next (.pm (.refl _) fun wf => { wf with }))

theorem execPmWatchdog_tabs {crcOk : Bool} : KeepsTabsNext s (execPmWatchdog crcOk s) :=
  .ite (.next (.refl _))
    (.next
       (.after (.boot_fw_pm (.refl _) fun wf => { wf with })
          (.after blockFault_tabs
             (.after ((writeSetting_touches _ _).tabs rfl)
                (.ite (.after goAlone_tabs (.pm (.refl _) fun wf => { wf with })) (.refl _))))))

theorem execPolicy_tabs {h : Option FlitHdr} {port msg : Nat} : KeepsTabsNext s (execPolicy h port msg s) :=
  .next
    (rxCtrl_tabs
       (.ite (.refl _)
          (.ite (.lat (.refl _) fun wf => { wf with })
             (by
                split
                · exact .refl _
                · exact sendCtrl_tabs))))

theorem execPoolAccessSet_tabs {q : MciReq} : KeepsTabsNext s (execPoolAccessSet q s) :=
  .next
    (mciRun_tabs
       (.after regionCommand_tabs (.ite (.refl _) (.after (.pool (.refl _) fun wf => { wf with }) updRegion_tabs))))

theorem execPoolCommandEnd_tabs {id : Nat} : KeepsTabsNext s (execPoolCommandEnd id s) := by
  unfold execPoolCommandEnd
  split
  · exact .next (.refl _)
  · exact .next (.ite commandEnd_tabs (.refl _))

theorem execPoolItem_tabs {fn : Nat} : KeepsTabsNext s (execPoolItem fn s) := by
  unfold execPoolItem
  split
  · exact .next (.refl _)
  · exact .ite (.next (.refl _))
      (by
         split
         · exact .next (.after rejectHead_tabs (startTurn_tabs (by assumption)))
         · exact .next (.after poolStart_tabs (startTurn_tabs (by assumption))))

theorem execPoolMailboxCommand_tabs {pbr slot : Nat} {line : BitVec 512} :
    KeepsTabsNext s (execPoolMailboxCommand pbr slot line s) :=
  .next (.ite mailCommand_tabs (.refl _))

theorem execPoolQuery_tabs {q : MciReq} : KeepsTabsNext s (execPoolQuery q s) :=
  .next (mciFixed_tabs (.ite mciQuery_tabs (.ite mciQuery_tabs (.after mciStatus_tabs violation_tabs))))

theorem execPoolRegionCreate_tabs {q : MciReq} : KeepsTabsNext s (execPoolRegionCreate q s) :=
  .next (mciFixed_tabs regionCommand_tabs)

theorem execPoolRegionDelete_tabs {q : MciReq} : KeepsTabsNext s (execPoolRegionDelete q s) :=
  .next (mciFixed_tabs regionCommand_tabs)

theorem execPoolRegionReplace_tabs {q : MciReq} : KeepsTabsNext s (execPoolRegionReplace q s) :=
  .next (mciFixed_tabs regionCommand_tabs)

theorem execPortReset_tabs {port : Nat} : KeepsTabsNext s (execPortReset port s) :=
  .ite (.next (.refl _)) (.next portReset_tabs)

theorem execPortRetrain_tabs {port : Nat} : KeepsTabsNext s (execPortRetrain port s) := .next retrainPort_tabs

theorem execPortTrainingDone_tabs {port : Nat} {good : BitVec 8} {latency : Nat} :
    KeepsTabsNext s (execPortTrainingDone port good latency s) :=
  .ite
    (.ite (.next (.after ((trainingStep_touches _).tabs rfl) (withLost_tabs failPort_tabs)))
       (.next (.after ((emit_touches _ _).tabs rfl) (.after noteNarrow_tabs updPort_tabs))))
    (.ite (.ite (.next (withLost_tabs failPort_tabs)) (.next (.after noteNarrow_tabs updPort_tabs)))
       (.next (.refl _)))

theorem execPowerCapSet_tabs {q : MciReq} : KeepsTabsNext s (execPowerCapSet q s) :=
  .next (mciFixed_tabs (.after mciStatus_tabs (.pm (.refl _) fun wf => { wf with })))

theorem execPowerQuery_tabs {q : MciReq} : KeepsTabsNext s (execPowerQuery q s) :=
  .next (mciFixed_tabs mciAnswer_tabs)

theorem execPrioWrite_tabs {fn half : Nat} {value : BitVec 64} : KeepsTabsNext s (execPrioWrite fn half value s) :=
  .ite (.next (.refl _)) (.next (barWrite_tabs prioRewrite_tabs))

theorem execPrioritySet_tabs {q : MciReq} : KeepsTabsNext s (execPrioritySet q s) :=
  .next (mciFixed_tabs (.after mciStatus_tabs prioRewrite_tabs))

theorem execPwrbrkAssert_tabs : KeepsTabsNext s (execPwrbrkAssert s) := by
  unfold execPwrbrkAssert
  dsimp only
  exact .ite (.next (.refl _))
    (.ite (.next (.pins (.refl _)))
       (.next
          (.after ((putSetting_touches _ _).tabs rfl)
             (.after (.ite (.after goAlone_tabs (.pm (.refl _) fun wf => { wf with })) (.refl _))
                (.after (.ite countBrake_tabs (.refl _)) (.pins_pm (.refl _) fun wf => { wf with }))))))

theorem execPwrbrkDeassert_tabs : KeepsTabsNext s (execPwrbrkDeassert s) :=
  .ite (.next (.refl _)) (.next (.after (.pins_pm (.refl _) fun wf => { wf with }) closeBrake_tabs))

theorem execReadWindowCell_tabs {pc cell sev : Nat} : KeepsTabsNext s (execReadWindowCell pc cell sev s) := by
  unfold execReadWindowCell
  split
  · exact .next (.refl _)
  · exact .ite (.next (.refl _))
      (.next
         (.after updPipe_tabs
            (.after (.iteSnd readThree_tabs (.refl _))
               (.after hbmCount_tabs (.after restoreRows_tabs advance_tabs)))))

theorem execRebuildStep_tabs {region : Nat} : KeepsTabsNext s (execRebuildStep region s) := by
  unfold execRebuildStep
  dsimp only
  split
  · exact .next (.refl _)
  · refine .ite (.next ?_) (.next (.refl _))
    split
    · exact .after askPieces_tabs (.pool (.refl _) fun wf => { wf with })
    · exact .after gatherAcc_tabs (.pool (.refl _) fun wf => { wf with })

theorem execReduce_tabs {id : Nat} {fetched : List LineIn} : KeepsTabsNext s (execReduce id fetched s) :=
  .next (runData_tabs fun e => reduceLines_tabs e)

theorem execRefreshLane_tabs {pc cell : Nat} : KeepsTabsNext s (execRefreshLane pc cell s) := by
  unfold execRefreshLane
  split
  · exact .next (.refl _)
  · exact .ite (.next (.refl _))
      (.ite
         (.next
            (.after ((emitAll_touches _ _).tabs rfl) (.after updPc_tabs (.after restoreRows_tabs advance_tabs))))
         (.next (.after updPc_tabs (.after restoreRows_tabs advance_tabs))))

theorem execRefreshTimer_tabs {pc : Nat} : KeepsTabsNext s (execRefreshTimer pc s) :=
  .ite (.next (.refl _))
    (.ite (.next updPc_tabs)
       (by
          split
          · exact .next (.after ((emitAll_touches _ _).tabs rfl) (.after blockFault_tabs updPc_tabs))
          · exact .next
              (.after updPart_tabs
                 (.after breach_tabs (.after ((emitAll_touches _ _).tabs rfl) (.after blockFault_tabs updPc_tabs))))))

theorem execRegionDeleteComplete_tabs {region : Nat} : KeepsTabsNext s (execRegionDeleteComplete region s) :=
  .ite (.next (.after replicate_tabs updRegion_tabs)) (.next (.refl _))

theorem execRegisterWrite_tabs {fn offset size value : Nat} :
    KeepsTabsNext s (execRegisterWrite fn offset size value s) :=
  .next (barWrite_tabs writeReg_tabs)

theorem execRelease_tabs {h : Option FlitHdr} {port msg : Nat} : KeepsTabsNext s (execRelease h port msg s) :=
  .next
    (rxCtrl_tabs
       (.ite (.refl _)
          (.after (.ite (.lat (.refl _) fun wf => { wf with }) (.ite lapse_tabs (.refl _)))
             (.after notePartial_tabs sendRelease_tabs))))

theorem execReleaseDelayExpiry_tabs : KeepsTabsNext s (execReleaseDelayExpiry s) := by
  unfold execReleaseDelayExpiry
  split
  · exact .next (.refl _)
  · exact .ite (.next applyRelease_tabs) (.next (.refl _))

theorem execReplacementClear_tabs {q : MciReq} : KeepsTabsNext s (execReplacementClear q s) :=
  .next replacementCommand_tabs

theorem execReplacementQuery_tabs {q : MciReq} : KeepsTabsNext s (execReplacementQuery q s) :=
  .next replacementCommand_tabs

theorem execReplayTimeout_tabs {port : Nat} : KeepsTabsNext s (execReplayTimeout port s) :=
  .ite (.next replayFrom_tabs) (.next (.refl _))

theorem execResetHoldExpiry_tabs : KeepsTabsNext s (execResetHoldExpiry s) :=
  .ite (.next (.refl _)) (.next beginStart_tabs)

theorem execResidualReturn_tabs {port : Nat} : KeepsTabsNext s (execResidualReturn port s) := by
  unfold execResidualReturn
  split
  · exact .ite (.next (.refl _))
      (.ite (.next toPartTick_tabs) (.next (.after updPipe_tabs (.after updComp_tabs toPartTick_tabs))))
  · exact .next (.refl _)

theorem execRetrainTimeout_tabs {port : Nat} : KeepsTabsNext s (execRetrainTimeout port s) :=
  .ite (.next (withLost_tabs failPort_tabs)) (.next (.refl _))

theorem execRingDisable_tabs {fn ring rest : Nat} : KeepsTabsNext s (execRingDisable fn ring rest s) :=
  .ite (.next (.refl _)) (.next (barWrite_tabs (.after writeMarks_tabs ringDisable_tabs)))

theorem execRingDoorbell_tabs {fn ring : Nat} {value : BitVec 32} {whole : Bool} :
    KeepsTabsNext s (execRingDoorbell fn ring value whole s) :=
  .next (barWrite_tabs ringDoorbell_tabs)

theorem execRingEnable_tabs {fn ring : Nat} : KeepsTabsNext s (execRingEnable fn ring s) :=
  .ite (.next (.refl _)) (.next (barWrite_tabs ringEnable_tabs))

theorem execRingFetch_tabs {fn ring : Nat} {units : List (BitVec 512)} {list : List BufIn} :
    KeepsTabsNext s (execRingFetch fn ring units list s) :=
  .ite (.next (.refl _))
    (.next
       (.after wakeNamed_tabs
          (by
             split
             · exact .ite (.after updRing_tabs ((emitAll_touches _ _).tabs rfl))
                 (.after updRing_tabs ((emitAll_touches _ _).tabs rfl))
             · exact .after updRing_tabs ((emitAll_touches _ _).tabs rfl))))

theorem execRng_tabs {e : EvRef} : KeepsTabsNext s (execRng e s) :=
  atEvent_tabs @fun _ _ => by
    split
    · exact .refl _
    · exact .ite addDue_tabs updPipe_tabs

theorem execRowSwitchGap_tabs {pc cell : Nat} : KeepsTabsNext s (execRowSwitchGap pc cell s) := by
  unfold execRowSwitchGap
  split
  · exact .next (.refl _)
  · exact .ite (.next (.refl _))
      (.next (.after ((emitAll_touches _ _).tabs rfl) (.after updPc_tabs (.after restoreRows_tabs advance_tabs))))

theorem execRunComplete_tabs {fn ring : Nat} {seq : BitVec 32} : KeepsTabsNext s (execRunComplete fn ring seq s) := by
  unfold execRunComplete
  dsimp only
  split
  · exact .next (.refl _)
  · split
    · exact .next (.refl _)
    · exact .next completeOutst_tabs

theorem execScatter_tabs {e : EvRef} : KeepsTabsNext s (execScatter e s) := by
  unfold execScatter
  dsimp only
  exact atEvent_tabs @fun _ _ => by
    split
    · exact .refl _
    · split
      · exact .after writeFrom_tabs useEntry_tabs
      · exact .after noteWrite_tabs useEntry_tabs

theorem execScheduledRead_tabs {e : EvRef} : KeepsTabsNext s (execScheduledRead e s) := atEvent_tabs readInto_tabs

theorem execScheduledWrite_tabs {e : EvRef} : KeepsTabsNext s (execScheduledWrite e s) := atEvent_tabs writeFrom_tabs

theorem execScrubVisit_tabs {router : Nat} : KeepsTabsNext s (execScrubVisit router s) :=
  .ite (.next (.refl _))
    (.next
       (.after (.buf (.refl _) fun wf => { wf with
           scrubLast := Tab.wf_set _ _ wf.scrubLast, scrubPos := wf_ite wf.scrubPos (Tab.wf_set _ _ wf.scrubPos) })
          (.after (.ite (.refl _) storeLine_tabs)
             (.after countErrors_tabs (.after injectLine_tabs toCommit_tabs)))))

theorem execSensorQuery_tabs {q : MciReq} : KeepsTabsNext s (execSensorQuery q s) :=
  .next (mciFixed_tabs mciAnswer_tabs)

theorem execSensorSample_tabs {sensor : Nat} {raw : BitVec 16} : KeepsTabsNext s (execSensorSample sensor raw s) :=
  .ite (.next (.refl _))
    (.next
       (.after ((settleAlert_touches _).tabs rfl)
          (.after (.ite (.after evaluateFor_tabs (.after noteCoverage_tabs judgeSample_tabs)) romSample_tabs)
             (.after countHot_tabs (.ite injectDone_tabs (.refl _))))))

theorem execSliceRd_tabs {header : BitVec 64} {words : List Nat} : KeepsTabsNext s (execSliceRd header words s) :=
  .ite (.next ctlArrive_tabs) (.next (.refl _))

theorem execSliceWr_tabs {header : BitVec 64} {words : List Nat} : KeepsTabsNext s (execSliceWr header words s) :=
  .ite (.next ctlArrive_tabs) (.next (.refl _))

theorem execSocketStatus_tabs {router : Nat} {status : BitVec 4} :
    KeepsTabsNext s (execSocketStatus router status s) :=
  .next
    (.after (.ite socketStall_tabs (.refl _))
       (.after (.ite socketStall_tabs (.refl _)) (.ite bondParity_tabs (.refl _))))

theorem execSpares_tabs {t : Nat} {rx : List SvcClock} : KeepsTabsNext s (execSpares t rx s) := by
  unfold execSpares
  split
  · exact .next (.refl _)
  · exact .ite (.next ackAgain_tabs)
      (.ite (.next (.after sendAck_tabs updTile_tabs))
         (.next (.after sendTile_tabs (.after updTile_tabs (.after sendAck_tabs updTile_tabs)))))

theorem execSpdmRequest_tabs {transport src kind content : Nat} :
    KeepsTabsNext s (execSpdmRequest transport src kind content s) :=
  .ite (.next (.refl _)) (.next (.after ((emit_touches _ _).tabs rfl) (.fw (.refl _) fun wf => { wf with
      spdm := Tab.wf_set _ _ wf.spdm })))

theorem execStageComplete_tabs {fn : Nat} : KeepsTabsNext s (execStageComplete fn s) := by
  unfold execStageComplete
  dsimp only
  split
  · exact .next (.refl _)
  · exact .next (.after beginTest_tabs completeOutst_tabs)

theorem execStageStart_tabs {fn : Nat} {data : List (Option LineData)} :
    KeepsTabsNext s (execStageStart fn data s) := by
  unfold execStageStart
  split
  · exact .next (.refl _)
  · exact .ite (.next (.refl _))
      (by
         split
         · exact .next (.after rejectHead_tabs (startTurn_tabs (by assumption)))
         · exact .next (.after stageStart_tabs (startTurn_tabs (by assumption))))

theorem execStandbyPowerOff_tabs : KeepsTabsNext s (execStandbyPowerOff s) :=
  .ite (.next (.refl _))
    (.next
       (.after (.clk_pins_boot_buf_hbm_logs_lanes_pm (.refl _) fun wf => { wf with
           unit := ⟨wf.pc, Tab.wf_nil _, Tab.wf_nil _, wf.port, wf.region, wf.flag, wf.comp, wf.lines, wf.drive⟩,
           slice := ⟨Tab.wf_nil _, Tab.wf_nil _, Tab.wf_nil _, Tab.wf_nil _, Tab.wf_nil _⟩, ctlLast := Tab.wf_nil _,
           scrubPos := Tab.wf_nil _, scrubLast := Tab.wf_nil _, idleOps := Tab.wf_nil _, discards := Tab.wf_nil _,
           overLast := Tab.wf_nil _, lowSince := Tab.wf_nil _, sensorCal := Tab.wf_nil _, trims := Tab.wf_nil _ })
          (.after coldClear_tabs (.after restPm_tabs stopModule_tabs))))

theorem execStandbyPowerOn_tabs : KeepsTabsNext s (execStandbyPowerOn s) :=
  .ite (.next (.refl _)) (.next (.clk_pins_boot_pm (.refl _) fun wf => { wf with }))

theorem execStatus_tabs {id : Nat} : KeepsTabsNext s (execStatus id s) := .next runToken_tabs

theorem execStitchRetrain_tabs {results : List StitchTrain} : KeepsTabsNext s (execStitchRetrain results s) :=
  .ite (.next (.refl _))
    (.next
       (.after (.foldl fun _ _ => .ite releasePart_tabs (.refl _))
          (.after mergeFaultMap_tabs (.after stitchResults_tabs stitchPass_tabs))))

theorem execStitchTrainingDone_tabs {results : List StitchTrain} {links : List LinkTrain} {dead : List Nat} :
    KeepsTabsNext s (execStitchTrainingDone results links dead s) :=
  .ite (.next (.refl _))
    (.next
       (.after ((stepDone_touches _ _).tabs rfl)
          (.after (.ite zeroBuffer_tabs (.refl _))
             (.after (.foldl fun _ _ => deadRouter_tabs)
                (.after (.foldl fun _ _ => stitchLink_tabs) (.after stitchResults_tabs stitchPass_tabs))))))

theorem execTelemetryInject_tabs {endpoint left content : Nat} {event : Option PktIn} :
    KeepsTabsNext s (execTelemetryInject endpoint left content event s) := by
  unfold execTelemetryInject
  split
  · exact .next (.after sendEvent_tabs drainQueue_tabs)
  · exact .ite (.next (.after countUp_tabs drainQueue_tabs))
      (.next (.after ((emit_touches _ _).tabs rfl) (.after (.ctl (.refl _) fun wf => { wf with
          inject := Tab.wf_set _ _ wf.inject }) drainQueue_tabs)))

theorem execThermalTrip_tabs {sensor : Nat} : KeepsTabsNext s (execThermalTrip sensor s) :=
  .ite (.next (.refl _))
    (.next
       (.after (.pins_boot (.refl _))
          (.after ((dropRegulators_touches _).tabs rfl)
             (.after fatalStop_tabs ((fatalEvent_touches _ _ _).tabs rfl)))))

theorem execThrottleBoundary_tabs : KeepsTabsNext s (execThrottleBoundary s) :=
  .ite (.next runTo_tabs) (.next (.refl _))

theorem execTileError_tabs {t : Nat} {rx : List SvcClock} : KeepsTabsNext s (execTileError t rx s) := by
  unfold execTileError
  split
  · exact .next (.refl _)
  · exact .next (.after mpEvent_tabs sendAck_tabs)

theorem execTileOvercurrent_tabs {tile : Nat} : KeepsTabsNext s (execTileOvercurrent tile s) :=
  .ite (.next (.refl _))
    (.next (.after (.ite (.after blockFault_tabs (.pm (.refl _) fun wf => { wf with
        overLast := Tab.wf_set _ _ wf.overLast })) (.refl _)) countUp_tabs))

theorem execTileRediscovery_tabs {tile cell : Nat} : KeepsTabsNext s (execTileRediscovery tile cell s) := by
  unfold execTileRediscovery
  dsimp only
  split
  · exact .next (.refl _)
  · exact .ite (.next (.refl _))
      (.next
         (.after startTile_tabs
            (.after ((passPs_touches _ _).tabs rfl)
               (.ite fuseCluster_tabs (.lanes (.refl _) fun wf => { wf with })))))

theorem execTileSensorFrame_tabs {t : Nat} {readings : List (BitVec 16)} {crc : BitVec 16} :
    KeepsTabsNext s (execTileSensorFrame t readings crc s) :=
  .ite (.next (.refl _))
    (.next
       (.after
          (.ite (.refl _)
             (.after evaluateFor_tabs (.after noteCoverage_tabs (.ite usableFrame_tabs unusableFrame_tabs))))
          updTile_tabs))

theorem execTileShutdown_tabs {tile : Nat} : KeepsTabsNext s (execTileShutdown tile s) := by
  unfold execTileShutdown
  generalize (rangeFrom 0 1024).map _ = cells
  exact .ite (.next (.refl _)) (.next (.after evaluateRequests_tabs (.after blockFault_tabs
    (.after (.fmap_pm (.refl _) fun wf => { wf with pendCluster := Tab.wf_updAll _ _ wf.pendCluster }) updTile_tabs))))

theorem execTrainingRetry_tabs {port : Nat} : KeepsTabsNext s (execTrainingRetry port s) :=
  .ite (.next (.after evaluateFor_tabs updPort_tabs)) (.next (.refl _))

theorem execTreq_tabs {h : Option FlitHdr} {port msg : Nat} : KeepsTabsNext s (execTreq h port msg s) :=
  .next
    (rxCtrl_tabs
       (.ite (.refl _)
          (.ite takeRequest_tabs
             (by
                split
                · exact .refl _
                · exact sendCtrl_tabs))))

theorem execTrialBootTimeout_tabs : KeepsTabsNext s (execTrialBootTimeout s) :=
  .ite (.next (.refl _)) (.next (.after failedBoot_tabs (.ite (.boot (.refl _)) (.refl _))))

theorem execTset_tabs {h : Option FlitHdr} {port msg : Nat} : KeepsTabsNext s (execTset h port msg s) := by
  unfold execTset
  dsimp only
  exact .next
    (rxCtrl_tabs
       (.ite (.refl _)
          (.after
             (.ite (.pm (.refl _) fun wf => { wf with })
                (.ite (.pm_lat (.refl _) fun wf => { wf with })
                   (.after ((writeSetting_touches _ _).tabs rfl)
                      (.after countUp_tabs (.pm_lat (.refl _) fun wf => { wf with })))))
             (.foldl fun _ _ => by
                split
                · exact .refl _
                · exact sendCtrl_tabs))))

theorem execUnbindEffect_tabs {k : Nat} : KeepsTabsNext s (execUnbindEffect k s) :=
  .ite (.next toBoundary_tabs) (.next (.refl _))

theorem execUnitZeroFill_tabs {unit : Nat} : KeepsTabsNext s (execUnitZeroFill unit s) := by
  unfold execUnitZeroFill
  dsimp only
  exact .ite (.next (.after zeroKey_tabs (.pool (.refl _) fun wf => { wf with })))
    (by
       split
       · exact .next (.refl _)
       · exact .next (.after (.ite extentsDone_tabs (.refl _)) (.after zeroKey_tabs updRegion_tabs)))

theorem execUnlease_tabs {id : Nat} : KeepsTabsNext s (execUnlease id s) := .next runToken_tabs

theorem execUnreservedUpBeat_tabs {router : Nat} {beat : BeatIn} :
    KeepsTabsNext s (execUnreservedUpBeat router beat s) :=
  .ite (.next (.refl _))
    (by
       split
       · exact .ite (.next (.refl _)) (.next socketStall_tabs)
       · exact .next socketStall_tabs)

theorem execUnscheduledAccess_tabs {pc sev : Nat} : KeepsTabsNext s (execUnscheduledAccess pc sev s) :=
  .ite (.next (.refl _))
    (by
       split
       · exact .next (.refl _)
       · exact .next
           (by
              split
              · exact .after serveReq_tabs
                  (.after updPc_tabs
                     (.after updPc_tabs
                        (.ite (.refl _) (.after hbmCount_tabs (.after moveRows_tabs wakeStack_tabs)))))
              · exact .after denseGo_tabs
                  (.after serveCache_tabs
                     (.after updPc_tabs
                        (.after updPc_tabs
                           (.ite (.refl _) (.after hbmCount_tabs (.after moveRows_tabs wakeStack_tabs))))))))

theorem execUpdate_tabs {e : EvRef} : KeepsTabsNext s (execUpdate e s) :=
  atEvent_tabs @fun _ _ => by
    split
    · exact .refl _
    · split
      · exact .after dataPathBreach_tabs (.after countIdleOp_tabs (.ofSnd gradient_tabs (by assumption)))
      · exact .after addDue_tabs (.after portRead_tabs (.ofSnd gradient_tabs (by assumption)))

theorem execUreqCmd_tabs {h : FlitHdr} {u : UnschIn} : KeepsTabsNext s (execUreqCmd h u s) :=
  .next (takeReq_tabs reqCmd_tabs)

theorem execUreqDelta_tabs {h : FlitHdr} {u : UnschIn} : KeepsTabsNext s (execUreqDelta h u s) :=
  .next (takeReq_tabs reqDelta_tabs)

theorem execUreqRead_tabs {h : FlitHdr} {u : UnschIn} : KeepsTabsNext s (execUreqRead h u s) :=
  .next (takeReq_tabs reqRead_tabs)

theorem execUreqRebuild_tabs {h : FlitHdr} {u : UnschIn} : KeepsTabsNext s (execUreqRebuild h u s) :=
  .next (takeReq_tabs reqRebuild_tabs)

theorem execUreqRepeat_tabs {dst tag : Nat} : KeepsTabsNext s (execUreqRepeat dst tag s) := by
  unfold execUreqRepeat
  dsimp only
  split
  · exact .next (.refl _)
  · exact .ite
      (by
         split
         · exact .next (.lat (.refl _) fun wf => { wf with })
         · exact .next (.after sendFlit_tabs (.lat (.refl _) fun wf => { wf with })))
      (.next (.refl _))

theorem execUreqTable_tabs {h : FlitHdr} {u : UnschIn} : KeepsTabsNext s (execUreqTable h u s) :=
  .next (takeReq_tabs tableHere_tabs)

theorem execUreqToken_tabs {h : FlitHdr} {u : UnschIn} : KeepsTabsNext s (execUreqToken h u s) :=
  .next (takeReq_tabs reqToken_tabs)

theorem execUreqWrite_tabs {h : FlitHdr} {u : UnschIn} : KeepsTabsNext s (execUreqWrite h u s) :=
  .next (takeReq_tabs reqWrite_tabs)

theorem execUrsp_tabs {h : FlitHdr} {uop : Nat} {u : UnschIn} : KeepsTabsNext s (execUrsp h uop u s) :=
  .next (rxFlit_tabs (.ite takeRsp_tabs passOn_tabs))

theorem execVddtReached_tabs {t : Nat} : KeepsTabsNext s (execVddtReached t s) :=
  .ite (.next (.refl _)) (.next (.after (.ite sendBoot_tabs (.refl _)) updTile_tabs))

theorem execVetAccept_tabs {q : MciReq} : KeepsTabsNext s (execVetAccept q s) := by
  unfold execVetAccept
  dsimp only
  exact .next (mciFixed_tabs (.ite
    (.after mciStatus_tabs (.after rejoinGroup_tabs
      (.after notify_tabs (.after noteVet_tabs (.fw (.refl _) fun wf => { wf with })))))
    mciStatus_tabs))

theorem execVetReport_tabs {q : MciReq} : KeepsTabsNext s (execVetReport q s) := .next (mciFixed_tabs mciQuery_tabs)

theorem execVetRevoke_tabs {q : MciReq} : KeepsTabsNext s (execVetRevoke q s) :=
  .next (mciFixed_tabs (.after mciStatus_tabs (.after recheckVet_tabs (.fw (.refl _) fun wf => { wf with }))))

theorem execWakeLatencySet_tabs {q : MciReq} : KeepsTabsNext s (execWakeLatencySet q s) :=
  .next (mciFixed_tabs (.after mciStatus_tabs updFn_tabs))

theorem execWin_tabs {h : FlitHdr} {first total : Nat} {beats : List LineIn} :
    KeepsTabsNext s (execWin h first total beats s) :=
  .next
    (rxFlit_tabs
       (.ite storeWin_tabs
          (by
             split
             · exact .refl _
             · exact sendFlit_tabs)))

theorem execWindowAgeOut_tabs {port src : Nat} {stamp : BitVec 32} :
    KeepsTabsNext s (execWindowAgeOut port src stamp s) :=
  .ite (.next (.lat (.refl _) fun wf => { wf with })) (.next (.refl _))

theorem execWindowQuery_tabs {q : MciReq} : KeepsTabsNext s (execWindowQuery q s) :=
  .next (mciFixed_tabs (.ite (.after mciStatus_tabs violation_tabs) mciQuery_tabs))

theorem execWindowSwitch_tabs {q : MciReq} : KeepsTabsNext s (execWindowSwitch q s) :=
  .next
    (mciFixed_tabs
       (.after tableWait_tabs (.after (.iteSnd poolSwitch_tabs (.refl _)) (.after switchFns_tabs mciHold_tabs))))

theorem execWindowWrite_tabs {q : MciReq} : KeepsTabsNext s (execWindowWrite q s) :=
  .next (mciRun_tabs (.after mciStatus_tabs (.win (.refl _) fun wf => { wf with
      shadow := Tab.wf_set _ _ wf.shadow })))

theorem execWriteWindowCell_tabs {pc cell : Nat} : KeepsTabsNext s (execWriteWindowCell pc cell s) := by
  unfold execWriteWindowCell
  split
  · exact .next (.refl _)
  · exact .ite (.next (.refl _))
      (.ite
         (.next
            (.after acceptBeat_tabs
               (.after acceptBeat_tabs (.after acceptBeat_tabs (.after restoreRows_tabs advance_tabs)))))
         (.next (.after restoreRows_tabs advance_tabs)))

theorem mciMessage_tabs {op : Nat} {q : MciReq} {data : Nat} {found : List DriveIn} :
    KeepsTabsNext s (mciMessage op q data found s) := by
  unfold mciMessage
  split
  · exact execMciInfo_tabs
  · exact execMpReset_tabs
  · exact execNotifySubscribe_tabs
  · exact execClockCorrelate_tabs
  · exact execFwInfo_tabs
  · exact execFwWrite_tabs
  · exact execFwVerify_tabs
  · exact execFwActivate_tabs
  · exact execFwCommit_tabs
  · exact execKeyInstall_tabs
  · exact execKeyRemove_tabs
  · exact execKeyList_tabs
  · exact execImagePolicy_tabs
  · exact execVetReport_tabs
  · exact execVetAccept_tabs
  · exact execVetRevoke_tabs
  · exact execImageLoad_tabs
  · exact execImageBind_tabs
  · exact execImageUnbind_tabs
  · exact execImageEvict_tabs
  · exact execImageQuery_tabs
  · exact execPartitionSetLayout_tabs
  · exact execPartitionQuery_tabs
  · exact execPartitionReset_tabs
  · exact execBufferScrub_tabs
  · exact execLaneTest_tabs
  · exact execLaneQuery_tabs
  · exact execHbmAssign_tabs
  · exact execHbmQuery_tabs
  · exact execDenseAttach_tabs
  · exact execDenseFlush_tabs
  · exact execDenseQuery_tabs
  · exact execPrioritySet_tabs
  · exact execWindowWrite_tabs
  · exact execWindowSwitch_tabs
  · exact execWindowQuery_tabs
  · exact .ite execPoolRegionReplace_tabs execPoolRegionCreate_tabs
  · exact execPoolRegionDelete_tabs
  · exact execPoolAccessSet_tabs
  · exact execPoolQuery_tabs
  · exact execLatticeConfig_tabs
  · exact execLatticeQuery_tabs
  · exact execBarrierPolicy_tabs
  · exact execPowerCapSet_tabs
  · exact execPowerQuery_tabs
  · exact execWakeLatencySet_tabs
  · exact execSensorQuery_tabs
  · exact execEventRead_tabs
  · exact .ite execErrlogClear_tabs execErrlogRead_tabs
  · exact execCounterRead_tabs
  · exact execCounterClear_tabs
  · exact execFaultMapQuery_tabs
  · exact execReplacementQuery_tabs
  · exact execModuleReset_tabs
  · exact .next mciReserved_tabs

theorem execMciItem_tabs {fn data : Nat} {found : List DriveIn} : KeepsTabsNext s (execMciItem fn data found s) := by
  unfold execMciItem
  split
  · exact .next (.refl _)
  · exact .ite (.next (.refl _))
      (by
         split
         · exact .next (.after rejectHead_tabs (startTurn_tabs (by assumption)))
         · exact .after mciMessage_tabs (.after consume_tabs (startTurn_tabs (by assumption))))

theorem execMailboxGo_tabs {found : List DriveIn} : KeepsTabsNext s (execMailboxGo found s) :=
  .ite (.next ((emit_touches _ _).tabs rfl))
    (.ite (.next (.refl _))
       (.ite (.next mbxCount_tabs) (.after mciMessage_tabs (.regs (.refl _) fun wf => { wf with }))))

/-! ### The step -/

theorem exec_tabs (i : Instr) (s : State) : KeepsTabsNext s (exec i s) := by
  cases i with
  | standbyPowerOn => exact execStandbyPowerOn_tabs
  | mainInputOn => exact (execMainInputOn_touches _ s).tabs rfl
  | inputOutOfRange => exact execInputOutOfRange_tabs
  | coreReferenceStop => exact execCoreReferenceStop_tabs
  | rootPllLock => exact (execRootPllLock_touches s).tabs rfl
  | clockLoss => exact execClockLoss_tabs
  | thermalTrip => exact execThermalTrip_tabs
  | perstAssert => exact execPerstAssert_tabs
  | perstDeassert => exact execPerstDeassert_tabs
  | deviceReady => exact execDeviceReady_tabs
  | perst1Assert => exact execPerst1Assert_tabs
  | perst1Deassert => exact (execPerst1Deassert_touches s).tabs rfl
  | portReset => exact execPortReset_tabs
  | moduleReset => exact execModuleReset_tabs
  | resetHoldExpiry => exact execResetHoldExpiry_tabs
  | throttleBoundary => exact execThrottleBoundary_tabs
  | crumb => exact execCrumb_tabs
  | frameBoundary => exact execFrameBoundary_tabs
  | barrierHold => exact execBarrierHold_tabs
  | refreshTimer => exact execRefreshTimer_tabs
  | refreshLane => exact execRefreshLane_tabs
  | readWindowCell => exact execReadWindowCell_tabs
  | writeWindowCell => exact execWriteWindowCell_tabs
  | rowSwitchGap => exact execRowSwitchGap_tabs
  | eventLink => exact execEventLink_tabs
  | beatDiscard => exact execBeatDiscard_tabs
  | scheduledRead => exact execScheduledRead_tabs
  | scheduledWrite => exact execScheduledWrite_tabs
  | indexLoad => exact execIndexLoad_tabs
  | gather => exact execGather_tabs
  | scatter => exact execScatter_tabs
  | dispatch => exact execDispatch_tabs
  | dispatchResultWrite => exact execDispatchResultWrite_tabs
  | foldStep => exact execFoldStep_tabs
  | rng => exact execRng_tabs
  | update => exact execUpdate_tabs
  | branchRead => exact execBranchRead_tabs
  | frameBudgetExhausted => exact execFrameBudgetExhausted_tabs
  | hostTransferBeat => exact execHostTransferBeat_tabs
  | hostReadData => exact execHostReadData_tabs
  | descriptorBeat => exact execDescriptorBeat_tabs
  | residualReturn => exact execResidualReturn_tabs
  | compressedRecordHandover => exact execCompressedRecordHandover_tabs
  | latticeWindowEntry => exact execLatticeWindowEntry_tabs
  | latticeWindowPresent => exact execLatticeWindowPresent_tabs
  | sliceRd => exact execSliceRd_tabs
  | sliceWr => exact execSliceWr_tabs
  | controlPortCommit => exact execControlPortCommit_tabs
  | scrubVisit => exact execScrubVisit_tabs
  | controlWordParityError => exact execControlWordParityError_tabs
  | packetAgeing => exact execPacketAgeing_tabs
  | telemetryInject => exact execTelemetryInject_tabs
  | faultPacket => exact execFaultPacket_tabs
  | eventPacket => exact execEventPacket_tabs
  | socketStatus => exact execSocketStatus_tabs
  | unreservedUpBeat => exact execUnreservedUpBeat_tabs
  | helloRetry => exact execHelloRetry_tabs
  | ident => exact execIdent_tabs
  | discoveryAck => exact execDiscoveryAck_tabs
  | bootDone => exact execBootDone_tabs
  | spares => exact execSpares_tabs
  | tileError => exact execTileError_tabs
  | discoveryTimeout => exact execDiscoveryTimeout_tabs
  | tileSensorFrame => exact execTileSensorFrame_tabs
  | bondTrainingDone => exact execBondTrainingDone_tabs
  | stitchTrainingDone => exact execStitchTrainingDone_tabs
  | consentTimeout => exact execConsentTimeout_tabs
  | stitchRetrain => exact execStitchRetrain_tabs
  | tileRediscovery => exact execTileRediscovery_tabs
  | faultMapMerge => exact execFaultMapMerge_tabs
  | partitionRelease => exact execPartitionRelease_tabs
  | hbmTraining => exact execHbmTraining_tabs
  | autonomousRefresh => exact execAutonomousRefresh_tabs
  | unscheduledAccess => exact execUnscheduledAccess_tabs
  | correctedWriteback => exact execCorrectedWriteback_tabs
  | patrolScrub => exact execPatrolScrub_tabs
  | hbmSoftRepair => exact execHbmSoftRepair_tabs
  | hbmTempSample => exact execHbmTempSample_tabs
  | cacheAccess => exact execCacheAccess_tabs
  | driveCommandComplete => exact execDriveCommandComplete_tabs
  | driveCommandAbort => exact execDriveCommandAbort_tabs
  | denseRequestTimeout => exact execDenseRequestTimeout_tabs
  | cacheCleaner => exact execCacheCleaner_tabs
  | driveFailed => exact execDriveFailed_tabs
  | drivePresenceLoss => exact execDrivePresenceLoss_tabs
  | ringDoorbell => exact execRingDoorbell_tabs
  | cqHeadDoorbell => exact execCqHeadDoorbell_tabs
  | flushRequest => exact execFlushRequest_tabs
  | flushEffect => exact execFlushEffect_tabs
  | ringFetch => exact execRingFetch_tabs
  | ringEnable => exact execRingEnable_tabs
  | ringDisable => exact execRingDisable_tabs
  | nop => exact execNop_tabs
  | stageStart => exact execStageStart_tabs
  | stageComplete => exact execStageComplete_tabs
  | poolItem => exact execPoolItem_tabs
  | mciItem => exact execMciItem_tabs
  | runComplete => exact execRunComplete_tabs
  | interruptTimer => exact execInterruptTimer_tabs
  | functionLevelReset => exact execFunctionLevelReset_tabs
  | prioWrite => exact execPrioWrite_tabs
  | mailboxGo => exact execMailboxGo_tabs
  | capture => exact execCapture_tabs
  | counterLowRead => exact execCounterLowRead_tabs
  | evtAckWrite => exact (execEvtAckWrite_touches _ s).tabs rfl
  | attentionEnableWrite => exact execAttentionEnableWrite_tabs
  | dbgInject => exact execDbgInject_tabs
  | registerWrite => exact execRegisterWrite_tabs
  | mciInfo => exact execMciInfo_tabs
  | mpReset => exact execMpReset_tabs
  | notifySubscribe => exact execNotifySubscribe_tabs
  | clockCorrelate => exact execClockCorrelate_tabs
  | fwInfo => exact execFwInfo_tabs
  | fwWrite => exact execFwWrite_tabs
  | fwVerify => exact execFwVerify_tabs
  | fwActivate => exact execFwActivate_tabs
  | fwCommit => exact execFwCommit_tabs
  | keyInstall => exact execKeyInstall_tabs
  | keyRemove => exact execKeyRemove_tabs
  | keyList => exact execKeyList_tabs
  | imagePolicy => exact execImagePolicy_tabs
  | vetReport => exact execVetReport_tabs
  | vetAccept => exact execVetAccept_tabs
  | vetRevoke => exact execVetRevoke_tabs
  | imageLoad => exact execImageLoad_tabs
  | imageLoadDone => exact execImageLoadDone_tabs
  | imageBind => exact execImageBind_tabs
  | bindEffect => exact execBindEffect_tabs
  | imageUnbind => exact execImageUnbind_tabs
  | unbindEffect => exact execUnbindEffect_tabs
  | imageEvict => exact execImageEvict_tabs
  | imageQuery => exact execImageQuery_tabs
  | partitionSetLayout => exact execPartitionSetLayout_tabs
  | partitionQuery => exact execPartitionQuery_tabs
  | partitionReset => exact execPartitionReset_tabs
  | partitionResetEffect => exact execPartitionResetEffect_tabs
  | bufferScrub => exact execBufferScrub_tabs
  | laneTest => exact execLaneTest_tabs
  | laneQuery => exact execLaneQuery_tabs
  | hbmAssign => exact execHbmAssign_tabs
  | hbmQuery => exact execHbmQuery_tabs
  | denseAttach => exact execDenseAttach_tabs
  | denseFlush => exact execDenseFlush_tabs
  | denseQuery => exact execDenseQuery_tabs
  | prioritySet => exact execPrioritySet_tabs
  | windowWrite => exact execWindowWrite_tabs
  | windowSwitch => exact execWindowSwitch_tabs
  | windowQuery => exact execWindowQuery_tabs
  | poolRegionCreate => exact execPoolRegionCreate_tabs
  | poolRegionReplace => exact execPoolRegionReplace_tabs
  | poolRegionDelete => exact execPoolRegionDelete_tabs
  | regionDeleteComplete => exact execRegionDeleteComplete_tabs
  | poolAccessSet => exact execPoolAccessSet_tabs
  | poolQuery => exact execPoolQuery_tabs
  | latticeConfig => exact execLatticeConfig_tabs
  | latticeQuery => exact execLatticeQuery_tabs
  | barrierPolicy => exact execBarrierPolicy_tabs
  | powerCapSet => exact execPowerCapSet_tabs
  | powerQuery => exact execPowerQuery_tabs
  | wakeLatencySet => exact execWakeLatencySet_tabs
  | sensorQuery => exact execSensorQuery_tabs
  | eventRead => exact execEventRead_tabs
  | errlogRead => exact execErrlogRead_tabs
  | errlogClear => exact execErrlogClear_tabs
  | counterRead => exact execCounterRead_tabs
  | counterClear => exact execCounterClear_tabs
  | faultMapQuery => exact execFaultMapQuery_tabs
  | replacementQuery => exact execReplacementQuery_tabs
  | replacementClear => exact execReplacementClear_tabs
  | mctpControl => exact execMctpControl_tabs
  | spdmRequest => exact execSpdmRequest_tabs
  | mpWatchdog => exact execMpWatchdog_tabs
  | mpReady => exact execMpReady_tabs
  | pmWatchdog => exact execPmWatchdog_tabs
  | mpBoot => exact execMpBoot_tabs
  | trialBootTimeout => exact execTrialBootTimeout_tabs
  | cxlMemRead => exact execCxlMemRead_tabs
  | cxlMemWrite => exact execCxlMemWrite_tabs
  | poolMailboxCommand => exact execPoolMailboxCommand_tabs
  | fill => exact execFill_tabs
  | copy => exact execCopy_tabs
  | compare => exact execCompare_tabs
  | reduce => exact execReduce_tabs
  | flush => exact execFlush_tabs
  | status => exact execStatus_tabs
  | lease => exact execLease_tabs
  | unlease => exact execUnlease_tabs
  | poolCommandEnd => exact execPoolCommandEnd_tabs
  | flushTokenComplete => exact execFlushTokenComplete_tabs
  | flushTokenTimeout => exact execFlushTokenTimeout_tabs
  | leaseExpiry => exact execLeaseExpiry_tabs
  | memberLoss => exact execMemberLoss_tabs
  | rebuildStep => exact execRebuildStep_tabs
  | unitZeroFill => exact execUnitZeroFill_tabs
  | portTrainingDone => exact execPortTrainingDone_tabs
  | linkId => exact execLinkId_tabs
  | portRetrain => exact execPortRetrain_tabs
  | retrainTimeout => exact execRetrainTimeout_tabs
  | trainingRetry => exact execTrainingRetry_tabs
  | idleFlit => exact execIdleFlit_tabs
  | nak => exact execNak_tabs
  | win => exact execWin_tabs
  | ureqRead => exact execUreqRead_tabs
  | ureqWrite => exact execUreqWrite_tabs
  | ureqDelta => exact execUreqDelta_tabs
  | ureqRebuild => exact execUreqRebuild_tabs
  | ureqCmd => exact execUreqCmd_tabs
  | ureqTable => exact execUreqTable_tabs
  | ureqToken => exact execUreqToken_tabs
  | ursp => exact execUrsp_tabs
  | ureqRepeat => exact execUreqRepeat_tabs
  | ackIdleTimer => exact execAckIdleTimer_tabs
  | replayTimeout => exact execReplayTimeout_tabs
  | flitSlot => exact execFlitSlot_tabs
  | arrive => exact execArrive_tabs
  | release => exact execRelease_tabs
  | releaseDelayExpiry => exact execReleaseDelayExpiry_tabs
  | barrierTimeout => exact execBarrierTimeout_tabs
  | barrierLoneRelease => exact execBarrierLoneRelease_tabs
  | treq => exact execTreq_tabs
  | tset => exact execTset_tabs
  | join => exact execJoin_tabs
  | firstBarrierTimer => exact execFirstBarrierTimer_tabs
  | linkFail => exact execLinkFail_tabs
  | lost => exact execLost_tabs
  | policy => exact execPolicy_tabs
  | windowAgeOut => exact execWindowAgeOut_tabs
  | laneSleep => exact execLaneSleep_tabs
  | laneWake => exact execLaneWake_tabs
  | pmControlPeriod => exact execPmControlPeriod_tabs
  | pmThermalPeriod => exact execPmThermalPeriod_tabs
  | sensorSample => exact execSensorSample_tabs
  | pwrbrkAssert => exact execPwrbrkAssert_tabs
  | pwrbrkDeassert => exact execPwrbrkDeassert_tabs
  | tileOvercurrent => exact execTileOvercurrent_tabs
  | tileShutdown => exact execTileShutdown_tabs
  | idleStateEntry => exact execIdleStateEntry_tabs
  | idleExitComplete => exact execIdleExitComplete_tabs
  | elasticOverflow => exact execElasticOverflow_tabs
  | errlogSummaryWrite => exact (execErrlogSummaryWrite_touches s).tabs rfl
  | coreReferenceValid => exact (execCoreReferenceValid_touches s).tabs rfl
  | standbyPowerOff => exact execStandbyPowerOff_tabs
  | mpSramUncorrectable => exact execMpSramUncorrectable_tabs
  | flitCrcFailure => exact execFlitCrcFailure_tabs
  | configurationRequest => exact execConfigurationRequest_tabs
  | laneTestComplete => exact execLaneTestComplete_tabs
  | vddtReached => exact execVddtReached_tabs
  | dynamicAddressAssignment => exact (execDynamicAddressAssignment_touches _ s).tabs rfl

/-- Settles O58: every operation keeps the tables canonical, and so do the front command and the idle step. -/
theorem stepKeepsTables : Obligations.StepKeepsTables := by
  intro s t run wf
  unfold step at run
  cases queue : s.pending with
  | nil =>
    rw [queue] at run
    cases run
    exact idle_tabs wf
  | cons c rest =>
    rw [queue] at run
    obtain ⟨u, next, kept⟩ := exec_tabs c { s with pending := rest }
    cases run.symm.trans next
    exact kept { wf with }

end Sys2Proof.Machine
end

section
/-! The command at the front of the queue (O55). -/

namespace Sys2Proof.Machine

/-- Settles O55: the queue's front is matched, and the idle step leaves the queue as it is. -/
theorem stepRunsFront : Obligations.StepRunsFront :=
  ⟨fun _ _ _ => rfl, fun s queue => by
    refine ⟨idle s, ?_, idle_onward.pending.trans queue⟩
    rw [step, queue]⟩

end Sys2Proof.Machine
end

section
/-! Functions and requests: what an answer leaves of the functions, the answer to a request with a reserved bit set, and
what a function-level reset leaves of the wake latency (R359, R539). -/

namespace Sys2Proof.Machine

section
variable {op len status detail rlen params fn ring v j : Nat} {q : MciReq} {s : State}

theorem raiseVector_fn : (raiseVector fn v s).rings.fn = s.rings.fn := by
  rw [raiseVector]
  split <;> rfl

theorem ringInterrupt_fn : (ringInterrupt fn ring s).rings.fn = s.rings.fn := by
  rw [ringInterrupt]
  split
  · rfl
  · exact raiseVector_fn

theorem moderate_fn {silent : Bool} : (moderate fn ring silent s).rings.fn = s.rings.fn := by
  rw [moderate]
  split
  · rfl
  split
  · exact ringInterrupt_fn
  · rfl

theorem completeOutst_fn {o : Outst} {d : Done} : (completeOutst fn ring o d s).rings.fn = s.rings.fn := moderate_fn

theorem mailboxDone_fn {bytes : Nat} : (mailboxDone bytes s).rings.fn = s.rings.fn := by
  rw [mailboxDone]
  split
  · rfl
  · exact raiseVector_fn

/-- A response posts a completion and raises a vector; it changes no function. -/
theorem mciDeliver_fn {item : Option Outst} : (mciDeliver op q status detail rlen params item s).rings.fn = s.rings.fn := by
  unfold mciDeliver
  dsimp only
  split
  · exact mailboxDone_fn
  split
  · cases item
    · rfl
    · exact completeOutst_fn
  · rfl

theorem fnOf_mciStatus : fnOf (mciStatus op q status s) j = fnOf s j :=
  congrArg (fun m => Tab.get Fn.reset m j) mciDeliver_fn

/-- A request that R359 refuses, and that is not a repetition, is answered with the status of the refusal. -/
theorem mciFixed_of_refused {fields : List (Nat × Nat)} {rangeOk : Bool} {st : Nat} (served : mciServed s q.who = true)
    (refused : mciRefusal s op (q.plen == len) (reservedClear (mciParams q) fields && rangeOk) q = some st)
    (single : st ≠ mDuplicateTag) (act : State → State) :
    mciFixed op len fields rangeOk q act s = mciStatus op q st s := by
  simp [mciFixed, mciRun, served, refused, single]

/-- What R359 accepts with good parameters it refuses with a bad one. -/
theorem mciRefusal_badParam {lenOk : Bool} (accepted : mciRefusal s op lenOk true q = none) :
    mciRefusal s op lenOk false q = some mBadParam := by
  unfold mciRefusal at accepted ⊢
  split at accepted
  · cases accepted
  next fresh =>
    split at accepted
    · cases accepted
    next known =>
      split at accepted
      · cases accepted
      next permitted =>
        split at accepted
        · cases accepted
        next framed => rw [if_neg fresh, if_neg known, if_neg permitted, if_neg framed, if_pos (.inr (by decide))]

end

/-- A layout of one field from bit 0 asks that the value fits the field. -/
theorem reservedClear_low (x w : Nat) : reservedClear x [(0, w)] = decide (x < 2 ^ w) := by
  have positive := Nat.two_pow_pos w
  have mask : layoutMask [(0, w)] = 2 ^ w - 1 := by simp [layoutMask, fieldMask]
  rw [reservedClear, mask, Bool.eq_iff_iff, beq_iff_eq, decide_eq_true_iff]
  constructor
  · intro same
    have le := (Nat.left_le_or : x ≤ x ||| (2 ^ w - 1))
    omega
  · intro lt
    have below : x ||| (2 ^ w - 1) < 2 ^ w := Nat.or_lt_two_pow lt (by omega)
    have above := (Nat.right_le_or : 2 ^ w - 1 ≤ x ||| (2 ^ w - 1))
    omega

/-- The eight bytes of a parameter have their high half 0 exactly when the value fits the low half. -/
theorem bits_high_eq_zero_iff {q : MciReq} (len : q.plen = 8) : bits (mciParams q) 32 32 = 0 ↔ mciParams q < 2 ^ 32 := by
  have lt : mciParams q < 2 ^ 64 := by
    rw [mciParams, len]
    exact Nat.mod_lt _ (by decide)
  rw [bits, Nat.shiftRight_eq_div_pow]
  omega

/-! ### Function-level reset -/

section
variable {fn k : Nat} {s : State}

theorem fnOf_flrOne_same (wf : Tab.wf Fn.reset s.rings.fn = true) : fnOf (flrOne fn s) fn = (fnOf s fn).afterFlr :=
  Tab.get_upd _ _ wf

theorem fnOf_flrOne_ne (ne : k ≠ fn) : fnOf (flrOne fn s) k = fnOf s k := Tab.get_upd_ne _ ne

theorem flrOne_wf_fn (wf : Tab.wf Fn.reset s.rings.fn = true) : Tab.wf Fn.reset (flrOne fn s).rings.fn = true :=
  Tab.wf_upd _ _ wf

/-- A wake latency of 0 stays 0, whichever functions are reset. -/
theorem wake_flrAll {fns : List Nat} (wf : Tab.wf Fn.reset s.rings.fn = true) (zero : (fnOf s k).wake = 0) :
    (fnOf (flrAll fns s) k).wake = 0 := by
  induction fns generalizing s with
  | nil => exact zero
  | cons f fns ih =>
    refine ih (s := flrOne f s) (flrOne_wf_fn wf) ?_
    by_cases same : k = f
    · rw [same, fnOf_flrOne_same wf]
      rfl
    · rw [fnOf_flrOne_ne same, zero]

/-- The reset of physical function 0 takes that function first. -/
theorem wake_flrAll_cons {fns : List Nat} (wf : Tab.wf Fn.reset s.rings.fn = true) :
    (fnOf (flrAll (k :: fns) s) k).wake = 0 :=
  wake_flrAll (s := flrOne k s) (flrOne_wf_fn wf) (congrArg Fn.wake (fnOf_flrOne_same wf))

end

end Sys2Proof.Machine
end

section
/-! The inputs, the resets and the start (R529, R555 to R559, R566 to R568, R646, R654 to R657, Table 17.4). -/

namespace Sys2Proof.Machine

/-! ### What every reset leaves -/

section
variable {s t u : State}

/-- A way that changes pins, queue and answers alone before a stop is not seen by what the stop leaves. -/
theorem ModuleStopped.before (h : ModuleStopped u t) (clk : u.clk = s.clk) (buf : u.buf.mem = s.buf.mem)
    (hbm : u.hbm = s.hbm) (lanes : u.lanes = s.lanes) (slots : u.fw.slots = s.fw.slots) (lat : u.lat = s.lat) :
    ModuleStopped s t := by
  simpa only [ModuleStopped, clk, buf, hbm, lanes, slots, lat] using h

/-- Before the module stops, the summary is written and the brake's time is counted. -/
theorem beforeReset_touches : Touches [.logs, .pm, .counters] s (closeBrake (if mpRuns s then writeSummary s else s)) :=
  (closeBrake_touches _).after rfl (touches_ite ((writeSummary_touches _).mono rfl) (.refl _ _))

theorem enterReset_moduleStopped (s : State) : ModuleStopped s (enterReset s) := by
  have ordered := beforeReset_touches (s := s)
  refine .before (u := closeBrake (if mpRuns s then writeSummary s else s)) ?_ (ordered .clk (by decide))
    (congrArg Buf.mem (ordered .buf (by decide))) (ordered .hbm (by decide)) (ordered .lanes (by decide))
    (congrArg Fw.slots (ordered .fw (by decide))) (ordered .lat (by decide))
  obtain ⟨p, e⟩ := stopModule_eq (closeBrake (if mpRuns s then writeSummary s else s))
  unfold ModuleStopped enterReset
  rw [e]
  exact ⟨rfl, rfl, rfl, rfl, rfl, rfl, rfl, rfl, rfl, rfl, rfl, rfl, rfl, rfl, rfl, rfl, rfl⟩

/-- A reset keeps the reference, takes both links down, clears registers and layout, and leaves PERST1#. -/
structure ResetTaken (s t : State) : Prop where
  refPs : t.clk.refPs = s.clk.refPs
  link0 : t.boot.linkUp0 = false
  link1 : t.boot.linkUp1 = false
  regs : t.regs = Regs.reset
  layout : t.layout = []
  perst1 : t.pins.perst1 = s.pins.perst1

theorem enterReset_taken (s : State) : ResetTaken s (enterReset s) := by
  have ordered := beforeReset_touches (s := s)
  have clk : (closeBrake (if mpRuns s then writeSummary s else s)).clk = s.clk := ordered .clk (by decide)
  have pins : (closeBrake (if mpRuns s then writeSummary s else s)).pins = s.pins := ordered .pins (by decide)
  obtain ⟨p, e⟩ := stopModule_eq (closeBrake (if mpRuns s then writeSummary s else s))
  unfold enterReset
  rw [e]
  exact ⟨(congrArg Clk.refPs clk :), rfl, rfl, rfl, rfl, (congrArg Pins.perst1 pins :)⟩

theorem raiseRegulators_eq (s : State) : ∃ regs, raiseRegulators s = { s with boot := { s.boot with regs := regs } } := by
  unfold raiseRegulators
  split
  · exact ⟨_, rfl⟩
  · exact ⟨_, rfl⟩

/-- A reset with a cold start to follow puts the regulators down and up again: of the clock the PLL and the source of the
P domain change, of the boot state the regulators. -/
theorem coldEntry_eq (s : State) : ∃ regs pll source, coldEntry s =
    { s with boot := { s.boot with regs := regs }, clk := { s.clk with pll := pll, pSource := source } } := by
  unfold coldEntry
  split
  · obtain ⟨regs, e⟩ := raiseRegulators_eq (dropRegulators s)
    exact ⟨regs, _, _, e⟩
  · exact ⟨_, _, _, rfl⟩

theorem settleTrip_eq (s : State) : ∃ regs tripped trip, settleTrip s =
    { s with boot := { s.boot with regs := regs, tripped := tripped }, pins := { s.pins with thermtrip := trip } } := by
  unfold settleTrip
  split
  · obtain ⟨regs, e⟩ := raiseRegulators_eq { s with
      boot := { s.boot with tripped := false }, pins := { s.pins with thermtrip := false } }
    exact ⟨regs, _, _, e⟩
  · exact ⟨_, _, _, rfl⟩

/-- Once the trip is settled, only the reports of the other faults and ALERT# are. -/
theorem settleAlert_reports (s : State) : ∃ lost range alert, settleAlert s =
    { settleTrip s with
      boot := { (settleTrip s).boot with clockLost := lost, rangeLost := range }
      pins := { (settleTrip s).pins with alert := alert } } := by
  unfold settleAlert
  dsimp only
  split
  · exact ⟨_, _, _, rfl⟩
  · exact ⟨_, _, _, rfl⟩

theorem settleAlert_eq (s : State) : ∃ regs tripped trip lost range alert, settleAlert s =
    { s with
      boot := { s.boot with regs := regs, tripped := tripped, clockLost := lost, rangeLost := range }
      pins := { s.pins with thermtrip := trip, alert := alert } } := by
  obtain ⟨regs, tripped, trip, e⟩ := settleTrip_eq s
  obtain ⟨lost, range, alert, settled⟩ := settleAlert_reports s
  rw [e] at settled
  exact ⟨regs, tripped, trip, lost, range, alert, settled⟩

/-! ### PERST# and MODULE_RESET (R566, R567, R655) -/

/-- The module once PERST# is asserted. -/
def inReset (s : State) : State :=
  settleAlert (coldEntry { enterReset s with pins := { (enterReset s).pins with perst := true } })

theorem exec_perstAssert (standby : s.pins.standby = true) (perst : s.pins.perst = false) :
    exec .perstAssert s = .next (inReset s) := by
  simp [exec, execPerstAssert, standby, perst, inReset]

/-- What the end of the reset changes is not among what a reset leaves. -/
theorem ModuleStopped.inReset {r : State} (stopped : ModuleStopped s r) (taken : ResetTaken s r) :
    let t := settleAlert (coldEntry { r with pins := { r.pins with perst := true } })
    t.pins.perst = true ∧ ModuleStopped s t ∧ ResetTaken s t := by
  obtain ⟨regs, pll, source, cold⟩ := coldEntry_eq { r with pins := { r.pins with perst := true } }
  obtain ⟨regs', tripped, trip, lost, range, alert, settled⟩ :=
    settleAlert_eq (coldEntry { r with pins := { r.pins with perst := true } })
  rw [cold] at settled
  obtain ⟨refPs, link0, link1, registers, layout, perst1⟩ := taken
  rw [cold, settled]
  exact ⟨rfl, stopped, refPs, link0, link1, registers, layout, perst1⟩

theorem inReset_left (s : State) : (inReset s).pins.perst = true ∧ ModuleStopped s (inReset s) ∧ ResetTaken s (inReset s) :=
  (enterReset_moduleStopped s).inReset (enterReset_taken s)

/-- The answer to MODULE_RESET, and the reset that follows it. -/
def moduleResetDone (q : MciReq) (s : State) : State :=
  let kind := bits (mciParams q) 0 2
  let s1 := enterReset (mciStatus 0x0A01 q mSuccess s)
  coldEntry { s1 with boot := { s1.boot with hold := some kind, nextCold := s1.boot.nextCold || kind == 1 } }

theorem exec_moduleReset {q : MciReq} (serves : Serves 0x0A01 (q.plen == 8)
    (reservedClear (mciParams q) [(0, 2)] && decide (bits (mciParams q) 0 2 ≤ 1)) q s) :
    exec (.moduleReset q) s = .next (moduleResetDone q s) :=
  congrArg Host.Outcome.next (mciFixed_of_serves serves _)

/-- The hold and the kind of the reset are noted, and the regulators of a cold one go down and up. -/
theorem ModuleStopped.held {r : State} (stopped : ModuleStopped s r) (kind : Nat) :
    let t := coldEntry { r with boot := { r.boot with hold := some kind, nextCold := r.boot.nextCold || kind == 1 } }
    t.boot.hold = some kind ∧ (kind = 1 → t.boot.nextCold = true) ∧ ModuleStopped s t := by
  obtain ⟨regs, pll, source, cold⟩ :=
    coldEntry_eq { r with boot := { r.boot with hold := some kind, nextCold := r.boot.nextCold || kind == 1 } }
  rw [cold]
  exact ⟨rfl, fun one => by simp [one], stopped⟩

theorem moduleResetDone_left (q : MciReq) (s : State) : let t := moduleResetDone q s
    t.boot.hold = some (bits (mciParams q) 0 2) ∧ (bits (mciParams q) 0 2 = 1 → t.boot.nextCold = true) ∧ ModuleStopped s t := by
  have answer : Touches [.rings, .regs, .fw, .out] s (mciStatus 0x0A01 q mSuccess s) := mciStatus_touches _ _ _ _
  have slots : (mciStatus 0x0A01 q mSuccess s).fw.slots = s.fw.slots := (congrArg Fw.slots mciStatus_fw).trans rfl
  have stopped : ModuleStopped s (enterReset (mciStatus 0x0A01 q mSuccess s)) :=
    (enterReset_moduleStopped _).before (answer .clk (by decide)) (congrArg Buf.mem (answer .buf (by decide)))
      (answer .hbm (by decide)) (answer .lanes (by decide)) slots (answer .lat (by decide))
  exact stopped.held _

/-! ### The start -/

/-- PERST# is deasserted, and the straps are latched with it. -/
def strapsLatched (straps : BitVec 5) (drives : BitVec 8) (s : State) : State :=
  { s with pins := { s.pins with perst := false, strapsRaw := straps, straps := straps, dprsnt := drives } }

section
variable {straps : BitVec 5} {drives : BitVec 8} (standby : s.pins.standby = true) (perst : s.pins.perst = true)
include standby perst

theorem exec_perstDeassert : exec (.perstDeassert straps drives) s =
    .next (if canStart s then beginStart (strapsLatched straps drives s) else strapsLatched straps drives s) :=
  if_neg (by simp [standby, perst])

theorem exec_perstDeassert_start (start : canStart s = true) :
    exec (.perstDeassert straps drives) s = .next (beginStart (strapsLatched straps drives s)) :=
  (exec_perstDeassert standby perst).trans (congrArg _ (if_pos start))

end

theorem standby_of_canStart (start : canStart s = true) : s.pins.standby = true := by
  simp only [canStart, Bool.and_eq_true] at start
  obtain ⟨⟨⟨⟨⟨standby, -⟩, -⟩, -⟩, -⟩, -⟩ := start
  exact standby

end

/-- Settles O4: what a reset leaves of the module is not changed by the pins and regulators that are settled after it. -/
theorem resetEntered : Obligations.ResetEntered := by
  refine ⟨fun s standby perst => ?_, fun q s served accepted => ?_⟩
  · obtain ⟨asserted, stopped, taken⟩ := inReset_left s
    have win : (inReset s).win = Windows.reset := stopped.2.2.2.2.2.2.1
    exact .of_next (exec_perstAssert standby perst) (execPerstAssert_touches s)
      ⟨asserted, congrArg Windows.gen win, congrArg (fun n => BitVec.ofNat 64 (n / 10000)) taken.refPs, stopped⟩
  · obtain ⟨hold, cold, stopped⟩ := moduleResetDone_left q s
    obtain ⟨still, -, -, parts, -, rings, win, -, mp, ready, buf, hbm, -, -, -, slots, -⟩ := stopped
    exact .of_next (exec_moduleReset ⟨served, accepted⟩) (execModuleReset_touches q s)
      ⟨hold, congrArg Windows.gen win, cold, still, parts, rings, mp, ready, buf, hbm, slots⟩

/-- Settles O53: with PERST# asserted only the contact's level is kept; the reset of PERST# clears the tables that hold
port 1's function. -/
theorem perst1AndPerst : Obligations.Perst1AndPerst := by
  refine ⟨fun s standby perst perst1 => ?_, fun s standby perst perst1 => ?_⟩
  · have run : exec .perst1Deassert s = .next { s with pins := { s.pins with perst1 := false } } := by
      simp [exec, execPerst1Deassert, standby, perst, perst1]
    exact ⟨_, run, rfl, upd_pins rfl (.refl _ _)⟩
  · obtain ⟨-, stopped, -, link0, link1, regs, layout, level⟩ := inReset_left s
    obtain ⟨still, -, -, parts, slots, rings, win, tiles, mp, ready, -⟩ := stopped
    refine .of_next (exec_perstAssert standby perst) (execPerstAssert_touches s)
      ⟨link1, fun r _ => ?_, ?_, ?_, link0, ready, mp, still, parts, layout, slots, rings, regs, win, tiles, level.trans perst1⟩
    · rw [ringOf, rings]
      rfl
    · rw [fnOf, rings]
      rfl
    · rw [winTable, win]
      rfl

/-- A module with the reference back, whose clock block still names an instant at which it halted, after the wall time. -/
def haltAhead : State :=
  { State.reset with
    clk := { Clk.reset with refValid := true, pll := true, refHalt := some 10000 }
    pins := { Pins.reset with standby := true, main := true, perst := true }
    boot := { Boot.reset with regs := 31, begun := true, nextCold := true } }

theorem haltAhead_premises : haltAhead.pins.standby = true ∧ haltAhead.pins.perst = true ∧ canStart haltAhead = true ∧
    haltAhead.boot.nextCold = true ∧ haltAhead.boot.begun = true := by decide

/-- Refutes O5: the clause about a cold start says that the reference time is 0, of any clock block. In `haltAhead` the
reference is valid and the instant of its last halt is kept and lies ahead of the wall time, a block that no run reaches,
and the reference time counts up to that instant. -/
theorem not_startBegins : ¬ Obligations.StartBegins := by
  unfold Obligations.StartBegins
  rintro ⟨starts, -⟩
  obtain ⟨standby, perst, start, cold, begun⟩ := haltAhead_premises
  obtain ⟨t, run, ⟨-, -, -, -, -, -, restarted, -⟩, -⟩ := starts 0 0 haltAhead perst start
  obtain ⟨-, zero, -⟩ := restarted cold
  cases run.symm.trans (exec_perstDeassert_start standby perst start)
  exact absurd (zero begun) (by decide)

/-- A function without its table entry has no wake latency. -/
theorem wake_of_ringsReset {s : State} (rings : s.rings = Rings.reset) (f : Nat) : (fnOf s f).wake = 0 := by
  rw [fnOf, rings]
  rfl

/-- Settles O54: the latency is a field of the function's table entry, which an answer leaves, a function-level reset
clears, and a reset of the module drops. -/
theorem wakeLatency : Obligations.WakeLatency := by
  refine ⟨fun q s served accepted len clear wf => ?set, fun q s served accepted len reserved => ?refuse,
    fun fn s bound wf => ?flr, fun q s served accepted len cold => ?moduleReset, fun s standby perst => ?perst,
    fun straps drives s perst start => ?start⟩
  case set =>
    obtain ⟨-, fns, -, -⟩ := wf
    have fits : reservedClear (mciParams q) [(0, 32)] = true :=
      (reservedClear_low _ _).trans (decide_eq_true ((bits_high_eq_zero_iff len).mp clear))
    have run : exec (.wakeLatencySet q) s = .next (mciStatus 0x0803 q mSuccess (updFn (fnOfWho q.who) (fun f => { f with
        wake := BitVec.ofNat 32 (bits (mciParams q) 0 32) }) s)) :=
      congrArg Host.Outcome.next (mciFixed_of_serves ⟨served, by rw [len, fits]; exact accepted⟩ _)
    refine .of_next run (execWakeLatencySet_touches q s)
      ⟨fnOf_mciStatus.trans (fnOf_updFn _ _ _ fns), fun f _ ne => fnOf_mciStatus.trans (fnOf_updFn_ne _ _ _ ne), ?_⟩
    exact answered_after (.upd (.refl s) rfl)
  case refuse =>
    have high : reservedClear (mciParams q) [(0, 32)] = false :=
      (reservedClear_low _ _).trans (decide_eq_false ((bits_high_eq_zero_iff len).not.mp reserved))
    have run : exec (.wakeLatencySet q) s = .next (mciStatus 0x0803 q mBadParam s) :=
      congrArg Host.Outcome.next (mciFixed_of_refused served
        (by rw [len, high]; exact mciRefusal_badParam accepted)
        (by decide) _)
    exact .of_next run (execWakeLatencySet_touches q s)
      ⟨fun f _ => congrArg Fn.wake fnOf_mciStatus, mciStatus_answered⟩
  case flr =>
    obtain ⟨-, fns, -, -⟩ := wf
    by_cases zero : fn = 0
    · have run : exec (.functionLevelReset fn) s =
          .next (flrAll (rangeFrom 0 64) { s with boot := { s.boot with vfEnable := false } }) := if_pos zero
      refine .of_next run ((execFunctionLevelReset_touches fn s).after rfl (.refl _ _)) ⟨?_, fun other => absurd zero other⟩
      rw [zero]
      exact wake_flrAll_cons fns
    · have run : exec (.functionLevelReset fn) s = .next (flrOne fn s) := if_neg zero
      exact .of_next run ((execFunctionLevelReset_touches fn s).after rfl (.refl _ _))
        ⟨congrArg Fn.wake (fnOf_flrOne_same fns), fun _ f _ ne => fnOf_flrOne_ne ne⟩
  case moduleReset =>
    have serves : Serves 0x0A01 (q.plen == 8)
        (reservedClear (mciParams q) [(0, 2)] && decide (bits (mciParams q) 0 2 ≤ 1)) q s := by
      refine ⟨served, ?_⟩
      rw [len, cold]
      exact accepted
    obtain ⟨-, next, stopped⟩ := moduleResetDone_left q s
    obtain ⟨-, -, -, -, -, rings, -⟩ := stopped
    exact .of_next (exec_moduleReset serves) (execModuleReset_touches q s)
      ⟨next (by rw [cold]; rfl), fun f _ => wake_of_ringsReset rings f⟩
  case perst =>
    obtain ⟨-, stopped, -⟩ := inReset_left s
    obtain ⟨-, -, -, -, -, rings, -⟩ := stopped
    exact .of_next (exec_perstAssert standby perst) (execPerstAssert_touches s) fun f _ => wake_of_ringsReset rings f
  case start =>
    exact .of_next (exec_perstDeassert_start (standby_of_canStart start) perst start)
      ((execPerstDeassert_touches straps drives s).after rfl (.refl _ _))
      (beginStart_touches (strapsLatched straps drives s) .rings (by decide))

/-- A stop of the module leaves the regulators. -/
theorem fatalStop_regs (s : State) : (fatalStop s).boot.regs = s.boot.regs := by
  obtain ⟨p, e⟩ := stopModule_eq s
  simp only [fatalStop, e]
  rfl

theorem fatalStop_fatalEvent_regs (reason unit : Nat) (s : State) :
    (fatalStop (fatalEvent reason unit s)).boot.regs = s.boot.regs :=
  (fatalStop_regs _).trans (congrArg Boot.regs (fatalEvent_touches reason unit s .boot (by decide)))

/-- What the trip leaves: all regulators but the standby one are down, and the pins say so. -/
def tripTaken (s : State) : State :=
  let s1 := dropRegulators s
  { s1 with boot := { s1.boot with tripped := true }, pins := { s1.pins with thermtrip := true } }

theorem ModuleStopped.tripTaken {s t : State} (h : ModuleStopped s t) : ModuleStopped s (tripTaken t) := h

/-- Settles O3: the trip is a fatal event, after which the regulators of all but the standby domain are down. -/
theorem tripStops : Obligations.TripStops := by
  intro i s sensor powered untripped hot
  have run : exec (.thermalTrip i) s = .next (tripTaken (fatalStop (fatalEvent 0x1002 (sensorUnit i) s))) :=
    if_neg (by simp [powered, untripped]; omega)
  have stopped : ModuleStopped s (fatalStop (fatalEvent 0x1002 (sensorUnit i) s)) := fatalStop_fatalEvent_moduleStopped _ _ _
  have regs := fatalStop_fatalEvent_regs 0x1002 (sensorUnit i) s
  have alert := fatalStop_alert (fatalEvent 0x1002 (sensorUnit i) s)
  exact .of_next run ((execThermalTrip_touches i s).after rfl (.refl _ _))
    ⟨rfl, rfl, alert, congrArg (· &&& 1) regs, rfl, rfl, stopped.tripTaken⟩

/-! ### The power inputs (R555 to R558, R646, R657) -/

section
variable {s : State} {unit : Nat}

theorem inputInRange_dropInput (p : Pins) (bound : unit < 9) : inputInRange (dropInput unit p) unit = false := by
  by_cases main : unit = 0
  · simp [inputInRange, dropInput, main]
  · have bit : unit - 1 < 8 := by omega
    simp [inputInRange, dropInput, main, bit]

/-- An input leaves its range: the next start is a cold one. -/
def inputLost (unit : Nat) (s : State) : State := coldNext { s with pins := dropInput unit s.pins }

/-- The reset that an input's loss forces outside a reset. -/
def inputReset (unit : Nat) (s : State) : State :=
  let s2 := coldNext (enterReset (fatalEvent 0x1003 unit (inputLost unit s)))
  let s3 := { s2 with boot := { s2.boot with rangeLost := some unit } }
  if unit = 0 then dropRegulators s3 else s3

section
variable (standby : s.pins.standby = true) (bound : unit < 9) (inRange : inputInRange s.pins unit = true)
include standby bound inRange

theorem exec_inputOutOfRange_running (perst : s.pins.perst = false) :
    exec (.inputOutOfRange unit) s = .next (inputReset unit s) :=
  (if_neg (by simp [standby, inRange]; omega)).trans (if_neg (by simp [perst]))

theorem exec_inputOutOfRange_hbm_inReset (perst : s.pins.perst = true) (hbm : unit ≠ 0) :
    exec (.inputOutOfRange unit) s = .next (fatalRecord 0x1003 unit (inputLost unit s)) :=
  ((if_neg (by simp [standby, inRange]; omega)).trans (if_pos perst)).trans (congrArg _ (if_neg hbm))

end

/-- The end of the forced reset changes the boot state and the clock's lock. -/
theorem ModuleStopped.forced {r : State} (stopped : ModuleStopped s r) :
    let s3 := { coldNext r with boot := { (coldNext r).boot with rangeLost := some unit } }
    let t := if unit = 0 then dropRegulators s3 else s3
    t.pins = r.pins ∧ t.boot.nextCold = true ∧ ModuleStopped s t := by
  dsimp only
  split
  · exact ⟨rfl, rfl, stopped⟩
  · exact ⟨rfl, rfl, stopped⟩

/-- Of the pins a reset clears the drive resets alone, and the I3C address. -/
theorem enterReset_pins (s : State) :
    (enterReset s).pins.alert = s.pins.alert ∧ ∀ u, inputInRange (enterReset s).pins u = inputInRange s.pins u := by
  have pins : (closeBrake (if mpRuns s then writeSummary s else s)).pins = s.pins := beforeReset_touches .pins (by decide)
  obtain ⟨p, e⟩ := stopModule_eq (closeBrake (if mpRuns s then writeSummary s else s))
  unfold enterReset
  rw [e]
  exact ⟨(congrArg Pins.alert pins :), fun u => (congrArg (inputInRange · u) pins :)⟩

theorem fatalEvent_pins (reason unit : Nat) (s : State) : (fatalEvent reason unit s).pins = { s.pins with alert := true } := by
  unfold fatalEvent fatalRecord
  split <;> rfl

theorem inputReset_left (bound : unit < 9) : let t := inputReset unit s
    t.pins.alert = true ∧ t.boot.nextCold = true ∧ inputInRange t.pins unit = false ∧ ModuleStopped s t := by
  have event : Touches [.pins, .logs] (inputLost unit s) (fatalEvent 0x1003 unit (inputLost unit s)) := fatalEvent_touches _ _ _
  have stopped : ModuleStopped s (enterReset (fatalEvent 0x1003 unit (inputLost unit s))) :=
    (enterReset_moduleStopped _).before (event .clk (by decide)) (congrArg Buf.mem (event .buf (by decide)))
      (event .hbm (by decide)) (event .lanes (by decide)) (congrArg Fw.slots (event .fw (by decide))) (event .lat (by decide))
  obtain ⟨alert, inputs⟩ := enterReset_pins (fatalEvent 0x1003 unit (inputLost unit s))
  rw [fatalEvent_pins] at alert inputs
  obtain ⟨pins, cold, stopped⟩ := stopped.forced (unit := unit)
  exact ⟨(congrArg Pins.alert pins).trans alert, cold,
    (congrArg (inputInRange · unit) pins).trans ((inputs unit).trans (inputInRange_dropInput s.pins bound)), stopped⟩

end

/-- The inputs are on, and the core regulators with them unless a trip is latched. -/
def inputsOn (h : BitVec 8) (s : State) : State := raiseRegulators { s with pins := { s.pins with main := true, hbmIn := h } }

theorem exec_mainInputOn {h : BitVec 8} {s : State} (standby : s.pins.standby = true) :
    exec (.mainInputOn h) s = .next (settleAlert (inputsOn h s)) := if_neg (by simp [standby])

theorem inputsOn_pins (h : BitVec 8) (s : State) : (inputsOn h s).pins = { s.pins with main := true, hbmIn := h } :=
  raiseRegulators_touches _ .pins (by decide)

theorem inputsOn_boot {h : BitVec 8} {s : State} (trip : s.boot.tripped = false) (standby : s.pins.standby = true) :
    (inputsOn h s).boot = { s.boot with regs := 31 } := by
  simp [inputsOn, raiseRegulators, trip, standby]

theorem inputsOn_boot_tripped {h : BitVec 8} {s : State} (trip : s.boot.tripped = true) : (inputsOn h s).boot = s.boot := by
  simp [inputsOn, raiseRegulators, trip]

theorem settleTrip_of_untripped {s : State} (trip : s.boot.tripped = false) : settleTrip s = s := by
  simp [settleTrip, trip]

theorem settleTrip_of_hot {s : State} (hot : baseCool s = false) : settleTrip s = s := by
  simp [settleTrip, hot]

theorem settleAlert_of_settleTrip {s : State} (still : settleTrip s = s) : ∃ lost range alert, settleAlert s =
    { s with boot := { s.boot with clockLost := lost, rangeLost := range }, pins := { s.pins with alert := alert } } := by
  obtain ⟨lost, range, alert, e⟩ := settleAlert_reports s
  rw [still] at e
  exact ⟨lost, range, alert, e⟩

/-- Settles O1: each input is one branch of its command; out of range outside a reset it forces one, and the loss of
standby power keeps what a reset keeps and the counted cold starts. -/
theorem powerInputs : Obligations.PowerInputs := by
  refine ⟨fun s standby => ?standbyOn, fun h s standby trip => ?mainOn, fun h s standby trip hot => ?mainOnHot,
    fun unit s standby bound inRange perst => ?running, fun unit s standby hbm bound inRange perst => ?inReset,
    fun s standby => ?standbyOff⟩
  case standbyOn =>
    exact .of_next (if_neg (by simp [standby])) ((execStandbyPowerOn_touches s).after rfl (.refl _ _))
      ⟨rfl, rfl, rfl, rfl, rfl, rfl, rfl, rfl⟩
  case mainOn =>
    obtain ⟨lost, range, alert, settled⟩ := settleAlert_of_settleTrip (s := inputsOn h s)
      (settleTrip_of_untripped ((congrArg Boot.tripped (inputsOn_boot trip standby)).trans trip))
    refine .of_next (exec_mainInputOn standby) (execMainInputOn_touches h s) ?_
    rw [settled]
    exact ⟨congrArg Pins.main (inputsOn_pins h s), congrArg Pins.hbmIn (inputsOn_pins h s),
      congrArg Boot.regs (inputsOn_boot trip standby)⟩
  case mainOnHot =>
    have boot : (inputsOn h s).boot = s.boot := inputsOn_boot_tripped trip
    have cool : baseCool (inputsOn h s) = false := by
      have pm : (inputsOn h s).pm = s.pm := raiseRegulators_touches _ .pm (by decide)
      rw [← hot]
      unfold baseCool sensorOf
      rw [pm]
    obtain ⟨lost, range, alert, settled⟩ := settleAlert_of_settleTrip (s := inputsOn h s) (settleTrip_of_hot cool)
    refine .of_next (exec_mainInputOn standby) (execMainInputOn_touches h s) ?_
    rw [settled]
    exact ⟨congrArg Pins.main (inputsOn_pins h s), (congrArg Boot.regs boot :), (congrArg Boot.tripped boot).trans trip⟩
  case running =>
    exact .of_next (exec_inputOutOfRange_running standby bound inRange perst) (execInputOutOfRange_touches unit s)
      (inputReset_left bound)
  case inReset =>
    refine ⟨_, exec_inputOutOfRange_hbm_inReset standby bound inRange perst (Nat.ne_of_gt hbm), ?_, ?_⟩
    · have logs := fatalRecord_touches 0x1003 unit (inputLost unit s)
      have pins : (fatalRecord 0x1003 unit (inputLost unit s)).pins = dropInput unit s.pins := logs .pins (by decide)
      have boot : (fatalRecord 0x1003 unit (inputLost unit s)).boot = { s.boot with nextCold := true } := logs .boot (by decide)
      dsimp only
      rw [pins, boot]
      refine ⟨rfl, inputInRange_dropInput _ bound, fatalRecord_power_isSome _ _ _, ?_⟩
      unfold dropInput
      split <;> rfl
    · exact (fatalRecord_touches _ _ _).after rfl (upd_boot rfl (upd_pins rfl (.refl _ _)))
  case standbyOff =>
    refine .of_next (if_neg (by simp [standby])) (execStandbyPowerOff_touches s) ?_
    obtain ⟨p, e⟩ := stopModule_eq s
    dsimp only
    rw [e]
    exact ⟨rfl, rfl, rfl, rfl, rfl, rfl, rfl, rfl, rfl, rfl, rfl, rfl, rfl, rfl, rfl⟩

end Sys2Proof.Machine
end

section
/-! EVENT_PACKET from an endpoint that holds an EVENT back, COUNTER_CLEAR of a slice's uncorrectable count, and WINDOW_WRITE of a
shadow that is listed twice (R162, R166, R388, R591, R603): states that the premises of the statements on logs and windows allow. -/

namespace Sys2Proof.Machine
open Sys2Proof.Tests

/-- An EVENT of router 5's endpoint, and the one held back behind it. -/
def plainEvent : FaultPkt := ⟨0, 0, 5, none, 5, 0⟩

/-- The oldest EVENT comes from an endpoint whose injection queue is full, and which holds another EVENT back. -/
def heldBehind : State :=
  { State.reset with ctl := { Ctl.reset with
    eventQ := [plainEvent], inject := [(5, 32)], heldEvent := [(5, some plainEvent)] } }

/-- The log writer changes no queue. -/
theorem exec_eventPacket_drained {a : FaultPkt} {l : List FaultPkt} {s : State} (queue : s.ctl.eventQ = a :: l) :
    ∃ t, exec (.eventPacket none) s = .next t ∧
      t.ctl = (drainQueue a.src 1 { s with ctl := { s.ctl with eventQ := l } }).ctl := by
  have run : execEventPacket none s =
      .next (writePacket a (drainQueue a.src 1 { s with ctl := { s.ctl with eventQ := l } })) := by
    simp [execEventPacket, takePacket, queue]
  exact ⟨_, run, writePacket_touches _ _ .ctl (by decide)⟩

/-- Refutes O26: the clause about EVENT_PACKET says that the queue is left with the packets behind the oldest one. In
`heldBehind` the drained injection queue lets the held packet in, and it joins them. -/
theorem not_logWriter : ¬ Obligations.LogWriter := by
  unfold Obligations.LogWriter
  rintro ⟨-, -, events, -⟩
  obtain ⟨t, run, ⟨left, -⟩, -⟩ := events plainEvent [] heldBehind rfl (by decide) (by decide)
  obtain ⟨u, run', drained⟩ := exec_eventPacket_drained (s := heldBehind) rfl
  cases run.symm.trans run'
  rw [drained] at left
  exact absurd left (by decide)

/-- Slice 0 has had its first uncorrectable word. -/
def firstBadNoted : State := { wReady with buf := { wReady.buf with firstBad := [0] } }

/-- PF0's COUNTER_CLEAR of slice 0's uncorrectable count. -/
def clearBad : MciReq := wReq 0 8 0x0102

theorem clearBad_shown : Serves 0x0904 (clearBad.plen == 8)
    (reservedClear (mciParams clearBad) [(0, 16), (16, 16)] &&
      (counterIds.contains (bits (mciParams clearBad) 0 16) && (counterKind (bits (mciParams clearBad) 0 16)).2 &&
        (bits (mciParams clearBad) 16 16 == 0xFFFF ||
          decide (bits (mciParams clearBad) 16 16 < counterInstances (bits (mciParams clearBad) 0 16))))) clearBad firstBadNoted ∧
    bits (mciParams clearBad) 16 16 ≠ 0xFFFF ∧ bits (mciParams clearBad) 0 16 ≠ 0x0705 ∧ firstBadNoted.HostWf ∧
    (clearCounter (bits (mciParams clearBad) 0 16) (bits (mciParams clearBad) 16 16) firstBadNoted).buf.firstBad ≠
      firstBadNoted.buf.firstBad := by
  decide +kernel

theorem exec_counterClear_one {q : MciReq} {s : State} (serves : Serves 0x0904 (q.plen == 8)
    (reservedClear (mciParams q) [(0, 16), (16, 16)] &&
      (counterIds.contains (bits (mciParams q) 0 16) && (counterKind (bits (mciParams q) 0 16)).2 &&
        (bits (mciParams q) 16 16 == 0xFFFF || decide (bits (mciParams q) 16 16 < counterInstances (bits (mciParams q) 0 16))))) q s)
    (one : bits (mciParams q) 16 16 ≠ 0xFFFF) : exec (.counterClear q) s =
      .next (mciStatus 0x0904 q mSuccess (clearCounter (bits (mciParams q) 0 16) (bits (mciParams q) 16 16) s)) := by
  change execCounterClear q s = _
  rw [execCounterClear, mciFixed_of_serves serves, if_neg one]

/-- Refutes O27: the clause about COUNTER_CLEAR names no slice state as changed, of any saturating counter. In `firstBadNoted`
the clearing of slice 0's uncorrectable count makes its next such word a first one again. -/
theorem not_logQueries : ¬ Obligations.LogQueries := by
  unfold Obligations.LogQueries
  rintro ⟨-, -, -, -, clears, -⟩
  obtain ⟨serves, one, own, wf, first⟩ := clearBad_shown
  obtain ⟨t, run, -, frame⟩ := clears clearBad firstBadNoted serves one own wf
  cases run.symm.trans (exec_counterClear_one serves one)
  have answer : Touches [.rings, .regs, .fw, .out]
      (clearCounter (bits (mciParams clearBad) 0 16) (bits (mciParams clearBad) 16 16) firstBadNoted) _ :=
    mciStatus_touches 0x0904 clearBad mSuccess _
  have cleared : (clearCounter (bits (mciParams clearBad) 0 16) (bits (mciParams clearBad) 16 16) firstBadNoted).buf =
      firstBadNoted.buf := (answer .buf (by decide)).symm.trans (frame .buf (by decide))
  exact first (congrArg Buf.firstBad cleared)

/-! ### WINDOW_WRITE of a whole table (R388) -/

/-- The shadow of function 1 is listed twice, a table that no run reaches. -/
def doubledShadow : State :=
  { wReady with win := { wReady.win with
    shadow := [(1, { WinTable.empty with quota := 1 }), (1, { WinTable.empty with quota := 1 })] } }

/-- PF0's WINDOW_WRITE that empties function 1's table. -/
def clearShadow : MciReq := wReq 0 8 0x0701

theorem clearShadow_serves :
    Serves 0x0402 (wwLenOk (mciParams clearShadow) clearShadow.plen) (wwOk (mciParams clearShadow)) clearShadow doubledShadow := by
  decide +kernel

/-- A served WINDOW_WRITE leaves the written table in the shadow. -/
theorem exec_windowWrite {q : MciReq} {s : State} (serves : Serves 0x0402 (wwLenOk (mciParams q) q.plen) (wwOk (mciParams q)) q s) :
    ∃ t, exec (.windowWrite q) s = .next t ∧ t.win.shadow = Tab.set WinTable.empty s.win.shadow (wwFunc (mciParams q))
      ((shadowTable s (wwFunc (mciParams q))).write (wwClass (mciParams q)) (wwIndex (mciParams q)) (wwEntry (mciParams q))) := by
  obtain ⟨served, accepted⟩ := serves
  have run : execWindowWrite q s = .next (mciStatus 0x0402 q mSuccess { s with win := { s.win with
      shadow := Tab.set WinTable.empty s.win.shadow (wwFunc (mciParams q)) ((shadowTable s (wwFunc (mciParams q))).write
        (wwClass (mciParams q)) (wwIndex (mciParams q)) (wwEntry (mciParams q))) } }) := by
    simp only [execWindowWrite, mciRun, served, accepted, Bool.not_true, Bool.false_eq_true, if_false]
  exact ⟨_, run, congrArg Windows.shadow (mciStatus_touches 0x0402 q mSuccess _ .win (by decide))⟩

/-- Refutes O28: WINDOW_WRITE's clause says what the shadow then reads, without asking that the shadow is canonical. In
`doubledShadow` the emptied entry uncovers the second one of the same function. -/
theorem not_windowCommands : ¬ Obligations.WindowCommands := by
  unfold Obligations.WindowCommands
  rintro ⟨writes, -⟩
  obtain ⟨t, run, ⟨reads, -⟩, -⟩ := writes clearShadow doubledShadow clearShadow_serves
  obtain ⟨u, run', shadow⟩ := exec_windowWrite clearShadow_serves
  cases run.symm.trans run'
  have one := reads 1 (by decide)
  rw [shadowTable, shadow] at one
  exact absurd one (by decide +kernel)

end Sys2Proof.Machine
end

section
/-! Register accesses of a served function (R610 to R613, R618): reads that latch and sample, words that are written, and the
enable registers. -/

namespace Sys2Proof.Machine

section
variable {fn off ring v : Nat} {s : State}

/-! ### Reads (R611, R613) -/

theorem exec_counterLowRead_served {size value : Nat} {t : State} (served : barServed s fn = true)
    (read : readReg fn off size s = (value, t)) :
    exec (.counterLowRead fn off size) s = .next (emit (.regData fn off value) t) := by
  change execCounterLowRead fn off size s = _
  simp [execCounterLowRead, served, read]

section
variable (idle : flrBusy s fn = false) (long : regLong s fn off = some v) (aligned : off % 8 = 0)
include idle long aligned

/-- The low half is read, and the high half latched. -/
theorem readReg_low (bar : inBar fn off = true) : readReg fn off 4 s = (v % 2 ^ 32, { s with regs := { s.regs with
    latch := (regKey fn off, BitVec.ofNat 32 (v / 2 ^ 32)) :: s.regs.latch.filter fun e => e.1 != regKey fn off } }) := by
  have word : off % 4 = 0 := by omega
  simp [readReg, bar, sizeOk, word, idle, readWord, aligned, long]

/-- What is latched is read as the high half, once. -/
theorem readReg_high {l : Nat × BitVec 32} (bar : inBar fn (off + 4) = true)
    (latched : s.regs.latch.find? (fun e => e.1 == regKey fn off) = some l) :
    readReg fn (off + 4) 4 s = (l.2.toNat, { s with regs := { s.regs with
      latch := s.regs.latch.filter fun e => e.1 != regKey fn off } }) := by
  have word : (off + 4) % 4 = 0 := by omega
  have high : (off + 4) % 8 = 4 := by omega
  simp [readReg, bar, sizeOk, word, idle, readWord, high, long, latched]

theorem readReg_long (bar : inBar fn off = true) : readReg fn off 8 s = (v, s) := by
  simp [readReg, bar, sizeOk, aligned, idle, readLongs, readLong, long]

end

/-- No latch of a register is left. -/
theorem find?_filter_ne {α : Type} (l : List (Nat × α)) (key : Nat) :
    (l.filter fun e => e.1 != key).find? (fun e => e.1 == key) = none := by
  rw [List.find?_eq_none]
  intro e mem
  simpa using (List.mem_filter.mp mem).2

/-! ### Writes (R612) -/

theorem exec_registerWrite {size : Nat} (served : barServed s fn = true) (idle : flrBusy s fn = false) :
    exec (.registerWrite fn off size v) s = .next (writeReg fn off size v s) :=
  congrArg Host.Outcome.next (barWrite_of_served served idle)

/-- A whole word outside the doorbells and the mailbox window. -/
theorem writeReg_word (bar : inBar fn off = true) (aligned : off % 4 = 0) (doorbell : inDbl off = false)
    (mailbox : inMbxWindow fn off = false) : writeReg fn off 4 v s = writeWord fn off (BitVec.ofNat 32 v) s := by
  simp [writeReg, bar, sizeOk, aligned, doorbell, mailbox, writeWords]

theorem writeWord_ring {w : BitVec 32} (low : off < 0x100) :
    writeWord fn off w s = writeRing fn (off / 0x40) (off % 0x40) w s := if_pos low

theorem writeWord_attn {w : BitVec 32} :
    writeWord fn 0x2004 w s = updFn fn (fun f => { f with attn := f.attn &&& ~~~(w &&& 0x1FF) }) s :=
  (if_neg (by decide)).trans ((if_neg (by decide)).trans (if_pos rfl))

/-- A word of PF0's module blocks outside PRIO and the mailbox window is written by its offset. -/
theorem writeWord_stsAttn {w : BitVec 32} :
    writeWord 0 0x30004 w s = { s with regs := { s.regs with stsAttn := s.regs.stsAttn &&& ~~~w } } := by
  unfold writeWord
  rw [if_neg (by decide), if_neg (by decide), if_neg (by decide), if_neg (by decide), if_neg (by decide), if_neg (by decide),
    if_neg (by decide), if_neg (by decide)]
  rfl

theorem writeWord_scratchLow {w : BitVec 32} : writeWord 0 0x80008 w s = writeScratch false w s := by
  unfold writeWord
  rw [if_neg (by decide), if_neg (by decide), if_neg (by decide), if_neg (by decide), if_neg (by decide), if_neg (by decide),
    if_neg (by decide), if_neg (by decide)]
  rfl

theorem writeWord_scratchHigh {w : BitVec 32} : writeWord 0 0x8000C w s = writeScratch true w s := by
  unfold writeWord
  rw [if_neg (by decide), if_neg (by decide), if_neg (by decide), if_neg (by decide), if_neg (by decide), if_neg (by decide),
    if_neg (by decide), if_neg (by decide)]
  rfl

theorem inBar_of_lt (low : off < 0x10000) : inBar fn off = true := by
  unfold inBar
  split <;> exact decide_eq_true (by omega)

theorem writeReg_attn : writeReg fn 0x2004 4 v s =
    updFn fn (fun f => { f with attn := f.attn &&& ~~~(BitVec.ofNat 32 v &&& 0x1FF) }) s :=
  (writeReg_word (inBar_of_lt (by decide)) (by decide) (by decide) (by simp [inMbxWindow])).trans writeWord_attn

theorem writeReg_ring {o : Nat} (named : ring < 4) (word : o < 0x40) (aligned : o % 4 = 0) :
    writeReg fn (0x40 * ring + o) 4 v s = writeRing fn ring o (BitVec.ofNat 32 v) s := by
  have page : (0x40 * ring + o) / 0x40 = ring := by omega
  have rest : (0x40 * ring + o) % 0x40 = o := by omega
  rw [writeReg_word (inBar_of_lt (by omega)) (by omega) (by simp [inDbl]; omega) (by simp [inMbxWindow]; omega),
    writeWord_ring (by omega), page, rest]

/-- A field within the low 32 bits is read from the word. -/
theorem bits_word {lo w : Nat} (fits : lo + w ≤ 32) : bits (BitVec.ofNat 32 v).toNat lo w = bits v lo w := by
  rw [BitVec.toNat_ofNat]
  exact bits_mod_word fits

/-- SIZE and VEC of a disabled ring are the fields of the word written; its reserved bits are noted. -/
theorem writeRing_size (disabled : (ringOf s fn ring).regs.enabled = false) :
    writeRing fn ring 0x10 (BitVec.ofNat 32 v) s =
      updRing fn ring (fun r => { r with regs := { r.regs with sizeLog := bits v 0 5, cqSizeLog := bits v 8 5, vec := bits v 16 4 } })
        (noteRsvd fn (0x40 * ring + 0x10) (BitVec.ofNat 32 v &&& 0xFFF0E0E0) s) := by
  have size : bits (BitVec.ofNat 32 v).toNat 0 5 = bits v 0 5 := bits_word (by decide)
  have cqSize : bits (BitVec.ofNat 32 v).toNat 8 5 = bits v 8 5 := bits_word (by decide)
  have vec : bits (BitVec.ofNat 32 v).toNat 16 4 = bits v 16 4 := bits_word (by decide)
  rw [writeRing, if_pos (by decide), disabled, if_neg (by decide), ← size, ← cqSize, ← vec]
  rfl

theorem writeRing_enabled {o : Nat} (enabled : (ringOf s fn ring).regs.enabled = true) (parameter : o ≤ 0x14) {w : BitVec 32} :
    writeRing fn ring o w s = s := by
  rw [writeRing, if_pos parameter, enabled, if_pos rfl]

/-- The halves of a 64-bit value. -/
theorem halves_of_lt (fits : v < 2 ^ 64) (old : Nat) :
    (old / 2 ^ 32 * 2 ^ 32 + v % 2 ^ 32) % 2 ^ 64 % 2 ^ 32 + v / 2 ^ 32 % 2 ^ 32 * 2 ^ 32 = v := by omega

/-- Both words of SCRATCH. -/
theorem writeReg_scratch (fits : v < 2 ^ 64) :
    writeReg 0 0x80008 8 v s = { s with regs := { s.regs with dbgScratch := BitVec.ofNat 64 v } } := by
  have words : writeReg 0 0x80008 8 v s =
      writeScratch true (BitVec.ofNat 32 (v / 2 ^ 32)) (writeScratch false (BitVec.ofNat 32 v) s) := by
    have mailbox : inMbxWindow 0 0x80008 = false := by decide
    rw [← writeWord_scratchLow, ← writeWord_scratchHigh, writeReg, if_neg (by decide), if_neg (by decide), mailbox,
      Bool.false_and, if_neg (by decide), if_neg (by decide), if_neg (by decide), writeWords, writeWords, writeWords]
  rw [words]
  simp only [writeScratch, if_true, Bool.false_eq_true, if_false, BitVec.toNat_ofNat, halves_of_lt fits]

/-! ### Enable registers (R618) -/

theorem raiseVector_regs {w : Nat} : (raiseVector fn w s).regs = s.regs := raiseVector_touches fn w s .regs (by decide)

theorem raiseVector_sent {w : Nat} (unmasked : (Tab.get Vector.reset s.rings.vec (8 * fn + w)).masked = false) :
    Sent (.msix fn w) s (raiseVector fn w s) := by
  simp [raiseVector, unmasked, Sent, emit]

/-- Enabling raises a vector, which changes the rings' vectors and the outputs alone. -/
theorem writeStsEn_left {w : BitVec 32} : (writeStsEn w s).regs = { s.regs with stsAttnEn := w &&& 0x1F } ∧
    ((s.regs.stsAttn &&& (w &&& 0x1F) &&& ~~~s.regs.stsAttnEn) ≠ 0 →
      (Tab.get Vector.reset s.rings.vec 5).masked = false → Sent (.msix 0 5) s (writeStsEn w s)) := by
  rw [writeStsEn]
  split
  next raises => exact ⟨raiseVector_regs, fun _ unmasked =>
    raiseVector_sent (s := { s with regs := { s.regs with stsAttnEn := w &&& 0x1F } }) unmasked⟩
  next quiet => exact ⟨rfl, fun raises => absurd (bne_iff_ne.mpr raises) quiet⟩

theorem writeEvtEn_regs {w : BitVec 32} : (writeEvtEn w s).regs =
    { s.regs with evtSevMin := bits w.toNat 0 3, evtEn := w.getLsbD 3 } := by
  rw [writeEvtEn]
  split
  · exact raiseVector_regs
  · rfl

theorem writePwrEn_regs {w : BitVec 32} : (writePwrEn w s).regs = { s.regs with pwrAttnEn := w &&& 0x1F } := by
  rw [writePwrEn]
  split
  · exact raiseVector_regs
  · rfl

theorem writeFattnEn_left {w : BitVec 32} : let f := fun (g : Fn) => { g with attnEn := w &&& 0x1FF, fvec := bits w.toNat 16 4 }
    (writeFattnEn fn w s).rings.fn = (updFn fn f s).rings.fn ∧ (writeFattnEn fn w s).rings.ring = s.rings.ring ∧
    Touches [.rings, .out] s (writeFattnEn fn w s) := by
  unfold writeFattnEn
  dsimp only
  split
  · exact ⟨raiseVector_fn, raiseVector_table, (raiseVector_touches _ _ _).after rfl ((updFn_touches _ _ _).mono rfl)⟩
  · exact ⟨rfl, rfl, (updFn_touches _ _ _).mono rfl⟩

end

/-- Settles O24, by the branch of the register that each access names. -/
theorem registerAccess : Obligations.RegisterAccess := by
  refine ⟨fun fn off v s served idle bar aligned long => ?low, fun fn off v l s served idle bar aligned long latched => ?high,
    fun fn off v s served idle bar aligned long => ?whole, fun fn off n s shut => ?shutRead, fun fn off n v s shut => ?shutWrite,
    fun v s served idle => ?stsAttn, fun fn v s served idle wf => ?attn, fun v s served idle fits => ?scratch,
    fun fn ring v s served idle named wf disabled => ?size, fun fn ring v s served idle named enabled => ?enabled,
    fun v s served idle => ?stsEn, fun v s served idle => ?evtEn, fun v s served idle => ?pwrEn,
    fun fn v s served idle wf => ?fattnEn⟩
  case low =>
    exact ⟨_, exec_counterLowRead_served served (readReg_low idle long aligned bar), ⟨rfl, List.find?_cons_of_pos (beq_self_eq_true _)⟩,
      upd_out rfl (upd_regs rfl (.refl _ _))⟩
  case high =>
    exact ⟨_, exec_counterLowRead_served served (readReg_high idle long aligned bar latched), ⟨rfl, find?_filter_ne _ _⟩,
      upd_out rfl (upd_regs rfl (.refl _ _))⟩
  case whole =>
    exact ⟨_, exec_counterLowRead_served served (readReg_long idle long aligned bar), rfl, upd_out rfl (.refl _ _)⟩
  case shutRead =>
    exact ⟨_, if_pos (by simp [shut]), rfl, upd_out rfl (.refl _ _)⟩
  case shutWrite =>
    exact ⟨_, congrArg Host.Outcome.next (if_pos (by simp [shut])), rfl, upd_out rfl (.refl _ _)⟩
  case stsAttn =>
    have write : writeReg 0 0x30004 4 v s = writeWord 0 0x30004 (BitVec.ofNat 32 v) s :=
      writeReg_word (by decide) (by decide) (by decide) (by decide)
    exact ⟨_, (exec_registerWrite served idle).trans (congrArg _ (write.trans writeWord_stsAttn)), rfl, upd_regs rfl (.refl _ _)⟩
  case attn =>
    obtain ⟨-, fns, -, -⟩ := wf
    exact ⟨_, (exec_registerWrite served idle).trans (congrArg _ writeReg_attn),
      ⟨congrArg Fn.attn (fnOf_updFn _ _ _ fns), rfl⟩, (updFn_touches _ _ _).mono rfl⟩
  case scratch =>
    exact ⟨_, (exec_registerWrite served idle).trans (congrArg _ (writeReg_scratch fits)), rfl, upd_regs rfl (.refl _ _)⟩
  case size =>
    obtain ⟨rings, -, -, -⟩ := wf
    refine ⟨_, (exec_registerWrite served idle).trans (congrArg _ ((writeReg_ring named (by decide) (by decide)).trans
      (writeRing_size disabled))), ⟨?_, ?_⟩, ?_⟩
    · exact congrArg Ring.regs (ringOf_updRing _ _ _ _ rings)
    · exact onlyRing_updRing (s := noteRsvd fn (0x40 * ring + 0x10) (BitVec.ofNat 32 v &&& 0xFFF0E0E0) s)
    · exact (updRing_touches _ _ _ _).after rfl (upd_regs rfl (.refl _ _))
  case enabled =>
    exact ⟨_, (exec_registerWrite served idle).trans (congrArg _ ((writeReg_ring named (by decide) (by decide)).trans
      (writeRing_enabled enabled (by decide)))), rfl, .refl _ _⟩
  case stsEn =>
    exact .of_next (congrArg Host.Outcome.next (barWrite_of_served served idle))
      ((execAttentionEnableWrite_touches 0 1 v s).after rfl (.refl _ _)) writeStsEn_left
  case evtEn =>
    exact .of_next (congrArg Host.Outcome.next (barWrite_of_served served idle))
      ((execAttentionEnableWrite_touches 0 2 v s).after rfl (.refl _ _)) writeEvtEn_regs
  case pwrEn =>
    exact .of_next (congrArg Host.Outcome.next (barWrite_of_served served idle))
      ((execAttentionEnableWrite_touches 0 3 v s).after rfl (.refl _ _)) writePwrEn_regs
  case fattnEn =>
    obtain ⟨-, fns, -, -⟩ := wf
    obtain ⟨table, rings, touches⟩ := writeFattnEn_left (fn := fn) (w := v) (s := s)
    have reads : fnOf (writeFattnEn fn v s) fn =
        { fnOf s fn with attnEn := v &&& 0x1FF, fvec := bits v.toNat 16 4 } :=
      (congrArg (fun m => Tab.get Fn.reset m fn) table).trans (fnOf_updFn _ _ _ fns)
    exact ⟨_, congrArg Host.Outcome.next (barWrite_of_served served idle),
      ⟨congrArg Fn.attnEn reads, congrArg Fn.fvec reads, (congrArg Fn.attn reads :), rings⟩, touches⟩

end Sys2Proof.Machine
end

section
/-! LATTICE_WINDOW_PRESENT at a port whose compressor is listed twice (R479, R481): a state that the premises of the statement
allow. -/

namespace Sys2Proof.Machine
open Sys2Proof.Tests

/-- What a next state shows. -/
def leaves (p : State → Bool) (o : Host.Outcome State Fault Refusal) : Bool := match o with
  | .next t => p t
  | _ => false

theorem leaves_of_run {c : Instr} {s t : State} {p : State → Bool} (shown : leaves p (exec c s) = true)
    (run : exec c s = .next t) : p t = true := by
  rw [run] at shown
  exact shown

/-- A window waits at port 0, and the port's compressor, in its fault, is listed twice, a table that no run reaches. -/
def doubledComp : State :=
  { wLatIn with comp := [(1, { Comp.reset with fault := true }), (1, { Comp.reset with fault := true })] }

theorem doubledComp_shown :
    (latRecord doubledComp 0 0 1 = some latIn ∧ beatTick latIn 2 < 4096 ∧
      frameOffset doubledComp ≤ beatTick latIn 2 ∧
      2 + 1 = denseBeats (compOf (advance (beatTick latIn 2 - frameOffset doubledComp) doubledComp) latIn.port 1).desc
        (latIn.beatsM1 + 1) ∧
      incomingWin (advance (beatTick latIn 2 - frameOffset doubledComp) doubledComp) latIn = some storedOne) ∧
    leaves (fun t => (compOf t 0 1).fault) (exec (.latticeWindowPresent 0 0 2) doubledComp) = true := by
  decide +kernel

/-- Refutes O18: the clause about the last beat of a window says that the compressor's fault is over, without UnitWf. In
`doubledComp` the compressor goes back to its reset state and uncovers the second entry of the table. -/
theorem not_latticeWindows : ¬ Obligations.LatticeWindows := by
  unfold Obligations.LatticeWindows
  rintro ⟨-, -, -, -, -, last⟩
  obtain ⟨⟨served, inFrame, notPast, whole, waits⟩, fault⟩ := doubledComp_shown
  obtain ⟨t, run, ⟨-, clear, -⟩, -⟩ := last 0 0 2 latIn storedOne doubledComp served inFrame notPast (by decide) whole waits
  have faulty : (compOf t 0 1).fault = true := leaves_of_run fault run
  exact absurd (faulty.symm.trans clear) (by decide)

end Sys2Proof.Machine
end

section
/-! REBUILD_STEP in a region under parity (R443): a state that the premises of the statement allow. -/

namespace Sys2Proof.Machine
open Sys2Proof.Tests

/-- This module, the new member 0 of a region under parity, rebuilds its part. -/
def parityRebuild : State :=
  wWith { pRegion with prot := 2, members := [0, 1, 2, 3, 4, 5, 6, 7, 8], state := 4, lost := some 0, rate := 4 } 2

/-- The stripe is locked first, in the phase of its own. -/
theorem parityRebuild_shown :
    ((regionOf parityRebuild 0).lost = some 0 ∧
      rebuildDue parityRebuild 0 (regionOf parityRebuild 0) 0 = true ∧
      ((piecesOf (regionOf parityRebuild 0) 0 true).any fun j =>
        absent parityRebuild (regionOf parityRebuild 0) j (regionOf parityRebuild 0).cursor) = false) ∧
    leaves (fun t => !(t.pool.accs.any fun a =>
      a.id == parityRebuild.pool.nextId && a.for_ == PoolFor.rebuild 0 && a.phase == 4 &&
        a.off == (regionOf parityRebuild 0).cursor && a.left == (piecesOf (regionOf parityRebuild 0) 0 true).length))
    (exec (.rebuildStep 0) parityRebuild) = true := by
  decide +kernel

/-- Refutes O42: REBUILD_STEP's clause says that the pieces of the line at the cursor are gathered, in any region. In
`parityRebuild` a data member of a region under parity asks the data members to lock the stripe first, and gathers after it. -/
theorem not_regionCommands : ¬ Obligations.RegionCommands := by
  unfold Obligations.RegionCommands
  rintro ⟨-, -, -, -, -, -, -, -, -, -, -, -, -, -, -, gathers, -⟩
  obtain ⟨⟨lost, due, present⟩, locked⟩ := parityRebuild_shown
  obtain ⟨t, run, ⟨-, -, -, gathered⟩, -⟩ := gathers 0 0 parityRebuild lost due present
  have locks := leaves_of_run locked run
  rw [gathered] at locks
  exact absurd locks (by decide)

end Sys2Proof.Machine
end

section
/-! CXL_MEM_WRITE to a line at which another module's rebuild stands (R430, R443): a state that the premises of the statement
allow. -/

namespace Sys2Proof.Machine
open Sys2Proof.Tests

/-- An unprotected region that is marked as being rebuilt, its stripe at offset 128 locked; no run reaches it. -/
def lockedLine : State := wWith { pRegion with state := 4, cursor := 128, locked := true } 0

/-- The write waits for the rebuild, and no access of the pool waits at the pseudo-channel. -/
theorem lockedLine_shown :
    (poolPortUp lockedLine = true ∧ hostDenied lockedLine 9 0 true = false ∧
      beyondRegion lockedLine 0 130 = false ∧ HereAt 0 (130 / 64 * 64) (unitLine 0 5 128) lockedLine ∧
      NotRebuilt 0 (130 / 64 * 64) lockedLine) ∧
    leaves (fun t => (pcOf t (unitLine 0 5 128 / pcLines)).queue.isEmpty)
    (exec (.cxlMemWrite 9 0 (some 0) 130 7 false) lockedLine) = true := by
  decide +kernel

/-- Refutes O43: the clause about a write to a line that lies here says that it is queued at its pseudo-channel, and does not
ask that the stripe is unlocked. In `lockedLine` the write waits. -/
theorem not_hostRequests : ¬ Obligations.HostRequests := by
  unfold Obligations.HostRequests
  rintro ⟨-, -, -, -, -, -, -, -, -, queues, -⟩
  obtain ⟨⟨up, admitted, within, here, free⟩, empty⟩ := lockedLine_shown
  obtain ⟨t, run, ⟨⟨queued, -⟩, -⟩, -⟩ := queues 9 0 0 130 (unitLine 0 5 128) 7 false lockedLine up admitted within here free
  have waits := leaves_of_run empty run
  rw [queued] at waits
  simp at waits

end Sys2Proof.Machine
end

section
/-! FILL of a line at which another module's rebuild stands (R430, R436, R443): a state that the premises of the statement
allow. -/

namespace Sys2Proof.Machine
open Sys2Proof.Tests

/-- A FILL of the first line of region 0. -/
def lockedFill : PoolCmd := wCmd (1 + 64 * 2 ^ 192 + 0xABCD * 2 ^ 352)

/-- The FILL in an unprotected region that is marked as being rebuilt, its first stripe locked; no run reaches it. -/
def lockedFillLine : State :=
  let s := wWith { pRegion with state := 4, locked := true } 0
  { s with pool := { s.pool with cmds := [lockedFill] } }

/-- The write waits for the rebuild, and no access of the pool waits at the pseudo-channel. -/
theorem lockedFillLine_shown :
    (cmdOf lockedFillLine 4 = some lockedFill ∧ lockedFill.ran = false ∧
      fenceOk lockedFillLine lockedFill = true ∧ pcOp lockedFill.cmd = 1 ∧ pcLen lockedFill.cmd = 64 ∧
      HereAt (pcDreg lockedFill.cmd) (pcDoff lockedFill.cmd) (unitLine 0 5 0) lockedFillLine ∧
      NotRebuilt (pcDreg lockedFill.cmd) (pcDoff lockedFill.cmd) lockedFillLine) ∧
    leaves (fun t => (pcOf t (unitLine 0 5 0 / pcLines)).queue.isEmpty)
    (exec (.fill 4 []) lockedFillLine) = true := by
  decide +kernel

/-- Refutes O44: FILL's clause says that its line is queued at the pseudo-channel, and does not ask that the stripe is unlocked.
In `lockedFillLine` the write waits. -/
theorem not_poolCommands : ¬ Obligations.PoolCommands := by
  unfold Obligations.PoolCommands
  rintro ⟨fills, -⟩
  obtain ⟨⟨waiting, idle, fence, op, len, here, free⟩, empty⟩ := lockedFillLine_shown
  obtain ⟨t, run, ⟨⟨queued, -⟩, -⟩, -⟩ := fills 4 lockedFill (unitLine 0 5 0) lockedFillLine waiting idle fence op len here free
  have waits := leaves_of_run empty run
  rw [queued] at waits
  simp at waits

end Sys2Proof.Machine
end

section
/-! UREQ_REBUILD of a line that is being written (R430, R443): a state that the premises of the statement allow. -/

namespace Sys2Proof.Machine
open Sys2Proof.Tests

/-- A host's write of the line at offset 128 is under way at the parity member of region 0. -/
def writtenLine : State :=
  { wPoolParity with pool := { wPoolParity.pool with
    accs := [⟨4, .cxl 9 0, 0, 8, 128, true, 7, false, 0, 0, false, 0, 1⟩] } }

/-- The read waits for the write, and nothing waits at the pseudo-channel. -/
theorem writtenLine_shown :
    (InOrder (wFl 2) writtenLine ∧ NewReq (wFl 2) (wUn 1 []) writtenLine ∧
      myMember writtenLine (regionOf writtenLine (wUn 1 []).region) = some 8 ∧
      (regionOf writtenLine (wUn 1 []).region).missing = false ∧
      placeOf (regionOf writtenLine (wUn 1 []).region) (wUn 1 []).off = some (.hbm (unitLine 0 5 128)) ∧
      (wUn 1 []).off + 64 ≤ (regionOf writtenLine (wUn 1 []).region).extents.length * giB ∧ (wUn 1 []).nl = 1) ∧
    leaves (fun t => (pcOf t (unitLine 0 5 128 / pcLines)).queue.isEmpty)
    (exec (.ureqRebuild (wFl 2) (wUn 1 [])) writtenLine) = true := by
  decide +kernel

/-- Refutes O45: UREQ_REBUILD's clause says that its line is queued at the pseudo-channel, whatever is under way on it. In
`writtenLine` a write of the line is, and the read waits for its end. -/
theorem not_moduleRequests : ¬ Obligations.ModuleRequests := by
  unfold Obligations.ModuleRequests
  rintro ⟨-, -, -, -, -, rebuilds, -⟩
  obtain ⟨⟨inOrder, new, member, served, place, within, single⟩, empty⟩ := writtenLine_shown
  obtain ⟨t, run, ⟨⟨queued, -⟩, -⟩, -⟩ :=
    rebuilds (wFl 2) (wUn 1 []) (unitLine 0 5 128) 8 writtenLine inOrder new member served place within single
  have waits := leaves_of_run empty run
  rw [queued] at waits
  simp at waits

end Sys2Proof.Machine
end

section
/-! PORT_TRAINING_DONE of a port that trains again with the lanes it had (R457, R468): a state that the premises of the statement
allow. -/

namespace Sys2Proof.Machine
open Sys2Proof.Tests

/-- Port 2 trains again after a mismatch, with the four lanes that it had kept. -/
def narrowAgain : State := wPorts { LPort.reset with state := 1, lanes := 0x0F, fresh := false } 0

/-- The lanes that the port had lost stay out of use. -/
theorem narrowAgain_shown :
    ((latPort narrowAgain 2).state = 1 ∧ widthOf 0xFF ≠ 0 ∧
      Tab.wf LPort.reset narrowAgain.lat.port = true) ∧
    leaves (fun t => (latPort t 2).width == 4) (exec (.portTrainingDone 2 0xFF 0) narrowAgain) = true := by
  decide +kernel

/-- Refutes O46: the clause about the end of a training says that every good lane is used, and does not ask that the training
is a fresh one. In `narrowAgain` the port uses those among them that it had kept. -/
theorem not_linkStates : ¬ Obligations.LinkStates := by
  unfold Obligations.LinkStates
  rintro ⟨trained, -⟩
  obtain ⟨⟨training, wide, wf⟩, four⟩ := narrowAgain_shown
  obtain ⟨t, run, ⟨port, -⟩, -⟩ := trained 2 0 0xFF narrowAgain training wide wf
  have narrow := leaves_of_run four run
  rw [port] at narrow
  exact absurd narrow (by decide)

end Sys2Proof.Machine
end

section
/-! Flits whose codewords needed correction (R455, R492): their corrected symbols count on the port, in states that the premises
of the statements on flits, fabric messages and barriers allow. -/

namespace Sys2Proof.Machine
open Sys2Proof.Tests

/-- A flit on port 2 with three corrected symbols. -/
def correctedFlit : FlitHdr := { wFl 2 with corrected := 3 }

/-! ### An IDLE flit -/

theorem idleFlit_shown :
    (portUp wUnacked correctedFlit.port = true ∧ injectHits wUnacked 5 correctedFlit.port = false ∧
      correctedFlit.ackv = false ∧ Tab.wf LPort.reset wUnacked.lat.port = true) ∧
    leaves (fun t => (counter t 0x0406 2).toNat == 3) (exec (.idleFlit correctedFlit) wUnacked) = true ∧
    ((counter wUnacked 0x0406 2).toNat == 3) = false := by
  decide +kernel

/-- Refutes O47: IDLE_FLIT's clauses name no counter as changed, of any flit. The corrected symbols of `correctedFlit` count. -/
theorem not_linkFlits : ¬ Obligations.LinkFlits := by
  unfold Obligations.LinkFlits
  rintro ⟨-, idles, -⟩
  obtain ⟨⟨up, clean, unacknowledged, wf⟩, counts, uncounted⟩ := idleFlit_shown
  obtain ⟨t, run, -, frame⟩ := idles correctedFlit wUnacked up clean unacknowledged wf
  have counted := leaves_of_run counts run
  have same : t.counters = wUnacked.counters := frame .counters (by decide)
  rw [counter, same] at counted
  exact absurd (counted.symm.trans uncounted) (by decide)

/-! ### A flood that is known -/

theorem knownFlood_shown :
    (CtrlIn (some correctedFlit) 2 wFlooded ∧ floodNew wFlooded 7 = false) ∧
    leaves (fun t => (counter t 0x0406 2).toNat == 3) (exec (.linkFail (some correctedFlit) 2 7) wFlooded) = true ∧
    ((counter (ctrlTaken (some correctedFlit) 2 wFlooded) 0x0406 2).toNat == 3) = false := by
  decide +kernel

/-- Refutes O48: the clause about a known flood says that the flit is taken and nothing else changes, of any flit. The
corrected symbols of `correctedFlit` count. -/
theorem not_fabricMessages : ¬ Obligations.FabricMessages := by
  unfold Obligations.FabricMessages
  rintro ⟨-, -, known, -⟩
  obtain ⟨⟨arrives, old⟩, counts, uncounted⟩ := knownFlood_shown
  obtain ⟨t, run, same, -⟩ := known (some correctedFlit) 2 7 wFlooded arrives old
  have counted := leaves_of_run counts run
  rw [same] at counted
  exact absurd (counted.symm.trans uncounted) (by decide)

/-! ### An ARRIVE of another group -/

theorem strangeArrive_shown :
    (CtrlIn (some correctedFlit) 2 wGroup ∧ (bits 0 18 8 ≠ wGroup.lat.cfg.group ∨ wGroup.lat.standing = .out)) ∧
    leaves (fun t => (counter t 0x0406 2).toNat == 3) (exec (.arrive (some correctedFlit) 2 0) wGroup) = true ∧
    ((counter (ctrlTaken (some correctedFlit) 2 wGroup) 0x0406 2).toNat == 3) = false := by
  decide +kernel

/-- Refutes O49: the clause about an ARRIVE of another group says that the flit is taken and nothing else changes, of any flit.
The corrected symbols of `correctedFlit` count. -/
theorem not_barrierCommands : ¬ Obligations.BarrierCommands := by
  unfold Obligations.BarrierCommands
  rintro ⟨-, -, -, -, strange, -⟩
  obtain ⟨⟨arrives, other⟩, counts, uncounted⟩ := strangeArrive_shown
  obtain ⟨t, run, same, -⟩ := strange (some correctedFlit) 2 0 wGroup arrives other
  have counted := leaves_of_run counts run
  rw [same] at counted
  exact absurd (counted.symm.trans uncounted) (by decide)

end Sys2Proof.Machine
end

section
/-! A sensor that fails its range check while PM firmware's endpoint holds an EVENT back (R162, R520): a state that the
premises of the statement allow. -/

namespace Sys2Proof.Machine
open Sys2Proof.Tests

/-- An EVENT of PM firmware waits behind its full injection queue. -/
def mutedPm : State :=
  { wReady with ctl := { wReady.ctl with heldEvent := [(pmEndpoint, some ⟨0, 0, 0, none, pmEndpoint, 0⟩)] } }

theorem mutedPm_shown :
    (mutedPm.boot.pm ≠ .off ∧ injectHits mutedPm 7 5 = false ∧
      Tab.wf Sensor.reset mutedPm.pm.sensors = true) ∧
    leaves (fun t => (counter t 0x0702 pmEndpoint).toNat == 1) (exec (.sensorSample 5 0x8000) mutedPm) = true ∧
    ((counter mutedPm 0x0702 pmEndpoint).toNat == 1) = false := by
  decide +kernel

/-- Refutes O51: SENSOR_SAMPLE's clause names no counter as changed, whatever PM firmware's endpoint holds back. In `mutedPm` the
EVENT of the sensor's exclusion comes behind a held one, and the count of lost EVENT packets rises. -/
theorem not_sensorsIdleAndQueries : ¬ Obligations.SensorsIdleAndQueries := by
  unfold Obligations.SensorsIdleAndQueries
  rintro ⟨samples, -⟩
  obtain ⟨⟨powered, plain, wf⟩, counts, uncounted⟩ := mutedPm_shown
  obtain ⟨t, run, -, frame⟩ := samples 5 0x8000 mutedPm (by decide) powered plain wf
  have counted := leaves_of_run counts run
  have same : t.counters = mutedPm.counters := frame .counters (by decide)
  rw [counter, same] at counted
  exact absurd (counted.symm.trans uncounted) (by decide)

end Sys2Proof.Machine
end

section
/-! The control loop and the brake (file 16): what each stage of a control period leaves, and the obligation on PM firmware's
commands. The stages are the model's measure, rampFalls, noteShort, ownSetting and applyOwn. -/

namespace Sys2Proof.Machine
variable {s t : State} {m : PowerIn}

/-! ### Counters that a stage leaves alone -/

/-- The counter reads the same in both states. -/
def SameCounter (id idx : Nat) (s t : State) : Prop := counter t id idx = counter s id idx

theorem Touches.sameCounter {bs : List Block} {id idx : Nat} (h : Touches bs s t) (keeps : Block.counters ∉ bs) :
    SameCounter id idx s t := by
  have counters : t.counters = s.counters := h .counters keeps
  rw [SameCounter, counter, counters, counter]

theorem counter_countBy_of_same {id idx n : Nat} (same : t.counters = s.counters) (wf : Tab.wf 0 s.counters = true) :
    counter (countBy id idx n t) id idx = counterAdd id (counter s id idx) n := by
  rw [counter_countBy _ _ _ _ (same ▸ wf), counter, same, counter]

theorem sendEvent_counter {p : FaultPkt} {id idx : Nat} (ne : counterKey id idx ≠ counterKey 0x0702 p.src) :
    SameCounter id idx s (sendEvent p s) := by
  unfold sendEvent
  dsimp only
  split
  · exact counter_countBy_ne _ _ _ _ ne
  · split <;> rfl

theorem noteAttention_counter {b : Nat} {p : FaultPkt} {id idx : Nat} (ne : counterKey id idx ≠ counterKey 0x0702 p.src) :
    SameCounter id idx s (pwrAttention b (sendEvent p s)) :=
  ((pwrAttention_touches b _).sameCounter (by decide)).trans (sendEvent_counter ne)

theorem foldl_counter {α : Type} {id idx : Nat} {f : State → α → State} (each : ∀ u a, SameCounter id idx u (f u a))
    (l : List α) : SameCounter id idx s (l.foldl f s) := by
  induction l generalizing s with
  | nil => rfl
  | cons a l ih => exact Eq.trans ih (each s a)

theorem logEntry_counter {reason sev unit detail src : Nat} {repl : Bool} {id idx : Nat}
    (ne : counterKey id idx ≠ counterKey 0x0706 0) : SameCounter id idx s (logEntry reason sev unit detail src repl s) := by
  have attention (e : LogEntry) : SameCounter id idx s (evtAttention sev { s with logs := appendEntry e s.logs }) :=
    (evtAttention_touches sev { s with logs := appendEntry e s.logs }).sameCounter (by decide)
  unfold logEntry logExt
  dsimp only
  refine (Touches.sameCounter (touches_ite ((mpPersist_touches _ _ _).mono rfl) (.refl [.logs] _)) (by decide)).trans ?_
  split
  · split
    · exact (counter_countBy_ne _ _ _ _ ne).trans (attention _)
    · exact attention _
  · exact attention _

theorem evaluateRequests_counter {id idx : Nat} (ne : counterKey id idx ≠ counterKey 0x0706 0) :
    SameCounter id idx s (evaluateRequests s) := by
  have each (u : State) (e : Nat × Nat) : SameCounter id idx u (if isRequested u e then u else raiseRequest e.1 e.2 u) := by
    split
    · rfl
    · exact ((notify_touches _ _ _ _).sameCounter (by decide)).trans (logEntry_counter ne)
  unfold evaluateRequests
  split
  · exact foldl_counter each _
  · rfl

theorem noteExcursions_counter {id idx : Nat} (ne : counterKey id idx ≠ counterKey 0x0702 pmEndpoint) :
    SameCounter id idx s (noteExcursions s) :=
  foldl_counter (f := fun t k => pwrAttention 4 (sendEvent ⟨0x1004, 0, sensorUnit k, none, pmEndpoint, 0⟩ t))
    (fun _ _ => noteAttention_counter ne) _

theorem noteShort_counter {id idx : Nat} (ne : counterKey id idx ≠ counterKey 0x0702 pmEndpoint) :
    SameCounter id idx s (noteShort m s) := by
  have capNote : SameCounter id idx s (if decide (10 * capForce s < m.pMin) && !s.pm.capShort then
      pwrAttention 1 (sendEvent ⟨0x1005, 0, 0, none, pmEndpoint, 0⟩ s) else s) := by
    split
    · exact noteAttention_counter ne
    · rfl
  unfold noteShort
  dsimp only
  refine Eq.trans ?_ capNote
  split
  · exact noteAttention_counter ne
  · rfl


/-! ### Power management's block along a control period -/

theorem Touches.pm_eq {bs : List Block} (h : Touches bs s t) (keeps : Block.pm ∉ bs) : t.pm = s.pm := h .pm keeps

theorem noteAttention_pm {b : Nat} {p : FaultPkt} : (pwrAttention b (sendEvent p s)).pm = s.pm :=
  ((pwrAttention_touches b _).pm_eq (by decide)).trans ((sendEvent_touches p s).pm_eq (by decide))

theorem foldl_pm {α : Type} {f : State → α → State} (each : ∀ u a, (f u a).pm = u.pm) (l : List α) :
    (l.foldl f s).pm = s.pm := by
  induction l generalizing s with
  | nil => rfl
  | cons a l ih => exact Eq.trans ih (each s a)

theorem noteExcursions_pm : (noteExcursions s).pm = { s.pm with excursions := hotSensors s } := by
  unfold noteExcursions
  dsimp only
  rw [foldl_pm fun _ _ => noteAttention_pm]

/-- What the PM has measured, before it notes the sensors above 105 °C (R523, R527 to R529). -/
def measured (m : PowerIn) (s : State) : State :=
  let s1 := if 1648 < (tCtl s).getD 0 ∧ s.pm.tctl ≤ 1648 then pwrAttention 3 s else s
  countBy 0x0601 0 m.energy { s1 with pm := { s1.pm with
    p10us := m.p10us, p1ms := m.p1ms, p5ms := m.p5ms, pMin := m.pMin, tctl := (tCtl s).getD 0, noPlausible := nonePlausible s } }

theorem measure_eq : measure m s =
    if nonePlausible s ≠ s.pm.noPlausible then evaluateRequests (noteExcursions (measured m s))
    else noteExcursions (measured m s) := rfl

theorem heatAttention_touches : Touches [.rings, .regs, .out] s
    (if 1648 < (tCtl s).getD 0 ∧ s.pm.tctl ≤ 1648 then pwrAttention 3 s else s) :=
  touches_ite (pwrAttention_touches 3 s) (.refl _ s)

theorem measured_pm : (measured m s).pm = { s.pm with
    p10us := m.p10us, p1ms := m.p1ms, p5ms := m.p5ms, pMin := m.pMin, tctl := (tCtl s).getD 0, noPlausible := nonePlausible s } := by
  unfold measured
  dsimp only
  rw [(countBy_touches _ _ _ _).pm_eq (by decide), heatAttention_touches.pm_eq (by decide)]

theorem measured_energy (wf : Tab.wf 0 s.counters = true) :
    counter (measured m s) 0x0601 0 = counterAdd 0x0601 (counter s 0x0601 0) m.energy :=
  counter_countBy_of_same (heatAttention_touches .counters (by decide)) wf

theorem measure_pm : (measure m s).pm = { s.pm with
    p10us := m.p10us, p1ms := m.p1ms, p5ms := m.p5ms, pMin := m.pMin, tctl := (tCtl s).getD 0, noPlausible := nonePlausible s
    excursions := hotSensors (measured m s) } := by
  have noted : (noteExcursions (measured m s)).pm = _ := noteExcursions_pm.trans (by rw [measured_pm])
  rw [measure_eq, ← noted]
  exact (touches_ite ((evaluateRequests_touches _).mono rfl) (.refl [.rings, .regs, .logs, .counters, .out] _)).pm_eq
    (by decide)

theorem measure_energy (wf : Tab.wf 0 s.counters = true) :
    counter (measure m s) 0x0601 0 = counterAdd 0x0601 (counter s 0x0601 0) m.energy := by
  have noted := (noteExcursions_counter (s := measured m s) (id := 0x0601) (idx := 0) (by decide)).trans (measured_energy wf)
  rw [measure_eq]
  split
  · exact (evaluateRequests_counter (by decide)).trans noted
  · exact noted

theorem rampFalls_pm : (rampFalls s).pm = { s.pm with qRamp := (rampFalls s).pm.qRamp } := by
  unfold rampFalls
  dsimp only
  split <;> rfl

theorem noteAttention_if_pm {c : Bool} {b : Nat} {p : FaultPkt} :
    (if c = true then pwrAttention b (sendEvent p s) else s).pm = s.pm := by
  split
  · exact noteAttention_pm
  · rfl

theorem noteShort_pm : (noteShort m s).pm = { s.pm with
    capShort := decide (10 * capForce s < m.pMin), brakeShort := s.pm.braked && decide (5 * s.pm.cap < m.pMin) } := by
  unfold noteShort
  dsimp only
  rw [noteAttention_if_pm, noteAttention_if_pm]

/-- The cap in force follows the set cap, the changes still ahead, the wall time and UNVETTED (R531). -/
theorem capForce_congr (cap : t.pm.cap = s.pm.cap) (caps : t.pm.capChanges = s.pm.capChanges)
    (vets : t.pm.vetChanges = s.pm.vetChanges) (clk : t.clk = s.clk) (fw : t.fw = s.fw) : capForce t = capForce s := by
  unfold capForce unvettedEffective capEffective
  rw [cap, caps, vets, clk, fw]

/-- The own setting and the brake register that follow from what has been noted (R525, R533). -/
def ruled (m : PowerIn) (s : State) : State :=
  let s1 := ownSetting m s
  { s1 with pm := { s1.pm with brakeReg := brakeSetting s1 m, rose := false } }

theorem ruled_keeps : (ruled m s).pm.tctl = s.pm.tctl ∧ (ruled m s).pm.p10us = s.pm.p10us ∧
    (ruled m s).pm.p1ms = s.pm.p1ms ∧ (ruled m s).pm.p5ms = s.pm.p5ms ∧ (ruled m s).pm.pMin = s.pm.pMin ∧
    (ruled m s).pm.capShort = s.pm.capShort ∧ (ruled m s).pm.qTh = s.pm.qTh ∧ (ruled m s).pm.braked = s.pm.braked :=
  ⟨rfl, rfl, rfl, rfl, rfl, rfl, rfl, rfl⟩

/-- Rule 3 of R523 and R529: the slowest setting while the cap is short, no sensor is plausible or T_ctl exceeds 103 °C. -/
theorem ruled_own_slowest (cause : s.pm.capShort = true ∨ s.pm.noPlausible = true ∨ 1648 < s.pm.tctl) :
    (ruled m s).pm.own = slowest :=
  if_pos (by simpa [or_assoc] using cause)

/-- The state in which PM firmware brings its own setting into force. -/
def judged (m : PowerIn) (s : State) : State := ruled m (noteShort m (rampFalls (measure m s)))

theorem execPmControlPeriod_judged (runs : pmRuns s = true) :
    execPmControlPeriod m s = .next (wakeTolerance (applyOwn m (judged m s))) := by
  unfold execPmControlPeriod judged ruled
  rw [runs]
  rfl

theorem fallen_touches : Touches [.ctl, .rings, .regs, .logs, .pm, .counters, .out] s (rampFalls (measure m s)) :=
  ((rampFalls_touches _).mono rfl).before (measure_touches m s)

theorem judged_touches : Touches [.ctl, .rings, .regs, .logs, .pm, .counters, .out] s (judged m s) :=
  upd_pm rfl (((ownSetting_touches m _).mono rfl).before (((noteShort_touches m _).mono rfl).before fallen_touches))

theorem fallen_cap : capForce (rampFalls (measure m s)) = capForce s :=
  capForce_congr (by rw [rampFalls_pm, measure_pm]) (by rw [rampFalls_pm, measure_pm]) (by rw [rampFalls_pm, measure_pm])
    (fallen_touches .clk (by decide)) (fallen_touches .fw (by decide))

theorem noted_pm : (noteShort m (rampFalls (measure m s))).pm = { s.pm with
    p10us := m.p10us, p1ms := m.p1ms, p5ms := m.p5ms, pMin := m.pMin, tctl := (tCtl s).getD 0, noPlausible := nonePlausible s
    excursions := hotSensors (measured m s), qRamp := (rampFalls (measure m s)).pm.qRamp
    capShort := decide (10 * capForce s < m.pMin), brakeShort := s.pm.braked && decide (5 * s.pm.cap < m.pMin) } := by
  rw [noteShort_pm, fallen_cap, rampFalls_pm, measure_pm]

theorem judged_energy (wf : Tab.wf 0 s.counters = true) :
    counter (judged m s) 0x0601 0 = counterAdd 0x0601 (counter s 0x0601 0) m.energy := by
  have owned : SameCounter 0x0601 0 (noteShort m (rampFalls (measure m s))) (judged m s) :=
    Touches.sameCounter (bs := [.pm]) (upd_pm rfl (ownSetting_touches m _)) (by decide)
  exact owned.trans ((noteShort_counter (by decide)).trans
    (((rampFalls_touches _).sameCounter (by decide)).trans (measure_energy wf)))

theorem judged_pm : (judged m s).pm.tctl = (tCtl s).getD 0 ∧ (judged m s).pm.p10us = m.p10us ∧
    (judged m s).pm.p1ms = m.p1ms ∧ (judged m s).pm.p5ms = m.p5ms ∧ (judged m s).pm.pMin = m.pMin ∧
    (judged m s).pm.capShort = decide (10 * capForce s < m.pMin) ∧ (judged m s).pm.qTh = s.pm.qTh ∧
    (judged m s).pm.braked = s.pm.braked := by
  have kept := ruled_keeps (m := m) (s := noteShort m (rampFalls (measure m s)))
  rw [noted_pm] at kept
  exact kept

theorem judged_own_slowest (cause : decide (10 * capForce s < m.pMin) = true ∨ nonePlausible s = true ∨
    1648 < (tCtl s).getD 0) : (judged m s).pm.own = slowest :=
  ruled_own_slowest (by rw [noted_pm]; exact cause)

/-! ### Bringing a setting into force (R525, R537) -/

/-- What a control period has measured and judged. -/
structure Pm.SameLoop (p q : Pm) : Prop where
  tctl : q.tctl = p.tctl
  p10us : q.p10us = p.p10us
  p1ms : q.p1ms = p.p1ms
  p5ms : q.p5ms = p.p5ms
  pMin : q.pMin = p.pMin
  capShort : q.capShort = p.capShort
  own : q.own = p.own
  qTh : q.qTh = p.qTh

theorem Pm.SameLoop.refl (p : Pm) : p.SameLoop p := ⟨rfl, rfl, rfl, rfl, rfl, rfl, rfl, rfl⟩

/-- The request to the group, the group's setting and the cause of a unilateral setting are no part of the loop. -/
theorem Pm.SameLoop.requested {p q : Pm} {a : BitVec 9} {b : Nat} {c : BitVec 9} {d : Option (BitVec 9)} {e : Bool}
    (h : p.SameLoop q) : p.SameLoop { q with lastTreq := a, treqFrame := b, group := c, cause := d, alone := e } :=
  ⟨h.tctl, h.p10us, h.p1ms, h.p5ms, h.pMin, h.capShort, h.own, h.qTh⟩

section
variable {p : Pm}

theorem putSetting_pm {x : BitVec 9} : (putSetting x s).pm = s.pm := (putSetting_touches x s).pm_eq (by decide)

@[simp] theorem settingAhead_putSetting (x : BitVec 9) (s : State) : settingAhead (putSetting x s) = x := by
  rw [putSetting]
  split
  next ahead => exact ahead
  next => rfl

theorem takeRequest_loop {k : Nat} {x : BitVec 9} (h : p.SameLoop s.pm) : p.SameLoop (takeRequest k x s).pm := by
  unfold takeRequest
  dsimp only
  split
  · exact h
  · rw [foldl_pm fun u c => ?_]
    · exact h.requested
    · split
      · rfl
      · exact (sendCtrl_touches _ _ _).pm_eq (by decide)

theorem requestSetting_loop {x : BitVec 9} (h : p.SameLoop s.pm) : p.SameLoop (requestSetting x s).pm := by
  unfold requestSetting
  dsimp only
  split
  · exact takeRequest_loop h.requested
  · split
    · exact h.requested
    · rw [(sendCtrl_touches _ _ _).pm_eq (by decide)]
      exact h.requested

theorem applyOwn_loop (h : p.SameLoop s.pm) : p.SameLoop (applyOwn m s).pm := by
  have asked : p.SameLoop (if s.pm.own ≠ s.pm.lastTreq ∧ s.pm.treqFrame ≠ frameNumber s then
      requestSetting s.pm.own s else s).pm := by
    split
    · exact requestSetting_loop h
    · exact h
  unfold applyOwn
  dsimp only
  split
  · rw [putSetting_pm]
    exact h.requested
  · split
    · split
      · rw [putSetting_pm]
        exact asked.requested
      · exact asked.requested
    · rw [putSetting_pm]
      exact asked.requested

end

/-- Without a linked policy and unbraked, the own setting comes into force. -/
theorem applyOwn_local (unlinked : linkedOn s = false) (unbraked : s.pm.braked = false) :
    settingAhead (applyOwn m s) = s.pm.own := by
  unfold applyOwn
  rw [unlinked, unbraked]
  exact settingAhead_putSetting _ _

theorem linkedOn_congr (lat : t.lat = s.lat) (fw : t.fw = s.fw) : linkedOn t = linkedOn s := by
  unfold linkedOn
  rw [lat, fw]

/-- The end of a control period: the woken partitions leave power management and the clock as the setting left them. -/
theorem period_ahead (unlinked : linkedOn s = false) (unbraked : s.pm.braked = false) :
    settingAhead (wakeTolerance (applyOwn m (judged m s))) = (judged m s).pm.own := by
  have clk : (wakeTolerance (applyOwn m (judged m s))).clk = (applyOwn m (judged m s)).clk :=
    wakeTolerance_touches _ .clk (by decide)
  obtain ⟨-, -, -, -, -, -, -, braked⟩ := judged_pm (m := m) (s := s)
  rw [settingAhead, clk]
  exact applyOwn_local
    ((linkedOn_congr (judged_touches .lat (by decide)) (judged_touches .fw (by decide))).trans unlinked)
    (braked.trans unbraked)

theorem period_energy (wf : Tab.wf 0 s.counters = true) :
    counter (wakeTolerance (applyOwn m (judged m s))) 0x0601 0 = counterAdd 0x0601 (counter s 0x0601 0) m.energy :=
  ((wakeTolerance_touches _).sameCounter (by decide)).trans
    (((applyOwn_touches m _).sameCounter (by decide)).trans (judged_energy wf))

theorem period_loop : (judged m s).pm.SameLoop (wakeTolerance (applyOwn m (judged m s))).pm := by
  rw [(wakeTolerance_touches _).pm_eq (by decide)]
  exact applyOwn_loop (.refl _)

/-- A control period of running PM firmware. -/
theorem pmControlPeriod_left (runs : pmRuns s = true) :
    Does (.pmControlPeriod m) s [.clk, .parts, .ctl, .hbm, .rings, .regs, .logs, .pm, .lat, .counters, .out] fun t =>
      t.pm.tctl = (tCtl s).getD 0 ∧ t.pm.p10us = m.p10us ∧ t.pm.p1ms = m.p1ms ∧ t.pm.p5ms = m.p5ms ∧ t.pm.pMin = m.pMin ∧
      t.pm.capShort = decide (10 * capForce s < m.pMin) ∧
      (t.pm.capShort = true ∨ nonePlausible s = true ∨ 1648 < (tCtl s).getD 0 → t.pm.own = slowest) ∧
      t.pm.qTh = s.pm.qTh ∧ (linkedOn s = false → s.pm.braked = false → settingAhead t = t.pm.own) ∧
      (s.HostWf → counter t 0x0601 0 = counterAdd 0x0601 (counter s 0x0601 0) m.energy) := by
  refine .of_next (execPmControlPeriod_judged runs) (execPmControlPeriod_touches m s) ?_
  have loop := period_loop (m := m) (s := s)
  have ahead := period_ahead (m := m) (s := s)
  have energy := period_energy (m := m) (s := s)
  obtain ⟨tctl, p10us, p1ms, p5ms, pMin, capShort, qTh, -⟩ := judged_pm (m := m) (s := s)
  generalize wakeTolerance (applyOwn m (judged m s)) = t at loop ahead energy ⊢
  refine ⟨loop.tctl.trans tctl, loop.p10us.trans p10us, loop.p1ms.trans p1ms, loop.p5ms.trans p5ms, loop.pMin.trans pMin,
    loop.capShort.trans capShort, fun cause => ?_, loop.qTh.trans qTh,
    fun unlinked unbraked => (ahead unlinked unbraked).trans loop.own.symm, fun ⟨_, _, _, counters⟩ => energy counters⟩
  rw [loop.capShort, capShort] at cause
  exact loop.own.trans (judged_own_slowest cause)

/-! ### Thermal periods (R527, R528) -/

theorem rampFalls_qRamp : (rampFalls s).pm.qRamp =
    if s.pm.rose = false ∧ slowerThan s.clk.setting (selectSetting s.pm.qRamp) = true then settingUnits s.clk.setting
    else s.pm.qRamp := by
  unfold rampFalls
  dsimp only
  split <;> rename_i falls
  · rw [if_pos (by simpa using falls)]
  · rw [if_neg (by simpa using falls)]

theorem pmThermalPeriod_unbraked (runs : pmRuns s = true) (unbraked : s.pm.braked = false) :
    execPmThermalPeriod s = .next { s with pm := { s.pm with
      qTh := thermalRate s.pm.qTh s.pm.tctl
      qRamp := if s.pm.brakeEnd = 0 ∨ s.pm.brakeEnd + 100000000 ≤ s.clk.wallPs then min 65536 ((rampFalls s).pm.qRamp + 4096)
        else (rampFalls s).pm.qRamp
      rose := s.pm.rose || decide (s.pm.brakeEnd = 0 ∨ s.pm.brakeEnd + 100000000 ≤ s.clk.wallPs) } } := by
  unfold execPmThermalPeriod
  simp only [runs, unbraked, Bool.not_true, Bool.not_false, Bool.true_and, Bool.false_eq_true, if_false, Bool.or_eq_true,
    beq_eq_decide, decide_eq_true_eq, Bool.decide_or]

theorem pmThermalPeriod_braked (runs : pmRuns s = true) (braked : s.pm.braked = true) :
    execPmThermalPeriod s = .next { s with pm := { s.pm with qRamp := (rampFalls s).pm.qRamp } } := by
  unfold execPmThermalPeriod
  simp only [runs, braked, Bool.not_true, Bool.false_and, Bool.false_eq_true, if_false, if_true, Bool.or_false]

/-! ### The brake (R533 to R535) -/

/-- The pin is asserted and PM firmware's hardware holds the brake. -/
def braking (s : State) : State := { s with pins := { s.pins with pwrbrk := true }, pm := { s.pm with braked := true } }

/-- The slower of the brake setting and the setting ahead. -/
def slowed (s : State) : State := putSetting (slower s.pm.brakeReg (settingAhead s)) s

theorem slowed_ahead : settingAhead (slowed s) = slower s.pm.brakeReg (settingAhead s) := settingAhead_putSetting _ _

theorem slowed_touches : Touches [.clk] s (slowed s) := putSetting_touches _ _

theorem settingAhead_congr (clk : t.clk = s.clk) : settingAhead t = settingAhead s := by
  rw [settingAhead, clk, settingAhead]

/-- Running PM firmware counts the assertion and raises its attention (R535). -/
def brakeNoted (s : State) : State := if pmRuns s then countBrake (braking s) else braking s

theorem brakeNoted_touches : Touches [.rings, .regs, .pm, .counters, .out] (braking s) (brakeNoted s) :=
  touches_ite (countBrake_touches _) (.refl _ _)

theorem brakeNoted_linkedOn : linkedOn (brakeNoted s) = linkedOn s :=
  linkedOn_congr (brakeNoted_touches .lat (by decide)) (brakeNoted_touches .fw (by decide))

theorem pwrbrkAssert_noted (low : s.pins.pwrbrk = false) (powered : s.boot.pm ≠ .off) (clocked : s.clk.stopped = false) :
    execPwrbrkAssert s = .next (slowed (if linkedOn (brakeNoted s) then goAlone { brakeNoted s with
      pm := { (brakeNoted s).pm with cause := some (brakeNoted s).pm.brakeReg } } else brakeNoted s)) := by
  unfold execPwrbrkAssert
  rw [if_neg (by simp [low, powered])]
  dsimp only
  rw [if_neg (by simp [clocked])]
  rfl

theorem pwrbrkAssert_unlinked (low : s.pins.pwrbrk = false) (powered : s.boot.pm ≠ .off) (clocked : s.clk.stopped = false)
    (unlinked : linkedOn s = false) : execPwrbrkAssert s = .next (slowed (brakeNoted s)) := by
  rw [pwrbrkAssert_noted low powered clocked, brakeNoted_linkedOn, unlinked]
  rfl

theorem pwrbrkAssert_linked (low : s.pins.pwrbrk = false) (powered : s.boot.pm ≠ .off) (clocked : s.clk.stopped = false)
    (linked : linkedOn s = true) : execPwrbrkAssert s = .next (slowed (goAlone { brakeNoted s with
      pm := { (brakeNoted s).pm with cause := some (brakeNoted s).pm.brakeReg } })) := by
  rw [pwrbrkAssert_noted low powered clocked, brakeNoted_linkedOn, linked]
  rfl

theorem countBrake_pm : (countBrake s).pm = { s.pm with counted := true, brakeStart := s.clk.wallPs } := by
  unfold countBrake
  rw [(pwrAttention_touches _ _).pm_eq (by decide)]
  rfl

theorem countBrake_counter (wf : Tab.wf 0 s.counters = true) :
    counter (countBrake s) 0x0602 0 = counterAdd 0x0602 (counter s 0x0602 0) 1 :=
  ((pwrAttention_touches _ _).sameCounter (by decide)).trans (counter_countBy_of_same rfl wf)

theorem pwrAttention_attn {b : Nat} : (pwrAttention b s).regs.pwrAttn = s.regs.pwrAttn ||| BitVec.twoPow 32 b := by
  unfold pwrAttention
  dsimp only
  split
  · exact congrArg Regs.pwrAttn raiseVector_regs
  · rfl

theorem countBrake_attn : (countBrake s).regs.pwrAttn = s.regs.pwrAttn ||| 1 := pwrAttention_attn

theorem brakeNoted_runs (runs : pmRuns s = true) : brakeNoted s = countBrake (braking s) := if_pos runs

theorem brakeNoted_rests (rests : pmRuns s = false) : brakeNoted s = braking s := if_neg (by simp [rests])

theorem braking_touches : Touches [.pins, .pm] s (braking s) := upd_pins_pm rfl (.refl _ _)

/-- PWRBRK# with running PM firmware and no linked policy. -/
theorem pwrbrkAssert_runs (low : s.pins.pwrbrk = false) (powered : s.boot.pm ≠ .off) (clocked : s.clk.stopped = false)
    (runs : pmRuns s = true) (unlinked : linkedOn s = false) :
    Does .pwrbrkAssert s [.clk, .pins, .rings, .regs, .pm, .counters, .out] fun t =>
      t.pins = { s.pins with pwrbrk := true } ∧
      t.pm = { s.pm with braked := true, counted := true, brakeStart := s.clk.wallPs } ∧
      settingAhead t = slower s.pm.brakeReg (settingAhead s) ∧ t.regs.pwrAttn = s.regs.pwrAttn ||| 1 ∧
      (s.HostWf → counter t 0x0602 0 = counterAdd 0x0602 (counter s 0x0602 0) 1) := by
  have frame : Touches [.clk, .rings, .regs, .pm, .counters, .out] (braking s) (slowed (countBrake (braking s))) :=
    (slowed_touches.mono rfl).before ((countBrake_touches _).mono rfl)
  refine ⟨slowed (countBrake (braking s)), (pwrbrkAssert_unlinked low powered clocked unlinked).trans
    (congrArg _ (congrArg slowed (brakeNoted_runs runs))), ⟨frame .pins (by decide), ?_, ?_, ?_, fun host => ?_⟩,
    (frame.mono rfl).before (braking_touches.mono rfl)⟩
  · rw [slowed_touches.pm_eq (by decide), countBrake_pm]
    rfl
  · rw [slowed_ahead, countBrake_pm, settingAhead_congr (s := s) (countBrake_touches (braking s) .clk (by decide))]
    rfl
  · rw [(slowed_touches (s := countBrake (braking s)) .regs (by decide) :), countBrake_attn]
    rfl
  · obtain ⟨-, -, -, counters⟩ := host
    exact (slowed_touches.sameCounter (by decide)).trans (countBrake_counter (s := braking s) counters)

/-- With a linked policy the module also leaves the group's setting (R538). -/
theorem pwrbrkAssert_alone (low : s.pins.pwrbrk = false) (powered : s.boot.pm ≠ .off) (clocked : s.clk.stopped = false)
    (runs : pmRuns s = true) (linked : linkedOn s = true) :
    Does .pwrbrkAssert s [.clk, .pins, .rings, .regs, .pm, .lat, .counters, .out] fun t =>
      t.pins = { s.pins with pwrbrk := true } ∧
      t.pm = { s.pm with
        braked := true, counted := true, brakeStart := s.clk.wallPs, cause := some s.pm.brakeReg, alone := true } ∧
      settingAhead t = slower s.pm.brakeReg (settingAhead s) ∧
      t.lat = { s.lat with locked := false, unlockedNote := true } := by
  have run := pwrbrkAssert_linked low powered clocked linked
  rw [brakeNoted_runs runs] at run
  have counted := countBrake_touches (braking s)
  have pm : (countBrake (braking s)).pm = _ := countBrake_pm
  refine .of_next run (execPwrbrkAssert_touches s) ⟨?_, ?_, ?_, ?_⟩
  · exact (slowed_touches .pins (by decide)).trans (counted .pins (by decide))
  · rw [slowed_touches.pm_eq (by decide), pm]
    rfl
  · rw [slowed_ahead, pm]
    exact congrArg (slower s.pm.brakeReg) (settingAhead_congr (counted .clk (by decide)))
  · have lat : (countBrake (braking s)).lat = s.lat := counted .lat (by decide)
    refine (slowed_touches .lat (by decide)).trans ?_
    rw [goAlone, lat]

/-- Without PM firmware the brake's hardware acts alone. -/
theorem pwrbrkAssert_rests (low : s.pins.pwrbrk = false) (powered : s.boot.pm ≠ .off) (clocked : s.clk.stopped = false)
    (rests : pmRuns s = false) (unlinked : linkedOn s = false) :
    Does .pwrbrkAssert s [.clk, .pins, .pm] fun t =>
      t.pins = { s.pins with pwrbrk := true } ∧ t.pm = { s.pm with braked := true } ∧
      settingAhead t = slower s.pm.brakeReg (settingAhead s) := by
  refine ⟨slowed (braking s), (pwrbrkAssert_unlinked low powered clocked unlinked).trans
    (congrArg _ (congrArg slowed (brakeNoted_rests rests))),
    ⟨slowed_touches (s := braking s) .pins (by decide), slowed_touches (s := braking s) .pm (by decide), ?_⟩,
    (slowed_touches.mono rfl).before (braking_touches.mono rfl)⟩
  exact slowed_ahead (s := braking s)

/-- While the clocks are stopped only the pin's level is kept. -/
theorem pwrbrkAssert_stopped (low : s.pins.pwrbrk = false) (powered : s.boot.pm ≠ .off) (stopped : s.clk.stopped = true) :
    Does .pwrbrkAssert s [.pins] fun t => t.pins = { s.pins with pwrbrk := true } := by
  refine ⟨{ s with pins := { s.pins with pwrbrk := true } }, ?_, rfl, upd_pins rfl (.refl _ _)⟩
  change execPwrbrkAssert s = _
  unfold execPwrbrkAssert
  rw [if_neg (by simp [low, powered])]
  exact if_pos stopped

theorem closeBrake_uncounted (uncounted : s.pm.counted = false) : closeBrake s = s := if_pos (by simp [uncounted])

theorem closeBrake_counted (counted : s.pm.counted = true) : closeBrake s =
    countBy 0x0603 0 ((s.clk.wallPs - s.pm.brakeStart + s.pm.brakeRest) / 1000000) { s with
      pm := { s.pm with counted := false, brakeRest := (s.clk.wallPs - s.pm.brakeStart + s.pm.brakeRest) % 1000000 } } :=
  if_neg (by simp [counted])

theorem pwrbrkDeassert_closed (asserted : s.pins.pwrbrk = true) : execPwrbrkDeassert s = .next { closeBrake s with
    pins := { (closeBrake s).pins with pwrbrk := false }
    pm := { (closeBrake s).pm with braked := false, brakeEnd := s.clk.wallPs, brakeShort := false } } :=
  if_neg (by simp [asserted])

/-- The end of a counted assertion adds its whole microseconds (R653). -/
theorem pwrbrkDeassert_counted (asserted : s.pins.pwrbrk = true) (counted : s.pm.counted = true) :
    Does .pwrbrkDeassert s [.pins, .pm, .counters] fun t =>
      t.pins = { s.pins with pwrbrk := false } ∧
      t.pm = { s.pm with
        braked := false, counted := false, brakeEnd := s.clk.wallPs
        brakeRest := (s.clk.wallPs - s.pm.brakeStart + s.pm.brakeRest) % 1000000, brakeShort := false } ∧
      (s.HostWf → counter t 0x0603 0 =
        counterAdd 0x0603 (counter s 0x0603 0) ((s.clk.wallPs - s.pm.brakeStart + s.pm.brakeRest) / 1000000)) := by
  have run := pwrbrkDeassert_closed asserted
  rw [closeBrake_counted counted] at run
  exact .of_next run (execPwrbrkDeassert_touches s)
    ⟨rfl, rfl, fun ⟨_, _, _, counters⟩ => counter_countBy_of_same (s := s) rfl counters⟩

theorem pwrbrkDeassert_uncounted (asserted : s.pins.pwrbrk = true) (uncounted : s.pm.counted = false) :
    Does .pwrbrkDeassert s [.pins, .pm] fun t =>
      t.pins = { s.pins with pwrbrk := false } ∧
      t.pm = { s.pm with braked := false, brakeEnd := s.clk.wallPs, brakeShort := false } := by
  have run := pwrbrkDeassert_closed asserted
  rw [closeBrake_uncounted uncounted] at run
  exact ⟨_, run, ⟨rfl, rfl⟩, upd_pins_pm rfl (.refl _ _)⟩

/-! ### Tile regulators (R519) -/

theorem blockFault_room {reason sev unit src : Nat} {detail : Option Nat} (room : s.ctl.faultQ.length < 256) :
    blockFault reason sev unit detail src s =
      { s with ctl := { s.ctl with faultQ := s.ctl.faultQ ++ [⟨reason, sev, unit, detail, src, 0⟩] } } :=
  if_pos room

theorem tileOvercurrent_reported {n : Nat} (lt : n < 16) (on : (tileAt s n).vddt = true)
    (first : Tab.get 0 s.pm.overLast n = 0) (room : s.ctl.faultQ.length < 256) (host : s.HostWf) :
    Does (.tileOvercurrent n) s [.ctl, .pm, .counters] fun t =>
      counter t 0x0604 n = counterAdd 0x0604 (counter s 0x0604 n) 1 ∧
      t.ctl.faultQ = s.ctl.faultQ ++ [(⟨0x1007, 0, n, none, pmEndpoint, 0⟩ : FaultPkt)] ∧
      t.pm = { s.pm with overLast := Tab.set 0 s.pm.overLast n (s.clk.wallPs + 1) } := by
  obtain ⟨-, -, -, counters⟩ := host
  have run : execTileOvercurrent n s = .next (blockFault 0x1007 0 n none pmEndpoint { countUp 0x0604 n s with
      pm := { s.pm with overLast := Tab.set 0 s.pm.overLast n (s.clk.wallPs + 1) } }) := by
    unfold execTileOvercurrent
    rw [if_neg (by simp [on, lt])]
    dsimp only
    rw [if_pos (Or.inl first)]
    rfl
  rw [blockFault_room (by exact room)] at run
  exact .of_next run (execTileOvercurrent_touches n s) ⟨counter_countBy_of_same (s := s) rfl counters, rfl, rfl⟩

theorem tileOvercurrent_again {n : Nat} (lt : n < 16) (on : (tileAt s n).vddt = true)
    (reported : Tab.get 0 s.pm.overLast n ≠ 0) (recent : s.clk.wallPs + 1 < Tab.get 0 s.pm.overLast n + 1000000000000)
    (host : s.HostWf) :
    Does (.tileOvercurrent n) s [.counters] fun t =>
      counter t 0x0604 n = counterAdd 0x0604 (counter s 0x0604 n) 1 := by
  obtain ⟨-, -, -, counters⟩ := host
  have run : execTileOvercurrent n s = .next (countUp 0x0604 n s) := by
    unfold execTileOvercurrent
    rw [if_neg (by simp [on, lt])]
    dsimp only
    rw [if_neg (by omega)]
  exact ⟨_, run, counter_countBy_of_same rfl counters, countUp_touches _ _ _⟩

/-- A tile without its supply, the given clusters of it fused at the next merge. -/
def tileOff (n : Nat) (cells : List Nat) (s : State) : State :=
  let s1 := updTile n (fun x => { x with step := .off, trst := false, vddt := false, vddtReached := false }) s
  { s1 with
    fmap := { s1.fmap with
      pendCluster := Tab.updAll 2 s1.fmap.pendCluster cells fun _ _ => 0 }
    pm := { s1.pm with shut := n :: s1.pm.shut.filter fun t => t != n } }

section
variable {n : Nat} {cells : List Nat}

/-- The packet and the replacement requests that follow leave tiles, power management and fault map alone. -/
theorem tileOff_reported : Touches [.ctl, .rings, .regs, .logs, .counters, .out] (tileOff n cells s)
    (evaluateRequests (blockFault 0x1008 5 n none pmEndpoint (tileOff n cells s))) :=
  ((evaluateRequests_touches _).mono rfl).before ((blockFault_touches _ _ _ _ _ _).mono rfl)

theorem tileAt_tileOff (wf : Tab.wf Tile.reset s.tiles.tile = true) : tileAt (tileOff n cells s) n =
    { tileAt s n with step := .off, trst := false, vddt := false, vddtReached := false } :=
  tileAt_updTile n _ s wf

theorem tileOff_fuses {c : Nat} (mem : c ∈ cells) : Tab.get 2 (tileOff n cells s).fmap.pendCluster c = 0 :=
  Tab.get_updAll_const (by decide) mem

theorem tileOff_shut : (tileOff n cells s).pm.shut.contains n = true :=
  List.contains_iff_mem.mpr List.mem_cons_self

/-- The shut tile, whatever clusters it has. -/
theorem tileShut_left (wf : Tab.wf Tile.reset s.tiles.tile = true)
    (reported : t = evaluateRequests (blockFault 0x1008 5 n none pmEndpoint (tileOff n cells s))) :
    tileAt t n = { tileAt s n with step := .off, trst := false, vddt := false, vddtReached := false } ∧
      (∀ c ∈ cells, Tab.get 2 t.fmap.pendCluster c = 0) ∧ t.pm.shut.contains n = true ∧
      t.fmap.deadRouters = s.fmap.deadRouters := by
  subst reported
  have after := tileOff_reported (n := n) (cells := cells) (s := s)
  have fmap := after .fmap (by decide)
  have routers : (tileOff n cells s).fmap.deadRouters = s.fmap.deadRouters := rfl
  refine ⟨(after.tileAt_eq (by decide)).trans (tileAt_tileOff wf), fun c mem => ?_, ?_,
    (congrArg FaultMap.deadRouters fmap :).trans routers⟩
  · exact (congrArg (fun f : FaultMap => Tab.get 2 f.pendCluster c) fmap).trans (tileOff_fuses mem)
  · rw [after.pm_eq (by decide)]
    exact tileOff_shut

/-- The routers of a tile's 1,024 clusters. -/
def tileRouters (n : Nat) : List Nat := (rangeFrom 0 1024).map (cellRouter n)

theorem cellRouter_mem {c : Nat} (cell : c < 1024) : cellRouter n c ∈ tileRouters n :=
  List.mem_map_of_mem (by rw [rangeFrom_eq_range']; simpa using cell)

theorem tileShutdown_off (lt : n < 16) (on : (tileAt s n).vddt = true) : execTileShutdown n s =
    .next (evaluateRequests (blockFault 0x1008 5 n none pmEndpoint (tileOff n (tileRouters n) s))) :=
  if_neg (by simp [on, lt])

theorem tileShutdown_left (lt : n < 16) (on : (tileAt s n).vddt = true) (wf : Tab.wf Tile.reset s.tiles.tile = true) :
    Does (.tileShutdown n) s [.ctl, .fmap, .tiles, .rings, .regs, .logs, .pm, .counters, .out] fun t =>
      tileAt t n = { tileAt s n with step := .off, trst := false, vddt := false, vddtReached := false } ∧
      (∀ c, c < 1024 → Tab.get 2 t.fmap.pendCluster (cellRouter n c) = 0) ∧ t.pm.shut.contains n = true ∧
      t.fmap.deadRouters = s.fmap.deadRouters := by
  obtain ⟨tile, fused, shut, routers⟩ := tileShut_left (n := n) (cells := tileRouters n) wf rfl
  exact .of_next (tileShutdown_off lt on) (execTileShutdown_touches n s)
    ⟨tile, fun c cell => fused _ (cellRouter_mem cell), shut, routers⟩

end

/-- Settles O50: a control period stage by stage, the thermal period, the brake and the tile regulators. -/
theorem powerControl : Obligations.PowerControl := by
  unfold Obligations.PowerControl
  refine ⟨fun m s runs => pmControlPeriod_left runs, fun m s rests => ?_, fun s runs unbraked => ?_, fun s runs braked => ?_,
    fun s low powered clocked runs unlinked => pwrbrkAssert_runs low powered clocked runs unlinked,
    fun s low powered clocked runs linked => pwrbrkAssert_alone low powered clocked runs linked,
    fun s low powered clocked rests unlinked => pwrbrkAssert_rests low powered clocked rests unlinked,
    fun s low powered stopped => pwrbrkAssert_stopped low powered stopped, fun s asserted => ?_,
    fun s asserted counted => pwrbrkDeassert_counted asserted counted,
    fun s asserted uncounted => pwrbrkDeassert_uncounted asserted uncounted,
    fun n s lt on first room host => tileOvercurrent_reported lt on first room host,
    fun n s lt on reported recent host => tileOvercurrent_again lt on reported recent host,
    fun n s lt on wf _ => tileShutdown_left lt on wf, fun n s off => ?_⟩
  · exact ⟨s, if_pos (by simp [rests]), rfl, .refl _ _⟩
  · rw [← rampFalls_qRamp]
    exact .of_next (pmThermalPeriod_unbraked runs unbraked) (execPmThermalPeriod_touches s) rfl
  · rw [← rampFalls_qRamp]
    exact .of_next (pmThermalPeriod_braked runs braked) (execPmThermalPeriod_touches s) rfl
  · exact ⟨s, if_pos (Or.inl asserted), rfl, .refl _ _⟩
  · exact ⟨s, if_pos (Or.inr (by simp [off])), rfl, .refl _ _⟩

end Sys2Proof.Machine
end
